-- ==== Sys2Proof/Word.lean ====
section
/-! DEFINITION. The plain words of the module: lines, line addresses, and the sparse table every store of the model is.
A field is numbered from bit 0 at the least significant bit (R11). -/

namespace Sys2Proof

/-- A byte. -/
abbrev Byte := BitVec 8
/-- A 32-bit register word (R6). -/
abbrev Word := BitVec 32
/-- The 64 B of a line (R76), byte 0 in bits 7..0 (R11, R136). -/
abbrev Line := BitVec 512
/-- A line address, FGA[55:6] (R76). -/
abbrev LineAddr := BitVec 50
/-- A fabric global address (R75). -/
abbrev Fga := BitVec 56
/-- A device physical address of one head (R75). -/
abbrev Dpa := BitVec 44
/-- A logical media page number (R75, R90). -/
abbrev Lmp := BitVec 32
/-- A physical page address (R212). -/
abbrev Ppa := BitVec 32
/-- A global segment number (R76). -/
abbrev Gsn := BitVec 26
/-- A device number of the fabric (R83, R355). -/
abbrev Dev := BitVec 12
/-- A status code (00_scope.md, "Numbers, units and notation"). -/
abbrev Status := BitVec 8

/-- A module sensor's reading, °C, signed; 0x200 unreadable. Its low byte is what the registers show (R562, R574, log 50). -/
abbrev Reading := BitVec 10

/-- A sparse table: key and value pairs. The canonical form (`Tab.wf`) keeps the keys strictly rising and lists no
entry equal to what an unlisted key reads as, so that equal tables are equal data. -/
abbrev Tab (α : Type) := List (Nat × α)

end Sys2Proof
end

