-- ==== Sys2Proof/Syntax.lean ====
section
/-! DEFINITION. The commands of the module: one constructor per row of the table of operations and events. The table
gives no operands; the operands here are the instance, the address, value, length or message fields that the row's rule
names, and, for a row that reports an outcome of the outside world, that outcome (log 5). -/

namespace Sys2Proof

/-- Who made a register access or a command (R450, R480, R494). -/
inductive Requester where
  /-- the rack manager on I3C -/
  | i3c
  /-- a host through the register window of its head -/
  | head (h : Fin 64)
  /-- a host through the mailbox of its head -/
  | mailbox (h : Fin 64)
  /-- the debug class (R450, R453) -/
  | debug
  /-- a service core or another internal requester (R452) -/
  | internal
deriving DecidableEq, Repr, Inhabited

/-- What an SPD hub reports of a DIMM (R35, R182, R202). -/
structure Spd where
  /-- a DDR5 RDIMM with 2×40-bit ECC subchannels and an SPD5 hub, needing none of the features of R182 -/
  rdimm : Bool
  /-- capacity in GiB -/
  gib : Byte
  /-- speed grade: 0 DDR5-4800, 1 5600, 2 6400, 3 8000; other values are other grades -/
  grade : Byte
  /-- upper operating limit, °C, signed -/
  hi : Byte
  /-- lower operating limit, °C, signed -/
  lo : Byte
  /-- sensor reading, °C, signed; 0x80 unreadable -/
  now : Byte
deriving DecidableEq, Repr, Inhabited

/-- How the ladder of R228 ended for one crumb read, steps 1 to 3. -/
inductive CrumbOutcome where
  /-- step 1 decoded with that many bit corrections and these four sensed reference codes (R225) -/
  | step1 (corrected : Nat) (refs : List Nat)
  /-- the soft tracked read decoded, with these sensed reference codes -/
  | step2 (refs : List Nat)
  | step3
  /-- steps 1 to 3 failed -/
  | failed
deriving DecidableEq, Repr, Inhabited

/-- The operation whose transfer on a channel's bus fails its CRC: a crumb read, a stripe's program on a die of the channel, or an erase
(R216). -/
inductive BusOp where
  | read (ppa : Ppa) (crumb : Fin 8)
  | program (stripe : Nat) (die : Fin 256)
  | erase (block : Ppa)
deriving DecidableEq, Repr, Inhabited

/-- A transfer on a channel's bus (R216). -/
structure BusTransfer where
  ch : Fin 64
  op : BusOp
deriving DecidableEq, Repr, Inhabited

/-- Which wait ran out: one of R73, that of a store held in its lane (R159), or a slice's acceptance of requests (R514). -/
inductive WaitKind where
  | miss | release | strict | lane | sliceAccept
deriving DecidableEq, Repr, Inhabited

/-- An SRAM error that a read finds in the line cache: none, in the data of the way it hits, or in the tags or the age word of
its set (R109). -/
inductive LcErr where
  | none | data | tags
deriving DecidableEq, Repr, Inhabited

/-- The tag of a host read, and the SRAM error that its lookup meets (R50, R109, log 70). -/
structure ReadTag where
  tag : BitVec 16
  sram : LcErr
deriving DecidableEq, Repr, Inhabited

/-- A fill on its way into a slice: its line, and how often it is replayed in the pipeline (R113, R141). -/
structure LineFill where
  line : LineAddr
  replays : Fin 3
deriving DecidableEq, Repr, Inhabited

/-- A round over the 16 RDIMM sockets: the readings, and the sockets whose RDIMM has been removed (R38, R202, log 80). -/
structure DimmRound where
  temps : List Byte
  gone : BitVec 16
deriving DecidableEq, Repr, Inhabited

/-- How a head's link trains: the rate, whether the lanes are reversed, and the inverted lanes (R20, R21, R406). -/
structure HeadTraining where
  rate : BitVec 3
  rev : Bool
  inv : Byte
deriving DecidableEq, Repr, Inhabited

/-- A round of the scan ADC: the 40 readings, the rails whose power-good signal has fallen (R543), and the feeds drawn beyond their limit
(R542, R591, log 95). -/
structure AdcRound where
  mv : List (BitVec 20)
  lost : List (Fin 37)
  over_ : List (Fin 16)
deriving DecidableEq, Repr, Inhabited

/-- Where a proofing-buffer error lies (R135): uncorrectable in a lane entry, a merge-store entry or an entry that holds no line, or
corrected (log 70). -/
inductive PbPlace where
  | corrected
  | lane (uid : Nat)
  | merge (line : LineAddr)
  | free
deriving DecidableEq, Repr, Inhabited

/-- A part of the metadata reserve (R198, R204): a page of the map, the version index, the directory set of a page, or the segment
tables. -/
inductive ReserveArea where
  | map (lmp : Lmp) | index | directory (lmp : Lmp) | segments
deriving DecidableEq, Repr, Inhabited

/-- Where a DRAM error lies: a line of the frame that holds page `lmp`, or the metadata reserve (R204). -/
inductive DramPlace where
  | frame (lmp : Lmp) (line : Fin 64)
  | reserve (area : ReserveArea)
deriving DecidableEq, Repr, Inhabited

/-- A DRAM error of R187 and R204. -/
inductive DramErr where
  /-- confined to device `dev` (0–9) of subchannel `sub` (false A, true B) -/
  | device (sub : Bool) (dev : BitVec 4) (at_ : DramPlace)
  /-- three or more symbols, detected -/
  | uncorrectable (at_ : DramPlace)
  /-- three or more symbols, miscorrected -/
  | miscorrected (lmp : Lmp) (line : Fin 64)
  /-- a V12_D rail fault reported by PWR -/
  | rail
deriving DecidableEq, Repr, Inhabited

/-- One step of the checkpoint writer (R262). -/
inductive CkptStep where
  | page (n : BitVec 23)
  | images
deriving DecidableEq, Repr, Inhabited

/-- A training block (R325), with the lane of the port it arrived on and whether it arrived inverted. -/
structure TrainBlock where
  lane : Byte
  rate : Byte
  width : Byte
  role : Byte
  serial : BitVec 64
  eq : Byte
  crc : Byte
  onLane : Fin 8
  inverted : Bool
deriving DecidableEq, Repr, Inhabited

/-- The link header and grains of a flit, its grains 0 to 13 as the receiver's key opens them (R328 to R330). -/
structure Flit where
  seq : BitVec 12
  ack : BitVec 12
  kepoch : Bool
  vc1 : BitVec 2
  esc1 : Bool
  cnt1 : Byte
  vc2 : BitVec 2
  esc2 : Bool
  cnt2 : Byte
  first : BitVec 4
  grains : List (BitVec 128)
  /-- every message of the flit is KEYX (R332) -/
  keyxOnly : Bool
  /-- grain 14, the authentication tag, and the CRC-64, as they arrive (R328, R330) -/
  tag : BitVec 128
  crc : BitVec 64
deriving DecidableEq, Repr, Inhabited

/-- The routing grain of a message that has arrived (R337), with its arrival port. -/
structure Routing where
  port : Fin 512
  esc : Bool
  down : Bool
  hops : BitVec 5
  fwd : Bool
  dst : Dev
  src : Dev
  stream : BitVec 10
  ord : Bool
  tep : Bool
  esq : BitVec 16
  tag : BitVec 16
  epoch : BitVec 16
  status : Status
  xinfo : BitVec 16
deriving DecidableEq, Repr, Inhabited

/-- A line as stored: ciphertext and the side data of R186 [63:0], which is the line tag of R218. -/
structure SLine where
  ct : Line
  unwritten : Bool
  keyRange : BitVec 6
  poison : Bool
  tag : BitVec 56
deriving DecidableEq, Repr, Inhabited

/-- The body of HELLO (R349). -/
structure Hello where
  serial : BitVec 64
  inst : BitVec 24
  prio : Byte
  fabid : Word
  dev : Dev
  conf : Bool
  role : BitVec 3
  port : BitVec 9
deriving DecidableEq, Repr, Inhabited

/-- One neighbour entry of an LSA (R350). -/
structure Neighbour where
  dev : Dev
  ports : Byte
  cap : Byte
deriving DecidableEq, Repr, Inhabited

/-- An LSA fragment (R350), with XINFO[0] of its routing grain (R564). -/
structure LsaFrag where
  serial : BitVec 64
  inst : BitVec 24
  seq : Word
  prio : Byte
  dev : Dev
  conf : Bool
  role : BitVec 3
  memb : Dev
  frag : BitVec 4
  fragsM1 : BitVec 4
  tree : BitVec 16
  nbrs : List Neighbour
  throttled : Bool
deriving DecidableEq, Repr, Inhabited

/-- A row of the global segment table (R365). -/
structure GstRow where
  state : BitVec 3
  mmode : BitVec 2
  owner : Dev
  mirror : Dev
  target : Dev
  epoch : BitVec 16
deriving DecidableEq, Repr, Inhabited

/-- The body of GST_REQ (R401). -/
structure GstReq where
  op : BitVec 4
  gsn : Gsn
  devA : Dev
  devB : Dev
  region : Byte
  keyRange : BitVec 6
  head : BitVec 6
  mmode : BitVec 2
  handle : Word
deriving DecidableEq, Repr, Inhabited

/-- The body of GST_CLAIM (R401). -/
structure Claim where
  gsn : Gsn
  state : BitVec 3
  epoch : BitVec 16
  partner : Dev
  mmode : BitVec 2
  tentative : Bool
deriving DecidableEq, Repr, Inhabited

/-- An HDM decoder as programmed (R405, R409): ways 2^`ways`, granularity 256·2^`gran` B. -/
structure Decoder where
  base : BitVec 64
  size : BitVec 64
  ways : BitVec 3
  gran : BitVec 3
  lock : Bool
deriving DecidableEq, Repr, Inhabited

/-- What R456 judges of a certificate chain; `sigsOk` is the outcome of its ECDSA P-256 checks (log 11). -/
structure CertChain where
  certs : Nat
  bytes : Nat
  sigsOk : Bool
  rootDigest : BitVec 256
  leafSerial : BitVec 64
  leafKey : BitVec 512
deriving DecidableEq, Repr, Inhabited

/-- A key set (R440). -/
structure KeySet where
  k1 : BitVec 256
  k2 : BitVec 256
  kt : BitVec 256
deriving DecidableEq, Repr, Inhabited

/-- The transport an SPDM request came through (R459). -/
inductive SpdmPath where
  | i3c
  | doe (h : Fin 64)
deriving DecidableEq, Repr, Inhabited

/-- An MCTP packet on I3C (R461). -/
structure MctpPacket where
  dst : Byte
  src : Byte
  som : Bool
  eom : Bool
  seq : BitVec 2
  msgTag : BitVec 3
  /-- message type, of the first packet of a message -/
  mtype : BitVec 7
  payload : List Byte
deriving DecidableEq, Repr, Inhabited

/-- A debug-class access (R453, R583). -/
inductive DebugAccess where
  | memRead (fga : Fga)
  | memWrite (fga : Fga) (data : Line)
  | pageRead (addr : BitVec 24)
  | pageWrite (addr : BitVec 24) (w : Word)
deriving DecidableEq, Repr, Inhabited

/-- The commands, in the order of spec/opcode_table.json. -/
inductive Instr where
  /-- CAGE_PRESENCE_ASSERT (R25): A cage presence contact asserts and the module starts the presence debounce wait. -/
  | cagePresenceAssert (cage : Fin 8)
  /-- CAGE_PRESENCE_DEBOUNCE_EXPIRY (R41): The cage presence debounce time expires, presence counts as settled and the identity EEPROM read starts. -/
  | cagePresenceDebounceExpiry (cage : Fin 8)
  /-- CABLE_IDENTITY_READ_DONE (R23): The cable identity EEPROM read completes and its descriptor, breakout and rate are applied before port-block training starts. -/
  | cableIdentityReadDone (cage : Fin 8) (bytes : List Byte)
  /-- CABLE_IDENTITY_READ_TIMEOUT (R41): The cable identity read times out, the cable counts as unidentified and training starts under R24. -/
  | cableIdentityReadTimeout (cage : Fin 8)
  /-- CAGE_PRESENCE_DEASSERT (R25): Presence deasserts, link loss is declared at once on every port of the cage, and a pending insertion or training is abandoned. -/
  | cagePresenceDeassert (cage : Fin 8)
  /-- BLADE_SEAT_CLOSE (R41): BLADE_SEAT stays closed for its debounce time and counts as closed for R32. -/
  | bladeSeatClose
  /-- BLADE_SEAT_OPEN (R33): BLADE_SEAT opens while the module is not Off, and the emergency flush starts at once. -/
  | bladeSeatOpen
  /-- PWR_EN_RISE (R481): A filtered rising edge of PWR_EN permits power-up, subject to R32 and R545. -/
  | pwrEnRise
  /-- PWR_EN_FALL (R481): A filtered falling edge of PWR_EN requests an orderly power-down to Off. -/
  | pwrEnFall
  /-- MRST_N_FALL (R481): A falling edge of MRST_N starts a module reset: the flush of R173, then reset of every domain except AON. -/
  | mrstNFall
  /-- MRST_N_RISE (R482): A rising edge of MRST_N starts start-up once any reset flush has ended, and the ADDR_SEL straps are sampled. -/
  | mrstNRise (straps : BitVec 2)
  /-- PFAIL_N_FALL (R550): The early power-fail warning holds Durable releases, hands every dirty frame to the MTE and raises PFAIL. -/
  | pfailNFall
  /-- SPD_HUB_READ_DONE (R36): A socket's SPD hub read completes and feeds the population decision. -/
  | spdHubReadDone (socket : Fin 16) (spd : Spd)
  /-- SPD_HUB_READ_TIMEOUT (R41): A socket's SPD read times out and the socket counts as empty. -/
  | spdHubReadTimeout (socket : Fin 16)
  /-- HOLDUP_CHARGE_TIMEOUT (R39): The bank does not reach its measurement threshold in time, a hold-up fault is raised and the dirty budget stays zero. -/
  | holdupChargeTimeout
  /-- CXL_MEM_READ (R50): A CXL.mem read is decoded to an FGA, routed by the directory and served from the youngest source of R50. -/
  | cxlMemRead (h : Fin 64) (hpa : BitVec 64) (tag : ReadTag)
  /-- CXL_MEM_WRITE (R129): A CXL.mem write is decoded, routed and appended to or merged into its source's proofing lane. -/
  | cxlMemWrite (h : Fin 64) (hpa : BitVec 64) (tag : BitVec 16) (data : Line) (mask : BitVec 64) (poison : Bool)
  /-- CXL_MEM_ATOMIC (R65): A CXL atomic is decoded and takes its place in its source's lane like a store. -/
  | cxlMemAtomic (h : Fin 64) (hpa : BitVec 64) (tag : BitVec 16) (op : BitVec 4) (size : BitVec 2) (a b : BitVec 128)
  /-- MISS_FULL_WAIT_END (R108): A miss entry frees and the request waiting in S5 proceeds, after which admission resumes. -/
  | missFullWaitEnd (sl : Fin 8)
  /-- TIER_LOOKUP_DONE (R190): The DTC tier directory lookup finishes, returning the line or reporting the page absent. -/
  | tierLookupDone (line : LineAddr)
  /-- MAP_LOOKUP_DONE (R248): The MTE map lookup answers with zeros, poison, or a crumb read at the mapped PPA. -/
  | mapLookupDone (line : LineAddr)
  /-- CRUMB_READ_DONE (R228): A crumb read returns and is decoded, working down the read recovery ladder on failure. -/
  | crumbReadDone (ppa : Ppa) (crumb : Fin 8) (o : CrumbOutcome)
  /-- CRUMB_READ_TIMEOUT (R246): A crumb read times out; the die is reset and the read retried, and after two resets the die is fenced and the read reconstructed. -/
  | crumbReadTimeout (ppa : Ppa) (crumb : Fin 8)
  /-- RECONSTRUCTION_DONE (R231): The 15 reconstruction crumbs have arrived and their XOR stands for the target crumb. -/
  | reconstructionDone (ppa : Ppa) (crumb : Fin 8) (mates : List CrumbOutcome)
  /-- LINE_CHECK_DONE (R435): Crust finishes checking an inbound line and passes it, returns zeros or poison, or fails it. -/
  | lineCheckDone (line : LineAddr)
  /-- SECOND_SOURCE_READ_DONE (R436): The second-source copy of a failed line returns and is passed (TAG_RETRY) or the line is failed (TAG_FAIL). -/
  | secondSourceReadDone (line : LineAddr)
  /-- FILL_ARRIVAL (R113): A fill arrives at the slice, goes to its waiting requests and, where R112 allows, is installed into a chosen victim way. -/
  | fillArrival (line : LineFill)
  /-- LANE_ENTRY_RELEASE (R131): A lane entry whose release conditions have all come to hold is merged into the merge store and made visible to every source. -/
  | laneEntryRelease (sl : Fin 8) (uid : Nat)
  /-- MERGE_DRAIN_AGE_EXPIRY (R134): A merge-store entry has taken no merge for SLC_PB_CFG.AGE and starts to drain to the DTC. -/
  | mergeDrainAgeExpiry (line : LineAddr)
  /-- DTC_LINE_ACCEPT (R192): The DTC accepts a line from Crust into a staging frame, allocating a frame and starting a fill when needed. -/
  | dtcLineAccept (line : LineAddr)
  /-- PAGE_FILL_DONE (R192): A page fill from the medium completes and the frame becomes Clean or Dirty. -/
  | pageFillDone (lmp : Lmp) (got : List (CrumbOutcome × Bool))
  /-- FRAME_TRANSFER_DONE (R193): The MCH finishes transferring a Programming frame, and a waiting line is written and the frame becomes Reprogramming. -/
  | frameTransferDone (lmp : Lmp)
  /-- STAGE_AGE_EXPIRY (R196): A frame has been Dirty for DTC_STAGE.AGE and is handed to the MTE. -/
  | stageAgeExpiry (lmp : Lmp)
  /-- FILL_WINDOW_BOUNDARY (R195): A fill window ends and the second-touch filter is cleared. -/
  | fillWindowBoundary
  /-- STRIPE_GATHER_TIMEOUT (R63): The stripe gather time expires and the MTE closes the open stripe with filler pages. -/
  | stripeGatherTimeout
  /-- STRIPE_ISSUE (R223): The MTE issues a full stripe; the MCH computes the parity and starts the row's programs. -/
  | stripeIssue (g : Fin 16)
  /-- PROGRAM_DONE (R258): All dies of a stripe report success and the MTE appends the MAP entries for its pages. -/
  | programDone (stripe : Nat)
  /-- PROGRAM_FAILURE (R275): A program fails or times out; the row is invalidated and reprogrammed elsewhere and the block retired. -/
  | programFailure (stripe : Nat) (die : Fin 256)
  /-- ERASE_DONE (R255): A block erase completes and the block returns to its die-plane pool or is retired. -/
  | eraseDone (block : Ppa)
  /-- ERASE_FAILURE (R276): An erase fails or times out and the block is retired. -/
  | eraseFailure (block : Ppa)
  /-- RESUME_IDLE_EXPIRY (R232): The die's read queue has been empty for 100 ns and the suspended operation resumes. -/
  | resumeIdleExpiry (die : Fin 256)
  /-- BUS_CRC_FAIL (R216): A media bus transfer fails its CRC and is repeated, up to 3 times. -/
  | busCrcFail (ch : BusTransfer)
  /-- LOCAL_SERVICE_TIMEOUT (R73): The local service timeout expires; the request completes in error and the unit that held it is fenced, or the safe state is entered. -/
  | localServiceTimeout (k : WaitKind) (line : LineAddr)
  /-- REMOTE_REQUEST_TIMEOUT (R73): The remote request timeout expires; the read completes with poison and the held store is reissued or declared lost. -/
  | remoteRequestTimeout (tag : BitVec 16)
  /-- FABRIC_DELIVERY_TIMEOUT (R73): The fabric delivery timeout expires; a held store with no promoted mirror is declared lost. -/
  | fabricDeliveryTimeout (dev : Dev)
  /-- BARRIER_WRITE (R410): A write to the BARRIER line of the control window issues a barrier of the given kind. -/
  | barrierWrite (h : Fin 64) (kind : BitVec 2) (tag : Byte)
  /-- BARRIER_COMPLETE (R158): Every earlier request has reached its point, and the barrier's status is written to BARRIER_STATUS and its Cmp returned. -/
  | barrierComplete (h : Fin 64)
  /-- GPF_PHASE1 (R178): A GPF phase 1 request is acknowledged at once. -/
  | gpfPhase1 (h : Fin 64)
  /-- GPF_PHASE2 (R179): A GPF phase 2 request releases the head's lanes, marks peers and drains until the head's stores reach their points. -/
  | gpfPhase2 (h : Fin 64)
  /-- GPF_TIMEOUT (R180): The GPF phase 2 timeout expires; phase 2 completes and a Warning names the unconfirmed segments. -/
  | gpfTimeout (h : Fin 64)
  /-- REGION_COMMIT (R97): CTRL.COMMIT of the MTE page starts a region attribute commit at a safe point. -/
  | regionCommit (q : Requester)
  /-- REGION_COMMIT_QUIESCE_TIMEOUT (R98): The safe point is not reached in time; the attempt is abandoned with a Warning and the shadows kept. -/
  | regionCommitQuiesceTimeout
  /-- REGION_COMMIT_RETRY (R98): 10 ms after an abandoned attempt, the region commit is retried. -/
  | regionCommitRetry
  /-- DISCARD (R99): The discard command checks a range at every owner and then unmaps the whole pages inside it. -/
  | discard (q : Requester) (tag : Byte) (fga : Fga) (lines : Word)
  /-- SLC_LC_ENABLE_WRITE (R118): A write of SLC_LC_CTL.ENABLE enables the line cache, or disables it and clears INV_DONE. -/
  | slcLcEnableWrite (q : Requester) (sl : Fin 8) (w : Word)
  /-- SLC_INVALIDATE_START (R121): SLC_INV_CTL.START starts a full or range invalidation in the slice. -/
  | slcInvalidateStart (q : Requester) (sl : Fin 8) (w : Word)
  /-- INVALIDATION_DONE (R122): The invalidation engine has visited every line of its range or region; a full invalidation sets INV_DONE. -/
  | invalidationDone (sl : Fin 8)
  /-- SLC_LOCK_COMMIT (R125): A slice page commit applies the lock way counts and ranges in a pipeline bubble. -/
  | slcLockCommit (sl : Fin 8)
  /-- SLC_PRELOAD (R128): A SLC_LOCK_CTL.PRELOAD write starts reading every line of a lock group's range. -/
  | slcPreload (q : Requester) (sl : Fin 8) (w : Word)
  /-- PRELOAD_DONE (R128): The last line of a group's preload has been installed or skipped, and PRELOAD_BUSY clears. -/
  | preloadDone (sl : Fin 8) (grp : Fin 4)
  /-- PB_SRAM_UE (R135): An uncorrectable SRAM error in a proofing-buffer entry poisons the line. -/
  | pbSramUe (sl : Fin 8) (at_ : PbPlace)
  /-- SLICE_FENCE (R514): A slice is fenced, its lanes and merge store are drained, and later requests to its lines fail. -/
  | sliceFence (sl : Fin 8)
  /-- CHANNEL_TRAINING_DONE (R183): A DRAM channel completes training. -/
  | channelTrainingDone (c : Fin 16)
  /-- CHANNEL_TRAINING_TIMEOUT (R183): A channel does not train in time, its socket counts as empty and TRAIN_FAIL is raised. -/
  | channelTrainingTimeout (c : Fin 16)
  /-- DIMM_THERMAL_ROUND (R202): Every 10 ms the DTC reads each DIMM sensor and adjusts refresh, throttles or fences the channel. -/
  | dimmThermalRound (temps : DimmRound)
  /-- DIMM_REREAD (R203): Every 10 s the DTC rereads DIMMs that are outside their limits or fenced for temperature. -/
  | dimmReread (temps : List Byte)
  /-- READMIT_TIME_EXPIRY (R203): The next group has stayed within its limits for the re-admit time and the tier grows by a re-form. -/
  | readmitTimeExpiry
  /-- DRAM_ERROR (R204): A read or patrol scrub finds a DRAM error, which is corrected, dropped, poisoned, reloaded or fenced. -/
  | dramError (c : Fin 16) (e : DramErr)
  /-- PATROL_SCRUB_PASS (R204): Patrol scrub begins a pass over every tier and reserve line once per DTC_SCRUB.HOURS. -/
  | patrolScrubPass
  /-- CHANNEL_FENCE (R205): A DRAM channel is fenced and its population group is removed by a tier re-form. -/
  | channelFence (c : Fin 16) (cause : BitVec 5)
  /-- DTC_CH_FENCE (R208): DTC_CH_CTL.FENCE fences an Active channel with cause software. -/
  | dtcChFence (q : Requester) (c : Fin 16)
  /-- DTC_CH_READMIT (R203): DTC_CH_CTL.READMIT starts re-admission of a channel fenced for temperature or software. -/
  | dtcChReadmit (q : Requester) (c : Fin 16)
  /-- REFORM_DRAIN_END (R206): Dirty bytes fall to 64 MiB and the re-form enters Freeze. -/
  | reformDrainEnd
  /-- REFORM_FREEZE_END (R206): No dirty frame remains and the re-form enters Relocate. -/
  | reformFreezeEnd
  /-- REFORM_RELOCATE_END (R206): The reserve is complete; Switch resets the directory, recomputes the budget and resumes releases. -/
  | reformRelocateEnd
  /-- REFORM_TIMEOUT (R207): The re-form timeout expires before Drain ends and an Error event is raised. -/
  | reformTimeout
  /-- HOLD_MEAS (R551): A hold-up measurement completes, usable energy is computed and reported, and the DTC sets the dirty budget. -/
  | holdMeas (v0 v1 v2 : BitVec 20)
  /-- DRIFT_SURVEY_START (R227): At start-up the MCH starts the drift survey of crumb 0 of the oldest page of every block in use. -/
  | driftSurveyStart
  /-- SURVEY (R227): The drift survey ends and MCH_SURVEY.DONE is set. -/
  | survey
  /-- MEDIA_THERMAL_ROUND (R226): Each 10 ms thermal round updates block drift ages and drift-tests 1/1,024 of the blocks. -/
  | mediaThermalRound
  /-- MCH_GRPMODE_COMMIT (R235): A committed group mode governs new operations and the move waits until the busy count fits. -/
  | mchGrpmodeCommit
  /-- MODE_MOVE_END (R235): The group's busy count fits the new mode's limit and the move ends. -/
  | modeMoveEnd (g : Fin 16)
  /-- MCH_CH_FENCE (R244): MCH_CH_CTL.FENCE fences a media channel with cause software. -/
  | mchChFence (q : Requester) (ch : Fin 64)
  /-- MCH_CH_DIEFENCE (R244): MCH_CH_CTL.DIEFENCE fences the selected dies with cause software. -/
  | mchChDiefence (q : Requester) (ch : Fin 64) (dies : BitVec 4)
  /-- WSN_RESERVE (R251): The MTE appends a WSN_RESERVE entry for the next block of 2^24 WSNs. -/
  | wsnReserve
  /-- WSN_RESERVE_DURABLE (R251): A WSN reservation becomes durable and waiting assignments proceed. -/
  | wsnReserveDurable
  /-- JOURNAL_FLUSH_EXPIRY (R259): MTE_JRN.FLUSH has passed since the oldest unprogrammed entry and the journal stripe is closed with PAD. -/
  | journalFlushExpiry
  /-- JOURNAL_STRIPE_PROGRAMMED (R258): A journal stripe is programmed, its entries become durable and waiting appends resume. -/
  | journalStripeProgrammed
  /-- CHECKPOINT_WRITE (R262): The checkpoint writer captures a changed map page and appends CKPT, or images both tables after a pass. -/
  | checkpointWrite (step : CkptStep)
  /-- STARTUP_BLOCK_SCAN_END (R268): The tag of page 0 of every programmed block has been read. -/
  | startupBlockScanEnd
  /-- STARTUP_JOURNAL_LOCATE_END (R268): The newest whole journal page is found and the trim WSN is known. -/
  | startupJournalLocateEnd
  /-- STARTUP_IMAGE_LOAD_END (R268): The directory and block-table images are loaded. -/
  | startupImageLoadEnd
  /-- STARTUP_MAP_LOAD_END (R268): The map page images are loaded into the reserve. -/
  | startupMapLoadEnd
  /-- STARTUP_REPLAY_END (R261): Every journal entry from the trim WSN onward has been replayed. -/
  | startupReplayEnd
  /-- STARTUP_TAIL_SCAN_END (R268): Every page of the sets that are not Full has been read and mapped. -/
  | startupTailScanEnd
  /-- FULL_REBUILD (R269): The map is rebuilt from the tags of every programmed page in place of the image and journal phases. -/
  | fullRebuild
  /-- SETTLE (R270): Settle unmaps Volatile regions, erases Released sets, refills the reserve, poisons unwhole LMPs and raises BREACH. -/
  | settle
  /-- SCRAPER_VICTIM_SELECT (R272): The scraper takes its next victim set by reason order and score. -/
  | scraperVictimSelect (g : Fin 16)
  /-- RELOCATION_PROGRAMMED (R273): The relocation copies are programmed and their conditional MAP entries written. -/
  | relocationProgrammed (setid : BitVec 64)
  /-- SET_RELEASE_DURABLE (R273): The victim's SET_RELEASE is durable and its blocks are handed to the MCH for erase. -/
  | setReleaseDurable (setid : BitVec 64)
  /-- REWIND_MARK (R300): REWIND_MARK checks the region and holds its releases until its frames are placed. -/
  | rewindMark (q : Requester) (tag : Byte) (region : BitVec 32)
  /-- REWIND_MARK_HOLD_END (R300): No frame of the region is Merging or Dirty, so the cut is taken and RW_MARK appended. -/
  | rewindMarkHoldEnd (region : BitVec 8)
  /-- RW_MARK_DURABLE (R300): RW_MARK is durable; the epoch increments, releases resume and the mark completes with OK. -/
  | rwMarkDurable (region : BitVec 8)
  /-- REWIND_MARK_HOLD_TIMEOUT (R316): The mark hold timeout expires, no mark is taken and the operation completes with ABORTED. -/
  | rewindMarkHoldTimeout (region : BitVec 8)
  /-- REWIND_TO (R302): REWIND_TO checks the region and quiesces admission to its segments. -/
  | rewindTo (q : Requester) (tag : Byte) (region : BitVec 8) (epoch : BitVec 16)
  /-- REWIND_TO_QUIESCE_END (R302): Quiesce completes; Discard and a region invalidation run and RW_VOID is appended. -/
  | rewindToQuiesceEnd (region : BitVec 8)
  /-- RW_VOID_DURABLE (R302): RW_VOID is durable; Apply restores the retained versions and RW_DONE is appended. -/
  | rwVoidDurable (region : BitVec 8)
  /-- RW_DONE_DURABLE (R302): RW_DONE is durable; admission resumes and REWIND_TO completes with OK. -/
  | rwDoneDurable (region : BitVec 8)
  /-- REWIND_QUIESCE_TIMEOUT (R316): The rewind quiesce timeout expires and REWIND_TO completes with TIMEOUT, leaving the region unchanged. -/
  | rewindQuiesceTimeout (region : BitVec 8)
  /-- REWIND_DROP (R304): REWIND_DROP appends RW_DROP and, once it is durable, frees or reattributes the mark's entries. -/
  | rewindDrop (q : Requester) (tag : Byte) (region : BitVec 8) (epoch : BitVec 16)
  /-- MIRROR_CONFIRM_TIMEOUT (R312): The mirror holder does not confirm a rewind operation in time; it completes with PARTIAL and the pair is rebuilt. -/
  | mirrorConfirmTimeout (region : BitVec 8)
  /-- ELVUC_TRAIN_START (R321): An Elvuc port starts training at Detect. -/
  | elvucTrainStart (port : Fin 512)
  /-- TS1 (R325): A TS1 training block arrives during Base. -/
  | ts1 (port : Fin 512) (b : TrainBlock)
  /-- TS2 (R325): A TS2 training block arrives, showing that the partner has received a good block. -/
  | ts2 (port : Fin 512) (b : TrainBlock)
  /-- EQUALISATION_REQUEST (R325): A training block asks for a transmit preset during Equalise. -/
  | equalisationRequest (port : Fin 512) (preset : BitVec 4)
  /-- EQUALISATION_DONE (R325): A training block reports that equalisation is done. -/
  | equalisationDone (port : Fin 512)
  /-- VERIFY_END (R322): The 1 ms PRBS31 Verify ends; the port passes to Keying, or retries at a lower rate or goes Down. -/
  | verifyEnd (port : Fin 512) (pass : Bool)
  /-- TRAINING_TIMEOUT (R326): No training block is seen in time; the port goes Down and retries with backoff. -/
  | trainingTimeout (port : Fin 512)
  /-- TRAINING_RETRY_EXPIRY (R326): The retry wait after a training failure ends and training starts again. -/
  | trainingRetryExpiry (port : Fin 512)
  /-- DATA_FLIT (R331): A DATA flit arrives, is checked for CRC and tag, and is accepted in order or discarded. -/
  | dataFlit (port : Fin 512) (f : Flit)
  /-- IDLE_FLIT (R329): An IDLE flit arrives, carrying acknowledgement and credit returns. -/
  | idleFlit (port : Fin 512) (f : Flit)
  /-- NAK_FLIT (R334): A NAK flit arrives and the transmitter replays from the NAK's ACK + 1. -/
  | nakFlit (port : Fin 512) (f : Flit)
  /-- CLEAR_FLIT (R332): A CLEAR flit arrives; it is accepted only during Keying and otherwise counts as a security error. -/
  | clearFlit (port : Fin 512) (f : Flit)
  /-- REPLAY_TIMER_EXPIRY (R335): The replay timer expires and a NAK is repeated or flits are replayed from the oldest. -/
  | replayTimerExpiry (port : Fin 512)
  /-- ACK_IDLE_DUE (R335): 16 flits or 100 ns have passed since the last acknowledgement, so an IDLE flit is sent. -/
  | ackIdleDue (port : Fin 512)
  /-- RECOVERY_END (R336): Recovery ends, with a replay from the oldest flit, or with the port Down on failure or at 3 ms. -/
  | recoveryEnd (port : Fin 512) (ok : Bool)
  /-- ALIGNMENT_LOSS (R336): Codeword or sync alignment is lost for PRT_LINK.LOSS and the port goes Down. -/
  | alignmentLoss (port : Fin 512)
  /-- RD (R338): A remote RD request arrives at the owner in its stream order and is served by the slice. -/
  | rd (m : Routing) (fga : Fga)
  /-- WR (R340): A remote WR arrives, enters the stream's lane and is answered with WR_STAT points. -/
  | wr (m : Routing) (fga : Fga) (mask : BitVec 64) (data : Line)
  /-- ATOM (R338): A remote ATOM arrives and is carried out by the owner's slice. -/
  | atom (m : Routing) (fga : Fga) (op : BitVec 4) (size : BitVec 2) (a b : BitVec 128)
  /-- BARRIER (R338): A barrier marker message arrives at a peer. -/
  | barrier (m : Routing) (kind : BitVec 2)
  /-- GPF (R179): A GPF marker arrives at a peer, which carries out phase 2 steps for the head's stores. -/
  | gpf (m : Routing)
  /-- RD_DATA (R383): Read data returns to the requester and is accepted only for an outstanding tag with a current epoch. -/
  | rdData (m : Routing) (data : Line) (poison : Bool)
  /-- WR_STAT (R68): A store's point arrives at the requester, which releases the held store once its Late point is reported. -/
  | wrStat (m : Routing) (point : BitVec 2) (later : Bool)
  /-- ATOM_DATA (R338): An atomic's old value returns to the requester. -/
  | atomData (m : Routing) (old : BitVec 128)
  /-- BARRIER_DONE (R338): A peer reports that its barrier marker has completed, with a status. -/
  | barrierDone (m : Routing)
  /-- GPF_DONE (R338): A peer reports that GPF is complete. -/
  | gpfDone (m : Routing)
  /-- RETRY (R345): A RETRY arrives and the source resends unacknowledged REQs from the expected sequence. -/
  | retry (m : Routing)
  /-- ESQ_ACK (R345): An end-to-end acknowledgement frees the source's copies of the covered REQs. -/
  | esqAck (m : Routing)
  /-- ERR (R338): An ERR response with a status and the TAG of the failed request arrives. -/
  | err (m : Routing)
  /-- BLK_DATA (R378): A bulk message with lines as stored ciphertext is written at the migration target or mirror holder. -/
  | blkData (m : Routing) (line : LineAddr) (lines : List SLine) (reqDev : Dev)
  /-- ESQ_ACK_DUE (R345): 1 µs has passed without an RSP to a source, so an ESQ_ACK is sent. -/
  | esqAckDue (dev : Dev)
  /-- E2E_RESEND_EXPIRY (R345): FXB_TMO.RESEND passes without acknowledgement progress and REQs are resent from the oldest. -/
  | e2eResendExpiry (dev : Dev)
  /-- HELLO (R349): A HELLO arrives, completing the Hello phase or setting the port Active or Isolated. -/
  | hello (port : Fin 512) (x : Hello)
  /-- LSA (R351): An LSA fragment arrives and is stored and flooded if newer. -/
  | lsa (port : Fin 512) (x : LsaFrag)
  /-- DEV_REQ (R355): A device-number request reaches the custodian, which grants a number. -/
  | devReq (port : Fin 512) (serial : BitVec 64) (inst : BitVec 24) (wanted : Dev)
  /-- DEV_GRANT (R355): A module receives its granted number, stores it in the pantry and sets CONF. -/
  | devGrant (port : Fin 512) (serial : BitVec 64) (dev : Dev) (cust : BitVec 52)
  /-- TREE (R358): A new escape tree epoch arrives and the new escape ports are installed. -/
  | tree (port : Fin 512) (root : BitVec 64) (epoch : BitVec 16)
  /-- LINK_TRICKLE (R348): A Trickle request or accept arrives and the port moves to lane 0 at 10 Gbit/s. -/
  | linkTrickle (port : Fin 512) (accept : Bool)
  /-- LINK_WAKE (R348): A wake arrives and both sides train back to full width and rate. -/
  | linkWake (port : Fin 512)
  /-- TRICKLE_IDLE_EXPIRY (R348): A port has carried no REQ, RSP or BLK for the Trickle idle time and requests Trickle. -/
  | trickleIdleExpiry (port : Fin 512)
  /-- TRICKLE_EXIT_TIMEOUT (R364): A Trickle exit does not finish training within 60 µs and the port goes Down. -/
  | trickleExitTimeout (port : Fin 512)
  /-- REFRESH_INTERVAL (R350): Each refresh interval the module sends HELLO on each port and its LSA. -/
  | refreshInterval
  /-- LSA_EXPIRE (R352): An origin's LSA is not refreshed for three intervals and is removed. -/
  | lsaExpire (serial : BitVec 64)
  /-- ELECTION_SETTLE_EXPIRY (R353): The database has been unchanged for the settle time, so roles are computed. -/
  | electionSettleExpiry
  /-- DEV_REQ_REPEAT (R355): 100 ms pass without a grant and DEV_REQ is flooded again. -/
  | devReqRepeat
  /-- ROUTE_HOLDDOWN_EXPIRY (R357): The 200 µs hold-down after a change ends and the routing table is recomputed. -/
  | routeHolddownExpiry
  /-- OLD_ESCAPE_EXPIRY (R358): No old-parity message has passed for 100 µs, so the old escape ports are discarded. -/
  | oldEscapeExpiry
  /-- PRT_CTL_RETRAIN (R362): A write of PRT_CTL.RETRAIN takes the selected ports Down and retrains them from Detect. -/
  | prtCtlRetrain (q : Requester) (p : Fin 64) (w : Word)
  /-- FXB_FABID_COMMIT (R362): A committed fabric ID change retrains every Elvuc port. -/
  | fxbFabidCommit
  /-- GST_REQ (R373): A custody request reaches the custodian, which runs the operation that its op field selects. -/
  | gstReq (m : Routing) (g : GstReq)
  /-- GST_RSP (R401): The custodian's answer arrives at the requesting module, which completes the command. -/
  | gstRsp (m : Routing) (gsn : Gsn) (owner : Dev) (handle : Word)
  /-- GST_UPD (R368): A table update arrives and is applied in version order, or held ahead of a gap and flooded. -/
  | gstUpd (port : Fin 512) (ver : BitVec 64) (row : GstRow) (gsn : Gsn)
  /-- GST_ACK (R367): A standby acknowledges a table version. -/
  | gstAck (m : Routing) (ver : BitVec 64)
  /-- GST_SYNC (R372): A sync request asks for table rows, or with count 0 asks every module to send its claims. -/
  | gstSync (m : Routing) (first : Gsn) (count : BitVec 27) (ver : BitVec 64)
  /-- GST_CLAIM (R372): A module's claim for a segment record reaches the custodian. -/
  | gstClaim (m : Routing) (c : Claim)
  /-- STANDBY_ACK_TIMEOUT (R367): A standby does not acknowledge in time; the commit proceeds and STBY_LAG is raised. -/
  | standbyAckTimeout (dev : Dev)
  /-- GST_GAP_TIMEOUT (R368): A version gap has lasted 1 ms and GST_SYNC is sent for the missing versions. -/
  | gstGapTimeout
  /-- CLAIM_WINDOW_EXPIRY (R372): The 1 s claim window ends and the rebuilt table is flooded. -/
  | claimWindowExpiry
  /-- PREPARE_TIMEOUT (R373): The Prepare timeout expires; the next owner candidate is tried or the migration is aborted. -/
  | prepareTimeout (gsn : Gsn)
  /-- PAGE_CTL (R378): An unmap or poison of a page arrives at the migration target. -/
  | pageCtl (m : Routing) (page : BitVec 44) (kind : BitVec 2)
  /-- PAGE_ACK (R379): The target acknowledges a page and the source may send it again or move phase. -/
  | pageAck (m : Routing) (page : BitVec 44)
  /-- MIGRATION_COPY_END (R377): Every page sent in Copy has been acknowledged and Converge starts. -/
  | migrationCopyEnd (gsn : Gsn)
  /-- CONVERGE_PASS_END (R377): A Converge pass ends; another pass runs, or Switch starts. -/
  | convergePassEnd (gsn : Gsn)
  /-- SWITCH_READY (R380): Switch-ready reaches the target, which writes a tentative record, or the custodian, which commits the new owner. -/
  | switchReady (m : Routing) (gsn : Gsn)
  /-- SWITCH_TIMEOUT (R380): The Switch timeout expires before switch-ready; admission resumes and the third expiry aborts. -/
  | switchTimeout (gsn : Gsn)
  /-- SWITCH_READY_RESEND (R380): After switch-ready, 1 ms passes without a row and switch-ready is sent again. -/
  | switchReadyResend (gsn : Gsn)
  /-- SWITCH_COMMIT_APPLIED (R380): The source applies the committed row, sets Forwarding, invalidates and resumes admission. -/
  | switchCommitApplied (gsn : Gsn)
  /-- DRAIN_QUIET_EXPIRY (R377): No request has been forwarded for the Drain quiet time, or 10 s has passed, so Release runs. -/
  | drainQuietExpiry (gsn : Gsn)
  /-- LINE_ACK (R387): The mirror holder acknowledges a line update and the next update of that line may go. -/
  | lineAck (m : Routing) (line : LineAddr)
  /-- COPY_END (R401): A pass-end or stream-end marker arrives at the target or holder. -/
  | copyEnd (m : Routing) (kind : BitVec 2)
  /-- LAG_BOUND_REACHED (R389): The oldest unacknowledged update reaches the lag bound and releases to the pair are held. -/
  | lagBoundReached (gsn : Gsn)
  /-- LINE_UPDATE_ACK_TIMEOUT (R391): A line update stays unacknowledged for the remote request timeout and the pair breaks. -/
  | lineUpdateAckTimeout (gsn : Gsn)
  /-- REMIRROR_DELAY_EXPIRY (R391): 1 s after a break the custodian establishes a new mirror. -/
  | remirrorDelayExpiry (gsn : Gsn)
  /-- RW_MARKER (R312): A mark marker in the mirror stream makes the holder run REWIND_MARK. -/
  | rwMarker (m : Routing) (region : BitVec 8) (epoch : BitVec 16)
  /-- RW_FWD (R312): A forwarded REWIND_TO or REWIND_DROP is run by the mirror holder on its marks. -/
  | rwFwd (m : Routing) (op : BitVec 2) (region : BitVec 8) (epoch : BitVec 16)
  /-- RW_CONF (R312): The holder's confirmation arrives and the owner completes its rewind operation. -/
  | rwConf (m : Routing)
  /-- LEASE_LOST (R396): No custodian LSA arrives for 2 intervals, the lease lapses and mirrored segments are unserved. -/
  | leaseLost
  /-- DEDUP_ENTRY_EXPIRY (R384): A deduplication entry reaches the remote request timeout and is dropped. -/
  | dedupEntryExpiry (dev : Dev) (tag : BitVec 16)
  /-- FW_CHUNK (R398): A chunk of the firmware image arrives at a module for its inactive slot. -/
  | fwChunk (m : Routing) (off : Word) (ver : Word) (bytes : List Byte)
  /-- FWU_CTL (R399): A rollout step (offer, activate or abort) arrives at a module. -/
  | fwuCtl (m : Routing) (step : BitVec 4) (ver : Word) (len : Word)
  /-- FWU_DONE (R400): A module reports image receipt or activation to the custodian. -/
  | fwuDone (m : Routing) (activated : Bool)
  /-- FW_ACTIVATION_WAIT_EXPIRY (R399): A module cannot activate within 60 s and answers BUSY. -/
  | fwActivationWaitExpiry
  /-- FW_ACTIVATION_TIMEOUT (R400): An activated module does not answer in time; it reverts and the rollout stops. -/
  | fwActivationTimeout (dev : Dev)
  /-- HEAD_LINK_TRAINED (R406): A head completes LTSSM training and becomes Active. -/
  | headLinkTrained (h : Fin 64) (width : BitVec 3) (rate : HeadTraining)
  /-- HEAD_LINK_DOWN (R408): A head's link goes down and the head acts as under a conventional reset. -/
  | headLinkDown (h : Fin 64)
  /-- L0P_WIDTH_CHANGE (R407): The host requests an L0p width change and the module accepts it. -/
  | l0pWidthChange (h : Fin 64) (width : BitVec 3)
  /-- HDM_DECODER_COMMIT (R409): An HDM decoder commit is applied, or fails with Commit Error on overlap. -/
  | hdmDecoderCommit (h : Fin 64) (d : Fin 8) (cfg : Decoder)
  /-- CONVENTIONAL_RESET (R427): A conventional reset zeroes the extent table, uncommits the decoders and clears the mailbox. -/
  | conventionalReset (h : Fin 64)
  /-- HOT_RESET (R427): A hot reset acts on the head as a conventional reset does. -/
  | hotReset (h : Fin 64)
  /-- FUNCTION_LEVEL_RESET (R427): A function-level reset aborts the mailbox and clears the control window. -/
  | functionLevelReset (h : Fin 64)
  /-- IDE_FAIL (R419): A CXL.cachemem IDE integrity failure takes the head's link down. -/
  | ideFail (h : Fin 64)
  /-- DC_ADD_TIMEOUT (R430): The DC add response times out; the allocation completes with TIMEOUT and the segment is unbound. -/
  | dcAddTimeout (h : Fin 64) (slot : BitVec 14)
  /-- DC_RELEASE_TIMEOUT (R430): The DC release response times out; the entry is cleared and a Forced Capacity Release is posted. -/
  | dcReleaseTimeout (h : Fin 64) (slot : BitVec 14)
  /-- GET_EVENT_RECORDS (R424): The mailbox returns records from the head's event logs. -/
  | getEventRecords (h : Fin 64) (log : Fin 5)
  /-- CLEAR_EVENT_RECORDS (R421): The mailbox clears event records. -/
  | clearEventRecords (h : Fin 64) (log : Fin 5) (handles : List (BitVec 16))
  /-- GET_EVENT_INTERRUPT_POLICY (R421): The mailbox returns the MSI/MSI-X policy per log. -/
  | getEventInterruptPolicy (h : Fin 64)
  /-- SET_EVENT_INTERRUPT_POLICY (R421): The mailbox sets the MSI/MSI-X policy per log. -/
  | setEventInterruptPolicy (h : Fin 64) (policy : BitVec 40)
  /-- GET_FW_INFO (R421): The mailbox reports the two Ndenus slots. -/
  | getFwInfo (h : Fin 64)
  /-- GET_TIMESTAMP (R421): The mailbox returns the head's timestamp. -/
  | getTimestamp (h : Fin 64)
  /-- SET_TIMESTAMP (R421): The mailbox sets the per-head timestamp used for its event records. -/
  | setTimestamp (h : Fin 64) (t : BitVec 64)
  /-- GET_SUPPORTED_LOGS (R421): The mailbox lists the Command Effects Log. -/
  | getSupportedLogs (h : Fin 64)
  /-- GET_LOG (R421): The mailbox returns the Command Effects Log. -/
  | getLog (h : Fin 64)
  /-- IDENTIFY_MEMORY_DEVICE (R421): The mailbox reports zero static capacity and a poison list size of 2,048. -/
  | identifyMemoryDevice (h : Fin 64)
  /-- GET_PARTITION_INFO (R421): The mailbox returns partition info with all fields 0. -/
  | getPartitionInfo (h : Fin 64)
  /-- GET_HEALTH_INFO (R423): The mailbox reports maintenance, degradation, media status, life used, temperature and counts. -/
  | getHealthInfo (h : Fin 64)
  /-- GET_ALERT_CONFIGURATION (R421): The mailbox returns the life-used and temperature alerts. -/
  | getAlertConfiguration (h : Fin 64)
  /-- SET_ALERT_CONFIGURATION (R421): The mailbox sets the life-used and temperature alerts. -/
  | setAlertConfiguration (h : Fin 64) (cfg : BitVec 96)
  /-- GET_SHUTDOWN_STATE (R421): The mailbox returns the head's shutdown state. -/
  | getShutdownState (h : Fin 64)
  /-- SET_SHUTDOWN_STATE (R532): The mailbox stores the head's shutdown state in pantry counter ring 6. -/
  | setShutdownState (h : Fin 64) (dirty : Bool)
  /-- GET_POISON_LIST (R417): The mailbox returns the recorded poisoned lines of the head's extents. -/
  | getPoisonList (h : Fin 64)
  /-- INJECT_POISON (R417): With HEAD_RIGHTS.POISON, POISON is set on one line at its owner. -/
  | injectPoison (h : Fin 64) (dpa : Dpa)
  /-- CLEAR_POISON (R417): With HEAD_RIGHTS.POISON, the payload is written as a full-line store. -/
  | clearPoison (h : Fin 64) (dpa : Dpa) (data : Line)
  /-- GET_DC_CONFIGURATION (R415): The mailbox reports the DC regions, and after a reset the bindings are offered again. -/
  | getDcConfiguration (h : Fin 64)
  /-- GET_DC_EXTENT_LIST (R421): The mailbox returns the accepted extents. -/
  | getDcExtentList (h : Fin 64)
  /-- ADD_DC_RESPONSE (R413): The host's response lists or omits an offered extent, completing the allocation. -/
  | addDcResponse (h : Fin 64) (dpas : List Dpa)
  /-- RELEASE_DYNAMIC_CAPACITY (R414): The host releases an extent, which is cleared and unbound. -/
  | releaseDynamicCapacity (h : Fin 64) (dpas : List Dpa)
  /-- MAILBOX_UNSUPPORTED (R421): Any other mailbox opcode returns Unsupported. -/
  | mailboxUnsupported (h : Fin 64) (opcode : BitVec 16)
  /-- LORLEK_EXEC (R422): The mailbox runs one command packet and returns its completion packet. -/
  | lorlekExec (h : Fin 64) (words : List Word)
  /-- LORLEK_COMPLETIONS (R422): The mailbox returns whole completion packets from the head's queue. -/
  | lorlekCompletions (h : Fin 64)
  /-- KX_OFFER (R455): An ephemeral key and nonce arrive, starting link keying or a rekey. -/
  | kxOffer (port : Fin 512) (key : BitVec 512) (nonce : BitVec 256)
  /-- KX_CERT (R456): The peer's certificate chain arrives for checking. -/
  | kxCert (port : Fin 512) (c : CertChain)
  /-- KX_PROOF (R455): The peer's signature proof arrives and is checked, followed by key derivation. -/
  | kxProof (port : Fin 512) (ok : Bool)
  /-- KX_DONE (R457): The peer signals that keying is done and new keys take effect at the epoch toggle. -/
  | kxDone (port : Fin 512)
  /-- LINK_AUTH (R455): A chain or proof fails, or Keying passes 5 ms; the port goes Down with cause key agreement. -/
  | linkAuth (port : Fin 512)
  /-- REKEY_INTERVAL_EXPIRY (R457): The link rekey interval or the flit-number limit is reached and a rekey starts. -/
  | rekeyIntervalExpiry (port : Fin 512)
  /-- KR_TABLE (R442): A key range table arrives and is applied when its version is higher. -/
  | krTable (m : Routing) (ver : Word) (bases : List (BitVec 27))
  /-- KR_PUSH (R445): A wrapped key set or erase arrives and is installed, then acknowledged. -/
  | krPush (m : Routing) (r : Fin 64) (gen : BitVec 16) (erase : Bool) (keys : Option KeySet)
  /-- KR_ACK (R445): A module acknowledges a push or table to the custodian. -/
  | krAck (m : Routing) (r : Fin 64) (gen : BitVec 16) (status : Status)
  /-- KR_PULL (R445): A module asks the custodian for the table and every key set. -/
  | krPull (m : Routing)
  /-- KEY_WAIT_EXPIRY (R469): The key wait expires; pulls, pushes and tables are resent and waiting key operations complete with PARTIAL. -/
  | keyWaitExpiry
  /-- KEY_SLOT_PARITY_FAIL (R448): A key slot parity error fences the slot and reloads it from its stored record. -/
  | keySlotParityFail (r : Fin 64)
  /-- KEY_FENCED (R448): The key slot reload fails within 50 µs and the key range becomes Fenced. -/
  | keyFenced (r : Fin 64)
  /-- GET_VERSION (R459): The SPDM responder answers with version 1.2. -/
  | getVersion (p : SpdmPath)
  /-- GET_CAPABILITIES (R459): The SPDM responder reports its capabilities. -/
  | getCapabilities (p : SpdmPath)
  /-- NEGOTIATE_ALGORITHMS (R459): The SPDM responder negotiates its algorithms. -/
  | negotiateAlgorithms (p : SpdmPath)
  /-- GET_DIGESTS (R459): The SPDM responder returns its certificate digests. -/
  | getDigests (p : SpdmPath)
  /-- GET_CERTIFICATE (R459): The SPDM responder returns a certificate chain. -/
  | getCertificate (p : SpdmPath) (slot : BitVec 4)
  /-- CHALLENGE (R459): The SPDM responder answers a challenge. -/
  | challenge (p : SpdmPath) (slot : BitVec 4)
  /-- GET_MEASUREMENTS (R460): The SPDM responder reports measurement blocks 1 to 6 as signed digests. -/
  | getMeasurements (p : SpdmPath) (index : Byte)
  /-- KEY_EXCHANGE (R459): A secured session is opened, or refused with Busy beyond 8 sessions. -/
  | keyExchange (p : SpdmPath)
  /-- FINISH (R459): The SPDM session handshake finishes. -/
  | finish (p : SpdmPath) (session : Word)
  /-- HEARTBEAT (R459): An SPDM session heartbeat is answered. -/
  | heartbeat (p : SpdmPath) (session : Word)
  /-- KEY_UPDATE (R459): The SPDM session keys are updated. -/
  | keyUpdate (p : SpdmPath) (session : Word)
  /-- END_SESSION (R462): An SPDM session ends and its IDE keys are zeroized. -/
  | endSession (p : SpdmPath) (session : Word)
  /-- SET_CERTIFICATE (R458): With the KEY right, an owner chain certifying the identity key is installed in slot 1. -/
  | setCertificate (q : Requester) (slot : BitVec 4) (c : CertChain)
  /-- SPDM_UNSUPPORTED_REQUEST (R459): Any other SPDM request is answered with ERROR UnsupportedRequest. -/
  | spdmUnsupportedRequest (p : SpdmPath) (code : Byte)
  /-- IDE_KM_QUERY (R462): An IDE_KM query is answered on a head's DOE. -/
  | ideKmQuery (h : Fin 64)
  /-- IDE_KM_KEY_PROG (R462): An IDE key set is programmed for the head. -/
  | ideKmKeyProg (h : Fin 64) (set : Fin 2) (mem : Bool) (key : BitVec 256)
  /-- IDE_KM_K_SET_GO (R462): An IDE key set is put into use. -/
  | ideKmKSetGo (h : Fin 64) (set : Fin 2) (mem : Bool)
  /-- IDE_KM_K_SET_STOP (R462): An IDE key set is stopped. -/
  | ideKmKSetStop (h : Fin 64) (set : Fin 2) (mem : Bool)
  /-- SET_ENDPOINT_ID (R461): The bus owner assigns the module's MCTP endpoint ID. -/
  | setEndpointId (eid : Byte)
  /-- GET_ENDPOINT_ID (R461): The module returns its MCTP endpoint ID. -/
  | getEndpointId
  /-- GET_MCTP_VERSION_SUPPORT (R461): The module reports MCTP version support. -/
  | getMctpVersionSupport
  /-- GET_MESSAGE_TYPE_SUPPORT (R461): The module reports MCTP message types 0x00, 0x05 and 0x06. -/
  | getMessageTypeSupport
  /-- GET_ENDPOINT_UUID (R461): The module returns its endpoint UUID. -/
  | getEndpointUuid
  /-- MCTP_PACKET (R461): An MCTP packet arrives on I3C and is reassembled, or discarded when its type is unsupported. -/
  | mctpPacket (p : MctpPacket)
  /-- CRS_TEST_CONSENT (R466): CRS_TEST.CONSENT opens a 10-minute window and draws a challenge into CRS_NONCE. -/
  | crsTestConsent (q : Requester) (w : Word)
  /-- UNLOCK_TOKEN (R466): A signed unlock token within the window enters factory test mode, zeroizing keys and downing links. -/
  | unlockToken (serial chal : BitVec 64) (sigOk : Bool)
  /-- CONSENT_WINDOW_EXPIRY (R469): The consent window ends and CRS_NONCE is cleared. -/
  | consentWindowExpiry
  /-- BOOT_MONITOR_CHECK (R465): Before a core start the boot monitor checks the slots; when both fail, FW_BAD enters the safe state. -/
  | bootMonitorCheck (core : Fin 8)
  /-- ENEC (R470): The I3C CCC ENEC enables IBIs or Hot-Join. -/
  | enec (ev : Byte)
  /-- DISEC (R472): The I3C CCC DISEC disables IBIs or Hot-Join. -/
  | disec (ev : Byte)
  /-- RSTDAA (R471): The dynamic address is cleared and the module answers its static address again. -/
  | rstdaa
  /-- ENTDAA (R470): The module takes part in dynamic address assignment. -/
  | entdaa (addr : BitVec 7)
  /-- SETDASA (R470): A dynamic address is assigned from the static address. -/
  | setdasa (stat addr : BitVec 7)
  /-- SETNEWDA (R470): The dynamic address is changed. -/
  | setnewda (addr : BitVec 7)
  /-- SETMWL (R470): The maximum write length is set, 64–516. -/
  | setmwl (len : BitVec 16)
  /-- SETMRL (R470): The maximum read length is set, 64–512. -/
  | setmrl (len : BitVec 16)
  /-- GETMWL (R470): The maximum write length is returned. -/
  | getmwl
  /-- GETMRL (R470): The maximum read length is returned. -/
  | getmrl
  /-- GETPID (R470): The provisioned ID is returned. -/
  | getpid
  /-- GETBCR (R470): BCR 0x26 is returned. -/
  | getbcr
  /-- GETDCR (R470): DCR 0x00 is returned. -/
  | getdcr
  /-- GETSTATUS (R473): The status word with packet count, error and pin bits is returned. -/
  | getstatus
  /-- GETMXDS (R470): The maximum data speed is returned. -/
  | getmxds
  /-- GETCAPS (R470): The I3C capabilities are returned. -/
  | getcaps
  /-- ENTHDR0 (R477): The bus enters HDR-DDR. -/
  | enthdr0
  /-- UNSUPPORTED_CCC (R470): Any other CCC is NACKed. -/
  | unsupportedCcc (code : Byte)
  /-- HOT_JOIN_REPEAT (R472): Without a dynamic address, a Hot-Join is sent again every 100 ms. -/
  | hotJoinRepeat
  /-- IBI_RESEND (R488): A NACKed IBI is sent again at the next Bus Available. -/
  | ibiResend
  /-- WRITE (R474): The register protocol WRITE writes words to consecutive offsets. -/
  | write (addr : BitVec 24) (words : List Word) (trailing : Nat)
  /-- SET_READ (R474): SET_READ sets the read pointer and word count. -/
  | setRead (addr : BitVec 24) (count : Byte)
  /-- PRIVATE_READ (R475): A private read returns the words set by SET_READ, performing each read as the word is sent. -/
  | privateRead (stopAfter : Nat)
  /-- CMD_PUSH (R474): A whole command packet is pushed into the command FIFO over I3C. -/
  | cmdPush (words : List Word)
  /-- CPL_POP (R476): The next private read pops one completion packet with END marks. -/
  | cplPop
  /-- BAD_OP (R474): A reserved op, or CMD_PUSH or CPL_POP over legacy I²C, is discarded. -/
  | badOp (op : Byte)
  /-- MGT_CMD_PUSH_WRITE (R489): An in-band write pushes one word into the open command packet. -/
  | mgtCmdPushWrite (h : Fin 64) (w : Word)
  /-- MGT_CMD_LAST_WRITE (R489): An in-band write pushes the end-marked last word and the packet is dispatched. -/
  | mgtCmdLastWrite (h : Fin 64) (w : Word)
  /-- MGT_CPL_HEAD_READ (R490): A read of MGT_CPL_HEAD pops one completion word, held up to CPLHOLD when empty. -/
  | mgtCplHeadRead (q : Requester)
  /-- COMPLETION_HOLD_EXPIRY (R505): The completion hold time expires; an empty word is returned or a held push word is discarded. -/
  | completionHoldExpiry (h : Fin 64)
  /-- CMD_ABANDON (R489): The command assembly timeout expires and the open packet is discarded with ABORTED. -/
  | cmdAbandon
  /-- CPL_ABANDON (R491): The reserving requester pops nothing for the assembly timeout and the rest of the packet is discarded. -/
  | cplAbandon
  /-- NOP (R496): The NOP command completes at once. -/
  | nop (q : Requester) (tag : Byte)
  /-- HANDLE_QUERY (R501): HANDLE_QUERY reports the state and final status of a handle. -/
  | handleQuery (q : Requester) (tag : Byte) (handle : Word)
  /-- SEG_ALLOC (R373): SEG_ALLOC is relayed to the custodian, which allocates a GSN, chooses an owner and binds the head. -/
  | segAlloc (q : Requester) (tag : Byte) (w1 w2 : Word)
  /-- SEG_FREE (R375): SEG_FREE frees an Owned, unbound segment. -/
  | segFree (q : Requester) (tag : Byte) (gsn : Word)
  /-- SEG_BIND (R374): SEG_BIND adds a binding record and offers the extent to the head. -/
  | segBind (q : Requester) (tag : Byte) (gsn w2 : Word)
  /-- SEG_UNBIND (R414): SEG_UNBIND removes a binding and has the head release the extent. -/
  | segUnbind (q : Requester) (tag : Byte) (gsn w2 : Word)
  /-- SEG_MIGRATE (R376): SEG_MIGRATE starts a migration to a target module. -/
  | segMigrate (q : Requester) (tag : Byte) (gsn w2 : Word)
  /-- SEG_EVACUATE (R376): SEG_EVACUATE migrates every segment and mirror copy off a module. -/
  | segEvacuate (q : Requester) (tag : Byte) (w1 : Word)
  /-- MIRROR_SET (R386): MIRROR_SET sets a region's mirror mode and establishes mirrors for its segments. -/
  | mirrorSet (q : Requester) (tag : Byte) (w1 w2 : Word)
  /-- SEG_RECOVER (R397): SEG_RECOVER commits a Lost row as Owned with EPOCH + 1. -/
  | segRecover (q : Requester) (tag : Byte) (gsn : Word)
  /-- SEG_ABORT (R385): SEG_ABORT aborts a migration before switch-ready. -/
  | segAbort (q : Requester) (tag : Byte) (gsn : Word)
  /-- KR_SET (R442): KR_SET changes the key range bases at the custodian and sends the table. -/
  | krSet (q : Requester) (tag : Byte) (bases : List Word)
  /-- KEY_GEN (R444): KEY_GEN draws a new key set for a range and pushes it. -/
  | keyGen (q : Requester) (tag : Byte) (range : Word)
  /-- KEY_IMPORT (R497): KEY_IMPORT installs a supplied key set, only within a secured SPDM session. -/
  | keyImport (q : Requester) (tag : Byte) (secured : Bool) (range : Word) (keys : KeySet)
  /-- KEY_ERASE (R444): KEY_ERASE zeroizes a range's key set and pushes the erase. -/
  | keyErase (q : Requester) (tag : Byte) (range : Word)
  /-- FW_LOAD (R496): FW_LOAD writes image bytes into the custodian's inactive slot. -/
  | fwLoad (q : Requester) (tag : Byte) (off : Word) (words : List Word)
  /-- FW_START (R398): FW_START checks the image and starts the fabric-wide rollout. -/
  | fwStart (q : Requester) (tag : Byte) (len : Word)
  /-- FW_ABORT (R496): FW_ABORT stops the rollout. -/
  | fwAbort (q : Requester) (tag : Byte)
  /-- POWER_PROFILE (R560): POWER_PROFILE sets the power profile and cap. -/
  | powerProfile (q : Requester) (tag : Byte) (w1 : Word)
  /-- POWER_STATE (R558): POWER_STATE moves the module to On, Idle, Deep Idle or Off. -/
  | powerState (q : Requester) (tag : Byte) (w1 : Word)
  /-- MODULE_RESET (R498): MODULE_RESET starts the module reset within 10 µs and sends no completion. -/
  | moduleReset (q : Requester) (tag : Byte)
  /-- SANITIZE (R499): SANITIZE erases every block outside the metadata pool, unmaps the map and clears the tier. -/
  | sanitize (q : Requester) (tag : Byte)
  /-- SANITIZE_DONE (R499): The sanitize erases, map rewrite and tier clear have ended and SANITIZE completes. -/
  | sanitizeDone
  /-- PARAM_SAVE (R500): PARAM_SAVE stores the committed start-up parameters in the pantry. -/
  | paramSave (q : Requester) (tag : Byte) (pwd : BitVec 128)
  /-- PARAM_DEFAULT (R500): PARAM_DEFAULT empties the parameter partition. -/
  | paramDefault (q : Requester) (tag : Byte) (pwd : BitVec 128)
  /-- EVLOG_CLEAR (R528): EVLOG_CLEAR empties the event log, shadow log, spill area and drop counters. -/
  | evlogClear (q : Requester) (tag : Byte) (pwd : BitVec 128)
  /-- CTRL_COMMIT (R484): A write of CTRL.COMMIT = 1 requests commit of the page's shadows at the next safe point. -/
  | ctrlCommit (q : Requester) (page : BitVec 12)
  /-- CTRL_LOCK (R486): A write of CTRL.LOCK = 1 locks the page against writes until module reset. -/
  | ctrlLock (q : Requester) (page : BitVec 12)
  /-- CTRL_RESET (R572): A write of CTRL.RESET = 1 starts a unit reset of the page's block, or a module reset on page 0x000. -/
  | ctrlReset (q : Requester) (page : BitVec 12)
  /-- CTRL_RUN (R485): A write of CTRL.RUN sets the block running or quiescing. -/
  | ctrlRun (q : Requester) (page : BitVec 12) (run : Bool)
  /-- QUIESCE_DONE (R485): With RUN = 0, the block finishes its work in flight and sets QUIESCED. -/
  | quiesceDone (page : BitVec 12)
  /-- EVT_STAT_W1C (R510): A W1C write clears event bits, which latch again if their condition is still LIVE. -/
  | evtStatW1c (q : Requester) (page : BitVec 12) (hi : Bool) (w : Word)
  /-- EVT_FORCE_WRITE (R520): A write of 1 to EVT_FORCE raises the source as forced. -/
  | evtForceWrite (q : Requester) (page : BitVec 12) (hi : Bool) (w : Word)
  /-- PERF_CTL_CLEAR (R484): PERF_CTL.CLEAR zeroes the page's cycle counter, counters and OVF bits. -/
  | perfCtlClear (q : Requester) (page : BitVec 12) (w : Word)
  /-- FREEZE_ALL (R484): PERF_GCTL.FREEZE_ALL freezes the counters of every page within 20 ns. -/
  | freezeAll (q : Requester) (on : Bool)
  /-- CLEAR_ALL (R484): PERF_GCTL.CLEAR_ALL clears the counters of every page within 20 ns. -/
  | clearAll (q : Requester)
  /-- REGISTER_WRITE (R9): A write to a register without its own row takes effect under its access code, or is rejected. -/
  | registerWrite (q : Requester) (addr : BitVec 24) (width : Nat) (w : Word)
  /-- EVENT_SOURCE_LATCH (R509): FLT takes latched sources in fixed order, classifies them, reacts, captures FLT_FIRST and records. -/
  | eventSourceLatch
  /-- FENCE_REACTION_END (R513): No request remains issued to a fenced domain; STATUS.FENCED is set and the consequential window timer starts. -/
  | fenceReactionEnd (dom : BitVec 4) (inst : BitVec 20)
  /-- CONSEQUENTIAL_WINDOW_EXPIRY (R515): The consequential window closes and the domain's sources are handled normally again. -/
  | consequentialWindowExpiry (dom : BitVec 4) (inst : BitVec 20)
  /-- RECORD_HOLDOFF_EXPIRY (R522): The record hold-off of a CE or Info source ends and its next occurrence is recorded. -/
  | recordHoldoffExpiry (src : BitVec 18)
  /-- SAFE_STATE (R518): An FT source or an FLT self-error enters the safe state and starts its flush. -/
  | safeState (cause : BitVec 3)
  /-- SAFE_FLUSH_END (R518): The safe-state flush steps end and the module enters Hold. -/
  | safeFlushEnd
  /-- SAFE_FLUSH_TIMEOUT (R540): The safe-state flush timeout expires and Hold is entered with unsaved pages. -/
  | safeFlushTimeout
  /-- FLT_INJ_WRITE (R521): In factory test mode, FLT_INJ injects a self-fault, domain fence or pantry part failure. -/
  | fltInjWrite (q : Requester) (w : Word)
  /-- EVR_CURSOR_WRITE (R527): An EVR_CURSOR write copies the named slot into the window. -/
  | evrCursorWrite (q : Requester) (w : Word)
  /-- EVR_NEXT_NEXT (R527): The cursor moves to the next newer record. -/
  | evrNextNext (q : Requester)
  /-- EVR_NEXT_OLDEST (R527): The cursor moves to the oldest record. -/
  | evrNextOldest (q : Requester)
  /-- EVR_NEXT_NEWEST (R527): The cursor moves to the newest record. -/
  | evrNextNewest (q : Requester)
  /-- SPILL_PAGE_EXPIRY (R529): 100 ms after a spill page's first record, the page is programmed part-full. -/
  | spillPageExpiry
  /-- PANTRY_WRITE (R533): A pantry write goes to PA then PB with read-back, retrying or failing parts. -/
  | pantryWrite (key : BitVec 32) (value : BitVec 64) (fails : List (Bool × Nat))
  /-- PANTRY_RECALL (R537): Pantry recall decides each record between the parts and writes the winning copies back. -/
  | pantryRecall
  /-- RECALL_DONE (R537): Recall ends, or at 35 ms counts unread parts as failed, and shadowed records are copied out. -/
  | recallDone (unreadPa unreadPb : Bool)
  /-- OPSEC_WRITE_EXPIRY (R532): Every 60 s the operating seconds are written to counter ring 1. -/
  | opsecWriteExpiry
  /-- UNLOCK_READ (R535): PAN_PWCTL unlock read presents a read password for the selected partition. -/
  | unlockRead (q : Requester)
  /-- UNLOCK_WRITE (R535): PAN_PWCTL unlock write presents a write password. -/
  | unlockWrite (q : Requester)
  /-- SET_READ_PASSWORD (R535): PAN_PWCTL sets a partition's read password. -/
  | setReadPassword (q : Requester)
  /-- SET_WRITE_PASSWORD (R535): PAN_PWCTL sets a partition's write password. -/
  | setWritePassword (q : Requester)
  /-- LOCK_UNLOCKS (R535): PAN_PWCTL locks every unlock of the requester. -/
  | lockUnlocks (q : Requester)
  /-- PASSWORD_HOLD_EXPIRY (R535): The 1 s hold after 8 wrong passwords ends. -/
  | passwordHoldExpiry
  /-- ADC_SCAN_ROUND (R542): Each 200 µs round auto-zeroes and samples every channel, declaring rail faults after three bad samples. -/
  | adcScanRound (mv : AdcRound)
  /-- SEQUENCER_STEP_DONE (R544): A sequencer step's rails are in window or below 10 %, and the next step runs. -/
  | sequencerStepDone
  /-- SEQUENCER_STEP_TIMEOUT (R546): A step passes PWR_TMO.STEP; power-up fails and is retried once, or power-down moves on. -/
  | sequencerStepTimeout (ch : Fin 40)
  /-- MIN_OFF_TIME_EXPIRY (R545): The minimum off time passes and power-up may begin. -/
  | minOffTimeExpiry
  /-- POWER_UP_START (R545): The conditions of R32 hold with the module Off, and power-up starts within 1 ms. -/
  | powerUpStart
  /-- ORDERLY_FLUSH_END (R549): The orderly or reset flush ends and the reverse sequence or reset follows. -/
  | orderlyFlushEnd
  /-- ORDERLY_FLUSH_TIMEOUT (R549): The flush has not ended within 10 s and the reverse sequence runs regardless. -/
  | orderlyFlushTimeout
  /-- INPUT_TRIP (R550): The fast comparator trips below 38 V, or VIN is high, and the emergency flush starts. -/
  | inputTrip (high : Bool)
  /-- FLUSH_DRAIN_END (R553): The emergency flush's Drain phase ends and programming into Reserve sets starts. -/
  | flushDrainEnd
  /-- FLUSH_PROGRAM_END (R553): No dirty page remains and the journal and counters are written. -/
  | flushProgramEnd
  /-- FLUSH_JOURNAL_END (R553): The journal is durable and the reverse sequence runs toward Off. -/
  | flushJournalEnd (energyJ : BitVec 10)
  /-- FLUSH_RELEASE_PHASE_END (R553): The reverse sequence of the flush reaches Off. -/
  | flushReleasePhaseEnd
  /-- FLUSH_SHORT (R554): VHOLD falls below vmin during the flush and every converter is released. -/
  | flushShort
  /-- HOLDUP_MEASURE_SCHEDULE (R551): The 24 h schedule, a fault retry after 10 min, or the cold-start rule starts a bank measurement. -/
  | holdupMeasureSchedule
  /-- CAPPED_LOOP_TICK (R561): Every 1 ms the Capped loop adjusts the program rate cap and the admission limit. -/
  | cappedLoopTick (watts : BitVec 10)
  /-- AUTO_IDLE_ENTRY (R558): In Efficiency, 10 µs without a slice request gates the slice and media domains. -/
  | autoIdleEntry
  /-- DOMAIN_UNGATE (R558): Work addressed to a gated domain ungates it. -/
  | domainUngate (dom : Fin 25)
  /-- DOMAIN_REGATE (R558): A domain without work for 1 µs is gated again. -/
  | domainRegate (dom : Fin 25)
  /-- DEEP_IDLE_WAKE (R558): A request or command wakes the module from Deep Idle within 80 µs. -/
  | deepIdleWake
  /-- THERMAL_ROUND (R562): Each 10 ms round reads all temperature channels and applies warnings, throttles, rise checks and sensor checks. -/
  | thermalRound (temps : List Reading)
  /-- THROTTLE_GRACE_EXPIRY (R564): The request still holds after THM_CFG.GRACE and the limit is enforced. -/
  | throttleGraceExpiry
  /-- THROTTLE_RELEASE_EXPIRY (R564): Every sensor has stayed 5 °C below its level for 1 s and the limit is lifted. -/
  | throttleReleaseExpiry
  /-- THERM_SHUT (R567): A sensor reads at or above TRIP in two rounds; the module flushes and enters Thermal-off. -/
  | thermShut (ch : Fin 164) (temp : Reading)
  /-- THERM_RESTART (R567): All sensors stay below the restart threshold for 10 s and the module powers up or goes Off. -/
  | thermRestart
  /-- PLL_LOCK_LOSS (R570): The root PLL loses lock; domains stop and relock is tried for 1 ms. -/
  | pllLockLoss
  /-- PLL_RELOCK (R570): The PLL relocks; domains restart, LOCK_LOSS is raised and the safe state is entered. -/
  | pllRelock
  /-- PLL_RELOCK_TIMEOUT (R570): No relock within 1 ms and every converter is released. -/
  | pllRelockTimeout
  /-- REFERENCE_FAILURE (R570): The reference leaves 100 MHz ± 1 %; AON runs from the ring oscillator and converters are released. -/
  | referenceFailure
  /-- SUBSYSTEM_RESET_PRT (R571): CKR_RST.PRT resets every port block, with heads acting as under a conventional reset. -/
  | subsystemResetPrt (q : Requester)
  /-- SUBSYSTEM_RESET_SVE (R571): CKR_RST.SVE resets the service engines and ends running operations with ABORTED. -/
  | subsystemResetSve (q : Requester)
  /-- UNIT_RESET_END (R572): A unit reset's initialisation ends and FENCED clears. -/
  | unitResetEnd (page : BitVec 12)
  /-- AON_RESET (R571): VAON enters its window after 48 V is applied, and the AON domain leaves reset. -/
  | aonReset (straps : BitVec 2)
  /-- STARTUP_RELEASE (R573): Domains are released and pantry recall starts. -/
  | startupRelease
  /-- STARTUP_BRINGUP_END (R573): Population is decided and the survey has started, so translation start-up begins. -/
  | startupBringupEnd
  /-- STARTUP_ENABLE (R573): After Settle the line cache is enabled and heads are enabled, reaching On. -/
  | startupEnable
  /-- PWR_LOGCUR_WRITE (R557): A PWR_LOGCUR write copies the slot into the supervisor log window. -/
  | pwrLogcurWrite (q : Requester) (w : Word)
  /-- PWR_LOG_NEXT (R557): The supervisor log cursor moves to the next newer record. -/
  | pwrLogNext (q : Requester)
  /-- PWR_LOG_OLDEST (R557): The supervisor log cursor moves to the oldest record. -/
  | pwrLogOldest (q : Requester)
  /-- PWR_LOG_NEWEST (R557): The supervisor log cursor moves to the newest record. -/
  | pwrLogNewest (q : Requester)
  /-- PWR_LOG_CLEAR (R557): With the write password, the supervisor log is cleared. -/
  | pwrLogClear (q : Requester)
  /-- PWR_LOG_COMPAT_WRITE (R557): A write changing COMPAT clears the log and rewrites its header. -/
  | pwrLogCompatWrite (q : Requester) (compat : Bool)
  /-- REGISTER_READ (R7): A 32-bit register read through I3C or a head's BAR2 window fills or empties the requester's holding copy, resets read-to-clear counters such as ADDR_UNBOUND and EVT_COUNT, and re-arms the UNBOUND, UNMAPPED and DENIED hold-offs. -/
  | registerRead (q : Requester) (addr : BitVec 24) (width : Nat)
  /-- PFAIL_N_RISE (R550): PFAIL_N rises after its filter time, and the early warning ends once VIN is also in window. -/
  | pfailNRise
  /-- KEY_SLOT_RELOAD_DONE (R448): A fenced key slot's reload from its stored record succeeds within 50 µs, and reads and releases of the range resume. -/
  | keySlotReloadDone (r : Fin 64)
  /-- RECEIVER_DETECTION_DONE (R321): Receiver detection finds a partner on lane 0 or the highest lane, so the Detect phase ends and the port enters Base. -/
  | receiverDetectionDone (port : Fin 512) (lanes : BitVec 8)
  /-- DISCARD_CHECK_ANSWER (R99): An owner's answer to a discard range check, or its confirmation of the pages it discarded, reaches the module that runs the discard. -/
  | discardCheckAnswer (dev : Dev) (tag : BitVec 16) (confirm : Bool) (status : Status) (pages : Word)
  /-- DEBUG_ACCESS (R453): A debug-class access through the test access port reaches memory through Crust, or reaches offsets 0x100–0xFFF of a debug page, checked against MEM, MEMW and CRS_DBG_KR. -/
  | debugAccess (a : DebugAccess)
deriving DecidableEq, Repr

end Sys2Proof
end

