-- ==== Sys2Proof/Decode.lean ====
section
/-! DEFINITION. The module's commands have no table words: the table of operations and events gives no row any bits. -/

namespace Sys2Proof

/-- The command a table word spells: none, since no row of the table has bits (log 13). -/
def decodeTableWord (_nbits _w : Nat) : Option Instr := none

end Sys2Proof
end

