-- ==== Sys2Proof/Machine/Crypto.lean ====
section
/-! DEFINITION. The functions the spec takes from other standards: AES-256 (FIPS 197), XTS (IEEE 1619), GHASH
(SP 800-38D), SHA-256 (FIPS 180-4), and the cyclic checks of R257 and R556. A block is a list of bytes in memory order.
The constants are those of the standards (log 11). -/

namespace Sys2Proof.Machine

/-- The `n` bytes of a number, least significant first (R11). -/
def bytesLE : Nat → Nat → List Nat
  | 0, _ => []
  | n + 1, x => x % 256 :: bytesLE n (x / 256)

/-- The number whose bytes, least significant first, are given. -/
def ofBytesLE : List Nat → Nat
  | [] => 0
  | b :: t => b % 256 + 256 * ofBytesLE t

/-- The number whose bytes, most significant first, are given. -/
def ofBytesBE (l : List Nat) : Nat := l.foldl (fun a b => 256 * a + b % 256) 0

/-- The `n` bytes of a number, most significant first. -/
def bytesBE (n x : Nat) : List Nat := (bytesLE n x).reverse

/-- Bytewise exclusive or. -/
def xorBytes (a b : List Nat) : List Nat := List.zipWith (· ^^^ ·) a b

/-! ### AES-256 -/

/-- Multiplication by x in the field of AES. -/
def xtime (a : Nat) : Nat := if a < 128 then 2 * a else (2 * a) % 256 ^^^ 0x1b

/-- Multiplication in the field of AES, over the low `n` bits of `b`. -/
def gmul : Nat → Nat → Nat → Nat
  | 0, _, _ => 0
  | n + 1, a, b => (if b % 2 = 1 then a else 0) ^^^ gmul n (xtime a) (b / 2)

/-- `a` to the power `2^n - 2` for `n = 8`: the inverse, 0 for 0. -/
def ginv (a : Nat) : Nat :=
  let sq := fun x => gmul 8 x x
  let p2 := sq a
  let p4 := sq p2
  let p8 := sq p4
  let p16 := sq p8
  let p32 := sq p16
  let p64 := sq p32
  let p128 := sq p64
  [p4, p8, p16, p32, p64, p128].foldl (gmul 8) p2

/-- Rotate a byte left. -/
def rotByte (a n : Nat) : Nat := (a * 2 ^ n) % 256 + a / 2 ^ (8 - n)

/-- SubBytes of one byte. -/
def sbox (a : Nat) : Nat :=
  let b := ginv a
  b ^^^ rotByte b 1 ^^^ rotByte b 2 ^^^ rotByte b 3 ^^^ rotByte b 4 ^^^ 0x63

/-- InvSubBytes of one byte. -/
def invSbox (a : Nat) : Nat := ginv (rotByte a 1 ^^^ rotByte a 3 ^^^ rotByte a 6 ^^^ 0x05)

/-- One word of the key schedule from the one before, the one eight before, its number and the round constant. -/
def keyWord (i rc : Nat) (prev back : List Nat) : List Nat :=
  let t := if i % 8 = 0 then xorBytes ((prev.drop 1 ++ prev.take 1).map sbox) [rc, 0, 0, 0]
    else if i % 8 = 4 then prev.map sbox else prev
  xorBytes back t

/-- The key schedule: `n` further words, from the words so far, newest first. -/
def keyWords : Nat → Nat → Nat → List (List Nat) → List (List Nat)
  | 0, _, _, ws => ws
  | n + 1, i, rc, ws =>
    keyWords n (i + 1) (if i % 8 = 0 then xtime rc else rc) (keyWord i rc (ws.headD []) ((ws[7]?).getD []) :: ws)

/-- The 15 round keys of a 32-byte key. -/
def roundKeys (key : List Nat) : List (List Nat) :=
  let first := (List.range 8).map (fun j => (key.drop (4 * j)).take 4)
  let ws := (keyWords 52 8 1 first.reverse).reverse
  (List.range 15).map (fun r => ((ws.drop (4 * r)).take 4).flatten)

/-- ShiftRows by `k` columns per row: 1 forward, 3 backward. -/
def shiftRows (k : Nat) (b : List Nat) : List Nat :=
  (List.range 16).map (fun i => (b[(i % 4) + 4 * ((i / 4 + k * (i % 4)) % 4)]?).getD 0)

/-- MixColumns with the given first row of the matrix. -/
def mixColumns (row : List Nat) (b : List Nat) : List Nat :=
  (List.range 16).map (fun i =>
    (List.range 4).foldl (fun a j =>
      a ^^^ gmul 8 ((b[4 * (i / 4) + j]?).getD 0) ((row[(j + 4 - i % 4) % 4]?).getD 0)) 0)

/-- AES-256 of a 16-byte block. -/
def aesEnc (key block : List Nat) : List Nat :=
  match roundKeys key with
  | [] => block
  | k0 :: ks =>
    let mid := (ks.take 13).foldl (fun b k => xorBytes (mixColumns [2, 3, 1, 1] (shiftRows 1 (b.map sbox))) k) (xorBytes block k0)
    xorBytes (shiftRows 1 (mid.map sbox)) (ks.getLastD [])

/-- The inverse of AES-256. -/
def aesDec (key block : List Nat) : List Nat :=
  match (roundKeys key).reverse with
  | [] => block
  | kl :: ks =>
    let mid := (ks.take 13).foldl (fun b k => mixColumns [14, 11, 13, 9] (xorBytes ((shiftRows 3 b).map invSbox) k)) (xorBytes block kl)
    xorBytes ((shiftRows 3 mid).map invSbox) (ks.getLastD [])

/-! ### XTS-AES-256 of a line (R431) -/

/-- Multiply a tweak by alpha (IEEE 1619). -/
def xtsNext (t : Nat) : Nat := (2 * t) % 2 ^ 128 ^^^ (if t < 2 ^ 127 then 0 else 0x87)

/-- The four tweaks of a line. -/
def xtsTweaks (k2 : List Nat) (a : Nat) : List Nat :=
  let t0 := ofBytesLE (aesEnc k2 (bytesLE 16 a))
  [t0, xtsNext t0, xtsNext (xtsNext t0), xtsNext (xtsNext (xtsNext t0))]

/-- Run a block function under the tweaks over the four blocks of a line. -/
def xtsLine (f : List Nat → List Nat) (tw : List Nat) (l : Line) : Line :=
  let blk := fun (i : Nat) =>
    let t := bytesLE 16 ((tw[i]?).getD 0)
    xorBytes (f (xorBytes (bytesLE 16 (l.toNat / 2 ^ (128 * i))) t)) t
  BitVec.ofNat 512 (ofBytesLE (blk 0 ++ blk 1 ++ blk 2 ++ blk 3))

/-- The ciphertext of a line (R431). -/
def encryptLine (k : KeySet) (a : LineAddr) (l : Line) : Line :=
  xtsLine (aesEnc (bytesLE 32 k.k1.toNat)) (xtsTweaks (bytesLE 32 k.k2.toNat) a.toNat) l

/-- The plaintext of a line (R431). -/
def decryptLine (k : KeySet) (a : LineAddr) (l : Line) : Line :=
  xtsLine (aesDec (bytesLE 32 k.k1.toNat)) (xtsTweaks (bytesLE 32 k.k2.toNat) a.toNat) l

/-! ### The integrity tag (R433) -/

/-- Multiplication in the field of GHASH: the bits of `x` from the most significant on, `n` of them left. -/
def ghashMul : Nat → Nat → Nat → Nat
  | 0, _, _ => 0
  | n + 1, x, v =>
    (if x / 2 ^ n % 2 = 1 then v else 0) ^^^ ghashMul n x (if v % 2 = 0 then v / 2 else (v / 2) ^^^ (0xe1 * 2 ^ 120))

/-- GHASH over blocks. -/
def ghash (h : Nat) (blocks : List (List Nat)) : Nat :=
  blocks.foldl (fun y b => ghashMul 128 (y ^^^ ofBytesBE b) h) 0

/-- The 56-bit tag of a line's ciphertext (R433). -/
def lineTag56 (k : KeySet) (a : LineAddr) (kr : Nat) (c : Line) : BitVec 56 :=
  let kt := bytesLE 32 k.kt.toNat
  let h := ofBytesBE (aesEnc kt (List.replicate 16 0))
  let blk := fun (i : Nat) => bytesLE 16 (c.toNat / 2 ^ (128 * i))
  let s := bytesBE 16 (ghash h [blk 0, blk 1, blk 2, blk 3, bytesLE 7 a.toNat ++ [kr] ++ List.replicate 8 0])
  let s := match s with
    | [] => []
    | b :: t => (b ^^^ 1) :: t
  BitVec.ofNat 56 (ofBytesLE ((aesEnc kt s).take 7))

/-! ### SHA-256 -/

/-- The round constants of SHA-256. -/
def shaK : List Nat :=
  [0x428a2f98, 0x71374491, 0xb5c0fbcf, 0xe9b5dba5, 0x3956c25b, 0x59f111f1, 0x923f82a4, 0xab1c5ed5,
   0xd807aa98, 0x12835b01, 0x243185be, 0x550c7dc3, 0x72be5d74, 0x80deb1fe, 0x9bdc06a7, 0xc19bf174] ++
  [0xe49b69c1, 0xefbe4786, 0x0fc19dc6, 0x240ca1cc, 0x2de92c6f, 0x4a7484aa, 0x5cb0a9dc, 0x76f988da,
   0x983e5152, 0xa831c66d, 0xb00327c8, 0xbf597fc7, 0xc6e00bf3, 0xd5a79147, 0x06ca6351, 0x14292967] ++
  [0x27b70a85, 0x2e1b2138, 0x4d2c6dfc, 0x53380d13, 0x650a7354, 0x766a0abb, 0x81c2c92e, 0x92722c85,
   0xa2bfe8a1, 0xa81a664b, 0xc24b8b70, 0xc76c51a3, 0xd192e819, 0xd6990624, 0xf40e3585, 0x106aa070] ++
  [0x19a4c116, 0x1e376c08, 0x2748774c, 0x34b0bcb5, 0x391c0cb3, 0x4ed8aa4a, 0x5b9cca4f, 0x682e6ff3,
   0x748f82ee, 0x78a5636f, 0x84c87814, 0x8cc70208, 0x90befffa, 0xa4506ceb, 0xbef9a3f7, 0xc67178f2]

/-- The initial hash value of SHA-256. -/
def shaInit : List Word :=
  [0x6a09e667, 0xbb67ae85, 0x3c6ef372, 0xa54ff53a, 0x510e527f, 0x9b05688c, 0x1f83d9ab, 0x5be0cd19]

/-- Extend the message schedule by `n` words, newest first. -/
def shaSchedule : Nat → List Word → List Word
  | 0, w => w
  | n + 1, w =>
    let g := fun (i : Nat) => (w[i]?).getD 0
    let s1 := (g 1).rotateRight 17 ^^^ (g 1).rotateRight 19 ^^^ (g 1 >>> 10)
    let s0 := (g 14).rotateRight 7 ^^^ (g 14).rotateRight 18 ^^^ (g 14 >>> 3)
    shaSchedule n ((s1 + g 6 + s0 + g 15) :: w)

/-- One round of SHA-256. -/
def shaRound (v : List Word) (kw : Word) : List Word :=
  match v with
  | [a, b, c, d, e, f, g, h] =>
    let t1 := h + (e.rotateRight 6 ^^^ e.rotateRight 11 ^^^ e.rotateRight 25) + ((e &&& f) ^^^ (~~~e &&& g)) + kw
    let t2 := (a.rotateRight 2 ^^^ a.rotateRight 13 ^^^ a.rotateRight 22) + ((a &&& b) ^^^ (a &&& c) ^^^ (b &&& c))
    [t1 + t2, a, b, c, d + t1, e, f, g]
  | _ => v

/-- The padding that follows a message of `n` bytes: 0x80, zeros, and its length in bits, up to a whole block. -/
def shaPad (n : Nat) : List Nat := 0x80 :: (List.replicate ((119 - n % 64) % 64) 0 ++ bytesBE 8 (8 * n))

/-- The hash value after one more block of 64 bytes. -/
def shaBlock (h : List Word) (block : List Nat) : List Word :=
  let w0 := (List.range 16).map (fun i => BitVec.ofNat 32 (ofBytesBE ((block.drop (4 * i)).take 4)))
  let w := (shaSchedule 48 w0.reverse).reverse
  List.zipWith (· + ·) h ((List.zipWith (fun k x => BitVec.ofNat 32 k + x) shaK w).foldl shaRound h)

/-- The blocks of `n` bytes of a list, `k` of them. -/
def blocksOf (n : Nat) : Nat → List Nat → List (List Nat)
  | 0, _ => []
  | k + 1, l => l.take n :: blocksOf n k (l.drop n)

/-- SHA-256 of a message. -/
def sha256 (msg : List Nat) : BitVec 256 :=
  let p := msg ++ shaPad msg.length
  let out := (blocksOf 64 (p.length / 64) p).foldl shaBlock shaInit
  BitVec.ofNat 256 (out.foldl (fun a x => a * 2 ^ 32 + x.toNat) 0)

/-! ### Key derivation (R445, R455) -/

/-- HMAC-SHA-256 under a key of at most 64 bytes. -/
def hmac (key msg : List Nat) : List Nat :=
  let k := key ++ List.replicate (64 - key.length) 0
  let inner := bytesBE 32 (sha256 (k.map (· ^^^ 0x36) ++ msg)).toNat
  bytesBE 32 (sha256 (k.map (· ^^^ 0x5c) ++ inner)).toNat

/-- The KDF of SP 800-108 in counter mode with HMAC-SHA-256: `n` bytes from a key, a label and a context (R455, log 11). -/
def kdf (key label context : List Nat) (n : Nat) : List Nat :=
  (((List.range ((n + 31) / 32)).flatMap (fun i =>
    hmac key (bytesBE 4 (i + 1) ++ label ++ [0] ++ context ++ bytesBE 4 (8 * n)))).take n)

/-- The bytes of an ASCII label. -/
def ascii (t : String) : List Nat := t.toList.map Char.toNat

/-! ### AES-256-GCM (R330, R445, SP 800-38D) -/

/-- A message in blocks of 16 bytes, the last one padded with zeros. -/
def gcmBlocks (l : List Nat) : List (List Nat) :=
  (blocksOf 16 ((l.length + 15) / 16) l).map (fun b => b ++ List.replicate (16 - b.length) 0)

/-- The counter block of a 96-bit IV. -/
def gcmCounter (iv : List Nat) (i : Nat) : List Nat := iv ++ bytesBE 4 i

/-- AES-256-GCM in counter mode: the same function encrypts and decrypts. -/
def gcmCrypt (key iv msg : List Nat) : List Nat :=
  let bs := blocksOf 16 ((msg.length + 15) / 16) msg
  ((List.range bs.length).zip bs).flatMap (fun e => xorBytes e.2 (aesEnc key (gcmCounter iv (e.1 + 2))))

/-- The authentication tag of a ciphertext and its additional data. -/
def gcmTag (key iv aad ct : List Nat) : List Nat :=
  let h := ofBytesBE (aesEnc key (List.replicate 16 0))
  let lens := bytesBE 8 (8 * aad.length) ++ bytesBE 8 (8 * ct.length)
  xorBytes (bytesBE 16 (ghash h (gcmBlocks aad ++ gcmBlocks ct ++ [lens]))) (aesEnc key (gcmCounter iv 1))

/-! ### Cyclic checks -/

/-- CRC-32 of R257: reflected 0xEDB88320, initial and final inversion; one byte is 8 shifts. -/
def crc32Byte : Nat → Nat → Nat
  | 0, c => c
  | n + 1, c => crc32Byte n (if c % 2 = 1 then (c / 2) ^^^ 0xedb88320 else c / 2)

/-- CRC-32 over bytes (R257). -/
def crc32 (l : List Nat) : Nat := (l.foldl (fun c b => crc32Byte 8 (c ^^^ b)) 0xffffffff) ^^^ 0xffffffff

/-- CRC-16 of R556: polynomial 0x1021, not reflected; one byte is 8 shifts. -/
def crc16Byte : Nat → Nat → Nat
  | 0, c => c
  | n + 1, c => crc16Byte n (if c < 0x8000 then 2 * c else (2 * c) % 0x10000 ^^^ 0x1021)

/-- CRC-16 over bytes (R556). -/
def crc16 (l : List Nat) : Nat := l.foldl (fun c b => crc16Byte 8 (c ^^^ (b * 256))) 0xffff

end Sys2Proof.Machine
end

