-- ==== Sys2Proof/Config.lean ====
section
/-! DEFINITION. What the spec leaves to chance or to an implementation: values without a body (log 3, log 7, log 12). -/

namespace Sys2Proof.Config

/-- A free value (log 7): a nonce, a key, a random draw, or a value the spec leaves open; applied to the counter
`State.free`, which every use advances. -/
opaque freeNat : Nat → Nat

/-- 10 to a power, as the drift model of R226 uses it (log 12). -/
opaque pow10 : Rat → Rat

/-- 2 to a power, as the drift model of R226 uses it (log 12). -/
opaque pow2 : Rat → Rat

/-- Base-10 logarithm, as the drift model of R226 uses it (log 12). -/
opaque log10 : Rat → Rat

/-- The minor revision, from one-time fuses (R484, log 3). -/
opaque minor : BitVec 8

/-- The module serial number, from the identity certificate (R362, log 3). -/
opaque serial : BitVec 64

/-- The first of the two Lorlek root digests in Crust's ROM (R456, log 11). -/
opaque lorlekRoot0 : BitVec 256

/-- The second of them (R456, log 11). -/
opaque lorlekRoot1 : BitVec 256

/-- The root digests that Crust accepts (R456). -/
def lorlekRoots : List (BitVec 256) := [lorlekRoot0, lorlekRoot1]

/-- Whether the signer chain of an image is valid under R456, its leaf issued by the Kolen firmware CA (R464, log 11). -/
opaque fwChainOk : List Nat → Bool

/-- Whether a signature over the signed bytes of an image verifies under its signer chain (R463, R464, log 11). -/
opaque fwSigOk : List Nat → List Nat → List Nat → Bool

/-- The P-256 shared secret Z of the exchange of two ephemeral public keys, this module's first (R455, log 11). -/
opaque ecdh : BitVec 512 → BitVec 512 → BitVec 256

/-- The root key in one-time fuses (R458, log 11). -/
opaque rootKey : BitVec 256

/-- The identity public key, generated at manufacture (R458, log 11). -/
opaque idKey : BitVec 512

/-- The DER bytes of certificate slot 0, the Lorlek chain (R458, log 11). -/
opaque slot0Chain : List Nat

/-- The DER bytes of an owner chain, of which a command carries what R456 and R458 judge (log 11). -/
opaque ownerChain : List Nat → List Nat

/-- The boot ROM of the service cores (R460, log 11). -/
opaque bootRom : List Nat

/-- The endpoint UUID (R461, log 11). -/
opaque uuid : BitVec 128

/-- The effects that the Command Effects Log gives an opcode (R421, log 14). -/
opaque celEffect : Nat → Nat

/-- The Lorlek symbol ECC of a burst: its check bits over the 64 B of data and bits [63:0] of the side data (R186, R187, log 89). -/
opaque symbolEcc : BitVec 512 → BitVec 64 → BitVec 64

/-- The 30 parity symbols of the RS(544,514) code of IEEE 802.3 over 514 symbols (R319, log 93). -/
opaque rsParity : List (BitVec 10) → List (BitVec 10)

/-- The LDPC parity of a crumb's codeword over its information bytes (R219, log 89). -/
opaque ldpc : List Nat → BitVec 432

end Sys2Proof.Config
end

