-- ==== Sys2Proof/Machine/RegMap.lean ====
section
/-! DEFINITION. The register map: which page holds which block (R577), the words of every block's registers with the
access code of each bit and their reset values (the field tables of the chapters; a dash reads 0 until start-up sets
it, log 3), and the event sources of each page with class and severity. -/

namespace Sys2Proof.Machine

/-- The kinds of page (R577). -/
inductive PageKind where
  /-- MGT (0x000) -/
  | mgt
  /-- CKR (0x001) -/
  | ckr
  /-- PWR (0x002) -/
  | pwr
  /-- thermal (0x003) -/
  | thm
  /-- FLT (0x004) -/
  | flt
  /-- event recorder (0x005) -/
  | evr
  /-- pantry (0x006) -/
  | pan
  /-- CRS page 0 (0x008) -/
  | crs0
  /-- CRS page 1 (0x009) -/
  | crs1
  /-- CRS page 2 (0x00A) -/
  | crs2
  /-- CRS page 3 (0x00B) -/
  | crs3
  /-- CRS pages 4 to 7, header only (0x00C–0x00F) -/
  | crsx
  /-- slices (0x010–0x017) -/
  | slc
  /-- DTC channels (0x018–0x027) -/
  | dtcCh
  /-- DTC common (0x028) -/
  | dtc
  /-- MTE, address and region registers (0x030) -/
  | mte
  /-- rewind (0x031) -/
  | rw
  /-- media channels (0x040–0x07F) -/
  | mchCh
  /-- MCH common (0x080) -/
  | mch
  /-- port blocks (0x100–0x13F) -/
  | prt
  /-- PRT common (0x140) -/
  | prtc
  /-- FXB (0x180) -/
  | fxb
  /-- routing table window (0x181) -/
  | fxbRt
  /-- CXL heads (0x1C0–0x1FF) -/
  | head
  /-- SVE custody (0x200) -/
  | sve
  /-- service cores (0x201–0x208) -/
  | core
  /-- performance global (0x300) -/
  | perfg
  /-- debug pages (0xF00–0xF0F) -/
  | dbg
deriving DecidableEq, Repr

/-- The kind of a page, none where the page holds no block (R577, R578). -/
def pageKind (p : Nat) : Option PageKind :=
  if p = 0x0 then some .mgt
  else if p = 0x1 then some .ckr
  else if p = 0x2 then some .pwr
  else if p = 0x3 then some .thm
  else if p = 0x4 then some .flt
  else if p = 0x5 then some .evr
  else if p = 0x6 then some .pan
  else if p = 0x8 then some .crs0
  else if p = 0x9 then some .crs1
  else if p = 0xa then some .crs2
  else if p = 0xb then some .crs3
  else if 0xc ≤ p && p ≤ 0xf then some .crsx
  else if 0x10 ≤ p && p ≤ 0x17 then some .slc
  else if 0x18 ≤ p && p ≤ 0x27 then some .dtcCh
  else if p = 0x28 then some .dtc
  else if p = 0x30 then some .mte
  else if p = 0x31 then some .rw
  else if 0x40 ≤ p && p ≤ 0x7f then some .mchCh
  else if p = 0x80 then some .mch
  else if 0x100 ≤ p && p ≤ 0x13f then some .prt
  else if p = 0x140 then some .prtc
  else if p = 0x180 then some .fxb
  else if p = 0x181 then some .fxbRt
  else if 0x1c0 ≤ p && p ≤ 0x1ff then some .head
  else if p = 0x200 then some .sve
  else if 0x201 ≤ p && p ≤ 0x208 then some .core
  else if p = 0x300 then some .perfg
  else if 0xf00 ≤ p && p ≤ 0xf0f then some .dbg
  else none

/-- ID.TYPE: the lowest page of the pages of the kind (R484, R577). -/
def PageKind.type : PageKind → Nat
  | .mgt => 0x0
  | .ckr => 0x1
  | .pwr => 0x2
  | .thm => 0x3
  | .flt => 0x4
  | .evr => 0x5
  | .pan => 0x6
  | .crs0 => 0x8
  | .crs1 => 0x8
  | .crs2 => 0x8
  | .crs3 => 0x8
  | .crsx => 0x8
  | .slc => 0x10
  | .dtcCh => 0x18
  | .dtc => 0x28
  | .mte => 0x30
  | .rw => 0x31
  | .mchCh => 0x40
  | .mch => 0x80
  | .prt => 0x100
  | .prtc => 0x140
  | .fxb => 0x180
  | .fxbRt => 0x181
  | .head => 0x1c0
  | .sve => 0x200
  | .core => 0x201
  | .perfg => 0x300
  | .dbg => 0xf00

/-- CAP.SHADOW: the page holds RWS fields (R484). -/
def PageKind.shadow : PageKind → Bool
  | .slc | .mte | .mch | .fxb => true
  | .mgt | .ckr | .pwr | .thm | .flt | .evr | .pan | .crs0 | .crs1 | .crs2 | .crs3 | .crsx | .dtcCh | .dtc | .rw | .mchCh | .prt | .prtc | .fxbRt | .head | .sve | .core | .perfg | .dbg => false

/-- The named event sources; `cfgReject` is bit 0 of every page. -/
inductive Source where
  | cfgReject
  /-- CMD_OVERFLOW -/
  | mgtCmdOverflow
  /-- CMD_COLLIDE -/
  | mgtCmdCollide
  /-- CMD_ABANDON -/
  | mgtCmdAbandon
  /-- CPL_ABANDON -/
  | mgtCplAbandon
  /-- I3C_PROTO -/
  | mgtI3cProto
  /-- BAD_OP -/
  | mgtBadOp
  /-- UNMAPPED -/
  | mgtUnmapped
  /-- LOCK_LOSS -/
  | ckrLockLoss
  /-- SUB_RESET -/
  | ckrSubReset
  /-- UNIT_RESET -/
  | ckrUnitReset
  /-- RAIL_FAULT -/
  | pwrRailFault
  /-- RAIL_STOP -/
  | pwrRailStop
  /-- QUAD_RAIL -/
  | pwrQuadRail
  /-- SEQ_FAIL -/
  | pwrSeqFail
  /-- INPUT_TRIP -/
  | pwrInputTrip
  /-- FLUSH_DONE -/
  | pwrFlushDone
  /-- FLUSH_SHORT -/
  | pwrFlushShort
  /-- HOLD_FAULT -/
  | pwrHoldFault
  /-- HOLD_MEAS -/
  | pwrHoldMeas
  /-- PFAIL -/
  | pwrPfail
  /-- ADC_FAIL -/
  | pwrAdcFail
  /-- TEMP_WARN -/
  | thmTempWarn
  /-- THROT -/
  | thmThrot
  /-- THROT_ENF -/
  | thmThrotEnf
  /-- RISE_WARN -/
  | thmRiseWarn
  /-- SENSOR_FAULT -/
  | thmSensorFault
  /-- THERM_SHUT -/
  | thmThermShut
  /-- THERM_RESTART -/
  | thmThermRestart
  /-- PEER_THROT -/
  | thmPeerThrot
  /-- SELF_PARITY -/
  | fltSelfParity
  /-- SELF_MISMATCH -/
  | fltSelfMismatch
  /-- SAFE_STATE -/
  | fltSafeState
  /-- DROP -/
  | evrDrop
  /-- SPILL_AVAIL -/
  | evrSpillAvail
  /-- CLEARED -/
  | evrCleared
  /-- PART_FAIL -/
  | panPartFail
  /-- PANTRY_DOWN -/
  | panPantryDown
  /-- CTR_SAT -/
  | panCtrSat
  /-- DUAL_DIFFER -/
  | panDualDiffer
  /-- PWD_FAIL -/
  | panPwdFail
  /-- PARAM_BAD -/
  | panParamBad
  /-- RECALL_DONE -/
  | panRecallDone
  /-- TAG_RETRY -/
  | crsTagRetry
  /-- TAG_FAIL -/
  | crsTagFail
  /-- LATE_ALARM -/
  | crsLateAlarm
  /-- KR_MISMATCH -/
  | crsKrMismatch
  /-- KEY_SLOT -/
  | crsKeySlot
  /-- KEY_FENCED -/
  | crsKeyFenced
  /-- KEY_MISSING -/
  | crsKeyMissing
  /-- LINK_AUTH -/
  | crsLinkAuth
  /-- FW_REJECT -/
  | crsFwReject
  /-- FW_BAD -/
  | crsFwBad
  /-- DENIED -/
  | crsDenied
  /-- ZEROIZED -/
  | crsZeroized
  /-- TEST_MODE -/
  | crsTestMode
  /-- CRS_HANG -/
  | crsCrsHang
  /-- LC_SRAM -/
  | slcLcSram
  /-- PB_SRAM_CE -/
  | slcPbSramCe
  /-- PB_SRAM_UE -/
  | slcPbSramUe
  /-- LINE_REFUSED -/
  | slcLineRefused
  /-- LOCK_INV -/
  | slcLockInv
  /-- ATOMIC_BAD -/
  | slcAtomicBad
  /-- LSVC_TIMEOUT -/
  | slcLsvcTimeout
  /-- DRAM_CE -/
  | dtcChDramCe
  /-- DRAM_UE -/
  | dtcChDramUe
  /-- DEV_MARK -/
  | dtcChDevMark
  /-- TEMP -/
  | dtcChTemp
  /-- FENCED -/
  | dtcChFenced
  /-- TRAIN_FAIL -/
  | dtcChTrainFail
  /-- REFORM -/
  | dtcReform
  /-- REFORM_TMO -/
  | dtcReformTmo
  /-- SHORTFALL -/
  | dtcShortfall
  /-- BREACH -/
  | dtcBreach
  /-- SHORTFALL_END -/
  | dtcShortfallEnd
  /-- SOCKET_EMPTY -/
  | dtcSocketEmpty
  /-- DIMM_UNUSED -/
  | dtcDimmUnused
  /-- BREACH -/
  | mteBreach
  /-- FULL_REBUILD -/
  | mteFullRebuild
  /-- CKPT_BAD -/
  | mteCkptBad
  /-- RETIRE -/
  | mteRetire
  /-- HDRM_LOW -/
  | mteHdrmLow
  /-- HDRM_CRIT -/
  | mteHdrmCrit
  /-- WSN_END -/
  | mteWsnEnd
  /-- SHADOW_DROP -/
  | mteShadowDrop
  /-- COMMIT_RETRY -/
  | mteCommitRetry
  /-- SEG_LOST -/
  | mteSegLost
  /-- JRN_FULL -/
  | mteJrnFull
  /-- DATA_LOST -/
  | mteDataLost
  /-- MTE_HANG -/
  | mteMteHang
  /-- EXPIRE -/
  | rwExpire
  /-- GUARD_THROT -/
  | rwGuardThrot
  /-- GUARD_FULL -/
  | rwGuardFull
  /-- INDEX_FULL -/
  | rwIndexFull
  /-- OP_TMO -/
  | rwOpTmo
  /-- MIRROR_PART -/
  | rwMirrorPart
  /-- VOID_HIGH -/
  | rwVoidHigh
  /-- RESUMED -/
  | rwResumed
  /-- CRUMB_CE -/
  | mchChCrumbCe
  /-- CRUMB_UE -/
  | mchChCrumbUe
  /-- PGM_FAIL -/
  | mchChPgmFail
  /-- ERS_FAIL -/
  | mchChErsFail
  /-- DIE_FENCED -/
  | mchChDieFenced
  /-- CH_FENCED -/
  | mchChChFenced
  /-- BUS_CRC -/
  | mchChBusCrc
  /-- PGM_ORDER -/
  | mchPgmOrder
  /-- SURVEY -/
  | mchSurvey
  /-- GROUP_CLOSED -/
  | mchGroupClosed
  /-- MEDIA_FT -/
  | mchMediaFt
  /-- LINK_UP -/
  | prtLinkUp
  /-- LINK_DOWN -/
  | prtLinkDown
  /-- TRAIN_FAIL -/
  | prtTrainFail
  /-- RECOVERY -/
  | prtRecovery
  /-- GCM_FAIL -/
  | prtGcmFail
  /-- WIDTH_DEGRADED -/
  | prtWidthDegraded
  /-- FABID_MISMATCH -/
  | prtFabidMismatch
  /-- CABLE_UNID -/
  | prtcCableUnid
  /-- BREAKOUT_MISMATCH -/
  | prtcBreakoutMismatch
  /-- TOPOLOGY -/
  | fxbTopology
  /-- ROLE -/
  | fxbRole
  /-- NO_QUORUM -/
  | fxbNoQuorum
  /-- DEVNUM_CONFLICT -/
  | fxbDevnumConflict
  /-- HOP_LIMIT -/
  | fxbHopLimit
  /-- UNREACH -/
  | fxbUnreach
  /-- LSA_EXPIRE -/
  | fxbLsaExpire
  /-- NO_ELIGIBLE -/
  | fxbNoEligible
  /-- REMOTE_TMO -/
  | fxbRemoteTmo
  /-- INVALID_SEG -/
  | fxbInvalidSeg
  /-- LINK_UP -/
  | headLinkUp
  /-- LINK_DOWN -/
  | headLinkDown
  /-- IDE_FAIL -/
  | headIdeFail
  /-- DC_TIMEOUT -/
  | headDcTimeout
  /-- RESET -/
  | headReset
  /-- EVT_OVF -/
  | headEvtOvf
  /-- DENIED -/
  | headDenied
  /-- UNBOUND -/
  | headUnbound
  /-- MIG_DONE -/
  | sveMigDone
  /-- MIG_ABORT -/
  | sveMigAbort
  /-- MIRROR_JOIN -/
  | sveMirrorJoin
  /-- MIRROR_BROKEN -/
  | sveMirrorBroken
  /-- PROMOTED -/
  | svePromoted
  /-- ABSENT -/
  | sveAbsent
  /-- SEG_LOST_FAB -/
  | sveSegLostFab
  /-- LEASE_LOST -/
  | sveLeaseLost
  /-- STBY_LAG -/
  | sveStbyLag
  /-- CLAIM_CONFLICT -/
  | sveClaimConflict
  /-- FWU_FAIL -/
  | sveFwuFail
  /-- FWU_DONE -/
  | sveFwuDone
  /-- DEDUP_FULL -/
  | sveDedupFull
  /-- CORE_FAULT -/
  | coreCoreFault
deriving DecidableEq, Repr

/-- An event source of a page with its class (0 —, 1 CE, 2 UC, 3 FT) and severity (0 Info, 1 Warning, 2 Error, 3 Fatal). -/
structure SourceRow where
  src : Source
  cls : Nat
  sev : Nat
deriving DecidableEq, Repr

/-- The sources of EVT_STAT0 of a page, in bit order; EVT_STAT1 is reserved on every page (R139, R209, R245, R283, R315,
R363, R403, R429, R468, R504, R539, R575, R583). -/
def PageKind.sources : PageKind → List SourceRow
  | .mgt => [⟨.cfgReject, 0, 1⟩,
      ⟨.mgtCmdOverflow, 0, 1⟩,
      ⟨.mgtCmdCollide, 0, 1⟩,
      ⟨.mgtCmdAbandon, 0, 1⟩,
      ⟨.mgtCplAbandon, 0, 1⟩,
      ⟨.mgtI3cProto, 0, 0⟩,
      ⟨.mgtBadOp, 0, 1⟩,
      ⟨.mgtUnmapped, 0, 0⟩]
  | .ckr => [⟨.cfgReject, 0, 1⟩,
      ⟨.ckrLockLoss, 3, 3⟩,
      ⟨.ckrSubReset, 0, 0⟩,
      ⟨.ckrUnitReset, 0, 0⟩]
  | .pwr => [⟨.cfgReject, 0, 1⟩,
      ⟨.pwrRailFault, 0, 2⟩,
      ⟨.pwrRailStop, 3, 3⟩,
      ⟨.pwrQuadRail, 2, 2⟩,
      ⟨.pwrSeqFail, 0, 2⟩,
      ⟨.pwrInputTrip, 0, 1⟩,
      ⟨.pwrFlushDone, 0, 0⟩,
      ⟨.pwrFlushShort, 2, 2⟩,
      ⟨.pwrHoldFault, 2, 2⟩,
      ⟨.pwrHoldMeas, 0, 0⟩,
      ⟨.pwrPfail, 0, 1⟩,
      ⟨.pwrAdcFail, 2, 2⟩]
  | .thm => [⟨.cfgReject, 0, 1⟩,
      ⟨.thmTempWarn, 0, 1⟩,
      ⟨.thmThrot, 0, 1⟩,
      ⟨.thmThrotEnf, 0, 1⟩,
      ⟨.thmRiseWarn, 0, 1⟩,
      ⟨.thmSensorFault, 1, 1⟩,
      ⟨.thmThermShut, 3, 3⟩,
      ⟨.thmThermRestart, 0, 0⟩,
      ⟨.thmPeerThrot, 0, 0⟩]
  | .flt => [⟨.cfgReject, 0, 1⟩,
      ⟨.fltSelfParity, 3, 3⟩,
      ⟨.fltSelfMismatch, 3, 3⟩,
      ⟨.fltSafeState, 0, 3⟩]
  | .evr => [⟨.cfgReject, 0, 1⟩,
      ⟨.evrDrop, 0, 1⟩,
      ⟨.evrSpillAvail, 0, 0⟩,
      ⟨.evrCleared, 0, 0⟩]
  | .pan => [⟨.cfgReject, 0, 1⟩,
      ⟨.panPartFail, 1, 1⟩,
      ⟨.panPantryDown, 2, 2⟩,
      ⟨.panCtrSat, 0, 1⟩,
      ⟨.panDualDiffer, 0, 1⟩,
      ⟨.panPwdFail, 0, 1⟩,
      ⟨.panParamBad, 0, 1⟩,
      ⟨.panRecallDone, 0, 0⟩]
  | .crs0 => [⟨.cfgReject, 0, 1⟩,
      ⟨.crsTagRetry, 1, 0⟩,
      ⟨.crsTagFail, 2, 2⟩,
      ⟨.crsLateAlarm, 2, 2⟩,
      ⟨.crsKrMismatch, 2, 2⟩,
      ⟨.crsKeySlot, 1, 1⟩,
      ⟨.crsKeyFenced, 2, 2⟩,
      ⟨.crsKeyMissing, 0, 1⟩,
      ⟨.crsLinkAuth, 0, 1⟩,
      ⟨.crsFwReject, 0, 1⟩,
      ⟨.crsFwBad, 3, 3⟩,
      ⟨.crsDenied, 0, 1⟩,
      ⟨.crsZeroized, 0, 0⟩,
      ⟨.crsTestMode, 0, 1⟩,
      ⟨.crsCrsHang, 3, 3⟩]
  | .crs1 => [⟨.cfgReject, 0, 1⟩]
  | .crs2 => [⟨.cfgReject, 0, 1⟩]
  | .crs3 => [⟨.cfgReject, 0, 1⟩]
  | .crsx => [⟨.cfgReject, 0, 1⟩]
  | .slc => [⟨.cfgReject, 0, 1⟩,
      ⟨.slcLcSram, 1, 0⟩,
      ⟨.slcPbSramCe, 1, 0⟩,
      ⟨.slcPbSramUe, 2, 2⟩,
      ⟨.slcLineRefused, 2, 2⟩,
      ⟨.slcLockInv, 0, 0⟩,
      ⟨.slcAtomicBad, 0, 1⟩,
      ⟨.slcLsvcTimeout, 2, 2⟩]
  | .dtcCh => [⟨.cfgReject, 0, 1⟩,
      ⟨.dtcChDramCe, 1, 0⟩,
      ⟨.dtcChDramUe, 2, 2⟩,
      ⟨.dtcChDevMark, 1, 1⟩,
      ⟨.dtcChTemp, 0, 1⟩,
      ⟨.dtcChFenced, 2, 2⟩,
      ⟨.dtcChTrainFail, 0, 1⟩]
  | .dtc => [⟨.cfgReject, 0, 1⟩,
      ⟨.dtcReform, 0, 0⟩,
      ⟨.dtcReformTmo, 2, 2⟩,
      ⟨.dtcShortfall, 0, 1⟩,
      ⟨.dtcBreach, 2, 2⟩,
      ⟨.dtcShortfallEnd, 0, 0⟩,
      ⟨.dtcSocketEmpty, 0, 1⟩,
      ⟨.dtcDimmUnused, 0, 1⟩]
  | .mte => [⟨.cfgReject, 0, 1⟩,
      ⟨.mteBreach, 2, 2⟩,
      ⟨.mteFullRebuild, 0, 1⟩,
      ⟨.mteCkptBad, 1, 1⟩,
      ⟨.mteRetire, 0, 0⟩,
      ⟨.mteHdrmLow, 0, 1⟩,
      ⟨.mteHdrmCrit, 2, 2⟩,
      ⟨.mteWsnEnd, 2, 2⟩,
      ⟨.mteShadowDrop, 0, 0⟩,
      ⟨.mteCommitRetry, 0, 1⟩,
      ⟨.mteSegLost, 2, 2⟩,
      ⟨.mteJrnFull, 0, 1⟩,
      ⟨.mteDataLost, 2, 2⟩,
      ⟨.mteMteHang, 3, 3⟩]
  | .rw => [⟨.cfgReject, 0, 1⟩,
      ⟨.rwExpire, 0, 1⟩,
      ⟨.rwGuardThrot, 0, 0⟩,
      ⟨.rwGuardFull, 2, 2⟩,
      ⟨.rwIndexFull, 0, 1⟩,
      ⟨.rwOpTmo, 0, 1⟩,
      ⟨.rwMirrorPart, 0, 1⟩,
      ⟨.rwVoidHigh, 0, 0⟩,
      ⟨.rwResumed, 0, 0⟩]
  | .mchCh => [⟨.cfgReject, 0, 1⟩,
      ⟨.mchChCrumbCe, 1, 0⟩,
      ⟨.mchChCrumbUe, 2, 2⟩,
      ⟨.mchChPgmFail, 1, 1⟩,
      ⟨.mchChErsFail, 1, 1⟩,
      ⟨.mchChDieFenced, 2, 2⟩,
      ⟨.mchChChFenced, 2, 2⟩,
      ⟨.mchChBusCrc, 1, 0⟩]
  | .mch => [⟨.cfgReject, 0, 1⟩,
      ⟨.mchPgmOrder, 2, 2⟩,
      ⟨.mchSurvey, 0, 0⟩,
      ⟨.mchGroupClosed, 2, 2⟩,
      ⟨.mchMediaFt, 3, 3⟩]
  | .prt => [⟨.cfgReject, 0, 1⟩,
      ⟨.prtLinkUp, 0, 0⟩,
      ⟨.prtLinkDown, 0, 1⟩,
      ⟨.prtTrainFail, 0, 1⟩,
      ⟨.prtRecovery, 1, 1⟩,
      ⟨.prtGcmFail, 2, 2⟩,
      ⟨.prtWidthDegraded, 0, 1⟩,
      ⟨.prtFabidMismatch, 0, 1⟩]
  | .prtc => [⟨.cfgReject, 0, 1⟩,
      ⟨.prtcCableUnid, 0, 0⟩,
      ⟨.prtcBreakoutMismatch, 0, 1⟩]
  | .fxb => [⟨.cfgReject, 0, 1⟩,
      ⟨.fxbTopology, 0, 0⟩,
      ⟨.fxbRole, 0, 0⟩,
      ⟨.fxbNoQuorum, 0, 1⟩,
      ⟨.fxbDevnumConflict, 0, 1⟩,
      ⟨.fxbHopLimit, 0, 1⟩,
      ⟨.fxbUnreach, 0, 1⟩,
      ⟨.fxbLsaExpire, 0, 1⟩,
      ⟨.fxbNoEligible, 0, 1⟩,
      ⟨.fxbRemoteTmo, 0, 1⟩,
      ⟨.fxbInvalidSeg, 0, 0⟩]
  | .fxbRt => [⟨.cfgReject, 0, 1⟩]
  | .head => [⟨.cfgReject, 0, 1⟩,
      ⟨.headLinkUp, 0, 0⟩,
      ⟨.headLinkDown, 0, 1⟩,
      ⟨.headIdeFail, 2, 2⟩,
      ⟨.headDcTimeout, 0, 1⟩,
      ⟨.headReset, 0, 0⟩,
      ⟨.headEvtOvf, 0, 1⟩,
      ⟨.headDenied, 0, 1⟩,
      ⟨.headUnbound, 0, 1⟩]
  | .sve => [⟨.cfgReject, 0, 1⟩,
      ⟨.sveMigDone, 0, 0⟩,
      ⟨.sveMigAbort, 0, 1⟩,
      ⟨.sveMirrorJoin, 0, 0⟩,
      ⟨.sveMirrorBroken, 0, 1⟩,
      ⟨.svePromoted, 0, 1⟩,
      ⟨.sveAbsent, 2, 2⟩,
      ⟨.sveSegLostFab, 2, 2⟩,
      ⟨.sveLeaseLost, 0, 1⟩,
      ⟨.sveStbyLag, 0, 1⟩,
      ⟨.sveClaimConflict, 2, 2⟩,
      ⟨.sveFwuFail, 0, 2⟩,
      ⟨.sveFwuDone, 0, 0⟩,
      ⟨.sveDedupFull, 0, 1⟩]
  | .core => [⟨.cfgReject, 0, 1⟩,
      ⟨.coreCoreFault, 2, 2⟩]
  | .perfg => [⟨.cfgReject, 0, 1⟩]
  | .dbg => [⟨.cfgReject, 0, 1⟩]

/-- One 32-bit word of a register: offset in the page, reset value, the bits of each access code, and its place in a
64-bit register (0 none, 1 lower word, 2 upper word). Bits under no mask are RSV. -/
structure RegWord where
  off : Nat
  reset : Nat
  ro : Nat := 0
  rw : Nat := 0
  rwl : Nat := 0
  rwq : Nat := 0
  rws : Nat := 0
  w1c : Nat := 0
  wo : Nat := 0
  pair : Nat := 0
deriving DecidableEq, Repr

/-- The common header (R484). -/
def headerWords : List RegWord :=
  [/- ID -/ { off := 0x0, reset := 0x100, ro := 0xffffffff },
   /- CAP -/ { off := 0x4, reset := 0x80000, ro := 0x1fffff },
   /- CTRL -/ { off := 0x8, reset := 0x0, rw := 0xc, rwl := 0x1, wo := 0x2 },
   /- STATUS -/ { off := 0xc, reset := 0x0, ro := 0xff00000b, w1c := 0x4 },
   /- EVT_STAT0 -/ { off := 0x10, reset := 0x0, w1c := 0xffffffff },
   /- EVT_STAT1 -/ { off := 0x14, reset := 0x0, w1c := 0xffffffff },
   /- EVT_MASK0 -/ { off := 0x18, reset := 0x0, rwl := 0xffffffff },
   /- EVT_MASK1 -/ { off := 0x1c, reset := 0x0, rwl := 0xffffffff },
   /- EVT_FORCE0 -/ { off := 0x20, reset := 0x0, wo := 0xffffffff },
   /- EVT_FORCE1 -/ { off := 0x24, reset := 0x0, wo := 0xffffffff },
   /- EVT_FIRST -/ { off := 0x28, reset := 0x0, ro := 0x3f, w1c := 0x80000000 },
   /- EVT_COUNT -/ { off := 0x2c, reset := 0x0, ro := 0xffffffff },
   /- PERF_CYC -/ { off := 0x30, reset := 0x0, ro := 0xffffffff, pair := 1 },
   /- PERF_CYC[63:32] -/ { off := 0x34, reset := 0x0, ro := 0xffffffff, pair := 2 },
   /- PERF_CTL -/ { off := 0x38, reset := 0x0, rwl := 0x1007fff, w1c := 0xff0000, wo := 0x2000000 },
   /- PERF_SEL0 -/ { off := 0x40, reset := 0x0, rwl := 0xffff00ff }] ++
  [/- PERF_SEL1 -/ { off := 0x44, reset := 0x0, rwl := 0xffff00ff },
   /- PERF_SEL2 -/ { off := 0x48, reset := 0x0, rwl := 0xffff00ff },
   /- PERF_SEL3 -/ { off := 0x4c, reset := 0x0, rwl := 0xffff00ff },
   /- PERF_SEL4 -/ { off := 0x50, reset := 0x0, rwl := 0xffff00ff },
   /- PERF_SEL5 -/ { off := 0x54, reset := 0x0, rwl := 0xffff00ff },
   /- PERF_SEL6 -/ { off := 0x58, reset := 0x0, rwl := 0xffff00ff },
   /- PERF_SEL7 -/ { off := 0x5c, reset := 0x0, rwl := 0xffff00ff },
   /- PERF_CNT0 -/ { off := 0x80, reset := 0x0, ro := 0xffffffff, pair := 1 },
   /- PERF_CNT0[63:32] -/ { off := 0x84, reset := 0x0, ro := 0xffff, pair := 2 },
   /- PERF_CNT1 -/ { off := 0x88, reset := 0x0, ro := 0xffffffff, pair := 1 },
   /- PERF_CNT1[63:32] -/ { off := 0x8c, reset := 0x0, ro := 0xffff, pair := 2 },
   /- PERF_CNT2 -/ { off := 0x90, reset := 0x0, ro := 0xffffffff, pair := 1 },
   /- PERF_CNT2[63:32] -/ { off := 0x94, reset := 0x0, ro := 0xffff, pair := 2 },
   /- PERF_CNT3 -/ { off := 0x98, reset := 0x0, ro := 0xffffffff, pair := 1 },
   /- PERF_CNT3[63:32] -/ { off := 0x9c, reset := 0x0, ro := 0xffff, pair := 2 },
   /- PERF_CNT4 -/ { off := 0xa0, reset := 0x0, ro := 0xffffffff, pair := 1 }] ++
  [/- PERF_CNT4[63:32] -/ { off := 0xa4, reset := 0x0, ro := 0xffff, pair := 2 },
   /- PERF_CNT5 -/ { off := 0xa8, reset := 0x0, ro := 0xffffffff, pair := 1 },
   /- PERF_CNT5[63:32] -/ { off := 0xac, reset := 0x0, ro := 0xffff, pair := 2 },
   /- PERF_CNT6 -/ { off := 0xb0, reset := 0x0, ro := 0xffffffff, pair := 1 },
   /- PERF_CNT6[63:32] -/ { off := 0xb4, reset := 0x0, ro := 0xffff, pair := 2 },
   /- PERF_CNT7 -/ { off := 0xb8, reset := 0x0, ro := 0xffffffff, pair := 1 },
   /- PERF_CNT7[63:32] -/ { off := 0xbc, reset := 0x0, ro := 0xffff, pair := 2 }]

/-- The block registers of MGT (0x000). -/
def mgtWords : List RegWord :=
  [/- MGT_I3C -/ { off := 0x100, reset := 0x1c000, ro := 0xffffc000 },
   /- MGT_PINCFG -/ { off := 0x104, reset := 0x0, rwl := 0x1 },
   /- MGT_PINSTAT -/ { off := 0x108, reset := 0x1d, ro := 0xff },
   /- MGT_TMO -/ { off := 0x10c, reset := 0xa0032, rwl := 0x7f03ff },
   /- MGT_CMD_PUSH -/ { off := 0x110, reset := 0x0, wo := 0xffffffff },
   /- MGT_CMD_LAST -/ { off := 0x114, reset := 0x0, wo := 0xffffffff },
   /- MGT_CMD_STAT -/ { off := 0x118, reset := 0x800000, ro := 0xffff0004, w1c := 0x3 },
   /- MGT_CPL_HEAD -/ { off := 0x120, reset := 0x0, ro := 0xffffffff, pair := 1 },
   /- MGT_CPL_HEAD[63:32] -/ { off := 0x124, reset := 0x0, ro := 0x807fc000, pair := 2 },
   /- MGT_CPL_STAT -/ { off := 0x128, reset := 0x0, ro := 0x1ff01ff },
   /- MGT_TIME -/ { off := 0x130, reset := 0x0, ro := 0xffffffff, pair := 1 },
   /- MGT_TIME[63:32] -/ { off := 0x134, reset := 0x0, ro := 0xffffffff, pair := 2 },
   /- MGT_LIFE -/ { off := 0x138, reset := 0x0, ro := 0xffffffff, pair := 1 },
   /- MGT_LIFE[63:32] -/ { off := 0x13c, reset := 0x0, ro := 0xffffffff, pair := 2 },
   /- MGT_REGERR -/ { off := 0x140, reset := 0x0, ro := 0xffffffff }]

/-- The block registers of CKR (0x001). -/
def ckrWords : List RegWord :=
  [/- CKR_STAT -/ { off := 0x100, reset := 0x0, ro := 0xc0ff0000 },
   /- CKR_GATE -/ { off := 0x104, reset := 0x0, ro := 0x1ffffff },
   /- CKR_RST -/ { off := 0x108, reset := 0x0, wo := 0x3 },
   /- CKR_CAUSE -/ { off := 0x10c, reset := 0x0, ro := 0xf0ffffff }]

/-- The block registers of PWR (0x002). -/
def pwrWords : List RegWord :=
  [/- PWR_STATE -/ { off := 0x100, reset := 0x6400, ro := 0xfff0ff00 },
   /- PWR_PROFILE -/ { off := 0x104, reset := 0x0, rwl := 0x3ff0003 },
   /- PWR_INPUT -/ { off := 0x108, reset := 0x0, ro := 0xffffffc0 },
   /- PWR_RAIL_IDX -/ { off := 0x10c, reset := 0x0, rw := 0x3f },
   /- PWR_RAIL -/ { off := 0x110, reset := 0x0, ro := 0xffffff80 },
   /- PWR_FIRSTFAIL -/ { off := 0x114, reset := 0x0, ro := 0x7fcfffff, w1c := 0x80000000 },
   /- PWR_HOLD -/ { off := 0x118, reset := 0x0, ro := 0xffffffff },
   /- PWR_HOLDMEAS -/ { off := 0x11c, reset := 0x0, ro := 0xffffffff },
   /- PWR_FLUSH -/ { off := 0x120, reset := 0x0, ro := 0xffffffff },
   /- PWR_TMO -/ { off := 0x124, reset := 0xa1e0000, rwl := 0xffff0000 },
   /- PWR_LOGCFG -/ { off := 0x128, reset := 0x0, ro := 0xe0000000, rwl := 0x1 },
   /- PWR_LOGCUR -/ { off := 0x12c, reset := 0x0, rw := 0x7fff },
   /- PWR_LOGCTL -/ { off := 0x130, reset := 0x0, wo := 0xf },
   /- PWR_LOGWIN0 -/ { off := 0x140, reset := 0x0, ro := 0xffffffff },
   /- PWR_LOGWIN1 -/ { off := 0x144, reset := 0x0, ro := 0xffffffff },
   /- PWR_LOGWIN2 -/ { off := 0x148, reset := 0x0, ro := 0xffffffff }] ++
  [/- PWR_LOGWIN3 -/ { off := 0x14c, reset := 0x0, ro := 0xffffffff },
   /- PWR_LOGWIN4 -/ { off := 0x150, reset := 0x0, ro := 0xffffffff },
   /- PWR_LOGWIN5 -/ { off := 0x154, reset := 0x0, ro := 0xffffffff },
   /- PWR_LOGWIN6 -/ { off := 0x158, reset := 0x0, ro := 0xffffffff },
   /- PWR_LOGWIN7 -/ { off := 0x15c, reset := 0x0, ro := 0xffffffff }]

/-- The block registers of thermal (0x003). -/
def thmWords : List RegWord :=
  [/- THM_CFG -/ { off := 0x100, reset := 0x82323200, rwl := 0xffffff00 },
   /- THM_LIM0 -/ { off := 0x104, reset := 0x6e645f55, rwl := 0xffffffff },
   /- THM_LIM1 -/ { off := 0x108, reset := 0x7364, rwl := 0xffff },
   /- THM_STAT -/ { off := 0x10c, reset := 0x80000000, ro := 0xfffff0ff },
   /- THM_IDX -/ { off := 0x110, reset := 0x0, rw := 0xff },
   /- THM_CH -/ { off := 0x114, reset := 0x80800000, ro := 0xffffffc0 },
   /- THM_SHUT -/ { off := 0x118, reset := 0x0, ro := 0xffff, w1c := 0x80000000 }]

/-- The block registers of FLT (0x004). -/
def fltWords : List RegWord :=
  [/- FLT_CFG -/ { off := 0x100, reset := 0xa, rwl := 0x3ff },
   /- FLT_STAT -/ { off := 0x104, reset := 0x0, ro := 0xfc00ffff, w1c := 0x2000000 },
   /- FLT_SAFECFG -/ { off := 0x108, reset := 0x1, rwl := 0x1 },
   /- FLT_FIRST -/ { off := 0x10c, reset := 0x0, ro := 0xfffff, w1c := 0x80000000 },
   /- FLT_FIRST_TIME -/ { off := 0x110, reset := 0x0, ro := 0xffffffff, pair := 1 },
   /- FLT_FIRST_TIME[63:32] -/ { off := 0x114, reset := 0x0, ro := 0xffffffff, pair := 2 },
   /- FLT_CONSEQ -/ { off := 0x118, reset := 0x0, ro := 0xffffffff },
   /- FLT_LIVE_IDX -/ { off := 0x11c, reset := 0x0, rw := 0xfff },
   /- FLT_LIVE -/ { off := 0x120, reset := 0x0, ro := 0xffffffff, pair := 1 },
   /- FLT_LIVE[63:32] -/ { off := 0x124, reset := 0x0, ro := 0xffffffff, pair := 2 },
   /- FLT_INJ -/ { off := 0x128, reset := 0x0, wo := 0xff0fffff }]

/-- The block registers of event recorder (0x005). -/
def evrWords : List RegWord :=
  [/- EVR_CFG -/ { off := 0x100, reset := 0x64, rwl := 0x1ff },
   /- EVR_STATUS -/ { off := 0x104, reset := 0x0, ro := 0xf01fffff },
   /- EVR_CURSOR -/ { off := 0x108, reset := 0x0, rw := 0x1fffff },
   /- EVR_NEXT -/ { off := 0x10c, reset := 0x0, wo := 0x7 },
   /- EVR_DROP -/ { off := 0x110, reset := 0x0, ro := 0xffffffff, pair := 1 },
   /- EVR_DROP[63:32] -/ { off := 0x114, reset := 0x0, ro := 0xffffffff, pair := 2 },
   /- EVR_WIN0 -/ { off := 0x140, reset := 0x0, ro := 0xffffffff },
   /- EVR_WIN1 -/ { off := 0x144, reset := 0x0, ro := 0xffffffff },
   /- EVR_WIN2 -/ { off := 0x148, reset := 0x0, ro := 0xffffffff },
   /- EVR_WIN3 -/ { off := 0x14c, reset := 0x0, ro := 0xffffffff },
   /- EVR_WIN4 -/ { off := 0x150, reset := 0x0, ro := 0xffffffff },
   /- EVR_WIN5 -/ { off := 0x154, reset := 0x0, ro := 0xffffffff },
   /- EVR_WIN6 -/ { off := 0x158, reset := 0x0, ro := 0xffffffff },
   /- EVR_WIN7 -/ { off := 0x15c, reset := 0x0, ro := 0xffffffff },
   /- EVR_WIN8 -/ { off := 0x160, reset := 0x0, ro := 0xffffffff },
   /- EVR_WIN9 -/ { off := 0x164, reset := 0x0, ro := 0xffffffff }] ++
  [/- EVR_WIN10 -/ { off := 0x168, reset := 0x0, ro := 0xffffffff },
   /- EVR_WIN11 -/ { off := 0x16c, reset := 0x0, ro := 0xffffffff },
   /- EVR_WIN12 -/ { off := 0x170, reset := 0x0, ro := 0xffffffff },
   /- EVR_WIN13 -/ { off := 0x174, reset := 0x0, ro := 0xffffffff },
   /- EVR_WIN14 -/ { off := 0x178, reset := 0x0, ro := 0xffffffff },
   /- EVR_WIN15 -/ { off := 0x17c, reset := 0x0, ro := 0xffffffff }]

/-- The block registers of pantry (0x006). -/
def panWords : List RegWord :=
  [/- PAN_STAT -/ { off := 0x100, reset := 0x0, ro := 0xf000ffff },
   /- PAN_PART -/ { off := 0x104, reset := 0x0, rw := 0x7 },
   /- PAN_PWCTL -/ { off := 0x108, reset := 0x0, wo := 0x7 },
   /- PAN_BOOT -/ { off := 0x10c, reset := 0x0, rwl := 0x1 },
   /- PAN_PWD0 -/ { off := 0x110, reset := 0x0, wo := 0xffffffff },
   /- PAN_PWD1 -/ { off := 0x114, reset := 0x0, wo := 0xffffffff },
   /- PAN_PWD2 -/ { off := 0x118, reset := 0x0, wo := 0xffffffff },
   /- PAN_PWD3 -/ { off := 0x11c, reset := 0x0, wo := 0xffffffff },
   /- PAN_ERR -/ { off := 0x120, reset := 0x0, ro := 0xffffffff }]

/-- The block registers of CRS page 0 (0x008). -/
def crs0Words : List RegWord :=
  [/- CRS_CAP -/ { off := 0x100, reset := 0x40080238, ro := 0xffffffff },
   /- CRS_STAT -/ { off := 0x104, reset := 0x0, ro := 0xc0ffff00 },
   /- CRS_CFG -/ { off := 0x108, reset := 0x1, rwl := 0x3 },
   /- CRS_TMO -/ { off := 0x10c, reset := 0x641800, rwl := 0xffffff00 },
   /- CRS_VERIFY -/ { off := 0x110, reset := 0x0, rwl := 0xffffffff, pair := 1 },
   /- CRS_VERIFY[63:32] -/ { off := 0x114, reset := 0x0, rwl := 0xffffffff, pair := 2 },
   /- CRS_ERR -/ { off := 0x118, reset := 0x0, ro := 0xffffffff }]

/-- The block registers of CRS page 1 (0x009). -/
def crs1Words : List RegWord :=
  [/- CRS_KR_IDX -/ { off := 0x100, reset := 0x0, rw := 0x3f },
   /- CRS_KR_BASE -/ { off := 0x104, reset := 0x0, ro := 0x7ffffff },
   /- CRS_KR_STAT -/ { off := 0x108, reset := 0x0, ro := 0xc000ffff },
   /- CRS_KR_TBLVER -/ { off := 0x10c, reset := 0x0, ro := 0xffffffff }]

/-- The block registers of CRS page 2 (0x00A). -/
def crs2Words : List RegWord :=
  [/- CRS_RIGHTS_I3C -/ { off := 0x100, reset := 0x3ff, rwl := 0xfff },
   /- CRS_RIGHTS_HEAD -/ { off := 0x104, reset := 0x1c, rwl := 0xfff },
   /- CRS_RIGHTS_DBG -/ { off := 0x108, reset := 0x0, rwl := 0xfff },
   /- CRS_DBG_KR -/ { off := 0x110, reset := 0x0, rwl := 0xffffffff, pair := 1 },
   /- CRS_DBG_KR[63:32] -/ { off := 0x114, reset := 0x0, rwl := 0xffffffff, pair := 2 }]

/-- The block registers of CRS page 3 (0x00B). -/
def crs3Words : List RegWord :=
  [/- CRS_ID -/ { off := 0x100, reset := 0x0, ro := 0xfc000000 },
   /- CRS_SVN -/ { off := 0x104, reset := 0x0, ro := 0xffffffff },
   /- CRS_TEST -/ { off := 0x108, reset := 0x0, wo := 0x80000000 },
   /- CRS_NONCE -/ { off := 0x110, reset := 0x0, ro := 0xffffffff, pair := 1 },
   /- CRS_NONCE[63:32] -/ { off := 0x114, reset := 0x0, ro := 0xffffffff, pair := 2 }]

/-- The block registers of slices (0x010–0x017). -/
def slcWords : List RegWord :=
  [/- SLC_CAP -/ { off := 0x100, reset := 0x20044f10, ro := 0xffffffff },
   /- SLC_LC_CTL -/ { off := 0x104, reset := 0x0, rwl := 0x1 },
   /- SLC_LC_STAT -/ { off := 0x108, reset := 0x0, ro := 0x7 },
   /- SLC_INV_CTL -/ { off := 0x10c, reset := 0x0, wo := 0xc0000000 },
   /- SLC_INV_BASE -/ { off := 0x110, reset := 0x0, rw := 0xffffffff, pair := 1 },
   /- SLC_INV_BASE[63:32] -/ { off := 0x114, reset := 0x0, rw := 0xfff, pair := 2 },
   /- SLC_INV_NPAGES -/ { off := 0x118, reset := 0x1, rw := 0xffffffff },
   /- SLC_LOCK_WAYS -/ { off := 0x120, reset := 0x0, rws := 0xffff },
   /- SLC_LOCK0 -/ { off := 0x128, reset := 0x0, rws := 0xffffffff, pair := 1 },
   /- SLC_LOCK0[63:32] -/ { off := 0x12c, reset := 0x0, rws := 0x81ffffff, pair := 2 },
   /- SLC_LOCK1 -/ { off := 0x130, reset := 0x0, rws := 0xffffffff, pair := 1 },
   /- SLC_LOCK1[63:32] -/ { off := 0x134, reset := 0x0, rws := 0x81ffffff, pair := 2 },
   /- SLC_LOCK2 -/ { off := 0x138, reset := 0x0, rws := 0xffffffff, pair := 1 },
   /- SLC_LOCK2[63:32] -/ { off := 0x13c, reset := 0x0, rws := 0x81ffffff, pair := 2 },
   /- SLC_LOCK3 -/ { off := 0x140, reset := 0x0, rws := 0xffffffff, pair := 1 },
   /- SLC_LOCK3[63:32] -/ { off := 0x144, reset := 0x0, rws := 0x81ffffff, pair := 2 }] ++
  [/- SLC_LOCK_CTL -/ { off := 0x148, reset := 0x0, wo := 0xf },
   /- SLC_LOCK_STAT -/ { off := 0x14c, reset := 0x0, ro := 0xfffff },
   /- SLC_PB_CFG -/ { off := 0x150, reset := 0x4004b32, rwl := 0xff00ffff },
   /- SLC_PB_QUOTA -/ { off := 0x154, reset := 0x400, rwl := 0x3fff },
   /- SLC_PB_STAT -/ { off := 0x158, reset := 0x0, ro := 0xfffe3fff },
   /- SLC_TMO -/ { off := 0x15c, reset := 0xa, rwl := 0xff },
   /- SLC_MISS_STAT -/ { off := 0x160, reset := 0x0, ro := 0x3ff },
   /- SLC_ERRCNT -/ { off := 0x164, reset := 0x0, ro := 0xffffffff }]

/-- The block registers of DTC channels (0x018–0x027). -/
def dtcChWords : List RegWord :=
  [/- DTC_CH_STAT -/ { off := 0x100, reset := 0xff0000, ro := 0xffffffc0 },
   /- DTC_CH_TEMP -/ { off := 0x104, reset := 0x8080, ro := 0xffffffff },
   /- DTC_CH_ERR -/ { off := 0x108, reset := 0x0, ro := 0xffffff00 },
   /- DTC_CH_MARK -/ { off := 0x10c, reset := 0x0, ro := 0x3f },
   /- DTC_CH_CTL -/ { off := 0x110, reset := 0x0, wo := 0xc0000000 }]

/-- The block registers of DTC common (0x028). -/
def dtcWords : List RegWord :=
  [/- DTC_CAP -/ { off := 0x100, reset := 0x10801020, ro := 0xffffffff },
   /- DTC_MODE -/ { off := 0x104, reset := 0xff000, ro := 0xfffff077 },
   /- DTC_TIER -/ { off := 0x108, reset := 0x0, ro := 0xfff },
   /- DTC_BUDGET -/ { off := 0x10c, reset := 0x0, ro := 0xffffffff },
   /- DTC_DIRTY -/ { off := 0x110, reset := 0x0, ro := 0xffffffff },
   /- DTC_FILL -/ { off := 0x114, reset := 0x29, rwl := 0x3ff },
   /- DTC_STAGE -/ { off := 0x118, reset := 0x4b000a, rwl := 0xff03ff },
   /- DTC_TMO -/ { off := 0x11c, reset := 0x51e0605, rwl := 0xffffffff },
   /- DTC_SCRUB -/ { off := 0x120, reset := 0x18, rwl := 0xff }]

/-- The block registers of MTE, address and region registers (0x030). -/
def mteWords : List RegWord :=
  [/- MTE_CAP -/ { off := 0x100, reset := 0x66811a0, ro := 0xffffffff },
   /- MTE_STAT -/ { off := 0x104, reset := 0x10000000, ro := 0xfc0fffff },
   /- MTE_WSN -/ { off := 0x108, reset := 0x0, ro := 0xffffffff, pair := 1 },
   /- MTE_WSN[63:32] -/ { off := 0x10c, reset := 0x0, ro := 0xffffffff, pair := 2 },
   /- MTE_GATHER -/ { off := 0x110, reset := 0x14, rwl := 0x3ff },
   /- ADDR_QUIESCE -/ { off := 0x114, reset := 0xa, rwl := 0x7f },
   /- MTE_JRN -/ { off := 0x118, reset := 0x100064, rwl := 0x3f3fff },
   /- MTE_JSTAT -/ { off := 0x11c, reset := 0x0, ro := 0xffff07ff },
   /- MTE_SCR -/ { off := 0x120, reset := 0x65020100, rwl := 0xffffffff },
   /- MTE_SCRSTAT -/ { off := 0x124, reset := 0x0, ro := 0xfff07fff },
   /- MTE_WL -/ { off := 0x128, reset := 0x14989680, rwl := 0xffffffff },
   /- MTE_WEAR -/ { off := 0x130, reset := 0x0, ro := 0xffffff, pair := 1 },
   /- MTE_WEAR[63:32] -/ { off := 0x134, reset := 0x0, ro := 0xffffff, pair := 2 },
   /- MTE_SPACE -/ { off := 0x138, reset := 0x0, ro := 0xffffffff },
   /- MTE_RETIRED -/ { off := 0x13c, reset := 0x0, ro := 0x7fffff },
   /- ADDR_CAP -/ { off := 0x800, reset := 0x11ff3000, ro := 0xffffffff }] ++
  [/- ADDR_SEGCNT -/ { off := 0x804, reset := 0x0, ro := 0xffffffff },
   /- ADDR_DIRSTAT -/ { off := 0x808, reset := 0x0, ro := 0x7fffffff },
   /- ADDR_UNBOUND -/ { off := 0x80c, reset := 0x0, ro := 0xffffffff },
   /- ADDR_RGN_IDX -/ { off := 0x810, reset := 0x0, rw := 0xff },
   /- ADDR_RGN_ATTR0 -/ { off := 0x814, reset := 0x0, rws := 0x33f1f },
   /- ADDR_RGN_ATTR1 -/ { off := 0x818, reset := 0x0, rws := 0xffff },
   /- ADDR_RGN_ATTR2 -/ { off := 0x81c, reset := 0x0, ro := 0x3fffffff },
   /- ADDR_RGN_SEGS -/ { off := 0x820, reset := 0x0, ro := 0x3fff },
   /- ADDR_SEG_IDX -/ { off := 0x830, reset := 0x0, rw := 0x3fff },
   /- ADDR_SEG_INFO0 -/ { off := 0x834, reset := 0x0, ro := 0xffffff07 },
   /- ADDR_SEG_INFO1 -/ { off := 0x838, reset := 0x0, ro := 0xffffffff },
   /- ADDR_SEG_RGN -/ { off := 0x83c, reset := 0x0, rws := 0xff }]

/-- The block registers of rewind (0x031). -/
def rwWords : List RegWord :=
  [/- RW_CAP -/ { off := 0x100, reset := 0x10003000, ro := 0xff00ffff },
   /- RW_POOL -/ { off := 0x104, reset := 0x0, ro := 0xffff0fff },
   /- RW_CFG -/ { off := 0x108, reset := 0x4, rwl := 0xff },
   /- RW_TMO -/ { off := 0x10c, reset := 0x3e80064, rwl := 0xffffffff },
   /- RW_IDX -/ { off := 0x110, reset := 0x0, rw := 0xff },
   /- RW_RSTAT -/ { off := 0x114, reset := 0x0, ro := 0xfffff81f },
   /- RW_USED -/ { off := 0x118, reset := 0x0, ro := 0xffffffff },
   /- RW_MSEL -/ { off := 0x11c, reset := 0x0, rw := 0xf },
   /- RW_MINFO -/ { off := 0x120, reset := 0x0, ro := 0x8000ffff },
   /- RW_MCUT -/ { off := 0x128, reset := 0x0, ro := 0xffffffff, pair := 1 },
   /- RW_MCUT[63:32] -/ { off := 0x12c, reset := 0x0, ro := 0xffffffff, pair := 2 },
   /- RW_MTIME -/ { off := 0x130, reset := 0x0, ro := 0xffffffff, pair := 1 },
   /- RW_MTIME[63:32] -/ { off := 0x134, reset := 0x0, ro := 0xff, pair := 2 },
   /- RW_MHOLD -/ { off := 0x138, reset := 0x0, ro := 0xffffffff },
   /- RW_VOIDS -/ { off := 0x13c, reset := 0x0, ro := 0x7ff }]

/-- The block registers of media channels (0x040–0x07F). -/
def mchChWords : List RegWord :=
  [/- MCH_CH_STAT -/ { off := 0x100, reset := 0x0, ro := 0xff000fff },
   /- MCH_CH_ERR -/ { off := 0x104, reset := 0x0, ro := 0xffffffff },
   /- MCH_CH_FAIL -/ { off := 0x108, reset := 0x0, ro := 0xffffffff },
   /- MCH_CH_CTL -/ { off := 0x10c, reset := 0x0, wo := 0x8000000f }]

/-- The block registers of MCH common (0x080). -/
def mchWords : List RegWord :=
  [/- MCH_CAP -/ { off := 0x100, reset := 0x40ff40f4, ro := 0xffffffff },
   /- MCH_GRPMODE -/ { off := 0x104, reset := 0x0, rws := 0xffffffff },
   /- MCH_GRPSTAT -/ { off := 0x108, reset := 0x0, ro := 0xffffffff },
   /- MCH_SUSP -/ { off := 0x10c, reset := 0x3c10, rwl := 0xffffff },
   /- MCH_RISE -/ { off := 0x110, reset := 0x28187, rwl := 0xfffff },
   /- MCH_RD -/ { off := 0x114, reset := 0x303d1080, rwl := 0xfcffffff },
   /- MCH_DRIFT -/ { off := 0x118, reset := 0x7ec, rwl := 0xffff },
   /- MCH_PGMRATE -/ { off := 0x11c, reset := 0x0, ro := 0x3ff03ff },
   /- MCH_TMO -/ { off := 0x120, reset := 0xa2814, rwl := 0xffffff },
   /- MCH_SURVEY -/ { off := 0x124, reset := 0x0, ro := 0x807fffff }]

/-- The block registers of port blocks (0x100–0x13F). -/
def prtWords : List RegWord :=
  [/- PRT_CFG -/ { off := 0x100, reset := 0x3010000, rwq := 0xfffff03 },
   /- PRT_CTL -/ { off := 0x104, reset := 0x0, wo := 0xff },
   /- PRT_ERR -/ { off := 0x108, reset := 0x0, ro := 0xffffffff },
   /- PRT_PSTAT0 -/ { off := 0x110, reset := 0x0, ro := 0xfffffc00 },
   /- PRT_PSTAT1 -/ { off := 0x114, reset := 0x0, ro := 0xfffffc00 },
   /- PRT_PSTAT2 -/ { off := 0x118, reset := 0x0, ro := 0xfffffc00 },
   /- PRT_PSTAT3 -/ { off := 0x11c, reset := 0x0, ro := 0xfffffc00 },
   /- PRT_PSTAT4 -/ { off := 0x120, reset := 0x0, ro := 0xfffffc00 },
   /- PRT_PSTAT5 -/ { off := 0x124, reset := 0x0, ro := 0xfffffc00 },
   /- PRT_PSTAT6 -/ { off := 0x128, reset := 0x0, ro := 0xfffffc00 },
   /- PRT_PSTAT7 -/ { off := 0x12c, reset := 0x0, ro := 0xfffffc00 }]

/-- The block registers of PRT common (0x140). -/
def prtcWords : List RegWord :=
  [/- PRT_CAP -/ { off := 0x100, reset := 0x40200f00, ro := 0xffffff00 },
   /- PRT_TMO -/ { off := 0x104, reset := 0x641405, rwl := 0xffffffff },
   /- PRT_LINK -/ { off := 0x108, reset := 0x14100a01, rwl := 0xffffffff },
   /- PRT_CAGE0 -/ { off := 0x110, reset := 0x0, ro := 0xffffffff, pair := 1 },
   /- PRT_CAGE0[63:32] -/ { off := 0x114, reset := 0x0, ro := 0xc00000ff, pair := 2 },
   /- PRT_CAGE1 -/ { off := 0x118, reset := 0x0, ro := 0xffffffff, pair := 1 },
   /- PRT_CAGE1[63:32] -/ { off := 0x11c, reset := 0x0, ro := 0xc00000ff, pair := 2 },
   /- PRT_CAGE2 -/ { off := 0x120, reset := 0x0, ro := 0xffffffff, pair := 1 },
   /- PRT_CAGE2[63:32] -/ { off := 0x124, reset := 0x0, ro := 0xc00000ff, pair := 2 },
   /- PRT_CAGE3 -/ { off := 0x128, reset := 0x0, ro := 0xffffffff, pair := 1 },
   /- PRT_CAGE3[63:32] -/ { off := 0x12c, reset := 0x0, ro := 0xc00000ff, pair := 2 },
   /- PRT_CAGE4 -/ { off := 0x130, reset := 0x0, ro := 0xffffffff, pair := 1 },
   /- PRT_CAGE4[63:32] -/ { off := 0x134, reset := 0x0, ro := 0xc00000ff, pair := 2 },
   /- PRT_CAGE5 -/ { off := 0x138, reset := 0x0, ro := 0xffffffff, pair := 1 },
   /- PRT_CAGE5[63:32] -/ { off := 0x13c, reset := 0x0, ro := 0xc00000ff, pair := 2 },
   /- PRT_CAGE6 -/ { off := 0x140, reset := 0x0, ro := 0xffffffff, pair := 1 }] ++
  [/- PRT_CAGE6[63:32] -/ { off := 0x144, reset := 0x0, ro := 0xc00000ff, pair := 2 },
   /- PRT_CAGE7 -/ { off := 0x148, reset := 0x0, ro := 0xffffffff, pair := 1 },
   /- PRT_CAGE7[63:32] -/ { off := 0x14c, reset := 0x0, ro := 0xc00000ff, pair := 2 }]

/-- The block registers of FXB (0x180). -/
def fxbWords : List RegWord :=
  [/- FXB_CAP -/ { off := 0x100, reset := 0xffffc048, ro := 0xffffffff },
   /- FXB_ID -/ { off := 0x104, reset := 0x0, ro := 0xf0ffffff },
   /- FXB_SERIAL -/ { off := 0x108, reset := 0x0, ro := 0xffffffff, pair := 1 },
   /- FXB_SERIAL[63:32] -/ { off := 0x10c, reset := 0x0, ro := 0xffffffff, pair := 2 },
   /- FXB_PRIO -/ { off := 0x110, reset := 0x80, rws := 0xff },
   /- FXB_FABID -/ { off := 0x114, reset := 0x1, rws := 0xffffffff },
   /- FXB_LS -/ { off := 0x118, reset := 0xa0a, rwl := 0xffff },
   /- FXB_TMO -/ { off := 0x11c, reset := 0xc814064, rwl := 0xffffffff },
   /- FXB_STAT -/ { off := 0x120, reset := 0x0, ro := 0xfffffff0 },
   /- FXB_STBY -/ { off := 0x124, reset := 0x0, ro := 0xffffff },
   /- FXB_RESEQ -/ { off := 0x128, reset := 0x0, ro := 0xffff07ff },
   /- FXB_DROP -/ { off := 0x12c, reset := 0x0, ro := 0xffffffff }]

/-- The block registers of routing table window (0x181). -/
def fxbRtWords : List RegWord :=
  [/- FXB_RT_IDX -/ { off := 0x100, reset := 0x0, rw := 0xfff },
   /- FXB_RT_ENT -/ { off := 0x108, reset := 0x0, ro := 0xffffffff, pair := 1 },
   /- FXB_RT_ENT[63:32] -/ { off := 0x10c, reset := 0xf8000000, ro := 0xffffffff, pair := 2 }]

/-- The block registers of CXL heads (0x1C0–0x1FF). -/
def headWords : List RegWord :=
  [/- HEAD_CAP -/ { off := 0x100, reset := 0x808081f, ro := 0xffffffff },
   /- HEAD_CFG -/ { off := 0x104, reset := 0x4, rwq := 0x7 },
   /- HEAD_STAT -/ { off := 0x108, reset := 0x0, ro := 0xffffff80 },
   /- HEAD_RIGHTS -/ { off := 0x10c, reset := 0x0, rwl := 0x7 },
   /- HEAD_TMO -/ { off := 0x110, reset := 0xa3c3c00, rwl := 0xffffff00 },
   /- HEAD_EXT_IDX -/ { off := 0x114, reset := 0x0, rw := 0x3fff },
   /- HEAD_EXT -/ { off := 0x118, reset := 0x0, ro := 0xffffffff },
   /- HEAD_ERR -/ { off := 0x11c, reset := 0x0, ro := 0xffffffff }]

/-- The block registers of SVE custody (0x200). -/
def sveWords : List RegWord :=
  [/- SVE_CAP -/ { off := 0x100, reset := 0x8100040, ro := 0xffffffff },
   /- SVE_CUST -/ { off := 0x104, reset := 0xff, ro := 0xc01f1fff },
   /- SVE_GSTVER -/ { off := 0x108, reset := 0x0, ro := 0xffffffff, pair := 1 },
   /- SVE_GSTVER[63:32] -/ { off := 0x10c, reset := 0x0, ro := 0xffffffff, pair := 2 },
   /- SVE_MIG_CFG -/ { off := 0x110, reset := 0x8800100, rwl := 0xfff00fff },
   /- SVE_TMO -/ { off := 0x114, reset := 0x1428640a, rwl := 0xfffffe7f },
   /- SVE_OP_IDX -/ { off := 0x118, reset := 0x0, rw := 0x1f },
   /- SVE_OP_STAT -/ { off := 0x11c, reset := 0x0, ro := 0xfff00fff },
   /- SVE_OP_INFO -/ { off := 0x120, reset := 0x0, ro := 0xffffffff, pair := 1 },
   /- SVE_OP_INFO[63:32] -/ { off := 0x124, reset := 0x0, ro := 0x1fff, pair := 2 },
   /- SVE_MIR -/ { off := 0x128, reset := 0x0, ro := 0xffffffff },
   /- SVE_STALE -/ { off := 0x12c, reset := 0x0, ro := 0xffffffff },
   /- SVE_FWU -/ { off := 0x130, reset := 0x0, ro := 0xf800ffff },
   /- SVE_FWU_CFG -/ { off := 0x134, reset := 0x41e0000, rwl := 0xffff0000 },
   /- SVE_FWU_VER -/ { off := 0x138, reset := 0x0, ro := 0xffffffff }]

/-- The block registers of service cores (0x201–0x208). -/
def coreWords : List RegWord :=
  [/- SVE_CORE_STAT -/ { off := 0x100, reset := 0x0, ro := 0xe00000ff },
   /- SVE_CORE_HANDLE -/ { off := 0x104, reset := 0x0, ro := 0xffffffff }]

/-- The block registers of performance global (0x300). -/
def perfgWords : List RegWord :=
  [/- PERF_GCTL -/ { off := 0x100, reset := 0x0, rwl := 0x1, wo := 0x2 }]

/-- The block registers of a page kind. -/
def PageKind.words : PageKind → List RegWord
  | .mgt => mgtWords
  | .ckr => ckrWords
  | .pwr => pwrWords
  | .thm => thmWords
  | .flt => fltWords
  | .evr => evrWords
  | .pan => panWords
  | .crs0 => crs0Words
  | .crs1 => crs1Words
  | .crs2 => crs2Words
  | .crs3 => crs3Words
  | .crsx => []
  | .slc => slcWords
  | .dtcCh => dtcChWords
  | .dtc => dtcWords
  | .mte => mteWords
  | .rw => rwWords
  | .mchCh => mchChWords
  | .mch => mchWords
  | .prt => prtWords
  | .prtc => prtcWords
  | .fxb => fxbWords
  | .fxbRt => fxbRtWords
  | .head => headWords
  | .sve => sveWords
  | .core => coreWords
  | .perfg => perfgWords
  | .dbg => []

/-- The register word at an offset of a page, none where the offset is RSV (R579). -/
def regWord (page off : Nat) : Option RegWord :=
  match pageKind page with
  | none => none
  | some k => (if off < 0x100 then headerWords else k.words).find? (fun r => r.off == off)

/-- The reset value of the word at an address (R10). -/
def resetWord (addr : Nat) : Word :=
  match regWord (addr / 4096) (addr % 4096) with
  | some r => BitVec.ofNat 32 r.reset
  | none => 0

end Sys2Proof.Machine
end

