-- ==== Sys2Proof/Machine/State.lean ====
section
/-! DEFINITION. The state of the module as plain data, every piece of state the spec names, and State.reset: the module
right after AON reset (R571, R573), Off, with 48 V present, a blank medium and an empty pantry. -/

namespace Sys2Proof.Machine

/-- Why the machine can stop with a fault. -/
inductive Fault where
  /-- No command raises it: every operand names an instance, an address or a value the module has, by its type. SAFE. -/
  | none
deriving DecidableEq, Repr

/-- Why a command can be refused. -/
inductive Refusal where
  /-- A command whose meaning is not written yet; no arm of `exec` answers it. SAFE. -/
  | notModelled (mnemonic : String)
deriving DecidableEq, Repr

/-! ### Requests -/

/-- Who waits for a request's answer: a head, a peer module, or an internal requester (R143, R381). -/
inductive Sender where
  | head (h : Fin 64) (tag : BitVec 16)
  | peer (dev : Dev) (tag : BitVec 16) (epoch : BitVec 16)
  | internal (q : Nat)
  /-- a line that the owner has copied to this target or holder: of a page, or a mirror update (R379, R387) -/
  | copy (dev : Dev) (line : LineAddr) (page : Bool)
deriving DecidableEq, Repr, Inhabited

/-- An ordering identifier (R143). -/
inductive Ident where
  | head (h : Fin 64) (line : LineAddr)
  | stream (id : BitVec 10)
  | internal (q : Nat)
deriving DecidableEq, Repr, Inhabited

/-- What a lane entry is (R129, R136). -/
inductive LaneOp where
  | store
  | atomic (op : BitVec 4) (size : BitVec 2) (off : BitVec 6) (a b : BitVec 128)
deriving DecidableEq, Repr, Inhabited

/-- One store or atomic waiting for its points: who sent it and whether its answer is still due (R61). -/
structure Waiting where
  sender : Sender
  /-- the acknowledgement has not been sent yet (Late) -/
  late : Bool
  /-- its line in its page, once a frame or the DTC holds it (R61, R204) -/
  line : Nat := 0
deriving DecidableEq, Repr, Inhabited

/-- A lane entry (R129, R131). -/
structure LaneEntry where
  uid : Nat
  ident : Ident
  line : LineAddr
  op : LaneOp
  data : Line
  mask : BitVec 64
  poison : Bool
  waits : List Waiting
  /-- the slice's count of admitted requests when its newest store entered (R129, R131) -/
  upto : Nat
  /-- the line's current value has been obtained through a miss entry: value and poison (R131) -/
  current : Option (Line × Bool)
  /-- its hold under R71 has been counted (R141) -/
  heldOnce : Bool := false
deriving DecidableEq, Repr, Inhabited

/-- A merge-store entry: one whole released line (R132, R134). -/
structure MergeEntry where
  line : LineAddr
  data : Line
  poison : Bool
  draining : Bool
  waits : List Waiting
  /-- the peer whose store or atomic was merged last: its device and tag (R387) -/
  peer : Option (Dev × BitVec 16) := none
  /-- Crust has passed the line, and it waits at the DTC, which has not accepted it yet (R134, R192) -/
  offered : Bool := false
  /-- whose stores it holds: head `h` as `h`, the peer with device number `d` as `64 + d` (R179) -/
  srcs : List Nat := []
deriving DecidableEq, Repr, Inhabited

/-- Where a missed line was read from (R436). -/
inductive MissSrc where
  | tierClean (lmp : Lmp)
  | tierStaged (lmp : Lmp)
  | crumbFirst (ppa : Ppa) (crumb : Fin 8)
  | crumbLater
deriving DecidableEq, Repr, Inhabited

/-- How far a miss has come (R107, R73). -/
inductive MissStage where
  | tier
  | map
  | pageFill (lmp : Lmp)
  /-- in reduced mode: the map entry is read from a metadata page (R200, R264) -/
  | mapCrumb (ppa : Ppa) (crumb : Fin 8)
  | medium (ppa : Ppa) (crumb : Fin 8)
  | check (sl : SLine) (src : MissSrc)
  | second (src : MissSrc)
  | fill (data : Line) (poison : Bool) (passed : Bool)
deriving DecidableEq, Repr, Inhabited

/-- The bytes of one lane entry as a read found them on its admission (R107). -/
structure OwnBytes where
  uid : Nat
  data : Line
  mask : BitVec 64
deriving DecidableEq, Repr, Inhabited

/-- A read at its slice, with what its own lane held on its admission (R107, R145). -/
structure Waiter where
  ident : Ident
  sender : Sender
  /-- the slice's count of admitted requests when this one was admitted -/
  serial : Nat
  /-- the stores of its identifier to the line that entered their lane before it, after the last atomic, oldest first -/
  own : List OwnBytes
  /-- the last atomic of its identifier on the line that entered the lane before it -/
  after : Option Nat
  /-- an SRAM error it will find in the line cache (R109) -/
  sram : LcErr
  /-- the data has left already in Speculative mode (R438) -/
  served : Bool
  /-- outside the conditions of R57: its head was in L0p on its arrival, or it waited for a free miss entry (R57, R233) -/
  beyond : Bool
deriving DecidableEq, Repr, Inhabited

/-- A miss entry (R108). -/
structure MissEntry where
  line : LineAddr
  stage : MissStage
  waiters : List Waiter
  /-- lane entries (uid) that obtain their line through this entry (R131) -/
  entries : List Nat
  /-- the whole line released since the miss was issued: value and poison (R52) -/
  newer : Option (Line × Bool)
  /-- an invalidation that covers the line started after the miss was issued (R123) -/
  stale : Bool
deriving DecidableEq, Repr, Inhabited

/-- A request that the slice has not admitted yet (R48, R97, R108, R130). -/
inductive InReq where
  | entry (e : LaneEntry)
  | read (a : LineAddr) (w : Waiter)
deriving DecidableEq, Repr, Inhabited

/-- A line-cache way (R110, R111, R113); its lock group follows from SLC_LOCK_WAYS. -/
structure Way where
  valid : Bool
  tag : BitVec 33
  data : Line
  region : Byte
  age : Nat
deriving DecidableEq, Repr, Inhabited

/-- An invalidation request (R121, R122). -/
inductive InvReq where
  | full
  | range (page : BitVec 44) (n : BitVec 32)
  | region (r : Byte)
deriving DecidableEq, Repr, Inhabited

/-- One slice (R106 to R140, R514). -/
structure Slice where
  /-- lane pool entries, oldest first, all lanes (R129, R130) -/
  lanes : List LaneEntry := []
  /-- merge store, oldest first (R132) -/
  merge : List MergeEntry := []
  /-- miss entries (R108) -/
  misses : List MissEntry := []
  /-- requests that wait at the crossbar, in order of arrival (R97, R108, R130) -/
  inq : List InReq := []
  /-- reads behind an unreleased atomic of their identifier (R145) -/
  behind : List (LineAddr × Waiter) := []
  /-- the read that waits in S5 for a free miss entry (R108) -/
  stalled : List (LineAddr × Waiter) := []
  /-- line cache, key 16·set + way (R110) -/
  lc : Tab Way := []
  /-- invalidation queue, the running one first (R121) -/
  inv : List InvReq := []
  /-- lock groups with a preload in progress, and how many lines of its range each has asked for (R128) -/
  preloading : List Nat := []
  preNext : Tab Nat := []
  /-- FULL markers of internal engines that have not been reported: engine, and the count of admitted requests at the marker (R148) -/
  marks : List (Nat × Nat) := []
  /-- requests admitted so far; also the next entry's uid -/
  serial : Nat := 0
  /-- module times of the PB_SRAM_UE of the last 24 h (R514) -/
  ues : List Nat := []
  /-- the microsecond of the last throttled release, and the lines released in it (R296, log 91) -/
  paced : Nat × Nat := (0, 0)
deriving DecidableEq, Repr, Inhabited

/-! ### DRAM tier -/

/-- A tier frame (R189, R191, R192). -/
structure Frame where
  lmp : Lmp
  /-- frame state, encoded as in R191 -/
  st : BitVec 3
  ref : Bool
  /-- lines of the page, key 0 to 63 -/
  lines : Tab SLine
  /-- the 64-bit line mask of R192 -/
  mask : BitVec 64
  /-- handed to the MTE (R196) -/
  handed : Bool
  /-- order of becoming Dirty -/
  order : Nat
  /-- the page's transfer to its die has ended (R193) -/
  xferred : Bool
  /-- stores that wait for the Strict point of this frame's next program (R61) -/
  waits : List Waiting
  /-- stores carried by the program now running -/
  carried : List Waiting
  /-- lines that wait for the transfer of a Programming frame (R193) -/
  held : List (Nat × SLine × List Waiting)
deriving DecidableEq, Repr, Inhabited

/-- A line that waits at the DTC (R192, R194, R197). -/
structure DtcWait where
  line : LineAddr
  sl : SLine
  waits : List Waiting
deriving DecidableEq, Repr, Inhabited

/-- One RDIMM socket (R36, R202). -/
structure Socket where
  /-- SPD read since power-up -/
  known : Bool
  spd : Spd
  /-- READMIT has been written since the channel was fenced (R203) -/
  readmit : Bool := false
  /-- consecutive rounds out of limits, and unreadable (R202) -/
  outRounds : Nat
  badRounds : Nat
deriving DecidableEq, Repr, Inhabited

/-- A directory set in the tag cache, or a map page's entry in the map cache: its key, and whether it differs from the copy behind
the cache (R190, R264). -/
structure Cached where
  key : Nat
  dirty : Bool
deriving DecidableEq, Repr, Inhabited

/-- The DRAM tier controller (R182 to R210). -/
structure Dtc where
  sockets : Tab Socket := []
  /-- used sockets in ascending order (R188) -/
  used : List Nat := []
  /-- population decided (R36) -/
  decided : Bool := false
  /-- frames, key frame number (R188) -/
  frames : Tab Frame := []
  /-- way after the last victim, per set (R194) -/
  hand : Tab Nat := []
  /-- second-touch filter (R195) -/
  touched : List Nat := []
  /-- page fills in progress (R192, R195) -/
  fills : List Lmp := []
  /-- lines waiting for a frame, mask or Strict room -/
  waiting : List DtcWait := []
  /-- last measured usable energy, J (R199, R551) -/
  energy : Nat := 0
  /-- dirty budget, MiB (R199) -/
  budget : Nat := 0
  /-- shortfall in progress (R172) -/
  short : Bool := false
  /-- early warning or capped holds of R71 asked by PWR (R550) -/
  early : Bool := false
  /-- channels leaving in a re-form (R205 to R207) -/
  leaving : List Nat := []
  /-- sockets that join in a re-form (R203) -/
  joining : List Nat := []
  /-- corrected errors: channel, device code 10·sub + dev, module time (R204) -/
  ces : List (Nat × Nat × Nat) := []
  /-- uncorrectable errors: channel, module time (R204) -/
  uesAt : List (Nat × Nat) := []
  /-- patrol passes begun (R204) -/
  scrubs : Nat := 0
  /-- order counter of Dirty frames -/
  order : Nat := 0
  /-- the tag cache: directory sets by set number modulo 65,536, most recently used first, at most 16 each (R190) -/
  tagCache : Tab (List Cached) := []
  /-- the tier directory in the metadata reserve: the 16 B of each set as last written back (R189, R190) -/
  dirMem : Tab (BitVec 128) := []
  /-- the map cache of reduced mode: LMPs by LMP modulo 65,536, most recently used first, at most 16 each (R200, R264) -/
  mapCache : Tab (List Cached) := []
  /-- parts of the reserve whose entries the MTE reloads from the medium (R204) -/
  reload : List ReserveArea := []
  /-- sockets whose DIMM is dead: their share of the reserve is reloaded, not copied (R205) -/
  dead : List Nat := []
  /-- relocation stripes whose map updates wait for the Resume of a re-form (R206) -/
  paused : List Nat := []
deriving DecidableEq, Repr, Inhabited

/-! ### Medium -/

/-- A page tag (R257); COMMIT and CRC are carried as `whole` of the page. -/
structure PageTag where
  lmp : Lmp
  type : Byte
  relgen : Byte
  emerg : Bool
  reloc : Bool
  keyRange : BitVec 6
  wsn : Nat
  region : Byte
  parity : BitVec 4
  rwEpoch : BitVec 16
  ptime : BitVec 40
  eraseCnt : BitVec 24
  setid : Nat
  aux : Nat
deriving DecidableEq, Repr, Inhabited

/-- A programmed page (R211, R217, R265). -/
structure Page where
  tag : PageTag
  lines : Tab SLine
  /-- the page passes the test of R265 -/
  whole : Bool
  /-- the parity page of its stripe: the XOR of the other pages, its tag that of theirs (R222) -/
  isParity : Bool := false
deriving DecidableEq, Repr, Inhabited

/-- What a crumb is read for (R192, R228, R236, R436). -/
inductive ReadFor where
  | line (l : LineAddr)
  | survey
  /-- the page read of a page fill, whose crumbs come with PAGE_FILL_DONE (R192) -/
  | fill (l : Lmp)
  /-- the map entry of a line's page, in reduced mode (R200, R264) -/
  | mapFor (l : LineAddr)
  | check
deriving DecidableEq, Repr, Inhabited

/-- A crumb read at a die (R228 to R232). -/
structure CrumbRead where
  ppa : Ppa
  crumb : Fin 8
  why : ReadFor
  recon : Bool
  /-- waits because its die is busy or suspended (R230, R232) -/
  waits : Bool
  resets : Nat
  /-- beyond the conditions of R57 (R233) -/
  slow : Bool
  /-- reached step 4 of the ladder (R228) -/
  ladder : Bool
  /-- a check of which an earlier crumb called for a refresh (R237) -/
  bad : Bool
deriving DecidableEq, Repr, Inhabited

/-- A die (R229, R232, R241). -/
structure Die where
  fenced : Bool := false
  /-- running a program or erase: its stripe or erase block number plus one; 0 idle -/
  busy : Nat := 0
  suspended : Bool := false
  suspends : Nat := 0
  /-- module time of the running suspend, and ns the operation spent suspended before it (R232) -/
  susAt : Nat := 0
  susNs : Nat := 0
  /-- module time at which the operation typically ends (R214, R232) -/
  typEnd : Nat := 0
  /-- MCH_SUSP as it stood when the operation was issued: MAXCNT, and MAXTIME in ns (R244) -/
  maxCnt : Nat := 0
  maxNs : Nat := 0
  /-- the operation is protected (R232) -/
  protected_ : Bool := false
  /-- module times of program and erase failures of the last 24 h (R241) -/
  fails : List Nat := []
deriving DecidableEq, Repr, Inhabited

/-- A block (R213, R215, R226, R236, R277). -/
structure Block where
  /-- 0 Erased, 1 in a set, 2 retired, 3 factory-bad, 4 erasing -/
  st : Nat := 0
  erases : Nat := 0
  /-- next page to program (R215) -/
  next : Nat := 0
  setid : Nat := 0
  /-- read-disturb counter, 65,536 at each start-up (R236) -/
  reads : Nat := 65536
  /-- drift age and factor (R226) -/
  d : Rat := 0
  b : Rat := 1
  anchored : Bool := false
deriving DecidableEq, Repr

/-- The media channel controllers (R211 to R246). -/
structure Mch where
  dies : Tab Die := []
  blocks : Tab Block := []
  /-- programmed pages, key PPA -/
  pages : Tab Page := []
  reads : List CrumbRead := []
  /-- refresh requests: block, reason 2 weak, 4 drift, 5 disturb (R236 to R240, R272) -/
  refresh : List (Nat × Nat) := []
  /-- groups whose mode move has not ended, with the mode being left (R235) -/
  moving : Tab Nat := []
  /-- bus failures: channel, module time (R241) -/
  busFails : List (Nat × Nat) := []
  /-- consecutive repeats of the transfer on each channel (R216) -/
  repeats : Tab Nat := []
  /-- program rate cap set by PWR (R234) -/
  cap : Nat := 200
  /-- data pages programmed in the last 1 ms: module time, ns, and how many (MCH_PGMRATE.NOW) -/
  pgmLog : List (Nat × Nat) := []
  surveyed : Bool := false
  /-- corrected medium errors by segment (R423) -/
  corr : Tab Nat := []
  /-- thermal rounds counted, for the 1/1,024 drift test (R238) -/
  round : Nat := 0
  /-- the dies' information areas: factory-bad blocks as block keys, by die; and the dies whose list cannot be read (R213, log 67) -/
  badLists : Tab (List Nat) := []
  badUnread : List Nat := []
deriving DecidableEq, Repr, Inhabited

/-! ### Translation and rewind -/

/-- A map entry (R247). -/
structure MapEntry where
  ret : Bool := false
  st : BitVec 2 := 0
  relgen : Byte := 0
  ppa : Ppa := 0
deriving DecidableEq, Repr, Inhabited

/-- A journal entry (R260, R305). -/
structure JEntry where
  type : Byte
  arg : Byte
  x : BitVec 64
  y : BitVec 64
  z : Word
deriving DecidableEq, Repr, Inhabited

/-- A stripe set (R253, R255). -/
structure SetRec where
  group : Nat
  plane : Nat
  /-- 1 Reserve, 2 Open, 3 Full, 4 Victim, 5 Released, 6 Erasing -/
  st : Nat
  /-- 0 host, 1 relocation, 2 metadata, 3 reserve -/
  purpose : Nat
  /-- the set's blocks as PPAs with page field 0 -/
  blocks : List Nat
  row : Nat
  /-- scraper reason asked for the set, 0 none (R272) -/
  reason : Nat
  /-- sets from which this set's relocated pages came (R267) -/
  sources : List Nat
  /-- reason of the victims that fill a relocation set, 0 for another set (R272) -/
  fills : Nat := 0
deriving DecidableEq, Repr, Inhabited

/-- A page waiting for or riding in a stripe. -/
structure StripePage where
  tag : PageTag
  lines : Tab SLine
  /-- source PPA of a relocation -/
  from_ : Option Ppa
  die : Nat
deriving DecidableEq, Repr, Inhabited

/-- A stripe (R221, R223). -/
structure Stripe where
  id : Nat
  group : Nat
  plane : Nat
  page : Nat
  setid : Nat
  parity : Nat
  pages : List StripePage
  /-- 0 host, 1 relocation, 2 journal, 3 checkpoint -/
  kind : Nat
  issued : Bool
  /-- programmed again after a failure, from the copies it holds (R275) -/
  retry : Bool
  /-- the stripe whose row it is programmed with, itself where it leads the row (R223) -/
  lead : Nat := 0
deriving DecidableEq, Repr, Inhabited

/-- A local segment (R88, R371). -/
structure Seg where
  st : BitVec 3 := 0
  gsn : Gsn := 0
  region : Byte := 0
  epoch : BitVec 16 := 0
  mmode : BitVec 2 := 0
  partner : Dev := 0
  tentative : Bool := false
  allocWsn : Nat := 0
  /-- of a mirror copy: the persistence of the owner's region (R387) -/
  copyPersist : Nat := 0
deriving DecidableEq, Repr, Inhabited

/-- A region's committed attributes: ADDR_RGN_ATTR0 to ATTR2 (R92, R94, R103). -/
structure Region where
  attr0 : Word := 1
  attr1 : Word := 0
  attr2 : Word := 0
deriving DecidableEq, Repr, Inhabited

/-- A rewind mark (R285). -/
structure Mark where
  epoch : BitVec 16
  cut : Nat
  ptime : BitVec 40
deriving DecidableEq, Repr, Inhabited

/-- A running rewind operation (R298 to R304). -/
structure RwOp where
  /-- 1 marking, 2 rewinding, 3 dropping (RW_RSTAT.OP) -/
  kind : Nat
  /-- 0 Check, 1 Hold or Quiesce, 2 Cut or Void, 3 Apply or Done, 4 waiting for the mirror holder -/
  phase : Nat
  epoch : BitVec 16
  cut : Nat
  /-- high WSN of its RW_VOID -/
  high : Nat
  /-- the command's handle, or the owner and tag this module answers as a mirror holder (R312) -/
  handle : Word
  peer : Option (Dev × BitVec 16)
  /-- holders whose confirmation is due, with the tag sent -/
  confirms : List (Dev × BitVec 16)
  /-- a holder has refused -/
  partial_ : Bool
  /-- holders whose mark marker has not yet followed the last store released before Hold into the mirror stream (R312) -/
  unsent : List (Dev × BitVec 16) := []
deriving DecidableEq, Repr, Inhabited

/-- The rewind state of a region (R285, R286, R296). -/
structure RwRegion where
  epoch : BitVec 16 := 0
  /-- live marks, oldest first -/
  marks : List Mark := []
  op : Option RwOp := none
  /-- 0 normal, 1 throttled, 2 full (R296) -/
  guard : BitVec 2 := 0
deriving DecidableEq, Repr, Inhabited

/-- A version index entry (R292), with the mark epoch it is attributed to (R290). -/
structure IdxEntry where
  lmp : Lmp
  relgen : Byte
  region : Byte
  ppa : Ppa
  wsn : Nat
  succ : Nat
  mark : BitVec 16
deriving DecidableEq, Repr, Inhabited

/-- A void table entry (R306). -/
structure VoidEntry where
  region : Byte
  low : Nat
  high : Nat
  ceil : Nat
deriving DecidableEq, Repr, Inhabited

/-- A region commit in progress (R97, R98): 0 none, 1 waiting for the safe point, 2 abandoned and to be retried. -/
abbrev CommitPhase := Nat

/-- A discard in progress (R99). -/
structure DiscardOp where
  handle : Word
  fga : Fga
  lines : Word
  /-- owners whose check answer is still due -/
  checks : List Dev
  /-- owners whose confirmation is still due -/
  confirms : List Dev
  pages : Nat
  partial_ : Nat
  id : BitVec 16
  /-- the module that runs the discard, where this one only discards its part -/
  asker : Option Dev := none
deriving DecidableEq, Repr, Inhabited

/-- The media translation engine with rewind (R247 to R316). -/
structure Mte where
  map : Tab MapEntry := []
  /-- newest durable map images, by LMP, and each map page's capture WSN (R262) -/
  image : Tab MapEntry := []
  captured : Tab Nat := []
  /-- capture WSN of the newest directory and block-table image; 0 none -/
  dirImage : Nat := 0
  /-- map pages changed since their last capture -/
  changed : List Nat := []
  nextWsn : Nat := 0
  ceiling : Nat := 0
  durCeiling : Nat := 0
  nextSetid : Nat := 1
  sets : Tab SetRec := []
  stripes : List Stripe := []
  nextStripe : Nat := 0
  /-- frames handed over by the DTC and not yet placed, in order (R250) -/
  handoff : List Lmp := []
  /-- WSN of the UNMAP or POISON that last acted on an LMP (R291) -/
  unmapWsn : Tab Nat := []
  /-- UNMAP (false) and POISON (true) entries held for pages in flight (R249) -/
  unmapWait : List (Lmp × Bool) := []
  /-- groups between the LOW and HIGH levels that reclaim (R271) -/
  reclaim : List Nat := []
  /-- hundredths of a program slot that each group owes the scraper (R271, log 90) -/
  slots : Tab Nat := []
  /-- the checkpoint writer waits for a group that can take its program (R263, log 90) -/
  ckptWait : Bool := false
  /-- pages of the open host stripe (R63) -/
  gather : List StripePage := []
  turn : Nat := 0
  /-- stack of the parity page of each row laid with a fenced die, key 1024·set + row (R224) -/
  parityAt : Tab Nat := []
  /-- journal entries written and not yet in a programmed stripe, oldest first (R258) -/
  jbuf : List JEntry := []
  /-- entries of the journal stripe being programmed -/
  jprog : List JEntry := []
  /-- programmed pages that wait for room in the journal buffer (R258) -/
  jwait : List (StripePage × Ppa) := []
  /-- durable entries since the trim WSN with their page WSN, oldest first -/
  jdur : List (Nat × JEntry) := []
  /-- page WSN of the journal stripe being programmed, and the newest durable one -/
  jprogWsn : Nat := 0
  jTop : Nat := 0
  /-- JRN_FULL is in force (R263) -/
  jfull : Bool := false
  /-- WSN_END is in force (R252) -/
  wsnEnd : Bool := false
  trim : Nat := 0
  segs : Tab Seg := []
  regions : Tab Region := []
  shAttr0 : Tab Word := []
  shAttr1 : Tab Word := []
  shSegRgn : Tab Byte := []
  commit : CommitPhase := 0
  /-- segments whose admission is held (R97, R302, R380), by LSI -/
  heldSegs : List Nat := []
  discards : List DiscardOp := []
  rw : Tab RwRegion := []
  index : List IdxEntry := []
  voids : List VoidEntry := []
  /-- scraper: the victim of each group (R271 to R273), key group -/
  victim : Tab Nat := []
  /-- sets whose SET_RELEASE waits to become durable -/
  releasing : List Nat := []
  /-- regions whose releases are held by a mark (R131, R300) -/
  heldRegions : List Nat := []
  /-- dirty shutdown and restore progress: metadata restored (R94, R104) -/
  restored : Bool := false
  /-- physical state of the medium: local segments both of whose records are unreadable (R270); no command damages a record -/
  unreadable : List Nat := []
  /-- a whole directory and block-table image is in the medium (R262, R269) -/
  dirOk : Bool := false
  /-- segments that lost acknowledged stores at an interruption and wait for the BREACH of the next Settle (R270) -/
  lostSegs : List Nat := []
  /-- module time at which Translation began (MTE_STAT.START_MS) -/
  startAt : Nat := 0
deriving DecidableEq, Repr, Inhabited

/-! ### Links and fabric -/

/-- A message the module sends to a peer, with the fields its rule names. -/
inductive Msg where
  | rd (line : LineAddr)
  | wr (line : LineAddr) (mask : BitVec 64) (data : Line)
  | atom (fga : Fga) (op : BitVec 4) (size : BitVec 2) (a b : BitVec 128)
  | barrier (kind : BitVec 2)
  | gpf
  | rdData (data : Line) (poison : Bool)
  | wrStat (point : BitVec 2) (later : Bool)
  | atomData (old : BitVec 128)
  | barrierDone
  | gpfDone
  | retry
  | esqAck
  | err
  | blkData (line : LineAddr) (lines : List SLine) (reqDev : Dev)
  | pageCtl (page : BitVec 44) (kind : BitVec 2)
  | pageAck (page : BitVec 44)
  | lineAck (line : LineAddr)
  | copyEnd (kind : BitVec 2)
  | rwMarker (region : Byte) (epoch : BitVec 16)
  | rwFwd (op : BitVec 2) (region : Byte) (epoch : BitVec 16)
  | rwConf
  | fwChunk (off ver : Word) (bytes : List Byte)
  | gstReq (g : GstReq)
  | gstRsp (gsn : Gsn) (owner : Dev) (handle : Word)
  | gstUpd (ver : BitVec 64) (row : GstRow) (gsn : Gsn)
  | gstAck (ver : BitVec 64)
  | gstSync (first : Gsn) (count : BitVec 27) (ver : BitVec 64)
  | gstClaim (c : Claim)
  | fwuCtl (step : BitVec 4) (ver len : Word)
  | fwuDone (activated : Bool)
  | discardCheck (id : BitVec 16) (fga : Fga) (lines : Word)
  | discardGo (id : BitVec 16) (fga : Fga) (lines : Word)
  | discardRsp (id : BitVec 16) (confirm : Bool) (pages : Word)
  | krTable (ver : Word) (bases : List (BitVec 27))
  | krPush (r : Nat) (gen : BitVec 16) (erase : Bool) (keys : Option KeySet)
  | krAck (r : Nat) (gen : BitVec 16)
  | krPull
deriving DecidableEq, Repr, Inhabited

/-- Keys of a link direction pair and the exchange state (R332, R455, R457). -/
structure LinkKeys where
  txKey : BitVec 256 := 0
  rxKey : BitVec 256 := 0
  txSalt : Word := 0
  rxSalt : Word := 0
  oldRx : Option (BitVec 256) := none
  oldSalt : Word := 0
  valid : Bool := false
  /-- offer sent, offer received, cert ok, proof ok, done sent, done received -/
  offered : Bool := false
  gotOffer : Bool := false
  certOk : Bool := false
  proofOk : Bool := false
  doneTx : Bool := false
  doneRx : Bool := false
  nonceTx : BitVec 256 := 0
  nonceRx : BitVec 256 := 0
  peerKey : BitVec 512 := 0
  /-- the ephemeral public keys of the exchange, erased once the keys are derived (R455) -/
  ephTx : BitVec 512 := 0
  ephRx : BitVec 512 := 0
  /-- the flit numbers of both directions at the last keying (R457) -/
  txBase : Nat := 0
  rxBase : Nat := 0
deriving DecidableEq, Repr, Inhabited

/-- What an Elvuc port sends on its own link. -/
inductive LinkMsg where
  /-- training blocks: kind, the rate limit offered, the port's width and the preset asked for (R325); the lane number and the serial are
  the sender's own -/
  | train (kind : BitVec 8) (rate : Byte) (width : Byte) (preset : BitVec 4)
  | flit (ftype : BitVec 4) (f : Flit)
  | hello (x : Hello)
  | lsa (x : LsaFrag)
  | devReq (serial : BitVec 64) (inst : BitVec 24) (wanted : Dev)
  | devGrant (serial : BitVec 64) (dev : Dev) (cust : BitVec 52)
  | tree (root : BitVec 64) (epoch : BitVec 16)
  | trickle (accept : Bool)
  | wake
  | kxOffer (key : BitVec 512) (nonce : BitVec 256)
  | kxCert
  | kxProof
  | kxDone
deriving DecidableEq, Repr, Inhabited

/-- What a new flit carries: a message of the fabric with its routing grain, or a link-local one. -/
inductive Carried where
  | msg (r : Routing) (m : Msg)
  | link (m : LinkMsg)
deriving DecidableEq, Repr, Inhabited

/-- An Elvuc port (R317 to R348). -/
structure Port where
  /-- PRT_PSTAT.STATE -/
  st : BitVec 3 := 0
  /-- 0 none, 1 Detect, 2 Base, 3 Equalise, 4 Verify, 5 Keying, 6 Hello -/
  phase : Nat := 0
  rate : BitVec 2 := 0
  width : BitVec 3 := 0
  rev : Bool := false
  polInv : Byte := 0
  cause : BitVec 5 := 0
  /-- consecutive good training blocks of each lane of the port; a training block has been seen (R321, R326) -/
  good : Tab Nat := []
  seen : Bool := false
  /-- the cabling breaks R22: lanes in no order or of several partners; training does not pass Base -/
  mixed : Bool := false
  /-- waits out a training failure (R326) -/
  wait : Bool := false
  partnerRate : Byte := 3
  partnerSerial : BitVec 64 := 0
  partnerDev : Dev := 0
  partnerConf : Bool := false
  eqTx : BitVec 4 := 0
  eqDone : Bool := false
  backoff : Nat := 1
  kepochTx : Bool := false
  kepochRx : Bool := false
  flitNo : Nat := 0
  /-- new flits accepted since link-up (R330) -/
  rxFlits : Nat := 0
  txSeq : BitVec 12 := 0
  rxAck : BitVec 12 := 0
  /-- flits sent and not acknowledged, oldest first, one message each (log 18) -/
  unacked : List (BitVec 12 × Carried) := []
  gap : Bool := false
  lastBadTag : Option (BitVec 12) := none
  replays : Nat := 0
  /-- flits received since the last acknowledgement -/
  sinceAck : Nat := 0
  /-- credit held, key 2·VC + class (R341) -/
  credit : Tab Nat := []
  /-- credit to return, same key -/
  owed : Tab Nat := []
  trickleAsked : Bool := false
  /-- link-local messages that wait for MGT credit (R341) -/
  mgtq : List LinkMsg := []
  /-- a Trickle exit runs: messages still flow (R348) -/
  exiting : Bool := false
  keys : LinkKeys := {}
  savedRate : BitVec 2 := 0
  savedWidth : BitVec 3 := 0
deriving DecidableEq, Repr, Inhabited

/-- A cable cage (R23, R25): phase 0 empty, 1 debounce, 2 reading, 3 settled. -/
structure Cage where
  phase : Nat := 0
  ident : Bool := false
  breakout : Byte := 0
  rate : Byte := 0
  len : Byte := 0
  part : BitVec 16 := 0
deriving DecidableEq, Repr, Inhabited

/-- A directory entry; its LSI and PIN follow from the local segments and the bindings (R83, R84). -/
structure DirEntry where
  st : BitVec 3 := 0
  owner : Dev := 0
  mirror : Dev := 0
  epoch : BitVec 16 := 0
deriving DecidableEq, Repr, Inhabited

/-- The kind of a request. -/
inductive ReqKind where
  | read | store | atomic | barrier | gpf
deriving DecidableEq, Repr, Inhabited

/-- A request this module has sent to a peer and that has not been answered (R68, R73, R383). -/
structure Remote where
  tag : BitVec 16
  kind : ReqKind
  sender : Sender
  dst : Dev
  epoch : BitVec 16
  line : LineAddr
  gsn : Gsn
  off : BitVec 6
  op : BitVec 4
  size : BitVec 2
  a : BitVec 128
  b : BitVec 128
  data : Line
  mask : BitVec 64
  poison : Bool
  stream : BitVec 10
  esq : BitVec 16
  /-- an Early answer has been given to the sender -/
  answered : Bool
  reissued : Bool
  /-- an atomic whose old value has been returned and whose store part has not reached its point (R155) -/
  done : Bool := false
deriving DecidableEq, Repr, Inhabited

/-- A stored LSA fragment (R351). -/
abbrev Lsa := LsaFrag

/-- A routing table entry (R357, R358). -/
structure Route where
  dist : Nat := 31
  next : List Nat := []
  esc : Option Nat := none
  /-- the ESC hop is a down hop -/
  escIsDown : Bool := false
  escDn : Option Nat := none
deriving DecidableEq, Repr, Inhabited

/-- A REQ kept until it is acknowledged (R345). -/
structure Sent where
  esq : BitVec 16
  r : Routing
  m : Msg
deriving DecidableEq, Repr, Inhabited

/-- The end-to-end sequences of one peer (R344, R345). -/
structure Pair where
  txNext : BitVec 16 := 0
  rxNext : BitVec 16 := 0
  /-- REQs sent and not acknowledged, oldest first -/
  unacked : List Sent := []
  /-- REQs parked ahead of a gap -/
  parked : List (Routing × Msg) := []
  /-- module time, ns, of the last RETRY for the present gap (R344) -/
  retryAt : Option Nat := none
  ackDue : Bool := false
  inst : BitVec 24 := 0
deriving DecidableEq, Repr, Inhabited

/-- A barrier or GPF marker of a peer at this owner: the requests it waits for (R155, R179). -/
structure PeerMark where
  r : Routing
  gpf : Bool
  tags : List (BitVec 16)
  worst : Nat
  /-- each slice's count of admitted requests when the marker entered its lane (R129, R131) -/
  places : List Nat
  kind : BitVec 2 := 2
deriving DecidableEq, Repr, Inhabited

/-- The crossbar, router and directory cache (R83 to R86, R343 to R361). -/
structure Fxb where
  dir : Tab DirEntry := []
  db : List Lsa := []
  lsaSeq : Word := 0
  conf : Bool := false
  devnum : Dev := 0
  role : BitVec 3 := 0
  cust : Dev := 0
  stby1 : Dev := 0
  stby2 : Dev := 0
  quorum : Bool := false
  memb : Dev := 0
  routes : Tab Route := []
  oldEsc : Tab Route := []
  treeEpoch : BitVec 16 := 0
  /-- at the root: module time, ns, of the last tree epoch, whether another is due, and the tree it stood for (R358) -/
  treeAt : Option Nat := none
  treeDue : Bool := false
  treeOf : List (Dev × List Dev) := []
  pairs : Tab Pair := []
  remotes : List Remote := []
  /-- requests that wait for room at the fabric or for answers of an older epoch (R68, R345, R382) -/
  waitq : List Remote := []
  /-- messages that wait for credit (R341, R359) -/
  transit : List (Routing × Msg) := []
  /-- requests of peers this module has accepted and not finally answered, with the slice that serves each -/
  served : List (Dev × BitVec 16 × ReqKind × Nat) := []
  marks : List PeerMark := []
  /-- remote reads answered, by tag: head and line, for a late alarm (R438) -/
  recent : List (BitVec 16 × Fin 64 × LineAddr) := []
  /-- the old owner that forwards requests of a segment switched to this module (R346, R381) -/
  fwdFrom : List (Gsn × Dev) := []
  nextTag : BitVec 16 := 0
  /-- devices declared dead (R394) -/
  dead : List Dev := []
  /-- instance: the power-cycle count (R349) -/
  serial : BitVec 64 := 0
  topoChanged : Bool := false
  /-- port blocks whose BIF is stored in the pantry or has been written since start-up (R323) -/
  bifSet : List Nat := []
  /-- the custodian's grants: serial number and device number (R355) -/
  grants : List (BitVec 64 × Dev) := []
  /-- DEV_REQ (false) and DEV_GRANT (true) flooded since the last refresh interval (R355) -/
  flooded : List (BitVec 64 × Dev × Bool) := []
  /-- REQs held until the module has woken from Deep Idle (R558) -/
  sleepq : List (Routing × Msg) := []
  /-- the settle time has passed with no eligible origin (R354) -/
  noElig : Bool := false
  /-- this module's last LSA, compared to see a change (R350) -/
  lastNbrs : List Neighbour := []
deriving DecidableEq, Repr, Inhabited

/-- What a mailbox or SPDM responder answers, as a list of numbers in the order of its rule. -/
abbrev Payload := List Nat

/-- What the module drives outward. -/
inductive Output where
  | readData (h : Fin 64) (tag : BitVec 16) (data : Line) (poison : Bool)
  | writeDone (h : Fin 64) (tag : BitVec 16) (error : Bool)
  | atomicData (h : Fin 64) (tag : BitVec 16) (old : BitVec 128) (poison : Bool)
  | barrierCmp (h : Fin 64) (tag : Byte) (status : Status)
  | gpfAck (h : Fin 64) (phase : Nat)
  | mailbox (h : Fin 64) (rc : Nat) (p : Payload)
  | spdm (p : SpdmPath) (code : Nat) (d : Payload)
  | ideKm (h : Fin 64) (code : Nat)
  | regRead (q : Requester) (addr : BitVec 24) (w : Word)
  | i3cBytes (b : List Byte)
  | i3cNack
  | i3cAck
  | ibi (mdb : Byte) (payload : List Byte)
  | hotJoin
  | msi (h : Fin 64) (vector : Nat)
  | mctp (code : Nat) (d : Payload)
  /-- a message leaves through the port that its routing grain names -/
  | send (r : Routing) (m : Msg)
  | link (port : Fin 512) (m : LinkMsg)
  | debugRead (data : Line) (poison : Bool)
  | debugWord (w : Word)
  /-- the answer to an unlock token that is refused for the module's state (R466) -/
  | unlock (st : Status)
deriving DecidableEq, Repr, Inhabited

/-! ### Heads -/

/-- A request of a head that has not reached its point (R154, R158). -/
structure Outst where
  serial : Nat
  tag : BitVec 16
  kind : ReqKind
  line : LineAddr
deriving DecidableEq, Repr, Inhabited

/-- An outstanding barrier (R155, R157, R158). -/
structure Barrier where
  tag : Byte
  kind : BitVec 2
  serial : Nat
  /-- worst status so far, as rank of R158: 0 OK, 1 INTEGRITY, 2 TIMEOUT, 3 LOST, 4 ABORTED, 5 STATE -/
  worst : Nat
  /-- peers whose BARRIER_DONE is due -/
  peers : List Dev
  /-- each slice's count of admitted requests when its marker entered the lane (R129, R131) -/
  places : List Nat
deriving DecidableEq, Repr, Inhabited

/-- A request held at the head by a barrier (R156). -/
inductive HeldReq where
  | read (hpa : BitVec 64) (tag : BitVec 16) (sram : LcErr)
  | write (hpa : BitVec 64) (tag : BitVec 16) (data : Line) (mask : BitVec 64) (poison : Bool)
  | atomic (hpa : BitVec 64) (tag : BitVec 16) (op : BitVec 4) (size : BitVec 2) (a b : BitVec 128)
deriving DecidableEq, Repr, Inhabited

/-- A CXL event record (R424, R425): kind, status, GSN, DPA, handle, count, event sequence; kind 0x80 a module event. -/
structure CxlRec where
  kind : Byte
  status : Status
  gsn : Gsn
  dpa : Dpa
  handle : Word
  count : Nat
  seq : Nat
  /-- the record's own handle in its log, and the head's timestamp -/
  hdl : BitVec 16 := 0
  stamp : BitVec 64 := 0
deriving DecidableEq, Repr, Inhabited

/-- An extent offered to the host and not yet answered (R413, R415). -/
structure Offer where
  slot : BitVec 14
  gsn : Gsn
  rd : Bool
  wr : Bool
  /-- handle of the allocation or bind that waits; 0 none -/
  handle : Word
  again : Bool
  /-- the module whose operation waits; 0 this one -/
  from_ : Dev := 0
deriving DecidableEq, Repr, Inhabited

/-- A CXL head (R405 to R430). -/
structure Head where
  /-- HEAD_STAT.STATE -/
  st : BitVec 3 := 0
  width : BitVec 3 := 0
  rate : BitVec 3 := 0
  fullWidth : BitVec 3 := 0
  /-- the width before Deep Idle reduced it; 0 outside Deep Idle (R407) -/
  priorWidth : BitVec 3 := 0
  ide : Bool := false
  decoders : Tab Decoder := []
  /-- extent table, key slot (R79) -/
  extents : Tab Word := []
  serial : Nat := 0
  outs : List Outst := []
  barriers : List Barrier := []
  /-- the worst end of its stores and atomics that no barrier has reported yet, as rank of R158 -/
  past : Nat := 0
  /-- requests a barrier holds, with the head's request count at their arrival -/
  held : List (Nat × HeldReq) := []
  /-- newest first: TAG and status (R410) -/
  barStatus : List (Byte × Status) := []
  barCount : Word := 0
  /-- GPF phase 2 in progress: the serial it covers (R179) -/
  gpf : Option Nat := none
  /-- segments whose loss the head has been told of (R162) -/
  lostTold : List Gsn := []
  /-- peers whose GPF_DONE is due -/
  gpfPeers : List Dev := []
  /-- the five event logs, key 0 Info, 1 Warning, 2 Failure, 3 Fatal, 4 DC -/
  logs : Tab (List CxlRec) := []
  logOvf : Tab Nat := []
  policy : BitVec 40 := 0
  /-- the timestamp set last, and the module time at which it was set (R421) -/
  timestamp : BitVec 64 := 0
  stampAt : Option Nat := none
  alerts : BitVec 96 := 0
  poison : List LineAddr := []
  /-- a record was dropped, and the head's timestamp then (R417) -/
  poisonOvf : Bool := false
  poisonOvfAt : BitVec 64 := 0
  cplQ : List (List Word) := []
  /-- completion packets that wait for room in the queue, oldest first (R422) -/
  cplWait : List (List Word) := []
  offers : List Offer := []
  /-- slots whose release the host owes (R414) -/
  releasing : List (BitVec 14) := []
  /-- a reset has ended and the bindings are to be offered again (R415) -/
  reoffer : Bool := false
  /-- the head's bindings: segment, reads, writes, and whether its region at the owner is Volatile (R412, R415) -/
  binds : List (Gsn × Bool × Bool × Bool) := []
  /-- decoders that report Commit Error (R409) -/
  commitErr : List Nat := []
  /-- slots whose refused accesses raise no further event until ADDR_UNBOUND is read (R81) -/
  unbound : List Nat := []
  /-- handle of the next event record -/
  nextHdl : BitVec 16 := 1
  /-- IDE key sets, key 2·set + (1 for CXL.cachemem) (R462) -/
  ideKeys : Tab (BitVec 256) := []
  ideActive : List Nat := []
deriving DecidableEq, Repr, Inhabited

/-! ### Custody -/

/-- A bulk operation slot (R376 to R386, R402). -/
structure BulkOp where
  /-- 0 migration source, 1 target, 2 mirror owner, 3 mirror holder -/
  kind : Nat
  /-- 0 Prepare, 1 Copy, 2 Converge, 3 Switch or Join, 4 Drain, 5 Release -/
  phase : Nat
  pass : Nat
  peer : Dev
  gsn : Gsn
  dirty : List Nat
  /-- pages sent and not acknowledged -/
  sent : List Nat
  /-- switch-ready has been sent to the target, and to the custodian (R380) -/
  asked : Bool
  ready : Bool
  tries : Nat
deriving DecidableEq, Repr, Inhabited

/-- A custody request being run at the custodian (R373 to R376, R386). -/
structure CustOp where
  req : GstReq
  /-- module that asked, whose GST_RSP is due -/
  from_ : Dev
  /-- 0 queued, 1 the first commit runs, 2 a module prepares, 3 the copy runs, 4 the last commit runs, 5 a new segment's mirror is
  established, 6 a commit that undoes the first one runs -/
  step : Nat
  /-- how it will end -/
  status : Status
  /-- owners or holders tried (R84, R373) -/
  tried : List Dev
  /-- owner, target or holder asked last -/
  peer : Dev
  /-- what that module answered of its region: 1 Volatile, 2 mirrored -/
  info : BitVec 2
  /-- a part of an evacuation, and the parts of one that have ended well -/
  child : Bool
  moved : Nat
deriving DecidableEq, Repr, Inhabited

/-- A MIRROR_SET in progress at the owner: the segments whose answers are due, and how many have come with OK (R386). -/
structure MirSet where
  handle : Word
  waits : List Gsn
  done : Nat
  failed : Bool
deriving DecidableEq, Repr, Inhabited

/-- An answer that waits for a segment record to become durable (R371). -/
structure RecWait where
  entry : JEntry
  dst : Dev
  status : Status
  xinfo : BitVec 16
  gsn : Gsn
deriving DecidableEq, Repr, Inhabited

/-- A binding record (R374). -/
structure Binding where
  gsn : Gsn
  dev : Dev
  head : BitVec 6
  rd : Bool
  wr : Bool
deriving DecidableEq, Repr, Inhabited

/-- A commit, running or waiting for its turn (R367). -/
structure GstCommit where
  ver : Nat
  gsn : Gsn
  row : GstRow
  old : GstRow
  /-- standbys whose acknowledgement is due, once it has started -/
  waits : List Dev
  started : Bool
deriving DecidableEq, Repr, Inhabited

/-- A pending mirror line update (R387). -/
structure LineUpd where
  gsn : Gsn
  line : LineAddr
  sl : SLine
  /-- a later release waits for the acknowledgement -/
  next : Option SLine
  waits : List Waiting
  /-- stores that the later release carries -/
  nextWaits : List Waiting := []
  /-- the peer that the update names: device and tag -/
  peer : Option (Dev × BitVec 16)
  /-- module time, ns, at which the update was sent (SVE_MIR.OLDEST) -/
  sentAt : Nat := 0
deriving DecidableEq, Repr, Inhabited

/-- A deduplication entry (R384). -/
structure Dedup where
  dev : Dev
  tag : BitVec 16
  point : BitVec 2
  old : BitVec 128
deriving DecidableEq, Repr, Inhabited

/-- A firmware slot of 16 MiB: its bytes by offset, unlisted ones 0, and how many have been received (R398, R463). -/
structure FwImage where
  bytes : Tab Byte := []
  received : Nat := 0
deriving DecidableEq, Repr, Inhabited

/-- A service core (R402, R513). -/
structure Core where
  /-- SVE_CORE_STAT.STATE -/
  st : BitVec 3 := 0
  op : Byte := 0
  handle : Word := 0
deriving DecidableEq, Repr, Inhabited

/-- The service engines (R365 to R404). -/
structure Sve where
  gst : Tab GstRow := []
  ver : Nat := 0
  /-- updates held ahead of a version gap (R368) -/
  ahead : List (Nat × Gsn × GstRow) := []
  commits : List GstCommit := []
  /-- at a standby: versions that came straight from the custodian and whose flood has not passed (R367) -/
  toFlood : List Nat := []
  binds : List Binding := []
  custody : List CustOp := []
  /-- messages of this module to itself, not yet taken up -/
  selfq : List (Routing × Msg) := []
  /-- every version applied, oldest first, for GST_SYNC (R368) -/
  hist : List (Nat × Gsn × GstRow) := []
  recWaits : List RecWait := []
  mirSets : List MirSet := []
  /-- pages arriving at a target or holder, with the lines that have reached their point (R379) -/
  copyIn : List (Dev × Nat × BitVec 64) := []
  /-- operation slots, key 0 to 31 -/
  ops : Tab BulkOp := []
  updates : List LineUpd := []
  /-- at a mirror holder: owner, owner region, and the region that holds the copies (R312, R386) -/
  holdRegions : List (Dev × Byte × Byte) := []
  /-- at a mirror holder: line updates that came behind a mark marker or a forwarded REWIND_TO which still runs (R312) -/
  heldUpdates : List (Routing × LineAddr × List SLine × Dev) := []
  lagHeld : List Gsn := []
  dedup : List Dedup := []
  lease : Bool := false
  /-- module time of the last LSA of a custodian (R396, R402) -/
  leaseAt : Option Nat := none
  claiming : Bool := false
  /-- the whole table has been fetched or rebuilt since start-up: the heads are enabled (R368, R573) -/
  tabled : Bool := false
  claims : List (Dev × Claim) := []
  lagging : List Dev := []
  /-- segments to be mirrored again after a break, with the mode they had (R391) -/
  remirror : List (Gsn × BitVec 2) := []
  /-- firmware slots 0 and 1, the running one, state of SVE_FWU -/
  slot0 : FwImage := {}
  slot1 : FwImage := {}
  running : Bool := false
  fwState : BitVec 4 := 0
  /-- modules of the rollout not yet activated, and those already activated -/
  rollout : List Dev := []
  updated : List Dev := []
  /-- modules whose FWU_DONE of the running step is due; answers BUSY by device; the modules' images are being staged -/
  fwWaits : List Dev := []
  busyTries : Tab Nat := []
  fwStaging : Bool := false
  fwHandle : Word := 0
  /-- at a module: length and version of the image offered (R398) -/
  fwLen : Nat := 0
  fwVer : Word := 0
  /-- at a module: who is told of the image and of the activation -/
  fwFrom : Dev := 0
  /-- at a module: an activation waits until no long operation runs (R399) -/
  actWait : Bool := false
  cores : Tab Core := []
deriving DecidableEq, Repr, Inhabited

/-! ### Crust -/

/-- A key range at this module (R440, R443). -/
structure KeyRange where
  /-- 0 Missing, 1 Active, 2 Zeroized, 3 Fenced -/
  st : BitVec 2 := 0
  gen : BitVec 16 := 0
  keys : Option KeySet := none
  /-- the slot is fenced and being reloaded (R448) -/
  reload : Bool := false
  /-- KEY_MISSING already raised for this state (R435) -/
  told : Bool := false
deriving DecidableEq, Repr, Inhabited

/-- A key set, an erase or a table on its way to the other modules (R442, R444, R445). -/
structure KeyPush where
  /-- none for a table -/
  range : Option Nat
  gen : BitVec 16
  erase : Bool
  /-- live modules that have not answered it with OK -/
  waits : List Dev
  /-- those of them that have not answered at all; the operation that waits for them, 0 none; another status has come -/
  due : List Dev
  handle : Word
  failed : Bool
  /-- of a table: its version and its bases -/
  ver : Word := 0
  bases : List (BitVec 27) := []
deriving DecidableEq, Repr, Inhabited

/-- Crust (R431 to R469). -/
structure Crs where
  ranges : Tab KeyRange := []
  /-- BASE_1 to BASE_63 (R441) -/
  bases : List (BitVec 27) := List.replicate 63 0x4000000
  tblVer : Word := 0
  pushes : List KeyPush := []
  rootOk : Bool := false
  testMode : Bool := false
  window : Bool := false
  nonce : BitVec 64 := 0
  /-- open SPDM sessions -/
  sessions : List (Word × SpdmPath) := []
  nextSession : Word := 1
  minSvn : BitVec 16 := 0
  runSvn : BitVec 16 := 0
  idState : BitVec 4 := 0
deriving DecidableEq, Repr, Inhabited

/-! ### Management -/

/-- A handle's record (R494, R501): 1 queued, 2 running, 3 done. -/
structure HandleRec where
  handle : Word
  st : Nat
  final : Status
  /-- who gets its completion packet, with what opcode and tag -/
  q : Requester
  op : Byte
  tag : Byte
deriving DecidableEq, Repr, Inhabited

/-- The management block (R470 to R505). -/
structure Mgt where
  dyn : Option (BitVec 7) := none
  straps : BitVec 2 := 0
  ibiEn : Bool := true
  hjEn : Bool := true
  mwl : BitVec 16 := 516
  mrl : BitVec 16 := 512
  protoErr : Bool := false
  hdr : Bool := false
  rdPtr : Option (BitVec 24 × Nat) := none
  popNext : Bool := false
  /-- IBIs that wait to be sent again (R488) -/
  ibis : List (Byte × List Byte) := []
  eid : Byte := 0
  mctpBuf : List Byte := []
  mctpType : BitVec 7 := 0
  mctpOpen : Bool := false
  /-- source and message tag of the open message, and the sequence number that comes next -/
  mctpFrom : Byte := 0
  mctpTag : BitVec 3 := 0
  mctpSeq : BitVec 2 := 0
  /-- open command packet, oldest word first, and its owner (R489) -/
  cmdOpen : List Word := []
  cmdOwner : Option Requester := none
  /-- a word held for a full FIFO (R489) -/
  cmdHeld : Option (Requester × Word) := none
  /-- completion packets in the FIFO, oldest first -/
  cpl : List (List Word) := []
  /-- packets that wait for room (R491) -/
  cplWait : List (List Word) := []
  /-- the requester a partly popped packet is reserved to (R491) -/
  cplOwner : Option Requester := none
  /-- in-band reads of MGT_CPL_HEAD held for a word, oldest first (R490) -/
  cplRead : List Requester := []
  serials : Tab Nat := []
  handles : List HandleRec := []
  pwrEn : Bool := true
  mrst : Bool := true
  pfail : Bool := true
deriving DecidableEq, Repr, Inhabited

/-! ### Faults, recorder, pantry -/

/-- A latched source on its way to FLT (R509). -/
structure Latched where
  src : BitVec 18
  forced : Bool
  /-- latched inside a running reaction window (R515, R516) -/
  conseq : Bool
  dom : BitVec 4
  inst : BitVec 20
  kind : Byte
  items : List Word
  time : BitVec 64
deriving DecidableEq, Repr, Inhabited

/-- An event record (R523). -/
structure Record where
  seq : Nat
  sev : BitVec 2
  cls : BitVec 2
  conseq : Bool
  forced : Bool
  cont : Bool
  dom : BitVec 4
  pcycles : BitVec 24
  opsec : BitVec 40
  time : BitVec 64
  src : BitVec 18
  inst : BitVec 20
  kind : Byte
  total : Nat
  items : List Word
deriving DecidableEq, Repr, Inhabited

/-- A reaction window (R515): open until the reaction has ended and CONSEQ has passed. -/
structure Window where
  dom : BitVec 4
  inst : BitVec 20
  ended : Bool
deriving DecidableEq, Repr, Inhabited

/-- The fault collector and the recorder (R506 to R530). -/
structure Flt where
  queue : List Latched := []
  windows : List Window := []
  /-- fenced domain instances (R513) -/
  fences : List (BitVec 4 × BitVec 20) := []
  /-- sources whose lasting condition is present (R510) -/
  live : List (BitVec 18) := []
  /-- set bits that latched at least once not consequentially since cleared (R512) -/
  drive : List (BitVec 18) := []
  /-- FLT_STAT.STATE: 0 normal, 2 flushing, 3 holding -/
  safe : Nat := 0
  cause : BitVec 3 := 0
  /-- the cause of the safe state is a hung MTE or Crust: its flush lasts until the timeout (R508) -/
  hung : Bool := false
  lastSafe : Bool := false
  /-- FLT_SAFECFG.READS as taken at the safe-state entry, 0 when the cause was a parity error (R517, R538) -/
  reads : Bool := true
  holdoff : List (BitVec 18) := []
  nextSeq : Nat := 0
  seqCeil : Nat := 0
  /-- event log in the pantry, key slot -/
  log : Tab Record := []
  /-- shadow log, key slot 0 to 255 -/
  shadowLog : Tab Record := []
  /-- spill records not yet programmed, and the spill ring by slot -/
  spillBuf : List Record := []
  spill : Tab Record := []
  spillNext : Nat := 0
  spillAvail : Bool := false
  window : Option Record := none
  cursor : Nat := 0
  dropped : Bool := false
deriving DecidableEq, Repr, Inhabited

/-- A supervisor log record (R555, R556). -/
structure SupRec where
  seq : Nat
  kind : Byte
  chan : Byte
  step : Nat
  st : BitVec 4
  value : Nat
  aux : Nat
  pcycles : BitVec 24
  opsec : BitVec 40
  time : BitVec 64
  commit : Bool
deriving DecidableEq, Repr, Inhabited

/-- The pantry (R531 to R537): what its two parts agree on, and the parts' own differing copies. -/
structure Pantry where
  /-- PAN_STAT.STATE: 0 recall, 1 both, 2 PA only, 3 PB only, 4 down -/
  st : Nat := 0
  paFailed : Bool := false
  pbFailed : Bool := false
  /-- counter rings, key ring (R532) -/
  rings : Tab Nat := []
  /-- generic records of PANTRY_WRITE in each part, by key (R533, R534): sequence and value -/
  pa : Tab (Nat × BitVec 64) := []
  pb : Tab (Nat × BitVec 64) := []
  seq : Nat := 0
  /-- stored parameters, key register address (R536) -/
  params : Tab Word := []
  /-- password digests: key 2·partition + (1 for write) (R535) -/
  pwds : Tab (BitVec 256) := []
  /-- words entered in PAN_PWD, key 4·requester code + n -/
  entered : Tab Word := []
  unlocks : List (Nat × Requester) := []
  wrong : Nat := 0
  hold : Bool := false
  /-- stored key sets, key range (R446), and the stored key range table -/
  keys : Tab (BitVec 16 × KeySet) := []
  bases : List (BitVec 27) := []
  basesVer : Word := 0
  ownerCert : Option CertChain := none
  recalling : Bool := false
  /-- the supervisor log, key slot, its next sequence and slot, and its format (R555 to R557) -/
  sup : Tab SupRec := []
  supSeq : Nat := 0
  supNext : Nat := 0
  compat : Bool := false
  supWin : Option SupRec := none
  supCur : Nat := 0
  /-- records raised during recall, to be copied when it ends (R537) -/
  late : List Record := []
  /-- write or read-back failures of each part (PAN_ERR) -/
  paErr : Nat := 0
  pbErr : Nat := 0
deriving DecidableEq, Repr, Inhabited

/-! ### Power, thermal, clocks -/

/-- A supervised rail (R541, R542): PWR_RAIL. -/
structure Rail where
  mv : BitVec 20 := 0
  st : BitVec 3 := 0
  bad : Nat := 0
  on : Bool := false
deriving DecidableEq, Repr, Inhabited

/-- The power supervisor (R541 to R561). -/
structure Pwr where
  /-- PWR_STATE.STATE -/
  st : BitVec 4 := 0
  step : Nat := 0
  /-- the reverse sequence runs -/
  down : Bool := false
  /-- power-up attempts since PWR_EN rose (R546) -/
  attempts : Nat := 0
  /-- stays Off until PWR_EN falls and rises (R496, R546) -/
  latchedOff : Bool := false
  /-- minimum off time has passed (R545) -/
  offDone : Bool := true
  seat : Bool := true
  vin : Nat := 48000
  rails : Tab Rail := []
  /-- an Off request waits for the current step or phase (R548) -/
  offReq : Bool := false
  profile : BitVec 2 := 0
  cap : Nat := 0
  pgm : Nat := 200
  req : Nat := 100
  warn : Bool := false
  vinHigh : Nat := 0
  vinLow : Nat := 0
  refBad : Nat := 0
  /-- hold-up bank: healthy, MSTATE, energy, c, esr, charged (R551, R552) -/
  bankOk : Bool := false
  mstate : BitVec 2 := 0
  energy : Nat := 0
  cMf : Nat := 0
  esr : Nat := 0
  vmin : Nat := 0
  bleed : Bool := false
  /-- module time of the last measurement, ns (PWR_HOLD.AGE_MIN) -/
  measAt : Option Nat := none
  lowered : Bool := false
  /-- this start-up was cold: a further measurement is due once the converters are warm (R592) -/
  coldBank : Bool := false
  holdLow : Nat := 0
  /-- flush: 0 none, 1 orderly, 2 reset, 3 emergency, 4 thermal, 5 safe state, 6 Deep Idle -/
  flush : Nat := 0
  /-- emergency phases: 1 Drain, 2 Program, 3 Journal, 4 Release (R553) -/
  fphase : Nat := 0
  fcause : BitVec 3 := 0
  fdone : Bool := false
  fmib : Nat := 0
  fenergy : BitVec 10 := 0
  resetCause : BitVec 4 := 0
  /-- cause of the module reset whose flush runs -/
  askedCause : BitVec 4 := 0
  /-- a first failing rail has been recorded in this power-down (R547) -/
  downFail : Bool := false
  resets : Nat := 0
  relocks : Nat := 0
  locked : Bool := true
  refOk : Bool := true
  /-- domains of an Idle module that work has ungated, bit d − 1 (R558) -/
  ungated : BitVec 25 := 0
  /-- start-up phase: 0 none, 1 Release, 2 Bring-up, 3 Translation, 4 done -/
  startup : Nat := 0
  /-- a module reset waits for MRST_N to rise (R482) -/
  inReset : Bool := false
  thermOff : Bool := false
  /-- operating time has been set since the last AON reset or power-up (R605) -/
  opSet : Bool := false
  powerW : Nat := 0
  autoIdle : Bool := false
deriving DecidableEq, Repr, Inhabited

/-- A temperature channel (R562, R566): THM_CH. -/
structure Sensor where
  now : Reading := 0x200
  max : Reading := 0x200
  /-- readings of the last rounds, newest first, at most 102 (R565) -/
  hist : List Reading := []
  faulty : Bool := false
  standin : Bool := false
  off : Nat := 0
  hot : Nat := 0
deriving DecidableEq, Repr, Inhabited

/-- The thermal functions (R562 to R568). -/
structure Thm where
  sensors : Tab Sensor := []
  req : Bool := false
  level : Bool := false
  rate : Bool := false
  enf : Bool := false
  shutLast : Bool := false
  shutCh : Byte := 0
  shutTemp : Reading := 0
deriving DecidableEq, Repr, Inhabited

/-! ### Register pages -/

/-- What the common headers of the pages hold (R484 to R486, R571, R572): page numbers. -/
structure Pages where
  /-- start-up has set CTRL.RUN (R484) -/
  started : Bool := false
  /-- CTRL.RUN = 0 after start-up -/
  stopped : List Nat := []
  /-- STATUS.QUIESCED -/
  quiesced : List Nat := []
  /-- CTRL.COMMIT reads 1 -/
  committing : List Nat := []
  /-- CTRL.LOCK -/
  locked : List Nat := []
  /-- STATUS.CFG_REJECT -/
  rejected : List Nat := []
  /-- STATUS.FENCED -/
  fenced : List Nat := []
  /-- under a unit reset (R572, R584) -/
  resetting : List Nat := []
deriving DecidableEq, Repr, Inhabited

/-! ### The whole module -/

/-- The module. -/
structure State where
  /-- the commands that wait, first in first out -/
  pending : List Instr
  /-- everything the module has driven outward since reset, oldest first (log 6) -/
  out : List Output
  /-- next index of a free value (the model's own field, log 7) -/
  free : Nat
  /-- module time, ns (R502) -/
  time : BitVec 64
  /-- operating time, ms, and the nanoseconds of the running millisecond (R605) -/
  opMs : Nat
  opNs : Nat
  /-- stored register words by address; unlisted words hold their reset value (R10) -/
  regs : Tab Word
  /-- shadow copies of RWS registers by address (R8) -/
  shadow : Tab Word
  /-- holding copies, by requester and address of the upper word (R7) -/
  hold : List (Requester × Nat × Word)
  /-- performance counters, key 8·page + n, and cycle counts, key page (R484) -/
  perf : Tab Nat
  cyc : Tab Nat
  freezeAll : Bool
  /-- header state of the pages (R484) -/
  pages : Pages
  mgt : Mgt
  flt : Flt
  pan : Pantry
  pwr : Pwr
  thm : Thm
  crs : Crs
  slices : Tab Slice
  dtc : Dtc
  mch : Mch
  mte : Mte
  cages : Tab Cage
  ports : Tab Port
  fxb : Fxb
  heads : Tab Head
  sve : Sve
deriving DecidableEq, Repr

/-- The module right after AON reset: Off, 48 V present, time 0, every register at its reset value, nothing stored in
the medium or the pantry, no command waiting (R571, R573; log 3, log 8). -/
def State.reset : State :=
  { pending := [], out := [], free := 0, time := 0, opMs := 0, opNs := 0, regs := [], shadow := [], hold := [],
    perf := [], cyc := [], freezeAll := false, pages := {}, mgt := {}, flt := {}, pan := {}, pwr := {}, thm := {}, crs := {},
    slices := [], dtc := {}, mch := {}, mte := {}, cages := [], ports := [], fxb := {}, heads := [], sve := {} }

end Sys2Proof.Machine
end

