-- ==== Sys2Proof/Machine/Ops.lean ====
section
/-! DEFINITION. The named operations over the state: its tables, its registers, its outputs and free values, and the
raising of an event on a page (R484, R487, R506, R515). -/

namespace Sys2Proof.Machine

/-! ### Lists as sets of numbers -/

/-- A word from its fields: least bit, width, value. -/
def pack (l : List (Nat × Nat × Nat)) : Nat := l.foldl (fun a (f : Nat × Nat × Nat) => a + f.2.2 % 2 ^ f.2.1 * 2 ^ f.1) 0

/-- A flag as a number. -/
def flag (b : Bool) : Nat := if b then 1 else 0

/-- The sum of 2^i over the numbers below `n` that satisfy a test. -/
def bitSet (n : Nat) (p : Nat → Bool) : Nat := (List.range n).foldl (fun a i => a + flag (p i) * 2 ^ i) 0

/-- Add to a set kept as a list. -/
def insertNew {α : Type} [DecidableEq α] (l : List α) (x : α) : List α := if x ∈ l then l else l ++ [x]

/-- Remove from a set kept as a list. -/
def removeAll {α : Type} [DecidableEq α] (l : List α) (x : α) : List α := l.filter (fun y => !decide (y = x))

/-- Bits `lsb + w - 1` to `lsb` of a word, as a number. -/
def fld {n : Nat} (x : BitVec n) (lsb w : Nat) : Nat := x.toNat / 2 ^ lsb % 2 ^ w

/-- A bit of a word. -/
def bitAt {n : Nat} (x : BitVec n) (i : Nat) : Bool := x.getLsbD i

/-- A word with one bit set. -/
def oneBit (n i : Nat) : BitVec n := BitVec.ofNat n (2 ^ i)

/-- A signed reading of a byte. -/
def Byte.signed (b : Byte) : Int := b.toInt

/-! ### The tables of the state -/

def State.slice (s : State) (i : Nat) : Slice := s.slices.get {} i
def State.setSlice (s : State) (i : Nat) (x : Slice) : State := { s with slices := s.slices.set {} i x }
def State.port (s : State) (i : Nat) : Port := s.ports.get {} i
def State.setPort (s : State) (i : Nat) (x : Port) : State := { s with ports := s.ports.set {} i x }
def State.cage (s : State) (i : Nat) : Cage := s.cages.get {} i
def State.setCage (s : State) (i : Nat) (x : Cage) : State := { s with cages := s.cages.set {} i x }
def State.head (s : State) (i : Nat) : Head := s.heads.get {} i
def State.setHead (s : State) (i : Nat) (x : Head) : State := { s with heads := s.heads.set {} i x }
def State.dir (s : State) (gsn : Nat) : DirEntry := s.fxb.dir.get {} gsn
def State.setDir (s : State) (gsn : Nat) (x : DirEntry) : State :=
  { s with fxb := { s.fxb with dir := s.fxb.dir.set {} gsn x } }
def State.pair (s : State) (dev : Nat) : Pair := s.fxb.pairs.get {} dev
def State.setPair (s : State) (dev : Nat) (x : Pair) : State :=
  { s with fxb := { s.fxb with pairs := s.fxb.pairs.set {} dev x } }
def State.die (s : State) (i : Nat) : Die := s.mch.dies.get {} i
def State.setDie (s : State) (i : Nat) (x : Die) : State :=
  { s with mch := { s.mch with dies := s.mch.dies.set {} i x } }
def State.block (s : State) (i : Nat) : Block := s.mch.blocks.get {} i
def State.setBlock (s : State) (i : Nat) (x : Block) : State :=
  { s with mch := { s.mch with blocks := s.mch.blocks.set {} i x } }
def State.seg (s : State) (lsi : Nat) : Seg := s.mte.segs.get {} lsi
def State.setSeg (s : State) (lsi : Nat) (x : Seg) : State :=
  { s with mte := { s.mte with segs := s.mte.segs.set {} lsi x } }
def State.region (s : State) (r : Nat) : Region := s.mte.regions.get {} r
def State.setRegion (s : State) (r : Nat) (x : Region) : State :=
  { s with mte := { s.mte with regions := s.mte.regions.set {} r x } }
def State.rwr (s : State) (r : Nat) : RwRegion := s.mte.rw.get {} r
def State.setRwr (s : State) (r : Nat) (x : RwRegion) : State :=
  { s with mte := { s.mte with rw := s.mte.rw.set {} r x } }
def State.krange (s : State) (r : Nat) : KeyRange := s.crs.ranges.get {} r
def State.setKrange (s : State) (r : Nat) (x : KeyRange) : State :=
  { s with crs := { s.crs with ranges := s.crs.ranges.set {} r x } }
def State.rail (s : State) (ch : Nat) : Rail := s.pwr.rails.get {} ch
def State.setRail (s : State) (ch : Nat) (x : Rail) : State :=
  { s with pwr := { s.pwr with rails := s.pwr.rails.set {} ch x } }
def State.sensor (s : State) (ch : Nat) : Sensor := s.thm.sensors.get {} ch
def State.setSensor (s : State) (ch : Nat) (x : Sensor) : State :=
  { s with thm := { s.thm with sensors := s.thm.sensors.set {} ch x } }
def State.core (s : State) (n : Nat) : Core := s.sve.cores.get {} n
def State.setCore (s : State) (n : Nat) (x : Core) : State :=
  { s with sve := { s.sve with cores := s.sve.cores.set {} n x } }

/-- Fold a state operation over a list. -/
def State.each {α : Type} (s : State) (l : List α) (f : State → α → State) : State := l.foldl f s

/-- Apply an operation under a condition. -/
def State.when_ (s : State) (c : Bool) (f : State → State) : State := if c then f s else s

/-! ### Outputs and free values -/

/-- Drive something outward (log 6). -/
def State.emit (s : State) (o : Output) : State := { s with out := s.out ++ [o] }

/-- Take a free value (log 7). -/
def State.fresh (s : State) : Nat × State := (Config.freeNat s.free, { s with free := s.free + 1 })

/-- Module time in ns (R502). -/
def State.ns (s : State) : Nat := s.time.toNat

/-! ### Stored register words -/

/-- Address of a register (17_register_pages.md). -/
def regAddr (page off : Nat) : Nat := page * 4096 + off

/-- A stored register word, its reset value where none is stored (R10). -/
def State.reg (s : State) (page off : Nat) : Word := s.regs.get (resetWord (regAddr page off)) (regAddr page off)

/-- Store a register word. -/
def State.setReg (s : State) (page off : Nat) (w : Word) : State :=
  { s with regs := s.regs.set (resetWord (regAddr page off)) (regAddr page off) w }

/-- A field of a stored register word. -/
def State.regFld (s : State) (page off lsb w : Nat) : Nat := fld (s.reg page off) lsb w

/-- Store a field of a register word. -/
def State.setRegFld (s : State) (page off lsb w v : Nat) : State :=
  let old := (s.reg page off).toNat
  s.setReg page off (BitVec.ofNat 32 (old - old / 2 ^ lsb % 2 ^ w * 2 ^ lsb + v % 2 ^ w * 2 ^ lsb))

/-- Count up in a field of a register word, holding at its greatest value. -/
def State.countUp (s : State) (page off lsb w : Nat) (by_ : Nat := 1) : State :=
  s.setRegFld page off lsb w (min (2 ^ w - 1) (s.regFld page off lsb w + by_))

/-- Drop every stored word of a page: its registers hold their reset values (R10). -/
def State.resetPage (s : State) (page : Nat) : State :=
  { s with regs := s.regs.filter (fun e => !decide (e.1 / 4096 = page)),
           shadow := s.shadow.filter (fun e => !decide (e.1 / 4096 = page)),
           hold := s.hold.filter (fun e => !decide (e.2.1 / 4096 = page)),
           perf := s.perf.filter (fun e => !decide (e.1 / 8 = page)),
           cyc := s.cyc.del page }

/-- The shadow word of a register: the stored word where no shadow was written (R8, R96). -/
def State.shadowReg (s : State) (page off : Nat) : Word := (s.shadow.find (regAddr page off)).getD (s.reg page off)

/-- CTRL.RUN of a page (R484). -/
def State.runs (s : State) (page : Nat) : Bool := s.pages.started && !decide (page ∈ s.pages.stopped)

/-- The block of a page admits nothing: RUN = 0; work for it waits at its sender. A flush runs on (R48, R485, log 44). -/
def State.halted (s : State) (page : Nat) : Bool := decide (page ∈ s.pages.stopped) && s.pwr.flush = 0

/-! ### Event sources -/

/-- The row of a source on the page kinds that have it. -/
def PageKind.row (k : PageKind) (src : Source) : SourceRow := (k.sources.find? (fun r => r.src == src)).getD ⟨.cfgReject, 0, 1⟩

/-- The bit of a source in EVT_STAT0 of its page. -/
def PageKind.bit (k : PageKind) (src : Source) : Nat := (k.sources.findIdx? (fun r => r.src == src)).getD 0

/-- The source identifier of a bit of EVT_STAT0 of a page (R506). -/
def srcId (page bit : Nat) : BitVec 18 := BitVec.ofNat 18 (page % 4096 + bit * 8192)

/-- The page of a source identifier. -/
def srcPage (id : BitVec 18) : Nat := fld id 0 12

/-- The bit of a source identifier. -/
def srcBit (id : BitVec 18) : Nat := fld id 13 5

/-- FLT's classification of a source by the listing of its page (R506, R507): class and severity. -/
def classify (id : BitVec 18) : Nat × Nat :=
  match pageKind (srcPage id) with
  | none => (0, 1)
  | some k => match k.sources[srcBit id]? with
    | some r => (r.cls, r.sev)
    | none => (0, 1)

/-! ### Fence domains -/

/-- The number of ports of a block from PRT_CFG.BIF (R19): 1, 2, 4 or 8. -/
def State.portsOf (s : State) (block : Nat) : Nat := 2 ^ s.regFld (0x100 + block) 0x100 0 2

/-- The fence domain a page's block instance is, with its instance (R513); code 0 for none. -/
def pageDomain (page : Nat) : Nat × Nat :=
  match pageKind page with
  | some .slc => (4, page - 0x010)
  | some .dtcCh => (5, page - 0x018)
  | some .mchCh => (7, page - 0x040)
  | some .prt => (3, page - 0x100)
  | some .core => (9, page - 0x201)
  | some .head => (2, 8 * (page - 0x1c0))
  | _ => (0, 0)

/-- One domain instance lies in another (R513, R515). -/
def domInside (d D : Nat × Nat) : Bool :=
  !decide (d.1 = 0) && (decide (d = D) ||
    (match D.1 with
     | 2 => decide (d.1 = 1) && decide (d.2 / 8 = D.2 / 8)
     | 3 => (decide (d.1 = 1) || decide (d.1 = 2)) && decide (d.2 / 8 = D.2)
     | 7 => decide (d.1 = 6) && decide (d.2 / 4 = D.2)
     | 8 => (decide (d.1 = 6) && decide (d.2 / 16 = D.2)) || (decide (d.1 = 7) && decide (d.2 / 4 = D.2))
     | 11 => decide (d.1 = 10) && decide (d.2 = D.2)
     | _ => false))

/-- What a record says beside its source (R523): the domain instance it names, the kind of its items, the items. -/
structure Where where
  dom : Nat := 0
  inst : Nat := 0
  kind : Nat := 0
  items : List Nat := []
deriving DecidableEq, Repr

/-- The source lies inside a running reaction window (R515). -/
def State.consequential (s : State) (page cls : Nat) (w : Where) : Bool :=
  !decide (cls = 3) && s.flt.windows.any (fun x =>
    domInside (pageDomain page) (x.dom.toNat, x.inst.toNat) || domInside (w.dom, w.inst) (x.dom.toNat, x.inst.toNat))

/-- The mask bit of a source is set (R487). -/
def State.masked (s : State) (page bit : Nat) : Bool := bitAt (s.reg page 0x18) bit

/-- Latch an event bit: EVT_STAT0, EVT_FIRST, EVT_COUNT, and the way to FLT unless masked (R487, R509, R522); a latching
that is not consequential counts for FAULT_N (R512). -/
def State.latch (s : State) (page bit : Nat) (forced : Bool) (w : Where) : State :=
  let id := srcId page bit
  let cls := (classify id).1
  let conseq := s.consequential page cls w
  let s := s.setReg page 0x10 (s.reg page 0x10 ||| oneBit 32 bit)
  let s := if bitAt (s.reg page 0x28) 31 then s else s.setReg page 0x28 (BitVec.ofNat 32 (2 ^ 31 + bit))
  let s := s.countUp page 0x2c 0 32
  let s := if conseq then s else { s with flt := { s.flt with drive := insertNew s.flt.drive id } }
  if s.masked page bit then s else
    { s with flt := { s.flt with queue := s.flt.queue ++ [
        { src := id, forced := forced, conseq := conseq, dom := BitVec.ofNat 4 w.dom, inst := BitVec.ofNat 20 w.inst,
          kind := BitVec.ofNat 8 w.kind, items := w.items.map (BitVec.ofNat 32), time := s.time }] } }

/-- Raise a named source of a page (R487). -/
def State.raiseAt (s : State) (page : Nat) (src : Source) (w : Where) : State :=
  match pageKind page with
  | none => s
  | some k => s.latch page (k.bit src) false w

/-- Raise a named source without items. -/
def State.raise (s : State) (page : Nat) (src : Source) : State := s.raiseAt page src {}

/-- Begin or end a source's lasting condition, its LIVE bit (R510). -/
def State.setLive (s : State) (page : Nat) (src : Source) (on : Bool) : State :=
  match pageKind page with
  | none => s
  | some k =>
    let id := srcId page (k.bit src)
    { s with flt := { s.flt with live := if on then insertNew s.flt.live id else removeAll s.flt.live id } }

/-- The configuration-reject event of a page: STATUS.CFG_REJECT and the source (R9). -/
def State.reject (s : State) (page : Nat) : State :=
  let s := { s with pages := { s.pages with rejected := insertNew s.pages.rejected page } }
  s.raise page .cfgReject

/-- Open a reaction window on a domain instance (R515). -/
def State.openWindow (s : State) (dom inst : Nat) : State :=
  { s with flt := { s.flt with windows := s.flt.windows.filter (fun x => !(decide (x.dom.toNat = dom) && decide (x.inst.toNat = inst)))
      ++ [⟨BitVec.ofNat 4 dom, BitVec.ofNat 20 inst, false⟩] } }

/-- A domain instance is fenced (R513). -/
def State.isFenced (s : State) (dom inst : Nat) : Bool :=
  s.flt.fences.any (fun x => decide (x.1.toNat = dom) && decide (x.2.toNat = inst))

/-- Mark a domain instance fenced, opening its reaction window (R513, R515). -/
def State.fence (s : State) (dom inst : Nat) : State :=
  let s := s.openWindow dom inst
  if s.isFenced dom inst then s else
    { s with flt := { s.flt with fences := s.flt.fences ++ [(BitVec.ofNat 4 dom, BitVec.ofNat 20 inst)] } }

/-- Lift a fence (R513). -/
def State.unfence (s : State) (dom inst : Nat) : State :=
  { s with flt := { s.flt with fences := s.flt.fences.filter (fun x => !(decide (x.1.toNat = dom) && decide (x.2.toNat = inst))) } }

/-! ### Performance counters (R484, R141) -/

/-- Add to counter `n` of a page, carrying through CHAIN and setting OVF (R484); at most `fuel` counters. -/
def State.perfAdd (s : State) (page : Nat) : Nat → Nat → Nat → State
  | 0, _, _ => s
  | fuel + 1, n, k =>
    let old := s.perf.get 0 (8 * page + n)
    let s := { s with perf := s.perf.set 0 (8 * page + n) ((old + k) % 2 ^ 48) }
    let wraps := (old + k) / 2 ^ 48
    if wraps = 0 then s
    else if n < 7 && bitAt (s.reg page 0x38) (8 + n) then s.perfAdd page fuel (n + 1) wraps
    else s.setReg page 0x38 (s.reg page 0x38 ||| oneBit 32 (16 + n))

/-- Counter `n` of the page counts by its own PERF_SEL and EN: not frozen, enabled, not the upper half of a chain. -/
def State.perfOn (s : State) (page n : Nat) : Bool :=
  let c := s.reg page 0x38
  !s.freezeAll && !bitAt c 24 && bitAt c n && !(decide (0 < n) && bitAt c (8 + n - 1))

/-- A count event of a page happens `k` times (R141, R484). -/
def State.perfEvent (s : State) (page code k : Nat) : State :=
  s.each (List.range 8) (fun s n =>
    if s.perfOn page n && decide (s.regFld page (0x40 + 4 * n) 0 8 = code) then s.perfAdd page 8 n k else s)

/-- An occupancy of a page holds for `k` cycles (R141, R484). -/
def State.perfOccupancy (s : State) (page code occ k : Nat) : State :=
  s.each (List.range 8) (fun s n =>
    if s.perfOn page n && decide (s.regFld page (0x40 + 4 * n) 0 8 = code)
        && decide (s.regFld page (0x40 + 4 * n) 16 16 < occ) then s.perfAdd page 8 n k else s)

/-! ### In-band interrupts (R488) -/

/-- Send an IBI, which stays pending for a resend with the newest values; IBIs need a dynamic address and ENEC (R488). -/
def State.sendIbi (s : State) (mdb : Nat) (payload : List Byte) : State :=
  if s.mgt.ibiEn && s.mgt.dyn.isSome then
    let m := BitVec.ofNat 8 mdb
    { s with mgt := { s.mgt with ibis := s.mgt.ibis.filter (fun x => !decide (x.1 = m)) ++ [(m, payload)] },
             out := s.out ++ [.ibi m payload] }
  else s

end Sys2Proof.Machine
end

