-- ==== Sys2Proof/Machine/Operands.lean ====
section
/-! DEFINITION. The addresses commands name: the fields of an FGA, LMP and PPA, the slice and set hashes, the HDM
decoders and the extent table, the directory entry of a GSN, and the key range of a line (R75 to R91, R366, R409, R441). -/

namespace Sys2Proof.Machine

/-! ### Line addresses (R76, R90) -/

/-- The GSN of a line address. -/
def lineGsn (a : LineAddr) : Nat := a.toNat / 2 ^ 24
/-- The page in its segment. -/
def linePage (a : LineAddr) : Nat := a.toNat / 64 % 2 ^ 18
/-- The line in its page, 0 to 63. -/
def lineInPage (a : LineAddr) : Nat := a.toNat % 64
/-- The page address FGA[55:12] of a line. -/
def pageOf (a : LineAddr) : Nat := a.toNat / 64
/-- The line address of line `i` of a page address. -/
def pageLine (page i : Nat) : LineAddr := BitVec.ofNat 50 (page * 64 + i)
/-- The line address of an FGA. -/
def fgaLine (f : Fga) : LineAddr := BitVec.ofNat 50 (f.toNat / 64)
/-- The LMP of a line held at LSI `lsi` (R90). -/
def lmpOf (lsi : Nat) (a : LineAddr) : Lmp := BitVec.ofNat 32 (lsi * 2 ^ 18 + linePage a)
/-- The LSI of an LMP. -/
def lmpLsi (l : Lmp) : Nat := l.toNat / 2 ^ 18

/-! ### The hashes of R91 -/

/-- Exclusive or of the `n` groups of `w` bits of a number, lowest first. -/
def xorGroups : Nat → Nat → Nat → Nat
  | 0, _, _ => 0
  | n + 1, w, x => (x % 2 ^ w) ^^^ xorGroups n w (x / 2 ^ w)

/-- The slice of a line (R91). -/
def sliceHash (a : LineAddr) : Nat := xorGroups 17 3 a.toNat

/-- The set of a line in its slice's line cache (R91). -/
def setHash (a : LineAddr) : Nat := xorGroups 4 14 (a.toNat / 8)

/-- The tag of a line in its slice's line cache (R91). -/
def lineTag (a : LineAddr) : BitVec 33 := BitVec.ofNat 33 (a.toNat / 2 ^ 17)

/-- The line that a slice, set and tag name together (R91). -/
def lineOfWay (slice set : Nat) (tag : BitVec 33) : LineAddr :=
  let y := tag.toNat * 2 ^ 14
  let y := y + (set ^^^ xorGroups 4 14 y)
  let x := y * 8
  BitVec.ofNat 50 (x + (slice ^^^ xorGroups 17 3 x))

/-! ### Key ranges (R441) -/

/-- The highest range whose base is not above the GSN. -/
def rangeOfBases (bases : List (BitVec 27)) (gsn : Nat) : Nat :=
  (List.range 63).foldl (fun r i => if ((bases[i]?).getD 0x4000000).toNat ≤ gsn then i + 1 else r) 0

/-- The key range of a GSN at this module. -/
def State.keyRangeOf (s : State) (gsn : Nat) : Nat := rangeOfBases s.crs.bases gsn

/-! ### The directory (R83, R85, R366) -/

/-- This module's device number (R355). -/
def State.dev (s : State) : Nat := s.fxb.devnum.toNat

/-- The directory state that a row of the segment table gives this module (R366). -/
def rowState (dev : Nat) (r : GstRow) : BitVec 3 :=
  match r.state.toNat with
  | 2 | 3 => if r.owner.toNat = dev then 1 else if r.mirror.toNat = dev && !decide (dev = 0) then 4 else 2
  | 4 => if r.owner.toNat = dev then 0 else 2
  | 5 => 5
  | _ => 0

/-- A row of the segment table of this module (R365). -/
def State.row (s : State) (gsn : Nat) : GstRow := s.sve.gst.get default gsn

/-- The entry a lookup finds: the one set here apart from the row (Forwarding, Lost, or a row whose Switch is not applied yet), or the
one derived from the replica row (R84, R366). -/
def State.lookup (s : State) (gsn : Nat) : DirEntry :=
  match s.fxb.dir.find gsn with
  | some e => e
  | none =>
    let r := s.row gsn
    { st := rowState s.dev r, owner := r.owner, mirror := r.mirror, epoch := r.epoch }

/-- The reasons for which a directory entry is pinned: local ownership or a local mirror copy, and each head binding on this module
(R83, R84). -/
def State.pinReasons (s : State) (gsn : Nat) : Nat :=
  (if (s.mte.segs.any (fun (e : Nat × Seg) => e.2.st != 0 && e.2.gsn.toNat == gsn)) then 1 else 0)
    + (s.heads.map (fun (e : Nat × Head) => (e.2.binds.filter (fun b => b.1.toNat == gsn)).length)).sum

/-- The PIN field of a directory entry, which saturates at 127, and the overflow count that holds the rest (R83). -/
def State.pinField (s : State) (gsn : Nat) : BitVec 7 × Nat :=
  (BitVec.ofNat 7 (min 127 (s.pinReasons gsn)), s.pinReasons gsn - 127)

/-- Pages of a segment. -/
def segPages : Nat := 2 ^ 18

/-- The LSI of the local segment record of a GSN that is not Free. -/
def State.lsiOf (s : State) (gsn : Nat) : Option Nat :=
  (s.mte.segs.find? (fun e => !decide (e.2.st = 0) && decide (e.2.gsn.toNat = gsn))).map Prod.fst

/-- The directory-cache set of a GSN (R84). -/
def dirSet (gsn : Nat) : Nat := (gsn ^^^ (gsn / 2 ^ 13)) % 2 ^ 13

/-- The pinned GSNs: owned, Forwarding or mirrored here, or bound by a head of this module (R84). -/
def State.pinned (s : State) : List Nat :=
  let segs := (s.mte.segs.filter (fun (e : Nat × Seg) => !decide (e.2.st = 0))).map (fun (e : Nat × Seg) => e.2.gsn.toNat)
  let heads := s.heads.flatMap (fun (e : Nat × Head) => e.2.binds.map (fun b => b.1.toNat))
  (segs ++ heads).foldl (fun l g => if g ∈ l then l else l ++ [g]) []

/-- Pinned entries whose set had no way left, which lie in the overflow store (R84). -/
def State.dirOverflow (s : State) : Nat :=
  (s.pinned.foldl (fun (acc : Tab Nat × Nat) g =>
    let k := dirSet g
    let c := acc.1.get 0 k
    (acc.1.put k (c + 1), if c < 8 then acc.2 else acc.2 + 1)) ([], 0)).2

/-- A GSN can be pinned: it is already, or fewer than 65,536 are and its set or the overflow store has room (R84). -/
def State.pinRoom (s : State) (gsn : Nat) : Bool :=
  let l := s.pinned
  decide (gsn ∈ l) || (decide (l.length < 65536) &&
    (decide ((l.filter (fun g => dirSet g == dirSet gsn)).length < 8) || decide (s.dirOverflow < 8192)))

/-- The line of page `lmp`, line `i`, by the GSN of the segment that holds it. -/
def State.lineOfLmp (s : State) (l : Lmp) (i : Nat) : LineAddr :=
  BitVec.ofNat 50 (((s.seg (lmpLsi l)).gsn.toNat * 2 ^ 18 + l.toNat % 2 ^ 18) * 64 + i)

/-- The region that holds an LMP's segment. -/
def State.regionOfLmp (s : State) (l : Lmp) : Nat := (s.seg (lmpLsi l)).region.toNat

/-! ### Region attributes (R92, R103) -/

/-- 0 Volatile, 1 Durable, 2 Strict. -/
def Region.persist (r : Region) : Nat := fld r.attr0 0 2
/-- Early acknowledgement. -/
def Region.early (r : Region) : Bool := bitAt r.attr0 2
/-- 0 Cached, 1 Streaming, 2 Uncached. -/
def Region.cache (r : Region) : Nat := fld r.attr0 3 2
def Region.keyRange (r : Region) : Nat := fld r.attr0 8 6
def Region.rewind (r : Region) : Bool := bitAt r.attr0 16
/-- Guard policy (else Expire). -/
def Region.guard (r : Region) : Bool := bitAt r.attr0 17
/-- Rewind budget in units of 64 MiB. -/
def Region.budget (r : Region) : Nat := fld r.attr1 0 16
/-- 0 none, 1 Sync, 2 Lagged. -/
def Region.mirror (r : Region) : Nat := fld r.attr2 0 2
def Region.partner (r : Region) : Nat := fld r.attr2 2 12
def Region.lag (r : Region) : Nat := fld r.attr2 14 16

/-! ### HPA to FGA (R80, R81, R409, R410) -/

/-- The DPA that committed decoder `d` of a head gives an HPA it claims: interleave bits removed, above the DPA space of
the lower committed decoders (R409, log 14). -/
def decodeDpa (decs : Tab Decoder) (hpa : Nat) : Option Nat :=
  (decs.foldl (fun (acc : Nat × Option Nat) e =>
    let d := e.2
    let ways := 2 ^ d.ways.toNat
    let gran := 256 * 2 ^ d.gran.toNat
    let hit := decide (d.base.toNat ≤ hpa) && decide (hpa < d.base.toNat + d.size.toNat)
    let o := hpa - d.base.toNat
    (acc.1 + d.size.toNat / ways,
     if acc.2.isNone && hit then some (acc.1 + o / (gran * ways) * gran + o % gran) else acc.2)) (0, none)).2

/-- What a head makes of an HPA. -/
inductive HpaRoute where
  /-- no decoder, an invalid slot or a right missing: the slot (R81) -/
  | unbound (slot : Nat)
  /-- the control window, byte offset (R410) -/
  | window (off : Nat)
  | fga (f : Fga)
deriving DecidableEq, Repr

/-- Decode an HPA of a head for a read, or for a write or atomic. DESIGN CHOICE: an HPA that no committed decoder claims is an unbound access
under slot 0, since R81 names no slot for it (R80, R81, R409, R410, log 85). -/
def Head.route (h : Head) (hpa : BitVec 64) (wr : Bool) : HpaRoute :=
  match decodeDpa h.decoders hpa.toNat with
  | none => .unbound 0
  | some dpa =>
    let slot := dpa / 2 ^ 30 % 2 ^ 14
    if slot = 16383 then .window (dpa % 2 ^ 30)
    else
      let e := h.extents.get 0 slot
      if bitAt e 31 && bitAt e (if wr then 30 else 29) then .fga (BitVec.ofNat 56 (fld e 0 26 * 2 ^ 30 + dpa % 2 ^ 30))
      else .unbound slot

/-- The slot in a head's extent table that holds a GSN. -/
def Head.slotOf (h : Head) (gsn : Nat) : Option Nat :=
  (h.extents.find? (fun e => bitAt e.2 31 && decide (fld e.2 0 26 = gsn))).map Prod.fst

/-- The DPA at which a head sees a line, 0 when the segment is not bound. -/
def Head.dpaOf (h : Head) (a : LineAddr) : Dpa :=
  match h.slotOf (lineGsn a) with
  | some slot => BitVec.ofNat 44 (slot * 2 ^ 30 + a.toNat % 2 ^ 24 * 64)
  | none => 0

/-! ### Lines and bytes -/

/-- The 512-bit mask of a 64-bit byte mask. -/
def byteMask (m : BitVec 64) : Line :=
  BitVec.ofNat 512 ((List.range 64).foldl (fun a i => if bitAt m i then a + 255 * 2 ^ (8 * i) else a) 0)

/-- Bytes of `new` under the mask over `old`. -/
def overlay (old new : Line) (m : BitVec 64) : Line :=
  let k := byteMask m
  (old &&& ~~~k) ||| (new &&& k)

/-- The all-ones byte mask. -/
def fullMask : BitVec 64 := BitVec.allOnes 64

/-- The `n` bytes of a line from byte `off` on, as a number (R11, R136). -/
def lineField (l : Line) (off n : Nat) : Nat := l.toNat / 2 ^ (8 * off) % 2 ^ (8 * n)

/-- A line with `n` bytes from byte `off` on replaced. -/
def setLineField (l : Line) (off n v : Nat) : Line :=
  BitVec.ofNat 512 (l.toNat - lineField l off n * 2 ^ (8 * off) + v % 2 ^ (8 * n) * 2 ^ (8 * off))

end Sys2Proof.Machine
end

