-- ==== Sys2Proof/Machine/Route.lean ====
section
/-! DEFINITION. Messages to peers: their lengths and channels, the choice of a port and class, credits, the end-to-end
sequence of REQs, and flooding (R337 to R346, R351, R359 to R361). -/

namespace Sys2Proof.Machine

/-- The length of a message in grains (R338, R401, R454). -/
def Msg.len : Msg → Nat
  | .rd _ | .rwMarker .. | .rwFwd .. | .pageCtl .. | .pageAck _ | .lineAck _ | .gstRsp .. | .gstAck _ | .gstSync .. | .gstClaim _
  | .fwuCtl .. | .atomData _ | .discardCheck .. | .discardGo .. | .discardRsp .. | .krPull => 2
  | .wr .. => 6
  | .atom _ op size _ _ => if op = 9 && size = 2 then 4 else 3
  | .rdData .. => 5
  | .blkData _ l _ => 3 + 4 * l.length
  | .fwChunk .. => 15
  | .krTable .. => 20
  | .krPush .. => 10
  | .gstReq _ | .gstUpd .. | .krAck .. => 3
  | .barrier _ | .gpf | .wrStat .. | .barrierDone | .gpfDone | .retry | .esqAck | .err | .copyEnd _ | .rwConf | .fwuDone _ => 1

/-- The virtual channel of a message: 0 REQ, 1 RSP, 2 BLK, 3 MGT (R337, R338). -/
def Msg.vc : Msg → Nat
  | .rd _ | .wr .. | .atom .. | .barrier _ | .gpf => 0
  | .rdData .. | .wrStat .. | .atomData _ | .barrierDone | .gpfDone | .retry | .esqAck | .err => 1
  | .blkData .. | .pageCtl .. | .pageAck _ | .lineAck _ | .copyEnd _ | .rwMarker .. | .rwFwd .. | .rwConf | .fwChunk .. => 2
  | _ => 3

/-- A port carries messages: Active, Trickle, or leaving Trickle (R347, R348). -/
def Port.carries (p : Port) : Bool := p.st == 3 || p.st == 5 || p.exiting

/-- A port takes another message: it carries messages and keeps fewer than 256 unacknowledged flits (R335). -/
def Port.sends (p : Port) : Bool := p.carries && decide (p.unacked.length < 256)

/-- Credit of a port for a channel and class (R341). -/
def Port.creditFor (p : Port) (vc : Nat) (esc : Bool) : Nat := p.credit.get 0 (2 * vc + if esc then 1 else 0)

/-- The route of a destination; none for a destination with no ports (R357, R361). -/
def State.routeTo (s : State) (dev : Nat) : Option Route :=
  match s.fxb.routes.find dev with
  | some r => if r.next.isEmpty && r.esc.isNone then none else some r
  | none => none

/-- The parity of the escape tree epoch (R358). -/
def State.tep (s : State) : Bool := bitAt s.fxb.treeEpoch 0

/-- The escape entry of a destination for a message's tree parity (R358). -/
def State.escRoute (s : State) (dev : Nat) (parity : Bool) : Route :=
  if parity = s.tep then s.fxb.routes.get {} dev else s.fxb.oldEsc.get {} dev

/-- The port number as a fabric port. -/
def portFin (n : Nat) : Fin 512 := ⟨n % 512, Nat.mod_lt _ (by decide)⟩

/-- The adaptive port with the most credit that suffices, the lowest number on a tie (R359). -/
def State.bestPort (s : State) (ports : List Nat) (vc len : Nat) : Option Nat :=
  (ports.foldl (fun (best : Option (Nat × Nat)) p =>
    let c := (s.port p).creditFor vc false
    if !(s.port p).sends || c < len then best else
    match best with
    | none => some (p, c)
    | some b => if b.2 < c || (b.2 == c && p < b.1) then some (p, c) else best) none).map Prod.fst

/-- What R359 chooses for a message: the port, and its class bits as it leaves. -/
def State.choosePort (s : State) (r : Routing) (m : Msg) : Option (Nat × Routing) :=
  let dev := r.dst.toNat
  let escOk (p : Nat) : Bool := (s.port p).sends && decide (m.len ≤ (s.port p).creditFor m.vc true)
  if r.esc then
    let e := s.escRoute dev r.tep
    match (if r.down then e.escDn else e.esc) with
    | some p => if escOk p then some (p, { r with down := r.down || e.escIsDown }) else none
    | none => none
  else
    let e := s.fxb.routes.get {} dev
    match s.bestPort e.next m.vc m.len with
    | some p => some (p, r)
    | none =>
      if m.vc = 3 then none else
      match e.esc with
      | some p => if escOk p then some (p, { r with esc := true, tep := s.tep, down := e.escIsDown }) else none
      | none => none

/-- What a port sends when a flit carries it. -/
def Carried.out (p : Nat) : Carried → Output
  | .msg r m => .send r m
  | .link m => .link (portFin p) m

/-- A port sends a new flit: the next sequence, the flit number counted, the credit of its channel spent, and the flit kept for replay (R329,
R330, R335, R341). -/
def Port.launch (x : Port) (k len : Nat) (c : Carried) : Port :=
  { x with credit := x.credit.set 0 k (x.credit.get 0 k - len), txSeq := x.txSeq + 1, flitNo := x.flitNo + 1,
           unacked := x.unacked ++ [(x.txSeq + 1, c)], sinceAck := 0 }

/-- LINK_WAKE leaves at once, against its credit (R348). -/
def State.linkWake (s : State) (p : Nat) : State :=
  (s.setPort p ((s.port p).launch 6 1 (.link .wake))).emit (.link (portFin p) .wake)

/-- A message leaves through a port: its credit is spent, the flit is kept for replay, and a Trickle port is woken by any
message but MGT (R335, R341, R348). -/
def State.leave (s : State) (p : Nat) (r : Routing) (m : Msg) : State :=
  let x := s.port p
  let k := 2 * m.vc + if r.esc then 1 else 0
  let r := { r with port := portFin p, hops := r.hops + 1 }
  let wake := x.st == 5 && m.vc != 3
  let x := { x.launch k m.len (.msg r m) with
    st := if wake then 2 else x.st, phase := if wake then 3 else x.phase, exiting := x.exiting || wake }
  let s := (s.setPort p x).emit (.send r m)
  if wake then s.linkWake p else s

/-- A flooded message leaves through the port its routing names, or waits there for credit (R341, R359). -/
def State.sendOn (s : State) (r : Routing) (m : Msg) : State :=
  let p := r.port.val
  if (s.port p).st != 3 && (s.port p).st != 5 then s
  else if (s.port p).sends && decide (m.len ≤ (s.port p).creditFor m.vc false) then s.leave p r m
  else { s with fxb := { s.fxb with transit := s.fxb.transit ++ [(r, m)] } }

/-- Send a message toward its destination: discarded and counted without a route, at the hop limit, else through a port
with credit, or waiting for credit (R359, R361). -/
def State.routeOut (s : State) (r : Routing) (m : Msg) : State :=
  if r.dst = 4095 then s.sendOn r m
  else if r.hops = 31 then (s.countUp 0x180 0x12c 16 16).raise 0x180 .fxbHopLimit
  else if (s.routeTo r.dst.toNat).isNone then s.countUp 0x180 0x12c 0 16
  else
    match (if s.halted 0x180 then none else s.choosePort r m) with
    | some (p, r) => s.leave p r m
    | none => { s with fxb := { s.fxb with transit := s.fxb.transit ++ [(r, m)] } }

/-- The crossbar input a message waits at: its arrival port's block, or one of this module's own slices (R342). -/
def crossInput (r : Routing) (m : Msg) : Nat :=
  if r.hops != 0 then r.port.val / 8 else
  64 + (match m with
    | .rd a | .wr a _ _ | .blkData a _ _ | .lineAck a => sliceHash a
    | .atom f .. => sliceHash (fgaLine f)
    | _ => 0)

/-- One message of each input in turn, until none is left (R342). -/
def roundRobin : Nat → List (Routing × Msg) → List (Routing × Msg)
  | 0, l => l
  | fuel + 1, l =>
    let turn := l.foldl (fun (acc : List (Routing × Msg) × List (Routing × Msg) × List Nat) e =>
      let i := crossInput e.1 e.2
      if i ∈ acc.2.2 then (acc.1, acc.2.1 ++ [e], acc.2.2) else (acc.1 ++ [e], acc.2.1, i :: acc.2.2)) ([], [], [])
    if turn.2.1.isEmpty then turn.1 else turn.1 ++ roundRobin fuel turn.2.1

/-- The messages of a channel: the escape class before the adaptive class, each round robin over its inputs (R342). -/
def channelOrder (l : List (Routing × Msg)) (vc : Nat) : List (Routing × Msg) :=
  let of (esc : Bool) := l.filter (fun e => e.2.vc == vc && e.1.esc == esc)
  roundRobin l.length (of true) ++ roundRobin l.length (of false)

/-- Responses, requests and blocks in weighted round robin, 4 : 3 : 1 (R342). -/
def weighted : Nat → List (Routing × Msg) → List (Routing × Msg) → List (Routing × Msg) → List (Routing × Msg)
  | 0, _, _, _ => []
  | fuel + 1, rsp, req, blk =>
    if rsp.isEmpty && req.isEmpty && blk.isEmpty then [] else
    rsp.take 4 ++ req.take 3 ++ blk.take 1 ++ weighted fuel (rsp.drop 4) (req.drop 3) (blk.drop 1)

/-- The order in which waiting messages take their outputs: MGT first (R342). -/
def arbitrate (l : List (Routing × Msg)) : List (Routing × Msg) :=
  channelOrder l 3 ++ weighted l.length (channelOrder l 1) (channelOrder l 0) (channelOrder l 2)

/-- Messages that waited for credit try again, as the crossbar arbitrates among them (R342, R359). -/
def State.retryTransit (s : State) : State :=
  if s.halted 0x180 then s else
  let l := arbitrate s.fxb.transit
  let s := { s with fxb := { s.fxb with transit := [] } }
  s.each l (fun s e => s.routeOut e.1 e.2)

/-- The routing grain of a message of this module. -/
def State.grain (s : State) (dst : Dev) (stream : BitVec 10) (ord : Bool) (esq tag epoch : BitVec 16) (status : Status)
    (xinfo : BitVec 16) : Routing :=
  { port := 0, esc := false, down := false, hops := 0, fwd := false, dst := dst, src := s.fxb.devnum, stream := stream, ord := ord,
    tep := false, esq := esq, tag := tag, epoch := epoch, status := status, xinfo := xinfo }

/-- A message without an end-to-end sequence: BLK and MGT; one to this module itself is taken up when the command's effect is done. -/
def State.sendPlain (s : State) (dst : Dev) (tag epoch : BitVec 16) (status : Status) (xinfo : BitVec 16) (m : Msg) : State :=
  let r := s.grain dst 0 false 0 tag epoch status xinfo
  if dst = s.fxb.devnum && dst != 0 then { s with sve := { s.sve with selfq := s.sve.selfq ++ [(r, m)] } } else s.routeOut r m

/-- A response to a peer: its ESQ acknowledges the last REQ accepted from that peer (R345, log 19). -/
def State.sendRsp (s : State) (dst : Dev) (tag epoch : BitVec 16) (status : Status) (xinfo : BitVec 16) (m : Msg) : State :=
  let p := s.pair dst.toNat
  let s := s.setPair dst.toNat { p with ackDue := false }
  s.routeOut (s.grain dst 0 true (p.rxNext - 1) tag epoch status xinfo) m

/-- A REQ to a peer: it takes the pair's next sequence and is kept until acknowledged (R344, R345). -/
def State.sendSeq (s : State) (r : Routing) (m : Msg) : State :=
  let p := s.pair r.dst.toNat
  let r := { r with ord := true, esq := p.txNext }
  let s := s.setPair r.dst.toNat { p with txNext := p.txNext + 1, unacked := p.unacked ++ [⟨p.txNext, r, m⟩] }
  s.routeOut r m

/-- A transaction tag that no outstanding request carries; never 0 (R383, R387). -/
def State.newTag (s : State) : BitVec 16 × State :=
  let used (t : BitVec 16) : Bool := t == 0 || s.fxb.remotes.any (fun q => q.tag == t)
  let t := ((List.range 65536).map (fun i => s.fxb.nextTag + BitVec.ofNat 16 i)).find? (fun t => !used t)
  let t := t.getD s.fxb.nextTag
  (t, { s with fxb := { s.fxb with nextTag := t + 1 } })

/-- The module's ports that are Active, but one. -/
def State.activePorts (s : State) (except_ : Option Nat) : List Nat :=
  (s.ports.filter (fun (e : Nat × Port) => e.2.st == 3 && some e.1 != except_)).map Prod.fst

/-- Flood a message with DST = 4,095 on every Active port but one. -/
def State.flood (s : State) (except_ : Option Nat) (m : Msg) : State :=
  s.each (s.activePorts except_) (fun s p =>
    s.sendOn { s.grain 4095 0 false 0 0 0 0 0 with port := portFin p } m)

/-- The length of a link-local message in grains; 0 for what is no message (R338, R349, R350, R454). -/
def linkLen : LinkMsg → Nat
  | .train .. | .flit .. => 0
  | .hello _ => 3
  | .lsa x => 3 + (x.nbrs.length + 3) / 4
  | .devReq .. | .devGrant .. | .tree .. | .kxDone => 2
  | .trickle _ | .wake => 1
  | .kxOffer .. => 8
  | .kxCert => 15
  | .kxProof => 6

/-- A link-local message leaves through its port when that has MGT credit and room for an unacknowledged flit, else waits there (R335,
R341). -/
def State.linkOut (s : State) (p : Nat) (m : LinkMsg) : State :=
  let x := s.port p
  let n := linkLen m
  if n = 0 then s.emit (.link (portFin p) m)
  else if x.mgtq.isEmpty && decide (n ≤ x.creditFor 3 false) && decide (x.unacked.length < 256) then
    (s.setPort p (x.launch 6 n (.link m))).emit (.link (portFin p) m)
  else s.setPort p { x with mgtq := x.mgtq ++ [m] }

/-- Link-local messages that waited leave while there is credit. -/
def State.linkRetry (s : State) (p : Nat) : State :=
  let l := (s.port p).mgtq
  let s := s.setPort p { s.port p with mgtq := [] }
  s.each l (fun s m => s.linkOut p m)

/-- Send a link message on every Active port but one. -/
def State.floodLink (s : State) (except_ : Option Nat) (m : LinkMsg) : State :=
  s.each (s.activePorts except_) (fun s p => s.linkOut p m)

/-! ### Requests of peers in progress at this owner (R155, R179) -/

/-- A merge store holds a line of a source that the DTC has not accepted; lines of Volatile regions are excluded (R134, R179). -/
def State.undrainedOf (s : State) (src : Nat) : Bool :=
  (List.range 8).any (fun n => (s.slice n).merge.any (fun (m : MergeEntry) => decide (src ∈ m.srcs) &&
    (s.lsiOf (lineGsn m.line)).any (fun i => (s.region (s.seg i).region.toNat).persist != 0)))

/-- A peer's marker whose requests have all been answered reports; one of a GPF waits as well until the DTC has accepted the peer's
lines (R155, R158, R179). -/
def State.closeMarks (s : State) (dev : Dev) : State :=
  let met (m : PeerMark) : Bool := m.r.src == dev && m.tags.isEmpty && !(m.gpf && s.undrainedOf (64 + dev.toNat))
  let done := s.fxb.marks.filter met
  let s := { s with fxb := { s.fxb with marks := s.fxb.marks.filter (fun m => !met m) } }
  s.each done (fun s m => s.sendRsp dev m.r.tag m.r.epoch (match m.worst with
    | 0 => 0 | 1 => 0x0a | 2 => 0x07 | 3 => 0x09 | 4 => 0x06 | _ => 0x0b) 0 (if m.gpf then .gpfDone else .barrierDone))

/-- The kind of a peer's request in progress. -/
def State.servedKind (s : State) (dev : Dev) (tag : BitVec 16) : Option ReqKind :=
  (s.fxb.served.find? (fun e => e.1 == dev && e.2.1 == tag)).map (fun e => e.2.2.1)

/-- A peer's request has had its last answer: the markers that wait for it go on. -/
def State.peerDone (s : State) (dev : Dev) (tag : BitVec 16) (rank : Nat) : State :=
  let s := { s with fxb := { s.fxb with
    served := s.fxb.served.filter (fun e => !(e.1 == dev && e.2.1 == tag)),
    marks := s.fxb.marks.map (fun (m : PeerMark) =>
      if m.r.src == dev && decide (tag ∈ m.tags) then { m with tags := removeAll m.tags tag, worst := max m.worst rank } else m) } }
  s.closeMarks dev

end Sys2Proof.Machine
end

