-- ==== Sys2Proof/Machine/Answers.lean ====
section
/-! DEFINITION. Answers to requesters: completions at a head, responses to a peer, and the requests a head still has
outstanding for its barriers (R61, R154, R155, R158, R340, R344, R384). -/

namespace Sys2Proof.Machine

/-- Status codes (00_scope.md). -/
abbrev stOk : Status := 0x00
abbrev stAccepted : Status := 0x01
abbrev stBusy : Status := 0x02
abbrev stRange : Status := 0x03
abbrev stDenied : Status := 0x04
abbrev stNoResource : Status := 0x05
abbrev stAborted : Status := 0x06
abbrev stTimeout : Status := 0x07
abbrev stPartial : Status := 0x08
abbrev stLost : Status := 0x09
abbrev stIntegrity : Status := 0x0a
abbrev stState : Status := 0x0b
abbrev stUnsupported : Status := 0x0c

/-- A status as software must take it: a reserved one as UNSUPPORTED (R13). -/
def knownStatus (st : Status) : Status := if st.toNat ≤ 0x0c then st else stUnsupported

/-- The ranks of R158, lowest first: OK, INTEGRITY, TIMEOUT, LOST, ABORTED, STATE. -/
def rankStatus (r : Nat) : Status :=
  match r with
  | 0 => stOk | 1 => stIntegrity | 2 => stTimeout | 3 => stLost | 4 => stAborted | _ => stState

/-- Remove the first element that a test accepts. -/
def removeFirst {α : Type} (p : α → Bool) : List α → List α
  | [] => []
  | x :: t => if p x then t else x :: removeFirst p t

/-- A line of a head lies in a Volatile region at its owner. -/
def State.volatileLine (s : State) (h : Nat) (a : LineAddr) : Bool :=
  match s.lsiOf (lineGsn a) with
  | some i => (s.region (s.seg i).region.toNat).persist == 0
  | none => (s.head h).binds.any (fun b => b.1.toNat == lineGsn a && b.2.2.2)

/-- The stores of a head that its GPF phase 2 still waits for; Volatile ones are excluded (R179). -/
def State.gpfOpen (s : State) (h g : Nat) : List Outst :=
  (s.head h).outs.filter (fun o => o.kind == .store && decide (o.serial < g) && !s.volatileLine h o.line)

/-- The kind of a held request. -/
def HeldReq.kind : HeldReq → ReqKind
  | .read .. => .read
  | .write .. => .store
  | .atomic .. => .atomic

/-- Phase 2 of a head's GPF completes once every store and atomic decoded before it has its point: none outstanding or held at the head,
no peer due, and no line of the head in a merge store that the DTC has not accepted (R134, R179). -/
def State.gpfCheck (s : State) (h : Nat) : State :=
  let x := s.head h
  match x.gpf with
  | none => s
  | some g =>
    if !(s.gpfOpen h g).isEmpty || !x.gpfPeers.isEmpty || s.undrainedOf h || x.held.any (fun e => decide (e.1 < g) && e.2.kind != .read) then s
    else (s.setHead h { x with gpf := none }).emit (.gpfAck ⟨h % 64, Nat.mod_lt _ (by decide)⟩ 2)

/-- Every head's GPF in phase 2 and every peer's GPF marker looks whether it is complete (R179). -/
def State.gpfChecks (s : State) : State :=
  let s := s.each ((s.heads.filter (fun (e : Nat × Head) => e.2.gpf.isSome)).map Prod.fst) State.gpfCheck
  s.each ((s.fxb.marks.filter PeerMark.gpf).map (fun m => m.r.src)) State.closeMarks

/-- A barrier kind holds, and waits for, a request kind (R155). -/
def barrierHolds (kind : BitVec 2) (k : ReqKind) : Bool :=
  match k with
  | .read => kind == 1 || kind == 3
  | .store => kind == 2 || kind == 3
  | .atomic => kind != 0
  | _ => false

/-- Each slice's count of admitted requests: the places of a marker that enters their lanes now. -/
def State.places (s : State) : List Nat := (List.range 8).map (fun n => (s.slice n).serial)

/-- A request of a head has reached its point, or has ended badly with a rank that counts for the barriers behind it; with no
barrier behind it, for the next one (R154, R155, R158, log 66). -/
def State.headDone (s : State) (h : Nat) (tag : BitVec 16) (kind : ReqKind) (rank : Nat) : State :=
  let x := s.head h
  match x.outs.find? (fun o => o.tag == tag && o.kind == kind) with
  | none => s
  | some o =>
    let outs := removeFirst (fun (o : Outst) => o.tag == tag && o.kind == kind) x.outs
    let bars := x.barriers.map (fun (b : Barrier) => if o.serial < b.serial then { b with worst := max b.worst rank } else b)
    let past := if x.barriers.any (fun (b : Barrier) => decide (o.serial < b.serial)) then x.past else max x.past rank
    (s.setHead h { x with outs := outs, barriers := bars, past := past }).gpfCheck h

/-- Register a request of a head as outstanding (R154). -/
def State.headOut (s : State) (h : Nat) (tag : BitVec 16) (kind : ReqKind) (line : LineAddr) : State :=
  let x := s.head h
  s.setHead h { x with serial := x.serial + 1, outs := x.outs ++ [⟨x.serial, tag, kind, line⟩] }

/-- Record the point a deduplicated request has reached (R384). -/
def State.dedupNote (s : State) (dev : Dev) (tag : BitVec 16) (point : BitVec 2) (old : BitVec 128) : State :=
  { s with sve := { s.sve with dedup := s.sve.dedup.map (fun d =>
      if d.dev == dev && d.tag == tag then { d with point := point, old := old } else d) } }

/-- A copied line has reached its point: LINE_ACK for a mirror update; PAGE_ACK once every line of its page has (R379, R387). -/
def State.copyAck (s : State) (dev : Dev) (line : LineAddr) (page : Bool) (status : Status) : State :=
  if !page then s.sendPlain dev 0 0 status 0 (.lineAck line) else
  let p := pageOf line
  match s.sve.copyIn.find? (fun e => e.1 == dev && e.2.1 == p) with
  | none => s
  | some e =>
    let mask := e.2.2 ||| oneBit 64 (lineInPage line)
    let rest := s.sve.copyIn.filter (fun e => !(e.1 == dev && e.2.1 == p))
    if mask = fullMask || status != stOk then
      ({ s with sve := { s.sve with copyIn := rest } }).sendPlain dev 0 0 status 0 (.pageAck (BitVec.ofNat 44 p))
    else { s with sve := { s.sve with copyIn := rest ++ [(dev, p, mask)] } }

/-- A read is answered with a line (R50, R55). -/
def State.answerRead (s : State) (who : Sender) (data : Line) (poison : Bool) : State :=
  match who with
  | .head h tag => (s.emit (.readData h tag data poison)).headDone h.val tag .read 0
  | .peer dev tag epoch => (s.sendRsp dev tag epoch stOk (if poison then 1 else 0) (.rdData data poison)).peerDone dev tag 0
  | _ => s

/-- A store reports a point: 1 lane, 2 released, 3 programmed; `last` when it is its Late point (R61, R340). -/
def State.answerPoint (s : State) (w : Waiting) (point : Nat) (last : Bool) : State :=
  match w.sender with
  | .head h tag =>
    if last then (if w.late then s.emit (.writeDone h tag false) else s).headDone h.val tag .store 0
    else s
  | .peer dev tag epoch =>
    let atomic := s.servedKind dev tag == some .atomic
    if atomic && !(w.late && last) then (if last then s.peerDone dev tag 0 else s) else
    let s := if atomic then s else s.dedupNote dev tag (BitVec.ofNat 2 point) 0
    let s := s.sendRsp dev tag epoch stOk (BitVec.ofNat 16 (point + (if last then 0 else 4))) (.wrStat (BitVec.ofNat 2 point) (!last))
    if last then s.peerDone dev tag 0 else s
  | .copy dev line page => if last then s.copyAck dev line page stOk else s
  | .internal _ => s

/-- A store ends without reaching its point: a Late one completes with an error, a peer is answered with ERR (R61, R133,
R158). -/
def State.answerBad (s : State) (w : Waiting) (rank : Nat) : State :=
  match w.sender with
  | .head h tag => (if w.late then s.emit (.writeDone h tag true) else s).headDone h.val tag .store rank
  | .peer dev tag epoch =>
    (if s.servedKind dev tag == some .atomic && !w.late then s else s.sendRsp dev tag epoch (rankStatus (max 1 rank)) 0 .err).peerDone dev tag
      rank
  | .copy dev line page => s.copyAck dev line page (rankStatus (max 1 rank))
  | .internal _ => s

/-- A store ends without reaching its point but counts as having reached it for the barriers (R158, R296, R302). -/
def State.answerRefused (s : State) (w : Waiting) : State :=
  match w.sender with
  | .head h tag => (if w.late then s.emit (.writeDone h tag true) else s).headDone h.val tag .store 0
  | .peer dev tag epoch =>
    (if s.servedKind dev tag == some .atomic && !w.late then s else s.sendRsp dev tag epoch stAborted 0 .err).peerDone dev tag 0
  | .copy dev line page => s.copyAck dev line page stAborted
  | .internal _ => s

/-- An atomic returns its old value (R65, R136). -/
def State.answerAtomic (s : State) (who : Sender) (old : BitVec 128) (poison : Bool) : State :=
  match who with
  | .head h tag => (s.emit (.atomicData h tag old poison)).headDone h.val tag .atomic 0
  | .peer dev tag epoch =>
    (s.dedupNote dev tag 2 old).sendRsp dev tag epoch (if poison then stIntegrity else stOk) 0 (.atomData old)
  | _ => s

/-- An atomic that has run returns its old value; a peer whose atomic's store part has yet to reach its point is told so by XINFO[2],
and gets WR_STAT or ERR then (R155, R340, log 82). -/
def State.answerOld (s : State) (who : Sender) (old : BitVec 128) (later : Bool) : State :=
  match who with
  | .peer dev tag epoch => (s.dedupNote dev tag 2 old).sendRsp dev tag epoch stOk (if later then 4 else 0) (.atomData old)
  | _ => s.answerAtomic who old false

/-- The waiter of an atomic's store part: a peer is told of its point when it was told to expect it; a head has had its answer. -/
def Waiting.afterAtomic (w : Waiting) (later : Bool) : Waiting :=
  match w.sender with
  | .peer .. => { w with late := later }
  | _ => { w with late := false }

/-- Every waiter of a list reports its Late point. -/
def State.answerAll (s : State) (ws : List Waiting) (point : Nat) : State :=
  s.each ws (fun s w => s.answerPoint w point true)

/-- Every waiter of a list ends badly. -/
def State.badAll (s : State) (ws : List Waiting) (rank : Nat) : State := s.each ws (fun s w => s.answerBad w rank)

end Sys2Proof.Machine
end

