-- ==== Sys2Proof/Machine/Flags.lean ====
section
/-! DEFINITION. The levels the module drives and the status words derived from the state: FAULT_N, THROT_N, HOLD_OK and
GETSTATUS (R29, R473, R483, R512, R561, R564). -/

namespace Sys2Proof.Machine

/-- MGT_PINCFG.FAULT_CE (R483). -/
def State.faultCe (s : State) : Bool := bitAt (s.reg 0x000 0x104) 0

/-- A source holds FAULT_N low: its bit is set and unmasked, its class is UC or FT, or CE under FAULT_CE (R512). -/
def State.drives (s : State) (id : BitVec 18) : Bool :=
  let page := srcPage id
  let bit := srcBit id
  let cls := (classify id).1
  bitAt (s.reg page 0x10) bit && !s.masked page bit && (decide (2 ≤ cls) || (decide (cls = 1) && s.faultCe))

/-- FAULT_N is low (R512). -/
def State.faultLow (s : State) : Bool := !decide (s.flt.safe = 0) || s.flt.drive.any (fun id => s.drives id)

/-- THROT_N is low: a throttle request, or a Capped admission limit below 100 (R561, R564). -/
def State.throtLow (s : State) : Bool := s.thm.req || decide (s.pwr.req < 100)

/-- HOLD_OK is high: bank healthy, budget above zero, not Off, no emergency flush (R29, R552). -/
def State.holdOk (s : State) : Bool :=
  s.pwr.bankOk && decide (0 < s.dtc.budget) && !decide (s.pwr.st = 0) && !decide (s.pwr.st = 9) && !decide (s.pwr.flush = 3)

/-- Complete packets in the completion FIFO: a packet whose first word has been popped is no longer complete (R473, R491). -/
def Mgt.packets (m : Mgt) : Nat := m.cpl.length - (if m.cplOwner.isSome then 1 else 0)

/-- GETSTATUS (R473). -/
def State.getStatus (s : State) : BitVec 16 :=
  BitVec.ofNat 16 (min 15 s.mgt.packets + (if s.mgt.protoErr then 32 else 0) + (if s.faultLow then 256 else 0)
    + (if s.throtLow then 512 else 0) + (if s.holdOk then 1024 else 0))

/-! ### Event records of a head (R424, R425) -/

/-- Block `h` carries a head (R317, R606). -/
def State.headExists (s : State) (h : Nat) : Bool := s.regFld (0x100 + h) 0x100 8 8 != 0

/-- The heads of the module. -/
def State.headList (s : State) : List Nat := (List.range 64).filter s.headExists

/-- HEAD_RIGHTS of a head: 0 MGMT, 1 CMD, 2 POISON (R426). -/
def State.headRight (s : State) (h bit : Nat) : Bool := bitAt (s.reg (0x1c0 + h) 0x10c) bit

/-- Records a log holds: 64, the Dynamic Capacity log 256 (R424). -/
def logCap (log : Nat) : Nat := if log = 4 then 256 else 64

/-- A head's timestamp: the value set last, running on in ns; 0 while none is set (R421, log 14). -/
def Head.stampNow (x : Head) (ns : Nat) : BitVec 64 :=
  match x.stampAt with
  | some t => x.timestamp + BitVec.ofNat 64 (ns - t)
  | none => 0

/-- The interrupt a head's policy gives a log: MSI/MSI-X mode in bits 1:0 and the message in bits 7:4 of the log's byte (R421, log 14). -/
def State.logInterrupt (s : State) (h log : Nat) : State :=
  let p := fld (s.head h).policy (8 * log) 8
  if p % 4 = 1 then s.emit (.msi ⟨h % 64, Nat.mod_lt _ (by decide)⟩ (p / 16)) else s

/-- Post a record to a head's log, with the interrupt its policy gives the log; a full log counts it as missed, in HEAD_ERR.EVT_OVF also,
and raises EVT_OVF (R421, R424, R428, R429). -/
def State.postRec (s : State) (h log : Nat) (r : CxlRec) : State :=
  let x := s.head h
  let l : List CxlRec := (x.logs.find log).getD []
  if l.length < logCap log then
    (s.setHead h { x with logs := x.logs.put log (l ++ [{ r with hdl := x.nextHdl, stamp := x.stampNow s.time.toNat }]),
                          nextHdl := x.nextHdl + 1 }).logInterrupt h log
  else
    let s := (s.setHead h { x with logOvf := x.logOvf.set 0 log (x.logOvf.get 0 log + 1) }).countUp (0x1c0 + h) 0x11c 0 16
    s.raise (0x1c0 + h) .headEvtOvf

/-- A vendor record (R425). -/
def vendorRec (kind : Nat) (status : Status) (gsn : Nat) (dpa : Dpa) (handle : Word) (count : Nat) : CxlRec :=
  { kind := BitVec.ofNat 8 kind, status := status, gsn := BitVec.ofNat 26 gsn, dpa := dpa, handle := handle, count := count, seq := 0 }

/-- Post a record to every head. -/
def State.postAll (s : State) (log : Nat) (r : CxlRec) : State := s.each s.headList (fun s h => s.postRec h log r)

/-- A Memory Module Event record to every head: a change of HOLD_OK or of temperature (R425). -/
def State.memoryEvent (s : State) : State := s.postAll 0 { vendorRec 0x82 0 0 0 0 0 with kind := 0x82 }

/-! ### Levels -/

/-- The levels at the pins: FAULT_N low, THROT_N low, HOLD_OK high. -/
structure Levels where
  fault : Bool
  throt : Bool
  hold : Bool
deriving DecidableEq, Repr

def State.levels (s : State) : Levels := ⟨s.faultLow, s.throtLow, s.holdOk⟩

/-- The page of the first source that holds FAULT_N low. -/
def State.faultPage (s : State) : Nat :=
  match s.flt.drive.find? (fun id => s.drives id) with
  | some id => srcPage id
  | none => 0x004

/-- Send the IBIs of the pins that changed since `old` (R483, R488): FAULT_N when it asserts, THROT_N and HOLD_OK when
they change; the heads learn of HOLD_OK (R425). -/
def State.pinIbis (s : State) (old : Levels) : State :=
  let now := s.levels
  let s := if now.fault && !old.fault then
      s.sendIbi 0x02 ((bytesOf 2 s.faultPage)) else s
  let s := if now.throt != old.throt then s.sendIbi 0x03 [if now.throt then 0 else 1] else s
  if now.hold != old.hold then (s.sendIbi 0x04 [if now.hold then 1 else 0]).memoryEvent else s
where
  /-- the bytes of a page number, least significant first -/
  bytesOf (n x : Nat) : List Byte := (List.range n).map (fun i => BitVec.ofNat 8 (x / 2 ^ (8 * i)))

/-- Run an operation and then send the IBIs of the pins it changed. -/
def State.withPins (s : State) (f : State → State) : State := (f s).pinIbis s.levels

end Sys2Proof.Machine
end

