-- ==== Sys2Proof/Machine/Recorder.lean ====
section
/-! DEFINITION. The pantry's counters and passwords, the event recorder, the supervisor log, the fault collector's
handling of one latched source, and the entry to the safe state (R506 to R537, R555 to R557). -/

namespace Sys2Proof.Machine

/-! ### Counters (R532) -/

/-- The pantry cannot be written: both parts have failed. -/
def State.pantryDown (s : State) : Bool := s.pan.st == 4

/-- The greatest value of a counter ring. -/
def ringMax (n : Nat) : Nat :=
  2 ^ (match n with | 0 => 24 | 1 => 40 | 2 => 48 | 3 => 32 | 4 => 16 | 5 => 12 | 6 => 64 | _ => 16) - 1

/-- A counter value. -/
def State.ring (s : State) (n : Nat) : Nat := s.pan.rings.get 0 n

/-- Write a counter; one that reaches its maximum stays there, with CTR_SAT raised once. -/
def State.setRing (s : State) (n v : Nat) : State :=
  if s.pantryDown then s else
  let m := ringMax n
  let old := s.ring n
  let s := { s with pan := { s.pan with rings := s.pan.rings.set 0 n (min m v) } }
  if old < m && m ≤ v && n != 6 then s.raise 0x006 .panCtrSat else s

/-- Empty the drop counters. -/
def State.clearDrops (s : State) : State :=
  { s with pan := { s.pan with rings := s.pan.rings.filter (fun e => e.1 < 7 || 10 < e.1) } }

/-- The operating seconds: the operating time of R605 in whole seconds. -/
def State.opSec (s : State) : Nat := s.opMs / 1000

/-! ### Records (R522 to R526) -/

/-- The pantry or the shadow log or the spill area is where a record goes: the lowest empty slot of `cap`, else the slot
of the oldest record of equal or lower severity (R526). -/
def placeSlot (t : Tab Record) (cap : Nat) (sev : Nat) : Option Nat :=
  let n := t.firstFree cap 0
  if n < cap then some n else
  (t.foldl (fun (best : Option (Nat × Nat)) e =>
    if e.2.sev.toNat ≤ sev then
      match best with
      | none => some (e.1, e.2.seq)
      | some b => if e.2.seq < b.2 then some (e.1, e.2.seq) else best
    else best) none).map Prod.fst

/-- Reserve and take the next event sequence (R525). -/
def State.nextSeq (s : State) : Nat × State :=
  let n := s.flt.nextSeq
  let s := if n < s.flt.seqCeil then s else
    let ceil := (n / 4096 + 1) * 4096
    ({ s with flt := { s.flt with seqCeil := ceil } }).setRing 2 ceil
  (n, { s with flt := { s.flt with nextSeq := n + 1 } })

/-- Place a record in the event log, or count its drop (R526). -/
def State.logRecord (s : State) (r : Record) : State :=
  match placeSlot s.flt.log 16384 r.sev.toNat with
  | some n => { s with flt := { s.flt with log := s.flt.log.put n r } }
  | none =>
    let s := s.setRing (7 + r.sev.toNat) (s.ring (7 + r.sev.toNat) + 1)
    if s.flt.dropped then s else ({ s with flt := { s.flt with dropped := true } }).raise 0x005 .evrDrop

/-- Program the spill page that is being filled: up to 64 records at the next page of the ring (R529). -/
def State.programSpill (s : State) : State :=
  if s.flt.spillBuf.isEmpty then s else
  let base := s.flt.spillNext * 64
  let old := s.flt.spill.filter (fun e => e.1 < base || base + 64 ≤ e.1)
  let new := ((List.range s.flt.spillBuf.length).zip s.flt.spillBuf).foldl (fun (t : Tab Record) e => t.put (base + e.1) e.2) old
  { s with flt := { s.flt with spill := new, spillBuf := [], spillNext := (s.flt.spillNext + 1) % 16384 } }

/-- Write one record where R526, R529 and R537 send it. -/
def State.writeRecord (s : State) (r : Record) : State :=
  let s := match placeSlot s.flt.shadowLog 256 r.sev.toNat with
    | some n => { s with flt := { s.flt with shadowLog := s.flt.shadowLog.put n r } }
    | none => s
  if s.pan.recalling then { s with pan := { s.pan with late := s.pan.late ++ [r] } }
  else if s.pantryDown then
    let s := { s with flt := { s.flt with spillBuf := s.flt.spillBuf ++ [r] } }
    if 64 ≤ s.flt.spillBuf.length then s.programSpill else s
  else s.logRecord r

/-- The items of an event, six to a record; an event without items takes one record (R524). -/
def itemChunks : Nat → List Word → List (List Word)
  | 0, _ => []
  | n + 1, l => if l.length ≤ 6 then [l] else l.take 6 :: itemChunks n (l.drop 6)

/-- Make the records of one latched source (R522 to R525). -/
def State.recordLatched (s : State) (l : Latched) : State :=
  let (cls, sev) := classify l.src
  let limited := cls == 1 || (cls == 0 && sev == 0)
  if limited && decide (l.src ∈ s.flt.holdoff) then s else
  let s := if limited then { s with flt := { s.flt with holdoff := s.flt.holdoff ++ [l.src] } } else s
  let items := if l.forced then [] else l.items
  let chunks := itemChunks (items.length + 1) items
  (s.each chunks (fun (acc : State) c =>
    let (n, acc) := acc.nextSeq
    acc.writeRecord
      { seq := n, sev := BitVec.ofNat 2 sev, cls := BitVec.ofNat 2 cls, conseq := l.conseq, forced := l.forced,
        cont := false, dom := l.dom, pcycles := BitVec.ofNat 24 (s.ring 0), opsec := BitVec.ofNat 40 s.opSec,
        time := l.time, src := l.src, inst := l.inst, kind := if l.forced then 0 else l.kind,
        total := min 65535 items.length, items := c }) : State)

/-- Mark the records of an event after its first as continuing it (R524): the records made from sequence `n + 1` on. -/
def markCont (n : Nat) (t : Tab Record) : Tab Record :=
  t.map (fun e => if n < e.2.seq then (e.1, { e.2 with cont := true }) else e)

/-- Make the records of one latched source, the later ones marked CONT (R524). -/
def State.recordEvent (s : State) (l : Latched) : State :=
  let n := s.flt.nextSeq
  let s := s.recordLatched l
  { s with flt := { s.flt with log := markCont n s.flt.log, shadowLog := markCont n s.flt.shadowLog,
                               spill := markCont n s.flt.spill,
                               spillBuf := s.flt.spillBuf.map (fun r => if n < r.seq then { r with cont := true } else r) },
           pan := { s.pan with late := s.pan.late.map (fun r => if n < r.seq then { r with cont := true } else r) } }

/-- The 64 bytes of a record (R523). -/
def Record.bytes (r : Record) : List Nat :=
  let b := bytesLE 6 r.seq
    ++ [r.sev.toNat + 4 * r.cls.toNat + (if r.conseq then 16 else 0) + (if r.forced then 32 else 0) + (if r.cont then 64 else 0)]
    ++ [r.dom.toNat] ++ bytesLE 3 r.pcycles.toNat ++ bytesLE 5 r.opsec.toNat ++ bytesLE 8 r.time.toNat
    ++ bytesLE 4 r.src.toNat ++ bytesLE 4 r.inst.toNat ++ [r.kind.toNat, r.items.length] ++ bytesLE 2 r.total
    ++ (List.range 6).flatMap (fun i => bytesLE 4 ((r.items.getD i 0).toNat))
  b ++ bytesLE 4 (crc32 b)

/-- Word `n` of a list of bytes. -/
def byteWord (b : List Nat) (n : Nat) : Word := BitVec.ofNat 32 (ofBytesLE ((b.drop (4 * n)).take 4))

/-! ### The window (R527, R529, R530) -/

/-- The table the window reads. -/
def State.evrTab (s : State) : Tab Record :=
  if bitAt (s.reg 0x005 0x100) 8 then s.flt.spill else if s.pantryDown then s.flt.shadowLog else s.flt.log

/-- The slots of the window's source. -/
def State.evrSize (s : State) : Nat :=
  if bitAt (s.reg 0x005 0x100) 8 then 1048576 else if s.pantryDown then 256 else 16384

/-- Copy a slot into the window (R527). -/
def State.evrCursor (s : State) (slot : Nat) : State :=
  { s with flt := { s.flt with cursor := slot, window := s.evrTab.find slot } }

/-- The entry of a table that `better` prefers, among those `ok` accepts. -/
def pickRec {α : Type} (t : Tab α) (ok : α → Bool) (better : α → α → Bool) : Option (Nat × α) :=
  t.foldl (fun best e => if ok e.2 then
    match best with
    | none => some e
    | some b => if better e.2 b.2 then some e else best else best) none

/-- Move the cursor to a record, or leave it and drop VALID (R527). -/
def State.evrMove (s : State) (ok : Record → Bool) (low : Bool) : State :=
  match pickRec s.evrTab ok (fun a b => if low then a.seq < b.seq else b.seq < a.seq) with
  | some e => { s with flt := { s.flt with cursor := e.1, window := some e.2 } }
  | none => { s with flt := { s.flt with window := none } }

/-- EVR_NEXT: 1 NEXT, 2 OLDEST, 4 NEWEST (R527). NEXT without a copy finds no record. -/
def State.evrNext (s : State) (op : Nat) : State :=
  if op = 1 then
    match s.flt.window with
    | some r => s.evrMove (fun x => r.seq < x.seq) true
    | none => s
  else if op = 2 then s.evrMove (fun _ => true) true
  else if op = 4 then s.evrMove (fun _ => true) false
  else s

/-! ### Passwords (R535) -/

/-- The code of a requester in the pantry's tables. -/
def reqCode : Requester → Nat
  | .i3c => 0
  | .debug => 1
  | .internal => 2
  | .head h => 3 + h.val
  | .mailbox h => 3 + h.val

/-- The digest of a password: SHA-256 over its 16 bytes, least significant first. -/
def pwDigest (pw : Nat) : BitVec 256 := sha256 (bytesLE 16 pw)

/-- The key of a password: partition and kind. -/
def pwKey (part : Nat) (write : Bool) : Nat := 2 * part + (if write then 1 else 0)

/-- The partition is unlocked for the requester in a kind; a partition with no password of the kind always is. -/
def State.unlocked (s : State) (q : Requester) (part : Nat) (write : Bool) : Bool :=
  (s.pan.pwds.find (pwKey part write)).isNone || decide ((pwKey part write, q) ∈ s.pan.unlocks)

/-- Present a password for a partition and kind: accepted, and the state with a wrong one counted (R535). -/
def State.present (s : State) (part : Nat) (write : Bool) (pw : Nat) : Bool × State :=
  if s.pan.hold then (false, s) else
  match s.pan.pwds.find (pwKey part write) with
  | none => (true, s)
  | some d =>
    if d = pwDigest pw then (true, { s with pan := { s.pan with wrong := 0 } })
    else
      let s := s.raise 0x006 .panPwdFail
      if 8 ≤ s.pan.wrong + 1 then (false, { s with pan := { s.pan with wrong := 0, hold := true } })
      else (false, { s with pan := { s.pan with wrong := s.pan.wrong + 1 } })

/-- The password a requester has entered in PAN_PWD0 to PAN_PWD3. -/
def State.entered (s : State) (q : Requester) : Nat :=
  (List.range 4).foldl (fun a n => a + (s.pan.entered.get 0 (4 * reqCode q + n)).toNat * 2 ^ (32 * n)) 0

/-- Clear a requester's entered words. -/
def State.clearEntered (s : State) (q : Requester) : State :=
  { s with pan := { s.pan with entered := s.pan.entered.filter (fun e => e.1 / 4 != reqCode q) } }

/-- Unlock a partition for a requester; refused while attempts are held. -/
def State.unlock (s : State) (q : Requester) (part : Nat) (write : Bool) : State :=
  let (ok, s) := s.present part write (s.entered q)
  if ok then { s with pan := { s.pan with unlocks := insertNew s.pan.unlocks (pwKey part write, q) } } else s

/-- Set a password, which needs the partition write-unlocked for the requester; all zeros removes it. -/
def State.setPassword (s : State) (q : Requester) (part : Nat) (write : Bool) : State :=
  if s.unlocked q part true then
    let pw := s.entered q
    { s with pan := { s.pan with pwds :=
        if pw = 0 then s.pan.pwds.del (pwKey part write) else s.pan.pwds.put (pwKey part write) (pwDigest pw) } }
  else s.reject 0x006

/-- PAN_PWCTL: operation `op` on the partition of PAN_PART (R535); every operation clears the requester's words. -/
def State.panPwctl (s : State) (q : Requester) (op : Nat) : State :=
  let part := s.regFld 0x006 0x104 0 3
  let s := match op with
    | 1 => s.unlock q part false
    | 2 => s.unlock q part true
    | 3 => s.setPassword q part false
    | 4 => s.setPassword q part true
    | 5 => { s with pan := { s.pan with unlocks := s.pan.unlocks.filter (fun e => e.2 != q) } }
    | _ => s
  s.clearEntered q

/-! ### Part failures (R533, R534) -/

/-- PAN_STAT.STATE of the parts that remain. -/
def partState (pa pb : Bool) : Nat :=
  match pa, pb with
  | false, false => 1
  | false, true => 2
  | true, false => 3
  | true, true => 4

/-- Fail a pantry part: PART_FAIL, and PANTRY_DOWN with the second (R533). -/
def State.failPart (s : State) (pb : Bool) : State :=
  if (if pb then s.pan.pbFailed else s.pan.paFailed) then s else
  let s := { s with pan := { s.pan with paFailed := s.pan.paFailed || !pb, pbFailed := s.pan.pbFailed || pb } }
  let s := { s with pan := { s.pan with st := partState s.pan.paFailed s.pan.pbFailed } }
  let s := (s.raise 0x006 .panPartFail).setLive 0x006 .panPartFail true
  if s.pan.st = 4 then (s.raise 0x006 .panPantryDown).setLive 0x006 .panPantryDown true else s

/-- Write one copy into one part, three attempts, of which the first `fails` fail (R533). -/
def State.writePart (s : State) (pb : Bool) (fails key : Nat) (v : Nat × BitVec 64) : State :=
  if (if pb then s.pan.pbFailed else s.pan.paFailed) then s else
  let n := min fails 3
  let s := if pb then { s with pan := { s.pan with pbErr := min 65535 (s.pan.pbErr + n) } }
           else { s with pan := { s.pan with paErr := min 65535 (s.pan.paErr + n) } }
  if 3 ≤ n then s.failPart pb
  else if pb then { s with pan := { s.pan with pb := s.pan.pb.put key v } }
  else { s with pan := { s.pan with pa := s.pan.pa.put key v } }

/-- A pantry write: first PA, then PB, with the next sequence (R533). -/
def State.pantryWrite (s : State) (key : Nat) (v : BitVec 64) (failsA failsB : Nat) : State :=
  let seq := s.pan.seq
  let s := { s with pan := { s.pan with seq := seq + 1 } }
  let s := s.writePart false failsA key (seq, v)
  s.writePart true failsB key (seq, v)

/-- The winning copy of a key between the two parts, and whether equal sequences differ (R534). -/
def winner (a b : Option (Nat × BitVec 64)) : Option (Nat × BitVec 64) × Bool :=
  match a, b with
  | none, none => (none, false)
  | some x, none => (some x, false)
  | none, some y => (some y, false)
  | some x, some y =>
    if x.1 < y.1 then (some y, false) else if y.1 < x.1 then (some x, false) else (some x, decide (x.2 ≠ y.2))

/-- Decide every generic record between the two parts and write the winner into both (R534). -/
def State.reconcile (s : State) : State :=
  let pa : Tab (Nat × BitVec 64) := if s.pan.paFailed then [] else s.pan.pa
  let pb : Tab (Nat × BitVec 64) := if s.pan.pbFailed then [] else s.pan.pb
  let keys : List Nat := (pa.keys ++ pb.keys).foldl insertNew []
  let merged := keys.foldl (fun (t : Tab (Nat × BitVec 64)) k =>
    match (winner (pa.find k) (pb.find k)).1 with
    | some v => t.put k v
    | none => t) []
  let differ := keys.any (fun k => (winner (pa.find k) (pb.find k)).2)
  let s := { s with pan := { s.pan with pa := if s.pan.paFailed then s.pan.pa else merged,
                                        pb := if s.pan.pbFailed then s.pan.pb else merged } }
  if differ then s.raise 0x006 .panDualDiffer else s

/-- EVLOG_CLEAR's effect on the recorder (R528). -/
def State.clearLogs (s : State) : State :=
  let s := { s with flt := { s.flt with log := [], shadowLog := [], spill := [], spillBuf := [], spillAvail := false,
                                        dropped := false } }
  s.clearDrops.raise 0x005 .evrCleared

/-! ### The supervisor log (R555 to R557) -/

/-- Write a supervisor record into the next slot of its ring; in the KLN-4804 format KIND 0x0E is written as 0x06. -/
def State.supLog (s : State) (kind chan value aux : Nat) : State :=
  if s.pantryDown then s else
  let kind := if s.pan.compat && kind = 0x0e then 0x06 else kind
  let r : SupRec :=
    { seq := s.pan.supSeq, kind := BitVec.ofNat 8 kind, chan := BitVec.ofNat 8 chan, step := s.pwr.step,
      st := s.pwr.st, value := value, aux := aux, pcycles := BitVec.ofNat 24 (s.ring 0), opsec := BitVec.ofNat 40 s.opSec,
      time := s.time, commit := true }
  { s with pan := { s.pan with sup := s.pan.sup.put s.pan.supNext r, supSeq := (s.pan.supSeq + 1) % 2 ^ 32,
                               supNext := (s.pan.supNext + 1) % 32640 } }

/-- The bytes of a supervisor record in the native layout, or in the KLN-4804 layout (R555, R556). -/
def SupRec.bytes (r : SupRec) (compat : Bool) : List Nat :=
  if compat then
    let b := bytesLE 2 (r.seq % 65536) ++ [r.kind.toNat, r.chan.toNat] ++ bytesLE 2 (min 65535 r.value)
      ++ bytesLE 2 (r.aux % 65536) ++ bytesLE 4 (min (2 ^ 32 - 1) r.opsec.toNat) ++ bytesLE 4 r.pcycles.toNat
      ++ bytesLE 8 r.time.toNat ++ bytesLE 6 0
    b ++ bytesLE 2 (crc16 b)
  else
    bytesLE 4 r.seq ++ [r.kind.toNat, r.chan.toNat] ++ bytesLE 2 (r.step + 16 * r.st.toNat) ++ bytesLE 4 r.value
      ++ bytesLE 4 r.aux ++ bytesLE 3 r.pcycles.toNat ++ bytesLE 5 r.opsec.toNat ++ bytesLE 7 (r.time.toNat % 2 ^ 56)
      ++ [if r.commit then 0x5a else 0]

/-- The supervisor records the moves can find: torn KLN-4804 records are skipped (R557). -/
def State.supOk (s : State) (r : SupRec) : Bool := r.commit || !s.pan.compat

/-- PWR_LOGCUR: copy a slot into the window (R527, R557). -/
def State.supCursor (s : State) (slot : Nat) : State :=
  { s with pan := { s.pan with supCur := slot, supWin := (s.pan.sup.find slot).filter s.supOk } }

/-- PWR_LOGCTL moves: 1 NEXT, 2 OLDEST, 4 NEWEST (R527, R557). -/
def State.supNextOp (s : State) (op : Nat) : State :=
  let go (ok : SupRec → Bool) (low : Bool) : State :=
    match pickRec s.pan.sup (fun r => s.supOk r && ok r) (fun a b => if low then a.seq < b.seq else b.seq < a.seq) with
    | some e => { s with pan := { s.pan with supCur := e.1, supWin := some e.2 } }
    | none => { s with pan := { s.pan with supWin := none } }
  if op = 1 then
    match s.pan.supWin with
    | some r => go (fun x => r.seq < x.seq) true
    | none => s
  else if op = 2 then go (fun _ => true) true
  else if op = 4 then go (fun _ => true) false
  else s

/-- Clear the supervisor log: empty, sequence 0 (R555, R557). -/
def State.supClear (s : State) : State :=
  { s with pan := { s.pan with sup := [], supSeq := 0, supNext := 0 } }

/-! ### The safe state (R517, R518) -/

/-- Enter the safe state: FLT_STAT.STATE 2, READS taken, no lease, SAFE_STATE raised (R517, R518). A module already in
it stays as it is. -/
def State.enterSafe (s : State) (cause : Nat) : State :=
  if s.flt.safe != 0 then s else
  let s := { s with flt := { s.flt with safe := 2, cause := BitVec.ofNat 3 cause,
                                        reads := bitAt (s.reg 0x004 0x108) 0 && cause != 2 },
                    sve := { s.sve with lease := false } }
  s.raise 0x004 .fltSafeState

/-- The module is in the safe state. -/
def State.safe (s : State) : Bool := s.flt.safe != 0

/-! ### FLT takes a latched source (R507 to R511, R516) -/

/-- Order of R509: FT, UC, CE, —, then ascending SRCID. -/
def latchedBefore (a b : Latched) : Bool :=
  let ca := (classify a.src).1
  let cb := (classify b.src).1
  cb < ca || (ca == cb && a.src.toNat < b.src.toNat)

/-- Insert in the order of R509, behind equals. -/
def insertLatched (x : Latched) : List Latched → List Latched
  | [] => [x]
  | y :: t => if latchedBefore x y then x :: y :: t else y :: insertLatched x t

/-- The latched sources in the order of R509. -/
def sortLatched (l : List Latched) : List Latched := l.foldl (fun acc x => insertLatched x acc) []

/-- The cause of the safe state a source has (R517, R538). -/
def safeCause (src : BitVec 18) : Nat :=
  if src = srcId 0x004 1 then 2 else if src = srcId 0x004 2 then 3 else 1

/-- The source is MTE_HANG or CRS_HANG (R508). -/
def hangSource (src : BitVec 18) : Bool :=
  src == srcId 0x030 (PageKind.mte.bit .mteMteHang) || src == srcId 0x008 (PageKind.crs0.bit .crsCrsHang)

/-- FLT takes one source: the consequential count or the first-error capture, the record, and the safe state of an FT
source other than THERM_SHUT; a forced source reacts only in factory test mode (R507 to R511, R516, R520, R575). -/
def State.takeLatched (s : State) (l : Latched) : State :=
  let cls := (classify l.src).1
  let s := if l.conseq then s.countUp 0x004 0x118 0 32
    else if 2 ≤ cls && !bitAt (s.reg 0x004 0x10c) 31 then
      let s := s.setReg 0x004 0x10c (BitVec.ofNat 32 (2 ^ 31 + cls * 2 ^ 18 + l.src.toNat))
      let s := s.setReg 0x004 0x110 (BitVec.ofNat 32 l.time.toNat)
      s.setReg 0x004 0x114 (BitVec.ofNat 32 (l.time.toNat / 2 ^ 32))
    else s
  let s := s.recordEvent l
  if cls = 3 && (!l.forced || s.crs.testMode) && l.src != srcId 0x003 6 then
    let s := if s.flt.safe = 0 then { s with flt := { s.flt with hung := hangSource l.src } } else s
    s.enterSafe (safeCause l.src)
  else s

end Sys2Proof.Machine
end

