-- ==== Sys2Proof/Machine/Notices.lean ====
section
/-! DEFINITION. Event records of the heads, completion packets, handles and the notices of a completion (R424, R425, R488,
R491 to R494, R501). -/

namespace Sys2Proof.Machine

/-! ### Event records of a head (R424, R425) -/

/-- The heads whose extent table binds a segment. -/
def State.boundHeads (s : State) (gsn : Nat) : List Nat := s.headList.filter (fun h => ((s.head h).slotOf gsn).isSome)

/-- Record a poisoned line for the heads that are bound to it: up to 2,048 lines a head (R417). -/
def State.notePoison (s : State) (a : LineAddr) : State :=
  s.each (s.boundHeads (lineGsn a)) (fun s h =>
    let x := s.head h
    if a ∈ x.poison then s
    else if x.poison.length < 2048 then s.setHead h { x with poison := x.poison ++ [a] }
    else if x.poisonOvf then s
    else s.setHead h { x with poisonOvf := true, poisonOvfAt := x.stampNow s.time.toNat })

/-- A full line without poison has replaced a poisoned one (R416, R417). -/
def State.clearPoison (s : State) (a : LineAddr) : State :=
  s.each ((s.heads.filter (fun (e : Nat × Head) => decide (a ∈ e.2.poison))).map Prod.fst) (fun s h =>
    s.setHead h { s.head h with poison := removeAll (s.head h).poison a })

/-- An uncorrectable media or DRAM error on a bound line: a General Media Event record with the head's DPA (R425). -/
def State.mediaError (s : State) (a : LineAddr) : State :=
  s.each (s.boundHeads (lineGsn a)) (fun s h =>
    s.postRec h 2 { vendorRec 0x81 stIntegrity (lineGsn a) ((s.head h).dpaOf a) 0 1 with kind := 0x81 })

/-! ### Handles (R494, R501) -/

/-- The originator of a requester's handles. -/
def originator : Requester → Nat
  | .i3c => 0
  | .head _ => 1
  | .mailbox _ => 1
  | .debug => 3
  | .internal => 3

/-- Accepted long operations of an originator that have not completed. -/
def State.openHandles (s : State) (o : Nat) : Nat :=
  (s.mgt.handles.filter (fun r => r.st != 3 && r.handle.toNat / 2 ^ 28 == o)).length

/-- A core that is idle takes the oldest operation that is queued (R402, R513, log 37). -/
def State.assignCore (s : State) (n : Nat) : State :=
  if (s.core n).st != 2 then s else
  match s.mgt.handles.find? (fun (x : HandleRec) => x.st == 1) with
  | none => s
  | some r =>
    let s := s.setCore n { st := 3, op := r.op, handle := r.handle }
    { s with mgt := { s.mgt with handles := s.mgt.handles.map (fun (x : HandleRec) => if x.handle == r.handle then { x with st := 2 } else x) } }

/-- Queued operations go to the idle cores, the lowest first. -/
def State.assignCores (s : State) : State := s.each (List.range 8) State.assignCore

/-- The core that runs an operation is idle again. -/
def State.freeCore (s : State) (handle : Word) : State :=
  s.each (List.range 8) (fun s n => if (s.core n).st = 3 && (s.core n).handle == handle then s.setCore n { st := 2 } else s)

/-- Issue the next handle of an originator: the serial starts at 1 and wraps from 0x0FFF_FFFF to 1 (R494). -/
def State.newHandle (s : State) (q : Requester) (op tag : Byte) : Word × State :=
  let o := originator q
  let n := s.mgt.serials.get 1 o
  let h : Word := BitVec.ofNat 32 (o * 2 ^ 28 + n)
  let next := if n = 0x0fffffff then 1 else n + 1
  let r : HandleRec := ⟨h, 1, 0, q, op, tag⟩
  (h, State.assignCores { s with mgt := { s.mgt with serials := s.mgt.serials.put o next, handles := s.mgt.handles ++ [r] } })

/-- Keep at most 1,024 finished operations (R501). -/
def trimHandles (l : List HandleRec) : List HandleRec :=
  if (l.filter (fun r => r.st == 3)).length ≤ 1024 then l else removeFirst (fun r => r.st == 3) l

/-- An operation has finished with a status. -/
def State.finishHandle (s : State) (r : HandleRec) (st : Status) : State :=
  let l := removeFirst (fun (x : HandleRec) => x.handle == r.handle) s.mgt.handles ++ [⟨r.handle, 3, st, r.q, r.op, r.tag⟩]
  (State.freeCore { s with mgt := { s.mgt with handles := trimHandles l } } r.handle).assignCores

/-! ### Completion packets (R488, R491 to R493) -/

/-- A completion packet (R492). -/
def cplPacket (op tag : Byte) (status : Status) (handle : Word) (results : List Word) : List Word :=
  BitVec.ofNat 32 (op.toNat + (results.length + 2) * 2 ^ 8 + status.toNat * 2 ^ 16 + tag.toNat * 2 ^ 24) :: handle :: results

/-- Words in a list of packets. -/
def wordCount (l : List (List Word)) : Nat := l.foldl (fun n p => n + p.length) 0

/-- The notices of a complete packet in the completion FIFO (R488). -/
def State.cplNotice (s : State) (handle : Word) : State :=
  let n := min 255 s.mgt.packets
  let s := if s.mgt.hjEn then s.sendIbi 0x01 [BitVec.ofNat 8 n] else s
  s.each (s.headList.filter (fun h => s.headRight h 0)) (fun s h =>
    s.postRec h 0 (vendorRec 0x04 0 0 0 handle s.mgt.packets))

/-- Pop one word for a requester: the word and whether it ends its packet; none when no packet is there or when it is reserved to
another requester. The first word popped reserves the packet (R490, R491). -/
def State.popWord (s : State) (q : Requester) : Option (Word × Bool) × State :=
  if s.mgt.cplOwner.any (fun o => o != q) then (none, s) else
  match s.mgt.cpl with
  | (w :: []) :: t => (some (w, true), { s with mgt := { s.mgt with cpl := t, cplOwner := none } })
  | (w :: r) :: t => (some (w, false), { s with mgt := { s.mgt with cpl := r :: t, cplOwner := some q } })
  | _ => (none, s)

/-- The value of MGT_CPL_HEAD after a pop: word, PACKETS and END; the empty word has END alone (R490, R503). -/
def State.cplHead (s : State) (r : Option (Word × Bool)) : Nat :=
  match r with
  | some (w, end_) => w.toNat + min 256 s.mgt.packets * 2 ^ 46 + (if end_ then 2 ^ 63 else 0)
  | none => 2 ^ 63

/-- Keep the value popped last in MGT_CPL_HEAD, and its upper half in the requester's holding copy (R7, R490). -/
def State.holdHead (s : State) (q : Requester) (v : Nat) : State :=
  let hi : Word := BitVec.ofNat 32 (v / 2 ^ 32)
  let s := (s.setReg 0x000 0x120 (BitVec.ofNat 32 v)).setReg 0x000 0x124 hi
  { s with hold := s.hold.filter (fun (e : Requester × Nat × Word) => !(e.1 == q && e.2.1 == regAddr 0x000 0x124)) ++ [(q, regAddr 0x000 0x124, hi)] }

/-- Answer a read of MGT_CPL_HEAD that was held (R490). -/
def State.answerHeldRead (s : State) (q : Requester) : State :=
  let (r, s) := s.popWord q
  let v := s.cplHead r
  (s.holdHead q v).emit (.regRead q 0x000120 (BitVec.ofNat 32 v))

/-- The reads held for a word are answered, oldest first: the first takes the packet's first word, and the packet is reserved to it
(R490, R491). -/
def State.servePops (s : State) : State :=
  let l := s.mgt.cplRead
  ({ s with mgt := { s.mgt with cplRead := [] } }).each l State.answerHeldRead

/-- Put a packet into the completion FIFO of 256 words; one that does not fit waits, and later ones behind it (R491). -/
def State.pushCpl (s : State) (p : List Word) : State :=
  if s.mgt.cplWait.isEmpty && wordCount s.mgt.cpl + p.length ≤ 256 then
    let s := { s with mgt := { s.mgt with cpl := s.mgt.cpl ++ [p] } }
    (s.cplNotice (p.getD 1 0)).servePops
  else { s with mgt := { s.mgt with cplWait := s.mgt.cplWait ++ [p] } }

/-- Packets that waited enter the FIFO while they fit (R491). -/
def State.admitCpl : Nat → State → State
  | 0, s => s
  | n + 1, s =>
    match s.mgt.cplWait with
    | [] => s
    | p :: t =>
      if wordCount s.mgt.cpl + p.length ≤ 256 then
        let s := { s with mgt := { s.mgt with cplWait := t, cpl := s.mgt.cpl ++ [p] } }
        State.admitCpl n (s.cplNotice (p.getD 1 0))
      else s

/-- A completion packet enters a head's queue, and its completion record is posted (R422). -/
def State.queueHeadCpl (s : State) (h : Nat) (p : List Word) : State :=
  let x := s.head h
  let s := s.setHead h { x with cplQ := x.cplQ ++ [p] }
  s.postRec h 0 (vendorRec 0x04 0 0 0 (p.getD 1 0) (x.cplQ.length + 1))

/-- A head's own long operation completes: its packet enters the queue of 256 words, or waits, and later ones wait behind it (R422,
log 17). -/
def State.pushHeadCpl (s : State) (h : Nat) (p : List Word) : State :=
  let x := s.head h
  if x.cplWait.isEmpty && decide (wordCount x.cplQ + p.length ≤ 256) then s.queueHeadCpl h p
  else s.setHead h { x with cplWait := x.cplWait ++ [p] }

/-- Packets that waited enter a head's queue while they fit (R422). -/
def State.admitHeadCpl (s : State) (h : Nat) : State :=
  s.each (s.head h).cplWait (fun s p =>
    let x := s.head h
    if x.cplWait.head? = some p && decide (wordCount x.cplQ + p.length ≤ 256) then
      (s.setHead h { x with cplWait := x.cplWait.drop 1 }).queueHeadCpl h p
    else s)

/-- A completion packet returned in an SPDM session: an MCTP packet that waits to be read (R488, R497). -/
def State.answerSecured (s : State) (words : List Word) : State := (s.emit (.mctp 0x06 (words.map BitVec.toNat))).sendIbi 0xae []

/-- The answer to a command that is known at once: in the mailbox for a mailbox command, else in the FIFO (R422, R493). -/
def State.answerCmd (s : State) (q : Requester) (op tag : Byte) (status : Status) (handle : Word) (results : List Word) : State :=
  match q with
  | .mailbox h => s.emit (.mailbox h 0 ((cplPacket op tag status handle results).map BitVec.toNat))
  | _ => s.pushCpl (cplPacket op tag status handle results)

/-- The final completion of the operation of a handle; none where no such operation is open. SEG_ABORT, which is no long operation,
answers without its handle; KEY_IMPORT answers in its session (R422, R493, R496, R497, R501). -/
def State.finish (s : State) (handle : Word) (status : Status) (results : List Word) : State :=
  match s.mgt.handles.find? (fun (x : HandleRec) => x.handle == handle && x.st != 3) with
  | none => s
  | some r =>
    let s := s.finishHandle r status
    if r.op = 0x18 then s.answerCmd r.q r.op r.tag status 0 results
    else if r.op = 0x32 then s.answerSecured (cplPacket r.op r.tag status handle results) else
    match r.q with
    | .mailbox h => s.pushHeadCpl h.val (cplPacket r.op r.tag status handle results)
    | _ => s.pushCpl (cplPacket r.op r.tag status handle results)

/-- The final completion of every open operation of an opcode. -/
def State.finishOp (s : State) (op : Byte) (status : Status) (results : List Word) : State :=
  s.each (s.mgt.handles.filter (fun (x : HandleRec) => x.op == op && x.st != 3)) (fun s x => s.finish x.handle status results)

/-- A custody operation of a handle ends: SEG_ALLOC reports the segment and its owner, SEG_EVACUATE the segments moved, which the GSN
field carries (R401, R496). -/
def State.custDone (s : State) (handle : Word) (status : Status) (gsn : Nat) (owner : Dev) : State :=
  match s.mgt.handles.find? (fun (x : HandleRec) => x.handle == handle && x.st != 3) with
  | none => s
  | some r =>
    let ok := status = 0 || status = 0x08
    let results : List Word := if !ok then [] else if r.op = 0x10 then [BitVec.ofNat 32 gsn, owner.setWidth 32]
      else if r.op = 0x15 then [BitVec.ofNat 32 gsn] else []
    s.finish handle status results

/-- A binding asked for by an operation of this or another module ends (R413). -/
def State.endBinding (s : State) (from_ : Dev) (handle : Word) (gsn : Nat) (status : Status) : State :=
  let owner := (s.row gsn).owner
  if handle = 0 then s
  else if from_ = 0 || from_ = s.fxb.devnum then s.custDone handle status gsn owner
  else s.sendPlain from_ 0 0 status 0 (.gstRsp (BitVec.ofNat 26 gsn) owner handle)

end Sys2Proof.Machine
end

