-- ==== Sys2Proof/Machine/Medium.lean ====
section
/-! DEFINITION. The medium: dies, crumb reads with the recovery ladder, fences, the drift model, read disturb and the
scheduling modes (R211 to R246). -/

namespace Sys2Proof.Machine

/-! ### Physical page addresses (R212) -/

/-- Die number PPA[31:24]. -/
def ppaDie (p : Ppa) : Nat := p.toNat / 2 ^ 24
/-- Channel MCH(4s + k). -/
def ppaChan (p : Ppa) : Nat := p.toNat / 2 ^ 26
/-- Stripe group 4k + d. -/
def ppaGroup (p : Ppa) : Nat := p.toNat / 2 ^ 24 % 16
/-- Plane. -/
def ppaPlane (p : Ppa) : Nat := p.toNat / 2 ^ 22 % 4
/-- Block key: the PPA without its page. -/
def ppaBlock (p : Ppa) : Nat := p.toNat / 1024
/-- Page in the block. -/
def ppaPage (p : Ppa) : Nat := p.toNat % 1024
/-- Channel of a die. -/
def dieChan (d : Nat) : Nat := d / 4
/-- Stripe group of a die. -/
def dieGroup (d : Nat) : Nat := d % 16
/-- The die of a group on a stack. -/
def groupDie (g stack : Nat) : Nat := 16 * stack + g
/-- The dies of a group in ascending stack order. -/
def groupDies (g : Nat) : List Nat := (List.range 16).map (groupDie g)
/-- The page of the channel of a die. -/
def chanPage (ch : Nat) : Nat := 0x040 + ch
/-- A channel, or the media controller, does not run (R485). -/
def State.chanHalted (s : State) (ch : Nat) : Bool := s.halted (chanPage ch) || s.halted 0x080
/-- A PPA from its block key and page. -/
def ppaOf (block page : Nat) : Ppa := BitVec.ofNat 32 (block * 1024 + page)

/-! ### Groups (R224, R229, R235) -/

/-- The fenced dies of a group. -/
def State.fencedIn (s : State) (g : Nat) : Nat := ((groupDies g).filter (fun d => (s.die d).fenced)).length

/-- The live dies of a group in ascending stack order. -/
def State.liveDies (s : State) (g : Nat) : List Nat := (groupDies g).filter (fun d => !(s.die d).fenced)

/-- MCH_GRPSTAT state: 0 normal, 1 degraded, 2 closed. -/
def State.groupState (s : State) (g : Nat) : Nat := min 2 (s.fencedIn g)

/-- Flushes of R549, R553 and R567 schedule every group as Throughput (R234). -/
def State.flushMode (s : State) : Bool := s.pwr.flush ∈ [1, 2, 3, 4]

/-- Mode that bounds new operations of a group. -/
def State.groupMode (s : State) (g : Nat) : Nat := if s.flushMode then 2 else s.regFld 0x080 0x104 (2 * g) 2

/-- Mode that bounds reads of a group: the mode being left until a move ends (R235). -/
def State.readMode (s : State) (g : Nat) : Nat := if s.flushMode then 2 else (s.mch.moving.find g).getD (s.groupMode g)

/-- The busy limit of a mode (R229). -/
def busyLimit (mode : Nat) : Nat := if mode = 0 then 1 else if mode = 1 then 4 else 16

/-- Busy dies of a group. -/
def State.busyIn (s : State) (g : Nat) : Nat := ((groupDies g).filter (fun d => (s.die d).busy != 0)).length

/-- The parity stack of a stripe laid now in a group (R221, R224). -/
def State.parityStack (s : State) (g plane page : Nat) : Nat :=
  let start := (page + plane) % 16
  (((List.range 16).map (fun i => (start + i) % 16)).find? (fun st => !(s.die (groupDie g st)).fenced)).getD start

/-! ### Refresh requests (R236 to R240) -/

/-- Ask the MTE to refresh a block; a request for a queued block is merged with the earlier one. -/
def State.askRefresh (s : State) (block reason : Nat) : State :=
  if s.mch.refresh.any (fun e => e.1 == block) then s else
    { s with mch := { s.mch with refresh := s.mch.refresh ++ [(block, reason)] } }

/-- The PPAs of the programmed pages of a block, in page order. -/
def State.blockPages (s : State) (block : Nat) : List Nat :=
  (s.mch.pages.filter (fun e => e.1 / 1024 == block)).map Prod.fst

/-- Count `n` crumb reads of a block; a counter that reaches FORCE asks for a refresh (R236, R237). -/
def State.bumpReads (s : State) (block n : Nat) : State :=
  let b := s.block block
  let new := min 1048575 (b.reads + n)
  let s := s.setBlock block { b with reads := new }
  let force := s.regFld 0x080 0x114 12 12 * 1024
  if b.reads < force && force ≤ new then s.askRefresh block 5 else s

/-- The crumbs a check of a block reads: crumb 0 of every 64th programmed page, at most 16 pages (R237). -/
def State.checkReads (s : State) (block : Nat) : List CrumbRead :=
  (((s.blockPages block).filter (fun p => p % 64 == 0)).take 16).map (fun p =>
    { ppa := BitVec.ofNat 32 p, crumb := 0, why := .check, recon := false, waits := false, resets := 0, slow := false, ladder := false, bad := false })

/-- Count one crumb read of a block, which starts a check when the counter reaches CHECK (R236, R237). -/
def State.countRead (s : State) (block : Nat) : State :=
  let old := (s.block block).reads
  let s := s.bumpReads block 1
  let check := s.regFld 0x080 0x114 0 12 * 1024
  if old < check && check ≤ old + 1 then
    let l := s.checkReads block
    let s := { s with mch := { s.mch with reads := s.mch.reads ++ l } }
    s.bumpReads block l.length
  else s

/-! ### The stripe of a page -/

/-- The set a block belongs to. -/
def State.setOfBlock (s : State) (block : Nat) : Option (Nat × SetRec) :=
  s.mte.sets.find? (fun e => decide (block ∈ e.2.blocks.map (fun b => b / 1024)))

/-- The PPAs of the other pages of a page's stripe: a die that holds no page of the row, being fenced when the row was laid, takes no part
(R221, R224, R231). -/
def State.stripeMates (s : State) (p : Ppa) : List Ppa :=
  match s.setOfBlock (ppaBlock p) with
  | none => []
  | some e => (((e.2.blocks.map (fun b => b / 1024)).filter (fun b => b != ppaBlock p)).map (fun b => ppaOf b (ppaPage p))).filter
      (fun q => (s.mch.pages.find q.toNat).isSome)

/-- Bitwise XOR of two stored lines, and of two page tags (R222). -/
def lineXor (a b : SLine) : SLine :=
  { ct := a.ct ^^^ b.ct, unwritten := a.unwritten != b.unwritten, keyRange := a.keyRange ^^^ b.keyRange, poison := a.poison != b.poison,
    tag := a.tag ^^^ b.tag }

def PageTag.xor (a b : PageTag) : PageTag :=
  { lmp := a.lmp ^^^ b.lmp, type := a.type ^^^ b.type, relgen := a.relgen ^^^ b.relgen, emerg := a.emerg != b.emerg,
    reloc := a.reloc != b.reloc, keyRange := a.keyRange ^^^ b.keyRange, wsn := a.wsn ^^^ b.wsn, region := a.region ^^^ b.region,
    parity := a.parity ^^^ b.parity, rwEpoch := a.rwEpoch ^^^ b.rwEpoch, ptime := a.ptime ^^^ b.ptime,
    eraseCnt := a.eraseCnt ^^^ b.eraseCnt, setid := a.setid ^^^ b.setid, aux := a.aux ^^^ b.aux }

/-- The line and the tag of which nothing has been taken into an XOR. -/
def zeroLine : SLine := { ct := 0, unwritten := false, keyRange := 0, poison := false, tag := 0 }
def zeroTag : PageTag :=
  { lmp := 0, type := 0, relgen := 0, emerg := false, reloc := false, keyRange := 0, wsn := 0, region := 0, parity := 0, rwEpoch := 0,
    ptime := 0, eraseCnt := 0, setid := 0, aux := 0 }

/-- The stored form of a line the medium or a fill does not hold: UNWRITTEN (R186, R192). -/
def unwrittenLine : SLine := { ct := 0, unwritten := true, keyRange := 0, poison := false, tag := 0 }

/-- A poisoned line: POISON in the side data (R186). -/
def poisonLine : SLine := { ct := 0, unwritten := true, keyRange := 0, poison := true, tag := 0 }

/-- The line of a page's table. -/
def pageLineOf (t : Tab SLine) (i : Nat) : SLine := t.get unwrittenLine i

/-- A page's line as its stripe mates give it: the XOR of their lines (R222, R231). -/
def State.xorLine (s : State) (p : Ppa) (i : Nat) : SLine :=
  (s.stripeMates p).foldl (fun v q => match s.mch.pages.find q.toNat with
    | some g => lineXor v (pageLineOf g.lines i)
    | none => v) zeroLine

/-- The parity page over the pages of a stripe: their XOR, tag, lines and all (R222). -/
def parityPage (l : List (PageTag × Tab SLine)) : Page :=
  { tag := l.foldl (fun t e => t.xor e.1) zeroTag,
    lines := (List.range 64).map (fun i => (i, l.foldl (fun v e => lineXor v (pageLineOf e.2 i)) zeroLine)),
    whole := true, isParity := true }

/-- Another live die of the page's stripe is busy. -/
def State.mateBusy (s : State) (p : Ppa) : Bool :=
  (s.stripeMates p).any (fun q => let d := s.die (ppaDie q); !d.fenced && d.busy != 0)

/-- The page's mates on fenced dies: a reconstruction needs them all (R243). -/
def State.mateFenced (s : State) (p : Ppa) : Bool := (s.stripeMates p).any (fun q => (s.die (ppaDie q)).fenced)

/-! ### Crumb reads (R229 to R233) -/

/-- Count the reads of a reconstruction: the same crumb of every other live die of the stripe (R231, R236). -/
def State.countRecon (s : State) (p : Ppa) : State :=
  s.each ((s.stripeMates p).filter (fun q => !(s.die (ppaDie q)).fenced)) (fun s q => s.countRead (ppaBlock q))

/-- Reads queued at a die: its own, and those of the same crumb that the reconstructions of its stripe mates send it (R231, R233). -/
def State.queuedAt (s : State) (d : Nat) : Nat :=
  (s.mch.reads.filter (fun (r : CrumbRead) => if r.recon then (s.stripeMates r.ppa).any (fun q => ppaDie q == d) else ppaDie r.ppa == d)).length

/-- A mate of a reconstruction finds more than eight reads queued at its die (R233). -/
def State.matesQueued (s : State) (p : Ppa) : Bool := (s.stripeMates p).any (fun q => decide (8 < s.queuedAt (ppaDie q)))

/-- Suspend a busy die (R232). -/
def State.suspend (s : State) (d : Nat) : State :=
  let x := s.die d
  if x.suspended then s else s.setDie d { x with suspended := true, suspends := x.suspends + 1, susAt := s.ns }

/-- The ns a die's operation has spent suspended. -/
def Die.spent (x : Die) (now : Nat) : Nat := x.susNs + if x.suspended then now - x.susAt else 0

/-- A read waits in the queue of a die (R232). -/
def State.readsQueued (s : State) (d : Nat) : Bool := s.mch.reads.any (fun (r : CrumbRead) => ppaDie r.ppa == d && !r.recon)

/-- A suspended operation resumes once no read is queued at its die, 0.5 µs longer; at MAXCNT suspends, or with MAXTIME spent, it is
protected (R214, R232). -/
def State.resume (s : State) (d : Nat) : State :=
  let x := s.die d
  if !x.suspended || s.readsQueued d then s else
    s.setDie d { x with suspended := false, susNs := x.spent s.ns, typEnd := x.typEnd + (s.ns - x.susAt) + 500,
                        protected_ := x.protected_ || decide (x.maxCnt ≤ x.suspends) || decide (x.maxNs ≤ x.spent s.ns) }

/-- An operation that has spent MAXTIME suspended is protected (R232, R246). -/
def State.checkSpent (s : State) (d : Nat) : State :=
  let x := s.die d
  if x.suspended && decide (x.maxNs ≤ x.spent s.ns) then s.setDie d { x with protected_ := true } else s

/-- The page read of a page fill, which counts its crumbs when it ends (R192, R236). -/
def CrumbRead.isFill (r : CrumbRead) : Bool := match r.why with | .fill _ => true | _ => false

/-- Issue a read (R228 to R233, R242): of a fenced die by reconstruction; of a busy die as the group's mode says;
else by a tracked read. A suspended die serves its reads unless its operation is protected. -/
def State.issueRead (s : State) (p : Ppa) (c : Fin 8) (why : ReadFor) : State :=
  let d := ppaDie p
  let s := s.checkSpent d
  let x := s.die d
  let mode := s.readMode (dieGroup d)
  let r : CrumbRead := { ppa := p, crumb := c, why := why, recon := false, waits := false, resets := 0,
                         slow := decide (8 < s.queuedAt d) || mode != 0, ladder := false, bad := false }
  let put (s : State) (r : CrumbRead) : State := { s with mch := { s.mch with reads := s.mch.reads ++ [r] } }
  let own (s : State) : State := if r.isFill then s else s.countRead (ppaBlock p)
  let mates (s : State) : State := if r.isFill then s else s.countRecon p
  if x.fenced then mates (put s { r with recon := true, waits := s.mateBusy p, slow := r.slow || s.mateBusy p || s.matesQueued p })
  else if x.busy = 0 then own (put s r)
  else if x.suspended && !x.protected_ then own (put s r)
  else if mode = 0 then mates (put s { r with recon := true, slow := r.slow || s.matesQueued p })
  else if (x.protected_ || mode = 1) && !s.mateBusy p then
    mates (put s { r with recon := true, slow := r.slow || x.protected_ || s.matesQueued p })
  else if x.protected_ then own (put s { r with waits := true, slow := true })
  else if x.typEnd ≤ s.ns + 1000 then own (put s { r with waits := true })
  else own ((put s r).suspend d)

/-- A read belongs to the same crumb. -/
def CrumbRead.is (r : CrumbRead) (p : Ppa) (c : Fin 8) : Bool := r.ppa == p && r.crumb == c && !r.isFill

/-- The first read of a crumb in the state asked for. -/
def State.findRead (s : State) (p : Ppa) (c : Fin 8) (recon : Bool) : Option CrumbRead :=
  s.mch.reads.find? (fun r => r.is p c && r.recon == recon)

/-- Replace the first read of a crumb in that state; `none` removes it. -/
def replaceRead (p : Ppa) (c : Fin 8) (recon : Bool) (new : Option CrumbRead) : List CrumbRead → List CrumbRead
  | [] => []
  | r :: t => if r.is p c && r.recon == recon then new.toList ++ t else r :: replaceRead p c recon new t

def State.setRead (s : State) (p : Ppa) (c : Fin 8) (recon : Bool) (new : Option CrumbRead) : State :=
  { s with mch := { s.mch with reads := replaceRead p c recon new s.mch.reads } }

/-! ### The drift model (R225 to R227) -/

/-- Verify code of level `i`, 32 for L0 (R220). -/
def levelCode (i : Nat) : Rat := match i with | 0 => 32 | 1 => 88 | 2 => 144 | _ => 200
/-- Drift of level `i` in codes per decade (R220). -/
def levelNu (i : Nat) : Rat := match i with | 0 => 1 / 2 | 1 => 3 / 2 | 2 => 11 / 5 | _ => 3

/-- The prediction m[i] of a block, to the nearest code; 255 for an unanchored block (R225, R226). -/
def Block.predict (b : Block) (i : Nat) : Int :=
  if b.anchored then (levelCode i + levelNu i * b.b * b.d + 1 / 2).floor else 255

/-- What the references that a die senses become: `r` implausible by DEV are replaced by their predictions `m`; out of order by GAP, or
two of them replaced, all four come from the model. Answers the references used and how many were replaced (R225). -/
def pickRefs (dev gap : Int) (r m : List Int) : List Int × Nat :=
  let at_ (l : List Int) (i : Nat) : Int := l.getD i 0
  let odd (i : Nat) : Bool := at_ m i != 255 && (decide (dev < at_ r i - at_ m i) || decide (dev < at_ m i - at_ r i))
  let q := (List.range 4).map (fun i => if odd i then at_ m i else at_ r i)
  let bad := ((List.range 4).filter odd).length
  let bad := if (List.range 3).any (fun i => decide (at_ q (i + 1) - at_ q i < gap)) then 4 else bad
  (if 2 ≤ bad && at_ m 0 != 255 then (List.range 4).map (at_ m) else q, bad)

/-- The thresholds t[1] to t[3] between four references, W sixteenths of the way up each gap (R225). -/
def thresholds (w : Int) (q : List Int) : List Int :=
  (List.range 3).map (fun i => q.getD i 0 + (q.getD (i + 1) 0 - q.getD i 0) * w / 16)

/-- The level a cell reads as, by the thresholds (R225). -/
def cellLevel (t : List Int) (code : Int) : Nat :=
  if t.getD 2 0 ≤ code then 3 else if t.getD 1 0 ≤ code then 2 else if t.getD 0 0 ≤ code then 1 else 0

/-- The two bits of a level, upper bit first (R220). -/
def levelBits (level : Nat) : BitVec 2 := match level with | 0 => 0b11 | 1 => 0b10 | 2 => 0b00 | _ => 0b01

/-- The level that stores two bits (R220). -/
def bitsLevel (b : BitVec 2) : Nat := match b.toNat with | 3 => 0 | 2 => 1 | 0 => 2 | _ => 3

/-- The verify window of a level, lowest and highest code after its program: of data cells, and of reference cells (R220). -/
def dataWindow (level : Nat) : Nat × Nat := match level with | 0 => (0, 40) | 1 => (82, 94) | 2 => (138, 150) | _ => (194, 206)
def refWindow (level : Nat) : Nat × Nat := match level with | 0 => (24, 40) | 1 => (86, 90) | 2 => (142, 146) | _ => (198, 202)

/-- The thresholds a die takes for a read of a block with these sensed references, and the references it replaced, by MCH_RISE (R225). -/
def State.readThresholds (s : State) (b : Block) (refs : List Nat) : List Int × Nat :=
  let q := pickRefs (s.regFld 0x080 0x110 12 8) (s.regFld 0x080 0x110 4 8) (refs.map Int.ofNat) ((List.range 4).map b.predict)
  (thresholds (s.regFld 0x080 0x110 0 4) q.1, q.2)

/-- The four references of a read pass R225 without replacement. -/
def State.refsOk (s : State) (b : Block) (refs : List Nat) : Bool := refs.length == 4 && (s.readThresholds b refs).2 == 0

/-- A number held between two bounds. -/
def clampRat (lo hi x : Rat) : Rat := if x < lo then lo else if hi < x then hi else x

/-- Correct B from a read with four accepted references (R226). -/
def Block.observe (b : Block) (r3 : Nat) : Block :=
  let obs : Rat := ((r3 : Rat) - 200) / 3
  let den : Rat := if b.d < 1 then 1 else b.d
  { b with b := clampRat (1 / 2) 4 (b.b + (obs / den - b.b) / 8) }

/-- Advance the drift age by `secs` at temperature `t` (R226). -/
def driftAge (d : Rat) (secs : Rat) (t : Int) : Rat :=
  Config.log10 (Config.pow10 d + secs * Config.pow2 (((t : Rat) - 25) / 10))

/-- Anchor a block from the L3 reference of its survey read (R227). -/
def Block.anchor (b : Block) (r3 : Nat) : Block :=
  { b with d := ((r3 : Rat) - 200) / 3, b := 1, anchored := true }

/-- The temperature of a stack: its hotter sensor, as read or stood in for (R226, R562, R566). -/
def State.stackTemp (s : State) (stack : Nat) : Int :=
  let a := (s.sensor (128 + 2 * stack)).now.toInt
  let b := (s.sensor (129 + 2 * stack)).now.toInt
  max (-128) (max a b)

/-- The L3 prediction after the lead time exceeds the ceiling (R238). -/
def State.overCeiling (s : State) (block : Nat) : Bool :=
  let b := s.block block
  let d := driftAge b.d ((s.regFld 0x080 0x118 8 8 : Nat) * 86400) (s.stackTemp (block / 2 ^ 18))
  decide (((s.regFld 0x080 0x118 0 8 : Nat) : Rat) < 200 + 3 * b.b * d)

/-! ### Fences (R241, R242) -/

/-- Reads of a die that is fenced turn into reconstructions (R242). -/
def State.readsToRecon (s : State) (d : Nat) : State :=
  let hit := s.mch.reads.filter (fun (r : CrumbRead) => ppaDie r.ppa == d && !r.recon)
  let s := { s with mch := { s.mch with reads := s.mch.reads.map (fun (r : CrumbRead) =>
    if ppaDie r.ppa == d && !r.recon then { r with recon := true, waits := s.mateBusy r.ppa } else r) } }
  s.each (hit.filter (fun r => !r.isFill)) (fun s r => s.countRecon r.ppa)

/-- Fence a die: DIE_FENCED with its PPA, its reads reconstructed, and GROUP_CLOSED when its group becomes closed. -/
def State.fenceDie (s : State) (d : Nat) : State :=
  if (s.die d).fenced then s else
  let was := s.groupState (dieGroup d)
  let s := s.raiseAt (chanPage (dieChan d)) .mchChDieFenced { dom := 6, inst := d, kind := 2, items := [d * 2 ^ 24] }
  let s := s.setDie d { s.die d with fenced := true }
  let s := (s.fence 6 d).readsToRecon d
  if was < 2 && s.groupState (dieGroup d) = 2 then s.raiseAt 0x080 .mchGroupClosed { kind := 2, items := [d * 2 ^ 24] } else s

/-- Fence a die with a cause that MCH_CH_STAT.CAUSE of its channel shows (R213, R244, log 67). -/
def State.fenceDieFor (s : State) (d cause : Nat) : State :=
  if (s.die d).fenced then s else (s.setRegFld (chanPage (dieChan d)) 0x100 24 5 cause).fenceDie d

/-- A die's list of factory-bad blocks is unreadable, or names more than 40 blocks of a plane (R213). -/
def State.listBad (s : State) (d : Nat) : Bool :=
  decide (d ∈ s.mch.badUnread) ||
  (List.range 4).any (fun p => decide (40 < ((s.mch.badLists.get [] d).filter (fun b => b / 4096 == 4 * d + p)).length))

/-- The list of one die is read: the die is fenced, or its listed blocks are never programmed or erased (R213). -/
def State.readList (s : State) (d : Nat) : State :=
  if s.listBad d then s.fenceDieFor d 4
  else s.each (s.mch.badLists.get [] d) (fun s b => if (s.block b).st = 0 then s.setBlock b { s.block b with st := 3 } else s)

/-- MCH_CH_STAT.STATE of a channel. -/
def State.chanState (s : State) (ch : Nat) : Nat := s.regFld (chanPage ch) 0x100 29 3

/-- Fence one channel with a cause: CH_FENCED, STATE and CAUSE, and its four dies (R241). -/
def State.fenceChan1 (s : State) (ch cause : Nat) : State :=
  if s.chanState ch = 2 then s else
  let s := s.raiseAt (chanPage ch) .mchChChFenced { dom := 7, inst := ch, kind := 2, items := [ch * 2 ^ 26] }
  let s := (s.setRegFld (chanPage ch) 0x100 29 3 2).setRegFld (chanPage ch) 0x100 24 5 cause
  (s.fence 7 ch).each [4 * ch, 4 * ch + 1, 4 * ch + 2, 4 * ch + 3] State.fenceDie

/-- Fence a channel; with two channels of a stack fenced, the others follow with cause stack (R241). -/
def State.fenceChan (s : State) (ch cause : Nat) : State :=
  let s := s.fenceChan1 ch cause
  let stack := ch / 4
  let chans := (List.range 4).map (fun k => 4 * stack + k)
  if 2 ≤ (chans.filter (fun c => s.chanState c = 2)).length && !s.isFenced 8 stack then
    (s.fence 8 stack).each chans (fun s c => s.fenceChan1 c 2)
  else s

/-- Count a program or erase failure of a die; the eighth within 24 h fences it (R241). -/
def State.dieFailure (s : State) (d : Nat) : State :=
  let x := s.die d
  let recent := (x.fails.filter (fun t => s.ns ≤ t + 86400000000000)) ++ [s.ns]
  let s := s.setDie d { x with fails := recent }
  if 8 ≤ recent.length then s.fenceDie d else s

/-- A read passes its timeout: a reset and a retry, and after two resets the die is fenced (R246). The page read of a fill times out
under the crumb it began with. -/
def State.readTimeout (s : State) (p : Ppa) (c : Fin 8) : State :=
  match s.findRead p c false with
  | some r => if r.resets < 2 then s.setRead p c false (some { r with resets := r.resets + 1 }) else s.fenceDie (ppaDie p)
  | none =>
    match s.mch.reads.find? (fun r => r.isFill && r.ppa == p && r.crumb == c && !r.recon) with
    | none => s
    | some r =>
      if r.resets < 2 then { s with mch := { s.mch with reads := s.mch.reads.map (fun (y : CrumbRead) =>
        if y == r then { y with resets := y.resets + 1 } else y) } }
      else s.fenceDie (ppaDie p)

/-- A transfer on a channel fails its CRC: repeated three times, then the operation fails as a channel error, and the 64th such failure
within 1 s fences the channel. Answers whether the operation fails. The repeats are counted for the channel's transfer in progress
(R216, R241). -/
def State.busCrc (s : State) (ch : Nat) : Bool × State :=
  let s := s.countUp (chanPage ch) 0x108 16 16
  let n := s.mch.repeats.get 0 ch
  if n < 3 then
    (false, ({ s with mch := { s.mch with repeats := s.mch.repeats.set 0 ch (n + 1) } }).raiseAt (chanPage ch) .mchChBusCrc
      { dom := 7, inst := ch, kind := 2, items := [ch * 2 ^ 26] })
  else
    let recent := (s.mch.busFails.filter (fun e => s.ns ≤ e.2 + 1000000000)) ++ [(ch, s.ns)]
    (true, { s with mch := { s.mch with repeats := s.mch.repeats.del ch, busFails := recent } })

/-- The 64th failed operation of a channel within 1 s fences it (R241). -/
def State.busFence (s : State) (ch : Nat) : State :=
  if 64 ≤ (s.mch.busFails.filter (fun e => e.1 == ch)).length then s.fenceChan ch 1 else s

/-- A crumb read that fails as a channel error is served by reconstruction (R216, log 77). -/
def State.readBusFail (s : State) (p : Ppa) (c : Fin 8) : State :=
  match s.findRead p c false with
  | some r => (s.setRead p c false (some { r with recon := true, waits := s.mateBusy p, slow := true })).countRecon p
  | none => s

/-- A transfer on a channel succeeds: the repeats of R216 start over. -/
def State.busOk (s : State) (ch : Nat) : State :=
  { s with mch := { s.mch with repeats := s.mch.repeats.del ch } }

/-- Fencing these dies would leave every group with at most one fenced die (R244). -/
def State.mayFenceDies (s : State) (ds : List Nat) : Bool :=
  (List.range 16).all (fun g =>
    decide (((groupDies g).filter (fun d => (s.die d).fenced || decide (d ∈ ds))).length ≤ 1))

/-! ### Busy dies (R223, R229) -/

/-- The typical time of an operation: 5 µs for a program, 100 µs for an erase (R214). -/
def typicalNs (op : Nat) : Nat := if op % 2 = 1 then 5000 else 100000

/-- Set the busy mark of dies to an operation, 0 to none, and end any suspension. -/
def State.setBusy (s : State) (ds : List Nat) (op : Nat) : State :=
  s.each ds (fun s d =>
    let x : Die := { s.die d with busy := op, suspended := false, suspends := 0, susAt := 0, susNs := 0, protected_ := false }
    s.setDie d (if op = 0 then { x with typEnd := 0, maxCnt := 0, maxNs := 0 }
      else { x with typEnd := s.ns + typicalNs op, maxCnt := s.regFld 0x080 0x10c 0 8, maxNs := s.regFld 0x080 0x10c 8 16 * 1000 }))

/-- Waiting reads go on: a reconstruction once no live die of its stripe is busy, another once its die is idle (R232, R242). -/
def State.wakeReads (s : State) : State :=
  { s with mch := { s.mch with reads := s.mch.reads.map (fun (r : CrumbRead) =>
    if r.waits && (if r.recon then !s.mateBusy r.ppa else (s.die (ppaDie r.ppa)).busy == 0) then { r with waits := false } else r) } }

/-! ### Thermal rounds (R226, R238) -/

/-- One media thermal round over one block (R226, R238). -/
def State.roundBlock (s : State) (e : Nat × Block) : State :=
  if e.2.st != 1 then s else
  let s := s.setBlock e.1 { e.2 with d := driftAge e.2.d (1 / 100) (s.stackTemp (e.1 / 2 ^ 18)) }
  if e.1 % 1024 = s.mch.round % 1024 && s.overCeiling e.1 then s.askRefresh e.1 4 else s

/-- One media thermal round: D of every block in use, and the drift test of one block in 1,024 (R226, R238). -/
def State.mediaRound (s : State) : State :=
  let s := s.each s.mch.blocks State.roundBlock
  { s with mch := { s.mch with round := s.mch.round + 1 } }

/-- The modes committed to MCH_GRPMODE; a group that goes to a smaller busy limit keeps its old read bound until its move
ends (R235). -/
def State.commitModes (s : State) : State :=
  match s.shadow.find (regAddr 0x080 0x104) with
  | none => s
  | some w =>
    let s0 := s
    let s := s.each (List.range 16) (fun s g =>
      let old := s0.regFld 0x080 0x104 (2 * g) 2
      let new := fld w (2 * g) 2
      if busyLimit new < s.busyIn g then { s with mch := { s.mch with moving := s.mch.moving.put g old } } else s)
    s.setReg 0x080 0x104 w

/-- A mode move ends when the busy count fits the new limit (R235). -/
def State.modeMoveEnd (s : State) (g : Nat) : State :=
  if s.busyIn g ≤ busyLimit (s.groupMode g) then { s with mch := { s.mch with moving := s.mch.moving.del g } } else s

end Sys2Proof.Machine
end

