-- ==== Sys2Proof/Machine/Tier.lean ====
section
/-! DEFINITION. The frames of the DRAM tier: geometry, states, victims, the staging area, the dirty budget and the hand-off
to the MTE (R71, R188 to R200). -/

namespace Sys2Proof.Machine

/-! ### Geometry (R37, R188, R200) -/

/-- Tier capacity in GiB (R37); 0 in reduced mode. -/
def State.tierGib (s : State) : Nat := s.regFld 0x028 0x108 0 12

/-- Frames of the tier; 2,048 in reduced mode (R188, R200). -/
def State.frameCount (s : State) : Nat := if s.tierGib = 0 then 2048 else s.tierGib * 2 ^ 18

/-- Directory sets (R188). -/
def State.nsets (s : State) : Nat := s.frameCount / 8

/-- The directory set of an LMP (R188). -/
def State.setOf (s : State) (l : Lmp) : Nat := l.toNat % s.nsets

/-- The tag of an LMP in its set (R188). -/
def State.tagOf (s : State) (l : Lmp) : Nat := l.toNat / s.nsets

/-- Bytes of the metadata reserve at the bottom of each used DIMM: an equal share of 32 GiB (R188, R198). -/
def State.reserveShare (s : State) : Nat := 32 * 2 ^ 30 / s.dtc.used.length

/-- The areas of the reserve in order, in GiB: map, version index, tier directory, segment tables (R198). -/
def reserveAreas : List Nat := [24, 6, 1, 1]

/-- The DIMM address of a line of a frame; an even line lies on subchannel A, an odd one on B (R188). -/
def State.dimmAddr (s : State) (f line : Nat) : Nat := s.reserveShare + f / s.dtc.used.length * 4096 + 64 * line

/-- The used channel that holds a frame (R188). -/
def State.frameChan (s : State) (f : Nat) : Nat := s.dtc.used.getD (f % max 1 s.dtc.used.length) 0

/-- The frame that holds a page. -/
def State.frameOf (s : State) (l : Lmp) : Option (Nat × Frame) := s.dtc.frames.find? (fun e => e.2.lmp == l)

/-- The 16-bit directory entry of a frame: TAG, STATE and REF (R188, R189). -/
def State.dirEntry (s : State) (n : Nat) : BitVec 16 :=
  match s.dtc.frames.find n with
  | some f => BitVec.ofNat 12 (s.tagOf f.lmp) ++ f.st ++ (if f.ref then 1#1 else 0#1)
  | none => 0

/-- The 16 B of a directory set, way 0 lowest (R189). -/
def State.dirWord (s : State) (set : Nat) : BitVec 128 :=
  BitVec.ofNat 128 ((List.range 8).foldl (fun n w => n + (s.dirEntry (8 * set + w)).toNat * 2 ^ (16 * w)) 0)

/-- The tag cache takes up a directory set as the most recently used of its 16 ways, read from the metadata reserve where it was not
there; the least recently used leaves, and is written back if it has changed (R189, R190). Reduced mode has no tag cache (R200). -/
def State.tagTouch (s : State) (set : Nat) (write : Bool) : State :=
  if s.tierGib = 0 then s else
  let i := set % 65536
  let l := s.dtc.tagCache.get [] i
  let l := (⟨set, write || l.any (fun e => e.key == set && e.dirty)⟩ : Cached) :: l.filter (fun e => e.key != set)
  let back := (l.drop 16).filter Cached.dirty
  { s with dtc := { s.dtc with
      tagCache := s.dtc.tagCache.put i (l.take 16),
      dirMem := back.foldl (fun m e => m.set 0 e.key (s.dirWord e.key)) s.dtc.dirMem } }

/-- The map entry of an LMP. -/
def State.entry (s : State) (l : Lmp) : MapEntry := s.mte.map.get {} l.toNat

/-- Store a frame; its directory set changes in the tag cache (R189, R190). -/
def State.setFrame (s : State) (n : Nat) (f : Frame) : State :=
  ({ s with dtc := { s.dtc with frames := s.dtc.frames.put n f } }).tagTouch (n / 8) true

/-- A map entry is at hand: always with the map in the metadata reserve; in reduced mode when the map cache holds it (R200, R264). -/
def State.mapCached (s : State) (l : Lmp) : Bool := s.tierGib != 0 || (s.dtc.mapCache.get [] (l.toNat % 65536)).any (fun e => e.key == l.toNat)

/-- The map cache of reduced mode takes up an entry as its set's most recently used. The least recently used entry of a full set leaves,
but never one that has changed since its map page was last captured; where every entry of the set has, the set grows (R200, R264,
log 76). -/
def State.mapTouch (s : State) (l : Lmp) (write : Bool) : State :=
  if s.tierGib != 0 then s else
  let i := l.toNat % 65536
  let old := s.dtc.mapCache.get [] i
  let held (e : Cached) : Bool := e.dirty && decide (e.key / 512 ∈ s.mte.changed)
  let rest := old.filter (fun e => e.key != l.toNat)
  let rest := if rest.length < 16 then rest
    else match rest.reverse.find? (fun e => !held e) with
      | some v => rest.filter (fun e => e.key != v.key)
      | none => rest
  let new : Cached := ⟨l.toNat, write || old.any (fun e => e.key == l.toNat && e.dirty)⟩
  { s with dtc := { s.dtc with mapCache := s.dtc.mapCache.put i (new :: rest) } }

/-- The lines of a page whose program still runs, or is programmed and waits for its journal entry. -/
def State.runningLines (s : State) (l : Lmp) : Option (Tab SLine) :=
  let pages := (s.mte.stripes.filter Stripe.issued).flatMap Stripe.pages ++ s.mte.jwait.map Prod.fst
  (pages.find? (fun p => p.tag.type == 1 && p.tag.lmp == l && p.from_.isNone)).map StripePage.lines

/-- Free a frame. -/
def State.dropFrame (s : State) (n : Nat) : State :=
  ({ s with dtc := { s.dtc with frames := s.dtc.frames.del n } }).tagTouch (n / 8) true

/-! ### The dirty budget (R71, R196, R197, R199) -/

/-- The persistence of the region that holds a page; a mirror copy has that of the owner's region (R387). -/
def State.persistOf (s : State) (l : Lmp) : Nat :=
  let g := s.seg (lmpLsi l)
  if g.st = 4 then g.copyPersist else (s.region g.region.toNat).persist

/-- A page whose stores take the Strict point: Strict, or Durable while the budget is zero (R61). -/
def State.strictPage (s : State) (l : Lmp) : Bool :=
  s.persistOf l == 2 || (s.persistOf l == 1 && s.dtc.budget == 0)

/-- The frame belongs to the staging area (R191). -/
def Frame.staged (f : Frame) : Bool := f.st ∈ [3, 4, 5, 6]

/-- Durable frames of the staging area. -/
def State.durableFrames (s : State) : Nat :=
  (s.dtc.frames.filter (fun e => e.2.staged && s.persistOf e.2.lmp == 1)).length

/-- Pages held under R197: Merging, Dirty and Reprogramming ones, and Programming ones that a waiting line will make Reprogramming. -/
def State.strictFrames (s : State) : Nat :=
  (s.dtc.frames.filter (fun e => (decide (e.2.st ∈ [5, 3, 6]) || (e.2.st == 4 && !e.2.held.isEmpty)) && s.strictPage e.2.lmp)).length

/-- Releases to a Durable page wait: the dirty bytes have reached the budget (a budget that a measurement has set to zero below them
among these), an early warning asks for it, or a shortfall runs; Freeze and Relocate of a re-form hold every release (R71, R172, R206,
R550). -/
def State.holdsReleases (s : State) (l : Lmp) : Bool :=
  (s.persistOf l == 1 && (s.dtc.short || (!(s.dtc.budget == 0) && (decide (s.dtc.budget * 256 ≤ s.durableFrames) || s.dtc.early))))
  || s.regFld 0x028 0x104 4 3 == 2 || s.regFld 0x028 0x104 4 3 == 3

/-- The limit of the budget from energy, the cap and the tier, in MiB: half the tier in normal mode, 8 MiB in reduced mode; while the
DTC is Starting neither applies yet (R199, log 74). -/
def State.budgetOf (s : State) (joules : Nat) : Nat :=
  let e := if joules ≤ 80 then 0 else (joules - 80) * 10 ^ 10 / 14 / 2 ^ 20
  let third := if s.regFld 0x028 0x104 0 3 = 0 then 262144 else if s.tierGib = 0 then 8 else s.tierGib * 512
  min e (min 262144 third) - (if s.pwr.lowered then 16384 else 0)

/-! ### Allocation (R194, R200) -/

/-- The ways of a set in scan order from way `h`. -/
def waysFrom (h : Nat) : List Nat := (List.range 8).map (fun i => (h + i) % 8)

/-- A frame lies on a channel that leaves in a re-form: no page is allocated there (R206). -/
def State.leavingFrame (s : State) (n : Nat) : Bool := decide (s.frameChan n ∈ s.dtc.leaving)

/-- Take a Clean victim of a set by the scan of R194; before the set's first victim it starts at way 0 (log 75). -/
def State.takeVictim (s : State) (set : Nat) : Option Nat × State :=
  let hand := s.dtc.hand.get 0 set
  let clean := (waysFrom hand).filter (fun w => match s.dtc.frames.find (8 * set + w) with
    | some f => f.st == 2 && !s.leavingFrame (8 * set + w)
    | none => false)
  let isRef (w : Nat) : Bool := match s.dtc.frames.find (8 * set + w) with
    | some f => f.ref
    | none => false
  let clear (s : State) (w : Nat) : State := match s.dtc.frames.find (8 * set + w) with
    | some f => s.setFrame (8 * set + w) { f with ref := false }
    | none => s
  let take (s : State) (w : Nat) : Option Nat × State :=
    let s := s.dropFrame (8 * set + w)
    (some (8 * set + w), { s with dtc := { s.dtc with hand := s.dtc.hand.set 0 set ((w + 1) % 8) } })
  match clean with
  | [] => (none, s)
  | w0 :: _ =>
    match clean.find? (fun w => !isRef w) with
    | some w => take (s.each (clean.takeWhile isRef) clear) w
    | none => take (s.each clean clear) w0

/-- Freeze and Relocate of a re-form: the scraper pauses (R206). -/
def State.frozen (s : State) : Bool := s.regFld 0x028 0x104 4 3 == 2 || s.regFld 0x028 0x104 4 3 == 3

/-- A shortfall ends when the dirty Durable bytes fit the budget (R172). -/
def State.checkShort (s : State) : State :=
  if s.dtc.short && s.durableFrames ≤ s.dtc.budget * 256 then ({ s with dtc := { s.dtc with short := false } }).raise 0x028 .dtcShortfallEnd else s

/-- A frame for a page: the lowest-numbered Free way of its set (log 75), else a victim; in reduced mode any free frame (R194, R200). -/
def State.allocFrame (s : State) (l : Lmp) : Option Nat × State :=
  if s.tierGib = 0 then
    let n := s.dtc.frames.firstFree 2048 0
    if n < 2048 then (some n, s) else (none, s)
  else
    let set := s.setOf l
    match (List.range 8).find? (fun w => (s.dtc.frames.find (8 * set + w)).isNone && !s.leavingFrame (8 * set + w)) with
    | some w => (some (8 * set + w), s)
    | none => s.takeVictim set

/-! ### Hand-off (R194, R196) -/

/-- Hand a Dirty frame to the MTE. -/
def State.handOver (s : State) (n : Nat) : State :=
  match s.dtc.frames.find n with
  | some f =>
    if f.st == 3 && !f.handed then
      let s := s.setFrame n { f with handed := true }
      { s with mte := { s.mte with handoff := s.mte.handoff ++ [f.lmp] } }
    else s
  | none => s

/-- The oldest frame among those a test accepts. -/
def State.oldestFrame (s : State) (ok : Nat → Frame → Bool) : Option Nat :=
  (s.dtc.frames.foldl (fun (best : Option (Nat × Nat)) e =>
    if ok e.1 e.2 then
      match best with
      | none => some (e.1, e.2.order)
      | some b => if e.2.order < b.2 then some (e.1, e.2.order) else best
    else best) none).map Prod.fst

/-- The bytes of R196, in pages: Durable frames that are Merging, Dirty or Reprogramming and not yet handed over. -/
def State.keptFrames (s : State) : Nat :=
  (s.dtc.frames.filter (fun e => decide (e.2.st ∈ [5, 3, 6]) && !e.2.handed && s.persistOf e.2.lmp == 1)).length

/-- The level of R196: HIGH percent of the budget, in hundredths of a page. -/
def State.highLevel (s : State) : Nat := s.dtc.budget * 256 * s.regFld 0x028 0x118 16 8

/-- Hand over the oldest Durable frames until their bytes have fallen below the level (R196). -/
def State.handDown : Nat → State → State
  | 0, s => s
  | fuel + 1, s =>
    if s.keptFrames * 100 < s.highLevel then s else
    match s.oldestFrame (fun _ f => f.st == 3 && !f.handed && s.persistOf f.lmp == 1) with
    | some n => State.handDown fuel (s.handOver n)
    | none => s

/-- The Durable frames not yet handed over exceed the level: the oldest go (R196). -/
def State.handHigh (s : State) : State :=
  if s.highLevel < s.keptFrames * 100 then State.handDown s.dtc.frames.length s else s

/-- The triggers of R196, the Hold of R300, a flush (R173), and Drain and Freeze of a re-form (R206) that act at once on a frame that has
become Dirty. -/
def State.dirtyTriggers (s : State) (n : Nat) (l : Lmp) : State :=
  let flush := s.pwr.flush != 0 && s.persistOf l != 0
  let reform := decide (s.regFld 0x028 0x104 4 3 ∈ [1, 2])
  (if flush || reform || s.strictPage l || decide (s.regionOfLmp l ∈ s.mte.heldRegions) then s.handOver n else s).handHigh

/-- A frame becomes Dirty (R191). -/
def State.becomeDirty (s : State) (n : Nat) (f : Frame) : State :=
  let s := { s with dtc := { s.dtc with order := s.dtc.order + 1 } }
  let s := s.setFrame n { f with st := 3, order := s.dtc.order, handed := false }
  s.dirtyTriggers n f.lmp

/-- Hand every dirty frame over: all, or all but those of Volatile regions (R173, R196, R206, R550). -/
def State.handAll (s : State) (volatileToo : Bool) : State :=
  let l := s.dtc.frames.filter (fun e => e.2.st == 3 && !e.2.handed && (volatileToo || s.persistOf e.2.lmp != 0))
  let ordered := l.foldl (fun acc e => insertFrame e acc) []
  s.each ordered (fun s e => s.handOver e.1)
where
  /-- insert by order of becoming Dirty -/
  insertFrame (e : Nat × Frame) : List (Nat × Frame) → List (Nat × Frame)
    | [] => [e]
    | x :: t => if e.2.order < x.2.order then e :: x :: t else x :: insertFrame e t

/-! ### Lines into frames (R192, R193) -/

/-- Put a line into a frame. -/
def Frame.put (f : Frame) (i : Nat) (sl : SLine) (ws : List Waiting) : Frame :=
  { f with lines := f.lines.put i sl, ref := true, waits := f.waits ++ ws }

/-- Line masks in use: Merging frames (R192). -/
def State.masksUsed (s : State) : Nat := (s.dtc.frames.filter (fun e => e.2.st == 5)).length

/-- A line that cannot enter a frame waits at the DTC (R192, R194, R197). -/
def State.lineWaits (s : State) (a : LineAddr) (sl : SLine) (ws : List Waiting) : State :=
  { s with dtc := { s.dtc with waiting := s.dtc.waiting ++ [⟨a, sl, ws⟩] } }

/-- Set a page's bit in the bitmap of a copy that runs from this module (R379). -/
def State.touchPage (s : State) (l : Lmp) : State :=
  let g := (s.seg (lmpLsi l)).gsn
  let p := l.toNat % 2 ^ 18
  { s with sve := { s.sve with ops := s.sve.ops.map (fun (e : Nat × BulkOp) =>
      if (e.2.kind = 0 || e.2.kind = 2) && e.2.gsn == g && e.2.phase ≤ 3 then (e.1, { e.2 with dirty := insertNew e.2.dirty p }) else e) } }

/-- The DTC has accepted a line: its merge-store entry is freed (R134). -/
def State.acceptedLine (s : State) (a : LineAddr) : State :=
  let n := sliceHash a
  (s.setSlice n { s.slice n with merge := removeFirst (fun (m : MergeEntry) => m.line == a && m.offered) (s.slice n).merge }).gpfChecks

/-- The reads that waited for a page fill look in the tier again. -/
def State.wakeFill (s : State) (l : Lmp) : State :=
  s.each (List.range 8) (fun s n => s.setSlice n { s.slice n with misses := (s.slice n).misses.map (fun (m : MissEntry) =>
    if m.stage == .pageFill l then { m with stage := .tier } else m) })

/-- A page fill begins: one page read on the page's die, scheduled as a crumb read; an unmapped page needs none (R192, R195). -/
def State.startFill (s : State) (l : Lmp) : State :=
  let s := { s with dtc := { s.dtc with fills := insertNew s.dtc.fills l } }
  let e := s.entry l
  if e.st = 1 then s.issueRead e.ppa 0 (.fill l) else s

/-- A page fill is over or cancelled: its page read leaves its die (R192). -/
def State.endFill (s : State) (l : Lmp) : State :=
  { s with dtc := { s.dtc with fills := removeAll s.dtc.fills l },
           mch := { s.mch with reads := s.mch.reads.filter (fun (r : CrumbRead) => r.why != .fill l) } }

/-- A line finds its place in a frame of page `l`; answers whether it did (R191 to R194, R197). -/
def State.placeLine (s : State) (a : LineAddr) (l : Lmp) (sl : SLine) (ws : List Waiting) : Bool × State :=
  let i := lineInPage a
  let full := s.strictPage l && decide (4096 ≤ s.strictFrames)
  match s.frameOf l with
  | some (n, f) =>
    if full && (f.st == 1 || f.st == 2 || (f.st == 4 && f.held.isEmpty)) then (false, s) else
    if decide (s.frameChan n ∈ s.dtc.dead) then (false, s) else
    match f.st.toNat with
    | 1 =>
      if 8192 ≤ s.masksUsed then (false, s)
      else (true, s.setFrame n { f.put i sl ws with st := 5, mask := oneBit 64 i })
    | 2 => (true, s.becomeDirty n (f.put i sl ws))
    | 4 =>
      if f.xferred then (true, s.setFrame n { f.put i sl ws with st := 6 })
      else (true, s.setFrame n { f with held := f.held ++ [(i, sl, ws)] })
    | 5 =>
      let f := { f.put i sl ws with mask := f.mask ||| oneBit 64 i }
      if f.mask == fullMask then (true, ((s.endFill l).becomeDirty n f).wakeFill l)
      else (true, s.setFrame n f)
    | _ => (true, s.setFrame n (f.put i sl ws))
  | none =>
    if full || 8192 ≤ s.masksUsed then (false, s)
    else
      let (r, s) := s.allocFrame l
      match r with
      | some n =>
        let f : Frame := { lmp := l, st := 5, ref := true, lines := [(i, sl)], mask := oneBit 64 i, handed := false,
                           order := 0, xferred := false, waits := ws, carried := [], held := [] }
        (true, (s.setFrame n f).startFill l)
      | none => (false, s)

/-- A line that needs a frame and finds none has the oldest Dirty frame of its set programmed at once; in reduced mode, which has no
sets in use, the oldest of the staging area (R194, R200, log 75). -/
def State.askFrame (s : State) (l : Lmp) : State :=
  if (s.frameOf l).isSome then s else
  let set := s.setOf l
  match s.oldestFrame (fun n f => f.st == 3 && (s.tierGib = 0 || n / 8 = set)) with
  | some n => s.handOver n
  | none => s

/-- The store is a line of a copy or of a line update. -/
def Waiting.isCopy (w : Waiting) : Bool :=
  match w.sender with
  | .copy .. => true
  | _ => false

/-- The DTC takes a line of page `l`: into a frame, or it waits at the DTC; Freeze and Relocate of a re-form let nothing in but for a flush.
A line that another module has sent has the point of a released store once the DTC has taken it (R61, R192, R193, R197, R206, R379,
R387). -/
def State.takeLine (s : State) (a : LineAddr) (l : Lmp) (sl : SLine) (ws : List Waiting) : State :=
  let ws := ws.map (fun (w : Waiting) => { w with line := lineInPage a })
  if (s.frozen && s.pwr.flush = 0) || s.halted 0x028 then s.lineWaits a sl ws
  else
    let now := if s.strictPage l then [] else ws.filter Waiting.isCopy
    match s.placeLine a l sl (ws.filter (fun w => decide (w ∉ now))) with
    | (true, s) => (((s.touchPage l).acceptedLine a).answerAll now 2).handHigh
    | (false, s) => (s.lineWaits a sl ws).askFrame l

/-- Lines that waited at the DTC are tried again, oldest first. -/
def State.retryWaiting (s : State) : State :=
  let l := s.dtc.waiting
  let s := { s with dtc := { s.dtc with waiting := [] } }
  s.each l (fun s w => match s.lsiOf (lineGsn w.line) with
    | some lsi => s.takeLine w.line (lmpOf lsi w.line) w.sl w.waits
    | none => (s.acceptedLine w.line).badAll w.waits 3)

/-- The transfer of a Programming frame ends: the held lines are written and the frame is Reprogramming (R193). -/
def State.frameTransferred (s : State) (l : Lmp) : State :=
  match s.frameOf l with
  | some (n, f) =>
    if f.st == 4 && !f.xferred then
      let g := f.held.foldl (fun (g : Frame) h => g.put h.1 h.2.1 h.2.2) { f with held := [], xferred := true }
      (s.setFrame n (if f.held.isEmpty then g else { g with st := 6 })).handHigh
    else s
  | none => s

/-- The journal entry of a program is written: Programming becomes Clean, Reprogramming becomes Dirty; in reduced mode a
clean page leaves the area (R191, R200). -/
def State.frameJournaled (s : State) (l : Lmp) : State :=
  match s.frameOf l with
  | some (n, f) =>
    let s := if f.st == 4 then
        if f.held.isEmpty then
          if s.tierGib = 0 || decide (s.frameChan n ∈ s.dtc.dead) then s.dropFrame n else s.setFrame n { f with st := 2, carried := [], xferred := false, ref := true }
        else
          s.becomeDirty n (f.held.foldl (fun (g : Frame) h => g.put h.1 h.2.1 h.2.2) { f with held := [], carried := [], xferred := false })
      else if f.st == 6 then s.becomeDirty n { f with carried := [], xferred := false }
      else s
    s.retryWaiting
  | none => s

end Sys2Proof.Machine
end

