-- ==== Sys2Proof/Machine/Crust.lean ====
section
/-! DEFINITION. Crust on the line path: encryption of released lines, the checks of inbound lines and their second source
(R431 to R439, R443). -/

namespace Sys2Proof.Machine

/-- The key set of a range that is Active (R443). -/
def State.activeKeys (s : State) (r : Nat) : Option KeySet :=
  let k := s.krange r
  if k.st = 1 && !k.reload then k.keys else none

/-- Raise KEY_MISSING once for each key range and state change (R435). -/
def State.keyMissing (s : State) (r : Nat) : State :=
  let k := s.krange r
  if k.told then s else (s.setKrange r { k with told := true }).raise 0x008 .crsKeyMissing

/-- The stored form of a released line: ciphertext and tag under its key range; POISON without ciphertext for a poisoned
line or a range that is not Active (R431 to R433, R135). -/
def State.crustStore (s : State) (a : LineAddr) (data : Line) (poison : Bool) : SLine × Bool × State :=
  let r := s.keyRangeOf (lineGsn a)
  if poison then ({ poisonLine with unwritten := false, keyRange := BitVec.ofNat 6 r }, true, s)
  else
    match s.activeKeys r with
    | some k =>
      let c := encryptLine k a data
      ({ ct := c, unwritten := false, keyRange := BitVec.ofNat 6 r, poison := false, tag := lineTag56 k a r c }, true, s)
    | none => ({ poisonLine with unwritten := false, keyRange := BitVec.ofNat 6 r }, false, s.raise 0x008 .crsKeyMissing)

/-- The outcome of the checks of R435 on an inbound line. -/
inductive Checked where
  /-- data that may be used, or zeros -/
  | pass (data : Line)
  /-- poison without a failure -/
  | poison
  /-- the key range is not Active: poison, and KEY_MISSING -/
  | missing
  /-- the line fails; `mismatch` for KR_MISMATCH; the decrypted data -/
  | fail (mismatch : Bool) (data : Line)
deriving DecidableEq, Repr

/-- The checks of R435, the first matching case. -/
def State.crustCheck (s : State) (a : LineAddr) (sl : SLine) : Checked :=
  let r := s.keyRangeOf (lineGsn a)
  if sl.poison then .poison
  else if sl.unwritten then .pass 0
  else
    match s.activeKeys r with
    | some k =>
      let d := decryptLine k a sl.ct
      if sl.keyRange.toNat != r then .fail true d
      else if lineTag56 k a r sl.ct = sl.tag then .pass d else .fail false d
    | none => if sl.keyRange.toNat != r then .fail true 0 else .missing

/-- The key range of a line runs Verified (R439). -/
def State.verified (s : State) (a : LineAddr) : Bool :=
  let r := s.keyRangeOf (lineGsn a)
  bitAt (s.reg 0x008 (if r < 32 then 0x110 else 0x114)) (r % 32)

/-- CRS_CFG.RETRY (R436). -/
def State.retryLines (s : State) : Bool := bitAt (s.reg 0x008 0x108) 0

/-- A line is failed: TAG_FAIL (R436). -/
def State.tagFail (s : State) : State := (s.raise 0x008 .crsTagFail).countUp 0x008 0x118 16 16

/-- A second copy passed: TAG_RETRY (R436). -/
def State.tagRetry (s : State) : State := s.raise 0x008 .crsTagRetry

/-- A KEYRANGE mismatch: KR_MISMATCH (R435). -/
def State.krMismatch (s : State) : State := (s.raise 0x008 .crsKrMismatch).countUp 0x008 0x118 0 8

/-- The General Media Event of a late alarm at a head: the record with the line's DPA, LATE_ALARM (R438). -/
def State.lateAlarm (s : State) (h : Nat) (a : LineAddr) : State :=
  let r : CxlRec := { kind := 0x81, status := stIntegrity, gsn := BitVec.ofNat 26 (lineGsn a), dpa := (s.head h).dpaOf a,
                      handle := 0, count := 0, seq := 0 }
  ((s.postRec h 2 r).raise 0x008 .crsLateAlarm).countUp 0x008 0x118 8 8

end Sys2Proof.Machine
end

