-- ==== Sys2Proof/Machine/Image.lean ====
section
/-! DEFINITION. How a line lies in a DRAM burst and a page on the medium: side data, page tag, crumbs with their parity, the spare, parity
pages and journal pages (R186, R217 to R222, R257, R260). -/

namespace Sys2Proof.Machine

/-! ### Lines (R186, R218) -/

/-- Bits [63:0] of a line's side data, which are also its line tag on the medium (R186, R218). -/
def lineTagWord (l : SLine) : BitVec 64 := (if l.unwritten then 1#1 else 0#1) ++ l.keyRange ++ (if l.poison then 1#1 else 0#1) ++ l.tag

/-- The 16 B of side data of a line's burst: the symbol ECC over the line and its tag word, and that word (R186, R187, log 89). -/
def sideData (l : SLine) : BitVec 128 := Config.symbolEcc l.ct (lineTagWord l) ++ lineTagWord l

/-! ### The page tag (R257) -/

/-- Bytes 0x00 to 0x3B of a page tag. -/
def PageTag.fields (t : PageTag) : List Nat :=
  bytesLE 4 t.lmp.toNat ++ [t.type.toNat, t.relgen.toNat, (if t.emerg then 1 else 0) + (if t.reloc then 2 else 0), t.keyRange.toNat] ++
  bytesLE 8 t.wsn ++ [t.region.toNat, t.parity.toNat] ++ bytesLE 2 t.rwEpoch.toNat ++ bytesLE 5 t.ptime.toNat ++ bytesLE 3 t.eraseCnt.toNat ++
  List.replicate 4 0 ++ bytesLE 8 t.setid ++ bytesLE 8 t.aux ++ List.replicate 8 0 ++ bytesLE 2 0x5ac3 ++ List.replicate 2 0

/-- The 64 B of a page tag, its CRC last (R257). -/
def PageTag.bytes (t : PageTag) : List Nat := t.fields ++ bytesLE 4 (crc32 t.fields)

/-! ### Crumbs and the spare (R213, R217, R219) -/

/-- The eight lines of a crumb. -/
def crumbLines (p : Page) (c : Nat) : List SLine := (List.range 8).map (fun i => pageLineOf p.lines (8 * c + i))

/-- The information bytes of a crumb's codeword: its data, its line tags, and in crumb 7 the page tag (R219). -/
def crumbInfo (p : Page) (c : Nat) : List Nat :=
  (crumbLines p c).flatMap (fun l => bytesLE 64 l.ct.toNat) ++ (crumbLines p c).flatMap (fun l => bytesLE 8 (lineTagWord l).toNat) ++
    (if c = 7 then p.tag.bytes else [])

/-- The 54 B of LDPC parity of a crumb (R219, log 89). -/
def crumbParity (p : Page) (c : Nat) : List Nat := bytesLE 54 (Config.ldpc (crumbInfo p c)).toNat

/-- The four reference cells of a crumb, levels L0 to L3 in ascending order, two bits a cell from the least significant (R217, R220,
log 89). -/
def refCells : Nat := (List.range 4).foldl (fun n i => n + (levelBits i).toNat * 4 ^ i) 0

/-- The spare behind its line tags and page tag: LDPC parity, reference cells, and the reserved bytes (R217). -/
def spareTail (p : Page) : List Nat :=
  (List.range 8).flatMap (crumbParity p) ++ List.replicate 8 refCells ++ List.replicate 8 0xff

/-- The 1 KiB spare of a page (R217). -/
def pageSpare (p : Page) : List Nat :=
  (List.range 64).flatMap (fun i => bytesLE 8 (lineTagWord (pageLineOf p.lines i)).toNat) ++ p.tag.bytes ++ spareTail p

/-- The 5,120 B of a page as programmed: data and spare (R217, R222). -/
def pageImage (p : Page) : List Nat := (List.range 64).flatMap (fun i => bytesLE 64 (pageLineOf p.lines i).ct.toNat) ++ pageSpare p

/-- The image of the parity page over the data and filler pages of a stripe: their XOR over all bytes but the reference cells and the
reserved bytes, which are those of every page (R222). -/
def parityImage (l : List Page) : List Nat :=
  ((l.foldl (fun acc p => xorBytes acc (pageImage p)) (List.replicate 5120 0)).take 5104) ++ List.replicate 8 refCells ++ List.replicate 8 0xff

/-! ### The map (R247) -/

/-- The 64 bits of a map entry (R247). -/
def MapEntry.word (e : MapEntry) : BitVec 64 :=
  0#21 ++ (if e.ret then 1#1 else 0#1) ++ e.st ++ e.relgen ++ e.ppa

/-- The lines of a map page's image: its 512 entries, eight to a line (R247, R262). -/
def mapLines (t : Tab MapEntry) (n : Nat) : Tab SLine :=
  (List.range 64).map (fun i => (i, { zeroLine with
    ct := BitVec.ofNat 512 (ofBytesLE ((List.range 8).flatMap (fun j => bytesLE 8 (t.get {} (512 * n + 8 * i + j)).word.toNat))) }))

/-! ### Journal pages (R259, R260) -/

/-- The 32 B of a journal entry (R260). -/
def JEntry.bytes (e : JEntry) : List Nat :=
  [e.type.toNat, e.arg.toNat, 0, 0] ++ bytesLE 8 e.x.toNat ++ bytesLE 8 e.y.toNat ++ bytesLE 4 e.z.toNat ++ List.replicate 8 0

/-- The data bytes of a journal page: the JHEAD with the trim WSN, up to 127 entries, and PAD in the unused slots (R259, R260). -/
def journalBytes (trim : Nat) (entries : List JEntry) : List Nat :=
  let pad : JEntry := { type := 0, arg := 0, x := 0, y := 0, z := 0 }
  let head : JEntry := { pad with type := 0x01, x := BitVec.ofNat 64 trim }
  ((head :: (entries.take 127 ++ List.replicate (127 - entries.length) pad))).flatMap JEntry.bytes

/-- The entries of up to `n` journal pages: 127 to a page behind its JHEAD, and no RW_RETAIN on another page than the entry before it, which
supersedes its version (R260, R290). -/
def journalPages : Nat → List JEntry → List (List JEntry)
  | 0, _ => []
  | n + 1, l =>
    let k := if (l.drop 127).head?.any (fun (e : JEntry) => e.type == 0x13) then 126 else 127
    l.take k :: journalPages n (l.drop k)

/-- The lines of a journal page (R259, R260). -/
def journalLines (trim : Nat) (entries : List JEntry) : Tab SLine :=
  let bytes := journalBytes trim entries
  (List.range 64).map (fun i => (i, { zeroLine with ct := BitVec.ofNat 512 (ofBytesLE ((bytes.drop (64 * i)).take 64)) }))

end Sys2Proof.Machine
end

