-- ==== Sys2Proof/Machine/Tick.lean ====
section
/-! DEFINITION. The clock domains, which of them are gated, and which pages run (R484, R558, R569, R581, R602). -/

namespace Sys2Proof.Machine

/-- The module is in state On, Idle, Deep Idle or start-up, or flushing: its main rails are up. -/
def State.up (s : State) : Bool := s.pwr.st.toNat ∈ [2, 3, 4, 5, 6, 7]

/-- The DIMM population is decided and uses no socket: reduced mode (R37). -/
def State.reduced (s : State) : Bool := s.dtc.decided && s.dtc.used.isEmpty

/-- A port of a block is enabled (PRT_CFG.EN, R569). -/
def State.blockEnabled (s : State) (block : Nat) : Bool := !decide (s.regFld (0x100 + block) 0x100 16 8 = 0)

/-- Domain `d` of R569 is gated. -/
def State.domGated (s : State) (d : Nat) : Bool :=
  let st := s.pwr.st.toNat
  let off := st == 0 || st == 8
  let therm := off || st == 9
  let deep := therm || st == 5
  let idle := deep || (st == 4 && !bitAt s.pwr.ungated (d - 1))
  if d = 1 then false
  else if d = 2 then off
  else if d ≤ 5 then therm
  else if d ≤ 13 then idle
  else if d ≤ 17 then therm || !(List.range 16).any (fun i => s.blockEnabled (16 * (d - 14) + i))
  else if d ≤ 21 then deep || s.reduced
  else if d ≤ 24 then idle
  else true

/-- CKR_GATE.GATED (R574). -/
def State.gatedMask (s : State) : Nat :=
  (List.range 25).foldl (fun a i => if s.domGated (i + 1) then a + 2 ^ i else a) 0

/-- The clock domain of a page (R602). -/
def pageDom (page : Nat) : Nat :=
  if page = 0x000 || (0x004 ≤ page && page ≤ 0x006) || page = 0x300 then 3
  else if page ≤ 0x003 then 2
  else if page ≤ 0x00f then 5
  else if page ≤ 0x017 then 6 + (page - 0x010)
  else if page ≤ 0x01f then 18
  else if page ≤ 0x027 then 19
  else if page = 0x028 then 18
  else if page ≤ 0x031 then 4
  else if page < 0x060 then 22
  else if page < 0x080 then 23
  else if page = 0x080 then 22
  else if page < 0x140 then 14 + (page - 0x100) / 16
  else if page ≤ 0x181 then 5
  else if page < 0x200 then 14 + (page - 0x1c0) / 16
  else if page ≤ 0x208 then 4
  else 25

/-- Cycles of a domain in one AON cycle of 40 ns (R569). -/
def domCycles (d : Nat) : Nat :=
  if d = 1 then 1 else if d = 2 then 4 else if d = 3 || d = 25 then 20
  else if d = 4 || d = 18 || d = 19 || d = 22 || d = 23 then 40 else if d = 20 || d = 21 then 160
  else if d = 24 then 96 else 80

/-- Every page of R577. -/
def allPages : List Nat := (List.range 0xf10).filter (fun p => (pageKind p).isSome)

/-- STATUS.RUNNING of a page (R484). -/
def State.running (s : State) (page : Nat) : Bool := s.runs page && !decide (page ∈ s.pages.fenced)

end Sys2Proof.Machine
end

