-- ==== Sys2Proof/Machine/Mte.lean ====
section
/-! DEFINITION. The media translation engine: map, write sequence numbers, journal, stripe sets, stripes, checkpoints,
the scraper and wear (R247 to R280, R604), with the retention of superseded versions (R287, R289 to R293). -/

namespace Sys2Proof.Machine

/-! ### Space (R253, R254, R280, R604) -/

/-- Blocks of a die-plane that are not Erased. -/
def State.usedBlocks (s : State) (die plane : Nat) : Nat :=
  (s.mch.blocks.filter (fun e => e.1 / 4096 == 4 * die + plane && e.2.st != 0)).length

/-- Erased sets a group could form in a plane. -/
def State.erasedIn (s : State) (g plane : Nat) : Nat :=
  4096 - (s.liveDies g).foldl (fun m d => max m (s.usedBlocks d plane)) 0

/-- Erased and Reserve sets of a group. -/
def State.erasedSets (s : State) (g : Nat) : Nat := (List.range 4).foldl (fun n p => n + s.erasedIn g p) 0

/-- Reserve sets a group holds: 282 as long as its Erased blocks allow (R254, log 15). -/
def State.reserveSets (s : State) (g : Nat) : Nat := min 282 (s.erasedSets g)

/-- Erased sets of a group outside the reserve. -/
def State.freeSets (s : State) (g : Nat) : Nat := s.erasedSets g - s.reserveSets g

/-- Blocks retired by the module. -/
def State.retiredBlocks (s : State) : Nat := (s.mch.blocks.filter (fun e => e.2.st == 2)).length

/-- Headroom in sets of 60 MiB, retained versions taken off (R280). -/
def State.headroomMib (s : State) : Nat :=
  let lost := (List.range 64).foldl (fun n gp =>
    n + (groupDies (gp / 4)).foldl (fun m d => max m
      (s.mch.blocks.filter (fun e => e.1 / 4096 == 4 * d + gp % 4 && (e.2.st == 2 || e.2.st == 3))).length) 0) 0
  let retained := (s.mte.index.filter (fun e => e.ppa != 0xffffffff)).length
  (262144 - 209716 - 1640 - 4512 - lost) * 60 - retained / 256

/-- HDRM_LOW is in force (R280). -/
def State.headroomLow (s : State) : Bool := decide (s.headroomMib < 256 * 1024)

/-- HDRM_CRIT is in force (R280). -/
def State.hdrmCrit (s : State) : Bool := decide (s.headroomMib < 64 * 1024)

/-- Raise HDRM_LOW and HDRM_CRIT when the headroom falls below their levels (R280, R510). -/
def State.checkHeadroom (s : State) : State :=
  let live (b : Nat) : Bool := decide (srcId 0x030 b ∈ s.flt.live)
  let wasLow := live 5
  let wasCrit := live 6
  let low := s.headroomLow
  let crit := s.hdrmCrit
  let s := (s.setLive 0x030 .mteHdrmLow low).setLive 0x030 .mteHdrmCrit crit
  let s := if low && !wasLow then s.raise 0x030 .mteHdrmLow else s
  if crit && !wasCrit then s.raise 0x030 .mteHdrmCrit else s

/-! ### Write sequence numbers (R250 to R252) -/

/-- Append a journal entry: it is written (R258). -/
def State.journal (s : State) (e : JEntry) : State := { s with mte := { s.mte with jbuf := s.mte.jbuf ++ [e] } }

/-- Append the reservation of the next block, once (R251). -/
def State.reserveWsn (s : State) : State :=
  let next := s.mte.durCeiling + 2 ^ 24
  if s.mte.ceiling < next then
    let s := { s with mte := { s.mte with ceiling := next } }
    s.journal { type := 0x09, arg := 0, x := 0, y := BitVec.ofNat 64 next, z := 0 }
  else s

/-- `n` WSNs can be assigned now, all below the durable ceiling (R251). -/
def State.wsnRoom (s : State) (n : Nat) : Bool := decide (s.mte.nextWsn + n ≤ s.mte.durCeiling)

/-- A WSN can be assigned now: a durable ceiling lies above it and R252 does not apply. -/
def State.wsnReady (s : State) : Bool := decide (s.mte.nextWsn < s.mte.durCeiling) && !s.mte.wsnEnd

/-- Assign the next WSN; the next block is reserved when 2^20 remain, and R252 ends assignment near 2^64. -/
def State.takeWsn (s : State) : Nat × State :=
  let n := s.mte.nextWsn
  let s := { s with mte := { s.mte with nextWsn := n + 1 } }
  let s := if s.mte.durCeiling ≤ n + 1 + 2 ^ 20 then s.reserveWsn else s
  if 2 ^ 64 - 2 ^ 32 ≤ n + 1 && !s.mte.wsnEnd then
    (n, ({ s with mte := { s.mte with wsnEnd := true } }).raise 0x030 .mteWsnEnd)
  else (n, s)

/-! ### The map (R247 to R249) and retention (R287 to R291) -/

/-- Store a map entry, marking its map page changed; in reduced mode through the map cache (R262, R264). -/
def State.setEntry (s : State) (l : Lmp) (e : MapEntry) : State :=
  ({ s with mte := { s.mte with map := s.mte.map.set {} l.toNat e, changed := insertNew s.mte.changed (l.toNat / 512) } }).mapTouch l true

/-- Copy `a` of a page wins over copy `b` (R266). -/
def newerTag (a b : PageTag) : Bool :=
  if a.wsn != b.wsn then decide (b.wsn < a.wsn) else decide ((a.relgen - b.relgen - 1).toNat < 127)

/-- The images of a map page on the medium, the newest first (R262). -/
def State.mapImages (s : State) (n : Nat) : List (Nat × Page) :=
  (s.mch.pages.filter (fun (e : Nat × Page) => e.2.tag.type == 4 && e.2.whole && !e.2.isParity && e.2.tag.lmp.toNat == n)).foldl
    (fun l e => newest e l) []
where
  /-- insert a copy before those that it wins over -/
  newest (e : Nat × Page) : List (Nat × Page) → List (Nat × Page)
    | [] => [e]
    | x :: t => if newerTag e.2.tag x.2.tag then e :: x :: t else x :: newest e t

/-- The programmed page that holds the newest image of an LMP's map page, by the directory (R262, R264). -/
def State.mapPage (s : State) (l : Lmp) : Option Ppa := (s.mapImages (l.toNat / 512)).head?.map (fun e => BitVec.ofNat 32 e.1)

/-- The programmed page at a PPA. -/
def State.pageAt (s : State) (p : Ppa) : Option Page := s.mch.pages.find p.toNat

/-- The WSN w of the current version of an LMP: the mapped page's, or that of the UNMAP or POISON that left it so, or the
segment's allocation WSN (R289, R291). -/
def State.versionWsn (s : State) (l : Lmp) : Nat :=
  let e := s.entry l
  match e.st.toNat, s.pageAt e.ppa with
  | 1, some p => p.tag.wsn
  | _, _ => (s.mte.unmapWsn.find l.toNat).getD (s.seg (lmpLsi l)).allocWsn

/-- The newest live mark of a region. -/
def State.newestMark (s : State) (r : Nat) : Option Mark := (s.rwr r).marks.getLast?

/-- The newest mark of a region whose cut does not lie above the superseding WSN: the newest live cut as the superseding
entry stands in the order of writes (R289, R290, log 20). -/
def State.markFor (s : State) (r succ : Nat) : Option Mark := (s.rwr r).marks.reverse.find? (fun m => m.cut ≤ succ)

/-- Supersede the current version of an LMP by an entry with WSN `succ`: Retained when the region's newest mark holds it,
with its index entry, RET and RW_RETAIN, else Stale (R289 to R291). A Poisoned LMP has no version to retain (log 16). -/
def State.supersede (s : State) (l : Lmp) (succ : Nat) : State :=
  let r := s.regionOfLmp l
  match s.markFor r succ with
  | none => s
  | some m =>
    let w := s.versionWsn l
    let e := s.entry l
    if w < m.cut && (s.seg (lmpLsi l)).allocWsn < m.cut && e.st != 2 && (s.region r).rewind then
      let ppa : Ppa := if e.st = 1 then e.ppa else 0xffffffff
      let relgen : Byte := if e.st = 1 then (s.pageAt e.ppa).elim 0 (fun p => p.tag.relgen) else 0
      let ix : IdxEntry := { lmp := l, relgen := relgen, region := BitVec.ofNat 8 r, ppa := ppa, wsn := w, succ := succ, mark := m.epoch }
      let s := { s with mte := { s.mte with index := s.mte.index ++ [ix] } }
      let s := s.setEntry l { e with ret := true }
      s.journal { type := 0x13, arg := relgen, x := l.setWidth 64, y := BitVec.ofNat 64 w, z := ppa }
    else s

/-- A MAP entry for a host page takes effect (R249). -/
def State.mapHost (s : State) (l : Lmp) (wsn : Nat) (p : Ppa) : State :=
  let s := s.journal { type := 0x02, arg := 0, x := l.setWidth 64, y := BitVec.ofNat 64 wsn, z := p }
  let s := s.supersede l wsn
  s.setEntry l { s.entry l with st := 1, relgen := 0, ppa := p }

/-- An UNMAP (false) or POISON (true) of one LMP takes effect with its own WSN (R249, R250). -/
def State.unmapNow (s : State) (l : Lmp) (poison : Bool) : State :=
  let (w, s) := s.takeWsn
  let s := s.journal (if poison then { type := 0x04, arg := 0, x := l.setWidth 64, y := BitVec.ofNat 64 w, z := 0 }
                      else { type := 0x03, arg := 0, x := BitVec.ofNat 64 (l.toNat + 2 ^ 32), y := BitVec.ofNat 64 w, z := 0 })
  let s := s.supersede l w
  let s := { s with mte := { s.mte with unmapWsn := s.mte.unmapWsn.put l.toNat w } }
  s.setEntry l { s.entry l with st := if poison then 2 else 0, relgen := 0, ppa := 0 }

/-- A page of the LMP is in a stripe, a relocated copy too, whose MAP entry is not written yet (R249). -/
def State.inFlight (s : State) (l : Lmp) : Bool :=
  s.mte.stripes.any (fun x => x.pages.any (fun p => p.tag.type == 1 && p.tag.lmp == l))
  || s.mte.jwait.any (fun x => x.1.tag.type == 1 && x.1.tag.lmp == l) || s.mte.gather.any (fun p => p.tag.lmp == l)

/-- Unmap or poison an LMP; held while a page of it is in flight, or an earlier entry of it is, or until a WSN may be assigned (R249, R251,
R379). -/
def State.unmap (s : State) (l : Lmp) (poison : Bool) : State :=
  let s := s.touchPage l
  if s.inFlight l || s.mte.unmapWait.any (fun e => e.1 == l) || !(s.wsnReady || s.mte.wsnEnd) then
    let s := if s.wsnReady || s.mte.wsnEnd then s else s.reserveWsn
    { s with mte := { s.mte with unmapWait := s.mte.unmapWait ++ [(l, poison)] } }
  else s.unmapNow l poison

/-- The line after the last one of a range. -/
def discardEnd (fga : Fga) (lines : Word) : Nat := fga.toNat / 64 + lines.toNat

/-- Segments that a range of lines reaches. -/
def discardSpan (fga : Fga) (lines : Word) : List Nat :=
  let a := fga.toNat / 64 / 2 ^ 24
  let b := (discardEnd fga lines - 1) / 2 ^ 24
  (List.range (b + 1 - a)).map (fun i => a + i)

/-- Pages that a range covers wholly inside a segment, by page number in the segment. -/
def discardPages (fga : Fga) (lines : Word) (gsn : Nat) : List Nat :=
  let first := (fga.toNat / 64 + 63) / 64
  let last := discardEnd fga lines / 64
  let lo := max first (gsn * segPages)
  let hi := min last ((gsn + 1) * segPages)
  (List.range (hi - lo)).map (fun i => lo + i - gsn * segPages)

/-- A discard ends: its command completes, or the module that asked for it has its confirmation (R99). -/
def State.endDiscard (s : State) (d : DiscardOp) (st : Status) : State :=
  let s := { s with mte := { s.mte with discards := s.mte.discards.filter (fun x => x != d) } }
  match d.asker with
  | none => s.finish d.handle st [BitVec.ofNat 32 d.pages, BitVec.ofNat 32 d.partial_]
  | some dev => s.sendPlain dev d.id 0 st 0 (.discardRsp d.id true (BitVec.ofNat 32 d.pages))

/-- The UNMAP of a page of a discard is still held here (R101, R249). -/
def State.discardHeld (s : State) (d : DiscardOp) : Bool :=
  s.mte.unmapWait.any (fun (e : Lmp × Bool) =>
    let g := (s.seg (lmpLsi e.1)).gsn.toNat
    decide (g ∈ discardSpan d.fga d.lines) && decide (e.1.toNat % segPages ∈ discardPages d.fga d.lines g))

/-- A discard with no answer due and no UNMAP held ends, PARTIAL where a page was covered in part: a store released after that is never lost
to it (R99, R101). -/
def State.discardStep (s : State) (d : DiscardOp) : State :=
  if !d.checks.isEmpty || !d.confirms.isEmpty || s.discardHeld d then s
  else s.endDiscard d (if d.partial_ = 0 then stOk else stPartial)

/-- Held UNMAP and POISON entries whose pages have landed take effect, and the discards that waited for them end. -/
def State.releaseUnmaps (s : State) : State :=
  let l := s.mte.unmapWait
  let s := { s with mte := { s.mte with unmapWait := [] } }
  let s := s.each l (fun s e => s.unmap e.1 e.2)
  s.each s.mte.discards State.discardStep

/-! ### Sets (R253, R255) -/

/-- The Erased block of a die-plane with the lowest erase count, or with the highest for a wear-levelling victim's pages;
the lowest number on a tie (R253, R279, log 15). -/
def State.pickBlock (s : State) (die plane : Nat) (worn : Bool) : Option Nat :=
  let base := (4 * die + plane) * 4096
  let u := s.mch.blocks.firstFree 4096 base
  let fresh : Option (Nat × Nat) := if u < base + 4096 then some (u, 0) else none
  let listed := (s.mch.blocks.filter (fun e => e.1 / 4096 == 4 * die + plane && e.2.st == 0)).map (fun e => (e.1, e.2.erases))
  (listed.foldl (fun (best : Option (Nat × Nat)) e =>
    match best with
    | none => some e
    | some b => if (if worn then b.2 < e.2 else e.2 < b.2) || (e.2 == b.2 && e.1 < b.1) then some e else best) fresh).map Prod.fst

/-- Open a set in a group and plane for a purpose, one block from each live die; a relocation set for victims of one reason, a wear-levelling
one from the most-worn blocks (R253, R272, R279). A block newly in use starts anchored with drift age 0, B being 1.0 since its erase (R226,
log 77). -/
def State.openSet (s : State) (g plane purpose reason : Nat) : Option Nat × State :=
  let picks := (s.liveDies g).map (fun d => s.pickBlock d plane (reason == 6))
  if picks.all Option.isSome && !picks.isEmpty then
    let blocks := picks.filterMap id
    let id := s.mte.nextSetid
    let s := s.each blocks (fun s b => s.setBlock b { s.block b with st := 1, next := 0, setid := id, anchored := true, d := 0, b := 1 })
    let r : SetRec := { group := g, plane := plane, st := 2, purpose := purpose, blocks := blocks.map (fun b => b * 1024),
                        row := 0, reason := 0, sources := [], fills := reason }
    (some id, { s with mte := { s.mte with sets := s.mte.sets.put id r, nextSetid := id + 1 } })
  else (none, s)

/-- A set may be opened for a host or relocation purpose only outside the reserve; metadata and an emergency flush may
take any (R254, R604). -/
def State.mayOpen (s : State) (g purpose : Nat) : Bool := purpose == 2 || purpose == 3 || decide (0 < s.freeSets g)

/-- The plane of a group with the most Erased sets, the lowest on a tie (log 15). -/
def State.bestPlane (s : State) (g : Nat) : Nat :=
  (List.range 4).foldl (fun b p => if s.erasedIn g b < s.erasedIn g p then p else b) 0

/-- The open set of a group and purpose, for relocation that of victims of one reason, opened if there is none (R253, R272). -/
def State.openFor (s : State) (g purpose reason : Nat) : Option Nat × State :=
  match s.mte.sets.find? (fun e => e.2.group == g && e.2.purpose == purpose && e.2.fills == reason && e.2.st == 2 && decide (e.2.row < 1024)
      && e.2.blocks.length == (s.liveDies g).length) with
  | some e => (some e.1, s)
  | none => if s.mayOpen g purpose then s.openSet g (s.bestPlane g) purpose reason else (none, s)

/-! ### Stripes (R63, R221, R224, R250, R604) -/

/-- A tag for a page about to be placed; the fields of its place are written at issue (R257). -/
def blankTag (l : Lmp) (type : Byte) (wsn : Nat) : PageTag :=
  { lmp := l, type := type, relgen := 0, emerg := false, reloc := false, keyRange := 0, wsn := wsn, region := 0, parity := 0,
    rwEpoch := 0, ptime := 0, eraseCnt := 0, setid := 0, aux := 0 }

/-- Fill a stripe with filler pages, each with a WSN of its own (R63, R250). -/
def State.fillers : Nat → State → List StripePage → List StripePage × State
  | 0, s, l => (l, s)
  | n + 1, s, l =>
    let (w, s) := s.takeWsn
    State.fillers n s (l ++ [{ tag := blankTag 0xffffffff 0x02 w, lines := [], from_ := none, die := 0 }])

/-- Data pages a stripe of the group holds: one less than its live dies (R221, R224). -/
def State.dataPages (s : State) (g : Nat) : Nat := (s.liveDies g).length - 1

/-- Close a stripe of pages in a group: filler pages up to its size, a row of an open set, data pages on the dies other than the parity
die, whose stack the MTE keeps for a row laid with a fenced die (R63, R221, R224). It waits for its issue. Answers false where the group
can take no stripe, or where its filler pages would have to wait for their WSNs (R251). -/
def State.closeStripe (s : State) (g kind purpose : Nat) (pages : List StripePage) (reason : Nat) : Bool × State :=
  if s.groupState g = 2 || !(2 ≤ kind || s.wsnRoom (s.dataPages g - pages.length)) then (false, s) else
  let (o, s) := s.openFor g purpose reason
  match o with
  | none => (false, s)
  | some id =>
    let rec_ := s.mte.sets.get { group := g, plane := 0, st := 2, purpose := purpose, blocks := [], row := 0, reason := 0, sources := [] } id
    let (all, s) := State.fillers (s.dataPages g - pages.length) s pages
    let par := s.parityStack g rec_.plane rec_.row
    let dies := (s.liveDies g).filter (fun d => d != groupDie g par)
    let placed := (all.zip dies).map (fun e => { e.1 with die := e.2 })
    let x : Stripe := { id := s.mte.nextStripe, group := g, plane := rec_.plane, page := rec_.row, setid := id, parity := par,
                        pages := placed, kind := kind, issued := false, retry := false, lead := s.mte.nextStripe }
    (true, { s with mte := { s.mte with
      stripes := s.mte.stripes ++ [x], nextStripe := s.mte.nextStripe + 1, sets := s.mte.sets.put id { rec_ with row := rec_.row + 1 },
      parityAt := if s.fencedIn g = 0 then s.mte.parityAt else s.mte.parityAt.put (1024 * id + rec_.row) par } })

/-- The stack of the parity page of a set's row: as kept for a row laid with a fenced die, else by R221 (R224). -/
def State.rowParity (s : State) (id plane row : Nat) : Nat := (s.mte.parityAt.find (1024 * id + row)).getD ((row + plane) % 16)

/-- The group the next host stripe goes to: in turn, skipping closed, critical and busy groups where another is not so
(R604); none when every group is closed. -/
def State.hostGroup (s : State) : Option Nat :=
  let order := (List.range 16).map (fun i => (s.mte.turn + i) % 16)
  let openG := order.filter (fun g => decide (s.groupState g < 2) && (s.mayOpen g 0 || s.flushMode))
  let crit := s.regFld 0x030 0x120 20 6
  let above := openG.any (fun g => decide (crit < s.freeSets g))
  let l1 := if above then openG.filter (fun g => decide (crit ≤ s.freeSets g)) else openG
  let idle := l1.filter (fun g => decide (s.busyIn g < busyLimit (s.groupMode g)))
  let l2 := if idle.isEmpty then l1 else idle
  l2.head?

/-- Journal entries in use and the limit in entries (R263). -/
def State.journalLimit (s : State) : Nat := (if s.reduced then 1 else s.regFld 0x030 0x118 16 6) * 2 ^ 25

/-- JRN_FULL begins and ends with the journal since the trim WSN (R263). -/
def State.checkJournal (s : State) : State :=
  let full := decide (s.journalLimit ≤ s.mte.jdur.length)
  if full && !s.mte.jfull then ({ s with mte := { s.mte with jfull := true } }).raise 0x030 .mteJrnFull
  else { s with mte := { s.mte with jfull := full } }

/-- Close the open host stripe when it is full or when told to (R63, R604). -/
def State.closeGather (s : State) (force : Bool) : State :=
  match s.hostGroup with
  | none => s
  | some g =>
    let n := s.dataPages g
    if s.mte.gather.isEmpty || (!force && decide (s.mte.gather.length < n)) then s else
    let pages := s.mte.gather.take n
    let (ok, s1) := s.closeStripe g 0 (if s.pwr.flush = 3 then 3 else 0) pages 0
    if ok then { s1 with mte := { s1.mte with gather := s.mte.gather.drop n, turn := (g + 1) % 16 } } else s1

/-- The tag of a page at its place, at issue (R257). -/
def State.stamp (s : State) (x : Stripe) (p : StripePage) : PageTag :=
  let block := (4 * p.die + x.plane) * 4096
  let b := match s.mte.sets.find x.setid with
    | some r => (r.blocks.find? (fun k => k / 1024 / 16384 == p.die)).getD block
    | none => block
  let l := p.tag.lmp
  let reg := s.regionOfLmp l
  let base := { p.tag with
    parity := BitVec.ofNat 4 x.parity, ptime := BitVec.ofNat 40 (min (2 ^ 40 - 1) s.opMs), setid := x.setid,
    eraseCnt := BitVec.ofNat 24 (s.block (b / 1024)).erases, emerg := s.pwr.flush == 3 && x.kind == 0 }
  if x.kind == 0 && p.tag.type == 1 && !x.retry then
    { base with keyRange := BitVec.ofNat 6 (s.region reg).keyRange, region := BitVec.ofNat 8 reg, rwEpoch := (s.rwr reg).epoch }
  else base

/-- The PPA of a stripe's page on a die. -/
def State.placeOf (s : State) (x : Stripe) (die : Nat) : Ppa :=
  match s.mte.sets.find x.setid with
  | some r => BitVec.ofNat 32 ((r.blocks.find? (fun k => k / 1024 / 16384 == die)).getD 0 + x.page)
  | none => 0

/-- Take a frame into the program of its stripe: Dirty becomes Programming and its lines are captured (R61, R191, R196). A
page whose frame is gone becomes a filler. -/
def State.captureFrame (s : State) (p : StripePage) : StripePage × State :=
  match s.frameOf p.tag.lmp with
  | some (n, f) =>
    if f.st == 3 then
      (({ p with lines := f.lines }),
       s.setFrame n { f with st := 4, handed := false, xferred := false, carried := f.waits, waits := [] })
    else ({ p with tag := { p.tag with type := 0x02, lmp := 0xffffffff } }, s)
  | none => ({ p with tag := { p.tag with type := 0x02, lmp := 0xffffffff } }, s)

/-- Capture the frames of a stripe's host pages in order. -/
def State.captureAll : List StripePage → State → List StripePage × State
  | [], s => ([], s)
  | p :: t, s =>
    let (q, s) := if p.tag.type == 1 && p.from_.isNone then s.captureFrame p else (p, s)
    let (r, s) := State.captureAll t s
    (q :: r, s)

/-- Replace a stripe. -/
def State.setStripe (s : State) (x : Stripe) : State :=
  { s with mte := { s.mte with stripes := s.mte.stripes.map (fun y => if y.id = x.id then x else y) } }

/-- The blocks of a stripe's set advance past its row (R215). -/
def State.advanceRow (s : State) (x : Stripe) : State :=
  match s.mte.sets.find x.setid with
  | none => s
  | some r => s.each r.blocks (fun s b => let k := b / 1024; s.setBlock k { s.block k with next := max (s.block k).next (x.page + 1) })

/-- The stripe's blocks stand at another row than its own: R215 rejects its program. -/
def State.outOfOrder (s : State) (x : Stripe) : Bool :=
  (s.mte.sets.find x.setid).any (fun r => r.blocks.any (fun b => (s.block (b / 1024)).next != x.page))

/-- The share of a group's program slots that the scraper takes, in percent (R271). -/
def State.scraperShare (s : State) (g : Nat) : Nat :=
  if s.freeSets g < s.regFld 0x030 0x120 20 6 then 75 else s.regFld 0x030 0x120 26 6

/-- The checkpoint writer's program goes before the scraper's: it waits, and the journal has reached 75 % of its limit (R263, log 90). -/
def State.ckptFirst (s : State) : Bool := s.mte.ckptWait && decide (3 * s.journalLimit ≤ 4 * s.mte.jdur.length)

/-- The oldest waiting stripe of a group for a requester, the scraper (true) or another, whose plane runs no other program (R265). -/
def State.waitingStripe (s : State) (g : Nat) (scraper : Bool) : Option Stripe :=
  s.mte.stripes.find? (fun (x : Stripe) => x.group == g && !x.issued && (x.kind == 1) == scraper && !(scraper && s.ckptFirst) &&
    !s.mte.stripes.any (fun (y : Stripe) => y.group == g && y.issued && y.plane == x.plane))

/-- Both the scraper and another requester wait for a program slot of the group. -/
def State.slotContest (s : State) (g : Nat) : Bool := (s.waitingStripe g true).isSome && (s.waitingStripe g false).isSome

/-- The stripe the group programs next: where both wait, the scraper's when it has its share of a slot together (R271, log 90). -/
def State.nextStripeOf (s : State) (g : Nat) : Option Stripe :=
  if s.slotContest g then s.waitingStripe g (decide (100 ≤ (s.mte.slots.find g).getD 0 + s.scraperShare g))
  else (s.waitingStripe g false).or (s.waitingStripe g true)

/-- A program slot that both wait for is accounted (R271, log 90). -/
def State.noteSlot (s : State) (g : Nat) : State :=
  if s.slotContest g then
    { s with mte := { s.mte with slots := s.mte.slots.put g (((s.mte.slots.find g).getD 0 + s.scraperShare g) % 100) } }
  else s

/-- The stripes programmed with it as one row: the oldest waiting one of the same page number on each other plane that runs no program
(R221, R223). -/
def State.rowOf (s : State) (x : Stripe) : List Stripe :=
  x :: (((List.range 4).filter (fun p => p != x.plane)).filterMap (fun p =>
    if s.mte.stripes.any (fun (y : Stripe) => y.group == x.group && y.issued && y.plane == p) then none
    else (s.mte.stripes.find? (fun (y : Stripe) => y.group == x.group && !y.issued && y.plane == p)).filter (fun y =>
      y.page == x.page && decide (y.kind ≤ 1) == decide (x.kind ≤ 1) && !s.outOfOrder y)))

/-- A channel of a row does not run (R485). -/
def State.rowHalted (s : State) (row : List Stripe) : Bool := row.any (fun y => y.pages.any (fun p => s.chanHalted (p.die / 4)))

/-- A stripe with its frames captured and its tags written (R191, R257). -/
def State.readyStripe (s : State) (x : Stripe) : Stripe × State :=
  let c := if x.kind = 0 && !x.retry then State.captureAll x.pages s else (x.pages, s)
  ({ x with issued := true, pages := c.1.map (fun (p : StripePage) => { p with tag := c.2.stamp x p }) }, c.2)

/-- Pages per millisecond that the program rate cap admits; flushes program at 200 GB/s whatever the cap (R234). -/
def State.capPages (s : State) : Nat := (if s.flushMode then 200 else s.mch.cap) * 1000000 / 4096

/-- The program rate leaves room for a row: what was programmed in the last millisecond and what is being programmed count (R234). -/
def State.capRoom (s : State) (n : Nat) : Bool :=
  let done := (s.mch.pgmLog.filter (fun e => decide (s.ns ≤ e.1 + 1000000))).foldl (fun m e => m + e.2) 0
  let now := (s.mte.stripes.filter Stripe.issued).foldl (fun m x => m + x.pages.length) 0
  decide (done + now + n ≤ s.capPages)

/-- Dies of a group that a new program may make busy (R229, R235). -/
def State.progRoom (s : State) (g : Nat) : Nat := busyLimit (s.groupMode g) - s.busyIn g

/-- Start the programs of a row that is ready: its frames become Programming, its tags are written, its blocks advance, and the row's
dies take their programs in ascending stack order, as many at once as the mode lets be busy (R191, R215, R223, R229). -/
def State.startRow (s : State) (x : Stripe) (row : List Stripe) : State :=
  let room := s.progRoom x.group
  let dies := ((s.liveDies x.group).filter (fun d => (s.die d).busy == 0)).take room
  let s := s.setBusy dies (2 * x.id + 1)
  s.each row (fun s y =>
    let r := s.readyStripe y
    (r.2.setStripe { r.1 with lead := x.id }).advanceRow y)

/-- PGM_ORDER with the pages of the stripe that are out of order (R215, R524). -/
def State.orderFault (s : State) (x : Stripe) : State :=
  s.raiseAt 0x080 .mchPgmOrder { kind := 2, items := ((s.mte.sets.find x.setid).elim [] (fun r =>
    (r.blocks.filter (fun b => (s.block (b / 1024)).next != x.page)).map (fun b => b + x.page))) }

/-- Issue the next stripe of a group with the rest of its row, when the busy limit and the program rate leave room; a row whose blocks
stand elsewhere is rejected with PGM_ORDER. The frames that leave the staging count let waiting lines in (R191, R197, R215, R223, R229,
R234). -/
def State.issueStripe (s : State) (g : Nat) : State :=
  match s.nextStripeOf g with
  | none => s
  | some x =>
    if s.progRoom g = 0 then s else
    if s.outOfOrder x then s.orderFault x
    else
      let row := s.rowOf x
      if !s.capRoom (row.foldl (fun n y => n + y.pages.length) 0) || s.rowHalted row then s
      else ((s.noteSlot g).startRow x row).retryWaiting

/-- The transfer of a page's frame to its die ends, and the die takes its program: with the busy limit reached, the earliest die of the row
that still ran has ended (R223, R229, log 77). -/
def State.walkRow (s : State) (l : Lmp) : State :=
  match s.mte.stripes.find? (fun (x : Stripe) => x.issued && x.pages.any (fun p => p.tag.type == 1 && p.tag.lmp == l && p.from_.isNone)) with
  | none => s
  | some x =>
    match x.pages.find? (fun p => p.tag.type == 1 && p.tag.lmp == l) with
    | none => s
    | some p =>
      if (s.die p.die).busy != 0 || (s.die p.die).fenced then s else
      let op := 2 * x.lead + 1
      let s := if 0 < s.progRoom x.group then s
        else match (groupDies x.group).find? (fun d => (s.die d).busy == op && !(s.die d).suspended) with
          | some d => s.setBusy [d] 0
          | none => s
      if 0 < s.progRoom x.group then (s.setBusy [p.die] op).wakeReads else s

/-! ### Programmed pages (R249, R258, R310) -/

/-- Entries the journal buffer holds: 1 MiB of 32 B (R258). -/
def jbufMax : Nat := 32768

/-- The relocated copy of a Retained version: RW_MOVE where the index still names the source (R310). -/
def State.moveIndex (s : State) (l : Lmp) (src dst : Ppa) (relgen : Byte) : State :=
  match s.mte.index.find? (fun e => e.lmp == l && e.ppa == src) with
  | none => s
  | some e =>
    let s := { s with mte := { s.mte with index := s.mte.index.map (fun (x : IdxEntry) =>
      if x.lmp == l && x.ppa == src then { x with ppa := dst, relgen := relgen } else x) } }
    s.journal { type := 0x14, arg := relgen, x := l.setWidth 64, y := BitVec.ofNat 64 e.wsn, z := dst }

/-- The CKPT entry of a relocated map page image is written, where no newer image of the map page is durable (R249, R262). -/
def State.journalImage (s : State) (p : StripePage) (ppa : Ppa) : State :=
  if (s.mapImages p.tag.lmp.toNat).any (fun e => decide (p.tag.wsn < e.2.tag.wsn)) then s
  else s.journal { type := 0x0a, arg := 0, x := p.tag.lmp.setWidth 64, y := BitVec.ofNat 64 p.tag.aux, z := ppa }

/-- The MAP entry of a programmed page is written, and its frame leaves its program (R191, R249, R258). -/
def State.journalPage (s : State) (p : StripePage) (ppa : Ppa) : State :=
  let l := p.tag.lmp
  match p.from_ with
  | some src =>
    if p.tag.type = 4 then s.journalImage p ppa else
    let e := s.entry l
    if e.st = 1 && e.ppa = src then
      let s := s.journal { type := 0x02, arg := p.tag.relgen, x := l.setWidth 64, y := BitVec.ofNat 64 p.tag.wsn, z := ppa }
      s.setEntry l { e with ppa := ppa, relgen := p.tag.relgen }
    else s.moveIndex l src ppa p.tag.relgen
  | none => (s.mapHost l p.tag.wsn ppa).frameJournaled l

/-- One programmed page of a stripe: on the medium, its carried stores at their Strict point, its MAP entry, or the CKPT entry of a relocated
map page image, written or waiting for the journal buffer (R61, R258). -/
def State.landPage (s : State) (x : Stripe) (p : StripePage) : State :=
  let ppa := s.placeOf x p.die
  let s := { s with mch := { s.mch with pages := s.mch.pages.put ppa.toNat { tag := p.tag, lines := p.lines, whole := true } } }
  if p.tag.type != 1 && !(p.tag.type == 4 && p.from_.isSome) then s else
  let s := match p.from_, s.frameOf p.tag.lmp with
    | none, some (n, f) => (s.setFrame n { f with carried := [] }).answerAll f.carried 3
    | _, _ => s
  if jbufMax ≤ s.mte.jbuf.length then { s with mte := { s.mte with jwait := s.mte.jwait ++ [(p, ppa)] } }
  else s.journalPage p ppa

/-- The parity page of a programmed stripe, computed from its pages, lies on the parity stack (R222, R223). -/
def State.landParity (s : State) (x : Stripe) : State :=
  let ppa := s.placeOf x (groupDie x.group x.parity)
  { s with mch := { s.mch with pages := s.mch.pages.put ppa.toNat (parityPage (x.pages.map (fun p => (p.tag, p.lines)))) } }

/-- A page of the set is in a stripe, or waits for its MAP entry. -/
def State.setBusyPages (s : State) (id : Nat) : Bool :=
  s.mte.stripes.any (fun (x : Stripe) => x.setid == id) || s.mte.jwait.any (fun (e : StripePage × Ppa) => e.1.tag.setid == id)

/-- A set whose last row has been programmed and journaled is Full, with its SET_FULL entry (R255). -/
def State.maybeFull (s : State) (id : Nat) : State :=
  match s.mte.sets.find id with
  | some r =>
    if r.st = 2 && 1024 ≤ r.row && !s.setBusyPages id then
      let s := { s with mte := { s.mte with sets := s.mte.sets.put id { r with st := 3 } } }
      s.journal { type := 0x06, arg := 0, x := BitVec.ofNat 64 id, y := 0, z := 0 }
    else s
  | none => s

/-- Erases that wait for the busy limit begin, one at a time (R230). -/
def State.startErases (s : State) (g : Nat) : State :=
  let wait := (s.mch.blocks.filter (fun e => e.2.st == 4 && e.1 / 16384 % 16 == g)).map Prod.fst
  s.each wait (fun s b => let d := b / 16384
    if (s.die d).busy = 0 && !(s.die d).fenced && !s.chanHalted (d / 4) && s.busyIn g < busyLimit (s.groupMode g) then s.setBusy [d] (2 * b + 2) else s)

/-- End the busy time of the dies that run an operation. -/
def State.endBusy (s : State) (g op : Nat) : State :=
  let s := s.setBusy ((groupDies g).filter (fun d => (s.die d).busy = op)) 0
  (s.startErases g).wakeReads

/-- Data pages programmed, kept for 1 ms (MCH_PGMRATE.NOW). -/
def State.notePgm (s : State) (n : Nat) : State :=
  { s with mch := { s.mch with pgmLog := s.mch.pgmLog.filter (fun e => decide (s.ns ≤ e.1 + 1000000)) ++ [(s.ns, n)] } }

/-- The last stripe of a row that has been programmed frees the row's dies (R223, R229). -/
def State.rowEnd (s : State) (x : Stripe) : State :=
  if s.mte.stripes.any (fun (y : Stripe) => y.issued && y.lead == x.lead && y.group == x.group) then s
  else s.endBusy x.group (2 * x.lead + 1)

/-- Retire a block with a cause: RETIRE entry and event (R275, R278). -/
def State.retire (s : State) (block cause : Nat) : State :=
  let s := s.setBlock block { s.block block with st := 2 }
  let s := s.journal { type := 0x08, arg := BitVec.ofNat 8 cause, x := 0, y := 0, z := ppaOf block 0 }
  (s.raise 0x030 .mteRetire).checkHeadroom

/-- PGM_FAIL on the channel of a die, counted there and toward the die's fence (R241). -/
def State.noteProgramFail (s : State) (die : Nat) (p : Ppa) : State :=
  let s := s.raiseAt (chanPage (dieChan die)) .mchChPgmFail { dom := 6, inst := die, kind := 2, items := [p.toNat] }
  (s.countUp (chanPage (dieChan die)) 0x108 8 8).dieFailure die

/-- The set of a failed row takes no more stripes: it is Full, and goes to the scraper under reason 1 (R255, R272, R275). -/
def State.condemnSet (s : State) (id : Nat) : State :=
  match s.mte.sets.find id with
  | some r =>
    let t := { s with mte := { s.mte with sets := s.mte.sets.put id { r with st := max 3 r.st, reason := 1 } } }
    if r.st = 2 then t.journal { type := 0x06, arg := 0, x := BitVec.ofNat 64 id, y := 0, z := 0 } else t
  | none => s

/-- A closed metadata stripe begins its program where its group has room; else it waits for STRIPE_ISSUE (R215, R229). -/
def State.issueMeta (s : State) (id : Nat) : State :=
  match s.mte.stripes.find? (fun (x : Stripe) => x.id == id) with
  | none => s
  | some x =>
    if s.outOfOrder x then s.orderFault x
    else if s.progRoom x.group = 0 || s.mte.stripes.any (fun (y : Stripe) => y.group == x.group && y.issued && y.plane == x.plane) then s
    else s.startRow x [x]

/-- The set a stripe is being programmed in. -/
def State.fillsOf (s : State) (x : Stripe) : Nat := ((s.mte.sets.find x.setid).map SetRec.fills).getD 0

/-- Program a failed row's pages again in another set, with the same WSN and RELGEN (R275). -/
def State.programAgain (s : State) (x : Stripe) : State :=
  let fills := s.fillsOf x
  let s := { s with mte := { s.mte with stripes := s.mte.stripes.filter (fun (y : Stripe) => y.id != x.id) } }
  let keep := x.pages.filter (fun (p : StripePage) => p.tag.type != 2)
  let g := if s.groupState x.group = 2 then s.hostGroup.getD x.group else x.group
  let n := s.mte.nextStripe
  let s1 := ((s.rowEnd x).closeStripe g x.kind (if x.kind = 1 then 1 else if 2 ≤ x.kind then 2 else 0) keep fills).2
  let s1 := { s1 with mte := { s1.mte with stripes := s1.mte.stripes.map (fun (y : Stripe) => if y.id = n then { y with retry := true } else y) } }
  if 2 ≤ x.kind then s1.issueMeta n else s1

/-- A program fails on a die: ROW_INVALID, the row's pages again in another set, the block retired, and the set given to
the scraper under reason 1 (R241, R275). -/
def State.programFailure (s : State) (id die : Nat) : State :=
  match s.mte.stripes.find? (fun (x : Stripe) => x.id == id && x.issued) with
  | none => s
  | some x =>
    let p := s.placeOf x die
    let s := s.noteProgramFail die p
    let s := s.journal { type := 0x05, arg := BitVec.ofNat 8 x.plane, x := BitVec.ofNat 64 x.setid, y := 0, z := BitVec.ofNat 32 x.page }
    ((s.condemnSet x.setid).retire (ppaBlock p) 2).programAgain x

/-! ### Erases (R255, R276 to R278) -/

/-- A Released set is handed to the MCH for erase: each erase counts; a block at RETIRE erases or on a fenced die is
retired instead of returning (R255, R277, R278). -/
def State.eraseSet (s : State) (id : Nat) : State :=
  match s.mte.sets.find id with
  | none => s
  | some r =>
    let s := { s with mte := { s.mte with sets := s.mte.sets.put id { r with st := 6 } } }
    let s := s.each (r.blocks.map (fun b => b / 1024)) (fun s b =>
      let x := s.block b
      if x.st = 2 then s
      else if (s.die (b / 16384)).fenced then s.retire b 4
      else s.setBlock b { x with st := 4, erases := min 16777215 (x.erases + 1) })
    s.startErases r.group

/-- A void range leaves the table once no set below its ceiling remains outside Erased (R306). -/
def State.ageVoids (s : State) : State :=
  { s with mte := { s.mte with voids := s.mte.voids.filter (fun v => s.mte.sets.any (fun (e : Nat × SetRec) => decide (e.1 < v.ceil))) } }

/-- A set whose blocks have all been erased or retired no longer exists (R255). -/
def State.dropErasedSets (s : State) : State :=
  let gone (e : Nat × SetRec) : Bool :=
    e.2.st == 6 && e.2.blocks.all (fun b => let x := s.block (b / 1024); x.st == 2 || x.setid != e.1)
  if s.mte.sets.any gone then ({ s with mte := { s.mte with sets := s.mte.sets.filter (fun e => !gone e) } }).ageVoids else s

/-- Forget the pages of a block. -/
def State.wipeBlock (s : State) (b : Nat) : State :=
  { s with mch := { s.mch with pages := s.mch.pages.filter (fun e => e.1 / 1024 != b) } }

/-- An erase succeeds: the block is Erased, or retired at the threshold (R226, R236, R277, R278). -/
def State.eraseDone (s : State) (b : Nat) : State :=
  let x := s.block b
  if x.st != 4 then s else
  let g := dieGroup (b / 16384)
  let s := (s.wipeBlock b).setBlock b { st := 0, erases := x.erases, next := 0, setid := 0, reads := 0, d := 0, b := 1, anchored := false }
  let s := { s with mch := { s.mch with refresh := s.mch.refresh.filter (fun e => e.1 != b) } }
  let s := if s.regFld 0x030 0x128 0 24 ≤ x.erases then s.retire b 1 else s
  (s.endBusy g (2 * b + 2)).dropErasedSets

/-- An erase fails: the block is retired (R241, R276). -/
def State.eraseFailure (s : State) (b : Nat) : State :=
  let x := s.block b
  if x.st != 4 then s else
  let d := b / 16384
  let s := (s.wipeBlock b).setBlock b { x with setid := 0 }
  let s := s.raiseAt (chanPage (dieChan d)) .mchChErsFail { dom := 6, inst := d, kind := 2, items := [b * 1024] }
  let s := (s.countUp (chanPage (dieChan d)) 0x108 0 8).retire b 3
  let s := { s with mch := { s.mch with refresh := s.mch.refresh.filter (fun e => e.1 != b) } }
  ((s.endBusy (dieGroup d) (2 * b + 2)).dieFailure d).dropErasedSets

/-- A transfer on a channel fails its CRC: after its repeats the operation fails, a crumb read into its reconstruction, a program or an
erase as the die's own failure (R216, R241, log 77). -/
def State.busCrcFail (s : State) (ch : Nat) (op : BusOp) : State :=
  let (fails, s) := s.busCrc ch
  if !fails then s else
  let s := match op with
    | .read p c => if ppaChan p = ch then s.readBusFail p c else s
    | .program id die => if dieChan die.val = ch then s.programFailure id die.val else s
    | .erase p => if ppaChan p = ch then s.eraseFailure (ppaBlock p) else s
  s.busFence ch

/-! ### The journal (R258 to R263) -/

/-- A group can start a metadata program now: open, with room under its busy limit, and no row of its metadata set is being programmed or
waits (R215, R229, R230, R265). -/
def State.metaReady (s : State) (g : Nat) : Bool :=
  decide (s.groupState g < 2) && decide (0 < s.progRoom g) &&
    !s.mte.stripes.any (fun (x : Stripe) => x.group == g && (decide (2 ≤ x.kind) || x.issued))

/-- The metadata group, in turn: one that can start a program now where there is one (R604). -/
def State.metaGroup (s : State) : Nat :=
  let l := ((List.range 16).map (fun i => (s.mte.nextStripe + i) % 16)).filter (fun g => decide (s.groupState g < 2))
  (l.find? s.metaReady).getD (l.headD 0)

/-- Take `n` WSNs as pages of a type. -/
def State.metaPages : Nat → State → Byte → Nat → List StripePage → List StripePage × State
  | 0, s, _, _, l => (l, s)
  | n + 1, s, type, aux, l =>
    let (w, s) := s.takeWsn
    State.metaPages n s type aux (l ++ [{ tag := { blankTag (BitVec.ofNat 32 l.length) type w with aux := aux }, lines := [],
                                          from_ := none, die := 0 }])

/-- Close a journal stripe of 15 pages and begin its program (R259, R260, R290). -/
def State.closeJournal (s : State) : State :=
  if s.mte.jbuf.isEmpty || !s.mte.jprog.isEmpty then s else
  let g := s.metaGroup
  let first := s.mte.nextWsn
  let id := s.mte.nextStripe
  let (blank, s) := State.metaPages (s.dataPages g) s 0x03 0 []
  let split := journalPages blank.length s.mte.jbuf
  let pages := (split.zip blank).map (fun (e : List JEntry × StripePage) => { e.2 with lines := journalLines s.mte.trim e.1 })
  let cap := (split.map List.length).sum
  let (ok, s) := s.closeStripe g 2 2 pages 0
  if !ok then s else
  let s := { s with mte := { s.mte with jprog := s.mte.jbuf.take cap, jbuf := s.mte.jbuf.drop cap, jprogWsn := first } }
  s.issueMeta id

/-- Place one handed frame in the open host stripe, with the next WSN (R250). -/
def State.placeOne (s : State) (l : Lmp) : State :=
  let (w, s) := s.takeWsn
  { s with mte := { s.mte with gather := s.mte.gather ++ [{ tag := blankTag l 0x01 w, lines := [], from_ := none, die := 0 }] } }

/-- Place handed frames in stripes while WSNs and the journal allow (R250, R251, R263). -/
def State.placeHanded : Nat → State → State
  | 0, s => s
  | fuel + 1, s =>
    if s.mte.jfull || !s.wsnReady then s else
    match s.mte.handoff with
    | [] => s
    | l :: t =>
      let s := { s with mte := { s.mte with handoff := t } }
      State.placeHanded fuel ((s.placeOne l).closeGather false)

/-- The journal stripe is due: its pages are full, or an entry has to become durable for the writer to go on: WSN_RESERVE, SET_RELEASE,
REGION (R97, R251, R259, R273). -/
def State.journalDue (s : State) : Bool :=
  decide (127 * s.dataPages s.metaGroup ≤ s.mte.jbuf.length) ||
    s.mte.jbuf.any (fun (e : JEntry) => e.type == 0x09 || e.type == 0x07 || e.type == 0x0d)

/-- The journal stripe is closed and programmed as soon as it is due (R259). -/
def State.tendJournal (s : State) : State := if s.journalDue then s.closeJournal else s

/-- What waits for the MTE goes on, while it runs: a full gather closes, handed pages are placed, a WSN block is reserved, and the journal
is tended (R48, R251, R485). -/
def State.pump (s : State) : State :=
  if s.halted 0x030 then s else
  let s := s.closeGather false
  let s := State.placeHanded s.mte.handoff.length s
  (if !s.mte.handoff.isEmpty && !s.wsnReady && !s.mte.wsnEnd then s.reserveWsn else s).tendJournal

/-- All dies of a stripe report success (R241, R258). -/
def State.programDone (s : State) (id : Nat) : State :=
  match s.mte.stripes.find? (fun x => x.id == id && x.issued && x.kind ≤ 1) with
  | none => s
  | some x =>
    let s := { s with mte := { s.mte with stripes := s.mte.stripes.filter (fun y => y.id != id) } }
    let s := (s.rowEnd x).notePgm x.pages.length
    let s := (s.each x.pages (fun s p => s.landPage x p)).landParity x
    let s := s.each ((groupDies x.group).map dieChan) State.busOk
    (s.maybeFull x.setid).releaseUnmaps.pump

/-- Entries that wait for room in the journal buffer are written, and their sets may be Full (R255, R258). -/
def State.drainJwait : Nat → State → State
  | 0, s => s
  | fuel + 1, s =>
    match s.mte.jwait with
    | [] => s
    | (p, ppa) :: t =>
      if jbufMax ≤ s.mte.jbuf.length then s
      else State.drainJwait fuel ((({ s with mte := { s.mte with jwait := t } }).journalPage p ppa).maybeFull p.tag.setid)

/-- A metadata stripe that has been programmed lands its pages and its parity page (R222, R255, R258). -/
def State.landMeta (s : State) (x : Stripe) : State :=
  let s := { s with mte := { s.mte with stripes := s.mte.stripes.filter (fun (y : Stripe) => y.id != x.id) } }
  (((s.rowEnd x).each x.pages (fun s p => s.landPage x p)).landParity x).maybeFull x.setid

/-- A journal stripe has been programmed: its entries are durable, each with its page's WSN (R258, R262). -/
def State.journalDone (s : State) : State :=
  match s.mte.stripes.find? (fun (x : Stripe) => x.kind == 2 && x.issued) with
  | none => s
  | some x =>
    let base := s.mte.jprogWsn
    let split := journalPages s.mte.jprog.length s.mte.jprog
    let durable := ((List.range split.length).zip split).flatMap (fun (p : Nat × List JEntry) => p.2.map (fun e => (base + p.1, e)))
    let top := base + ((split.filter (fun l => !l.isEmpty)).length - 1)
    let s := s.landMeta x
    let s := { s with mte := { s.mte with jdur := s.mte.jdur ++ durable, jprog := [], jTop := top } }
    let s := State.drainJwait s.mte.jwait.length s
    s.checkJournal.releaseUnmaps.pump

/-- The entries of a type appended with that X are durable: none is left in the buffer or in the stripe being programmed. -/
def State.isDurable (s : State) (type : Byte) (x : BitVec 64) : Bool :=
  !(s.mte.jbuf ++ s.mte.jprog).any (fun (e : JEntry) => e.type == type && e.x == x)

/-- A WSN_RESERVE entry is durable: assignment goes on (R251). -/
def State.wsnDurable (s : State) : State :=
  let top := s.mte.jdur.foldl (fun m (e : Nat × JEntry) => if e.2.type = 0x09 then max m e.2.y.toNat else m) s.mte.durCeiling
  (({ s with mte := { s.mte with durCeiling := top } }).releaseUnmaps).pump

/-- The trim WSN: the lowest capture WSN of the newest images of changed map pages, or of the directory image if lower;
entries below it are stale (R262). -/
def State.trimJournal (s : State) : State :=
  let low := s.mte.captured.foldl (fun m e => min m e.2) s.mte.dirImage
  let t := max s.mte.trim low
  ({ s with mte := { s.mte with trim := t, jdur := s.mte.jdur.filter (fun (e : Nat × JEntry) => decide (t ≤ e.1)) } }).checkJournal

/-- Program a map page image and answer its PPA; the writer waits while no group can start a metadata program (R215, R229, R262, R263). -/
def State.programImage (s : State) (k cap : Nat) : Option Ppa × State :=
  if !s.metaReady s.metaGroup || !s.wsnRoom 15 then (none, { s with mte := { s.mte with ckptWait := true } }) else
  let g := s.metaGroup
  let s := { s with mte := { s.mte with ckptWait := false } }
  let c := State.metaPages 1 s 0x04 cap []
  let pages := c.1.map (fun (p : StripePage) => { p with tag := { p.tag with lmp := BitVec.ofNat 32 k }, lines := mapLines s.mte.map k })
  let id := s.mte.nextStripe
  let s := ((c.2.closeStripe g 3 2 pages 0).2).issueMeta id
  match s.mte.stripes.find? (fun (x : Stripe) => x.id == id && x.issued) with
  | some x => (some (s.placeOf x ((x.pages.map StripePage.die).headD 0)), s.landMeta x)
  | none => (none, s)

/-- Capture a changed map page with its CKPT entry (R262). -/
def State.checkpointPage (s : State) (k : Nat) : State :=
  if k ∉ s.mte.changed then s else
  let cap := s.mte.jTop
  match s.programImage k cap with
  | (none, s) => s
  | (some ppa, s) =>
    let old : Tab MapEntry := s.mte.image.filter (fun e => e.1 / 512 != k)
    let img := (s.mte.map.filter (fun e => e.1 / 512 == k)).foldl (fun (t : Tab MapEntry) e => t.put e.1 e.2) old
    let s := { s with mte := { s.mte with image := img, captured := s.mte.captured.put k cap, changed := removeAll s.mte.changed k } }
    s.journal { type := 0x0a, arg := 0, x := BitVec.ofNat 64 k, y := BitVec.ofNat 64 cap, z := ppa }

/-- Write both on-die tables with their IMAGE entry after a full pass (R262). -/
def State.checkpointImages (s : State) : State :=
  let cap := s.mte.jTop
  let r := s.takeWsn
  let s := { r.2 with mte := { r.2.mte with dirImage := cap, dirOk := true } }
  let s := s.journal { type := 0x0b, arg := 0, x := BitVec.ofNat 64 r.1, y := BitVec.ofNat 64 cap, z := 0 }
  if s.mte.changed.isEmpty then s.trimJournal else s

/-- One step of the checkpoint writer (R262). -/
def State.checkpoint (s : State) (step : CkptStep) : State :=
  match step with
  | .page n => s.checkpointPage n.toNat
  | .images => s.checkpointImages

/-! ### The scraper (R271 to R280, R306, R310) -/

/-- A newer copy of the page is on the medium. -/
def State.outdated (s : State) (k : Nat) (p : Page) : Bool :=
  s.mch.pages.any (fun (e : Nat × Page) => e.1 != k && e.2.whole && !e.2.isParity && e.2.tag.type == p.tag.type && e.2.tag.lmp == p.tag.lmp &&
    (p.tag.type == 4 || e.2.tag.wsn == p.tag.wsn) && newerTag e.2.tag p.tag)

/-- A programmed page is Valid or Retained: a copy that the map or the version index names, a journal page from the trim WSN on, the newest
image of a map page (R256, R262). -/
def State.livePage (s : State) (k : Nat) (p : Page) : Bool :=
  !p.isParity && match p.tag.type.toNat with
    | 1 => (s.entry p.tag.lmp).st == 1 && (s.entry p.tag.lmp).ppa.toNat == k
        || s.mte.index.any (fun e => e.lmp == p.tag.lmp && e.ppa.toNat == k)
    | 3 => p.whole && decide (s.mte.trim ≤ p.tag.wsn) && !s.outdated k p
    | 4 => p.whole && !s.outdated k p
    | _ => false

/-- The pages of a set but its parity pages: PPA and page. -/
def State.setPages (s : State) (r : SetRec) : List (Nat × Page) :=
  s.mch.pages.filter (fun e => !e.2.isParity && decide (e.1 / 1024 * 1024 ∈ r.blocks))

/-- The live pages of a set. -/
def State.setLivePages (s : State) (r : SetRec) : List (Nat × Page) := (s.setPages r).filter (fun e => s.livePage e.1 e.2)

/-- Integer logarithm to base 2. -/
def ilog2 (n : Nat) : Nat := Nat.log2 n

/-- The score of R272. -/
def State.dataScore (s : State) (r : SetRec) : Nat :=
  let valid := (s.setLivePages r).length
  let newest := (s.setPages r).foldl (fun m e => max m e.2.tag.ptime.toNat) 0
  let age := min (2 ^ 20) ((s.opMs - newest) / 1000)
  let ecount := r.blocks.foldl (fun m b => max m (s.block (b / 1024)).erases) 0
  (15360 - valid) * (16 + ilog2 (1 + age)) * (64 - ecount / 2 ^ 18) * 256 / (2 * valid + 64)

/-- The set may be a victim: Full with no page under way, and no source of its relocated pages still waits for its erase (R267, R272). -/
def State.mayVictim (s : State) (id : Nat) (r : SetRec) : Bool :=
  r.st == 3 && !s.setBusyPages id && r.sources.all (fun i => (s.mte.sets.find i).isNone)

/-- Candidate victims of a group. -/
def State.candidates (s : State) (g : Nat) : List (Nat × SetRec) :=
  s.mte.sets.filter (fun e => e.2.group == g && s.mayVictim e.1 e.2)

/-- The first set that holds a block requested for a reason, in order of request (R272). -/
def State.requested (s : State) (l : List (Nat × SetRec)) (reason : Nat) : Option (Nat × SetRec) :=
  ((s.mch.refresh.filter (fun e => e.2 == reason)).filterMap (fun q =>
    l.find? (fun e => decide (q.1 * 1024 ∈ e.2.blocks)))).head?

/-- The erase counts of a block's die-plane lie apart by more than MTE_WL.DELTA: the highest of all against the lowest in use
(R279). -/
def State.unlevel (s : State) (block : Nat) : Bool :=
  let delta := s.regFld 0x030 0x128 24 8 * 10000
  let l := s.mch.blocks.filter (fun e => e.1 / 4096 == block / 4096)
  let top := l.foldl (fun m e => max m e.2.erases) 0
  decide ((l.filter (fun e => e.2.st == 1)).foldl (fun m e => min m e.2.erases) 16777215 + delta < top)

/-- The set to level wear, the one with the least-worn Full block of such a die-plane, or to age out a void entry (R279, R306). -/
def State.wearVictim (s : State) (l : List (Nat × SetRec)) : Option (Nat × SetRec) :=
  let least := l.foldl (fun (best : Option (Nat × Nat × SetRec)) e =>
    match (e.2.blocks.map (fun b => b / 1024)).filter s.unlevel with
    | [] => best
    | b0 :: t =>
      let m := t.foldl (fun m b => min m (s.block b).erases) (s.block b0).erases
      (match best with
      | none => some (m, e)
      | some b => if m < b.1 then some (m, e) else best)) none
  match least with
  | some (_, e) => some e
  | none =>
    if 768 ≤ s.mte.voids.length then l.find? (fun e => (s.mte.voids.head?).any (fun v => decide (e.1 < v.ceil))) else none

/-- The best ordinary victim: the data set with the highest score; where there is none, the metadata or used reserve set with the fewest
live pages. R272 gives no order between the two classes: the data sets go first (log 79). -/
def State.ordinary (s : State) (l : List (Nat × SetRec)) : Option (Nat × SetRec) :=
  let data := l.filter (fun e => e.2.purpose ≤ 1)
  let pick (l : List (Nat × SetRec)) (better : SetRec → SetRec → Bool) : Option (Nat × SetRec) :=
    l.foldl (fun best e => match best with
      | none => some e
      | some b => if better e.2 b.2 then some e else best) none
  match pick data (fun a b => s.dataScore b < s.dataScore a) with
  | some e => some e
  | none => pick l (fun a b => (s.setLivePages a).length < (s.setLivePages b).length)

/-- The victim the order of R272 names, with its reason. -/
def State.victimOf (s : State) (g : Nat) : Option (Nat × SetRec × Nat) :=
  let l := s.candidates g
  let tag (r : Nat) (o : Option (Nat × SetRec)) : Option (Nat × SetRec × Nat) := o.map (fun e => (e.1, e.2, r))
  let fenced := l.find? (fun e => e.2.blocks.any (fun b => (s.die (b / 1024 / 16384)).fenced))
  (tag 1 (l.find? (fun e => e.2.reason == 1))) <|> (tag 2 (s.requested l 2)) <|> (tag 3 fenced) <|> (tag 4 (s.requested l 4))
    <|> (tag 5 (s.requested l 5)) <|> (tag 6 (s.wearVictim l))
    <|> (if g ∈ s.mte.reclaim then tag 7 (s.ordinary l) else none)

/-- The levels of R271: ordinary reclaim runs from LOW until HIGH. -/
def State.levelReclaim (s : State) (g : Nat) : State :=
  let n := s.freeSets g
  if n < s.regFld 0x030 0x120 10 10 then { s with mte := { s.mte with reclaim := insertNew s.mte.reclaim g } }
  else if s.regFld 0x030 0x120 0 10 ≤ n then { s with mte := { s.mte with reclaim := removeAll s.mte.reclaim g } }
  else s

/-- The page can be read, from its die or by reconstruction (R231, R243). -/
def State.readable (s : State) (p : Ppa) : Bool := !(s.die (ppaDie p)).fenced || !s.mateFenced p

/-- The relocation copy of a live page, from its die, or rebuilt from its stripe where the die is fenced (R231, R242, R257, R273, R276). -/
def State.relocCopy (s : State) (e : Nat × Page) : StripePage :=
  let src : Ppa := BitVec.ofNat 32 e.1
  { tag := { e.2.tag with relgen := e.2.tag.relgen + 1, reloc := true }, from_ := some src, die := 0,
    lines := if !s.readable src then (List.range 64).map (fun i => (i, poisonLine))
      else if (s.die (ppaDie src)).fenced then (List.range 64).map (fun i => (i, s.xorLine src i)) else e.2.lines }

/-- The eight crumbs of a relocated page are read: each counts, and where its references pass R225 the drift factor follows; what the die
senses is a free value (R226, R236, log 78). -/
def State.relocRead (s : State) (e : Nat × Page) : State :=
  let p : Ppa := BitVec.ofNat 32 e.1
  s.each (List.range 8) (fun s _ =>
    if (s.die (ppaDie p)).fenced then s.countRecon p
    else
      let f := s.fresh
      let refs := (List.range 4).map (fun i => f.1 / 256 ^ i % 256)
      let b := ppaBlock p
      let s := f.2.countRead b
      if s.refsOk (s.block b) refs then s.setBlock b ((s.block b).observe (refs.getD 3 0)) else s)

/-- Close relocation stripes until the pages are used up, or the group can take no more (R273). -/
def State.relocStripes : Nat → State → Nat → Nat → Nat → List StripePage → State
  | 0, s, _, _, _, _ => s
  | fuel + 1, s, g, src, reason, l =>
    if l.isEmpty then s else
    let n := s.dataPages g
    let (ok, s) := s.closeStripe g 1 1 (l.take n) reason
    if !ok then s else
    let id := (s.mte.stripes.getLast?).map Stripe.setid
    let s := match id with
      | some i => match s.mte.sets.find i with
        | some r => { s with mte := { s.mte with sets := s.mte.sets.put i { r with sources := insertNew r.sources src } } }
        | none => s
      | none => s
    State.relocStripes fuel s g src reason (l.drop n)

/-- A copy of a page is under way in a relocation stripe. -/
def State.copying (s : State) (k : Nat) : Bool :=
  let of (p : StripePage) : Bool := p.from_.any (fun src => src.toNat == k)
  s.mte.stripes.any (fun (x : Stripe) => x.pages.any of) || s.mte.jwait.any (fun (e : StripePage × Ppa) => of e.1)

/-- Copy the live pages of a victim of which no copy is under way into relocation stripes; lost crumbs raise DATA_LOST with their segments
(R272, R273, R276). -/
def State.relocate (s : State) (g id : Nat) (r : SetRec) : State :=
  let live := (s.setLivePages r).filter (fun e => !s.copying e.1)
  let lost := (live.filter (fun e => e.2.tag.type == 1 && !s.readable (BitVec.ofNat 32 e.1))).map
    (fun e => (s.seg (lmpLsi e.2.tag.lmp)).gsn.toNat)
  let s := if lost.isEmpty then s else s.raiseAt 0x030 .mteDataLost { kind := 1, items := lost.foldl insertNew [] }
  let s := s.each live State.relocRead
  State.relocStripes (live.length + 1) s g id r.reason (live.map s.relocCopy)

/-- The scraper takes a victim in a group, or goes on with the one it has there (R271 to R273). -/
def State.scrape (s : State) (g : Nat) : State :=
  let s := s.levelReclaim g
  if s.groupState g = 2 then s else
  match s.mte.victim.find g with
  | some id => (s.mte.sets.find id).elim s (fun r => s.relocate g id r)
  | none =>
    match s.victimOf g with
    | none => s
    | some (id, r, reason) =>
      let r := { r with st := 4, reason := reason }
      let s := { s with mte := { s.mte with sets := s.mte.sets.put id r, victim := s.mte.victim.put g id } }
      s.relocate g id r

/-- Every live page of a victim has its new copy: SET_RELEASE is appended (R273). -/
def State.relocDone (s : State) (id : Nat) : State :=
  match s.mte.sets.find id with
  | some r =>
    if r.st = 4 && (s.setLivePages r).isEmpty && id ∉ s.mte.releasing then
      let s := { s with mte := { s.mte with releasing := s.mte.releasing ++ [id] } }
      s.journal { type := 0x07, arg := 0, x := BitVec.ofNat 64 id, y := 0, z := 0 }
    else s
  | none => s

/-- SET_RELEASE is durable: the set is Released and its blocks are handed to the MCH for erase (R255, R273). -/
def State.releaseDurable (s : State) (id : Nat) : State :=
  if id ∈ s.mte.releasing && s.isDurable 0x07 (BitVec.ofNat 64 id) then
    let s := { s with mte := { s.mte with releasing := removeAll s.mte.releasing id,
                                          victim := s.mte.victim.filter (fun e => e.2 != id) } }
    s.eraseSet id
  else s

end Sys2Proof.Machine
end

