-- ==== Sys2Proof/Machine/Slices.lean ====
section
/-! DEFINITION. The slices: line cache, lock groups, invalidation, lanes, merge store, release, atomics, drains and the
slice fence (R106 to R142, R514), and steps 2 and 3 of a flush (R173). -/

namespace Sys2Proof.Machine

/-- The page of a slice. -/
def slcPage (n : Nat) : Nat := 0x010 + n

/-! ### Lock groups and the line cache (R109 to R128) -/

/-- The slice of a line. -/
def State.sliceOf (s : State) (a : LineAddr) : Slice := s.slice (sliceHash a)

/-- SLC_LC_CTL.ENABLE (R118). -/
def State.lcEnabled (s : State) (n : Nat) : Bool := bitAt (s.reg (slcPage n) 0x104) 0

/-- Ways of group `g` (R125). -/
def State.wayCount (s : State) (n g : Nat) : Nat := s.regFld (slcPage n) 0x120 (4 * g) 4

/-- The group of a way: ways are taken from 15 downward in group order (R125). -/
def State.wayGroup (s : State) (n w : Nat) : Option Nat :=
  let c := (List.range 4).map (s.wayCount n)
  let ends := (List.range 4).map (fun g => (c.take (g + 1)).foldl (· + ·) 0)
  (List.range 4).find? (fun g => 15 - w < ends.getD g 0)

/-- The range of lock group `g`: enabled, first page, pages (R125). -/
def State.lockRange (s : State) (n g : Nat) : Bool × Nat × Nat :=
  let lo := (s.reg (slcPage n) (0x128 + 8 * g)).toNat
  let hi := (s.reg (slcPage n) (0x12c + 8 * g)).toNat
  (decide (2 ^ 31 ≤ hi), lo + hi % 2 ^ 12 * 2 ^ 32, hi / 2 ^ 12 % 2 ^ 13 + 1)

/-- The enabled group with at least one way whose range holds the line (R126). -/
def State.lineGroup (s : State) (n : Nat) (a : LineAddr) : Option Nat :=
  (List.range 4).find? (fun g => let r := s.lockRange n g
    r.1 && decide (0 < s.wayCount n g) && decide (r.2.1 ≤ pageOf a) && decide (pageOf a < r.2.1 + r.2.2))

/-- The candidate ways of a group, or of no group (R113). -/
def State.classWays (s : State) (n : Nat) (g : Option Nat) : List Nat :=
  (List.range 16).filter (fun w => s.wayGroup n w == g)

/-- A way of a slice. -/
def Slice.way (x : Slice) (set w : Nat) : Way := x.lc.get default (16 * set + w)

/-- Store a way. -/
def Slice.setWay (x : Slice) (set w : Nat) (v : Way) : Slice := { x with lc := x.lc.set default (16 * set + w) v }

/-- The way that holds a line. -/
def Slice.findWay (x : Slice) (a : LineAddr) : Option Nat :=
  (List.range 16).find? (fun w => let v := x.way (setHash a) w
    v.valid && v.tag == lineTag a)

/-- Touch a way within its class (R113). -/
def Slice.touch (x : Slice) (set : Nat) (cls : List Nat) (w age : Nat) : Slice :=
  let x := cls.foldl (fun (x : Slice) v => let y := x.way set v
    if v != w && y.valid && y.age < age then x.setWay set v { y with age := y.age + 1 } else x) x
  x.setWay set w { x.way set w with age := 0 }

/-- A way that holds a line joins a class: it takes the first age that no way of the class has (R113, log 72). -/
def Slice.rejoin (x : Slice) (set : Nat) (cls : List Nat) (w : Nat) : Slice :=
  let used (k : Nat) : Bool := cls.any (fun v => (x.way set v).valid && (x.way set v).age == k)
  x.setWay set w { x.way set w with valid := true, age := ((List.range 16).find? (fun k => !used k)).getD 15 }

/-- The victim of a class: an empty way, else the oldest (R113). -/
def Slice.victim (x : Slice) (set : Nat) (cls : List Nat) : Option Nat :=
  match cls.find? (fun w => !(x.way set w).valid) with
  | some w => some w
  | none => (cls.foldl (fun (best : Option (Nat × Nat)) w => let a := (x.way set w).age
      match best with
      | none => some (w, a)
      | some b => if b.2 < a then some (w, a) else best) none).map Prod.fst

/-- The age of a way before an install: its own, or for an empty one the first age that no way of its class has (R113). -/
def Slice.roomAge (x : Slice) (set : Nat) (cls : List Nat) (w : Nat) : Nat :=
  if (x.way set w).valid then (x.way set w).age
  else ((List.range 16).find? (fun k => !cls.any (fun v => (x.way set v).valid && (x.way set v).age == k))).getD 15

/-- The cache policy a slice applies to a line: Uncached while its line cache is disabled (R92, R119). -/
def State.cachePolicy (s : State) (n : Nat) (region : Nat) : Nat :=
  if s.lcEnabled n then (s.region region).cache else 2

/-- The region of a line's local segment. -/
def State.lineRegion (s : State) (a : LineAddr) : Nat :=
  match s.lsiOf (lineGsn a) with
  | some lsi => (s.seg lsi).region.toNat
  | none => 0

/-- The LMP of a line held here. -/
def State.lineLmp (s : State) (a : LineAddr) : Option Lmp := (s.lsiOf (lineGsn a)).map (fun lsi => lmpOf lsi a)

/-- Install a passed fill (R110 to R113); answers whether it was installed. -/
def State.install (s : State) (n : Nat) (a : LineAddr) (data : Line) (stale : Bool) : Bool × State :=
  let region := s.lineRegion a
  let g := s.lineGroup n a
  let pol := s.cachePolicy n region
  if stale || pol = 2 || (pol = 1 && g.isNone) then (false, s.perfEvent (slcPage n) 0x09 1) else
  let cls := s.classWays n g
  let x := s.slice n
  let set := setHash a
  match x.findWay a with
  | some w =>
    let x := x.setWay set w { x.way set w with data := data, region := BitVec.ofNat 8 region }
    (true, (s.setSlice n (x.touch set (s.classWays n (s.wayGroup n w)) w (x.way set w).age)).perfEvent (slcPage n) 0x08 1)
  | none =>
    match x.victim set cls with
    | some w =>
      let age := x.roomAge set cls w
      let x := x.setWay set w { valid := true, tag := lineTag a, data := data, region := BitVec.ofNat 8 region, age := age }
      (true, (s.setSlice n (x.touch set cls w age)).perfEvent (slcPage n) 0x08 1)
    | none => (false, s.perfEvent (slcPage n) 0x09 1)

/-- A released store updates the way that holds its line; a poisoned line leaves the cache (R110, R112, R132). -/
def State.updateWay (s : State) (n : Nat) (a : LineAddr) (data : Line) (poison : Bool) : State :=
  if !s.lcEnabled n then s else
  let x := s.slice n
  match x.findWay a with
  | some w =>
    let y := x.way (setHash a) w
    s.setSlice n (x.setWay (setHash a) w (if poison then { y with valid := false } else { y with data := data }))
  | none => s

/-! ### Invalidation (R121 to R124) -/

/-- The line of a cache key. -/
def keyLine (n k : Nat) (w : Way) : LineAddr := lineOfWay n (k / 16) w.tag

/-- A request covers a line of a region. -/
def InvReq.covers (r : InvReq) (a : LineAddr) (region : Byte) : Bool :=
  match r with
  | .full => true
  | .range p c => decide (p.toNat ≤ pageOf a) && decide (pageOf a < p.toNat + c.toNat)
  | .region g => region == g

/-- The engine starts on the request at the front: misses already issued to its lines are not installed, and a value that a lane entry
obtained for one of them is dropped (R123). -/
def State.startInv (s : State) (n : Nat) : State :=
  let x := s.slice n
  match x.inv with
  | [] => s
  | r :: _ =>
    let hit (a : LineAddr) : Bool := r.covers a (BitVec.ofNat 8 (s.lineRegion a))
    s.setSlice n { x with misses := x.misses.map (fun (m : MissEntry) => if hit m.line then { m with stale := true } else m),
                          lanes := x.lanes.map (fun (e : LaneEntry) => if hit e.line then { e with current := none } else e) }

/-- Queue an invalidation; it starts at once on an idle engine (R121). -/
def State.queueInv (s : State) (n : Nat) (r : InvReq) : State :=
  let x := s.slice n
  let s := s.setSlice n { x with inv := x.inv ++ [r] }
  if x.inv.isEmpty then s.startInv n else s

/-- Remove the ways an invalidation covers, counting emptied locked ways (R122, R124). -/
def State.sweep (s : State) (n : Nat) (r : InvReq) : State :=
  let x := s.slice n
  let hit (e : Nat × Way) : Bool := e.2.valid && r.covers (keyLine n e.1 e.2) e.2.region
  let locked := (x.lc.filter (fun e => hit e && (s.wayGroup n (e.1 % 16)).isSome)).length
  let s := s.setSlice n { x with lc := x.lc.filter (fun e => !hit e) }
  if locked = 0 then s else (s.countUp (slcPage n) 0x14c 4 16 locked).raise (slcPage n) .slcLockInv

/-- The running invalidation ends; a full one sets INV_DONE; the next begins (R118, R122). -/
def State.invDone (s : State) (n : Nat) : State :=
  match (s.slice n).inv with
  | [] => s
  | r :: t =>
    let s := s.sweep n r
    let s := s.setSlice n { s.slice n with inv := t }
    let s := if r == .full then s.setRegFld (slcPage n) 0x108 1 1 1 else s
    s.startInv n

/-- Queue an invalidation in every slice. -/
def State.invAll (s : State) (r : InvReq) : State := s.each (List.range 8) (fun s n => s.queueInv n r)

/-- The engine of a slice works off every request that came before (R121). -/
def State.serveInv (s : State) (n : Nat) : State := s.each (s.slice n).inv (fun s _ => s.invDone n)

/-- An internal requester's invalidation in every slice: the engine serves what came before it first, in arrival order, and the
operation waits for its own walk, which ends within the operation's step (R121 to R123, log 71). -/
def State.sweepAll (s : State) (r : InvReq) : State :=
  s.each (List.range 8) (fun s n => ((s.serveInv n).queueInv n r).invDone n)

/-- The lock shadows take effect: ways that join a group are emptied. A way that leaves a group keeps its line, and its age becomes the
oldest free one of its new class, in way order, so that the ages of a class stay a permutation (R113, R125, log 72). -/
def State.commitLocks (s : State) (n : Nat) : State :=
  let old := s
  let p := slcPage n
  let s := s.each [0x120, 0x128, 0x12c, 0x130, 0x134, 0x138, 0x13c, 0x140, 0x144] (fun s o =>
    { s.setReg p o (s.shadowReg p o) with shadow := s.shadow.del (regAddr p o) })
  let x := s.slice n
  let moved (k : Nat) : Bool := s.wayGroup n (k % 16) != old.wayGroup n (k % 16)
  let kept := x.lc.filter (fun e => !((s.wayGroup n (e.1 % 16)).isSome && moved e.1))
  let left := (kept.filter (fun e => moved e.1)).map (fun e => (e.1, { e.2 with valid := false }))
  let x : Slice := { x with lc := kept.map (fun e => if moved e.1 then (e.1, { e.2 with valid := false }) else e) }
  let x := left.foldl (fun (x : Slice) e => x.rejoin (e.1 / 16) (s.classWays n none) (e.1 % 16)) x
  { (s.setSlice n x) with pages := { s.pages with committing := removeAll s.pages.committing p } }

/-! ### Values of a line at its slice (R50) -/

/-- The youngest merge-store entry of a line. -/
def Slice.merged (x : Slice) (a : LineAddr) : Option MergeEntry := x.merge.reverse.find? (fun m => m.line == a)

/-- The line in its frame, or on the medium, as stored: none when its page must be filled or read from a page that is
Poisoned (R50, R54, R248). -/
def State.storedLine (s : State) (a : LineAddr) : SLine :=
  match s.lineLmp a with
  | none => unwrittenLine
  | some l =>
    let i := lineInPage a
    match s.dtc.waiting.reverse.find? (fun w => w.line == a) with
    | some w => w.sl
    | none =>
    let fromMedium : SLine :=
      let e := s.entry l
      match e.st.toNat, s.pageAt e.ppa with
      | 1, some p => if s.readable e.ppa then pageLineOf p.lines i else poisonLine
      | 2, _ => poisonLine
      | _, _ => unwrittenLine
    match s.frameOf l with
    | some (_, f) =>
      match f.held.reverse.find? (fun h => h.1 == i), f.st.toNat with
      | some h, _ => h.2.1
      | none, 1 => fromMedium
      | none, 5 => if bitAt f.mask i then pageLineOf f.lines i else fromMedium
      | none, _ => pageLineOf f.lines i
    | none => fromMedium

/-- A line's stored value through the checks of Crust in Verified order: data and poison (R435, R436, R439). -/
def State.verifiedValue (s : State) (a : LineAddr) : (Line × Bool) × State :=
  match s.crustCheck a (s.storedLine a) with
  | .pass d => ((d, false), s)
  | .poison => ((0, true), s)
  | .missing => ((0, true), s.keyMissing (s.keyRangeOf (lineGsn a)))
  | .fail m _ => ((0, true), (if m then s.krMismatch else s).tagFail)

/-- The line's current value where it is in the slice: merge store, line cache, or the value that its miss entry obtained, which every
later release refreshes and every invalidation of the line drops (R131, R150). -/
def State.currentIn (s : State) (n : Nat) (e : LaneEntry) : Option (Line × Bool) :=
  let x := s.slice n
  match x.merged e.line with
  | some m => some (m.data, m.poison)
  | none =>
    match (if s.lcEnabled n then x.findWay e.line else none) with
    | some w => some ((x.way (setHash e.line) w).data, false)
    | none => e.current

/-! ### Atomics (R136 to R138) -/

/-- Bytes of an operand size code: 4, 8 or 16. -/
def atomBytes (size : BitVec 2) : Nat := 2 ^ (size.toNat + 2)

/-- The operation is listed at that size, and its target is aligned (R136 to R138). -/
def atomOk (op : BitVec 4) (size : BitVec 2) (off : BitVec 6) : Bool :=
  decide (op.toNat ≤ 9) && decide (size.toNat ≤ 2) && (decide (size.toNat ≤ 1) || decide (8 ≤ op.toNat))
    && decide (off.toNat % atomBytes size = 0)

/-- The value stored by an operation, or none (R136). -/
def atomStore (op : BitVec 4) (bytes old a b : Nat) : Option Nat :=
  let m := 2 ^ (8 * bytes)
  let half := m / 2
  let a := a % m
  let b := b % m
  let sgn (x : Nat) : Nat := (x + half) % m
  match op.toNat with
  | 0 => some ((old + a) % m)
  | 1 => some (old &&& a)
  | 2 => some (old ||| a)
  | 3 => some (old ^^^ a)
  | 4 => some (if sgn a < sgn old then a else old)
  | 5 => some (if sgn old < sgn a then a else old)
  | 6 => some (min old a)
  | 7 => some (max old a)
  | 8 => some a
  | 9 => if old = a then some b else none
  | _ => none

/-! ### Release (R131 to R133, R61, R388) -/

/-- A segment's mirror mode: 1 Sync, 2 Lagged, for a line held here. -/
def State.mirrorOf (s : State) (a : LineAddr) : Nat :=
  match s.lsiOf (lineGsn a) with
  | some lsi => if (s.seg lsi).partner = 0 || (s.seg lsi).st != 1 then 0 else (s.seg lsi).mmode.toNat
  | none => 0

/-- Releases of a line to a Durable region, of a region under Hold, or of a pair at its lag bound wait (R71, R131, R389,
R390). -/
def State.releaseHeld (s : State) (a : LineAddr) : Bool :=
  match s.lineLmp a with
  | none => false
  | some l => s.holdsReleases l || decide (s.regionOfLmp l ∈ s.mte.heldRegions)
      || decide (BitVec.ofNat 26 (lineGsn a) ∈ s.sve.lagHeld)
      || (s.mirrorOf a != 0 && decide (65536 ≤ s.sve.updates.length)) || (s.mte.wsnEnd && s.persistOf l != 0)

/-- Guard refuses stores to the line's region (R296, R297). -/
def State.guardRefuses (s : State) (a : LineAddr) : Bool := (s.rwr (s.lineRegion a)).guard == 2

/-- A lane: one per head, per stream, per internal queue (R143). -/
def laneOf : Ident → Nat
  | .head h _ => h.val
  | .stream i => 64 + i.toNat
  | .internal q => 1088 + q

/-- A head's barrier markers that slice `n` has not reported: a request ahead of the marker has not reached what the kind
requires (R131, R155). -/
def State.headMarks (s : State) (n : Nat) : List (Nat × Barrier) :=
  s.heads.flatMap (fun e => (e.2.barriers.filter (fun (b : Barrier) => e.2.outs.any (fun (o : Outst) =>
    decide (o.serial < b.serial) && barrierHolds b.kind o.kind && sliceHash o.line == n && (s.lsiOf (lineGsn o.line)).isSome))).map
      (fun b => (e.1, b)))

/-- The barrier markers of peers that slice `n` has not reported. -/
def State.peerMarks (s : State) (n : Nat) : List PeerMark :=
  s.fxb.marks.filter (fun (m : PeerMark) => !m.gpf && s.fxb.served.any (fun q =>
    q.1 == m.r.src && decide (q.2.1 ∈ m.tags) && q.2.2.2 == n))

/-- Markers of internal engines that slice `n` has not reported: an entry of a queue of the engine ahead of the marker is still
unreleased, or a read ahead of it has not left (R148). -/
def State.engineMarks (s : State) (n : Nat) : List (Nat × Nat) :=
  let x := s.slice n
  let of_ (k : Nat) (i : Ident) : Bool := match i with | .internal q => q / 4 == k | _ => false
  x.marks.filter (fun m => x.lanes.any (fun e => of_ m.1 e.ident && decide (e.uid < m.2)) ||
    x.misses.any (fun y => y.waiters.any (fun w => of_ m.1 w.ident && !w.served && decide (w.serial < m.2))))

/-- The lanes that hold a barrier marker, one entry for each marker: a marker of a head or of a peer stands in the lane of its head or
stream, one of an internal engine in the lane of the engine's queue 0 (R129, R130, R148). -/
def State.markLanes (s : State) (n : Nat) : List Nat :=
  (s.headMarks n).map Prod.fst ++ (s.peerMarks n).map (fun m => 64 + m.r.stream.toNat) ++ (s.engineMarks n).map (fun m => 1088 + 4 * m.1)

/-- Entries of one lane without its markers. -/
def Slice.laneLen (x : Slice) (lane : Nat) : Nat := (x.lanes.filter (fun e => laneOf e.ident = lane)).length

/-- Lane-pool entries in use: lane entries, and the markers for which their lane and the pool have room; a marker without room waits at
the crossbar (R130). -/
def State.laneUsed (s : State) (n : Nat) : Nat :=
  let x := s.slice n
  let marks := s.markLanes n
  let room (l : Nat) : Nat := min (marks.count l) (s.regFld (slcPage n) 0x154 0 14 - x.laneLen l)
  min 8192 (x.lanes.length + (marks.eraseDups.map room).sum)

/-- Entries of one lane, its markers among them. -/
def State.laneLoad (s : State) (n lane : Nat) : Nat := (s.slice n).laneLen lane + (s.markLanes n).count lane

/-- An unreported barrier marker of its source lies behind a lane entry (R129). -/
def State.markBehind (s : State) (n : Nat) (e : LaneEntry) : Bool :=
  match e.ident with
  | .head h _ => (s.headMarks n).any (fun m => decide (m.1 = h.val) && decide (e.upto < m.2.places.getD n 0))
  | .stream _ => (s.peerMarks n).any (fun m => decide (e.upto < m.places.getD n 0) && e.waits.any (fun w => match w.sender with
    | .peer dev _ _ => dev == m.r.src
    | _ => false))
  | .internal q => (s.engineMarks n).any (fun m => m.1 == q / 4 && decide (e.upto < m.2))

/-- A STORE or FULL barrier marker of its source lies unreported ahead of a lane entry: of its head, of the peer that sent it, or of its
engine (R131, R148). -/
def State.markAhead (s : State) (n : Nat) (e : LaneEntry) : Bool :=
  match e.ident with
  | .head h _ => (s.headMarks n).any (fun m => decide (m.1 = h.val) && m.2.kind != 1 && decide (m.2.places.getD n 0 ≤ e.uid))
  | .stream _ => (s.peerMarks n).any (fun m => m.kind != 1 && decide (m.places.getD n 0 ≤ e.uid) && e.waits.any (fun w => match w.sender with
    | .peer dev _ _ => dev == m.r.src
    | _ => false))
  | .internal q => (s.engineMarks n).any (fun m => m.1 == q / 4 && decide (m.2 ≤ e.uid))

/-- An internal engine sets a FULL marker behind its requests in every slice (R148). -/
def State.engineMark (s : State) (engine : Nat) : State :=
  s.each (List.range 8) (fun s n => s.setSlice n { s.slice n with marks := s.engineMarks n ++ [(engine, (s.slice n).serial)] })

/-- Every slice has reported the markers of an engine (R148). -/
def State.engineClear (s : State) (engine : Nat) : Bool :=
  (List.range 8).all (fun n => !(s.engineMarks n).any (fun m => m.1 == engine))

/-- Drop a lane entry. -/
def State.freeLane (s : State) (n uid : Nat) : State :=
  s.setSlice n { s.slice n with lanes := (s.slice n).lanes.filter (fun e => e.uid != uid) }

/-- The key range of a line is Active; while it is not, the line is stored as poison, and a Late store completes with an error (R432). -/
def State.keyActive (s : State) (a : LineAddr) : Bool := (s.krange (s.keyRangeOf (lineGsn a))).st == 1

/-- A store's Late point comes after its release: at the mirror holder of a Sync pair, or with its page's program (R61, R388). -/
def State.pointLater (s : State) (a : LineAddr) : Bool := s.mirrorOf a = 1 || (s.lineLmp a).any s.strictPage

/-- What the waiters of a released store are told (R61, R340, R388, R432). -/
def State.tellReleased (s : State) (a : LineAddr) (ws : List Waiting) : State :=
  if !s.keyActive a then s.badAll ws 1
  else if s.mirrorOf a = 1 then s
  else if (s.lineLmp a).any s.strictPage then s.each ws (fun s w => s.answerPoint w 2 false)
  else s.answerAll ws 2

/-- The peer whose request came last: its device and tag (R387). -/
def peerOf (ws : List Waiting) : Option (Dev × BitVec 16) :=
  ws.foldl (fun acc w => match w.sender with
    | .peer dev tag _ => some (dev, tag)
    | _ => acc) none

/-- Whose store it is: a head's, or a peer's (R179). -/
def Waiting.src (w : Waiting) : Option Nat :=
  match w.sender with
  | .head h _ => some h.val
  | .peer dev _ _ => some (64 + dev.toNat)
  | _ => none

/-- The new value of a line for the requests that wait with an older one: its miss entry, and the lane entries that obtained their line
through one (R52, R131, R150). -/
def Slice.refresh (x : Slice) (a : LineAddr) (v : Line × Bool) : Slice :=
  { x with misses := x.misses.map (fun (m : MissEntry) => if m.line == a then { m with newer := some v } else m),
           lanes := x.lanes.map (fun (e : LaneEntry) => if e.line == a && e.current.isSome then { e with current := some v } else e) }

/-- A GPF runs in phase 2, at a head or for a peer (R179). -/
def State.gpfRuns (s : State) : Bool := s.heads.any (fun e => e.2.gpf.isSome) || s.fxb.marks.any PeerMark.gpf

/-- A release to a Strict region or a Sync pair drains at once, and so does every release in the Switch phase of a migration of its segment,
at a fenced slice, or, but to a Volatile region, during a GPF (R134, R179, R380, R388, R514). -/
def State.drainsNow (s : State) (n : Nat) (a : LineAddr) : Bool :=
  s.pointLater a || s.isFenced 4 n || (s.gpfRuns && (s.lineLmp a).any (fun l => s.persistOf l != 0)) ||
    s.sve.ops.any (fun (e : Nat × BulkOp) => e.2.kind == 0 && e.2.phase == 3 && e.2.gsn.toNat == lineGsn a)

/-- Put a whole released line into the merge store, over the non-draining entry of the line, else as a new entry; the waiters whose point
comes later stay with it (R132, R134). -/
def State.mergeLine (s : State) (n : Nat) (a : LineAddr) (data : Line) (poison : Bool) (all : List Waiting) : State :=
  let x := s.slice n
  let now := s.drainsNow n a
  let ws := if s.keyActive a && s.pointLater a then all else []
  let peer := peerOf all
  let srcs := all.filterMap Waiting.src
  let x := if x.merge.any (fun m => m.line == a && !m.draining) then
      { x with merge := x.merge.map (fun (m : MergeEntry) =>
        if m.line == a && !m.draining then { m with data := data, poison := poison, waits := m.waits ++ ws, draining := now, peer := peer,
                                                            srcs := srcs.foldl insertNew m.srcs } else m) }
    else { x with merge := x.merge ++ [{ line := a, data := data, poison := poison, draining := now, waits := ws, peer := peer, srcs := srcs.foldl insertNew [] }] }
  let s := (s.setSlice n (x.refresh a (data, poison))).updateWay n a data poison
  let s := if now then s.perfEvent (slcPage n) 0x0d 1 else s
  if poison then s.notePoison a else s.clearPoison a

/-- The high watermark: oldest entries drain until the others fall below LOW (R134). -/
def State.checkHigh (s : State) (n : Nat) : State :=
  let x := s.slice n
  let hi := s.regFld (slcPage n) 0x150 8 8
  let lo := s.regFld (slcPage n) 0x150 0 8
  if hi * 24576 ≤ x.merge.length * 100 then
    let nd := (x.merge.filter (fun m => !m.draining)).length
    let keep := (lo * 24576 - 1) / 100
    let k := nd - keep
    (s.setSlice n { x with merge := (x.merge.foldl (fun (acc : Nat × List MergeEntry) m =>
      if !m.draining && 0 < acc.1 then (acc.1 - 1, acc.2 ++ [{ m with draining := true }]) else (acc.1, acc.2 ++ [m])) (k, [])).2 }).perfEvent
        (slcPage n) 0x0d k
  else s

/-- A refused partial store or atomic: LINE_REFUSED; a Late store errs, an atomic returns poison (R133). -/
def State.refuseEntry (s : State) (n : Nat) (e : LaneEntry) : State :=
  let s := (s.freeLane n e.uid).raise (slcPage n) .slcLineRefused
  match e.op with
  | .store => s.badAll e.waits 1
  | .atomic .. => s.each e.waits (fun s w => (s.answerAtomic w.sender 0 true).answerBad { w with late := false } 1)

/-- A released line enters the merge store, and its waiters are told (R61, R132, R134). -/
def State.releaseLine (s : State) (n : Nat) (a : LineAddr) (data : Line) (poison : Bool) (ws : List Waiting) : State :=
  ((s.mergeLine n a data poison ws).tellReleased a ws).checkHigh n

/-- Release an entry whose conditions hold, over the current value where it needs one (R131 to R133, R65). -/
def State.releaseNow (s : State) (n : Nat) (e : LaneEntry) (cur : Option (Line × Bool)) : State :=
  match e.op with
  | .store =>
    if e.mask = fullMask then
      let s := (s.freeLane n e.uid).perfEvent (slcPage n) 0x0a 1
      s.releaseLine n e.line e.data e.poison e.waits
    else
      match cur with
      | some (d, false) =>
        let s := (s.freeLane n e.uid).perfEvent (slcPage n) 0x0a 1
        s.releaseLine n e.line (overlay d e.data e.mask) e.poison e.waits
      | _ => s.refuseEntry n e
  | .atomic op size off a b =>
    match cur with
    | some (d, false) =>
      let bytes := atomBytes size
      let old := lineField d off.toNat bytes
      let s := (s.freeLane n e.uid).perfEvent (slcPage n) 0x0e 1
      let new := atomStore op bytes old a.toNat b.toNat
      let later := new.isSome && (!s.keyActive e.line || s.pointLater e.line)
      let s := s.each e.waits (fun s w => s.answerOld w.sender (BitVec.ofNat 128 old) later)
      (match new with
      | some v => s.releaseLine n e.line (setLineField d off.toNat bytes v) false (e.waits.map (fun w => w.afterAtomic later))
      | none => s.each e.waits (fun s w => s.answerPoint { w with late := false } 2 true))
    | _ => s.refuseEntry n e

/-- Answer a waiting read from a line's base value: the bytes of its identifier's earlier stores that are still unreleased lie over it;
those released since are in the base value (R52, R107, R145, R164). -/
def State.fillWaiter (s : State) (a : LineAddr) (base : Line × Bool) (w : Waiter) : State :=
  if w.served then s else
  let own := w.own.filter (fun o => (s.sliceOf a).lanes.any (fun e => e.uid == o.uid))
  let v := own.foldl (fun (v : Line × BitVec 64) o => (overlay v.1 o.data o.mask, v.2 ||| o.mask)) (base.1, 0)
  s.answerRead w.sender v.1 (base.2 && v.2 != fullMask)

/-- In a flush the reads that R131 lets go first leave before their identifier's next release: each from its line's newest value
(R131, R145, R173). -/
def State.readsFirst (s : State) (n : Nat) (e : LaneEntry) : State :=
  let early (w : Waiter) : Bool := w.ident == e.ident && decide (w.serial < e.upto)
  let s := s.each (s.slice n).misses (fun s m =>
    let l := m.waiters.filter (fun w => early w && !w.served)
    if l.isEmpty then s else
    let r := match m.newer with
      | some v => (v, s)
      | none => s.verifiedValue m.line
    let s := r.2.setSlice n { r.2.slice n with misses := (r.2.slice n).misses.map (fun (y : MissEntry) =>
      if y.line == m.line then { y with waiters := y.waiters.map (fun (w : Waiter) => if early w then { w with served := true } else w) } else y) }
    s.each l (fun s w => s.fillWaiter m.line r.1 w))
  let l := (s.slice n).stalled.filter (fun w => early w.2)
  let s := s.setSlice n { s.slice n with stalled := (s.slice n).stalled.filter (fun w => !early w.2) }
  s.each l (fun s w => let r := s.verifiedValue w.1
    r.2.fillWaiter w.1 r.1 w.2)

/-- Release an entry in a flush: conditions of R71 and marks ignored, the reads before it first, its current value read if it needs one;
entries of Volatile regions are discarded (R173). -/
def State.forceRelease (s : State) (n : Nat) (e : LaneEntry) (keepVolatile : Bool) : State :=
  if !keepVolatile && (s.lineLmp e.line).all (fun l => s.persistOf l == 0) then s.freeLane n e.uid
  else
    let s := s.readsFirst n e
    let needs := e.mask != fullMask || e.op != .store
    match s.currentIn n e with
    | some c => s.releaseNow n e (some c)
    | none => if needs then let r := s.verifiedValue e.line
        r.2.releaseNow n e (some r.1) else s.releaseNow n e none

/-- Release every lane entry of a slice that a test accepts, in lane order. -/
def State.forceLanes (s : State) (n : Nat) (ok : LaneEntry → Bool) (keepVolatile : Bool) : State :=
  s.each ((s.slice n).lanes.filter ok) (fun s e =>
    s.forceRelease n e keepVolatile)

/-! ### Drains (R134, R432) -/

/-- Mark the merge-store entries of a slice that a test accepts as draining. -/
def State.drainMarks (s : State) (n : Nat) (ok : MergeEntry → Bool) : State :=
  let x := s.slice n
  let k := (x.merge.filter (fun m => !m.draining && ok m)).length
  (s.setSlice n { x with merge := x.merge.map (fun m => if ok m then { m with draining := true } else m) }).perfEvent
    (slcPage n) 0x0d k

/-- Send a line's update to the mirror holder (R387). -/
def State.sendUpdate (s : State) (a : LineAddr) (sl : SLine) (peer : Option (Dev × BitVec 16)) : State :=
  match s.lsiOf (lineGsn a) with
  | none => s
  | some i => s.sendPlain (s.seg i).partner ((peer.map Prod.snd).getD 0) (s.seg i).epoch 0 0 (.blkData a [sl] ((peer.map Prod.fst).getD 0))

/-- A mirrored line's update: sent at once, or, with one of the line in flight, in the place of a pending one (R387). -/
def State.noteUpdate (s : State) (a : LineAddr) (sl : SLine) (ws : List Waiting) (peer : Option (Dev × BitVec 16)) : State :=
  let g := BitVec.ofNat 26 (lineGsn a)
  if s.sve.updates.any (fun u => u.line == a) then
    { s with sve := { s.sve with updates := s.sve.updates.map (fun (u : LineUpd) =>
        if u.line == a then { u with next := some sl, nextWaits := u.nextWaits ++ ws, peer := peer } else u) } }
  else
    let u : LineUpd := { gsn := g, line := a, sl := sl, next := none, waits := ws, peer := peer, sentAt := s.ns }
    let s := { s with sve := { s.sve with updates := s.sve.updates ++ [u] } }
    s.sendUpdate a sl peer

/-- A drained line passes Crust and reaches the DTC (R48, R134, R387, R432). A line whose segment has left this module is
dropped. -/
def State.passLine (s : State) (a : LineAddr) (data : Line) (poison : Bool) (ws : List Waiting) (peer : Option (Dev × BitVec 16)) : State :=
  match s.lineLmp a with
  | none => (s.acceptedLine a).badAll ws 3
  | some l =>
    let (sl, ok, s) := s.crustStore a data poison
    let (ws, s) := if ok then (ws, s) else ([], s.badAll ws 1)
    let mm := s.mirrorOf a
    let s := if mm = 0 then s else s.noteUpdate a sl (if mm = 1 then ws else []) peer
    s.takeLine a l sl (if mm = 1 then [] else ws)

/-- A merge-store entry passes Crust: it stays, offered, until the DTC has accepted the line (R48, R134). -/
def State.offerLine (s : State) (n : Nat) (m : MergeEntry) : State :=
  let s := s.setSlice n { s.slice n with merge := (s.slice n).merge.map (fun (y : MergeEntry) =>
    if y == m then { y with draining := true, offered := true, waits := [] } else y) }
  s.passLine m.line m.data m.poison m.waits m.peer

/-- The slice offers a line that waits at the DTC: it hands on no other until that one is accepted (R48, R192). -/
def Slice.offering (x : Slice) : Bool := x.merge.any MergeEntry.offered

/-- Drain the oldest draining entry of a line: it passes Crust and is offered to the DTC, and its entry is freed when the DTC has
accepted it (R134, R192). Freeze and Relocate of a re-form hold it at the slice, but for a flush (R206). -/
def State.drainOne (s : State) (n : Nat) (a : LineAddr) : State :=
  let x := s.slice n
  if x.offering || (s.frozen && s.pwr.flush = 0) || s.halted 0x028 then s else
  match x.merge.find? (fun m => m.line == a && m.draining) with
  | none => s
  | some m => s.offerLine n m

/-- Drain every merge-store entry of a slice; those of Volatile regions are discarded in a flush and in a GPF. What the DTC cannot take yet
waits there in its order (R134, R173). -/
def State.drainAll (s : State) (n : Nat) (ok : MergeEntry → Bool) (dropVolatile : Bool) : State :=
  s.each ((s.slice n).merge.filter (fun m => ok m && !m.offered)) (fun s m =>
    let s := if m.draining then s else s.perfEvent (slcPage n) 0x0d 1
    if dropVolatile && (s.lineLmp m.line).all (fun l => s.persistOf l == 0) then
      (s.setSlice n { s.slice n with merge := removeFirst (fun y => y == m) (s.slice n).merge }).each m.waits State.answerRefused
    else s.offerLine n m)

/-! ### The slice fence (R135, R514) -/

/-- Fence a slice: its lane entries are released in lane order and its merge store drains (R514). -/
def State.fenceSlice (s : State) (n : Nat) : State :=
  if s.isFenced 4 n then s else
  let s := s.fence 4 n
  let s := s.forceLanes n (fun _ => true) true
  (s.drainMarks n (fun _ => true)).pump

/-- A line that waits at the DTC becomes poison with its merge-store entry (R135). -/
def State.poisonWaiting (s : State) (a : LineAddr) : State :=
  let l := (s.dtc.waiting.filter (fun w => w.line == a)).flatMap DtcWait.waits
  let sl := (s.crustStore a 0 true).1
  ({ s with dtc := { s.dtc with waiting := s.dtc.waiting.map (fun (w : DtcWait) =>
    if w.line == a then { w with sl := sl, waits := [] } else w) } }).badAll l 1

/-- A proofing-buffer error: corrected, it is counted; else R135 poisons the line, and the slice may be fenced (R135, R139, R514). -/
def State.pbUe (s : State) (n : Nat) (p : PbPlace) : State :=
  if p == .corrected then (s.countUp (slcPage n) 0x164 16 16 1).raise (slcPage n) .slcPbSramCe else
  let recent := ((s.slice n).ues.filter (fun t => s.ns ≤ t + 86400000000000)) ++ [s.ns]
  let fencing := decide (16 ≤ recent.length) && !s.isFenced 4 n
  let s := s.raiseAt (slcPage n) .slcPbSramUe (if fencing then { dom := 4, inst := n } else {})
  let s := s.setSlice n { s.slice n with ues := recent }
  let s := match p with
    | .lane uid =>
      (match (s.slice n).lanes.find? (fun e => e.uid == uid) with
      | none => s
      | some e =>
        let s := s.freeLane n uid
        let s := match e.op with
          | .store => s.badAll e.waits 1
          | .atomic .. => s.each e.waits (fun s w => (s.answerAtomic w.sender 0 true).answerBad { w with late := false } 1)
        s.mergeLine n e.line 0 true [])
    | .merge a =>
      let x := s.slice n
      if !x.merge.any (fun m => m.line == a) then s else
      let ws := (x.merge.filter (fun (m : MergeEntry) => m.line == a)).flatMap MergeEntry.waits
      let x := { x with merge := x.merge.map (fun (m : MergeEntry) => if m.line == a then { m with poison := true, waits := [] } else m) }
      (((s.setSlice n (x.refresh a (0, true))).badAll ws 1).poisonWaiting a).updateWay n a 0 true
    | _ => s
  if fencing then s.fenceSlice n else s

/-! ### Steps 2 and 3 of a flush (R173) -/

/-- Release every lane entry and drain every merge-store entry of all slices (R173). -/
def State.flushSlices (s : State) : State :=
  let s := s.each (List.range 8) (fun s n =>
    let s := s.forceLanes n (fun _ => true) false
    let s := s.setSlice n { s.slice n with inq := [] }
    s.drainAll n (fun _ => true) true)
  s.pump

end Sys2Proof.Machine
end

