-- ==== Sys2Proof/Machine/Clock.lean ====
section
/-! DEFINITION. What one 25 MHz AON cycle does to module time, operating time and the counters of every page (R484, R502, R605;
log 1). -/

namespace Sys2Proof.Machine

/-- The counters of a page over one AON cycle. -/
def State.tickPage (s : State) (page : Nat) : State :=
  let d := pageDom page
  let k := domCycles d
  if s.domGated d || s.freezeAll || bitAt (s.reg page 0x38) 24 then s else
  let s := { s with cyc := s.cyc.set 0 page ((s.cyc.get 0 page + k) % 2 ^ 64) }
  match pageKind page with
  | some .slc =>
    let x := s.slice (page - 0x010)
    let s := s.perfOccupancy page 0x10 x.misses.length k
    let s := s.perfOccupancy page 0x11 (s.laneUsed (page - 0x010)) k
    s.perfOccupancy page 0x12 x.merge.length k
  | _ => if s.running page then s.perfEvent page 0x00 k else s

/-- One AON cycle: module time, operating time, and, while the clocks run, the counters of every page (R502, R605). -/
def State.tick (s : State) : State :=
  let s := { s with time := s.time + 40 }
  let counts := !(s.pwr.st == 0 || s.pwr.st == 9)
  let ns := s.opNs + 40
  let s := if counts then { s with opMs := s.opMs + ns / 1000000, opNs := ns % 1000000 } else s
  if s.pwr.locked && s.pwr.refOk then s.each allPages State.tickPage else s

end Sys2Proof.Machine
end

