-- ==== Sys2Proof/Machine/HeadReset.lean ====
section
/-! DEFINITION. What a head reset and a head's link loss do (R177, R408, R427). -/

namespace Sys2Proof.Machine

/-- Complete every outstanding barrier of a head with one status, oldest first (R157, R158, R411). -/
def State.endBarriers (s : State) (h : Fin 64) (status : Status) : State :=
  let s := s.each (s.head h.val).barriers (fun s b => s.emit (.barrierCmp h b.tag status))
  let x := s.head h.val
  let done := x.barriers.map (fun (b : Barrier) => (b.tag, status))
  s.setHead h.val { x with barriers := [], barCount := x.barCount + BitVec.ofNat 32 done.length,
                           barStatus := (done.reverse ++ x.barStatus).take 4 }

/-- Allocations whose Add Capacity record is pending complete with ABORTED; their bindings are offered again (R415). -/
def State.abortOffers (s : State) (h : Nat) : State :=
  let l := (s.head h).offers
  let s := s.setHead h { s.head h with offers := [], reoffer := (s.head h).reoffer || !l.isEmpty }
  s.each l (fun s o => s.endBinding o.from_ o.handle o.gsn.toNat stAborted)

/-- What every head reset does: decoded requests are discarded, barriers end with ABORTED, the control window is cleared,
and RESET is raised inside a reset window of the port (R177, R427, R515). -/
def State.headResetCommon (s : State) (h : Fin 64) : State :=
  let s := (s.openWindow 2 (8 * h.val)).endBarriers h stAborted
  let s := s.setHead h.val { s.head h.val with held := [], barStatus := [], barCount := 0, past := 0 }
  (s.abortOffers h.val).raise (0x1c0 + h.val) .headReset

/-- Conventional or hot reset, or link down: the extent table is zeroed, the decoders are uncommitted, logs and completion
queue are cleared; the bindings are offered again (R408, R415, R427). -/
def State.headReset (s : State) (h : Fin 64) : State :=
  let s := s.headResetCommon h
  s.setHead h.val { s.head h.val with extents := [], decoders := [], logs := [], logOvf := [], cplQ := [], cplWait := [], releasing := [],
                                      reoffer := true, ideKeys := [], ideActive := [], ide := false,
                                      commitErr := [] }

/-- The link of a head goes down: LINK_DOWN, the state of a conventional reset, and training again (R408). -/
def State.headDown (s : State) (h : Fin 64) : State :=
  let s := (s.headReset h).raise (0x1c0 + h.val) .headLinkDown
  let s := s.setPort (8 * h.val) { s.port (8 * h.val) with rev := false, polInv := 0 }
  s.setHead h.val { s.head h.val with st := 2, width := 0, rate := 0 }

end Sys2Proof.Machine
end

