-- ==== Sys2Proof/Machine/Requests.lean ====
section
/-! DEFINITION. A request's way through its slice: admission, the youngest value of R50, miss entries, tier and map lookups,
crumb reads with the recovery ladder, the checks of Crust, fills, and lane release (R50 to R67, R106 to R138, R228, R435 to
R438). -/

namespace Sys2Proof.Machine

/-! ### Miss entries (R51, R107, R108) -/

/-- The miss entry of a line. -/
def Slice.missOf (x : Slice) (a : LineAddr) : Option MissEntry := x.misses.find? (fun m => m.line == a)

/-- Replace the miss entry of a line. -/
def State.setMiss (s : State) (a : LineAddr) (m : MissEntry) : State :=
  let n := sliceHash a
  s.setSlice n { s.slice n with misses := (s.slice n).misses.map (fun (x : MissEntry) => if x.line == a then m else x) }

/-- Drop the miss entry of a line. -/
def State.dropMiss (s : State) (a : LineAddr) : State :=
  let n := sliceHash a
  s.setSlice n { s.slice n with misses := (s.slice n).misses.filter (fun m => m.line != a) }

/-- Set how far a line's miss has come. -/
def State.missStage (s : State) (a : LineAddr) (st : MissStage) : State :=
  match (s.sliceOf a).missOf a with
  | some m => s.setMiss a { m with stage := st }
  | none => s

/-- A new miss entry, in the stage of the tier lookup. -/
def newMiss (a : LineAddr) (ws : List Waiter) (es : List Nat) : MissEntry :=
  { line := a, stage := .tier, waiters := ws, entries := es, newer := none, stale := false }

/-- A read misses: it joins the line's miss entry, takes a free one, or waits in S5 (R51, R108). -/
def State.missRead (s : State) (n : Nat) (a : LineAddr) (w : Waiter) : State :=
  let x := s.slice n
  match x.missOf a with
  | some m => (s.setMiss a { m with waiters := m.waiters ++ [w] }).perfEvent (slcPage n) 0x05 1
  | none =>
    if x.misses.length < 512 then
      (s.setSlice n { x with misses := x.misses ++ [newMiss a [w] []] }).perfEvent (slcPage n) 0x04 1
    else (s.setSlice n { x with stalled := x.stalled ++ [(a, { w with beyond := true })] }).perfEvent (slcPage n) 0x06 1

/-- A lane entry obtains its line's current value through a miss entry, once (R131). -/
def State.missEntry (s : State) (n : Nat) (e : LaneEntry) : State :=
  let x := s.slice n
  match x.missOf e.line with
  | some m =>
    if e.uid ∈ m.entries then s
    else (s.setMiss e.line { m with entries := m.entries ++ [e.uid] }).perfEvent (slcPage n) 0x05 1
  | none =>
    if x.misses.length < 512 then
      (s.setSlice n { x with misses := x.misses ++ [newMiss e.line [] [e.uid]] }).perfEvent (slcPage n) 0x04 1
    else s

/-! ### Admission (R106, R129, R130, R145, R514) -/

/-- The lane entries of an identifier for a line. -/
def Slice.ownEntries (x : Slice) (i : Ident) (a : LineAddr) : List LaneEntry :=
  x.lanes.filter (fun e => e.ident == i && e.line == a)

/-- The line-cache way that a read hits, by its set's SRAM state: an uncorrectable error in the data of the hit way empties it, one in
the tags or the age word empties the whole set; LC_SRAM is raised and the read misses. Locked ways stay reserved (R109). -/
def State.readWay (s : State) (n : Nat) (a : LineAddr) (e : LcErr) : Option Nat × State :=
  if !s.lcEnabled n then (none, s) else
  let x := s.slice n
  let set := setHash a
  let bad (s : State) : State := (s.countUp (slcPage n) 0x164 0 16 1).raise (slcPage n) .slcLcSram
  match e, x.findWay a with
  | .tags, _ => (none, bad (s.setSlice n { x with lc := x.lc.filter (fun w => w.1 / 16 != set) }))
  | .data, some w => (none, bad (s.setSlice n { x with lc := x.lc.del (16 * set + w) }))
  | _, r => (r, s)

/-- An earlier read of the same identifier still waits for the line: a later one joins it, so that it never returns an older value (R145). -/
def Slice.readWaits (x : Slice) (i : Ident) (a : LineAddr) : Bool :=
  x.misses.any (fun m => m.line == a && m.waiters.any (fun w => w.ident == i && !w.served))
    || x.stalled.any (fun w => w.1 == a && w.2.ident == i)

/-- A read looks for its line: behind an atomic of its identifier it waits; else the stores of its own lane that it may see and that are
still unreleased lie over the merge store, the line cache, or what its miss brings (R50, R106, R107, R109, R145). -/
def State.lookRead (s : State) (n : Nat) (a : LineAddr) (w : Waiter) : State :=
  let x := s.slice n
  if w.after.any (fun u => x.lanes.any (fun e => e.uid == u)) then
    s.setSlice n { x with behind := x.behind ++ [(a, w)] }
  else
    let own := w.own.filter (fun o => x.lanes.any (fun e => e.uid == o.uid))
    let v := own.foldl (fun (v : Line × BitVec 64) o => (overlay v.1 o.data o.mask, v.2 ||| o.mask)) (0, 0)
    if v.2 = fullMask then s.answerRead w.sender v.1 false
    else if x.readWaits w.ident a then s.missRead n a w
    else
      match x.merged a with
      | some m => (s.perfEvent (slcPage n) 0x02 1).answerRead w.sender (overlay m.data v.1 v.2) m.poison
      | none =>
        match s.readWay n a w.sram with
        | (some k, s) =>
          let set := setHash a
          let data := ((s.slice n).way set k).data
          let s := s.perfEvent (slcPage n) 0x03 1
          let s := s.setSlice n ((s.slice n).touch set (s.classWays n (s.wayGroup n k)) k ((s.slice n).way set k).age)
          s.answerRead w.sender (overlay data v.1 v.2) false
        | (none, s) => s.missRead n a w

/-- A request to a fenced slice, or one dropped with its lane: a store is discarded, an atomic returns poison; for the
barriers it ends at the local service timeout, and a peer gets ERR with STATE (R158, R514). -/
def State.discardEntry (s : State) (e : LaneEntry) : State :=
  s.each e.waits (fun s w =>
    let s := if e.op == .store then s else
      match w.sender with
      | .head .. => s.answerAtomic w.sender 0 true
      | _ => s
    match w.sender with
    | .peer dev tag epoch => (s.sendRsp dev tag epoch stState 0 .err).peerDone dev tag 2
    | _ => s.answerBad { w with late := w.late && e.op == .store } 2)

/-- Admit a read: it notes what its own lane holds for it; a poisoned store there answers it (R106, R107, R145, R416). -/
def State.admitRead (s : State) (n : Nat) (a : LineAddr) (w : Waiter) : State :=
  let s := s.perfEvent (slcPage n) 0x00 1
  let k := (s.slice n).serial
  let s := s.setSlice n { s.slice n with serial := k + 1 }
  let own := (s.slice n).ownEntries w.ident a
  let s := if own.isEmpty then s else s.perfEvent (slcPage n) 0x01 1
  let atom := (own.filter (fun e => e.op != .store)).getLast?
  let later := own.filter (fun e => e.op == .store && atom.all (fun (y : LaneEntry) => decide (y.uid < e.uid)))
  if later.foldl (fun p (e : LaneEntry) => if e.mask = fullMask then e.poison else p || e.poison) false then s.answerRead w.sender 0 true
  else s.lookRead n a { w with serial := k, after := atom.map LaneEntry.uid, own := later.map (fun e => ⟨e.uid, e.data, e.mask⟩) }

/-- A store to an Early region is acknowledged on entering its lane (R61, R340). -/
def State.ackEarly (s : State) (e : LaneEntry) : State :=
  if e.op != .store then s else s.each e.waits (fun s w => if w.late then s else
    match w.sender with
    | .head h tag => s.emit (.writeDone h tag false)
    | _ => s.answerPoint w 1 false)

/-- The youngest lane entry of an identifier. -/
def Slice.youngest (x : Slice) (i : Ident) : Option LaneEntry := x.lanes.reverse.find? (fun e => e.ident == i)

/-- The acknowledgement attribute of a line's region: Late unless Early (R61). -/
def State.lateAt (s : State) (a : LineAddr) : Bool := !(s.region (s.lineRegion a)).early

/-- A store or atomic enters its lane, merging into the youngest entry of its identifier where that is a store to the same
line with no barrier marker behind it; a store takes the acknowledgement attribute that its region has now (R61, R97, R129, R138). An
atomic outside the table of R136 returns poison with ATOMIC_BAD. -/
def State.admitEntry (s : State) (n : Nat) (e : LaneEntry) : State :=
  let s := s.perfEvent (slcPage n) 0x00 1
  let k := (s.slice n).serial
  let s := s.setSlice n { s.slice n with serial := k + 1 }
  let e := { e with uid := k, upto := k }
  match e.op with
  | .atomic op size off _ _ =>
    if atomOk op size off then s.setSlice n { s.slice n with lanes := (s.slice n).lanes ++ [e] }
    else
      let s := s.raise (slcPage n) .slcAtomicBad
      s.each e.waits (fun s w => match w.sender with
        | .peer dev tag epoch => (s.sendRsp dev tag epoch stUnsupported 0 (.atomData 0)).peerDone dev tag 0
        | _ => (s.answerAtomic w.sender 0 true).answerRefused { w with late := false })
  | .store =>
    let late := s.lateAt e.line
    let e := { e with waits := e.waits.map (fun (w : Waiting) => { w with late := late }) }
    match (s.slice n).youngest e.ident with
    | some y =>
      if y.op == .store && y.line == e.line && !s.markBehind n y then
        let m := { y with data := overlay y.data e.data e.mask, mask := y.mask ||| e.mask,
                          poison := if e.mask = fullMask then e.poison else y.poison || e.poison,
                          waits := y.waits ++ e.waits, upto := k }
        let s := s.setSlice n { s.slice n with lanes := (s.slice n).lanes.map (fun (z : LaneEntry) => if z.uid = y.uid then m else z) }
        (s.perfEvent (slcPage n) 0x0b 1).ackEarly e
      else (s.setSlice n { s.slice n with lanes := (s.slice n).lanes ++ [e] }).ackEarly e
    | none => (s.setSlice n { s.slice n with lanes := (s.slice n).lanes ++ [e] }).ackEarly e

/-- The identifier and line of a waiting request. -/
def InReq.key : InReq → Ident × LineAddr
  | .entry e => (e.ident, e.line)
  | .read a w => (w.ident, a)

/-- Lane room for a source's next request: the quota of its lane and the pool (R130). -/
def State.laneRoom (s : State) (n : Nat) (i : Ident) : Bool :=
  decide (s.laneUsed n < 8192) && decide (s.laneLoad n (laneOf i) < s.regFld (slcPage n) 0x154 0 14)

/-- Admission to a line's segment is held (R97, R302, R380). -/
def State.segHeld (s : State) (a : LineAddr) : Bool :=
  match s.lsiOf (lineGsn a) with
  | some lsi => decide (lsi ∈ s.mte.heldSegs)
  | none => false

/-- One waiting request in turn: answers whether it keeps waiting. Nothing is admitted behind a read that waits in S5; a
request waits behind an earlier one of its lane or identifier that waits, and for room in its lane (R48, R108, R130, R144). -/
def State.admitOne (s : State) (n : Nat) (kept : List InReq) (r : InReq) : Bool × State :=
  let k := r.key
  if s.isFenced 4 n then
    (false, match r with
      | .read _ w => s.answerRead w.sender 0 true
      | .entry e => s.discardEntry e)
  else if slcPage n ∈ s.pages.stopped || !(s.slice n).stalled.isEmpty || s.segHeld k.2 || !s.laneRoom n k.1
      || kept.any (fun q => q.key.1 == k.1 || (laneOf q.key.1 == laneOf k.1 && !s.segHeld q.key.2)) then (true, s)
  else
    match r with
    | .read a w => (false, s.admitRead n a w)
    | .entry e => (false, s.admitEntry n e)

/-- Admit what can be admitted of a list of waiting requests, in order of arrival. -/
def State.admitList (s : State) (n : Nat) (kept : List InReq) : List InReq → List InReq × State
  | [] => (kept, s)
  | r :: t =>
    let o := s.admitOne n kept r
    State.admitList o.2 n (if o.1 then kept ++ [r] else kept) t

/-- Admit the slice's waiting requests. -/
def State.admitAll (s : State) (n : Nat) : State :=
  let l := (s.slice n).inq
  let o := (s.setSlice n { s.slice n with inq := [] }).admitList n [] l
  o.2.setSlice n { o.2.slice n with inq := o.1 ++ (o.2.slice n).inq }

/-- A request reaches its slice. -/
def State.arrive (s : State) (r : InReq) : State :=
  let n := sliceHash r.key.2
  (s.setSlice n { s.slice n with inq := (s.slice n).inq ++ [r] }).admitAll n

/-- Admission goes on in every slice, when a hold has ended. -/
def State.resumeAdmission (s : State) : State := s.each (List.range 8) State.admitAll

/-- The sender is a head that does not run at full width (R57). -/
def State.narrow (s : State) (who : Sender) : Bool :=
  match who with
  | .head h _ => (s.head h.val).st == 4
  | _ => false

/-- A read of a line that this module owns, with the SRAM error it will find in the line cache (R109). -/
def State.localRead (s : State) (a : LineAddr) (i : Ident) (who : Sender) (sram : LcErr) : State :=
  s.arrive (.read a { ident := i, sender := who, serial := 0, own := [], after := none, sram := sram, served := false,
                      beyond := s.narrow who })

/-- A store to a line that this module owns; a poisoned write stores its whole line as poison (R416). -/
def State.localStore (s : State) (a : LineAddr) (i : Ident) (who : Sender) (data : Line) (mask : BitVec 64) (poison : Bool) : State :=
  s.arrive (.entry { uid := 0, ident := i, line := a, op := .store, data := data, mask := if poison then fullMask else mask,
                     poison := poison, waits := [{ sender := who, late := s.lateAt a }], upto := 0, current := none })

/-- An atomic on a line that this module owns (R65). -/
def State.localAtomic (s : State) (a : LineAddr) (i : Ident) (who : Sender) (op : BitVec 4) (size : BitVec 2) (off : BitVec 6)
    (x y : BitVec 128) : State :=
  s.arrive (.entry { uid := 0, ident := i, line := a, op := .atomic op size off x y, data := 0, mask := 0, poison := false,
                     waits := [{ sender := who, late := false }], upto := 0, current := none })

/-! ### Lane release (R131, R145, R296) -/

/-- The entry is the oldest of its identifier, and no read of its identifier admitted before it is still in the slice (R131). -/
def Slice.atHead (x : Slice) (e : LaneEntry) : Bool :=
  let before (w : Waiter) : Bool := w.ident == e.ident && !w.served && decide (w.serial < e.upto)
  ((x.lanes.find? (fun y => y.ident == e.ident)).map LaneEntry.uid == some e.uid) &&
  !(x.misses.any (fun m => m.waiters.any before)) && !(x.stalled.any (fun w => before w.2)) &&
  !(x.behind.any (fun w => before w.2 && w.2.after != some e.uid))

/-- The merge store can take a release of the line. -/
def Slice.mergeRoom (x : Slice) (a : LineAddr) : Bool :=
  decide (x.merge.length < 24576) || x.merge.any (fun m => m.line == a && !m.draining)

/-- Reads that waited behind an atomic look again (R145). -/
def State.retryBehind (s : State) (n : Nat) : State :=
  let l := (s.slice n).behind
  let s := s.setSlice n { s.slice n with behind := [] }
  s.each l (fun s r => s.lookRead n r.1 r.2)

/-- A refusal of Guard: the store ends without its point, an atomic returns poison (R296, R297). -/
def State.guardEntry (s : State) (n : Nat) (e : LaneEntry) : State :=
  let s := s.freeLane n e.uid
  s.each e.waits (fun s w =>
    (if e.op == .store then s else s.answerAtomic w.sender 0 true).answerRefused { w with late := w.late && e.op == .store })

/-- A release whose conditions of place hold: over the current value where one is needed, obtained through a miss entry
when the slice does not have it (R131, R133). -/
def State.releaseReady (s : State) (n : Nat) (e : LaneEntry) : State :=
  if s.guardRefuses e.line then s.guardEntry n e
  else
    match s.currentIn n e with
    | some c => s.releaseNow n e (some c)
    | none => if e.op == .store && e.mask == fullMask then s.releaseNow n e none else s.missEntry n e

/-- A lane entry whose release waits: a hold under R71 counts once; once no WSN is left its Late stores end with an error (R71, R141, R252,
log 68). -/
def State.holdEntry (s : State) (n : Nat) (e : LaneEntry) : State :=
  let upd (s : State) (f : LaneEntry → LaneEntry) : State := s.setSlice n { s.slice n with lanes := (s.slice n).lanes.map (fun (y : LaneEntry) =>
    if y.uid = e.uid then f y else y) }
  let s := if (s.lineLmp e.line).any s.holdsReleases && !e.heldOnce then
      upd (s.perfEvent (slcPage n) 0x0c 1) (fun y => { y with heldOnce := true }) else s
  if s.mte.wsnEnd && e.op == .store && (s.lineLmp e.line).any (fun l => s.persistOf l != 0) then
    (upd s (fun y => { y with waits := y.waits.filter (fun w => !w.late) })).badAll (e.waits.filter Waiting.late) 2
  else s

/-- The throttle of Guard holds back a release of the line: THROTTLE lines have been released in this microsecond (R296, log 91). -/
def State.paceHeld (s : State) (n : Nat) (a : LineAddr) : Bool :=
  (s.rwr (s.lineRegion a)).guard == 1 && (s.slice n).paced.1 == s.ns / 1000 && decide (s.regFld 0x031 0x108 0 8 ≤ (s.slice n).paced.2)

/-- A release under the throttle is counted (R296). -/
def State.notePace (s : State) (n : Nat) (a : LineAddr) : State :=
  if (s.rwr (s.lineRegion a)).guard == 1 then
    let x := s.slice n
    let us := s.ns / 1000
    s.setSlice n { x with paced := (us, if x.paced.1 = us then x.paced.2 + 1 else 1) }
  else s

/-- A lane entry is released if every condition of R131 holds; what waited for it goes on. -/
def State.releaseEntry (s : State) (n uid : Nat) : State :=
  let x := s.slice n
  match x.lanes.find? (fun e => e.uid == uid) with
  | none => s
  | some e =>
    if s.releaseHeld e.line then s.holdEntry n e
    else if x.atHead e && !s.markAhead n e && x.mergeRoom e.line && !s.paceHeld n e.line then
      (((s.notePace n e.line).releaseReady n e).retryBehind n).admitAll n
    else s

/-! ### Tier and map lookups (R53, R54, R190, R195, R248) -/

/-- The metadata that a lookup needs is being reloaded: the lookup has waited for it, and its reads are outside R57 (R204). -/
def State.waitReload (s : State) (a : LineAddr) (hit : ReserveArea → Bool) : State :=
  if !s.dtc.reload.any hit then s else
  let s := { s with dtc := { s.dtc with reload := s.dtc.reload.filter (fun r => !hit r) } }
  match (s.sliceOf a).missOf a with
  | none => s
  | some m => s.setMiss a { m with waiters := m.waiters.map (fun (w : Waiter) => { w with beyond := true }) }

/-- The tier lookup of a missed line, in the tag cache or through it in the directory: a hit goes to Crust, a page being filled is waited
for, an absent page leaves the miss to the MTE (R50, R53, R54, R190, R204). -/
def State.tierLookup (s : State) (a : LineAddr) : State :=
  match (s.sliceOf a).missOf a with
  | none => s
  | some m =>
    if m.stage != .tier || s.halted 0x028 then s else
    match s.lineLmp a with
    | none => s.missStage a (.fill 0 true false)
    | some l =>
      let s := s.waitReload a (fun r => match r with | .directory x => s.setOf x == s.setOf l | _ => false)
      let s := s.tagTouch (s.setOf l) false
      let waits := s.dtc.waiting.any (fun w => w.line == a)
      match s.frameOf l with
      | none => if waits then s.missStage a (.check (s.storedLine a) (.tierStaged l)) else s.missStage a .map
      | some (n, f) =>
        let absent := !waits && (f.st == 1 || (f.st == 5 && !bitAt f.mask (lineInPage a)))
        if absent then s.missStage a (.pageFill l)
        else (s.setFrame n { f with ref := true }).missStage a
          (.check (s.storedLine a) (if f.st == 2 then .tierClean l else .tierStaged l))

/-- Start a read fill of a page where the policy and the frames allow (R194, R195, R200). -/
def State.maybeFill (s : State) (l : Lmp) : State :=
  let policy := s.regFld 0x028 0x114 0 2
  let k := l.toNat % 2 ^ 20
  let seen := decide (k ∈ s.dtc.touched)
  let s := if policy = 1 then { s with dtc := { s.dtc with touched := insertNew s.dtc.touched k } } else s
  if s.tierGib = 0 || !(policy = 0 || (policy = 1 && seen)) || (s.frameOf l).isSome then s
  else
    match s.allocFrame l with
    | (none, s) => s
    | (some n, s) => (s.setFrame n { lmp := l, st := 1, ref := true, lines := [], mask := 0, handed := false, order := 0, xferred := false,
                                     waits := [], carried := [], held := [] }).startFill l

/-- The map answers for a missed line: zeros, poison, or a crumb read at the mapped PPA (R50, R195, R248). -/
def State.mapAnswer (s : State) (a : LineAddr) (l : Lmp) : State :=
  let e := s.entry l
  if l ∈ s.dtc.fills then s.missStage a (.pageFill l)
  else if e.st = 1 then
    let c : Fin 8 := ⟨lineInPage a / 8 % 8, Nat.mod_lt _ (by decide)⟩
    ((s.issueRead e.ppa c (.line a)).missStage a (.medium e.ppa c)).maybeFill l
  else s.missStage a (.check (if e.st = 2 then poisonLine else unwrittenLine) .crumbLater)

/-- The map lookup of a missed line: in the map of the reserve, or in reduced mode in the map cache; an entry that the cache does not hold
is read from its metadata page first, and such a read is outside R57 (R200, R201, R204, R248, R264). -/
def State.mapLookup (s : State) (a : LineAddr) : State :=
  match (s.sliceOf a).missOf a with
  | none => s
  | some m =>
    if m.stage != .map || s.halted 0x030 then s else
    match s.lineLmp a with
    | none => s.missStage a (.fill 0 true false)
    | some l =>
      let s := s.waitReload a (fun r => match r with | .map x => x.toNat / 512 == l.toNat / 512 | _ => false)
      if s.mapCached l then (s.mapTouch l false).mapAnswer a l
      else
        match s.mapPage l with
        | none => (s.mapTouch l false).mapAnswer a l
        | some p =>
          let c : Fin 8 := ⟨l.toNat % 512 / 64 % 8, Nat.mod_lt _ (by decide)⟩
          let s := (s.issueRead p c (.mapFor a)).missStage a (.mapCrumb p c)
          match (s.sliceOf a).missOf a with
          | none => s
          | some m => s.setMiss a { m with waiters := m.waiters.map (fun (w : Waiter) => { w with beyond := true }) }

/-- The metadata crumb of a map entry has arrived: the entry enters the map cache, and the lookup goes on; one that cannot be read leaves the
line poison (R264). -/
def State.mapArrived (s : State) (r : CrumbRead) (good : Bool) : State :=
  match r.why with
  | .mapFor a =>
    (match (s.sliceOf a).missOf a, s.lineLmp a with
    | some m, some l =>
      if m.stage != .mapCrumb r.ppa r.crumb then s
      else if good then (s.mapTouch l false).mapAnswer a l else s.missStage a (.check poisonLine .crumbLater)
    | _, _ => s)
  | _ => s

/-! ### Crumb reads come back (R225 to R228, R231, R233, R237, R240) -/

/-- The stored line that a reconstruction brings: the XOR of the 15 other pages of the stripe (R222, R231). -/
def State.reconLine (s : State) (p : Ppa) (a : LineAddr) : SLine := s.xorLine p (lineInPage a)

/-- The stored line a crumb read brings: from its page, or the line's present stored value once the page has moved. -/
def State.crumbLine (s : State) (p : Ppa) (a : LineAddr) : SLine :=
  match s.pageAt p with
  | some g => pageLineOf g.lines (lineInPage a)
  | none => s.storedLine a

/-- A crumb read that a slice waits for has ended: the line goes to Crust; one outside the bounds counts (R57, R233). -/
def State.deliver (s : State) (r : CrumbRead) (sl : LineAddr → SLine) (src : MissSrc) (slow : Bool) : State :=
  match r.why with
  | .line a =>
    match (s.sliceOf a).missOf a with
    | none => s
    | some m =>
      if m.stage == .medium r.ppa r.crumb then
        (if slow || m.waiters.any Waiter.beyond then s.perfEvent (slcPage (sliceHash a)) 0x0f 1 else s).missStage a (.check (sl a) src)
      else s
  | _ => s

/-- The end of a check read: a bad crumb asks for a disturb refresh; the last of a good check halves the counter (R237). -/
def State.endCheck (s : State) (r : CrumbRead) (bad : Bool) : State :=
  if r.why != .check then s else
  let b := ppaBlock r.ppa
  let s := if bad then s.askRefresh b 5 else s
  let others := s.mch.reads.any (fun (x : CrumbRead) => x.why == .check && ppaBlock x.ppa == b)
  if others then
    { s with mch := { s.mch with reads := s.mch.reads.map (fun (x : CrumbRead) =>
        if x.why == .check && ppaBlock x.ppa == b then { x with bad := x.bad || bad || r.bad } else x) } }
  else if bad || r.bad then s
  else s.setBlock b { s.block b with reads := s.regFld 0x080 0x114 0 12 * 512 }

/-- A survey read anchors its block from its L3 reference (R227); a reference the read did not bring is a free value
(log 10). -/
def State.endSurveyRead (s : State) (r : CrumbRead) (r3 : Option Nat) : State :=
  if r.why != .survey then s else
  let b := ppaBlock r.ppa
  match r3 with
  | some v => s.setBlock b ((s.block b).anchor v)
  | none => let f := s.fresh
    f.2.setBlock b ((f.2.block b).anchor (f.1 % 256))

/-- Count a corrected medium error for the segment of a page (R423). -/
def State.countCorr (s : State) (p : Ppa) : State :=
  match s.pageAt p with
  | some g =>
    let k := (s.seg (lmpLsi g.tag.lmp)).gsn.toNat
    { s with mch := { s.mch with corr := s.mch.corr.set 0 k (s.mch.corr.get 0 k + 1) } }
  | none => s

/-- A step of the ladder and the references it sensed, and the bits corrected at step 1; none where steps 1 to 3 failed (R228). -/
def crumbParts : CrumbOutcome → Option (Nat × Nat × List Nat)
  | .step1 corrected refs => some (1, corrected, refs)
  | .step2 refs => some (2, 0, refs)
  | .step3 => some (3, 0, [])
  | .failed => none

/-- What a crumb decoded on its own die leaves at its block: the drift factor, where its four references passed R225 without replacement;
from step 2 on the count and CRUMB_CE; and the weak mark (R225, R226, R228, R240, R245). -/
def State.crumbMarks (s : State) (p : Ppa) (step corrected : Nat) (refs : List Nat) : State :=
  let b := ppaBlock p
  let x := s.block b
  let page := chanPage (ppaChan p)
  let s := if s.refsOk x refs then s.setBlock b (x.observe (refs.getD 3 0)) else s
  let s := if step = 1 then s else
    ((s.countUp page 0x104 16 16).raiseAt page .mchChCrumbCe { dom := 6, inst := ppaDie p, kind := 2, items := [p.toNat] }).countCorr p
  if 16 ≤ corrected || 2 ≤ step then s.askRefresh b 2 else s

/-- The same crumb of each stripe mate has been read for a reconstruction, in ascending stack order: its step marks its block; answers
whether all of them decoded, and whether each did at step 1 (R228, R231, R233). -/
def State.matesRead (s : State) (p : Ppa) (mates : List CrumbOutcome) : Bool × Bool × State :=
  let l := ((s.stripeMates p).filter (fun q => !(s.die (ppaDie q)).fenced)).zip (mates ++ List.replicate 15 (.step1 0 []))
  l.foldl (fun (acc : Bool × Bool × State) e =>
    match crumbParts e.2 with
    | some (step, corrected, refs) => (acc.1, acc.2.1 && step == 1, acc.2.2.crumbMarks e.1 step corrected refs)
    | none => (false, false, acc.2.2)) (true, true, s)

/-- A crumb that no step could decode: the count and CRUMB_UE (R228, R245). -/
def State.crumbLost (s : State) (p : Ppa) : State :=
  let page := chanPage (ppaChan p)
  (s.countUp page 0x104 0 8).raiseAt page .mchChCrumbUe { dom := 6, inst := ppaDie p, kind := 2, items := [p.toNat] }

/-- A crumb that step 4 has recovered: the count, CRUMB_CE and the weak mark of its block (R228, R240, R245). -/
def State.crumbRebuilt (s : State) (p : Ppa) : State :=
  let page := chanPage (ppaChan p)
  (((s.countCorr p).countUp page 0x104 8 8).raiseAt page .mchChCrumbCe { dom := 6, inst := ppaDie p, kind := 2, items := [p.toNat] }).askRefresh
    (ppaBlock p) 2

/-- A crumb decoded on its own die: its marks, and what it was read for goes on (R226, R228, R240, R264). -/
def State.crumbGood (s : State) (r : CrumbRead) (step corrected : Nat) (refs : List Nat) : State :=
  let s := (s.setRead r.ppa r.crumb false none).crumbMarks r.ppa step corrected refs
  let s := s.endSurveyRead r (if refs.length = 4 then some (refs.getD 3 0) else none)
  let s := s.endCheck r (decide (2 ≤ step) || decide (s.regFld 0x080 0x114 26 6 ≤ corrected))
  let s := s.mapArrived r true
  s.deliver r (fun a => s.crumbLine r.ppa a) (if step = 1 then .crumbFirst r.ppa r.crumb else .crumbLater) (r.slow || decide (2 ≤ step))

/-- Reads of one die are served in the order of their arrival (R230). -/
def State.inTurn (s : State) (r : CrumbRead) : Bool :=
  s.mch.reads.find? (fun x => ppaDie x.ppa == ppaDie r.ppa && !x.recon) == some r

/-- A crumb read returns (R228): decoded at step 1, 2 or 3, or handed to reconstruction; the transfer succeeded (R216). -/
def State.crumbDone (s : State) (p : Ppa) (c : Fin 8) (o : CrumbOutcome) : State :=
  match s.findRead p c false with
  | none => s
  | some r =>
    if r.waits || !s.inTurn r then s else
    let s := s.busOk (ppaChan p)
    match crumbParts o with
    | some (step, corrected, refs) => s.crumbGood r step corrected refs
    | none => (s.setRead p c false (some { r with recon := true, waits := s.mateBusy p, slow := true, ladder := true })).countRecon p

/-- The 15 crumbs of a reconstruction have arrived (R228, R231, R243): their XOR is the crumb, or its lines are poison. -/
def State.reconDone (s : State) (p : Ppa) (c : Fin 8) (mates : List CrumbOutcome) : State :=
  match s.findRead p c true with
  | none => s
  | some r =>
    if r.waits then s else
    let fenced := s.mateFenced p
    let (ok, first, s) := (s.setRead p c true none).matesRead p mates
    let good := ok && !fenced
    let s := if good then (if r.ladder then s.crumbRebuilt p else s)
      else
        match r.why with
        | .line a => (s.crumbLost p).mediaError a
        | _ => s.crumbLost p
    let s := s.endSurveyRead r none
    let s := s.endCheck r r.ladder
    let s := s.mapArrived r good
    s.deliver r (fun a => if good then s.reconLine p a else poisonLine) .crumbLater (r.slow || !first)

/-! ### Crust's checks and the second source (R435 to R439) -/

/-- A late alarm for one served waiter (R438). -/
def State.alarmFor (s : State) (a : LineAddr) (who : Sender) : State :=
  match who with
  | .head h _ =>
    let s := s.lateAlarm h.val a
    if bitAt (s.reg 0x008 0x108) 1 then s.headDown h else s
  | .peer dev tag epoch => s.sendRsp dev tag epoch stIntegrity 0 .err
  | _ => s

/-- In Speculative mode the waiting reads leave with the line as decrypted, before its check has failed (R438). -/
def State.serveWrong (s : State) (m : MissEntry) (d : Line) : State :=
  if s.verified m.line || m.newer.isSome then s else
  let s := s.each (m.waiters.filter (fun w => !w.served)) (fun s w => (s.fillWaiter m.line (d, false) w).alarmFor m.line w.sender)
  s.setMiss m.line { m with waiters := m.waiters.map (fun (w : Waiter) => { w with served := true }) }

/-- The read of a second source begins (R436): the medium for a clean frame, which is dropped; reconstruction for a crumb
decoded at step 1; none for any other line. -/
def State.secondSource (s : State) (a : LineAddr) (src : MissSrc) : Option State :=
  let slow (s : State) : State := s.perfEvent (slcPage (sliceHash a)) 0x0f 1
  match src with
  | .tierClean l =>
    let s := match s.frameOf l with
      | some (n, f) => if f.st == 1 || f.st == 2 then s.dropFrame n else s
      | none => s
    let e := s.entry l
    some ((slow (if e.st = 1 then s.countRead (ppaBlock e.ppa) else s)).missStage a (.second src))
  | .crumbFirst p _ => some ((slow (s.countRecon p)).missStage a (.second src))
  | _ => none

/-- A line fails its first check (R436, R438). -/
def State.failFirst (s : State) (m : MissEntry) (src : MissSrc) (mismatch : Bool) (d : Line) : State :=
  let s := if mismatch then s.krMismatch else s
  let s := s.serveWrong m d
  match (if s.retryLines then s.secondSource m.line src else none) with
  | some s => s
  | none => s.tagFail.missStage m.line (.fill 0 true false)

/-- Crust has finished checking an inbound line (R435). -/
def State.lineCheck (s : State) (a : LineAddr) : State :=
  match (s.sliceOf a).missOf a with
  | none => s
  | some m =>
    match m.stage with
    | .check sl src =>
      (match s.crustCheck a sl with
      | .pass d => s.missStage a (.fill d false true)
      | .poison => s.missStage a (.fill 0 true false)
      | .missing => (s.keyMissing (s.keyRangeOf (lineGsn a))).missStage a (.fill 0 true false)
      | .fail mm d => s.failFirst m src mm d)
    | _ => s

/-- The stored line of the second source. -/
def State.secondLine (s : State) (a : LineAddr) (src : MissSrc) : SLine :=
  match src with
  | .tierClean l =>
    let e := s.entry l
    match e.st.toNat, s.pageAt e.ppa with
    | 1, some g => if s.readable e.ppa then pageLineOf g.lines (lineInPage a) else poisonLine
    | 2, _ => poisonLine
    | _, _ => unwrittenLine
  | .crumbFirst p _ => if s.mateFenced p then poisonLine else s.reconLine p a
  | _ => poisonLine

/-- The second copy of a line returns: it passes with TAG_RETRY, or the line is failed with TAG_FAIL (R436). -/
def State.secondDone (s : State) (a : LineAddr) : State :=
  match (s.sliceOf a).missOf a with
  | none => s
  | some m =>
    match m.stage with
    | .second src =>
      (match s.crustCheck a (s.secondLine a src) with
      | .pass d => s.tagRetry.missStage a (.fill d false true)
      | _ => s.tagFail.missStage a (.fill 0 true false))
    | _ => s

/-! ### Fills (R52, R55, R107, R112, R113) -/

/-- The lines of a group's range that a slice serves: the `k`-th of them (R128). -/
def State.preloadLineAt (s : State) (n g k : Nat) : Option LineAddr :=
  let r := s.lockRange n g
  if r.1 && decide (k < 8 * r.2.2) then
    (((List.range 64).map (fun i => pageLine (r.2.1 + k / 8) i)).filter (fun a => sliceHash a == n))[k % 8]?
  else none

/-- The identifier under which a slice preloads a group: engine 7, queue `g` (R143, R343, log 73). -/
def preloadIdent (g : Nat) : Ident := .internal (28 + g)

/-- Preload misses of a slice that have not returned (R128). -/
def Slice.preloadsOut (x : Slice) : Nat :=
  (x.misses.filter (fun m => m.waiters.any (fun w => (List.range 4).any (fun g => w.ident == preloadIdent g)))).length
    + (x.stalled.filter (fun w => (List.range 4).any (fun g => w.2.ident == preloadIdent g))).length

/-- One line of a preload: skipped unless it is Local and not Uncached; a line in the merge store is installed from it, one in the line
cache is touched, and any other is read through a miss entry (R112, R128). -/
def State.preloadLine (s : State) (n g : Nat) (a : LineAddr) : State :=
  if (s.lookup (lineGsn a)).st != 1 || (s.lineLmp a).isNone || s.cachePolicy n (s.lineRegion a) == 2 then s
  else
    let x := s.slice n
    match x.merged a, x.findWay a with
    | some m, _ => if m.poison then s else (s.install n a m.data false).2
    | none, some w => s.setSlice n (x.touch (setHash a) (s.classWays n (s.wayGroup n w)) w (x.way (setHash a) w).age)
    | none, none =>
      let k := x.serial
      (s.setSlice n { x with serial := k + 1 }).missRead n a
        { ident := preloadIdent g, sender := .internal (28 + g), serial := k, own := [], after := none, sram := .none, served := false,
          beyond := true }

/-- A preload asks for its next lines, as long as fewer than 64 of its misses are outstanding (R128). -/
def State.preloadMore (s : State) (n g : Nat) : Nat → State
  | 0 => s
  | fuel + 1 =>
    let x := s.slice n
    let k := x.preNext.get 0 g
    if 64 ≤ x.preloadsOut || !x.stalled.isEmpty then s else
    match s.preloadLineAt n g k with
    | none => s
    | some a => State.preloadMore ((s.setSlice n { x with preNext := x.preNext.set 0 g (k + 1) }).preloadLine n g a) n g fuel

/-- The running preloads of a slice go on (R128). -/
def State.preloadAll (s : State) (n : Nat) : State :=
  s.each (s.slice n).preloading (fun s g => s.preloadMore n g (8 * (s.lockRange n g).2.2 + 1))

/-- SLC_LOCK_CTL.PRELOAD (R128). -/
def State.startPreload (s : State) (n g : Nat) : State :=
  let x := s.slice n
  if g ∈ x.preloading then s
  else (s.setSlice n { x with preloading := x.preloading ++ [g], preNext := x.preNext.set 0 g 0 }).preloadMore n g (8 * (s.lockRange n g).2.2 + 1)

/-- A preload ends once every line of its range that the slice serves has been installed or skipped (R128). -/
def State.preloadDone (s : State) (n g : Nat) : State :=
  let x := s.slice n
  let mine (w : Waiter) : Bool := w.ident == preloadIdent g
  if g ∉ x.preloading || (s.preloadLineAt n g (x.preNext.get 0 g)).isSome || x.misses.any (fun m => m.waiters.any mine)
      || x.stalled.any (fun w => mine w.2) then s
  else s.setSlice n { x with preloading := removeAll x.preloading g }

/-- The fill takes the place of a line, whose requests in the data array are replayed from S3 and miss (R114, R115). -/
def State.displaces (s : State) (n : Nat) (a : LineAddr) (stale : Bool) : Bool :=
  let x := s.slice n
  let cls := s.classWays n (s.lineGroup n a)
  (s.install n a 0 stale).1 && (x.findWay a).isNone && (x.victim (setHash a) cls).any (fun w => (x.way (setHash a) w).valid)

/-- A fill arrives: the bytes of released stores over it, the answers, the value to the lane entries that wait for it, and
the install; `replays` requests had hit the line whose way it takes (R52, R107, R112, R115, R131). -/
def State.fillArrive (s : State) (a : LineAddr) (replays : Nat) : State :=
  let n := sliceHash a
  match (s.slice n).missOf a with
  | none => s
  | some m =>
    match m.stage with
    | .fill data poison passed =>
      let base := m.newer.getD (data, poison)
      let s := s.dropMiss a
      let s := s.setSlice n { s.slice n with lanes := (s.slice n).lanes.map (fun (e : LaneEntry) =>
        if e.uid ∈ m.entries then { e with current := some base } else e) }
      let s := if base.2 && m.newer.isNone then s.notePoison a else s
      let s := if passed && !base.2 then
          (if s.displaces n a m.stale then s.perfEvent (slcPage n) 0x07 replays else s).install n a base.1 m.stale |>.2
        else s.perfEvent (slcPage n) 0x09 1
      (s.each m.waiters (fun s w => s.fillWaiter a base w)).preloadAll n
    | _ => s

/-- A miss entry is free: the read in S5 goes on, and then admission (R108). -/
def State.missFullEnd (s : State) (n : Nat) : State :=
  let x := s.slice n
  match x.stalled with
  | [] => s.admitAll n
  | r :: t =>
    if x.misses.length < 512 then ((s.setSlice n { x with stalled := t }).lookRead n r.1 r.2).admitAll n else s

/-! ### Page fills (R54, R192, R195) -/

/-- The lines a page fill brings: of the mapped page, UNWRITTEN for an unmapped one, poison for a Poisoned one. -/
def State.fillLine (s : State) (l : Lmp) (i : Nat) : SLine :=
  let e := s.entry l
  match e.st.toNat, s.pageAt e.ppa with
  | 1, some g => if s.readable e.ppa then pageLineOf g.lines i else poisonLine
  | 2, _ => poisonLine
  | _, _ => unwrittenLine

/-- A page fill fails: a Filling frame is freed, and the lines a Merging frame still needs are poison (R191). -/
def State.fillFails (s : State) (l : Lmp) : State :=
  if l ∉ s.dtc.fills then s else
  let s := s.endFill l
  match s.frameOf l with
  | none => s.wakeFill l
  | some (n, f) =>
    let missing := (List.range 64).filter (fun i => !bitAt f.mask i)
    let filled := missing.foldl (fun (t : Tab SLine) i => t.put i poisonLine) f.lines
    let s :=
      if f.st == 1 then s.dropFrame n
      else if f.st == 5 then s.becomeDirty n { f with lines := filled, mask := fullMask }
      else s
    ((s.wakeFill l).retryWaiting).pump

/-- The crumbs a fill transfers: those with a line it still needs (R192). -/
def fillCrumbs (f : Frame) : List Nat :=
  (List.range 8).filter (fun c => (List.range 8).any (fun i => !bitAt f.mask (8 * c + i)))

/-- One crumb of a page fill: decoded on its die with its marks, or rebuilt from its stripe, or lost; answers whether it was lost (R228,
R231). -/
def State.fillCrumb (s : State) (p : Ppa) (recon : Bool) (o : CrumbOutcome × Bool) : Bool × State :=
  let s := if recon then s.countRecon p else s.countRead (ppaBlock p)
  match (if recon then none else crumbParts o.1) with
  | some (step, corrected, refs) => (false, s.crumbMarks p step corrected refs)
  | none =>
    let s := if recon then s else s.countRecon p
    if o.2 && !s.mateFenced p then (false, if recon then s else s.crumbRebuilt p) else (true, s.crumbLost p)

/-- The crumbs of a page fill, in crumb order, with the outcome of each and whether its reconstruction, where it needs one, succeeds;
answers the crumbs lost. -/
def State.fillCrumbsDone (s : State) (p : Ppa) (recon : Bool) (l : List (Nat × CrumbOutcome × Bool)) : List Nat × State :=
  l.foldl (fun (acc : List Nat × State) e =>
    let r := acc.2.fillCrumb p recon e.2
    (if r.1 then acc.1 ++ [e.1] else acc.1, r.2)) ([], s)

/-- A page fill ends (R191, R192): Filling becomes Clean, Merging becomes Dirty. `got` gives the outcomes of the crumbs the fill still
needs, in crumb order. A crumb that no step of R228 could decode frees a Filling frame, and a Merging frame takes its lines as poison. -/
def State.pageFill (s : State) (l : Lmp) (got : List (CrumbOutcome × Bool)) : State :=
  if l ∉ s.dtc.fills then s else
  let read := s.mch.reads.find? (fun (r : CrumbRead) => r.why == .fill l)
  if read.any (fun r => r.waits || (!r.recon && !s.inTurn r)) then s else
  let s := s.endFill l
  match s.frameOf l with
  | none => s.wakeFill l
  | some (n, f) =>
    let p := (s.entry l).ppa
    let needed := if (s.entry l).st == 1 then (fillCrumbs f).zip (got ++ List.replicate 8 (.step1 0 [], true)) else []
    let (bad, s) := s.fillCrumbsDone p (read.any CrumbRead.recon) needed
    let missing := (List.range 64).filter (fun i => !bitAt f.mask i)
    let filled := missing.foldl (fun (t : Tab SLine) i => t.put i (if decide (i / 8 ∈ bad) then poisonLine else s.fillLine l i)) f.lines
    let s :=
      if f.st == 1 then (if bad.isEmpty then s.setFrame n { f with st := 2, lines := filled, ref := true } else s.dropFrame n)
      else if f.st == 5 then s.becomeDirty n { f with lines := filled, mask := fullMask }
      else s
    ((s.wakeFill l).retryWaiting).pump

end Sys2Proof.Machine
end

