-- ==== Sys2Proof/Machine/Rewind.lean ====
section
/-! DEFINITION. Rewind: marks, the budget, the three operations with their phases, the void table, and what a mirror holder
and its owner tell each other (R285 to R312). -/

namespace Sys2Proof.Machine

/-! ### Regions and marks -/

/-- The local segments of a region. -/
def State.regionSegs (s : State) (r : Nat) : List Nat :=
  (s.mte.segs.filter (fun (e : Nat × Seg) => e.2.st != 0 && decide (e.2.region.toNat = r))).map Prod.fst

/-- Retained usage of a region in pages: its entries that are not absent (R293). -/
def State.rwUsage (s : State) (r : Nat) : Nat :=
  (s.mte.index.filter (fun (e : IdxEntry) => decide (e.region.toNat = r) && e.ppa != 0xffffffff)).length

/-- Index slots (R292). -/
def indexSlots : Nat := 201326592

/-- The index has no free slot (R297). -/
def State.indexFull (s : State) : Bool := decide (indexSlots ≤ s.mte.index.length)

/-- The usage has reached `pct` percent of the budget, or the index is full (R295 to R297); a region that retains nothing
has reached no level (log 21). -/
def State.rwReached (s : State) (r pct : Nat) : Bool :=
  let u := s.rwUsage r
  s.indexFull || (decide (0 < u) && decide ((s.region r).budget * 16384 * pct ≤ u * 100))

/-- RET of an LMP follows its index entries (R247). -/
def State.fixRet (s : State) (l : Lmp) : State :=
  let e := s.entry l
  let on := s.mte.index.any (fun (x : IdxEntry) => x.lmp == l)
  if e.ret == on then s else s.setEntry l { e with ret := on }

/-- Keep the index entries that a test accepts; the RET bits of the freed ones follow. -/
def State.keepIndex (s : State) (ok : IdxEntry → Bool) : State :=
  let gone := (s.mte.index.filter (fun x => !ok x)).map IdxEntry.lmp
  let s := { s with mte := { s.mte with index := s.mte.index.filter ok } }
  s.each gone State.fixRet

/-- An entry of a region attributed to a mark. -/
def IdxEntry.of (x : IdxEntry) (r : Nat) (epoch : BitVec 16) : Bool := decide (x.region.toNat = r) && x.mark == epoch

/-- Free or reattribute the entries of a dropped mark: those below the next older live cut go to that mark (R304). -/
def State.releaseMark (s : State) (r : Nat) (epoch : BitVec 16) : State :=
  let marks := (s.rwr r).marks
  let older := ((marks.takeWhile (fun m => m.epoch != epoch)).getLast?)
  let s := s.setRwr r { s.rwr r with marks := marks.filter (fun m => m.epoch != epoch) }
  match older with
  | none => s.keepIndex (fun x => !x.of r epoch)
  | some m =>
    let s := { s with mte := { s.mte with index := s.mte.index.map (fun (x : IdxEntry) =>
      if x.of r epoch && x.wsn < m.cut then { x with mark := m.epoch } else x) } }
    s.keepIndex (fun x => !x.of r epoch)

/-- The RW_DROP entry of a mark (R305). -/
def dropEntry (r : Nat) (m : Mark) (cause : Nat) : JEntry :=
  { type := 0x11, arg := BitVec.ofNat 8 r, x := BitVec.ofNat 64 m.cut, y := BitVec.ofNat 64 (m.epoch.toNat + cause * 2 ^ 16), z := 0 }

/-- Expire drops the oldest mark (R295). -/
def State.expireOldest (s : State) (r : Nat) : State :=
  match (s.rwr r).marks with
  | [] => s
  | m :: _ => (((s.journal (dropEntry r m 1)).releaseMark r m.epoch).raise 0x031 .rwExpire)

/-- A REWIND_TO or REWIND_DROP of the region is past its Check phase (R295). -/
def State.rwBusyDrop (s : State) (r : Nat) : Bool := (s.rwr r).op.any (fun o => o.kind != 1)

/-- Expire under a usage at the budget: drop the oldest marks until the usage lies below (R295). -/
def State.expireLoop : Nat → State → Nat → State
  | 0, s, _ => s
  | n + 1, s, r =>
    if s.rwReached r 100 && !(s.rwr r).marks.isEmpty && !s.rwBusyDrop r then State.expireLoop n (s.expireOldest r) r else s

/-- Guard's level of a region: 0 normal, 1 throttled, 2 full (R296). -/
def State.guardLevel (s : State) (r : Nat) : Nat := if s.rwReached r 100 then 2 else if s.rwReached r 90 then 1 else 0

/-- The policy of one region after its usage has changed (R295 to R297). -/
def State.rwPolicy (s : State) (r : Nat) : State :=
  if !(s.region r).rewind then
    if (s.rwr r).guard == 0 then s else s.setRwr r { s.rwr r with guard := 0 }
  else if (s.region r).guard then
    let g := s.guardLevel r
    let old := (s.rwr r).guard.toNat
    let s := s.setRwr r { s.rwr r with guard := BitVec.ofNat 2 g }
    let s := if g = 1 && old = 0 then s.raise 0x031 .rwGuardThrot else s
    if g = 2 && old != 2 then s.raise 0x031 .rwGuardFull else s
  else
    let s := if (s.rwr r).guard == 0 then s else s.setRwr r { s.rwr r with guard := 0 }
    State.expireLoop 16 s r

/-- Regions with a committed record or rewind state. -/
def State.rwRegions (s : State) : List Nat := (s.mte.regions.keys ++ s.mte.rw.keys).foldl insertNew []

/-- The policies of every region, and INDEX_FULL when the index fills (R295 to R297). -/
def State.rwCheck (s : State) : State :=
  let id := srcId 0x031 4
  let was := decide (id ∈ s.flt.live)
  let s := s.setLive 0x031 .rwIndexFull s.indexFull
  let s := if s.indexFull && !was then s.raise 0x031 .rwIndexFull else s
  s.each s.rwRegions State.rwPolicy

/-! ### Ends of operations (R299, R312) -/

/-- The mirror holders of a region's mirrored segments. -/
def State.rwHolders (s : State) (r : Nat) : List Dev :=
  ((s.regionSegs r).filter (fun i => (s.seg i).st = 1 && (s.seg i).mmode != 0 && (s.seg i).partner != 0)).foldl
    (fun l i => insertNew l (s.seg i).partner) []

/-- Result words of a rewind operation: a mark that was taken reports its epoch and cut (R496). -/
def RwOp.results (o : RwOp) (status : Status) : List Word :=
  if o.kind = 1 && (status = stOk || status = stPartial) then
    [o.epoch.setWidth 32, BitVec.ofNat 32 o.cut, BitVec.ofNat 32 (o.cut / 2 ^ 32)]
  else []

/-- An operation ends with a status: its completion, or its RW_CONF to the owner; drops that fell due meanwhile follow. -/
def State.rwFinish (s : State) (r : Nat) (o : RwOp) (status : Status) : State :=
  let s := s.setRwr r { s.rwr r with op := none }
  let s := match o.peer with
    | some (dev, tag) => s.sendPlain dev tag 0 status 0 .rwConf
    | none => s.finish o.handle status (o.results status)
  s.rwCheck

/-- The local part has ended well: done, or waiting for the holders (R312). -/
def State.rwDone (s : State) (r : Nat) (o : RwOp) : State :=
  if o.confirms.isEmpty then
    if o.partial_ then (s.rwFinish r o stPartial).raise 0x031 .rwMirrorPart else s.rwFinish r o stOk
  else s.setRwr r { s.rwr r with op := some { o with phase := 4 } }

/-- A holder confirms an operation (R312). -/
def State.rwConfirm (s : State) (dev : Dev) (tag : BitVec 16) (status : Status) : State :=
  match s.mte.rw.find? (fun (e : Nat × RwRegion) => e.2.op.any (fun o => decide ((dev, tag) ∈ o.confirms))) with
  | none => s
  | some (r, x) =>
    match x.op with
    | none => s
    | some o =>
      let o := { o with confirms := removeAll o.confirms (dev, tag), partial_ := o.partial_ || status != 0 }
      if o.phase = 4 then s.rwDone r o else s.setRwr r { x with op := some o }

/-- The mirror confirmation timeout: PARTIAL (R312). Answers whether it applied. -/
def State.rwConfirmTimeout (s : State) (r : Nat) : Bool × State :=
  match (s.rwr r).op with
  | some o =>
    if o.phase = 4 then (true, (s.rwFinish r o stPartial).raise 0x031 .rwMirrorPart) else (false, s)
  | none => (false, s)

/-- A tag for each holder of the region, under which its answer is due (R312). -/
def State.rwTags (s : State) (r : Nat) : List (Dev × BitVec 16) × State :=
  (s.rwHolders r).foldl (fun (acc : List (Dev × BitVec 16) × State) d =>
    let t := acc.2.newTag
    (acc.1 ++ [(d, t.1)], t.2)) ([], s)

/-- Tell each holder of the region of an operation, and note whose answers are due (R312). -/
def State.rwForward (s : State) (r : Nat) (m : Msg) : List (Dev × BitVec 16) × State :=
  let f := s.rwTags r
  (f.1, f.2.each f.1 (fun s e => s.sendPlain e.1 e.2 0 0 0 m))

/-- The mirror stream of a region holds every store released before: none is in a merge store, and no line update waits behind another
(R312, R387). -/
def State.streamed (s : State) (r : Nat) : Bool :=
  !(List.range 8).any (fun n => (s.slice n).merge.any (fun m => decide (s.lineRegion m.line = r))) &&
  !s.sve.updates.any (fun (u : LineUpd) => u.next.isSome && decide (s.lineRegion u.line = r))

/-- The mark markers of a region follow the last store released before Hold into the mirror stream (R312). -/
def State.sendMarkers (s : State) (r : Nat) : State :=
  match (s.rwr r).op with
  | some o =>
    if o.unsent.isEmpty || !s.streamed r then s
    else (s.setRwr r { s.rwr r with op := some { o with unsent := [] } }).each o.unsent
      (fun s e => s.sendPlain e.1 e.2 0 0 0 (.rwMarker (BitVec.ofNat 8 r) o.epoch))
  | none => s

/-- Mark markers that can go. -/
def State.markersGo (s : State) : State := s.each s.mte.rw.keys State.sendMarkers

/-! ### REWIND_MARK (R300, R301) -/

/-- The statuses of R299 for a mark, in its order; none when it may run. -/
def State.markRefusal (s : State) (region : Nat) (right : Bool) : Option Status :=
  let x := s.rwr region
  let g := s.region region
  if 255 < region then some stRange
  else if !g.rewind || g.persist = 0 then some stState
  else if !right then some stDenied
  else if x.op.isSome then some stBusy
  else if 16 ≤ x.marks.length && g.guard then some stNoResource
  else none

/-- Hand every Dirty frame of a region to the MTE, and drain its merge-store entries (R300). -/
def State.holdRegion (s : State) (r : Nat) : State :=
  let s := { s with mte := { s.mte with heldRegions := insertNew s.mte.heldRegions r } }
  let s := s.each (List.range 8) (fun s n => s.drainMarks n (fun m => !m.draining && decide (s.lineRegion m.line = r)))
  let l := (s.dtc.frames.filter (fun (e : Nat × Frame) => e.2.st == 3 && decide (s.regionOfLmp e.2.lmp = r))).map Prod.fst
  (s.each l State.handOver).pump

/-- A mark's Check has passed: room under Expire, Hold, and a marker due to each holder (R295, R300, R312). -/
def State.startMark (s : State) (r : Nat) (epoch : BitVec 16) (handle : Word) (peer : Option (Dev × BitVec 16)) : State :=
  let s := if 16 ≤ (s.rwr r).marks.length then s.expireOldest r else s
  let f := s.rwTags r
  let o : RwOp := { kind := 1, phase := 1, epoch := epoch, cut := 0, high := 0, handle := handle, peer := peer, confirms := f.1, partial_ := false,
                    unsent := f.1 }
  (f.2.setRwr r { f.2.rwr r with op := some o }).holdRegion r

/-- Releases of a region go on. -/
def State.unholdRegion (s : State) (r : Nat) : State :=
  { s with mte := { s.mte with heldRegions := removeAll s.mte.heldRegions r } }

/-- What Hold waits for: no store of the region in a merge store or at the DTC, and no frame of it Merging, Dirty or
Reprogramming (R300, R301, log 22). -/
def State.holdMet (s : State) (r : Nat) : Bool :=
  !s.dtc.frames.any (fun (e : Nat × Frame) => decide (e.2.st ∈ [3, 5, 6]) && decide (s.regionOfLmp e.2.lmp = r)) &&
  !s.dtc.frames.any (fun (e : Nat × Frame) => !e.2.held.isEmpty && decide (s.regionOfLmp e.2.lmp = r)) &&
  !(List.range 8).any (fun n => (s.slice n).merge.any (fun m => decide (s.lineRegion m.line = r))) &&
  !s.dtc.waiting.any (fun w => decide (s.lineRegion w.line = r))

/-- Hold ends: the cut is the next WSN, RW_MARK is appended (R300). -/
def State.markHoldEnd (s : State) (r : Nat) : State :=
  match (s.rwr r).op with
  | some o =>
    if o.kind = 1 && o.phase = 1 && s.holdMet r then
      let c := s.mte.nextWsn
      let t := s.opMs % 2 ^ 40
      let s := s.journal { type := 0x10, arg := BitVec.ofNat 8 r, x := BitVec.ofNat 64 c,
                           y := BitVec.ofNat 64 (t + o.epoch.toNat * 2 ^ 40), z := 0 }
      s.setRwr r { s.rwr r with marks := (s.rwr r).marks ++ [⟨o.epoch, c, BitVec.ofNat 40 t⟩],
                                op := some { o with phase := 2, cut := c } }
    else s
  | none => s

/-- RW_MARK is durable: the epoch increments, releases resume, the mark is taken (R286, R300). -/
def State.markDurable (s : State) (r : Nat) : State :=
  match (s.rwr r).op with
  | some o =>
    if o.kind = 1 && o.phase = 2 && s.isDurable 0x10 (BitVec.ofNat 64 o.cut) then
      let x := s.rwr r
      ((s.setRwr r { x with epoch := if o.peer.isSome then x.epoch else x.epoch + 1, op := some { o with phase := 3 } }).unholdRegion r).rwDone r { o with phase := 3 }
    else s
  | none => s

/-- The mark hold timeout: no mark, releases resume, ABORTED, OP_TMO (R316). -/
def State.markTimeout (s : State) (r : Nat) : State :=
  match (s.rwr r).op with
  | some o =>
    if o.kind = 1 && o.phase = 1 then ((s.unholdRegion r).rwFinish r { o with confirms := [] } stAborted).raise 0x031 .rwOpTmo
    else s
  | none => s

/-! ### REWIND_TO (R302, R303, R306) -/

/-- The statuses of R299 for REWIND_TO, in its order. -/
def State.toRefusal (s : State) (region : Nat) (epoch : BitVec 16) (right : Bool) : Option Status :=
  let x := s.rwr region
  if 255 < region then some stRange
  else if !(s.region region).rewind || (s.regionSegs region).any (fun i => (s.seg i).st = 2 || (s.seg i).st = 3) then some stState
  else if !right then some stDenied
  else if x.op.isSome then some stBusy
  else if 1024 ≤ s.mte.voids.length then some stNoResource
  else if !x.marks.any (fun m => m.epoch == epoch) then some stRange
  else none

/-- Hold admission to the segments of a region, as step 1 of R97 does. -/
def State.holdSegs (s : State) (l : List Nat) : State := { s with mte := { s.mte with heldSegs := l.foldl insertNew s.mte.heldSegs } }

/-- Admission to segments goes on. -/
def State.freeSegs (s : State) (l : List Nat) : State :=
  ({ s with mte := { s.mte with heldSegs := s.mte.heldSegs.filter (fun i => decide (i ∉ l)) } }).resumeAdmission

/-- A rewind's Check has passed: Quiesce (R302). -/
def State.startTo (s : State) (r : Nat) (epoch : BitVec 16) (handle : Word) (peer : Option (Dev × BitVec 16)) : State :=
  let f := s.rwForward r (.rwFwd 1 (BitVec.ofNat 8 r) epoch)
  let s := f.2
  let cut := (((s.rwr r).marks.find? (fun m => m.epoch == epoch)).map Mark.cut).getD 0
  let o : RwOp := { kind := 2, phase := 1, epoch := epoch, cut := cut, high := 0, handle := handle, peer := peer, confirms := f.1, partial_ := false }
  (s.setRwr r { s.rwr r with op := some o }).holdSegs (s.regionSegs r)

/-- No request of the segments is left in a lane or a slice pipeline (R97, R302, R380). -/
def State.segsQuiet (s : State) (l : List Nat) : Bool :=
  let mine (a : LineAddr) : Bool := match s.lsiOf (lineGsn a) with
    | some i => decide (i ∈ l)
    | none => false
  !(List.range 8).any (fun n => let x := s.slice n
    x.lanes.any (fun e => mine e.line) || x.misses.any (fun m => mine m.line) || x.behind.any (fun e => mine e.1)
      || x.stalled.any (fun e => mine e.1))

/-- What Quiesce waits for (R302). -/
def State.quiesceMet (s : State) (r : Nat) : Bool :=
  s.segsQuiet (s.regionSegs r) &&
  !s.dtc.frames.any (fun (e : Nat × Frame) => (e.2.st == 4 || e.2.st == 6) && decide (s.regionOfLmp e.2.lmp = r))

/-- A page that has left the staging area rides no further: its place in a stripe becomes a filler (R63). -/
def blankPage (gone : Lmp → Bool) (p : StripePage) : StripePage :=
  if p.tag.type == 1 && p.from_.isNone && gone p.tag.lmp then { p with tag := { p.tag with type := 0x02, lmp := 0xffffffff } } else p

/-- Pages whose frames are lost or discarded leave the hand-off, the open stripe and the stripes not yet issued, and their fills end. -/
def State.forgetPages (s : State) (gone : Lmp → Bool) : State :=
  let s := s.each (s.dtc.fills.filter gone) State.endFill
  { s with mte := { s.mte with
      handoff := s.mte.handoff.filter (fun l => !gone l), gather := s.mte.gather.map (blankPage gone),
      stripes := s.mte.stripes.map (fun (y : Stripe) =>
        if y.issued || y.kind != 0 then y else { y with pages := y.pages.map (blankPage gone) }) } }

/-- Discard the merge-store entries, the lines that wait at the DTC and the frames of segments; their waiting stores end in error but count
as having reached their point. R302 lists Dirty, Merging and Clean frames; no Programming or Reprogramming one is left when Quiesce ends,
and a Filling one is dropped with its fill, which would bring back what the rewind voids (R61, R89, R302, log 81). -/
def State.discardSegs (s : State) (l : List Nat) : State :=
  let mine (x : Lmp) : Bool := decide (lmpLsi x ∈ l)
  let line (s : State) (a : LineAddr) : Bool := (s.lineLmp a).any mine
  let s := s.each (List.range 8) (fun s n =>
    let x := s.slice n
    let ws := (x.merge.filter (fun m => line s m.line)).flatMap MergeEntry.waits
    (s.setSlice n { x with merge := x.merge.filter (fun m => !line s m.line) }).each ws State.answerRefused)
  let frames := s.dtc.frames.filter (fun (e : Nat × Frame) => mine e.2.lmp)
  let ws := frames.flatMap (fun e => e.2.waits ++ e.2.carried ++ e.2.held.flatMap (fun h => h.2.2))
  let ds := s.dtc.waiting.filter (fun w => line s w.line)
  let keep := s.dtc.waiting.filter (fun w => !line s w.line)
  let s := (s.forgetPages mine).each (frames.map Prod.fst) State.dropFrame
  let s := s.each (frames.map (fun e => e.2.lmp)) State.wakeFill
  let s := { s with dtc := { s.dtc with waiting := keep } }
  ((s.each ws State.answerRefused).each (ds.flatMap DtcWait.waits) State.answerRefused).gpfChecks

/-- Local segments of a region that a cut covers (R287). -/
def State.coveredSegs (s : State) (r cut : Nat) : List Nat := (s.regionSegs r).filter (fun i => decide ((s.seg i).allocWsn < cut))

/-- Enter a void range, removing the ranges it supersedes (R306). -/
def State.addVoid (s : State) (v : VoidEntry) : State :=
  let old := s.mte.voids.length
  let l := (s.mte.voids.filter (fun (x : VoidEntry) => !(x.region == v.region && decide (v.low ≤ x.low)))) ++ [v]
  let s := { s with mte := { s.mte with voids := l } }
  if old < 768 && 768 ≤ l.length then s.raise 0x031 .rwVoidHigh else s

/-- Quiesce ends: Discard, then RW_VOID is appended (R302). -/
def State.toQuiesceEnd (s : State) (r : Nat) : State :=
  match (s.rwr r).op with
  | some o =>
    if o.kind = 2 && o.phase = 1 && s.quiesceMet r then
      let s := (s.discardSegs (s.coveredSegs r o.cut)).sweepAll (.region (BitVec.ofNat 8 r))
      let high := s.mte.nextWsn
      let s := s.journal { type := 0x12, arg := BitVec.ofNat 8 r, x := BitVec.ofNat 64 o.cut, y := BitVec.ofNat 64 high, z := o.epoch.setWidth 32 }
      let s := s.addVoid ⟨BitVec.ofNat 8 r, o.cut, high, s.mte.nextSetid⟩
      s.setRwr r { s.rwr r with op := some { o with phase := 2, high := high } }
    else s
  | none => s

/-- Point an LMP back at the version an index entry holds (R302). -/
def State.restoreEntry (s : State) (x : IdxEntry) : State :=
  if x.ppa = 0xffffffff then
    let s := s.journal { type := 0x03, arg := 0, x := BitVec.ofNat 64 (x.lmp.toNat + 2 ^ 32), y := BitVec.ofNat 64 x.wsn, z := 0 }
    let s := { s with mte := { s.mte with unmapWsn := s.mte.unmapWsn.put x.lmp.toNat x.wsn } }
    s.setEntry x.lmp { s.entry x.lmp with st := 0, relgen := 0, ppa := 0 }
  else
    let s := s.journal { type := 0x02, arg := x.relgen, x := x.lmp.setWidth 64, y := BitVec.ofNat 64 x.wsn, z := x.ppa }
    s.setEntry x.lmp { s.entry x.lmp with st := 1, relgen := x.relgen, ppa := x.ppa }

/-- Apply: the entries of the target and of every younger mark are visited, those below the cut restored, the younger marks
dropped (R302). -/
def State.applyTo (s : State) (r : Nat) (o : RwOp) : State :=
  let marks := (s.rwr r).marks
  let young := (marks.dropWhile (fun m => m.epoch != o.epoch)).drop 1
  let epochs := o.epoch :: young.map Mark.epoch
  let visited (x : IdxEntry) : Bool := decide (x.region.toNat = r) && decide (x.mark ∈ epochs)
  let s := s.each (s.mte.index.filter (fun x => visited x && decide (x.wsn < o.cut))) State.restoreEntry
  let s := s.keepIndex (fun x => !visited x)
  let s := s.each young (fun s m => s.journal (dropEntry r m 2))
  s.setRwr r { s.rwr r with marks := marks.filter (fun m => !decide (m ∈ young)) }

/-- RW_DONE of an operation (R305). -/
def doneEntry (r : Nat) (o : RwOp) : JEntry :=
  { type := 0x15, arg := BitVec.ofNat 8 r, x := BitVec.ofNat 64 o.cut, y := BitVec.ofNat 64 o.high, z := o.epoch.setWidth 32 }

/-- RW_VOID is durable: Apply, and RW_DONE is appended (R302). -/
def State.voidDurable (s : State) (r : Nat) : State :=
  match (s.rwr r).op with
  | some o =>
    if o.kind = 2 && o.phase = 2 && s.isDurable 0x12 (BitVec.ofNat 64 o.cut) then
      let s := (s.applyTo r o).journal (doneEntry r o)
      s.setRwr r { s.rwr r with op := some { o with phase := 3 } }
    else s
  | none => s

/-- RW_DONE is durable: admission resumes, the region is at the mark (R302, R303). -/
def State.doneDurable (s : State) (r : Nat) : State :=
  match (s.rwr r).op with
  | some o =>
    if o.kind = 2 && o.phase = 3 && s.isDurable 0x15 (BitVec.ofNat 64 o.cut) then (s.freeSegs (s.regionSegs r)).rwDone r o
    else s
  | none => s

/-- The rewind quiesce timeout: admission resumes with the region unchanged, TIMEOUT, OP_TMO (R316). -/
def State.quiesceTimeout (s : State) (r : Nat) : State :=
  match (s.rwr r).op with
  | some o =>
    if o.kind = 2 && o.phase = 1 then
      ((s.freeSegs (s.regionSegs r)).rwFinish r { o with confirms := [] } stTimeout).raise 0x031 .rwOpTmo
    else s
  | none => s

/-! ### REWIND_DROP (R304) -/

/-- The statuses of R299 for REWIND_DROP, in its order. -/
def State.dropRefusal (s : State) (region : Nat) (epoch : BitVec 16) (right : Bool) : Option Status :=
  let x := s.rwr region
  if 255 < region then some stRange
  else if !(s.region region).rewind then some stState
  else if !right then some stDenied
  else if x.op.isSome then some stBusy
  else if !x.marks.any (fun m => m.epoch == epoch) then some stRange
  else none

/-- A drop's Check has passed: RW_DROP is appended and waits to be durable (R304). -/
def State.startDrop (s : State) (r : Nat) (epoch : BitVec 16) (handle : Word) (peer : Option (Dev × BitVec 16)) : State :=
  let f := s.rwForward r (.rwFwd 2 (BitVec.ofNat 8 r) epoch)
  let s := f.2
  match (s.rwr r).marks.find? (fun m => m.epoch == epoch) with
  | none => s
  | some m =>
    let o : RwOp := { kind := 3, phase := 2, epoch := epoch, cut := m.cut, high := 0, handle := handle, peer := peer, confirms := f.1, partial_ := false }
    (s.journal (dropEntry r m 0)).setRwr r { s.rwr r with op := some o }

/-- Drops whose RW_DROP has become durable free or reattribute their entries and complete (R304). -/
def State.dropsDurable (s : State) : State :=
  s.each s.mte.rw.keys (fun s r => match (s.rwr r).op with
    | some o =>
      if o.kind = 3 && o.phase = 2 && s.isDurable 0x11 (BitVec.ofNat 64 o.cut) then (s.releaseMark r o.epoch).rwDone r o else s
    | none => s)

/-! ### At a mirror holder (R312) -/

/-- The region of this holder that keeps the copies of an owner's region. -/
def State.heldRegionOf (s : State) (dev : Dev) (region : Byte) : Option Nat :=
  (s.sve.holdRegions.find? (fun e => e.1 == dev && e.2.1 == region)).map (fun e => e.2.2.toNat)

/-- A mark marker has come down the mirror stream: this holder runs REWIND_MARK under the owner's epoch, or refuses. -/
def State.holderMark (s : State) (dev : Dev) (tag : BitVec 16) (region : Byte) (epoch : BitVec 16) : State :=
  match s.heldRegionOf dev region with
  | none => s.sendPlain dev tag 0 stState 0 .rwConf
  | some r =>
    match s.markRefusal r true with
    | some st => s.sendPlain dev tag 0 st 0 .rwConf
    | none => s.startMark r epoch 0 (some (dev, tag))

/-- A forwarded REWIND_TO (1) or REWIND_DROP (2) runs on this holder's own marks, or is refused. -/
def State.holderFwd (s : State) (dev : Dev) (tag : BitVec 16) (op : Nat) (region : Byte) (epoch : BitVec 16) : State :=
  match s.heldRegionOf dev region with
  | none => s.sendPlain dev tag 0 stState 0 .rwConf
  | some r =>
    if op = 1 then
      match s.toRefusal r epoch true with
      | some st => s.sendPlain dev tag 0 st 0 .rwConf
      | none => s.startTo r epoch 0 (some (dev, tag))
    else if op = 2 then
      match s.dropRefusal r epoch true with
      | some st => s.sendPlain dev tag 0 st 0 .rwConf
      | none => s.startDrop r epoch 0 (some (dev, tag))
    else s

end Sys2Proof.Machine
end

