-- ==== Sys2Proof/Machine/Fabric.lean ====
section
/-! DEFINITION. Requests between modules: what a requester sends, holds, reissues and gives up, and what an owner accepts in
order, forwards and answers (R60, R66, R68, R73, R85, R147, R160 to R162, R343 to R346, R381 to R384, R396). -/

namespace Sys2Proof.Machine

/-! ### The lookup of R85 with the lease of R396 -/

/-- This module's own segment lies in a mirror pair. -/
def State.paired (s : State) (gsn : Nat) : Bool :=
  match s.lsiOf gsn with
  | some i => (s.seg i).st == 1 && (s.seg i).mmode != 0 && (s.seg i).partner != 0
  | none => false

/-- The directory entry FXB acts on: Invalid for a mirrored own segment while the lease has lapsed (R85, R396). -/
def State.acted (s : State) (gsn : Nat) : DirEntry :=
  let e := s.lookup gsn
  if e.st = 1 && !s.sve.lease && s.paired gsn then { e with st := 0 } else e

/-- INVALID_SEG with its GSN (R85, R363). -/
def State.invalidSeg (s : State) (gsn : Nat) : State := s.raiseAt 0x180 .fxbInvalidSeg { kind := 1, items := [gsn] }

/-- The stream of a head's request (R343). -/
def streamOf (head : Nat) (a : LineAddr) : BitVec 10 :=
  BitVec.ofNat 10 ((List.range 5).foldl (fun x i => x ^^^ (a.toNat / 2 ^ (10 * i) % 1024)) (head * 0x2f) % 1024)

/-! ### The requester (R68, R345, R382) -/

/-- A remote request waits for its answer with the owner's stores and atomics held (R68). -/
def Remote.held (q : Remote) : Bool := q.kind == .store || q.kind == .atomic

/-- The head of a request. -/
def Remote.head (q : Remote) : Option (Fin 64) :=
  match q.sender with
  | .head h _ => some h
  | _ => none

/-- Remote stores held for a head (R68). -/
def State.heldFor (s : State) (h : Nat) : Nat :=
  (s.fxb.remotes.filter (fun q => q.held && (q.head.map Fin.val) == some h)).length

/-- REQs sent and not acknowledged, module-wide. -/
def State.unackedAll (s : State) : Nat := s.fxb.pairs.foldl (fun n (e : Nat × Pair) => n + e.2.unacked.length) 0

/-- The message of a request. -/
def Remote.msg (q : Remote) : Msg :=
  match q.kind with
  | .read => .rd q.line
  | .store => .wr q.line q.mask q.data
  | .atomic => .atom (BitVec.ofNat 56 (q.line.toNat * 64 + q.off.toNat)) q.op q.size q.a q.b
  | .barrier => .barrier (q.op.setWidth 2)
  | .gpf => .gpf

/-- XINFO of a request: REISSUE, and the poison of a poisoned write (R384, log 24). -/
def Remote.xinfo (q : Remote) : BitVec 16 := BitVec.ofNat 16 ((if q.reissued then 1 else 0) + if q.poison then 2 else 0)

/-- Room for a request: 1,024 held stores of its head, 2,048 REQs to its owner, 16,384 in all; and no request of the segment
under an older epoch is still due (R68, R345, R382). -/
def State.remoteRoom (s : State) (q : Remote) : Bool :=
  !s.halted 0x180 && decide ((s.pair q.dst.toNat).unacked.length < 2048) && decide (s.unackedAll < 16384) &&
  !(q.held && (q.head.any (fun h => decide (1024 ≤ s.heldFor h.val)))) &&
  !((q.kind == .read || q.held) && s.fxb.remotes.any (fun o => (o.kind == .read || o.held) && o.gsn == q.gsn && o.epoch != q.epoch))

/-- Send a request under a tag of its own. -/
def State.sendRemote (s : State) (q : Remote) : State :=
  let t := s.newTag
  let p := t.2.pair q.dst.toNat
  let q := { q with tag := t.1, esq := p.txNext }
  let s := { t.2 with fxb := { t.2.fxb with remotes := t.2.fxb.remotes ++ [q] } }
  s.sendSeq (s.grain q.dst q.stream true 0 q.tag q.epoch 0 q.xinfo) q.msg

/-- Send a request, or let it wait for room. -/
def State.offerRemote (s : State) (q : Remote) : State :=
  if s.remoteRoom q && !s.fxb.waitq.any (fun o => o.stream == q.stream && o.dst == q.dst) then s.sendRemote q
  else { s with fxb := { s.fxb with waitq := s.fxb.waitq ++ [q] } }

/-- A request that was to leave goes to this module's own slice instead (R384). -/
def State.runLocal (s : State) (q : Remote) : State :=
  match q.sender, q.kind with
  | .head h tag, .read => s.localRead q.line (.head h q.line) (.head h tag) .none
  | .head h tag, .store => s.localStore q.line (.head h q.line) (.head h tag) q.data q.mask q.poison
  | .head h tag, .atomic => s.localAtomic q.line (.head h q.line) (.head h tag) q.op q.size q.off q.a q.b
  | .internal k, .store => s.localStore q.line (.internal k) (.internal k) q.data q.mask q.poison
  | _, _ => s

/-- A request that has not been sent goes to the owner now in force, this module among them (R68, R85). -/
def State.offerAgain (s : State) (q : Remote) : State :=
  let e := s.lookup q.gsn.toNat
  if q.kind == .read || q.held then
    if e.st = 1 then s.runLocal q
    else s.offerRemote (if e.st = 2 || e.st = 4 then { q with dst := e.owner, epoch := e.epoch } else q)
  else s.offerRemote q

/-- Requests that waited for room try again, in order, under the owner and epoch now in force. -/
def State.retryWaitq (s : State) : State :=
  if s.halted 0x180 then s else
  let l := s.fxb.waitq
  let s := { s with fxb := { s.fxb with waitq := [] } }
  s.each l State.offerAgain

/-- A request of a head before its owner is known. -/
def blankRemote (kind : ReqKind) (h : Fin 64) (tag : BitVec 16) (a : LineAddr) : Remote :=
  { tag := 0, kind := kind, sender := .head h tag, dst := 0, epoch := 0, line := a, gsn := BitVec.ofNat 26 (lineGsn a), off := 0, op := 0,
    size := 0, a := 0, b := 0, data := 0, mask := 0, poison := false, stream := streamOf h.val a, esq := 0, answered := false,
    reissued := false }

/-- A head's read of a line; poison in a safe state that serves no reads (R50, R85, R519). -/
def State.headRead (s : State) (h : Fin 64) (tag : BitVec 16) (a : LineAddr) (sram : LcErr) : State :=
  let s := s.headOut h.val tag .read a
  if s.safe && !s.flt.reads then s.answerRead (.head h tag) 0 true else
  let e := s.acted (lineGsn a)
  match e.st.toNat with
  | 1 => s.localRead a (.head h a) (.head h tag) sram
  | 2 | 3 | 4 => s.offerRemote { blankRemote .read h tag a with dst := e.owner, epoch := e.epoch }
  | 5 => s.answerRead (.head h tag) 0 true
  | _ => (s.invalidSeg (lineGsn a)).answerRead (.head h tag) 0 true

/-- A head's store to a line; an error in the safe state (R61, R85, R416, R519). -/
def State.headStore (s : State) (h : Fin 64) (tag : BitVec 16) (a : LineAddr) (data : Line) (mask : BitVec 64) (poison : Bool) : State :=
  let s := s.headOut h.val tag .store a
  let e := s.acted (lineGsn a)
  let bad (s : State) : State := s.answerRefused { sender := .head h tag, late := true }
  if s.safe then bad s else
  match e.st.toNat with
  | 1 => s.localStore a (.head h a) (.head h tag) data mask poison
  | 2 | 3 | 4 => s.offerRemote { blankRemote .store h tag a with
      dst := e.owner, epoch := e.epoch, data := data, mask := if poison then fullMask else mask, poison := poison }
  | 5 => s.answerBad { sender := .head h tag, late := true } 3
  | _ => bad (s.invalidSeg (lineGsn a))

/-- A head's atomic: it counts as an atomic until its data, and as a store until its point (R65, R66, R167). -/
def State.headAtomic (s : State) (h : Fin 64) (tag : BitVec 16) (a : LineAddr) (off : BitVec 6) (op : BitVec 4) (size : BitVec 2)
    (x y : BitVec 128) : State :=
  let s := (s.headOut h.val tag .atomic a).headOut h.val tag .store a
  let e := s.acted (lineGsn a)
  let none_ (s : State) (rank : Nat) : State := (s.answerAtomic (.head h tag) 0 true).answerBad { sender := .head h tag, late := false } rank
  if s.safe then none_ s 0 else
  match e.st.toNat with
  | 1 => s.localAtomic a (.head h a) (.head h tag) op size off x y
  | 2 | 3 | 4 => s.offerRemote { blankRemote .atomic h tag a with
      dst := e.owner, epoch := e.epoch, off := off, op := op, size := size, a := x, b := y }
  | 5 => none_ s 3
  | _ => none_ (s.invalidSeg (lineGsn a)) 0

/-! ### Answers at the requester (R340, R383, R438) -/

/-- The outstanding request a response names, when its epoch is not older than the request's stamp (R383). -/
def State.named (s : State) (m : Routing) : Option Remote :=
  match s.fxb.remotes.find? (fun q => q.tag == m.tag) with
  | some q => if (m.epoch - q.epoch).toNat < 2 ^ 15 then some q else none
  | none => none

/-- Drop an outstanding request; what waited for room or for its epoch goes on. -/
def State.dropRemote (s : State) (tag : BitVec 16) : State :=
  ({ s with fxb := { s.fxb with remotes := s.fxb.remotes.filter (fun q => q.tag != tag) } }).retryWaitq

/-- A response that names no request of its epoch (R383). -/
def State.stale (s : State) : State := s.countUp 0x200 0x12c 16 16

/-- Remember an answered remote read for a late alarm (R438). -/
def State.remember (s : State) (q : Remote) : State :=
  match q.sender with
  | .head h _ => { s with fxb := { s.fxb with recent := s.fxb.recent.filter (fun e => e.1 != q.tag) ++ [(q.tag, h, q.line)] } }
  | _ => s

/-- RD_DATA (R340). -/
def State.rdData (s : State) (m : Routing) (data : Line) (poison : Bool) : State :=
  match s.named m with
  | some q => if q.kind == .read then ((s.remember q).answerRead q.sender data poison).dropRemote q.tag else s.stale
  | none => s.stale

/-- WR_STAT: "entered lane" acknowledges an Early store; the last point ends the hold (R61, R68, R340). -/
def State.wrStatus (s : State) (m : Routing) (point : Nat) (later : Bool) : State :=
  match s.named m with
  | some q =>
    if q.kind != .store && !q.done then s.stale
    else if later then
      if point = 1 && !q.answered && !q.done then
        let s := { s with fxb := { s.fxb with remotes := s.fxb.remotes.map (fun (x : Remote) =>
          if x.tag == q.tag then { x with answered := true } else x) } }
        match q.sender with
        | .head h tag => s.emit (.writeDone h tag false)
        | _ => s
      else s
    else (s.answerPoint { sender := q.sender, late := !q.answered && !q.done } point true).dropRemote q.tag
  | none => s.stale

/-- ATOM_DATA: UNSUPPORTED and INTEGRITY come with poison. With XINFO[2] the store part reaches its point later, and FXB goes on holding
it (R68, R138, R155, R340, log 82). -/
def State.atomData (s : State) (m : Routing) (old : BitVec 128) : State :=
  match s.named m with
  | some q =>
    if q.kind != .atomic then s.stale
    else
      let s := if q.done then s else s.answerAtomic q.sender old (m.status != stOk)
      if m.status == stOk && bitAt m.xinfo 2 then
        { s with fxb := { s.fxb with remotes := s.fxb.remotes.map (fun (x : Remote) => if x.tag == q.tag then { x with done := true } else x) } }
      else
      let w : Waiting := { sender := q.sender, late := false }
      (if m.status == stIntegrity then s.answerBad w 1 else s.answerPoint w 2 true).dropRemote q.tag
  | none => s.stale

/-- The rank of R158 that the status of an ERR gives its store or atomic: a fenced owner's or slice's STATE stands for the local service
timeout, ABORTED for a request that counts as having reached its point, and any other for INTEGRITY (log 23). -/
def errRank (st : Status) : Nat :=
  if st = stTimeout || st = stState then 2 else if st = stLost then 3 else if st = stAborted || st = stOk then 0 else 1

/-- The rank of R158 that a peer's BARRIER_DONE reports: the table's own statuses, and any other as INTEGRITY (log 23). -/
def doneRank (st : Status) : Nat :=
  if st = stOk then 0 else if st = stTimeout then 2 else if st = stLost then 3 else if st = stAborted then 4 else if st = stState then 5 else 1

/-- A remote request ends in error: poison for a read or atomic, an error for a store (R85, R514). -/
def State.remoteError (s : State) (q : Remote) (rank : Nat) : State :=
  let s := match q.kind with
    | .read => s.answerRead q.sender 0 true
    | .store => s.answerBad { sender := q.sender, late := !q.answered } rank
    | .atomic => (if q.done then s else s.answerAtomic q.sender 0 true).answerBad { sender := q.sender, late := false } rank
    | _ => s
  s.dropRemote q.tag

/-- ERR: a late alarm for a read that has been answered, or the end of the named request (R340, R438). -/
def State.errRsp (s : State) (m : Routing) : State :=
  match s.named m with
  | some q => s.remoteError q (errRank m.status)
  | none =>
    match s.fxb.recent.find? (fun e => e.1 == m.tag) with
    | some (_, h, a) => if m.status = stIntegrity then s.alarmFor a (.head h 0) else s.stale
    | none => s.stale

/-! ### Barriers and GPF of a head across peers (R155, R158, R179) -/

/-- A peer has reported the marker of a head's barrier, or has failed to; the marker carries the barrier's serial. -/
def State.barrierPeer (s : State) (h : Nat) (key : BitVec 16) (dev : Dev) (rank : Nat) : State :=
  let x := s.head h
  s.setHead h { x with barriers := x.barriers.map (fun (b : Barrier) =>
    if BitVec.ofNat 16 b.serial == key && decide (dev ∈ b.peers) then { b with peers := removeAll b.peers dev, worst := max b.worst rank } else b) }

/-- BARRIER_DONE (R155, R158). -/
def State.barrierDoneRsp (s : State) (m : Routing) : State :=
  match s.named m with
  | some q =>
    if q.kind != .barrier then s.stale else
    match q.sender with
    | .head h t => (s.barrierPeer h.val t q.dst (doneRank m.status)).dropRemote q.tag
    | _ => s.dropRemote q.tag
  | none => s.stale

/-- A peer has carried out a head's GPF, or has failed to: phase 2 may be complete (R179). -/
def State.gpfPeerEnd (s : State) (h : Nat) (dev : Dev) : State :=
  (s.setHead h { s.head h with gpfPeers := removeAll (s.head h).gpfPeers dev }).gpfCheck h

/-- GPF_DONE (R179). -/
def State.gpfDoneRsp (s : State) (m : Routing) : State :=
  match s.named m with
  | some q =>
    if q.kind != .gpf then s.stale else
    match q.sender with
    | .head h _ => (s.gpfPeerEnd h.val q.dst).dropRemote q.tag
    | _ => s.dropRemote q.tag
  | none => s.stale

/-! ### Lost stores, reissue and the timeouts of R73 (R160 to R162, R384) -/

/-- Change a directory entry's state, in the cache (R86). -/
def State.setDirState (s : State) (gsn : Nat) (st : BitVec 3) : State :=
  let e := s.lookup gsn
  { s with fxb := { s.fxb with dir := s.fxb.dir.put gsn { e with st := st } } }

/-- Ask the custodian: by GST_REQ, or this module itself where it is the custodian (R367, R373). -/
def State.tellCustodian (s : State) (tag : BitVec 16) (g : GstReq) : State :=
  s.sendPlain s.fxb.cust tag 0 0 0 (.gstReq g)

/-- A store or atomic is declared lost: it ends with LOST, the head gets one record for each segment, the directory entry
becomes Lost, and the custodian is told (R162). -/
def State.declareLost (s : State) (q : Remote) : State :=
  let g := q.gsn.toNat
  let first := (s.lookup g).st != 5
  let count := (s.fxb.remotes.filter (fun o => o.held && o.gsn == q.gsn && o.dst == q.dst)).length
  let s := s.remoteError q 3
  let s := match q.head with
    | some h =>
      if q.gsn ∈ (s.head h.val).lostTold then s else
      (s.setHead h.val { s.head h.val with lostTold := (s.head h.val).lostTold ++ [q.gsn] }).postRec h.val 2 (vendorRec 0x01 stLost g ((s.head h.val).dpaOf (pageLine (g * 2 ^ 18) 0)) 0 count)
    | none => s
  let s := s.setDirState g 5
  if first then
    s.tellCustodian 0 ({ op := 9, gsn := q.gsn, devA := q.dst, devB := 0, region := 0, keyRange := 0, head := 0,
                         mmode := 0, handle := 0 })
  else s

/-- A promoted mirror: the segment's owner in force differs from the request's, under a newer epoch (R160, R384). -/
def State.promoted (s : State) (q : Remote) : Option DirEntry :=
  let e := s.lookup q.gsn.toNat
  if (e.st = 1 || e.st = 2 || e.st = 4) && e.epoch != q.epoch && (e.epoch - q.epoch).toNat < 2 ^ 15 && e.owner != q.dst then some e else none

/-- A store or atomic whose segment this module has come to own: its line update may have brought it here already, and then it has
reached its point (R384). An atomic that has returned its old value is not run twice: without its update here its store is lost. -/
def State.reissueHere (s : State) (q : Remote) : State :=
  let w : Waiting := { sender := q.sender, late := !q.answered && !q.done }
  match s.sve.dedup.find? (fun d => d.dev == s.fxb.devnum && d.tag == q.tag && d.point != 0) with
  | some d =>
    if q.kind == .atomic && !q.done then (s.answerAtomic q.sender d.old false).answerPoint { w with late := false } 2 true
    else if q.held then s.answerPoint w 2 true
    else s.runLocal q
  | none => if q.done then s.answerBad w 3 else s.runLocal q

/-- Send a request again, once, to the new owner; one that this module now owns goes to its slice (R384). -/
def State.reissue (s : State) (q : Remote) (e : DirEntry) : State :=
  let s := { s with fxb := { s.fxb with remotes := s.fxb.remotes.filter (fun o => o.tag != q.tag) } }
  if e.st = 1 then s.reissueHere q
  else
    let q := { q with dst := e.owner, epoch := e.epoch, reissued := true, esq := (s.pair e.owner.toNat).txNext }
    let s := { s with fxb := { s.fxb with remotes := s.fxb.remotes ++ [q] } }
    s.sendSeq (s.grain q.dst q.stream true 0 q.tag q.epoch 0 q.xinfo) q.msg

/-- A marker that its peer will not answer waits no longer: the stores behind it end on their own, each with its status (R158, R179). -/
def State.markerEnd (s : State) (q : Remote) : State :=
  match q.sender, q.kind with
  | .head h t, .barrier => (s.barrierPeer h.val t q.dst 0).dropRemote q.tag
  | .head h _, _ => (s.gpfPeerEnd h.val q.dst).dropRemote q.tag
  | _, _ => s.dropRemote q.tag

/-- The remote request timeout of one request (R73, R161). -/
def State.remoteTimeout (s : State) (tag : BitVec 16) : State :=
  match s.fxb.remotes.find? (fun q => q.tag == tag) with
  | none => s
  | some q =>
    match q.kind with
    | .barrier | .gpf => s.markerEnd q
    | .read => (s.raiseAt 0x180 .fxbRemoteTmo { kind := 8, items := [q.dst.toNat, q.gsn.toNat] }).remoteError q 0
    | _ =>
      let s := s.raiseAt 0x180 .fxbRemoteTmo { kind := 8, items := [q.dst.toNat, q.gsn.toNat] }
      match s.promoted q with
      | some e => s.reissue q e
      | none => s.declareLost q

/-- A module is dead, or no route leads to it. -/
def State.unreachable (s : State) (dev : Dev) : Bool := decide (dev ∈ s.fxb.dead) || (s.routeTo dev.toNat).isNone

/-- A request to an owner that cannot be reached ends; `sent` tells one that was sent from one that still waits for room, which goes to a
promoted mirror as a first request (R73, R160). -/
def State.deliveryEnd (s : State) (q : Remote) (sent : Bool) : State :=
  match q.kind with
  | .read => s.remoteError q 0
  | .barrier | .gpf => s.markerEnd q
  | _ => match s.promoted q with
    | some e => if sent then s.reissue q e else s.offerAgain q
    | none => s.declareLost q

/-- The fabric delivery timeout for an owner that is dead or has no route (R73, R160). -/
def State.deliveryTimeout (s : State) (dev : Dev) : State :=
  if !s.unreachable dev then s else
  let l := s.fxb.remotes.filter (fun q => q.dst == dev)
  let w := s.fxb.waitq.filter (fun q => q.dst == dev)
  let s := { s with fxb := { s.fxb with waitq := s.fxb.waitq.filter (fun q => q.dst != dev) } }
  (s.each l (fun s q => s.deliveryEnd q true)).each w (fun s q => s.deliveryEnd q false)

/-- A segment's owner has changed while the old one is dead: every outstanding request stamped with the old epoch is reissued (R160,
R384). -/
def State.reissueAll (s : State) (gsn : Nat) (old : Dev) : State :=
  if old ∉ s.fxb.dead then s else
  s.each (s.fxb.remotes.filter (fun q => q.gsn.toNat = gsn && q.dst == old && (q.kind == .read || q.held))) (fun s q =>
    match s.promoted q with
    | some e => s.reissue q e
    | none => s)

/-- A module has been declared dead: markers to it are due no longer, since each of its stores is reissued or declared lost on its own,
and the requests of segments whose mirror has been promoted already are reissued (R158, R160, R384). -/
def State.ownerDead (s : State) (dev : Dev) : State :=
  let marks := s.fxb.remotes.filter (fun q => q.dst == dev && (q.kind == .barrier || q.kind == .gpf))
  let s := s.each marks State.markerEnd
  let gsns := (s.fxb.remotes.filter (fun q => q.dst == dev && (q.kind == .read || q.held))).foldl (fun l q => insertNew l q.gsn.toNat) []
  s.each gsns (fun s g => s.reissueAll g dev)

/-! ### The owner (R85, R143, R155, R179, R344, R381, R384) -/

/-- Enter a forwarded store or atomic in the deduplication table of 65,536; the oldest leaves a full table (R384). -/
def State.dedupAdd (s : State) (dev : Dev) (tag : BitVec 16) : State :=
  let d : Dedup := { dev := dev, tag := tag, point := 0, old := 0 }
  if s.sve.dedup.length < 65536 then { s with sve := { s.sve with dedup := s.sve.dedup ++ [d] } }
  else ({ s with sve := { s.sve with dedup := s.sve.dedup.drop 1 ++ [d] } }).raise 0x200 .sveDedupFull

/-- Answer a REISSUE from the deduplication table where it holds the request: answers whether it did (R384). -/
def State.dedupAnswer (s : State) (r : Routing) (atomic : Bool) : Bool × State :=
  match (if bitAt r.xinfo 0 then s.sve.dedup.find? (fun d => d.dev == r.src && d.tag == r.tag) else none) with
  | none => (false, s)
  | some d =>
    let s := s.countUp 0x200 0x12c 0 16
    let later := (s.servedKind r.src r.tag).isSome
    if atomic then (true, if d.point = 0 then s else s.sendRsp r.src r.tag r.epoch stOk (if later then 4 else 0) (.atomData d.old))
    else
      (true, if d.point = 0 then s else
        s.sendRsp r.src r.tag r.epoch stOk (BitVec.ofNat 16 (d.point.toNat + if later then 4 else 0)) (.wrStat d.point later))

/-- Pass a request on to the segment's owner with FWD = 1, under this module's own pair sequence; its hop count goes on, so that the limit
of R361 ends a request that modules pass among them (R85, R346, R361, R381). -/
def State.forwardReq (s : State) (r : Routing) (m : Msg) (e : DirEntry) : State :=
  if e.owner = s.fxb.devnum || e.owner = 0 then s.sendRsp r.src r.tag r.epoch stState 0 .err
  else s.sendSeq { r with fwd := true, dst := e.owner, epoch := e.epoch, esc := false, down := false } m

/-- Register a peer's request for a line as in progress. -/
def State.serve (s : State) (r : Routing) (k : ReqKind) (a : LineAddr) : State :=
  { s with fxb := { s.fxb with served := s.fxb.served ++ [(r.src, r.tag, k, sliceHash a)] } }

/-- A peer's request by the directory state of its segment: served here, passed on, or answered; in the safe state only reads
of own lines are served (R85, R381, R384, R519). -/
def State.serveReq (s : State) (r : Routing) (m : Msg) (a : LineAddr) (k : ReqKind) (here : State → State) : State :=
  let e := s.acted (lineGsn a)
  if s.safe && (k != .read || !s.flt.reads || e.st != 1) then
    (if k == .read then s.sendRsp r.src r.tag r.epoch stOk 1 (.rdData 0 true) else s.sendRsp r.src r.tag r.epoch stState 0 .err)
  else
  match e.st.toNat with
  | 1 =>
    let d := if k == .read then (false, s) else s.dedupAnswer r (k == .atomic)
    if d.1 then d.2 else
    let s := if r.fwd && k != .read then d.2.dedupAdd r.src r.tag else d.2
    here (s.serve r k a)
  | 2 | 3 | 4 => s.forwardReq r m e
  | 5 => if k == .read then s.sendRsp r.src r.tag r.epoch stOk 1 (.rdData 0 true) else s.sendRsp r.src r.tag r.epoch stLost 0 .err
  | _ => (s.invalidSeg (lineGsn a)).sendRsp r.src r.tag r.epoch stState 0 .err

/-- A peer's marker waits for the requests of the peer that its kind covers and that came before it (R155, R179). -/
def State.addMark (s : State) (r : Routing) (gpf : Bool) (kind : BitVec 2) : State :=
  let tags := (s.fxb.served.filter (fun e => e.1 == r.src && barrierHolds kind e.2.2.1)).map (fun e => e.2.1)
  let mark : PeerMark := ⟨r, gpf, tags, 0, s.places, kind⟩
  let s := { s with fxb := { s.fxb with marks := s.fxb.marks ++ [mark] } }
  s.closeMarks r.src

/-- A peer's GPF marker: its stores here are released, and every merge store drains (R134, R179). -/
def State.peerGpf (s : State) (r : Routing) : State :=
  let mine (e : LaneEntry) : Bool := e.waits.any (fun w => match w.sender with
    | .peer dev _ _ => dev == r.src
    | _ => false)
  let s := s.each (List.range 8) (fun s n => (s.forceLanes n mine true).drainAll n (fun _ => true) true)
  (s.addMark r true 2).pump

/-- Deliver an accepted REQ (R143, R340). -/
def State.deliverReq (s : State) (r : Routing) (m : Msg) : State :=
  let who : Sender := .peer r.src r.tag r.epoch
  match m with
  | .rd a => s.serveReq r m a .read (fun s => s.localRead a (.stream r.stream) who .none)
  | .wr a mask data => s.serveReq r m a .store (fun s => s.localStore a (.stream r.stream) who data mask (bitAt r.xinfo 1))
  | .atom f op size x y =>
    s.serveReq r m (fgaLine f) .atomic (fun s => s.localAtomic (fgaLine f) (.stream r.stream) who op size (f.setWidth 6) x y)
  | .barrier kind => if s.safe then s.sendRsp r.src r.tag r.epoch stState 0 .barrierDone else if kind = 0 then s.sendRsp r.src r.tag r.epoch stUnsupported 0 .barrierDone else s.addMark r false kind
  | .gpf => s.peerGpf r
  | _ => s

/-- The device whose pair sequence a REQ carries: the old owner's for a forwarded one (R346, R381). -/
def State.pairOf (s : State) (r : Routing) (gsn : Nat) : Dev :=
  if r.fwd then ((s.fxb.fwdFrom.find? (fun e => e.1.toNat = gsn)).map Prod.snd).getD r.src else r.src

/-- The segment a REQ names. -/
def Msg.gsn : Msg → Nat
  | .rd a => lineGsn a
  | .wr a _ _ => lineGsn a
  | .atom f .. => lineGsn (fgaLine f)
  | _ => 0

/-- Parked REQs whose gap has closed are accepted in order. -/
def State.unpark : Nat → State → Dev → State
  | 0, s, _ => s
  | n + 1, s, dev =>
    let p := s.pair dev.toNat
    match p.parked.find? (fun e => e.1.esq == p.rxNext) with
    | none => s
    | some e =>
      let s := s.setPair dev.toNat { p with rxNext := p.rxNext + 1, parked := p.parked.filter (fun x => x.1.esq != p.rxNext) }
      State.unpark n (s.deliverReq e.1 e.2) dev

/-- REQs parked now, module-wide. -/
def State.parkedAll (s : State) : Nat := s.fxb.pairs.foldl (fun n (e : Nat × Pair) => n + e.2.parked.length) 0

/-- A flush has stopped admission at every head and Elvuc port (R173); the safe state goes on answering (R519). -/
def State.admissionOff (s : State) : Bool := s.pwr.flush ∈ [1, 2, 3, 4]

/-- Admission is held: on the way into Deep Idle and until the module has woken from it (R558, R559). -/
def State.sleeps (s : State) : Bool := s.pwr.st == 5 || s.pwr.flush == 6

/-- A REQ arrives at its destination: accepted in sequence, parked, dropped with a RETRY, or known (R344); in Deep Idle it is
held until the module has woken (R558), and while a flush has stopped admission it is not taken (R173). -/
def State.acceptReq (s : State) (r : Routing) (m : Msg) : State :=
  if s.admissionOff then s
  else if s.sleeps || s.halted 0x180 then { s with fxb := { s.fxb with sleepq := s.fxb.sleepq ++ [(r, m)] } } else
  let dev := s.pairOf r m.gsn
  let p := s.pair dev.toNat
  let ahead := (r.esq - p.rxNext).toNat
  if ahead = 0 then
    let s := s.setPair dev.toNat { p with rxNext := p.rxNext + 1, retryAt := none, ackDue := true }
    State.unpark p.parked.length (s.deliverReq r m) dev
  else if ahead < 2 ^ 15 then
    if p.parked.any (fun e => e.1.esq == r.esq) then s
    else if s.parkedAll < 1024 then s.setPair dev.toNat { p with parked := p.parked ++ [(r, m)] }
    else if p.retryAt.any (fun t => decide (s.ns < t + 1000)) then s
    else
      let s := (s.setPair dev.toNat { p with retryAt := some s.ns }).countUp 0x180 0x128 16 16
      s.routeOut (s.grain dev 0 true p.rxNext r.tag 0 0 0) .retry
  else s.sendRsp dev r.tag r.epoch 0 0 .esqAck

/-- Requests that arrived while the module slept, or its crossbar did not run, are taken up (R485, R558). -/
def State.freeSleepq (s : State) : State :=
  let l := s.fxb.sleepq
  ({ s with fxb := { s.fxb with sleepq := [] } }).each l (fun s e => s.acceptReq e.1 e.2)

/-! ### Acknowledgement and resend of REQs (R345) -/

/-- An acknowledgement covers the REQs up to a sequence. -/
def State.ackReqs (s : State) (dev : Dev) (esq : BitVec 16) : State :=
  let p := s.pair dev.toNat
  (s.setPair dev.toNat { p with unacked := p.unacked.filter (fun u => decide (2 ^ 15 ≤ (esq - u.esq).toNat)) }).retryWaitq

/-- Send every unacknowledged REQ to a destination again, oldest first. -/
def State.resendReqs (s : State) (dev : Dev) : State :=
  s.each (s.pair dev.toNat).unacked (fun s u => s.routeOut { u.r with esc := false, down := false } u.m)

/-- RETRY: what lies before the expected sequence is acknowledged, the rest is sent again (R345). -/
def State.retryRsp (s : State) (m : Routing) : State := (s.ackReqs m.src (m.esq - 1)).resendReqs m.src

/-- The pair restarts at sequence 0 when an instance changes; copies are sent again under the new sequences (R346). -/
def State.resetPair (s : State) (dev : Dev) (inst : BitVec 24) : State :=
  let p := s.pair dev.toNat
  let renumber (e : Nat × Sent) : Sent :=
    let q := BitVec.ofNat 16 e.1
    let r : Routing := e.2.r
    ⟨q, { r with esq := q }, e.2.m⟩
  let copies := ((List.range p.unacked.length).zip p.unacked).map renumber
  let s := s.setPair dev.toNat { txNext := BitVec.ofNat 16 copies.length, rxNext := 0, unacked := copies, parked := [], retryAt := none,
                                 ackDue := false, inst := inst }
  s.resendReqs dev

/-! ### Arrival of a message at a port (R337, R341, R359) -/

/-- A message arrives: its grains are owed back to the sender; it is handled here, or sent on, but in the safe
state no message of other modules is (R341, R359, R361, R518). -/
def State.msgIn (s : State) (r : Routing) (m : Msg) (here : State → State) : State :=
  let p := r.port.val
  let x := s.port p
  if !x.carries then s else
  let k := 2 * m.vc + if r.esc then 1 else 0
  let s := s.setPort p { x with owed := x.owed.set 0 k (x.owed.get 0 k + m.len) }
  if r.dst = s.fxb.devnum && s.fxb.devnum != 0 then here s
  else if r.dst = 4095 then here s
  else if s.safe then s
  else s.routeOut r m

/-- A response arrives: it acknowledges the requester's REQs and is handled (R345). -/
def State.rspIn (s : State) (r : Routing) (m : Msg) (here : State → State) : State :=
  s.msgIn r m (fun s => here (if r.ord then s.ackReqs r.src r.esq else s))

end Sys2Proof.Machine
end

