-- ==== Sys2Proof/Machine/Heads.lean ====
section
/-! DEFINITION. The CXL heads: decoding, the control window, barriers, Global Persistent Flush, the link and its resets, HDM
decoders, and the extents offered to and released by the host (R79 to R81, R154 to R158, R177 to R180, R405 to R415, R419,
R427, R430). -/

namespace Sys2Proof.Machine

open Sys2Proof

/-- The page of a head's registers. -/
def headPage (h : Nat) : Nat := 0x1c0 + h

/-- The head is Active, at full width or in L0p (R406, R407). -/
def Head.active (x : Head) : Bool := x.st == 3 || x.st == 4

/-- The head takes requests from its host: after the start-up sequence has enabled it (R573), unless a flush has stopped admission. -/
def State.headTakes (s : State) (h : Nat) : Bool :=
  s.headExists h && (s.head h).active && decide (s.pwr.st.toNat ∈ [3, 4, 5]) && s.sve.tabled && !s.admissionOff &&
  !decide (headPage h ∈ s.pages.stopped)

/-! ### Barriers that hold requests (R155, R156) -/

/-- An outstanding barrier written before a request holds it; so does Deep Idle, until the module has woken (R156, R558). -/
def State.headHolds (s : State) (h k : Nat) (kind : ReqKind) : Bool :=
  s.sleeps || (s.head h).barriers.any (fun b => decide (b.serial ≤ k) && barrierHolds b.kind kind)

/-! ### Accesses that do not reach FXB (R81, R410) -/

/-- An access is refused under R81: ADDR_UNBOUND, and UNBOUND once for each head and slot until ADDR_UNBOUND is read. -/
def State.unboundAt (s : State) (h slot : Nat) : State :=
  let s := s.countUp 0x030 0x80c 0 32
  if slot ∈ (s.head h).unbound then s
  else
    let s := s.setHead h { s.head h with unbound := (s.head h).unbound ++ [slot] }
    s.raiseAt (headPage h) .headUnbound { kind := 5, items := [slot] }

/-- BARRIER_STATUS: four pairs of TAG and status, newest first, and the count (R410). -/
def Head.barrierLine (x : Head) : Line :=
  let bytes := (x.barStatus.take 4).flatMap (fun e => [e.1.toNat, e.2.toNat])
  BitVec.ofNat 512 (ofBytesLE bytes + x.barCount.toNat * 2 ^ 64)

/-- What a read of a line of the control window returns (R410). -/
def Head.windowLine (x : Head) (off : Nat) : Line := if off / 64 = 1 then x.barrierLine else 0

/-! ### Barriers (R154 to R158, R411) -/

/-- A barrier's TAG and status become the newest of BARRIER_STATUS, and its Cmp returns (R411). -/
def State.barrierAnswer (s : State) (h : Fin 64) (tag : Byte) (status : Status) : State :=
  let x := s.head h.val
  let s := s.setHead h.val { x with barStatus := ((tag, status) :: x.barStatus).take 4, barCount := x.barCount + 1 }
  s.emit (.barrierCmp h tag status)

/-- The peers that hold requests of a head, of the kinds that count. -/
def State.barrierPeers (s : State) (h : Nat) (counts : ReqKind → Bool) : List Dev :=
  ((s.fxb.remotes ++ s.fxb.waitq).filter (fun q => (q.head.map Fin.val) == some h && counts q.kind)).foldl
    (fun l q => insertNew l q.dst) []

/-- A marker of a head's barrier or GPF to a peer (R155, R179). -/
def headMarker (h : Fin 64) (dst : Dev) (gpf : Bool) (kind : BitVec 2) (key : BitVec 16) : Remote :=
  let r := blankRemote (if gpf then .gpf else .barrier) h key 0
  { r with dst := dst, op := kind.setWidth 4, stream := 0 }

/-- A BARRIER write: STATE in the safe state, BUSY as a fifth one, UNSUPPORTED for the reserved kind (the order of R158), else outstanding, with a
marker to each slice and to every peer that holds requests of the head (R155, R157, R158, R519). -/
def State.writeBarrier (s : State) (h : Fin 64) (kind : BitVec 2) (tag : Byte) : State :=
  let x := s.head h.val
  if s.safe then s.barrierAnswer h tag stState
  else if 4 ≤ x.barriers.length then s.barrierAnswer h tag stBusy
  else if kind = 0 then s.barrierAnswer h tag stUnsupported
  else
    let peers := s.barrierPeers h.val (barrierHolds 3)
    let b : Barrier := { tag := tag, kind := kind, serial := x.serial, worst := x.past, peers := peers, places := s.places }
    let s := s.setHead h.val { x with barriers := x.barriers ++ [b], serial := x.serial + 1, past := 0 }
    s.each peers (fun s d => s.offerRemote (headMarker h d false kind (BitVec.ofNat 16 b.serial)))

/-- Every earlier request that a barrier waits for has reached its point, and every marker has reported (R155, R158). -/
def State.barrierMet (s : State) (h : Nat) (b : Barrier) : Bool :=
  let x := s.head h
  b.peers.isEmpty &&
  !(x.outs.any (fun o => decide (o.serial < b.serial) && barrierHolds b.kind o.kind)) &&
  !(x.held.any (fun e => decide (e.1 < b.serial) && barrierHolds b.kind e.2.kind))

/-! ### Requests of the host (R50, R61, R65, R80, R81, R410) -/

/-- A read that no barrier holds. -/
def State.passRead (s : State) (h : Fin 64) (hpa : BitVec 64) (tag : BitVec 16) (sram : LcErr) : State :=
  match (s.head h.val).route hpa false with
  | .fga f => s.headRead h tag (fgaLine f) sram
  | .window off => s.emit (.readData h tag ((s.head h.val).windowLine off) false)
  | .unbound slot => (s.unboundAt h.val slot).emit (.readData h tag 0 true)

/-- A write that no barrier holds. -/
def State.passWrite (s : State) (h : Fin 64) (hpa : BitVec 64) (tag : BitVec 16) (data : Line) (mask : BitVec 64) (poison : Bool) : State :=
  match (s.head h.val).route hpa true with
  | .fga f => s.headStore h tag (fgaLine f) data mask poison
  | .window _ => s.emit (.writeDone h tag false)
  | .unbound slot => (s.unboundAt h.val slot).emit (.writeDone h tag true)

/-- An atomic that no barrier holds; one on the control window reads the line and writes nothing (R410, log 25). -/
def State.passAtomic (s : State) (h : Fin 64) (hpa : BitVec 64) (tag : BitVec 16) (op : BitVec 4) (size : BitVec 2) (a b : BitVec 128) :
    State :=
  match (s.head h.val).route hpa true with
  | .fga f => s.headAtomic h tag (fgaLine f) (f.setWidth 6) op size a b
  | .window off =>
    let old := lineField ((s.head h.val).windowLine off) (hpa.toNat % 64) (atomBytes size)
    s.emit (.atomicData h tag (BitVec.ofNat 128 old) false)
  | .unbound slot => (s.unboundAt h.val slot).emit (.atomicData h tag 0 true)

/-- A request that no barrier holds goes on. -/
def State.passReq (s : State) (h : Fin 64) (r : HeldReq) : State :=
  match r with
  | .read hpa tag sram => s.passRead h hpa tag sram
  | .write hpa tag data mask poison => s.passWrite h hpa tag data mask poison
  | .atomic hpa tag op size a b => s.passAtomic h hpa tag op size a b

/-- An operation that counts its requests from an earlier place in the head's order. -/
def State.atSerial (s : State) (h k : Nat) (f : State → State) : State :=
  let n := (s.head h).serial
  let s := f (s.setHead h { s.head h with serial := k })
  s.setHead h { s.head h with serial := max n (s.head h).serial }

/-- Requests that no barrier holds any longer go on, in order of arrival (R156). -/
def State.freeHeld (s : State) (h : Fin 64) : State :=
  let l := (s.head h.val).held
  let s := s.setHead h.val { s.head h.val with held := [] }
  s.each l (fun s e =>
    if s.headHolds h.val e.1 e.2.kind then s.setHead h.val { s.head h.val with held := (s.head h.val).held ++ [e] }
    else s.atSerial h.val e.1 (fun s => s.passReq h e.2))

/-- A request of the host reaches its head: held, or passed on (R154, R156). -/
def State.headReq (s : State) (h : Fin 64) (r : HeldReq) : State :=
  let x := s.head h.val
  if s.headHolds h.val x.serial r.kind then
    s.setHead h.val { x with held := x.held ++ [(x.serial, r)], serial := x.serial + 2 }
  else s.passReq h r

/-- An HPA lies in the control window of a head. -/
def State.inWindow (s : State) (h : Nat) (hpa : BitVec 64) (wr : Bool) : Option Nat :=
  match (s.head h).route hpa wr with
  | .window off => some off
  | _ => none

/-- A CXL.mem read: accesses to the control window are never held (R411). -/
def State.cxlRead (s : State) (h : Fin 64) (hpa : BitVec 64) (tag : BitVec 16) (sram : LcErr) : State :=
  if !s.headTakes h.val then s
  else if (s.inWindow h.val hpa false).isSome then s.passRead h hpa tag sram
  else s.headReq h (.read hpa tag sram)

/-- A CXL.mem write; one to the BARRIER line issues a barrier, with KIND 0 where the mask omits byte 0 (R410); the TAG of a
write whose mask omits byte 1 is a free value (log 25). -/
def State.cxlWrite (s : State) (h : Fin 64) (hpa : BitVec 64) (tag : BitVec 16) (data : Line) (mask : BitVec 64) (poison : Bool) : State :=
  if !s.headTakes h.val then s
  else
    match s.inWindow h.val hpa true with
    | some off =>
      if off / 64 = 0 then
        let kind : BitVec 2 := if bitAt mask 0 then data.setWidth 2 else 0
        if bitAt mask 1 then s.writeBarrier h kind (BitVec.ofNat 8 (lineField data 1 1))
        else let f := s.fresh
          f.2.writeBarrier h kind (BitVec.ofNat 8 f.1)
      else s.passWrite h hpa tag data mask poison
    | none => s.headReq h (.write hpa tag data mask poison)

/-- A CXL.mem atomic. -/
def State.cxlAtomic (s : State) (h : Fin 64) (hpa : BitVec 64) (tag : BitVec 16) (op : BitVec 4) (size : BitVec 2) (a b : BitVec 128) :
    State :=
  if !s.headTakes h.val then s
  else if (s.inWindow h.val hpa true).isSome then s.passAtomic h hpa tag op size a b
  else s.headReq h (.atomic hpa tag op size a b)

/-- The oldest barrier completes once all it waits for has come; its held requests go on (R156 to R158, R411). -/
def State.completeBarrier (s : State) (h : Fin 64) : State :=
  let x := s.head h.val
  match x.barriers with
  | [] => s
  | b :: t =>
    if s.barrierMet h.val b then
      ((s.setHead h.val { x with barriers := t }).barrierAnswer h b.tag (rankStatus b.worst)).freeHeld h
    else s

/-- Barriers of every head end with STATE, and what they held goes on: the safe state, or a fence of the head's port or block
(R158, R519). -/
def State.endBarriersAll (s : State) (hs : List Nat) : State :=
  s.each hs (fun s n =>
    let h : Fin 64 := ⟨n % 64, Nat.mod_lt _ (by decide)⟩
    (s.endBarriers h stState).freeHeld h)

/-! ### Global Persistent Flush (R178 to R180) -/

/-- The lane entry carries a store or atomic of a head. -/
def LaneEntry.ofHead (e : LaneEntry) (h : Nat) : Bool := e.waits.any (fun w => match w.sender with
  | .head g _ => g.val == h
  | _ => false)

/-- A phase 2 request: the head's lane entries are released, markers go to its peers, every merge store drains, with the entries of
Volatile regions discarded, and phase 2 completes once its stores have their points; during a flush it completes when the flush has
finished (R134, R179, R180, log 65). -/
def State.gpfPhase2 (s : State) (h : Fin 64) : State :=
  let x := s.head h.val
  if !s.headExists h.val || x.gpf.isSome then s
  else if s.pwr.flush != 0 then s.setHead h.val { x with gpf := some x.serial }
  else
    let peers := s.barrierPeers h.val (barrierHolds 2)
    let s := s.setHead h.val { x with gpf := some x.serial, gpfPeers := peers }
    let s := s.each (List.range 8) (fun s n => s.forceLanes n (fun e => e.ofHead h.val) true)
    let s := s.each peers (fun s d => s.offerRemote (headMarker h d true 0 0))
    let s := s.each (List.range 8) (fun s n => s.drainAll n (fun _ => true) true)
    s.pump.gpfCheck h.val

/-- The GPF timeout: phase 2 completes, and a Warning names the segments whose stores were not confirmed (R180, log 26). -/
def State.gpfTimeout (s : State) (h : Fin 64) : State :=
  let x := s.head h.val
  match x.gpf with
  | none => s
  | some g =>
    let segs := (s.gpfOpen h.val g).foldl (fun l o => insertNew l (lineGsn o.line)) []
    let s := s.each segs (fun s k => s.postRec h.val 1 (vendorRec 0x02 stTimeout k ((s.head h.val).dpaOf (pageLine (k * 2 ^ 18) 0)) 0 1))
    (s.setHead h.val { s.head h.val with gpf := none, gpfPeers := [] }).emit (.gpfAck h 2)

/-- Phase 2 requests that waited for a flush complete when it has finished (R180). -/
def State.gpfFlushEnd (s : State) : State :=
  s.each s.headList (fun s n => if (s.head n).gpf.isSome then
    (s.setHead n { s.head n with gpf := none, gpfPeers := [] }).emit (.gpfAck ⟨n % 64, Nat.mod_lt _ (by decide)⟩ 2) else s)

/-! ### The link (R406 to R408, R419) -/

/-- The cage of a port block (R18). -/
def cageOf (block : Nat) : Nat := block / 8

/-- A settled cage's cable is identified. -/
def State.identified (s : State) (cage : Nat) : Bool := (s.cage cage).phase == 3 && (s.cage cage).ident

/-- The highest head rate code that HEAD_CFG.MAXRATE and an identified cable allow: the cable's 10, 28, 56 and 112 Gbit/s carry 8, 16, 32
and 64 GT/s, head rate codes 1 to 4 (R23, R406, log 27). -/
def State.headRateMax (s : State) (h : Nat) : Nat :=
  let c := s.cage (cageOf h)
  let cable := match c.rate.toNat with | 0 => 1 | 1 => 2 | 2 => 3 | _ => 4
  min (s.regFld (headPage h) 0x104 0 3) (if s.identified (cageOf h) then cable else 4)

/-- The width code of a lane count. -/
def widthCode (lanes : Nat) : Nat := match lanes with | 1 => 1 | 2 => 2 | 4 => 3 | 8 => 4 | _ => 0

/-- A head becomes Active at a width and rate its port, cable and configuration allow, reversed where its lanes are, with the inverted
lanes corrected; its port's fence ends (R20, R21, R406, R513). -/
def State.headTrained (s : State) (h : Fin 64) (width rate : BitVec 3) (rev : Bool) (inv : Byte) : State :=
  let x := s.head h.val
  if s.headExists h.val && (x.st == 1 || x.st == 2) && decide (rate.toNat ≤ s.headRateMax h.val) && rate != 0 && width != 0
      && decide (width.toNat ≤ widthCode (8 / s.portsOf h.val)) then
    let s := s.setHead h.val { x with st := 3, width := width, rate := rate, fullWidth := width, priorWidth := 0 }
    let s := s.setPort (8 * h.val) { s.port (8 * h.val) with rev := rev && decide (s.portsOf h.val < 8), polInv := inv }
    (s.unfence 2 (8 * h.val)).raise (headPage h.val) .headLinkUp
  else s

/-- A head's link goes down (R408). -/
def State.headLinkLost (s : State) (h : Fin 64) : State :=
  if s.headExists h.val && 2 ≤ (s.head h.val).st.toNat then s.headDown h else s

/-- An L0p width change of the host (R407). -/
def State.l0p (s : State) (h : Fin 64) (width : BitVec 3) : State :=
  let x := s.head h.val
  if x.active && width != 0 && decide (width.toNat ≤ x.fullWidth.toNat) then
    s.setHead h.val { x with width := width, st := if width = x.fullWidth then 3 else 4 }
  else s

/-- A CXL.cachemem IDE integrity failure: IDE_FAIL, the port fenced, and the link down (R419, R508). -/
def State.ideFail (s : State) (h : Fin 64) : State :=
  if !(s.head h.val).active then s else
  let s := s.raiseAt (headPage h.val) .headIdeFail { dom := 2, inst := 8 * h.val, kind := 7, items := [8 * h.val] }
  let s := (s.fence 2 (8 * h.val)).endBarriersAll [h.val]
  s.headDown h

/-! ### HDM decoders (R409) -/

/-- Two decoders' HPA ranges overlap. -/
def rangesOverlap (a b : Decoder) : Bool :=
  decide (a.base.toNat < b.base.toNat + b.size.toNat) && decide (b.base.toNat < a.base.toNat + a.size.toNat)

/-- A decoder's fields are within what the head supports (R405, log 28). -/
def decoderValid (d : Decoder) : Bool :=
  d.size != 0 && decide (d.ways.toNat ≤ 4) && decide (d.gran.toNat ≤ 6) && decide (d.base.toNat + d.size.toNat ≤ 2 ^ 64)
    && decide (d.base.toNat % 2 ^ 28 = 0) && decide (d.size.toNat % (2 ^ 28 * 2 ^ d.ways.toNat) = 0)

/-- A decoder commit: applied, or Commit Error on overlap or a value outside the head's support; a locked committed decoder stays
unchanged (R409). -/
def State.commitDecoder (s : State) (h : Fin 64) (d : Fin 8) (cfg : Decoder) : State :=
  let x := s.head h.val
  if !s.headExists h.val || ((x.decoders.find d.val).any Decoder.lock) then s
  else if decoderValid cfg && !(x.decoders.any (fun e => e.1 != d.val && rangesOverlap e.2 cfg)) then
    s.setHead h.val { x with decoders := x.decoders.put d.val cfg, commitErr := removeAll x.commitErr d.val }
  else s.setHead h.val { x with decoders := x.decoders.del d.val, commitErr := insertNew x.commitErr d.val }

/-! ### Dynamic capacity (R412 to R415, R430) -/

/-- The DC region of a segment (R412). -/
def dcRegion (keyRange : Nat) (volatile : Bool) : Nat := (if volatile then 4 else 0) + keyRange % 4

/-- The lowest free slot of a DC region of a head (R412, R413). -/
def State.freeSlot (s : State) (h d : Nat) : Option Nat :=
  let x := s.head h
  ((List.range 2048).map (fun i => 2048 * d + i)).find? (fun n =>
    n != 16383 && !(bitAt (x.extents.get 0 n) 31) && !(x.offers.any (fun o => o.slot.toNat == n)))

/-- The DPA of an extent slot. -/
def slotDpa (slot : Nat) : Dpa := BitVec.ofNat 44 (slot * 2 ^ 30)

/-- A Dynamic Capacity record: 0x90 Add, 0x91 Release, 0x92 Forced Release; its count is the tag's key range (R413, R414). -/
def State.postDc (s : State) (h kind slot gsn : Nat) : State :=
  s.postRec h 4 { vendorRec kind 0 gsn (slotDpa slot) 0 (s.keyRangeOf gsn) with kind := BitVec.ofNat 8 kind }

/-- Ask the custodian to unbind a segment from a head of this module (R374, R413). -/
def State.askUnbind (s : State) (h gsn : Nat) : State :=
  let s := s.setHead h { s.head h with binds := (s.head h).binds.filter (fun b => b.1.toNat != gsn) }
  s.tellCustodian 0 { op := 4, gsn := BitVec.ofNat 26 gsn, devA := s.fxb.devnum, devB := 0, region := 0, keyRange := 0,
                      head := BitVec.ofNat 6 h, mmode := 0, handle := 0 }

/-- Offer a bound segment to the host, in the lowest free slot of its DC region; without one the allocation ends with
NO_RESOURCE and the segment is unbound (R413). -/
def State.offerExtent (s : State) (h gsn : Nat) (rd wr volatile : Bool) (handle : Word) (again : Bool) (from_ : Dev) : State :=
  match s.freeSlot h (dcRegion (s.keyRangeOf gsn) volatile) with
  | none => (s.endBinding from_ handle gsn stNoResource).askUnbind h gsn
  | some n =>
    let o : Offer := { slot := BitVec.ofNat 14 n, gsn := BitVec.ofNat 26 gsn, rd := rd, wr := wr, handle := handle, again := again,
                       from_ := from_ }
    let s := s.setHead h { s.head h with offers := (s.head h).offers ++ [o] }
    s.postDc h 0x90 n gsn

/-- A binding of a head becomes known to its module, and its extent is offered; a binding that cannot be pinned is not added
(R84, R373 step 6, R374, R413). -/
def State.bindHead (s : State) (h gsn : Nat) (rd wr volatile : Bool) (handle : Word) (from_ : Dev) : State :=
  if !s.pinRoom gsn then (s.endBinding from_ handle gsn stNoResource).askUnbind h gsn else
  let x := s.head h
  let s := s.setHead h { x with binds := x.binds.filter (fun b => b.1.toNat != gsn) ++ [(BitVec.ofNat 26 gsn, rd, wr, volatile)] }
  s.offerExtent h gsn rd wr volatile handle false from_

/-- The host lists an offered extent: its entry is written and the allocation completes with OK (R413). -/
def State.acceptOffer (s : State) (h : Nat) (o : Offer) : State :=
  let x := s.head h
  let e := BitVec.ofNat 32 (2 ^ 31 + (if o.wr then 2 ^ 30 else 0) + (if o.rd then 2 ^ 29 else 0) + o.gsn.toNat)
  let s := s.setHead h { x with offers := x.offers.filter (fun q => q != o), extents := x.extents.set 0 o.slot.toNat e }
  s.endBinding o.from_ o.handle o.gsn.toNat stOk

/-- An offer ends without acceptance: the allocation completes with a status and the segment is unbound (R413). -/
def State.dropOffer (s : State) (h : Nat) (o : Offer) (status : Status) : State :=
  let x := s.head h
  let s := s.setHead h { x with offers := x.offers.filter (fun q => q != o) }
  (s.endBinding o.from_ o.handle o.gsn.toNat status).askUnbind h o.gsn.toNat

/-- Clear an extent slot (R414). -/
def State.clearSlot (s : State) (h slot : Nat) : State :=
  let x := s.head h
  s.setHead h { x with extents := x.extents.del slot, releasing := x.releasing.filter (fun n => n.toNat != slot) }

/-- A binding has been removed by management software: the host owes the release of its extent; an offer not yet answered is
withdrawn (R414, log 29). -/
def State.unbindHead (s : State) (h gsn : Nat) : State :=
  let x := s.head h
  let s := s.setHead h { x with binds := x.binds.filter (fun b => b.1.toNat != gsn) }
  match x.slotOf gsn with
  | some n =>
    let s := s.setHead h { s.head h with releasing := insertNew (s.head h).releasing (BitVec.ofNat 14 n) }
    s.postDc h 0x91 n gsn
  | none =>
    match x.offers.find? (fun o => o.gsn.toNat == gsn) with
    | some o =>
      let s := s.setHead h { s.head h with offers := (s.head h).offers.filter (fun q => q != o) }
      s.endBinding o.from_ o.handle o.gsn.toNat stAborted
    | none => s

/-- The DC add response timeout of an offer (R413, R430). -/
def State.dcAddTimeout (s : State) (h slot : Nat) : State :=
  match (s.head h).offers.find? (fun o => o.slot.toNat == slot) with
  | some o => (s.dropOffer h o stTimeout).raise (headPage h) .headDcTimeout
  | none => s

/-- The DC release response timeout of an extent (R414, R430). -/
def State.dcReleaseTimeout (s : State) (h slot : Nat) : State :=
  if (s.head h).releasing.any (fun n => n.toNat == slot) then
    let gsn := fld ((s.head h).extents.get 0 slot) 0 26
    ((s.clearSlot h slot).postDc h 0x92 slot gsn).raise (headPage h) .headDcTimeout
  else s

/-- After a reset the bindings that are neither in the table nor on offer are offered again, in ascending GSN order (R415). -/
def State.reofferAll (s : State) (h : Nat) : State :=
  let x := s.head h
  if !x.reoffer then s else
  let s := s.setHead h { x with reoffer := false }
  let l := sortBinds (x.binds.filter (fun b => (x.slotOf b.1.toNat).isNone && !x.offers.any (fun o => o.gsn == b.1)))
  s.each l (fun s b =>
    let s := s.offerExtent h b.1.toNat b.2.1 b.2.2.1 b.2.2.2 0 true 0
    match (s.head h).offers.find? (fun o => o.gsn == b.1) with
    | some o => s.postRec h 0 (vendorRec 0x07 0 b.1.toNat (slotDpa o.slot.toNat) 0 1)
    | none => s)
where
  /-- insertion sort by GSN -/
  insertBind (b : Gsn × Bool × Bool × Bool) : List (Gsn × Bool × Bool × Bool) → List (Gsn × Bool × Bool × Bool)
    | [] => [b]
    | c :: t => if b.1.toNat < c.1.toNat then b :: c :: t else c :: insertBind b t
  /-- the bindings in ascending GSN order -/
  sortBinds (l : List (Gsn × Bool × Bool × Bool)) : List (Gsn × Bool × Bool × Bool) := l.foldl (fun acc b => insertBind b acc) []

/-! ### Head resets (R177, R427) -/

/-- A conventional or hot reset of a head that exists (R427). -/
def State.resetHead (s : State) (h : Fin 64) : State := if s.headExists h.val then s.headReset h else s

/-- A function-level reset (R427). -/
def State.flrHead (s : State) (h : Fin 64) : State := if s.headExists h.val then s.headResetCommon h else s

/-! ### The commands -/

/-- CXL_MEM_READ (R50, R80, R81). -/
def execCxlMemRead (h : Fin 64) (hpa : BitVec 64) (tag : ReadTag) (s : State) : Host.Outcome State Fault Refusal :=
  .next (s.withPins (fun s => s.cxlRead h hpa tag.tag tag.sram))

/-- CXL_MEM_WRITE (R61, R129, R410). -/
def execCxlMemWrite (h : Fin 64) (hpa : BitVec 64) (tag : BitVec 16) (data : Line) (mask : BitVec 64) (poison : Bool) (s : State) :
    Host.Outcome State Fault Refusal := .next (s.withPins (fun s => s.cxlWrite h hpa tag data mask poison))

/-- CXL_MEM_ATOMIC (R65, R136). -/
def execCxlMemAtomic (h : Fin 64) (hpa : BitVec 64) (tag : BitVec 16) (op : BitVec 4) (size : BitVec 2) (a b : BitVec 128) (s : State) :
    Host.Outcome State Fault Refusal := .next (s.withPins (fun s => s.cxlAtomic h hpa tag op size a b))

/-- BARRIER_WRITE (R155, R157, R410). -/
def execBarrierWrite (h : Fin 64) (kind : BitVec 2) (tag : Byte) (s : State) : Host.Outcome State Fault Refusal :=
  .next (if s.headTakes h.val then s.writeBarrier h kind tag else s)

/-- BARRIER_COMPLETE (R157, R158, R411). -/
def execBarrierComplete (h : Fin 64) (s : State) : Host.Outcome State Fault Refusal :=
  .next (s.withPins (fun s => s.completeBarrier h))

/-- GPF_PHASE1: acknowledged at once (R178). -/
def execGpfPhase1 (h : Fin 64) (s : State) : Host.Outcome State Fault Refusal :=
  .next (if s.headExists h.val then s.emit (.gpfAck h 1) else s)

/-- GPF_PHASE2 (R179). -/
def execGpfPhase2 (h : Fin 64) (s : State) : Host.Outcome State Fault Refusal := .next (s.withPins (fun s => s.gpfPhase2 h))

/-- GPF_TIMEOUT (R180). -/
def execGpfTimeout (h : Fin 64) (s : State) : Host.Outcome State Fault Refusal := .next (s.withPins (fun s => s.gpfTimeout h))

/-- HEAD_LINK_TRAINED (R406). -/
def execHeadLinkTrained (h : Fin 64) (width : BitVec 3) (rate : HeadTraining) (s : State) : Host.Outcome State Fault Refusal :=
  .next (s.withPins (fun s => s.headTrained h width rate.rate rate.rev rate.inv))

/-- L0P_WIDTH_CHANGE (R407). -/
def execL0pWidthChange (h : Fin 64) (width : BitVec 3) (s : State) : Host.Outcome State Fault Refusal := .next (s.l0p h width)

/-- HDM_DECODER_COMMIT (R409). -/
def execHdmDecoderCommit (h : Fin 64) (d : Fin 8) (cfg : Decoder) (s : State) : Host.Outcome State Fault Refusal :=
  .next (s.commitDecoder h d cfg)

end Sys2Proof.Machine
end

