-- ==== Sys2Proof/Machine/Discovery.lean ====
section
/-! DEFINITION. Discovery, the link-state database, the election of the custodian, device numbers and the routing table
(R349 to R361). -/

namespace Sys2Proof.Machine

open Sys2Proof

/-! ### This module in the fabric (R349, R350) -/

/-- This module's serial number (R362, log 3). -/
def ownSerial : BitVec 64 := Config.serial

/-- The instance: the power-cycle count (R349). -/
def State.instance_ (s : State) : BitVec 24 := BitVec.ofNat 24 (s.ring 0)

/-- FXB_PRIO. -/
def State.prio (s : State) : Byte := (s.reg 0x180 0x110).setWidth 8

/-- Bring a shadow of FXB into force where a commit is pending; CTRL.COMMIT clears with the last one (R8, R484). -/
def State.commitShadow (s : State) (page off : Nat) : State :=
  if page ∉ s.pages.committing then s else
  let s := match s.shadow.find (regAddr page off) with
    | some w => { s.setReg page off w with shadow := s.shadow.del (regAddr page off) }
    | none => s
  if s.shadow.any (fun (e : Nat × Word) => e.1 / 4096 == page) then s
  else { s with pages := { s.pages with committing := removeAll s.pages.committing page } }

/-- The HELLO of a port (R349). -/
def State.helloOf (s : State) (n : Nat) : Hello :=
  { serial := ownSerial, inst := s.instance_, prio := s.prio, fabid := s.reg 0x180 0x114, dev := s.fxb.devnum, conf := s.fxb.conf,
    role := s.fxb.role, port := BitVec.ofNat 9 n }

/-- Send HELLO on a port. -/
def State.sendHello (s : State) (n : Nat) : State := s.linkOut n (.hello (s.helloOf n))

/-- Lanes of a width code. -/
def codeLanes (w : BitVec 3) : Nat := match w.toNat with | 1 => 1 | 2 => 2 | 3 => 4 | 4 => 8 | _ => 0

/-- Lane rate of a rate code, Gbit/s (R318). -/
def rateGbps (r : BitVec 2) : Nat := match r.toNat with | 0 => 10 | 1 => 28 | 2 => 56 | _ => 112

/-- A port's capacity in units of 1 Gbit/s ÷ 8 (R350). -/
def Port.capacity (x : Port) : Nat := codeLanes x.width * rateGbps x.rate / 8

/-- A port leads to a module with a confirmed number. -/
def Port.leads (x : Port) : Bool := (x.st == 3 || x.st == 5) && x.partnerConf && x.partnerDev != 0

/-- The neighbours of this module: device number, Active ports, best capacity (R350). -/
def State.neighbours (s : State) : List Neighbour :=
  s.ports.foldl (fun (l : List Neighbour) e =>
    let x := e.2
    if !x.leads then l else
    let n : BitVec 8 := if x.st == 3 then 1 else 0
    let c := BitVec.ofNat 8 x.capacity
    if l.any (fun b => b.dev == x.partnerDev) then
      l.map (fun (b : Neighbour) => if b.dev == x.partnerDev then
        { b with ports := b.ports + n, cap := if b.cap.toNat < c.toNat then c else b.cap } else b)
    else l ++ [{ dev := x.partnerDev, ports := n, cap := c }]) []

/-- Origins in the database, one fragment each. -/
def State.origins (s : State) : List LsaFrag :=
  s.fxb.db.foldl (fun l x => if l.any (fun y => y.serial == x.serial) then l else l ++ [x]) []

/-- Groups of at most 48 neighbour entries. -/
def nbrGroups : Nat → List Neighbour → List (List Neighbour)
  | 0, _ => []
  | fuel + 1, l => if l.length ≤ 48 then [l] else l.take 48 :: nbrGroups fuel (l.drop 48)

/-- Originate an LSA: the next sequence, in up to 16 fragments, on every Active port; a priority written takes force with it.
None is originated in the safe state (R350, R362, R518, R564). -/
def State.originate (s : State) : State :=
  if s.safe then s else
  let s := s.commitShadow 0x180 0x110
  let seq := s.fxb.lsaSeq + 1
  let nb := s.neighbours
  let memb : Dev := if s.fxb.role = 1 then BitVec.ofNat 12 (s.origins.length + 1) else 0
  let s := { s with fxb := { s.fxb with lsaSeq := seq, lastNbrs := nb, memb := if s.fxb.role = 1 then memb else s.fxb.memb } }
  let groups := (nbrGroups 16 nb).take 16
  s.each ((List.range groups.length).zip groups) (fun s g =>
    s.floodLink none (.lsa { serial := ownSerial, inst := s.instance_, seq := seq, prio := s.prio, dev := s.fxb.devnum, conf := s.fxb.conf,
                             role := s.fxb.role, memb := memb, frag := BitVec.ofNat 4 g.1, fragsM1 := BitVec.ofNat 4 (groups.length - 1),
                             tree := s.fxb.treeEpoch, nbrs := g.2, throttled := s.thm.req }))

/-- A port or neighbour has changed: routes are due again, and a new LSA goes out (R350, R357). -/
def State.linkChanged (s : State) : State :=
  ({ s with fxb := { s.fxb with topoChanged := true } }).originate

/-! ### Roles (R353, R354) -/

/-- An eligible key is below another: priority, then serial number (R353). -/
def keyBelow (a b : Byte × BitVec 64) : Bool :=
  decide (a.1.toNat < b.1.toNat) || (a.1 == b.1 && decide (a.2.toNat < b.2.toNat))

/-- Insert a key in rising order. -/
def insertKey (a : Byte × BitVec 64) : List (Byte × BitVec 64) → List (Byte × BitVec 64)
  | [] => [a]
  | b :: t => if keyBelow a b then a :: b :: t else b :: insertKey a t

/-- The eligible keys of the partition, lowest first, this module's among them. -/
def State.eligible (s : State) : List (Byte × BitVec 64) :=
  let all := (s.prio, ownSerial) :: s.origins.map (fun x => (x.prio, x.serial))
  (all.filter (fun k => k.1.toNat != 255)).foldl (fun l k => insertKey k l) []

/-- The device number of a serial of the partition; 0 when unassigned. -/
def State.devOf (s : State) (serial : BitVec 64) : Dev :=
  if serial = ownSerial then s.fxb.devnum else ((s.fxb.db.find? (fun x => x.serial == serial)).map LsaFrag.dev).getD 0

/-- The serial of the live custodian: this module, or the lowest key whose LSA claims the role (R353). -/
def State.custodianKey (s : State) : Option (Byte × BitVec 64) :=
  let l := (if s.fxb.role = 1 then [(s.prio, ownSerial)] else []) ++ (s.origins.filter (fun x => x.role == 1)).map (fun x => (x.prio, x.serial))
  (l.foldl (fun acc k => insertKey k acc) []).head?

/-- The quorum rule: more than half of the last MEMB, or none seen (R353). -/
def State.quorate (s : State) : Bool := s.fxb.memb = 0 || decide (s.fxb.memb.toNat < 2 * (s.origins.length + 1))

/-- The claim of a segment record (R371, R401). -/
def claimOf (g : Seg) : Claim :=
  { gsn := g.gsn, state := g.st, epoch := g.epoch, partner := g.partner, mmode := g.mmode, tentative := g.tentative }

/-- Send a claim for every record held (R372, R397). -/
def State.sendClaims (s : State) (dst : Dev) : State :=
  s.each ((s.mte.segs.filter (fun (e : Nat × Seg) => e.2.st != 0)).map Prod.snd) (fun s g =>
    s.sendPlain dst 0 g.epoch 0 0 (.gstClaim (claimOf g)))

/-- The role that the standbys and the custodian give this module; a custodian it has not known gets its claims (R354, R397). -/
def State.setRoles (s : State) (cust : Option (BitVec 64)) : State :=
  let old := (s.fxb.role, s.fxb.cust)
  let rest := (s.eligible.map Prod.snd).filter (fun k => some k != cust)
  let s1 := rest[0]?
  let s2 := rest[1]?
  let role : BitVec 3 := if cust = some ownSerial then 1 else if cust.isSome && s1 = some ownSerial then 2
    else if cust.isSome && s2 = some ownSerial then 3 else 0
  let dev (k : Option (BitVec 64)) : Dev := (k.map s.devOf).getD 0
  let s := { s with fxb := { s.fxb with role := role, cust := dev cust, stby1 := if cust.isSome then dev s1 else 0,
                                        stby2 := if cust.isSome then dev s2 else 0 } }
  let s := if s.fxb.conf && s.fxb.cust != old.2 && s.fxb.cust != 0 && s.fxb.role != 1 then s.sendClaims s.fxb.cust else s
  if (s.fxb.role, s.fxb.cust) = old then s else s.raise 0x180 .fxbRole

/-- Whether this module serves mirrored segments: the custodian always does, and another while its lease runs, outside the safe
state (R396, R518). -/
def State.renewLease (s : State) : State :=
  if s.safe then s else { s with sve := { s.sve with lease := true, leaseAt := some s.ns } }

/-- The database has changed: the live custodian keeps its role, the lower key of two, and the standbys are recomputed; a module
that has ceased to be custodian yields (R353, R354). -/
def State.dbChanged (s : State) : State :=
  let s := if s.fxb.noElig && s.eligible.isEmpty then s.raise 0x180 .fxbNoEligible else s
  let s := if s.eligible.isEmpty then s else { s with fxb := { s.fxb with noElig := false } }
  match s.custodianKey with
  | some k => s.setRoles (some k.2)
  | none => if s.fxb.cust = 0 then s else ({ s with fxb := { s.fxb with cust := 0 } }).raise 0x180 .fxbRole

/-! ### Device numbers (R355) -/

/-- The lowest device number from 1 to 4,094 that no one holds. -/
def State.freeDev (s : State) : Dev :=
  let used (d : Dev) : Bool := d == s.fxb.devnum || s.origins.any (fun x => x.dev == d) || s.fxb.grants.any (fun g => g.2 == d)
  BitVec.ofNat 12 (((List.range 4094).find? (fun i => !used (BitVec.ofNat 12 (i + 1)))).map (· + 1) |>.getD 0)

/-- The number the custodian grants a serial: the wanted one when free or its own, else the lowest free one (R355). -/
def State.grantFor (s : State) (serial : BitVec 64) (wanted : Dev) : Dev :=
  let holds (d : Dev) : Option (BitVec 64) :=
    match s.fxb.grants.find? (fun g => g.2 == d) with
    | some g => some g.1
    | none => if d = s.fxb.devnum then some ownSerial else (s.origins.find? (fun x => x.dev == d && x.conf)).map LsaFrag.serial
  if wanted != 0 && wanted.toNat ≤ 4094 && (holds wanted).all (fun k => k == serial) then wanted
  else match s.fxb.grants.find? (fun g => g.1 == serial) with
    | some g => g.2
    | none => s.freeDev

/-- The custodian grants a number and floods DEV_GRANT (R355). -/
def State.grant (s : State) (serial : BitVec 64) (dev : Dev) : State :=
  let s := { s with fxb := { s.fxb with grants := s.fxb.grants.filter (fun (g : BitVec 64 × Dev) => g.1 != serial) ++ [(serial, dev)] } }
  s.floodLink none (.devGrant serial dev (ownSerial.setWidth 52))

/-- This module's number is confirmed: it is stored in the pantry, the whole table and the key sets are fetched, and its records are
claimed (R355, R368, R397, R445); the fetch has no end of its own, and the heads are enabled once it has been asked for (log 49). -/
def State.confirmDev (s : State) (dev : Dev) : State :=
  let s := ({ s with fxb := { s.fxb with devnum := dev, conf := true } }).setRing 5 dev.toNat
  let s := s.originate
  if s.fxb.role = 1 || s.fxb.cust = 0 then s
  else
    let s := { s with sve := { s.sve with tabled := true } }
    let s := s.sendPlain s.fxb.cust 0 0 0 0 (.gstSync 0 (BitVec.ofNat 27 (2 ^ 26)) (BitVec.ofNat 64 (s.sve.ver + 1)))
    (s.sendPlain s.fxb.cust 0 0 0 0 .krPull).sendClaims s.fxb.cust

/-- A custodian without a number takes one itself (R355). -/
def State.confirmSelf (s : State) : State :=
  if s.fxb.conf then s else
  let want : Dev := BitVec.ofNat 12 (s.ring 5)
  let d := s.grantFor ownSerial want
  (({ s with fxb := { s.fxb with grants := s.fxb.grants ++ [(ownSerial, d)] } }).confirmDev d)

/-- Two confirmed LSAs with one number: DEVNUM_CONFLICT; the custodian, by its grants, lets the serial that holds the number keep it and
grants the other one a new number (R355). -/
def State.devConflict (s : State) (x : LsaFrag) : State :=
  let other := (s.origins.find? (fun y => y.conf && y.dev == x.dev && y.serial != x.serial)).map LsaFrag.serial
  let clash := x.conf && (other.isSome || (s.fxb.conf && s.fxb.devnum = x.dev))
  if !clash then s else
  let s := s.raise 0x180 .fxbDevnumConflict
  let holds := s.fxb.grants.any (fun g => g.1 == x.serial && g.2 == x.dev)
  if s.fxb.role = 1 then s.grant (if holds then other.getD x.serial else x.serial) s.freeDev else s

/-- DEV_REQ arrives: granted by the custodian, flooded on by others, once in a refresh interval (R355, R356). -/
def State.devReqIn (s : State) (port : Nat) (serial : BitVec 64) (inst : BitVec 24) (wanted : Dev) : State :=
  if s.safe then s
  else if s.fxb.role = 1 then s.grant serial (s.grantFor serial wanted)
  else if (serial, wanted, false) ∈ s.fxb.flooded then s
  else
    ({ s with fxb := { s.fxb with flooded := s.fxb.flooded ++ [(serial, wanted, false)] } }).floodLink (some port) (.devReq serial inst wanted)

/-- DEV_GRANT arrives: taken when it names this module, and flooded on (R355). -/
def State.devGrantIn (s : State) (port : Nat) (serial : BitVec 64) (dev : Dev) (cust : BitVec 52) : State :=
  if serial = ownSerial then s.confirmDev dev
  else if s.safe || decide ((serial, dev, true) ∈ s.fxb.flooded) then s
  else ({ s with fxb := { s.fxb with flooded := s.fxb.flooded ++ [(serial, dev, true)] } }).floodLink (some port) (.devGrant serial dev cust)

/-- 100 ms without a grant: DEV_REQ is flooded again (R355). -/
def State.devReqRepeat (s : State) : State :=
  if s.fxb.conf || s.fxb.role = 1 then s
  else s.floodLink none (.devReq ownSerial s.instance_ (BitVec.ofNat 12 (s.ring 5)))

/-! ### Routes (R357, R358, R361) -/

/-- The links out of a module, by device number; Trickle links too when asked. -/
def State.linksOf (s : State) (trickle : Bool) (dev : Dev) : List Dev :=
  let l := if dev = s.fxb.devnum then s.neighbours else (s.fxb.db.filter (fun x => x.dev == dev && x.conf)).flatMap LsaFrag.nbrs
  (l.filter (fun n => trickle || n.ports != 0)).map Neighbour.dev

/-- The modules of the database with a confirmed number, and this one. -/
def State.confirmed (s : State) : List Dev :=
  insertNew ((s.origins.filter (fun x => x.conf && x.dev != 0)).map LsaFrag.dev) s.fxb.devnum

/-- Distances in hops to a set, by layers of at most `fuel`: a module lies one hop beyond a module it has a permitted link to. -/
def layers (nodes : List Dev) (links : Dev → List Dev) (ok : Dev → Dev → Bool) : Nat → Nat → List (Dev × Nat) → List (Dev × Nat)
  | 0, _, acc => acc
  | fuel + 1, k, acc =>
    let new := nodes.filter (fun u => !(acc.any (fun e => e.1 == u)) &&
      (links u).any (fun v => ok u v && acc.any (fun e => e.1 == v && e.2 == k)))
    layers nodes links ok fuel (k + 1) (acc ++ new.map (fun u => (u, k + 1)))

/-- A distance in a table. -/
def distIn (t : List (Dev × Nat)) (d : Dev) : Option Nat := (t.find? (fun e => e.1 == d)).map Prod.snd

/-- The module's ports that lead to a neighbour, the best capacity first, the lowest number on a tie. -/
def State.portsTo (s : State) (dev : Dev) : List Nat :=
  (s.ports.filter (fun (e : Nat × Port) => e.2.leads && e.2.partnerDev == dev)).foldl (fun (l : List Nat) e => insertPort e.1 l) []
where
  /-- insert by falling capacity, behind equals -/
  insertPort (p : Nat) : List Nat → List Nat
    | [] => [p]
    | q :: t => if (s.port q).capacity < (s.port p).capacity then p :: q :: t else q :: insertPort p t

/-- Insert a port by falling capacity, the lowest number on a tie. -/
def State.orderPorts (s : State) : List Nat → List Nat → List Nat
  | [], acc => acc
  | p :: t, acc => s.orderPorts t (ins p acc)
where
  ins (p : Nat) : List Nat → List Nat
    | [] => [p]
    | q :: t => if (s.port q).capacity < (s.port p).capacity || ((s.port q).capacity == (s.port p).capacity && p < q) then p :: q :: t
                else q :: ins p t

/-- The adaptive entry of a destination: least hops, and up to 4 next ports (R357). -/
def State.adaptive (s : State) (d : Dev) : Nat × List Nat :=
  let go (trickle : Bool) : Option (Nat × List Nat) :=
    let t := layers s.confirmed (s.linksOf trickle) (fun _ _ => true) 31 0 [(d, 0)]
    match distIn t s.fxb.devnum with
    | some k =>
      let near := (s.linksOf trickle s.fxb.devnum).filter (fun v => distIn t v == some (k - 1))
      let ports := (near.flatMap s.portsTo).filter (fun p => trickle || (s.port p).st == 3)
      some (k, (s.orderPorts (ports.foldl insertNew []) []).take 4)
    | none => none
  match go false with
  | some r => r
  | none => (go true).getD (31, [])

/-- The root of the escape tree: the custodian, or the lowest key while there is none (R358). -/
def State.treeRoot (s : State) : BitVec 64 :=
  match s.custodianKey with
  | some k => k.2
  | none => ((((s.prio, ownSerial) :: s.origins.map (fun x => (x.prio, x.serial))).foldl (fun l k => insertKey k l) []).head?.map Prod.snd).getD ownSerial

/-- The escape entry of a destination: ESC with whether its hop is down, and ESCDN (R358, R361). -/
def State.escape (s : State) (root d : Dev) : Option (Nat × Bool) × Option Nat :=
  let nodes := s.confirmed
  let links := s.linksOf true
  let level (u : Dev) : Nat := (distIn (layers nodes links (fun _ _ => true) 4096 0 [(root, 0)]) u).getD 4096
  let lv := nodes.map (fun u => (u, level u))
  let lev (u : Dev) : Nat := (distIn lv u).getD 4096
  let up (u v : Dev) : Bool := decide (lev v < lev u) || (lev v == lev u && decide (v.toNat < u.toNat))
  let downs := layers nodes links (fun u v => !up u v) 31 0 [(d, 0)]
  let both := (List.range 31).foldl (fun (acc : List (Dev × Nat)) k =>
    acc ++ (nodes.filter (fun u => !(acc.any (fun e => e.1 == u)) && (links u).any (fun v =>
      if up u v then distIn acc v == some k else distIn downs v == some k))).map (fun u => (u, k + 1))) [(d, 0)]
  let me := s.fxb.devnum
  let first (ok : Dev → Bool) : Option (Nat × Dev) :=
    ((links me).filter ok).foldl (fun (best : Option (Nat × Dev)) v =>
      match (s.portsTo v).foldl (fun (m : Option Nat) p => some (min (m.getD p) p)) none, best with
      | some p, some b => if p < b.1 then some (p, v) else some b
      | some p, none => some (p, v)
      | none, b => b) none
  let esc := match distIn both me with
    | some (k + 1) => (first (fun v => if up me v then distIn both v == some k else distIn downs v == some k)).map (fun e => (e.1, !up me e.2))
    | _ => none
  let dn := match distIn downs me with
    | some (k + 1) => (first (fun v => !up me v && distIn downs v == some k)).map Prod.fst
    | _ => none
  (esc, dn)

/-- The destinations of the fabric. -/
def State.destinations (s : State) : List Dev := s.confirmed.filter (fun d => d != s.fxb.devnum && d != 0)

/-- Install the escape ports of the present tree, keeping the adaptive entries; a destination whose escape route passes 31 hops
holds no ports, with UNREACH (R358, R361). -/
def State.installEscape (s : State) : State :=
  let root := s.devOf s.treeRoot
  s.each s.destinations (fun s d =>
    let e := s.fxb.routes.get {} d.toNat
    let x := s.escape root d
    let r : Route := match x.1 with
      | some p => { e with esc := some p.1, escIsDown := p.2, escDn := x.2 }
      | none => { e with next := [], esc := none, escIsDown := false, escDn := none }
    let s := { s with fxb := { s.fxb with routes := s.fxb.routes.put d.toNat r } }
    if x.1.isNone && e.dist < 31 then s.raise 0x180 .fxbUnreach else s)

/-- A new tree epoch: the old escape ports are kept and the new ones installed (R358). -/
def State.newTree (s : State) (epoch : BitVec 16) : State :=
  let s := { s with fxb := { s.fxb with oldEsc := s.fxb.routes, treeEpoch := epoch } }
  s.installEscape

/-- Insert a module of the tree by its device number. -/
def insertNode (e : Dev × List Dev) : List (Dev × List Dev) → List (Dev × List Dev)
  | [] => [e]
  | x :: t => if e.1.toNat < x.1.toNat then e :: x :: t else x :: insertNode e t

/-- What the escape tree follows from: the root, and every module's links (R358). -/
def State.treeShape (s : State) : List (Dev × List Dev) :=
  (s.devOf s.treeRoot, []) :: s.confirmed.foldl (fun l d => insertNode (d, (s.linksOf true d)) l) []

/-- At the root: a new tree epoch where the tree has changed, at least 1 ms after the one before (R358). -/
def State.tendTree (s : State) : State :=
  if s.treeRoot != ownSerial then { s with fxb := { s.fxb with treeDue := false } }
  else if !s.fxb.treeDue && s.treeShape == s.fxb.treeOf then s
  else if s.fxb.treeAt.any (fun t => decide (s.ns < t + 1000000)) then { s with fxb := { s.fxb with treeDue := true } }
  else
    let epoch := s.fxb.treeEpoch + 1
    let s := { s with fxb := { s.fxb with treeAt := some s.ns, treeDue := false, treeOf := s.treeShape } }
    (s.newTree epoch).floodLink none (.tree ownSerial epoch)

/-- The hold-down ends: the routing table is recomputed; the root floods a new tree epoch (R357, R358). -/
def State.recomputeRoutes (s : State) : State :=
  if !s.fxb.topoChanged then s else
  let dests := s.destinations
  let new := dests.foldl (fun (t : Tab Route) d =>
    let a := s.adaptive d
    let e := s.fxb.routes.get {} d.toNat
    t.put d.toNat { e with dist := a.1, next := a.2 }) []
  let s := { s with fxb := { s.fxb with topoChanged := false, routes := new } }
  ((s.raise 0x180 .fxbTopology).tendTree).retryTransit

/-- TREE arrives: a new epoch is installed and flooded on (R358). -/
def State.treeIn (s : State) (port : Nat) (root : BitVec 64) (epoch : BitVec 16) : State :=
  if s.safe || epoch = s.fxb.treeEpoch then s
  else ((s.newTree epoch).floodLink (some port) (.tree root epoch)).retryTransit

/-! ### LSA (R351, R352) -/

/-- (instance, sequence) of one fragment is higher than of another. -/
def lsaAbove (a b : LsaFrag) : Bool :=
  decide (b.inst.toNat < a.inst.toNat) || (a.inst == b.inst && decide (b.seq.toNat < a.seq.toNat))

/-- A fragment is new: no held copy of its origin is as high, but for other fragments of the same LSA. -/
def State.lsaNew (s : State) (x : LsaFrag) : Bool :=
  !(s.fxb.db.any (fun y => y.serial == x.serial && (lsaAbove y x || (!lsaAbove x y && y.frag == x.frag))))

/-- Store a fragment in the place of what it replaces. -/
def State.storeLsa (s : State) (x : LsaFrag) : State :=
  { s with fxb := { s.fxb with
      db := s.fxb.db.filter (fun y => !(y.serial == x.serial && (lsaAbove x y || y.frag == x.frag))) ++ [x], topoChanged := true,
      memb := if x.role == 1 && x.memb != 0 then x.memb else s.fxb.memb,
      dead := if x.dev = 0 then s.fxb.dead else removeAll s.fxb.dead x.dev } }

end Sys2Proof.Machine
end

