-- ==== Sys2Proof/Machine/Wire.lean ====
section
/-! DEFINITION. How messages, flits and training blocks lie on a link: the grains of every message, the link header, the cipher, the CRCs and
the line coding (R319, R320, R325, R328 to R330, R333, R337 to R340, R349, R350, R355, R358, R365, R401, R445, R454; log 93). -/

namespace Sys2Proof.Machine

open Sys2Proof

/-! ### Grains (R328, R337, R339) -/

/-- A grain from its fields: lowest bit, width and value of each. -/
def grainOf (l : List (Nat × Nat × Nat)) : BitVec 128 := BitVec.ofNat 128 (pack l)

/-- Bytes in grains of 16, byte 0 lowest, the last one filled with zeros. -/
def byteGrains (l : List Nat) : List (BitVec 128) :=
  (blocksOf 16 ((l.length + 15) / 16) l).map (fun b => BitVec.ofNat 128 (ofBytesLE b))

/-- The four grains of a line. -/
def lineGrains (x : Line) : List (BitVec 128) := (List.range 4).map (fun i => x.extractLsb' (128 * i) 128)

/-- The routing grain of a message type and length; `xi` joins what the type puts into XINFO (R337). -/
def routingGrain (r : Routing) (mtype len : Nat) (xi : BitVec 16) : BitVec 128 :=
  grainOf [(0, 8, mtype), (8, 1, flag r.esc), (9, 1, flag r.down), (10, 5, r.hops.toNat), (15, 1, flag r.fwd), (16, 12, r.dst.toNat),
    (28, 12, r.src.toNat), (40, 4, len), (44, 10, r.stream.toNat), (54, 1, flag r.ord), (55, 1, flag r.tep), (56, 16, r.esq.toNat),
    (72, 16, r.tag.toNat), (88, 16, r.epoch.toNat), (104, 8, r.status.toNat), (112, 16, (r.xinfo ||| xi).toNat)]

/-- The address grain (R339). -/
def addressGrain (mask : BitVec 64) (fga : Fga) (aop : BitVec 4) (asize : BitVec 2) : BitVec 128 :=
  grainOf [(0, 64, mask.toNat), (64, 56, fga.toNat), (120, 4, aop.toNat), (124, 2, asize.toNat)]

/-- A message: its routing grain, with LEN, and its body. -/
def framed (r : Routing) (mtype : Nat) (xi : BitVec 16) (body : List (BitVec 128)) : List (BitVec 128) :=
  routingGrain r mtype (body.length + 1) xi :: body

/-! ### KEYX messages (R445, R454) -/

/-- What the messages of a key exchange need beside their own contents: the exchange identifier, this module's chain and proof, and for a key
push the IV, the shared secret of the two identity keys and the two serial numbers, the lower first (R445, R454). -/
structure KeyCtx where
  xid : Word := 0
  chain : List Nat := []
  proof : BitVec 512 := 0
  iv : BitVec 96 := 0
  z : BitVec 256 := 0
  target : BitVec 64 := 0
deriving DecidableEq, Repr, Inhabited

/-- The messages of a KEYX payload, in chunks of 208 bytes (R454). -/
def keyx (c : KeyCtx) (r : Routing) (sub : Nat) (payload : List Nat) : List (List (BitVec 128)) :=
  let n := max 1 ((payload.length + 207) / 208)
  ((List.range n).zip (blocksOf 208 n payload)).map (fun e =>
    framed r 0x68 0 (grainOf [(0, 8, sub), (8, 8, e.1), (16, 8, n - 1), (32, 32, c.xid.toNat), (64, 16, e.2.length)] :: byteGrains e.2))

/-- The transport key of a pair of modules (R445). -/
def transportKey (c : KeyCtx) : List Nat :=
  let lo := min Config.serial.toNat c.target.toNat
  let hi := max Config.serial.toNat c.target.toNat
  kdf (bytesBE 32 c.z.toNat) (ascii "KOLEN KEY TRANSPORT") (bytesLE 8 lo ++ bytesLE 8 hi) 32

/-- The payload of KR_PUSH: the key set wrapped under the transport key, with the range, the generation and the target's serial number as
additional data (R445, R454). -/
def pushPayload (c : KeyCtx) (range : Nat) (gen : BitVec 16) (erase : Bool) (keys : Option KeySet) : List Nat :=
  let head := [range] ++ bytesLE 2 gen.toNat
  let iv := bytesBE 12 c.iv.toNat
  let plain := keys.elim [] (fun (k : KeySet) => bytesBE 32 k.k1.toNat ++ bytesBE 32 k.k2.toNat ++ bytesBE 32 k.kt.toNat)
  let key := transportKey c
  let ct := gcmCrypt key iv plain
  let wrapped := if erase then List.replicate 96 0 else ct ++ List.replicate (96 - ct.length) 0
  head ++ [if erase then 2 else 1] ++ iv ++ wrapped ++ gcmTag key iv (head ++ bytesLE 8 c.target.toNat) ct

/-! ### The messages (R338, R340, R401) -/

/-- The 64 bits of a row of the global segment table (R365). -/
def rowWord (x : GstRow) : Nat :=
  pack [(61, 3, x.state.toNat), (59, 2, x.mmode.toNat), (47, 12, x.owner.toNat), (35, 12, x.mirror.toNat), (23, 12, x.target.toNat),
    (0, 16, x.epoch.toNat)]

/-- The body of GST_REQ (R401). -/
def gstReqGrains (g : GstReq) : List (BitVec 128) :=
  [grainOf [(0, 4, g.op.toNat), (4, 26, g.gsn.toNat), (30, 12, g.devA.toNat), (42, 12, g.devB.toNat), (54, 8, g.region.toNat),
     (62, 6, g.keyRange.toNat), (68, 6, g.head.toNat), (74, 2, g.mmode.toNat)],
   grainOf [(0, 32, g.handle.toNat)]]

/-- The body of GST_CLAIM (R401). -/
def claimGrain (c : Claim) : BitVec 128 :=
  grainOf [(0, 26, c.gsn.toNat), (26, 3, c.state.toNat), (29, 16, c.epoch.toNat), (45, 12, c.partner.toNat), (57, 2, c.mmode.toNat),
    (59, 1, flag c.tentative)]

/-- The bytes of a line that a mask names; the others are 0 (R338). -/
def maskedLine (mask : BitVec 64) (x : Line) : Line :=
  BitVec.ofNat 512 (ofBytesLE ((List.range 64).map (fun i => if bitAt mask i then x.toNat / 2 ^ (8 * i) % 256 else 0)))

/-- The body of BLK_DATA: the first line's address with the count and the requesting device, the side data, and the lines as stored (R338,
R340, R387). -/
def blkGrains (line : LineAddr) (l : List SLine) (reqDev : Dev) : List (BitVec 128) :=
  let side (i : Nat) : Nat := (l[i]?).elim 0 (fun x => (lineTagWord x).toNat)
  [grainOf [(0, 50, line.toNat), (50, 2, l.length - 1), (52, 12, reqDev.toNat), (64, 64, side 0)], grainOf [(0, 64, side 1), (64, 64, side 2)]] ++
    l.flatMap (fun x => lineGrains x.ct)

/-- The operands of an atomic: two grains for a compare and swap of 16 B, else one with the second operand behind the first (R338). -/
def atomGrains (op : BitVec 4) (size : BitVec 2) (a b : BitVec 128) : List (BitVec 128) :=
  if op = 9 && size = 2 then [a, b] else
    let n := 8 * 2 ^ (size.toNat + 2)
    [grainOf [(0, n, a.toNat), (n, n, b.toNat)]]

/-- A message as it lies on a link: one grain list, or one for each chunk of a KEYX message. The messages of R99's check and discard have no
type in R338 or R401, so no grains (log 65). -/
def Msg.wire (c : KeyCtx) (r : Routing) : Msg → List (List (BitVec 128))
  | .rd line => [framed r 0x01 0 [addressGrain 0 (line ++ 0#6) 0 0]]
  | .wr line mask data => [framed r 0x02 0 (addressGrain mask (line ++ 0#6) 0 0 :: lineGrains (maskedLine mask data))]
  | .atom fga op size a b => [framed r 0x03 0 (addressGrain 0 fga op size :: atomGrains op size a b)]
  | .barrier kind => [framed r 0x04 (kind.setWidth 16) []]
  | .gpf => [framed r 0x05 0 []]
  | .rdData data poison => [framed r 0x21 (if poison then 1 else 0) (lineGrains data)]
  | .wrStat point later => [framed r 0x22 (point.setWidth 16 ||| (if later then 4 else 0)) []]
  | .atomData old => [framed r 0x23 0 [old]]
  | .barrierDone => [framed r 0x24 0 []]
  | .gpfDone => [framed r 0x25 0 []]
  | .retry => [framed r 0x26 0 []]
  | .esqAck => [framed r 0x27 0 []]
  | .err => [framed r 0x28 0 []]
  | .blkData line lines reqDev => [framed r 0x41 0 (blkGrains line lines reqDev)]
  | .pageCtl page kind => [framed r 0x42 0 [grainOf [(0, 44, page.toNat), (44, 2, kind.toNat)]]]
  | .pageAck page => [framed r 0x43 0 [grainOf [(0, 44, page.toNat)]]]
  | .lineAck line => [framed r 0x44 0 [grainOf [(0, 50, line.toNat)]]]
  | .copyEnd kind => [framed r 0x45 (kind.setWidth 16) []]
  | .rwMarker region epoch => [framed r 0x46 0 [grainOf [(0, 8, region.toNat), (8, 16, epoch.toNat)]]]
  | .rwFwd op region epoch => [framed r 0x47 0 [grainOf [(0, 2, op.toNat), (2, 8, region.toNat), (10, 16, epoch.toNat)]]]
  | .rwConf => [framed r 0x48 0 []]
  | .fwChunk off ver bytes =>
    let image := bytes.map BitVec.toNat
    [framed r 0x49 0 (grainOf [(0, 32, off.toNat), (32, 32, ver.toNat), (64, 8, bytes.length)] ::
      byteGrains (image ++ List.replicate (208 - image.length) 0))]
  | .gstReq g => [framed r 0x70 0 (gstReqGrains g)]
  | .gstRsp gsn owner handle => [framed r 0x71 0 [grainOf [(0, 26, gsn.toNat), (26, 12, owner.toNat), (38, 32, handle.toNat)]]]
  | .gstUpd ver row gsn => [framed r 0x72 0 [grainOf [(0, 64, ver.toNat), (64, 64, rowWord row)], grainOf [(0, 26, gsn.toNat)]]]
  | .gstAck ver => [framed r 0x73 0 [grainOf [(0, 64, ver.toNat)]]]
  | .gstSync first count ver => [framed r 0x74 0 [grainOf [(0, 26, first.toNat), (26, 27, count.toNat), (53, 64, ver.toNat)]]]
  | .gstClaim x => [framed r 0x75 0 [claimGrain x]]
  | .fwuCtl step ver len => [framed r 0x76 0 [grainOf [(0, 4, step.toNat), (32, 32, ver.toNat), (64, 32, len.toNat)]]]
  | .fwuDone activated => [framed r 0x77 (if activated then 1 else 0) []]
  | .discardCheck .. => []
  | .discardGo .. => []
  | .discardRsp .. => []
  | .krTable ver bases => keyx c r 0x05 ((bytesLE 4 ver.toNat ++ bases.flatMap (fun b => bytesLE 4 b.toNat)).take 256)
  | .krPush range gen erase keys => keyx c r 0x06 (pushPayload c range gen erase keys)
  | .krAck range gen => keyx c r 0x07 ([range] ++ bytesLE 2 gen.toNat ++ [r.status.toNat])
  | .krPull => keyx c r 0x08 []

/-! ### Link-local messages (R325, R349, R350, R355, R358, R454) -/

/-- The body of HELLO (R349). -/
def helloGrains (x : Hello) : List (BitVec 128) :=
  [grainOf [(0, 64, x.serial.toNat), (64, 24, x.inst.toNat), (88, 8, x.prio.toNat), (96, 32, x.fabid.toNat)],
   grainOf [(0, 12, x.dev.toNat), (12, 1, flag x.conf), (13, 3, x.role.toNat), (16, 9, x.port.toNat)]]

/-- The body of an LSA (R350). -/
def lsaGrains (x : LsaFrag) : List (BitVec 128) :=
  [grainOf [(0, 64, x.serial.toNat), (64, 24, x.inst.toNat), (88, 32, x.seq.toNat), (120, 8, x.prio.toNat)],
   grainOf [(0, 12, x.dev.toNat), (12, 1, flag x.conf), (13, 3, x.role.toNat), (16, 12, x.memb.toNat), (28, 4, x.frag.toNat),
     (32, 4, x.fragsM1.toNat), (36, 6, x.nbrs.length), (42, 16, x.tree.toNat)]] ++
  byteGrains (x.nbrs.flatMap (fun n => bytesLE 4 (pack [(0, 12, n.dev.toNat), (12, 8, n.ports.toNat), (20, 8, n.cap.toNat)])))

/-- A link message as it lies on a link; training blocks and bare flits are no messages. -/
def LinkMsg.wire (c : KeyCtx) (r : Routing) : LinkMsg → List (List (BitVec 128))
  | .train .. => []
  | .flit .. => []
  | .hello x => [framed r 0x61 0 (helloGrains x)]
  | .lsa x => [framed r 0x62 (if x.throttled then 1 else 0) (lsaGrains x)]
  | .devReq serial inst wanted => [framed r 0x63 0 [grainOf [(0, 64, serial.toNat), (64, 24, inst.toNat), (88, 12, wanted.toNat)]]]
  | .devGrant serial dev cust => [framed r 0x64 0 [grainOf [(0, 64, serial.toNat), (64, 12, dev.toNat), (76, 52, cust.toNat)]]]
  | .tree root epoch => [framed r 0x65 0 [grainOf [(0, 64, root.toNat), (64, 16, epoch.toNat)]]]
  | .trickle accept => [framed r 0x66 (if accept then 1 else 0) []]
  | .wake => [framed r 0x67 0 []]
  | .kxOffer key nonce => keyx c r 0x01 (bytesBE 64 key.toNat ++ bytesBE 32 nonce.toNat)
  | .kxCert => keyx c r 0x02 c.chain
  | .kxProof => keyx c r 0x03 (bytesBE 64 c.proof.toNat)
  | .kxDone => keyx c r 0x04 []

/-- CRC-8 of polynomial 0x07 over bytes (R325). -/
def crc8 (l : List Nat) : Nat :=
  l.foldl (fun c b => (List.range 8).foldl (fun c _ => if 128 ≤ c then (2 * c) % 256 ^^^ 7 else 2 * c) (c ^^^ b)) 0

/-- Bytes 0 to 14 of a training block of a kind (R325). -/
def trainBytes (kind : Nat) (b : TrainBlock) : List Nat :=
  [0xe5, kind, b.lane.toNat, b.rate.toNat, b.width.toNat, b.role.toNat] ++ bytesLE 8 b.serial.toNat ++ [b.eq.toNat]

/-! ### Flits (R328 to R330, R333) -/

/-- The link header of a flit of a type: 0 IDLE, 1 DATA, 2 NAK, 3 CLEAR (R329). -/
def flitHead (f : Flit) (ftype : Nat) : Nat :=
  pack [(0, 12, f.seq.toNat), (12, 12, f.ack.toNat), (24, 1, flag f.kepoch), (25, 2, f.vc1.toNat), (27, 1, flag f.esc1), (28, 8, f.cnt1.toNat),
    (36, 4, ftype), (40, 4, f.first.toNat), (44, 2, f.vc2.toNat), (46, 1, flag f.esc2), (47, 8, f.cnt2.toNat)]

/-- The 224 bytes of grains 0 to 13 before the cipher. -/
def flitPlain (f : Flit) : List Nat :=
  (List.range 14).flatMap (fun i => bytesLE 16 ((f.grains[i]?).elim 0 BitVec.toNat))

/-- The key and salt of a direction with a flit number, for a flit that is encrypted (R330). -/
structure FlitKey where
  key : BitVec 256
  salt : Word
  number : Nat
deriving DecidableEq, Repr, Inhabited

/-- The 96-bit IV: the salt, then the flit number (R330, log 93). -/
def FlitKey.iv (k : FlitKey) : List Nat := bytesBE 4 k.salt.toNat ++ bytesBE 8 k.number

/-- Grains 0 to 13 as transmitted: ciphertext on an encrypted link (R330). -/
def flitSent (f : Flit) (k : Option FlitKey) : List Nat :=
  k.elim (flitPlain f) (fun k => gcmCrypt (bytesBE 32 k.key.toNat) k.iv (flitPlain f))

/-- The authentication tag of a flit, with its header as the additional data; 0 in a flit that is not encrypted (R328, R330). -/
def flitTag (f : Flit) (ftype : Nat) (k : Option FlitKey) : BitVec 128 :=
  k.elim 0 (fun k => BitVec.ofNat 128 (ofBytesLE (gcmTag (bytesBE 32 k.key.toNat) k.iv (bytesLE 8 (flitHead f ftype)) (flitSent f (some k)))))

/-- The reflected CRC-64 step of polynomial 0x42F0_E1EB_A9EA_3693 over the bits of a byte. -/
def crc64Byte : Nat → Nat → Nat
  | 0, c => c
  | n + 1, c => crc64Byte n (if c % 2 = 1 then (c / 2) ^^^ 0xc96c5795d7870f42 else c / 2)

/-- The CRC-64 over bytes: initial value and final exclusive or all ones, reflected (R330). -/
def crc64 (l : List Nat) : Nat := (l.foldl (fun c b => crc64Byte 8 (c ^^^ b)) 0xffffffffffffffff) ^^^ 0xffffffffffffffff

/-- Bytes 0 to 247 of a flit as transmitted (R328). -/
def flitBody (f : Flit) (ftype : Nat) (k : Option FlitKey) : List Nat :=
  bytesLE 8 (flitHead f ftype) ++ flitSent f k ++ bytesLE 16 f.tag.toNat

/-- The CRC-64 of a flit as transmitted (R330). -/
def flitCrc (f : Flit) (ftype : Nat) (k : Option FlitKey) : BitVec 64 := BitVec.ofNat 64 (crc64 (flitBody f ftype k))

/-- The 256 bytes of a flit (R328). -/
def flitBytes (f : Flit) (ftype : Nat) (k : Option FlitKey) : List Nat := flitBody f ftype k ++ bytesLE 8 f.crc.toNat

/-- A flit with the tag and the CRC of its transmission (R330). -/
def sealFlit (f : Flit) (ftype : Nat) (k : Option FlitKey) : Flit :=
  let f := { f with tag := flitTag f ftype k }
  { f with crc := flitCrc f ftype k }

/-- The grains of consecutive messages, each marked where it begins one. -/
def markGrains (l : List (List (BitVec 128))) : List (Bool × BitVec 128) :=
  l.flatMap (fun m => ((List.range m.length).zip m).map (fun e => (e.1 == 0, e.2)))

/-- FIRST of the grains of a flit: where the first message header lies, 0xF without one (R329). -/
def firstHeader (l : List (Bool × BitVec 128)) : BitVec 4 := BitVec.ofNat 4 ((l.findIdx? Prod.fst).getD 15)

/-- Messages packed into the grains of consecutive flits with the FIRST of each; a message runs on into the next flit (R333). -/
def packFlits (l : List (List (BitVec 128))) : List (BitVec 4 × List (BitVec 128)) :=
  let g := markGrains l
  (List.range ((g.length + 13) / 14)).map (fun i =>
    let part := (g.drop (14 * i)).take 14
    (firstHeader part, part.map Prod.snd))

/-! ### Line coding (R319, R320, R325) -/

/-- The self-synchronising scrambler x^58 + x^39 + 1: `st` holds the last 58 bits sent, newest first (R319). -/
def scramble : List Bool → List Bool → List Bool
  | _, [] => []
  | st, b :: t =>
    let o := (b ^^ (st.getD 38 false)) ^^ (st.getD 57 false)
    o :: scramble ((o :: st).take 58) t

/-- The descrambler of `scramble`: `st` holds the last 58 bits received, newest first. -/
def descramble : List Bool → List Bool → List Bool
  | _, [] => []
  | st, o :: t => ((o ^^ (st.getD 38 false)) ^^ (st.getD 57 false)) :: descramble ((o :: st).take 58) t

/-- The bits of bytes, bit 0 of byte 0 first. -/
def bitsOf (l : List Nat) : List Bool := l.flatMap (fun b => (List.range 8).map (fun i => b / 2 ^ i % 2 == 1))

/-- Frame control of the first or second codeword of a pair: bit 0 tells which, bits [19:1] hold the alignment word or its complement
(R319). -/
def frameControl (second : Bool) : BitVec 20 := if second then (~~~(0x2c5a3#19)) ++ 1#1 else 0x2c5a3#19 ++ 0#1

/-- The bits of a bit vector, lowest first. -/
def wordBits (w : BitVec 20) : List Bool := (List.range 20).map (fun i => w.getLsbD i)

/-- The payload bits of a codeword pair: frame control before each half of the five flits (R319). -/
def codewordPair (flits : List (List Nat)) : List Bool × List Bool :=
  let b := bitsOf flits.flatten
  (wordBits (frameControl false) ++ b.take 5120, wordBits (frameControl true) ++ (b.drop 5120).take 5120)

/-- The 10-bit symbols of bits, the first bit lowest. -/
def symbols : Nat → List Bool → List (BitVec 10)
  | 0, _ => []
  | n + 1, l => BitVec.ofNat 10 ((l.take 10).foldr (fun b a => (if b then 1 else 0) + 2 * a) 0) :: symbols n (l.drop 10)

/-- The 544 symbols of a codeword: 514 of scrambled payload and the parity of RS(544,514) (R319, log 93). -/
def codeword (payload : List Bool) : List (BitVec 10) :=
  let d := symbols 514 payload
  d ++ Config.rsParity d

/-- What each of `w` lanes carries of symbols or words that go round robin from lane 0 (R319, R320). -/
def laneShare {α : Type} (w : Nat) (l : List α) (lane : Nat) : List α :=
  (((List.range l.length).zip l).filter (fun e => e.1 % w == lane)).map Prod.snd

/-- The 16-bit words of a flit's bytes at 10 and 28 Gbit/s (R320). -/
def flitWords (bytes : List Nat) : List (BitVec 16) := (blocksOf 2 128 bytes).map (fun b => BitVec.ofNat 16 (ofBytesLE b))

/-- The sync header before a flit, and before a training block (R320, R325). -/
def syncHeader (training : Bool) : BitVec 2 := if training then 0b10 else 0b01

end Sys2Proof.Machine
end

