-- ==== Sys2Proof/Machine/Ports.lean ====
section
/-! DEFINITION. Cable cages and the Elvuc ports: training, flits and link retry, Recovery, Trickle, and the key agreement of a
link (R18 to R25, R318 to R336, R341, R347, R348, R364, R455 to R457). -/

namespace Sys2Proof.Machine

open Sys2Proof

/-! ### Ports and their configuration (R19, R317, R323, R362) -/

/-- The page of a port block. -/
def blockPage (b : Nat) : Nat := 0x100 + b

/-- PRT_CFG of a port's block. -/
def State.portCfg (s : State) (n : Nat) : Word := s.reg (blockPage (n / 8)) 0x100

/-- The port is its block's CXL head (R317). -/
def State.isHeadPort (s : State) (n : Nat) : Bool := bitAt (s.portCfg n) (8 + n % 8)

/-- An enabled Elvuc port that its block's bifurcation has (R317). -/
def State.elvucPort (s : State) (n : Nat) : Bool :=
  decide (n % 8 < s.portsOf (n / 8)) && bitAt (s.portCfg n) (16 + n % 8) && !s.isHeadPort n

/-- The lanes of a port (R19). -/
def State.portWidth (s : State) (n : Nat) : Nat := 8 / s.portsOf (n / 8)

/-- The block lane of a lane of a port (R19). -/
def State.blockLane (s : State) (n i : Nat) : Nat := s.portWidth n * (n % 8) + i

/-- A port block runs: its domains are released, its parameters taken, its RUN set and its domain not fenced. -/
def State.blockRuns (s : State) (b : Nat) : Bool :=
  s.up && s.runs (blockPage b) && !s.pan.recalling && !s.isFenced 3 b && !decide (blockPage b ∈ s.pages.resetting)

/-- The port's cage has settled presence (R25, R321). -/
def State.portPresent (s : State) (n : Nat) : Bool := (s.cage (n / 64)).phase == 3

/-- The rate limit a port offers: PRT_CFG.RATE and the identified cable's rate (R23, R318, R325). -/
def State.ownLimit (s : State) (n : Nat) : Nat :=
  min (fld (s.portCfg n) 24 4) (if s.identified (n / 64) then (s.cage (n / 64)).rate.toNat else 3)

/-- Training blocks of a kind go out on every lane of a port, with the rate limit it offers (R23, R325). -/
def State.sendTrain (s : State) (n kind : Nat) : State :=
  s.linkOut n (.train (BitVec.ofNat 8 kind) (BitVec.ofNat 8 (s.ownLimit n)) (BitVec.ofNat 8 (s.portWidth n)) 0)

/-- The target rate: the lowest of PRT_CFG.RATE, the identified cable's rate and the partner's limit (R322). -/
def State.targetRate (s : State) (n : Nat) : Nat :=
  min (s.ownLimit n) (s.port n).partnerRate.toNat

/-- Add to the bits of a byte. -/
def setBit8 (x : Byte) (i : Nat) (on : Bool) : Byte := if on then x ||| oneBit 8 i else x &&& ~~~(oneBit 8 i)

/-! ### Training (R321 to R326) -/

/-- Training starts at Detect (R321). -/
def State.trainStart (s : State) (n : Nat) : State :=
  let x := s.port n
  s.setPort n { backoff := x.backoff, cause := x.cause, st := 2, phase := 1, partnerRate := 3 }

/-- The credit a port returns at link-up: its whole buffer (R341). -/
def State.wholeBuffer (s : State) (n : Nat) : Tab Nat :=
  let g := 1024 / s.portsOf (n / 8)
  [(0, g - 16), (1, 16), (2, g - 16), (3, 16), (4, g - 16), (5, 16), (6, 64)]

/-- A port goes Down with a cause: what it held unacknowledged is discarded, a link that carried messages is reported lost, and
routes avoid it (R336, R341, R347, R357). -/
def State.portDown (s : State) (n cause : Nat) (wait : Bool) : State :=
  let x := s.port n
  let st := x.st.toNat
  let s := s.setPort n { backoff := if wait then min 64 (2 * x.backoff) else x.backoff, wait := wait, st := 1,
                         cause := BitVec.ofNat 5 cause }
  let at_ : Where := { dom := 2, inst := n, kind := 7, items := [n] }
  let s := if st = 3 || st = 5 || st = 6 || x.exiting then s.raiseAt (blockPage (n / 8)) .prtLinkDown at_
    else if st = 2 then s.raiseAt (blockPage (n / 8)) .prtTrainFail at_ else s
  let s := { s with fxb := { s.fxb with transit := s.fxb.transit.filter (fun e => !(e.1.dst == 4095 && e.1.port.val == n)) } }
  if st = 3 || st = 4 || st = 5 || st = 6 || x.exiting then s.linkChanged else s

/-- A training failure: Down, and another try after the wait (R326). -/
def State.trainFailed (s : State) (n cause : Nat) : State := s.portDown n cause true

/-- ELVUC_TRAIN_START: a Down or just enabled port that waits for nothing starts training (R321). -/
def State.beginTraining (s : State) (n : Nat) : State :=
  let x := s.port n
  if s.elvucPort n && s.portPresent n && s.blockRuns (n / 8) && decide (x.st.toNat ≤ 1) && !x.wait then s.trainStart n else s

/-- Receiver detection ends: a partner on lane 0 or the highest lane takes the port to Base (R321). -/
def State.detected (s : State) (n : Nat) (lanes : BitVec 8) : State :=
  let x := s.port n
  if x.st == 2 && x.phase == 1 && (bitAt lanes 0 || bitAt lanes (s.portWidth n - 1)) then
    s.sendTrain n 1 |>.setPort n { x with phase := 2 }
  else s

/-- A training block is good: its CRC and fields hold (R325). -/
def State.goodBlock (s : State) (n kind : Nat) (b : TrainBlock) : Bool :=
  decide (crc8 (trainBytes kind b) = b.crc.toNat) && b.role == 1 && decide (b.lane.toNat < 8) && decide (b.rate.toNat ≤ 3)
    && decide (b.width.toNat ∈ [1, 2, 4, 8]) && decide (b.onLane.val < s.portWidth n)

/-- A good block shows cabling that breaks R22: its lane meets this one neither straight nor reversed, or in another order than the lanes
before it, or it comes from another partner. -/
def State.breaksR22 (s : State) (n : Nat) (b : TrainBlock) : Bool :=
  let x := s.port n
  let w := s.portWidth n
  let straight := decide (b.lane.toNat = b.onLane.val)
  let reversed := decide (b.lane.toNat + b.onLane.val + 1 = w)
  let first := x.good.isEmpty
  !(straight || reversed) || (!first && (x.partnerSerial != b.serial || (decide (1 < w) && x.rev != reversed)))

/-- The lanes of a port that have passed Base: 64 consecutive good blocks (R321). -/
def State.passed (s : State) (n i : Nat) : Bool := decide (64 ≤ (s.port n).good.get 0 i)

/-- The width at which the port trains: the widest whose lanes, the lowest or, reversed, the highest, have all passed (R324). -/
def State.trainWidth (s : State) (n : Nat) : Nat :=
  let w := s.portWidth n
  let ok (k : Nat) : Bool := decide (k ≤ w) && (List.range k).all (fun i => s.passed n (if (s.port n).rev then w - 1 - i else i))
  ([8, 4, 2, 1].find? ok).getD 0

/-- Training fences the lanes that did not pass Base, and ends the fence of those that did (R324, R513). -/
def State.judgeLanes (s : State) (n : Nat) : State :=
  s.each (List.range (s.portWidth n)) (fun s i =>
    let lane := 8 * (n / 8) + s.blockLane n i
    if s.passed n i then s.unfence 1 lane else s.fence 1 lane)

/-- Base ends: Equalise at the target rate, the lanes that failed fenced, WIDTH_DEGRADED when narrower than configured (R321, R322, R324,
R513). -/
def State.endBase (s : State) (n : Nat) : State :=
  let w := s.trainWidth n
  if w = 0 || (s.port n).mixed then s else
  let s := s.judgeLanes n
  let x := s.port n
  let s := s.setPort n { x with phase := 3, eqDone := false, rate := BitVec.ofNat 2 (s.targetRate n), width := BitVec.ofNat 3 (widthCode w) }
  if w < s.portWidth n then s.raiseAt (blockPage (n / 8)) .prtWidthDegraded { kind := 7, items := [n] } else s

/-- A TS1 or TS2 block arrives in Base; the first good one shows the lane order, and one that breaks R22 keeps the port from passing
Base (R20 to R22, R321, R325). -/
def State.trainBlock (s : State) (n kind : Nat) (b : TrainBlock) : State :=
  let x := s.port n
  if !(x.st == 2 && x.phase == 2) then s
  else if !s.goodBlock n kind b then
    s.setPort n { x with seen := true, good := x.good.set 0 b.onLane.val 0 }
  else
    let first := x.good.isEmpty
    let w := s.portWidth n
    let bad := s.breaksR22 n b
    let rev := if first then decide (1 < w) && decide (b.lane.toNat + b.onLane.val + 1 = w) else x.rev
    let s := s.setPort n { x with
      seen := true, mixed := x.mixed || bad, good := x.good.set 0 b.onLane.val (min 64 (x.good.get 0 b.onLane.val + 1)), rev := rev, partnerRate := b.rate,
      partnerSerial := b.serial, polInv := setBit8 x.polInv (s.blockLane n b.onLane.val) b.inverted }
    let s := if first then s.sendTrain n 2 else s
    if (List.range w).all (s.passed n) then s.endBase n else s

/-- The partner has left Base: so does this port, with the lanes that have passed (R321, R324). -/
def State.partnerEq (s : State) (n : Nat) : State := if (s.port n).st == 2 && (s.port n).phase == 2 then s.endBase n else s

/-- An equalisation request for preset 0 to 10 (R325). -/
def State.eqRequest (s : State) (n : Nat) (preset : BitVec 4) : State :=
  let s := s.partnerEq n
  let x := s.port n
  if x.st == 2 && x.phase == 3 && decide (preset.toNat ≤ 10) then s.setPort n { x with eqTx := preset } else s

/-- The partner reports done, as this side does: Verify (R321). -/
def State.eqDone (s : State) (n : Nat) : State :=
  let s := s.partnerEq n
  let x := s.port n
  if x.st == 2 && x.phase == 3 then s.sendTrain n 4 |>.setPort n { x with eqDone := true, phase := 4 } else s

/-! ### Keying (R455 to R457) -/

/-- Send an offer with a fresh ephemeral key and nonce (R455, log 11). -/
def State.sendOffer (s : State) (n : Nat) : State :=
  let a := s.fresh
  let b := a.2.fresh
  let nonce := BitVec.ofNat 256 b.1
  let s := b.2
  let x := s.port n
  let k := { x.keys with offered := true, nonceTx := nonce, doneTx := false, doneRx := false, proofOk := false, ephTx := BitVec.ofNat 512 a.1 }
  (s.setPort n { x with keys := k }).linkOut n (.kxOffer (BitVec.ofNat 512 a.1) nonce)

/-- The Keying phase begins: flits run, the whole buffer is owed as credit, and the exchange starts (R321, R341, R455). -/
def State.startKeying (s : State) (n : Nat) : State :=
  let x := s.port n
  let s := s.setPort n { x with phase := 5, keys := {}, flitNo := 0, rxFlits := 0, txSeq := 0, rxAck := 0, unacked := [], credit := [],
                                owed := s.wholeBuffer n, gap := false, replays := 0 }
  (s.sendOffer n).linkOut n .kxCert

/-- The port goes Down with cause key agreement, and LINK_AUTH (R455). -/
def State.linkAuthFail (s : State) (n : Nat) : State :=
  (s.raiseAt 0x008 .crsLinkAuth { dom := 2, inst := n, kind := 7, items := [n] }).trainFailed n 7

/-- The port takes part in a key exchange: in Keying, or up with keys for a rekey. -/
def Port.keying (x : Port) : Bool := (x.st == 2 && x.phase == 5) || ((x.st == 3 || x.st == 5) && x.keys.valid)

/-- Once both offers, and in Keying the chain, are there, the proof goes out (R455). -/
def State.sendProof (s : State) (n : Nat) : State :=
  let k := (s.port n).keys
  if k.offered && k.gotOffer && (k.certOk || k.valid) then s.linkOut n .kxProof else s

/-- KX_OFFER: it joins the exchange or starts a rekey; equal nonces at equal serials restart the exchange (R455, R457). -/
def State.kxOffer (s : State) (n : Nat) (key : BitVec 512) (nonce : BitVec 256) : State :=
  let x := s.port n
  if !x.keying then s
  else if x.keys.offered && x.partnerSerial == ownSerial && x.keys.nonceTx == nonce then s.sendOffer n
  else
    let s := if x.keys.offered then s else s.sendOffer n
    let y := s.port n
    let s := s.setPort n { y with keys := { y.keys with gotOffer := true, nonceRx := nonce, ephRx := key } }
    s.sendProof n

/-- A chain is accepted (R456). -/
def chainOk (c : CertChain) (serial : BitVec 64) : Bool :=
  decide (c.certs ≤ 3) && decide (c.bytes ≤ 2048) && c.sigsOk && decide (c.rootDigest ∈ Config.lorlekRoots) && c.leafSerial == serial

/-- KX_CERT (R456). -/
def State.kxCert (s : State) (n : Nat) (c : CertChain) : State :=
  let x := s.port n
  if !(x.st == 2 && x.phase == 5) then s
  else if chainOk c x.partnerSerial then
    (s.setPort n { x with keys := { x.keys with certOk := true, peerKey := c.leafKey } }).sendProof n
  else s.linkAuthFail n

/-- KX_PROOF: a good one gives the keys, and KX_DONE goes out (R455). -/
def State.kxProof (s : State) (n : Nat) (ok : Bool) : State :=
  let x := s.port n
  if !(x.keying && x.keys.offered && x.keys.gotOffer) then s
  else if !ok then s.linkAuthFail n
  else
    let s := s.setPort n { x with keys := { x.keys with proofOk := true, doneTx := true } }
    s.linkOut n .kxDone

/-- This side of an exchange is the lower one: by serial number, and by nonce where those are equal (R455). -/
def Port.lower (x : Port) : Bool :=
  decide (ownSerial.toNat < x.partnerSerial.toNat) || (ownSerial == x.partnerSerial && decide (x.keys.nonceTx.toNat < x.keys.nonceRx.toNat))

/-- The 72 bytes that the shared secret, the nonces and the serial numbers give, the lower side first (R455, log 93). -/
def Port.keyBytes (x : Port) : List Nat :=
  let own := (bytesBE 32 x.keys.nonceTx.toNat, bytesLE 8 ownSerial.toNat)
  let peer := (bytesBE 32 x.keys.nonceRx.toNat, bytesLE 8 x.partnerSerial.toNat)
  let lo := if x.lower then own else peer
  let hi := if x.lower then peer else own
  kdf (bytesBE 32 (Config.ecdh x.keys.ephTx x.keys.ephRx).toNat) (ascii "ELVUC LINK") (lo.1 ++ hi.1 ++ lo.2 ++ hi.2) 72

/-- The keys and salts of both directions; the flit numbers of the keying, and the receiver's old key, are kept (R332, R455, R457). -/
def Port.newKeys (x : Port) : LinkKeys :=
  let k := x.keys
  let b := x.keyBytes
  let part (i n : Nat) : Nat := ofBytesBE ((b.drop i).take n)
  let up := (part 0 32, part 64 4)
  let dn := (part 32 32, part 68 4)
  let tx := if x.lower then up else dn
  let rx := if x.lower then dn else up
  { txKey := BitVec.ofNat 256 tx.1, rxKey := BitVec.ofNat 256 rx.1, txSalt := BitVec.ofNat 32 tx.2, rxSalt := BitVec.ofNat 32 rx.2,
    oldRx := if k.valid then some k.rxKey else none, oldSalt := k.rxSalt, valid := true, certOk := true, peerKey := k.peerKey,
    txBase := x.flitNo, rxBase := x.rxFlits }

/-- Both sides are done: new keys, Hello after Keying, a toggled key epoch after a rekey; the receiver keeps the old key until a flit
of the new epoch (R332, R455, R457, log 11). -/
def State.keysIn (s : State) (n : Nat) : State :=
  let x := s.port n
  if !(x.keys.doneTx && x.keys.doneRx) then s
  else
    if x.keys.valid then s.setPort n { x with keys := x.newKeys, kepochTx := !x.kepochTx }
    else (s.setPort n { x with keys := x.newKeys, phase := 6 }).sendHello n

/-- KX_DONE (R455, R457). -/
def State.kxDone (s : State) (n : Nat) : State :=
  let x := s.port n
  if !(x.keying && x.keys.proofOk) then s
  else (s.setPort n { x with keys := { x.keys with doneRx := true } }).keysIn n

/-- A rekey is due: an offer in DATA flits (R457). -/
def State.rekey (s : State) (n : Nat) : State :=
  let x := s.port n
  if (x.st == 3 || x.st == 5) && x.keys.valid && !x.keys.offered then s.sendOffer n else s

/-- Either direction has counted 2^36 flits since the last keying (R457). -/
def Port.worn (x : Port) : Bool := 2 ^ 36 ≤ x.flitNo - x.keys.txBase || 2 ^ 36 ≤ x.rxFlits - x.keys.rxBase

/-! ### Verify and the end of training (R321, R322, R348) -/

/-- A port becomes Active: LINK_UP, its fence ended, its neighbour known (R347, R349, R513). -/
def State.portActive (s : State) (n : Nat) : State :=
  let x := s.port n
  let s := s.setPort n { x with st := 3, phase := 0, exiting := false, backoff := 1, wait := false, cause := 0 }
  ((s.unfence 2 n).raiseAt (blockPage (n / 8)) .prtLinkUp { kind := 7, items := [n] }).linkChanged

/-- Verify ends: on to Keying, or back to full width from Trickle; a failure retries at the next lower rate, and at the lowest, or in
a Trickle exit, takes the port Down (R322, R348). -/
def State.verifyEnd (s : State) (n : Nat) (pass : Bool) : State :=
  let x := s.port n
  if !(x.st == 2 && x.phase == 4) then s
  else if x.exiting then
    if pass then
      let s := s.setPort n { x with st := 3, phase := 0, exiting := false, rate := x.savedRate, width := x.savedWidth }
      s.linkChanged.retryTransit
    else s.portDown n 4 false
  else if pass then s.startKeying n
  else if x.rate = 0 then s.trainFailed n 4
  else s.setPort n { x with phase := 3, eqDone := false, rate := x.rate - 1 }

/-- The training timeout: no partner when no block was seen, else training timeout (R326, R364). -/
def State.trainTimeout (s : State) (n : Nat) : State :=
  let x := s.port n
  if x.st == 2 && !x.exiting && x.phase != 5 then s.trainFailed n (if x.seen then 2 else 3) else s

/-- The wait after a training failure ends (R326). -/
def State.retryTraining (s : State) (n : Nat) : State :=
  let x := s.port n
  if x.wait then (s.setPort n { x with wait := false }).beginTraining n else s

/-- Selected ports go Down with cause software and train from Detect; a head acts as R408 states (R362, R513). -/
def State.retrain (s : State) (ports : List Nat) (cause : Nat) : State :=
  s.each ports (fun s n =>
    if s.isHeadPort n then (let h : Fin 64 := ⟨n / 8 % 64, Nat.mod_lt _ (by decide)⟩
      (s.fence 2 n).headDown h)
    else if s.elvucPort n then ((s.fence 2 n).portDown n cause false).beginTraining n
    else s)

/-- Every port of a block goes Down, and its head acts as R408 states (R513, R571). -/
def State.blockDown (s : State) (b cause : Nat) : State :=
  let s := s.each (List.range 8) (fun s j =>
    let n := 8 * b + j
    if 2 ≤ (s.port n).st.toNat then s.portDown n cause false else s.setPort n { s.port n with wait := false })
  if s.headExists b && 2 ≤ (s.head b).st.toNat then
    let s := s.headDown ⟨b % 64, Nat.mod_lt _ (by decide)⟩
    s.setHead b { s.head b with st := 1 }
  else s

/-! ### Cages (R23 to R25, R41, R323) -/

/-- What a cable descriptor says: breakout, rate, length, part code; none for an unidentified cable (R23). -/
def parseCable (b : List Byte) : Option (Byte × Byte × Byte × BitVec 16) :=
  let g (i : Nat) : Nat := (b.getD i 0).toNat
  let sum := (List.range 6).foldl (fun a i => a + g i) 0
  if 7 ≤ b.length && g 0 = 0x4b && g 6 = sum % 256 && g 1 ≤ 2 && g 2 ≤ 3 then
    some (BitVec.ofNat 8 (g 1), BitVec.ofNat 8 (g 2), BitVec.ofNat 8 (g 3), BitVec.ofNat 16 (g 4 + 256 * g 5))
  else none

/-- The bifurcation a breakout code implies (R323). -/
def impliedBif (breakout : Byte) : Nat := if breakout = 2 then 1 else 0

/-- A block takes the implied bifurcation, or BREAKOUT_MISMATCH is raised, before it trains (R323). -/
def State.applyBreakout (s : State) (c b : Nat) : State :=
  if !s.identified c then s else
  let br := impliedBif (s.cage c).breakout
  if b ∈ s.fxb.bifSet then
    if s.regFld (blockPage b) 0x100 0 2 = br then s else s.raiseAt 0x140 .prtcBreakoutMismatch { kind := 7, items := [8 * b] }
  else s.setRegFld (blockPage b) 0x100 0 2 br

/-- A port block starts training behind a settled cage: Elvuc ports at Detect, a head in its own training (R321, R406). -/
def State.startBlock (s : State) (b : Nat) : State :=
  if !s.blockRuns b || (s.cage (b / 8)).phase != 3 then s else
  let s := s.applyBreakout (b / 8) b
  let s := s.each (List.range 8) (fun s j => s.beginTraining (8 * b + j))
  if s.headExists b && (s.head b).st == 1 then s.setHead b { s.head b with st := 2 } else s

/-- The port blocks of a cage start training (R25). -/
def State.startCage (s : State) (c : Nat) : State := s.each ((List.range 8).map (fun i => 8 * c + i)) State.startBlock

/-- A cage settles with or without an identified cable; CABLE_UNID names an unidentified one (R24, R25). -/
def State.settleCage (s : State) (c : Nat) (x : Option (Byte × Byte × Byte × BitVec 16)) : State :=
  if (s.cage c).phase != 2 then s else
  match x with
  | some (br, rate, len, part) =>
    (s.setCage c { phase := 3, ident := true, breakout := br, rate := rate, len := len, part := part }).startCage c
  | none =>
    ((s.setCage c { phase := 3 }).raiseAt 0x140 .prtcCableUnid { kind := 7, items := [64 * c] }).startCage c

/-- Presence deasserts: link loss at once on every port of the cage; an insertion not yet settled is abandoned (R25). -/
def State.cageGone (s : State) (c : Nat) : State :=
  let ph := (s.cage c).phase
  let s := s.setCage c {}
  if ph != 3 then s else
  s.each ((List.range 8).map (fun i => 8 * c + i)) (fun s b => s.blockDown b 1)

/-! ### Flits (R328 to R336, R341) -/

/-- The next two credit returns of a port: channel, class, grains (R329). -/
def Port.returns (x : Port) : List (Nat × Nat) := ((x.owed.filter (fun e => e.2 != 0)).take 2).map (fun e => (e.1, min 255 e.2))

/-- The key of the flits this port sends now, none before keying (R330). -/
def Port.txFlitKey (x : Port) : Option FlitKey :=
  if x.keys.valid then some { key := x.keys.txKey, salt := x.keys.txSalt, number := x.flitNo } else none

/-- The flit number of a flit that arrives: the number of the last flit taken in order, moved by the distance of its SEQ (R330). -/
def Port.rxNumber (x : Port) (seq : BitVec 12) : Nat := ((x.rxFlits : Int) + (seq - x.rxAck).toInt).toNat

/-- The key of a flit that arrives: the old one for a flit of the old epoch while it is kept; none for a CLEAR flit and before keying
(R330, R332). -/
def Port.rxFlitKey (x : Port) (ftype : Nat) (f : Flit) : Option FlitKey :=
  if ftype = 3 || !x.keys.valid then none
  else
    match (if f.kepoch == x.kepochRx then x.keys.oldRx else none) with
    | some k => some { key := k, salt := x.keys.oldSalt, number := x.rxNumber f.seq }
    | none => some { key := x.keys.rxKey, salt := x.keys.rxSalt, number := x.rxNumber f.seq }

/-- The CRC of a flit that arrives holds (R331). -/
def Port.crcGood (x : Port) (ftype : Nat) (f : Flit) : Bool := f.crc == flitCrc f ftype (x.rxFlitKey ftype f)

/-- The tag of a flit that arrives on an encrypted link holds (R331). -/
def Port.tagGood (x : Port) (ftype : Nat) (f : Flit) : Bool :=
  !x.keys.valid || f.tag == flitTag f ftype (x.rxFlitKey ftype f)

/-- An IDLE or NAK flit leaves, with acknowledgement and credit returns (R329, R335, R341). -/
def State.sendIdle (s : State) (n : Nat) (nak : Bool) : State :=
  let x := s.port n
  let cr := x.returns
  let c1 := cr.getD 0 (0, 0)
  let c2 := cr.getD 1 (0, 0)
  let ftype := if nak then 2 else 0
  let f : Flit := { seq := x.txSeq, ack := x.rxAck, kepoch := x.kepochTx, vc1 := BitVec.ofNat 2 (c1.1 / 2), esc1 := decide (c1.1 % 2 = 1),
                    cnt1 := BitVec.ofNat 8 c1.2, vc2 := BitVec.ofNat 2 (c2.1 / 2), esc2 := decide (c2.1 % 2 = 1), cnt2 := BitVec.ofNat 8 c2.2,
                    first := 15, grains := [], keyxOnly := false, tag := 0, crc := 0 }
  let owed := cr.foldl (fun (t : Tab Nat) e => t.set 0 e.1 (t.get 0 e.1 - e.2)) x.owed
  (s.setPort n { x with owed := owed, sinceAck := 0 }).emit (.link (portFin n) (.flit (BitVec.ofNat 4 ftype) (sealFlit f ftype x.txFlitKey)))

/-- A flit is discarded: nothing is accepted until the gap closes, and one NAK goes at once (R334). -/
def State.discardFlit (s : State) (n : Nat) : State :=
  let x := s.port n
  if x.gap then s else (s.setPort n { x with gap := true }).sendIdle n true

/-- A security error: GCM_FAIL and its count; a second at one SEQ takes the port Down with cause key agreement (R331, R332). -/
def State.securityError (s : State) (n : Nat) (seq : Option (BitVec 12)) : State :=
  let s := (s.countUp (blockPage (n / 8)) 0x108 0 8).raiseAt (blockPage (n / 8)) .prtGcmFail { dom := 2, inst := n, kind := 7, items := [n] }
  match seq with
  | some q =>
    let x := s.port n
    if x.lastBadTag = some q then ((s.fence 2 n).portDown n 7 false).beginTraining n
    else (s.setPort n { x with lastBadTag := some q }).discardFlit n
  | none => s

/-- A flit fails its CRC: a link error (R331). -/
def State.crcError (s : State) (n : Nat) : State := (s.countUp (blockPage (n / 8)) 0x108 16 16).discardFlit n

/-- The acknowledgement of a header frees the flits it covers (R335). -/
def State.flitAck (s : State) (n : Nat) (ack : BitVec 12) : State :=
  let x := s.port n
  let left := x.unacked.filter (fun u => decide (2 ^ 11 ≤ (ack - u.1).toNat))
  if left.length = x.unacked.length then s else s.setPort n { x with unacked := left, replays := 0 }

/-- The credit returns of a header (R329, R341). -/
def State.flitCredit (s : State) (n : Nat) (f : Flit) : State :=
  let x := s.port n
  let key (vc : BitVec 2) (esc : Bool) : Nat := 2 * vc.toNat + if esc && vc != 3 then 1 else 0
  let c := x.credit.set 0 (key f.vc1 f.esc1) (x.credit.get 0 (key f.vc1 f.esc1) + f.cnt1.toNat)
  let c := c.set 0 (key f.vc2 f.esc2) (c.get 0 (key f.vc2 f.esc2) + f.cnt2.toNat)
  s.setPort n { x with credit := c }

/-- The header of a flit that passed its checks: what waited for credit goes on, and worn keys are renewed (R457). -/
def State.flitHeader (s : State) (n : Nat) (f : Flit) : State :=
  let s := if (s.port n).worn then s.rekey n else s
  (((s.flitAck n f.ack).flitCredit n f).linkRetry n).retryTransit

/-- A port receives flits: in Keying and Hello, Active, Isolated, Trickle or leaving it. -/
def Port.flits (x : Port) : Bool := x.st == 3 || x.st == 4 || x.st == 5 || x.exiting || (x.st == 2 && decide (5 ≤ x.phase))

/-- A flit in order: acknowledged, the gap closed, and the old key erased once the new epoch has come (R332, R334). -/
def State.takeFlit (s : State) (n : Nat) (f : Flit) : State :=
  let x := s.port n
  if f.seq != x.rxAck + 1 then
    (if (f.seq - x.rxAck).toNat < 2 ^ 11 && f.seq != x.rxAck then s.discardFlit n else s)
  else
    let keys := if f.kepoch != x.kepochRx then { x.keys with oldRx := none } else x.keys
    (s.setPort n { x with rxAck := f.seq, rxFlits := x.rxFlits + 1, gap := false, lastBadTag := none, sinceAck := x.sinceAck + 1, kepochRx := f.kepoch, keys := keys }).flitHeader n f

/-- DATA_FLIT (R331, R334). -/
def State.dataFlit (s : State) (n : Nat) (f : Flit) : State :=
  let x := s.port n
  if !x.flits || x.phase == 5 then s
  else if !x.crcGood 1 f then s.crcError n
  else if !x.tagGood 1 f then s.securityError n (some f.seq)
  else s.takeFlit n f

/-- IDLE_FLIT: acknowledgement and credit (R329, R331). -/
def State.idleFlit (s : State) (n : Nat) (f : Flit) : State :=
  let x := s.port n
  if !x.flits then s
  else if !x.crcGood 0 f then s.crcError n
  else if !x.tagGood 0 f then s.securityError n (some f.seq)
  else s.flitHeader n f

/-- CLEAR_FLIT: KEYX messages during Keying; otherwise discarded as a security error (R332). -/
def State.clearFlit (s : State) (n : Nat) (f : Flit) : State :=
  let x := s.port n
  if !x.flits then s
  else if !x.crcGood 3 f then s.crcError n
  else if x.st == 2 && x.phase == 5 && f.keyxOnly then s.takeFlit n f
  else (s.securityError n none).discardFlit n

/-- Every unacknowledged flit is sent again, in order; after PRT_LINK.RECOV replays without progress the port enters Recovery
(R334 to R336). -/
def State.replay (s : State) (n : Nat) : State :=
  let x := s.port n
  if x.unacked.isEmpty then s else
  let k := x.replays + 1
  if s.regFld 0x140 0x108 16 8 < k then
    let s := s.setPort n { x with st := 6, replays := 0 }
    (s.countUp (blockPage (n / 8)) 0x108 8 8).raiseAt (blockPage (n / 8)) .prtRecovery { dom := 2, inst := n, kind := 7, items := [n] }
  else
    let s := s.setPort n { x with replays := k }
    s.each x.unacked (fun s u => s.emit (u.2.out n))

/-- NAK_FLIT (R334). -/
def State.nakFlit (s : State) (n : Nat) (f : Flit) : State :=
  let x := s.port n
  if !x.flits then s
  else if !x.crcGood 2 f then s.crcError n
  else if !x.tagGood 2 f then s.securityError n (some f.seq)
  else (s.flitHeader n f).replay n

/-- The replay timer: a NAK is repeated while a gap lasts, and unacknowledged flits are replayed (R334, R335). -/
def State.replayTimer (s : State) (n : Nat) : State :=
  let x := s.port n
  if !x.flits then s
  else (if x.gap then s.sendIdle n true else s).replay n

/-- An IDLE flit is due (R335). -/
def State.ackIdle (s : State) (n : Nat) : State := if (s.port n).flits then s.sendIdle n false else s

/-- Recovery ends: a replay from the oldest flit, or Down with cause Recovery failed (R336). -/
def State.recoveryEnd (s : State) (n : Nat) (ok : Bool) : State :=
  let x := s.port n
  if x.st != 6 then s
  else if ok then (s.setPort n { x with st := 3 }).replay n |>.retryTransit
  else (s.portDown n 5 false).beginTraining n

/-- Alignment is lost for PRT_LINK.LOSS (R336). -/
def State.alignmentLoss (s : State) (n : Nat) : State :=
  let x := s.port n
  if x.flits || x.st == 6 then (s.portDown n 6 false).beginTraining n else s

/-! ### Trickle (R348) -/

/-- A port moves to lane 0 at 10 Gbit/s (R348). -/
def State.enterTrickle (s : State) (n : Nat) : State :=
  let x := s.port n
  (s.setPort n { x with st := 5, trickleAsked := false, savedRate := x.rate, savedWidth := x.width, rate := 0, width := 1 }).linkChanged

/-- REQ, RSP or BLK messages wait for a port. -/
def State.queuedFor (s : State) (n : Nat) : Bool :=
  s.fxb.transit.any (fun e => e.2.vc != 3 && decide (n ∈ (s.fxb.routes.get {} e.1.dst.toNat).next))

/-- LINK_TRICKLE: a request is accepted unless messages wait for the port; a request against one's own counts as an accept (R348). -/
def State.trickleIn (s : State) (n : Nat) (accept : Bool) : State :=
  let x := s.port n
  if x.st != 3 then s
  else if accept || x.trickleAsked then (if x.trickleAsked then s.enterTrickle n else s)
  else if s.queuedFor n then s
  else (s.linkOut n (.trickle true)).enterTrickle n

/-- Ask the partner for Trickle (R348). -/
def State.askTrickle (s : State) (n : Nat) : State :=
  let x := s.port n
  if x.st != 3 || x.trickleAsked then s
  else (s.setPort n { x with trickleAsked := true }).linkOut n (.trickle false)

/-- The Trickle idle time has passed; with TRK_IDLE 0, Trickle is for Deep Idle alone (R348, R362). -/
def State.trickleIdle (s : State) (n : Nat) : State :=
  if s.regFld 0x140 0x108 0 8 = 0 && s.pwr.st != 5 then s else s.askTrickle n

/-- LINK_WAKE: both sides train from Equalise, and messages flow meanwhile (R348). -/
def State.wakeIn (s : State) (n : Nat) : State :=
  let x := s.port n
  if x.st == 5 then s.setPort n { x with st := 2, phase := 3, exiting := true, eqDone := false } else s

/-- A port leaves Trickle of its own accord, as when the module leaves Deep Idle (R348). -/
def State.leaveTrickle (s : State) (n : Nat) : State :=
  let x := s.port n
  if x.st == 5 then (s.setPort n { x with st := 2, phase := 3, exiting := true, eqDone := false }).linkWake n else s

/-- The Trickle exit has not trained in 60 µs (R348, R364). -/
def State.trickleExitTimeout (s : State) (n : Nat) : State :=
  if (s.port n).exiting then (s.portDown n 2 false).beginTraining n else s

/-! ### HELLO (R327, R349, R455) -/

/-- HELLO completes the Hello phase; it makes the port Isolated or Active as R327 and R349 state. -/
def State.helloIn (s : State) (n : Nat) (x : Hello) : State :=
  let p := s.port n
  if !(p.st == 3 || p.st == 4 || p.st == 5 || p.exiting || (p.st == 2 && p.phase == 6)) then s
  else if p.keys.valid && p.partnerSerial != x.serial then s.linkAuthFail n
  else
    let own := x.serial == ownSerial
    let p := { p with partnerDev := x.dev, partnerConf := x.conf, partnerSerial := x.serial }
    if own || x.fabid != s.reg 0x180 0x114 then
      let s' := s.setPort n { p with st := 4, phase := 0, exiting := false, cause := if own then 10 else 9 }
      if p.st == 4 then s' else
        let s' := s'.raiseAt (blockPage (n / 8)) .prtFabidMismatch { kind := 7, items := [n] }
        if p.st == 2 && p.phase == 6 then s' else s'.linkChanged
    else
      let changed := p.partnerDev != (s.port n).partnerDev || p.partnerConf != (s.port n).partnerConf
      let s := s.setPort n p
      if p.st == 4 || (p.st == 2 && p.phase == 6) then s.portActive n
      else if changed then s.linkChanged else s

end Sys2Proof.Machine
end

