-- ==== Sys2Proof/Machine/LinkCmds.lean ====
section
/-! DEFINITION. The commands of the cages, of the Elvuc links and of discovery, and the arrival of requests and responses (R18 to
R25, R321 to R362, R455 to R457, R564). -/

namespace Sys2Proof.Machine

open Sys2Proof

/-! ### Cages (R23 to R25, R41) -/

def execCagePresenceAssert (cage : Fin 8) (s : State) : Host.Outcome State Fault Refusal :=
  .next (if (s.cage cage.val).phase = 0 then s.setCage cage.val { s.cage cage.val with phase := 1 } else s)

def execCagePresenceDebounceExpiry (cage : Fin 8) (s : State) : Host.Outcome State Fault Refusal :=
  .next (if (s.cage cage.val).phase = 1 then s.setCage cage.val { s.cage cage.val with phase := 2 } else s)

def execCableIdentityReadDone (cage : Fin 8) (bytes : List Byte) (s : State) : Host.Outcome State Fault Refusal :=
  .next (s.withPins (fun s => s.settleCage cage.val (parseCable bytes)))

def execCableIdentityReadTimeout (cage : Fin 8) (s : State) : Host.Outcome State Fault Refusal :=
  .next (s.withPins (fun s => s.settleCage cage.val none))

def execCagePresenceDeassert (cage : Fin 8) (s : State) : Host.Outcome State Fault Refusal :=
  .next (s.withPins (fun s => s.cageGone cage.val))

/-! ### Training (R321 to R326) -/

def execElvucTrainStart (port : Fin 512) (s : State) : Host.Outcome State Fault Refusal := .next (s.beginTraining port.val)

def execReceiverDetectionDone (port : Fin 512) (lanes : BitVec 8) (s : State) : Host.Outcome State Fault Refusal :=
  .next (s.detected port.val lanes)

def execTs1 (port : Fin 512) (b : TrainBlock) (s : State) : Host.Outcome State Fault Refusal :=
  .next (s.withPins (fun s => s.trainBlock port.val 1 b))

def execTs2 (port : Fin 512) (b : TrainBlock) (s : State) : Host.Outcome State Fault Refusal :=
  .next (s.withPins (fun s => s.trainBlock port.val 2 b))

def execEqualisationRequest (port : Fin 512) (preset : BitVec 4) (s : State) : Host.Outcome State Fault Refusal :=
  .next (s.withPins (fun s => s.eqRequest port.val preset))

def execEqualisationDone (port : Fin 512) (s : State) : Host.Outcome State Fault Refusal :=
  .next (s.withPins (fun s => s.eqDone port.val))

def execVerifyEnd (port : Fin 512) (pass : Bool) (s : State) : Host.Outcome State Fault Refusal :=
  .next (s.withPins (fun s => s.verifyEnd port.val pass))

def execTrainingTimeout (port : Fin 512) (s : State) : Host.Outcome State Fault Refusal :=
  .next (s.withPins (fun s => s.trainTimeout port.val))

def execTrainingRetryExpiry (port : Fin 512) (s : State) : Host.Outcome State Fault Refusal := .next (s.retryTraining port.val)

/-! ### Flits (R328 to R336) -/

def execDataFlit (port : Fin 512) (f : Flit) (s : State) : Host.Outcome State Fault Refusal :=
  .next (s.withPins (fun s => s.dataFlit port.val f))

def execIdleFlit (port : Fin 512) (f : Flit) (s : State) : Host.Outcome State Fault Refusal :=
  .next (s.withPins (fun s => s.idleFlit port.val f))

def execNakFlit (port : Fin 512) (f : Flit) (s : State) : Host.Outcome State Fault Refusal :=
  .next (s.withPins (fun s => s.nakFlit port.val f))

def execClearFlit (port : Fin 512) (f : Flit) (s : State) : Host.Outcome State Fault Refusal :=
  .next (s.withPins (fun s => s.clearFlit port.val f))

def execReplayTimerExpiry (port : Fin 512) (s : State) : Host.Outcome State Fault Refusal :=
  .next (s.withPins (fun s => s.replayTimer port.val))

def execAckIdleDue (port : Fin 512) (s : State) : Host.Outcome State Fault Refusal := .next (s.ackIdle port.val)

def execRecoveryEnd (port : Fin 512) (ok : Bool) (s : State) : Host.Outcome State Fault Refusal :=
  .next (s.withPins (fun s => s.recoveryEnd port.val ok))

def execAlignmentLoss (port : Fin 512) (s : State) : Host.Outcome State Fault Refusal :=
  .next (s.withPins (fun s => s.alignmentLoss port.val))

/-! ### Link-local messages (R338, R341, R348, R349) -/

/-- A link-local message arrives at a port that takes flits: its grains are owed back, and it is handled (R341). -/
def State.mgtIn (s : State) (n : Nat) (m : LinkMsg) (f : State → State) : State :=
  let x := s.port n
  if x.flits then f (s.setPort n { x with owed := x.owed.set 0 6 (x.owed.get 0 6 + linkLen m) }) else s

def execLinkTrickle (port : Fin 512) (accept : Bool) (s : State) : Host.Outcome State Fault Refusal :=
  .next (s.withPins (fun s => s.mgtIn port.val (.trickle accept) (fun s => s.trickleIn port.val accept)))

def execLinkWake (port : Fin 512) (s : State) : Host.Outcome State Fault Refusal :=
  .next (s.mgtIn port.val .wake (fun s => s.wakeIn port.val))

def execTrickleIdleExpiry (port : Fin 512) (s : State) : Host.Outcome State Fault Refusal := .next (s.trickleIdle port.val)

def execTrickleExitTimeout (port : Fin 512) (s : State) : Host.Outcome State Fault Refusal :=
  .next (s.withPins (fun s => s.trickleExitTimeout port.val))

def execKxOffer (port : Fin 512) (key : BitVec 512) (nonce : BitVec 256) (s : State) : Host.Outcome State Fault Refusal :=
  .next (s.mgtIn port.val (.kxOffer key nonce) (fun s => s.kxOffer port.val key nonce))

def execKxCert (port : Fin 512) (c : CertChain) (s : State) : Host.Outcome State Fault Refusal :=
  .next (s.withPins (fun s => s.mgtIn port.val .kxCert (fun s => s.kxCert port.val c)))

def execKxProof (port : Fin 512) (ok : Bool) (s : State) : Host.Outcome State Fault Refusal :=
  .next (s.withPins (fun s => s.mgtIn port.val .kxProof (fun s => s.kxProof port.val ok)))

def execKxDone (port : Fin 512) (s : State) : Host.Outcome State Fault Refusal :=
  .next (s.withPins (fun s => s.mgtIn port.val .kxDone (fun s => s.kxDone port.val)))

/-- LINK_AUTH: the key agreement of a port fails or does not end within its time (R455). -/
def execLinkAuth (port : Fin 512) (s : State) : Host.Outcome State Fault Refusal :=
  .next (s.withPins (fun s => if (s.port port.val).keying then s.linkAuthFail port.val else s))

def execRekeyIntervalExpiry (port : Fin 512) (s : State) : Host.Outcome State Fault Refusal := .next (s.rekey port.val)

/-! ### Discovery (R349 to R358) -/

/-- A module's instance as HELLO or LSA shows it: a new one restarts the pair's sequences, and the custodian drops the module's
binding records (R346, R374). -/
def State.instanceSeen (s : State) (dev : Dev) (inst : BitVec 24) : State :=
  if dev = 0 || dev = s.fxb.devnum || (s.pair dev.toNat).inst = inst then s
  else
    let s := s.resetPair dev inst
    if s.fxb.role = 1 then { s with sve := { s.sve with binds := s.sve.binds.filter (fun (b : Binding) => b.dev != dev) } } else s

/-- HELLO (R327, R346, R349). -/
def State.hello (s : State) (n : Nat) (x : Hello) : State :=
  let s := s.helloIn n x
  if (s.port n).st = 4 || !x.conf then s else s.instanceSeen x.dev x.inst

def execHello (port : Fin 512) (x : Hello) (s : State) : Host.Outcome State Fault Refusal :=
  .next (s.withPins (fun s => s.mgtIn port.val (.hello x) (fun s => s.hello port.val x)))

/-- LSA: this module's own with a higher sequence makes it originate again; a new fragment is stored, flooded on outside the safe
state, and counted as a change of topology (R351, R353, R355, R396, R518, R564). -/
def State.lsaIn (s : State) (port : Nat) (x : LsaFrag) : State :=
  if x.serial = ownSerial then
    if x.inst = s.instance_ && s.fxb.lsaSeq.toNat < x.seq.toNat then ({ s with fxb := { s.fxb with lsaSeq := x.seq } }).originate else s
  else if !s.lsaNew x then s
  else
    let s := if x.throttled then s.raiseAt 0x003 .thmPeerThrot { kind := 6, items := [x.dev.toNat] } else s
    let s := s.devConflict x
    let s := s.storeLsa x
    let s := if x.conf then s.instanceSeen x.dev x.inst else s
    let s := if x.role = 1 then s.renewLease else s
    let s := if s.safe then s else s.floodLink (some port) (.lsa x)
    s.dbChanged

def execLsa (port : Fin 512) (x : LsaFrag) (s : State) : Host.Outcome State Fault Refusal :=
  .next (s.withPins (fun s => s.mgtIn port.val (.lsa x) (fun s => if (s.port port.val).carries then s.lsaIn port.val x else s)))

def execDevReq (port : Fin 512) (serial : BitVec 64) (inst : BitVec 24) (wanted : Dev) (s : State) : Host.Outcome State Fault Refusal :=
  .next (s.mgtIn port.val (.devReq serial inst wanted) (fun s => s.devReqIn port.val serial inst wanted))

def execDevGrant (port : Fin 512) (serial : BitVec 64) (dev : Dev) (cust : BitVec 52) (s : State) : Host.Outcome State Fault Refusal :=
  .next (s.mgtIn port.val (.devGrant serial dev cust) (fun s => s.devGrantIn port.val serial dev cust))

def execTree (port : Fin 512) (root : BitVec 64) (epoch : BitVec 16) (s : State) : Host.Outcome State Fault Refusal :=
  .next (s.withPins (fun s => s.mgtIn port.val (.tree root epoch) (fun s => s.treeIn port.val root epoch)))

/-- The refresh interval: HELLO on each port past training, the LSA, and a tree epoch that is due (R349, R350, R358). -/
def State.refresh (s : State) : State :=
  let ports := (s.ports.filter (fun (e : Nat × Port) => e.2.flits && e.2.phase != 5)).map Prod.fst
  let s := s.each ports (fun s n => s.sendHello n)
  (({ s with fxb := { s.fxb with flooded := [] } }).originate).tendTree

def execRefreshInterval (s : State) : Host.Outcome State Fault Refusal := .next (if s.up then s.refresh else s)

def execDevReqRepeat (s : State) : Host.Outcome State Fault Refusal := .next (if s.up then s.devReqRepeat else s)

def execRouteHolddownExpiry (s : State) : Host.Outcome State Fault Refusal := .next (s.withPins State.recomputeRoutes)

/-- No message of the old parity has passed for 100 µs: the old escape ports are discarded (R358). -/
def execOldEscapeExpiry (s : State) : Host.Outcome State Fault Refusal :=
  .next ({ s with fxb := { s.fxb with oldEsc := [] } })

/-- A committed fabric ID takes every Elvuc port of the module to Detect (R362). -/
def execFxbFabidCommit (s : State) : Host.Outcome State Fault Refusal :=
  .next (s.withPins (fun s =>
    let ports := (s.ports.filter (fun (e : Nat × Port) => e.2.st != 0)).map Prod.fst
    if (s.shadow.find (regAddr 0x180 0x114)).isNone || 0x180 ∉ s.pages.committing then s
    else if s.shadowReg 0x180 0x114 == s.reg 0x180 0x114 then s.commitShadow 0x180 0x114
    else (s.commitShadow 0x180 0x114).retrain (ports.filter s.elvucPort) 9))

/-! ### Requests and responses of peers (R143, R338 to R346) -/

def execRd (m : Routing) (fga : Fga) (s : State) : Host.Outcome State Fault Refusal :=
  .next (s.withPins (fun s => s.msgIn m (.rd (fgaLine fga)) (fun s => s.acceptReq m (.rd (fgaLine fga)))))

def execWr (m : Routing) (fga : Fga) (mask : BitVec 64) (data : Line) (s : State) : Host.Outcome State Fault Refusal :=
  .next (s.withPins (fun s => s.msgIn m (.wr (fgaLine fga) mask data) (fun s => s.acceptReq m (.wr (fgaLine fga) mask data))))

def execAtom (m : Routing) (fga : Fga) (op : BitVec 4) (size : BitVec 2) (a b : BitVec 128) (s : State) :
    Host.Outcome State Fault Refusal :=
  .next (s.withPins (fun s => s.msgIn m (.atom fga op size a b) (fun s => s.acceptReq m (.atom fga op size a b))))

def execBarrier (m : Routing) (kind : BitVec 2) (s : State) : Host.Outcome State Fault Refusal :=
  .next (s.withPins (fun s => s.msgIn m (.barrier kind) (fun s => s.acceptReq m (.barrier kind))))

def execGpf (m : Routing) (s : State) : Host.Outcome State Fault Refusal :=
  .next (s.withPins (fun s => s.msgIn m .gpf (fun s => s.acceptReq m .gpf)))

def execRdData (m : Routing) (data : Line) (poison : Bool) (s : State) : Host.Outcome State Fault Refusal :=
  .next (s.withPins (fun s => s.rspIn m (.rdData data poison) (fun s => s.rdData m data poison)))

def execWrStat (m : Routing) (point : BitVec 2) (later : Bool) (s : State) : Host.Outcome State Fault Refusal :=
  .next (s.withPins (fun s => s.rspIn m (.wrStat point later) (fun s => s.wrStatus m point.toNat later)))

def execAtomData (m : Routing) (old : BitVec 128) (s : State) : Host.Outcome State Fault Refusal :=
  .next (s.withPins (fun s => s.rspIn m (.atomData old) (fun s => s.atomData m old)))

def execBarrierDone (m : Routing) (s : State) : Host.Outcome State Fault Refusal :=
  .next (s.withPins (fun s => s.rspIn m .barrierDone (fun s => s.barrierDoneRsp m)))

def execGpfDone (m : Routing) (s : State) : Host.Outcome State Fault Refusal :=
  .next (s.withPins (fun s => s.rspIn m .gpfDone (fun s => s.gpfDoneRsp m)))

def execRetry (m : Routing) (s : State) : Host.Outcome State Fault Refusal :=
  .next (s.withPins (fun s => s.msgIn m .retry (fun s => s.retryRsp m)))

def execEsqAck (m : Routing) (s : State) : Host.Outcome State Fault Refusal :=
  .next (s.withPins (fun s => s.msgIn m .esqAck (fun s => s.ackReqs m.src m.esq)))

/-- 1 µs without a RSP to a source: ESQ_ACK (R345). -/
def execEsqAckDue (dev : Dev) (s : State) : Host.Outcome State Fault Refusal :=
  .next (if (s.pair dev.toNat).ackDue then s.sendRsp dev 0 0 0 0 .esqAck else s)

/-- No acknowledgement progress for FXB_TMO.RESEND: the REQs go out again from the oldest (R345). -/
def execE2eResendExpiry (dev : Dev) (s : State) : Host.Outcome State Fault Refusal :=
  .next (s.withPins (fun s => s.resendReqs dev))

end Sys2Proof.Machine
end

