-- ==== Sys2Proof/Machine/Segments.lean ====
section
/-! DEFINITION. Local segments at this module: their records, what enters Free, preparing an owner, a target or a holder, the copies
that run from and to this module, Switch and Drain, and the mirror stream (R84, R87 to R90, R93, R96, R312, R313, R371 to R393). -/

namespace Sys2Proof.Machine

open Sys2Proof

/-! ### Records (R371) and Free (R89) -/

/-- The SEGMENT entry of a record (R260). -/
def segEntry (lsi : Nat) (g : Seg) : JEntry :=
  { type := 0x0c, arg := g.region, x := BitVec.ofNat 64 (lsi + g.st.toNat * 2 ^ 16), y := BitVec.ofNat 64 g.allocWsn, z := g.gsn.setWidth 32 }

/-- Write a segment's record; an uncommitted move of the segment is dropped (R96, R371). -/
def State.changeSeg (s : State) (lsi : Nat) (g : Seg) : State :=
  let s := (s.setSeg lsi g).journal (segEntry lsi g)
  if (s.mte.shSegRgn.find lsi).isSome then
    ({ s with mte := { s.mte with shSegRgn := s.mte.shSegRgn.del lsi } }).raise 0x030 .mteShadowDrop
  else s

/-- A journal entry has become durable. -/
def State.recDurable (s : State) (e : JEntry) : Bool := !(s.mte.jbuf ++ s.mte.jprog).any (fun x => x == e)

/-- Answer the custodian or a peer with GST_RSP once a record is durable (R371). -/
def State.answerDurable (s : State) (lsi : Nat) (dst : Dev) (gsn : Gsn) (xinfo : BitVec 16) : State :=
  { s with sve := { s.sve with recWaits := s.sve.recWaits ++ [⟨segEntry lsi (s.seg lsi), dst, stOk, xinfo, gsn⟩] } }

/-- Answers whose records have become durable go out (R371). -/
def State.recAcks (s : State) : State :=
  let l := s.sve.recWaits.filter (fun w => s.recDurable w.entry)
  let s := { s with sve := { s.sve with recWaits := s.sve.recWaits.filter (fun w => !s.recDurable w.entry) } }
  s.each l (fun s w => s.sendPlain w.dst 0 0 w.status w.xinfo (.gstRsp w.gsn s.fxb.devnum 0))

/-- The invalidation that covers a segment (R97, R121, R380). -/
def segRange (gsn : Nat) : InvReq := .range (BitVec.ofNat 44 (gsn * segPages)) (BitVec.ofNat 32 segPages)

/-- Insert a number in rising order. -/
def insertNat (a : Nat) : List Nat → List Nat
  | [] => [a]
  | b :: t => if a < b then a :: b :: t else b :: insertNat a t

/-- The ranges (first, count) from `a` to `b` between the numbers of a rising list. -/
def gapsFrom (a b : Nat) : List Nat → List (Nat × Nat)
  | [] => if a < b then [(a, b - a)] else []
  | k :: t => (if a < k then [(a, k - a)] else []) ++ gapsFrom (k + 1) b t

/-- The ranges of a segment's LMPs, the first of them given, that hold none of some LMPs. -/
def lmpGaps (no : List Nat) (first : Nat) : List (Nat × Nat) := gapsFrom first (first + segPages) (no.foldl (fun l k => insertNat k l) [])

/-- An UNMAP entry of a range of LMPs, with a WSN of its own (R249, R250, R260). -/
def State.unmapRange (s : State) (first count : Nat) : State :=
  let mine := (s.mte.map.keys.filter (fun k => decide (first ≤ k) && decide (k < first + count))).map (BitVec.ofNat 32)
  let (w, s) := s.takeWsn
  let s := s.journal { type := 0x03, arg := 0, x := BitVec.ofNat 64 (first + count * 2 ^ 32), y := BitVec.ofNat 64 w, z := 0 }
  s.each mine (fun s l =>
    let s := s.supersede l w
    s.setEntry l { s.entry l with st := 0, relgen := 0, ppa := 0 })

/-- Unmap every LMP of a segment, under one UNMAP entry where no page of it is in flight; LMPs with a page in flight follow when it has
landed (R89, R249). -/
def State.unmapSegment (s : State) (lsi : Nat) : State :=
  let flying := (s.mte.stripes.flatMap Stripe.pages ++ s.mte.jwait.map Prod.fst ++ s.mte.gather).filter
    (fun p => p.tag.type == 1 && decide (lmpLsi p.tag.lmp = lsi))
  let late := (flying.map (fun p => p.tag.lmp)).foldl insertNew []
  let s := s.each (lmpGaps (late.map BitVec.toNat) (lsi * segPages)) (fun s r => s.unmapRange r.1 r.2)
  let s := { s with mte := { s.mte with unmapWsn := s.mte.unmapWsn.filter (fun e => e.1 / segPages != lsi) } }
  s.each late (fun s l => s.unmap l false)

/-- A local segment enters Free: its lines leave the merge stores, the staging area and the line cache, and it is unmapped (R88,
R89). -/
def State.freeSeg (s : State) (lsi : Nat) : State :=
  let g := s.seg lsi
  if g.st = 0 then s else
  let s := s.discardSegs [lsi]
  let s := s.sweepAll (segRange g.gsn.toNat)
  let s := s.freeSegs [lsi]
  let s := s.unmapSegment lsi
  let s := { s with sve := { s.sve with ops := s.sve.ops.filter (fun (e : Nat × BulkOp) => e.2.gsn != g.gsn),
                                        copyIn := s.sve.copyIn.filter (fun e => e.2.1 / segPages != g.gsn.toNat) } }
  (s.changeSeg lsi {}).rwCheck

/-- Discard one page held here, or make it poison: its lines leave the merge stores, the line cache and the staging area, and the LMP
is unmapped (R99 to R102, R378). -/
def State.discardPage (s : State) (gsn page : Nat) (poison : Bool) : State :=
  match s.lsiOf gsn with
  | none => s
  | some lsi =>
    let l : Lmp := BitVec.ofNat 32 (lsi * segPages + page)
    let p := gsn * segPages + page
    let s := s.each (List.range 8) (fun s n =>
      let x := s.slice n
      let gone := x.merge.filter (fun m => pageOf m.line == p)
      let s := s.setSlice n { x with merge := x.merge.filter (fun m => pageOf m.line != p) }
      s.answerAll (gone.flatMap MergeEntry.waits) 2)
    let s := s.sweepAll (.range (BitVec.ofNat 44 p) 1)
    let waits := s.dtc.waiting.filter (fun w => pageOf w.line == p)
    let s := { s with dtc := { s.dtc with waiting := s.dtc.waiting.filter (fun w => pageOf w.line != p) } }
    let s := s.answerAll (waits.flatMap DtcWait.waits) 2
    let s := match s.frameOf l with
      | some (n, f) =>
        let ws := f.waits ++ f.held.flatMap (fun (h : Nat × SLine × List Waiting) => h.2.2)
        if f.st = 4 || f.st = 6 then (s.setFrame n { f with st := 4, held := [], waits := [] }).answerAll ws 2
        else
          ((s.forgetPages (fun x => x == l)).dropFrame n).answerAll ws 2
      | none => s
    (if (s.entry l).st = 0 && !s.inFlight l && !poison then s else s.unmap l poison).gpfChecks

/-! ### Bulk operations (R376, R402) -/

/-- The operation slot of a segment, outgoing (kinds 0 and 2) or incoming (1 and 3). -/
def State.outOp (s : State) (gsn : Nat) : Option (Nat × BulkOp) :=
  s.sve.ops.find? (fun (e : Nat × BulkOp) => (e.2.kind = 0 || e.2.kind = 2) && decide (e.2.gsn.toNat = gsn))

/-- The incoming operation of a segment. -/
def State.inOp (s : State) (gsn : Nat) : Option (Nat × BulkOp) :=
  s.sve.ops.find? (fun (e : Nat × BulkOp) => (e.2.kind = 1 || e.2.kind = 3) && decide (e.2.gsn.toNat = gsn))

/-- Store an operation. -/
def State.setOp (s : State) (k : Nat) (o : BulkOp) : State := { s with sve := { s.sve with ops := s.sve.ops.put k o } }

/-- An operation slot is freed. -/
def State.dropOp (s : State) (k : Nat) : State := { s with sve := { s.sve with ops := s.sve.ops.del k } }

/-- A free slot of 16, from slot `base` (R376). -/
def State.freeOp (s : State) (base : Nat) : Option Nat :=
  let k := s.sve.ops.firstFree 16 base
  if k < base + 16 then some k else none

/-- A new operation. -/
def newOp (kind phase : Nat) (peer : Dev) (gsn : Gsn) : BulkOp :=
  { kind := kind, phase := phase, pass := 0, peer := peer, gsn := gsn, dirty := [], sent := [], asked := false, ready := false, tries := 0 }

/-! ### Preparing (R84, R88, R93, R96, R373, R377, R386) -/

/-- The lowest free LSI, none of whose LMPs still waits to be unmapped; 12,288 when there is none (R87, R89, R249). -/
def State.freeLsi (s : State) : Nat :=
  let t := s.mte.unmapWait.foldl (fun (t : Tab Seg) e => let i := lmpLsi e.1; if (t.find i).isSome then t else t.put i {}) s.mte.segs
  t.firstFree 12288 0

/-- The checks before a free LSI is taken for a segment. DESIGN CHOICE: STATE for an uncommitted key-range shadow, which R96 names for an
allocation, goes to a migration's Prepare and to a mirror holder's too (R96, log 86). -/
def State.prepareStatus (s : State) (gsn region : Nat) : Status :=
  let shadow := s.mte.shAttr0.find region
  if (s.lsiOf gsn).isSome then stState
  else if shadow.any (fun w => fld w 8 6 != (s.region region).keyRange) then stState
  else if (s.region region).keyRange != s.keyRangeOf gsn then stRange
  else if 12288 ≤ s.freeLsi || !s.pinRoom gsn then stNoResource
  else stOk

/-- Answer at once, with a refusal. -/
def State.refusePrep (s : State) (dst : Dev) (gsn : Gsn) (st : Status) : State := s.sendPlain dst 0 0 st 0 (.gstRsp gsn s.fxb.devnum 0)

/-- The owner of an allocation takes a free LSI; its answer says whether the region is Volatile (bit 0) and mirrored (bit 1) (R373). -/
def State.prepareOwner (s : State) (dst : Dev) (g : GstReq) : State :=
  let r := g.region.toNat
  match s.prepareStatus g.gsn.toNat r with
  | 0 =>
    let i := s.freeLsi
    let seg : Seg := { st := 1, gsn := g.gsn, region := g.region, epoch := (s.row g.gsn.toNat).epoch + 1, mmode := 0, partner := 0,
                       tentative := false, allocWsn := s.mte.nextWsn }
    let info := (if (s.region r).persist = 0 then 1 else 0) + (if (s.region r).mirror = 0 then 0 else 2)
    (s.changeSeg i seg).answerDurable i dst g.gsn (BitVec.ofNat 16 info)
  | st => s.refusePrep dst g.gsn st

/-- The target of a migration takes a free LSI to Incoming (R377). -/
def State.prepareTarget (s : State) (dst : Dev) (g : GstReq) : State :=
  match s.prepareStatus g.gsn.toNat g.region.toNat, s.freeOp 16 with
  | 0, some k =>
    let i := s.freeLsi
    let seg : Seg := { st := 2, gsn := g.gsn, region := g.region, epoch := (s.row g.gsn.toNat).epoch, mmode := 0, partner := g.devA,
                       tentative := false, allocWsn := s.mte.nextWsn }
    ((s.changeSeg i seg).setOp k (newOp 1 0 g.devA g.gsn)).answerDurable i dst g.gsn 0
  | 0, none => s.refusePrep dst g.gsn stNoResource
  | st, _ => s.refusePrep dst g.gsn st

/-- Regions with a key range, lowest first. -/
def State.regionsOf (s : State) (kr : Nat) : List Nat := (List.range 256).filter (fun r => (s.region r).keyRange == kr)

/-- The region of a holder that takes a copy: for a rewind-enabled owner region one of its own, else the region of the same number or
the lowest with the key range (R312, R386). -/
def State.holderRegion (s : State) (owner : Dev) (region : Byte) (kr : Nat) (rewind : Bool) : Option Nat :=
  let own (r : Nat) : Bool := s.sve.holdRegions.any (fun e => e.2.2.toNat == r)
  if rewind then
    match s.heldRegionOf owner region with
    | some r => some r
    | none => (s.regionsOf kr).find? (fun r => (s.region r).rewind && (s.regionSegs r).isEmpty && !own r)
  else if (s.region region.toNat).keyRange = kr && !own region.toNat then some region.toNat
  else (s.regionsOf kr).find? (fun r => !own r)

/-- The holder of a mirror takes a free LSI to Mirror; the request's head field says whether the owner's region has rewind (bit 0) and
its persistence (bits 2:1) (R386, R387). -/
def State.prepareHolder (s : State) (dst : Dev) (g : GstReq) : State :=
  let kr := s.keyRangeOf g.gsn.toNat
  match s.holderRegion g.devA g.region kr (bitAt g.head 0) with
  | none => s.refusePrep dst g.gsn stRange
  | some r =>
    match s.prepareStatus g.gsn.toNat r, s.freeOp 16 with
    | 0, some k =>
      let i := s.freeLsi
      let seg : Seg := { st := 4, gsn := g.gsn, region := BitVec.ofNat 8 r, epoch := (s.row g.gsn.toNat).epoch, mmode := g.mmode,
                         partner := g.devA, tentative := false, allocWsn := s.mte.nextWsn, copyPersist := fld g.head 1 2 }
      let s := if bitAt g.head 0 && (s.heldRegionOf g.devA g.region).isNone then
          { s with sve := { s.sve with holdRegions := s.sve.holdRegions ++ [(g.devA, g.region, BitVec.ofNat 8 r)] } } else s
      ((s.changeSeg i seg).setOp k (newOp 3 0 g.devA g.gsn)).answerDurable i dst g.gsn 0
    | 0, none => s.refusePrep dst g.gsn stNoResource
    | st, _ => s.refusePrep dst g.gsn st

/-! ### Copying (R377 to R379) -/

/-- The pages of a segment that are mapped, poisoned or staged. -/
def State.copyPages (s : State) (lsi : Nat) : List Nat :=
  let m := (s.mte.map.filter (fun (e : Nat × MapEntry) => e.1 / segPages == lsi && e.2.st != 0)).map (fun (e : Nat × MapEntry) => e.1 % segPages)
  let f := (s.dtc.frames.filter (fun (e : Nat × Frame) => lmpLsi e.2.lmp == lsi && e.2.staged)).map (fun (e : Nat × Frame) => e.2.lmp.toNat % segPages)
  (m ++ f).foldl insertNew []

/-- Send the present version of a page: 22 BLK_DATA, or a PAGE_CTL for an unmapped (1) or poisoned (2) one (R378). -/
def State.sendPage (s : State) (peer : Dev) (lsi gsn page : Nat) : State :=
  let l : Lmp := BitVec.ofNat 32 (lsi * segPages + page)
  let p := gsn * segPages + page
  let ep := (s.seg lsi).epoch
  match s.frameOf l, (s.entry l).st.toNat with
  | none, 0 => s.sendPlain peer 0 ep 0 0 (.pageCtl (BitVec.ofNat 44 p) 1)
  | none, 2 => s.sendPlain peer 0 ep 0 0 (.pageCtl (BitVec.ofNat 44 p) 2)
  | _, _ =>
    s.each (List.range 22) (fun s k =>
      let first := pageLine p (3 * k)
      let n := if k = 21 then 1 else 3
      let lines := (List.range n).map (fun i => s.storedLine (pageLine p (3 * k + i)))
      s.sendPlain peer 0 ep 0 0 (.blkData first lines 0))

/-- Send every dirty page of an operation that is not in flight; its bit is cleared as the copy begins (R379). -/
def State.sendDirty (s : State) (k : Nat) : State :=
  match s.sve.ops.find k with
  | none => s
  | some o =>
    match s.lsiOf o.gsn.toNat with
    | none => s
    | some lsi =>
      let go := o.dirty.filter (fun p => !decide (p ∈ o.sent))
      let s := s.setOp k { o with dirty := o.dirty.filter (fun p => decide (p ∈ o.sent)), sent := o.sent ++ go }
      s.each go (fun s p => s.sendPage o.peer lsi o.gsn.toNat p)

/-- The copy of an operation starts: kind 0 for a migration's source, 2 for a mirror's owner (R377, R386). -/
def State.startCopy (s : State) (dst : Dev) (kind : Nat) (gsn : Gsn) (peer : Dev) : State :=
  match s.lsiOf gsn.toNat, s.freeOp 0 with
  | some lsi, some k =>
    if (s.seg lsi).st != 1 || (s.outOp gsn.toNat).isSome then s.refusePrep dst gsn stState
    else (s.setOp k { newOp kind 1 peer gsn with dirty := s.copyPages lsi }).sendDirty k
  | some _, none => s.refusePrep dst gsn stNoResource
  | none, _ => s.refusePrep dst gsn stState

/-! ### Converge, Switch and Join (R377, R380, R386) -/

/-- No merge-store entry of a segment, and no line of it at the DTC's door. -/
def State.segDrained (s : State) (gsn : Nat) : Bool :=
  !(List.range 8).any (fun n => (s.slice n).merge.any (fun m => lineGsn m.line == gsn)) && !s.dtc.waiting.any (fun w => lineGsn w.line == gsn)

/-- Tell the custodian about a segment of an operation. -/
def State.tellOp (s : State) (op : BitVec 4) (o : BulkOp) : State :=
  s.tellCustodian 0 { op := op, gsn := o.gsn, devA := s.fxb.devnum, devB := o.peer, region := 0, keyRange := 0, head := 0, mmode := 0, handle := 0 }

/-- Switch-ready to the target. -/
def State.askTarget (s : State) (o : BulkOp) : State :=
  s.sendPlain o.peer 0 0 0 0 (.gstReq { op := 6, gsn := o.gsn, devA := s.fxb.devnum, devB := o.peer, region := 0, keyRange := 0, head := 0,
                                        mmode := 0, handle := 0 })

/-- The steps of Switch that hold so far: quiet and drained, then the dirty pages, then switch-ready to the target, or join-ready
(R380, R386). -/
def State.switchStep (s : State) (k : Nat) : State :=
  match s.sve.ops.find k with
  | none => s
  | some o =>
    match s.lsiOf o.gsn.toNat with
    | none => s
    | some lsi =>
      if o.phase != 3 || o.asked || !s.segsQuiet [lsi] || !s.segDrained o.gsn.toNat then s
      else if !o.dirty.isEmpty then s.sendDirty k
      else if !o.sent.isEmpty || s.sve.updates.any (fun u => u.gsn == o.gsn) then s
      else if o.kind = 0 then
        let s := if (s.seg lsi).partner = 0 then s else s.sendPlain (s.seg lsi).partner 0 (s.seg lsi).epoch 0 2 (.copyEnd 2)
        (s.setOp k { o with asked := true }).askTarget o
      else (s.setOp k { o with asked := true, ready := true }).tellOp 8 o

/-- Switch, or Join, begins: admission is held and the merge store drains (R380). -/
def State.enterSwitch (s : State) (k : Nat) : State :=
  match s.sve.ops.find k with
  | none => s
  | some o =>
    match s.lsiOf o.gsn.toNat with
    | none => s
    | some lsi =>
      let s := (s.setOp k { o with phase := 3 }).holdSegs [lsi]
      let s := s.each (List.range 8) (fun s n => s.drainMarks n (fun m => !m.draining && lineGsn m.line == o.gsn.toNat))
      s.switchStep k

/-- Every operation in Switch goes as far as it can. -/
def State.switchSteps (s : State) : State := s.each ((s.sve.ops.filter (fun (e : Nat × BulkOp) => e.2.phase = 3)).map Prod.fst) State.switchStep

/-- The end of Copy or of a pass is told to the other side (R401). -/
def State.passEnd (s : State) (o : BulkOp) : State := s.sendPlain o.peer 0 0 0 1 (.copyEnd 1)

/-- MIGRATION_COPY_END: every page sent in Copy has been acknowledged (R377). -/
def State.copyEnd (s : State) (gsn : Nat) : State :=
  match s.outOp gsn with
  | some (k, o) =>
    if o.phase = 1 && o.sent.isEmpty then ((s.passEnd o).setOp k { o with phase := 2, pass := 1 }).sendDirty k else s
  | none => s

/-- CONVERGE_PASS_END: Switch when few pages are dirty or the passes are used up, else another pass (R377). -/
def State.passDone (s : State) (gsn : Nat) : State :=
  match s.outOp gsn with
  | some (k, o) =>
    if o.phase = 2 && o.sent.isEmpty then
      let s := s.passEnd o
      if o.dirty.length ≤ s.regFld 0x200 0x110 0 12 || s.regFld 0x200 0x110 20 4 ≤ o.pass then s.enterSwitch k
      else (s.setOp k { o with pass := o.pass + 1 }).sendDirty k
    else s
  | none => s

/-- PAGE_ACK: the page may be sent again; a refusal counts the page as dirty again (R379). -/
def State.pageAcked (s : State) (page : Nat) (status : Status) : State :=
  match s.outOp (page / segPages) with
  | some (k, o) =>
    let p := page % segPages
    let s := s.setOp k { o with sent := removeAll o.sent p, dirty := if status = 0 then o.dirty else insertNew o.dirty p }
    s.switchStep k
  | none => s

/-- SWITCH_TIMEOUT: before switch-ready admission resumes and a pass runs again; the third expiry aborts (R380). -/
def State.switchTimeout (s : State) (gsn : Nat) : State :=
  match s.outOp gsn, s.lsiOf gsn with
  | some (k, o), some lsi =>
    if o.phase = 3 && !o.asked then
      let s := s.freeSegs [lsi]
      if 2 ≤ o.tries then (s.dropOp k).tellOp 11 o
      else (s.setOp k { o with phase := 2, tries := o.tries + 1 }).sendDirty k
    else s
  | _, _ => s

/-- SWITCH_READY_RESEND (R380). -/
def State.switchResend (s : State) (gsn : Nat) : State :=
  match s.outOp gsn with
  | some (_, o) =>
    if o.phase != 3 then s else if o.ready then s.tellOp (if o.kind = 0 then 6 else 8) o else if o.asked then s.askTarget o else s
  | none => s

/-- Switch-ready at the target: a tentative record, then the answer (R380). -/
def State.switchAsked (s : State) (src : Dev) (gsn : Gsn) : State :=
  match s.lsiOf gsn.toNat with
  | some i =>
    let g := s.seg i
    if g.st = 2 then (s.changeSeg i { g with st := 1, tentative := true, epoch := (s.row gsn.toNat).epoch + 1 }).answerDurable i src gsn 0
    else if g.st = 4 && (s.row gsn.toNat).state = 3 then
      (s.changeSeg i { g with tentative := true, epoch := (s.row gsn.toNat).epoch + 1 }).answerDurable i src gsn 0
    else if g.tentative then s.answerDurable i src gsn 0
    else s.refusePrep src gsn stState
  | none => s.refusePrep src gsn stState

/-- The target has answered switch-ready: the custodian is told; a refusal aborts (R380, R385). -/
def State.targetReady (s : State) (gsn : Nat) (status : Status) : State :=
  match s.outOp gsn, s.lsiOf gsn with
  | some (k, o), some lsi =>
    if o.kind != 0 || !o.asked || o.ready then s
    else if status = 0 then (s.setOp k { o with ready := true }).tellOp 6 o
    else ((s.freeSegs [lsi]).dropOp k).tellOp 11 o
  | _, _ => s

/-! ### After the commit (R380, R381) -/

/-- A request held in step 1 of Switch goes on to the new owner (R380, R381). -/
def State.redirectOne (s : State) (x : InReq) (e : DirEntry) : State :=
  let again (s : State) (i : Ident) (dev : Dev) (tag epoch : BitVec 16) (m : Msg) : State :=
    let stream : BitVec 10 := match i with
      | .stream n => n
      | _ => 0
    (s.peerDone dev tag 0).forwardReq { s.grain e.owner stream true 0 tag epoch 0 0 with src := dev } m e
  match x with
  | .read a w =>
    (match w.sender with
    | .head h tag => s.offerRemote { blankRemote .read h tag a with dst := e.owner, epoch := e.epoch }
    | .peer dev tag epoch => again s w.ident dev tag epoch (.rd a)
    | _ => s)
  | .entry y =>
    s.each y.waits (fun s w => match w.sender, y.op with
      | .head h tag, .store => s.offerRemote { blankRemote .store h tag y.line with
          dst := e.owner, epoch := e.epoch, data := y.data, mask := y.mask, poison := y.poison, answered := !w.late }
      | .head h tag, .atomic op size off p q => s.offerRemote { blankRemote .atomic h tag y.line with
          dst := e.owner, epoch := e.epoch, off := off, op := op, size := size, a := p, b := q }
      | .peer dev tag epoch, .store => again s y.ident dev tag epoch (.wr y.line y.mask y.data)
      | .peer dev tag epoch, .atomic op size off p q =>
        again s y.ident dev tag epoch (.atom (BitVec.ofNat 56 (y.line.toNat * 64 + off.toNat)) op size p q)
      | _, _ => s)

/-- The line of a waiting request. -/
def InReq.line : InReq → LineAddr
  | .read a _ => a
  | .entry e => e.line

/-- Requests of a segment that wait at the crossbar go to the new owner. -/
def State.redirectHeld (s : State) (gsn : Nat) (e : DirEntry) : State :=
  s.each (List.range 8) (fun s n =>
    let x := s.slice n
    let mine := x.inq.filter (fun q => lineGsn q.line == gsn)
    (s.setSlice n { x with inq := x.inq.filter (fun q => lineGsn q.line != gsn) }).each mine (fun s q => s.redirectOne q e))

/-- SWITCH_COMMIT_APPLIED: Forwarding and Outgoing, the line cache and the rewind index give up the segment, and admission resumes
(R313, R380). -/
def State.switchApplied (s : State) (gsn : Nat) : State :=
  match s.outOp gsn, s.lsiOf gsn with
  | some (k, o), some lsi =>
    let r := s.row gsn
    if o.kind = 0 && o.ready && (s.seg lsi).st = 1 && r.state = 2 && r.owner != s.fxb.devnum then
      let e : DirEntry := { st := 3, owner := r.owner, mirror := r.mirror, epoch := r.epoch }
      let s := { s with fxb := { s.fxb with dir := s.fxb.dir.put gsn e } }
      let s := s.changeSeg lsi { s.seg lsi with st := 3, epoch := r.epoch, partner := r.owner, mmode := 0 }
      let s := (s.sweepAll (segRange gsn)).keepIndex (fun x => lmpLsi x.lmp != lsi)
      let s := s.setOp k { o with phase := 4 }
      ((s.redirectHeld gsn e).freeSegs [lsi]).rwCheck
    else s
  | _, _ => s

/-- DRAIN_QUIET_EXPIRY: Release frees the LSI (R377). -/
def State.drainEnd (s : State) (gsn : Nat) : State :=
  match s.outOp gsn, s.lsiOf gsn with
  | some (k, o), some lsi =>
    if o.kind = 0 && o.phase = 4 then
      let s := { s with fxb := { s.fxb with dir := s.fxb.dir.del gsn } }
      ((s.dropOp k).freeSeg lsi).raise 0x200 .sveMigDone
    else s
  | _, _ => s

/-! ### The mirror stream at the owner (R387 to R391) -/

/-- Stores that waited on the holder reach their points as unmirrored stores, or go on waiting for their program (R61, R388, R391). -/
def State.mirrorPoint (s : State) (a : LineAddr) (ws : List Waiting) : State :=
  if ws.isEmpty then s else
  match s.lineLmp a with
  | none => s.badAll ws 3
  | some l =>
    if !s.strictPage l then s.answerAll ws 2
    else match s.frameOf l with
      | some (n, f) => if f.staged then s.setFrame n { f with waits := f.waits ++ ws } else s.answerAll ws 3
      | none => s.answerAll ws 3

/-- The updates of a segment are dropped (R391). -/
def State.dropUpdates (s : State) (gsn : Gsn) : State :=
  let l := s.sve.updates.filter (fun u => u.gsn == gsn)
  let s := { s with sve := { s.sve with updates := s.sve.updates.filter (fun u => u.gsn != gsn), lagHeld := removeAll s.sve.lagHeld gsn } }
  s.each l (fun s u => s.mirrorPoint u.line (u.waits ++ u.nextWaits))

/-- The owner finds its pair broken: the custodian is told, naming the holder (R391). -/
def State.breakPair (s : State) (gsn : Nat) : State :=
  match s.lsiOf gsn with
  | some lsi =>
    if s.paired gsn then
      s.tellCustodian 0 { op := 7, gsn := BitVec.ofNat 26 gsn, devA := s.fxb.devnum, devB := (s.seg lsi).partner, region := (s.seg lsi).region,
                          keyRange := 0, head := 0, mmode := 0, handle := 0 }
    else s
  | none => s

/-- LINE_ACK: the update's stores reach their points, and a later release of the line goes out; a refusal breaks the pair (R387,
R388, R391). -/
def State.lineAcked (s : State) (a : LineAddr) (status : Status) : State :=
  match s.sve.updates.find? (fun u => u.line == a) with
  | none => s
  | some u =>
    if status != 0 then s.breakPair u.gsn.toNat
    else
      let rest := s.sve.updates.filter (fun x => x.line != a)
      let s := { s with sve := { s.sve with lagHeld := removeAll s.sve.lagHeld u.gsn, updates := match u.next with
        | some sl => rest ++ [{ u with sl := sl, next := none, waits := u.nextWaits, nextWaits := [] }]
        | none => rest } }
      let s := match u.next with
        | some sl => s.sendUpdate a sl u.peer
        | none => s
      (s.mirrorPoint a u.waits).switchSteps

/-- LAG_BOUND_REACHED: releases to the pair's segment are held (R389). -/
def State.lagBound (s : State) (gsn : Nat) : State :=
  match s.lsiOf gsn with
  | some lsi =>
    if s.paired gsn && (s.seg lsi).mmode = 2 && s.sve.updates.any (fun u => u.gsn.toNat == gsn) then
      { s with sve := { s.sve with lagHeld := insertNew s.sve.lagHeld (BitVec.ofNat 26 gsn) } }
    else s
  | none => s

/-- LINE_UPDATE_ACK_TIMEOUT (R391). -/
def State.updateTimeout (s : State) (gsn : Nat) : State :=
  if s.sve.updates.any (fun u => u.gsn.toNat == gsn) then s.breakPair gsn else s

/-! ### At the target or holder (R379, R384, R387) -/

/-- Lines of a page being copied, or a mirror line update, which may name a peer's request, go to the DTC (R379, R384, R387). -/
def State.blkTake (s : State) (m : Routing) (line : LineAddr) (lines : List SLine) (reqDev : Dev) : State :=
  match s.lsiOf (lineGsn line) with
  | none => s.sendPlain m.src 0 0 stState 0 (.lineAck line)
  | some lsi =>
    let g := s.seg lsi
    if g.st != 2 && g.st != 4 then s.sendPlain m.src 0 0 stState 0 (.lineAck line) else
    let page := (s.inOp (lineGsn line)).isSome
    let p := pageOf line
    let s := if page && !s.sve.copyIn.any (fun e => e.1 == m.src && e.2.1 == p) then
        { s with sve := { s.sve with copyIn := s.sve.copyIn ++ [(m.src, p, 0)] } } else s
    let s := if !page && reqDev != 0 then
        (s.dedupAdd reqDev m.tag).dedupNote reqDev m.tag 2 0 else s
    s.each ((List.range lines.length).zip lines) (fun s e =>
      let a : LineAddr := line + BitVec.ofNat 50 e.1
      s.takeLine a (lmpOf lsi a) e.2 [{ sender := .copy m.src a page, late := true }]) |>.pump

/-- A mark or a rewind that came down the mirror stream before has not yet got past its cut in the region (R312). -/
def State.streamStopped (s : State) (r : Nat) : Bool :=
  (s.rwr r).op.any (fun (o : RwOp) => o.peer.isSome && ((o.kind == 1 && decide (o.phase ≤ 2)) || (o.kind == 2 && decide (o.phase ≤ 3))))

/-- A line update waits behind what came down the mirror stream before it. -/
def State.updateWaits (s : State) (line : LineAddr) : Bool :=
  let r := s.lineRegion line
  s.streamStopped r || s.sve.heldUpdates.any (fun (e : Routing × LineAddr × List SLine × Dev) => decide (s.lineRegion e.2.1 = r))

/-- BLK_DATA at its destination (R312, R379, R384, R387). -/
def State.blkIn (s : State) (m : Routing) (line : LineAddr) (lines : List SLine) (reqDev : Dev) : State :=
  if (s.inOp (lineGsn line)).isNone && s.updateWaits line then
    { s with sve := { s.sve with heldUpdates := s.sve.heldUpdates ++ [(m, line, lines, reqDev)] } }
  else s.blkTake m line lines reqDev

/-- Line updates that no longer wait are taken, in their order (R312). -/
def State.freeUpdates (s : State) : State :=
  let l := s.sve.heldUpdates
  let stopped (e : Routing × LineAddr × List SLine × Dev) : Bool := s.streamStopped (s.lineRegion e.2.1)
  let s := { s with sve := { s.sve with heldUpdates := l.filter stopped } }
  s.each (l.filter (fun e => !stopped e)) (fun s e => s.blkTake e.1 e.2.1 e.2.2.1 e.2.2.2)

/-- PAGE_CTL: 1 unmap, 2 poison (R378, R379). -/
def State.pageCtlIn (s : State) (m : Routing) (page : BitVec 44) (kind : Nat) : State :=
  let gsn := page.toNat / segPages
  match s.lsiOf gsn with
  | none => s.sendPlain m.src 0 0 stState 0 (.pageAck page)
  | some lsi =>
    if ((s.seg lsi).st != 2 && (s.seg lsi).st != 4) || (kind != 1 && kind != 2) then s.sendPlain m.src 0 0 stState 0 (.pageAck page)
    else (s.discardPage gsn (page.toNat % segPages) (kind == 2)).sendPlain m.src 0 0 stOk 0 (.pageAck page)

end Sys2Proof.Machine
end

