-- ==== Sys2Proof/Machine/Gst.lean ====
section
/-! DEFINITION. The global segment table: what a row does at this module, updates in version order, and the custodian's commits (R86,
R365 to R372, R382, R384, R391, R394). -/

namespace Sys2Proof.Machine

open Sys2Proof

/-- Epoch `a` is older than `b` (R86). -/
def epochOlder (a b : BitVec 16) : Bool := decide (2 ^ 15 ≤ (a - b).toNat)

/-! ### A row takes effect at this module (R86, R366, R380 to R391) -/

/-- The directory entry set apart from the row gives way to it, but for Forwarding, a Switch not applied yet, and a Lost entry of the
same epoch (R85, R162, R366, R380). -/
def State.rowDir (s : State) (gsn : Nat) (old new : GstRow) (switching : Bool) : State :=
  let d := s.fxb.dir
  let dir := match d.find gsn with
    | some e =>
      if e.st = 3 && new.owner != s.fxb.devnum && (new.state = 2 || new.state = 3) then
        d.put gsn { e with owner := new.owner, mirror := new.mirror, epoch := new.epoch }
      else if e.st = 5 && new.epoch = e.epoch && new.state != 5 && new.state != 0 then d
      else if e.st = 1 && switching then d
      else d.del gsn
    | none =>
      if switching then d.put gsn { st := rowState s.dev old, owner := old.owner, mirror := old.mirror, epoch := old.epoch } else d
  { s with fxb := { s.fxb with dir := dir } }

/-- A Lagged copy promoted at its owner's death may miss stores: BREACH names the segment (R163, R393). A planned promotion misses none
(R392). -/
def State.laggedBreach (s : State) (g : Seg) (old : GstRow) : State :=
  let planned := old.state = 3 && old.target = s.fxb.devnum && !decide (old.owner ∈ s.fxb.dead)
  if g.st = 4 && g.mmode = 2 && !planned then s.raiseAt 0x030 .mteBreach { kind := 1, items := [g.gsn.toNat] } else s

/-- The local segment of a row that names this module as owner: it is or becomes Allocated (R88, R380, R385, R391, R397). -/
def State.rowOwner (s : State) (gsn lsi : Nat) (old new : GstRow) : State :=
  let g := s.seg lsi
  let pairs (s : State) : State := if new.mirror = 0 && g.partner != 0 && g.st = 1 && !g.tentative then s.dropUpdates g.gsn else s
  let seg : Seg := { g with st := if g.st = 3 || g.st = 5 then g.st else 1, tentative := false, epoch := new.epoch, mmode := if new.mirror = 0 then 0 else new.mmode,
                            partner := new.mirror, copyPersist := 0 }
  let s := if g = seg then s else s.changeSeg lsi seg
  let s := (pairs s).laggedBreach g old
  let s := match s.inOp gsn with
    | some (k, _) => s.dropOp k
    | none => s
  let s := if g.st != 1 || g.tentative then
      { s with fxb := { s.fxb with fwdFrom := s.fxb.fwdFrom.filter (fun e => e.1.toNat != gsn) ++ [(g.gsn, old.owner)] } } else s
  match s.outOp gsn with
  | some (k, o) =>
    if (o.kind = 0 && new.state = 2) || (o.kind = 2 && new.mirror = o.peer && new.mirror != 0) then ((s.dropOp k).freeSegs [lsi]) else s
  | none => s

/-- The local segment of a row that does not name this module as owner (R366, R375, R385, R391, R397). -/
def State.rowOther (s : State) (gsn lsi : Nat) (new : GstRow) (switching : Bool) : State :=
  let g := s.seg lsi
  let me := s.fxb.devnum
  let named := new.state = 2 || new.state = 3
  if named && new.mirror = me && g.st = 4 then
    let seg : Seg := { g with epoch := new.epoch, mmode := new.mmode, partner := new.owner, tentative := false }
    let s := if g = seg then s else s.changeSeg lsi seg
    (match s.inOp gsn with
    | some (k, _) => s.dropOp k
    | none => s)
  else if switching || g.st = 3 || g.st = 0 then s
  else if g.st = 4 && (s.inOp gsn).isSome && named then s
  else if g.st = 2 && new.state = 3 && new.target = me then s
  else if g.st = 1 && g.tentative && new.state = 3 && new.target = me then s
  else if g.st = 1 && new.state = 1 then s
  else s.freeSeg lsi

/-- The owner asks the custodian for a mirror of a segment, in its region's mode or else in the mode given (R386, R391). -/
def State.askMirror (s : State) (gsn : Nat) (mode : BitVec 2) (handle : Word) : State :=
  match s.lsiOf gsn with
  | some lsi =>
    let g := s.seg lsi
    let r := s.region g.region.toNat
    let m : BitVec 2 := if r.mirror = 0 then mode else BitVec.ofNat 2 r.mirror
    if m = 0 && handle = 0 then s else
      s.tellCustodian 0 { op := 7, gsn := g.gsn, devA := s.fxb.devnum, devB := BitVec.ofNat 12 r.partner, region := g.region, keyRange := 0,
                          head := BitVec.ofNat 6 ((if r.rewind then 1 else 0) + 2 * r.persist), mmode := m, handle := handle }
  | none => s

/-- A row takes effect: the replica, the directory entry, the local segment, the requests of an old epoch. An older epoch, and another
owner under the same epoch, is discarded (R86). -/
def State.applyRow (s : State) (gsn : Nat) (new : GstRow) : State :=
  let old := s.row gsn
  let me := s.fxb.devnum
  let bad := epochOlder new.epoch old.epoch || (new.epoch == old.epoch && new.owner != old.owner && old.owner != 0 && new.state != 0)
  if bad then s else
  let s := { s with sve := { s.sve with gst := s.sve.gst.set default gsn new } }
  let switching := (s.outOp gsn).any (fun e => e.2.kind = 0 && e.2.ready) && new.owner != me && new.state = 2
  let s := s.rowDir gsn old new switching
  let s := match s.lsiOf gsn with
    | some lsi =>
      if new.owner = me && (new.state = 2 || new.state = 3) then s.rowOwner gsn lsi old new
      else if new.owner = me && (new.state = 4 || new.state = 5) then s
      else s.rowOther gsn lsi new switching
    | none => s
  let s := if new.owner = me && new.state = 2 && old.state = 1 then s.askMirror gsn 0 0 else s
  let s := if new.owner != old.owner then s.reissueAll gsn old.owner else s
  s.retryWaitq

/-! ### Updates in version order (R367, R368) -/

/-- Apply a version: the row takes effect and is kept for those who ask for it. -/
def State.applyVersion (s : State) (ver : Nat) (gsn : Gsn) (row : GstRow) : State :=
  let s := { s with sve := { s.sve with ver := ver, hist := s.sve.hist ++ [(ver, gsn, row)] } }
  s.applyRow gsn.toNat row

/-- Updates that waited for a gap to close are applied in order. -/
def State.applyAhead : Nat → State → State
  | 0, s => s
  | n + 1, s =>
    match s.sve.ahead.find? (fun e => e.1 == s.sve.ver + 1) with
    | some e =>
      let s := { s with sve := { s.sve with ahead := s.sve.ahead.filter (fun x => x.1 != e.1) } }
      State.applyAhead n (s.applyVersion e.1 e.2.1 e.2.2)
    | none => s

/-- A standby acknowledges the version it has reached (R367). -/
def State.ackVersion (s : State) : State :=
  if s.fxb.role = 2 || s.fxb.role = 3 then s.sendPlain s.fxb.cust 0 0 0 0 (.gstAck (BitVec.ofNat 64 s.sve.ver)) else s

/-- GST_UPD: a flooded version is sent on once; a standby gets each version from the custodian first and sends on its second copy. It
is applied in order, or held ahead of a gap, up to 64 (R367, R368). -/
def State.gstUpdate (s : State) (port : Option Nat) (ver : Nat) (row : GstRow) (gsn : Gsn) : State :=
  let known := ver ≤ s.sve.ver || s.sve.ahead.any (fun e => e.1 == ver)
  let flood (s : State) : State := if s.safe then s else s.flood port (.gstUpd (BitVec.ofNat 64 ver) row gsn)
  if s.fxb.role = 1 then s
  else if known then
    if ver ∈ s.sve.toFlood then flood { s with sve := { s.sve with toFlood := removeAll s.sve.toFlood ver } } else s.ackVersion
  else
    let s := if s.fxb.role = 2 || s.fxb.role = 3 then { s with sve := { s.sve with toFlood := s.sve.toFlood ++ [ver] } } else flood s
    if ver = s.sve.ver + 1 then
      (State.applyAhead s.sve.ahead.length (s.applyVersion ver gsn row)).ackVersion
    else if s.sve.ahead.length < 64 then { s with sve := { s.sve with ahead := s.sve.ahead ++ [(ver, gsn, row)] } }
    else s

/-- A gap has lasted 1 ms: the missing versions are asked for (R368). -/
def State.gapTimeout (s : State) : State :=
  if s.sve.ahead.isEmpty || s.fxb.cust = 0 || s.fxb.role = 1 then s
  else s.sendPlain s.fxb.cust 0 0 0 0 (.gstSync 0 (BitVec.ofNat 27 (2 ^ 26)) (BitVec.ofNat 64 (s.sve.ver + 1)))

/-- GST_SYNC with a count: the custodian sends every version wanted whose row lies in the range (R368). -/
def State.syncRows (s : State) (dst : Dev) (first : Gsn) (count : BitVec 27) (ver : Nat) : State :=
  let l := s.sve.hist.filter (fun e => ver ≤ e.1 && first.toNat ≤ e.2.1.toNat && e.2.1.toNat < first.toNat + count.toNat)
  s.each l (fun s e => s.sendPlain dst 0 0 0 0 (.gstUpd (BitVec.ofNat 64 e.1) e.2.2 e.2.1))

/-! ### Commits (R367, R369) -/

/-- Queue a commit of a row; commits run one at a time. -/
def State.queueCommit (s : State) (gsn : Nat) (row : GstRow) : State :=
  let c : GstCommit := { ver := 0, gsn := BitVec.ofNat 26 gsn, row := row, old := default, waits := [], started := false }
  { s with sve := { s.sve with commits := s.sve.commits ++ [c] } }

/-- The row as the last queued commit leaves it. -/
def State.rowAhead (s : State) (gsn : Nat) : GstRow :=
  match s.sve.commits.reverse.find? (fun c => c.gsn.toNat == gsn) with
  | some c => c.row
  | none => s.row gsn

/-- The first commit starts: GST_UPD to each live standby, which must acknowledge; one that lags is not waited for (R367). -/
def State.startCommit (s : State) : State :=
  match s.sve.commits with
  | [] => s
  | c :: t =>
    if c.started then s else
    let ver := s.sve.ver + 1
    let live := [s.fxb.stby1, s.fxb.stby2].filter (fun d => d != 0 && d != s.fxb.devnum && !decide (d ∈ s.fxb.dead))
    let c := { c with ver := ver, old := s.row c.gsn.toNat, started := true, waits := live.filter (fun d => !decide (d ∈ s.sve.lagging)) }
    let s := { s with sve := { s.sve with commits := c :: t } }
    s.each live (fun s d => s.sendPlain d 0 0 0 0 (.gstUpd (BitVec.ofNat 64 ver) c.row c.gsn))

/-- The modules that a row names. -/
def rowDevs (r : GstRow) : List Dev := [r.owner, r.mirror, r.target].filter (fun d => d != 0)

/-- The first commit has its acknowledgements: it is sent to the modules named, flooded and applied here (R367). Answers the commit. -/
def State.endCommit (s : State) : Option GstCommit × State :=
  match s.sve.commits with
  | [] => (none, s)
  | c :: t =>
    if !c.started || !c.waits.isEmpty then (none, s) else
    let s := { s with sve := { s.sve with commits := t } }
    let devs := ((rowDevs c.old ++ rowDevs c.row).foldl insertNew []).filter (fun d => d != s.fxb.devnum)
    let m : Msg := .gstUpd (BitVec.ofNat 64 c.ver) c.row c.gsn
    let s := s.each devs (fun s d => s.sendPlain d 0 0 0 0 m)
    let s := s.flood none m
    (some c, s.applyVersion c.ver c.gsn c.row)

/-- GST_ACK: a standby has the version; one that lagged is current again (R367). -/
def State.gstAcked (s : State) (dev : Dev) (ver : Nat) : State :=
  let cur := ver == s.sve.ver || s.sve.commits.any (fun c => c.started && c.ver ≤ ver)
  { s with sve := { s.sve with
      lagging := if cur then removeAll s.sve.lagging dev else s.sve.lagging,
      commits := s.sve.commits.map (fun (c : GstCommit) => if c.started && c.ver ≤ ver then { c with waits := removeAll c.waits dev } else c) } }

/-- STANDBY_ACK_TIMEOUT: the commit goes on; STBY_LAG (R367). -/
def State.ackTimeout (s : State) (dev : Dev) : State :=
  if s.sve.commits.any (fun c => c.started && decide (dev ∈ c.waits)) then
    ({ s with sve := { s.sve with lagging := insertNew s.sve.lagging dev,
                                  commits := s.sve.commits.map (fun (c : GstCommit) => { c with waits := removeAll c.waits dev }) } }).raise
      0x200 .sveStbyLag
  else s

end Sys2Proof.Machine
end

