-- ==== Sys2Proof/Machine/Custodian.lean ====
section
/-! DEFINITION. What the custodian does: custody requests with their owners, targets and holders, deaths and returns, taking office, and
what other modules do at its word (R353, R369 to R376, R385, R386, R391 to R397, R401, R444). -/

namespace Sys2Proof.Machine

open Sys2Proof

/-! ### Choosing modules (R373) -/

/-- Free LSIs of a module, from the rows that name it. -/
def State.freeLsis (s : State) (d : Dev) : Nat :=
  12288 - (s.sve.gst.filter (fun (e : Nat × GstRow) => e.2.state != 0 && (e.2.owner == d || e.2.mirror == d || e.2.target == d))).length

/-- The module with a free LSI that is fewest hops from a module, the most free LSIs on a tie, then the lowest number (R373). -/
def State.candidate (s : State) (near : Dev) (no : List Dev) : Option Dev :=
  let dist := layers s.confirmed (s.linksOf true) (fun _ _ => true) 31 0 [(near, 0)]
  let better (a b : Dev) : Bool :=
    let da := (distIn dist a).getD 99
    let db := (distIn dist b).getD 99
    decide (da < db) || (da == db && (decide (s.freeLsis b < s.freeLsis a) || (s.freeLsis a == s.freeLsis b && decide (a.toNat < b.toNat))))
  (s.confirmed.filter (fun d => d != 0 && !decide (d ∈ no) && 0 < s.freeLsis d && (distIn dist d).isSome)).foldl
    (fun (best : Option Dev) d => match best with
      | none => some d
      | some b => if better d b then some d else some b) none

/-- The lowest Unallocated GSN of a key range that no operation has taken (R373). -/
def State.lowestFree (s : State) (kr : Nat) : Option Nat :=
  let base := if kr = 0 then 0 else ((s.crs.bases[kr - 1]?).getD 0x4000000).toNat
  let n := s.sve.gst.length + s.sve.commits.length + 1
  ((List.range n).map (fun i => base + i)).find? (fun g => decide (g < 2 ^ 26) && (s.rowAhead g).state == 0 && s.keyRangeOf g == kr)

/-! ### The list of operations -/

/-- Put a changed operation in its place. -/
def State.setCust (s : State) (old new : CustOp) : State :=
  { s with sve := { s.sve with custody := s.sve.custody.map (fun o => if o == old then new else o) } }

/-- Take an operation off. -/
def State.dropCust (s : State) (o : CustOp) : State :=
  { s with sve := { s.sve with custody := s.sve.custody.filter (fun x => x != o) } }

/-- A request of the custodian to a module: XINFO[0] (log 32). -/
def State.askModule (s : State) (dst : Dev) (g : GstReq) : State := s.sendPlain dst 0 0 0 1 (.gstReq g)

/-- What a head's module is told of a binding: [5:0] head, [6] RD, [7] WR, [8] Volatile, [9] add, [10] remove (log 32). -/
def bindInfo (head : BitVec 6) (rd wr vol add : Bool) : BitVec 16 :=
  BitVec.ofNat 16 (head.toNat + (if rd then 64 else 0) + (if wr then 128 else 0) + (if vol then 256 else 0) + (if add then 512 else 1024))

/-- Answer the module that asked (R401). -/
def State.answerCust (s : State) (dst : Dev) (g : GstReq) (st : Status) (gsn : Gsn) (owner : Dev) : State :=
  if g.handle = 0 then s else s.sendPlain dst 0 0 st 0 (.gstRsp gsn owner g.handle)

/-- A binding record is made and the head's module is told; that module ends the operation (R373 steps 5 and 6, R374). -/
def State.tellHead (s : State) (o : CustOp) (rd wr : Bool) : State :=
  let g := o.req
  let s := s.dropCust o
  if 1048576 ≤ s.sve.binds.length then s.answerCust o.from_ g stNoResource g.gsn o.peer else
  let b : Binding := { gsn := g.gsn, dev := g.devA, head := g.head, rd := rd, wr := wr }
  let keep := s.sve.binds.filter (fun x => !(x.gsn == g.gsn && x.dev == g.devA && x.head == g.head))
  let s := { s with sve := { s.sve with binds := keep ++ [b] } }
  s.sendPlain g.devA 0 0 stOk (bindInfo g.head rd wr (bitAt o.info 0) true) (.gstRsp g.gsn o.from_ g.handle)

/-- An evacuation with no part left ends: OK, or PARTIAL when a part failed (R376, R496). -/
def State.evacDone (s : State) (o : CustOp) : State :=
  if s.sve.custody.any (fun x => x.child && x.from_ == o.from_ && x.req.handle == o.req.handle) then s
  else (s.dropCust o).answerCust o.from_ o.req o.status (BitVec.ofNat 26 o.moved) 0

/-- An operation ends with a status. A new segment that waited for its mirror goes to its head. -/
def State.endCust (s : State) (o : CustOp) (st : Status) : State :=
  let s := s.dropCust o
  let s := if o.child then
      match s.sve.custody.find? (fun x => x.req.op == 12 && x.from_ == o.from_ && x.req.handle == o.req.handle) with
      | some p =>
        let p' := { p with moved := if st = 0 then p.moved + 1 else p.moved, status := if st = 0 then p.status else stPartial }
        (s.setCust p p').evacDone p'
      | none => s
    else s.answerCust o.from_ o.req st o.req.gsn o.peer
  if o.req.op = 7 then
    match s.sve.custody.find? (fun x => x.step == 5 && x.req.gsn == o.req.gsn) with
    | some a => s.tellHead a true true
    | none => s
  else s

/-! ### Rows -/

/-- The row of a free segment: Unallocated, its epoch kept (R370, R375). -/
def freedRow (r : GstRow) : GstRow := { state := 0, mmode := 0, owner := 0, mirror := 0, target := 0, epoch := r.epoch }

/-- An operation undoes its first commit and will end with a status. -/
def State.undoCust (s : State) (o : CustOp) (st : Status) : State :=
  let r := s.rowAhead o.req.gsn.toNat
  let row := if o.req.op = 1 then freedRow r else { r with state := 2, target := 0 }
  (s.setCust o { o with step := 6, status := st }).queueCommit o.req.gsn.toNat row

/-- Ask the next owner of an allocation, up to four in all; a named owner is the only one (R373). -/
def State.askOwner (s : State) (o : CustOp) (st : Status) : State :=
  let g := o.req
  let pick := if g.devB != 0 then (if o.tried.isEmpty then some g.devB else none)
    else if 4 ≤ o.tried.length then none else s.candidate g.devA o.tried
  match pick with
  | some d => (s.setCust o { o with step := 2, peer := d, tried := o.tried ++ [d] }).askModule d { g with devB := d, handle := 0 }
  | none => s.undoCust o st

/-- Operations of a module: as source or owner, and as target or holder (R376). -/
def State.busyOps (s : State) (d : Dev) (out : Bool) : Nat :=
  (s.sve.custody.filter (fun (o : CustOp) => (o.req.op == 5 || o.req.op == 7) && 1 ≤ o.step && o.step ≤ 4 &&
    (if out then o.req.devA == d else o.peer == d))).length

/-- Ask the next holder of a mirror: the named partner, or the candidates near the owner, up to four (R84, R386). -/
def State.askHolder (s : State) (o : CustOp) (st : Status) : State :=
  let g := o.req
  let pick := if g.devB != 0 then (if o.tried.isEmpty then some g.devB else none)
    else if 4 ≤ o.tried.length then none else s.candidate g.devA (g.devA :: (s.row g.gsn.toNat).mirror :: o.tried)
  match pick with
  | some d =>
    if 16 ≤ s.busyOps d false then s.setCust o { o with step := 0, peer := d }
    else (s.setCust o { o with step := 2, peer := d, tried := o.tried ++ [d] }).askModule d { g with devB := d, handle := 0 }
  | none => s.endCust o st

/-- A migration starts: the row becomes Migrating (R377). -/
def State.startMigration (s : State) (o : CustOp) : State :=
  let r := s.rowAhead o.req.gsn.toNat
  if 16 ≤ s.busyOps r.owner true || 16 ≤ s.busyOps o.req.devB false then s.setCust o { o with step := 0 }
  else (s.setCust o { o with step := 1, req := { o.req with devA := r.owner }, peer := o.req.devB }).queueCommit o.req.gsn.toNat
    { r with state := 3, target := o.req.devB }

/-- Queued migrations and establishments start when their modules have room (R376). -/
def State.startQueued (s : State) : State :=
  s.each (s.sve.custody.filter (fun o => o.step == 0 && (o.req.op == 5 || o.req.op == 7))) (fun s o =>
    if o.req.op = 5 then
      if (s.rowAhead o.req.gsn.toNat).state = 2 then s.startMigration o else s.endCust o stState
    else if 16 ≤ s.busyOps o.req.devA true then s else s.askHolder o stNoResource)

/-! ### A request reaches the custodian (R373 to R376, R385, R386, R397, R401) -/

/-- A new operation of a request. -/
def newCust (from_ : Dev) (g : GstReq) : CustOp :=
  { req := g, from_ := from_, step := 0, status := 0, tried := [], peer := 0, info := 0, child := false, moved := 0 }

/-- Enter an operation. -/
def State.addCust (s : State) (o : CustOp) : State := { s with sve := { s.sve with custody := s.sve.custody ++ [o] } }

/-- Another operation runs on a segment. -/
def State.custBusy (s : State) (gsn : Gsn) : Bool :=
  s.sve.custody.any (fun o => o.req.gsn == gsn && o.req.op != 3 && o.req.op != 12 && (o.req.op != 1 || o.step != 0))

/-- The parts of an evacuation: a migration of each segment the module owns, and a new holder for each copy it holds (R376). -/
def State.evacuate (s : State) (from_ : Dev) (g : GstReq) : State :=
  let d := g.devA
  let parent : CustOp := newCust from_ g
  let s := s.addCust { parent with step := 9 }
  let owned := (s.sve.gst.filter (fun (e : Nat × GstRow) => e.2.state == 2 && e.2.owner == d)).map Prod.fst
  let held := (s.sve.gst.filter (fun (e : Nat × GstRow) => e.2.state == 2 && e.2.mirror == d)).map Prod.fst
  let s := s.each owned (fun s n =>
    let r := s.row n
    match s.candidate d [d, r.mirror] with
    | some t =>
      let q : GstReq := { g with op := 5, gsn := BitVec.ofNat 26 n, devA := d, devB := t, region := 0 }
      let o : CustOp := { newCust from_ q with child := true }
      (s.addCust o).startMigration o
    | none =>
      let q : GstReq := { g with op := 5, gsn := BitVec.ofNat 26 n }
      let o : CustOp := { newCust from_ q with child := true }
      (s.addCust o).endCust o stNoResource)
  let s := s.each held (fun s n =>
    let r := s.row n
    let q : GstReq := { g with op := 7, gsn := BitVec.ofNat 26 n, devA := r.owner, devB := 0, mmode := r.mmode, region := 0 }
    let o : CustOp := { newCust from_ q with child := true }
    (s.addCust o).askHolder o stNoResource)
  match s.sve.custody.find? (fun x => x.step == 9 && x.from_ == from_ && x.req.handle == g.handle) with
  | some p => s.evacDone p
  | none => s

/-- SEG_ABORT, or an end that the source or owner has given up (R380, R385). -/
def State.abortCust (s : State) (from_ : Dev) (g : GstReq) : State :=
  match s.sve.custody.find? (fun o => o.req.gsn == g.gsn && (o.req.op == 5 || o.req.op == 7)) with
  | some o =>
    if o.step = 0 then ((s.endCust o stAborted)).answerCust from_ g stOk g.gsn 0
    else if 4 ≤ o.step then s.answerCust from_ g stState g.gsn 0
    else if o.req.op = 5 then ((s.undoCust o stAborted).answerCust from_ g stOk g.gsn 0)
    else
      let s := if o.peer = 0 then s else s.askModule o.peer { o.req with op := 2, handle := 0 }
      (s.endCust o stAborted).answerCust from_ g stOk g.gsn 0
  | none => s.answerCust from_ g stState g.gsn 0

/-- MIRROR_SET for one segment, a broken pair, or the owner of a new segment asking for its mirror (R386, R391). -/
def State.mirrorReq (s : State) (from_ : Dev) (g : GstReq) : State :=
  let r := s.rowAhead g.gsn.toNat
  let refuse (s : State) (st : Status) : State :=
    let o := newCust from_ g
    (s.addCust o).endCust o st
  if g.mmode = 0 then
    if g.devB != 0 then
      if r.mirror = g.devB && (r.state = 2 || r.state = 3) then
        let s := (s.queueCommit g.gsn.toNat { r with mirror := 0, mmode := 0 }).raise 0x200 .sveMirrorBroken
        { s with sve := { s.sve with remirror := s.sve.remirror.filter (fun (e : Gsn × BitVec 2) => e.1 != g.gsn) ++ [(g.gsn, r.mmode)] } }
      else s
    else
      let s := { s with sve := { s.sve with remirror := s.sve.remirror.filter (fun (e : Gsn × BitVec 2) => e.1 != g.gsn) } }
      if r.mirror = 0 then refuse s stOk
      else
        let o : CustOp := { newCust from_ g with step := 4 }
        (s.addCust o).queueCommit g.gsn.toNat { r with mirror := 0, mmode := 0 }
  else if r.state != 2 || r.owner != g.devA || s.custBusy g.gsn then refuse s stState
  else if r.mirror != 0 && (g.devB = 0 || g.devB = r.mirror) then
    let o : CustOp := { newCust from_ g with step := 4, peer := r.mirror }
    (s.addCust o).queueCommit g.gsn.toNat { r with mmode := g.mmode }
  else if g.devB = g.devA then refuse s stState
  else
    let o := newCust from_ g
    let s := s.addCust o
    if 16 ≤ s.busyOps g.devA true then s else s.askHolder o stNoResource

/-- A GST_REQ at the custodian. Without quorum, or while the table is rebuilt, it completes with STATE (R369, R372). -/
def State.custodyReq (s : State) (from_ : Dev) (g : GstReq) : State :=
  let n := g.gsn.toNat
  let r := s.rowAhead n
  let say (s : State) (st : Status) : State := s.answerCust from_ g st g.gsn 0
  if s.fxb.role != 1 || !s.quorate || s.sve.claiming then say s stState else
  let o := newCust from_ g
  match g.op.toNat with
  | 1 =>
    if (s.krange g.keyRange.toNat).st != 1 then say s stState else
    match s.lowestFree g.keyRange.toNat with
    | none => say s stNoResource
    | some k =>
      let o : CustOp := { o with req := { g with gsn := BitVec.ofNat 26 k }, step := 1 }
      (s.addCust o).queueCommit k { freedRow (s.rowAhead k) with state := 1 }
  | 2 =>
    let other (x : CustOp) : Bool := x.req.gsn == g.gsn && x.req.op == 7
    if (r.state = 2 || r.state = 5) && !s.sve.binds.any (fun b => b.gsn == g.gsn) then
      ((s.each (s.sve.custody.filter other) (fun s x => s.endCust x stAborted)).addCust { o with step := 4 }).queueCommit n (freedRow r)
    else say s stState
  | 3 =>
    if r.state != 2 && r.state != 3 then say s stState
    else if 1048576 ≤ s.sve.binds.length then say s stNoResource
    else (s.addCust { o with step := 2, peer := r.owner }).askModule r.owner { g with handle := 0 }
  | 4 =>
    let mine (b : Binding) : Bool := b.gsn == g.gsn && b.dev == g.devA && b.head == g.head
    if !s.sve.binds.any mine then say s stState
    else
      let s := { s with sve := { s.sve with binds := s.sve.binds.filter (fun b => !mine b) } }
      let s := if g.handle = 0 then s else
        s.sendPlain g.devA 0 0 stOk (bindInfo g.head false false false false) (.gstRsp g.gsn from_ 0)
      say s stOk
  | 5 =>
    let planned := g.mmode != 0
    if r.state != 2 || s.custBusy g.gsn || g.devB = r.owner || g.devB = 0 || (r.mirror = g.devB && !planned) || (planned && r.mirror != g.devB) then
      say s stState
    else (s.addCust o).startMigration o
  | 6 =>
    (match s.sve.custody.find? (fun o => o.req.op == 5 && o.req.gsn == g.gsn && o.step == 3) with
    | some o =>
      let keep := if o.req.mmode = 0 then r.mirror else 0
      (s.setCust o { o with step := 4 }).queueCommit n
        { r with state := 2, owner := o.req.devB, target := 0, epoch := r.epoch + 1, mirror := keep, mmode := if keep = 0 then 0 else r.mmode }
    | none => s)
  | 7 => s.mirrorReq from_ g
  | 8 =>
    (match s.sve.custody.find? (fun o => o.req.op == 7 && o.req.gsn == g.gsn && o.step == 3) with
    | some o => (s.setCust o { o with step := 4 }).queueCommit n { r with mirror := o.peer, mmode := o.req.mmode }
    | none => s)
  | 9 =>
    if r.state = 2 || r.state = 3 || r.state = 4 then
      (s.queueCommit n { r with state := 5, target := 0 }).raiseAt 0x200 .sveSegLostFab { kind := 1, items := [n] }
    else s
  | 10 => if r.state = 5 then (s.addCust { o with step := 4 }).queueCommit n { r with state := 2, epoch := r.epoch + 1 } else say s stState
  | 11 => s.abortCust from_ g
  | 12 => s.evacuate from_ g
  | _ => say s stUnsupported

/-! ### A module answers the custodian (R373, R377, R386) -/

/-- The source or the owner is told to copy (R377, R386). -/
def State.askCopy (s : State) (o : CustOp) : State :=
  let r := s.row o.req.gsn.toNat
  (s.setCust o { o with step := 3 }).askModule r.owner { o.req with devA := r.owner, devB := o.peer, handle := 0 }

/-- A module that was asked to prepare, or to copy, answers. -/
def State.prepAnswer (s : State) (src : Dev) (gsn : Gsn) (st : Status) (info : BitVec 2) : State :=
  let n := gsn.toNat
  match s.sve.custody.find? (fun o => o.step == 2 && o.req.gsn == gsn && o.peer == src) with
  | some o =>
    let r := s.rowAhead n
    (match o.req.op.toNat with
    | 1 =>
      if st = 0 then (s.setCust o { o with step := 4, info := info }).queueCommit n { r with state := 2, owner := src, epoch := r.epoch + 1 }
      else s.askOwner o st
    | 3 =>
      let o' : CustOp := { o with info := info }
      if st = 0 then (s.setCust o o').tellHead o' (bitAt o.req.mmode 0) (bitAt o.req.mmode 1) else s.endCust o st
    | 5 => if st = 0 then s.askCopy o else s.undoCust o st
    | _ => if st = 0 then s.askCopy o else s.askHolder o st)
  | none =>
    match s.sve.custody.find? (fun o => o.step == 3 && o.req.gsn == gsn) with
    | some o =>
      if st = 0 || (s.row n).owner != src then s
      else if o.req.op = 5 then s.undoCust o st
      else (s.askModule o.peer { o.req with op := 2, handle := 0 }).endCust o st
    | none => s

/-- PREPARE_TIMEOUT: the module asked counts as refusing (R373, R385). -/
def State.prepTimeout (s : State) (gsn : Gsn) : State :=
  match s.sve.custody.find? (fun o => o.step == 2 && o.req.gsn == gsn) with
  | some o => s.prepAnswer o.peer gsn stTimeout 0
  | none => s

/-- A commit has taken effect: the operation it belongs to goes on. -/
def State.afterCommit (s : State) (c : GstCommit) : State :=
  match s.sve.custody.find? (fun o => o.req.gsn == c.gsn && (o.step == 1 || o.step == 4 || o.step == 6) &&
      (o.req.op != 2 || c.row.state == 0)) with
  | none => s
  | some o =>
    let s := match o.step, o.req.op.toNat with
      | 1, 1 => s.askOwner o stNoResource
      | 1, _ =>
        if o.req.mmode = 0 then (s.setCust o { o with step := 2 }).askModule o.peer { o.req with handle := 0 } else s.askCopy o
      | 4, 1 => if bitAt o.info 1 then s.setCust o { o with step := 5 } else s.tellHead o true true
      | 4, 5 =>
        let s := if o.req.mmode = 0 then s else
          { s with sve := { s.sve with remirror := s.sve.remirror.filter (fun (e : Gsn × BitVec 2) => e.1 != c.gsn) ++ [(c.gsn, c.old.mmode)] } }
        s.endCust o stOk
      | 4, 7 => (if o.req.mmode = 0 then s else s.raise 0x200 .sveMirrorJoin).endCust o stOk
      | 4, _ => s.endCust o stOk
      | _, 1 => s.endCust o o.status
      | _, _ => (s.raise 0x200 .sveMigAbort).endCust o o.status
    s.startQueued

/-! ### At other modules, at the custodian's word -/

/-- A request of the custodian: prepare an owner (1), answer for a binding (3), drop a copy (2), prepare or start a migration (5) or a
mirror (7) (R373, R374, R377, R386, R391). -/
def State.moduleReq (s : State) (src : Dev) (g : GstReq) : State :=
  let me := s.fxb.devnum
  match g.op.toNat with
  | 1 => s.prepareOwner src g
  | 2 =>
    (match s.lsiOf g.gsn.toNat with
    | some lsi => if (s.seg lsi).st = 4 && (s.row g.gsn.toNat).mirror != me then s.freeSeg lsi else s
    | none => s)
  | 3 =>
    (match s.lsiOf g.gsn.toNat with
    | some lsi =>
      let vol := (s.region (s.seg lsi).region.toNat).persist = 0
      if (s.seg lsi).st = 1 then s.sendPlain src 0 0 stOk (if vol then 1 else 0) (.gstRsp g.gsn me 0) else s.refusePrep src g.gsn stState
    | none => s.refusePrep src g.gsn stState)
  | 5 =>
    if g.devB = me then s.prepareTarget src g
    else
      let s := s.startCopy src 0 g.gsn g.devB
      if g.mmode = 0 then s else
      (match s.outOp g.gsn.toNat with
      | some (k, o) => (s.setOp k { o with dirty := [], sent := [] }).enterSwitch k
      | none => s)
  | 7 =>
    if g.devB = me then s.prepareHolder src g
    else if g.devB = 0 then s.askMirror g.gsn.toNat g.mmode 0
    else s.startCopy src 2 g.gsn g.devB
  | _ => s

/-- A segment of a MIRROR_SET has its answer; the last one completes it (R386, R496). -/
def State.mirSetAnswer (s : State) (handle : Word) (gsn : Gsn) (st : Status) : Bool × State :=
  match s.sve.mirSets.find? (fun x => x.handle == handle && decide (gsn ∈ x.waits)) with
  | none => (false, s)
  | some x =>
    let x' : MirSet := { x with waits := removeAll x.waits gsn, done := if st = 0 then x.done + 1 else x.done, failed := x.failed || st != 0 }
    let rest := s.sve.mirSets.filter (fun y => y.handle != handle)
    if x'.waits.isEmpty then
      (true, ({ s with sve := { s.sve with mirSets := rest } }).finish handle (if x'.failed then stPartial else stOk) [BitVec.ofNat 32 x'.done])
    else (true, { s with sve := { s.sve with mirSets := rest ++ [x'] } })

/-- GST_RSP: what a head's module is told of a binding; a module's answer to the custodian or to a source; the end of an operation
asked for here (R373, R380, R401). -/
def State.gstResponse (s : State) (m : Routing) (gsn : Gsn) (owner : Dev) (handle : Word) : State :=
  let m := { m with status := knownStatus m.status }
  let x := m.xinfo
  let h := fld x 0 6
  if bitAt x 9 then
    if s.headExists h then s.bindHead h gsn.toNat (bitAt x 6) (bitAt x 7) (bitAt x 8) handle owner
    else (s.endBinding owner handle gsn.toNat stRange).tellCustodian 0
      { op := 4, gsn := gsn, devA := s.fxb.devnum, devB := 0, region := 0, keyRange := 0, head := BitVec.ofNat 6 h, mmode := 0, handle := 0 }
  else if bitAt x 10 then s.unbindHead h gsn.toNat
  else if handle = 0 then
    let s := if (s.outOp gsn.toNat).any (fun (e : Nat × BulkOp) => e.2.kind == 0 && e.2.peer == m.src) then s.targetReady gsn.toNat m.status else s
    if s.fxb.role = 1 then s.prepAnswer m.src gsn m.status (x.setWidth 2) else s
  else
    let r := s.mirSetAnswer handle gsn m.status
    if r.1 then r.2 else r.2.custDone handle m.status gsn.toNat owner

/-! ### Deaths (R385, R391, R394, R395) -/

/-- The mirror of a row takes its owner's place (R391). -/
def promotedRow (r : GstRow) : GstRow := { r with state := 2, owner := r.mirror, mirror := 0, mmode := 0, target := 0, epoch := r.epoch + 1 }

/-- What becomes of a row that names a dead module; answers whether the row is Absent now (R385, R394). -/
def State.deathRow (s : State) (dev : Dev) (n : Nat) : Bool × State :=
  let r := s.rowAhead n
  let g : Gsn := BitVec.ofNat 26 n
  let again (s : State) : State :=
    { s with sve := { s.sve with remirror := s.sve.remirror.filter (fun (e : Gsn × BitVec 2) => e.1 != g) ++ [(g, r.mmode)] } }
  let abort (s : State) : State :=
    match s.sve.custody.find? (fun o => o.req.op == 5 && o.req.gsn == g && 1 ≤ o.step && o.step ≤ 4) with
    | some o => s.setCust o { o with step := 6, status := stAborted }
    | none => s
  if r.state != 2 && r.state != 3 then (false, s)
  else if r.owner = dev then
    let s := abort s
    let queued := s.sve.commits.any (fun c => c.gsn == g && c.row.owner == dev && (s.row n).owner != dev)
    if queued then (false, s.queueCommit n { r with owner := (s.row n).owner, target := 0, epoch := r.epoch + 1 })
    else if r.mirror != 0 && !decide (r.mirror ∈ s.fxb.dead) then (false, again ((s.queueCommit n (promotedRow r)).raise 0x200 .svePromoted))
    else (true, s.queueCommit n { r with state := 4, target := 0 })
  else if r.state = 3 && r.target = dev then (false, (abort s).queueCommit n { r with state := 2, target := 0 })
  else if r.mirror = dev then (false, again ((s.queueCommit n { r with mirror := 0, mmode := 0 }).raise 0x200 .sveMirrorBroken))
  else (false, s)

/-- The custodian, or the first standby in a dead custodian's place, acts on the rows that name a dead module; its binding records go
(R374, R394, R395). -/
def State.deathRows (s : State) (dev : Dev) : State :=
  let rows := (s.sve.gst.filter (fun (e : Nat × GstRow) => e.2.owner == dev || e.2.mirror == dev || e.2.target == dev)).map Prod.fst
  let queued := (s.sve.commits.filter (fun c => c.row.owner == dev || c.row.mirror == dev || c.row.target == dev)).map (fun c => c.gsn.toNat)
  let x := ((rows ++ queued).foldl insertNew []).foldl (fun (acc : List Nat × State) n =>
    let y := acc.2.deathRow dev n
    (if y.1 then acc.1 ++ [n] else acc.1, y.2)) ([], s)
  let s := { x.2 with sve := { x.2.sve with binds := x.2.sve.binds.filter (fun b => b.dev != dev) } }
  let s := if x.1.isEmpty then s else s.raiseAt 0x200 .sveAbsent { kind := 1, items := x.1 }
  s.each (s.sve.custody.filter (fun o => o.req.op == 7 && (o.step == 2 || o.step == 3) && (o.peer == dev || o.req.devA == dev)))
    (fun s o => s.endCust o stAborted)

/-- A custodian without quorum commits nothing and is a member again; what was asked of it ends with STATE (R369). -/
def State.stepDown (s : State) : State :=
  let l := s.sve.custody
  let s := { s with fxb := { s.fxb with role := 0, cust := 0, quorum := false }, sve := { s.sve with commits := [], custody := [], claiming := false, claims := [] } }
  let s := s.each l (fun s o => if o.child then s else s.answerCust o.from_ o.req stState o.req.gsn 0)
  (s.raise 0x180 .fxbRole).originate

/-- LSA_EXPIRE: the origin leaves the database and is declared dead (R352, R394 to R396). -/
def State.lsaExpired (s : State) (serial : BitVec 64) : State :=
  match s.fxb.db.find? (fun x => x.serial == serial) with
  | none => s
  | some x =>
    let dev : Dev := if x.conf then x.dev else 0
    let act : Bool := dev != 0 && (s.fxb.role == 1 || (s.fxb.role == 2 && s.fxb.cust == dev))
    let s := { s with fxb := { s.fxb with db := s.fxb.db.filter (fun y => y.serial != serial), topoChanged := true,
                                          dead := if dev = 0 then s.fxb.dead else insertNew s.fxb.dead dev } }
    let s := s.raise 0x180 .fxbLsaExpire
    let s := if dev = 0 then s else s.ownerDead dev
    let s : State := if s.fxb.role == 1 && !s.quorate then s.stepDown else if act then s.deathRows dev else s
    s.dbChanged

/-! ### Taking office and the rebuild by claims (R353, R354, R372) -/

/-- Every module answers a GST_SYNC with a count of 0 with its claims, and sends it on once (R372). -/
def State.claimsAsked (s : State) (m : Routing) (ver : BitVec 64) : State :=
  let key : BitVec 64 × Dev × Bool := (ver ||| BitVec.ofNat 64 (2 ^ 63), m.src, true)
  if key ∈ s.fxb.flooded || m.src = s.fxb.devnum then s
  else
    let s := { s with fxb := { s.fxb with flooded := s.fxb.flooded ++ [key] } }
    let s := if s.safe then s else
      s.each (s.activePorts (some m.port.val)) (fun s p => s.sendOn { m with port := portFin p, dst := 4095 } (.gstSync 0 0 ver))
    s.sendClaims m.src

/-- This module becomes custodian: with a standby's replica at once, else after a rebuild by claims (R353, R372). -/
def State.takeOffice (s : State) : State :=
  let current : Bool := s.fxb.role == 2 || s.fxb.role == 3
  let s := s.setRoles (some ownSerial)
  let s := { s with fxb := { s.fxb with quorum := true }, sve := { s.sve with lease := true } }
  let s := s.confirmSelf
  let s := { s with fxb := { s.fxb with cust := s.fxb.devnum } }
  let s := s.originate
  if current then { s with sve := { s.sve with tabled := true } }
  else
    let own := ((s.mte.segs.filter (fun (e : Nat × Seg) => e.2.st != 0)).map Prod.snd).map (fun g => (s.fxb.devnum, claimOf g))
    let s := { s with sve := { s.sve with claiming := true, claims := own } }
    s.flood none (.gstSync 0 0 (BitVec.ofNat 64 s.sve.ver))

/-- ELECTION_SETTLE_EXPIRY: the roles follow from a database that has not changed for the settle time (R353, R354). -/
def State.electionSettled (s : State) : State :=
  if s.eligible.isEmpty then
    ({ s with fxb := { s.fxb with noElig := true, quorum := false, cust := 0, stby1 := 0, stby2 := 0, role := 0 } }).raise 0x180 .fxbNoEligible
  else
    match s.custodianKey with
    | some k => ({ s with fxb := { s.fxb with quorum := true } }).setRoles (some k.2)
    | none =>
      if !s.quorate then ({ s with fxb := { s.fxb with quorum := false, cust := 0 } }).raise 0x180 .fxbNoQuorum
      else
        let keys := s.eligible.map Prod.snd
        let live (d : Dev) : Option (BitVec 64) := if d = 0 then none else keys.find? (fun k => s.devOf k == d)
        let first := if s.fxb.role = 2 then some ownSerial else (live s.fxb.stby1).or (if s.fxb.role = 3 then some ownSerial else live s.fxb.stby2)
        if (first.or keys.head?) = some ownSerial then s.takeOffice else { s with fxb := { s.fxb with quorum := true } }

/-- The row that the claims for a segment give: the newest owner's claim wins, two of one epoch make it Lost, a mirror copy alone is
promoted (R372). Answers the row and whether it is a conflict or a promotion. -/
def claimedRow (live : Dev → Bool) (old : GstRow) (l : List (Dev × Claim)) : GstRow × Bool × Bool :=
  let newest (l : List (Dev × Claim)) : Option (Dev × Claim) := l.foldl (fun b x => match b with
    | none => some x
    | some y => if epochOlder y.2.epoch x.2.epoch then some x else some y) none
  let owners := l.filter (fun x => x.2.state == 1)
  let mirrors := l.filter (fun x => x.2.state == 4)
  match newest owners with
  | some (d, c) =>
    if owners.any (fun x => x.1 != d && x.2.epoch == c.epoch) then
      ({ state := 5, mmode := 0, owner := d, mirror := 0, target := 0, epoch := c.epoch }, true, false)
    else
      let held := mirrors.any (fun x => x.1 == c.partner && x.2.partner == d && x.2.epoch == c.epoch && c.mmode != 0)
      ({ state := 2, mmode := if held then c.mmode else 0, owner := d, mirror := if held then c.partner else 0, target := 0, epoch := c.epoch },
        false, false)
  | none =>
    match newest mirrors, newest (l.filter (fun x => x.2.state == 3)), newest (l.filter (fun x => x.2.state == 5)) with
    | some (d, c), _, _ => ({ state := 2, mmode := 0, owner := d, mirror := 0, target := 0, epoch := c.epoch + 1 }, false, true)
    | none, some (_, c), _ => ({ state := 4, mmode := 0, owner := c.partner, mirror := 0, target := 0, epoch := c.epoch }, false, false)
    | none, none, some (d, c) => ({ state := 5, mmode := 0, owner := d, mirror := 0, target := 0, epoch := c.epoch }, false, false)
    | none, none, none =>
      if (old.state == 2 || old.state == 3) && !live old.owner then ({ old with state := 4, target := 0, mirror := 0, mmode := 0 }, false, false)
      else if old.state == 4 || old.state == 5 then (old, false, false)
      else (freedRow old, false, false)

/-- CLAIM_WINDOW_EXPIRY: the rebuilt table is committed row by row (R372). -/
def State.claimsEnd (s : State) : State :=
  if !s.sve.claiming then s else
  let claims := s.sve.claims
  let live (d : Dev) : Bool := decide (d ∈ s.confirmed)
  let gsns := (claims.map (fun x => x.2.gsn.toNat) ++ s.sve.gst.keys).foldl insertNew []
  let s := { s with sve := { s.sve with claiming := false, tabled := true } }
  let x := gsns.foldl (fun (acc : List Nat × State) n =>
    let r := claimedRow live (acc.2.row n) (claims.filter (fun x => x.2.gsn.toNat == n))
    let s := if r.1 = acc.2.row n && !claims.any (fun x => x.2.gsn.toNat == n && x.2.state == 2) then acc.2 else acc.2.queueCommit n r.1
    let s := if r.2.2 then s.raise 0x200 .svePromoted else s
    (if r.2.1 then acc.1 ++ [n] else acc.1, s)) ([], s)
  if x.1.isEmpty then x.2
  else (x.2.raiseAt 0x200 .sveClaimConflict { kind := 1, items := x.1 }).raiseAt 0x200 .sveSegLostFab { kind := 1, items := x.1 }

/-- GST_CLAIM: kept in the claim window; later, the owner of an Absent row has it back (R372, R397). -/
def State.claimIn (s : State) (src : Dev) (c : Claim) : State :=
  if s.fxb.role != 1 then s
  else if s.sve.claiming then { s with sve := { s.sve with claims := s.sve.claims ++ [(src, c)] } }
  else
    let r := s.rowAhead c.gsn.toNat
    if r.state = 4 && r.owner = src && c.state = 1 then s.queueCommit c.gsn.toNat { r with state := 2, epoch := r.epoch + 1 } else s

/-- LEASE_LOST: two intervals without a custodian's LSA; once for each lapse (R396). -/
def State.leaseLost (s : State) : State :=
  if s.fxb.role = 1 || !s.sve.lease then s
  else ({ s with sve := { s.sve with lease := false } }).raise 0x200 .sveLeaseLost

/-- REMIRROR_DELAY_EXPIRY: the owner is asked to have a mirror again (R391). -/
def State.remirrorNow (s : State) (gsn : Gsn) : State :=
  match s.sve.remirror.find? (fun e => e.1 == gsn) with
  | none => s
  | some e =>
    let r := s.rowAhead gsn.toNat
    let s := { s with sve := { s.sve with remirror := s.sve.remirror.filter (fun x => x.1 != gsn) } }
    if s.fxb.role = 1 && r.state = 2 && r.mirror = 0 then
      s.askModule r.owner { op := 7, gsn := gsn, devA := r.owner, devB := 0, region := 0, keyRange := 0, head := 0, mmode := e.2, handle := 0 }
    else s

end Sys2Proof.Machine
end

