-- ==== Sys2Proof/Machine/Firmware.lean ====
section
/-! DEFINITION. Ndenus images: their checks, the two slots, the staging of an image on every module and the rollout in waves (R398 to
R400, R463 to R465). -/

namespace Sys2Proof.Machine

open Sys2Proof

/-! ### Images (R463, R464) -/

/-- Bytes of an image from an offset. -/
def FwImage.span (f : FwImage) (off n : Nat) : List Nat := (List.range n).map (fun i => (f.bytes.get 0 (off + i)).toNat)

/-- A little-endian field of an image. -/
def FwImage.le (f : FwImage) (off n : Nat) : Nat := ofBytesLE (f.span off n)

/-- Version, SVN and body length of an image. -/
def FwImage.version (f : FwImage) : Word := BitVec.ofNat 32 (f.le 0x008 4)
def FwImage.svn (f : FwImage) : Nat := f.le 0x006 2
def FwImage.body (f : FwImage) : Nat := f.le 0x00c 4

/-- The checks of R464 in their order, on an image of a given length. -/
def FwImage.check (f : FwImage) (len minSvn : Nat) : Status :=
  if f.le 0x000 4 != 0x4e444e53 || f.le 0x004 2 != 1 then stUnsupported
  else if f.body = 0 || 16773120 < f.body || f.body + 4096 != len || f.received != len then stRange
  else if f.le 0x030 1 != 1 then stUnsupported
  else if !Config.fwChainOk (f.span 0x040 3840) then stIntegrity
  else if !Config.fwSigOk (f.span 0x040 3840) (f.span 0 0xf40) (f.span 0xf40 64) then stIntegrity
  else if sha256 (f.span 4096 f.body) != BitVec.ofNat 256 (ofBytesBE (f.span 0x010 32)) then stIntegrity
  else if f.svn < minSvn then stState
  else stOk

/-- A slot, and the slot that does not run. -/
def State.fwSlot (s : State) (n : Bool) : FwImage := if n then s.sve.slot1 else s.sve.slot0
def State.setFwSlot (s : State) (n : Bool) (f : FwImage) : State :=
  { s with sve := if n then { s.sve with slot1 := f } else { s.sve with slot0 := f } }

/-- Write bytes into an image. -/
def FwImage.put (f : FwImage) (off : Nat) (b : List Byte) : FwImage :=
  { f with bytes := ((List.range b.length).zip b).foldl (fun t (e : Nat × Byte) => t.set 0 (off + e.1) e.2) f.bytes }

/-- The boot monitor's check of a slot: R464 on the length its header gives (R465). -/
def State.bootCheck (s : State) (n : Bool) : Status :=
  let f := s.fwSlot n
  f.check (f.body + 4096) s.crs.minSvn.toNat

/-- An image is refused: FW_REJECT and FWU_FAIL (R403, R464). -/
def State.fwRefused (s : State) : State :=
  ((({ s with sve := { s.sve with fwState := 6 } }).raise 0x008 .crsFwReject)).raise 0x200 .sveFwuFail

/-! ### The service cores (R399, R400, R465) -/

/-- The eight cores restart from the slot that now runs; an operation that a core ran goes back to the queue. -/
def State.restartCores (s : State) : State :=
  s.each (List.range 8) (fun s n => if (s.core n).st = 4 then s else
    let h := (s.core n).handle
    let s := s.setCore n { st := 1 }
    { s with mgt := { s.mgt with handles := s.mgt.handles.map (fun (x : HandleRec) => if x.handle == h && x.st == 2 then { x with st := 1 } else x) } })

/-- Answer the custodian of a rollout. -/
def State.fwDone (s : State) (st : Status) (activated : Bool) : State :=
  s.sendPlain s.sve.fwFrom 0 0 st (if activated then 1 else 0) (.fwuDone activated)

/-- Restart from the other slot, as an activation does. -/
def State.activateSlot (s : State) : State :=
  ({ s with sve := { s.sve with running := !s.sve.running, fwState := 4, actWait := false } }).restartCores

/-- The previous slot is restored after an activation: FWU_FAIL (R400). -/
def State.revertSlot (s : State) : State :=
  (({ s with sve := { s.sve with running := !s.sve.running, fwState := 7 } }).restartCores).raise 0x200 .sveFwuFail

/-- The minimum SVN rises to that of the running image and is stored in counter ring 4 (R465). -/
def State.raiseSvn (s : State) : State :=
  let v := (s.fwSlot s.sve.running).svn
  if s.crs.minSvn.toNat < v then ({ s with crs := { s.crs with minSvn := BitVec.ofNat 16 v } }).setRing 4 v else s

/-- All eight cores have started: an activation ends with FWU_DONE (R400, R465). -/
def State.coresUp (s : State) : State :=
  if (List.range 8).any (fun n => (s.core n).st == 1) || s.sve.fwState != 4 then s
  else (({ s with sve := { s.sve with fwState := 5 } }).raiseSvn).fwDone stOk true

/-- BOOT_MONITOR_CHECK: a core that boots starts from the running slot, or else from the other; with none, FW_BAD and the safe state
(R465). -/
def State.bootMonitor (s : State) (n : Nat) : State :=
  if (s.core n).st != 1 then s else
  let good (s : State) : State :=
    let f := s.fwSlot s.sve.running
    (({ s with crs := { s.crs with runSvn := BitVec.ofNat 16 f.svn } }).setCore n { st := 2 }).assignCores.coresUp
  if s.bootCheck s.sve.running = 0 then good s
  else if s.bootCheck (!s.sve.running) = 0 then
    if s.sve.fwState = 4 then good s.revertSlot else good { s with sve := { s.sve with running := !s.sve.running } }
  else s.raise 0x008 .crsFwBad

/-! ### A module in a rollout (R398, R399) -/

/-- Long operations that hold an activation back: a migration, a mirror establishment or a rewind operation (R399). -/
def State.longRuns (s : State) : Bool := !s.sve.ops.isEmpty || s.mte.rw.any (fun (e : Nat × RwRegion) => e.2.op.isSome)

/-- Start the activation where nothing holds it back. -/
def State.tryActivate (s : State) : State := if s.sve.actWait && !s.longRuns then s.activateSlot else s

/-- FWU_CTL: 1 an offer, 2 activate, 3 abort; others have no effect (R401). -/
def State.fwuCtl (s : State) (src : Dev) (step : Nat) (ver len : Word) : State :=
  match step with
  | 1 =>
    if s.sve.fwState = 4 || src = s.fxb.devnum then s
    else (({ s with sve := { s.sve with fwState := 1, fwLen := len.toNat, fwVer := ver, fwFrom := src, actWait := false } })).setFwSlot (!s.sve.running) {}
  | 2 =>
    let s : State := { s with sve := { s.sve with fwFrom := src } }
    if s.sve.fwState = 3 then ({ s with sve := { s.sve with actWait := true } }).tryActivate else s.fwDone stState false
  | 3 => if s.sve.fwState = 4 then s else { s with sve := { s.sve with fwState := 0, actWait := false } }
  | _ => s

/-- FW_CHUNK: bytes of the image offered; the last ones bring the module's own check (R398). -/
def State.fwChunkIn (s : State) (src : Dev) (off ver : Word) (b : List Byte) : State :=
  if s.sve.fwState != 1 || s.sve.fwVer != ver || s.sve.fwFrom != src || 208 < b.length || s.sve.fwLen < off.toNat + b.length then s else
  let f := (s.fwSlot (!s.sve.running)).put off.toNat b
  let f := { f with received := f.received + b.length }
  let s := s.setFwSlot (!s.sve.running) f
  if f.received < s.sve.fwLen then s
  else
    let st := f.check s.sve.fwLen s.crs.minSvn.toNat
    if st = 0 then ({ s with sve := { s.sve with fwState := 3 } }).fwDone stOk false
    else s.fwRefused.fwDone st false

/-- FW_ACTIVATION_WAIT_EXPIRY: BUSY (R399). -/
def State.actWaitEnd (s : State) : State :=
  if s.sve.actWait then ({ s with sve := { s.sve with actWait := false } }).fwDone stBusy false else s

/-! ### The rollout at the custodian (R398 to R400) -/

/-- The rollout ends. -/
def State.rolloutEnd (s : State) (st : Status) : State :=
  let v := s.sve
  let s := s.finish v.fwHandle st [BitVec.ofNat 32 v.updated.length, BitVec.ofNat 32 v.rollout.length]
  ({ s with sve := { s.sve with fwHandle := 0, rollout := [], updated := [], fwWaits := [], busyTries := [], fwStaging := false,
                                fwState := if s.sve.fwState = 3 || s.sve.fwState = 4 then 5 else s.sve.fwState } }).raise 0x200 .sveFwuDone

/-- A rollout stops: the modules not yet activated keep their image, and hear of it (R400). -/
def State.rolloutStop (s : State) : State :=
  let l := s.sve.rollout.filter (fun d => d != s.fxb.devnum && !decide (d ∈ s.fxb.dead))
  (s.each l (fun s d => s.sendPlain d 0 0 0 0 (.fwuCtl 3 0 0))).rolloutEnd stPartial

/-- Modules that a wave may take: not refused, and BUSY at most three times (R399). -/
def State.rolloutLeft (s : State) : List Dev :=
  s.sve.rollout.filter (fun d => s.sve.busyTries.get 0 d.toNat ≤ 3 && !decide (d ∈ s.fxb.dead))

/-- Start the next wave, or end the rollout, when no answer is due (R399). -/
def State.nextWave (s : State) : State :=
  if s.sve.fwHandle = 0 || !s.sve.fwWaits.isEmpty then s else
  let wave := s.rolloutLeft.take (max 1 (s.regFld 0x200 0x134 24 8))
  if wave.isEmpty then s.rolloutEnd stOk
  else
    let s := { s with sve := { s.sve with fwWaits := wave, fwStaging := false } }
    s.each wave (fun s d => s.sendPlain d 0 0 0 0 (.fwuCtl 2 s.sve.fwVer 0))

/-- Answers of modules that have been declared dead are no longer due. -/
def State.fwPoll (s : State) : State :=
  let s := s.tryActivate
  if s.sve.fwHandle = 0 then s
  else
    let w := s.sve.fwWaits.filter (fun d => !decide (d ∈ s.fxb.dead))
    ({ s with sve := { s.sve with fwWaits := w } }).nextWave

/-- FWU_DONE at the custodian: an image staged or refused, BUSY, or an activation (R398 to R400). A module that refuses is left out. -/
def State.fwuDone (s : State) (dev : Dev) (st : Status) (activated : Bool) : State :=
  if s.sve.fwHandle = 0 || !decide (dev ∈ s.sve.fwWaits) then s else
  let v := { s.sve with fwWaits := removeAll s.sve.fwWaits dev }
  let v : Sve :=
    if activated && st = 0 then { v with updated := v.updated ++ [dev], rollout := removeAll v.rollout dev }
    else if v.fwStaging && st = 0 then v
    else if st = stBusy then { v with busyTries := v.busyTries.put dev.toNat (v.busyTries.get 0 dev.toNat + 1) }
    else { v with busyTries := v.busyTries.put dev.toNat 4 }
  ({ s with sve := v }).nextWave

/-- FW_ACTIVATION_TIMEOUT: the module itself goes back to its previous slot; the custodian stops the rollout (R400). -/
def State.activationTimeout (s : State) (dev : Dev) : State :=
  let s := if dev = s.fxb.devnum && s.sve.fwState = 4 then s.revertSlot else s
  if s.sve.fwHandle != 0 && !s.sve.fwStaging && decide (dev ∈ s.sve.fwWaits) then (s.raise 0x200 .sveFwuFail).rolloutStop else s

/-- Modules in the order of a rollout: the members by device number, the second standby, the first, the custodian (R399). -/
def State.rolloutOrder (s : State) : List Dev :=
  let me := s.fxb.devnum
  let late : List Dev := [s.fxb.stby2, s.fxb.stby1].filter (fun d => d != 0 && d != me && decide (d ∈ s.confirmed))
  let rec ins (d : Dev) : List Dev → List Dev
    | [] => [d]
    | x :: t => if d.toNat < x.toNat then d :: x :: t else x :: ins d t
  ((s.confirmed.filter (fun d => d != 0 && d != me && !decide (d ∈ late))).foldl (fun l d => ins d l) []) ++ late ++ [me]

/-- FW_LOAD: bytes into the inactive slot; an offset of 0 begins a new image (R398, R496). -/
def State.fwLoad (s : State) (off : Word) (words : List Word) : Status × State :=
  if s.fxb.role != 1 || s.sve.fwHandle != 0 || s.sve.fwState = 4 then (stState, s)
  else if off.toNat % 4 != 0 || 2 ^ 24 < off.toNat + 4 * words.length then (stRange, s)
  else
    let b : List Byte := words.flatMap (fun w => (bytesLE 4 w.toNat).map (BitVec.ofNat 8))
    let f : FwImage := if off = 0 then {} else s.fwSlot (!s.sve.running)
    let f := f.put off.toNat b
    let f := { f with received := max f.received (off.toNat + b.length) }
    (stOk, ({ s with sve := { s.sve with fwState := 1 } }).setFwSlot (!s.sve.running) f)

/-- Send the image in chunks of 208 bytes (R398, R401). -/
def State.sendImage (s : State) (dev : Dev) (len : Nat) : State :=
  let f := s.fwSlot (!s.sve.running)
  s.each (List.range ((len + 207) / 208)) (fun s i =>
    let b := (f.span (208 * i) (min 208 (len - 208 * i))).map (BitVec.ofNat 8)
    s.sendPlain dev 0 0 0 0 (.fwChunk (BitVec.ofNat 32 (208 * i)) f.version b))

/-- This custodian runs no rollout. -/
def State.fwMayStart (s : State) : Bool := s.fxb.role == 1 && s.sve.fwHandle == 0 && s.sve.fwState != 4

/-- FW_START: none when it may start, else the status that ends it (R464, R496). -/
def State.fwRefusal (s : State) (len : Word) : Option Status :=
  if !s.fwMayStart then some stState
  else
    let st := (s.fwSlot (!s.sve.running)).check len.toNat s.crs.minSvn.toNat
    if st = 0 then none else some st

/-- The rollout starts: the image goes to every module (R398). -/
def State.fwStart (s : State) (len handle : Word) : State :=
  let f := s.fwSlot (!s.sve.running)
  let order := s.rolloutOrder
  let others := order.filter (fun d => d != s.fxb.devnum)
  let s := { s with sve := { s.sve with fwState := 3, fwHandle := handle, rollout := order, updated := [], fwWaits := others, busyTries := [],
                                        fwStaging := true, fwVer := f.version, fwLen := len.toNat, fwFrom := s.fxb.devnum } }
  let s := s.each others (fun s d => (s.sendPlain d 0 0 0 0 (.fwuCtl 1 f.version len)).sendImage d len.toNat)
  s.nextWave

/-- FW_ABORT: an image being loaded is dropped, a rollout stops (R496). -/
def State.fwAbort (s : State) : Status × State :=
  if s.fxb.role != 1 then (stState, s)
  else if s.sve.fwHandle != 0 then (stOk, s.rolloutStop)
  else if s.sve.fwState = 1 then (stOk, ({ s with sve := { s.sve with fwState := 0 } }).setFwSlot (!s.sve.running) {})
  else (stState, s)

end Sys2Proof.Machine
end

