-- ==== Sys2Proof/Machine/Keys.lean ====
section
/-! DEFINITION. Key ranges and key sets: the operations at the custodian, the pushes to the other modules, the stored sets and the key
slots (R440 to R449). -/

namespace Sys2Proof.Machine

open Sys2Proof

/-- Install a key set and store its record (R444 to R446). -/
def State.installKey (s : State) (r : Nat) (gen : BitVec 16) (k : KeySet) : State :=
  let s := if (s.krange r).st = 3 then s.unfence 11 r else s
  let s := s.setKrange r { st := 1, gen := gen, keys := some k }
  { s with pan := { s.pan with keys := s.pan.keys.put r (gen, k) } }

/-- Zeroize a range: its slot and its stored records; ZEROIZED (R443, R449). -/
def State.zeroize (s : State) (r : Nat) (gen : BitVec 16) : State :=
  let s := if (s.krange r).st = 3 then s.unfence 11 r else s
  let s := s.setKrange r { st := 2, gen := gen }
  ({ s with pan := { s.pan with keys := s.pan.keys.del r } }).raise 0x008 .crsZeroized

/-- A table of bases takes effect and is stored (R442, CRS_KR_BASE). -/
def State.setBases (s : State) (ver : Word) (bases : List (BitVec 27)) : State :=
  { s with crs := { s.crs with bases := bases, tblVer := ver }, pan := { s.pan with bases := bases, basesVer := ver } }

/-- The live modules other than this one. -/
def State.liveOthers (s : State) : List Dev :=
  s.confirmed.filter (fun d => d != 0 && d != s.fxb.devnum && !decide (d ∈ s.fxb.dead))

/-! ### Pushes (R442, R445) -/

/-- Send a push or a table to a module. -/
def State.sendPush (s : State) (p : KeyPush) (dev : Dev) : State :=
  match p.range with
  | none => s.sendPlain dev 0 0 0 0 (.krTable p.ver p.bases)
  | some r => s.sendPlain dev 0 0 0 0 (.krPush r p.gen p.erase (if p.erase then none else (s.krange r).keys))

/-- The result word of the operation of a push. -/
def KeyPush.result (p : KeyPush) : List Word := [match p.range with | none => p.ver | some _ => p.gen.setWidth 32]

/-- The operation of a push completes; a table is then in force here (R442, R444). -/
def State.endPush (s : State) (p : KeyPush) (st : Status) : State :=
  let s := if p.range.isNone then s.setBases p.ver p.bases else s
  s.finish p.handle st p.result

/-- A push starts: an older one of the same range gives way. -/
def State.startPush (s : State) (p : KeyPush) : State :=
  let old := s.crs.pushes.filter (fun x => x.range == p.range)
  let s := s.each (old.filter (fun x => x.handle != 0)) (fun s x => s.endPush x stPartial)
  let live := s.liveOthers
  let p := { p with waits := live, due := live }
  let s := { s with crs := { s.crs with pushes := s.crs.pushes.filter (fun x => x.range != p.range) } }
  let s := s.each live (fun s d => s.sendPush p d)
  if live.isEmpty then s.endPush p stOk else { s with crs := { s.crs with pushes := s.crs.pushes ++ [p] } }

/-- The push a module answers: the table, or a range under a generation. A KR_ACK with XINFO[0] answers a table, its generation the
version's low half. -/
def State.pushOf (s : State) (table : Bool) (r : Nat) (gen : BitVec 16) : Option KeyPush :=
  s.crs.pushes.find? (fun p => if table then p.range == none && p.ver.setWidth 16 == gen else p.range == some r && p.gen == gen)

/-- Put a changed push in its place: its operation completes when no answer is due, and it goes when every live module has it. -/
def State.putPush (s : State) (old p : KeyPush) : State :=
  let s := if p.handle != 0 && p.due.isEmpty then s.endPush p (if p.failed then stPartial else stOk) else s
  let p := if p.due.isEmpty then { p with handle := 0 } else p
  { s with crs := { s.crs with pushes := s.crs.pushes.flatMap (fun x => if x == old then (if p.waits.isEmpty then [] else [p]) else [x]) } }

/-- KR_ACK at the custodian (R442, R444, R445). -/
def State.krAck (s : State) (dev : Dev) (table : Bool) (r : Nat) (gen : BitVec 16) (st : Status) : State :=
  match s.pushOf table r gen with
  | none => s
  | some p =>
    s.putPush p { p with due := removeAll p.due dev, waits := if st = 0 then removeAll p.waits dev else p.waits, failed := p.failed || st != 0 }

/-- Modules declared dead owe no answer. -/
def State.keyPoll (s : State) : State :=
  s.each s.crs.pushes (fun s p =>
    let live (l : List Dev) : List Dev := l.filter (fun d => !decide (d ∈ s.fxb.dead))
    let q : KeyPush := { p with due := live p.due, waits := live p.waits }
    if q = p then s else s.putPush p q)

/-- KEY_WAIT_EXPIRY: KR_PULL again while a range is Missing here; pushes and tables not answered with OK again; operations that still
wait complete with PARTIAL (R445, R469). -/
def State.keyWaitEnd (s : State) : State :=
  let missing := (List.range 64).any (fun r => (s.krange r).st == 0)
  let s := if missing && s.fxb.role != 1 && s.fxb.conf && s.fxb.cust != 0 then s.sendPlain s.fxb.cust 0 0 0 0 .krPull else s
  if s.fxb.role != 1 then s
  else
    let s := s.each (s.crs.pushes.filter (fun p => p.handle != 0)) (fun s p =>
      s.putPush p { p with due := [], failed := true })
    s.each s.crs.pushes (fun s p => s.each p.waits (fun s d => s.sendPush p d))

/-- KR_PULL at the custodian: the table, and a push for every key range that has a set or has been erased (R445). -/
def State.krPull (s : State) (dev : Dev) : State :=
  if s.fxb.role != 1 then s else
  let add (s : State) (p : KeyPush) : State :=
    match s.crs.pushes.find? (fun x => x.range == p.range && x.gen == p.gen && x.ver == p.ver) with
    | some x => (s.putPush x { x with waits := insertNew x.waits dev }).sendPush x dev
    | none => ({ s with crs := { s.crs with pushes := s.crs.pushes ++ [{ p with waits := [dev] }] } }).sendPush p dev
  let blank : KeyPush := { range := none, gen := 0, erase := false, waits := [], due := [], handle := 0, failed := false }
  let s := add s { blank with ver := s.crs.tblVer, bases := s.crs.bases }
  s.each ((List.range 64).filter (fun r => (s.krange r).st == 1 || (s.krange r).st == 2)) (fun s r =>
    add s { blank with range := some r, gen := (s.krange r).gen, erase := (s.krange r).st == 2 })

/-! ### At a module (R442, R445) -/

/-- Answer the custodian. -/
def State.ackKeys (s : State) (dst : Dev) (table : Bool) (r : Nat) (gen : BitVec 16) (st : Status) : State :=
  s.sendPlain dst 0 0 st (if table then 1 else 0) (.krAck r gen)

/-- KR_TABLE: applied when it is newer than the table held (R442). -/
def State.krTableIn (s : State) (src : Dev) (ver : Word) (bases : List (BitVec 27)) : State :=
  let s := if s.crs.tblVer < ver && bases.length = 63 then s.setBases ver bases else s
  s.ackKeys src true 0 (ver.setWidth 16) stOk

/-- A generation is ahead of another, modulo 2^16 within a window of 2^15 (R445). -/
def genAhead (a b : BitVec 16) : Bool := a != b && decide ((a - b).toNat < 2 ^ 15)

/-- KR_PUSH: installed, or the range zeroized. No set is a push that does not decrypt. A Missing range holds no generation. -/
def State.krPushIn (s : State) (src : Dev) (r : Nat) (gen : BitVec 16) (erase : Bool) (k : Option KeySet) : State :=
  let x := s.krange r
  if x.st != 0 && !genAhead gen x.gen then s.ackKeys src false r gen stState
  else if erase then (s.zeroize r gen).ackKeys src false r gen stOk
  else match k with
    | none => s.ackKeys src false r gen stIntegrity
    | some k => (s.installKey r gen k).ackKeys src false r gen stOk

/-! ### The operations (R442, R444) -/

/-- A GSN whose row is not Unallocated lies in a range. -/
def State.rangeAllocated (s : State) (r : Nat) : Bool :=
  s.sve.gst.any (fun (e : Nat × GstRow) => e.2.state != 0 && s.keyRangeOf e.1 == r)

/-- Bases that never fall. -/
def risingBases (l : List (BitVec 27)) : Bool := (l.zip (l.drop 1)).all (fun e => decide (e.1.toNat ≤ e.2.toNat))

/-- The status that ends KR_SET at once, if any. -/
def State.krSetRefusal (s : State) (bases : List (BitVec 27)) : Option Status :=
  if s.fxb.role != 1 then some stState
  else if bases.length != 63 || !risingBases bases then some stRange
  else if s.sve.gst.any (fun (e : Nat × GstRow) => e.2.state != 0 && rangeOfBases bases e.1 != s.keyRangeOf e.1) then some stState
  else if s.crs.pushes.any (fun p => p.range == none && p.handle != 0) then some stBusy
  else none

/-- KR_SET: the new table goes to every module (R442). -/
def State.krSet (s : State) (bases : List (BitVec 27)) (handle : Word) : State :=
  s.startPush { range := none, gen := 0, erase := false, waits := [], due := [], handle := handle, failed := false, ver := s.crs.tblVer + 1,
                bases := bases }

/-- The status that ends KEY_GEN or KEY_IMPORT at once, if any. -/
def State.keyRefusal (s : State) (r : Nat) (keys : Option KeySet) : Option Status :=
  if s.fxb.role != 1 then some stState
  else if (s.krange r).st = 1 || (s.krange r).st = 3 || s.rangeAllocated r then some stState
  else if keys.any (fun k => k.k1 == k.k2) then some stRange
  else none

/-- Draw a key set with K1 ≠ K2 (R440, R444, log 7). -/
def State.drawKeys (s : State) : KeySet × State :=
  let a := s.fresh
  let b := a.2.fresh
  let c := b.2.fresh
  let k1 : BitVec 256 := BitVec.ofNat 256 a.1
  ({ k1 := k1, k2 := k1 + BitVec.ofNat 256 (b.1 % (2 ^ 256 - 1) + 1), kt := BitVec.ofNat 256 c.1 }, c.2)

/-- A key set or an erase takes effect here and goes to the other modules (R444, R445). -/
def State.keyOp (s : State) (r : Nat) (k : Option KeySet) (handle : Word) : State :=
  let gen := (s.krange r).gen + 1
  let s := match k with
    | some k => s.installKey r gen k
    | none => s.zeroize r gen
  s.startPush { range := some r, gen := gen, erase := k.isNone, waits := [], due := [], handle := handle, failed := false }

/-! ### Key slots (R448) -/

/-- KEY_SLOT_PARITY_FAIL: the slot is fenced and reloaded. -/
def State.slotParity (s : State) (r : Nat) : State :=
  let x := s.krange r
  if x.st != 1 || x.reload then s
  else ((s.setKrange r { x with reload := true }).raiseAt 0x008 .crsKeySlot { dom := 10, inst := r }).fence 10 r

/-- KEY_SLOT_RELOAD_DONE: the slot holds its stored record again. -/
def State.slotReloaded (s : State) (r : Nat) : State :=
  let x := s.krange r
  if !x.reload then s
  else match s.pan.keys.find r with
    | some (g, k) => (s.setKrange r { x with reload := false, gen := g, keys := some k }).unfence 10 r
    | none => s

/-- KEY_FENCED: the reload has failed. -/
def State.slotFenced (s : State) (r : Nat) : State :=
  let x := s.krange r
  if !x.reload then s
  else (((s.setKrange r { st := 3, gen := x.gen }).unfence 10 r).raiseAt 0x008 .crsKeyFenced { dom := 11, inst := r }).fence 11 r

/-- A line whose key slot is being reloaded waits, and every line while Crust does not run (R448, R485). -/
def State.keyWaits (s : State) (a : LineAddr) : Bool := (s.krange (s.keyRangeOf (lineGsn a))).reload || s.halted 0x008

end Sys2Proof.Machine
end

