-- ==== Sys2Proof/Machine/Discard.lean ====
section
/-! DEFINITION. Discard: the check of the whole range at every owner, the discard of its whole pages, and the answers of peers (R99 to
R102). -/

namespace Sys2Proof.Machine

open Sys2Proof

/-- Pages that a range covers only in part: its two ends (R99). -/
def discardPartial (fga : Fga) (lines : Word) : Nat :=
  let a := fga.toNat / 64
  let b := discardEnd fga lines
  if a / 64 = b / 64 then (if a % 64 = b % 64 then 0 else 1)
  else (if a % 64 = 0 then 0 else 1) + (if b % 64 = 0 then 0 else 1)

/-- The module that answers for a segment: its owner, this module for a Local one. -/
def State.discardOwner (s : State) (gsn : Nat) : Dev :=
  let e := s.lookup gsn
  if e.st = 1 then s.fxb.devnum else e.owner

/-- This module's check of its own part (R99). -/
def State.discardLocalOk (s : State) (gsn : Nat) : Bool :=
  match s.lsiOf gsn with
  | some lsi => (s.seg lsi).st == 1
  | none => false

/-- Discard a segment's pages here; a copy of the segment that is being made, and its mirror, hear of it (R102, R378). -/
def State.discardHere (s : State) (gsn : Nat) (pages : List Nat) : State :=
  s.each pages (fun s p =>
    let s := s.discardPage gsn p false
    let s := match s.outOp gsn with
      | some (k, o) => s.setOp k { o with dirty := insertNew o.dirty p }
      | none => s
    match s.lsiOf gsn with
    | some lsi =>
      let g := s.seg lsi
      if g.mmode = 0 then s else s.sendPlain g.partner 0 0 0 0 (.pageCtl (BitVec.ofNat 44 (gsn * segPages + p)) 1)
    | none => s)

/-- The status that ends a discard at once, if any: the range lies in the FGA space, and no segment of it reads Invalid or Lost (R99). -/
def State.discardRefusal (s : State) (fga : Fga) (lines : Word) : Option Status :=
  if lines = 0 || fga.toNat % 64 != 0 || 2 ^ 50 < discardEnd fga lines then some stRange
  else if (discardSpan fga lines).any (fun g => (s.lookup g).st == 0 || (s.lookup g).st == 5 || (s.discardOwner g == s.fxb.devnum && !s.discardLocalOk g)) then
    some stRange
  else none

/-- Put a changed discard in its place. -/
def State.setDiscard (s : State) (old new : DiscardOp) : State :=
  { s with mte := { s.mte with discards := s.mte.discards.map (fun d => if d == old then new else d) } }

/-- Every owner has answered OK: the discard itself starts (R99). -/
def State.discardGo (s : State) (d : DiscardOp) : State :=
  let segs := discardSpan d.fga d.lines
  let mine := segs.filter (fun g => s.discardOwner g == s.fxb.devnum)
  if mine.any (fun g => !s.discardLocalOk g) then s.endDiscard d stRange else
  let others := ((segs.map s.discardOwner).filter (fun o => o != s.fxb.devnum)).foldl insertNew []
  let n := mine.foldl (fun k g => k + (discardPages d.fga d.lines g).length) 0
  let s := s.each mine (fun s g => s.discardHere g (discardPages d.fga d.lines g))
  let d' : DiscardOp := { d with checks := [], confirms := others, pages := n }
  let s := s.setDiscard d d'
  let s := s.each others (fun s o => s.sendPlain o d.id 0 0 0 (.discardGo d.id d.fga d.lines))
  s.discardStep d'

/-- The discard command starts: every owner checks its part (R99). -/
def State.discardStart (s : State) (handle : Word) (fga : Fga) (lines : Word) : State :=
  let t := s.newTag
  let s := t.2
  let owners := (((discardSpan fga lines).map s.discardOwner).filter (fun o => o != s.fxb.devnum)).foldl insertNew []
  let d : DiscardOp := { handle := handle, fga := fga, lines := lines, checks := owners, confirms := [], pages := 0,
                         partial_ := discardPartial fga lines, id := t.1 }
  let s := { s with mte := { s.mte with discards := s.mte.discards ++ [d] } }
  let s := s.each owners (fun s o => s.sendPlain o d.id 0 0 0 (.discardCheck d.id fga lines))
  if owners.isEmpty then s.discardGo d else s

/-- DISCARD_CHECK_ANSWER: an owner answers the check, or confirms the pages it has discarded (R99). -/
def State.discardAnswer (s : State) (dev : Dev) (tag : BitVec 16) (confirm : Bool) (st : Status) (pages : Nat) : State :=
  match s.mte.discards.find? (fun d => d.asker.isNone && d.id == tag && decide (dev ∈ (if confirm then d.confirms else d.checks))) with
  | none => s
  | some d =>
    if confirm then
      let d' : DiscardOp := { d with confirms := removeAll d.confirms dev, pages := d.pages + pages }
      (s.setDiscard d d').discardStep d'
    else if st != 0 then s.endDiscard d stRange
    else
      let d' : DiscardOp := { d with checks := removeAll d.checks dev }
      let s := s.setDiscard d d'
      if d'.checks.isEmpty then s.discardGo d' else s

/-- An owner's part of another module's check: whether each of its segments of the range is Allocated (R99). -/
def State.discardAsked (s : State) (from_ : Dev) (id : BitVec 16) (fga : Fga) (lines : Word) : State :=
  let mine := (discardSpan fga lines).filter (fun g => s.discardOwner g == s.fxb.devnum)
  s.sendPlain from_ id 0 (if mine.all s.discardLocalOk then stOk else stRange) 0 (.discardRsp id false 0)

/-- An owner's part of another module's discard: its whole pages of the range; it confirms them once their UNMAPs have taken effect (R99,
R101). -/
def State.discardTold (s : State) (from_ : Dev) (id : BitVec 16) (fga : Fga) (lines : Word) : State :=
  let mine := (discardSpan fga lines).filter (fun g => s.discardOwner g == s.fxb.devnum && s.discardLocalOk g)
  let s := s.each mine (fun s g => s.discardHere g (discardPages fga lines g))
  let d : DiscardOp := { handle := 0, fga := fga, lines := lines, checks := [], confirms := [],
                         pages := (mine.map (fun g => (discardPages fga lines g).length)).sum, partial_ := 0, id := id, asker := some from_ }
  ({ s with mte := { s.mte with discards := s.mte.discards ++ [d] } }).discardStep d

/-- An owner has not answered in time: TIMEOUT (R99). -/
def State.discardTimeout (s : State) (ok : DiscardOp → Bool) : State :=
  s.each (s.mte.discards.filter (fun d => d.asker.isNone && !(d.checks.isEmpty && d.confirms.isEmpty) && ok d)) (fun s d => s.endDiscard d stTimeout)

end Sys2Proof.Machine
end

