-- ==== Sys2Proof/Machine/Regions.lean ====
section
/-! DEFINITION. The commit of region attributes and of region moves at a safe point (R95 to R98). -/

namespace Sys2Proof.Machine

open Sys2Proof

/-- A region's attributes as the shadows give them. -/
def State.shadowRegion (s : State) (r : Nat) : Region :=
  let g := s.region r
  { g with attr0 := (s.mte.shAttr0.find r).getD g.attr0, attr1 := (s.mte.shAttr1.find r).getD g.attr1 }

/-- A segment's region as the shadows give it. -/
def State.shadowSegRgn (s : State) (lsi : Nat) : Nat := ((s.mte.shSegRgn.find lsi).getD (s.seg lsi).region).toNat

/-- Regions and segments that the shadows change. -/
def State.changedRegions (s : State) : List Nat :=
  ((s.mte.shAttr0.keys ++ s.mte.shAttr1.keys).foldl insertNew []).filter (fun r => s.shadowRegion r != s.region r)
def State.movedSegs (s : State) : List Nat := s.mte.shSegRgn.keys.filter (fun i => s.shadowSegRgn i != (s.seg i).region.toNat)

/-- Segments whose attributes change (R97). -/
def State.commitSegs (s : State) : List Nat := (s.changedRegions.flatMap s.regionSegs ++ s.movedSegs).foldl insertNew []

/-- A rewind operation or a Switch holds the admission to a segment too (R302, R380). -/
def State.heldElsewhere (s : State) (lsi : Nat) : Bool :=
  ((s.rwr (s.seg lsi).region.toNat).op.any (fun o => o.kind != 1 && o.phase != 0 && o.phase != 4)) ||
  (s.outOp (s.seg lsi).gsn.toNat).any (fun (e : Nat × BulkOp) => e.2.phase == 3)

/-- Admission to the segments of a commit goes on. -/
def State.resumeSegs (s : State) (l : List Nat) : State := s.freeSegs (l.filter (fun i => !s.heldElsewhere i))

/-- Step 4: every shadow at once, journaled; a region whose rewind is switched on starts at epoch 0 (R97, R286). -/
def State.applyRegions (s : State) : State :=
  let segs := s.commitSegs
  let moved := s.movedSegs
  let regs := s.changedRegions
  let s := s.each (regs.filter (fun r => (s.shadowRegion r).cache = 2 && (s.region r).cache != 2)) (fun s r =>
    s.sweepAll (.region (BitVec.ofNat 8 r)))
  let s := s.each moved (fun s i => s.sweepAll (segRange (s.seg i).gsn.toNat))
  let sh := s.mte.shSegRgn
  let s := s.each regs (fun s r =>
    let g := s.shadowRegion r
    let s := if g.rewind && !(s.region r).rewind then s.setRwr r { s.rwr r with epoch := 0 } else s
    (s.setRegion r g).journal { type := 0x0d, arg := BitVec.ofNat 8 r, x := BitVec.ofNat 64 (g.attr0.toNat + g.attr1.toNat * 2 ^ 32), y := 0, z := 0 })
  let s := { s with mte := { s.mte with shAttr0 := [], shAttr1 := [], shSegRgn := [], commit := 0 },
                    pages := { s.pages with committing := removeAll s.pages.committing 0x030 } }
  let s := s.each moved (fun s i => s.changeSeg i { s.seg i with region := (sh.find i).getD (s.seg i).region })
  ((s.resumeSegs segs).handHigh).rwCheck.tendJournal

/-- A rewind operation runs in a region that the commit changes, or that a segment leaves or joins (R298). -/
def State.commitRewinds (s : State) : Bool :=
  (s.changedRegions ++ s.movedSegs.flatMap (fun i => [(s.seg i).region.toNat, s.shadowSegRgn i])).any (fun r => (s.rwr r).op.isSome)

/-- The safe point, where it is reached and no rewind operation runs (R97, R298). -/
def State.regionPoll (s : State) : State :=
  if s.mte.commit = 1 && s.segsQuiet s.commitSegs && !s.commitRewinds then s.applyRegions else s

/-- A commit starts, or is tried again (R97, R98). -/
def State.startCommitRegions (s : State) : State :=
  let s := { s with mte := { s.mte with commit := 1 }, pages := { s.pages with committing := insertNew s.pages.committing 0x030 } }
  (s.holdSegs s.commitSegs).regionPoll

/-- The safe point is not reached in time: the attempt is abandoned (R98). -/
def State.commitAbandoned (s : State) : State :=
  if s.mte.commit = 1 then
    (({ s with mte := { s.mte with commit := 2 } }).resumeSegs s.commitSegs).raise 0x030 .mteCommitRetry
  else s

/-- The retry (R98). -/
def State.commitRetry (s : State) : State := if s.mte.commit = 2 then s.startCommitRegions else s

/-- A write of a shadow cancels a pending commit (R98). -/
def State.cancelCommit (s : State) : State :=
  if s.mte.commit = 0 then s
  else
    ({ s with mte := { s.mte with commit := 0 }, pages := { s.pages with committing := removeAll s.pages.committing 0x030 } }).resumeSegs
      s.commitSegs

end Sys2Proof.Machine
end

