-- ==== Sys2Proof/Machine/MediumCmds.lean ====
section
/-! DEFINITION. The commands of the medium and the translation engine that deliver no data to a slice: channel and die
events, stripes, journal, checkpoints, scraper (R216 to R278). -/

namespace Sys2Proof.Machine

open Sys2Proof

/-- CRUMB_READ_TIMEOUT (R246). -/
def execCrumbReadTimeout (ppa : Ppa) (crumb : Fin 8) (s : State) : Host.Outcome State Fault Refusal :=
  .next (s.withPins (fun s => s.readTimeout ppa crumb))

/-- BUS_CRC_FAIL (R216, R241). -/
def execBusCrcFail (ch : BusTransfer) (s : State) : Host.Outcome State Fault Refusal :=
  .next (s.withPins (fun s => s.busCrcFail ch.ch.val ch.op))

/-- ERASE_DONE (R255, R277, R278). -/
def execEraseDone (block : Ppa) (s : State) : Host.Outcome State Fault Refusal :=
  .next (s.withPins (fun s => s.eraseDone (ppaBlock block)))

/-- ERASE_FAILURE (R241, R276). -/
def execEraseFailure (block : Ppa) (s : State) : Host.Outcome State Fault Refusal :=
  .next (s.withPins (fun s => s.eraseFailure (ppaBlock block)))

/-- RESUME_IDLE_EXPIRY: the suspended operation resumes (R232). -/
def execResumeIdleExpiry (die : Fin 256) (s : State) : Host.Outcome State Fault Refusal :=
  .next (s.resume die.val)

/-- MEDIA_THERMAL_ROUND (R226, R238). -/
def execMediaThermalRound (s : State) : Host.Outcome State Fault Refusal := .next s.mediaRound

/-- MCH_GRPMODE_COMMIT (R235). -/
def execMchGrpmodeCommit (s : State) : Host.Outcome State Fault Refusal :=
  .next (if 0x080 ∈ s.pages.committing then
    { s.commitModes with shadow := s.shadow.del (regAddr 0x080 0x104), pages := { s.pages with committing := removeAll s.pages.committing 0x080 } }
  else s)

/-- MODE_MOVE_END (R235). -/
def execModeMoveEnd (g : Fin 16) (s : State) : Host.Outcome State Fault Refusal := .next (s.modeMoveEnd g.val)

/-- STRIPE_GATHER_TIMEOUT: the open stripe is closed with filler pages (R63). -/
def execStripeGatherTimeout (s : State) : Host.Outcome State Fault Refusal := .next (s.withPins (fun s => s.closeGather true))

/-- STRIPE_ISSUE (R191, R215, R229). -/
def execStripeIssue (g : Fin 16) (s : State) : Host.Outcome State Fault Refusal :=
  .next (s.withPins (fun s => s.issueStripe g.val))

/-- FRAME_TRANSFER_DONE (R193). -/
def execFrameTransferDone (lmp : Lmp) (s : State) : Host.Outcome State Fault Refusal := .next ((s.walkRow lmp).frameTransferred lmp)

/-- STAGE_AGE_EXPIRY: a frame Dirty for the stage age is handed over (R196). -/
def execStageAgeExpiry (lmp : Lmp) (s : State) : Host.Outcome State Fault Refusal :=
  .next (s.withPins (fun s => match s.frameOf lmp with
    | some (n, _) => (s.handOver n).pump
    | none => s))

/-- FILL_WINDOW_BOUNDARY: the second-touch filter is cleared (R195). -/
def execFillWindowBoundary (s : State) : Host.Outcome State Fault Refusal :=
  .next { s with dtc := { s.dtc with touched := [] } }

/-- PROGRAM_FAILURE (R241, R275). -/
def execProgramFailure (stripe : Nat) (die : Fin 256) (s : State) : Host.Outcome State Fault Refusal :=
  .next (s.withPins (fun s => s.programFailure stripe die.val))

/-- WSN_RESERVE: the next block's reservation is appended, and its journal stripe is due (R251, R259). -/
def execWsnReserve (s : State) : Host.Outcome State Fault Refusal := .next (s.withPins (fun s => s.reserveWsn.tendJournal))

/-- JOURNAL_FLUSH_EXPIRY: the journal stripe is closed with PAD entries and programmed (R259). -/
def execJournalFlushExpiry (s : State) : Host.Outcome State Fault Refusal := .next (s.withPins State.closeJournal)

/-- CHECKPOINT_WRITE (R262). -/
def execCheckpointWrite (step : CkptStep) (s : State) : Host.Outcome State Fault Refusal :=
  .next (s.withPins (fun s => s.checkpoint step))

/-- SCRAPER_VICTIM_SELECT (R271 to R273). -/
def execScraperVictimSelect (g : Fin 16) (s : State) : Host.Outcome State Fault Refusal :=
  .next (s.withPins (fun s => if s.frozen then s else s.scrape g.val))

/-- RELOCATION_PROGRAMMED: SET_RELEASE is appended once no live page is left, and its journal stripe is due; in Freeze and Relocate of a
re-form, which pause the scraper and map updates, it waits for Resume (R206, R259, R273). -/
def execRelocationProgrammed (setid : BitVec 64) (s : State) : Host.Outcome State Fault Refusal :=
  .next (s.withPins (fun s => if s.frozen then { s with dtc := { s.dtc with paused := insertNew s.dtc.paused setid.toNat } }
    else (s.relocDone setid.toNat).tendJournal))

/-- SET_RELEASE_DURABLE (R255, R273). -/
def execSetReleaseDurable (setid : BitVec 64) (s : State) : Host.Outcome State Fault Refusal :=
  .next (s.withPins (fun s => s.releaseDurable setid.toNat))

/-- The channels have trained and the dies' lists are read; the survey's reads begin: every block unanchored with its counter at
65,536, crumb 0 of the oldest page of every block in use (R213, R216, R227, R236). A surveyed medium is not surveyed again before a reset. -/
def State.startSurvey (s : State) : State :=
  if s.mch.surveyed then s else
  let s := { s with mch := { s.mch with blocks := (s.mch.blocks.map (fun (e : Nat × Block) =>
    (e.1, { e.2 with reads := 65536, anchored := false }))).filter (fun (e : Nat × Block) => !decide (e.2 = ({} : Block))) } }
  let s := s.each (List.range 64) (fun s ch => if s.chanState ch = 0 then s.setRegFld (chanPage ch) 0x100 29 3 1 else s)
  let s := s.each (List.range 256) State.readList
  s.each (s.mch.blocks.filter (fun (e : Nat × Block) => e.2.st == 1)) (fun s e =>
    match s.blockPages e.1 with
    | p :: _ => s.issueRead (BitVec.ofNat 32 p) 0 .survey
    | [] => s)

/-- DRIFT_SURVEY_START (R213, R227). -/
def execDriftSurveyStart (s : State) : Host.Outcome State Fault Refusal := .next (s.withPins State.startSurvey)

/-- The survey ends once none of its reads is left: DONE, blocks over the ceiling requested with reason drift, oldest first
(R227, R239). -/
def State.endSurvey (s : State) : State :=
  if s.mch.surveyed || s.mch.reads.any (fun r => r.why == .survey) then s else
  let s := { s with mch := { s.mch with surveyed := true } }
  let stale := s.mch.blocks.filter (fun (e : Nat × Block) => e.2.st == 1 && s.overCeiling e.1)
  let ordered := stale.foldl (fun acc e => older e acc) []
  let s := s.each ordered (fun s e => s.askRefresh e.1 4)
  s.raise 0x080 .mchSurvey
where
  /-- insert by drift age, oldest first -/
  older (e : Nat × Block) : List (Nat × Block) → List (Nat × Block)
    | [] => [e]
    | x :: t => if x.2.d < e.2.d then e :: x :: t else x :: older e t

/-- SURVEY (R227, R239). -/
def execSurvey (s : State) : Host.Outcome State Fault Refusal := .next (s.withPins State.endSurvey)

end Sys2Proof.Machine
end

