-- ==== Sys2Proof/Machine/RequestCmds.lean ====
section
/-! DEFINITION. The commands of the request path at a slice, of programmed pages and the journal, and of a running rewind
operation. -/

namespace Sys2Proof.Machine

open Sys2Proof

/-- MISS_FULL_WAIT_END (R108). -/
def execMissFullWaitEnd (sl : Fin 8) (s : State) : Host.Outcome State Fault Refusal :=
  .next (s.withPins (fun s => s.missFullEnd sl.val))

/-- TIER_LOOKUP_DONE (R50, R53, R54, R190). -/
def execTierLookupDone (line : LineAddr) (s : State) : Host.Outcome State Fault Refusal := .next (s.tierLookup line)

/-- MAP_LOOKUP_DONE (R195, R248). -/
def execMapLookupDone (line : LineAddr) (s : State) : Host.Outcome State Fault Refusal := .next (s.mapLookup line)

/-- CRUMB_READ_DONE (R225 to R228). -/
def execCrumbReadDone (ppa : Ppa) (crumb : Fin 8) (o : CrumbOutcome) (s : State) : Host.Outcome State Fault Refusal :=
  .next (s.withPins (fun s => if s.chanHalted (ppaChan ppa) then s else s.crumbDone ppa crumb o))

/-- RECONSTRUCTION_DONE (R231, R243). -/
def execReconstructionDone (ppa : Ppa) (crumb : Fin 8) (mates : List CrumbOutcome) (s : State) : Host.Outcome State Fault Refusal :=
  .next (s.withPins (fun s => if s.chanHalted (ppaChan ppa) then s else s.reconDone ppa crumb mates))

/-- MERGE_DRAIN_AGE_EXPIRY (R134). -/
def execMergeDrainAgeExpiry (line : LineAddr) (s : State) : Host.Outcome State Fault Refusal :=
  .next (s.drainMarks (sliceHash line) (fun m => m.line == line && !m.draining))

/-- PAGE_FILL_DONE (R54, R191, R192, R228). -/
def execPageFillDone (lmp : Lmp) (got : List (CrumbOutcome × Bool)) (s : State) : Host.Outcome State Fault Refusal :=
  .next (s.withPins (fun s => s.pageFill lmp got))

/-- PROGRAM_DONE (R61, R191, R249, R258, R290). -/
def execProgramDone (stripe : Nat) (s : State) : Host.Outcome State Fault Refusal :=
  .next (s.withPins (fun s => (s.programDone stripe).checkShort.rwCheck))

/-- WSN_RESERVE_DURABLE (R251). -/
def execWsnReserveDurable (s : State) : Host.Outcome State Fault Refusal :=
  .next (s.withPins (fun s => s.wsnDurable.rwCheck))

/-- INVALIDATION_DONE (R118, R122). -/
def execInvalidationDone (sl : Fin 8) (s : State) : Host.Outcome State Fault Refusal := .next (s.withPins (fun s => s.invDone sl.val))

/-- SLC_LOCK_COMMIT: the shadows of a pending commit are applied (R125). -/
def execSlcLockCommit (sl : Fin 8) (s : State) : Host.Outcome State Fault Refusal :=
  .next (if slcPage sl.val ∈ s.pages.committing then s.commitLocks sl.val else s)

/-- PRELOAD_DONE (R128). -/
def execPreloadDone (sl : Fin 8) (grp : Fin 4) (s : State) : Host.Outcome State Fault Refusal :=
  .next (s.withPins (fun s => s.preloadDone sl.val grp.val))

/-- PB_SRAM_UE (R135, R514). -/
def execPbSramUe (sl : Fin 8) (at_ : PbPlace) (s : State) : Host.Outcome State Fault Refusal :=
  .next (s.withPins (fun s => (s.pbUe sl.val at_).admitAll sl.val))

/-- The slice does not accept requests for the local service timeout: it is fenced (R73, R514). -/
def State.sliceSilent (s : State) (n : Nat) : State :=
  if s.isFenced 4 n then s else
  ((s.raiseAt (slcPage n) .slcLsvcTimeout { dom := 4, inst := n }).fenceSlice n).admitAll n

/-- SLICE_FENCE (R514). -/
def execSliceFence (sl : Fin 8) (s : State) : Host.Outcome State Fault Refusal := .next (s.withPins (fun s => s.sliceSilent sl.val))

/-- REWIND_MARK_HOLD_END (R300). -/
def execRewindMarkHoldEnd (region : BitVec 8) (s : State) : Host.Outcome State Fault Refusal :=
  .next (s.markHoldEnd region.toNat)

/-- RW_MARK_DURABLE (R300). -/
def execRwMarkDurable (region : BitVec 8) (s : State) : Host.Outcome State Fault Refusal :=
  .next (s.withPins (fun s => s.markDurable region.toNat))

/-- REWIND_MARK_HOLD_TIMEOUT (R316). -/
def execRewindMarkHoldTimeout (region : BitVec 8) (s : State) : Host.Outcome State Fault Refusal :=
  .next (s.withPins (fun s => s.markTimeout region.toNat))

/-- REWIND_TO_QUIESCE_END (R302). -/
def execRewindToQuiesceEnd (region : BitVec 8) (s : State) : Host.Outcome State Fault Refusal :=
  .next (s.withPins (fun s => s.toQuiesceEnd region.toNat))

/-- RW_VOID_DURABLE (R302). -/
def execRwVoidDurable (region : BitVec 8) (s : State) : Host.Outcome State Fault Refusal :=
  .next (s.withPins (fun s => s.voidDurable region.toNat))

/-- RW_DONE_DURABLE (R302, R303). -/
def execRwDoneDurable (region : BitVec 8) (s : State) : Host.Outcome State Fault Refusal :=
  .next (s.withPins (fun s => s.doneDurable region.toNat))

/-- REWIND_QUIESCE_TIMEOUT (R316). -/
def execRewindQuiesceTimeout (region : BitVec 8) (s : State) : Host.Outcome State Fault Refusal :=
  .next (s.withPins (fun s => s.quiesceTimeout region.toNat))

end Sys2Proof.Machine
end

