-- ==== Sys2Proof/Machine/CustodyCmds.lean ====
section
/-! DEFINITION. The commands of segment custody, migration, mirroring, firmware and key distribution, and what this module's messages to
itself and its commits do (R365 to R404, R442 to R449, R73, R99). -/

namespace Sys2Proof.Machine

open Sys2Proof

/-- What a custody message does at its destination (R401). -/
def State.custodyMsg (s : State) (r : Routing) (m : Msg) : State :=
  match m with
  | .gstReq g =>
    let atTarget : Bool := g.devB == s.fxb.devnum && (match s.lsiOf g.gsn.toNat with
      | some i => (s.seg i).st == 2 || ((s.seg i).st == 4 && !(s.seg i).tentative) || s.sve.recWaits.any (fun w => w.gsn == g.gsn)
      | none => false)
    if bitAt r.xinfo 0 then s.moduleReq r.src g
    else if g.op == 6 && (s.fxb.role != 1 || atTarget) then s.switchAsked r.src g.gsn
    else s.custodyReq r.src g
  | .gstRsp gsn owner handle => s.gstResponse r gsn owner handle
  | .gstUpd ver row gsn => s.gstUpdate (some r.port.val) ver.toNat row gsn
  | .gstAck ver => s.gstAcked r.src ver.toNat
  | .gstSync first count ver => if count = 0 then s.claimsAsked r ver else s.syncRows r.src first count ver.toNat
  | .gstClaim c => s.claimIn r.src c
  | .blkData line lines reqDev => s.blkIn r line lines reqDev
  | .pageCtl page kind => s.pageCtlIn r page kind.toNat
  | .pageAck page => s.pageAcked page.toNat r.status
  | .lineAck line => s.lineAcked line r.status
  | .rwMarker region epoch => s.holderMark r.src r.tag region epoch
  | .rwFwd op region epoch => s.holderFwd r.src r.tag op.toNat region epoch
  | .rwConf => s.rwConfirm r.src r.tag r.status
  | .fwChunk off ver bytes => s.fwChunkIn r.src off ver bytes
  | .fwuCtl step ver len => s.fwuCtl r.src step.toNat ver len
  | .fwuDone activated => s.fwuDone r.src r.status activated
  | .krTable ver bases => s.krTableIn r.src ver bases
  | .krPush n gen erase keys => s.krPushIn r.src n gen erase keys
  | .krAck n gen => s.krAck r.src (bitAt r.xinfo 0) n gen r.status
  | .krPull => s.krPull r.src
  | .discardCheck id fga lines => s.discardAsked r.src id fga lines
  | .discardGo id fga lines => s.discardTold r.src id fga lines
  | .discardRsp id confirm pages => s.discardAnswer r.src id confirm r.status pages.toNat
  | _ => s

/-- One piece of work that this module still has with itself: a message to itself, or a commit. Answers whether there was one. -/
def State.custodyStep (s : State) : Bool × State :=
  match (if s.halted 0x200 then [] else s.sve.selfq) with
  | (r, m) :: t => (true, ({ s with sve := { s.sve with selfq := t } }).custodyMsg r m)
  | [] =>
    match s.sve.commits with
    | [] => (false, s)
    | c :: _ =>
      if !c.started then (true, s.startCommit)
      else if c.waits.isEmpty then
        (match s.endCommit with
        | (some c, s) => (true, s.afterCommit c)
        | (none, s) => (false, s))
      else (false, s)

/-- Such work until none is left. -/
def State.custodyRun : Nat → State → State
  | 0, s => s
  | n + 1, s =>
    let r := s.custodyStep
    if r.1 then State.custodyRun n r.2 else r.2

/-- What follows from a command: operations that can go on, then this module's work with itself. -/
def State.drain (s : State) : State :=
  let s := State.custodyRun 65536 s
  State.custodyRun 65536 (((((s.switchSteps.markersGo).freeUpdates).regionPoll).keyPoll).fwPoll)

/-- A custody message arrives: it is taken up, or waits while the service engine does not run (R485). -/
def State.custodyIn (s : State) (r : Routing) (m : Msg) : State :=
  (s.msgIn r m (fun s =>
    if s.halted 0x200 then { s with sve := { s.sve with selfq := s.sve.selfq ++ [(r, m)] } } else s.custodyMsg r m)).drain

/-! ### The request path, where it lets an operation go on -/

/-- LINE_CHECK_DONE; a line of a key slot that is being reloaded waits (R435 to R438, R448). -/
def execLineCheckDone (line : LineAddr) (s : State) : Host.Outcome State Fault Refusal :=
  .next (s.withPins (fun s => if s.keyWaits line then s else s.lineCheck line))

/-- SECOND_SOURCE_READ_DONE (R436, R448). -/
def execSecondSourceReadDone (line : LineAddr) (s : State) : Host.Outcome State Fault Refusal :=
  .next (s.withPins (fun s => if s.keyWaits line then s else s.secondDone line))

/-- FILL_ARRIVAL (R52, R107, R112, R113). -/
def execFillArrival (line : LineFill) (s : State) : Host.Outcome State Fault Refusal :=
  .next (s.withPins (fun s => (s.fillArrive line.line line.replays.val).drain))

/-- LANE_ENTRY_RELEASE (R131 to R133, R448). -/
def execLaneEntryRelease (sl : Fin 8) (uid : Nat) (s : State) : Host.Outcome State Fault Refusal :=
  .next (s.withPins (fun s =>
    if (s.slice sl.val).lanes.any (fun e => e.uid == uid && s.keyWaits e.line) then s else (s.releaseEntry sl.val uid).drain))

/-- DTC_LINE_ACCEPT (R134, R192, R432, R448). -/
def execDtcLineAccept (line : LineAddr) (s : State) : Host.Outcome State Fault Refusal :=
  .next (s.withPins (fun s => if s.keyWaits line then s else (s.drainOne (sliceHash line) line).pump.drain))

/-- JOURNAL_STRIPE_PROGRAMMED (R258, R263, R304, R371). -/
def execJournalStripeProgrammed (s : State) : Host.Outcome State Fault Refusal :=
  .next (s.withPins (fun s => ((s.journalDone.dropsDurable).rwCheck.recAcks).drain))

/-! ### Waits on peers (R73, R74, R99) -/

/-- ERR: an owner refuses a request (R85, R346, R383). -/
def execErr (m : Routing) (s : State) : Host.Outcome State Fault Refusal :=
  .next (s.withPins (fun s => (s.rspIn m .err (fun s => s.errRsp m)).drain))

/-- REMOTE_REQUEST_TIMEOUT (R73, R99). -/
def execRemoteRequestTimeout (tag : BitVec 16) (s : State) : Host.Outcome State Fault Refusal :=
  .next (s.withPins (fun s =>
    ((s.remoteTimeout tag).discardTimeout (fun d => d.id == tag && (d.checks ++ d.confirms).any (fun o => !s.unreachable o))).drain))

/-- FABRIC_DELIVERY_TIMEOUT (R73, R99, R162). -/
def execFabricDeliveryTimeout (dev : Dev) (s : State) : Host.Outcome State Fault Refusal :=
  .next (s.withPins (fun s =>
    ((s.deliveryTimeout dev).discardTimeout (fun d => s.unreachable dev && decide (dev ∈ d.checks ++ d.confirms))).drain))

/-- DISCARD_CHECK_ANSWER (R99). -/
def execDiscardCheckAnswer (dev : Dev) (tag : BitVec 16) (confirm : Bool) (status : Status) (pages : Word) (s : State) :
    Host.Outcome State Fault Refusal :=
  .next (s.withPins (fun s => (s.discardAnswer dev tag confirm status pages.toNat).drain))

/-! ### Custody messages (R367, R372, R379, R401) -/

def execGstReq (m : Routing) (g : GstReq) (s : State) : Host.Outcome State Fault Refusal :=
  .next (s.withPins (fun s => s.custodyIn m (.gstReq g)))

def execGstRsp (m : Routing) (gsn : Gsn) (owner : Dev) (handle : Word) (s : State) : Host.Outcome State Fault Refusal :=
  .next (s.withPins (fun s => s.custodyIn m (.gstRsp gsn owner handle)))

/-- GST_UPD: the row names no routing grain, only the port it came by (log 5). -/
def execGstUpd (port : Fin 512) (ver : BitVec 64) (row : GstRow) (gsn : Gsn) (s : State) : Host.Outcome State Fault Refusal :=
  .next (s.withPins (fun s => (s.gstUpdate (some port.val) ver.toNat row gsn).drain))

def execGstAck (m : Routing) (ver : BitVec 64) (s : State) : Host.Outcome State Fault Refusal :=
  .next (s.withPins (fun s => s.custodyIn m (.gstAck ver)))

def execGstSync (m : Routing) (first : Gsn) (count : BitVec 27) (ver : BitVec 64) (s : State) : Host.Outcome State Fault Refusal :=
  .next (s.withPins (fun s => s.custodyIn m (.gstSync first count ver)))

def execGstClaim (m : Routing) (c : Claim) (s : State) : Host.Outcome State Fault Refusal :=
  .next (s.withPins (fun s => s.custodyIn m (.gstClaim c)))

def execBlkData (m : Routing) (line : LineAddr) (lines : List SLine) (reqDev : Dev) (s : State) : Host.Outcome State Fault Refusal :=
  .next (s.withPins (fun s => s.custodyIn m (.blkData line lines reqDev)))

def execPageCtl (m : Routing) (page : BitVec 44) (kind : BitVec 2) (s : State) : Host.Outcome State Fault Refusal :=
  .next (s.withPins (fun s => s.custodyIn m (.pageCtl page kind)))

def execPageAck (m : Routing) (page : BitVec 44) (s : State) : Host.Outcome State Fault Refusal :=
  .next (s.withPins (fun s => s.custodyIn m (.pageAck page)))

def execLineAck (m : Routing) (line : LineAddr) (s : State) : Host.Outcome State Fault Refusal :=
  .next (s.withPins (fun s => s.custodyIn m (.lineAck line)))

/-- COPY_END tells the target that a pass or the stream has ended; nothing here waits for it (R379, R380, R386). -/
def execCopyEnd (m : Routing) (kind : BitVec 2) (s : State) : Host.Outcome State Fault Refusal :=
  .next (s.withPins (fun s => s.custodyIn m (.copyEnd kind)))

def execRwMarker (m : Routing) (region : BitVec 8) (epoch : BitVec 16) (s : State) : Host.Outcome State Fault Refusal :=
  .next (s.withPins (fun s => s.custodyIn m (.rwMarker region epoch)))

def execRwFwd (m : Routing) (op : BitVec 2) (region : BitVec 8) (epoch : BitVec 16) (s : State) : Host.Outcome State Fault Refusal :=
  .next (s.withPins (fun s => s.custodyIn m (.rwFwd op region epoch)))

def execRwConf (m : Routing) (s : State) : Host.Outcome State Fault Refusal :=
  .next (s.withPins (fun s => s.custodyIn m .rwConf))

/-! ### Waits of custody (R404) -/

/-- STANDBY_ACK_TIMEOUT (R367). -/
def execStandbyAckTimeout (dev : Dev) (s : State) : Host.Outcome State Fault Refusal :=
  .next (s.withPins (fun s => (s.ackTimeout dev).drain))

/-- GST_GAP_TIMEOUT (R368). -/
def execGstGapTimeout (s : State) : Host.Outcome State Fault Refusal := .next (s.withPins (fun s => s.gapTimeout.drain))

/-- CLAIM_WINDOW_EXPIRY (R372). -/
def execClaimWindowExpiry (s : State) : Host.Outcome State Fault Refusal := .next (s.withPins (fun s => s.claimsEnd.drain))

/-- PREPARE_TIMEOUT (R373, R385). -/
def execPrepareTimeout (gsn : Gsn) (s : State) : Host.Outcome State Fault Refusal :=
  .next (s.withPins (fun s => (s.prepTimeout gsn).drain))

/-- MIGRATION_COPY_END (R377). -/
def execMigrationCopyEnd (gsn : Gsn) (s : State) : Host.Outcome State Fault Refusal :=
  .next (s.withPins (fun s => (s.copyEnd gsn.toNat).drain))

/-- CONVERGE_PASS_END (R377, R379). -/
def execConvergePassEnd (gsn : Gsn) (s : State) : Host.Outcome State Fault Refusal :=
  .next (s.withPins (fun s => (s.passDone gsn.toNat).drain))

/-- SWITCH_READY: a GST_REQ of op 6 at the target or at the custodian (R380). -/
def execSwitchReady (m : Routing) (gsn : Gsn) (s : State) : Host.Outcome State Fault Refusal :=
  .next (s.withPins (fun s => s.custodyIn m (.gstReq { op := 6, gsn := gsn, devA := m.src, devB := m.dst, region := 0, keyRange := 0, head := 0,
                                                       mmode := 0, handle := 0 })))

/-- SWITCH_TIMEOUT (R380). -/
def execSwitchTimeout (gsn : Gsn) (s : State) : Host.Outcome State Fault Refusal :=
  .next (s.withPins (fun s => (s.switchTimeout gsn.toNat).drain))

/-- SWITCH_READY_RESEND (R380). -/
def execSwitchReadyResend (gsn : Gsn) (s : State) : Host.Outcome State Fault Refusal :=
  .next (s.withPins (fun s => (s.switchResend gsn.toNat).drain))

/-- SWITCH_COMMIT_APPLIED (R380, R381). -/
def execSwitchCommitApplied (gsn : Gsn) (s : State) : Host.Outcome State Fault Refusal :=
  .next (s.withPins (fun s => (s.switchApplied gsn.toNat).drain))

/-- DRAIN_QUIET_EXPIRY, and the drain maximum (R377, R404). -/
def execDrainQuietExpiry (gsn : Gsn) (s : State) : Host.Outcome State Fault Refusal :=
  .next (s.withPins (fun s => (s.drainEnd gsn.toNat).drain))

/-- LAG_BOUND_REACHED (R389). -/
def execLagBoundReached (gsn : Gsn) (s : State) : Host.Outcome State Fault Refusal :=
  .next (s.withPins (fun s => s.lagBound gsn.toNat))

/-- LINE_UPDATE_ACK_TIMEOUT (R391). -/
def execLineUpdateAckTimeout (gsn : Gsn) (s : State) : Host.Outcome State Fault Refusal :=
  .next (s.withPins (fun s => (s.updateTimeout gsn.toNat).drain))

/-- REMIRROR_DELAY_EXPIRY (R391). -/
def execRemirrorDelayExpiry (gsn : Gsn) (s : State) : Host.Outcome State Fault Refusal :=
  .next (s.withPins (fun s => (s.remirrorNow gsn).drain))

/-- LEASE_LOST (R396). -/
def execLeaseLost (s : State) : Host.Outcome State Fault Refusal := .next (s.withPins State.leaseLost)

/-- DEDUP_ENTRY_EXPIRY (R384). -/
def execDedupEntryExpiry (dev : Dev) (tag : BitVec 16) (s : State) : Host.Outcome State Fault Refusal :=
  .next { s with sve := { s.sve with dedup := s.sve.dedup.filter (fun d => !(d.dev == dev && d.tag == tag)) } }

/-- LSA_EXPIRE (R352, R394, R395). -/
def execLsaExpire (serial : BitVec 64) (s : State) : Host.Outcome State Fault Refusal :=
  .next (s.withPins (fun s => if s.up then (s.lsaExpired serial).drain else s))

/-- ELECTION_SETTLE_EXPIRY (R353, R354, R372). -/
def execElectionSettleExpiry (s : State) : Host.Outcome State Fault Refusal :=
  .next (s.withPins (fun s => if s.up then s.electionSettled.drain else s))

/-- MIRROR_CONFIRM_TIMEOUT: PARTIAL, and the pairs of the region are broken (R312, R391). -/
def execMirrorConfirmTimeout (region : BitVec 8) (s : State) : Host.Outcome State Fault Refusal :=
  .next (s.withPins (fun s =>
    let r := s.rwConfirmTimeout region.toNat
    if r.1 then
      (r.2.each ((r.2.regionSegs region.toNat).filter (fun i => (r.2.seg i).mmode != 0)) (fun s i => s.breakPair (s.seg i).gsn.toNat)).drain
    else r.2))

/-- DC_ADD_TIMEOUT (R413, R430). -/
def execDcAddTimeout (h : Fin 64) (slot : BitVec 14) (s : State) : Host.Outcome State Fault Refusal :=
  .next (s.withPins (fun s => (s.dcAddTimeout h.val slot.toNat).drain))

/-- DC_RELEASE_TIMEOUT (R414, R430). -/
def execDcReleaseTimeout (h : Fin 64) (slot : BitVec 14) (s : State) : Host.Outcome State Fault Refusal :=
  .next (s.withPins (fun s => (s.dcReleaseTimeout h.val slot.toNat).drain))

/-! ### Head resets and link losses (R408, R415, R416, R419) -/

/-- HEAD_LINK_DOWN (R408). -/
def execHeadLinkDown (h : Fin 64) (s : State) : Host.Outcome State Fault Refusal := .next (s.withPins (fun s => (s.headLinkLost h).drain))

/-- CONVENTIONAL_RESET (R427). -/
def execConventionalReset (h : Fin 64) (s : State) : Host.Outcome State Fault Refusal := .next (s.withPins (fun s => (s.resetHead h).drain))

/-- HOT_RESET: as a conventional reset (R427). -/
def execHotReset (h : Fin 64) (s : State) : Host.Outcome State Fault Refusal := .next (s.withPins (fun s => (s.resetHead h).drain))

/-- FUNCTION_LEVEL_RESET (R427). -/
def execFunctionLevelReset (h : Fin 64) (s : State) : Host.Outcome State Fault Refusal := .next (s.withPins (fun s => (s.flrHead h).drain))

/-- IDE_FAIL (R419). -/
def execIdeFail (h : Fin 64) (s : State) : Host.Outcome State Fault Refusal := .next (s.withPins (fun s => (s.ideFail h).drain))

/-! ### Region commits (R98) -/

/-- REGION_COMMIT_QUIESCE_TIMEOUT (R98). -/
def execRegionCommitQuiesceTimeout (s : State) : Host.Outcome State Fault Refusal :=
  .next (s.withPins (fun s => s.commitAbandoned.drain))

/-- REGION_COMMIT_RETRY (R98). -/
def execRegionCommitRetry (s : State) : Host.Outcome State Fault Refusal := .next (s.withPins (fun s => s.commitRetry.drain))

/-! ### Firmware (R398 to R400, R465) -/

def execFwChunk (m : Routing) (off : Word) (ver : Word) (bytes : List Byte) (s : State) : Host.Outcome State Fault Refusal :=
  .next (s.withPins (fun s => s.custodyIn m (.fwChunk off ver bytes)))

def execFwuCtl (m : Routing) (step : BitVec 4) (ver : Word) (len : Word) (s : State) : Host.Outcome State Fault Refusal :=
  .next (s.withPins (fun s => s.custodyIn m (.fwuCtl step ver len)))

def execFwuDone (m : Routing) (activated : Bool) (s : State) : Host.Outcome State Fault Refusal :=
  .next (s.withPins (fun s => s.custodyIn m (.fwuDone activated)))

/-- FW_ACTIVATION_WAIT_EXPIRY (R399). -/
def execFwActivationWaitExpiry (s : State) : Host.Outcome State Fault Refusal := .next (s.withPins (fun s => s.actWaitEnd.drain))

/-- FW_ACTIVATION_TIMEOUT (R400). -/
def execFwActivationTimeout (dev : Dev) (s : State) : Host.Outcome State Fault Refusal :=
  .next (s.withPins (fun s => (s.activationTimeout dev).drain))

/-- BOOT_MONITOR_CHECK (R465). -/
def execBootMonitorCheck (core : Fin 8) (s : State) : Host.Outcome State Fault Refusal :=
  .next (s.withPins (fun s => (s.bootMonitor core.val).drain))

/-! ### Key distribution and key slots (R442 to R448) -/

def execKrTable (m : Routing) (ver : Word) (bases : List (BitVec 27)) (s : State) : Host.Outcome State Fault Refusal :=
  .next (s.withPins (fun s => s.custodyIn m (.krTable ver bases)))

def execKrPush (m : Routing) (r : Fin 64) (gen : BitVec 16) (erase : Bool) (keys : Option KeySet) (s : State) :
    Host.Outcome State Fault Refusal :=
  .next (s.withPins (fun s => s.custodyIn m (.krPush r.val gen erase keys)))

/-- KR_ACK: the status is that of its body (R454). -/
def execKrAck (m : Routing) (r : Fin 64) (gen : BitVec 16) (status : Status) (s : State) : Host.Outcome State Fault Refusal :=
  .next (s.withPins (fun s => s.custodyIn { m with status := status } (.krAck r.val gen)))

def execKrPull (m : Routing) (s : State) : Host.Outcome State Fault Refusal :=
  .next (s.withPins (fun s => s.custodyIn m .krPull))

/-- KEY_WAIT_EXPIRY (R445, R469). -/
def execKeyWaitExpiry (s : State) : Host.Outcome State Fault Refusal := .next (s.withPins (fun s => s.keyWaitEnd.drain))

/-- KEY_SLOT_PARITY_FAIL (R448). -/
def execKeySlotParityFail (r : Fin 64) (s : State) : Host.Outcome State Fault Refusal :=
  .next (s.withPins (fun s => s.slotParity r.val))

/-- KEY_SLOT_RELOAD_DONE (R448). -/
def execKeySlotReloadDone (r : Fin 64) (s : State) : Host.Outcome State Fault Refusal :=
  .next (s.withPins (fun s => s.slotReloaded r.val))

/-- KEY_FENCED (R448). -/
def execKeyFenced (r : Fin 64) (s : State) : Host.Outcome State Fault Refusal :=
  .next (s.withPins (fun s => s.slotFenced r.val))

end Sys2Proof.Machine
end

