-- ==== Sys2Proof/Machine/Faults.lean ====
section
/-! DEFINITION. The commands of fault handling, the recorder and the pantry that touch no other block (R513, R515, R518,
R522, R529, R532, R533, R535). -/

namespace Sys2Proof.Machine

open Sys2Proof

/-- The pages whose block instance a fence domain instance is as a whole (R513). -/
def domainPages (dom inst : Nat) : List Nat :=
  match dom with
  | 3 => [0x100 + inst % 64]
  | 4 => [0x010 + inst % 8]
  | 5 => [0x018 + inst % 16]
  | 7 => [0x040 + inst % 64]
  | 8 => (List.range 4).map (fun k => 0x040 + (4 * inst + k) % 64)
  | 9 => [0x201 + inst % 8]
  | _ => []

/-- The reaction on a fence domain instance ends: STATUS.FENCED of its pages, and the window runs out CONSEQ later (R513,
R515). Nothing happens where no reaction runs on the instance. -/
def State.fenceReactionEnd (s : State) (dom inst : Nat) : State :=
  if s.flt.windows.any (fun (w : Window) => w.dom.toNat = dom && w.inst.toNat = inst && !w.ended) then
    let s := { s with flt := { s.flt with windows := s.flt.windows.map (fun (w : Window) =>
      if w.dom.toNat = dom && w.inst.toNat = inst then { w with ended := true } else w) } }
    if s.isFenced dom inst then
      { s with pages := { s.pages with fenced := (domainPages dom inst).foldl insertNew s.pages.fenced } }
    else s
  else s

/-- A consequential window whose reaction has ended closes (R515, R540). -/
def State.closeWindow (s : State) (dom inst : Nat) : State :=
  { s with flt := { s.flt with windows := s.flt.windows.filter (fun w =>
      !(decide (w.dom.toNat = dom) && decide (w.inst.toNat = inst) && w.ended)) } }

/-- FENCE_REACTION_END (R513). -/
def execFenceReactionEnd (dom : BitVec 4) (inst : BitVec 20) (s : State) : Host.Outcome State Fault Refusal :=
  .next (s.fenceReactionEnd dom.toNat inst.toNat)

/-- CONSEQUENTIAL_WINDOW_EXPIRY (R515). -/
def execConsequentialWindowExpiry (dom : BitVec 4) (inst : BitVec 20) (s : State) : Host.Outcome State Fault Refusal :=
  .next (s.closeWindow dom.toNat inst.toNat)

/-- RECORD_HOLDOFF_EXPIRY: the next occurrence of the source is recorded (R522). -/
def execRecordHoldoffExpiry (src : BitVec 18) (s : State) : Host.Outcome State Fault Refusal :=
  .next { s with flt := { s.flt with holdoff := removeAll s.flt.holdoff src } }

/-- SPILL_PAGE_EXPIRY: the spill page is programmed part-full (R529). -/
def execSpillPageExpiry (s : State) : Host.Outcome State Fault Refusal := .next s.programSpill

/-- PANTRY_WRITE: each part in turn, with the attempts of each that fail (R533). -/
def execPantryWrite (key : BitVec 32) (value : BitVec 64) (fails : List (Bool × Nat)) (s : State) :
    Host.Outcome State Fault Refusal :=
  let n (pb : Bool) : Nat := (fails.filter (fun e => e.1 == pb)).foldl (fun a e => a + e.2) 0
  .next (s.withPins (fun s => s.pantryWrite key.toNat value (n false) (n true)))

/-- OPSEC_WRITE_EXPIRY: counter ring 1 (R532, R605). -/
def execOpsecWriteExpiry (s : State) : Host.Outcome State Fault Refusal := .next (s.setRing 1 s.opSec)

/-- PASSWORD_HOLD_EXPIRY: attempts are accepted again (R535). -/
def execPasswordHoldExpiry (s : State) : Host.Outcome State Fault Refusal :=
  .next { s with pan := { s.pan with hold := false } }

end Sys2Proof.Machine
end

