-- ==== Sys2Proof/Machine/TierCmds.lean ====
section
/-! DEFINITION. The population of the DRAM tier, training, temperature, DRAM errors, channel fences, the re-form and the dirty budget
(R36, R37, R172, R182 to R184, R199 to R207). -/

namespace Sys2Proof.Machine

open Sys2Proof

/-! ### Population (R34 to R37) -/

/-- A channel's page. -/
def dchPage (c : Nat) : Nat := 0x018 + c

/-- DTC_CH_STAT.STATE and CAUSE (R208). -/
def State.dchState (s : State) (c : Nat) : Nat := s.regFld (dchPage c) 0x100 29 3
def State.dchCause (s : State) (c : Nat) : Nat := s.regFld (dchPage c) 0x100 24 5

/-- A channel's state and cause; one that is not Active and not Fenced runs no refresh and no throttle (R184, R202, R208). -/
def State.setDch (s : State) (c st cause : Nat) : State :=
  let s := (s.setRegFld (dchPage c) 0x100 29 3 st).setRegFld (dchPage c) 0x100 24 5 cause
  if st = 3 || st = 4 then s else s.setRegFld (dchPage c) 0x100 6 2 0

/-- A V12_D feed is switched off (R36, R205). -/
def State.feedOff (s : State) (c : Nat) : State :=
  if (s.rail (21 + c)).on then s.setRail (21 + c) { s.rail (21 + c) with on := false, st := 0 } else s

/-- The sockets of a population group, in ascending order, and the group of a socket (R34). -/
def groupSockets (g : Nat) : List Nat := (List.range 4).map (fun i => 4 * i + (match g with | 0 => 0 | 1 => 2 | 2 => 1 | _ => 3))
def socketGroup (c : Nat) : Nat := match c % 4 with | 0 => 0 | 2 => 1 | 1 => 2 | _ => 3

/-- A DIMM the module accepts (R35, R182). -/
def spdOk (d : Spd) : Bool := d.rdimm && decide (d.gib.toNat ∈ [32, 64, 96, 128]) && decide (d.grade.toNat ≤ 3)

/-- A reading outside the DIMM's limits (R202, R203). -/
def spdOutside (d : Spd) (now : Byte) : Bool := decide (d.hi.toInt < now.toInt) || decide (now.toInt < d.lo.toInt)

/-- A reading within the limits with 5 °C of margin (R203). -/
def spdInside (d : Spd) (now : Byte) : Bool := now != 0x80 && decide (now.toInt + 5 ≤ d.hi.toInt) && decide (d.lo.toInt + 5 ≤ now.toInt)

def State.socket (s : State) (c : Nat) : Socket := s.dtc.sockets.get { known := false, spd := default, outRounds := 0, badRounds := 0 } c
def State.setSocket (s : State) (c : Nat) (x : Socket) : State := { s with dtc := { s.dtc with sockets := s.dtc.sockets.put c x } }

/-- The socket holds an accepted DIMM that nothing keeps out: no cause, or Unused. -/
def State.socketFit (s : State) (c : Nat) : Bool := (s.socket c).known && spdOk (s.socket c).spd && s.dchCause c == 0

/-- The groups used: in order, each complete, every earlier one in use (R36). -/
def State.fitGroups (s : State) : List Nat := (List.range 4).takeWhile (fun g => (groupSockets g).all s.socketFit)

/-- Sockets of groups in ascending order (R188). -/
def socketsOf (gs : List Nat) : List Nat := (gs.flatMap groupSockets).foldl (fun l c => insertNat c l) []

/-- The registers of the tier for the used sockets: groups, capacity, grade and mode (R36, R37, R208). -/
def State.setTierRegs (s : State) : State :=
  let used := s.dtc.used
  let minOf (d : Nat) (l : List Nat) : Nat := l.foldl min d
  let gib := if used.isEmpty then 0 else minOf 128 (used.map (fun c => (s.socket c).spd.gib.toNat))
  let grade := if used.isEmpty then 0xff else minOf 3 (used.map (fun c => (s.socket c).spd.grade.toNat))
  let groups := ((List.range 4).filter (fun g => (groupSockets g).all (fun c => decide (c ∈ used)))).foldl (fun n g => n + 2 ^ g) 0
  let s := s.setReg 0x028 0x104 (BitVec.ofNat 32 (groups * 2 ^ 28 + gib * 2 ^ 20 + grade * 2 ^ 12 + (if used.isEmpty then 2 else 1)))
  s.setRegFld 0x028 0x108 0 12 (used.length * gib - (if used.isEmpty then 0 else 32))

/-! ### The dirty budget (R172, R199) -/

/-- A new budget from the last measured energy: a shortfall begins or ends (R172, R199). -/
def State.newBudget (s : State) (joules : Nat) : State :=
  let s := { s with dtc := { s.dtc with energy := joules } }
  let s := { s with dtc := { s.dtc with budget := s.budgetOf joules } }
  if s.dtc.budget * 256 < s.durableFrames then
    (if s.dtc.short then s else ({ s with dtc := { s.dtc with short := true } }).raise 0x028 .dtcShortfall).handAll false
  else s.checkShort.handHigh

/-! ### The tier forms (R36, R183) -/

/-- Every used channel has trained: the tier is formed, the last measured energy gives its budget, and the accepted DIMMs left unpowered
are named (R36, R183, R199). -/
def State.tierFormed (s : State) : State :=
  if s.dtc.used.any (fun c => s.dchState c == 2) then s
  else
    let unused := (List.range 16).filter (fun c => s.socketFit c && !decide (c ∈ s.dtc.used))
    let s := s.setTierRegs
    let s := s.newBudget s.dtc.energy
    if unused.isEmpty then s else s.raiseAt 0x028 .dtcDimmUnused { kind := 9, items := unused }

/-- The population decision: used channels train, the others stay unpowered (R36, R183, R200). -/
def State.decidePopulation (s : State) : State :=
  let used := socketsOf s.fitGroups
  let s := { s with dtc := { s.dtc with used := used, decided := true } }
  let s := s.each (List.range 16) (fun s c =>
    if c ∈ used then (if s.dchState c = 3 then s else s.setDch c 2 0)
    else (if s.socketFit c then s.setDch c 1 0 else s.setDch c 0 (s.dchCause c)).feedOff c)
  s.tierFormed

/-- A socket counts as empty, with a cause; the population follows once every socket is known (R36). -/
def State.socketEmpty (s : State) (c cause : Nat) : State :=
  (s.setDch c 0 cause).raiseAt 0x028 .dtcSocketEmpty { kind := 9, items := [c] }

/-- Decide once every SPD hub has been read or has timed out. -/
def State.socketsKnown (s : State) : State :=
  if (List.range 16).all (fun c => (s.socket c).known) then s.decidePopulation else s

/-- SPD_HUB_READ_DONE (R35, R36, R203). -/
def State.spdRead (s : State) (c : Nat) (d : Spd) : State :=
  if s.dtc.decided || !s.up || (s.socket c).known then s else
  let s := s.setSocket c { known := true, spd := d, outRounds := 0, badRounds := 0 }
  let s := s.setReg (dchPage c) 0x104 (BitVec.ofNat 32 (d.hi.toNat * 2 ^ 24 + d.lo.toNat * 2 ^ 16 + d.now.toNat * 2 ^ 8 + d.now.toNat))
  let s := (s.setRegFld (dchPage c) 0x100 16 8 (if d.grade.toNat ≤ 3 then d.grade.toNat else 0xff)).setRegFld (dchPage c) 0x100 8 8 d.gib.toNat
  let s := if !spdOk d then s.socketEmpty c 8 else if d.now != 0x80 && spdOutside d d.now then s.socketEmpty c 1 else s
  s.socketsKnown

/-- SPD_HUB_READ_TIMEOUT (R36, R41). -/
def State.spdTimeout (s : State) (c : Nat) : State :=
  if s.dtc.decided || !s.up || (s.socket c).known then s
  else ((s.setSocket c { known := true, spd := default, outRounds := 0, badRounds := 0 }).socketEmpty c 2).socketsKnown

/-! ### Training (R183) -/

/-- CHANNEL_TRAINING_DONE: the last one of the population forms the tier; a channel that joins by a re-form is in use from its Switch on. -/
def State.trainedDch (s : State) (c : Nat) : State :=
  if s.dchState c != 2 then s
  else if s.regFld 0x028 0x104 4 3 = 0 then (s.setDch c 3 0).tierFormed
  else s.setDch c 3 0

/-- CHANNEL_TRAINING_TIMEOUT: the socket counts as empty, its feed off, and the population is decided again; a group that was to join by
a re-form does not (R36, R183). -/
def State.untrainedDch (s : State) (c : Nat) : State :=
  if s.dchState c != 2 then s else
  let s := ((s.setDch c 0 7).feedOff c).raise (dchPage c) .dtcChTrainFail
  if s.regFld 0x028 0x104 4 3 = 0 then s.decidePopulation
  else
    let s := s.each (s.dtc.joining.filter (fun d => d != c)) (fun s d => (s.setDch d 1 0).feedOff d)
    { s with dtc := { s.dtc with joining := [] } }

/-! ### Fences and the re-form (R204 to R207) -/

/-- The page of a dead DIMM's frame is lost: its latest programmed version is left, or the one of a program that still runs, or poison;
stores that waited end with LOST, those that the running program carries reach their point with it (R61, R205). -/
def State.losePage (s : State) (n : Nat) (f : Frame) : State :=
  let s := s.forgetPages (fun l => l == f.lmp)
  let s := match s.runningLines f.lmp with
    | some t => s.setFrame n { f with st := 4, lines := t, waits := [], held := [], xferred := true }
    | none => let s := s.dropFrame n
      if (s.entry f.lmp).st = 0 then s.unmap f.lmp true else s
  (s.badAll (f.waits ++ f.held.flatMap (fun h => h.2.2)) 3).wakeFill f.lmp

/-- A DIMM is dead: its Merging, Dirty and Reprogramming pages are lost, and BREACH names their segments; its Clean and Filling frames are
dropped, and the lines that wait for a Programming one wait at the DTC (R38, R191, R205). -/
def State.loseDimm (s : State) (c : Nat) : State :=
  if s.tierGib = 0 || decide (c ∈ s.dtc.dead) then s else
  let s := { s with dtc := { s.dtc with dead := s.dtc.dead ++ [c] } }
  let here := s.dtc.frames.filter (fun (e : Nat × Frame) => s.frameChan e.1 == c)
  let l := here.filter (fun (e : Nat × Frame) => decide (e.2.st ∈ [3, 5, 6]))
  let segs := (l.map (fun (e : Nat × Frame) => (s.seg (lmpLsi e.2.lmp)).gsn.toNat)).foldl insertNew []
  let s := s.each l (fun s (e : Nat × Frame) => s.losePage e.1 e.2)
  let s := s.each here (fun s (e : Nat × Frame) =>
    if e.2.st = 2 then s.dropFrame e.1
    else if e.2.st = 1 then s.fillFails e.2.lmp
    else if e.2.st = 4 then (s.setFrame e.1 { e.2 with held := [] }).each e.2.held (fun s h => s.lineWaits (s.lineOfLmp e.2.lmp h.1) h.2.1 h.2.2)
    else s)
  if segs.isEmpty then s else s.raiseAt 0x028 .dtcBreach { kind := 1, items := segs }

/-- Drain begins, or begins again: frames of the leaving channels are handed over first (R206, R207). -/
def State.startReform (s : State) : State :=
  let s := if s.regFld 0x028 0x104 4 3 = 0 then s.raise 0x028 .dtcReform else s
  let s := (s.setRegFld 0x028 0x104 4 3 1).setRegFld 0x028 0x104 0 3 3
  let first := (s.dtc.frames.filter (fun (e : Nat × Frame) => decide (s.frameChan e.1 ∈ s.dtc.leaving))).map Prod.fst
  ((s.each first State.handOver).handAll true).pump

/-- A channel is fenced, and its group leaves; a fence of a group that joins by a re-form keeps it out, and Drain begins again (R205 to
R207). A DIMM that dies while its fenced channel is still in use is lost then (R204). -/
def State.fenceAs (s : State) (c cause : Nat) (dies : Bool) : State :=
  if s.dchState c = 4 && decide (c ∈ s.dtc.used) && dies && !decide (c ∈ s.dtc.dead) then ((s.setDch c 4 cause).loseDimm c).retryWaiting
  else if s.dchState c != 3 then s else
  let s := (s.setDch c 4 cause).raiseAt (dchPage c) .dtcChFenced { dom := 5, inst := c }
  let s := if cause = 1 then s.raise (dchPage c) .dtcChTemp else s
  let s := s.fence 5 c
  let s := s.setSocket c { s.socket c with readmit := false }
  if !decide (c ∈ s.dtc.used) then
    let out := s.dtc.joining.filter (fun d => socketGroup d == socketGroup c)
    let s := { s with dtc := { s.dtc with joining := s.dtc.joining.filter (fun d => socketGroup d != socketGroup c) } }
    let s := s.each out (fun s d => (if d = c then s else s.setDch d 1 0).feedOff d)
    if s.regFld 0x028 0x104 4 3 = 0 then s else s.startReform
  else
    let s := if dies then s.loseDimm c else s
    ({ s with dtc := { s.dtc with leaving := ((groupSockets (socketGroup c)).filter (fun d => decide (d ∈ s.dtc.used))).foldl insertNew s.dtc.leaving } }).startReform

/-- A fence with a cause of R208; a rail fault's DIMM is dead (R204). -/
def State.fenceDch (s : State) (c cause : Nat) : State := s.fenceAs c cause (cause == 5)

/-- REFORM_DRAIN_END: Freeze (R206). -/
def State.drainEnded (s : State) : State :=
  if s.regFld 0x028 0x104 4 3 != 1 || 16384 < (s.dtc.frames.filter (fun (e : Nat × Frame) => e.2.staged)).length then s
  else ((s.setRegFld 0x028 0x104 4 3 2).handAll true).pump

/-- REFORM_FREEZE_END: Relocate (R206). -/
def State.freezeEnded (s : State) : State :=
  if s.regFld 0x028 0x104 4 3 != 2 || s.dtc.frames.any (fun (e : Nat × Frame) => e.2.staged) then s
  else s.setRegFld 0x028 0x104 4 3 3

/-- REFORM_RELOCATE_END: Switch to the new geometry, then Resume; the lookups that had to wait for a dead DIMM's share have it, and the
map updates that waited are made (R199, R200, R205, R206). -/
def State.relocateEnded (s : State) : State :=
  if s.regFld 0x028 0x104 4 3 != 3 || s.dtc.joining.any (fun c => s.dchState c == 2) ||
      s.dtc.frames.any (fun (e : Nat × Frame) => e.2.staged) then s else
  let s := s.each s.dtc.fills (fun s l => s.fillFails l)
  let gone := s.dtc.leaving
  let used := ((s.dtc.used.filter (fun c => !decide (c ∈ gone))) ++ s.dtc.joining).foldl (fun l c => insertNat c l) []
  let late := s.dtc.paused
  let s := { s with dtc := { s.dtc with frames := [], hand := [], used := used, leaving := [], joining := [], dead := [], paused := [],
                                        tagCache := [], dirMem := [], mapCache := [] } }
  let s := s.each gone (fun s c => ((if s.dchState c = 3 then s.setDch c 1 0 else s).setRegFld (dchPage c) 0x100 6 2 0).feedOff c)
  let s := s.setTierRegs
  let s := { s with dtc := { s.dtc with budget := s.budgetOf s.dtc.energy } }
  (((s.raise 0x028 .dtcReform).retryWaiting).each late State.relocDone).pump

/-- REFORM_TIMEOUT (R207). -/
def State.reformTimeout (s : State) : State := if s.regFld 0x028 0x104 4 3 = 1 then s.raise 0x028 .dtcReformTmo else s

/-- A socket may join again: unused, or kept out for its temperature, or fenced for temperature or software and re-admitted; and its last
reading lies within its limits with margin (R203). -/
def State.mayJoin (s : State) (c : Nat) : Bool :=
  let x := s.socket c
  let now := (s.reg (dchPage c) 0x104).setWidth 8
  let st := s.dchState c
  let cause := s.dchCause c
  x.known && spdOk x.spd && spdInside x.spd now &&
    (st == 1 || (st == 0 && cause == 1) || (st == 4 && x.readmit && (cause == 1 || cause == 6)))

/-- READMIT_TIME_EXPIRY: the next group joins by a re-form, its channels training first (R203, R206). -/
def State.readmitted (s : State) : State :=
  match (List.range 4).find? (fun g => (groupSockets g).any (fun c => !decide (c ∈ s.dtc.used))) with
  | none => s
  | some g =>
    if !s.dtc.decided || s.regFld 0x028 0x104 4 3 != 0 || !(groupSockets g).all s.mayJoin then s
    else
      let s := s.each (groupSockets g) (fun s c => (s.setDch c 2 0).setRail (21 + c) { s.rail (21 + c) with on := true, st := 2 })
      ({ s with dtc := { s.dtc with joining := groupSockets g } }).startReform

/-! ### Temperature (R184, R202, R203) -/

/-- A new reading of a DIMM: NOW and MAX. -/
def State.dimmReading (s : State) (c : Nat) (t : Byte) : State :=
  let w := s.reg (dchPage c) 0x104
  let mx : Byte := BitVec.ofNat 8 (fld w 8 8)
  let mx := if t != 0x80 && (mx = 0x80 || mx.toInt < t.toInt) then t else mx
  (s.setRegFld (dchPage c) 0x104 0 8 t.toNat).setRegFld (dchPage c) 0x104 8 8 mx.toNat

/-- The actions of R202 on a DIMM in use, and the refresh of R184; a fenced channel still in use until the Relocate phase keeps its refresh
and its throttle by the readings. `gone`: the DIMM has been removed, and its hub does not answer (R38, R202, log 80). -/
def State.dimmRound (s : State) (c : Nat) (t : Byte) (gone : Bool) : State :=
  let t : Byte := if gone then 0x80 else t
  let s := s.dimmReading c t
  if s.dchState c != 3 && !(s.dchState c == 4 && decide (c ∈ s.dtc.used)) then s else
  let x := s.socket c
  if t = 0x80 then
    let s := s.setSocket c { x with badRounds := x.badRounds + 1, outRounds := 0 }
    if 3 ≤ x.badRounds + 1 then s.fenceAs c 2 gone else s
  else
    let v := t.toInt
    let hi := x.spd.hi.toInt
    let s := if 85 < v then s.setRegFld (dchPage c) 0x100 7 1 1 else if v ≤ 82 then s.setRegFld (dchPage c) 0x100 7 1 0 else s
    let was := s.regFld (dchPage c) 0x100 6 1
    let s := if hi - 3 ≤ v && v ≤ hi then
        (if was = 0 then (s.setRegFld (dchPage c) 0x100 6 1 1).raise (dchPage c) .dtcChTemp else s)
      else if v ≤ hi - 6 then s.setRegFld (dchPage c) 0x100 6 1 0 else s
    if spdOutside x.spd t then
      let s := s.setSocket c { x with outRounds := x.outRounds + 1, badRounds := 0 }
      if 3 ≤ x.outRounds + 1 then s.fenceDch c 1 else s
    else s.setSocket c { x with outRounds := 0, badRounds := 0 }

/-- A round over the DIMMs, readings in socket order; a missing reading is an unreadable sensor (R202). -/
def State.dimmRounds (s : State) (temps : List Byte) (gone : BitVec 16) : State :=
  s.each ((List.range 16).filter (fun c => (s.socket c).known && spdOk (s.socket c).spd)) (fun s c =>
    s.dimmRound c (temps.getD c 0x80) (bitAt gone c))

/-- DIMM_REREAD: DIMMs kept out for their temperature, or fenced (R203). -/
def State.dimmRereads (s : State) (temps : List Byte) : State :=
  s.each ((List.range 16).filter (fun c => (s.socket c).known && spdOk (s.socket c).spd && s.dchState c != 3)) (fun s c =>
    s.dimmReading c (temps.getD c 0x80))

/-! ### DRAM errors (R187, R204) -/

/-- Nanoseconds of 24 hours. -/
def dayNs : Nat := 86400000000000

/-- A corrected error on a device. -/
def State.dramCe (s : State) (c : Nat) (sub : Bool) (dev : BitVec 4) : State :=
  let d := 10 * (if sub then 1 else 0) + dev.toNat
  let s := (s.countUp (dchPage c) 0x108 16 16).raise (dchPage c) .dtcChDramCe
  let log := s.dtc.ces.filter (fun e => s.ns ≤ e.2.2 + dayNs) ++ [(c, d, s.ns)]
  let s := { s with dtc := { s.dtc with ces := log } }
  let mark := s.reg (dchPage c) 0x10c
  if bitAt mark 5 then
    if fld mark 4 1 = (if sub then 1 else 0) && fld mark 0 4 = dev.toNat then s else s.fenceDch c 4
  else if 16 ≤ (log.filter (fun e => e.1 == c && e.2.1 == d)).length then
    (s.setReg (dchPage c) 0x10c (BitVec.ofNat 32 (32 + (if sub then 16 else 0) + dev.toNat))).raise (dchPage c) .dtcChDevMark
  else s

/-- Count an uncorrectable error; the second within 24 h fences the channel. -/
def State.dramUe (s : State) (c : Nat) : State :=
  let log := s.dtc.uesAt.filter (fun e => s.ns ≤ e.2 + dayNs) ++ [(c, s.ns)]
  let s := ({ s with dtc := { s.dtc with uesAt := log } }).countUp (dchPage c) 0x108 8 8
  if 2 ≤ (log.filter (fun e => e.1 == c)).length then s.fenceDch c 3 else s

/-- An uncorrectable error in a frame: a Clean or Filling frame is dropped; in the staging area the line is poisoned, and stores that
wait for its point end with INTEGRITY, those that a running program carries among them (R61, R204). -/
def State.dramFrameUe (s : State) (c : Nat) (l : Lmp) (i : Nat) : State :=
  match s.frameOf l with
  | none => s
  | some (n, f) =>
    if f.st = 2 || f.st = 1 then
      let s := s.raise (dchPage c) .dtcChDramCe
      let s := if f.st = 1 then s.fillFails l else s.dropFrame n
      s.dramUe c
    else
      let mine (w : Waiting) : Bool := w.line == i
      let held := (f.held.filter (fun h => h.1 == i)).flatMap (fun h => h.2.2)
      let bad := f.carried.filter mine ++ f.waits.filter mine ++ held
      let s := s.setFrame n { f with
        lines := f.lines.put i { poisonLine with unwritten := false }, waits := f.waits.filter (fun w => !mine w),
        carried := f.carried.filter (fun w => !mine w), held := f.held.filter (fun h => h.1 != i) }
      let s := (s.badAll bad 1).raiseAt (dchPage c) .dtcChDramUe { kind := 3, items := [l.toNat] }
      (s.notePoison (s.lineOfLmp l i)).dramUe c

/-- An uncorrectable error at a place: in a frame, or in the reserve, whose affected entries the MTE reloads (R204). -/
def State.dramUeAt (s : State) (c : Nat) (p : DramPlace) : State :=
  match p with
  | .frame l i => s.dramFrameUe c l i.val
  | .reserve r =>
    let s := { s with dtc := { s.dtc with reload := insertNew s.dtc.reload r } }
    (s.raise (dchPage c) .dtcChDramUe).dramUe c

/-- A miscorrected line: the code has made other bytes of it, whose tag fails at Crust (R187). -/
def State.dramMiscorrect (s : State) (l : Lmp) (i : Nat) : State :=
  match s.frameOf l with
  | none => s
  | some (n, f) =>
    let a := s.lineOfLmp l i
    let r := s.keyRangeOf (lineGsn a)
    let c := s.fresh
    let t := c.2.fresh
    let ct : Line := BitVec.ofNat 512 c.1
    let tag : BitVec 56 := BitVec.ofNat 56 t.1
    let tag := match t.2.activeKeys r with
      | some k => if lineTag56 k a r ct = tag then tag ^^^ 1 else tag
      | none => tag
    t.2.setFrame n { f with lines := f.lines.put i { pageLineOf f.lines i with ct := ct, tag := tag } }

/-- DRAM_ERROR (R187, R204): an error on the marked device is corrected; one on another device of a marked device's subchannel is
detected and cannot be corrected. -/
def State.dramError (s : State) (c : Nat) (e : DramErr) : State :=
  if s.dchState c != 3 && !(s.dchState c == 4 && decide (c ∈ s.dtc.used)) then s else
  match e with
  | .device sub dev p =>
    let mark := s.reg (dchPage c) 0x10c
    if bitAt mark 5 && fld mark 4 1 = (if sub then 1 else 0) && fld mark 0 4 != dev.toNat then s.dramUeAt c p else s.dramCe c sub dev
  | .uncorrectable p => s.dramUeAt c p
  | .miscorrected l i => s.dramMiscorrect l i.val
  | .rail => s.fenceDch c 5

/-! ### Commands -/

def execSpdHubReadDone (socket : Fin 16) (spd : Spd) (s : State) : Host.Outcome State Fault Refusal :=
  .next (s.withPins (fun s => s.spdRead socket.val spd))

def execSpdHubReadTimeout (socket : Fin 16) (s : State) : Host.Outcome State Fault Refusal :=
  .next (s.withPins (fun s => s.spdTimeout socket.val))

def execChannelTrainingDone (c : Fin 16) (s : State) : Host.Outcome State Fault Refusal :=
  .next (s.withPins (fun s => s.trainedDch c.val))

def execChannelTrainingTimeout (c : Fin 16) (s : State) : Host.Outcome State Fault Refusal :=
  .next (s.withPins (fun s => s.untrainedDch c.val))

def execDimmThermalRound (temps : DimmRound) (s : State) : Host.Outcome State Fault Refusal :=
  .next (s.withPins (fun s => s.dimmRounds temps.temps temps.gone))

def execDimmReread (temps : List Byte) (s : State) : Host.Outcome State Fault Refusal :=
  .next (s.withPins (fun s => s.dimmRereads temps))

def execReadmitTimeExpiry (s : State) : Host.Outcome State Fault Refusal := .next (s.withPins State.readmitted)

def execDramError (c : Fin 16) (e : DramErr) (s : State) : Host.Outcome State Fault Refusal :=
  .next (s.withPins (fun s => s.dramError c.val e))

/-- PATROL_SCRUB_PASS: a pass begins; the errors it finds come as DRAM_ERROR (R204). -/
def execPatrolScrubPass (s : State) : Host.Outcome State Fault Refusal :=
  .next { s with dtc := { s.dtc with scrubs := s.dtc.scrubs + 1 } }

/-- CHANNEL_FENCE with one of the causes of R208. -/
def execChannelFence (c : Fin 16) (cause : BitVec 5) (s : State) : Host.Outcome State Fault Refusal :=
  .next (s.withPins (fun s => s.fenceDch c.val cause.toNat))

def execReformDrainEnd (s : State) : Host.Outcome State Fault Refusal := .next (s.withPins State.drainEnded)

def execReformFreezeEnd (s : State) : Host.Outcome State Fault Refusal := .next (s.withPins State.freezeEnded)

def execReformRelocateEnd (s : State) : Host.Outcome State Fault Refusal := .next (s.withPins (fun s => s.relocateEnded.drain))

def execReformTimeout (s : State) : Host.Outcome State Fault Refusal := .next (s.withPins State.reformTimeout)

end Sys2Proof.Machine
end

