-- ==== Sys2Proof/Machine/Cold.lean ====
section
/-! DEFINITION. What an interruption and a reset leave: the medium, the pantry and the always-on domain keep their contents, every other
part starts afresh (R175, R281, R309, R529, R571; log 33, log 34). -/

namespace Sys2Proof.Machine

open Sys2Proof

/-! ### FLT takes what has latched (R507 to R511, R518) -/

/-- The entry to the safe state with what R518 and R519 say happens at once: outstanding barriers end with STATE. -/
def State.enterSafeState (s : State) (cause : Nat) : State :=
  if s.safe then s else (s.enterSafe cause).endBarriersAll s.headList

/-- The second items of the pairs of a list: the GSNs of device and GSN pairs (R523). -/
def pairGsns : List (BitVec 32) → List Nat
  | _ :: g :: t => g.toNat :: pairGsns t
  | _ => []

/-- The segments that a latched source names: GSNs, GSNs paired with device numbers, or the LMPs of their pages (R523, R524). -/
def State.latchedGsns (s : State) (l : Latched) : List Nat :=
  if l.kind = 1 then l.items.map BitVec.toNat
  else if l.kind = 3 then l.items.map (fun w => (s.seg (w.toNat / 2 ^ 18)).gsn.toNat)
  else if l.kind = 8 then pairGsns l.items
  else []

/-- KIND of the head record of a module event: durability breach, segment Lost or Absent, or one that R425 gives no code (log 35). -/
def latchedKind (src : BitVec 18) : Nat :=
  if src = srcId 0x030 1 || src = srcId 0x028 4 then 0x02
  else if src = srcId 0x030 10 || src = srcId 0x200 6 || src = srcId 0x200 7 then 0x03
  else 0x80

/-- A module event reaches the heads: all of them at severity Error or Fatal, else those bound to a segment it names; a head's own event
that names its DPA reaches that head (R424). -/
def State.noticeHeads (s : State) (l : Latched) : State :=
  let sev := (classify l.src).2
  let gsns := s.latchedGsns l
  let own := srcPage l.src - 0x1c0
  let targets := s.headList.filter (fun h => decide (2 ≤ sev) || gsns.any (fun g => ((s.head h).slotOf g).isSome) || (l.kind == 5 && h == own))
  s.each targets (fun s h =>
    let g := (gsns.find? (fun g => ((s.head h).slotOf g).isSome)).getD (gsns.headD 0)
    s.postRec h sev { vendorRec (latchedKind l.src) 0 g (((s.head h).slotOf g).elim 0 (fun n => BitVec.ofNat 44 (n * 2 ^ 30))) 0 gsns.length
      with seq := s.flt.nextSeq })

/-- FLT records and classifies every latched source in the order of R509, the heads are told, and an FT source brings the safe state. -/
def State.takeAll (s : State) : State :=
  let l := sortLatched s.flt.queue
  let was := s.safe
  let s := { s with flt := { s.flt with queue := [] } }
  let s := s.each l (fun s x => (s.noticeHeads x).takeLatched x)
  if s.safe && !was then s.endBarriersAll s.headList else s

/-! ### The medium at an interruption (R175, R265, R281) -/

/-- A page whose program was interrupted is on the medium, and is not whole (R175, R265). -/
def State.tearPage (s : State) (x : Stripe) (p : StripePage) : State :=
  let ppa := s.placeOf x p.die
  { s with mch := { s.mch with pages := s.mch.pages.put ppa.toNat { tag := p.tag, lines := p.lines, whole := false } } }

/-- Every stripe that is being programmed is interrupted, its parity page with it. -/
def State.tearStripes (s : State) : State :=
  s.each (s.mte.stripes.filter Stripe.issued) (fun s x =>
    let ppa := s.placeOf x (groupDie x.group x.parity)
    let par := parityPage (x.pages.map (fun p => (p.tag, p.lines)))
    let s := { s with mch := { s.mch with pages := s.mch.pages.put ppa.toNat { par with whole := false } } }
    s.each x.pages (fun s p => s.tearPage x p))

/-- Journal entries that are not durable. -/
def State.undurable (s : State) : List JEntry := s.mte.jbuf ++ s.mte.jprog

/-- The journal holds a durable entry of a type with an argument and X: none waits for its stripe. -/
def State.lacks (s : State) (type arg : Byte) (x : BitVec 64) : Bool :=
  s.undurable.any (fun (e : JEntry) => e.type == type && e.arg == arg && e.x == x)

/-- A store to a page is acknowledged where it now stands, and would be lost: a released one of a Durable region, or one of a Durable or
Strict region that acknowledges Early (R61, R171, R176). -/
def State.ackedLost (s : State) (l : Lmp) (released : Bool) : Bool :=
  let p := s.persistOf l
  let early := (s.region (s.regionOfLmp l)).early
  (released && p == 1) || (p != 0 && early)

/-- Segments whose acknowledged stores an interruption now loses: staged pages, merge stores and lanes (R170, R270). -/
def State.losing (s : State) : List Nat :=
  let frames := (s.dtc.frames.filter (fun (e : Nat × Frame) => e.2.staged && s.ackedLost e.2.lmp true)).map
    (fun (e : Nat × Frame) => (s.seg (lmpLsi e.2.lmp)).gsn.toNat)
  let lines : List (LineAddr × Bool) := s.slices.flatMap (fun (e : Nat × Slice) =>
      (e.2.merge.filter (fun (m : MergeEntry) => !m.offered)).map (fun (m : MergeEntry) => (m.line, m.waits.isEmpty)) ++ e.2.lanes.map (fun (y : LaneEntry) => (y.line, false))) ++
    s.dtc.waiting.map (fun (w : DtcWait) => (w.line, w.waits.isEmpty))
  let early := (lines.filter (fun a => (s.lineLmp a.1).any (fun l => s.ackedLost l a.2))).map (fun a => lineGsn a.1)
  (frames ++ early).foldl insertNew []

/-- A set at start-up: Released where its SET_RELEASE is durable or its erase was under way, Full where it was a Victim (R255, R281). -/
def State.coldSet (s : State) (id : Nat) (r : SetRec) : SetRec :=
  if r.st = 6 then { r with st := 5 }
  else if r.st = 4 then { r with st := if decide (id ∈ s.mte.releasing) && !s.lacks 0x07 0 (BitVec.ofNat 64 id) then 5 else 3 }
  else r

/-- The rewind state of a region at start-up (R309): a mark whose RW_MARK is not durable does not exist; a REWIND_TO goes on at Settle
once its RW_VOID is durable. -/
def State.coldRw (s : State) (r : Nat) (x : RwRegion) : RwRegion :=
  let region := BitVec.ofNat 8 r
  let op : Option RwOp := x.op.filter (fun o => o.kind == 2 && decide (2 ≤ o.phase) && !s.lacks 0x12 region (BitVec.ofNat 64 o.cut))
  { x with
    marks := x.marks.filter (fun m => !s.lacks 0x10 region (BitVec.ofNat 64 m.cut)), guard := 0,
    op := op.map (fun o => { o with phase := 2, handle := 0, peer := none, confirms := [] }) }

/-- The map entries that an Apply has written keep their values, whatever of its journal entries is lost (R309). -/
def State.appliedImage (s : State) : Tab MapEntry :=
  let done := (s.mte.rw.filter (fun (e : Nat × RwRegion) => e.2.op.any (fun o => o.kind == 2 && o.phase == 3))).map Prod.fst
  (s.mte.map.filter (fun (e : Nat × MapEntry) => decide (s.regionOfLmp (BitVec.ofNat 32 e.1) ∈ done))).foldl
    (fun (t : Tab MapEntry) e => t.put e.1 e.2) s.mte.image

/-- An UNMAP or POISON of an LMP with that WSN is not durable. -/
def State.unmapLost (s : State) (lmp w : Nat) : Bool :=
  s.undurable.any (fun (e : JEntry) => (e.type == 0x03 || e.type == 0x04) && decide (e.y.toNat = w) && decide (e.x.toNat % 2 ^ 32 ≤ lmp) &&
    decide (lmp < e.x.toNat % 2 ^ 32 + max 1 (e.x.toNat / 2 ^ 32)))

/-- What the medium and the translation engine's records in it keep; the map is loaded again from its images and the journal (R262,
R268, log 34). -/
def State.coldMte (s : State) : Mte :=
  let m := s.mte
  { image := s.appliedImage, captured := m.captured, dirImage := m.dirImage, dirOk := m.dirOk, nextWsn := m.durCeiling,
    ceiling := m.durCeiling, durCeiling := m.durCeiling, nextSetid := m.nextSetid,
    sets := m.sets.map (fun (e : Nat × SetRec) => (e.1, s.coldSet e.1 e.2)), nextStripe := m.nextStripe,
    unmapWsn := m.unmapWsn.filter (fun (e : Nat × Nat) => !s.unmapLost e.1 e.2), jdur := m.jdur, jTop := m.jTop, wsnEnd := m.wsnEnd, trim := m.trim, segs := m.segs,
    regions := m.regions, rw := m.rw.map (fun (e : Nat × RwRegion) => (e.1, s.coldRw e.1 e.2)),
    index := m.index.filter (fun (x : IdxEntry) =>
      !s.undurable.any (fun (e : JEntry) => e.type == 0x13 && e.x == x.lmp.setWidth 64 && e.y == BitVec.ofNat 64 x.wsn)),
    voids := m.voids.filter (fun (v : VoidEntry) => !s.lacks 0x12 v.region (BitVec.ofNat 64 v.low)),
    unreadable := m.unreadable, lostSegs := (m.lostSegs ++ s.losing).foldl insertNew [] }

/-- What the media stacks keep: their pages and blocks; an interrupted erase runs again at Settle (R281). -/
def State.coldMch (s : State) : Mch :=
  { pages := s.mch.pages, badLists := s.mch.badLists, badUnread := s.mch.badUnread,
    blocks := s.mch.blocks.map (fun (e : Nat × Block) =>
      (e.1, { e.2 with st := if e.2.st = 4 then 1 else e.2.st, anchored := false })) }

/-! ### The other parts -/

/-- What the pantry keeps; recall tests its parts again (R531, R533, R535, R537). -/
def Pantry.cold (p : Pantry) : Pantry :=
  { p with st := 0, entered := [], unlocks := [], wrong := 0, hold := false, recalling := false, supWin := none, supCur := 0, late := [],
           paErr := 0, pbErr := 0 }

/-- The highest event sequence of the shadow log and the spill area, plus one (R525). -/
def State.seqAbove (s : State) : Nat :=
  (s.flt.shadowLog ++ s.flt.spill).foldl (fun n (e : Nat × Record) => max n (e.2.seq + 1)) 0

/-- What the recorder keeps: the shadow log in the always-on domain, the event log in the pantry and the spill ring in the medium;
numbering resumes at the stored ceiling (R525, R529, R530). -/
def State.coldFlt (s : State) (lastSafe : Bool) : Flt :=
  let from_ := if s.pantryDown then max s.seqAbove s.flt.seqCeil else s.ring 2
  { log := s.flt.log, shadowLog := s.flt.shadowLog, spill := s.flt.spill, spillNext := s.flt.spillNext,
    lastSafe := lastSafe, dropped := s.flt.dropped, nextSeq := from_, seqCeil := from_ }

/-- The registers that the always-on domain holds: PWR_FIRSTFAIL (R584, log 33). -/
def State.coldRegs (s : State) : Tab Word := s.regs.filter (fun (e : Nat × Word) => e.1 == regAddr 0x002 0x114)

/-- Cages keep their cables: presence is electrical, and identities are read once an insertion (R25, log 33). -/
def State.coldCages (s : State) : Tab Cage := s.cages

/-- Reset of every domain but AON: the medium, the pantry, the firmware slots, the fuses and the always-on part stay (R571). -/
def State.cold (s : State) (lastSafe : Bool) : State :=
  let s := s.takeAll.tearStripes
  { s with
    regs := s.coldRegs, shadow := [], hold := [], perf := [], cyc := [], freezeAll := false, pages := {},
    mgt := { straps := s.mgt.straps, pwrEn := s.mgt.pwrEn, mrst := s.mgt.mrst, pfail := s.mgt.pfail },
    flt := s.coldFlt lastSafe, pan := s.pan.cold,
    thm := { shutLast := s.thm.shutLast, shutCh := s.thm.shutCh, shutTemp := s.thm.shutTemp },
    crs := {},
    slices := [], dtc := {}, mch := s.coldMch, mte := s.coldMte, cages := s.coldCages, ports := [], fxb := {}, heads := [],
    sve := { slot0 := s.sve.slot0, slot1 := s.sve.slot1, running := s.sve.running } }

/-! ### Off, Thermal-off and module reset (R544, R545, R571) -/

/-- What PWR keeps in its always-on part at a power-down: the pins and the input, the sequencer's memory, the causes and counts. -/
def Pwr.off (p : Pwr) (st : BitVec 4) : Pwr :=
  { st := st, attempts := p.attempts, latchedOff := p.latchedOff || decide (2 ≤ p.attempts), offDone := false, seat := p.seat, vin := p.vin,
    rails := p.rails.map (fun (e : Nat × Rail) => (e.1, { e.2 with on := false, st := 0, bad := 0 })), resetCause := p.resetCause,
    resets := p.resets, fcause := p.fcause, fdone := p.fdone, fmib := p.fmib, fenergy := p.fenergy, relocks := p.relocks, locked := p.locked,
    refOk := p.refOk, thermOff := st == 9, bleed := true }

/-- Every converter is off: the module is Off for its minimum off time, or Thermal-off; I3C answers on at its address (R471, R545, R567,
R584). -/
def State.reachOff (s : State) (therm : Bool) : State :=
  let s := s.supLog 0x05 0xff 0 0
  let m := s.mgt
  let sensors := if therm then s.thm.sensors else []
  let s := s.cold s.flt.lastSafe
  let s := { s with thm := { s.thm with sensors := sensors } }
  let s := { s with mgt := { s.mgt with dyn := m.dyn, ibiEn := m.ibiEn, hjEn := m.hjEn, mwl := m.mwl, mrl := m.mrl } }
  { s with pwr := s.pwr.off (if therm then 9 else 8) }

/-- A module reset once its flush has ended: every domain but AON, rails staying up (R571, R573). -/
def State.moduleReset (s : State) (cause : BitVec 4) : State :=
  let wasSafe := s.safe
  let s := s.cold wasSafe
  let p := s.pwr
  { s with pwr :=
    { st := 2, step := 8, attempts := p.attempts, seat := p.seat, vin := p.vin, rails := p.rails, resetCause := cause,
      resets := min 16777215 (p.resets + 1), fcause := p.fcause, fdone := p.fdone, fmib := p.fmib, fenergy := p.fenergy, relocks := p.relocks,
      locked := p.locked, refOk := p.refOk, opSet := p.opSet, offReq := p.offReq, mstate := 1,
      startup := if s.mgt.mrst then 1 else 0, inReset := !s.mgt.mrst } }

end Sys2Proof.Machine
end

