-- ==== Sys2Proof/Machine/Power.lean ====
section
/-! DEFINITION. The power supervisor: rails and the scan ADC, the sequencer, flushes, input monitoring, the hold-up bank, the emergency
flush, power states and profiles (R27 to R41, R173, R481, R541 to R561). -/

namespace Sys2Proof.Machine

open Sys2Proof

/-! ### Rails (R541, R544) -/

/-- Nominal voltage of a scan channel in mV (R541). -/
def railNominal (ch : Nat) : Nat :=
  if ch = 0 then 800 else if ch = 1 then 900 else if ch = 2 then 3300 else if ch = 3 then 1800 else if ch = 4 then 800
  else if ch ≤ 6 then 750 else if ch ≤ 10 then 900 else if ch ≤ 14 then 1200 else if ch ≤ 18 then 2500 else if ch = 19 then 1200
  else if ch = 20 then 5000 else if ch ≤ 36 then 12000 else if ch = 37 then 80000 else if ch = 38 then 48000 else 1000

/-- A sample lies in the window of its channel (R541). -/
def railInside (ch mv : Nat) : Bool :=
  if 21 ≤ ch && ch ≤ 36 then decide (11000 ≤ mv) && decide (mv ≤ 13200)
  else if ch = 37 then decide (76000 ≤ mv) && decide (mv ≤ 84000)
  else if ch = 38 then decide (40000 ≤ mv) && decide (mv ≤ 60000)
  else
    let p := if ch = 39 then 2 else 5
    decide (railNominal ch * (100 - p) ≤ mv * 100) && decide (mv * 100 ≤ railNominal ch * (100 + p))

/-- The sequencer step of a rail; step 0 is always on (R541). -/
def railStep (ch : Nat) : Nat :=
  if ch ≤ 1 then 0 else if ch ≤ 3 then 1 else if ch = 4 then 2 else if ch ≤ 6 then 3 else if ch ≤ 10 then 4 else if ch ≤ 14 then 5
  else if ch ≤ 18 then 6 else if ch = 19 then 7 else if ch = 20 then 8 else 9

/-- The rails of a step; step 9 has the feeds of used sockets only (R544). -/
def State.stepRails (s : State) (k : Nat) : List Nat :=
  if k = 9 then s.dtc.used.map (fun c => 21 + c) else (List.range 21).filter (fun ch => railStep ch = k)

/-- Switch the rails of a step on, ramping, or off. -/
def State.switchStepRails (s : State) (k : Nat) (on : Bool) : State :=
  s.each (if on then s.stepRails k else (List.range 37).filter (fun ch => railStep ch = k)) (fun s ch =>
    s.setRail ch { s.rail ch with on := on, st := if on then 1 else 0, bad := 0 })

/-- The rails of a step are in window. -/
def State.stepInWindow (s : State) (k : Nat) : State :=
  s.each (s.stepRails k) (fun s ch => s.setRail ch { s.rail ch with on := true, st := 2, bad := 0 })

/-- PWR_FIRSTFAIL holds the first failing rail until software clears it (R546, R547, R574): phase 0 On, 1 power-up, 2 power-down, 3 flush. -/
def State.firstFail (s : State) (phase ch : Nat) : State :=
  if bitAt (s.reg 0x002 0x114) 31 then s
  else s.setReg 0x002 0x114 (BitVec.ofNat 32 (2 ^ 31 + phase * 2 ^ 28 + ch * 2 ^ 22 + (s.rail ch).mv.toNat))

/-- The phase code of PWR_FIRSTFAIL now. -/
def State.failPhase (s : State) : Nat :=
  if s.pwr.st = 1 then 1 else if s.pwr.flush = 3 then 3 else if s.pwr.st = 6 then 2 else 0

/-! ### Sequences (R544 to R549) -/

/-- The highest sequencer step that is on: step 9 where a feed is on (R544). -/
def State.topStep (s : State) : Nat := if s.pwr.rails.any (fun (e : Nat × Rail) => 21 ≤ e.1 && e.1 ≤ 36 && e.2.on) then 9 else s.pwr.step

/-- The reverse sequence begins from a step (R544). -/
def State.startReverse (s : State) (step : Nat) : State :=
  let s := { s with pwr := { s.pwr with st := 6, step := step, down := true, downFail := false, flush := 0, offReq := false } }
  s.supLog 0x04 0xff 0 0

/-- The flush of R173 begins: admission stops, lanes are released, merge stores drain, every dirty page of Durable and Strict regions
goes to the MTE (R173, R549). Kinds: 1 orderly, 2 module reset, 3 emergency, 4 thermal, 5 safe state, 6 Deep Idle. -/
def State.startFlush (s : State) (kind : Nat) : State :=
  let s := { s with pwr := { s.pwr with flush := kind } }
  ((s.flushSlices.handAll false).pump).closeGather true

/-- Frames that a flush still has to program (R173). -/
def State.unflushed (s : State) : Bool :=
  s.dtc.frames.any (fun (e : Nat × Frame) => e.2.staged && s.persistOf e.2.lmp != 0) || !s.dtc.waiting.isEmpty

/-- Lane and merge-store entries are left. -/
def State.undrained (s : State) : Bool := s.slices.any (fun (e : Nat × Slice) => !e.2.lanes.isEmpty || !e.2.merge.isEmpty)

/-- Journal entries that a flush still has to write (R173). -/
def State.unjournaled (s : State) : Bool := !s.mte.jbuf.isEmpty || !s.mte.jprog.isEmpty || !s.mte.jwait.isEmpty

/-- All steps of R173 have ended. -/
def State.flushed (s : State) : Bool := !s.undrained && !s.unflushed && !s.unjournaled

/-- The flush goes on: what is dirty again is handed over, and once no page is left the journal is written (R173). -/
def State.flushOn (s : State) : State :=
  if s.undrained || s.unflushed then ((s.flushSlices.handAll false).pump).closeGather true else s.closeJournal

/-- What every flush does at its end: operating seconds, the spill page, and GPF requests that waited (R180, R529, R532). -/
def State.flushTail (s : State) : State := ((s.setRing 1 s.opSec).programSpill).gpfFlushEnd

/-- DEEP_IDLE_WAKE: rails and ports come back, heads restore their width, and what was held goes on (R558). -/
def State.deepIdleWake (s : State) : State :=
  if s.pwr.st != 5 then s else
  let s := { s with pwr := { s.pwr with st := 3 } }
  let s := s.each [6, 7, 8] (fun s k => s.stepInWindow k)
  let s := s.each s.ports.keys State.leaveTrickle
  let s := s.each s.headList (fun s n =>
    let x := s.head n
    if x.active && x.priorWidth != 0 then
      s.setHead n { x with width := x.priorWidth, priorWidth := 0, st := if x.priorWidth = x.fullWidth then 3 else 4 }
    else s)
  let s := s.each s.headList (fun s n => s.freeHeld ⟨n % 64, Nat.mod_lt _ (by decide)⟩)
  s.freeSleepq.finishOp 0x51 stOk []

/-- An orderly power-down: from On and Idle with the flush first; a start-up stops at the end of its current phase; a power-up step is
finished first (R548, R549). -/
def State.askOff (s : State) : State :=
  match s.pwr.st.toNat with
  | 1 => { s with pwr := { s.pwr with offReq := true } }
  | 2 => { s with pwr := { s.pwr with offReq := true } }
  | 3 | 4 => { s with pwr := { s.pwr with st := 6 } }.startFlush 1
  | 5 =>
    let s := s.deepIdleWake
    { s with pwr := { s.pwr with st := 6 } }.startFlush 1
  | _ => s

/-- Deep Idle is entered once its flush has ended: steps 6 to 8 released, ports to Trickle, heads to L0p at x1; the POWER_STATE that
asked for it is done (R559). -/
def State.deepIdle (s : State) : State :=
  let s := s.gpfFlushEnd.each [8, 7, 6] (fun s k => s.switchStepRails k false)
  let s := { s with pwr := { s.pwr with st := 5, flush := 0 } }
  let s := s.each (List.range 512) (fun s n => if (s.ports.find n).isSome then s.askTrickle n else s)
  let s := s.each s.headList (fun s n => if (s.head n).active then
    s.setHead n { s.head n with width := 1, priorWidth := (s.head n).width, st := if (s.head n).fullWidth = 1 then 3 else 4 } else s)
  s.finishOp 0x51 stOk []

/-- The end of an orderly, reset or thermal flush: the reverse sequence, or the reset (R549, R567). -/
def State.orderlyEnd (s : State) : State :=
  let s := s.flushTail
  if s.pwr.flush = 2 then
    let off := s.pwr.offReq || !s.mgt.pwrEn
    if off then s.startReverse s.topStep else s.moduleReset s.pwr.askedCause
  else if s.pwr.flush = 4 then ({ s with pwr := { s.pwr with thermOff := true } }).startReverse s.topStep
  else s.startReverse s.topStep

/-- ORDERLY_FLUSH_END, of Deep Idle entry also: where steps are left, the flush goes on (R549, R559). -/
def State.orderlyFlushEnd (s : State) : State :=
  if s.pwr.flush ∈ [1, 2, 4] then (if s.flushed then s.orderlyEnd else s.flushOn)
  else if s.pwr.flush = 6 then (if s.flushed then s.deepIdle else s.flushOn) else s

/-- ORDERLY_FLUSH_TIMEOUT: the sequence runs regardless; what is unsaved falls under R175 (R549). -/
def State.orderlyFlushTimeout (s : State) : State := if s.pwr.flush ∈ [1, 2, 4] then s.orderlyEnd else s

/-- A module reset is asked for with its cause: the flush, then the reset; without effect in Off (R482, R549, R571). -/
def State.askReset (s : State) (cause : BitVec 4) : State :=
  let s := s.deepIdleWake
  if s.pwr.st.toNat ∈ [2, 3, 4] then ({ s with pwr := { s.pwr with st := 6, askedCause := cause } }).startFlush 2
  else s

/-- A start-up phase has ended with an Off request held: the journal is written and the reverse sequence runs (R548). -/
def State.startupOff (s : State) : State :=
  if s.pwr.offReq then ({ s with pwr := { s.pwr with st := 6, startup := 0, offReq := false } }).startFlush 1 else s

/-- Power-up may start (R32, R545, R546). -/
def State.mayPowerUp (s : State) : Bool :=
  s.pwr.st == 0 && s.pwr.offDone && s.pwr.seat && s.mgt.pwrEn && railInside 38 s.pwr.vin && !s.pwr.latchedOff && s.pwr.locked && s.pwr.refOk

/-- POWER_UP_START: step 1, and the bank charges (R39, R545, R551, R571). -/
def State.powerUp (s : State) : State :=
  if !s.mayPowerUp then s else
  let s := { s with pwr := { s.pwr with st := 1, step := 1, down := false, attempts := s.pwr.attempts + 1, bleed := false, mstate := 1,
                                        resetCause := if s.pwr.thermOff then 5 else 4, thermOff := false, offReq := false } }
  (s.supLog 0x01 0xff 0 0).switchStepRails 1 true

/-- A power-up step has ended: the next one, start-up behind step 8, or the reverse sequence for an Off request held (R544, R548, R573). -/
def State.upStepDone (s : State) : State :=
  let k := s.pwr.step
  let s := s.stepInWindow k
  if s.pwr.offReq then s.startReverse k
  else if 8 ≤ k then
    ({ s with pwr := { s.pwr with st := 2, startup := 1, attempts := 0 } }).supLog 0x02 0xff 0 0
  else ({ s with pwr := { s.pwr with step := k + 1 } }).switchStepRails (k + 1) true

/-- A power-down step has ended (R544, R545). -/
def State.downStepDone (s : State) : State :=
  let k := s.pwr.step
  let s := s.switchStepRails k false
  let s := if k ≤ 1 && (s.pwr.flush = 3 || (s.pwr.thermOff && s.pwr.fcause = 4)) && !s.pwr.fdone then
    ({ s with pwr := { s.pwr with fdone := true } }).raise 0x002 .pwrFlushDone else s
  if k ≤ 1 then s.reachOff s.pwr.thermOff else { s with pwr := { s.pwr with step := k - 1 } }

/-- SEQUENCER_STEP_DONE; in start-up, step 9 switches on the feeds of used sockets (R36, R544, R573). -/
def State.stepDone (s : State) : State :=
  if s.pwr.st = 1 then s.upStepDone
  else if s.pwr.down then s.downStepDone
  else if s.pwr.st = 2 && s.pwr.step = 8 && s.dtc.decided then
    ({ s with pwr := { s.pwr with step := 9 } }).stepInWindow 9
  else s

/-- SEQUENCER_STEP_TIMEOUT of a rail: a failed power-up runs back; a power-down goes on (R546, R547). -/
def State.stepTimeout (s : State) (ch : Nat) : State :=
  if s.pwr.st = 1 then
    let s := (s.firstFail 1 ch).supLog 0x07 ch (s.rail ch).mv.toNat 0
    let s := s.setRail ch { s.rail ch with st := 5 }
    ((s.supLog 0x03 0xff 0 0).raise 0x002 .pwrSeqFail).startReverse s.pwr.step
  else if s.pwr.down then
    let s := if s.pwr.downFail then s else
      (({ s with pwr := { s.pwr with downFail := true } }).firstFail 2 ch).supLog 0x07 ch (s.rail ch).mv.toNat 0
    s.downStepDone
  else s

/-- MIN_OFF_TIME_EXPIRY (R545). -/
def State.minOffEnd (s : State) : State :=
  if s.pwr.st = 8 then { s with pwr := { s.pwr with st := 0, offDone := true } }
  else if s.pwr.st = 9 then { s with pwr := { s.pwr with offDone := true } } else s

/-! ### The pins of power (R32, R33, R481, R482, R546, R548) -/

/-- PWR_EN rises: power-up is permitted, and after two failed ones again; ignored while MRST_N holds the module in reset. -/
def State.pwrEnRise (s : State) : State :=
  let s := { s with mgt := { s.mgt with pwrEn := true } }
  if s.pwr.inReset then s else { s with pwr := { s.pwr with latchedOff := false, attempts := 0 } }

/-- PWR_EN falls: an orderly power-down to Off; in a held reset the module goes to Off, its flush having ended. -/
def State.pwrEnFall (s : State) : State :=
  let s := { s with mgt := { s.mgt with pwrEn := false }, pwr := { s.pwr with latchedOff := false } }
  if s.pwr.inReset then ({ s with pwr := { s.pwr with inReset := false } }).startReverse s.topStep else s.askOff

/-- MRST_N falls: a module reset. -/
def State.mrstFall (s : State) : State := ({ s with mgt := { s.mgt with mrst := false } }).askReset 1

/-- MRST_N rises: the straps are sampled, and start-up follows a reset whose flush has ended (R30, R482). -/
def State.mrstRise (s : State) (straps : BitVec 2) : State :=
  let s := { s with mgt := { s.mgt with mrst := true, straps := straps } }
  if s.pwr.inReset then { s with pwr := { s.pwr with inReset := false, startup := 1 } } else s

/-! ### The early warning (R550) -/

/-- The early warning begins: PFAIL, Durable releases held, every dirty frame handed over. -/
def State.warnStart (s : State) : State :=
  if s.pwr.warn || !s.up then s else
  let s := ({ s with pwr := { s.pwr with warn := true }, dtc := { s.dtc with early := true } }).raise 0x002 .pwrPfail
  (s.handAll true).pump

/-- The warning ends when PFAIL_N is high and VIN is in window. -/
def State.warnEnd (s : State) : State :=
  if s.pwr.warn && s.mgt.pfail && railInside 38 s.pwr.vin then
    { s with pwr := { s.pwr with warn := false }, dtc := { s.dtc with early := false } }
  else s

/-! ### The emergency flush (R33, R548, R550, R553, R554) -/

/-- MiB of dirty pages that a flush has to program. -/
def State.dirtyMib (s : State) : Nat :=
  ((s.dtc.frames.filter (fun (e : Nat × Frame) => e.2.staged && s.persistOf e.2.lmp != 0)).length + 255) / 256

/-- Every converter is released at once and the module is Off (R543, R548, R554, R570). -/
def State.releaseAll (s : State) : State := s.reachOff false

/-- An input trip, a BLADE_SEAT opening or VIN too high: causes 1, 2 and 3. Outside a flush it is the steps of R173 from the first; a
running flush goes on from the bank; Deep Idle is left first. DESIGN CHOICE: while MRST_N holds the module in reset nothing is left to flush,
and the converters are released at once, without a flush or INPUT_TRIP (R33, R548, R553, R559, log 84). -/
def State.emergency (s : State) (cause : BitVec 3) : State :=
  let s := s.deepIdleWake
  match s.pwr.st.toNat with
  | 1 => s.releaseAll
  | 2 | 3 | 4 | 5 =>
    if s.pwr.inReset then s.releaseAll else
    let s := { s with pwr := { s.pwr with st := 7, fcause := cause, fdone := false, fphase := 1 } }
    let s := ((s.supLog 0x08 0xff 0 0).raise 0x002 .pwrInputTrip).startFlush 3
    { s with pwr := { s.pwr with fmib := s.dirtyMib } }
  | 6 =>
    if s.pwr.flush = 0 then s.releaseAll else
    let s := { s with pwr := { s.pwr with st := 7, fcause := cause, fdone := false, fphase := 1, flush := 3, fmib := s.dirtyMib } }
    (s.supLog 0x08 0xff 0 0).raise 0x002 .pwrInputTrip
  | _ => s

/-- FLUSH_DRAIN_END: merge stores empty, Program begins. -/
def State.flushDrained (s : State) : State :=
  if s.pwr.flush = 3 && s.pwr.fphase = 1 && !s.undrained then
    let s := { s with pwr := { s.pwr with fphase := 2 } }
    ((s.handAll false).pump).closeGather true
  else s

/-- FLUSH_PROGRAM_END: no dirty page remains, the journal is written. -/
def State.flushProgrammed (s : State) : State :=
  if s.pwr.flush = 3 && s.pwr.fphase = 2 then
    if s.unflushed then s.flushOn else ({ s with pwr := { s.pwr with fphase := 3 } }).closeJournal
  else s

/-- FLUSH_JOURNAL_END with the energy used: all durable, the supervisor record, and the reverse sequence without settle time. -/
def State.flushJournaled (s : State) (joules : BitVec 10) : State :=
  if s.pwr.flush = 3 && s.pwr.fphase = 3 then
    if s.unjournaled then s.closeJournal else
    let s := s.flushTail
    let s := { s with pwr := { s.pwr with fphase := 4, fenergy := joules } }
    let s := s.supLog 0x09 0xff s.pwr.fmib joules.toNat
    ({ s with pwr := { s.pwr with step := s.topStep, down := true, downFail := false } }).supLog 0x04 0xff 0 0
  else s

/-- FLUSH_RELEASE_PHASE_END: Off. -/
def State.flushReleased (s : State) : State :=
  if s.pwr.flush = 3 && s.pwr.fphase = 4 then
    (({ s with pwr := { s.pwr with fdone := true } }).raise 0x002 .pwrFlushDone).reachOff s.pwr.thermOff
  else s

/-- FLUSH_SHORT: VHOLD below vmin, every converter released (R554). -/
def State.flushShort (s : State) : State :=
  if s.pwr.flush = 3 then (s.raise 0x002 .pwrFlushShort).releaseAll else s

/-! ### The hold-up bank (R39, R551, R552) -/

/-- The bank is declared faulty: HOLD_FAULT and a budget of zero at once (R552). -/
def State.holdFault (s : State) : State :=
  if !s.up then s else
  let s := { s with pwr := { s.pwr with bankOk := false, mstate := 0, lowered := false } }
  (s.raise 0x002 .pwrHoldFault).newBudget 0

/-- The results of a measurement (R551): c in F, esr in ohm, vmin in V and the energy in J, exact until the last step. -/
def bankC (v1 v2 : Nat) : Rat := 200 / ((v1 : Rat) - v2)
def bankEsr (v0 v1 : Nat) : Rat := ((v0 : Rat) - v1) / 2000
def bankVmin (v0 v1 : Nat) : Rat := 30 + 25 * bankEsr v0 v1
def bankEnergy (v0 v1 v2 : Nat) : Nat :=
  ((92 / 100 : Rat) * (1 / 2) * bankC v1 v2 * (((v0 : Rat) / 1000) * ((v0 : Rat) / 1000) - bankVmin v0 v1 * bankVmin v0 v1)).floor.toNat

/-- The capacitance and resistance of a healthy bank (R552). -/
def bankHealthy (v0 v1 v2 : Nat) : Bool :=
  decide (v2 < v1) && decide (1 / 20 ≤ bankC v1 v2) && decide (bankC v1 v2 ≤ 1 / 2) && decide (bankEsr v0 v1 ≤ 1 / 5)

/-- HOLD_MEAS from VHOLD before, 50 µs and 100 ms into the load, in mV (R551, R552). -/
def State.holdMeas (s : State) (v0 v1 v2 : Nat) : State :=
  if !s.up || s.pwr.flush != 0 then s else
  let cMf := (bankC v1 v2 * 1000).floor.toNat
  let esr := (bankEsr v0 v1 * 10000).floor.toNat
  let s := { s with pwr := { s.pwr with cMf := min 65535 cMf, esr := min 65535 esr, vmin := (bankVmin v0 v1 * 1000).floor.toNat } }
  if !bankHealthy v0 v1 v2 then s.holdFault else
  let e := bankEnergy v0 v1 v2
  let s := { s with pwr := { s.pwr with bankOk := true, mstate := 3, energy := min 1023 e, holdLow := 0, measAt := some s.ns } }
  ((s.newBudget e).supLog 0x0a 0xff e (min 65535 cMf + 65536 * min 65535 esr)).raise 0x002 .pwrHoldMeas

/-- HOLDUP_MEASURE_SCHEDULE: the charger stops and the load is applied; in the 24 h measurement of a healthy bank the budget is lowered by
16 GiB until it has recharged (R551). -/
def State.measureStart (s : State) : State :=
  if !s.up || s.pwr.mstate = 2 then s else
  let healthy := s.pwr.mstate = 3
  let s := { s with pwr := { s.pwr with mstate := 2, lowered := healthy } }
  if healthy then s.newBudget s.dtc.energy else s

/-! ### The scan (R541 to R543, R550, R552) -/

/-- The reaction to a rail's fault (R541). -/
def State.railReaction (s : State) (ch : Nat) : State :=
  if ch ≤ 6 then (s.raise 0x002 .pwrRailStop).releaseAll
  else if ch ≤ 14 then
    let q := (ch - 7) % 4
    s.each ((List.range 16).map (fun i => 16 * q + i)) (fun s b =>
      let s := s.raiseAt 0x002 .pwrQuadRail { dom := 3, inst := b }
      let s := s.fence 3 b
      (s.endBarriersAll [b]).blockDown b 1)
  else if ch ≤ 20 then
    let dramStacks := if ch ≤ 18 then (List.range 4).map (fun i => 4 * (ch - 15) + i) else List.range 16
    let s := s.raiseAt 0x080 .mchMediaFt { kind := 2, items := dramStacks.map (fun k => k * 2 ^ 28) }
    s.each (dramStacks.flatMap (fun k => (List.range 4).map (fun i => 4 * k + i))) (fun s c => s.fenceChan1 c 5)
  else if ch ≤ 36 then s.fenceDch (ch - 21) 5
  else s

/-- A rail fault is declared: RAIL_FAULT, the supervisor record, the first failing rail, and its reaction; during a power-down R547
governs instead (R542, R547, R548). -/
def State.railFault (s : State) (ch : Nat) : State :=
  let mv := (s.rail ch).mv.toNat
  let s := s.setRail ch { s.rail ch with st := 5 }
  let s := (s.raise 0x002 .pwrRailFault).supLog 0x06 ch mv 0
  let s := s.firstFail s.failPhase ch
  if s.pwr.down && 1 < ch then s else s.railReaction ch

/-- One sample of a rail: windows hold for enabled rails; one more than 10 % above nominal releases its converter at once (R542). -/
def State.railSample (s : State) (ch mv : Nat) : State :=
  let x := { s.rail ch with mv := BitVec.ofNat 20 mv }
  let s := s.setRail ch x
  if !(x.on || (ch ≤ 1)) || x.st = 5 || 3 ≤ s.pwr.refBad then s
  else if railNominal ch * 110 < mv * 100 then (s.setRail ch { x with on := false, st := 5 }).railFault ch
  else if railInside ch mv then s.setRail ch { x with st := 2, bad := 0 }
  else if x.st = 1 then s
  else
    let s := s.setRail ch { x with st := if mv < railNominal ch then 3 else 4, bad := min 3 (x.bad + 1) }
    if 3 ≤ x.bad + 1 then s.railFault ch else s

/-- The bank has recharged to 80 V after a measurement: the budget is no longer lowered (R551). -/
def State.recharged (s : State) (mv : Nat) : State :=
  if s.pwr.lowered && s.pwr.mstate = 3 && 80000 ≤ mv then ({ s with pwr := { s.pwr with lowered := false } }).newBudget s.dtc.energy else s

/-- The sample of VHOLD: below 76 V for three samples of a charged bank with no measurement and no flush (R551, R552). -/
def State.holdSample (s : State) (mv : Nat) : State :=
  let s := s.setRail 37 { s.rail 37 with mv := BitVec.ofNat 20 mv }
  let s := ({ s with pwr := { s.pwr with bleed := s.pwr.bleed && decide (20000 ≤ mv) } }).recharged mv
  if s.pwr.mstate != 3 || s.pwr.flush != 0 then s
  else if 76000 ≤ mv then { s with pwr := { s.pwr with holdLow := 0 } }
  else
    let n := s.pwr.holdLow + 1
    let s := { s with pwr := { s.pwr with holdLow := n } }
    if n = 3 then s.holdFault else s

/-- The sample of VIN: below 40 V for three the early warning, above 60 V for three the emergency flush (R541, R550). -/
def State.vinSample (s : State) (mv : Nat) : State :=
  let low := if mv < 40000 then s.pwr.vinLow + 1 else 0
  let high := if 60000 < mv then s.pwr.vinHigh + 1 else 0
  let s := { s with pwr := { s.pwr with vin := mv, vinLow := min 3 low, vinHigh := min 3 high } }
  let s := s.setRail 38 { s.rail 38 with mv := BitVec.ofNat 20 mv }
  let s := if low = 3 || high = 3 then s.supLog 0x0e 38 mv 0 else s
  if low = 3 then s.warnStart else if high = 3 then s.emergency 3 else if railInside 38 mv then s.warnEnd else s

/-- The sample of REF: outside for three rounds, every rail is judged by its power-good signal alone (R543). -/
def State.refSample (s : State) (mv : Nat) : State :=
  let s := s.setRail 39 { s.rail 39 with mv := BitVec.ofNat 20 mv }
  if railInside 39 mv then { s with pwr := { s.pwr with refBad := 0 } }
  else
    let n := s.pwr.refBad + 1
    let s := { s with pwr := { s.pwr with refBad := min 3 n } }
    if n = 3 then s.raise 0x002 .pwrAdcFail else s

/-- One sample of a scan channel. -/
def State.scanSample (s : State) (ch mv : Nat) : State :=
  if ch ≤ 36 then s.railSample ch mv else if ch = 37 then s.holdSample mv else if ch = 38 then s.vinSample mv else s.refSample mv

/-- The power-good signal of a rail's converter has fallen: a rail fault of an enabled rail while the scan has no reference (R543). -/
def State.goodLost (s : State) (ch : Nat) : State :=
  let x := s.rail ch
  if 3 ≤ s.pwr.refBad && (x.on || ch ≤ 1) && x.st != 5 && x.st != 1 then s.railFault ch else s

/-- A feed is drawn beyond 2.0 A: a rail fault (R591). -/
def State.feedOver (s : State) (c : Nat) : State :=
  let x := s.rail (21 + c)
  if x.on && x.st != 5 then s.railFault (21 + c) else s

/-- ADC_SCAN_ROUND: the auto-zero against REF, then every channel in order, then the power-good signals that have fallen and the feeds
drawn beyond their limit; a missing sample leaves its channel (R542, R543, R591). -/
def State.adcRound (s : State) (mv : List (BitVec 20)) (lost : List (Fin 37)) (over_ : List (Fin 16)) : State :=
  let s := match mv[39]? with
    | some r => s.refSample r.toNat
    | none => s
  let s := s.each ((List.range 39).zip mv) (fun s e => s.scanSample e.1 e.2.toNat)
  let s := s.each lost (fun s c => s.goodLost c.val)
  s.each over_ (fun s c => s.feedOver c.val)

/-! ### Profiles (R234, R560, R561, R564) -/

/-- The program rate cap of the profile in force, GB/s. -/
def State.profileCap (s : State) : Nat :=
  if s.pwr.profile = 1 then 104 else if s.pwr.profile = 2 then s.pwr.pgm else 200

/-- The caps in force: the lower of the profile's and the enforced thermal limit (R560, R564). -/
def State.setCaps (s : State) : State :=
  let lim := s.regFld 0x003 0x100 8 8
  let cap := if s.thm.enf then s.profileCap * lim / 100 else s.profileCap
  { s with mch := { s.mch with cap := cap } }

/-- PWR_STATE.REQ_PCT: the slice admission limit in force (R561, R564). -/
def State.reqPct (s : State) : Nat :=
  let r := if s.pwr.profile = 2 then s.pwr.req else 100
  if s.thm.enf then min r (s.regFld 0x003 0x100 8 8) else r

/-- The control loop of Capped (R561). -/
def cappedLoop (p cap pgm req : Nat) : Nat × Nat :=
  if cap < p + 10 then
    if 13 < pgm then (max 13 (pgm * 9 / 10), req) else if 25 < req then (pgm, max 25 (req - 10)) else (pgm, req)
  else if p + 30 < cap then
    if req < 100 then (pgm, min 100 (req + 5)) else if pgm < 200 then (min 200 (pgm + pgm / 20 + 1), req) else (pgm, req)
  else (pgm, req)

/-- The profile of PWR_PROFILE comes into force at the next control period (R560, R574). -/
def State.takeProfile (s : State) : State :=
  let p := s.regFld 0x002 0x104 0 2
  let cap := s.regFld 0x002 0x104 16 10
  let s := if p = 2 && s.pwr.profile = 2 then { s with pwr := { s.pwr with cap := cap } }
    else { s with pwr := { s.pwr with profile := BitVec.ofNat 2 p, cap := cap, pgm := 200, req := 100 } }
  s.setCaps

/-- CAPPED_LOOP_TICK: the averaged input power, the profile, and in Capped the loop (R561). -/
def State.loopTick (s : State) (watts : Nat) : State :=
  let s := { s with pwr := { s.pwr with powerW := watts } }
  if s.pwr.st.toNat ∈ [2, 3, 4, 5] then
    let s := s.takeProfile
    if s.pwr.profile = 2 then
      let r := cappedLoop watts s.pwr.cap s.pwr.pgm s.pwr.req
      ({ s with pwr := { s.pwr with pgm := r.1, req := r.2 } }).setCaps
    else s
  else s

/-! ### Idle and Deep Idle (R558, R559) -/

/-- No request waits in a slice. -/
def State.slicesQuiet (s : State) : Bool :=
  s.slices.all (fun (e : Nat × Slice) => e.2.inq.isEmpty && e.2.misses.isEmpty && e.2.stalled.isEmpty && e.2.behind.isEmpty)

/-- Enter Idle by command or of its own accord. -/
def State.enterIdle (s : State) (auto : Bool) : State := { s with pwr := { s.pwr with st := 4, ungated := 0, autoIdle := auto } }

/-- AUTO_IDLE_ENTRY in Efficiency. -/
def State.autoIdle (s : State) : State :=
  if s.pwr.st = 3 && s.pwr.profile = 1 && s.slicesQuiet then s.enterIdle true else s

/-- The domains that Idle gates: SLC0 to SLC7, MCN, MCS and MPH, by index d − 1 (R558, R569). -/
def idleDomain (i : Nat) : Bool := (5 ≤ i && i ≤ 12) || (21 ≤ i && i ≤ 23)

/-- DOMAIN_UNGATE; a request at a slice ends the automatic kind of Idle. -/
def State.ungate (s : State) (i : Nat) : State :=
  if s.pwr.st != 4 || !idleDomain i then s
  else if s.pwr.autoIdle && i ≤ 12 then { s with pwr := { s.pwr with st := 3, autoIdle := false, ungated := 0 } }
  else { s with pwr := { s.pwr with ungated := s.pwr.ungated ||| oneBit 25 i } }

/-- DOMAIN_REGATE. -/
def State.regate (s : State) (i : Nat) : State :=
  if s.pwr.st = 4 && idleDomain i then { s with pwr := { s.pwr with ungated := s.pwr.ungated &&& ~~~(oneBit 25 i) } } else s

/-! ### Commands -/

/-- BLADE_SEAT_CLOSE (R32, R41). -/
def execBladeSeatClose (s : State) : Host.Outcome State Fault Refusal := .next { s with pwr := { s.pwr with seat := true } }

/-- BLADE_SEAT_OPEN (R33). -/
def execBladeSeatOpen (s : State) : Host.Outcome State Fault Refusal :=
  .next (s.withPins (fun s => ({ s with pwr := { s.pwr with seat := false } }).emergency 2))

/-- PWR_EN_RISE (R481). -/
def execPwrEnRise (s : State) : Host.Outcome State Fault Refusal := .next s.pwrEnRise

/-- PWR_EN_FALL (R481). -/
def execPwrEnFall (s : State) : Host.Outcome State Fault Refusal := .next (s.withPins State.pwrEnFall)

/-- MRST_N_FALL (R481). -/
def execMrstNFall (s : State) : Host.Outcome State Fault Refusal := .next (s.withPins State.mrstFall)

/-- MRST_N_RISE (R482). -/
def execMrstNRise (straps : BitVec 2) (s : State) : Host.Outcome State Fault Refusal := .next (s.mrstRise straps)

/-- PFAIL_N_FALL (R550). -/
def execPfailNFall (s : State) : Host.Outcome State Fault Refusal :=
  .next (s.withPins (fun s => ({ s with mgt := { s.mgt with pfail := false } }).warnStart))

/-- PFAIL_N_RISE (R550). -/
def execPfailNRise (s : State) : Host.Outcome State Fault Refusal := .next ({ s with mgt := { s.mgt with pfail := true } }).warnEnd

/-- HOLDUP_CHARGE_TIMEOUT (R39, R552). -/
def execHoldupChargeTimeout (s : State) : Host.Outcome State Fault Refusal :=
  .next (s.withPins (fun s => if s.pwr.mstate = 1 then s.holdFault else s))

/-- HOLD_MEAS (R551). -/
def execHoldMeas (v0 v1 v2 : BitVec 20) (s : State) : Host.Outcome State Fault Refusal :=
  .next (s.withPins (fun s => s.holdMeas v0.toNat v1.toNat v2.toNat))

/-- HOLDUP_MEASURE_SCHEDULE (R551). -/
def execHoldupMeasureSchedule (s : State) : Host.Outcome State Fault Refusal := .next (s.withPins State.measureStart)

/-- ADC_SCAN_ROUND (R542). -/
def execAdcScanRound (mv : AdcRound) (s : State) : Host.Outcome State Fault Refusal :=
  .next (s.withPins (fun s => s.adcRound mv.mv mv.lost mv.over_))

/-- SEQUENCER_STEP_DONE (R544). -/
def execSequencerStepDone (s : State) : Host.Outcome State Fault Refusal := .next (s.withPins State.stepDone)

/-- SEQUENCER_STEP_TIMEOUT (R546, R547). -/
def execSequencerStepTimeout (ch : Fin 40) (s : State) : Host.Outcome State Fault Refusal := .next (s.withPins (fun s => s.stepTimeout ch.val))

/-- MIN_OFF_TIME_EXPIRY (R545). -/
def execMinOffTimeExpiry (s : State) : Host.Outcome State Fault Refusal := .next s.minOffEnd

/-- POWER_UP_START (R545). -/
def execPowerUpStart (s : State) : Host.Outcome State Fault Refusal := .next s.powerUp

/-- ORDERLY_FLUSH_END (R549). -/
def execOrderlyFlushEnd (s : State) : Host.Outcome State Fault Refusal := .next (s.withPins State.orderlyFlushEnd)

/-- ORDERLY_FLUSH_TIMEOUT (R549). -/
def execOrderlyFlushTimeout (s : State) : Host.Outcome State Fault Refusal := .next (s.withPins State.orderlyFlushTimeout)

/-- INPUT_TRIP: below 38 V, or VIN high (R550). -/
def execInputTrip (high : Bool) (s : State) : Host.Outcome State Fault Refusal :=
  .next (s.withPins (fun s => s.emergency (if high then 3 else 1)))

/-- FLUSH_DRAIN_END (R553). -/
def execFlushDrainEnd (s : State) : Host.Outcome State Fault Refusal := .next (s.withPins State.flushDrained)

/-- FLUSH_PROGRAM_END (R553). -/
def execFlushProgramEnd (s : State) : Host.Outcome State Fault Refusal := .next (s.withPins State.flushProgrammed)

/-- FLUSH_JOURNAL_END (R553). -/
def execFlushJournalEnd (energyJ : BitVec 10) (s : State) : Host.Outcome State Fault Refusal := .next (s.withPins (fun s => s.flushJournaled energyJ))

/-- FLUSH_RELEASE_PHASE_END (R553). -/
def execFlushReleasePhaseEnd (s : State) : Host.Outcome State Fault Refusal := .next (s.withPins State.flushReleased)

/-- FLUSH_SHORT (R554). -/
def execFlushShort (s : State) : Host.Outcome State Fault Refusal := .next (s.withPins State.flushShort)

/-- CAPPED_LOOP_TICK (R561). -/
def execCappedLoopTick (watts : BitVec 10) (s : State) : Host.Outcome State Fault Refusal := .next (s.withPins (fun s => s.loopTick watts.toNat))

/-- AUTO_IDLE_ENTRY (R558). -/
def execAutoIdleEntry (s : State) : Host.Outcome State Fault Refusal := .next s.autoIdle

/-- DOMAIN_UNGATE (R558). -/
def execDomainUngate (dom : Fin 25) (s : State) : Host.Outcome State Fault Refusal := .next (s.ungate dom.val)

/-- DOMAIN_REGATE (R558). -/
def execDomainRegate (dom : Fin 25) (s : State) : Host.Outcome State Fault Refusal := .next (s.regate dom.val)

/-- DEEP_IDLE_WAKE (R558). -/
def execDeepIdleWake (s : State) : Host.Outcome State Fault Refusal := .next (s.withPins (fun s => s.deepIdleWake.drain))

end Sys2Proof.Machine
end

