-- ==== Sys2Proof/Machine/Thermal.lean ====
section
/-! DEFINITION. The thermal functions: sensor checks, warnings, rises, throttling, the thermal shutdown and its restart (R562 to R568). -/

namespace Sys2Proof.Machine

open Sys2Proof

/-! ### Sensors (R562, R563, R566) -/

/-- An unreadable sensor. -/
def unreadable : Reading := 0x200

/-- Orthogonal neighbours of cell `i` of an 8 × 8 grid. -/
def gridNeighbours (i : Nat) : List Nat :=
  (if 8 ≤ i then [i - 8] else []) ++ (if i % 8 != 0 then [i - 1] else []) ++ (if i % 8 != 7 then [i + 1] else []) ++ (if i < 56 then [i + 8] else [])

/-- The neighbours of a module sensor (R566, log 36). -/
def sensorNeighbours (ch : Nat) : List Nat :=
  if ch < 128 then (gridNeighbours (ch % 64)).map (fun i => ch / 64 * 64 + i)
  else if ch < 160 then
    let k := (ch - 128) / 2
    let near := (if 0 < k then [k - 1] else []) ++ [k] ++ (if k < 15 then [k + 1] else [])
    (near.flatMap (fun j => [128 + 2 * j, 129 + 2 * j])).filter (fun c => c != ch)
  else ((List.range 4).map (fun i => 160 + i)).filter (fun c => c != ch)

/-- Insert into a rising list. -/
def insertInt (x : Int) : List Int → List Int
  | [] => [x]
  | y :: t => if x ≤ y then x :: y :: t else y :: insertInt x t

/-- Twice the median of a list of readings: the sum of the two middle ones. -/
def twiceMedian (l : List Int) : Int :=
  let o := l.foldl (fun acc x => insertInt x acc) []
  (o.getD ((o.length - 1) / 2) 0) + (o.getD (o.length / 2) 0)

/-- The largest of a list of readings, unreadable when there is none. -/
def largestReading (l : List Reading) : Reading := l.foldl (fun a b => if a.toInt < b.toInt then b else a) unreadable

/-- What a register shows of a reading: its low byte; 0x80 for an unreadable sensor (R574, log 50). -/
def shownReading (x : Reading) : Nat := if x = unreadable then 0x80 else x.toNat % 256

/-- The warning and throttle levels of a channel (R563). -/
def State.warnLevel (s : State) (ch : Nat) : Int :=
  if ch < 128 then s.regFld 0x003 0x104 16 8 else if ch < 160 then s.regFld 0x003 0x104 0 8 else s.regFld 0x003 0x108 0 8
def State.throtLevel (s : State) (ch : Nat) : Int :=
  if ch < 128 then s.regFld 0x003 0x104 24 8 else if ch < 160 then s.regFld 0x003 0x104 8 8 else s.regFld 0x003 0x108 8 8

/-- THM_CFG.TRIP. -/
def State.trip (s : State) : Int := s.regFld 0x003 0x100 24 8

/-- The module sensors. -/
def moduleSensors : List Nat := List.range 164

/-- The reading that a channel contributes to its neighbours' test: its own, or its stand-in once it is faulty. -/
def State.judged (s : State) (raw : Nat → Reading) (ch : Nat) : Reading :=
  if (s.sensor ch).faulty then
    largestReading ((sensorNeighbours ch).filter (fun c => !(s.sensor c).faulty) |>.map raw)
  else raw ch

/-- A reading lies more than 8 °C from the median of its neighbours. -/
def strays (x : Reading) (near : List Reading) : Bool :=
  let l := (near.filter (fun b => b != unreadable)).map BitVec.toInt
  let d := 2 * x.toInt - twiceMedian l
  !l.isEmpty && (decide (16 < d) || decide (d < -16))

/-- The sensor test of one channel in a round: faulty after three rounds astray, or unreadable (R566). -/
def State.checkSensor (s : State) (raw : Nat → Reading) (ch : Nat) : Sensor × Bool :=
  let x := s.sensor ch
  if x.faulty then (x, false) else
  let off := if strays (raw ch) ((sensorNeighbours ch).map (s.judged raw)) then x.off + 1 else 0
  let bad := raw ch == unreadable || decide (3 ≤ off)
  ({ x with off := min 3 off, faulty := bad }, bad)

/-- One channel takes its reading, its own or the stand-in's (R562, R566). -/
def State.takeReading (s : State) (raw : Nat → Reading) (ch : Nat) : State :=
  let x := s.sensor ch
  let stand := largestReading ((sensorNeighbours ch).filter (fun c => !(s.sensor c).faulty) |>.map raw)
  let now := if x.faulty then stand else raw ch
  s.setSensor ch { x with
    now := now, standin := x.faulty && now != unreadable, hist := (now :: x.hist).take 102,
    max := if x.max = unreadable || x.max.toInt < now.toInt then now else x.max }

/-- The rise of a channel over the last `n` rounds, seen from `from_` rounds ago; 0 where no such reading was made (R565). -/
def Sensor.riseAt (x : Sensor) (from_ n : Nat) : Int :=
  match x.hist[from_]?, x.hist[from_ + n]? with
  | some a, some b => if a = unreadable || b = unreadable then 0 else a.toInt - b.toInt
  | _, _ => 0

/-- A channel reaches a level in this round: at or above it now and not in the round before. -/
def Sensor.reaches (x : Sensor) (level : Int) : Bool :=
  x.now != unreadable && decide (level ≤ x.now.toInt) &&
    (match x.hist[1]? with
     | some b => b == unreadable || decide (b.toInt < level)
     | none => true)

/-- A channel reads at or above a level. -/
def State.atLeast (s : State) (ch : Nat) (level : Int) : Bool :=
  (s.sensor ch).now != unreadable && decide (level ≤ (s.sensor ch).now.toInt)

/-- The warnings of one channel (R563, R565). -/
def State.warnSensor (s : State) (ch : Nat) : State :=
  let x := s.sensor ch
  let s := if x.reaches (s.warnLevel ch) then s.raise 0x003 .thmTempWarn else s
  if 2 < x.riseAt 0 100 && !(decide (2 < x.riseAt 1 100)) then s.raise 0x003 .thmRiseWarn else s

/-! ### Throttling (R564, R568) -/

/-- The limit is enforced. -/
def State.enforce (s : State) : State :=
  if s.thm.enf then s else (({ s with thm := { s.thm with enf := true } }).raise 0x003 .thmThrotEnf).setCaps

/-- A throttle request begins: THROT_N by `throtLow`, THROT, the records of every head, an LSA that says so. -/
def State.throttle (s : State) : State :=
  if s.thm.req then s else
  let s := ({ s with thm := { s.thm with req := true } }).raise 0x003 .thmThrot
  ((s.postAll 1 (vendorRec 0x05 0 0 0 0 0)).memoryEvent).originate

/-- THROTTLE_GRACE_EXPIRY: the request still holds. -/
def State.throttleGrace (s : State) : State := if s.thm.req then s.enforce else s

/-- Every sensor is 5 °C below its throttle level, with no rate request (R564). -/
def State.cool (s : State) : Bool :=
  !s.thm.rate && moduleSensors.all (fun ch => !s.atLeast ch (s.throtLevel ch - 4))

/-- THROTTLE_RELEASE_EXPIRY: the request ends, and the limit is lifted. -/
def State.throttleRelease (s : State) : State :=
  if s.thm.req && s.cool then
    let s := ({ s with thm := { s.thm with req := false, enf := false, level := false } }).setCaps
    (s.postAll 0 (vendorRec 0x06 0 0 0 0 0)).memoryEvent
  else s

/-! ### The thermal shutdown (R548, R567) -/

/-- Every converter is released at once in the flush of a shutdown (R554, R567). -/
def State.thermalRelease (s : State) : State := (s.raise 0x002 .pwrFlushShort).reachOff true

/-- The flush of a thermal shutdown, then Thermal-off; a power-up runs back, a running flush goes on as this one (R548, R567). -/
def State.thermalFlush (s : State) : State :=
  let s := s.deepIdleWake
  let s := { s with pwr := { s.pwr with thermOff := true } }
  match s.pwr.st.toNat with
  | 1 => s.startReverse s.pwr.step
  | 2 | 3 | 4 =>
    let s := { s with pwr := { s.pwr with st := 6, startup := 0, fcause := 4, fdone := false, fmib := s.dirtyMib, fenergy := 0 } }
    s.startFlush 4
  | 6 => if s.pwr.flush = 0 then s else
    { s with pwr := { s.pwr with flush := 4, fcause := 4, fdone := false, fmib := s.dirtyMib, fenergy := 0 } }
  | _ => s

/-- THERM_SHUT of a channel with its reading (R567). -/
def State.thermShut (s : State) (ch : Nat) (temp : Reading) : State :=
  if s.domGated 2 || s.pwr.st = 9 || s.pwr.flush = 4 || temp.toInt < s.trip then s else
  let s := { s with thm := { s.thm with shutLast := true, shutCh := BitVec.ofNat 8 ch, shutTemp := temp } }
  ((s.supLog 0x0b ch (temp.toInt % 2 ^ 32).toNat 0).raise 0x003 .thmThermShut).thermalFlush

/-- The restart threshold: the lower of 110 °C and TRIP − 10 °C. -/
def State.restartLevel (s : State) : Int := if s.trip - 10 < 110 then s.trip - 10 else 110

/-- The hottest module sensor that is readable, with its reading; none read yet: channel 0 (R574). -/
def State.hottest (s : State) : Nat × Reading :=
  moduleSensors.foldl (fun (a : Nat × Reading) ch =>
    let x := (s.sensor ch).now
    if x != unreadable && (a.2 == unreadable || decide (a.2.toInt < x.toInt)) then (ch, x) else a) (0, unreadable)

/-- THERM_RESTART: power-up under R545 when PWR_EN is high, else Off (R567). -/
def State.thermRestart (s : State) : State :=
  if s.pwr.st = 9 && moduleSensors.all (fun ch => !s.atLeast ch s.restartLevel) then
    let s := (s.raise 0x003 .thmThermRestart).supLog 0x0c 0xff (s.hottest.2.toInt % 2 ^ 32).toNat 0
    { s with pwr := { s.pwr with st := if s.pwr.offDone then 0 else 8, thermOff := s.mgt.pwrEn },
             thm := { s.thm with sensors := [] } }
  else s

/-! ### The round (R562 to R568) -/

/-- The hottest converter sensor, unreadable where none reads. -/
def State.converterHot (s : State) : Reading := largestReading ((List.range 4).map (fun i => (s.sensor (160 + i)).now))

/-- A start-up below −20 °C at the hottest converter sensor runs a further measurement of the bank when that sensor passes 0 °C (R592). -/
def State.coldBank (s : State) : State :=
  let x := s.converterHot
  if x = unreadable then s
  else if s.pwr.st = 2 && x.toInt < -20 then { s with pwr := { s.pwr with coldBank := true } }
  else if s.pwr.coldBank && 0 < x.toInt && s.pwr.mstate = 3 then ({ s with pwr := { s.pwr with coldBank := false } }).measureStart
  else s

/-- The sensor of a channel runs: those of the stacks do not while Deep Idle has released the stacks' supplies, and their last readings
stand (R559). -/
def State.sensed (s : State) (ch : Nat) : Bool := !(s.pwr.st == 5 && 128 ≤ ch && ch < 160)

/-- THERMAL_ROUND with the readings of channels 0 to 163; a channel without a reading keeps its last one. -/
def State.thermalRound (s : State) (temps : List Reading) : State :=
  if s.domGated 2 then s else
  let raw (ch : Nat) : Reading := (temps[ch]?).getD (s.sensor ch).now
  let chs := moduleSensors.filter (fun ch => (decide (ch < temps.length) || (s.sensor ch).hist != []) && s.sensed ch)
  let s0 := s
  let s := s.each chs (fun (s : State) ch =>
    let r := s0.checkSensor raw ch
    let s := s.setSensor ch r.1
    if r.2 then s.raise 0x003 .thmSensorFault else s)
  let s1 := s
  let s := s.each chs (fun (s : State) ch => s.setSensor ch (((s1.takeReading raw ch)).sensor ch))
  let s := (s.each chs State.warnSensor).coldBank
  let level := moduleSensors.any (fun ch => s.atLeast ch (s.throtLevel ch))
  let rate := moduleSensors.any (fun ch => decide (1 < (s.sensor ch).riseAt 0 20))
  let s := { s with thm := { s.thm with level := level, rate := rate } }
  let s := if level || rate then s.throttle else s
  let s := if moduleSensors.any (fun ch => s.atLeast ch 125) then s.enforce else s
  let s := s.setCaps
  if s.pwr.flush = 4 && s.thm.shutLast && s.atLeast s.thm.shutCh.toNat (s.trip + 10) then s.thermalRelease else s

/-! ### Commands -/

/-- THERMAL_ROUND (R562). -/
def execThermalRound (temps : List Reading) (s : State) : Host.Outcome State Fault Refusal := .next (s.withPins (fun s => s.thermalRound temps))

/-- THROTTLE_GRACE_EXPIRY (R564). -/
def execThrottleGraceExpiry (s : State) : Host.Outcome State Fault Refusal := .next s.throttleGrace

/-- THROTTLE_RELEASE_EXPIRY (R564). -/
def execThrottleReleaseExpiry (s : State) : Host.Outcome State Fault Refusal := .next (s.withPins State.throttleRelease)

/-- THERM_SHUT (R567). -/
def execThermShut (ch : Fin 164) (temp : Reading) (s : State) : Host.Outcome State Fault Refusal :=
  .next (s.withPins (fun s => s.thermShut ch.val temp))

/-- THERM_RESTART (R567). -/
def execThermRestart (s : State) : Host.Outcome State Fault Refusal := .next s.thermRestart

end Sys2Proof.Machine
end

