-- ==== Sys2Proof/Machine/Resets.lean ====
section
/-! DEFINITION. Clock failures, unit and subsystem resets, and the AON reset (R472, R514, R570 to R573). -/

namespace Sys2Proof.Machine

open Sys2Proof

/-! ### Clock failures (R554, R570) -/

/-- The module has no converter running: Off, minimum off time, Thermal-off. -/
def State.isOff (s : State) : Bool := s.pwr.st.toNat ∈ [0, 8, 9]

/-- PLL_LOCK_LOSS: every domain except AON stops with its state held. -/
def State.lockLoss (s : State) : State := { s with pwr := { s.pwr with locked := false } }

/-- PLL_RELOCK: the domains restart, and LOCK_LOSS is raised. -/
def State.relock (s : State) : State :=
  if s.pwr.locked then s else
  let s := { s with pwr := { s.pwr with locked := true, relocks := min 255 (s.pwr.relocks + 1) } }
  if s.isOff then s else s.raise 0x001 .ckrLockLoss

/-- PLL_RELOCK_TIMEOUT: every converter is released and R554 applies. -/
def State.relockTimeout (s : State) : State :=
  if s.pwr.locked then s else
  let s := s.supLog 0x0d 0xff 0 0
  if s.isOff then s else (s.raise 0x002 .pwrFlushShort).releaseAll

/-- A record in the shadow log alone of a failure that has no event source: its source, class and severity are free values (R570, log 38). -/
def State.shadowOnly (s : State) : State :=
  let (a, s) := s.fresh
  let (b, s) := s.fresh
  let (n, s) := s.nextSeq
  let r : Record :=
    { seq := n, sev := BitVec.ofNat 2 b, cls := BitVec.ofNat 2 (b / 4), conseq := false, forced := false, cont := false, dom := 0,
      pcycles := BitVec.ofNat 24 (s.ring 0), opsec := BitVec.ofNat 40 s.opSec, time := s.time, src := BitVec.ofNat 18 a, inst := 0,
      kind := 0, total := 0, items := [] }
  match placeSlot s.flt.shadowLog 256 r.sev.toNat with
  | some k => { s with flt := { s.flt with shadowLog := s.flt.shadowLog.put k r } }
  | none => s

/-- REFERENCE_FAILURE: the other domains stop, REF_FAIL goes to the shadow log, every converter but VAON and VPLL is released. -/
def State.refFail (s : State) : State :=
  let s := ({ s with pwr := { s.pwr with refOk := false } }).supLog 0x0d 0xff 0 0
  let s := s.shadowOnly
  if s.isOff then s else (s.raise 0x002 .pwrFlushShort).releaseAll

/-! ### Unit resets (R514, R571, R572) -/

/-- Pages that accept a unit reset. -/
def unitPage (page : Nat) : Bool :=
  match pageKind page with
  | some .slc | some .prt | some .head | some .core => true
  | _ => false

/-- The registers of a page after a reset of its instance: the block registers and the performance registers hold their reset values,
those taken from the pantry parameters their stored or default ones; latched events stay (R10, R510, log 39). -/
def State.resetUnit (s : State) (page : Nat) : State :=
  let gone (a : Nat) : Bool := decide (a / 4096 = page) && (decide (0x100 ≤ a % 4096) || (decide (0x30 ≤ a % 4096) && decide (a % 4096 < 0xc0)))
  let kept := s.regs.filter (fun (e : Nat × Word) => !gone e.1)
  let params := s.pan.params.filter (fun (e : Nat × Word) => gone e.1)
  { s with regs := params.foldl (fun (t : Tab Word) (e : Nat × Word) => t.set (resetWord e.1) e.1 e.2) kept,
           shadow := s.shadow.filter (fun (e : Nat × Word) => !gone e.1),
           hold := s.hold.filter (fun e => !decide (e.2.1 / 4096 = page)),
           perf := s.perf.filter (fun (e : Nat × Nat) => !decide (e.1 / 8 = page)), cyc := s.cyc.del page,
           pages := { s.pages with rejected := removeAll s.pages.rejected page } }

/-- The operation that a core runs ends with ABORTED. -/
def State.abortCore (s : State) (n : Nat) : State :=
  if (s.core n).st != 3 then s else s.finish (s.core n).handle stAborted []

/-- A core halts on a fault: CORE_FAULT with the handle, its operation ends with ABORTED (R402, R403, R508). -/
def State.coreFault (s : State) (n : Nat) : State :=
  let h := (s.core n).handle
  let s := (s.raiseAt (0x201 + n) .coreCoreFault { dom := 9, inst := n, kind := 4, items := if h = 0 then [] else [h.toNat] }).fence 9 n
  (s.abortCore n).setCore n { st := 4 }

/-- A unit reset begins with its Fence phase (R572). -/
def State.unitReset (s : State) (page : Nat) : State :=
  if page ∈ s.pages.resetting then s else
  let s := { s with pages := { s.pages with resetting := insertNew s.pages.resetting page } }
  let s := s.openWindow (pageDomain page).1 (pageDomain page).2
  match pageKind page with
  | some .slc => s.fenceSlice (page - 0x010)
  | some .prt => s.blockDown (page - 0x100) 8
  | some .core => (s.abortCore (page - 0x201)).setCore (page - 0x201) { st := 0 }
  | _ => s

/-- A slice after its reset: empty, invalidated, and enabled as the start-up sequence does (R120, R514). What it still held drains, and
what still waited in it ends as at a fenced slice. -/
def State.sliceAfresh (s : State) (n : Nat) : State :=
  let s := (s.drainAll n (fun _ => true) false).pump
  let x := s.slice n
  let s := s.each (x.misses.flatMap MissEntry.waiters ++ x.stalled.map Prod.snd ++ x.behind.map Prod.snd) (fun s (w : Waiter) =>
    if w.served then s else s.answerRead w.sender 0 true)
  let s := s.each x.lanes (fun s (e : LaneEntry) => s.badAll e.waits 2)
  let s := s.setSlice n { serial := x.serial, inq := x.inq, preloading := [] }
  let s := if bitAt (s.reg 0x006 0x10c) 0 then s else (s.setRegFld (slcPage n) 0x108 1 1 1).setRegFld (slcPage n) 0x104 0 1 1
  s.admitAll n

/-- UNIT_RESET_END of a page: its instance is as after a reset, runs, and is not fenced (R513, R514, R572). -/
def State.unitResetEnd (s : State) (page : Nat) : State :=
  if !decide (page ∈ s.pages.resetting) then s else
  let d := pageDomain page
  let s := s.resetUnit page
  let s := { s with pages := { s.pages with
    resetting := removeAll s.pages.resetting page, fenced := removeAll s.pages.fenced page,
    stopped := removeAll s.pages.stopped page, quiesced := removeAll s.pages.quiesced page } }
  let s := if d.1 = 2 then s else s.unfence d.1 d.2
  let s := match pageKind page with
    | some .slc => s.sliceAfresh (page - 0x010)
    | some .prt => s.startBlock (page - 0x100)
    | some .head => s.resetHead ⟨(page - 0x1c0) % 64, Nat.mod_lt _ (by decide)⟩
    | some .core => s.setCore (page - 0x201) { st := 1 }
    | _ => s
  (s.fenceReactionEnd d.1 d.2).raise 0x001 .ckrUnitReset

/-! ### Subsystem resets (R571) -/

/-- The pages of PRT and of its heads. -/
def prtPages : List Nat := (List.range 64).map (fun b => 0x100 + b) ++ [0x140] ++ (List.range 64).map (fun b => 0x1c0 + b)

/-- Subsystem reset of PRT: every port Down, each head as under a conventional reset, and training again. -/
def State.prtReset (s : State) : State :=
  let s := s.each (List.range 64) (fun s b => (s.openWindow 3 b).blockDown b 8)
  let s := s.each s.headList (fun s h =>
    let i : Fin 64 := ⟨h % 64, Nat.mod_lt _ (by decide)⟩
    if (s.head h).reoffer then s else s.headReset i)
  let s := s.each prtPages State.resetUnit
  let s := s.each (List.range 64) State.startBlock
  let s := s.each (List.range 64) (fun s b => s.fenceReactionEnd 3 b)
  s.raise 0x001 .ckrSubReset

/-- A bulk operation ends with the reset of its movers; the custodian learns that it is given up (R385). -/
def State.dropBulk (s : State) (e : Nat × BulkOp) : State :=
  let s := match s.lsiOf e.2.gsn.toNat with
    | some lsi => if e.2.phase = 3 then s.freeSegs [lsi] else s
    | none => s
  (s.dropOp e.1).tellOp 11 e.2

/-- Subsystem reset of SVE: running operations end with ABORTED, and the cores that are not halted boot again. -/
def State.sveReset (s : State) : State :=
  let s := s.each s.sve.ops State.dropBulk
  let s := s.each (List.range 8) (fun s n => ((s.openWindow 9 n).abortCore n).setCore n (if (s.core n).st = 4 then { st := 4 } else { st := 1 }))
  let s := s.each ((List.range 9).map (fun n => 0x200 + n)) State.resetUnit
  let s := s.each (List.range 8) (fun s n => s.fenceReactionEnd 9 n)
  s.raise 0x001 .ckrSubReset

/-! ### AON reset (R29, R30, R502, R571, R573) -/

/-- AON_RESET with the straps: everything but the pantry, the medium and the fuses starts afresh, Off, and I3C reports (R472). -/
def State.aonReset (s : State) (straps : BitVec 2) : State :=
  let s := s.cold false
  { s with
    out := s.out ++ [.hotJoin], time := 0, opMs := 0, opNs := 0, regs := [], cages := [],
    mgt := { straps := straps, pwrEn := s.mgt.pwrEn, mrst := s.mgt.mrst, pfail := s.mgt.pfail },
    flt := { s.flt with shadowLog := [], lastSafe := false }, thm := {},
    pwr := { seat := s.pwr.seat, vin := 48000, rails := [] } }

/-! ### Commands -/

/-- PLL_LOCK_LOSS (R570). -/
def execPllLockLoss (s : State) : Host.Outcome State Fault Refusal := .next s.lockLoss

/-- PLL_RELOCK (R570). -/
def execPllRelock (s : State) : Host.Outcome State Fault Refusal := .next (s.withPins State.relock)

/-- PLL_RELOCK_TIMEOUT (R570). -/
def execPllRelockTimeout (s : State) : Host.Outcome State Fault Refusal := .next (s.withPins State.relockTimeout)

/-- REFERENCE_FAILURE (R570). -/
def execReferenceFailure (s : State) : Host.Outcome State Fault Refusal := .next (s.withPins State.refFail)

/-- UNIT_RESET_END (R572). -/
def execUnitResetEnd (page : BitVec 12) (s : State) : Host.Outcome State Fault Refusal :=
  .next (s.withPins (fun s => (s.unitResetEnd page.toNat).drain))

/-- AON_RESET (R571, R573). -/
def execAonReset (straps : BitVec 2) (s : State) : Host.Outcome State Fault Refusal := .next (s.withPins (fun s => s.aonReset straps))

end Sys2Proof.Machine
end

