-- ==== Sys2Proof/Machine/SafeState.lean ====
section
/-! DEFINITION. FLT takes the latched sources; the safe state with its flush; reactions to forced sources; FLT_INJ (R509, R517 to R521). -/

namespace Sys2Proof.Machine

open Sys2Proof

/-- The flush of the safe state begins, unless another flush runs already (R518). -/
def State.startSafeFlush (s : State) : State :=
  if s.pwr.flush != 0 then s else s.deepIdleWake.startFlush 5

/-- Entry to the safe state and its flush. -/
def State.safeEntry (s : State) (cause : Nat) : State :=
  if s.safe then s else (s.enterSafeState cause).startSafeFlush

/-- The reaction to a forced source, in factory test mode alone: fences, a halted core, a rail stop, a thermal shutdown (R508, R520,
log 40). -/
def State.forcedReaction (s : State) (src : BitVec 18) : State :=
  let page := srcPage src
  match pageKind page with
  | some .slc => if src = srcId page (PageKind.slc.bit .slcLsvcTimeout) then s.fenceSlice (page - 0x010) else s
  | some .dtcCh => if src = srcId page (PageKind.dtcCh.bit .dtcChFenced) then s.fenceDch (page - 0x018) 6 else s
  | some .mchCh => if src = srcId page (PageKind.mchCh.bit .mchChChFenced) then s.fenceChan (page - 0x040) 3 else s
  | some .core => if src = srcId page (PageKind.core.bit .coreCoreFault) then
      ((s.fence 9 (page - 0x201)).abortCore (page - 0x201)).setCore (page - 0x201) { st := 4 } else s
  | some .pwr => if src = srcId page (PageKind.pwr.bit .pwrRailStop) then s.releaseAll else s
  | some .head => if src = srcId page (PageKind.head.bit .headIdeFail) then
      let h : Fin 64 := ⟨(page - 0x1c0) % 64, Nat.mod_lt _ (by decide)⟩
      ((s.fence 2 (8 * h.val)).endBarriersAll [h.val]).headDown h
    else s
  | some .thm => if src = srcId page (PageKind.thm.bit .thmThermShut) then s.thermalFlush else s
  | _ => s

/-- EVENT_SOURCE_LATCH: FLT takes what has latched, forced sources run their reactions in factory test mode, and a safe state starts its
flush (R509, R518, R520). -/
def State.takeSources (s : State) : State :=
  let was := s.safe
  let forced := (s.flt.queue.filter (fun (l : Latched) => l.forced && !l.conseq)).map Latched.src
  let s := s.takeAll
  let s := if s.crs.testMode then s.each forced State.forcedReaction else s
  if s.safe && !was then s.startSafeFlush else s

/-- The safe-state flush ends: Hold, with what a flush does at its end (R518). -/
def State.safeHold (s : State) : State :=
  { s.gpfFlushEnd with flt := { s.flt with safe := 3 }, pwr := { s.pwr with flush := if s.pwr.flush = 5 then 0 else s.pwr.flush } }

/-- SAFE_FLUSH_END: where steps are left, the flush goes on; after MTE_HANG or CRS_HANG it lasts until its timeout (R508). -/
def State.safeFlushEnd (s : State) : State :=
  if s.flt.safe != 2 || s.flt.hung then s else if s.flushed then s.flushTail.safeHold else s.flushOn

/-- SAFE_FLUSH_TIMEOUT: Hold is entered with unsaved pages (R518, R540). -/
def State.safeFlushTimeout (s : State) : State := if s.flt.safe = 2 then s.safeHold else s

/-- FLT_INJ: 1 parity error, 2 decision mismatch, 3 fence of a domain, 4 and 5 failure of a pantry part (R521, R538). -/
def State.inject (s : State) (kind dom inst : Nat) : State :=
  match kind with
  | 1 => s.raise 0x004 .fltSelfParity
  | 2 => s.raise 0x004 .fltSelfMismatch
  | 4 => s.failPart false
  | 5 => s.failPart true
  | 3 =>
    (match dom with
    | 2 => if s.isHeadPort inst then (s.fence 2 inst).blockDown (inst / 8 % 64) 8 else (s.fence 2 inst).portDown inst 8 false
    | 3 => (s.fence 3 inst).blockDown inst 8
    | 4 => s.fenceSlice inst
    | 5 => s.fenceDch inst 6
    | 6 => s.fenceDie inst
    | 7 => s.fenceChan inst 3
    | 8 => (s.fence 8 inst).each (List.range 4) (fun s k => s.fenceChan1 (4 * inst + k) 3)
    | 9 => s.coreFault inst
    | 10 => s.slotParity inst
    | 11 => (s.slotParity inst).slotFenced inst
    | _ => s.fence dom inst)
  | _ => s

/-- The LIVE bit of a source: its lasting condition is present. The conditions are those that R510 names, which are derived from the state
(a module sensor at or above its warning level, a range whose keys were missed and that is not Active, a region that refuses stores under
Guard), and those that the sources' own chapters keep. -/
def State.isLive (s : State) (id : BitVec 18) : Bool :=
  decide (id ∈ s.flt.live) ||
    (id == srcId 0x003 (PageKind.thm.bit .thmTempWarn) && moduleSensors.any (fun ch => s.atLeast ch (s.warnLevel ch))) ||
    (id == srcId 0x008 (PageKind.crs0.bit .crsKeyMissing) && (List.range 64).any (fun r => (s.krange r).told && (s.krange r).st != 1)) ||
    (id == srcId 0x031 (PageKind.rw.bit .rwGuardFull) && s.mte.rw.any (fun e => e.2.guard == 2))

/-- Instances of a fence domain (R513). -/
def domainSize (dom : Nat) : Nat :=
  match dom with
  | 1 => 512 | 2 => 512 | 3 => 64 | 4 => 8 | 5 => 16 | 6 => 256 | 7 => 64 | 8 => 16 | 9 => 8 | 10 => 64 | 11 => 64 | _ => 0

/-! ### Commands -/

/-- EVENT_SOURCE_LATCH (R509). -/
def execEventSourceLatch (s : State) : Host.Outcome State Fault Refusal := .next (s.withPins (fun s => s.takeSources.drain))

/-- SAFE_STATE: the entry, with the cause that FLT_STAT.CAUSE shows (R517, R518). -/
def execSafeState (cause : BitVec 3) (s : State) : Host.Outcome State Fault Refusal :=
  .next (s.withPins (fun s => s.safeEntry cause.toNat))

/-- SAFE_FLUSH_END (R518). -/
def execSafeFlushEnd (s : State) : Host.Outcome State Fault Refusal := .next (s.withPins State.safeFlushEnd)

/-- SAFE_FLUSH_TIMEOUT (R540). -/
def execSafeFlushTimeout (s : State) : Host.Outcome State Fault Refusal := .next (s.withPins State.safeFlushTimeout)

end Sys2Proof.Machine
end

