-- ==== Sys2Proof/Machine/Startup.lean ====
section
/-! DEFINITION. Start-up: its phases, the translation engine's phases, replay, tail scan, full rebuild and Settle (R120, R261, R265 to R270,
R281, R307 to R309, R530, R573). -/

namespace Sys2Proof.Machine

open Sys2Proof

/-! ### Which pages count (R265 to R267, R307) -/

/-- A WSN lies in a void range of a region (R302, R307). -/
def State.isVoid (s : State) (r wsn : Nat) : Bool :=
  s.mte.voids.any (fun (v : VoidEntry) => decide (v.region.toNat = r) && decide (v.low ≤ wsn) && decide (wsn < v.high))

/-- A ROW_INVALID entry names the row of a set (R266). -/
def State.rowInvalid (s : State) (setid row : Nat) : Bool :=
  s.mte.jdur.any (fun (e : Nat × JEntry) => e.2.type == 0x05 && decide (e.2.x.toNat = setid) && decide (e.2.z.toNat = row))

/-- A set is Released (R255). -/
def State.setReleased (s : State) (id : Nat) : Bool :=
  match s.mte.sets.find id with
  | some r => r.st == 5
  | none => true

/-- A host page that rebuild does not ignore, whole or not: not of a Released set, not in an invalid row, of a segment in use under its key
range, not below the allocation WSN, not voided (R266, R307). -/
def State.pageCounts (s : State) (k : Nat) (p : Page) : Bool :=
  let lsi := lmpLsi p.tag.lmp
  !p.isParity && p.tag.type == 1 && !s.setReleased p.tag.setid && !s.rowInvalid p.tag.setid (k % 1024) && (s.seg lsi).st != 0 &&
    decide (p.tag.keyRange.toNat = (s.region (s.seg lsi).region.toNat).keyRange) && decide ((s.seg lsi).allocWsn ≤ p.tag.wsn) &&
    !s.isVoid p.tag.region.toNat p.tag.wsn

/-- Insert a page into a list in the order in which its copies win. -/
def insertPage (x : Nat × Page) : List (Nat × Page) → List (Nat × Page)
  | [] => [x]
  | y :: t => if newerTag y.2.tag x.2.tag then x :: y :: t else y :: insertPage x t

/-- Pages in the order in which their copies win, the oldest first. -/
def sortPages (l : List (Nat × Page)) : List (Nat × Page) := l.foldl (fun acc x => insertPage x acc) []

/-- A counting whole page wins over what its LMP has: the mapped copy, or the UNMAP, POISON or allocation that left it without one
(R261, R266). -/
def State.pageWins (s : State) (p : Page) : Bool :=
  let e := s.entry p.tag.lmp
  match e.st.toNat, s.pageAt e.ppa with
  | 1, some q => newerTag p.tag q.tag
  | _, _ => match s.mte.unmapWsn.find p.tag.lmp.toNat with
    | some w => decide (w < p.tag.wsn)
    | none => true

/-- Map a page found in the medium, with its MAP entry; the version it supersedes is Retained where a mark holds it (R266). -/
def State.mapFound (s : State) (k : Nat) (p : Page) : State :=
  if !s.pageWins p then s else
  let l := p.tag.lmp
  let same := (s.entry l).st == 1 && (s.pageAt (s.entry l).ppa).any (fun q => q.tag.wsn == p.tag.wsn)
  let ppa : Ppa := BitVec.ofNat 32 k
  let s := s.journal { type := 0x02, arg := p.tag.relgen, x := l.setWidth 64, y := BitVec.ofNat 64 p.tag.wsn, z := ppa }
  let s := if same then s else s.supersede l p.tag.wsn
  s.setEntry l { s.entry l with st := 1, relgen := p.tag.relgen, ppa := ppa }

/-! ### Replay (R261, R307) -/

/-- Replay a MAP entry. -/
def State.replayMap (s : State) (e : JEntry) : State :=
  let l : Lmp := e.x.setWidth 32
  let region := (s.pageAt e.z).elim (s.regionOfLmp l) (fun p => p.tag.region.toNat)
  if s.isVoid region e.y.toNat then s else s.setEntry l { s.entry l with st := 1, relgen := e.arg, ppa := e.z }

/-- An UNMAP or POISON with a WSN acts on an LMP: on a mapped copy with a lower WSN, or one that is void, or where no copy is mapped
(R261, R307). -/
def State.replayActs (s : State) (l : Lmp) (w : Nat) : Bool :=
  !s.isVoid (s.regionOfLmp l) w &&
  match (s.entry l).st.toNat, s.pageAt (s.entry l).ppa with
  | 1, some q => decide (q.tag.wsn < w) || s.isVoid q.tag.region.toNat q.tag.wsn
  | _, _ => true

/-- Replay an UNMAP (state 0) or POISON (state 2) of one LMP. -/
def State.replayGone (s : State) (w : Nat) (st : BitVec 2) (l : Lmp) : State :=
  if s.replayActs l w then s.setEntry l { s.entry l with st := st, relgen := 0, ppa := 0 } else s

/-- Replay one entry; those of the tables act when they are written (R94, R255, R306). -/
def State.replayEntry (s : State) (e : JEntry) : State :=
  let first := e.x.toNat % 2 ^ 32
  match e.type.toNat with
  | 0x02 => s.replayMap e
  | 0x03 =>
    let l := (s.mte.map.keys.filter (fun k => decide (first ≤ k) && decide (k < first + e.x.toNat / 2 ^ 32))).map (BitVec.ofNat 32)
    s.each l (fun s x => s.replayGone e.y.toNat 0 x)
  | 0x04 => s.replayGone e.y.toNat 2 (BitVec.ofNat 32 first)
  | _ => s

/-- Every journal entry from the trim WSN on is applied, in order. -/
def State.replayAll (s : State) : State := s.each s.mte.jdur (fun s e => s.replayEntry e.2)

/-- RET of every LMP follows the version index (R247, R308). -/
def State.fixAllRet (s : State) : State :=
  let set := (s.mte.map.filter (fun (e : Nat × MapEntry) => e.2.ret)).map (fun (e : Nat × MapEntry) => BitVec.ofNat 32 e.1)
  s.each (set ++ s.mte.index.map IdxEntry.lmp) State.fixRet

/-! ### The phases of Translation (R268, R269) -/

/-- MTE_STAT.PHASE. -/
def State.mtePhase (s : State) : Nat := s.regFld 0x030 0x104 28 4

/-- Enter a phase. -/
def State.setMtePhase (s : State) (n : Nat) : State := s.setRegFld 0x030 0x104 28 4 n

/-- A phase of Translation ends: the next one, unless an Off request waits (R548). -/
def State.phaseEnd (s : State) (old new : Nat) (f : State → State) : State :=
  if s.pwr.startup = 3 && s.mtePhase = old then ((f s).setMtePhase new).startupOff else s

/-- The medium holds no programmed page (R269). -/
def State.blankMedium (s : State) : Bool := s.mch.pages.isEmpty

/-- A full rebuild is needed: no whole journal page, or no whole directory image, on a medium that is not blank (R269). -/
def State.needsRebuild (s : State) : Bool :=
  !s.blankMedium && (!s.mch.pages.any (fun (e : Nat × Page) => !e.2.isParity && e.2.tag.type == 3 && e.2.whole) || !s.mte.dirOk)

/-- A map page's newest image and the one before it are both unreadable (R269). -/
def State.imagesLost (s : State) : Bool :=
  s.mte.captured.keys.any (fun n => ((s.mapImages n).take 2).all (fun e => !s.readable (BitVec.ofNat 32 e.1)))

/-- Map load: the entries of the map page images (R262, R268). -/
def State.loadMap (s : State) : State :=
  { s with mte := { s.mte with map := s.mte.image.foldl (fun (t : Tab MapEntry) (e : Nat × MapEntry) => t.set {} e.1 e.2) [] } }

/-- Map load ends in Replay, or in a full rebuild where a map page has no readable image (R268, R269). -/
def State.mapLoadEnd (s : State) (phase : Nat) : State :=
  if s.imagesLost then s.phaseEnd phase 8 id else s.phaseEnd phase 5 State.loadMap

/-- The parity positions of rows laid over 15 live dies are learned again from the PARITY field of the pages' tags, wherever it is not the
stack of R221 (R224). -/
def State.learnParity (s : State) : State :=
  let odd := s.mch.pages.filter (fun (e : Nat × Page) => e.2.whole && !e.2.isParity &&
    decide (e.2.tag.parity.toNat ≠ (e.1 % 1024 + e.1 / 2 ^ 22 % 4) % 16))
  let at_ := odd.foldl (fun (t : Tab Nat) e => t.put (1024 * e.2.tag.setid + e.1 % 1024) e.2.tag.parity.toNat) s.mte.parityAt
  { s with mte := { s.mte with parityAt := at_ } }

/-- The pages of the sets that are neither Full nor Released (R266, R268). -/
def State.tailPages (s : State) : List (Nat × Page) :=
  s.mch.pages.filter (fun (e : Nat × Page) => e.2.whole && s.pageCounts e.1 e.2 &&
    match s.mte.sets.find e.2.tag.setid with
    | some r => r.st != 3
    | none => false)

/-- Assignment of WSNs begins with a reservation that has to become durable (R251). -/
def State.reserveFirst (s : State) : State := s.reserveWsn.closeJournal

/-- Tail scan (R266, R268). -/
def State.tailScan (s : State) : State := (s.each (sortPages s.tailPages) (fun s e => s.mapFound e.1 e.2)).reserveFirst

/-- Full rebuild: every counting whole page in order, then the journal pages still whole; a complete checkpoint is due, and FULL_REBUILD
raised (R269, R308). -/
def State.rebuild (s : State) : State :=
  let all := sortPages (s.mch.pages.filter (fun (e : Nat × Page) => e.2.whole && s.pageCounts e.1 e.2))
  let s := { s with mte := { s.mte with map := [], index := [], changed := s.mte.captured.keys } }
  let s := (s.each all (fun s e => s.mapFound e.1 e.2)).replayAll.fixAllRet
  (s.setRegFld 0x030 0x104 26 2 2).raise 0x030 .mteFullRebuild

/-! ### Settle (R92, R270, R308, R309, R530) -/

/-- REWIND_TOs whose RW_VOID was durable are completed; RESUMED (R309). -/
def State.resumeRewinds (s : State) : State :=
  let l := s.mte.rw.filter (fun (e : Nat × RwRegion) => e.2.op.isSome)
  s.each l (fun s e => match e.2.op with
    | some o =>
      let s := (s.applyTo e.1 o).journal (doneEntry e.1 o)
      (s.setRwr e.1 { s.rwr e.1 with op := none }).raise 0x031 .rwResumed
    | none => s)

/-- Every LMP of a segment of a Volatile region is unmapped (R92, R270). -/
def State.unmapVolatile (s : State) (lsi : Nat) : State :=
  let pages := (s.mch.pages.filter (fun (e : Nat × Page) => !e.2.isParity && e.2.tag.type == 1 && decide (lmpLsi e.2.tag.lmp = lsi))).map
    (fun (e : Nat × Page) => e.2.tag.lmp.toNat)
  let known := s.mte.map.keys.filter (fun k => decide (k / segPages = lsi))
  let w := s.mte.nextWsn
  let s := s.unmapSegment lsi
  { s with mte := { s.mte with unmapWsn := (pages ++ known).foldl (fun (t : Tab Nat) k => t.put k w) s.mte.unmapWsn } }

/-- The segments of Volatile regions. -/
def State.volatileSegs (s : State) : List Nat :=
  (s.mte.segs.filter (fun (e : Nat × Seg) => e.2.st != 0 && decide ((s.region e.2.region.toNat).persist = 0))).map Prod.fst

/-- Pages that are not whole and newer than what their LMP has (R270). -/
def State.tornNewest (s : State) : List Page :=
  (s.mch.pages.filter (fun (e : Nat × Page) => !e.2.whole && s.pageCounts e.1 e.2 && s.pageWins e.2)).map Prod.snd

/-- An LMP that no copy is mapped for although a page of it was written becomes Poisoned (R270). -/
def State.poisonTorn (s : State) (l : Lmp) : State := if (s.entry l).st = 0 then s.unmapNow l true else s

/-- POISON for the LMPs left without a whole copy, and one BREACH for all affected segments (R270, R423). -/
def State.breach (s : State) : State :=
  let torn := s.tornNewest.map (fun (p : Page) => p.tag.lmp)
  let hit := (torn.map (fun l => (s.seg (lmpLsi l)).gsn.toNat) ++ s.mte.lostSegs).foldl insertNew []
  let s := s.each torn State.poisonTorn
  let s := { s with mte := { s.mte with lostSegs := [] } }
  if hit.isEmpty then s else (s.raiseAt 0x030 .mteBreach { kind := 1, items := hit }).setRing 3 (s.ring 3 + 1)

/-- A segment whose two records are unreadable enters Lost; SEG_LOST (R270). -/
def State.loseSegs (s : State) : State :=
  let l := s.mte.unreadable.filter (fun i => (s.seg i).st == 1)
  s.each l (fun s i => (s.changeSeg i { s.seg i with st := 5 }).raiseAt 0x030 .mteSegLost { kind := 1, items := [(s.seg i).gsn.toNat] })

/-- An index entry that a live mark of its region holds (R289, R308). -/
def State.marked (s : State) (x : IdxEntry) : Bool := (s.rwr x.region.toNat).marks.any (fun m => m.epoch == x.mark)

/-- SPILL_AVAIL where the spill area holds records (R530). -/
def State.spillNotice (s : State) : State :=
  if s.flt.spill.isEmpty then s else ({ s with flt := { s.flt with spillAvail := true } }).raise 0x005 .evrSpillAvail

/-- MTE_STAT.LAST and START_MS at the end of Settle; a medium that was blank has its first directory image (R268, R269). -/
def State.settled (s : State) : State :=
  let rebuilt := s.regFld 0x030 0x104 26 2 = 2
  let last := if rebuilt then 2 else if s.reduced then 3 else 1
  let ms := min (2 ^ 20 - 1) ((s.ns - s.mte.startAt) / 1000000)
  let s := (s.setRegFld 0x030 0x104 26 2 last).setRegFld 0x030 0x104 0 20 ms
  let s := if rebuilt || s.mte.dirOk then s else s.checkpointImages
  { s with mte := { s.mte with restored := true } }

/-- Settle's work, once WSNs can be assigned. -/
def State.settleAll (s : State) : State :=
  let s := s.resumeRewinds
  let s := s.each s.volatileSegs State.unmapVolatile
  let s := s.each ((s.mte.sets.filter (fun (e : Nat × SetRec) => e.2.st == 5)).map Prod.fst) State.eraseSet
  let s := (s.breach.loseSegs).keepIndex s.marked
  (s.rwCheck.checkHeadroom.checkJournal.spillNotice.settled).pump

/-- SETTLE: where the first reservation is not durable yet, it is asked for and Settle goes on later (R251). -/
def State.settle (s : State) : State :=
  if s.pwr.startup = 3 && s.mtePhase = 7 && !s.wsnReady && !s.mte.wsnEnd then s.reserveFirst else s.phaseEnd 7 0 State.settleAll

/-! ### Release, Bring-up and Enable (R36, R120, R537, R573) -/

/-- Recall begins: the pantry's parts are tested again (R533, R537). -/
def State.recallStart (s : State) : State :=
  { s with pages := { s.pages with started := true }, pan := { s.pan with recalling := true, st := 0, paFailed := false, pbFailed := false } }

/-- STARTUP_RELEASE: the domains run; after a reset that took the dynamic address, I3C reports again (R472, R573). -/
def State.release (s : State) : State :=
  if s.pwr.startup != 1 then s else
  let s := ({ s with pwr := { s.pwr with startup := 2 } }).recallStart
  (if s.mgt.dyn.isNone && s.mgt.hjEn then s.emit .hotJoin else s).startupOff

/-- The survey has started: a media channel has left its reset state (R227). -/
def State.surveyStarted (s : State) : Bool := (List.range 64).any (fun c => s.chanState c != 0)

/-- STARTUP_BRINGUP_END: population decided and survey started, Translation begins (R227, R268, R573). -/
def State.bringupEnd (s : State) : State :=
  if s.pwr.startup = 2 && s.dtc.decided && s.surveyStarted && !s.pan.recalling then
    let s := { s with pwr := { s.pwr with startup := 3 }, mte := { s.mte with startAt := s.ns } }
    (s.setMtePhase 1).startupOff
  else s

/-- Every slice is invalidated and its line cache enabled; PAN_BOOT.LC_OFF skips both (R120). -/
def State.enableCaches (s : State) : State :=
  if bitAt (s.reg 0x006 0x10c) 0 then s
  else s.sweepAll .full |>.each (List.range 8) (fun s n => s.setRegFld (slcPage n) 0x104 0 1 1)

/-- STARTUP_ENABLE: the line caches, the heads, state On (R120, R573). -/
def State.enable (s : State) : State :=
  if s.pwr.startup = 3 && s.mtePhase = 0 && s.mte.restored then
    let s := s.enableCaches
    ({ s with pwr := { s.pwr with st := 3, startup := 4 } }).startupOff
  else s

/-! ### Commands -/

/-- STARTUP_BLOCK_SCAN_END (R224, R268). -/
def execStartupBlockScanEnd (s : State) : Host.Outcome State Fault Refusal :=
  .next (s.withPins (fun s => s.phaseEnd 1 2 State.learnParity))

/-- STARTUP_JOURNAL_LOCATE_END (R268, R269). -/
def execStartupJournalLocateEnd (s : State) : Host.Outcome State Fault Refusal :=
  .next (s.withPins (fun s => s.phaseEnd 2 (if s.needsRebuild then 8 else 3) id))

/-- STARTUP_IMAGE_LOAD_END: in reduced mode Map load is skipped, and Replay finds each map page through the map cache (R264, R268). -/
def execStartupImageLoadEnd (s : State) : Host.Outcome State Fault Refusal :=
  .next (s.withPins (fun s => if s.reduced then s.mapLoadEnd 3 else s.phaseEnd 3 4 id))

/-- STARTUP_MAP_LOAD_END (R268, R269). -/
def execStartupMapLoadEnd (s : State) : Host.Outcome State Fault Refusal := .next (s.withPins (fun s => s.mapLoadEnd 4))

/-- STARTUP_REPLAY_END (R261, R268). -/
def execStartupReplayEnd (s : State) : Host.Outcome State Fault Refusal :=
  .next (s.withPins (fun s => s.phaseEnd 5 6 (fun s => s.replayAll.fixAllRet)))

/-- STARTUP_TAIL_SCAN_END (R266, R268). -/
def execStartupTailScanEnd (s : State) : Host.Outcome State Fault Refusal := .next (s.withPins (fun s => s.phaseEnd 6 7 State.tailScan))

/-- FULL_REBUILD (R269). -/
def execFullRebuild (s : State) : Host.Outcome State Fault Refusal :=
  .next (s.withPins (fun s => s.phaseEnd 8 6 State.rebuild))

/-- SETTLE (R270). -/
def execSettle (s : State) : Host.Outcome State Fault Refusal := .next (s.withPins State.settle)

/-- PANTRY_RECALL (R534, R537). -/
def execPantryRecall (s : State) : Host.Outcome State Fault Refusal :=
  .next (s.withPins (fun s => if s.pan.recalling then s.reconcile else s))

/-- STARTUP_RELEASE (R573). -/
def execStartupRelease (s : State) : Host.Outcome State Fault Refusal := .next (s.withPins State.release)

/-- STARTUP_BRINGUP_END (R573). -/
def execStartupBringupEnd (s : State) : Host.Outcome State Fault Refusal := .next (s.withPins State.bringupEnd)

/-- STARTUP_ENABLE (R120, R573). -/
def execStartupEnable (s : State) : Host.Outcome State Fault Refusal := .next (s.withPins State.enable)

end Sys2Proof.Machine
end

