-- ==== Sys2Proof/Machine/Views.lean ====
section
/-! DEFINITION. What each register word reads as where the value is the state of its block and not a stored word: one view
per page kind, by the offset of the register (the field tables of R103, R140, R208, R244, R282, R314, R362, R402, R428, R467,
R484, R503, R538, R574). -/

namespace Sys2Proof.Machine

open Sys2Proof

/-- Module time in minutes since an instant; 0 for none. -/
def State.minutesSince (s : State) (t : Option Nat) : Nat :=
  match t with
  | some t => (s.ns - t) / 60000000000
  | none => 0

/-! ### The header (R484) -/

/-- CAP. -/
def PageKind.cap (k : PageKind) : Nat := pack [(20, 1, flag k.shadow), (16, 4, 8), (0, 8, k.sources.length)]

/-- CTRL: COMMIT, LOCK, RUN. -/
def State.viewCtrl (s : State) (page : Nat) : Nat :=
  pack [(3, 1, flag (decide (page ∈ s.pages.committing))), (2, 1, flag (decide (page ∈ s.pages.locked))), (0, 1, flag (s.runs page))]

/-- STATUS; no chapter defines a STATE. A unit under reset does not run (R584). -/
def State.viewStatus (s : State) (page : Nat) : Nat :=
  pack [(3, 1, flag (decide (page ∈ s.pages.fenced))), (2, 1, flag (decide (page ∈ s.pages.rejected))),
        (1, 1, flag (decide (page ∈ s.pages.quiesced))), (0, 1, flag (s.running page && !decide (page ∈ s.pages.resetting)))]

/-- The header registers that are not stored words. -/
def State.viewHeader (s : State) (page : Nat) (k : PageKind) (off : Nat) : Option Nat :=
  if off = 0x00 then some (pack [(20, 12, k.type), (12, 8, page - k.type), (8, 4, 1), (0, 8, Config.minor.toNat)])
  else if off = 0x04 then some k.cap
  else if off = 0x08 then some (s.viewCtrl page)
  else if off = 0x0c then some (s.viewStatus page)
  else if off = 0x30 then some (s.cyc.get 0 page)
  else if 0x80 ≤ off && off < 0xc0 then some (s.perf.get 0 (8 * page + (off - 0x80) / 8))
  else none

/-! ### MGT, CKR, PWR, thermal -/

/-- The static I3C address of the straps (R30). -/
def Mgt.statAddr (m : Mgt) : Nat := 0x48 + m.straps.toNat

/-- MGT (R503). -/
def State.viewMgt (s : State) (off : Nat) : Option Nat :=
  let m := s.mgt
  match off with
  | 0x100 => some (pack [(31, 1, flag m.dyn.isSome), (24, 7, (m.dyn.getD 0).toNat), (17, 7, m.statAddr), (16, 1, flag m.ibiEn), (15, 1, flag m.hjEn),
                         (14, 1, flag m.dyn.isNone)])
  | 0x108 => some (pack [(6, 2, m.straps.toNat), (5, 1, flag s.holdOk), (4, 1, flag !s.throtLow), (3, 1, flag !s.faultLow), (2, 1, flag m.pfail),
                         (1, 1, flag m.pwrEn), (0, 1, flag m.mrst)])
  | 0x118 => some (pack [(16, 8, 128 - m.cmdOpen.length), (2, 1, flag !m.cmdOpen.isEmpty), (0, 2, s.regFld 0x000 0x118 0 2)])
  | 0x128 => some (pack [(16, 9, wordCount m.cpl), (0, 9, m.packets)])
  | 0x130 => some s.time.toNat
  | 0x138 => some (pack [(40, 24, s.ring 0), (0, 40, s.opSec)])
  | _ => none

/-- CKR (R574). -/
def State.viewCkr (s : State) (off : Nat) : Option Nat :=
  match off with
  | 0x100 => some (pack [(31, 1, flag s.pwr.locked), (30, 1, flag s.pwr.refOk), (16, 8, min 255 s.pwr.relocks)])
  | 0x104 => some s.gatedMask
  | 0x10c => some (pack [(28, 4, s.pwr.resetCause.toNat), (0, 24, min 16777215 s.pwr.resets)])
  | _ => none

/-- A word of the supervisor window: 0 with no record or while the log is locked for the requester (R557). -/
def State.supWord (s : State) (q : Requester) (n : Nat) : Nat :=
  match s.pan.supWin with
  | some r => if s.unlocked q 6 false then (byteWord (r.bytes s.pan.compat) n).toNat else 0
  | none => 0

/-- PWR (R574). -/
def State.viewPwr (s : State) (q : Requester) (off : Nat) : Option Nat :=
  let p := s.pwr
  match off with
  | 0x100 => some (pack [(28, 4, p.st.toNat), (24, 4, p.step), (22, 2, p.profile.toNat), (21, 1, flag p.warn), (20, 1, flag p.seat), (8, 8, s.reqPct)])
  | 0x108 => some (pack [(16, 16, min 65535 p.vin), (6, 10, min 1023 p.powerW)])
  | 0x110 =>
    let r := s.rail (s.regFld 0x002 0x10c 0 6)
    some (pack [(12, 20, r.mv.toNat), (9, 3, r.st.toNat), (7, 2, min 3 r.bad)])
  | 0x118 => some (pack [(22, 10, min 1023 p.energy), (21, 1, flag p.bankOk), (19, 2, p.mstate.toNat), (0, 19, min 524287 (s.minutesSince p.measAt))])
  | 0x11c => some (pack [(16, 16, min 65535 p.cMf), (0, 16, min 65535 p.esr)])
  | 0x120 => some (pack [(29, 3, p.fcause.toNat), (28, 1, flag p.fdone), (10, 18, min 262143 p.fmib), (0, 10, p.fenergy.toNat)])
  | 0x128 => some (pack [(31, 1, flag s.pan.supWin.isSome), (30, 1, flag (!s.pan.compat && s.pan.supWin.any (fun r => !r.commit))),
                         (29, 1, flag !(s.unlocked q 6 false)), (0, 1, flag s.pan.compat)])
  | 0x12c => some s.pan.supCur
  | _ => if 0x140 ≤ off && off < 0x160 then some (s.supWord q ((off - 0x140) / 4)) else none

/-- Thermal (R574). -/
def State.viewThm (s : State) (off : Nat) : Option Nat :=
  let t := s.thm
  match off with
  | 0x10c =>
    let h := s.hottest
    some (pack [(24, 8, shownReading h.2), (16, 8, if h.2 = unreadable then 0 else h.1), (15, 1, flag t.req), (14, 1, flag t.enf), (13, 1, flag t.rate),
                (12, 1, flag t.level), (0, 8, (t.sensors.filter (fun (e : Nat × Sensor) => e.2.faulty)).length)])
  | 0x114 =>
    let x := s.sensor (s.regFld 0x003 0x110 0 8)
    some (pack [(24, 8, shownReading x.now), (16, 8, shownReading x.max), (8, 8, (BitVec.ofInt 8 (max (-128) (min 127 (10 * x.riseAt 0 100)))).toNat),
                (7, 1, flag x.faulty), (6, 1, flag x.standin)])
  | 0x118 => some (pack [(31, 1, flag t.shutLast), (8, 8, t.shutCh.toNat), (0, 8, shownReading t.shutTemp)])
  | _ => none

/-! ### FLT, the recorder, the pantry (R538) -/

/-- LIVE bits of a word of the page in FLT_LIVE_IDX (R510). -/
def State.liveBits (s : State) (page : Nat) : Nat :=
  bitSet 64 (fun i => s.isLive (BitVec.ofNat 18 (page % 4096 + i / 32 * 4096 + i % 32 * 8192)))

/-- FLT. -/
def State.viewFlt (s : State) (off : Nat) : Option Nat :=
  let f := s.flt
  match off with
  | 0x104 => some (pack [(29, 3, if f.safe != 0 then f.safe else flag !f.fences.isEmpty), (26, 3, f.cause.toNat), (25, 1, flag f.lastSafe),
                         (0, 16, min 65535 (f.fences.filter (fun x => x.1 != 1)).length)])
  | 0x120 => some (s.liveBits (s.regFld 0x004 0x11c 0 12))
  | _ => none

/-- A word of the recorder's window: 0 with no record or while the event log is locked for the requester (R527). -/
def State.evrWord (s : State) (q : Requester) (n : Nat) : Nat :=
  match s.flt.window with
  | some r => if s.unlocked q 5 false then (byteWord r.bytes n).toNat else 0
  | none => 0

/-- The event recorder. -/
def State.viewEvr (s : State) (q : Requester) (off : Nat) : Option Nat :=
  match off with
  | 0x104 => some (pack [(31, 1, flag s.pantryDown), (30, 1, flag !(s.unlocked q 5 false)), (29, 1, flag s.flt.spillAvail),
                         (28, 1, flag s.flt.window.isSome), (0, 21, s.evrTab.length)])
  | 0x108 => some s.flt.cursor
  | 0x110 => some (pack [(48, 16, s.ring 10), (32, 16, s.ring 9), (16, 16, s.ring 8), (0, 16, s.ring 7)])
  | _ => if 0x140 ≤ off && off < 0x180 then some (s.evrWord q ((off - 0x140) / 4)) else none

/-- The pantry; in recall STATE reads 0 (R537). -/
def State.viewPan (s : State) (q : Requester) (off : Nat) : Option Nat :=
  match off with
  | 0x100 => some (pack [(29, 3, if s.pan.recalling then 0 else s.pan.st), (28, 1, flag s.pan.hold), (8, 8, bitSet 8 (fun n => s.unlocked q n true)),
                         (0, 8, bitSet 8 (fun n => s.unlocked q n false))])
  | 0x120 => some (pack [(16, 16, s.pan.paErr), (0, 16, s.pan.pbErr)])
  | _ => none

/-! ### Crust (R467) -/

/-- CRS page 0. -/
def State.viewCrs0 (s : State) (off : Nat) : Option Nat :=
  match off with
  | 0x104 => some (pack [(31, 1, flag s.crs.rootOk), (30, 1, flag s.crs.testMode),
                         (16, 8, ((List.range 64).filter (fun r => (s.krange r).st == 1)).length), (8, 8, s.crs.sessions.length)])
  | _ => none

/-- CRS page 1: the key range of CRS_KR_IDX; BASE_0 is 0 (R441). -/
def State.viewCrs1 (s : State) (off : Nat) : Option Nat :=
  let r := s.regFld 0x009 0x100 0 6
  match off with
  | 0x104 => some (if r = 0 then 0 else (s.crs.bases.getD (r - 1) 0).toNat)
  | 0x108 => some (pack [(30, 2, (s.krange r).st.toNat), (0, 16, (s.krange r).gen.toNat)])
  | 0x10c => some s.crs.tblVer.toNat
  | _ => none

/-- CRS page 3. -/
def State.viewCrs3 (s : State) (off : Nat) : Option Nat :=
  match off with
  | 0x100 => some (pack [(28, 4, s.crs.idState.toNat), (27, 1, flag (s.crs.idState == 2 && s.pan.ownerCert.isSome)), (26, 1, flag (s.crs.idState == 2))])
  | 0x104 => some (pack [(16, 16, s.crs.minSvn.toNat), (0, 16, s.crs.runSvn.toNat)])
  | 0x110 => some (if s.crs.window then s.crs.nonce.toNat else 0)
  | _ => none

/-! ### Slices, DRAM tier, medium (R140, R208, R244) -/

/-- Slice `n`. -/
def State.viewSlc (s : State) (n off : Nat) : Option Nat :=
  let x := s.slice n
  match off with
  | 0x108 => some (pack [(2, 1, flag !x.inv.isEmpty), (1, 1, s.regFld (slcPage n) 0x108 1 1), (0, 1, s.regFld (slcPage n) 0x104 0 1)])
  | 0x14c => some (pack [(4, 16, s.regFld (slcPage n) 0x14c 4 16), (0, 4, bitSet 4 (fun g => decide (g ∈ x.preloading)))])
  | 0x158 => some (pack [(17, 15, x.merge.length), (0, 14, s.laneUsed n)])
  | 0x160 => some x.misses.length
  | _ => none

/-- DTC common. -/
def State.viewDtc (s : State) (off : Nat) : Option Nat :=
  match off with
  | 0x10c => some (pack [(20, 12, min 4095 s.dtc.energy), (19, 1, flag s.dtc.short), (0, 19, s.dtc.budget)])
  | 0x110 => some (pack [(19, 13, s.strictFrames), (0, 19, (s.durableFrames + 255) / 256)])
  | _ => none

/-- A media channel: the marks of its dies beside the stored state. -/
def State.viewMchCh (s : State) (ch off : Nat) : Option Nat :=
  let die (d : Nat) : Die := s.die (4 * ch + d)
  match off with
  | 0x100 => some (pack [(29, 3, s.chanState ch), (24, 5, s.regFld (chanPage ch) 0x100 24 5), (8, 4, bitSet 4 (fun d => (die d).suspended)),
                         (4, 4, bitSet 4 (fun d => (die d).busy != 0)), (0, 4, bitSet 4 (fun d => (die d).fenced))])
  | _ => none

/-- MCH common: NOW counts the 4 KiB of every data page programmed in the last 1 ms (log 45). -/
def State.viewMch (s : State) (off : Nat) : Option Nat :=
  match off with
  | 0x108 => some ((List.range 16).foldl (fun a j => a + s.groupState j * 2 ^ (2 * j)) 0)
  | 0x11c =>
    let pages := (s.mch.pgmLog.filter (fun e => decide (s.ns ≤ e.1 + 1000000))).foldl (fun a e => a + e.2) 0
    some (pack [(16, 10, min 1023 (pages * 4096 / 1000000)), (0, 10, s.mch.cap)])
  | 0x124 => some (pack [(31, 1, flag s.mch.surveyed), (0, 23, (s.mch.blocks.filter (fun (e : Nat × Block) => e.2.anchored)).length)])
  | _ => none

/-! ### Translation, addresses, rewind (R103, R282, R314) -/

/-- Highest and mean erase count of the blocks in use. DESIGN CHOICE: for MTE_WEAR these are all blocks neither retired nor factory-bad,
Erased ones among them, since R282 does not say (R282, log 87). -/
def State.wearOf (s : State) : Nat × Nat :=
  let l := s.mch.blocks.filter (fun (e : Nat × Block) => e.2.st != 2 && e.2.st != 3)
  let gone := s.mch.blocks.length - l.length
  let total := l.foldl (fun a (e : Nat × Block) => a + e.2.erases) 0
  (l.foldl (fun a (e : Nat × Block) => max a e.2.erases) 0, total / max 1 (4194304 - gone))

/-- Reason of the current victim: of the lowest group that has one (log 45). -/
def State.victimReason (s : State) : Nat :=
  match s.mte.victim with
  | [] => 0
  | e :: _ => ((s.mte.sets.find e.2).map SetRec.reason).getD 0

/-- MTE's own registers. -/
def State.viewMteOwn (s : State) (off : Nat) : Option Nat :=
  match off with
  | 0x108 => some (if s.mte.restored then s.mte.nextWsn else 0)
  | 0x11c => some (pack [(16, 16, min 65535 (s.mte.jdur.length / 32768)), (0, 11, min 1024 ((s.mte.jbuf.length + s.mte.jprog.length + 31) / 32))])
  | 0x124 =>
    let queued := (s.mte.sets.filter (fun (e : Nat × SetRec) => e.2.st == 3 && e.2.reason != 0)).length
    some (pack [(24, 8, min 255 queued), (20, 4, s.victimReason),
                (0, 15, (List.range 16).foldl (fun a g => min a (s.freeSets g)) 32767)])
  | 0x130 => some (pack [(32, 24, min 16777215 s.wearOf.2), (0, 24, min 16777215 s.wearOf.1)])
  | 0x138 => some (pack [(16, 16, min 65535 (s.headroomMib / 1024)), (0, 16, (List.range 16).foldl (fun a g => a + s.reserveSets g) 0)])
  | 0x13c => some s.retiredBlocks
  | _ => none

/-- The address and region registers; those restored from module metadata read 0 before (R104). -/
def State.viewAddr (s : State) (off : Nat) : Option Nat :=
  let r := s.regFld 0x030 0x810 0 8
  let lsi := s.regFld 0x030 0x830 0 14
  let g := s.seg lsi
  let used := (s.mte.segs.filter (fun (e : Nat × Seg) => e.2.st != 0)).length
  let held (x : Nat) : Option Nat := some (if s.mte.restored then x else 0)
  match off with
  | 0x804 => held (pack [(16, 16, used), (0, 16, 12288 - used)])
  | 0x808 => some (pack [(17, 14, s.dirOverflow), (0, 17, s.pinned.length)])
  | 0x814 => held (s.shadowRegion r).attr0.toNat
  | 0x818 => held (s.shadowRegion r).attr1.toNat
  | 0x81c => held (s.region r).attr2.toNat
  | 0x820 => held (s.regionSegs r).length
  | 0x834 => held (pack [(16, 16, g.epoch.toNat), (8, 8, g.region.toNat), (0, 3, g.st.toNat)])
  | 0x838 => held (pack [(26, 6, s.keyRangeOf g.gsn.toNat), (0, 26, if g.st = 0 then 0 else g.gsn.toNat)])
  | 0x83c => held (s.shadowSegRgn lsi)
  | _ => none

/-- Rewind. -/
def State.viewRw (s : State) (off : Nat) : Option Nat :=
  let r := s.regFld 0x031 0x110 0 8
  let x := s.rwr r
  let mark := x.marks[s.regFld 0x031 0x11c 0 4]?
  match off with
  | 0x104 => some (pack [(16, 16, s.mte.regions.foldl (fun a (e : Nat × Region) => if e.2.rewind then a + e.2.budget else a) 0),
                         (0, 12, s.mte.index.length / 65536)])
  | 0x114 => some (pack [(16, 16, x.epoch.toNat), (13, 3, (x.op.map RwOp.kind).getD 0), (11, 2, x.guard.toNat), (0, 5, x.marks.length)])
  | 0x118 => some (s.rwUsage r)
  | 0x120 => some (match mark with
    | some m => pack [(31, 1, 1), (0, 16, m.epoch.toNat)]
    | none => 0)
  | 0x128 => some ((mark.map Mark.cut).getD 0)
  | 0x130 => some ((mark.map (fun (m : Mark) => m.ptime.toNat)).getD 0)
  | 0x138 => some (match mark with
    | some m => (s.mte.index.filter (fun (e : IdxEntry) => e.of r m.epoch)).length
    | none => 0)
  | 0x13c => some s.mte.voids.length
  | _ => none

/-! ### Links and fabric (R362) -/

/-- PRT_PSTATj of port `n`; a CXL port reads STATE 0. -/
def State.viewPort (s : State) (n : Nat) : Nat :=
  let p := s.port n
  pack [(29, 3, if s.isHeadPort n then 0 else p.st.toNat), (27, 2, p.rate.toNat), (24, 3, p.width.toNat), (23, 1, flag p.rev), (15, 8, p.polInv.toNat),
        (10, 5, p.cause.toNat)]

/-- A port block. -/
def State.viewPrt (s : State) (b off : Nat) : Option Nat :=
  if 0x110 ≤ off && off < 0x130 then some (s.viewPort (8 * b + (off - 0x110) / 4)) else none

/-- PRT_CAGEn. -/
def State.viewCage (s : State) (n : Nat) : Nat :=
  let c := s.cage n
  pack [(63, 1, flag (c.phase == 3)), (62, 1, flag c.ident), (32, 8, c.breakout.toNat), (24, 8, c.rate.toNat), (16, 8, c.len.toNat), (0, 16, c.part.toNat)]

/-- PRT common. -/
def State.viewPrtc (s : State) (off : Nat) : Option Nat :=
  if 0x110 ≤ off && off < 0x150 then some (s.viewCage ((off - 0x110) / 8)) else none

/-- FXB. -/
def State.viewFxb (s : State) (off : Nat) : Option Nat :=
  let f := s.fxb
  match off with
  | 0x104 => some (pack [(31, 1, flag f.conf), (28, 3, f.role.toNat), (12, 12, f.cust.toNat), (0, 12, f.devnum.toNat)])
  | 0x108 => some f.serial.toNat
  | 0x120 =>
    let routes := ((List.range 4096).filter (fun d => (s.routeTo d).isSome)).length
    some (pack [(19, 13, routes), (6, 13, s.origins.length), (5, 1, flag f.quorum), (4, 1, flag s.tep)])
  | 0x124 => some (pack [(12, 12, f.stby2.toNat), (0, 12, f.stby1.toNat)])
  | 0x128 => some (pack [(16, 16, s.regFld 0x180 0x128 16 16), (0, 11, s.parkedAll)])
  | _ => none

/-- FXB_RT_ENT of a destination. -/
def State.viewRoute (s : State) (dev : Nat) : Nat :=
  let r : Route := if dev = s.dev && dev != 0 then { dist := 0 } else s.fxb.routes.get {} dev
  pack [(59, 5, r.dist), (56, 3, r.next.length), (55, 1, flag r.escDn.isSome), (54, 1, flag r.esc.isSome), (45, 9, r.escDn.getD 0), (36, 9, r.esc.getD 0),
        (27, 9, r.next.getD 3 0), (18, 9, r.next.getD 2 0), (9, 9, r.next.getD 1 0), (0, 9, r.next.getD 0 0)]

/-! ### Heads and custody (R402, R428) -/

/-- Head `h`; Disabled where no head is selected (R580). -/
def State.viewHead (s : State) (h off : Nat) : Option Nat :=
  let x := s.head h
  match off with
  | 0x108 => some (pack [(29, 3, if s.headExists h then x.st.toNat else 0), (26, 3, x.width.toNat), (23, 3, x.rate.toNat),
                         (22, 1, flag (x.active && x.rate == 4)), (21, 1, flag x.ide), (18, 3, x.barriers.length), (7, 11, s.heldFor h)])
  | 0x118 =>
    let slot := s.regFld (headPage h) 0x114 0 14
    some (if slot = 16383 then 0 else (x.extents.get 0 slot).toNat)
  | _ => none

/-- Age of an instant of module time in milliseconds. -/
def State.msSince (s : State) (t : Nat) : Nat := (s.ns - t) / 1000000

/-- SVE custody. -/
def State.viewSve (s : State) (off : Nat) : Option Nat :=
  let v := s.sve
  let ops (kinds : List Nat) : Nat := (v.ops.filter (fun (e : Nat × BulkOp) => decide (e.2.kind ∈ kinds))).length
  let op := v.ops.find (s.regFld 0x200 0x118 0 5)
  match off with
  | 0x104 => some (pack [(31, 1, flag v.lease), (30, 1, flag v.claiming), (16, 5, ops [1, 3]), (8, 5, ops [0, 2]),
                         (0, 8, (v.leaseAt.map (fun t => min 255 (s.msSince t))).getD 255)])
  | 0x108 => some v.ver
  | 0x11c => some (match op with
    | some o => pack [(31, 1, 1), (28, 3, o.kind), (24, 4, o.phase), (20, 4, o.pass), (0, 12, o.peer.toNat)]
    | none => 0)
  | 0x120 => some (match op with
    | some o => pack [(26, 19, o.dirty.length), (0, 26, o.gsn.toNat)]
    | none => 0)
  | 0x128 =>
    let oldest := match v.updates.head? with
      | some u => min 32767 ((s.ns - u.sentAt) / 100000)
      | none => 0
    some (pack [(15, 17, v.updates.length), (0, 15, oldest)])
  | 0x130 => some (pack [(28, 4, v.fwState.toNat), (27, 1, flag v.running),
                         (0, 16, if s.fxb.role = 1 then (v.rollout.foldl insertNew v.fwWaits).length else 0)])
  | 0x138 => some (s.fwSlot v.running).version.toNat
  | _ => none

/-- Service core `n`. -/
def State.viewCore (s : State) (n off : Nat) : Option Nat :=
  let c := s.core n
  match off with
  | 0x100 => some (pack [(29, 3, c.st.toNat), (0, 8, c.op.toNat)])
  | 0x104 => some c.handle.toNat
  | _ => none

/-! ### Every register -/

/-- The block registers that are not stored words. -/
def State.viewBlock (s : State) (q : Requester) (page : Nat) (k : PageKind) (off : Nat) : Option Nat :=
  match k with
  | .mgt => s.viewMgt off
  | .ckr => s.viewCkr off
  | .pwr => s.viewPwr q off
  | .thm => s.viewThm off
  | .flt => s.viewFlt off
  | .evr => s.viewEvr q off
  | .pan => s.viewPan q off
  | .crs0 => s.viewCrs0 off
  | .crs1 => s.viewCrs1 off
  | .crs2 => none
  | .crs3 => s.viewCrs3 off
  | .crsx => none
  | .slc => s.viewSlc (page - 0x010) off
  | .dtcCh => none
  | .dtc => s.viewDtc off
  | .mte => (s.viewMteOwn off).orElse (fun _ => s.viewAddr off)
  | .rw => s.viewRw off
  | .mchCh => s.viewMchCh (page - 0x040) off
  | .mch => s.viewMch off
  | .prt => s.viewPrt (page - 0x100) off
  | .prtc => s.viewPrtc off
  | .fxb => s.viewFxb off
  | .fxbRt => if off = 0x108 then some (s.viewRoute (s.regFld 0x181 0x100 0 12)) else none
  | .head => s.viewHead (page - 0x1c0) off
  | .sve => s.viewSve off
  | .core => s.viewCore (page - 0x201) off
  | .perfg => if off = 0x100 then some (flag s.freezeAll) else none
  | .dbg => none

/-- The value of a register as a requester reads it, 64 bits where it is that wide: the block's view, else the stored words, with the
shadows of its RWS fields (R7, R8). -/
def State.view (s : State) (q : Requester) (page : Nat) (k : PageKind) (off : Nat) : Nat :=
  let v := if off < 0x100 then s.viewHeader page k off else s.viewBlock q page k off
  match v with
  | some n => n
  | none =>
    let wide := ((regWord page off).map RegWord.pair).getD 0 == 1
    (s.shadowReg page off).toNat + (if wide then (s.shadowReg page (off + 4)).toNat * 2 ^ 32 else 0)

/-- The bits of a word that read as 0: RSV and WO (R8). -/
def RegWord.shown (r : RegWord) : Nat := r.ro ||| r.rw ||| r.rwl ||| r.rwq ||| r.rws ||| r.w1c

/-- The current value of the word at an offset, whatever a holding copy holds. -/
def State.wordNow (s : State) (q : Requester) (page : Nat) (k : PageKind) (r : RegWord) : Word :=
  let n := if r.pair = 2 then s.view q page k (r.off - 4) / 2 ^ 32 else s.view q page k r.off % 2 ^ 32
  BitVec.ofNat 32 (n % 2 ^ 32) &&& BitVec.ofNat 32 r.shown

end Sys2Proof.Machine
end

