-- ==== Sys2Proof/Machine/Fields.lean ====
section
/-! DEFINITION. The ranges and reserved encodings of the fields of a register word, one test per page kind (R9; the field tables of
R103, R140, R208, R244, R282, R314, R362, R402, R428, R467, R484, R503, R538, R574). A word that fails its test is rejected. -/

namespace Sys2Proof.Machine

open Sys2Proof

/-- A field lies in a range. -/
def inRange (v lsb w lo hi : Nat) : Bool :=
  let x := v / 2 ^ lsb % 2 ^ w
  decide (lo ≤ x) && decide (x ≤ hi)

/-- The number of bits set among the lowest `n`. -/
def popCount (n v : Nat) : Nat := ((List.range n).filter (fun i => v / 2 ^ i % 2 == 1)).length

/-- A field of a number. -/
def nf (v lsb w : Nat) : Nat := v / 2 ^ lsb % 2 ^ w

/-- PERF_SEL: the slice's list of R141, code 0 elsewhere; THRESH only for an occupancy (R484, R581). -/
def perfSelOk (k : PageKind) (v : Nat) : Bool :=
  let code := nf v 0 8
  let thresh := nf v 16 16
  if k == .slc then (decide (code ≤ 0x0f) && thresh == 0) || (decide (0x10 ≤ code) && decide (code ≤ 0x12))
  else code == 0 && thresh == 0

/-- The header: only PERF_SEL has reserved values. -/
def headerOk (k : PageKind) (off v : Nat) : Bool := if 0x40 ≤ off && off < 0x60 then perfSelOk k v else true

/-- Power, thermal and clocks (R574). -/
def pwrOk (off v : Nat) : Bool :=
  match off with
  | 0x104 => if nf v 0 2 = 2 then inRange v 16 10 300 650 else decide (nf v 0 2 < 2) && nf v 16 10 == 0
  | 0x10c => decide (v < 40)
  | 0x124 => inRange v 24 8 1 100 && inRange v 16 8 10 120
  | 0x12c => decide (v < 32640)
  | 0x130 => decide (popCount 4 v ≤ 1)
  | _ => true

/-- THM: every warning below its throttle level; the rules that tie the registers are `thmTied` (R563). -/
def thmOk (off v : Nat) : Bool :=
  match off with
  | 0x100 => inRange v 24 8 105 130 && inRange v 8 8 10 90
  | 0x104 => decide (nf v 16 8 < nf v 24 8) && decide (nf v 0 8 < nf v 8 8)
  | 0x108 => decide (nf v 0 8 < nf v 8 8)
  | 0x110 => decide (v < 180)
  | _ => true

/-- Every threshold at least 5 °C below TRIP (R563). -/
def thmTied (cfg lim0 lim1 : Nat) : Bool :=
  let trip := nf cfg 24 8
  ([nf lim0 24 8, nf lim0 16 8, nf lim0 8 8, nf lim0 0 8, nf lim1 8 8, nf lim1 0 8]).all (fun x => decide (x + 5 ≤ trip))

/-- FLT, recorder, pantry (R538). -/
def fltOk (k : PageKind) (off v : Nat) : Bool :=
  match k, off with
  | .flt, 0x100 => inRange v 0 10 10 1000
  | .evr, 0x100 => decide (0 < nf v 0 8)
  | .evr, 0x10c => decide (popCount 3 v ≤ 1)
  | .pan, 0x104 => decide (v ∈ [2, 5, 6])
  | .pan, 0x108 => decide (1 ≤ v) && decide (v ≤ 5)
  | _, _ => true

/-- Crust: MEM and MEMW are 0 outside the debug class (R467). -/
def crsOk (k : PageKind) (off v : Nat) : Bool :=
  match k, off with
  | .crs0, 0x10c => inRange v 16 16 10 1000 && inRange v 8 8 1 168
  | .crs2, 0x100 => nf v 10 2 == 0
  | .crs2, 0x104 => nf v 10 2 == 0
  | _, _ => true

/-- Slices (R125, R140). -/
def slcOk (off v : Nat) : Bool :=
  match off with
  | 0x118 => v != 0
  | 0x120 => decide (nf v 0 4 + nf v 4 4 + nf v 8 4 + nf v 12 4 ≤ 4)
  | 0x150 => decide (0 < nf v 24 8) && inRange v 8 8 10 95 && inRange v 0 8 5 (nf v 8 8 - 5)
  | 0x154 => inRange v 0 14 16 8192
  | 0x15c => inRange v 0 8 1 100
  | _ => true

/-- DTC (R208). -/
def dtcOk (off v : Nat) : Bool :=
  match off with
  | 0x114 => decide (0 < nf v 2 8) && decide (nf v 0 2 < 3)
  | 0x118 => inRange v 16 8 10 95 && inRange v 0 10 1 1000
  | 0x11c => inRange v 24 8 1 20 && inRange v 16 8 10 120 && inRange v 8 8 1 60 && inRange v 0 8 1 50
  | 0x120 => inRange v 0 8 1 168
  | _ => true

/-- MTE, the region window and rewind (R103, R282, R314). -/
def mteOk (k : PageKind) (off v : Nat) : Bool :=
  match k, off with
  | .mte, 0x110 => inRange v 0 10 5 1000
  | .mte, 0x114 => inRange v 0 7 1 100
  | .mte, 0x118 => inRange v 16 6 1 32 && inRange v 0 14 10 10000
  | .mte, 0x120 => inRange v 26 6 5 50 && inRange v 20 6 4 63 && inRange v 10 10 (nf v 20 6 + 8) 1000 && inRange v 0 10 (nf v 10 10 + 16) 1023
  | .mte, 0x128 => inRange v 24 8 5 200 && inRange v 0 24 1000000 12000000
  | .mte, 0x814 => decide (nf v 3 2 < 3) && decide (nf v 0 2 < 3)
  | .mte, 0x818 => decide (nf v 0 16 ≤ 16384)
  | .mte, 0x830 => decide (v < 12288)
  | .rw, 0x108 => decide (0 < nf v 0 8)
  | .rw, 0x10c => inRange v 16 16 10 6000 && inRange v 0 16 1 1000
  | _, _ => true

/-- MCH (R244). -/
def mchOk (off v : Nat) : Bool :=
  match off with
  | 0x104 => (List.range 16).all (fun j => decide (nf v (2 * j) 2 < 3))
  | 0x10c => inRange v 8 16 10 1000 && inRange v 0 8 1 64
  | 0x110 => inRange v 12 8 16 96 && inRange v 4 8 8 64 && inRange v 0 4 4 12
  | 0x114 => inRange v 26 6 4 40 && inRange v 0 12 16 1022 && inRange v 12 12 (nf v 0 12 + 1) 1023
  | 0x118 => inRange v 8 8 1 90 && inRange v 0 8 200 250
  | 0x120 => inRange v 16 8 5 50 && inRange v 8 8 20 100 && inRange v 0 8 10 100
  | _ => true

/-- PRT, FXB, heads (R362, R428). A port of PRT_CFG.CXL exists when its number is below that of the bifurcation. -/
def linkOk (k : PageKind) (off v : Nat) : Bool :=
  match k, off with
  | .prt, 0x100 => decide (nf v 24 4 ≤ 3) && decide (popCount 8 (nf v 8 8) ≤ 1) && decide (nf v 8 8 < 2 ^ (2 ^ nf v 0 2))
  | .prtc, 0x104 => inRange v 16 16 10 1000 && inRange v 8 8 5 100 && inRange v 0 8 1 50
  | .prtc, 0x108 => inRange v 24 8 5 200 && inRange v 16 8 4 64 && inRange v 8 8 5 100
  | .fxb, 0x114 => v != 0
  | .fxb, 0x118 => inRange v 8 8 1 100 && inRange v 0 8 1 100
  | .fxb, 0x11c => inRange v 22 10 10 500 && inRange v 12 10 1 500 && inRange v 0 12 10 4000
  | .head, 0x104 => inRange v 0 3 1 4
  | .head, 0x110 => inRange v 24 8 1 100 && inRange v 16 8 1 255 && inRange v 8 8 1 255
  | _, _ => true

/-- SVE (R402). -/
def sveOk (off v : Nat) : Bool :=
  match off with
  | 0x110 => inRange v 24 8 1 64 && inRange v 20 4 1 15 && inRange v 0 12 16 4095
  | 0x114 => inRange v 25 7 1 100 && inRange v 19 6 1 50 && inRange v 9 10 10 1000 && inRange v 0 7 1 100
  | 0x134 => inRange v 24 8 1 64 && inRange v 16 8 10 120
  | _ => true

/-- The block registers. -/
def blockOk (k : PageKind) (off v : Nat) : Bool :=
  match k with
  | .mgt => if off = 0x10c then inRange v 16 7 1 100 && inRange v 0 10 1 1000 else true
  | .ckr => if off = 0x108 then nf v 0 2 != 3 else true
  | .pwr => pwrOk off v
  | .thm => thmOk off v
  | .flt | .evr | .pan => fltOk k off v
  | .crs0 | .crs1 | .crs2 | .crs3 | .crsx => crsOk k off v
  | .slc => slcOk off v
  | .dtc => dtcOk off v
  | .mte | .rw => mteOk k off v
  | .mch => mchOk off v
  | .prt | .prtc | .fxb | .head => linkOk k off v
  | .sve => sveOk off v
  | .dtcCh | .mchCh | .fxbRt | .core | .perfg | .dbg => true

/-- No field of the word lies outside its range or on a reserved encoding (R9). -/
def fieldsOk (k : PageKind) (off : Nat) (w : Word) : Bool := if off < 0x100 then headerOk k off w.toNat else blockOk k off w.toNat

/-- The bits a register word defines; the others are RSV (R8). -/
def RegWord.defined (r : RegWord) : Nat := r.shown ||| r.wo

/-- No RSV bit of the word is 1 (R8). -/
def RegWord.rsvOk (r : RegWord) (w : Word) : Bool := (w &&& ~~~(BitVec.ofNat 32 r.defined)) == 0

end Sys2Proof.Machine
end

