-- ==== Sys2Proof/Machine/LocalTimeout.lean ====
section
/-! DEFINITION. The local service timeout: what waited ends in error, and the unit that held it is fenced, or the safe state follows (R73,
R142, R153, R158; log 41). -/

namespace Sys2Proof.Machine

open Sys2Proof

/-- The DTC channel that holds a page's directory set: the channel of the set's way-0 frame, since R188 and R198 name none (log 41);
none in reduced mode. -/
def State.setChan (s : State) (l : Lmp) : Option Nat :=
  if s.dtc.used.isEmpty then none else some (s.frameChan (8 * s.setOf l))

/-- The DTC channel of a page's frame, or of its directory set where it has none (R73, R188, log 41). -/
def State.holderChan (s : State) (l : Lmp) : Option Nat :=
  if s.dtc.used.isEmpty then none
  else match s.frameOf l with
    | some (n, _) => some (s.frameChan n)
    | none => s.setChan l

/-- A DTC channel has not answered a slice. -/
def State.silentDch (s : State) (n : Nat) (c : Option Nat) : State :=
  match c with
  | none => s.raise (slcPage n) .slcLsvcTimeout
  | some c => (s.raiseAt (slcPage n) .slcLsvcTimeout { dom := 5, inst := c }).fenceDch c 0

/-- An MCH channel has not answered a slice. -/
def State.silentMch (s : State) (n ch : Nat) : State :=
  (s.raiseAt (slcPage n) .slcLsvcTimeout { dom := 7, inst := ch }).fenceChan ch 0

/-- The MTE has not answered a slice: it forms no fence domain, and the module enters the safe state through MTE_HANG (R73, R142). -/
def State.silentMte (s : State) (n : Nat) : State := (s.raise (slcPage n) .slcLsvcTimeout).raise 0x030 .mteMteHang

/-- Crust has not answered a slice: likewise CRS_HANG (R73, R142). -/
def State.silentCrust (s : State) (n : Nat) : State := (s.raise (slcPage n) .slcLsvcTimeout).raise 0x008 .crsCrsHang

/-- The unit that holds a miss has not answered: while the tier lookup has not answered, the channel of the directory set (R73). -/
def State.silentMiss (s : State) (n : Nat) (m : MissEntry) : State :=
  match m.stage with
  | .tier => s.silentDch n ((s.lineLmp m.line).bind s.setChan)
  | .pageFill l => s.silentDch n (s.holderChan l)
  | .map => s.silentMte n
  | .mapCrumb p _ => s.silentMch n (ppaChan p)
  | .medium p _ => s.silentMch n (ppaChan p)
  | _ => s.silentCrust n

/-- What a lane entry's requesters wait for ends at the timeout: a store stays in its lane without them, an atomic returns poison and
stores nothing (R73, R158, R159, log 41). -/
def State.endEntry (s : State) (n : Nat) (e : LaneEntry) : State :=
  match e.op with
  | .store =>
    (s.setSlice n { s.slice n with lanes := (s.slice n).lanes.map (fun (y : LaneEntry) =>
      if y.uid = e.uid then { y with waits := [] } else y) }).badAll e.waits 2
  | .atomic .. => (s.freeLane n e.uid).each e.waits (fun s w => (s.answerAtomic w.sender 0 true).answerBad { w with late := false } 2)

/-- A miss ends in error: its reads complete with poison, and the stores and atomics that wait for its value end (R73). -/
def State.missTimeout (s : State) (n : Nat) (a : LineAddr) : State :=
  match (s.slice n).missOf a with
  | none => s
  | some m =>
    let es := (s.slice n).lanes.filter (fun e => decide (e.uid ∈ m.entries))
    let s := (s.silentMiss n m).dropMiss a
    let s := s.each m.waiters (fun s w => if w.served then s else s.answerRead w.sender 0 true)
    ((s.each es (fun s e => s.endEntry n e)).retryBehind n).preloadAll n

/-- A release ends in error: Crust holds it until it has passed the line, then the DTC channel of the line's frame, at whose entrance or
in whose Programming frame it waits. The line itself stays where it is (R73, R193, log 41). -/
def State.releaseTimeout (s : State) (n : Nat) (a : LineAddr) : State :=
  let x := s.slice n
  match x.merge.find? (fun (m : MergeEntry) => m.line == a && m.draining && !m.offered) with
  | some m =>
    let s := s.silentCrust n
    let s := s.setSlice n { s.slice n with merge := (s.slice n).merge.map (fun (y : MergeEntry) => if y == m then { y with waits := [] } else y) }
    s.badAll m.waits 2
  | none =>
    match s.dtc.waiting.find? (fun (w : DtcWait) => w.line == a) with
    | some w =>
      let s := s.silentDch n ((s.lineLmp a).bind s.holderChan)
      let s := { s with dtc := { s.dtc with waiting := s.dtc.waiting.map (fun (y : DtcWait) => if y == w then { y with waits := [] } else y) } }
      s.badAll w.waits 2
    | none =>
      match (s.lineLmp a).bind s.frameOf with
      | none => s
      | some (k, f) =>
        let mine (h : Nat × SLine × List Waiting) : Bool := h.1 == lineInPage a
        let ws := (f.held.filter mine).flatMap (fun h => h.2.2)
        if !f.held.any mine then s else
        let s := s.silentDch n (if s.dtc.used.isEmpty then none else some (s.frameChan k))
        match s.frameOf f.lmp with
        | none => s
        | some (k, g) => (s.setFrame k { g with held := g.held.map (fun h => if mine h then (h.1, h.2.1, []) else h) }).badAll ws 2

/-- The channels of the dies that still run a stripe. -/
def State.stripeChans (s : State) (l : Lmp) : List Nat :=
  match s.mte.stripes.find? (fun (x : Stripe) => x.issued && x.pages.any (fun p => p.tag.type == 1 && p.tag.lmp == l && p.from_.isNone)) with
  | none => []
  | some x => (((groupDies x.group).filter (fun d => (s.die d).busy == 2 * x.id + 1)).map dieChan).foldl insertNew []

/-- A Strict stripe request ends in error: the MTE holds it until the stripe is issued, then each MCH channel that has not reported; a
line that waits for the transfer of its frame is held by the channel of the frame (R73, R193). -/
def State.strictTimeout (s : State) (n : Nat) (a : LineAddr) : State :=
  match (s.lineLmp a).bind s.frameOf with
  | none => s.releaseTimeout n a
  | some (k, f) =>
    let mine (w : Waiting) : Bool := w.line == lineInPage a
    let late := f.carried.filter mine
    let soon := f.waits.filter mine
    if !late.isEmpty then
      let s := s.each (s.stripeChans f.lmp) (fun s ch => s.silentMch n ch)
      let g := ((s.frameOf f.lmp).map Prod.snd).getD f
      (s.setFrame k { g with carried := g.carried.filter (fun w => !mine w) }).badAll late 2
    else if soon.isEmpty then s.releaseTimeout n a
    else ((s.silentMte n).setFrame k { f with waits := f.waits.filter (fun w => !mine w) }).badAll soon 2

/-- A store that its lane holds ends for its requesters: no barrier waits for it without limit (R142, R159, log 41). -/
def State.laneTimeout (s : State) (n : Nat) (a : LineAddr) : State :=
  let es := (s.slice n).lanes.filter (fun e => e.line == a && !e.waits.isEmpty)
  if es.isEmpty then s else
  ((s.raise (slcPage n) .slcLsvcTimeout).each es (fun s e => s.endEntry n e)).retryBehind n

/-- The local service timeout of a slice's request (R73), of a store that its lane holds (R159), or of its acceptance of requests (R514). -/
def State.serviceTimeout (s : State) (k : WaitKind) (a : LineAddr) : State :=
  let n := sliceHash a
  match k with
  | .miss => s.missTimeout n a
  | .release => s.releaseTimeout n a
  | .strict => s.strictTimeout n a
  | .lane => s.laneTimeout n a
  | .sliceAccept => s.sliceSilent n

/-- LOCAL_SERVICE_TIMEOUT (R73). -/
def execLocalServiceTimeout (k : WaitKind) (line : LineAddr) (s : State) : Host.Outcome State Fault Refusal :=
  .next (s.withPins (fun s => s.serviceTimeout k line))

end Sys2Proof.Machine
end

