-- ==== Sys2Proof/Machine/Commands.lean ====
section
/-! DEFINITION. The command set: the checks of a command packet and what each command does (R299, R373 to R376, R386, R442, R444, R450,
R492 to R501; log 42, log 43). -/

namespace Sys2Proof.Machine

open Sys2Proof

/-! ### Rights (R450 to R452) -/

/-- The rights of a requester's class: I3C, heads, debug; an internal requester is not bound by the registers. -/
def State.rightsOf (s : State) (q : Requester) : Nat :=
  match q with
  | .i3c => (s.reg 0x00a 0x100).toNat
  | .head _ => (s.reg 0x00a 0x104).toNat
  | .mailbox _ => (s.reg 0x00a 0x104).toNat
  | .debug => (s.reg 0x00a 0x108).toNat
  | .internal => 0xfff

/-- The requester's class holds a right. -/
def State.hasRight (s : State) (q : Requester) (bit : Nat) : Bool := s.rightsOf q / 2 ^ bit % 2 == 1

/-- Crust raises DENIED. -/
def State.deny (s : State) : State := s.raise 0x008 .crsDenied

/-! ### The command table (R496) -/

/-- A command's right (none needs none), the lengths its packet may have, and the defined bits of its argument words; further words are
wholly defined. -/
structure CmdRow where
  right : Option Nat
  lo : Nat
  hi : Nat
  masks : List Nat

/-- Bits of a GSN argument. -/
def gsnBits : Nat := 2 ^ 26 - 1

/-- The row of an opcode. -/
def cmdRow (op : Nat) : Option CmdRow :=
  match op with
  | 0x01 => some ⟨none, 1, 1, []⟩
  | 0x03 => some ⟨none, 2, 2, []⟩
  | 0x10 => some ⟨some 2, 3, 3, [0xffffffff, 0xfff]⟩
  | 0x11 => some ⟨some 2, 2, 2, [gsnBits]⟩
  | 0x12 => some ⟨some 2, 3, 3, [gsnBits, 0xfffff]⟩
  | 0x13 => some ⟨some 2, 3, 3, [gsnBits, 0x3ffff]⟩
  | 0x14 => some ⟨some 2, 3, 3, [gsnBits, 0xfffff]⟩
  | 0x15 => some ⟨some 2, 2, 2, [0xfff]⟩
  | 0x16 => some ⟨some 2, 3, 3, [0x3fffff, 0xffff]⟩
  | 0x17 => some ⟨some 2, 2, 2, [gsnBits]⟩
  | 0x18 => some ⟨some 2, 2, 2, [gsnBits]⟩
  | 0x20 => some ⟨some 4, 4, 4, [0xffffffff, 0xffffff]⟩
  | 0x21 => some ⟨some 3, 2, 2, [0xff]⟩
  | 0x22 => some ⟨some 3, 2, 2, [0xffffff]⟩
  | 0x23 => some ⟨some 3, 2, 2, [0xffffff]⟩
  | 0x30 => some ⟨some 5, 64, 64, List.replicate 63 0x7ffffff⟩
  | 0x31 => some ⟨some 5, 2, 2, [0x3f]⟩
  | 0x32 => some ⟨some 5, 26, 26, [0x3f]⟩
  | 0x33 => some ⟨some 5, 2, 2, [0x3f]⟩
  | 0x40 => some ⟨some 6, 3, 128, []⟩
  | 0x41 => some ⟨some 6, 2, 2, []⟩
  | 0x42 => some ⟨some 6, 1, 1, []⟩
  | 0x50 => some ⟨some 8, 2, 2, [0x3ff0003]⟩
  | 0x51 => some ⟨some 8, 2, 2, [0x3]⟩
  | 0x52 => some ⟨some 8, 1, 1, []⟩
  | 0x53 => some ⟨some 7, 1, 1, []⟩
  | 0x60 => some ⟨none, 5, 5, []⟩
  | 0x61 => some ⟨none, 5, 5, []⟩
  | 0x62 => some ⟨none, 5, 5, []⟩
  | _ => none

/-- A word has a 1 outside its defined bits. -/
def outside (w : Word) (mask : Nat) : Bool := (w &&& ~~~(BitVec.ofNat 32 mask)) != 0

/-- LEN equals the command's length and the packet's, and every reserved bit is 0 (R492, R495). -/
def CmdRow.lenOk (r : CmdRow) (words : List Word) : Bool :=
  let n := fld (words.headD 0) 8 8
  n == words.length && decide (r.lo ≤ n) && decide (n ≤ r.hi) && fld (words.headD 0) 16 8 == 0 &&
    !((words.drop 1).zip r.masks).any (fun e => outside e.1 e.2)

/-! ### Answers -/

/-- A packet being run: who sent it, its opcode and TAG, and whether it came in a secured session. -/
structure CmdCtx where
  q : Requester
  op : Byte
  tag : Byte
  secured : Bool

/-- A completion packet of a command, in its session where it came in one (R493, R497). -/
def State.reply (s : State) (c : CmdCtx) (st : Status) (handle : Word) (results : List Word) : State :=
  if c.secured then s.answerSecured (cplPacket c.op c.tag st handle results)
  else s.answerCmd c.q c.op c.tag st handle results

/-- A command that completes at once (R493). -/
def State.say (s : State) (c : CmdCtx) (st : Status) (results : List Word) : State := s.reply c st 0 results

/-- A long operation: NO_RESOURCE at 64 open ones of the originator, else ACCEPTED with a new handle and then its work (R493, R494). -/
def State.long (s : State) (c : CmdCtx) (run : State → Word → State) : State :=
  if 64 ≤ s.openHandles (originator c.q) then s.say c stNoResource []
  else
    let r := s.newHandle c.q c.op c.tag
    run (r.2.reply c stAccepted r.1 []) r.1

/-- A long operation that a check may end first: then only its final completion is sent. -/
def State.longUnless (s : State) (c : CmdCtx) (refusal : Option Status) (run : State → Word → State) : State :=
  match refusal with
  | some st => s.say c st []
  | none => s.long c run

/-! ### Custody (R373 to R376, R385, R386, R397, R401) -/

/-- A custody request relayed to the custodian; STATE where this module knows none (R369). -/
def State.relay (s : State) (c : CmdCtx) (g : GstReq) : State :=
  if s.fxb.cust = 0 then s.say c stState [] else s.long c (fun s h => s.tellCustodian 0 { g with handle := h })

/-- A request with nothing but an operation and a segment. -/
def segReq (op : BitVec 4) (gsn : Word) : GstReq :=
  { op := op, gsn := gsn.setWidth 26, devA := 0, devB := 0, region := 0, keyRange := 0, head := 0, mmode := 0, handle := 0 }

/-- SEG_ALLOC. -/
def State.cmdAlloc (s : State) (c : CmdCtx) (w1 w2 : Word) : State :=
  s.relay c { segReq 1 0 with devA := w1.setWidth 12, head := BitVec.ofNat 6 (fld w1 12 6), keyRange := BitVec.ofNat 6 (fld w1 18 6),
                              region := BitVec.ofNat 8 (fld w1 24 8), devB := w2.setWidth 12 }

/-- SEG_BIND; RD and WR travel as the mirror mode (log 32). -/
def State.cmdBind (s : State) (c : CmdCtx) (gsn w2 : Word) : State :=
  s.relay c { segReq 3 gsn with devA := w2.setWidth 12, head := BitVec.ofNat 6 (fld w2 12 6), mmode := BitVec.ofNat 2 (fld w2 18 2) }

/-- SEG_UNBIND. -/
def State.cmdUnbind (s : State) (c : CmdCtx) (gsn w2 : Word) : State :=
  s.relay c { segReq 4 gsn with devA := w2.setWidth 12, head := BitVec.ofNat 6 (fld w2 12 6) }

/-- SEG_MIGRATE. -/
def State.cmdMigrate (s : State) (c : CmdCtx) (gsn w2 : Word) : State :=
  s.relay c { segReq 5 gsn with devB := w2.setWidth 12, region := BitVec.ofNat 8 (fld w2 12 8) }

/-- SEG_ABORT: the custodian's answer is its one completion, so no handle is reported (R385, R492). -/
def State.cmdAbort (s : State) (c : CmdCtx) (gsn : Word) : State :=
  if s.fxb.cust = 0 then s.say c stState [] else
  let r := s.newHandle .internal c.op c.tag
  let s := r.2
  let s := { s with mgt := { s.mgt with handles := s.mgt.handles.map (fun (x : HandleRec) => if x.handle == r.1 then { x with q := c.q } else x) } }
  s.tellCustodian 0 { segReq 11 gsn with handle := r.1 }

/-- MIRROR_SET: the mode, partner and lag bound of this module's region, and a mirror asked for every segment it owns there (R386). -/
def State.mirrorStart (s : State) (w1 w2 : Word) (h : Word) : State :=
  let r := fld w1 0 8
  let attr2 : Word := BitVec.ofNat 32 (fld w1 8 2 + fld w1 10 12 * 2 ^ 2 + fld w2 0 16 * 2 ^ 14)
  let s := s.setRegion r { s.region r with attr2 := attr2 }
  let gsns := ((s.regionSegs r).filter (fun i => (s.seg i).st == 1)).map (fun i => (s.seg i).gsn)
  if gsns.isEmpty then s.finish h stOk [0] else
  let m : MirSet := { handle := h, waits := gsns, done := 0, failed := false }
  let s := { s with sve := { s.sve with mirSets := s.sve.mirSets ++ [m] } }
  s.each gsns (fun s g => s.askMirror g.toNat 0 h)

/-- The check of MIRROR_SET: modes 0 to 2, and a lag bound of 1 to 50,000 for a Lagged mirror (R496, log 42). -/
def State.mirrorRefusal (s : State) (w1 w2 : Word) : Option Status :=
  let lag := fld w2 0 16
  if fld w1 8 2 = 3 || 50000 < lag || (fld w1 8 2 = 2 && lag = 0) then some stRange
  else if s.fxb.cust = 0 then some stState else none

/-! ### Power and reset (R496, R498, R548, R558 to R560) -/

/-- POWER_PROFILE: both fields of PWR_PROFILE (R560, R574). -/
def State.cmdProfile (s : State) (c : CmdCtx) (w : Word) : State :=
  let p := fld w 0 2
  let cap := fld w 16 10
  if p = 3 || (p = 2 && (cap < 300 || 650 < cap)) || (p != 2 && cap != 0) then s.say c stRange []
  else (s.setReg 0x002 0x104 w).say c stOk []

/-- POWER_STATE may act: not while a flush runs; Off also in start-up, Idle and Deep Idle from On and Idle, On also from Deep Idle (R558,
log 43). -/
def State.powerRefusal (s : State) (w : Word) : Option Status :=
  let st := s.pwr.st.toNat
  let ok := match fld w 0 2 with
    | 0 => decide (st ∈ [3, 4, 5])
    | 3 => decide (st ∈ [2, 3, 4, 5])
    | _ => decide (st ∈ [3, 4])
  if ok && s.pwr.flush = 0 then none else some stState

/-- POWER_STATE: On ends Idle at once and Deep Idle by a wake; Idle is entered at once; Deep Idle and Off by their flush (R558, R559). -/
def State.powerGo (s : State) (w h : Word) : State :=
  match fld w 0 2 with
  | 0 => if s.pwr.st = 5 then s else ({ s with pwr := { s.pwr with st := 3, autoIdle := false } }).finish h stOk []
  | 1 => (s.enterIdle false).finish h stOk []
  | 2 => s.startFlush 6
  | _ => ({ s with pwr := { s.pwr with latchedOff := true } }).askOff

/-! ### SANITIZE (R499) -/

/-- SANITIZE may run: every local segment is Free. -/
def State.sanitizeRefusal (s : State) : Option Status :=
  if s.mte.segs.any (fun (e : Nat × Seg) => e.2.st != 0) then some stState
  else if s.mgt.handles.any (fun (x : HandleRec) => x.op == 0x53 && x.st != 3) then some stBusy else none

/-- A block outside the metadata pool after its erase (R277, R278). -/
def sanitized (retire : Nat) (x : Block) : Block :=
  let n := min 16777215 (x.erases + 1)
  { st := if retire ≤ n then 2 else 0, erases := n, next := 0, setid := 0, reads := 0, d := 0, b := 1, anchored := false }

/-- A journal entry that maps, unmaps or retains a page, or names a row. -/
def pageEntry (e : JEntry) : Bool := decide (e.type.toNat ∈ [0x02, 0x03, 0x04, 0x05, 0x13, 0x14])

/-- The metadata blocks: those of the metadata sets. -/
def State.metaBlocks (s : State) : List Nat :=
  (s.mte.sets.filter (fun (e : Nat × SetRec) => e.2.purpose == 2)).flatMap (fun (e : Nat × SetRec) => e.2.blocks.map (fun b => b / 1024))

/-- Every block outside the metadata pool is erased, the map is wholly Unmapped, the tier is empty. -/
def State.sanitizeAll (s : State) : State :=
  let kept := s.metaBlocks
  let retire := s.regFld 0x030 0x128 0 24
  let blocks : Tab Block := (List.range 4194304).filterMap (fun b =>
    let x := s.block b
    if x.st = 2 || x.st = 3 || decide (b ∈ kept) then (s.mch.blocks.find b).map (fun y => (b, y)) else some (b, sanitized retire x))
  let s := s.each s.dtc.waiting (fun s w => (s.acceptedLine w.line).answerAll w.waits 2)
  let m := s.mte
  { s with
    mch := { s.mch with blocks := blocks, refresh := [], reads := [],
                        pages := s.mch.pages.filter (fun (e : Nat × Page) => decide (e.1 / 1024 ∈ kept)) },
    mte := { m with map := [], image := [], changed := [], captured := [], unmapWsn := [], unmapWait := [], index := [], handoff := [], gather := [],
                    sets := m.sets.filter (fun (e : Nat × SetRec) => e.2.purpose == 2), victim := [], releasing := [], reclaim := [], jwait := [],
                    stripes := m.stripes.filter (fun (x : Stripe) => decide (2 ≤ x.kind)),
                    jbuf := m.jbuf.filter (fun e => !pageEntry e), jprog := m.jprog.filter (fun e => !pageEntry e),
                    jdur := m.jdur.filter (fun (e : Nat × JEntry) => !pageEntry e.2) },
    dtc := { s.dtc with frames := [], fills := [], waiting := [], touched := [], hand := [] } }

/-! ### Stored parameters (R500, R536) -/

/-- The registers with fields that are taken from the pantry parameters, by page and offset, with those fields' bits. -/
def paramRegs : List (Nat × Nat × Nat) :=
  [(0x000, 0x104, 0x1), (0x002, 0x104, 0x3ff0003), (0x004, 0x108, 0x1), (0x006, 0x10c, 0x1), (0x008, 0x110, 0xffffffff), (0x008, 0x114, 0xffffffff),
   (0x00a, 0x100, 0xfff), (0x00a, 0x104, 0xfff), (0x00a, 0x108, 0xfff), (0x028, 0x11c, 0xff0000ff), (0x080, 0x104, 0xffffffff)] ++
  (List.range 64).map (fun b => (0x100 + b, 0x100, 0xfffff03)) ++ [(0x180, 0x110, 0xff), (0x180, 0x114, 0xffffffff)] ++
  (List.range 64).map (fun h => (0x1c0 + h, 0x10c, 0x7))

/-- PARAM_SAVE: the committed value of each such register. -/
def State.saveParams (s : State) : State :=
  let l : Tab Word := paramRegs.foldl (fun (t : Tab Word) e => t.put (regAddr e.1 e.2.1) (s.reg e.1 e.2.1)) []
  { s with pan := { s.pan with params := l } }

/-- A command that presents a password of a partition: BUSY in recall, DENIED for a wrong one, STATE with no pantry left (R500, R535,
log 43). -/
def State.withPassword (s : State) (c : CmdCtx) (part : Nat) (args : List Word) (run : State → State) : State :=
  if s.pan.recalling then s.say c stBusy [] else
  let pw := ofBytesLE (args.flatMap (fun w => bytesLE 4 w.toNat))
  let r := s.present part true pw
  if !r.1 then r.2.say c stDenied []
  else if s.pantryDown then r.2.say c stState []
  else (run r.2).say c stOk []

/-! ### Dispatch -/

/-- HANDLE_QUERY's result (R496, R501). -/
def State.handleState (s : State) (h : Word) : Word :=
  match s.mgt.handles.find? (fun (x : HandleRec) => x.handle == h) with
  | none => 0
  | some x => BitVec.ofNat 32 (x.st + (if x.st = 3 then x.final.toNat * 2 ^ 8 else 0))

/-- The key set that the words of KEY_IMPORT spell: K1, K2 and KT, first byte lowest (R11, R497). -/
def wordsKeys (l : List Word) : KeySet :=
  let at_ (i : Nat) : BitVec 256 := BitVec.ofNat 256 (ofBytesLE (((l.drop (8 * i)).take 8).flatMap (fun w => bytesLE 4 w.toNat)))
  { k1 := at_ 0, k2 := at_ 1, kt := at_ 2 }

/-- What a command that has passed the common checks does; once no WSN is left DISCARD and the rewind commands end with STATE (R252,
log 68). -/
def State.runCmd (s : State) (c : CmdCtx) (a : List Word) : State :=
  let w1 := a.getD 0 0
  let w2 := a.getD 1 0
  if s.mte.wsnEnd && decide (c.op.toNat ∈ [0x20, 0x21, 0x22, 0x23]) then s.say c stState [] else
  match c.op.toNat with
  | 0x01 => s.say c stOk []
  | 0x03 => s.say c stOk [s.handleState w1]
  | 0x10 => s.cmdAlloc c w1 w2
  | 0x11 => s.relay c (segReq 2 w1)
  | 0x12 => s.cmdBind c w1 w2
  | 0x13 => s.cmdUnbind c w1 w2
  | 0x14 => s.cmdMigrate c w1 w2
  | 0x15 => s.relay c { segReq 12 0 with devA := w1.setWidth 12 }
  | 0x16 => s.longUnless c (s.mirrorRefusal w1 w2) (fun s h => s.mirrorStart w1 w2 h)
  | 0x17 => s.relay c (segReq 10 w1)
  | 0x18 => s.cmdAbort c w1
  | 0x20 =>
    let fga : Fga := BitVec.ofNat 56 (w1.toNat + fld w2 0 24 * 2 ^ 32)
    let lines := a.getD 2 0
    s.longUnless c (s.discardRefusal fga lines) (fun s h => s.discardStart h fga lines)
  | 0x21 =>
    let r := fld w1 0 8
    s.longUnless c (s.markRefusal r true) (fun s h => s.startMark r (s.rwr r).epoch h none)
  | 0x22 =>
    let r := fld w1 0 8
    let e := BitVec.ofNat 16 (fld w1 8 16)
    s.longUnless c (s.toRefusal r e true) (fun s h => s.startTo r e h none)
  | 0x23 =>
    let r := fld w1 0 8
    let e := BitVec.ofNat 16 (fld w1 8 16)
    s.longUnless c (s.dropRefusal r e true) (fun s h => s.startDrop r e h none)
  | 0x30 =>
    let bases := a.map (fun w => w.setWidth 27)
    s.longUnless c (s.krSetRefusal bases) (fun s h => s.krSet bases h)
  | 0x31 =>
    let r := fld w1 0 6
    s.longUnless c (s.keyRefusal r none) (fun s h => let k := s.drawKeys
      k.2.keyOp r (some k.1) h)
  | 0x32 =>
    let r := fld w1 0 6
    if !c.secured then s.say c stDenied [] else
    let k := wordsKeys (a.drop 1)
    s.longUnless c (s.keyRefusal r (some k)) (fun s h => s.keyOp r (some k) h)
  | 0x33 =>
    s.longUnless c (if s.fxb.role != 1 then some stState else none) (fun s h => s.keyOp (fld w1 0 6) none h)
  | 0x40 => let r := s.fwLoad w1 (a.drop 1)
    r.2.say c r.1 []
  | 0x41 =>
    (match s.fwRefusal w1 with
    | some st => (if s.fwMayStart then s.fwRefused else s).say c st []
    | none => s.long c (fun s h => s.fwStart w1 h))
  | 0x42 => let r := s.fwAbort
    r.2.say c r.1 []
  | 0x50 => s.cmdProfile c w1
  | 0x51 => s.longUnless c (s.powerRefusal w1) (fun s h => s.powerGo w1 h)
  | 0x52 => s.askReset 3
  | 0x53 => s.longUnless c s.sanitizeRefusal (fun s _ => s)
  | 0x60 => s.withPassword c 2 a State.saveParams
  | 0x61 => s.withPassword c 2 a (fun s => { s with pan := { s.pan with params := [] } })
  | 0x62 => s.withPassword c 5 a State.clearLogs
  | _ => s.say c stUnsupported []

/-- A command refused for want of a right: DENIED; through a mailbox Unsupported (R422, R450). -/
def State.refuseRight (s : State) (c : CmdCtx) : State :=
  match c.q with
  | .mailbox h => s.deny.emit (.mailbox h 0x3 [])
  | _ => s.deny.say c stDenied []

/-- A command packet is run: the checks of R495 in their order. -/
def State.command (s : State) (q : Requester) (secured : Bool) (words : List Word) : State :=
  let w0 := words.headD 0
  let c : CmdCtx := { q := q, op := w0.setWidth 8, tag := BitVec.ofNat 8 (fld w0 24 8), secured := secured }
  match cmdRow c.op.toNat with
  | none => s.say c stUnsupported []
  | some r =>
    if !r.lenOk words then s.say c stRange []
    else if r.right.any (fun n => !s.hasRight q n) then s.refuseRight c
    else if s.safe && !decide (c.op.toNat ∈ [0x01, 0x03, 0x52]) then s.say c stState []
    else s.runCmd c (words.drop 1)

/-- The packet of a command with its arguments (R492). -/
def packet (op : Nat) (tag : Byte) (args : List Word) : List Word :=
  BitVec.ofNat 32 (op % 256 + (args.length + 1) % 256 * 2 ^ 8 + tag.toNat * 2 ^ 24) :: args

/-- A command of a requester: without effect where the module is off. -/
def State.cmd (s : State) (q : Requester) (op : Nat) (tag : Byte) (args : List Word) : State :=
  if s.pages.started then (s.command q false (packet op tag args)).drain else s

/-- An SPDM session is open on the MCTP path (R459, R497). -/
def State.inSession (s : State) : Bool := s.crs.sessions.any (fun (e : Word × SpdmPath) => e.2 == .i3c)

/-- The words of a 128-bit password, bits [31:0] first (R535). -/
def passwordWords (p : BitVec 128) : List Word := (List.range 4).map (fun n => BitVec.ofNat 32 (fld p (32 * n) 32))

/-- The words of a key set (R497). -/
def keyWordsOf (k : KeySet) : List Word :=
  [k.k1, k.k2, k.kt].flatMap (fun (x : BitVec 256) => (List.range 8).map (fun n => BitVec.ofNat 32 (fld x (32 * n) 32)))

/-! ### Commands -/

/-- NOP (R496). -/
def execNop (q : Requester) (tag : Byte) (s : State) : Host.Outcome State Fault Refusal := .next (s.withPins (fun s => s.cmd q 0x01 tag []))

/-- HANDLE_QUERY (R496, R501). -/
def execHandleQuery (q : Requester) (tag : Byte) (handle : Word) (s : State) : Host.Outcome State Fault Refusal :=
  .next (s.withPins (fun s => s.cmd q 0x03 tag [handle]))

/-- SEG_ALLOC (R373). -/
def execSegAlloc (q : Requester) (tag : Byte) (w1 w2 : Word) (s : State) : Host.Outcome State Fault Refusal :=
  .next (s.withPins (fun s => s.cmd q 0x10 tag [w1, w2]))

/-- SEG_FREE (R375). -/
def execSegFree (q : Requester) (tag : Byte) (gsn : Word) (s : State) : Host.Outcome State Fault Refusal :=
  .next (s.withPins (fun s => s.cmd q 0x11 tag [gsn]))

/-- SEG_BIND (R374, R413). -/
def execSegBind (q : Requester) (tag : Byte) (gsn w2 : Word) (s : State) : Host.Outcome State Fault Refusal :=
  .next (s.withPins (fun s => s.cmd q 0x12 tag [gsn, w2]))

/-- SEG_UNBIND (R374, R414). -/
def execSegUnbind (q : Requester) (tag : Byte) (gsn w2 : Word) (s : State) : Host.Outcome State Fault Refusal :=
  .next (s.withPins (fun s => s.cmd q 0x13 tag [gsn, w2]))

/-- SEG_MIGRATE (R376). -/
def execSegMigrate (q : Requester) (tag : Byte) (gsn w2 : Word) (s : State) : Host.Outcome State Fault Refusal :=
  .next (s.withPins (fun s => s.cmd q 0x14 tag [gsn, w2]))

/-- SEG_EVACUATE (R376). -/
def execSegEvacuate (q : Requester) (tag : Byte) (w1 : Word) (s : State) : Host.Outcome State Fault Refusal :=
  .next (s.withPins (fun s => s.cmd q 0x15 tag [w1]))

/-- MIRROR_SET (R386). -/
def execMirrorSet (q : Requester) (tag : Byte) (w1 w2 : Word) (s : State) : Host.Outcome State Fault Refusal :=
  .next (s.withPins (fun s => s.cmd q 0x16 tag [w1, w2]))

/-- SEG_RECOVER (R397). -/
def execSegRecover (q : Requester) (tag : Byte) (gsn : Word) (s : State) : Host.Outcome State Fault Refusal :=
  .next (s.withPins (fun s => s.cmd q 0x17 tag [gsn]))

/-- SEG_ABORT (R385). -/
def execSegAbort (q : Requester) (tag : Byte) (gsn : Word) (s : State) : Host.Outcome State Fault Refusal :=
  .next (s.withPins (fun s => s.cmd q 0x18 tag [gsn]))

/-- DISCARD (R99). -/
def execDiscard (q : Requester) (tag : Byte) (fga : Fga) (lines : Word) (s : State) : Host.Outcome State Fault Refusal :=
  .next (s.withPins (fun s => s.cmd q 0x20 tag [BitVec.ofNat 32 (fld fga 0 32), BitVec.ofNat 32 (fld fga 32 24), lines]))

/-- REWIND_MARK (R300). -/
def execRewindMark (q : Requester) (tag : Byte) (region : BitVec 32) (s : State) : Host.Outcome State Fault Refusal :=
  .next (s.withPins (fun s => s.cmd q 0x21 tag [region]))

/-- REWIND_TO (R302). -/
def execRewindTo (q : Requester) (tag : Byte) (region : BitVec 8) (epoch : BitVec 16) (s : State) : Host.Outcome State Fault Refusal :=
  .next (s.withPins (fun s => s.cmd q 0x22 tag [BitVec.ofNat 32 (region.toNat + epoch.toNat * 2 ^ 8)]))

/-- REWIND_DROP (R304). -/
def execRewindDrop (q : Requester) (tag : Byte) (region : BitVec 8) (epoch : BitVec 16) (s : State) : Host.Outcome State Fault Refusal :=
  .next (s.withPins (fun s => s.cmd q 0x23 tag [BitVec.ofNat 32 (region.toNat + epoch.toNat * 2 ^ 8)]))

/-- KR_SET (R442). -/
def execKrSet (q : Requester) (tag : Byte) (bases : List Word) (s : State) : Host.Outcome State Fault Refusal :=
  .next (s.withPins (fun s => s.cmd q 0x30 tag bases))

/-- KEY_GEN (R444). -/
def execKeyGen (q : Requester) (tag : Byte) (range : Word) (s : State) : Host.Outcome State Fault Refusal :=
  .next (s.withPins (fun s => s.cmd q 0x31 tag [range]))

/-- KEY_IMPORT (R444, R497). -/
def execKeyImport (q : Requester) (tag : Byte) (secured : Bool) (range : Word) (keys : KeySet) (s : State) :
    Host.Outcome State Fault Refusal :=
  .next (s.withPins (fun s => if s.pages.started then (s.command q (secured && s.inSession) (packet 0x32 tag (range :: keyWordsOf keys))).drain else s))

/-- KEY_ERASE (R444). -/
def execKeyErase (q : Requester) (tag : Byte) (range : Word) (s : State) : Host.Outcome State Fault Refusal :=
  .next (s.withPins (fun s => s.cmd q 0x33 tag [range]))

/-- FW_LOAD (R398). -/
def execFwLoad (q : Requester) (tag : Byte) (off : Word) (words : List Word) (s : State) : Host.Outcome State Fault Refusal :=
  .next (s.withPins (fun s => s.cmd q 0x40 tag (off :: words)))

/-- FW_START (R398, R464). -/
def execFwStart (q : Requester) (tag : Byte) (len : Word) (s : State) : Host.Outcome State Fault Refusal :=
  .next (s.withPins (fun s => s.cmd q 0x41 tag [len]))

/-- FW_ABORT (R496). -/
def execFwAbort (q : Requester) (tag : Byte) (s : State) : Host.Outcome State Fault Refusal :=
  .next (s.withPins (fun s => s.cmd q 0x42 tag []))

/-- POWER_PROFILE (R560). -/
def execPowerProfile (q : Requester) (tag : Byte) (w1 : Word) (s : State) : Host.Outcome State Fault Refusal :=
  .next (s.withPins (fun s => s.cmd q 0x50 tag [w1]))

/-- POWER_STATE (R558). -/
def execPowerState (q : Requester) (tag : Byte) (w1 : Word) (s : State) : Host.Outcome State Fault Refusal :=
  .next (s.withPins (fun s => s.cmd q 0x51 tag [w1]))

/-- MODULE_RESET (R498). -/
def execModuleReset (q : Requester) (tag : Byte) (s : State) : Host.Outcome State Fault Refusal :=
  .next (s.withPins (fun s => s.cmd q 0x52 tag []))

/-- SANITIZE (R499). -/
def execSanitize (q : Requester) (tag : Byte) (s : State) : Host.Outcome State Fault Refusal :=
  .next (s.withPins (fun s => s.cmd q 0x53 tag []))

/-- SANITIZE_DONE: the erases have ended, and the operation completes (R499). -/
def execSanitizeDone (s : State) : Host.Outcome State Fault Refusal :=
  .next (if s.mgt.handles.any (fun (x : HandleRec) => x.op == 0x53 && x.st != 3) then s.sanitizeAll.ageVoids.finishOp 0x53 stOk [] else s)

/-- PARAM_SAVE (R500, R536). -/
def execParamSave (q : Requester) (tag : Byte) (pwd : BitVec 128) (s : State) : Host.Outcome State Fault Refusal :=
  .next (s.withPins (fun s => s.cmd q 0x60 tag (passwordWords pwd)))

/-- PARAM_DEFAULT (R500). -/
def execParamDefault (q : Requester) (tag : Byte) (pwd : BitVec 128) (s : State) : Host.Outcome State Fault Refusal :=
  .next (s.withPins (fun s => s.cmd q 0x61 tag (passwordWords pwd)))

/-- EVLOG_CLEAR (R500, R528). -/
def execEvlogClear (q : Requester) (tag : Byte) (pwd : BitVec 128) (s : State) : Host.Outcome State Fault Refusal :=
  .next (s.withPins (fun s => s.cmd q 0x62 tag (passwordWords pwd)))

end Sys2Proof.Machine
end

