-- ==== Sys2Proof/Machine/Fifo.lean ====
section
/-! DEFINITION. The command and completion FIFOs: pushes, pops and their timeouts (R488 to R491). -/

namespace Sys2Proof.Machine

open Sys2Proof

/-- The open command packet is discarded for want of space: OVERFLOW (R489). -/
def State.cmdOverflow (s : State) : State :=
  let s := { s with mgt := { s.mgt with cmdOpen := [], cmdOwner := none, cmdHeld := none } }
  (s.setReg 0x000 0x118 (s.reg 0x000 0x118 ||| 2)).raise 0x000 .mgtCmdOverflow

/-- A word of another requester's packet is rejected: COLLIDE (R489). -/
def State.cmdCollide (s : State) : State :=
  ((s.setReg 0x000 0x118 (s.reg 0x000 0x118 ||| 1)).raise 0x000 .mgtCmdCollide).reject 0x000

/-- Push a word; the end-marked word completes the packet, which is run. A word that finds the FIFO full is held in-band and
discarded at once over I3C (R489). -/
def State.pushWord (s : State) (q : Requester) (w : Word) (last : Bool) : State :=
  if s.mgt.cmdOwner.any (fun o => o != q) then s.cmdCollide
  else if s.mgt.cmdHeld.isSome then s
  else if 128 ≤ s.mgt.cmdOpen.length then
    if q == .i3c then s.cmdOverflow else { s with mgt := { s.mgt with cmdHeld := some (q, w) } }
  else if last then
    let words := s.mgt.cmdOpen ++ [w]
    State.command { s with mgt := { s.mgt with cmdOpen := [], cmdOwner := none } } q false words
  else { s with mgt := { s.mgt with cmdOpen := s.mgt.cmdOpen ++ [w], cmdOwner := some q } }

/-- Push a whole packet, end-marking its last word (R474). -/
def State.pushPacket (s : State) (q : Requester) : List Word → State
  | [] => s
  | [w] => s.pushWord q w true
  | w :: t => (s.pushWord q w false).pushPacket q t

/-- The command assembly timeout on an open packet: ABORTED with handle 0 (R489). -/
def State.cmdAbandon (s : State) : State :=
  match s.mgt.cmdOpen, s.mgt.cmdOwner with
  | w :: _, some q =>
    let s := { s with mgt := { s.mgt with cmdOpen := [], cmdOwner := none, cmdHeld := none } }
    (s.raise 0x000 .mgtCmdAbandon).answerCmd q (BitVec.ofNat 8 w.toNat) (BitVec.ofNat 8 (fld w 24 8)) stAborted 0 []
  | _, _ => s

/-- The command assembly timeout on a partly popped packet: its rest is discarded (R491). -/
def State.cplAbandon (s : State) : State :=
  match s.mgt.cplOwner with
  | some _ => State.admitCpl 64 (({ s with mgt := { s.mgt with cpl := s.mgt.cpl.drop 1, cplOwner := none } }).raise 0x000 .mgtCplAbandon)
  | none => s

/-- Pop a word, letting waiting packets in (R491). -/
def State.takeWord (s : State) (q : Requester) : Option (Word × Bool) × State :=
  let (r, s) := s.popWord q
  (r, State.admitCpl 64 s)

/-- A read of MGT_CPL_HEAD: an empty FIFO holds it, a packet reserved to another requester gives the empty word at once (R490, R491). -/
def State.readHead (s : State) (q : Requester) : Option Word × State :=
  if s.mgt.cplOwner.isNone && s.mgt.cpl.isEmpty then
    (none, { s with mgt := { s.mgt with cplRead := s.mgt.cplRead ++ [q] } })
  else
    let (r, s) := s.popWord q
    let v := s.cplHead r
    (some (BitVec.ofNat 32 v), State.admitCpl 64 (s.holdHead q v))

/-- The completion hold time of a head ends: a held read returns the empty word, a held push is discarded with its packet (R489, R490). -/
def State.holdExpiry (s : State) (h : Fin 64) : State :=
  let q : Requester := .head h
  let s := if s.mgt.cmdHeld.any (fun (e : Requester × Word) => e.1 == q) then s.cmdOverflow else s
  if q ∈ s.mgt.cplRead then
    let s := { s with mgt := { s.mgt with cplRead := removeFirst (fun (x : Requester) => x == q) s.mgt.cplRead } }
    (s.holdHead q (2 ^ 63)).emit (.regRead q 0x000120 0)
  else s

/-! ### Commands -/

/-- COMPLETION_HOLD_EXPIRY (R489, R490). -/
def execCompletionHoldExpiry (h : Fin 64) (s : State) : Host.Outcome State Fault Refusal := .next (s.withPins (fun s => s.holdExpiry h))

/-- CMD_ABANDON (R489). -/
def execCmdAbandon (s : State) : Host.Outcome State Fault Refusal := .next (s.withPins State.cmdAbandon)

/-- CPL_ABANDON (R491). -/
def execCplAbandon (s : State) : Host.Outcome State Fault Refusal := .next (s.withPins State.cplAbandon)

end Sys2Proof.Machine
end

