-- ==== Sys2Proof/Machine/Bus.lean ====
section
/-! DEFINITION. The register bus: which accesses are served, reads with their holding copies and read-clears, the checks of a write and
its effects (R6 to R10, R426, R450, R451, R480, R484 to R487, R537, R579, R583, R584; log 44). -/

namespace Sys2Proof.Machine

open Sys2Proof

/-! ### Which accesses are served (R426, R480, R537, R583, R584) -/

/-- The registers served over I3C while nothing else is (R584). -/
def aonRegs : List Nat :=
  [0x000000, 0x000100, 0x000108, 0x000130, 0x000134, 0x001100, 0x00110c, 0x002100, 0x002114, 0x004104, 0x003118]

/-- Those served in Thermal-off besides. -/
def thermalRegs : List Nat := [0x00310c, 0x003110, 0x003114]

/-- A register is served while the module is Off, in the AON phase or in module reset. -/
def State.aonServes (s : State) (q : Requester) (addr : Nat) : Bool :=
  q == .i3c && (decide (addr ∈ aonRegs) || (s.pwr.st == 9 && decide (addr ∈ thermalRegs)))

/-- The head of a requester. -/
def requesterHead (q : Requester) : Option (Fin 64) :=
  match q with
  | .head h => some h
  | .mailbox h => some h
  | _ => none

/-- The FIFO registers, which I3C reaches through CMD_PUSH and CPL_POP alone (R475). -/
def fifoAddrs : List Nat := [0x000110, 0x000114, 0x000120, 0x000124]

/-- A refused access of a head: HEAD_ERR.DENIED, and DENIED for the first since HEAD_ERR was read (R426, R429). -/
def State.headDenied (s : State) (h : Nat) : State :=
  let first := s.regFld (headPage h) 0x11c 16 16 == 0
  let s := s.countUp (headPage h) 0x11c 16 16
  if first then s.raise (headPage h) .headDenied else s

/-- The window of the requester's head is closed to it: HEAD_RIGHTS.MGMT is missing (R426). -/
def State.windowShut (s : State) (q : Requester) : Option (Fin 64) :=
  match requesterHead q with
  | some h => if s.headRight h.val 0 then none else some h
  | none => none

/-- A register write is refused for want of a right: nothing takes effect, Crust raises DENIED, a head's refusal counts (R450). -/
def State.writeDenied (s : State) (q : Requester) : State :=
  let s := s.deny
  match requesterHead q with
  | some h => s.headDenied h.val
  | none => s

/-- An access to a page that holds no block: UNMAPPED counts, the first since MGT_REGERR was read is an event (R480, R504). -/
def State.unmapped (s : State) : State :=
  let first := s.regFld 0x000 0x140 16 16 == 0
  let s := s.countUp 0x000 0x140 16 16
  if first then s.raise 0x000 .mgtUnmapped else s

/-- The block registers of a page are closed: its unit is in reset, the pantry is in recall, or they are debug registers
(R537, R583, R584). -/
def State.blockClosed (s : State) (page : Nat) (k : PageKind) (off : Nat) : Bool :=
  decide (0x100 ≤ off) &&
    (decide (page ∈ s.pages.resetting) || (s.pan.recalling && (k == .evr || (k == .pan && off != 0x100))) || k == .dbg)

/-! ### Reads -/

/-- The bits of a word that a read sets to 0 (R103, R140, R208, R244, R362, R402, R428, R467, R484, R503, R538). -/
def readClears (k : PageKind) (off : Nat) : Nat :=
  if off < 0x100 then (if off = 0x2c then 0xffffffff else 0) else
  match k, off with
  | .mgt, 0x140 => 0xffffffff
  | .flt, 0x118 => 0xffffffff
  | .crs0, 0x118 => 0xffffffff
  | .slc, 0x14c => 0xffff0
  | .slc, 0x164 => 0xffffffff
  | .dtcCh, 0x108 => 0xffffff00
  | .mchCh, 0x104 => 0xffffffff
  | .mchCh, 0x108 => 0xffffffff
  | .mte, 0x80c => 0xffffffff
  | .prt, 0x108 => 0xffffffff
  | .fxb, 0x128 => 0xffff0000
  | .fxb, 0x12c => 0xffffffff
  | .sve, 0x12c => 0xffffffff
  | .head, 0x11c => 0xffffffff
  | _, _ => 0

/-- What a read changes besides: the counts it resets, and the UNBOUND events of every head that it re-arms (R81). -/
def State.readEffect (s : State) (page : Nat) (k : PageKind) (off : Nat) : State :=
  let m := readClears k off
  let s := if m = 0 then s else s.setReg page off (s.reg page off &&& ~~~(BitVec.ofNat 32 m))
  if k == .pan && off == 0x120 then { s with pan := { s.pan with paErr := 0, pbErr := 0 } }
  else if k == .mte && off == 0x80c then s.each s.heads.keys (fun s h => s.setHead h { s.head h with unbound := [] })
  else s

/-- The value a read returns, by the holding copies of R7: a read of the lower word of a 64-bit register fills the requester's copy, a
read of the upper word takes it. -/
def State.readWord (s : State) (q : Requester) (page : Nat) (k : PageKind) (r : RegWord) : Word × State :=
  let addr := regAddr page r.off
  let mine (a : Nat) (e : Requester × Nat × Word) : Bool := e.1 == q && e.2.1 == a
  if r.pair = 1 then
    let hi : Word := match regWord page (r.off + 4) with
      | some u => s.wordNow q page k u
      | none => 0
    (s.wordNow q page k r, { s with hold := s.hold.filter (fun e => !mine (addr + 4) e) ++ [(q, addr + 4, hi)] })
  else if r.pair = 2 then
    match s.hold.find? (mine addr) with
    | some e => (e.2.2, { s with hold := s.hold.filter (fun e => !mine addr e) })
    | none => (s.wordNow q page k r, s)
  else (s.wordNow q page k r, s)

/-- A word as it reads in the AON set: FLT_STAT shows LAST_SAFE, PWR_STATE shows STATE and STEP (R584). -/
def aonMask (addr : Nat) : Word := if addr = 0x004104 then 0x02000000 else if addr = 0x002100 then 0xff000000 else 0xffffffff

/-- A register read: the word, none while the read is held for a completion word, and the state after it. -/
def State.busRead (s : State) (q : Requester) (addr width : Nat) : Option Word × State :=
  let page := addr / 4096
  let off := addr % 4096
  let aligned := width == 4 && addr % 4 == 0
  if !s.pages.started then
    match pageKind page, regWord page off with
    | some k, some r =>
      if aligned && s.aonServes q addr then
        let (w, s) := s.readWord q page k r
        (some (w &&& aonMask addr), s)
      else (some 0, s)
    | _, _ => (some 0, s)
  else
    match s.windowShut q with
    | some h => (some 0, s.headDenied h.val)
    | none =>
      match pageKind page with
      | none => (some 0, s.unmapped)
      | some k =>
        if !aligned || s.blockClosed page k off then (some 0, s)
        else if q == .i3c && decide (addr ∈ fifoAddrs) then (some 0, s.reject page)
        else if addr = 0x000120 then s.readHead q
        else
          match regWord page off with
          | none => (some 0, s)
          | some r =>
            let (w, s) := s.readWord q page k r
            (some w, s.readEffect page k off)

/-! ### The checks of a write that look at the state -/

/-- Bits of EVT_STAT0 that are FT sources of a page kind. -/
def PageKind.ftBits (k : PageKind) : Nat := bitSet 32 (fun i => (k.sources[i]?).any (fun r => r.cls == 3))

/-- Bits of EVT_STAT0 that have a source. -/
def PageKind.sourceBits (k : PageKind) : Nat := 2 ^ k.sources.length - 1

/-- No bit of a word lies outside, or inside, a set of bits. -/
def within (w : Word) (m : Nat) : Bool := (w &&& ~~~(BitVec.ofNat 32 m)) == 0
def apart (w : Word) (m : Nat) : Bool := (w &&& BitVec.ofNat 32 m) == 0

/-- The header (R484, R485, R487, R572). -/
def headerRule (page : Nat) (k : PageKind) (off : Nat) (w : Word) : Bool :=
  match off with
  | 0x08 => (bitAt w 0 || (page != 0x000 && page != 0x004)) && (!bitAt w 1 || unitPage page || page == 0x000)
  | 0x18 => apart w k.ftBits
  | 0x20 => within w k.sourceBits
  | 0x24 => w == 0
  | _ => true

/-- The lock ranges that the shadows of a slice page give: enabled, first page, pages (R125). -/
def State.shadowRange (s : State) (page g : Nat) : Bool × Nat × Nat :=
  let lo := s.shadowReg page (0x128 + 8 * g)
  let hi := s.shadowReg page (0x12c + 8 * g)
  (bitAt hi 31, lo.toNat + fld hi 0 12 * 2 ^ 32, fld hi 12 13 + 1)

/-- No two enabled lock ranges of the shadows overlap (R125). -/
def State.rangesApart (s : State) (page : Nat) : Bool :=
  (List.range 4).all (fun i => (List.range 4).all (fun j =>
    let a := s.shadowRange page i
    let b := s.shadowRange page j
    i == j || !a.1 || !b.1 || decide (a.2.1 + a.2.2 ≤ b.2.1) || decide (b.2.1 + b.2.2 ≤ a.2.1)))

/-- Write the shadow of a register (R8). -/
def State.setShadow (s : State) (page off : Nat) (w : Word) : State := { s with shadow := s.shadow.put (regAddr page off) w }

/-- Slice registers (R118, R121, R125, R128). -/
def State.slcRule (s : State) (page off : Nat) (w : Word) : Bool :=
  let n := page - 0x010
  match off with
  | 0x104 => !bitAt w 0 || s.regFld page 0x108 1 1 == 1
  | 0x10c => !bitAt w 31 || (s.slice n).inv.isEmpty
  | 0x148 => (List.range 4).all (fun g => !bitAt w g || !decide (g ∈ (s.slice n).preloading))
  | _ => if 0x128 ≤ off && off < 0x148 then (s.setShadow page off w).rangesApart page else true

/-- Sum of the rewind budgets of the regions with rewind enabled, as the shadows give them, a region's attributes replaced (R294). -/
def State.budgetSum (s : State) (r : Nat) (g : Region) : Nat :=
  ((s.mte.regions.keys ++ s.mte.shAttr0.keys ++ s.mte.shAttr1.keys ++ [r]).foldl insertNew []).foldl (fun a i =>
    let x := if i = r then g else s.shadowRegion i
    if x.rewind then a + x.budget else a) 0

/-- The region and segment windows (R87, R93, R95, R103, R104, R288, R294). -/
def State.windowRule (s : State) (off : Nat) (w : Word) : Bool :=
  let r := s.regFld 0x030 0x810 0 8
  let old := s.shadowRegion r
  let lsi := s.regFld 0x030 0x830 0 14
  let g := s.seg lsi
  match off with
  | 0x814 =>
    let new := { old with attr0 := w }
    let inhabited := !(s.regionSegs r).isEmpty || s.mte.shSegRgn.any (fun (e : Nat × Byte) => e.2.toNat == r)
    s.mte.restored && (new.keyRange == old.keyRange || !inhabited) && (new.rewind || (s.rwr r).marks.isEmpty) &&
      (new.persist != 0 || (!new.rewind && ((s.rwr r).marks.isEmpty || old.persist == 0))) && decide (s.budgetSum r new ≤ 12288)
  | 0x818 =>
    let new := { old with attr1 := w }
    s.mte.restored && (new.budget != 0 || !old.rewind) && decide (s.budgetSum r new ≤ 12288) &&
      (!s.hdrmCrit || decide (new.budget ≤ old.budget))
  | 0x83c =>
    s.mte.restored && (w.toNat == s.shadowSegRgn lsi ||
      (g.st == 1 && (s.shadowRegion w.toNat).keyRange == s.keyRangeOf g.gsn.toNat &&
        (s.rwr (s.shadowSegRgn lsi)).marks.isEmpty && (s.rwr w.toNat).marks.isEmpty))
  | _ => true

/-- DTC_CH_CTL (R208). -/
def State.dchRule (s : State) (c : Nat) (w : Word) : Bool :=
  (!bitAt w 31 || s.dchState c == 3) && (!bitAt w 30 || (s.dchState c == 4 && (s.dchCause c == 1 || s.dchCause c == 6)))

/-- Dies that MCH_CH_CTL fences. -/
def mchCtlDies (ch : Nat) (w : Word) : List Nat :=
  ((List.range 4).filter (fun d => bitAt w 31 || bitAt w d)).map (fun d => 4 * ch + d)

/-- MCH_CH_CTL (R244). -/
def State.mchRule (s : State) (ch : Nat) (w : Word) : Bool :=
  w == 0 || (s.chanState ch == 1 && s.mayFenceDies (mchCtlDies ch w))

/-- FLT_INJ (R521, R538). -/
def State.injRule (s : State) (w : Word) : Bool :=
  let kind := fld w 28 3
  let dom := fld w 24 4
  s.crs.testMode && kind != 0 && decide (kind < 6) && (!bitAt w 31 || (kind != 3 || decide (fld w 0 20 < domainSize dom)))

/-- The rules of the block registers that look at the state. -/
def State.blockRule (s : State) (q : Requester) (page : Nat) (k : PageKind) (off : Nat) (w : Word) : Bool :=
  match k, off with
  | .thm, 0x100 => thmTied w.toNat (s.reg 0x003 0x104).toNat (s.reg 0x003 0x108).toNat
  | .thm, 0x104 => thmTied (s.reg 0x003 0x100).toNat w.toNat (s.reg 0x003 0x108).toNat
  | .thm, 0x108 => thmTied (s.reg 0x003 0x100).toNat (s.reg 0x003 0x104).toNat w.toNat
  | .pwr, 0x128 => s.unlocked q 6 true
  | .pwr, 0x130 => !bitAt w 3 || s.unlocked q 6 true
  | .flt, 0x128 => s.injRule w
  | .evr, 0x100 => !bitAt w 8 || s.flt.spillAvail
  | .evr, 0x108 => decide (w.toNat < s.evrSize)
  | .crs2, _ => q == .i3c
  | .crs3, 0x108 => !bitAt w 31 || (s.hasRight q 5 && s.hasRight q 9)
  | .head, 0x10c => q == .i3c
  | .slc, _ => s.slcRule page off w
  | .dtcCh, 0x110 => s.dchRule (page - 0x018) w
  | .mchCh, 0x10c => s.mchRule (page - 0x040) w
  | .mte, _ => s.windowRule off w
  | _, _ => true

/-- An RWQ field is written only while RUN = 0 and QUIESCED = 1 (R8, R485). -/
def State.quiet (s : State) (page : Nat) : Bool := decide (page ∈ s.pages.stopped) && decide (page ∈ s.pages.quiesced)

/-- The writes that LOCK leaves open: W1C of the events and of CFG_REJECT, and PERF_CTL.CLEAR, except on page 0x00A (R451, R486). -/
def lockOpen (page off : Nat) (w : Word) : Bool :=
  page != 0x00a && (decide (off ∈ [0x0c, 0x10, 0x14, 0x28]) || (off == 0x38 && bitAt w 25))

/-- A write to a register word is accepted (R9). -/
def State.writeOk (s : State) (q : Requester) (page : Nat) (k : PageKind) (r : RegWord) (w : Word) : Bool :=
  r.rsvOk w && (!decide (page ∈ s.pages.locked) || lockOpen page r.off w) && (r.rwq == 0 || s.quiet page) && fieldsOk k r.off w &&
    (if r.off < 0x100 then headerRule page k r.off w else s.blockRule q page k r.off w)

/-! ### Running and quiescing (R48, R485) -/

/-- No work is in flight in the block of a page; a block that holds no requests of its own is quiet at once (log 44). -/
def State.pageIdle (s : State) (page : Nat) : Bool :=
  match pageKind page with
  | some .slc =>
    let x := s.slice (page - 0x010)
    x.lanes.isEmpty && x.merge.isEmpty && x.misses.isEmpty && x.behind.isEmpty && x.stalled.isEmpty && x.preloading.isEmpty
  | some .head => (s.head (page - 0x1c0)).outs.isEmpty && (s.head (page - 0x1c0)).barriers.isEmpty
  | some .prt => (List.range 8).all (fun j => (s.port (8 * (page - 0x100) + j)).unacked.isEmpty)
  | some .mchCh => (List.range 4).all (fun d => (s.die (4 * (page - 0x040) + d)).busy == 0)
  | some .mch => (List.range 256).all (fun d => (s.die d).busy == 0)
  | some .dtc => s.dtc.fills.isEmpty
  | some .mte => !s.mte.stripes.any Stripe.issued && s.mte.commit == 0
  | some .fxb => s.fxb.remotes.isEmpty
  | some .sve => s.sve.ops.isEmpty && s.sve.custody.isEmpty
  | _ => true

/-- A quiescing block with no work in flight shows QUIESCED (R485). -/
def State.quiesce (s : State) (page : Nat) : State :=
  if page ∈ s.pages.stopped && s.pageIdle page then { s with pages := { s.pages with quiesced := insertNew s.pages.quiesced page } } else s

/-- Work that waited for a block is taken when it runs again (R48, R485). -/
def State.resumeBlock (s : State) (page : Nat) : State :=
  match pageKind page with
  | some .slc => s.admitAll (page - 0x010)
  | some .prt => s.startBlock (page - 0x100)
  | some .dtc => s.retryWaiting
  | some .mte => s.pump
  | some .mchCh => s.each (List.range 16) State.startErases
  | some .mch => s.each (List.range 16) State.startErases
  | some .fxb => if s.sleeps then s else s.retryTransit.retryWaitq.freeSleepq
  | _ => s

/-- CTRL.RUN is written: the block quiesces, or runs again and takes what waited (R48, R484, R485). -/
def State.setRun (s : State) (page : Nat) (run : Bool) : State :=
  if run = s.runs page then s
  else if run then
    State.resumeBlock { s with pages := { s.pages with stopped := removeAll s.pages.stopped page, quiesced := removeAll s.pages.quiesced page } } page
  else State.quiesce { s with pages := { s.pages with stopped := insertNew s.pages.stopped page } } page

/-- CTRL.COMMIT: the commit starts at the MTE, waits for the safe point of a block with shadows, and is done at once where the page has
none (R8, R97). -/
def State.askCommit (s : State) (page : Nat) (k : PageKind) : State :=
  if k == .mte then (if s.mte.commit = 0 then s.startCommitRegions else s)
  else if k.shadow then { s with pages := { s.pages with committing := insertNew s.pages.committing page } }
  else s

/-- CTRL.RESET: a module reset on page 0x000, else a unit reset (R484, R498, R572). -/
def State.ctrlReset (s : State) (page : Nat) : State := if page = 0x000 then s.askReset 2 else s.unitReset page

/-- A write of CTRL (R484). -/
def State.writeCtrl (s : State) (page : Nat) (k : PageKind) (w : Word) : State :=
  let s := s.when_ (bitAt w 3) (fun s => s.askCommit page k)
  let s := s.when_ (bitAt w 2) (fun s => { s with pages := { s.pages with locked := insertNew s.pages.locked page } })
  let s := s.setRun page (bitAt w 0)
  s.when_ (bitAt w 1) (fun s => s.ctrlReset page)

/-! ### Events and counters (R487, R510, R520) -/

/-- W1C of EVT_STAT: the bits clear, and a source whose condition is still present latches again (R8, R510). -/
def State.clearEvents (s : State) (page : Nat) (w : Word) : State :=
  let bits := (List.range 32).filter (fun i => bitAt w i && bitAt (s.reg page 0x10) i)
  let s := s.setReg page 0x10 (s.reg page 0x10 &&& ~~~w)
  let s := { s with flt := { s.flt with drive := s.flt.drive.filter (fun id => !bits.any (fun i => id == srcId page i)) } }
  s.each (bits.filter (fun i => s.isLive (srcId page i))) (fun s i => s.latch page i false {})

/-- EVT_FORCE: each 1 raises its source as forced (R487, R520). -/
def State.forceEvents (s : State) (page : Nat) (w : Word) : State :=
  s.each ((List.range 32).filter (fun i => bitAt w i)) (fun s i => s.latch page i true {})

/-- PERF_CTL.CLEAR (R484). -/
def State.clearPerf (s : State) (page : Nat) : State :=
  let s := { s with perf := s.perf.filter (fun (e : Nat × Nat) => !decide (e.1 / 8 = page)), cyc := s.cyc.del page }
  s.setReg page 0x38 (s.reg page 0x38 &&& 0xff00ffff)

/-- A write of PERF_CTL; under LOCK only CLEAR acts (R484, R486). -/
def State.writePerf (s : State) (page : Nat) (w : Word) : State :=
  let old := s.reg page 0x38
  let s := if page ∈ s.pages.locked then s else
    s.setReg page 0x38 ((w &&& 0x01007fff) ||| (old &&& ~~~w &&& 0x00ff0000))
  s.when_ (bitAt w 25) (fun s => s.clearPerf page)

/-- A header register (R484). -/
def State.writeHeader (s : State) (page : Nat) (k : PageKind) (r : RegWord) (w : Word) : State :=
  match r.off with
  | 0x08 => s.writeCtrl page k w
  | 0x0c => s.when_ (bitAt w 2) (fun s => { s with pages := { s.pages with rejected := removeAll s.pages.rejected page } })
  | 0x10 => s.clearEvents page w
  | 0x20 => s.forceEvents page w
  | 0x28 => s.when_ (bitAt w 31) (fun s => s.setReg page 0x28 (s.reg page 0x28 &&& 0x7fffffff))
  | 0x38 => s.writePerf page w
  | 0x18 => s.setReg page 0x18 w
  | 0x1c => s.setReg page 0x1c w
  | _ => if 0x40 ≤ r.off && r.off < 0x60 then s.setReg page r.off w else s

/-! ### Block registers -/

/-- What access codes alone do: RW, RWL and RWQ fields take their value, RWS fields their shadow, W1C fields clear (R8). -/
def State.plainWrite (s : State) (page : Nat) (r : RegWord) (w : Word) : State :=
  let held := BitVec.ofNat 32 (r.rw ||| r.rwl ||| r.rwq)
  let w1c := w &&& BitVec.ofNat 32 r.w1c
  let s := if r.rws = 0 then s else s.setShadow page r.off w
  if held = 0 && w1c = 0 then s else s.setReg page r.off (((s.reg page r.off &&& ~~~held) ||| (w &&& held)) &&& ~~~w1c)

/-- PRT_CFG: its ports go Down; a head comes or goes with CXL (R317, R323, R580, R606). -/
def State.writePortCfg (s : State) (b : Nat) (w : Word) : State :=
  let h : Fin 64 := ⟨b % 64, Nat.mod_lt _ (by decide)⟩
  let had := s.headExists b
  let s := { s with fxb := { s.fxb with bifSet := insertNew s.fxb.bifSet b } }
  if w = s.reg (0x100 + b) 0x100 then s else
  let s := s.blockDown b 8
  let s := if had then s.headReset h else s
  let s := s.setReg (0x100 + b) 0x100 w
  s.setHead b { s.head b with st := if s.headExists b then 1 else 0 }

/-- A write of a shadow in the MTE page: it cancels a pending commit (R98). -/
def State.writeWindow (s : State) (off : Nat) (w : Word) : State :=
  let s := s.cancelCommit
  let r := s.regFld 0x030 0x810 0 8
  let lsi := s.regFld 0x030 0x830 0 14
  { s with mte :=
      if off = 0x814 then { s.mte with shAttr0 := s.mte.shAttr0.put r w }
      else if off = 0x818 then { s.mte with shAttr1 := s.mte.shAttr1.put r w }
      else { s.mte with shSegRgn := s.mte.shSegRgn.put lsi (BitVec.ofNat 8 w.toNat) } }

/-- SLC_LC_CTL: ENABLE = 0 clears INV_DONE (R118). -/
def State.writeLcCtl (s : State) (page : Nat) (w : Word) : State :=
  let s := s.setReg page 0x104 w
  if bitAt w 0 then s else s.setRegFld page 0x108 1 1 0

/-- SLC_INV_CTL (R121). -/
def State.writeInvCtl (s : State) (page : Nat) (w : Word) : State :=
  if !bitAt w 31 then s else
  s.queueInv (page - 0x010) (if bitAt w 30 then .full
    else .range (BitVec.ofNat 44 ((s.reg page 0x110).toNat + fld (s.reg page 0x114) 0 12 * 2 ^ 32)) (s.reg page 0x118))

/-- SLC_LOCK_CTL (R128). -/
def State.writeLockCtl (s : State) (page : Nat) (w : Word) : State :=
  s.each ((List.range 4).filter (fun g => bitAt w g)) (fun s g => s.startPreload (page - 0x010) g)

/-- DTC_CH_CTL (R203, R208): a channel re-admitted leaves its fence. -/
def State.writeDchCtl (s : State) (c : Nat) (w : Word) : State :=
  if bitAt w 31 then s.fenceDch c 6
  else if bitAt w 30 then (s.setSocket c { s.socket c with readmit := true }).unfence 5 c
  else s

/-- MCH_CH_CTL (R244). -/
def State.writeMchCtl (s : State) (ch : Nat) (w : Word) : State :=
  if bitAt w 31 then s.fenceChan ch 3 else s.each (mchCtlDies ch w) (fun s d => s.fenceDieFor d 3)

/-- FLT_INJ (R521). -/
def State.writeInj (s : State) (w : Word) : State :=
  if bitAt w 31 then s.inject (fld w 28 3) (fld w 24 4) (fld w 0 20) else s

/-- CRS_TEST.CONSENT: the window opens and a fresh challenge is drawn (R466). -/
def State.openConsent (s : State) : State :=
  let (n, s) := s.fresh
  let c : BitVec 64 := BitVec.ofNat 64 n
  let s := { s with crs := { s.crs with window := true, nonce := c } }
  (s.setReg 0x00b 0x110 (BitVec.ofNat 32 (fld c 0 32))).setReg 0x00b 0x114 (BitVec.ofNat 32 (fld c 32 32))

/-- CKR_RST (R571). -/
def State.writeReset (s : State) (w : Word) : State :=
  (s.when_ (bitAt w 0) State.prtReset).when_ (bitAt w 1) State.sveReset

/-- PWR_LOGCFG: a change of COMPAT clears the log (R557). -/
def State.writeLogCfg (s : State) (w : Word) : State :=
  if bitAt w 0 = s.pan.compat then s else State.supClear { s with pan := { s.pan with compat := bitAt w 0 } }

/-- PWR_LOGCTL (R557). -/
def State.writeLogCtl (s : State) (w : Word) : State := if bitAt w 3 then s.supClear else s.supNextOp (fld w 0 3)

/-- PERF_GCTL: FREEZE_ALL and CLEAR_ALL over every page (R484). -/
def State.writeGctl (s : State) (w : Word) : State :=
  let s := { s with freezeAll := bitAt w 0 }
  if bitAt w 1 then s.each allPages State.clearPerf else s

/-- A block register: those with an effect of their own, and the others by their access codes. -/
def State.writeBlock (s : State) (q : Requester) (page : Nat) (k : PageKind) (r : RegWord) (w : Word) : State :=
  match k, r.off with
  | .mgt, 0x110 => s.pushWord q w false
  | .mgt, 0x114 => s.pushWord q w true
  | .ckr, 0x108 => s.writeReset w
  | .pwr, 0x128 => s.writeLogCfg w
  | .pwr, 0x12c => s.supCursor w.toNat
  | .pwr, 0x130 => s.writeLogCtl w
  | .thm, 0x118 => s.when_ (bitAt w 31) (fun s => { s with thm := { s.thm with shutLast := false } })
  | .flt, 0x104 => s.when_ (bitAt w 25) (fun s => { s with flt := { s.flt with lastSafe := false } })
  | .flt, 0x128 => s.writeInj w
  | .evr, 0x108 => s.evrCursor w.toNat
  | .evr, 0x10c => s.evrNext (fld w 0 3)
  | .pan, 0x108 => s.panPwctl q w.toNat
  | .pan, 0x110 | .pan, 0x114 | .pan, 0x118 | .pan, 0x11c =>
    { s with pan := { s.pan with entered := s.pan.entered.put (4 * reqCode q + (r.off - 0x110) / 4) w } }
  | .crs3, 0x108 => s.when_ (bitAt w 31) State.openConsent
  | .slc, 0x104 => s.writeLcCtl page w
  | .slc, 0x10c => s.writeInvCtl page w
  | .slc, 0x148 => s.writeLockCtl page w
  | .dtcCh, 0x110 => s.writeDchCtl (page - 0x018) w
  | .mchCh, 0x10c => s.writeMchCtl (page - 0x040) w
  | .mte, 0x814 | .mte, 0x818 | .mte, 0x83c => s.writeWindow r.off w
  | .prt, 0x100 => s.writePortCfg (page - 0x100) w
  | .prt, 0x104 => s.retrain (((List.range 8).filter (fun j => bitAt w j)).map (fun j => 8 * (page - 0x100) + j)) 8
  | .perfg, 0x100 => s.writeGctl w
  | _, _ => s.plainWrite page r w

/-- An accepted write (R8). -/
def State.acceptWrite (s : State) (q : Requester) (page : Nat) (k : PageKind) (r : RegWord) (w : Word) : State :=
  if r.off < 0x100 then s.writeHeader page k r w else s.writeBlock q page k r w

/-! ### The whole write -/

/-- A write over I3C to a register of the AON set: it acts when it would be accepted, and is lost without a trace otherwise (R584). -/
def State.aonWrite (s : State) (page : Nat) (k : PageKind) (r : RegWord) (w : Word) : State :=
  if r.rsvOk w && fieldsOk k r.off w && 0x100 ≤ r.off then s.writeBlock .i3c page k r w else s

/-- The right that a write wants: REG_WRITE, and FORCE for a 1 in EVT_FORCE (R450). -/
def State.mayWrite (s : State) (q : Requester) (off : Nat) (w : Word) : Bool :=
  s.hasRight q 0 && (!(off == 0x20 || off == 0x24) || w == 0 || s.hasRight q 9)

/-- A register write (R6, R9, R426, R450, R480, R584). -/
def State.busWrite (s : State) (q : Requester) (addr width : Nat) (w : Word) : State :=
  let page := addr / 4096
  let off := addr % 4096
  let aligned := width == 4 && addr % 4 == 0
  if !s.pages.started then
    match pageKind page, regWord page off with
    | some k, some r => if aligned && s.aonServes q addr then s.aonWrite page k r w else s
    | _, _ => s
  else
    match s.windowShut q with
    | some h => s.headDenied h.val
    | none =>
      match pageKind page with
      | none => if s.hasRight q 0 then s.unmapped else s.writeDenied q
      | some k =>
        if !s.mayWrite q off w then s.writeDenied q
        else if !aligned || s.blockClosed page k off || (q == .i3c && decide (addr ∈ fifoAddrs)) then s.reject page
        else
          match regWord page off with
          | none => if w = 0 && !decide (page ∈ s.pages.locked) then s else s.reject page
          | some r => if s.writeOk q page k r w then s.acceptWrite q page k r w else s.reject page

/-- A write of a word at a page and offset. -/
def State.write4 (s : State) (q : Requester) (page off : Nat) (w : Word) : State := s.busWrite q (regAddr page off) 4 w

end Sys2Proof.Machine
end

