-- ==== Sys2Proof/Machine/BusCmds.lean ====
section
/-! DEFINITION. The commands that are one access of the register bus, by a requester that can reach it (R6 to R10, R479, R480, R484 to
R487, R489, R490, R521, R527, R535, R557, R571; log 44). -/

namespace Sys2Proof.Machine

open Sys2Proof

/-- A requester reaches the register bus: an in-band one through a head that is there and whose link is Active (R406, R479). -/
def State.reaches (s : State) (q : Requester) : Bool :=
  match requesterHead q with
  | some h => s.headExists h.val && (s.head h.val).active
  | none => true

/-- A register write of a requester, with what follows from it. -/
def State.regWrite (s : State) (q : Requester) (addr width : Nat) (w : Word) : State :=
  if s.reaches q then (s.busWrite q addr width w).drain else s

/-- A write of a whole word at a page and offset. -/
def State.pageWrite (s : State) (q : Requester) (page off : Nat) (w : Word) : State := s.regWrite q (regAddr page off) 4 w

/-- A register read of a requester; a held read answers later (R490). -/
def State.regRead (s : State) (q : Requester) (addr : BitVec 24) (width : Nat) : State :=
  if s.reaches q then
    let (v, s) := s.busRead q addr.toNat width
    match v with
    | some w => s.emit (.regRead q addr w)
    | none => s
  else s

/-- The word of a write of CTRL that sets some of its write-1 bits and leaves RUN as it is (R484). -/
def State.ctrlWord (s : State) (page bits : Nat) : Word := BitVec.ofNat 32 (bits + flag (s.runs page))

/-- A write of CTRL. -/
def State.ctrlWrite (s : State) (q : Requester) (page bits : Nat) : State := s.pageWrite q page 0x08 (s.ctrlWord page bits)

/-! ### Header rows (R484 to R487) -/

/-- CTRL_COMMIT (R8, R484). -/
def execCtrlCommit (q : Requester) (page : BitVec 12) (s : State) : Host.Outcome State Fault Refusal :=
  .next (s.withPins (fun s => s.ctrlWrite q page.toNat 8))

/-- CTRL_LOCK (R486). -/
def execCtrlLock (q : Requester) (page : BitVec 12) (s : State) : Host.Outcome State Fault Refusal :=
  .next (s.withPins (fun s => s.ctrlWrite q page.toNat 4))

/-- CTRL_RESET (R484, R572). -/
def execCtrlReset (q : Requester) (page : BitVec 12) (s : State) : Host.Outcome State Fault Refusal :=
  .next (s.withPins (fun s => s.ctrlWrite q page.toNat 2))

/-- CTRL_RUN (R485). -/
def execCtrlRun (q : Requester) (page : BitVec 12) (run : Bool) (s : State) : Host.Outcome State Fault Refusal :=
  .next (s.withPins (fun s => s.pageWrite q page.toNat 0x08 (if run then 1 else 0)))

/-- QUIESCE_DONE (R485). -/
def execQuiesceDone (page : BitVec 12) (s : State) : Host.Outcome State Fault Refusal := .next (s.quiesce page.toNat)

/-- EVT_STAT_W1C (R487, R510). -/
def execEvtStatW1c (q : Requester) (page : BitVec 12) (hi : Bool) (w : Word) (s : State) : Host.Outcome State Fault Refusal :=
  .next (s.withPins (fun s => s.pageWrite q page.toNat (if hi then 0x14 else 0x10) w))

/-- EVT_FORCE_WRITE (R450, R487, R520). -/
def execEvtForceWrite (q : Requester) (page : BitVec 12) (hi : Bool) (w : Word) (s : State) : Host.Outcome State Fault Refusal :=
  .next (s.withPins (fun s => s.pageWrite q page.toNat (if hi then 0x24 else 0x20) w))

/-- PERF_CTL_CLEAR (R484, R486). -/
def execPerfCtlClear (q : Requester) (page : BitVec 12) (w : Word) (s : State) : Host.Outcome State Fault Refusal :=
  .next (s.withPins (fun s => s.pageWrite q page.toNat 0x38 w))

/-- FREEZE_ALL (R484). -/
def execFreezeAll (q : Requester) (on : Bool) (s : State) : Host.Outcome State Fault Refusal :=
  .next (s.withPins (fun s => s.pageWrite q 0x300 0x100 (if on then 1 else 0)))

/-- CLEAR_ALL (R484); FREEZE_ALL keeps its value. -/
def execClearAll (q : Requester) (s : State) : Host.Outcome State Fault Refusal :=
  .next (s.withPins (fun s => s.pageWrite q 0x300 0x100 (BitVec.ofNat 32 (2 + flag s.freezeAll))))

/-- REGISTER_WRITE (R6 to R10, R480). -/
def execRegisterWrite (q : Requester) (addr : BitVec 24) (width : Nat) (w : Word) (s : State) : Host.Outcome State Fault Refusal :=
  .next (s.withPins (fun s => s.regWrite q addr.toNat width w))

/-- REGISTER_READ (R6, R7, R480). -/
def execRegisterRead (q : Requester) (addr : BitVec 24) (width : Nat) (s : State) : Host.Outcome State Fault Refusal :=
  .next (s.withPins (fun s => s.regRead q addr width))

/-! ### Rows of one block register -/

/-- REGION_COMMIT (R97). -/
def execRegionCommit (q : Requester) (s : State) : Host.Outcome State Fault Refusal :=
  .next (s.withPins (fun s => s.ctrlWrite q 0x030 8))

/-- SLC_LC_ENABLE_WRITE (R118). -/
def execSlcLcEnableWrite (q : Requester) (sl : Fin 8) (w : Word) (s : State) : Host.Outcome State Fault Refusal :=
  .next (s.withPins (fun s => s.pageWrite q (slcPage sl.val) 0x104 w))

/-- SLC_INVALIDATE_START (R121). -/
def execSlcInvalidateStart (q : Requester) (sl : Fin 8) (w : Word) (s : State) : Host.Outcome State Fault Refusal :=
  .next (s.withPins (fun s => s.pageWrite q (slcPage sl.val) 0x10c w))

/-- SLC_PRELOAD (R128). -/
def execSlcPreload (q : Requester) (sl : Fin 8) (w : Word) (s : State) : Host.Outcome State Fault Refusal :=
  .next (s.withPins (fun s => s.pageWrite q (slcPage sl.val) 0x148 w))

/-- DTC_CH_FENCE (R208). -/
def execDtcChFence (q : Requester) (c : Fin 16) (s : State) : Host.Outcome State Fault Refusal :=
  .next (s.withPins (fun s => s.pageWrite q (dchPage c.val) 0x110 0x80000000))

/-- DTC_CH_READMIT (R203, R208). -/
def execDtcChReadmit (q : Requester) (c : Fin 16) (s : State) : Host.Outcome State Fault Refusal :=
  .next (s.withPins (fun s => s.pageWrite q (dchPage c.val) 0x110 0x40000000))

/-- MCH_CH_FENCE (R244). -/
def execMchChFence (q : Requester) (ch : Fin 64) (s : State) : Host.Outcome State Fault Refusal :=
  .next (s.withPins (fun s => s.pageWrite q (chanPage ch.val) 0x10c 0x80000000))

/-- MCH_CH_DIEFENCE (R244). -/
def execMchChDiefence (q : Requester) (ch : Fin 64) (dies : BitVec 4) (s : State) : Host.Outcome State Fault Refusal :=
  .next (s.withPins (fun s => s.pageWrite q (chanPage ch.val) 0x10c (dies.setWidth 32)))

/-- PRT_CTL_RETRAIN (R362). -/
def execPrtCtlRetrain (q : Requester) (p : Fin 64) (w : Word) (s : State) : Host.Outcome State Fault Refusal :=
  .next (s.withPins (fun s => s.pageWrite q (0x100 + p.val) 0x104 w))

/-- CRS_TEST_CONSENT (R466, R467). -/
def execCrsTestConsent (q : Requester) (w : Word) (s : State) : Host.Outcome State Fault Refusal :=
  .next (s.withPins (fun s => s.pageWrite q 0x00b 0x108 w))

/-- MGT_CMD_PUSH_WRITE (R489). -/
def execMgtCmdPushWrite (h : Fin 64) (w : Word) (s : State) : Host.Outcome State Fault Refusal :=
  .next (s.withPins (fun s => s.pageWrite (.head h) 0x000 0x110 w))

/-- MGT_CMD_LAST_WRITE (R489). -/
def execMgtCmdLastWrite (h : Fin 64) (w : Word) (s : State) : Host.Outcome State Fault Refusal :=
  .next (s.withPins (fun s => s.pageWrite (.head h) 0x000 0x114 w))

/-- MGT_CPL_HEAD_READ (R490, R491). -/
def execMgtCplHeadRead (q : Requester) (s : State) : Host.Outcome State Fault Refusal :=
  .next (s.withPins (fun s => s.regRead q 0x000120 4))

/-- FLT_INJ_WRITE (R521). -/
def execFltInjWrite (q : Requester) (w : Word) (s : State) : Host.Outcome State Fault Refusal :=
  .next (s.withPins (fun s => s.pageWrite q 0x004 0x128 w))

/-- EVR_CURSOR_WRITE (R527). -/
def execEvrCursorWrite (q : Requester) (w : Word) (s : State) : Host.Outcome State Fault Refusal :=
  .next (s.withPins (fun s => s.pageWrite q 0x005 0x108 w))

/-- EVR_NEXT_NEXT (R527). -/
def execEvrNextNext (q : Requester) (s : State) : Host.Outcome State Fault Refusal :=
  .next (s.withPins (fun s => s.pageWrite q 0x005 0x10c 1))

/-- EVR_NEXT_OLDEST (R527). -/
def execEvrNextOldest (q : Requester) (s : State) : Host.Outcome State Fault Refusal :=
  .next (s.withPins (fun s => s.pageWrite q 0x005 0x10c 2))

/-- EVR_NEXT_NEWEST (R527). -/
def execEvrNextNewest (q : Requester) (s : State) : Host.Outcome State Fault Refusal :=
  .next (s.withPins (fun s => s.pageWrite q 0x005 0x10c 4))

/-- UNLOCK_READ (R535). -/
def execUnlockRead (q : Requester) (s : State) : Host.Outcome State Fault Refusal :=
  .next (s.withPins (fun s => s.pageWrite q 0x006 0x108 1))

/-- UNLOCK_WRITE (R535). -/
def execUnlockWrite (q : Requester) (s : State) : Host.Outcome State Fault Refusal :=
  .next (s.withPins (fun s => s.pageWrite q 0x006 0x108 2))

/-- SET_READ_PASSWORD (R535). -/
def execSetReadPassword (q : Requester) (s : State) : Host.Outcome State Fault Refusal :=
  .next (s.withPins (fun s => s.pageWrite q 0x006 0x108 3))

/-- SET_WRITE_PASSWORD (R535). -/
def execSetWritePassword (q : Requester) (s : State) : Host.Outcome State Fault Refusal :=
  .next (s.withPins (fun s => s.pageWrite q 0x006 0x108 4))

/-- LOCK_UNLOCKS (R535). -/
def execLockUnlocks (q : Requester) (s : State) : Host.Outcome State Fault Refusal :=
  .next (s.withPins (fun s => s.pageWrite q 0x006 0x108 5))

/-- SUBSYSTEM_RESET_PRT (R571). -/
def execSubsystemResetPrt (q : Requester) (s : State) : Host.Outcome State Fault Refusal :=
  .next (s.withPins (fun s => s.pageWrite q 0x001 0x108 1))

/-- SUBSYSTEM_RESET_SVE (R571). -/
def execSubsystemResetSve (q : Requester) (s : State) : Host.Outcome State Fault Refusal :=
  .next (s.withPins (fun s => s.pageWrite q 0x001 0x108 2))

/-- PWR_LOGCUR_WRITE (R557). -/
def execPwrLogcurWrite (q : Requester) (w : Word) (s : State) : Host.Outcome State Fault Refusal :=
  .next (s.withPins (fun s => s.pageWrite q 0x002 0x12c w))

/-- PWR_LOG_NEXT (R557). -/
def execPwrLogNext (q : Requester) (s : State) : Host.Outcome State Fault Refusal :=
  .next (s.withPins (fun s => s.pageWrite q 0x002 0x130 1))

/-- PWR_LOG_OLDEST (R557). -/
def execPwrLogOldest (q : Requester) (s : State) : Host.Outcome State Fault Refusal :=
  .next (s.withPins (fun s => s.pageWrite q 0x002 0x130 2))

/-- PWR_LOG_NEWEST (R557). -/
def execPwrLogNewest (q : Requester) (s : State) : Host.Outcome State Fault Refusal :=
  .next (s.withPins (fun s => s.pageWrite q 0x002 0x130 4))

/-- PWR_LOG_CLEAR (R557). -/
def execPwrLogClear (q : Requester) (s : State) : Host.Outcome State Fault Refusal :=
  .next (s.withPins (fun s => s.pageWrite q 0x002 0x130 8))

/-- PWR_LOG_COMPAT_WRITE (R557). -/
def execPwrLogCompatWrite (q : Requester) (compat : Bool) (s : State) : Host.Outcome State Fault Refusal :=
  .next (s.withPins (fun s => s.pageWrite q 0x002 0x128 (if compat then 1 else 0)))

end Sys2Proof.Machine
end

