-- ==== Sys2Proof/Machine/I3c.lean ====
section
/-! DEFINITION. The I3C target: the register protocol, private reads, common command codes, Hot-Join and IBIs (R470 to R478, R488; log
14, log 46). -/

namespace Sys2Proof.Machine

open Sys2Proof

/-! ### Register protocol (R474 to R478) -/

/-- The module answers legacy I²C: no dynamic address is assigned (R470, R471). -/
def Mgt.legacy (m : Mgt) : Bool := m.dyn.isNone

/-- An I3C protocol error (R473, R503, R504). -/
def State.protoError (s : State) : State :=
  let s := { s with mgt := { s.mgt with protoErr := true } }
  if s.pages.started then (s.countUp 0x000 0x140 0 16).raise 0x000 .mgtI3cProto else s

/-- A write is discarded with BAD_OP (R474, R478). -/
def State.badOp (s : State) : State := if s.pages.started then s.raise 0x000 .mgtBadOp else s

/-- A private write of so many bytes is longer than the maximum write length, in SDR (R470). -/
def Mgt.tooLong (m : Mgt) (bytes : Nat) : Bool := !m.legacy && !m.hdr && decide (m.mwl.toNat < bytes)

/-- A register operation over I3C is rejected at the page of its address (R9, R475, R480, R584). -/
def State.i3cReject (s : State) (addr : Nat) : State :=
  if !s.pages.started then s
  else match pageKind (addr / 4096) with
  | none => s.unmapped
  | some _ => s.reject (addr / 4096)

/-- Words from an address that lie in its page (R475). -/
def wordsLeft (addr : Nat) : Nat := (4096 - addr % 4096) / 4

/-- An operation on `n` words from an address names a FIFO register (R475). -/
def namesFifo (addr n : Nat) : Bool := (List.range (min n (wordsLeft addr))).any (fun i => decide (addr + 4 * i ∈ fifoAddrs))

/-- WRITE (R474, R475). -/
def State.i3cWrite (s : State) (addr : Nat) (words : List Word) (trailing : Nat) : State :=
  if 128 < words.length || s.mgt.tooLong (4 + 4 * words.length + trailing) then s.protoError
  else if addr % 4 ≠ 0 || namesFifo addr words.length then s.i3cReject addr
  else
    let s := s.each ((List.range words.length).zip words) (fun s (e : Nat × Word) =>
      if e.1 < wordsLeft addr then s.busWrite .i3c (addr + 4 * e.1) 4 e.2 else s.i3cReject addr)
    if trailing = 0 then s else s.i3cReject addr

/-- SET_READ (R474, R475). -/
def State.setRead_ (s : State) (addr : BitVec 24) (count : Nat) : State :=
  let a := addr.toNat
  if count = 0 || 128 < count || a % 4 ≠ 0 || namesFifo a count then s.i3cReject a
  else
    let n := min count (wordsLeft a)
    let s := { s with mgt := { s.mgt with rdPtr := some (addr, n), popNext := false } }
    if n < count then s.i3cReject a else s

/-- CMD_PUSH (R474, R478, R584). -/
def State.i3cPush (s : State) (words : List Word) : State :=
  if !s.pages.started then s
  else if s.mgt.legacy then s.badOp
  else if 128 < words.length || s.mgt.tooLong (1 + 4 * words.length) then s.protoError
  else s.pushPacket .i3c words

/-- CPL_POP (R474, R478, R584). -/
def State.i3cPop (s : State) : State :=
  if !s.pages.started then s
  else if s.mgt.legacy then s.badOp
  else { s with mgt := { s.mgt with popNext := true, rdPtr := none } }

/-- A private write whose selector names no operation (R473, R474). -/
def State.otherOp (s : State) (op : Nat) : State :=
  if 0xc4 ≤ op && op ≤ 0xc7 then s.badOp
  else if op = 0x01 || (0xc0 ≤ op && op ≤ 0xc3) then s
  else s.protoError

/-- The bytes of a word, least significant first (R11). -/
def wordBytes (w : Word) : List Byte := (List.range 4).map (fun i => BitVec.ofNat 8 (w.toNat / 2 ^ (8 * i)))

/-- Bytes of a number, most significant first, as common command codes carry it. -/
def msbBytes (n x : Nat) : List Byte := (bytesBE n x).map (BitVec.ofNat 8)

/-- Pop up to `k` words of the packet at the front, each with its status byte (R476). -/
def State.popBytes : Nat → State → List Byte × State
  | 0, s => ([], s)
  | k + 1, s =>
    let (r, s) := s.takeWord .i3c
    match r with
    | none => ([], s)
    | some (w, end_) =>
      let b := wordBytes w ++ [if end_ then 1 else 0]
      if end_ then (b, s) else
        let (t, s) := State.popBytes k s
        (b ++ t, s)

/-- Read the register words of SET_READ, one by one as they are sent (R475). -/
def State.readBytes (s : State) (addr : Nat) : Nat → List Byte × State
  | 0 => ([], s)
  | k + 1 =>
    let (v, s) := s.busRead .i3c addr 4
    let (t, s) := State.readBytes s (addr + 4) k
    (wordBytes (v.getD 0) ++ t, s)

/-- A private read from which the controller takes at most `stopAfter` bytes (R475, R476, R478). -/
def State.privateRead (s : State) (stopAfter : Nat) : State :=
  let n := if s.mgt.hdr || s.mgt.legacy then stopAfter else min stopAfter s.mgt.mrl.toNat
  let ptr := s.mgt.rdPtr
  let pop := s.mgt.popNext
  let s := { s with mgt := { s.mgt with rdPtr := none, popNext := false } }
  let (b, s) := if pop then s.popBytes ((n + 4) / 5) else match ptr with
    | some (a, count) => s.readBytes a.toNat (min count ((n + 3) / 4))
    | none => ([], s)
  let b := if b.isEmpty then [(0 : Byte)] else b
  let b := if s.mgt.legacy then b ++ List.replicate (n - b.length) 0xff else b
  s.emit (.i3cBytes (b.take n))

/-! ### Common command codes, Hot-Join, IBIs (R470 to R473, R488) -/

/-- A common command code ends HDR mode; what it does. -/
def State.ccc (s : State) (f : Mgt → Mgt) : State := { s with mgt := f { s.mgt with hdr := false } }

/-- ENEC and DISEC: bit 0 IBIs, bit 3 Hot-Join. -/
def State.setEvents (s : State) (ev : Byte) (on : Bool) : State :=
  (s.ccc (fun m => { m with ibiEn := if bitAt8 ev 0 then on else m.ibiEn, hjEn := if bitAt8 ev 3 then on else m.hjEn })).emit .i3cAck
where
  /-- a bit of a byte -/
  bitAt8 (b : Byte) (i : Nat) : Bool := b.toNat / 2 ^ i % 2 == 1

/-- The 48-bit Provisioned ID (R470). -/
def provisionedId : Nat := 0x2e95 * 2 ^ 33 + Config.serial.toNat % 2 ^ 32

/-- ENTDAA: the identification bytes are sent, and the address is taken, where none is assigned (R470, R471). -/
def State.entdaa (s : State) (addr : BitVec 7) : State :=
  let s := s.ccc id
  if s.mgt.dyn.isSome then s
  else ({ s with mgt := { s.mgt with dyn := some addr } }).emit (.i3cBytes (msbBytes 6 provisionedId ++ [0x26, 0x00]))

/-- SETDASA at the static address; SETNEWDA at a dynamic one (R470, R471). -/
def State.setdasa (s : State) (stat addr : BitVec 7) : State :=
  let s := s.ccc id
  if s.mgt.dyn.isNone && stat.toNat = s.mgt.statAddr then ({ s with mgt := { s.mgt with dyn := some addr } }).emit .i3cAck else s.emit .i3cNack

def State.setnewda (s : State) (addr : BitVec 7) : State :=
  let s := s.ccc id
  if s.mgt.dyn.isSome then ({ s with mgt := { s.mgt with dyn := some addr } }).emit .i3cAck else s.emit .i3cNack

/-- RSTDAA (R471). -/
def State.rstdaa (s : State) : State := (s.ccc (fun m => { m with dyn := none })).emit .i3cAck

/-- SETMWL and SETMRL (R470). -/
def State.setmwl (s : State) (len : BitVec 16) : State :=
  let s := s.ccc id
  if 64 ≤ len.toNat && len.toNat ≤ 516 then ({ s with mgt := { s.mgt with mwl := len } }).emit .i3cAck else s.emit .i3cNack

def State.setmrl (s : State) (len : BitVec 16) : State :=
  let s := s.ccc id
  if 64 ≤ len.toNat && len.toNat ≤ 512 then ({ s with mgt := { s.mgt with mrl := len } }).emit .i3cAck else s.emit .i3cNack

/-- A direct read of a common command code, answered at a dynamic address alone. -/
def State.cccGet (s : State) (b : List Byte) : State :=
  let s := s.ccc id
  if s.mgt.dyn.isSome then s.emit (.i3cBytes b) else s.emit .i3cNack

/-- GETSTATUS: the word of R473, after which no protocol error is pending. -/
def State.getstatus (s : State) : State :=
  let s1 := s.cccGet (msbBytes 2 s.getStatus.toNat)
  if s.mgt.dyn.isSome then { s1 with mgt := { s1.mgt with protoErr := false } } else s1

/-- HOT_JOIN_REPEAT (R472). -/
def State.hotJoin (s : State) : State := if s.mgt.dyn.isNone && s.mgt.hjEn then s.emit .hotJoin else s

/-- The newest payload of an IBI: the packets that wait, or the level of THROT_N or HOLD_OK (R488). -/
def State.ibiNow (s : State) (mdb : Byte) (payload : List Byte) : List Byte :=
  match mdb.toNat with
  | 0x01 => [BitVec.ofNat 8 (min 255 s.mgt.packets)]
  | 0x03 => [if s.throtLow then 0 else 1]
  | 0x04 => [if s.holdOk then 1 else 0]
  | _ => payload

/-- IBI_RESEND: the IBI that the controller refused, the one sent last, is sent again, with the newest values of its kind (R488). -/
def State.ibiResend (s : State) : State :=
  match s.mgt.ibis.getLast? with
  | some (m, p) => s.emit (.ibi m (s.ibiNow m p))
  | none => s

/-! ### Commands -/

/-- WRITE (R474, R475). -/
def execWrite (addr : BitVec 24) (words : List Word) (trailing : Nat) (s : State) : Host.Outcome State Fault Refusal :=
  .next (s.withPins (fun s => (s.i3cWrite addr.toNat words trailing).drain))

/-- SET_READ (R474, R475). -/
def execSetRead (addr : BitVec 24) (count : Byte) (s : State) : Host.Outcome State Fault Refusal :=
  .next (s.withPins (fun s => s.setRead_ addr count.toNat))

/-- PRIVATE_READ (R475, R476). -/
def execPrivateRead (stopAfter : Nat) (s : State) : Host.Outcome State Fault Refusal := .next (s.withPins (fun s => s.privateRead stopAfter))

/-- CMD_PUSH (R474). -/
def execCmdPush (words : List Word) (s : State) : Host.Outcome State Fault Refusal := .next (s.withPins (fun s => (s.i3cPush words).drain))

/-- CPL_POP (R474). -/
def execCplPop (s : State) : Host.Outcome State Fault Refusal := .next (s.withPins State.i3cPop)

/-- BAD_OP (R474). -/
def execBadOp (op : Byte) (s : State) : Host.Outcome State Fault Refusal := .next (s.withPins (fun s => s.otherOp op.toNat))

/-- ENEC (R470). -/
def execEnec (ev : Byte) (s : State) : Host.Outcome State Fault Refusal := .next (s.setEvents ev true)

/-- DISEC (R470). -/
def execDisec (ev : Byte) (s : State) : Host.Outcome State Fault Refusal := .next (s.setEvents ev false)

/-- RSTDAA (R471). -/
def execRstdaa (s : State) : Host.Outcome State Fault Refusal := .next s.rstdaa

/-- ENTDAA (R470). -/
def execEntdaa (addr : BitVec 7) (s : State) : Host.Outcome State Fault Refusal := .next (s.entdaa addr)

/-- SETDASA (R470). -/
def execSetdasa (stat addr : BitVec 7) (s : State) : Host.Outcome State Fault Refusal := .next (s.setdasa stat addr)

/-- SETNEWDA (R470). -/
def execSetnewda (addr : BitVec 7) (s : State) : Host.Outcome State Fault Refusal := .next (s.setnewda addr)

/-- SETMWL (R470). -/
def execSetmwl (len : BitVec 16) (s : State) : Host.Outcome State Fault Refusal := .next (s.setmwl len)

/-- SETMRL (R470). -/
def execSetmrl (len : BitVec 16) (s : State) : Host.Outcome State Fault Refusal := .next (s.setmrl len)

/-- GETMWL (R470). -/
def execGetmwl (s : State) : Host.Outcome State Fault Refusal := .next (s.cccGet (msbBytes 2 s.mgt.mwl.toNat))

/-- GETMRL, with the size of an IBI payload (R470). -/
def execGetmrl (s : State) : Host.Outcome State Fault Refusal := .next (s.cccGet (msbBytes 2 s.mgt.mrl.toNat ++ [3]))

/-- GETPID (R470). -/
def execGetpid (s : State) : Host.Outcome State Fault Refusal := .next (s.cccGet (msbBytes 6 provisionedId))

/-- GETBCR (R470). -/
def execGetbcr (s : State) : Host.Outcome State Fault Refusal := .next (s.cccGet [0x26])

/-- GETDCR (R470). -/
def execGetdcr (s : State) : Host.Outcome State Fault Refusal := .next (s.cccGet [0x00])

/-- GETSTATUS (R473). -/
def execGetstatus (s : State) : Host.Outcome State Fault Refusal := .next s.getstatus

/-- GETMXDS: no speed limitation (R470, log 14). -/
def execGetmxds (s : State) : Host.Outcome State Fault Refusal := .next (s.cccGet [0x00, 0x00])

/-- GETCAPS: HDR-DDR, Basic v1.1 (R470, log 14). -/
def execGetcaps (s : State) : Host.Outcome State Fault Refusal := .next (s.cccGet [0x01, 0x01, 0x00, 0x00])

/-- ENTHDR0: the transfers that follow are HDR-DDR (R470, R477). -/
def execEnthdr0 (s : State) : Host.Outcome State Fault Refusal := .next (s.ccc (fun m => { m with hdr := true }))

/-- UNSUPPORTED_CCC (R470). -/
def execUnsupportedCcc (_code : Byte) (s : State) : Host.Outcome State Fault Refusal := .next ((s.ccc id).emit .i3cNack)

/-- HOT_JOIN_REPEAT (R472). -/
def execHotJoinRepeat (s : State) : Host.Outcome State Fault Refusal := .next s.hotJoin

/-- IBI_RESEND (R488). -/
def execIbiResend (s : State) : Host.Outcome State Fault Refusal := .next s.ibiResend

end Sys2Proof.Machine
end

