-- ==== Sys2Proof/Machine/Attest.lean ====
section
/-! DEFINITION. The SPDM responder, IDE key management and MCTP (R458 to R462, R495; log 11, log 14, log 47). -/

namespace Sys2Proof.Machine

open Sys2Proof

/-! ### SPDM (R458 to R460) -/

/-- The responder is reached: Crust runs, and the head of a DOE is there with its link Active (R406, R459). -/
def State.spdmUp (s : State) (p : SpdmPath) : Bool :=
  s.pages.started && match p with
    | .i3c => true
    | .doe h => s.headExists h.val && (s.head h.val).active

/-- Answer an SPDM request where the responder is reached. -/
def State.spdmDo (s : State) (p : SpdmPath) (f : State → State) : State := if s.spdmUp p then f s else s

/-- An SPDM response: its code and its fields; one that goes out on MCTP is announced (R488). -/
def State.spdmRsp (s : State) (p : SpdmPath) (code : Nat) (d : Payload) : State :=
  let s := s.emit (.spdm p code d)
  if p == .i3c then s.sendIbi 0xae [] else s

/-- An ERROR response: 0x01 InvalidRequest, 0x02 InvalidSession, 0x03 Busy, 0x04 UnexpectedRequest, 0x05 Unspecified, 0x07
UnsupportedRequest. -/
def State.spdmError (s : State) (p : SpdmPath) (e : Nat) : State := s.spdmRsp p 0x7f [e]

/-- A response that carries further free values: nonces, keys and signatures (log 7). -/
def State.spdmFree (s : State) (p : SpdmPath) (code : Nat) (d : Payload) (n : Nat) : State :=
  let r := (List.range n).foldl (fun (a : Payload × State) _ => let (v, s) := a.2.fresh; (a.1 ++ [v], s)) (d, s)
  r.2.spdmRsp p code r.1

/-- The chain of a certificate slot that is provisioned (R458). -/
def State.chain (s : State) (slot : Nat) : Option (List Nat) :=
  if s.crs.idState != 2 then none
  else match slot with
    | 0 => some Config.slot0Chain
    | 1 => s.pan.ownerCert.map (fun (c : CertChain) =>
        Config.ownerChain [c.certs, c.bytes, c.rootDigest.toNat, c.leafSerial.toNat, c.leafKey.toNat])
    | _ => none

/-- Digest of a slot's chain. -/
def State.chainDigest (s : State) (slot : Nat) : Option Nat := (s.chain slot).map (fun c => (sha256 c).toNat)

/-- Slots provisioned, as a mask. -/
def State.slotMask (s : State) : Nat := bitSet 2 (fun n => (s.chain n).isSome)

/-- The capability flags of R459. -/
def spdmFlags : Nat := 0x862d6

/-- The bytes of an image as received. -/
def FwImage.all (f : FwImage) : List Nat := f.span 0 f.received

/-- The bytes that a measurement block digests (R460). -/
def State.measured (s : State) (index : Nat) : List Nat :=
  match index with
  | 1 => Config.bootRom
  | 2 => (s.fwSlot s.sve.running).all
  | 3 => (s.fwSlot (!s.sve.running)).all
  | 4 => bytesLE 2 s.crs.minSvn.toNat ++ bytesLE 2 s.crs.runSvn.toNat
  | 5 => bytesLE 4 s.crs.tblVer.toNat ++ s.crs.bases.flatMap (fun (b : BitVec 27) => bytesLE 4 b.toNat) ++
      (List.range 64).flatMap (fun r => bytesLE 2 (s.krange r).gen.toNat)
  | _ => [0x100, 0x104, 0x108, 0x110, 0x114].flatMap (fun off => bytesLE 4 (s.reg 0x00a off).toNat) ++
      s.headList.flatMap (fun h => bytesLE 4 (s.reg (headPage h) 0x10c).toNat)

/-- A measurement block: zeros for an empty other slot, else the SHA-256 of what it measures (R460). -/
def State.measurement (s : State) (index : Nat) : Nat :=
  if index = 3 && (s.fwSlot (!s.sve.running)).received = 0 then 0 else (sha256 (s.measured index)).toNat

/-- GET_MEASUREMENTS: the number of blocks, one block, or all of them, signed (R460, log 14). -/
def State.measurements (s : State) (p : SpdmPath) (index : Nat) : State :=
  if index = 0 then s.spdmFree p 0x60 [6] 1
  else if index = 0xff then s.spdmFree p 0x60 ((List.range 6).flatMap (fun i => [i + 1, s.measurement (i + 1)])) 2
  else if index ≤ 6 then s.spdmFree p 0x60 [index, s.measurement index] 2
  else s.spdmError p 0x01

/-- CHALLENGE: the chain's digest, a nonce and a signature; a slot that is not provisioned is an invalid request (R459). -/
def State.challenged (s : State) (p : SpdmPath) (slot : Nat) : State :=
  match s.chainDigest slot with
  | some d => s.spdmFree p 0x03 [slot, d] 2
  | none => s.spdmError p 0x01

/-- GET_CERTIFICATE (R458, R459). -/
def State.certificate (s : State) (p : SpdmPath) (slot : Nat) : State :=
  match s.chain slot with
  | some c => s.spdmRsp p 0x02 (slot :: c)
  | none => s.spdmError p 0x01

/-- KEY_EXCHANGE: a session is opened, or Busy with eight open (R459). -/
def State.openSession (s : State) (p : SpdmPath) : State :=
  if 8 ≤ s.crs.sessions.length then s.spdmError p 0x03
  else
    let id := s.crs.nextSession
    let s := { s with crs := { s.crs with sessions := s.crs.sessions ++ [(id, p)], nextSession := id + 1 } }
    s.spdmFree p 0x64 [id.toNat] 3

/-- A request within a session of its path; another is an invalid session (R459). -/
def State.within (s : State) (p : SpdmPath) (session : Word) (code : Nat) (f : State → State) : State :=
  if (session, p) ∈ s.crs.sessions then (f s).spdmRsp p code [session.toNat] else s.spdmError p 0x02

/-- The IDE keys of a head are zeroized (R462). -/
def State.dropIde (s : State) (h : Nat) : State := s.setHead h { s.head h with ideKeys := [], ideActive := [], ide := false }

/-- END_SESSION: the session ends, and with it the IDE keys of the head on whose DOE it ran (R462). -/
def State.closeSession (s : State) (p : SpdmPath) (session : Word) : State :=
  let s := { s with crs := { s.crs with sessions := s.crs.sessions.filter (fun (e : Word × SpdmPath) => e.1 != session) } }
  match p with
  | .doe h => s.dropIde h.val
  | .i3c => s

/-- The path of a requester's SPDM messages. -/
def requesterPath (q : Requester) : SpdmPath :=
  match requesterHead q with
  | some h => .doe h
  | none => .i3c

/-- SET_CERTIFICATE: with the KEY right, an owner chain whose leaf certifies the identity key goes to slot 1 (R450, R458). -/
def State.setCert (s : State) (q : Requester) (slot : Nat) (c : CertChain) : State :=
  let p := requesterPath q
  if !s.hasRight q 5 then s.deny.spdmError p 0x05
  else if slot ≠ 1 then s.spdmError p 0x01
  else if c.leafKey != Config.idKey || s.pantryDown || s.pan.recalling then s.spdmError p 0x05
  else ({ s with pan := { s.pan with ownerCert := some c } }).spdmRsp p 0x6e [slot]

/-! ### IDE key management (R419, R462) -/

/-- The key of an IDE key set: of CXL.io, or of CXL.cachemem. -/
def ideIndex (set : Nat) (mem : Bool) : Nat := 2 * set + flag mem

/-- IDE_KM runs within a secured session on the head's DOE; outside of one it is an unexpected request (R462). -/
def State.ideDo (s : State) (h : Fin 64) (code : Nat) (f : State → State) : State :=
  s.spdmDo (.doe h) (fun s =>
    if s.crs.sessions.any (fun (e : Word × SpdmPath) => e.2 == .doe h) then (f s).emit (.ideKm h code)
    else s.spdmError (.doe h) 0x04)

/-- KEY_PROG. -/
def State.ideProg (s : State) (h set : Nat) (mem : Bool) (key : BitVec 256) : State :=
  s.setHead h { s.head h with ideKeys := (s.head h).ideKeys.put (ideIndex set mem) key }

/-- HEAD_STAT.IDE: CXL.cachemem IDE is active (R428). -/
def Head.withActive (x : Head) (l : List Nat) : Head := { x with ideActive := l, ide := l.any (fun i => i % 2 == 1) }

/-- K_SET_GO, of a key set that has been programmed. -/
def State.ideGo (s : State) (h set : Nat) (mem : Bool) : State :=
  let x := s.head h
  if ((x.ideKeys).find (ideIndex set mem)).isSome then s.setHead h (x.withActive (insertNew x.ideActive (ideIndex set mem))) else s

/-- K_SET_STOP. -/
def State.ideStop (s : State) (h set : Nat) (mem : Bool) : State :=
  s.setHead h ((s.head h).withActive (removeAll (s.head h).ideActive (ideIndex set mem)))

/-! ### MCTP (R461) -/

/-- Answer an MCTP control request where Crust runs. -/
def State.mctpDo (s : State) (code : Nat) (d : State → Payload) : State :=
  if s.pages.started then (s.emit (.mctp code (d s))).sendIbi 0xae [] else s

/-- Set Endpoint ID: the bus owner's number, from 8 to 254, is taken (R461, log 14). -/
def State.setEid (s : State) (eid : Byte) : State :=
  if !s.pages.started then s
  else if 8 ≤ eid.toNat && eid.toNat ≤ 254 then ({ s with mgt := { s.mgt with eid := eid } }).mctpDo 0x01 (fun _ => [0, eid.toNat])
  else s.mctpDo 0x01 (fun _ => [2])

/-- The message being assembled is dropped. -/
def State.mctpDrop (s : State) : State := { s with mgt := { s.mgt with mctpBuf := [], mctpOpen := false } }

/-- A packet is addressed to the module: to its endpoint ID, or to the null one. -/
def Mgt.mctpMine (m : Mgt) (p : MctpPacket) : Bool := p.dst == 0 || (p.dst == m.eid && m.eid != 0)

/-- A packet goes on with the message that is open. -/
def Mgt.mctpNext (m : Mgt) (p : MctpPacket) : Bool :=
  m.mctpOpen && p.src == m.mctpFrom && p.msgTag == m.mctpTag && p.seq == m.mctpSeq

/-- Take a packet's payload into the message; the last packet completes it, and the responder takes it up as the command of its
request (R461, log 47). -/
def State.mctpTake (s : State) (p : MctpPacket) (buf : List Byte) : State :=
  if 4096 < buf.length || p.eom then s.mctpDrop
  else { s with mgt := { s.mgt with mctpBuf := buf, mctpOpen := true, mctpSeq := p.seq + 1 } }

/-- MCTP_PACKET (R461). -/
def State.mctpPacket (s : State) (p : MctpPacket) : State :=
  if !s.pages.started || !s.mgt.mctpMine p || 64 < p.payload.length then s
  else if p.som then
    if p.mtype.toNat ∈ [0x00, 0x05, 0x06] then
      State.mctpTake { s with mgt := { s.mgt with mctpType := p.mtype, mctpFrom := p.src, mctpTag := p.msgTag } } p p.payload
    else s
  else if s.mgt.mctpNext p then s.mctpTake p (s.mgt.mctpBuf ++ p.payload)
  else s

/-! ### Commands -/

/-- GET_VERSION: 1.2 only (R459). -/
def execGetVersion (p : SpdmPath) (s : State) : Host.Outcome State Fault Refusal :=
  .next (s.spdmDo p (fun s => s.spdmRsp p 0x04 [0x12]))

/-- GET_CAPABILITIES: CTExponent 16 and the flags (R459). -/
def execGetCapabilities (p : SpdmPath) (s : State) : Host.Outcome State Fault Refusal :=
  .next (s.spdmDo p (fun s => s.spdmRsp p 0x61 [16, spdmFlags]))

/-- NEGOTIATE_ALGORITHMS: ECDSA P-256, SHA-256, secp256r1, AES-256-GCM, the SPDM key schedule, measurement hash SHA-256 (R459). -/
def execNegotiateAlgorithms (p : SpdmPath) (s : State) : Host.Outcome State Fault Refusal :=
  .next (s.spdmDo p (fun s => s.spdmRsp p 0x63 [0x10, 0x01, 0x08, 0x02, 0x01, 0x02]))

/-- GET_DIGESTS (R458, R459). -/
def execGetDigests (p : SpdmPath) (s : State) : Host.Outcome State Fault Refusal :=
  .next (s.spdmDo p (fun s => s.spdmRsp p 0x01 (s.slotMask :: (List.range 2).filterMap s.chainDigest)))

/-- GET_CERTIFICATE (R458, R459). -/
def execGetCertificate (p : SpdmPath) (slot : BitVec 4) (s : State) : Host.Outcome State Fault Refusal :=
  .next (s.spdmDo p (fun s => s.certificate p slot.toNat))

/-- CHALLENGE (R459). -/
def execChallenge (p : SpdmPath) (slot : BitVec 4) (s : State) : Host.Outcome State Fault Refusal :=
  .next (s.spdmDo p (fun s => s.challenged p slot.toNat))

/-- GET_MEASUREMENTS (R460). -/
def execGetMeasurements (p : SpdmPath) (index : Byte) (s : State) : Host.Outcome State Fault Refusal :=
  .next (s.spdmDo p (fun s => s.measurements p index.toNat))

/-- KEY_EXCHANGE (R459). -/
def execKeyExchange (p : SpdmPath) (s : State) : Host.Outcome State Fault Refusal := .next (s.spdmDo p (fun s => s.openSession p))

/-- FINISH (R459). -/
def execFinish (p : SpdmPath) (session : Word) (s : State) : Host.Outcome State Fault Refusal :=
  .next (s.spdmDo p (fun s => s.within p session 0x65 id))

/-- HEARTBEAT (R459). -/
def execHeartbeat (p : SpdmPath) (session : Word) (s : State) : Host.Outcome State Fault Refusal :=
  .next (s.spdmDo p (fun s => s.within p session 0x68 id))

/-- KEY_UPDATE (R459). -/
def execKeyUpdate (p : SpdmPath) (session : Word) (s : State) : Host.Outcome State Fault Refusal :=
  .next (s.spdmDo p (fun s => s.within p session 0x69 id))

/-- END_SESSION (R459, R462). -/
def execEndSession (p : SpdmPath) (session : Word) (s : State) : Host.Outcome State Fault Refusal :=
  .next (s.spdmDo p (fun s => s.within p session 0x6c (fun s => s.closeSession p session)))

/-- SET_CERTIFICATE (R458). -/
def execSetCertificate (q : Requester) (slot : BitVec 4) (c : CertChain) (s : State) : Host.Outcome State Fault Refusal :=
  .next (s.withPins (fun s => s.spdmDo (requesterPath q) (fun s => s.setCert q slot.toNat c)))

/-- SPDM_UNSUPPORTED_REQUEST (R459). -/
def execSpdmUnsupportedRequest (p : SpdmPath) (code : Byte) (s : State) : Host.Outcome State Fault Refusal :=
  .next (s.spdmDo p (fun s => s.spdmRsp p 0x7f [0x07, code.toNat]))

/-- IDE_KM_QUERY (R462). -/
def execIdeKmQuery (h : Fin 64) (s : State) : Host.Outcome State Fault Refusal := .next (s.ideDo h 0x01 id)

/-- IDE_KM_KEY_PROG (R462). -/
def execIdeKmKeyProg (h : Fin 64) (set : Fin 2) (mem : Bool) (key : BitVec 256) (s : State) : Host.Outcome State Fault Refusal :=
  .next (s.ideDo h 0x03 (fun s => s.ideProg h.val set.val mem key))

/-- IDE_KM_K_SET_GO (R462). -/
def execIdeKmKSetGo (h : Fin 64) (set : Fin 2) (mem : Bool) (s : State) : Host.Outcome State Fault Refusal :=
  .next (s.ideDo h 0x06 (fun s => s.ideGo h.val set.val mem))

/-- IDE_KM_K_SET_STOP (R462). -/
def execIdeKmKSetStop (h : Fin 64) (set : Fin 2) (mem : Bool) (s : State) : Host.Outcome State Fault Refusal :=
  .next (s.ideDo h 0x06 (fun s => s.ideStop h.val set.val mem))

/-- SET_ENDPOINT_ID (R461). -/
def execSetEndpointId (eid : Byte) (s : State) : Host.Outcome State Fault Refusal := .next (s.setEid eid)

/-- GET_ENDPOINT_ID (R461). -/
def execGetEndpointId (s : State) : Host.Outcome State Fault Refusal := .next (s.mctpDo 0x02 (fun s => [0, s.mgt.eid.toNat]))

/-- GET_MCTP_VERSION_SUPPORT: 1.3 (R461). -/
def execGetMctpVersionSupport (s : State) : Host.Outcome State Fault Refusal := .next (s.mctpDo 0x04 (fun _ => [0, 1, 0xf1f3f000]))

/-- GET_MESSAGE_TYPE_SUPPORT (R461). -/
def execGetMessageTypeSupport (s : State) : Host.Outcome State Fault Refusal :=
  .next (s.mctpDo 0x05 (fun _ => [0, 3, 0x00, 0x05, 0x06]))

/-- GET_ENDPOINT_UUID (R461). -/
def execGetEndpointUuid (s : State) : Host.Outcome State Fault Refusal := .next (s.mctpDo 0x03 (fun _ => [0, Config.uuid.toNat]))

/-- MCTP_PACKET (R461). -/
def execMctpPacket (p : MctpPacket) (s : State) : Host.Outcome State Fault Refusal := .next (s.mctpPacket p)

end Sys2Proof.Machine
end

