-- ==== Sys2Proof/Machine/Debug.lean ====
section
/-! DEFINITION. Factory test mode and the debug class (R453, R466, R469, R583; log 47). -/

namespace Sys2Proof.Machine

open Sys2Proof

/-! ### Factory test mode (R466, R469) -/

/-- The consent window is closed and CRS_NONCE cleared (R469). -/
def State.closeConsent (s : State) : State :=
  let s := { s with crs := { s.crs with window := false, nonce := 0 } }
  (s.setReg 0x00b 0x110 0).setReg 0x00b 0x114 0

/-- The module owns a segment or holds a mirror copy (R88, R466). -/
def State.holdsSegment (s : State) : Bool := s.mte.segs.any (fun (e : Nat × Seg) => decide (e.2.st.toNat ∈ [1, 3, 4, 5]))

/-- Every key set is zeroized (R449, R466). -/
def State.zeroizeAll (s : State) : State :=
  s.each ((s.crs.ranges.filter (fun (e : Nat × KeyRange) => e.2.st == 1 || e.2.st == 3)).map Prod.fst) (fun s r => s.zeroize r (s.krange r).gen)

/-- An unlock token: within the window, with the module's serial and the challenge and a good signature, it enters factory test mode;
entry fails while a segment is owned or mirrored (R466). -/
def State.unlockToken (s : State) (serial chal : BitVec 64) (sigOk : Bool) : State :=
  if !s.crs.window || s.crs.testMode || serial != ownSerial || chal != s.crs.nonce || !sigOk then s
  else if s.holdsSegment then s.emit (.unlock stState)
  else
    let s := s.zeroizeAll
    let s := s.each (List.range 64) (fun s b => (s.blockDown b 8).dropIde b)
    let s := { s with crs := { s.crs with testMode := true } }
    s.raise 0x008 .crsTestMode

/-! ### The debug class (R450, R453, R583) -/

/-- CRS_DBG_KR lets debug reach a line's key range (R453). -/
def State.debugRange (s : State) (a : LineAddr) : Bool :=
  let r := s.keyRangeOf (lineGsn a)
  bitAt (s.reg 0x00a (0x110 + 4 * (r / 32))) (r % 32)

/-- A line's youngest value that every source may see, checked in Verified order (R50, R439, R453). -/
def State.debugValue (s : State) (a : LineAddr) : (Line × Bool) × State :=
  let n := sliceHash a
  let x := s.slice n
  match x.merged a with
  | some m => ((m.data, m.poison), s)
  | none =>
    match (if s.lcEnabled n then x.findWay a else none) with
    | some w => (((x.way (setHash a) w).data, false), s)
    | none => s.verifiedValue a

/-- A debug read of memory: of a line this module owns, as Crust passes it; zeros where it is refused, with DENIED, or where the module
owns no such line (R453). -/
def State.debugRead (s : State) (f : Fga) : State :=
  let a := fgaLine f
  if !(s.hasRight .debug 10 && s.debugRange a) then s.deny.emit (.debugRead 0 false)
  else if (s.lookup (lineGsn a)).st != 1 then s.emit (.debugRead 0 false)
  else
    let r := s.debugValue a
    r.2.emit (.debugRead r.1.1 r.1.2)

/-- A debug write of memory: a store of an internal requester to a line this module owns (R453). -/
def State.debugWrite (s : State) (f : Fga) (data : Line) : State :=
  let a := fgaLine f
  if !(s.hasRight .debug 11 && s.debugRange a) then s.deny
  else if (s.lookup (lineGsn a)).st != 1 || s.safe then s
  else s.localStore a (.internal 1) (.internal 1) data fullMask false

/-- A debug page, at an offset of its debug registers (R583). -/
def debugPage (addr : BitVec 24) : Bool := pageKind (addr.toNat / 4096) == some .dbg && decide (0x100 ≤ addr.toNat % 4096)

/-- A read of a debug register: what it holds is not described, and the word is a free value (R583, log 7); elsewhere zeros. -/
def State.debugPageRead (s : State) (addr : BitVec 24) : State :=
  if debugPage addr then
    let (v, s) := s.fresh
    s.emit (.debugWord (BitVec.ofNat 32 v))
  else s.emit (.debugWord 0)

/-- A write of a debug register: nothing that the model shows depends on it; it needs REG_WRITE (R450, R583). -/
def State.debugPageWrite (s : State) : State := if s.hasRight .debug 0 then s else s.deny

/-- A debug-class access (R453, R583). -/
def State.debugAccess (s : State) (a : DebugAccess) : State :=
  if !s.pages.started then s else
  match a with
  | .memRead f => s.debugRead f
  | .memWrite f d => s.debugWrite f d
  | .pageRead addr => s.debugPageRead addr
  | .pageWrite _ _ => s.debugPageWrite

/-! ### Commands -/

/-- UNLOCK_TOKEN (R466). -/
def execUnlockToken (serial chal : BitVec 64) (sigOk : Bool) (s : State) : Host.Outcome State Fault Refusal :=
  .next (s.withPins (fun s => (s.unlockToken serial chal sigOk).drain))

/-- CONSENT_WINDOW_EXPIRY (R469). -/
def execConsentWindowExpiry (s : State) : Host.Outcome State Fault Refusal := .next (if s.crs.window then s.closeConsent else s)

/-- DEBUG_ACCESS (R453, R583). -/
def execDebugAccess (a : DebugAccess) (s : State) : Host.Outcome State Fault Refusal :=
  .next (s.withPins (fun s => s.debugAccess a))

end Sys2Proof.Machine
end

