-- ==== Sys2Proof/Machine/HeadCmds.lean ====
section
/-! DEFINITION. The primary mailbox of a head (R412 to R417, R420 to R426; log 14, log 48). -/

namespace Sys2Proof.Machine

open Sys2Proof

/-! ### Return codes and delivery (R421, R422; log 14) -/

abbrev rcSuccess : Nat := 0x00
abbrev rcInvalidInput : Nat := 0x02
abbrev rcUnsupported : Nat := 0x03
abbrev rcInternal : Nat := 0x04
abbrev rcInvalidHandle : Nat := 0x0e
abbrev rcInvalidPa : Nat := 0x0f

/-- A mailbox command reaches the module: it runs, and the head is there with its link Active. -/
def State.mailbox (s : State) (h : Fin 64) (f : State → State) : State :=
  if s.pages.started && s.reaches (.mailbox h) then (f s).drain else s

/-- Answer a mailbox command. -/
def State.mboxRsp (s : State) (h : Fin 64) (rc : Nat) (p : Payload) : State := s.emit (.mailbox h rc p)

/-- A mailbox command that only reports. -/
def State.mboxGet (s : State) (h : Fin 64) (p : State → Payload) : State := s.mailbox h (fun s => s.mboxRsp h rcSuccess (p s))

/-- A command that HEAD_RIGHTS does not grant: Unsupported, and HEAD_ERR.DENIED counts (R422, R426, R429). -/
def State.mboxDenied (s : State) (h : Fin 64) : State := (s.headDenied h.val).mboxRsp h rcUnsupported []

/-! ### Event records (R421, R424, R425) -/

/-- The records of a log, oldest first. -/
def State.logOf (s : State) (h log : Nat) : List CxlRec := ((s.head h).logs.find log).getD []

/-- What a record reports. -/
def CxlRec.fields (r : CxlRec) : List Nat :=
  [r.hdl.toNat, r.kind.toNat, r.status.toNat, r.gsn.toNat, r.dpa.toNat, r.handle.toNat, r.count, r.seq, r.stamp.toNat]

/-- Get Event Records: flags (overflow, more), records missed, records returned, and up to 31 of them. -/
def State.eventPayload (s : State) (h log : Nat) : Payload :=
  let l := s.logOf h log
  let missed := (s.head h).logOvf.get 0 log
  [flag (missed != 0) + 2 * flag (decide (31 < l.length)), missed, min 31 l.length] ++ (l.take 31).flatMap CxlRec.fields

/-- Clear Event Records: the records named, or all of them where none is named; an unknown handle clears nothing. -/
def State.clearRecords (s : State) (h : Fin 64) (log : Nat) (handles : List (BitVec 16)) : State :=
  let l := s.logOf h.val log
  if handles.any (fun n => !l.any (fun r => r.hdl == n)) then s.mboxRsp h rcInvalidHandle []
  else
    let keep := if handles.isEmpty then [] else l.filter (fun r => !decide (r.hdl ∈ handles))
    let x := s.head h.val
    (s.setHead h.val { x with logs := x.logs.put log keep, logOvf := x.logOvf.del log }).mboxRsp h rcSuccess []

/-! ### Identity, health, logs (R421, R423) -/

/-- The opcodes that the mailbox accepts, in the order of R421. -/
def mailboxOpcodes : List Nat :=
  [0x0100, 0x0101, 0x0102, 0x0103, 0x0200, 0x0300, 0x0301, 0x0400, 0x0401, 0x4000, 0x4100, 0x4200, 0x4201, 0x4202, 0x4203, 0x4204,
   0x4300, 0x4301, 0x4302, 0x4800, 0x4801, 0x4802, 0x4803, 0xc000, 0xc001]

/-- The UUID of the Command Effects Log (log 14). -/
def celUuid : Nat := 0x0da9c0b5bf414b788f7996b1623b3f17

/-- Performance is degraded (R423). -/
def State.degraded (s : State) : Bool :=
  (List.range 16).any (fun j => s.groupState j != 0) || s.reduced || s.thm.req || s.thm.enf

/-- The hottest controller sensor, °C; −128 when none has been read (R423). -/
def State.deviceTemp (s : State) : Int :=
  (List.range 128).foldl (fun (m : Int) ch => max m (s.sensor ch).now.toInt) (-128)

/-- Corrected medium errors of the head's bound segments, volatile or persistent (R423). -/
def State.corrected (s : State) (h : Nat) (volatile : Bool) : Nat :=
  ((s.head h).binds.filter (fun (b : Gsn × Bool × Bool × Bool) => b.2.2.2 == volatile)).foldl
    (fun a (b : Gsn × Bool × Bool × Bool) => a + s.mch.corr.get 0 b.1.toNat) 0

/-- Get Health Info: maintenance needed, performance degraded, media not ready, life used in percent, device temperature modulo 2^16, dirty
shutdowns, corrected volatile and persistent errors (R423). -/
def State.health (s : State) (h : Nat) : Payload :=
  let life := s.wearOf.2 * 100 / max 1 (s.regFld 0x030 0x128 0 24)
  [flag s.headroomLow, flag s.degraded, flag (!s.mte.restored), life, (s.deviceTemp % 65536).toNat, s.ring 3, s.corrected h false, s.corrected h true]

/-- Set Shutdown State: bit h of counter ring 6 (R421, R532). -/
def State.setShutdown (s : State) (h : Fin 64) (dirty : Bool) : State :=
  if s.pantryDown then s.mboxRsp h rcInternal []
  else
    let v : BitVec 64 := BitVec.ofNat 64 (s.ring 6)
    let v := if dirty then v ||| oneBit 64 h.val else v &&& ~~~(oneBit 64 h.val)
    (s.setRing 6 v.toNat).mboxRsp h rcSuccess []

/-! ### Poison (R416, R417) -/

/-- Get Poison List: the overflow flag and timestamp, the count, and the DPAs of the lines that are bound. -/
def State.poisonList (s : State) (h : Nat) : Payload :=
  let x := s.head h
  let l := x.poison.filter (fun a => (x.slotOf (lineGsn a)).isSome)
  [flag x.poisonOvf, x.poisonOvfAt.toNat, l.length] ++ l.map (fun a => (x.dpaOf a).toNat)

/-- The line at a DPA that the head may write (R79, R81). -/
def State.dpaLine (s : State) (h : Nat) (dpa : Dpa) : Option LineAddr :=
  let e := (s.head h).extents.get 0 (dpa.toNat / 2 ^ 30)
  if dpa.toNat / 2 ^ 30 < 16383 && bitAt e 31 && bitAt e 30 then
    some (BitVec.ofNat 50 (fld e 0 26 * 2 ^ 24 + dpa.toNat % 2 ^ 30 / 64))
  else none

/-- A full-line store on behalf of a head, which no request of it waits for (R417). -/
def State.mailStore (s : State) (h : Fin 64) (a : LineAddr) (data : Line) (poison : Bool) : State :=
  let e := s.acted (lineGsn a)
  match e.st.toNat with
  | 1 => s.localStore a (.head h a) (.internal 2) data fullMask poison
  | 2 | 3 | 4 => s.offerRemote { blankRemote .store h 0 a with
      sender := .internal 2, dst := e.owner, epoch := e.epoch, data := data, mask := fullMask, poison := poison }
  | 5 => s
  | _ => s.invalidSeg (lineGsn a)

/-- Inject Poison and Clear Poison (R417, R426). -/
def State.poisonCmd (s : State) (h : Fin 64) (dpa : Dpa) (data : Line) (poison : Bool) : State :=
  if !s.headRight h.val 2 then s.mboxDenied h
  else if dpa.toNat % 64 ≠ 0 then s.mboxRsp h rcInvalidInput []
  else match s.dpaLine h.val dpa with
  | none => s.mboxRsp h rcInvalidPa []
  | some a => if s.safe then s.mboxRsp h rcInternal [] else (s.mailStore h a data poison).mboxRsp h rcSuccess []

/-! ### Dynamic capacity (R412 to R415) -/

/-- Get Dynamic Capacity Configuration: DPA base, decode length and the non-volatile flag of the eight regions (R412). -/
def dcConfig : Payload :=
  (List.range 8).flatMap (fun d => [d * 0x20000000000, if d = 7 then 2047 * 2 ^ 30 else 2 ^ 41, flag (decide (d < 4))])

/-- Signalling rate of a head rate code in units of 100 MT/s (R406, R428). -/
def headRate (code : Nat) : Nat := match code with | 0 => 25 | 1 => 80 | 2 => 160 | 3 => 320 | _ => 640

/-- Lanes of a head width code (R428). -/
def headLanes (code : Nat) : Nat := match code with | 1 => 1 | 2 => 2 | 3 => 4 | 4 => 8 | _ => 0

/-- The negotiated link bandwidth of a head in MB/s, one way, as signalled (R420, log 83). -/
def State.headBandwidth (s : State) (h : Nat) : Nat := headLanes (s.head h).width.toNat * headRate (s.head h).rate.toNat * 100 / 8

/-- The head's CDAT, which its DOE reports: for DC region `d` a DSMAS entry with DSMAD handle `d`, the DPA base and length and the
non-volatile flag, and a DSLBIS entry under the same handle with the read latency and the write latency in ns and the link bandwidth in
MB/s (R405, R412, R420). -/
def State.cdat (s : State) (h : Nat) : Payload :=
  (List.range 8).flatMap (fun d =>
    [d, d * 0x20000000000, if d = 7 then 2047 * 2 ^ 30 else 2 ^ 41, flag (decide (d < 4))] ++ [d, 300, 74, s.headBandwidth h])

/-- The GPF DVSEC of the device: the phase 2 duration in ms, and the phase 2 power in mW (R180, R418). -/
def State.gpfDvsec (s : State) (h : Nat) : Payload := [s.regFld (headPage h) 0x110 24 8, 650000]

/-- The accepted extents: DPA, GSN and key range of each (R413, R421). -/
def State.extentList (s : State) (h : Nat) : Payload :=
  let l := (s.head h).extents.filter (fun (e : Nat × Word) => bitAt e.2 31)
  l.length :: l.flatMap (fun (e : Nat × Word) => [e.1 * 2 ^ 30, fld e.2 0 26, s.keyRangeOf (fld e.2 0 26)])

/-- A DPA is that of an offer. -/
def Offer.at_ (o : Offer) (dpa : Dpa) : Bool := slotDpa o.slot.toNat == dpa

/-- Add Dynamic Capacity Response: the listed offers are accepted; the oldest offer, where it is not listed, is refused (R413, log 48). -/
def State.addDcRsp (s : State) (h : Fin 64) (dpas : List Dpa) : State :=
  let l := (s.head h.val).offers
  if dpas.any (fun d => !l.any (fun o => o.at_ d)) then s.mboxRsp h rcInvalidInput []
  else
    let listed (o : Offer) : Bool := dpas.any (fun d => o.at_ d)
    let s := s.each (l.filter listed) (fun s o => s.acceptOffer h.val o)
    let s := match l with
      | o :: _ => if listed o then s else s.dropOffer h.val o stDenied
      | [] => s
    s.mboxRsp h rcSuccess []

/-- An extent of the table at a DPA (R79). -/
def State.extentAt (s : State) (h : Nat) (dpa : Dpa) : Bool :=
  dpa.toNat % 2 ^ 30 == 0 && bitAt ((s.head h).extents.get 0 (dpa.toNat / 2 ^ 30)) 31

/-- An extent is released by the host: its entry is cleared, and the segment is unbound unless management software has unbound it
(R414). -/
def State.releaseExtent (s : State) (h : Nat) (dpa : Dpa) : State :=
  let slot := dpa.toNat / 2 ^ 30
  let gsn := fld ((s.head h).extents.get 0 slot) 0 26
  let asked := (s.head h).releasing.any (fun n => n.toNat == slot)
  let s := s.clearSlot h slot
  if asked then s else s.askUnbind h gsn

/-- Release Dynamic Capacity: Invalid Input for an extent that is not in the table (R414, R415). -/
def State.releaseDc (s : State) (h : Fin 64) (dpas : List Dpa) : State :=
  if !dpas.all (fun d => s.extentAt h.val d) || !dpas.Nodup then s.mboxRsp h rcInvalidInput []
  else (s.each dpas (fun s d => s.releaseExtent h.val d)).mboxRsp h rcSuccess []

/-! ### Lorlek commands (R422) -/

/-- LORLEK_EXEC. -/
def State.lorlekExec (s : State) (h : Fin 64) (words : List Word) : State :=
  if !s.headRight h.val 1 then s.mboxDenied h
  else if words.isEmpty || 128 < words.length || fld (words.getD 0 0) 8 8 ≠ words.length then s.mboxRsp h rcInvalidInput []
  else s.command (.mailbox h) false words

/-- The packets of a queue that fit into so many words, oldest first, and the rest. -/
def splitPackets : Nat → List (List Word) → List (List Word) × List (List Word)
  | _, [] => ([], [])
  | n, p :: t =>
    if p.length ≤ n then
      let r := splitPackets (n - p.length) t
      (p :: r.1, r.2)
    else ([], p :: t)

/-- LORLEK_COMPLETIONS: whole packets up to 4 KiB; packets that waited take the room (R422). -/
def State.lorlekCpl (s : State) (h : Fin 64) : State :=
  if !s.headRight h.val 1 then s.mboxDenied h
  else
    let x := s.head h.val
    let r := splitPackets 1024 x.cplQ
    ((s.setHead h.val { x with cplQ := r.2 }).mboxRsp h rcSuccess (r.1.flatMap (fun p => p.map BitVec.toNat))).admitHeadCpl h.val

/-! ### Commands -/

/-- GET_EVENT_RECORDS (R421, R424). -/
def execGetEventRecords (h : Fin 64) (log : Fin 5) (s : State) : Host.Outcome State Fault Refusal :=
  .next (s.mboxGet h (fun s => s.eventPayload h.val log.val))

/-- CLEAR_EVENT_RECORDS (R421). -/
def execClearEventRecords (h : Fin 64) (log : Fin 5) (handles : List (BitVec 16)) (s : State) : Host.Outcome State Fault Refusal :=
  .next (s.mailbox h (fun s => s.clearRecords h log.val handles))

/-- GET_EVENT_INTERRUPT_POLICY (R421). -/
def execGetEventInterruptPolicy (h : Fin 64) (s : State) : Host.Outcome State Fault Refusal :=
  .next (s.mboxGet h (fun s => [(s.head h.val).policy.toNat]))

/-- SET_EVENT_INTERRUPT_POLICY (R421). -/
def execSetEventInterruptPolicy (h : Fin 64) (policy : BitVec 40) (s : State) : Host.Outcome State Fault Refusal :=
  .next (s.mailbox h (fun s => (s.setHead h.val { s.head h.val with policy := policy }).mboxRsp h rcSuccess []))

/-- GET_FW_INFO: slots, the active slot, and the versions of slots 0 and 1 (R398, R421). -/
def execGetFwInfo (h : Fin 64) (s : State) : Host.Outcome State Fault Refusal :=
  .next (s.mboxGet h (fun s => [2, flag s.sve.running, s.sve.slot0.version.toNat, s.sve.slot1.version.toNat]))

/-- GET_TIMESTAMP (R421). -/
def execGetTimestamp (h : Fin 64) (s : State) : Host.Outcome State Fault Refusal :=
  .next (s.mboxGet h (fun s => [((s.head h.val).stampNow s.time.toNat).toNat]))

/-- SET_TIMESTAMP: module time is not changed (R421). -/
def execSetTimestamp (h : Fin 64) (t : BitVec 64) (s : State) : Host.Outcome State Fault Refusal :=
  .next (s.mailbox h (fun s =>
    (s.setHead h.val { s.head h.val with timestamp := t, stampAt := some s.time.toNat }).mboxRsp h rcSuccess []))

/-- GET_SUPPORTED_LOGS: the Command Effects Log only (R421). -/
def execGetSupportedLogs (h : Fin 64) (s : State) : Host.Outcome State Fault Refusal :=
  .next (s.mboxGet h (fun _ => [1, celUuid, 4 * mailboxOpcodes.length]))

/-- GET_LOG: an opcode and its effects for each command (R421). -/
def execGetLog (h : Fin 64) (s : State) : Host.Outcome State Fault Refusal :=
  .next (s.mboxGet h (fun _ => mailboxOpcodes.flatMap (fun o => [o, Config.celEffect o])))

/-- IDENTIFY_MEMORY_DEVICE: total, volatile and persistent capacity 0, LSA size 0, poison list size 2,048 (R421). -/
def execIdentifyMemoryDevice (h : Fin 64) (s : State) : Host.Outcome State Fault Refusal :=
  .next (s.mboxGet h (fun _ => [0, 0, 0, 0, 2048]))

/-- GET_PARTITION_INFO: every field 0 (R421). -/
def execGetPartitionInfo (h : Fin 64) (s : State) : Host.Outcome State Fault Refusal := .next (s.mboxGet h (fun _ => [0, 0, 0, 0]))

/-- GET_HEALTH_INFO (R423). -/
def execGetHealthInfo (h : Fin 64) (s : State) : Host.Outcome State Fault Refusal := .next (s.mboxGet h (fun s => s.health h.val))

/-- GET_ALERT_CONFIGURATION (R421). -/
def execGetAlertConfiguration (h : Fin 64) (s : State) : Host.Outcome State Fault Refusal :=
  .next (s.mboxGet h (fun s => [(s.head h.val).alerts.toNat]))

/-- SET_ALERT_CONFIGURATION (R421). -/
def execSetAlertConfiguration (h : Fin 64) (cfg : BitVec 96) (s : State) : Host.Outcome State Fault Refusal :=
  .next (s.mailbox h (fun s => (s.setHead h.val { s.head h.val with alerts := cfg }).mboxRsp h rcSuccess []))

/-- GET_SHUTDOWN_STATE (R421, R532). -/
def execGetShutdownState (h : Fin 64) (s : State) : Host.Outcome State Fault Refusal :=
  .next (s.mboxGet h (fun s => [s.ring 6 / 2 ^ h.val % 2]))

/-- SET_SHUTDOWN_STATE (R421, R532). -/
def execSetShutdownState (h : Fin 64) (dirty : Bool) (s : State) : Host.Outcome State Fault Refusal :=
  .next (s.withPins (fun s => s.mailbox h (fun s => s.setShutdown h dirty)))

/-- GET_POISON_LIST (R417). -/
def execGetPoisonList (h : Fin 64) (s : State) : Host.Outcome State Fault Refusal := .next (s.mboxGet h (fun s => s.poisonList h.val))

/-- INJECT_POISON (R417). -/
def execInjectPoison (h : Fin 64) (dpa : Dpa) (s : State) : Host.Outcome State Fault Refusal :=
  .next (s.withPins (fun s => s.mailbox h (fun s => s.poisonCmd h dpa 0 true)))

/-- CLEAR_POISON (R417). -/
def execClearPoison (h : Fin 64) (dpa : Dpa) (data : Line) (s : State) : Host.Outcome State Fault Refusal :=
  .next (s.withPins (fun s => s.mailbox h (fun s => s.poisonCmd h dpa data false)))

/-- GET_DC_CONFIGURATION: after a reset the bindings are offered again (R412, R415). -/
def execGetDcConfiguration (h : Fin 64) (s : State) : Host.Outcome State Fault Refusal :=
  .next (s.withPins (fun s => s.mailbox h (fun s => (s.mboxRsp h rcSuccess dcConfig).reofferAll h.val)))

/-- GET_DC_EXTENT_LIST (R413, R421). -/
def execGetDcExtentList (h : Fin 64) (s : State) : Host.Outcome State Fault Refusal := .next (s.mboxGet h (fun s => s.extentList h.val))

/-- ADD_DC_RESPONSE (R413). -/
def execAddDcResponse (h : Fin 64) (dpas : List Dpa) (s : State) : Host.Outcome State Fault Refusal :=
  .next (s.withPins (fun s => s.mailbox h (fun s => s.addDcRsp h dpas)))

/-- RELEASE_DYNAMIC_CAPACITY (R414, R415). -/
def execReleaseDynamicCapacity (h : Fin 64) (dpas : List Dpa) (s : State) : Host.Outcome State Fault Refusal :=
  .next (s.withPins (fun s => s.mailbox h (fun s => s.releaseDc h dpas)))

/-- MAILBOX_UNSUPPORTED (R421). -/
def execMailboxUnsupported (h : Fin 64) (_opcode : BitVec 16) (s : State) : Host.Outcome State Fault Refusal :=
  .next (s.mailbox h (fun s => s.mboxRsp h rcUnsupported []))

/-- LORLEK_EXEC (R422). -/
def execLorlekExec (h : Fin 64) (words : List Word) (s : State) : Host.Outcome State Fault Refusal :=
  .next (s.withPins (fun s => s.mailbox h (fun s => s.lorlekExec h words)))

/-- LORLEK_COMPLETIONS (R422). -/
def execLorlekCompletions (h : Fin 64) (s : State) : Host.Outcome State Fault Refusal :=
  .next (s.withPins (fun s => s.mailbox h (fun s => s.lorlekCpl h)))

end Sys2Proof.Machine
end

