-- ==== Sys2Proof/Machine/Recall.lean ====
section
/-! DEFINITION. The end of the pantry recall: what start-up takes from the pantry (R323, R349, R355, R443, R446, R465, R525, R532, R536,
R537, R605). -/

namespace Sys2Proof.Machine

open Sys2Proof

/-- A counter as recall found it: 0, its default, when no part could be read (R534). -/
def State.recalled (s : State) (n : Nat) : Nat := if s.pantryDown then 0 else s.ring n

/-- A stored parameter passes the check of a write of its register, access codes and rights apart (R536). -/
def paramOk (page off : Nat) (w : Word) : Bool :=
  match pageKind page, regWord page off with
  | some k, some r => r.rsvOk w && fieldsOk k off w
  | _, _ => false

/-- The stored parameter of a register; none when the pantry is down (R534, R536). -/
def State.param (s : State) (page off : Nat) : Option Word := if s.pantryDown then none else s.pan.params.find (regAddr page off)

/-- The fields of a register that are taken from its parameter (R536). -/
def State.takeParam (s : State) (e : Nat × Nat × Nat) : State :=
  let m := BitVec.ofNat 32 e.2.2
  match s.param e.1 e.2.1 with
  | some w => if paramOk e.1 e.2.1 w then s.setReg e.1 e.2.1 ((s.reg e.1 e.2.1 &&& ~~~m) ||| (w &&& m)) else s
  | none => s

/-- Some stored parameter is ignored (R536). -/
def State.paramBad (s : State) : Bool :=
  paramRegs.any (fun e => match s.param e.1 e.2.1 with | some w => !paramOk e.1 e.2.1 w | none => false)

/-- The blocks whose bifurcation is stored (R323). -/
def State.storedBifs (s : State) : List Nat :=
  (List.range 64).filter (fun b => match s.param (0x100 + b) 0x100 with | some w => paramOk (0x100 + b) 0x100 w | none => false)

/-- Start-up takes the parameters, and a port block with CXL gets its head (R536, R606). -/
def State.takeParams (s : State) : State :=
  let bad := s.paramBad
  let bifs := s.storedBifs
  let s := s.each paramRegs State.takeParam
  let s := { s with fxb := { s.fxb with bifSet := bifs } }
  let s := s.each s.headList (fun s h => s.setHead h { s.head h with st := 1 })
  if bad then s.raise 0x006 .panParamBad else s

/-- The stored key sets and the stored key range table come into force (R443, R446). -/
def State.takeKeys (s : State) : State :=
  if s.pantryDown then s else
  let s := s.each s.pan.keys (fun s (e : Nat × BitVec 16 × KeySet) => s.setKrange e.1 { st := 1, gen := e.2.1, keys := some e.2.2 })
  if s.pan.bases.isEmpty then s else { s with crs := { s.crs with bases := s.pan.bases, tblVer := s.pan.basesVer } }

/-- The counters: power cycles count up, numbering resumes, the device number wanted, the minimum SVN, and once after AON reset or
power-up the operating time (R355, R465, R525, R532, R605). -/
def State.takeCounters (s : State) : State :=
  let op := s.recalled 1
  let from_ := max s.flt.nextSeq (if s.pantryDown then s.seqAbove else s.ring 2)
  let s := s.setRing 0 (s.ring 0 + 1)
  let s := if s.pwr.opSet then s else { s with opMs := op * 1000, opNs := 0, pwr := { s.pwr with opSet := true } }
  { s with
    flt := { s.flt with nextSeq := from_, seqCeil := if from_ = s.flt.nextSeq then s.flt.seqCeil else from_ },
    fxb := { s.fxb with devnum := BitVec.ofNat 12 (s.recalled 5), serial := ownSerial },
    crs := { s.crs with minSvn := BitVec.ofNat 16 (s.recalled 4), idState := 2, rootOk := true } }

/-- The records kept during recall reach the event log, or the spill area when the pantry is down (R529, R537). -/
def State.copyLate (s : State) : State :=
  let l := s.pan.late
  ({ s with pan := { s.pan with late := [] } }).each l (fun (s : State) (r : Record) =>
    if s.pantryDown then
      let s := { s with flt := { s.flt with spillBuf := s.flt.spillBuf ++ [r] } }
      if 64 ≤ s.flt.spillBuf.length then s.programSpill else s
    else s.logRecord r)

/-- After an AON reset PWR_FLUSH is restored from the supervisor log: the newest flush or thermal shutdown that it holds. A record of an
emergency flush names no cause, which is a free value among 1 to 3 (R574, log 64). -/
def State.restoreFlush (s : State) : State :=
  if s.pantryDown || s.pwr.fcause != 0 then s else
  let l := s.pan.sup.vals
  let newest := l.foldl (fun (a : Option SupRec) r =>
    if (r.kind == 0x08 || r.kind == 0x0b) && a.all (fun x => decide (x.seq < r.seq)) then some r else a) none
  match newest with
  | none => s
  | some b =>
    let ended := l.find? (fun r => r.kind == (if b.kind = 0x08 then (0x09 : Byte) else 0x05) && decide (b.seq < r.seq))
    let (n, s) := s.fresh
    let mib := if b.kind = 0x08 then ended.elim 0 SupRec.value else 0
    let joules := if b.kind = 0x08 then ended.elim 0 SupRec.aux else 0
    { s with pwr := { s.pwr with fcause := if b.kind = 0x0b then 4 else BitVec.ofNat 3 (1 + n % 3), fdone := ended.isSome, fmib := mib,
                                 fenergy := BitVec.ofNat 10 joules } }

/-- The service cores start (R465). -/
def State.startCores (s : State) : State := s.each (List.range 8) (fun s n => s.setCore n { st := 1 })

/-- Recall ends: an unread part counts as failed, and the start-up steps that waited for it go on (R321, R537). -/
def State.recallDone (s : State) (unreadPa unreadPb : Bool) : State :=
  if !s.pan.recalling then s else
  let s := { s with pan := { s.pan with recalling := false, st := partState s.pan.paFailed s.pan.pbFailed } }
  let s := s.when_ unreadPa (fun s => s.failPart false)
  let s := s.when_ unreadPb (fun s => s.failPart true)
  let s := s.takeCounters.copyLate.takeParams.takeKeys.startCores.restoreFlush
  let s := s.raise 0x006 .panRecallDone
  s.each ((List.range 8).filter (fun c => (s.cage c).phase == 3)) State.startCage

/-- RECALL_DONE (R537). -/
def execRecallDone (unreadPa unreadPb : Bool) (s : State) : Host.Outcome State Fault Refusal :=
  .next (s.withPins (fun s => s.recallDone unreadPa unreadPb))

end Sys2Proof.Machine
end

