-- ==== Sys2Proof/Machine/Dispatch.lean ====
section
/-! DEFINITION. Which meaning each command has: one arm per row of the table of operations and events. -/

namespace Sys2Proof.Machine

open Sys2Proof

/-- A command's effect on everything but the queue. -/
def exec (i : Instr) (s : State) : Host.Outcome State Fault Refusal :=
  match i with
  | .cagePresenceAssert cage => Sys2Proof.Machine.execCagePresenceAssert cage s
  | .cagePresenceDebounceExpiry cage => Sys2Proof.Machine.execCagePresenceDebounceExpiry cage s
  | .cableIdentityReadDone cage bytes => Sys2Proof.Machine.execCableIdentityReadDone cage bytes s
  | .cableIdentityReadTimeout cage => Sys2Proof.Machine.execCableIdentityReadTimeout cage s
  | .cagePresenceDeassert cage => Sys2Proof.Machine.execCagePresenceDeassert cage s
  | .bladeSeatClose => Sys2Proof.Machine.execBladeSeatClose s
  | .bladeSeatOpen => Sys2Proof.Machine.execBladeSeatOpen s
  | .pwrEnRise => Sys2Proof.Machine.execPwrEnRise s
  | .pwrEnFall => Sys2Proof.Machine.execPwrEnFall s
  | .mrstNFall => Sys2Proof.Machine.execMrstNFall s
  | .mrstNRise straps => Sys2Proof.Machine.execMrstNRise straps s
  | .pfailNFall => Sys2Proof.Machine.execPfailNFall s
  | .spdHubReadDone socket spd => Sys2Proof.Machine.execSpdHubReadDone socket spd s
  | .spdHubReadTimeout socket => Sys2Proof.Machine.execSpdHubReadTimeout socket s
  | .holdupChargeTimeout => Sys2Proof.Machine.execHoldupChargeTimeout s
  | .cxlMemRead h hpa tag => Sys2Proof.Machine.execCxlMemRead h hpa tag s
  | .cxlMemWrite h hpa tag data mask poison => Sys2Proof.Machine.execCxlMemWrite h hpa tag data mask poison s
  | .cxlMemAtomic h hpa tag op size a b => Sys2Proof.Machine.execCxlMemAtomic h hpa tag op size a b s
  | .missFullWaitEnd sl => Sys2Proof.Machine.execMissFullWaitEnd sl s
  | .tierLookupDone line => Sys2Proof.Machine.execTierLookupDone line s
  | .mapLookupDone line => Sys2Proof.Machine.execMapLookupDone line s
  | .crumbReadDone ppa crumb o => Sys2Proof.Machine.execCrumbReadDone ppa crumb o s
  | .crumbReadTimeout ppa crumb => Sys2Proof.Machine.execCrumbReadTimeout ppa crumb s
  | .reconstructionDone ppa crumb mates => Sys2Proof.Machine.execReconstructionDone ppa crumb mates s
  | .lineCheckDone line => Sys2Proof.Machine.execLineCheckDone line s
  | .secondSourceReadDone line => Sys2Proof.Machine.execSecondSourceReadDone line s
  | .fillArrival line => Sys2Proof.Machine.execFillArrival line s
  | .laneEntryRelease sl uid => Sys2Proof.Machine.execLaneEntryRelease sl uid s
  | .mergeDrainAgeExpiry line => Sys2Proof.Machine.execMergeDrainAgeExpiry line s
  | .dtcLineAccept line => Sys2Proof.Machine.execDtcLineAccept line s
  | .pageFillDone lmp got => Sys2Proof.Machine.execPageFillDone lmp got s
  | .frameTransferDone lmp => Sys2Proof.Machine.execFrameTransferDone lmp s
  | .stageAgeExpiry lmp => Sys2Proof.Machine.execStageAgeExpiry lmp s
  | .fillWindowBoundary => Sys2Proof.Machine.execFillWindowBoundary s
  | .stripeGatherTimeout => Sys2Proof.Machine.execStripeGatherTimeout s
  | .stripeIssue g => Sys2Proof.Machine.execStripeIssue g s
  | .programDone stripe => Sys2Proof.Machine.execProgramDone stripe s
  | .programFailure stripe die => Sys2Proof.Machine.execProgramFailure stripe die s
  | .eraseDone block => Sys2Proof.Machine.execEraseDone block s
  | .eraseFailure block => Sys2Proof.Machine.execEraseFailure block s
  | .resumeIdleExpiry die => Sys2Proof.Machine.execResumeIdleExpiry die s
  | .busCrcFail ch => Sys2Proof.Machine.execBusCrcFail ch s
  | .localServiceTimeout k line => Sys2Proof.Machine.execLocalServiceTimeout k line s
  | .remoteRequestTimeout tag => Sys2Proof.Machine.execRemoteRequestTimeout tag s
  | .fabricDeliveryTimeout dev => Sys2Proof.Machine.execFabricDeliveryTimeout dev s
  | .barrierWrite h kind tag => Sys2Proof.Machine.execBarrierWrite h kind tag s
  | .barrierComplete h => Sys2Proof.Machine.execBarrierComplete h s
  | .gpfPhase1 h => Sys2Proof.Machine.execGpfPhase1 h s
  | .gpfPhase2 h => Sys2Proof.Machine.execGpfPhase2 h s
  | .gpfTimeout h => Sys2Proof.Machine.execGpfTimeout h s
  | .regionCommit q => Sys2Proof.Machine.execRegionCommit q s
  | .regionCommitQuiesceTimeout => Sys2Proof.Machine.execRegionCommitQuiesceTimeout s
  | .regionCommitRetry => Sys2Proof.Machine.execRegionCommitRetry s
  | .discard q tag fga lines => Sys2Proof.Machine.execDiscard q tag fga lines s
  | .slcLcEnableWrite q sl w => Sys2Proof.Machine.execSlcLcEnableWrite q sl w s
  | .slcInvalidateStart q sl w => Sys2Proof.Machine.execSlcInvalidateStart q sl w s
  | .invalidationDone sl => Sys2Proof.Machine.execInvalidationDone sl s
  | .slcLockCommit sl => Sys2Proof.Machine.execSlcLockCommit sl s
  | .slcPreload q sl w => Sys2Proof.Machine.execSlcPreload q sl w s
  | .preloadDone sl grp => Sys2Proof.Machine.execPreloadDone sl grp s
  | .pbSramUe sl at_ => Sys2Proof.Machine.execPbSramUe sl at_ s
  | .sliceFence sl => Sys2Proof.Machine.execSliceFence sl s
  | .channelTrainingDone c => Sys2Proof.Machine.execChannelTrainingDone c s
  | .channelTrainingTimeout c => Sys2Proof.Machine.execChannelTrainingTimeout c s
  | .dimmThermalRound temps => Sys2Proof.Machine.execDimmThermalRound temps s
  | .dimmReread temps => Sys2Proof.Machine.execDimmReread temps s
  | .readmitTimeExpiry => Sys2Proof.Machine.execReadmitTimeExpiry s
  | .dramError c e => Sys2Proof.Machine.execDramError c e s
  | .patrolScrubPass => Sys2Proof.Machine.execPatrolScrubPass s
  | .channelFence c cause => Sys2Proof.Machine.execChannelFence c cause s
  | .dtcChFence q c => Sys2Proof.Machine.execDtcChFence q c s
  | .dtcChReadmit q c => Sys2Proof.Machine.execDtcChReadmit q c s
  | .reformDrainEnd => Sys2Proof.Machine.execReformDrainEnd s
  | .reformFreezeEnd => Sys2Proof.Machine.execReformFreezeEnd s
  | .reformRelocateEnd => Sys2Proof.Machine.execReformRelocateEnd s
  | .reformTimeout => Sys2Proof.Machine.execReformTimeout s
  | .holdMeas v0 v1 v2 => Sys2Proof.Machine.execHoldMeas v0 v1 v2 s
  | .driftSurveyStart => Sys2Proof.Machine.execDriftSurveyStart s
  | .survey => Sys2Proof.Machine.execSurvey s
  | .mediaThermalRound => Sys2Proof.Machine.execMediaThermalRound s
  | .mchGrpmodeCommit => Sys2Proof.Machine.execMchGrpmodeCommit s
  | .modeMoveEnd g => Sys2Proof.Machine.execModeMoveEnd g s
  | .mchChFence q ch => Sys2Proof.Machine.execMchChFence q ch s
  | .mchChDiefence q ch dies => Sys2Proof.Machine.execMchChDiefence q ch dies s
  | .wsnReserve => Sys2Proof.Machine.execWsnReserve s
  | .wsnReserveDurable => Sys2Proof.Machine.execWsnReserveDurable s
  | .journalFlushExpiry => Sys2Proof.Machine.execJournalFlushExpiry s
  | .journalStripeProgrammed => Sys2Proof.Machine.execJournalStripeProgrammed s
  | .checkpointWrite step => Sys2Proof.Machine.execCheckpointWrite step s
  | .startupBlockScanEnd => Sys2Proof.Machine.execStartupBlockScanEnd s
  | .startupJournalLocateEnd => Sys2Proof.Machine.execStartupJournalLocateEnd s
  | .startupImageLoadEnd => Sys2Proof.Machine.execStartupImageLoadEnd s
  | .startupMapLoadEnd => Sys2Proof.Machine.execStartupMapLoadEnd s
  | .startupReplayEnd => Sys2Proof.Machine.execStartupReplayEnd s
  | .startupTailScanEnd => Sys2Proof.Machine.execStartupTailScanEnd s
  | .fullRebuild => Sys2Proof.Machine.execFullRebuild s
  | .settle => Sys2Proof.Machine.execSettle s
  | .scraperVictimSelect g => Sys2Proof.Machine.execScraperVictimSelect g s
  | .relocationProgrammed setid => Sys2Proof.Machine.execRelocationProgrammed setid s
  | .setReleaseDurable setid => Sys2Proof.Machine.execSetReleaseDurable setid s
  | .rewindMark q tag region => Sys2Proof.Machine.execRewindMark q tag region s
  | .rewindMarkHoldEnd region => Sys2Proof.Machine.execRewindMarkHoldEnd region s
  | .rwMarkDurable region => Sys2Proof.Machine.execRwMarkDurable region s
  | .rewindMarkHoldTimeout region => Sys2Proof.Machine.execRewindMarkHoldTimeout region s
  | .rewindTo q tag region epoch => Sys2Proof.Machine.execRewindTo q tag region epoch s
  | .rewindToQuiesceEnd region => Sys2Proof.Machine.execRewindToQuiesceEnd region s
  | .rwVoidDurable region => Sys2Proof.Machine.execRwVoidDurable region s
  | .rwDoneDurable region => Sys2Proof.Machine.execRwDoneDurable region s
  | .rewindQuiesceTimeout region => Sys2Proof.Machine.execRewindQuiesceTimeout region s
  | .rewindDrop q tag region epoch => Sys2Proof.Machine.execRewindDrop q tag region epoch s
  | .mirrorConfirmTimeout region => Sys2Proof.Machine.execMirrorConfirmTimeout region s
  | .elvucTrainStart port => Sys2Proof.Machine.execElvucTrainStart port s
  | .ts1 port b => Sys2Proof.Machine.execTs1 port b s
  | .ts2 port b => Sys2Proof.Machine.execTs2 port b s
  | .equalisationRequest port preset => Sys2Proof.Machine.execEqualisationRequest port preset s
  | .equalisationDone port => Sys2Proof.Machine.execEqualisationDone port s
  | .verifyEnd port pass => Sys2Proof.Machine.execVerifyEnd port pass s
  | .trainingTimeout port => Sys2Proof.Machine.execTrainingTimeout port s
  | .trainingRetryExpiry port => Sys2Proof.Machine.execTrainingRetryExpiry port s
  | .dataFlit port f => Sys2Proof.Machine.execDataFlit port f s
  | .idleFlit port f => Sys2Proof.Machine.execIdleFlit port f s
  | .nakFlit port f => Sys2Proof.Machine.execNakFlit port f s
  | .clearFlit port f => Sys2Proof.Machine.execClearFlit port f s
  | .replayTimerExpiry port => Sys2Proof.Machine.execReplayTimerExpiry port s
  | .ackIdleDue port => Sys2Proof.Machine.execAckIdleDue port s
  | .recoveryEnd port ok => Sys2Proof.Machine.execRecoveryEnd port ok s
  | .alignmentLoss port => Sys2Proof.Machine.execAlignmentLoss port s
  | .rd m fga => Sys2Proof.Machine.execRd m fga s
  | .wr m fga mask data => Sys2Proof.Machine.execWr m fga mask data s
  | .atom m fga op size a b => Sys2Proof.Machine.execAtom m fga op size a b s
  | .barrier m kind => Sys2Proof.Machine.execBarrier m kind s
  | .gpf m => Sys2Proof.Machine.execGpf m s
  | .rdData m data poison => Sys2Proof.Machine.execRdData m data poison s
  | .wrStat m point later => Sys2Proof.Machine.execWrStat m point later s
  | .atomData m old => Sys2Proof.Machine.execAtomData m old s
  | .barrierDone m => Sys2Proof.Machine.execBarrierDone m s
  | .gpfDone m => Sys2Proof.Machine.execGpfDone m s
  | .retry m => Sys2Proof.Machine.execRetry m s
  | .esqAck m => Sys2Proof.Machine.execEsqAck m s
  | .err m => Sys2Proof.Machine.execErr m s
  | .blkData m line lines reqDev => Sys2Proof.Machine.execBlkData m line lines reqDev s
  | .esqAckDue dev => Sys2Proof.Machine.execEsqAckDue dev s
  | .e2eResendExpiry dev => Sys2Proof.Machine.execE2eResendExpiry dev s
  | .hello port x => Sys2Proof.Machine.execHello port x s
  | .lsa port x => Sys2Proof.Machine.execLsa port x s
  | .devReq port serial inst wanted => Sys2Proof.Machine.execDevReq port serial inst wanted s
  | .devGrant port serial dev cust => Sys2Proof.Machine.execDevGrant port serial dev cust s
  | .tree port root epoch => Sys2Proof.Machine.execTree port root epoch s
  | .linkTrickle port accept => Sys2Proof.Machine.execLinkTrickle port accept s
  | .linkWake port => Sys2Proof.Machine.execLinkWake port s
  | .trickleIdleExpiry port => Sys2Proof.Machine.execTrickleIdleExpiry port s
  | .trickleExitTimeout port => Sys2Proof.Machine.execTrickleExitTimeout port s
  | .refreshInterval => Sys2Proof.Machine.execRefreshInterval s
  | .lsaExpire serial => Sys2Proof.Machine.execLsaExpire serial s
  | .electionSettleExpiry => Sys2Proof.Machine.execElectionSettleExpiry s
  | .devReqRepeat => Sys2Proof.Machine.execDevReqRepeat s
  | .routeHolddownExpiry => Sys2Proof.Machine.execRouteHolddownExpiry s
  | .oldEscapeExpiry => Sys2Proof.Machine.execOldEscapeExpiry s
  | .prtCtlRetrain q p w => Sys2Proof.Machine.execPrtCtlRetrain q p w s
  | .fxbFabidCommit => Sys2Proof.Machine.execFxbFabidCommit s
  | .gstReq m g => Sys2Proof.Machine.execGstReq m g s
  | .gstRsp m gsn owner handle => Sys2Proof.Machine.execGstRsp m gsn owner handle s
  | .gstUpd port ver row gsn => Sys2Proof.Machine.execGstUpd port ver row gsn s
  | .gstAck m ver => Sys2Proof.Machine.execGstAck m ver s
  | .gstSync m first count ver => Sys2Proof.Machine.execGstSync m first count ver s
  | .gstClaim m c => Sys2Proof.Machine.execGstClaim m c s
  | .standbyAckTimeout dev => Sys2Proof.Machine.execStandbyAckTimeout dev s
  | .gstGapTimeout => Sys2Proof.Machine.execGstGapTimeout s
  | .claimWindowExpiry => Sys2Proof.Machine.execClaimWindowExpiry s
  | .prepareTimeout gsn => Sys2Proof.Machine.execPrepareTimeout gsn s
  | .pageCtl m page kind => Sys2Proof.Machine.execPageCtl m page kind s
  | .pageAck m page => Sys2Proof.Machine.execPageAck m page s
  | .migrationCopyEnd gsn => Sys2Proof.Machine.execMigrationCopyEnd gsn s
  | .convergePassEnd gsn => Sys2Proof.Machine.execConvergePassEnd gsn s
  | .switchReady m gsn => Sys2Proof.Machine.execSwitchReady m gsn s
  | .switchTimeout gsn => Sys2Proof.Machine.execSwitchTimeout gsn s
  | .switchReadyResend gsn => Sys2Proof.Machine.execSwitchReadyResend gsn s
  | .switchCommitApplied gsn => Sys2Proof.Machine.execSwitchCommitApplied gsn s
  | .drainQuietExpiry gsn => Sys2Proof.Machine.execDrainQuietExpiry gsn s
  | .lineAck m line => Sys2Proof.Machine.execLineAck m line s
  | .copyEnd m kind => Sys2Proof.Machine.execCopyEnd m kind s
  | .lagBoundReached gsn => Sys2Proof.Machine.execLagBoundReached gsn s
  | .lineUpdateAckTimeout gsn => Sys2Proof.Machine.execLineUpdateAckTimeout gsn s
  | .remirrorDelayExpiry gsn => Sys2Proof.Machine.execRemirrorDelayExpiry gsn s
  | .rwMarker m region epoch => Sys2Proof.Machine.execRwMarker m region epoch s
  | .rwFwd m op region epoch => Sys2Proof.Machine.execRwFwd m op region epoch s
  | .rwConf m => Sys2Proof.Machine.execRwConf m s
  | .leaseLost => Sys2Proof.Machine.execLeaseLost s
  | .dedupEntryExpiry dev tag => Sys2Proof.Machine.execDedupEntryExpiry dev tag s
  | .fwChunk m off ver bytes => Sys2Proof.Machine.execFwChunk m off ver bytes s
  | .fwuCtl m step ver len => Sys2Proof.Machine.execFwuCtl m step ver len s
  | .fwuDone m activated => Sys2Proof.Machine.execFwuDone m activated s
  | .fwActivationWaitExpiry => Sys2Proof.Machine.execFwActivationWaitExpiry s
  | .fwActivationTimeout dev => Sys2Proof.Machine.execFwActivationTimeout dev s
  | .headLinkTrained h width rate => Sys2Proof.Machine.execHeadLinkTrained h width rate s
  | .headLinkDown h => Sys2Proof.Machine.execHeadLinkDown h s
  | .l0pWidthChange h width => Sys2Proof.Machine.execL0pWidthChange h width s
  | .hdmDecoderCommit h d cfg => Sys2Proof.Machine.execHdmDecoderCommit h d cfg s
  | .conventionalReset h => Sys2Proof.Machine.execConventionalReset h s
  | .hotReset h => Sys2Proof.Machine.execHotReset h s
  | .functionLevelReset h => Sys2Proof.Machine.execFunctionLevelReset h s
  | .ideFail h => Sys2Proof.Machine.execIdeFail h s
  | .dcAddTimeout h slot => Sys2Proof.Machine.execDcAddTimeout h slot s
  | .dcReleaseTimeout h slot => Sys2Proof.Machine.execDcReleaseTimeout h slot s
  | .getEventRecords h log => Sys2Proof.Machine.execGetEventRecords h log s
  | .clearEventRecords h log handles => Sys2Proof.Machine.execClearEventRecords h log handles s
  | .getEventInterruptPolicy h => Sys2Proof.Machine.execGetEventInterruptPolicy h s
  | .setEventInterruptPolicy h policy => Sys2Proof.Machine.execSetEventInterruptPolicy h policy s
  | .getFwInfo h => Sys2Proof.Machine.execGetFwInfo h s
  | .getTimestamp h => Sys2Proof.Machine.execGetTimestamp h s
  | .setTimestamp h t => Sys2Proof.Machine.execSetTimestamp h t s
  | .getSupportedLogs h => Sys2Proof.Machine.execGetSupportedLogs h s
  | .getLog h => Sys2Proof.Machine.execGetLog h s
  | .identifyMemoryDevice h => Sys2Proof.Machine.execIdentifyMemoryDevice h s
  | .getPartitionInfo h => Sys2Proof.Machine.execGetPartitionInfo h s
  | .getHealthInfo h => Sys2Proof.Machine.execGetHealthInfo h s
  | .getAlertConfiguration h => Sys2Proof.Machine.execGetAlertConfiguration h s
  | .setAlertConfiguration h cfg => Sys2Proof.Machine.execSetAlertConfiguration h cfg s
  | .getShutdownState h => Sys2Proof.Machine.execGetShutdownState h s
  | .setShutdownState h dirty => Sys2Proof.Machine.execSetShutdownState h dirty s
  | .getPoisonList h => Sys2Proof.Machine.execGetPoisonList h s
  | .injectPoison h dpa => Sys2Proof.Machine.execInjectPoison h dpa s
  | .clearPoison h dpa data => Sys2Proof.Machine.execClearPoison h dpa data s
  | .getDcConfiguration h => Sys2Proof.Machine.execGetDcConfiguration h s
  | .getDcExtentList h => Sys2Proof.Machine.execGetDcExtentList h s
  | .addDcResponse h dpas => Sys2Proof.Machine.execAddDcResponse h dpas s
  | .releaseDynamicCapacity h dpas => Sys2Proof.Machine.execReleaseDynamicCapacity h dpas s
  | .mailboxUnsupported h opcode => Sys2Proof.Machine.execMailboxUnsupported h opcode s
  | .lorlekExec h words => Sys2Proof.Machine.execLorlekExec h words s
  | .lorlekCompletions h => Sys2Proof.Machine.execLorlekCompletions h s
  | .kxOffer port key nonce => Sys2Proof.Machine.execKxOffer port key nonce s
  | .kxCert port c => Sys2Proof.Machine.execKxCert port c s
  | .kxProof port ok => Sys2Proof.Machine.execKxProof port ok s
  | .kxDone port => Sys2Proof.Machine.execKxDone port s
  | .linkAuth port => Sys2Proof.Machine.execLinkAuth port s
  | .rekeyIntervalExpiry port => Sys2Proof.Machine.execRekeyIntervalExpiry port s
  | .krTable m ver bases => Sys2Proof.Machine.execKrTable m ver bases s
  | .krPush m r gen erase keys => Sys2Proof.Machine.execKrPush m r gen erase keys s
  | .krAck m r gen status => Sys2Proof.Machine.execKrAck m r gen status s
  | .krPull m => Sys2Proof.Machine.execKrPull m s
  | .keyWaitExpiry => Sys2Proof.Machine.execKeyWaitExpiry s
  | .keySlotParityFail r => Sys2Proof.Machine.execKeySlotParityFail r s
  | .keyFenced r => Sys2Proof.Machine.execKeyFenced r s
  | .getVersion p => Sys2Proof.Machine.execGetVersion p s
  | .getCapabilities p => Sys2Proof.Machine.execGetCapabilities p s
  | .negotiateAlgorithms p => Sys2Proof.Machine.execNegotiateAlgorithms p s
  | .getDigests p => Sys2Proof.Machine.execGetDigests p s
  | .getCertificate p slot => Sys2Proof.Machine.execGetCertificate p slot s
  | .challenge p slot => Sys2Proof.Machine.execChallenge p slot s
  | .getMeasurements p index => Sys2Proof.Machine.execGetMeasurements p index s
  | .keyExchange p => Sys2Proof.Machine.execKeyExchange p s
  | .finish p session => Sys2Proof.Machine.execFinish p session s
  | .heartbeat p session => Sys2Proof.Machine.execHeartbeat p session s
  | .keyUpdate p session => Sys2Proof.Machine.execKeyUpdate p session s
  | .endSession p session => Sys2Proof.Machine.execEndSession p session s
  | .setCertificate q slot c => Sys2Proof.Machine.execSetCertificate q slot c s
  | .spdmUnsupportedRequest p code => Sys2Proof.Machine.execSpdmUnsupportedRequest p code s
  | .ideKmQuery h => Sys2Proof.Machine.execIdeKmQuery h s
  | .ideKmKeyProg h set mem key => Sys2Proof.Machine.execIdeKmKeyProg h set mem key s
  | .ideKmKSetGo h set mem => Sys2Proof.Machine.execIdeKmKSetGo h set mem s
  | .ideKmKSetStop h set mem => Sys2Proof.Machine.execIdeKmKSetStop h set mem s
  | .setEndpointId eid => Sys2Proof.Machine.execSetEndpointId eid s
  | .getEndpointId => Sys2Proof.Machine.execGetEndpointId s
  | .getMctpVersionSupport => Sys2Proof.Machine.execGetMctpVersionSupport s
  | .getMessageTypeSupport => Sys2Proof.Machine.execGetMessageTypeSupport s
  | .getEndpointUuid => Sys2Proof.Machine.execGetEndpointUuid s
  | .mctpPacket p => Sys2Proof.Machine.execMctpPacket p s
  | .crsTestConsent q w => Sys2Proof.Machine.execCrsTestConsent q w s
  | .unlockToken serial chal sigOk => Sys2Proof.Machine.execUnlockToken serial chal sigOk s
  | .consentWindowExpiry => Sys2Proof.Machine.execConsentWindowExpiry s
  | .bootMonitorCheck core => Sys2Proof.Machine.execBootMonitorCheck core s
  | .enec ev => Sys2Proof.Machine.execEnec ev s
  | .disec ev => Sys2Proof.Machine.execDisec ev s
  | .rstdaa => Sys2Proof.Machine.execRstdaa s
  | .entdaa addr => Sys2Proof.Machine.execEntdaa addr s
  | .setdasa stat addr => Sys2Proof.Machine.execSetdasa stat addr s
  | .setnewda addr => Sys2Proof.Machine.execSetnewda addr s
  | .setmwl len => Sys2Proof.Machine.execSetmwl len s
  | .setmrl len => Sys2Proof.Machine.execSetmrl len s
  | .getmwl => Sys2Proof.Machine.execGetmwl s
  | .getmrl => Sys2Proof.Machine.execGetmrl s
  | .getpid => Sys2Proof.Machine.execGetpid s
  | .getbcr => Sys2Proof.Machine.execGetbcr s
  | .getdcr => Sys2Proof.Machine.execGetdcr s
  | .getstatus => Sys2Proof.Machine.execGetstatus s
  | .getmxds => Sys2Proof.Machine.execGetmxds s
  | .getcaps => Sys2Proof.Machine.execGetcaps s
  | .enthdr0 => Sys2Proof.Machine.execEnthdr0 s
  | .unsupportedCcc code => Sys2Proof.Machine.execUnsupportedCcc code s
  | .hotJoinRepeat => Sys2Proof.Machine.execHotJoinRepeat s
  | .ibiResend => Sys2Proof.Machine.execIbiResend s
  | .write addr words trailing => Sys2Proof.Machine.execWrite addr words trailing s
  | .setRead addr count => Sys2Proof.Machine.execSetRead addr count s
  | .privateRead stopAfter => Sys2Proof.Machine.execPrivateRead stopAfter s
  | .cmdPush words => Sys2Proof.Machine.execCmdPush words s
  | .cplPop => Sys2Proof.Machine.execCplPop s
  | .badOp op => Sys2Proof.Machine.execBadOp op s
  | .mgtCmdPushWrite h w => Sys2Proof.Machine.execMgtCmdPushWrite h w s
  | .mgtCmdLastWrite h w => Sys2Proof.Machine.execMgtCmdLastWrite h w s
  | .mgtCplHeadRead q => Sys2Proof.Machine.execMgtCplHeadRead q s
  | .completionHoldExpiry h => Sys2Proof.Machine.execCompletionHoldExpiry h s
  | .cmdAbandon => Sys2Proof.Machine.execCmdAbandon s
  | .cplAbandon => Sys2Proof.Machine.execCplAbandon s
  | .nop q tag => Sys2Proof.Machine.execNop q tag s
  | .handleQuery q tag handle => Sys2Proof.Machine.execHandleQuery q tag handle s
  | .segAlloc q tag w1 w2 => Sys2Proof.Machine.execSegAlloc q tag w1 w2 s
  | .segFree q tag gsn => Sys2Proof.Machine.execSegFree q tag gsn s
  | .segBind q tag gsn w2 => Sys2Proof.Machine.execSegBind q tag gsn w2 s
  | .segUnbind q tag gsn w2 => Sys2Proof.Machine.execSegUnbind q tag gsn w2 s
  | .segMigrate q tag gsn w2 => Sys2Proof.Machine.execSegMigrate q tag gsn w2 s
  | .segEvacuate q tag w1 => Sys2Proof.Machine.execSegEvacuate q tag w1 s
  | .mirrorSet q tag w1 w2 => Sys2Proof.Machine.execMirrorSet q tag w1 w2 s
  | .segRecover q tag gsn => Sys2Proof.Machine.execSegRecover q tag gsn s
  | .segAbort q tag gsn => Sys2Proof.Machine.execSegAbort q tag gsn s
  | .krSet q tag bases => Sys2Proof.Machine.execKrSet q tag bases s
  | .keyGen q tag range => Sys2Proof.Machine.execKeyGen q tag range s
  | .keyImport q tag secured range keys => Sys2Proof.Machine.execKeyImport q tag secured range keys s
  | .keyErase q tag range => Sys2Proof.Machine.execKeyErase q tag range s
  | .fwLoad q tag off words => Sys2Proof.Machine.execFwLoad q tag off words s
  | .fwStart q tag len => Sys2Proof.Machine.execFwStart q tag len s
  | .fwAbort q tag => Sys2Proof.Machine.execFwAbort q tag s
  | .powerProfile q tag w1 => Sys2Proof.Machine.execPowerProfile q tag w1 s
  | .powerState q tag w1 => Sys2Proof.Machine.execPowerState q tag w1 s
  | .moduleReset q tag => Sys2Proof.Machine.execModuleReset q tag s
  | .sanitize q tag => Sys2Proof.Machine.execSanitize q tag s
  | .sanitizeDone => Sys2Proof.Machine.execSanitizeDone s
  | .paramSave q tag pwd => Sys2Proof.Machine.execParamSave q tag pwd s
  | .paramDefault q tag pwd => Sys2Proof.Machine.execParamDefault q tag pwd s
  | .evlogClear q tag pwd => Sys2Proof.Machine.execEvlogClear q tag pwd s
  | .ctrlCommit q page => Sys2Proof.Machine.execCtrlCommit q page s
  | .ctrlLock q page => Sys2Proof.Machine.execCtrlLock q page s
  | .ctrlReset q page => Sys2Proof.Machine.execCtrlReset q page s
  | .ctrlRun q page run => Sys2Proof.Machine.execCtrlRun q page run s
  | .quiesceDone page => Sys2Proof.Machine.execQuiesceDone page s
  | .evtStatW1c q page hi w => Sys2Proof.Machine.execEvtStatW1c q page hi w s
  | .evtForceWrite q page hi w => Sys2Proof.Machine.execEvtForceWrite q page hi w s
  | .perfCtlClear q page w => Sys2Proof.Machine.execPerfCtlClear q page w s
  | .freezeAll q on => Sys2Proof.Machine.execFreezeAll q on s
  | .clearAll q => Sys2Proof.Machine.execClearAll q s
  | .registerWrite q addr width w => Sys2Proof.Machine.execRegisterWrite q addr width w s
  | .eventSourceLatch => Sys2Proof.Machine.execEventSourceLatch s
  | .fenceReactionEnd dom inst => Sys2Proof.Machine.execFenceReactionEnd dom inst s
  | .consequentialWindowExpiry dom inst => Sys2Proof.Machine.execConsequentialWindowExpiry dom inst s
  | .recordHoldoffExpiry src => Sys2Proof.Machine.execRecordHoldoffExpiry src s
  | .safeState cause => Sys2Proof.Machine.execSafeState cause s
  | .safeFlushEnd => Sys2Proof.Machine.execSafeFlushEnd s
  | .safeFlushTimeout => Sys2Proof.Machine.execSafeFlushTimeout s
  | .fltInjWrite q w => Sys2Proof.Machine.execFltInjWrite q w s
  | .evrCursorWrite q w => Sys2Proof.Machine.execEvrCursorWrite q w s
  | .evrNextNext q => Sys2Proof.Machine.execEvrNextNext q s
  | .evrNextOldest q => Sys2Proof.Machine.execEvrNextOldest q s
  | .evrNextNewest q => Sys2Proof.Machine.execEvrNextNewest q s
  | .spillPageExpiry => Sys2Proof.Machine.execSpillPageExpiry s
  | .pantryWrite key value fails => Sys2Proof.Machine.execPantryWrite key value fails s
  | .pantryRecall => Sys2Proof.Machine.execPantryRecall s
  | .recallDone unreadPa unreadPb => Sys2Proof.Machine.execRecallDone unreadPa unreadPb s
  | .opsecWriteExpiry => Sys2Proof.Machine.execOpsecWriteExpiry s
  | .unlockRead q => Sys2Proof.Machine.execUnlockRead q s
  | .unlockWrite q => Sys2Proof.Machine.execUnlockWrite q s
  | .setReadPassword q => Sys2Proof.Machine.execSetReadPassword q s
  | .setWritePassword q => Sys2Proof.Machine.execSetWritePassword q s
  | .lockUnlocks q => Sys2Proof.Machine.execLockUnlocks q s
  | .passwordHoldExpiry => Sys2Proof.Machine.execPasswordHoldExpiry s
  | .adcScanRound mv => Sys2Proof.Machine.execAdcScanRound mv s
  | .sequencerStepDone => Sys2Proof.Machine.execSequencerStepDone s
  | .sequencerStepTimeout ch => Sys2Proof.Machine.execSequencerStepTimeout ch s
  | .minOffTimeExpiry => Sys2Proof.Machine.execMinOffTimeExpiry s
  | .powerUpStart => Sys2Proof.Machine.execPowerUpStart s
  | .orderlyFlushEnd => Sys2Proof.Machine.execOrderlyFlushEnd s
  | .orderlyFlushTimeout => Sys2Proof.Machine.execOrderlyFlushTimeout s
  | .inputTrip high => Sys2Proof.Machine.execInputTrip high s
  | .flushDrainEnd => Sys2Proof.Machine.execFlushDrainEnd s
  | .flushProgramEnd => Sys2Proof.Machine.execFlushProgramEnd s
  | .flushJournalEnd energyJ => Sys2Proof.Machine.execFlushJournalEnd energyJ s
  | .flushReleasePhaseEnd => Sys2Proof.Machine.execFlushReleasePhaseEnd s
  | .flushShort => Sys2Proof.Machine.execFlushShort s
  | .holdupMeasureSchedule => Sys2Proof.Machine.execHoldupMeasureSchedule s
  | .cappedLoopTick watts => Sys2Proof.Machine.execCappedLoopTick watts s
  | .autoIdleEntry => Sys2Proof.Machine.execAutoIdleEntry s
  | .domainUngate dom => Sys2Proof.Machine.execDomainUngate dom s
  | .domainRegate dom => Sys2Proof.Machine.execDomainRegate dom s
  | .deepIdleWake => Sys2Proof.Machine.execDeepIdleWake s
  | .thermalRound temps => Sys2Proof.Machine.execThermalRound temps s
  | .throttleGraceExpiry => Sys2Proof.Machine.execThrottleGraceExpiry s
  | .throttleReleaseExpiry => Sys2Proof.Machine.execThrottleReleaseExpiry s
  | .thermShut ch temp => Sys2Proof.Machine.execThermShut ch temp s
  | .thermRestart => Sys2Proof.Machine.execThermRestart s
  | .pllLockLoss => Sys2Proof.Machine.execPllLockLoss s
  | .pllRelock => Sys2Proof.Machine.execPllRelock s
  | .pllRelockTimeout => Sys2Proof.Machine.execPllRelockTimeout s
  | .referenceFailure => Sys2Proof.Machine.execReferenceFailure s
  | .subsystemResetPrt q => Sys2Proof.Machine.execSubsystemResetPrt q s
  | .subsystemResetSve q => Sys2Proof.Machine.execSubsystemResetSve q s
  | .unitResetEnd page => Sys2Proof.Machine.execUnitResetEnd page s
  | .aonReset straps => Sys2Proof.Machine.execAonReset straps s
  | .startupRelease => Sys2Proof.Machine.execStartupRelease s
  | .startupBringupEnd => Sys2Proof.Machine.execStartupBringupEnd s
  | .startupEnable => Sys2Proof.Machine.execStartupEnable s
  | .pwrLogcurWrite q w => Sys2Proof.Machine.execPwrLogcurWrite q w s
  | .pwrLogNext q => Sys2Proof.Machine.execPwrLogNext q s
  | .pwrLogOldest q => Sys2Proof.Machine.execPwrLogOldest q s
  | .pwrLogNewest q => Sys2Proof.Machine.execPwrLogNewest q s
  | .pwrLogClear q => Sys2Proof.Machine.execPwrLogClear q s
  | .pwrLogCompatWrite q compat => Sys2Proof.Machine.execPwrLogCompatWrite q compat s
  | .registerRead q addr width => Sys2Proof.Machine.execRegisterRead q addr width s
  | .pfailNRise => Sys2Proof.Machine.execPfailNRise s
  | .keySlotReloadDone r => Sys2Proof.Machine.execKeySlotReloadDone r s
  | .receiverDetectionDone port lanes => Sys2Proof.Machine.execReceiverDetectionDone port lanes s
  | .discardCheckAnswer dev tag confirm status pages => Sys2Proof.Machine.execDiscardCheckAnswer dev tag confirm status pages s
  | .debugAccess a => Sys2Proof.Machine.execDebugAccess a s

end Sys2Proof.Machine
end

