-- ==== Sys2Proof/Machine/Pantry.lean ====
section
/-! DEFINITION. How the pantry's two parts are laid out: partitions, record headers, counter slots, parameter records and wrapped key sets
(R446, R531, R532, R536; log 94). -/

namespace Sys2Proof.Machine

open Sys2Proof

/-- A partition of a part: its offset and size in bytes (R531). -/
structure Partition where
  offset : Nat
  size : Nat
deriving DecidableEq, Repr, Inhabited

/-- The partitions by number: header, counters, parameters, key store, identity certificates, event log, supervisor log, reserved (R531). -/
def partitions : List Partition :=
  [⟨0x000000, 0x1000⟩, ⟨0x001000, 0xf000⟩, ⟨0x010000, 0x10000⟩, ⟨0x020000, 0x10000⟩, ⟨0x030000, 0x10000⟩, ⟨0x040000, 0x100000⟩,
   ⟨0x140000, 0x100000⟩, ⟨0x240000, 0x5c0000⟩]

/-- The size of a part (R531). -/
def partSize : Nat := 0x800000

/-- A record of a partition with two halves: its 16 B header, the CRC over the header's first bytes and the payload, and the payload
(R531). -/
def partRecord (part seq : Nat) (payload : List Nat) : List Nat :=
  let h := bytesLE 2 0xa55a ++ bytesLE 2 part ++ bytesLE 4 payload.length ++ bytesLE 4 seq
  h ++ bytesLE 4 (crc32 (h ++ payload)) ++ payload

/-- A counter slot of 16 B (R531). -/
def counterSlot (value seq : Nat) : List Nat :=
  let b := bytesLE 8 value ++ bytesLE 4 seq
  b ++ bytesLE 4 (crc32 b)

/-- The offset of a slot of a counter ring (R531). -/
def ringOffset (ring slot : Nat) : Nat := 0x1000 + 1024 * ring + 16 * (slot % 64)

/-- The payload of a parameter record: register address in [23:0] and committed value in [63:32] of each entry (R536). -/
def paramPayload (t : Tab Word) : List Nat := t.flatMap (fun e => bytesLE 8 (e.1 % 2 ^ 24 + e.2.toNat * 2 ^ 32))

/-- The parameter record that PARAM_SAVE has written (R536). -/
def State.paramRecord (s : State) (seq : Nat) : List Nat := partRecord 2 seq (paramPayload s.pan.params)

/-- The offset of an event log slot, and of a supervisor log slot behind its header (R531, R555). -/
def eventSlot (n : Nat) : Nat := 0x040000 + 64 * n
def supSlot (n : Nat) : Nat := 0x140000 + 0x1000 + 32 * n

/-- The key that wraps stored key sets, from the root key (R446, R458). -/
def storeKey : List Nat := kdf (bytesBE 32 Config.rootKey.toNat) (ascii "KOLEN KEY STORE") [] 32

/-- A key set as the key store holds it: wrapped with AES-256-GCM, its tag last (R446, log 94). -/
def wrappedSet (iv : BitVec 96) (k : KeySet) : List Nat :=
  let ct := gcmCrypt storeKey (bytesBE 12 iv.toNat) (bytesBE 32 k.k1.toNat ++ bytesBE 32 k.k2.toNat ++ bytesBE 32 k.kt.toNat)
  ct ++ gcmTag storeKey (bytesBE 12 iv.toNat) [] ct

end Sys2Proof.Machine
end

