-- ==== Sys2Proof/Safety.lean ====
section
/-! DEFINITION. What counts as a safe run: an outcome that is a next state, and the forms that every reachable state keeps. -/

namespace Sys2Proof.Machine

/-- An outcome is a next state: neither a fault nor a refusal. -/
def Goes (o : Host.Outcome State Fault Refusal) : Prop := ∃ s : State, o = .next s

/-- The state after an outcome, or the state before it where it stops. -/
def after (s : State) (o : Host.Outcome State Fault Refusal) : State :=
  match o with
  | .next t => t
  | .fault _ => s
  | .refused _ => s

/-- A write of a whole word to a register is accepted: the requester reaches the bus, the module has started, its window is open, it holds
the right, the block is open, I3C names no FIFO register, and every rule of the register allows the word (R9, R426, R450, R475, R480, R485,
R486). -/
def State.accepts (s : State) (q : Requester) (page off : Nat) (w : Word) : Bool :=
  s.reaches q && s.pages.started && (s.windowShut q).isNone && s.mayWrite q off w &&
    (match pageKind page, regWord page off with
    | some k, some r => !s.blockClosed page k off && !(q == .i3c && decide (regAddr page off ∈ fifoAddrs)) && s.writeOk q page k r w
    | _, _ => false)

/-- The next request of a head to a line that this module owns enters its slice at once: the head takes requests and has no barrier
outstanding, the segment is Allocated here, and the slice admits (R48, R80, R81, R106, R130, R144). -/
def State.admits (s : State) (h : Fin 64) (a : LineAddr) : Bool :=
  let n := sliceHash a
  s.headTakes h.val && !s.sleeps && (s.head h.val).barriers.isEmpty && !s.safe && (s.acted (lineGsn a)).st == 1 && !s.isFenced 4 n &&
    !decide (slcPage n ∈ s.pages.stopped) && (s.slice n).stalled.isEmpty && (s.slice n).inq.isEmpty && !s.segHeld a && s.laneRoom n (.head h a)

/-- A message arrives at a port that carries messages, and is addressed to this module (R341, R359). -/
def State.here (s : State) (r : Routing) : Bool :=
  (s.port r.port.val).carries && r.dst == s.fxb.devnum && s.fxb.devnum != 0

/-- The state with the credit of an arrived message owed to its port's partner (R341). -/
def State.credited (s : State) (r : Routing) (m : Msg) : State :=
  let k := 2 * m.vc + if r.esc then 1 else 0
  s.setPort r.port.val { s.port r.port.val with
    owed := (s.port r.port.val).owed.set 0 k ((s.port r.port.val).owed.get 0 k + m.len) }

/-- The same of a response, whose acknowledgement of requests is taken too (R360). -/
def State.acked (s : State) (r : Routing) (m : Msg) : State :=
  if r.ord then (s.credited r m).ackReqs r.src r.esq else s.credited r m

/-- A settled cage is identified or not; the others are not, and the codes are those a cable memory may name (R23, R25). -/
def Cage.legal (x : Cage) : Bool := decide (x.phase ≤ 3) && (!x.ident || x.phase == 3)

/-- Every table at the top of the state is in its canonical form: keys strictly rising, and no entry that reads as an unlisted one. -/
def State.tablesOk (s : State) : Bool :=
  s.regs.wf resetWord && s.shadow.sorted && s.perf.wf (fun _ => 0) && s.cyc.wf (fun _ => 0) && s.slices.wf (fun _ => {}) &&
    s.cages.wf (fun _ => {}) && s.ports.wf (fun _ => {}) && s.heads.wf (fun _ => {})

/-- The counters fit their registers: performance counters of 48 bits, cycle counts of 64, and less than a millisecond over (R484, R605). -/
def State.countsOk (s : State) : Bool :=
  s.perf.all (fun e => decide (e.2 < 2 ^ 48)) && s.cyc.all (fun e => decide (e.2 < 2 ^ 64)) && decide (s.opNs < 1000000)

/-- The power state is one of the ten, the flush is in one of its phases, and every cage in a legal state (R558, R553, R23). -/
def State.modesOk (s : State) : Bool :=
  decide (s.pwr.st ≤ 9) && decide (s.pwr.fphase ≤ 4) && s.cages.all (fun e => e.2.legal)

/-- What every state from reset on keeps. -/
def State.Inv (s : State) : Prop := s.tablesOk = true ∧ s.countsOk = true ∧ s.modesOk = true

/-- Whatever next state the command answers, it is the old one with the parts that `put` takes from the new one. -/
def Touches (put : State → State → State) (c : Instr) : Prop := ∀ s t, exec c s = .next t → t = put s t

end Sys2Proof.Machine
end

