-- ==== Sys2Proof/Certificates/Slice0/Obligations.lean ====
section
/-! DEFINITION. The statements for the provers: what each group of commands does, the invariants every step keeps, and the rules of the
spec that say what the module does. -/

open Sys2Proof Sys2Proof.Machine

/-- BLADE_SEAT_CLOSE, BLADE_SEAT_OPEN, PWR_EN_FALL, PWR_EN_RISE, MRST_N_FALL, MRST_N_RISE, PFAIL_N_FALL and PFAIL_N_RISE set the pin state and, from On, start the flush that R33, R481 and R550 name: emergency for BLADE_SEAT_OPEN and INPUT_TRIP, orderly for PWR_EN_FALL, reset for MRST_N_FALL, and the early warning for PFAIL_N_FALL; MRST_N_RISE samples the straps and lets a held reset go on. (01_module_physical.md R30, R32, R33; 14_management.md R481, R482; 16_power_thermal_clocks.md R549, R550) -/
def Obligations.PowerPins : Prop :=
  ∀ s : State,
    exec .bladeSeatClose s = .next { s with pwr := { s.pwr with seat := true } } ∧
    (s.pwr.st = 3 → s.pwr.inReset = false →
      (∃ t, exec .bladeSeatOpen s = .next t ∧ t.pwr.seat = false ∧ t.pwr.st = 7 ∧ t.pwr.flush = 3 ∧ t.pwr.fcause = 2) ∧
      (∀ high : Bool, ∃ t, exec (.inputTrip high) s = .next t ∧ t.pwr.st = 7 ∧ t.pwr.flush = 3 ∧ t.pwr.fphase = 1 ∧
        t.pwr.fcause = if high then 3 else 1) ∧
      (∃ t, exec .pwrEnFall s = .next t ∧ t.mgt.pwrEn = false ∧ t.pwr.st = 6 ∧ t.pwr.flush = 1) ∧
      (∃ t, exec .mrstNFall s = .next t ∧ t.mgt.mrst = false ∧ t.pwr.st = 6 ∧ t.pwr.flush = 2 ∧ t.pwr.askedCause = 1)) ∧
    (s.pwr.inReset = false → exec .pwrEnRise s =
      .next { s with mgt := { s.mgt with pwrEn := true }, pwr := { s.pwr with latchedOff := false, attempts := 0 } }) ∧
    (s.pwr.inReset = true → ∀ straps : BitVec 2, exec (.mrstNRise straps) s =
      .next { s with mgt := { s.mgt with mrst := true, straps := straps }, pwr := { s.pwr with inReset := false, startup := 1 } }) ∧
    (s.up = true → s.pwr.warn = false →
      ∃ t, exec .pfailNFall s = .next t ∧ t.mgt.pfail = false ∧ t.pwr.warn = true) ∧
    (s.pwr.warn = true → railInside 38 s.pwr.vin = true → exec .pfailNRise s =
      .next { s with mgt := { s.mgt with pfail := true }, pwr := { s.pwr with warn := false }, dtc := { s.dtc with early := false } })

/-- POWER_UP_START begins step 1 once R32 and R545 allow it; SEQUENCER_STEP_DONE of a power-up step begins the next one, of step 8 leads to start-up, and SEQUENCER_STEP_TIMEOUT runs the reverse sequence; SEQUENCER_STEP_DONE of a power-down step leads to the step below, and of the last one to the minimum off time, at whose MIN_OFF_TIME_EXPIRY the module is Off; ORDERLY_FLUSH_END of a flush that has ended, and ORDERLY_FLUSH_TIMEOUT, are followed by the reverse sequence, from step 9 where a DIMM feed is on and from the highest step that is on otherwise. (16_power_thermal_clocks.md R544, R545, R546, R549, R573) -/
def Obligations.Sequencer : Prop :=
  ∀ s : State,
    (s.mayPowerUp = true → ∃ t, exec .powerUpStart s = .next t ∧ t.pwr.st = 1 ∧ t.pwr.step = 1 ∧ t.pwr.mstate = 1) ∧
    (s.pwr.st = 1 → s.pwr.offReq = false → s.pwr.step < 8 →
      ∃ t, exec .sequencerStepDone s = .next t ∧ t.pwr.st = 1 ∧ t.pwr.step = s.pwr.step + 1) ∧
    (s.pwr.st = 1 → s.pwr.offReq = false → s.pwr.step = 8 →
      ∃ t, exec .sequencerStepDone s = .next t ∧ t.pwr.st = 2 ∧ t.pwr.startup = 1) ∧
    (s.pwr.st = 6 → s.pwr.down = true → 1 < s.pwr.step →
      ∃ t, exec .sequencerStepDone s = .next t ∧ t.pwr.st = 6 ∧ t.pwr.step = s.pwr.step - 1) ∧
    (s.pwr.st = 6 → s.pwr.down = true → s.pwr.step ≤ 1 → s.pwr.thermOff = false →
      ∃ t, exec .sequencerStepDone s = .next t ∧ t.pwr.st = 8 ∧ t.pwr.offDone = false) ∧
    (s.pwr.st = 1 → ∀ ch : Fin 40, ∃ t, exec (.sequencerStepTimeout ch) s = .next t ∧ t.pwr.st = 6 ∧ t.pwr.down = true ∧
      t.pwr.step = s.pwr.step) ∧
    (s.pwr.st = 8 → exec .minOffTimeExpiry s = .next { s with pwr := { s.pwr with st := 0, offDone := true } }) ∧
    (s.pwr.flush = 1 → s.flushed = true →
      ∃ t, exec .orderlyFlushEnd s = .next t ∧ t.pwr.st = 6 ∧ t.pwr.down = true ∧ t.pwr.step = s.topStep ∧ t.pwr.flush = 0) ∧
    (s.pwr.flush = 1 →
      ∃ t, exec .orderlyFlushTimeout s = .next t ∧ t.pwr.st = 6 ∧ t.pwr.down = true ∧ t.pwr.step = s.topStep ∧ t.pwr.flush = 0)

/-- FLUSH_DRAIN_END ends Drain when lanes and merge stores are empty, FLUSH_PROGRAM_END Program when no dirty page is left, FLUSH_JOURNAL_END Journal when the journal is written, and FLUSH_RELEASE_PHASE_END Release in Off with the flush done; FLUSH_SHORT ends in Off at once. HOLD_MEAS of a healthy bank gives the energy of R551 and the state valid; HOLDUP_CHARGE_TIMEOUT leaves the bank faulty; HOLDUP_MEASURE_SCHEDULE begins a measurement. (16_power_thermal_clocks.md R553, R554, R551, R552; 01_module_physical.md R39) -/
def Obligations.EmergencyFlush : Prop :=
  (∀ s : State, s.pwr.flush = 3 →
      (s.pwr.fphase = 1 → s.undrained = false → ∃ t, exec .flushDrainEnd s = .next t ∧ t.pwr.fphase = 2) ∧
      (s.pwr.fphase = 2 → s.unflushed = false → ∃ t, exec .flushProgramEnd s = .next t ∧ t.pwr.fphase = 3) ∧
      (s.pwr.fphase = 3 → s.unjournaled = false → ∀ e : BitVec 10,
        ∃ t, exec (.flushJournalEnd e) s = .next t ∧ t.pwr.fphase = 4 ∧ t.pwr.fenergy = e) ∧
      (s.pwr.fphase = 4 → s.pwr.thermOff = false →
        ∃ t, exec .flushReleasePhaseEnd s = .next t ∧ t.pwr.st = 8 ∧ t.pwr.fdone = true ∧ t.dtc.frames = []) ∧
      (∃ t, exec .flushShort s = .next t ∧ t.pwr.st = 8 ∧ t.pwr.fdone = s.pwr.fdone ∧ t.dtc.frames = [])) ∧
  (∀ s : State, s.up = true →
      (∀ v0 v1 v2 : BitVec 20, s.pwr.flush = 0 → bankHealthy v0.toNat v1.toNat v2.toNat = true →
        ∃ t, exec (.holdMeas v0 v1 v2) s = .next t ∧ t.pwr.bankOk = true ∧ t.pwr.mstate = 3 ∧
          t.pwr.energy = min 1023 (bankEnergy v0.toNat v1.toNat v2.toNat)) ∧
      (∀ v0 v1 v2 : BitVec 20, s.pwr.flush = 0 → bankHealthy v0.toNat v1.toNat v2.toNat = false →
        ∃ t, exec (.holdMeas v0 v1 v2) s = .next t ∧ t.pwr.bankOk = false ∧ t.pwr.mstate = 0) ∧
      (s.pwr.mstate = 1 → ∃ t, exec .holdupChargeTimeout s = .next t ∧ t.pwr.bankOk = false ∧ t.pwr.mstate = 0) ∧
      (s.pwr.mstate ≠ 2 → ∃ t, exec .holdupMeasureSchedule s = .next t ∧ t.pwr.mstate = 2))

/-- An ADC_SCAN_ROUND whose samples all lie in their windows records each of them in its channel. (16_power_thermal_clocks.md R541, R542) -/
def Obligations.AdcScan : Prop :=
  ∀ (s : State) (mv : List (BitVec 20)) (lost : List (Fin 37)), mv.length = 40 →
    (∀ ch, ch < 40 → railInside ch (mv.getD ch 0).toNat = true) →
    ∃ t, exec (.adcScanRound ⟨mv, lost, []⟩) s = .next t ∧ ∀ ch, ch < 40 → (t.rail ch).mv = mv.getD ch 0

/-- CAPPED_LOOP_TICK runs the loop of R561 in Capped; AUTO_IDLE_ENTRY in Efficiency enters Idle when the slices are quiet; DOMAIN_UNGATE ungates a domain of an Idle module and DOMAIN_REGATE gates it again; DEEP_IDLE_WAKE leads from Deep Idle to On. (16_power_thermal_clocks.md R558, R560, R561) -/
def Obligations.PowerStates : Prop :=
  ∀ s : State,
    (s.pwr.st = 3 → s.pwr.profile = 2 → s.regFld 0x002 0x104 0 2 = 2 → ∀ w : BitVec 10,
      ∃ t, exec (.cappedLoopTick w) s = .next t ∧ t.pwr.powerW = w.toNat ∧
        (t.pwr.pgm, t.pwr.req) = cappedLoop w.toNat (s.regFld 0x002 0x104 16 10) s.pwr.pgm s.pwr.req) ∧
    (s.pwr.st = 3 → s.pwr.profile = 1 → s.slicesQuiet = true →
      exec .autoIdleEntry s = .next { s with pwr := { s.pwr with st := 4, ungated := 0, autoIdle := true } }) ∧
    (s.pwr.st = 4 → s.pwr.autoIdle = false → ∀ d : Fin 25, idleDomain d.val = true →
      (∃ t, exec (.domainUngate d) s = .next t ∧ t.domGated (d.val + 1) = false) ∧
      (∃ t, exec (.domainRegate d) s = .next t ∧ t.domGated (d.val + 1) = true)) ∧
    (s.pwr.st = 5 → ∃ u : State, exec .deepIdleWake s = .next (s.withPins (fun _ => u.drain)) ∧ u.pwr.st = 3)

/-- THERMAL_ROUND takes each readable sensor that its neighbours do not contradict; THROTTLE_GRACE_EXPIRY enforces the limit of a request that holds; THROTTLE_RELEASE_EXPIRY lifts it; THERM_SHUT at the trip level starts the flush of the shutdown; at THERM_RESTART below the restart threshold the module leaves Thermal-off. (16_power_thermal_clocks.md R562, R564, R566, R567) -/
def Obligations.Thermal : Prop :=
  ∀ s : State,
    (s.domGated 2 = false → s.pwr.flush ≠ 4 → ∀ temps : List Reading, temps.length = 164 →
      ∃ t, exec (.thermalRound temps) s = .next t ∧ ∀ ch, ch < 164 →
        s.sensed ch = true → (s.checkSensor (fun c => temps.getD c (s.sensor c).now) ch).1.faulty = false → (t.sensor ch).now = temps.getD ch 0) ∧
    (s.thm.req = true → ∃ t, exec .throttleGraceExpiry s = .next t ∧ t.thm.enf = true ∧ t.thm.req = true) ∧
    (s.thm.req = true → s.cool = true → ∃ t, exec .throttleReleaseExpiry s = .next t ∧ t.thm.req = false ∧ t.thm.enf = false) ∧
    (s.pwr.st = 3 → s.pwr.flush = 0 → ∀ (ch : Fin 164) (x : Reading), s.trip ≤ x.toInt →
      ∃ t, exec (.thermShut ch x) s = .next t ∧ t.thm.shutLast = true ∧ t.thm.shutCh = BitVec.ofNat 8 ch.val ∧ t.thm.shutTemp = x ∧
        t.pwr.st = 6 ∧ t.pwr.flush = 4) ∧
    (s.pwr.st = 9 → (∀ ch, ch < 164 → s.atLeast ch s.restartLevel = false) →
      ∃ t, exec .thermRestart s = .next t ∧ t.pwr.st = if s.pwr.offDone then 0 else 8)

/-- PLL_LOCK_LOSS is held until PLL_RELOCK, which counts; at PLL_RELOCK_TIMEOUT, and at REFERENCE_FAILURE, every converter is released; UNIT_RESET_END lets the unit run unfenced; AON_RESET starts module time and operating time afresh with the straps sampled. (16_power_thermal_clocks.md R570, R571, R572, R573; 01_module_physical.md R30) -/
def Obligations.ClocksAndResets : Prop :=
  ∀ s : State,
    exec .pllLockLoss s = .next { s with pwr := { s.pwr with locked := false } } ∧
    (s.pwr.locked = false → ∃ t, exec .pllRelock s = .next t ∧ t.pwr.locked = true ∧ t.pwr.relocks = min 255 (s.pwr.relocks + 1)) ∧
    (s.pwr.locked = false → s.isOff = false → ∃ t, exec .pllRelockTimeout s = .next t ∧ t.pwr.st = 8 ∧ t.pwr.locked = false) ∧
    (s.isOff = false → ∃ t, exec .referenceFailure s = .next t ∧ t.pwr.st = 8 ∧ t.pwr.refOk = false) ∧
    (∀ page : BitVec 12, page.toNat ∈ s.pages.resetting →
      ∃ u : State, exec (.unitResetEnd page) s = .next (s.withPins (fun _ => u.drain)) ∧ page.toNat ∉ u.pages.resetting) ∧
    (∀ straps : BitVec 2, ∃ t, exec (.aonReset straps) s = .next t ∧ t.time = 0 ∧ t.opMs = 0 ∧ t.pwr.st = 0 ∧ t.mgt.straps = straps ∧
      t.dtc.frames = [] ∧ t.slices = [])

/-- CAGE_PRESENCE_ASSERT notes a cable, which CAGE_PRESENCE_DEBOUNCE_EXPIRY settles; CABLE_IDENTITY_READ_DONE keeps a plug whose identity checks with its breakout, rate, length and part, and one that does not, as at CABLE_IDENTITY_READ_TIMEOUT, counts as unidentified; after CAGE_PRESENCE_DEASSERT the cage is empty. SPD_HUB_READ_DONE, or SPD_HUB_READ_TIMEOUT, settles its socket while the population is open. (01_module_physical.md R34, R35; 10_elvuc_link.md R320, R321) -/
def Obligations.CagesAndSockets : Prop :=
  ∀ (s : State) (c : Fin 8),
    ((s.cage c.val).phase = 0 → ∃ t, exec (.cagePresenceAssert c) s = .next t ∧ (t.cage c.val).phase = 1) ∧
    ((s.cage c.val).phase = 1 → ∃ t, exec (.cagePresenceDebounceExpiry c) s = .next t ∧ (t.cage c.val).phase = 2) ∧
    ((s.cage c.val).phase = 2 → ∀ (b : List Byte) (br rate len : Byte) (part : BitVec 16), parseCable b = some (br, rate, len, part) →
      ∃ t, exec (.cableIdentityReadDone c b) s = .next t ∧
        t.cage c.val = { phase := 3, ident := true, breakout := br, rate := rate, len := len, part := part }) ∧
    ((s.cage c.val).phase = 2 → ∀ b : List Byte, parseCable b = none →
      ∃ t, exec (.cableIdentityReadDone c b) s = .next t ∧ t.cage c.val = { phase := 3 }) ∧
    ((s.cage c.val).phase = 2 → ∃ t, exec (.cableIdentityReadTimeout c) s = .next t ∧ t.cage c.val = { phase := 3 }) ∧
    (∃ t, exec (.cagePresenceDeassert c) s = .next t ∧ t.cage c.val = {}) ∧
    (∀ k : Fin 16, s.dtc.decided = false → s.up = true → (s.socket k.val).known = false →
      (∀ d : Spd, ∃ u : State, exec (.spdHubReadDone k d) s = .next (s.withPins (fun _ => u.socketsKnown)) ∧
        (u.socket k.val).known = true ∧ (u.socket k.val).spd = d) ∧
      (∃ u : State, exec (.spdHubReadTimeout k) s = .next (s.withPins (fun _ => u.socketsKnown)) ∧ (u.socket k.val).known = true))

/-- CXL_MEM_READ, CXL_MEM_WRITE and CXL_MEM_ATOMIC of a head that takes requests: to a line that this module owns and whose slice admits, a read is answered with the value of the merge store or of the line cache, or opens a miss entry; a write enters its lane with its bytes and is acknowledged there in an Early region; an atomic enters its lane with its operands. To the register window they answer with the window’s words, a completion and the old value; to an address that no extent binds with poison or an error. A request that a barrier holds keeps its place at the head. (12_cxl_heads.md R410, R412, R426; 03_address_spaces_regions.md R81; 02_request_lifecycle.md R50, R61, R65; 04_slices_line_cache.md R106, R129) -/
def Obligations.HostAccesses : Prop :=
  ∀ (s : State) (h : Fin 64) (hpa : BitVec 64) (tag : BitVec 16) (e : LcErr),
    (∀ f : Fga, (s.head h.val).route hpa false = .fga f → s.admits h (fgaLine f) = true →
      (s.sliceOf (fgaLine f)).ownEntries (.head h (fgaLine f)) (fgaLine f) = [] →
      (s.sliceOf (fgaLine f)).readWaits (.head h (fgaLine f)) (fgaLine f) = false →
      (∀ m, (s.sliceOf (fgaLine f)).merged (fgaLine f) = some m →
        ∃ t, exec (.cxlMemRead h hpa ⟨tag, e⟩) s = .next t ∧ .readData h tag m.data m.poison ∈ t.out) ∧
      (∀ w, (s.sliceOf (fgaLine f)).merged (fgaLine f) = none → s.lcEnabled (sliceHash (fgaLine f)) = true →
        (s.sliceOf (fgaLine f)).findWay (fgaLine f) = some w →
        ∃ t, exec (.cxlMemRead h hpa ⟨tag, .none⟩) s = .next t ∧
          .readData h tag ((s.sliceOf (fgaLine f)).way (setHash (fgaLine f)) w).data false ∈ t.out) ∧
      ((s.sliceOf (fgaLine f)).merged (fgaLine f) = none → (s.sliceOf (fgaLine f)).findWay (fgaLine f) = none →
        (s.sliceOf (fgaLine f)).missOf (fgaLine f) = none → (s.sliceOf (fgaLine f)).misses.length < 512 →
        ∃ t m, exec (.cxlMemRead h hpa ⟨tag, .none⟩) s = .next t ∧ (t.sliceOf (fgaLine f)).missOf (fgaLine f) = some m ∧
          m.stage = .tier ∧ m.waiters.map Waiter.sender = [.head h tag])) ∧
    (∀ (f : Fga) (data : Line) (mask : BitVec 64) (p : Bool), (s.head h.val).route hpa true = .fga f → s.admits h (fgaLine f) = true →
      (s.sliceOf (fgaLine f)).youngest (.head h (fgaLine f)) = none →
      ∃ t x, exec (.cxlMemWrite h hpa tag data mask p) s = .next t ∧ x ∈ (t.sliceOf (fgaLine f)).lanes ∧ x.line = fgaLine f ∧
        x.op = .store ∧ x.data = data ∧ x.mask = (if p then fullMask else mask) ∧ x.poison = p ∧
        (s.lateAt (fgaLine f) = false → .writeDone h tag false ∈ t.out)) ∧
    (∀ (f : Fga) (op : BitVec 4) (size : BitVec 2) (a b : BitVec 128), (s.head h.val).route hpa true = .fga f →
      s.admits h (fgaLine f) = true → atomOk op size (f.setWidth 6) = true →
      ∃ t x, exec (.cxlMemAtomic h hpa tag op size a b) s = .next t ∧ x ∈ (t.sliceOf (fgaLine f)).lanes ∧ x.line = fgaLine f ∧
        x.op = .atomic op size (f.setWidth 6) a b) ∧
    (s.headTakes h.val = true →
      (∀ off, (s.head h.val).route hpa false = .window off →
        ∃ t, exec (.cxlMemRead h hpa ⟨tag, e⟩) s = .next t ∧ t.out = s.out ++ [.readData h tag ((s.head h.val).windowLine off) false]) ∧
      (∀ off (data : Line) (mask : BitVec 64) (p : Bool), (s.head h.val).route hpa true = .window off → off / 64 ≠ 0 →
        ∃ t, exec (.cxlMemWrite h hpa tag data mask p) s = .next t ∧ t.out = s.out ++ [.writeDone h tag false]) ∧
      (∀ off (op : BitVec 4) (size : BitVec 2) (a b : BitVec 128), (s.head h.val).route hpa true = .window off →
        ∃ t, exec (.cxlMemAtomic h hpa tag op size a b) s = .next t ∧
          t.out = s.out ++ [.atomicData h tag
            (BitVec.ofNat 128 (lineField ((s.head h.val).windowLine off) (hpa.toNat % 64) (atomBytes size))) false]) ∧
      (∀ slot, (s.head h.val).route hpa false = .unbound slot → s.headHolds h.val (s.head h.val).serial .read = false →
        ∃ t, exec (.cxlMemRead h hpa ⟨tag, e⟩) s = .next t ∧ .readData h tag 0 true ∈ t.out) ∧
      (∀ slot (data : Line) (mask : BitVec 64) (p : Bool), (s.head h.val).route hpa true = .unbound slot →
        s.headHolds h.val (s.head h.val).serial .store = false →
        ∃ t, exec (.cxlMemWrite h hpa tag data mask p) s = .next t ∧ .writeDone h tag true ∈ t.out) ∧
      (s.headHolds h.val (s.head h.val).serial .read = true → s.inWindow h.val hpa false = none →
        exec (.cxlMemRead h hpa ⟨tag, e⟩) s = .next (s.setHead h.val { s.head h.val with
          held := (s.head h.val).held ++ [((s.head h.val).serial, .read hpa tag e)], serial := (s.head h.val).serial + 2 })))

/-- While the tier and the MTE run, TIER_LOOKUP_DONE leads a miss on to the map, to the clean frame or, for an unmapped segment, to poison; MAP_LOOKUP_DONE answers unmapped lines with zeros and Poisoned pages with poison and sends mapped ones to the medium; LINE_CHECK_DONE and SECOND_SOURCE_READ_DONE make a line that passes its check ready to fill, at the first or the second source; FILL_ARRIVAL ends the miss and answers the reads that wait for it. (04_slices_line_cache.md R112, R122; 02_request_lifecycle.md R45, R46, R48, R53) -/
def Obligations.ReadStages : Prop :=
  ∀ (s : State) (a : LineAddr) (m : MissEntry), (s.sliceOf a).missOf a = some m →
    (m.stage = .tier → s.halted 0x028 = false →
      (s.lineLmp a = none → exec (.tierLookupDone a) s = .next (s.missStage a (.fill 0 true false))) ∧
      (∀ l, s.lineLmp a = some l → s.frameOf l = none → s.dtc.waiting.any (fun w => w.line == a) = false →
        ∃ t, exec (.tierLookupDone a) s = .next t ∧ ((t.sliceOf a).missOf a).map MissEntry.stage = some .map) ∧
      (∀ l n f, s.lineLmp a = some l → s.frameOf l = some (n, f) → f.st = 2 →
        ∃ t, exec (.tierLookupDone a) s = .next t ∧
          ((t.sliceOf a).missOf a).map MissEntry.stage = some (.check (s.storedLine a) (.tierClean l)) ∧
          t.dtc.frames.find n = some { f with ref := true })) ∧
    (m.stage = .map → s.halted 0x030 = false → ∀ l, s.lineLmp a = some l → s.mapCached l = true → l ∉ s.dtc.fills →
      ((s.entry l).st = 0 → ∃ t, exec (.mapLookupDone a) s = .next t ∧
        ((t.sliceOf a).missOf a).map MissEntry.stage = some (.check unwrittenLine .crumbLater)) ∧
      ((s.entry l).st = 1 → ∃ t c, exec (.mapLookupDone a) s = .next t ∧
        ((t.sliceOf a).missOf a).map MissEntry.stage = some (.medium (s.entry l).ppa c) ∧ c.val = lineInPage a / 8 % 8) ∧
      ((s.entry l).st = 2 → ∃ t, exec (.mapLookupDone a) s = .next t ∧
        ((t.sliceOf a).missOf a).map MissEntry.stage = some (.check poisonLine .crumbLater))) ∧
    (s.keyWaits a = false → ∀ sl src d, m.stage = .check sl src → s.crustCheck a sl = .pass d →
      exec (.lineCheckDone a) s = .next (s.missStage a (.fill d false true))) ∧
    (s.keyWaits a = false → ∀ sl src, m.stage = .check sl src → s.crustCheck a sl = .poison →
      exec (.lineCheckDone a) s = .next (s.missStage a (.fill 0 true false))) ∧
    (s.keyWaits a = false → ∀ src d, m.stage = .second src → s.crustCheck a (s.secondLine a src) = .pass d →
      exec (.secondSourceReadDone a) s = .next (s.withPins (fun s => s.tagRetry.missStage a (.fill d false true)))) ∧
    (∀ data p ok (k : Fin 3), m.stage = .fill data p ok → (s.sliceOf a).preloading = [] →
      ∃ u : State, exec (.fillArrival ⟨a, k⟩) s = .next (s.withPins (fun _ => u.drain)) ∧ (u.sliceOf a).missOf a = none ∧
        (m.newer = none → ∀ w ∈ m.waiters, ∀ h n, w.sender = .head h n → w.served = false → w.own = [] →
          .readData h n data p ∈ u.out))

/-- CRUMB_READ_DONE in its die’s turn sends a crumb decoded at step 1 to Crust and one that fails the ladder on as a reconstruction; a read that has CRUMB_READ_TIMEOUT is issued again twice and then fences its die; RECONSTRUCTION_DONE leaves no read behind; MISS_FULL_WAIT_END lets the read that waits for a miss entry look again when one is free. (07_medium_dies_scheduling.md R218, R219, R225, R233, R241; 04_slices_line_cache.md R119) -/
def Obligations.CrumbReads : Prop :=
  ∀ (s : State) (p : Ppa) (c : Fin 8) (r : CrumbRead),
    (s.findRead p c false = some r → r.waits = false → s.chanHalted (ppaChan p) = false → s.inTurn r = true →
      (∃ t, exec (.crumbReadDone p c .failed) s = .next t ∧
        { r with recon := true, waits := s.mateBusy p, slow := true, ladder := true } ∈ t.mch.reads) ∧
      (∀ (a : LineAddr) (m : MissEntry) (k : Nat) (refs : List Nat), r.why = .line a → (s.sliceOf a).missOf a = some m →
        m.stage = .medium p c →
        ∃ t, exec (.crumbReadDone p c (.step1 k refs)) s = .next t ∧
          ((t.sliceOf a).missOf a).map MissEntry.stage = some (.check (s.crumbLine p a) (.crumbFirst p c)))) ∧
    (s.findRead p c false = some r → r.resets < 2 →
      exec (.crumbReadTimeout p c) s = .next (s.withPins (fun s => s.setRead p c false (some { r with resets := r.resets + 1 })))) ∧
    (s.findRead p c false = some r → 2 ≤ r.resets →
      ∃ t, exec (.crumbReadTimeout p c) s = .next t ∧ (t.die (ppaDie p)).fenced = true) ∧
    (s.findRead p c true = some r → r.waits = false → s.chanHalted (ppaChan p) = false →
      ∀ (a : LineAddr) (mates : List CrumbOutcome), r.why = .line a →
      ∃ t, exec (.reconstructionDone p c mates) s = .next t ∧ t.mch.reads = replaceRead p c true none s.mch.reads) ∧
    (∀ (sl : Fin 8) (q : LineAddr × Waiter) (rest : List (LineAddr × Waiter)), (s.slice sl.val).stalled = q :: rest →
      (s.slice sl.val).misses.length < 512 →
      exec (.missFullWaitEnd sl) s = .next (s.withPins (fun s =>
        ((s.setSlice sl.val { s.slice sl.val with stalled := rest }).lookRead sl.val q.1 q.2).admitAll sl.val)))

/-- MERGE_DRAIN_AGE_EXPIRY marks the line’s merge entries for draining; DTC_LINE_ACCEPT puts a draining line, enciphered, into the Dirty frame of its page and out of the merge store; PAGE_FILL_DONE makes a page whose crumbs decode a Clean frame that is no longer filling; FRAME_TRANSFER_DONE leaves the frame transferred; STAGE_AGE_EXPIRY hands a Dirty frame over for programming; FILL_WINDOW_BOUNDARY starts the second-touch filter afresh; LANE_ENTRY_RELEASE of an entry that every condition of R131 lets go leaves the lanes, and a store stands in the merge store over the current value. (04_slices_line_cache.md R131, R133; 06_dram_tier.md R185, R186, R187, R189; 05_ordering_persistence.md R149) -/
def Obligations.WritesDown : Prop :=
  ∀ (s : State) (a : LineAddr) (l : Lmp),
    (∃ t, exec (.mergeDrainAgeExpiry a) s = .next t ∧ ∀ m ∈ (t.slice (sliceHash a)).merge, m.line = a → m.draining = true) ∧
    (∀ m n f, s.keyWaits a = false → (s.slice (sliceHash a)).offering = false → s.frozen = false → s.halted 0x028 = false →
      (s.slice (sliceHash a)).merge.find? (fun m => m.line == a && m.draining) = some m →
      (s.activeKeys (s.keyRangeOf (lineGsn a))).isSome = true → s.mirrorOf a = 0 → s.lineLmp a = some l → s.frameOf l = some (n, f) →
      f.st = 3 → s.frameChan n ∉ s.dtc.dead →
      ∃ (u : State) (g : Frame), exec (.dtcLineAccept a) s = .next (s.withPins (fun _ => u.pump.drain)) ∧
        u.dtc.frames.find n = some g ∧ g.lines.find (lineInPage a) = some (s.crustStore a m.data m.poison).1 ∧
        (u.slice (sliceHash a)).merge.length + 1 = (s.slice (sliceHash a)).merge.length) ∧
    (∀ n f, l ∈ s.dtc.fills → s.frameOf l = some (n, f) → f.st = 1 →
      (s.mch.reads.find? (fun (r : CrumbRead) => r.why == .fill l)).any (fun r => r.waits || r.recon || !s.inTurn r) = false →
      ∀ got : List (CrumbOutcome × Bool), (∀ g ∈ got, (crumbParts g.1).isSome = true) →
      ∃ u : State, exec (.pageFillDone l got) s = .next (s.withPins (fun _ => u.retryWaiting.pump)) ∧ l ∉ u.dtc.fills ∧
        (u.dtc.frames.find n).map Frame.st = some 2) ∧
    (∀ n f, s.frameOf l = some (n, f) → f.st = 4 → f.xferred = false → f.held = [] →
      ∃ t, exec (.frameTransferDone l) s = .next t ∧ t.dtc.frames.find n = some { f with held := [], xferred := true }) ∧
    (∀ n f, s.frameOf l = some (n, f) → s.dtc.frames.find n = some f → f.st = 3 → f.handed = false →
      ∃ u : State, exec (.stageAgeExpiry l) s = .next (s.withPins (fun _ => u.pump)) ∧
        u.mte.handoff = s.mte.handoff ++ [f.lmp] ∧ u.dtc.frames.find n = some { f with handed := true }) ∧
    exec .fillWindowBoundary s = .next { s with dtc := { s.dtc with touched := [] } } ∧
    (∀ (sl : Fin 8) (uid : Nat) (e : LaneEntry) (d : Line), (s.slice sl.val).lanes.find? (fun e => e.uid == uid) = some e →
      (s.slice sl.val).lanes.any (fun e => e.uid == uid && s.keyWaits e.line) = false → s.releaseHeld e.line = false →
      (s.slice sl.val).atHead e = true → s.markAhead sl.val e = false → (s.slice sl.val).mergeRoom e.line = true →
      s.paceHeld sl.val e.line = false → s.guardRefuses e.line = false → s.currentIn sl.val e = some (d, false) →
      ∃ u : State, exec (.laneEntryRelease sl uid) s =
          .next (s.withPins (fun _ => ((u.retryBehind sl.val).admitAll sl.val).drain)) ∧
        (∀ y ∈ (u.slice sl.val).lanes, y.uid ≠ uid) ∧
        (e.op = .store → ∃ m ∈ (u.slice sl.val).merge, m.line = e.line ∧ m.poison = e.poison ∧
          m.data = if e.mask = fullMask then e.data else overlay d e.data e.mask))

/-- STRIPE_GATHER_TIMEOUT closes the pages that wait; STRIPE_ISSUE marks the next stripe where the busy limit, the write order, the cap and the channels let its row start; PROGRAM_DONE is counted in the programming rate; PROGRAM_FAILURE takes its block out of use and programs the stripe again; ERASE_DONE and ERASE_FAILURE leave no page of the block; RESUME_IDLE_EXPIRY resumes a suspended operation, 500 ns later, where no read waits; BUS_CRC_FAIL counts a repetition, up to three. (07_medium_dies_scheduling.md R216, R217, R222, R234, R239, R240; 08_translation_gc.md R251, R252) -/
def Obligations.StripesAndErases : Prop :=
  ∀ s : State,
    (∀ g, s.hostGroup = some g → s.mte.gather ≠ [] →
      (s.closeStripe g 0 (if s.pwr.flush = 3 then 3 else 0) (s.mte.gather.take (s.dataPages g)) 0).1 = true →
      ∃ t, exec .stripeGatherTimeout s = .next t ∧ t.mte.gather = s.mte.gather.drop (s.dataPages g)) ∧
    (∀ (g : Fin 16) (x : Stripe), s.nextStripeOf g.val = some x → 0 < s.progRoom g.val →
      s.outOfOrder x = false → s.capRoom ((s.rowOf x).foldl (fun n y => n + y.pages.length) 0) = true → s.rowHalted (s.rowOf x) = false →
      ∃ t, exec (.stripeIssue g) s = .next t ∧ ∀ y ∈ t.mte.stripes, y.id = x.id → y.issued = true) ∧
    (∀ (n : Nat) (x : Stripe), s.mte.stripes.find? (fun x => x.id == n && x.issued && decide (x.kind ≤ 1)) = some x →
      ∃ t, exec (.programDone n) s = .next t ∧ (s.ns, x.pages.length) ∈ t.mch.pgmLog) ∧
    (∀ (n : Nat) (d : Fin 256) (x : Stripe), s.mte.stripes.find? (fun x => x.id == n && x.issued) = some x →
      ∃ u : State, exec (.programFailure n d) s = .next (s.withPins (fun _ => u.programAgain x)) ∧
        (u.block (ppaBlock (s.placeOf x d.val))).st = 2) ∧
    (∀ b : Ppa, (s.block (ppaBlock b)).st = 4 →
      (∃ t, exec (.eraseDone b) s = .next t ∧ ∀ e ∈ t.mch.pages, e.1 / 1024 ≠ ppaBlock b) ∧
      (∃ t, exec (.eraseFailure b) s = .next t ∧ ∀ e ∈ t.mch.pages, e.1 / 1024 ≠ ppaBlock b)) ∧
    (∀ d : Fin 256, (s.die d.val).suspended = true → s.readsQueued d.val = false →
      ∃ t, exec (.resumeIdleExpiry d) s = .next t ∧ (t.die d.val).suspended = false ∧
        (t.die d.val).typEnd = (s.die d.val).typEnd + (s.ns - (s.die d.val).susAt) + 500) ∧
    (∀ (ch : Fin 64) (op : BusOp), s.mch.repeats.get 0 ch.val < 3 →
      ∃ t, exec (.busCrcFail ⟨ch, op⟩) s = .next t ∧ t.mch.repeats.get 0 ch.val = s.mch.repeats.get 0 ch.val + 1)

/-- LOCAL_SERVICE_TIMEOUT ends a miss with poison for the reads that wait for it, frees a draining merge entry of the stores that wait for its point, or fences the silent slice, as SLICE_FENCE does; REMOTE_REQUEST_TIMEOUT answers the host’s read with poison, and so does FABRIC_DELIVERY_TIMEOUT of an owner that cannot be reached. (02_request_lifecycle.md R73, R74, R75; 15_faults_events.md R514) -/
def Obligations.TimeoutsEndRequests : Prop :=
  ∀ (s : State) (a : LineAddr),
    (∀ m, (s.sliceOf a).missOf a = some m →
      (s.sliceOf a).behind = [] → (s.sliceOf a).preloading = [] →
      ∃ t, exec (.localServiceTimeout .miss a) s = .next t ∧ (t.sliceOf a).missOf a = none ∧
        ∀ w ∈ m.waiters, ∀ h n, w.sender = .head h n → w.served = false → .readData h n 0 true ∈ t.out) ∧
    (∀ m, (s.sliceOf a).merge.find? (fun (m : MergeEntry) => m.line == a && m.draining && !m.offered) = some m →
      ∃ t, exec (.localServiceTimeout .release a) s = .next t ∧ { m with waits := [] } ∈ (t.sliceOf a).merge) ∧
    (s.isFenced 4 (sliceHash a) = false →
      ∃ t, exec (.localServiceTimeout .sliceAccept a) s = .next t ∧ t.isFenced 4 (sliceHash a) = true) ∧
    (∀ sl : Fin 8, s.isFenced 4 sl.val = false → ∃ t, exec (.sliceFence sl) s = .next t ∧ t.isFenced 4 sl.val = true) ∧
    (∀ (tag : BitVec 16) (q : Remote) (h : Fin 64) (k : BitVec 16), s.fxb.remotes.find? (fun q => q.tag == tag) = some q →
      q.kind = .read → q.sender = .head h k →
      ∃ u : State, exec (.remoteRequestTimeout tag) s = .next (s.withPins (fun _ => u.drain)) ∧ .readData h k 0 true ∈ u.out) ∧
    (∀ dev : Dev, s.unreachable dev = true →
      ∃ u : State, exec (.fabricDeliveryTimeout dev) s = .next (s.withPins (fun _ => u.drain)) ∧
        ∀ q ∈ s.fxb.remotes, q.dst = dev → q.kind = .read → ∀ h k, q.sender = .head h k → .readData h k 0 true ∈ u.out)

/-- A head’s BARRIER_WRITE waits behind what precedes it; it is answered STATE in the safe state, BUSY with four outstanding and UNSUPPORTED for kind 0; BARRIER_COMPLETE answers a barrier whose requests have ended with the worst status; GPF_PHASE1 is acknowledged at once, GPF_PHASE2 at once where nothing of the head’s is left to drain, after the flush where one runs, and at the latest at GPF_TIMEOUT. (05_ordering_persistence.md R155, R156, R157, R158; 12_cxl_heads.md R423) -/
def Obligations.BarriersAndGpf : Prop :=
  ∀ (s : State) (h : Fin 64),
    (∀ (kind : BitVec 2) (tag : Byte), s.headTakes h.val = true →
      (s.safe = true → ∃ t, exec (.barrierWrite h kind tag) s = .next t ∧ t.out = s.out ++ [.barrierCmp h tag stState]) ∧
      (s.safe = false → 4 ≤ (s.head h.val).barriers.length →
        ∃ t, exec (.barrierWrite h kind tag) s = .next t ∧ t.out = s.out ++ [.barrierCmp h tag stBusy]) ∧
      (s.safe = false → (s.head h.val).barriers.length < 4 → kind = 0 →
        ∃ t, exec (.barrierWrite h kind tag) s = .next t ∧ t.out = s.out ++ [.barrierCmp h tag stUnsupported]) ∧
      (s.safe = false → (s.head h.val).barriers.length < 4 → kind ≠ 0 →
        ∃ t b, exec (.barrierWrite h kind tag) s = .next t ∧ b.tag = tag ∧ b.kind = kind ∧
          (t.head h.val).barriers = (s.head h.val).barriers ++ [b])) ∧
    (∀ b rest, (s.head h.val).barriers = b :: rest → s.barrierMet h.val b = true →
      ∃ t, exec (.barrierComplete h) s = .next t ∧ .barrierCmp h b.tag (rankStatus b.worst) ∈ t.out) ∧
    (s.headExists h.val = true → ∃ t, exec (.gpfPhase1 h) s = .next t ∧ t.out = s.out ++ [.gpfAck h 1]) ∧
    (s.headExists h.val = true → (s.head h.val).gpf = none → s.pwr.flush ≠ 0 →
      ∃ t, exec (.gpfPhase2 h) s = .next t ∧ (t.head h.val).gpf = some (s.head h.val).serial) ∧
    (s.headExists h.val = true → (s.head h.val).gpf = none → s.pwr.flush = 0 →
      (∀ n, n < 8 → (s.slice n).lanes = [] ∧ (s.slice n).merge = []) → s.barrierPeers h.val (barrierHolds 2) = [] →
      (∀ o ∈ (s.head h.val).outs, o.kind ≠ .store) → (s.head h.val).held = [] →
      ∃ t, exec (.gpfPhase2 h) s = .next t ∧ .gpfAck h 2 ∈ t.out ∧ (t.head h.val).gpf = none) ∧
    (∀ g, (s.head h.val).gpf = some g →
      ∃ t, exec (.gpfTimeout h) s = .next t ∧ .gpfAck h 2 ∈ t.out ∧ (t.head h.val).gpf = none)

/-- INVALIDATION_DONE leaves no covered line in the line cache and starts the next request; SLC_LOCK_COMMIT makes the shadow words the lock words; PRELOAD_DONE ends a preload whose lines have all been installed or skipped; PB_SRAM_UE remembers an uncorrectable error for the fence rule and counts a corrected one. (04_slices_line_cache.md R120, R125, R126, R128, R135; 15_faults_events.md R514) -/
def Obligations.SliceCommands : Prop :=
  ∀ (s : State) (sl : Fin 8),
    (∀ r rest, (s.slice sl.val).inv = r :: rest → ∃ t, exec (.invalidationDone sl) s = .next t ∧ (t.slice sl.val).inv = rest ∧
      ∀ e ∈ (t.slice sl.val).lc, e.2.valid = true → r.covers (keyLine sl.val e.1 e.2) e.2.region = false) ∧
    (slcPage sl.val ∈ s.pages.committing →
      ∃ t, exec (.slcLockCommit sl) s = .next t ∧ slcPage sl.val ∉ t.pages.committing ∧
        t.reg (slcPage sl.val) 0x120 = s.shadowReg (slcPage sl.val) 0x120) ∧
    (∀ g : Fin 4, g.val ∈ (s.slice sl.val).preloading →
      s.preloadLineAt sl.val g.val ((s.slice sl.val).preNext.get 0 g.val) = none →
      (∀ m ∈ (s.slice sl.val).misses, ∀ w ∈ m.waiters, w.ident ≠ preloadIdent g.val) →
      (∀ w ∈ (s.slice sl.val).stalled, w.2.ident ≠ preloadIdent g.val) →
      ∃ t, exec (.preloadDone sl g) s = .next t ∧ g.val ∉ (t.slice sl.val).preloading) ∧
    (∀ p : PbPlace, p ≠ .corrected → ∃ t, exec (.pbSramUe sl p) s = .next t ∧ s.ns ∈ (t.slice sl.val).ues) ∧
    exec (.pbSramUe sl .corrected) s = .next (s.withPins (fun s =>
      ((s.countUp (slcPage sl.val) 0x164 16 16 1).raise (slcPage sl.val) .slcPbSramCe).admitAll sl.val))

/-- CHANNEL_TRAINING_DONE makes a training channel Active, CHANNEL_TRAINING_TIMEOUT makes it Empty; DIMM_THERMAL_ROUND readings inside the limits clear the counts of bad rounds and DIMM_REREAD readings are recorded; a DRAM_ERROR of a channel’s rail is its CHANNEL_FENCE with cause 5, which holds the channel’s domain; a corrected error is remembered for the device mark; PATROL_SCRUB_PASS counts; REFORM_DRAIN_END, REFORM_FREEZE_END and REFORM_RELOCATE_END lead from phase to phase, to an empty tier without the channels that left; REFORM_TIMEOUT is reported; READMIT_TIME_EXPIRY lets a group that may join begin. (06_dram_tier.md R188, R190, R202, R203, R204, R205, R206; 15_faults_events.md R513) -/
def Obligations.TierChannels : Prop :=
  ∀ (s : State) (c : Fin 16),
    (s.dchState c.val = 2 → s.regFld 0x028 0x104 4 3 ≠ 0 →
      ∃ u : State, exec (.channelTrainingDone c) s = .next (s.withPins (fun _ => u)) ∧ u.dchState c.val = 3) ∧
    (s.dchState c.val = 2 → s.regFld 0x028 0x104 4 3 = 0 →
      ∃ u : State, exec (.channelTrainingDone c) s = .next (s.withPins (fun _ => u.tierFormed)) ∧ u.dchState c.val = 3) ∧
    (s.dchState c.val = 2 → s.regFld 0x028 0x104 4 3 = 0 →
      ∃ u : State, exec (.channelTrainingTimeout c) s = .next (s.withPins (fun _ => u.decidePopulation)) ∧ u.dchState c.val = 0) ∧
    (∀ temps : List Byte, (∀ k, k < 16 → temps.getD k 0x80 ≠ 0x80 ∧ spdOutside (s.socket k).spd (temps.getD k 0x80) = false) →
      (s.socket c.val).known = true → spdOk (s.socket c.val).spd = true → s.dchState c.val = 3 →
      ∃ t, exec (.dimmThermalRound ⟨temps, 0⟩) s = .next t ∧ (t.socket c.val).outRounds = 0 ∧ (t.socket c.val).badRounds = 0) ∧
    (∀ temps : List Byte, (s.socket c.val).known = true → spdOk (s.socket c.val).spd = true → s.dchState c.val ≠ 3 →
      ∃ u : State, exec (.dimmReread temps) s = .next (s.withPins (fun _ => u)) ∧
        u.regFld (dchPage c.val) 0x104 0 8 = (temps.getD c.val 0x80).toNat) ∧
    (s.dchState c.val = 3 → exec (.dramError c .rail) s = exec (.channelFence c 5) s) ∧
    (s.dchState c.val = 3 → bitAt (s.reg (dchPage c.val) 0x10c) 5 = false → ∀ sub dev p,
      ∃ t, exec (.dramError c (.device sub dev p)) s = .next t ∧
      (c.val, 10 * (if sub then 1 else 0) + dev.toNat, s.ns) ∈ t.dtc.ces) ∧
    (s.dchState c.val = 3 → ∀ cause, ∃ t, exec (.channelFence c cause) s = .next t ∧ t.isFenced 5 c.val = true) ∧
    exec .patrolScrubPass s = .next { s with dtc := { s.dtc with scrubs := s.dtc.scrubs + 1 } } ∧
    (s.regFld 0x028 0x104 4 3 = 1 → (s.dtc.frames.filter (fun (e : Nat × Frame) => e.2.staged)).length ≤ 16384 →
      ∃ u : State, exec .reformDrainEnd s = .next (s.withPins (fun _ => (u.handAll true).pump)) ∧ u.regFld 0x028 0x104 4 3 = 2) ∧
    (s.regFld 0x028 0x104 4 3 = 2 → s.dtc.frames.any (fun (e : Nat × Frame) => e.2.staged) = false →
      ∃ u : State, exec .reformFreezeEnd s = .next (s.withPins (fun _ => u)) ∧ u.regFld 0x028 0x104 4 3 = 3) ∧
    (s.regFld 0x028 0x104 4 3 = 3 → s.dtc.joining.any (fun c => s.dchState c == 2) = false →
      s.dtc.frames.any (fun (e : Nat × Frame) => e.2.staged) = false →
      ∃ (u : State) (late : List Nat),
        exec .reformRelocateEnd s = .next (s.withPins (fun _ => (((u.retryWaiting).each late State.relocDone).pump).drain)) ∧
        u.dtc.frames = [] ∧ u.dtc.leaving = [] ∧ u.dtc.joining = []) ∧
    (s.regFld 0x028 0x104 4 3 = 1 →
      exec .reformTimeout s = .next (s.withPins (fun s => s.raise 0x028 .dtcReformTmo))) ∧
    (∀ g : Fin 4, (List.range 4).find? (fun g => (groupSockets g).any (fun c => !decide (c ∈ s.dtc.used))) = some g.val →
      s.dtc.decided = true → s.regFld 0x028 0x104 4 3 = 0 → (groupSockets g.val).all s.mayJoin = true →
      ∃ t, exec .readmitTimeExpiry s = .next t ∧ t.dtc.joining = groupSockets g.val)

/-- DRIFT_SURVEY_START leaves no anchor and SURVEY ends the survey when its reads have ended; MEDIA_THERMAL_ROUND counts; MCH_GRPMODE_COMMIT brings the written word into force; MODE_MOVE_END ends the move of a group whose die count fits its new mode. (07_medium_dies_scheduling.md R213, R220, R228, R231, R238) -/
def Obligations.MediumState : Prop :=
  ∀ s : State,
    (s.mch.surveyed = false → ∃ t, exec .driftSurveyStart s = .next t ∧ ∀ b, (t.block b).anchored = false) ∧
    (s.mch.surveyed = false → s.mch.reads.any (fun r => r.why == .survey) = false →
      ∃ t, exec .survey s = .next t ∧ t.mch.surveyed = true) ∧
    (∃ t, exec .mediaThermalRound s = .next t ∧ t.mch.round = s.mch.round + 1) ∧
    (0x080 ∈ s.pages.committing → ∀ w, s.shadow.find (regAddr 0x080 0x104) = some w →
      ∃ t, exec .mchGrpmodeCommit s = .next t ∧ t.reg 0x080 0x104 = w ∧ 0x080 ∉ t.pages.committing) ∧
    (∀ g : Fin 16, s.busyIn g.val ≤ busyLimit (s.groupMode g.val) →
      ∃ t, exec (.modeMoveEnd g) s = .next t ∧ t.mch.moving.find g.val = none)

/-- WSN_RESERVE raises the ceiling by 2^24 above the durable one; WSN_RESERVE_DURABLE makes every reservation entry of the durable journal count; JOURNAL_FLUSH_EXPIRY takes the journal’s entries in order into the stripe that is programmed; at JOURNAL_STRIPE_PROGRAMMED those entries are durable; CHECKPOINT_WRITE captures a changed page where its image can be programmed, and the images of the tables. (08_translation_gc.md R253, R259, R260, R262, R263) -/
def Obligations.JournalAndWsn : Prop :=
  ∀ s : State,
    (s.mte.ceiling < s.mte.durCeiling + 2 ^ 24 →
      ∃ t, exec .wsnReserve s = .next t ∧ t.mte.ceiling = s.mte.durCeiling + 2 ^ 24) ∧
    (∃ u : State, exec .wsnReserveDurable s = .next (s.withPins (fun _ => (u.releaseUnmaps.pump).rwCheck)) ∧
      s.mte.durCeiling ≤ u.mte.durCeiling ∧ ∀ e ∈ s.mte.jdur, e.2.type = 0x09 → e.2.y.toNat ≤ u.mte.durCeiling) ∧
    (s.mte.jbuf ≠ [] → s.mte.jprog = [] →
      ∃ t, exec .journalFlushExpiry s = .next t ∧ s.mte.jbuf <+: t.mte.jprog ++ t.mte.jbuf) ∧
    (∀ x, s.mte.stripes.find? (fun (x : Stripe) => x.kind == 2 && x.issued) = some x →
      ∃ u : State, exec .journalStripeProgrammed s = .next (s.withPins (fun _ =>
          (((State.drainJwait u.mte.jwait.length u).checkJournal.releaseUnmaps.pump.dropsDurable).rwCheck.recAcks).drain)) ∧
        u.mte.jprog = [] ∧ ∀ e ∈ s.mte.jprog, e ∈ u.mte.jdur.map Prod.snd) ∧
    (∀ n : BitVec 23, n.toNat ∈ s.mte.changed → (s.programImage n.toNat s.mte.jTop).1 ≠ none →
      ∃ t, exec (.checkpointWrite (.page n)) s = .next t ∧ n.toNat ∉ t.mte.changed ∧
        t.mte.captured.find n.toNat = some s.mte.jTop) ∧
    (∃ t, exec (.checkpointWrite .images) s = .next t ∧ t.mte.dirImage = s.mte.jTop ∧ t.mte.dirOk = true)

/-- In the Translation phase of start-up STARTUP_BLOCK_SCAN_END, STARTUP_JOURNAL_LOCATE_END, STARTUP_IMAGE_LOAD_END, STARTUP_MAP_LOAD_END, STARTUP_REPLAY_END and STARTUP_TAIL_SCAN_END each lead to the next step (reduced mode loads no map), a missing journal or image leads to FULL_REBUILD and from there to the tail scan, and SETTLE ends the phase once a write number is reserved. STARTUP_RELEASE starts the pages and the recall; STARTUP_BRINGUP_END ends bring-up when the DRAM set is decided, the survey has started and the recall has ended; STARTUP_ENABLE makes the module On, with its line caches invalidated and enabled unless the boot register keeps them off. (08_translation_gc.md R265, R266, R267, R268, R269, R270, R275; 16_power_thermal_clocks.md R573, R574, R580, R581; 15_faults_events.md R537) -/
def Obligations.StartupPhases : Prop :=
  (∀ s : State, s.pwr.startup = 3 →
      (s.mtePhase = 1 → ∃ u : State, exec .startupBlockScanEnd s = .next (s.withPins (fun _ => u.startupOff)) ∧ u.mtePhase = 2) ∧
      (s.mtePhase = 2 → ∃ u : State, exec .startupJournalLocateEnd s = .next (s.withPins (fun _ => u.startupOff)) ∧
        u.mtePhase = if s.needsRebuild then 8 else 3) ∧
      (s.mtePhase = 3 → ∃ u : State, exec .startupImageLoadEnd s = .next (s.withPins (fun _ => u.startupOff)) ∧
        u.mtePhase = if s.reduced then (if s.imagesLost then 8 else 5) else 4) ∧
      (s.mtePhase = 4 → ∃ u : State, exec .startupMapLoadEnd s = .next (s.withPins (fun _ => u.startupOff)) ∧
        u.mtePhase = if s.imagesLost then 8 else 5) ∧
      (s.mtePhase = 5 → ∃ u : State, exec .startupReplayEnd s = .next (s.withPins (fun _ => u.startupOff)) ∧ u.mtePhase = 6) ∧
      (s.mtePhase = 6 → ∃ u : State, exec .startupTailScanEnd s = .next (s.withPins (fun _ => u.startupOff)) ∧ u.mtePhase = 7) ∧
      (s.mtePhase = 8 → ∃ u : State, exec .fullRebuild s = .next (s.withPins (fun _ => u.startupOff)) ∧ u.mtePhase = 6) ∧
      (s.mtePhase = 7 → s.wsnReady = true → ∃ u : State, exec .settle s = .next (s.withPins (fun _ => u.startupOff)) ∧ u.mtePhase = 0)) ∧
  (∀ s : State, s.pwr.offReq = false →
      (s.pwr.startup = 1 → ∃ t, exec .startupRelease s = .next t ∧ t.pwr.startup = 2 ∧ t.pages.started = true ∧ t.pan.recalling = true ∧
        (s.mgt.dyn = none → s.mgt.hjEn = true → .hotJoin ∈ t.out)) ∧
      (s.pwr.startup = 2 → s.dtc.decided = true → s.surveyStarted = true → s.pan.recalling = false →
        ∃ t, exec .startupBringupEnd s = .next t ∧ t.pwr.startup = 3 ∧ t.mtePhase = 1) ∧
      (s.pwr.startup = 3 → s.mtePhase = 0 → s.mte.restored = true → bitAt (s.reg 0x006 0x10c) 0 = false →
        ∃ t, exec .startupEnable s = .next t ∧ t.pwr.st = 3 ∧ t.pwr.startup = 4 ∧ ∀ n : Fin 8, t.regFld (slcPage n.val) 0x108 1 1 = 1 ∧
          t.lcEnabled n.val = true))

/-- SCRAPER_VICTIM_SELECT takes the victim its rule names; RELOCATION_PROGRAMMED enters a set without live pages for release; SET_RELEASE_DURABLE lets the set be erased. (08_translation_gc.md R271, R272, R273, R274) -/
def Obligations.Scraping : Prop :=
  ∀ s : State,
    (∀ (g : Fin 16) (id : Nat) (x : SetRec) (reason : Nat), s.frozen = false → (s.levelReclaim g.val).mte.victim.find g.val = none →
      (s.levelReclaim g.val).groupState g.val ≠ 2 → (s.levelReclaim g.val).victimOf g.val = some (id, x, reason) →
      ∃ t, exec (.scraperVictimSelect g) s = .next t ∧ t.mte.victim.find g.val = some id) ∧
    (∀ (id : BitVec 64) (x : SetRec), s.mte.sets.find id.toNat = some x → x.st = 4 → s.setLivePages x = [] →
      id.toNat ∉ s.mte.releasing → s.frozen = false →
      ∃ t, exec (.relocationProgrammed id) s = .next t ∧ id.toNat ∈ t.mte.releasing) ∧
    (∀ id : BitVec 64, id.toNat ∈ s.mte.releasing → s.isDurable 0x07 id = true →
      ∃ t, exec (.setReleaseDurable id) s = .next t ∧ id.toNat ∉ t.mte.releasing)

/-- REWIND_MARK_HOLD_END places the mark at the next write number; RW_MARK_DURABLE ends the operation, or leaves it waiting for the mirror holders; a rewind voids at REWIND_TO_QUIESCE_END, applies at RW_VOID_DURABLE and ends at RW_DONE_DURABLE; REWIND_MARK_HOLD_TIMEOUT, REWIND_QUIESCE_TIMEOUT and MIRROR_CONFIRM_TIMEOUT end the operation. (09_rewind.md R300, R302, R303, R304, R312) -/
def Obligations.RewindPhases : Prop :=
  ∀ (s : State) (r : BitVec 8) (o : RwOp), (s.rwr r.toNat).op = some o →
    (o.kind = 1 → o.phase = 1 → s.holdMet r.toNat = true →
      ∃ t, exec (.rewindMarkHoldEnd r) s = .next t ∧
        (t.rwr r.toNat).marks = (s.rwr r.toNat).marks ++ [⟨o.epoch, s.mte.nextWsn, BitVec.ofNat 40 (s.opMs % 2 ^ 40)⟩] ∧
        (t.rwr r.toNat).op = some { o with phase := 2, cut := s.mte.nextWsn }) ∧
    (o.kind = 1 → o.phase = 2 → s.isDurable 0x10 (BitVec.ofNat 64 o.cut) = true →
      ∃ t, exec (.rwMarkDurable r) s = .next t ∧
        (t.rwr r.toNat).op = if o.confirms.isEmpty then none else some { o with phase := 4 }) ∧
    (o.kind = 1 → o.phase = 1 → ∃ t, exec (.rewindMarkHoldTimeout r) s = .next t ∧ (t.rwr r.toNat).op = none) ∧
    (o.kind = 2 → o.phase = 1 → s.quiesceMet r.toNat = true →
      ∃ t, exec (.rewindToQuiesceEnd r) s = .next t ∧ (t.rwr r.toNat).op.map RwOp.phase = some 2) ∧
    (o.kind = 2 → o.phase = 2 → s.isDurable 0x12 (BitVec.ofNat 64 o.cut) = true →
      ∃ t, exec (.rwVoidDurable r) s = .next t ∧ (t.rwr r.toNat).op = some { o with phase := 3 }) ∧
    (o.kind = 2 → o.phase = 3 → s.isDurable 0x15 (BitVec.ofNat 64 o.cut) = true →
      ∃ t, exec (.rwDoneDurable r) s = .next t ∧
        (t.rwr r.toNat).op = if o.confirms.isEmpty then none else some { o with phase := 4 }) ∧
    (o.kind = 2 → o.phase = 1 → ∃ t, exec (.rewindQuiesceTimeout r) s = .next t ∧ (t.rwr r.toNat).op = none) ∧
    (o.phase = 4 → ∃ u : State, exec (.mirrorConfirmTimeout r) s = .next (s.withPins (fun _ => u.drain)) ∧
      (u.rwr r.toNat).op = none)

/-- A REGISTER_WRITE that every rule allows does what the register gives; a write to a page without a block is counted as UNMAPPED; a write without the right raises DENIED and is not rejected; a write that a rule of its register forbids, and one of another width or to an unaligned address, is rejected; a REGISTER_READ of a page that holds no block answers 0; a read of a register answers its word, but I3C reads of the command and completion FIFOs answer 0 and are rejected (R475). (14_management.md R475, R480; 13_crust.md R450) -/
def Obligations.RegisterAccess : Prop :=
  ∀ (s : State) (q : Requester) (page : BitVec 12) (off : BitVec 12) (w : Word), s.pages.started = true → s.reaches q = true →
    (∀ k r, pageKind page.toNat = some k → regWord page.toNat off.toNat = some r → off.toNat % 4 = 0 →
      (s.accepts q page.toNat off.toNat w = true →
        exec (.registerWrite q (page ++ off) 4 w) s =
          .next (s.withPins (fun s => (s.acceptWrite q page.toNat k r w).drain))) ∧
      (s.windowShut q = none → s.mayWrite q off.toNat w = true → s.blockClosed page.toNat k off.toNat = false →
        s.writeOk q page.toNat k r w = false →
        exec (.registerWrite q (page ++ off) 4 w) s = .next (s.withPins (fun s => (s.reject page.toNat).drain)))) ∧
    (∀ k, pageKind page.toNat = some k → s.windowShut q = none →
      (s.mayWrite q off.toNat w = false →
        exec (.registerWrite q (page ++ off) 4 w) s = .next (s.withPins (fun s => (s.writeDenied q).drain))) ∧
      (s.mayWrite q off.toNat w = true → ∀ width, width ≠ 4 ∨ off.toNat % 4 ≠ 0 →
        exec (.registerWrite q (page ++ off) width w) s = .next (s.withPins (fun s => (s.reject page.toNat).drain)))) ∧
    (pageKind page.toNat = none → s.windowShut q = none → s.hasRight q 0 = true → ∀ width,
      exec (.registerWrite q (page ++ off) width w) s = .next (s.withPins (fun s => s.unmapped.drain))) ∧
    (pageKind page.toNat = none → s.windowShut q = none → ∀ width,
      exec (.registerRead q (page ++ off) width) s =
        .next (s.withPins (fun s => s.unmapped.emit (.regRead q (page ++ off) 0)))) ∧
    (∀ h, s.windowShut q = some h → ∀ width,
      exec (.registerRead q (page ++ off) width) s =
        .next (s.withPins (fun s => (s.headDenied h.val).emit (.regRead q (page ++ off) 0)))) ∧
    (∀ k r, pageKind page.toNat = some k → regWord page.toNat off.toNat = some r → off.toNat % 4 = 0 →
      s.windowShut q = none → s.blockClosed page.toNat k off.toNat = false →
      (page ++ off ≠ (0x000120 : BitVec 24) → ¬ (q = .i3c ∧ (page ++ off).toNat ∈ fifoAddrs) →
        ∃ t, exec (.registerRead q (page ++ off) 4) s = .next t ∧
          .regRead q (page ++ off) (s.readWord q page.toNat k r).1 ∈ t.out) ∧
      (q = .i3c → (page ++ off).toNat ∈ fifoAddrs →
        exec (.registerRead q (page ++ off) 4) s =
          .next (s.withPins (fun s => (s.reject page.toNat).emit (.regRead q (page ++ off) 0)))))

/-- CTRL_COMMIT leaves the commit pending where the page has shadows; CTRL_LOCK locks the page; CTRL_RESET resets the unit, or the module at page 0; CTRL_RUN stops the block, which shows QUIESCED at QUIESCE_DONE once it is idle; EVT_STAT_W1C clears events; EVT_FORCE_WRITE raises their sources; PERF_CTL_CLEAR clears the page’s counters; FREEZE_ALL and CLEAR_ALL act on every page. REGION_COMMIT starts a commit, which REGION_COMMIT_QUIESCE_TIMEOUT abandons until REGION_COMMIT_RETRY; SUBSYSTEM_RESET_PRT and SUBSYSTEM_RESET_SVE reset the ports and the service engine; PWR_LOGCUR_WRITE, PWR_LOG_NEXT, PWR_LOG_OLDEST, PWR_LOG_NEWEST, PWR_LOG_CLEAR and PWR_LOG_COMPAT_WRITE move the log’s cursor, clear the log and set its format. (14_management.md R484, R485, R486, R487; 03_address_spaces_regions.md R97, R98; 16_power_thermal_clocks.md R557, R571) -/
def Obligations.HeaderCommands : Prop :=
  (∀ (s : State) (q : Requester) (page : BitVec 12) (k : PageKind), pageKind page.toNat = some k →
      (s.accepts q page.toNat 0x08 (s.ctrlWord page.toNat 8) = true → k ≠ .mte →
        exec (.ctrlCommit q page) s = .next (s.withPins (fun s =>
          (if k.shadow then { s with pages := { s.pages with committing := insertNew s.pages.committing page.toNat } } else s).drain))) ∧
      (s.accepts q page.toNat 0x08 (s.ctrlWord page.toNat 4) = true →
        exec (.ctrlLock q page) s = .next (s.withPins (fun s =>
          ({ s with pages := { s.pages with locked := insertNew s.pages.locked page.toNat } }).drain))) ∧
      (s.accepts q page.toNat 0x08 (s.ctrlWord page.toNat 2) = true →
        exec (.ctrlReset q page) s = .next (s.withPins (fun s =>
          (if page = 0 then s.askReset 2 else s.unitReset page.toNat).drain))) ∧
      (∀ run : Bool, s.accepts q page.toNat 0x08 (if run then 1 else 0) = true →
        exec (.ctrlRun q page run) s = .next (s.withPins (fun s => (s.setRun page.toNat run).drain))) ∧
      (page.toNat ∈ s.pages.stopped → s.pageIdle page.toNat = true →
        ∃ t, exec (.quiesceDone page) s = .next t ∧ t.pages.quiesced = insertNew s.pages.quiesced page.toNat) ∧
      (∀ w, s.accepts q page.toNat 0x10 w = true →
        exec (.evtStatW1c q page false w) s = .next (s.withPins (fun s => (s.clearEvents page.toNat w).drain))) ∧
      (∀ w, s.accepts q page.toNat 0x14 w = true →
        exec (.evtStatW1c q page true w) s = .next (s.withPins (fun s => s.drain))) ∧
      (∀ w, s.accepts q page.toNat 0x20 w = true →
        exec (.evtForceWrite q page false w) s = .next (s.withPins (fun s => (s.forceEvents page.toNat w).drain))) ∧
      (∀ w, s.accepts q page.toNat 0x24 w = true →
        exec (.evtForceWrite q page true w) s = .next (s.withPins (fun s => s.drain))) ∧
      (∀ w, s.accepts q page.toNat 0x38 w = true → bitAt w 25 = true → page.toNat ∈ s.pages.locked →
        exec (.perfCtlClear q page w) s = .next (s.withPins (fun s => (s.clearPerf page.toNat).drain))) ∧
      (∀ on : Bool, s.accepts q 0x300 0x100 (if on then 1 else 0) = true →
        exec (.freezeAll q on) s = .next (s.withPins (fun s => ({ s with freezeAll := on }).drain))) ∧
      (s.accepts q 0x300 0x100 (BitVec.ofNat 32 (2 + flag s.freezeAll)) = true →
        exec (.clearAll q) s = .next (s.withPins (fun s => (s.each allPages State.clearPerf).drain)))) ∧
  (∀ (s : State) (q : Requester) (w : Word),
      (s.accepts q 0x030 0x08 (s.ctrlWord 0x030 8) = true → s.mte.commit = 0 →
        exec (.regionCommit q) s = .next (s.withPins (fun s => s.startCommitRegions.drain))) ∧
      (s.mte.commit = 1 → ∃ u : State, exec .regionCommitQuiesceTimeout s = .next (s.withPins (fun _ => u.drain)) ∧
        u.mte.commit = 2 ∧ u.mte.regions = s.mte.regions) ∧
      (s.mte.commit = 2 → exec .regionCommitRetry s = .next (s.withPins (fun s => s.startCommitRegions.drain))) ∧
      (s.accepts q 0x001 0x108 1 = true → exec (.subsystemResetPrt q) s = .next (s.withPins (fun s => s.prtReset.drain))) ∧
      (s.accepts q 0x001 0x108 2 = true → exec (.subsystemResetSve q) s = .next (s.withPins (fun s => s.sveReset.drain))) ∧
      (s.accepts q 0x002 0x12c w = true → ∃ u : State, exec (.pwrLogcurWrite q w) s = .next (s.withPins (fun _ => u.drain)) ∧
        u.pan.supCur = w.toNat ∧ u.pan.supWin = (s.pan.sup.find w.toNat).filter s.supOk) ∧
      (s.accepts q 0x002 0x130 1 = true → ∀ r e, s.pan.supWin = some r →
        pickRec s.pan.sup (fun x => s.supOk x && decide (r.seq < x.seq)) (fun a b => a.seq < b.seq) = some e →
        ∃ u : State, exec (.pwrLogNext q) s = .next (s.withPins (fun _ => u.drain)) ∧ u.pan.supCur = e.1 ∧ u.pan.supWin = some e.2) ∧
      (s.accepts q 0x002 0x130 2 = true → ∀ e, pickRec s.pan.sup (fun r => s.supOk r && true) (fun a b => a.seq < b.seq) = some e →
        ∃ u : State, exec (.pwrLogOldest q) s = .next (s.withPins (fun _ => u.drain)) ∧ u.pan.supCur = e.1 ∧ u.pan.supWin = some e.2) ∧
      (s.accepts q 0x002 0x130 4 = true → ∀ e, pickRec s.pan.sup (fun r => s.supOk r && true) (fun a b => b.seq < a.seq) = some e →
        ∃ u : State, exec (.pwrLogNewest q) s = .next (s.withPins (fun _ => u.drain)) ∧ u.pan.supCur = e.1 ∧ u.pan.supWin = some e.2) ∧
      (s.accepts q 0x002 0x130 8 = true → ∃ u : State, exec (.pwrLogClear q) s = .next (s.withPins (fun _ => u.drain)) ∧
        u.pan.sup = [] ∧ u.pan.supSeq = 0) ∧
      (∀ c : Bool, s.accepts q 0x002 0x128 (if c then 1 else 0) = true → c ≠ s.pan.compat →
        ∃ u : State, exec (.pwrLogCompatWrite q c) s = .next (s.withPins (fun _ => u.drain)) ∧ u.pan.compat = c ∧ u.pan.sup = []))

/-- Each command is the write of its register, where every rule accepts it: SLC_LC_ENABLE_WRITE enables the line cache, SLC_INVALIDATE_START queues an invalidation, SLC_PRELOAD starts the preload of locked groups, DTC_CH_FENCE and DTC_CH_READMIT fence and re-admit a DRAM channel, MCH_CH_FENCE and MCH_CH_DIEFENCE fence a media channel or some of its dies, PRT_CTL_RETRAIN retrains ports, CRS_TEST_CONSENT opens a consent window, FLT_INJ_WRITE injects a fault, EVR_CURSOR_WRITE, EVR_NEXT_NEXT, EVR_NEXT_OLDEST and EVR_NEXT_NEWEST move the recorder’s cursor. (04_slices_line_cache.md R118, R121, R128; 06_dram_tier.md R203, R208; 07_medium_dies_scheduling.md R244; 10_elvuc_link.md R362; 13_crust.md R466; 15_faults_events.md R521, R527) -/
def Obligations.BlockRegisters : Prop :=
  ∀ (s : State) (q : Requester) (w : Word),
    (∀ sl : Fin 8, s.accepts q (slcPage sl.val) 0x104 w = true →
      exec (.slcLcEnableWrite q sl w) s = .next (s.withPins (fun s => (s.writeLcCtl (slcPage sl.val) w).drain))) ∧
    (∀ sl : Fin 8, s.accepts q (slcPage sl.val) 0x10c w = true → bitAt w 31 = true → bitAt w 30 = true →
      exec (.slcInvalidateStart q sl w) s = .next (s.withPins (fun s => (s.queueInv sl.val .full).drain))) ∧
    (∀ sl : Fin 8, s.accepts q (slcPage sl.val) 0x148 w = true →
      exec (.slcPreload q sl w) s = .next (s.withPins (fun s =>
        (s.each ((List.range 4).filter (fun g => bitAt w g)) (fun s g => s.startPreload sl.val g)).drain))) ∧
    (∀ c : Fin 16, s.accepts q (dchPage c.val) 0x110 0x80000000 = true →
      exec (.dtcChFence q c) s = .next (s.withPins (fun s => (s.fenceDch c.val 6).drain))) ∧
    (∀ c : Fin 16, s.accepts q (dchPage c.val) 0x110 0x40000000 = true →
      exec (.dtcChReadmit q c) s = .next (s.withPins (fun s =>
        ((s.setSocket c.val { s.socket c.val with readmit := true }).unfence 5 c.val).drain))) ∧
    (∀ ch : Fin 64, s.accepts q (chanPage ch.val) 0x10c 0x80000000 = true →
      exec (.mchChFence q ch) s = .next (s.withPins (fun s => (s.fenceChan ch.val 3).drain))) ∧
    (∀ (ch : Fin 64) (d : BitVec 4), s.accepts q (chanPage ch.val) 0x10c (d.setWidth 32) = true →
      exec (.mchChDiefence q ch d) s = .next (s.withPins (fun s =>
        (s.each (((List.range 4).filter (fun i => d.getLsbD i)).map (fun i => 4 * ch.val + i)) (fun s d => s.fenceDieFor d 3)).drain))) ∧
    (∀ p : Fin 64, s.accepts q (0x100 + p.val) 0x104 w = true →
      exec (.prtCtlRetrain q p w) s = .next (s.withPins (fun s =>
        (s.retrain (((List.range 8).filter (fun j => bitAt w j)).map (fun j => 8 * p.val + j)) 8).drain))) ∧
    (s.accepts q 0x00b 0x108 w = true → bitAt w 31 = true →
      ∃ u : State, exec (.crsTestConsent q w) s = .next (s.withPins (fun _ => u.drain)) ∧ u.crs.window = true ∧
        u.crs.nonce = BitVec.ofNat 64 (s.fresh).1) ∧
    (s.accepts q 0x004 0x128 w = true → bitAt w 31 = true →
      exec (.fltInjWrite q w) s = .next (s.withPins (fun s => (s.inject (fld w 28 3) (fld w 24 4) (fld w 0 20)).drain))) ∧
    (s.accepts q 0x005 0x108 w = true →
      exec (.evrCursorWrite q w) s = .next (s.withPins (fun s => ({ s with flt :=
        { s.flt with cursor := w.toNat, window := s.evrTab.find w.toNat } }).drain))) ∧
    (s.accepts q 0x005 0x10c 1 = true → ∀ r, s.flt.window = some r →
      exec (.evrNextNext q) s = .next (s.withPins (fun s => (s.evrMove (fun x => r.seq < x.seq) true).drain))) ∧
    (s.accepts q 0x005 0x10c 2 = true →
      exec (.evrNextOldest q) s = .next (s.withPins (fun s => (s.evrMove (fun _ => true) true).drain))) ∧
    (s.accepts q 0x005 0x10c 4 = true →
      exec (.evrNextNewest q) s = .next (s.withPins (fun s => (s.evrMove (fun _ => true) false).drain)))

/-- With the right password UNLOCK_READ and UNLOCK_WRITE unlock the partition for the requester; a write-unlocked requester’s SET_READ_PASSWORD and SET_WRITE_PASSWORD set or remove a password; LOCK_UNLOCKS removes the requester’s unlocks; PASSWORD_HOLD_EXPIRY ends the hold; PANTRY_WRITE reaches both parts with the next sequence number; PANTRY_RECALL reconciles them, and RECALL_DONE re-opens the pantry; OPSEC_WRITE_EXPIRY writes the operating seconds to their ring. The partitions of a part follow each other inside it, a counter slot of 16 B stays inside the counters partition and an event log slot of 64 B inside the event log, and a record of a partition with two halves is its payload behind a header of 16 B. (15_faults_events.md R531, R532, R533, R534, R535, R537; 16_power_thermal_clocks.md R605) -/
def Obligations.PasswordsAndPantry : Prop :=
  ∀ (s : State) (q : Requester) (part : Nat), part = s.regFld 0x006 0x104 0 3 →
    (s.accepts q 0x006 0x108 1 = true → s.pan.hold = false →
      s.pan.pwds.find (pwKey part false) = some (pwDigest (s.entered q)) →
      ∃ u : State, exec (.unlockRead q) s = .next (s.withPins (fun _ => u.drain)) ∧ (pwKey part false, q) ∈ u.pan.unlocks) ∧
    (s.accepts q 0x006 0x108 2 = true → s.pan.hold = false →
      s.pan.pwds.find (pwKey part true) = some (pwDigest (s.entered q)) →
      ∃ u : State, exec (.unlockWrite q) s = .next (s.withPins (fun _ => u.drain)) ∧ (pwKey part true, q) ∈ u.pan.unlocks) ∧
    (s.accepts q 0x006 0x108 3 = true → s.unlocked q part true = true →
      ∃ u : State, exec (.setReadPassword q) s = .next (s.withPins (fun _ => u.drain)) ∧
        u.pan.pwds = if s.entered q = 0 then s.pan.pwds.del (pwKey part false)
          else s.pan.pwds.put (pwKey part false) (pwDigest (s.entered q))) ∧
    (s.accepts q 0x006 0x108 4 = true → s.unlocked q part true = true →
      ∃ u : State, exec (.setWritePassword q) s = .next (s.withPins (fun _ => u.drain)) ∧
        u.pan.pwds = if s.entered q = 0 then s.pan.pwds.del (pwKey part true)
          else s.pan.pwds.put (pwKey part true) (pwDigest (s.entered q))) ∧
    (s.accepts q 0x006 0x108 5 = true →
      ∃ u : State, exec (.lockUnlocks q) s = .next (s.withPins (fun _ => u.drain)) ∧ ∀ e ∈ u.pan.unlocks, e.2 ≠ q) ∧
    exec .passwordHoldExpiry s = .next { s with pan := { s.pan with hold := false } } ∧
    (s.pantryDown = false → ∃ t, exec .opsecWriteExpiry s = .next t ∧ t.pan.rings.get 0 1 = min (2 ^ 40 - 1) s.opSec) ∧
    (∀ (key : BitVec 32) (v : BitVec 64), s.pan.paFailed = false → s.pan.pbFailed = false →
      ∃ t, exec (.pantryWrite key v []) s = .next t ∧ t.pan.seq = s.pan.seq + 1 ∧
        t.pan.pa.find key.toNat = some (s.pan.seq, v) ∧ t.pan.pb.find key.toNat = some (s.pan.seq, v)) ∧
    (s.pan.recalling = true → exec .pantryRecall s = .next (s.withPins State.reconcile)) ∧
    (s.pan.recalling = true → ∀ a b : Bool, ∃ t, exec (.recallDone a b) s = .next t ∧ t.pan.recalling = false) ∧
    (∀ (n : Nat) (a b : Partition), partitions[n]? = some a → partitions[n + 1]? = some b → b.offset = a.offset + a.size ∧ b.offset < partSize) ∧
    (∀ ring slot : Nat, ring < 60 → 0x1000 ≤ ringOffset ring slot ∧ ringOffset ring slot + 16 ≤ 0x10000) ∧
    (∀ n : Nat, n < 16384 → 0x040000 ≤ eventSlot n ∧ eventSlot n + 64 ≤ 0x140000) ∧
    (∀ v q : Nat, (counterSlot v q).length = 16) ∧
    (∀ (q : Nat) (l : List Nat), (partRecord part q l).length = 16 + l.length)

/-- ENEC, DISEC, RSTDAA, ENTDAA, SETDASA, SETNEWDA, SETMWL and SETMRL set the events, the addresses and the length limits and are acknowledged, or are not acknowledged; GETMWL, GETMRL, GETPID, GETBCR, GETDCR, GETMXDS, GETCAPS and GETSTATUS are answered at a dynamic address alone; every code leaves the HDR mode, ENTHDR0 enters it, and UNSUPPORTED_CCC is not acknowledged; HOT_JOIN_REPEAT sends while no address is assigned; IBI_RESEND sends a refused IBI again with what it then says. (14_management.md R470, R471, R472, R473, R477, R488) -/
def Obligations.I3cCodes : Prop :=
  ∀ (s : State) (ev : Byte) (addr : BitVec 7) (len : BitVec 16),
    (∃ t, exec (.enec ev) s = .next t ∧ t.out = s.out ++ [.i3cAck] ∧ t.mgt.hdr = false ∧
      t.mgt.ibiEn = (s.mgt.ibiEn || ev.getLsbD 0) ∧ t.mgt.hjEn = (s.mgt.hjEn || ev.getLsbD 3)) ∧
    (∃ t, exec (.disec ev) s = .next t ∧ t.out = s.out ++ [.i3cAck] ∧ t.mgt.hdr = false ∧
      t.mgt.ibiEn = (s.mgt.ibiEn && !ev.getLsbD 0) ∧ t.mgt.hjEn = (s.mgt.hjEn && !ev.getLsbD 3)) ∧
    (exec .rstdaa s = .next { s with mgt := { s.mgt with hdr := false, dyn := none }, out := s.out ++ [.i3cAck] }) ∧
    (s.mgt.dyn = none → exec (.entdaa addr) s =
      .next { s with mgt := { s.mgt with hdr := false, dyn := some addr },
                     out := s.out ++ [.i3cBytes (msbBytes 6 provisionedId ++ [0x26, 0x00])] }) ∧
    (∀ st : BitVec 7, s.mgt.dyn = none → st.toNat = s.mgt.statAddr →
      exec (.setdasa st addr) s = .next { s with mgt := { s.mgt with hdr := false, dyn := some addr }, out := s.out ++ [.i3cAck] }) ∧
    (∀ st : BitVec 7, s.mgt.dyn ≠ none ∨ st.toNat ≠ s.mgt.statAddr →
      exec (.setdasa st addr) s = .next { s with mgt := { s.mgt with hdr := false }, out := s.out ++ [.i3cNack] }) ∧
    (s.mgt.dyn ≠ none → exec (.setnewda addr) s =
      .next { s with mgt := { s.mgt with hdr := false, dyn := some addr }, out := s.out ++ [.i3cAck] }) ∧
    (64 ≤ len.toNat → len.toNat ≤ 516 → exec (.setmwl len) s =
      .next { s with mgt := { s.mgt with hdr := false, mwl := len }, out := s.out ++ [.i3cAck] }) ∧
    (64 ≤ len.toNat → len.toNat ≤ 512 → exec (.setmrl len) s =
      .next { s with mgt := { s.mgt with hdr := false, mrl := len }, out := s.out ++ [.i3cAck] }) ∧
    (len.toNat < 64 → exec (.setmwl len) s = .next { s with mgt := { s.mgt with hdr := false }, out := s.out ++ [.i3cNack] } ∧
      exec (.setmrl len) s = .next { s with mgt := { s.mgt with hdr := false }, out := s.out ++ [.i3cNack] }) ∧
    (s.mgt.dyn ≠ none → ∀ p ∈ [(Instr.getmwl, msbBytes 2 s.mgt.mwl.toNat), (.getmrl, msbBytes 2 s.mgt.mrl.toNat ++ [3]),
        (.getpid, msbBytes 6 provisionedId), (.getbcr, [0x26]), (.getdcr, [0x00]), (.getmxds, [0x00, 0x00]),
        (.getcaps, [0x01, 0x01, 0x00, 0x00])],
      exec p.1 s = .next { s with mgt := { s.mgt with hdr := false }, out := s.out ++ [.i3cBytes p.2] }) ∧
    (s.mgt.dyn = none → ∀ c ∈ [Instr.getmwl, .getmrl, .getpid, .getbcr, .getdcr, .getmxds, .getcaps],
      exec c s = .next { s with mgt := { s.mgt with hdr := false }, out := s.out ++ [.i3cNack] }) ∧
    (s.mgt.dyn ≠ none → exec .getstatus s =
      .next { s with mgt := { s.mgt with hdr := false, protoErr := false },
                     out := s.out ++ [.i3cBytes (msbBytes 2 s.getStatus.toNat)] }) ∧
    exec .enthdr0 s = .next { s with mgt := { s.mgt with hdr := true } } ∧
    (∀ c, exec (.unsupportedCcc c) s = .next { s with mgt := { s.mgt with hdr := false }, out := s.out ++ [.i3cNack] }) ∧
    (s.mgt.dyn = none → s.mgt.hjEn = true → exec .hotJoinRepeat s = .next { s with out := s.out ++ [.hotJoin] }) ∧
    (∀ m p, s.mgt.ibis.getLast? = some (m, p) → exec .ibiResend s = .next { s with out := s.out ++ [.ibi m (s.ibiNow m p)] })

/-- A one-word WRITE is the REGISTER_WRITE of I3C; SET_READ points a read at a register range, CPL_POP at the completion FIFO; PRIVATE_READ sends the word that SET_READ named; CMD_PUSH pushes a packet; BAD_OP of a selector of no operation is a protocol error, and of the legacy subset raises the event BAD_OP. (14_management.md R473, R474, R475, R476, R478) -/
def Obligations.I3cTransfers : Prop :=
  ∀ s : State,
    (∀ (addr : BitVec 24) (w : Word), s.mgt.tooLong 8 = false → addr.toNat % 4 = 0 → namesFifo addr.toNat 1 = false →
      ∃ t, exec (.write addr [w] 0) s = .next t ∧ exec (.registerWrite .i3c addr 4 w) s = .next t) ∧
    (∀ (addr : BitVec 24) (n : Byte), n ≠ 0 → n.toNat ≤ 128 → addr.toNat % 4 = 0 → n.toNat ≤ wordsLeft addr.toNat →
      namesFifo addr.toNat n.toNat = false →
      exec (.setRead addr n) s = .next { s with mgt := { s.mgt with rdPtr := some (addr, n.toNat), popNext := false } }) ∧
    (∀ a : BitVec 24, s.mgt.rdPtr = some (a, 1) → s.mgt.popNext = false → s.mgt.legacy = false → 4 ≤ s.mgt.mrl.toNat →
      ∃ t, exec (.privateRead 4) s = .next t ∧ t.mgt.rdPtr = none ∧
        .i3cBytes (wordBytes (((({ s with mgt := { s.mgt with rdPtr := none, popNext := false } } : State).busRead .i3c a.toNat 4).1).getD 0))
          ∈ t.out) ∧
    (∀ w, s.pages.started = true → s.mgt.dyn ≠ none → s.mgt.tooLong 5 = false →
      exec (.cmdPush [w]) s = .next (s.withPins (fun s => (s.pushWord .i3c w true).drain))) ∧
    (s.pages.started = true → s.mgt.dyn ≠ none →
      exec .cplPop s = .next { s with mgt := { s.mgt with popNext := true, rdPtr := none } }) ∧
    (∀ op : Byte, s.pages.started = true → 0xc4 ≤ op.toNat → op.toNat ≤ 0xc7 →
      exec (.badOp op) s = .next (s.withPins (fun s => s.raise 0x000 .mgtBadOp))) ∧
    (∀ op : Byte, op.toNat ≠ 0x01 → (op.toNat < 0xc0 ∨ 0xc7 < op.toNat) →
      ∃ t, exec (.badOp op) s = .next t ∧ t.mgt.protoErr = true)

/-- MGT_CMD_PUSH_WRITE adds a word to the open packet of its requester, and MGT_CMD_LAST_WRITE runs the packet; MGT_CPL_HEAD_READ pops a word, or is held while the FIFO is empty, until COMPLETION_HOLD_EXPIRY; a packet with no further word is answered ABORTED at CMD_ABANDON; CPL_ABANDON drops a partly popped packet. (14_management.md R489, R490, R491) -/
def Obligations.CommandFifo : Prop :=
  ∀ (s : State) (h : Fin 64) (w : Word),
    (s.accepts (.head h) 0x000 0x110 w = true → s.mgt.cmdOwner = none ∨ s.mgt.cmdOwner = some (.head h) → s.mgt.cmdHeld = none →
      s.mgt.cmdOpen.length < 128 →
      exec (.mgtCmdPushWrite h w) s = .next (s.withPins (fun s =>
        ({ s with mgt := { s.mgt with cmdOpen := s.mgt.cmdOpen ++ [w], cmdOwner := some (.head h) } }).drain))) ∧
    (s.accepts (.head h) 0x000 0x114 w = true → s.mgt.cmdOwner = none ∨ s.mgt.cmdOwner = some (.head h) → s.mgt.cmdHeld = none →
      s.mgt.cmdOpen.length < 128 →
      exec (.mgtCmdLastWrite h w) s = .next (s.withPins (fun s =>
        (State.command { s with mgt := { s.mgt with cmdOpen := [], cmdOwner := none } } (.head h) false (s.mgt.cmdOpen ++ [w])).drain))) ∧
    (s.accepts (.head h) 0x000 0x110 w = true → s.mgt.cmdOwner = none ∨ s.mgt.cmdOwner = some (.head h) → s.mgt.cmdHeld = none →
      128 ≤ s.mgt.cmdOpen.length →
      exec (.mgtCmdPushWrite h w) s = .next (s.withPins (fun s =>
        ({ s with mgt := { s.mgt with cmdHeld := some (.head h, w) } }).drain))) ∧
    (s.pages.started = true → s.reaches (.head h) = true → s.windowShut (.head h) = none → 0x000 ∉ s.pages.resetting →
      (∀ x r p, s.mgt.cplOwner = none → s.mgt.cpl = (x :: r) :: p →
        ∃ t, exec (.mgtCplHeadRead (.head h)) s = .next t ∧ .regRead (.head h) 0x000120 x ∈ t.out ∧
          t.mgt.cplOwner = if r = [] then none else some (.head h)) ∧
      (s.mgt.cplOwner = none → s.mgt.cpl = [] →
        exec (.mgtCplHeadRead (.head h)) s = .next { s with mgt := { s.mgt with cplRead := s.mgt.cplRead ++ [.head h] } })) ∧
    (.head h ∈ s.mgt.cplRead → s.mgt.cmdHeld = none →
      ∃ t, exec (.completionHoldExpiry h) s = .next t ∧ .regRead (.head h) 0x000120 0 ∈ t.out) ∧
    (∀ x r q, s.mgt.cmdOpen = x :: r → s.mgt.cmdOwner = some q →
      exec .cmdAbandon s = .next (s.withPins (fun s =>
        (State.raise { s with mgt := { s.mgt with cmdOpen := [], cmdOwner := none, cmdHeld := none } } 0x000 .mgtCmdAbandon).answerCmd q
          (BitVec.ofNat 8 x.toNat) (BitVec.ofNat 8 (fld x 24 8)) stAborted 0 []))) ∧
    (∀ q, s.mgt.cplOwner = some q → ∃ t, exec .cplAbandon s = .next t ∧ t.mgt.cplOwner = none)

/-- NOP answers OK and HANDLE_QUERY the state of a handle; POWER_PROFILE sets the profile; MODULE_RESET asks for a reset; FW_LOAD and FW_ABORT answer as the image store says; PARAM_SAVE, PARAM_DEFAULT and EVLOG_CLEAR act where their partition has no password or the right one. (14_management.md R496, R498, R500, R501; 16_power_thermal_clocks.md R560; 11_segment_custody.md R398) -/
def Obligations.ShortCommands : Prop :=
  ∀ (s : State) (q : Requester) (tag : Byte), s.pages.started = true →
    (exec (.nop q tag) s = .next (s.withPins (fun s => (s.answerCmd q 0x01 tag stOk 0 []).drain))) ∧
    (∀ h, exec (.handleQuery q tag h) s = .next (s.withPins (fun s => (s.answerCmd q 0x03 tag stOk 0 [s.handleState h]).drain))) ∧
    (s.safe = false → s.hasRight q 8 = true → ∀ p : BitVec 2, p ≠ 2 → p ≠ 3 →
      exec (.powerProfile q tag (p.setWidth 32)) s = .next (s.withPins (fun s =>
        ((s.setReg 0x002 0x104 (p.setWidth 32)).answerCmd q 0x50 tag stOk 0 []).drain))) ∧
    (s.hasRight q 8 = true → exec (.moduleReset q tag) s = .next (s.withPins (fun s => (s.askReset 3).drain))) ∧
    (s.safe = false → s.hasRight q 6 = true → ∀ off w,
      exec (.fwLoad q tag off [w]) s = .next (s.withPins (fun s =>
        ((s.fwLoad off [w]).2.answerCmd q 0x40 tag (s.fwLoad off [w]).1 0 []).drain))) ∧
    (s.safe = false → s.hasRight q 6 = true →
      exec (.fwAbort q tag) s = .next (s.withPins (fun s => (s.fwAbort.2.answerCmd q 0x42 tag s.fwAbort.1 0 []).drain))) ∧
    (s.safe = false → s.pan.recalling = false → s.pan.hold = false → s.pantryDown = false → ∀ pwd : BitVec 128,
      (s.pan.pwds.find (pwKey 2 true) = none →
        exec (.paramSave q tag pwd) s = .next (s.withPins (fun s => (s.saveParams.answerCmd q 0x60 tag stOk 0 []).drain)) ∧
        exec (.paramDefault q tag pwd) s = .next (s.withPins (fun s =>
          (State.answerCmd { s with pan := { s.pan with params := [] } } q 0x61 tag stOk 0 []).drain))) ∧
      (s.pan.pwds.find (pwKey 5 true) = none →
        exec (.evlogClear q tag pwd) s = .next (s.withPins (fun s => (s.clearLogs.answerCmd q 0x62 tag stOk 0 []).drain))))

/-- SEG_ALLOC, SEG_FREE, SEG_BIND, SEG_UNBIND, SEG_MIGRATE, SEG_EVACUATE and SEG_RECOVER are accepted with a handle and sent to the custodian as a request, with their operands in their places; SEG_ABORT is sent without an acceptance; a MIRROR_SET that nothing refuses is started here. (11_segment_custody.md R373, R374, R375, R376, R385, R386, R397; 14_management.md R501) -/
def Obligations.SegmentCommands : Prop :=
  ∀ (s : State) (q : Requester) (tag : Byte) (gsn : Gsn), s.pages.started = true → s.safe = false → s.hasRight q 2 = true → s.fxb.cust ≠ 0 →
    (∀ w1 (d : Dev), exec (.segAlloc q tag w1 (d.setWidth 32)) s = .next (s.withPins (fun s => (s.long ⟨q, 0x10, tag, false⟩ (fun s h =>
      s.tellCustodian 0 { op := 1, gsn := 0, devA := w1.setWidth 12, head := BitVec.ofNat 6 (fld w1 12 6),
                          keyRange := BitVec.ofNat 6 (fld w1 18 6), region := BitVec.ofNat 8 (fld w1 24 8), devB := d, mmode := 0, handle := h })).drain))) ∧
    (exec (.segFree q tag (gsn.setWidth 32)) s = .next (s.withPins (fun s => (s.long ⟨q, 0x11, tag, false⟩ (fun s h =>
      s.tellCustodian 0 ⟨2, gsn, 0, 0, 0, 0, 0, 0, h⟩)).drain))) ∧
    (∀ (d : Dev) (head : BitVec 6) (mm : BitVec 2), exec (.segBind q tag (gsn.setWidth 32) ((mm ++ head ++ d).setWidth 32)) s =
      .next (s.withPins (fun s => (s.long ⟨q, 0x12, tag, false⟩ (fun s h =>
        s.tellCustodian 0 ⟨3, gsn, d, 0, 0, 0, head, mm, h⟩)).drain))) ∧
    (∀ (d : Dev) (head : BitVec 6), exec (.segUnbind q tag (gsn.setWidth 32) ((head ++ d).setWidth 32)) s =
      .next (s.withPins (fun s => (s.long ⟨q, 0x13, tag, false⟩ (fun s h =>
        s.tellCustodian 0 ⟨4, gsn, d, 0, 0, 0, head, 0, h⟩)).drain))) ∧
    (∀ (d : Dev) (r : Byte), exec (.segMigrate q tag (gsn.setWidth 32) ((r ++ d).setWidth 32)) s =
      .next (s.withPins (fun s => (s.long ⟨q, 0x14, tag, false⟩ (fun s h =>
        s.tellCustodian 0 ⟨5, gsn, 0, d, r, 0, 0, 0, h⟩)).drain))) ∧
    (∀ d : Dev, exec (.segEvacuate q tag (d.setWidth 32)) s = .next (s.withPins (fun s => (s.long ⟨q, 0x15, tag, false⟩ (fun s h =>
      s.tellCustodian 0 ⟨12, 0, d, 0, 0, 0, 0, 0, h⟩)).drain))) ∧
    (exec (.segRecover q tag (gsn.setWidth 32)) s = .next (s.withPins (fun s => (s.long ⟨q, 0x17, tag, false⟩ (fun s h =>
      s.tellCustodian 0 ⟨10, gsn, 0, 0, 0, 0, 0, 0, h⟩)).drain))) ∧
    (∃ u : State, exec (.segAbort q tag (gsn.setWidth 32)) s = .next (s.withPins (fun _ => u.drain)) ∧
      ∃ x ∈ u.mgt.handles, x.op = 0x18 ∧ x.tag = tag ∧ x.q = q) ∧
    (∀ w1 w2 : Word, w1.toNat < 2 ^ 22 → w2.toNat < 2 ^ 16 → s.mirrorRefusal w1 w2 = none →
      exec (.mirrorSet q tag w1 w2) s = .next (s.withPins (fun s => (s.long ⟨q, 0x16, tag, false⟩ (fun s h =>
        s.mirrorStart w1 w2 h)).drain)))

/-- DISCARD, REWIND_MARK, REWIND_TO, REWIND_DROP, KR_SET, KEY_GEN, KEY_IMPORT, KEY_ERASE, FW_START, POWER_STATE and SANITIZE that nothing refuses are accepted with a handle and started; SANITIZE_DONE leaves nothing stored in the tier and the map. (03_address_spaces_regions.md R99; 09_rewind.md R300, R302, R304; 13_crust.md R442, R444; 11_segment_custody.md R398; 16_power_thermal_clocks.md R558; 14_management.md R499, R501) -/
def Obligations.LongCommands : Prop :=
  ∀ (s : State) (q : Requester) (tag : Byte), s.pages.started = true → s.safe = false → s.mte.wsnEnd = false →
    (∀ (fga : Fga) (lines : Word), s.hasRight q 4 = true → s.discardRefusal fga lines = none →
      exec (.discard q tag fga lines) s = .next (s.withPins (fun s => (s.long ⟨q, 0x20, tag, false⟩ (fun s h =>
        s.discardStart h fga lines)).drain))) ∧
    (∀ r : Byte, s.hasRight q 3 = true → s.markRefusal r.toNat true = none →
      exec (.rewindMark q tag (r.setWidth 32)) s = .next (s.withPins (fun s => (s.long ⟨q, 0x21, tag, false⟩ (fun s h =>
        s.startMark r.toNat (s.rwr r.toNat).epoch h none)).drain))) ∧
    (∀ (r : Byte) (e : BitVec 16), s.hasRight q 3 = true → s.toRefusal r.toNat e true = none →
      exec (.rewindTo q tag r e) s = .next (s.withPins (fun s => (s.long ⟨q, 0x22, tag, false⟩ (fun s h =>
        s.startTo r.toNat e h none)).drain))) ∧
    (∀ (r : Byte) (e : BitVec 16), s.hasRight q 3 = true → s.dropRefusal r.toNat e true = none →
      exec (.rewindDrop q tag r e) s = .next (s.withPins (fun s => (s.long ⟨q, 0x23, tag, false⟩ (fun s h =>
        s.startDrop r.toNat e h none)).drain))) ∧
    (∀ bases : List (BitVec 27), s.hasRight q 5 = true → bases.length = 63 → s.krSetRefusal bases = none →
      exec (.krSet q tag (bases.map (fun b => b.setWidth 32))) s = .next (s.withPins (fun s => (s.long ⟨q, 0x30, tag, false⟩ (fun s h =>
        s.krSet bases h)).drain))) ∧
    (∀ r : BitVec 6, s.hasRight q 5 = true → s.keyRefusal r.toNat none = none →
      exec (.keyGen q tag (r.setWidth 32)) s = .next (s.withPins (fun s => (s.long ⟨q, 0x31, tag, false⟩ (fun s h =>
        s.drawKeys.2.keyOp r.toNat (some s.drawKeys.1) h)).drain))) ∧
    (∀ (r : BitVec 6) (k : KeySet), s.hasRight q 5 = true → s.inSession = true → s.keyRefusal r.toNat (some k) = none →
      exec (.keyImport q tag true (r.setWidth 32) k) s = .next (s.withPins (fun s => (s.long ⟨q, 0x32, tag, true⟩ (fun s h =>
        s.keyOp r.toNat (some k) h)).drain))) ∧
    (∀ r : BitVec 6, s.hasRight q 5 = true → s.fxb.role = 1 →
      exec (.keyErase q tag (r.setWidth 32)) s = .next (s.withPins (fun s => (s.long ⟨q, 0x33, tag, false⟩ (fun s h =>
        s.keyOp r.toNat none h)).drain))) ∧
    (∀ len : Word, s.hasRight q 6 = true → s.fwRefusal len = none →
      exec (.fwStart q tag len) s = .next (s.withPins (fun s => (s.long ⟨q, 0x41, tag, false⟩ (fun s h => s.fwStart len h)).drain))) ∧
    (∀ w : BitVec 2, s.hasRight q 8 = true → s.powerRefusal (w.setWidth 32) = none →
      exec (.powerState q tag (w.setWidth 32)) s = .next (s.withPins (fun s => (s.long ⟨q, 0x51, tag, false⟩ (fun s h =>
        s.powerGo (w.setWidth 32) h)).drain))) ∧
    (s.hasRight q 7 = true → s.sanitizeRefusal = none →
      exec (.sanitize q tag) s = .next (s.withPins (fun s => (s.long ⟨q, 0x53, tag, false⟩ (fun s _ => s)).drain))) ∧
    (∀ x ∈ s.mgt.handles, x.op = 0x53 → x.st ≠ 3 → ∃ t, exec .sanitizeDone s = .next t ∧ t.mte.map = [] ∧ t.dtc.frames = [])

/-- ELVUC_TRAIN_START starts training in Detect; RECEIVER_DETECTION_DONE with a partner on lane 0 or the highest lane goes on to Base; a good TS1 or TS2 counts for its lane, records the partner, the lane’s inversion and a breach of R22, and the block with which every lane has passed ends Base; a bad one starts its lane’s count again; EQUALISATION_REQUEST sets the transmitter preset; EQUALISATION_DONE ends in Verify; VERIFY_END ends in Keying, or steps the rate down; TRAINING_TIMEOUT leaves the port Down until TRAINING_RETRY_EXPIRY. (10_elvuc_link.md R318, R319, R321, R322, R324, R325, R326; 01_module_physical.md R20, R22) -/
def Obligations.LinkTraining : Prop :=
  ∀ (s : State) (p : Fin 512),
    (s.elvucPort p.val = true → s.portPresent p.val = true → s.blockRuns (p.val / 8) = true → (s.port p.val).st.toNat ≤ 1 →
      (s.port p.val).wait = false →
      exec (.elvucTrainStart p) s = .next (s.setPort p.val { backoff := (s.port p.val).backoff, cause := (s.port p.val).cause,
                                                             st := 2, phase := 1, partnerRate := 3 })) ∧
    (∀ lanes : BitVec 8, (s.port p.val).st = 2 → (s.port p.val).phase = 1 → bitAt lanes 0 = true ∨ bitAt lanes (s.portWidth p.val - 1) = true →
      ∃ t, exec (.receiverDetectionDone p lanes) s = .next t ∧ (t.port p.val).phase = 2 ∧
        .link p (.train 1 (BitVec.ofNat 8 (s.ownLimit p.val)) (BitVec.ofNat 8 (s.portWidth p.val)) 0) ∈ t.out) ∧
    (∀ b : TrainBlock, (s.port p.val).st = 2 → (s.port p.val).phase = 2 →
      (s.goodBlock p.val 1 b = false → exec (.ts1 p b) s = .next (s.setPort p.val { s.port p.val with
        seen := true, good := (s.port p.val).good.set 0 b.onLane.val 0 })) ∧
      (s.goodBlock p.val 2 b = false → exec (.ts2 p b) s = .next (s.setPort p.val { s.port p.val with
        seen := true, good := (s.port p.val).good.set 0 b.onLane.val 0 })) ∧
      (∀ c ∈ [(1, Instr.ts1 p b), (2, .ts2 p b)], s.goodBlock p.val c.1 b = true →
        ∃ t, exec c.2 s = .next t ∧ (t.port p.val).seen = true ∧ (t.port p.val).partnerSerial = b.serial ∧
          (t.port p.val).good.get 0 b.onLane.val = min 64 ((s.port p.val).good.get 0 b.onLane.val + 1) ∧
          (t.port p.val).polInv = setBit8 (s.port p.val).polInv (s.blockLane p.val b.onLane.val) b.inverted ∧
          (t.port p.val).mixed = ((s.port p.val).mixed || s.breaksR22 p.val b) ∧
          ((s.port p.val).mixed = false → s.breaksR22 p.val b = false → 63 ≤ (s.port p.val).good.get 0 b.onLane.val →
            (∀ i, i < s.portWidth p.val → i ≠ b.onLane.val → s.passed p.val i = true) → (t.port p.val).phase = 3))) ∧
    ((s.port p.val).st = 2 → (s.port p.val).phase = 3 →
      (∀ preset : BitVec 4, preset.toNat ≤ 10 →
        exec (.equalisationRequest p preset) s = .next (s.setPort p.val { s.port p.val with eqTx := preset })) ∧
      (∃ t, exec (.equalisationDone p) s = .next t ∧ (t.port p.val).phase = 4 ∧ (t.port p.val).eqDone = true)) ∧
    ((s.port p.val).st = 2 → (s.port p.val).phase = 4 → (s.port p.val).exiting = false →
      (∃ t, exec (.verifyEnd p true) s = .next t ∧ (t.port p.val).phase = 5 ∧ (t.port p.val).keys.valid = false) ∧
      ((s.port p.val).rate ≠ 0 → exec (.verifyEnd p false) s = .next (s.setPort p.val { s.port p.val with
        phase := 3, eqDone := false, rate := (s.port p.val).rate - 1 })) ∧
      ((s.port p.val).rate = 0 → ∃ t, exec (.verifyEnd p false) s = .next t ∧ (t.port p.val).st = 1 ∧ (t.port p.val).cause = 4)) ∧
    ((s.port p.val).st = 2 → (s.port p.val).exiting = false → (s.port p.val).phase ≠ 5 →
      ∃ t, exec (.trainingTimeout p) s = .next t ∧ (t.port p.val).st = 1 ∧ (t.port p.val).wait = true ∧
        (t.port p.val).backoff = min 64 (2 * (s.port p.val).backoff) ∧
        (t.port p.val).cause = if (s.port p.val).seen then 2 else 3) ∧
    (s.elvucPort p.val = true → s.portPresent p.val = true → s.blockRuns (p.val / 8) = true → (s.port p.val).st.toNat ≤ 1 →
      (s.port p.val).wait = true →
      ∃ t, exec (.trainingRetryExpiry p) s = .next t ∧ (t.port p.val).st = 2 ∧ (t.port p.val).phase = 1)

/-- A DATA_FLIT next in sequence is taken; a flit of any kind that fails its CRC counts and asks for a replay; IDLE_FLIT and NAK_FLIT act by their headers; CLEAR_FLIT outside Keying is a security error; REPLAY_TIMER_EXPIRY repeats what is unacknowledged, and past its limit starts Recovery; ACK_IDLE_DUE sends an IDLE flit with the acknowledgement; RECOVERY_END ends Active or retrains; ALIGNMENT_LOSS retrains. (10_elvuc_link.md R332, R333, R334, R335, R336, R337, R338, R339, R340) -/
def Obligations.LinkFlits : Prop :=
  ∀ (s : State) (p : Fin 512) (f : Flit), let x := s.port p.val;
    (x.flits = true → x.phase ≠ 5 → x.crcGood 1 f = true → x.tagGood 1 f = true → f.seq = x.rxAck + 1 →
      exec (.dataFlit p f) s = .next (s.withPins (fun s => (s.setPort p.val { x with
        rxAck := f.seq, rxFlits := x.rxFlits + 1, gap := false, lastBadTag := none, sinceAck := x.sinceAck + 1, kepochRx := f.kepoch,
        keys := if f.kepoch != x.kepochRx then { x.keys with oldRx := none } else x.keys }).flitHeader p.val f))) ∧
    (x.flits = true → ∀ c ∈ [(0, Instr.idleFlit p f), (2, .nakFlit p f), (3, .clearFlit p f)], x.crcGood c.1 f = false →
      exec c.2 s = .next (s.withPins (fun s => (s.countUp (blockPage (p.val / 8)) 0x108 16 16).discardFlit p.val))) ∧
    (x.flits = true → x.crcGood 1 f = false → x.phase ≠ 5 →
      ∃ t, exec (.dataFlit p f) s = .next t ∧ (t.port p.val).gap = true ∧ (t.port p.val).rxAck = x.rxAck) ∧
    (x.flits = true → x.crcGood 0 f = true → x.tagGood 0 f = true →
      exec (.idleFlit p f) s = .next (s.withPins (fun s => s.flitHeader p.val f))) ∧
    (x.flits = true → x.crcGood 2 f = true → x.tagGood 2 f = true →
      exec (.nakFlit p f) s = .next (s.withPins (fun s => (s.flitHeader p.val f).replay p.val))) ∧
    (x.st = 3 → x.crcGood 3 f = true → ∃ t, exec (.clearFlit p f) s = .next t ∧ (t.port p.val).gap = true ∧ (t.port p.val).rxAck = x.rxAck) ∧
    (x.flits = true → x.gap = false → x.unacked ≠ [] →
      (x.replays + 1 ≤ s.regFld 0x140 0x108 16 8 → ∃ t, exec (.replayTimerExpiry p) s = .next t ∧
        t.out = s.out ++ x.unacked.map (fun u => u.2.out p.val) ∧ (t.port p.val).replays = x.replays + 1) ∧
      (s.regFld 0x140 0x108 16 8 < x.replays + 1 → ∃ t, exec (.replayTimerExpiry p) s = .next t ∧
        (t.port p.val).st = 6 ∧ (t.port p.val).unacked = x.unacked)) ∧
    (x.flits = true → ∃ t, exec (.ackIdleDue p) s = .next t ∧ (t.port p.val).sinceAck = 0 ∧
      ∃ g : Flit, t.out = s.out ++ [.link p (.flit 0 g)] ∧ g.ack = x.rxAck) ∧
    (x.st = 6 → exec (.recoveryEnd p true) s =
        .next (s.withPins (fun s => ((s.setPort p.val { x with st := 3 }).replay p.val).retryTransit)) ∧
      exec (.recoveryEnd p false) s = .next (s.withPins (fun s => (s.portDown p.val 5 false).beginTraining p.val))) ∧
    (x.flits = true ∨ x.st = 6 →
      exec (.alignmentLoss p) s = .next (s.withPins (fun s => (s.portDown p.val 6 false).beginTraining p.val)))

/-- At TRICKLE_IDLE_EXPIRY an idle port that may enter Trickle asks its partner once; after LINK_TRICKLE of a partner that was asked the port is in Trickle at the lowest rate; LINK_WAKE starts the exit at Equalise; TRICKLE_EXIT_TIMEOUT takes the port down and trains it again. (10_elvuc_link.md R345, R346, R347, R348) -/
def Obligations.TrickleMode : Prop :=
  ∀ (s : State) (p : Fin 512), let x := s.port p.val;
    (x.st = 3 → x.trickleAsked = false → s.regFld 0x140 0x108 0 8 ≠ 0 ∨ s.pwr.st = 5 →
      ∃ t, exec (.trickleIdleExpiry p) s = .next t ∧ (t.port p.val).trickleAsked = true ∧ (t.port p.val).st = 3) ∧
    (x.st = 3 → x.trickleAsked = true → ∀ a : Bool,
      ∃ t, exec (.linkTrickle p a) s = .next t ∧ (t.port p.val).st = 5 ∧ (t.port p.val).rate = 0 ∧ (t.port p.val).width = 1 ∧
        (t.port p.val).savedRate = x.rate ∧ (t.port p.val).savedWidth = x.width) ∧
    (x.st = 5 → ∃ t, exec (.linkWake p) s = .next t ∧ (t.port p.val).st = 2 ∧ (t.port p.val).phase = 3 ∧ (t.port p.val).exiting = true) ∧
    (x.exiting = true →
      exec (.trickleExitTimeout p) s = .next (s.withPins (fun s => (s.portDown p.val 2 false).beginTraining p.val)))

/-- KX_OFFER, KX_CERT and KX_PROOF are taken in turn; a certificate that fails, a proof that fails or LINK_AUTH takes the port down with the cause 7; KX_DONE makes the keys valid once this side is done too; REKEY_INTERVAL_EXPIRY offers new keys. At KEY_WAIT_EXPIRY a module that waits for keys pulls them from the custodian; KEY_SLOT_PARITY_FAIL fences the slot and starts the reload; KEY_SLOT_RELOAD_DONE takes the keys from the pantry and ends the fence; KEY_FENCED fences the key range. (13_crust.md R453, R454, R455, R456, R443, R446, R447, R448) -/
def Obligations.LinkKeying : Prop :=
  (∀ (s : State) (p : Fin 512), let x := s.port p.val; x.flits = true →
      (∀ key nonce, x.keying = true → x.keys.offered = false → ∃ t, exec (.kxOffer p key nonce) s = .next t ∧
        (t.port p.val).keys.gotOffer = true ∧ (t.port p.val).keys.offered = true ∧ (t.port p.val).keys.nonceRx = nonce ∧
        (t.port p.val).keys.ephRx = key) ∧
      (∀ c : CertChain, x.st = 2 → x.phase = 5 →
        (chainOk c x.partnerSerial = true → ∃ t, exec (.kxCert p c) s = .next t ∧
          (t.port p.val).keys.certOk = true ∧ (t.port p.val).keys.peerKey = c.leafKey) ∧
        (chainOk c x.partnerSerial = false → ∃ t, exec (.kxCert p c) s = .next t ∧
          (t.port p.val).st = 1 ∧ (t.port p.val).wait = true ∧ (t.port p.val).cause = 7)) ∧
      (x.keying = true → x.keys.offered = true → x.keys.gotOffer = true →
        (∃ t, exec (.kxProof p true) s = .next t ∧ (t.port p.val).keys.proofOk = true ∧ (t.port p.val).keys.doneTx = true) ∧
        (∃ t, exec (.kxProof p false) s = .next t ∧ (t.port p.val).st = 1 ∧ (t.port p.val).cause = 7)) ∧
      (x.keying = true → x.keys.proofOk = true →
        (x.keys.doneTx = true → ∃ t, exec (.kxDone p) s = .next t ∧ (t.port p.val).keys.valid = true) ∧
        (x.keys.doneTx = false → ∃ t, exec (.kxDone p) s = .next t ∧ (t.port p.val).keys.doneRx = true)) ∧
      (x.keying = true → ∃ t, exec (.linkAuth p) s = .next t ∧ (t.port p.val).st = 1 ∧ (t.port p.val).wait = true ∧
        (t.port p.val).cause = 7) ∧
      (x.st = 3 ∨ x.st = 5 → x.keys.valid = true → x.keys.offered = false →
        ∃ t, exec (.rekeyIntervalExpiry p) s = .next t ∧ (t.port p.val).keys.offered = true)) ∧
  (∀ (s : State) (r : Fin 64),
      (s.fxb.role ≠ 1 → s.fxb.conf = true → s.fxb.cust ≠ 0 → (List.range 64).any (fun n => (s.krange n).st == 0) = true →
        exec .keyWaitExpiry s = .next (s.withPins (fun s => (s.sendPlain s.fxb.cust 0 0 0 0 .krPull).drain))) ∧
      ((s.krange r.val).st = 1 → (s.krange r.val).reload = false →
        ∃ t, exec (.keySlotParityFail r) s = .next t ∧ (t.krange r.val).reload = true ∧ t.isFenced 10 r.val = true) ∧
      ((s.krange r.val).reload = true →
        (∃ t, exec (.keyFenced r) s = .next t ∧ (t.krange r.val).st = 3 ∧ (t.krange r.val).keys = none ∧ t.isFenced 11 r.val = true ∧
          t.isFenced 10 r.val = false) ∧
        (∀ g k, s.pan.keys.find r.val = some (g, k) → ∃ t, exec (.keySlotReloadDone r) s = .next t ∧ (t.krange r.val).keys = some k ∧
          (t.krange r.val).reload = false ∧ t.isFenced 10 r.val = false)))

/-- HELLO sets the partner of an Active port, or isolates it when the fabric ID differs; a new LSA fragment is stored; DEV_REQ is granted by the custodian or passed on once; DEV_GRANT to this module confirms its number; TREE with a new epoch is taken. (10_elvuc_link.md R344, R349, R350, R351, R356, R357, R358) -/
def Obligations.LinkMessages : Prop :=
  ∀ (s : State) (p : Fin 512), let x := s.port p.val; x.st = 3 →
    (∀ h : Hello, x.keys.valid = false → h.serial ≠ ownSerial →
      (h.fabid = s.reg 0x180 0x114 → ∃ t, exec (.hello p h) s = .next t ∧ (t.port p.val).partnerDev = h.dev ∧
        (t.port p.val).partnerConf = h.conf ∧ (t.port p.val).partnerSerial = h.serial ∧ (t.port p.val).st = 3) ∧
      (h.fabid ≠ s.reg 0x180 0x114 → ∃ t, exec (.hello p h) s = .next t ∧ (t.port p.val).st = 4 ∧ (t.port p.val).cause = 9)) ∧
    (∀ l : LsaFrag, l.serial ≠ ownSerial → s.lsaNew l = true → ∃ t, exec (.lsa p l) s = .next t ∧ l ∈ t.fxb.db) ∧
    (∀ serial inst wanted, s.safe = false →
      (s.fxb.role = 1 → ∃ t d, exec (.devReq p serial inst wanted) s = .next t ∧ (serial, d) ∈ t.fxb.grants) ∧
      (s.fxb.role ≠ 1 → (serial, wanted, false) ∉ s.fxb.flooded →
        ∃ t, exec (.devReq p serial inst wanted) s = .next t ∧ t.fxb.flooded = s.fxb.flooded ++ [(serial, wanted, false)])) ∧
    (∀ (dev : Dev) cust, ∃ t, exec (.devGrant p ownSerial dev cust) s = .next t ∧ t.fxb.devnum = dev ∧ t.fxb.conf = true) ∧
    (∀ root epoch, s.safe = false → epoch ≠ s.fxb.treeEpoch → ∃ t, exec (.tree p root epoch) s = .next t ∧ t.fxb.treeEpoch = epoch)

/-- REFRESH_INTERVAL renews this module’s LSA and forgets the requests it passed on; LSA_EXPIRE takes a record out of the database; ELECTION_SETTLE_EXPIRY without an eligible module leaves no custodian, and with one sets the roles; DEV_REQ_REPEAT sends the request again; ROUTE_HOLDDOWN_EXPIRY recomputes the routes; OLD_ESCAPE_EXPIRY ends the old escape ports; FXB_FABID_COMMIT puts a committed fabric ID into force. (10_elvuc_link.md R350, R352, R353, R354, R355, R358, R362; 11_segment_custody.md R372) -/
def Obligations.DiscoveryTimers : Prop :=
  ∀ s : State,
    (s.up = true → s.safe = false →
      ∃ t, exec .refreshInterval s = .next t ∧ t.fxb.lsaSeq = s.fxb.lsaSeq + 1 ∧ t.fxb.flooded = []) ∧
    (∀ serial x, s.up = true → s.fxb.db.find? (fun y => y.serial == serial) = some x →
      ∃ u : State, exec (.lsaExpire serial) s = .next (s.withPins (fun _ => u.drain)) ∧ ∀ y ∈ u.fxb.db, y.serial ≠ serial) ∧
    (s.up = true → s.eligible = [] → ∃ u : State, exec .electionSettleExpiry s = .next (s.withPins (fun _ => u.drain)) ∧
      u.fxb.cust = 0 ∧ u.fxb.role = 0 ∧ u.fxb.quorum = false ∧ u.fxb.noElig = true) ∧
    (∀ k, s.up = true → s.eligible ≠ [] → s.custodianKey = some k →
      exec .electionSettleExpiry s = .next (s.withPins (fun s =>
        (({ s with fxb := { s.fxb with quorum := true } }).setRoles (some k.2)).drain))) ∧
    (s.up = true → s.fxb.conf = false → s.fxb.role ≠ 1 → exec .devReqRepeat s =
      .next (s.floodLink none (.devReq ownSerial s.instance_ (BitVec.ofNat 12 (s.ring 5))))) ∧
    (s.fxb.topoChanged = true → ∃ t, exec .routeHolddownExpiry s = .next t ∧ t.fxb.topoChanged = false) ∧
    exec .oldEscapeExpiry s = .next { s with fxb := { s.fxb with oldEsc := [] } } ∧
    (∀ w, s.shadow.find (regAddr 0x180 0x114) = some w → 0x180 ∈ s.pages.committing →
      ∃ t, exec .fxbFabidCommit s = .next t ∧ t.reg 0x180 0x114 = w)

/-- RD, WR, ATOM, BARRIER and GPF: the request in order is delivered and lets the parked ones follow; one ahead of its order is parked and its credit owed; one that was taken already is acknowledged again; while admission is off nothing but the credit is noted, and while the module sleeps or its crossbar is halted the request is held. (10_elvuc_link.md R341, R359, R360, R361) -/
def Obligations.FabricRequests : Prop :=
  ∀ (s : State) (r : Routing) (fga : Fga) (mask : BitVec 64) (d : Line) (op : BitVec 4) (sz kind : BitVec 2) (a b : BitVec 128),
    ∀ p ∈ [(Instr.rd r fga, Msg.rd (fgaLine fga)), (.wr r fga mask d, .wr (fgaLine fga) mask d), (.atom r fga op sz a b, .atom fga op sz a b),
      (.barrier r kind, .barrier kind), (.gpf r, .gpf)], s.here r = true → let u := s.credited r p.2;
    (s.admissionOff = true → exec p.1 s = .next u) ∧
    (s.admissionOff = false → s.sleeps = true ∨ s.halted 0x180 = true →
      exec p.1 s = .next { u with fxb := { u.fxb with sleepq := u.fxb.sleepq ++ [(r, p.2)] } }) ∧
    (s.admissionOff = false → s.sleeps = false → s.halted 0x180 = false →
      ((r.esq - (s.pair (s.pairOf r p.2.gsn).toNat).rxNext).toNat = 0 →
        exec p.1 s = .next (s.withPins (fun _ => State.unpark (s.pair (s.pairOf r p.2.gsn).toNat).parked.length
          ((u.setPair (s.pairOf r p.2.gsn).toNat { s.pair (s.pairOf r p.2.gsn).toNat with
            rxNext := (s.pair (s.pairOf r p.2.gsn).toNat).rxNext + 1, retryAt := none, ackDue := true }).deliverReq r p.2)
          (s.pairOf r p.2.gsn)))) ∧
      (0 < (r.esq - (s.pair (s.pairOf r p.2.gsn).toNat).rxNext).toNat →
        (r.esq - (s.pair (s.pairOf r p.2.gsn).toNat).rxNext).toNat < 2 ^ 15 →
        (s.pair (s.pairOf r p.2.gsn).toNat).parked.any (fun e => e.1.esq == r.esq) = false → s.parkedAll < 1024 →
        exec p.1 s = .next (u.setPair (s.pairOf r p.2.gsn).toNat { s.pair (s.pairOf r p.2.gsn).toNat with
          parked := (s.pair (s.pairOf r p.2.gsn).toNat).parked ++ [(r, p.2)] })) ∧
      (2 ^ 15 ≤ (r.esq - (s.pair (s.pairOf r p.2.gsn).toNat).rxNext).toNat →
        exec p.1 s = .next (s.withPins (fun _ => u.sendRsp (s.pairOf r p.2.gsn) r.tag r.epoch 0 0 .esqAck))))

/-- RD_DATA, WR_STAT, ATOM_DATA, BARRIER_DONE, GPF_DONE and ERR of the kind of the request they name answer that request’s sender and end it; one that names no request is stale; an early write status answers the host and leaves the request, as ATOM_DATA does whose store part comes later; ESQ_ACK acknowledges, RETRY resends what is unacknowledged, as E2E_RESEND_EXPIRY does; ESQ_ACK_DUE sends the acknowledgement. (02_request_lifecycle.md R62, R63, R64, R74; 10_elvuc_link.md R345, R360, R361) -/
def Obligations.FabricResponses : Prop :=
  ∀ (s : State) (r : Routing), s.here r = true →
    (∀ (d : Line) (pz : Bool), let u := s.acked r (.rdData d pz);
      (u.named r = none → exec (.rdData r d pz) s = .next (s.withPins (fun _ => u.stale))) ∧
      (∀ q, u.named r = some q → q.kind = .read →
        exec (.rdData r d pz) s = .next (s.withPins (fun _ => ((u.remember q).answerRead q.sender d pz).dropRemote q.tag)))) ∧
    (∀ (pt : BitVec 2) (q : Remote), let u := s.acked r (.wrStat pt false); u.named r = some q → q.kind = .store →
      exec (.wrStat r pt false) s = .next (s.withPins (fun _ =>
        (u.answerPoint { sender := q.sender, late := !q.answered && !q.done } pt.toNat true).dropRemote q.tag))) ∧
    (∀ (q : Remote) (h : Fin 64) (k : BitVec 16), let u := s.acked r (.wrStat 1 true); u.named r = some q → q.kind = .store → q.answered = false → q.done = false →
      q.sender = .head h k → exec (.wrStat r 1 true) s = .next (s.withPins (fun _ =>
        State.emit { u with fxb := { u.fxb with remotes := u.fxb.remotes.map (fun (x : Remote) =>
          if x.tag == q.tag then { x with answered := true } else x) } } (.writeDone h k false)))) ∧
    (∀ (old : BitVec 128) (q : Remote), let u := s.acked r (.atomData old); u.named r = some q → q.kind = .atomic → q.done = false →
      r.status = stOk → bitAt r.xinfo 2 = true →
      exec (.atomData r old) s = .next (s.withPins (fun _ => let v := u.answerAtomic q.sender old false;
        { v with fxb := { v.fxb with remotes := v.fxb.remotes.map (fun (x : Remote) =>
          if x.tag == q.tag then { x with done := true } else x) } }))) ∧
    (∀ (old : BitVec 128) (q : Remote), let u := s.acked r (.atomData old); u.named r = some q → q.kind = .atomic → q.done = false →
      r.status ≠ stIntegrity → r.status ≠ stOk ∨ bitAt r.xinfo 2 = false →
      exec (.atomData r old) s = .next (s.withPins (fun _ =>
        ((u.answerAtomic q.sender old (r.status != stOk)).answerPoint { sender := q.sender, late := false } 2 true).dropRemote q.tag))) ∧
    (∀ (q : Remote) (h : Fin 64) (k : BitVec 16), let u := s.acked r .barrierDone; u.named r = some q → q.kind = .barrier → q.sender = .head h k →
      exec (.barrierDone r) s = .next (s.withPins (fun _ => (u.barrierPeer h.val k q.dst (doneRank r.status)).dropRemote q.tag))) ∧
    (∀ (q : Remote) (h : Fin 64) (k : BitVec 16), let u := s.acked r .gpfDone; u.named r = some q → q.kind = .gpf → q.sender = .head h k →
      exec (.gpfDone r) s = .next (s.withPins (fun _ =>
        (u.gpfPeerEnd h.val q.dst).dropRemote q.tag))) ∧
    (∀ q : Remote, let u := s.acked r .err; u.named r = some q →
      exec (.err r) s = .next (s.withPins (fun _ => (u.remoteError q (errRank r.status)).drain))) ∧
    (exec (.retry r) s = .next (s.withPins (fun s => ((s.credited r .retry).ackReqs r.src (r.esq - 1)).resendReqs r.src)) ∧
      exec (.esqAck r) s = .next (s.withPins (fun s => (s.credited r .esqAck).ackReqs r.src r.esq))) ∧
    (∀ dev : Dev, (s.pair dev.toNat).ackDue = true → ∃ t, exec (.esqAckDue dev) s = .next t ∧ (t.pair dev.toNat).ackDue = false) ∧
    (∀ dev : Dev, exec (.e2eResendExpiry dev) s = .next (s.withPins (fun s => s.each (s.pair dev.toNat).unacked (fun s x =>
      s.routeOut { x.r with esc := false, down := false } x.m))))

/-- While the service engine runs, GST_UPD of the next version is applied and one ahead of it is kept; GST_ACK ends the wait for its module; GST_SYNC has rows sent again; GST_CLAIM is collected while the window is open, which CLAIM_WINDOW_EXPIRY ends; at STANDBY_ACK_TIMEOUT the standby lags; GST_GAP_TIMEOUT asks for the missing rows; LEASE_LOST ends the lease; DEDUP_ENTRY_EXPIRY drops its entry. (11_segment_custody.md R367, R368, R369, R370, R371, R372, R395) -/
def Obligations.SegmentTableRows : Prop :=
  ∀ (s : State) (r : Routing),
    (∀ (p : Fin 512) (ver : BitVec 64) (row : GstRow) (gsn : Gsn), s.fxb.role = 0 → s.sve.ahead.any (fun e => e.1 == ver.toNat) = false →
      (ver.toNat = s.sve.ver + 1 → ∃ u : State, exec (.gstUpd p ver row gsn) s = .next (s.withPins (fun _ => u.drain)) ∧ s.sve.ver < u.sve.ver) ∧
      (s.sve.ver + 1 < ver.toNat → s.sve.ahead.length < 64 →
        ∃ u : State, exec (.gstUpd p ver row gsn) s = .next (s.withPins (fun _ => u.drain)) ∧ u.sve.ver = s.sve.ver ∧
          u.sve.ahead = s.sve.ahead ++ [(ver.toNat, gsn, row)])) ∧
    (s.here r = true → s.halted 0x200 = false → ∀ ver : BitVec 64, ∃ u : State, exec (.gstAck r ver) s = .next (s.withPins (fun _ => u.drain)) ∧
      (ver.toNat = s.sve.ver → r.src ∉ u.sve.lagging) ∧
      ∀ c ∈ u.sve.commits, c.started = true → c.ver ≤ ver.toNat → r.src ∉ c.waits) ∧
    (s.here r = true → s.halted 0x200 = false → ∀ (first : Gsn) (count : BitVec 27) (ver : BitVec 64), count ≠ 0 →
      exec (.gstSync r first count ver) s = .next (s.withPins (fun s =>
        (((s.credited r (.gstSync first count ver)).syncRows r.src first count ver.toNat)).drain))) ∧
    (s.here r = true → s.halted 0x200 = false → ∀ c : Claim, s.fxb.role = 1 → s.sve.claiming = true →
      ∃ u : State, exec (.gstClaim r c) s = .next (s.withPins (fun _ => u.drain)) ∧ u.sve.claims = s.sve.claims ++ [(r.src, c)]) ∧
    (∀ dev : Dev, s.sve.commits.any (fun c => c.started && decide (dev ∈ c.waits)) = true →
      ∃ u : State, exec (.standbyAckTimeout dev) s = .next (s.withPins (fun _ => u.drain)) ∧ dev ∈ u.sve.lagging ∧
        ∀ c ∈ u.sve.commits, dev ∉ c.waits) ∧
    (s.sve.ahead ≠ [] → s.fxb.cust ≠ 0 → s.fxb.role ≠ 1 → exec .gstGapTimeout s = .next (s.withPins (fun s =>
      (s.sendPlain s.fxb.cust 0 0 0 0 (.gstSync 0 (BitVec.ofNat 27 (2 ^ 26)) (BitVec.ofNat 64 (s.sve.ver + 1)))).drain))) ∧
    (s.sve.claiming = true → ∃ u : State, exec .claimWindowExpiry s = .next (s.withPins (fun _ => u.drain)) ∧
      u.sve.claiming = false ∧ u.sve.tabled = true) ∧
    (s.fxb.role ≠ 1 → s.sve.lease = true → ∃ t, exec .leaseLost s = .next t ∧ t.sve.lease = false) ∧
    (∀ (dev : Dev) (tag : BitVec 16), exec (.dedupEntryExpiry dev tag) s =
      .next { s with sve := { s.sve with dedup := s.sve.dedup.filter (fun d => !(d.dev == dev && d.tag == tag)) } })

/-- While the service engine runs, GST_REQ at a module that is not the custodian answers STATE, an allocation in an active key range queues its commit, and the custodian’s order to release a segment frees it; SWITCH_READY makes the module asked the tentative owner; GST_RSP ends what its handle names; PREPARE_TIMEOUT ends a preparation that is not answered. (11_segment_custody.md R373, R375, R378, R379, R381, R385) -/
def Obligations.CustodyRequests : Prop :=
  ∀ (s : State) (r : Routing), s.here r = true → s.halted 0x200 = false →
    (∀ g : GstReq, let u := s.credited r (.gstReq g); bitAt r.xinfo 0 = false → g.op ≠ 6 → s.fxb.role ≠ 1 →
      exec (.gstReq r g) s = .next (s.withPins (fun _ => (u.answerCust r.src g stState g.gsn 0).drain))) ∧
    (∀ (g : GstReq) (k : Nat), let u := s.credited r (.gstReq g); bitAt r.xinfo 0 = false → g.op = 1 → s.fxb.role = 1 → s.quorate = true →
      s.sve.claiming = false → (s.krange g.keyRange.toNat).st = 1 → u.lowestFree g.keyRange.toNat = some k →
      exec (.gstReq r g) s = .next (s.withPins (fun _ =>
        ((u.addCust { newCust r.src g with req := { g with gsn := BitVec.ofNat 26 k }, step := 1 }).queueCommit k
          { freedRow (u.rowAhead k) with state := 1 }).drain))) ∧
    (∀ (g : GstReq) (lsi : Nat), let u := s.credited r (.gstReq g); bitAt r.xinfo 0 = true → g.op = 2 → s.lsiOf g.gsn.toNat = some lsi →
      (s.seg lsi).st = 4 → (s.row g.gsn.toNat).mirror ≠ s.fxb.devnum →
      exec (.gstReq r g) s = .next (s.withPins (fun _ => (u.freeSeg lsi).drain))) ∧
    (∀ (gsn : Gsn) (i : Nat), bitAt r.xinfo 0 = false → s.fxb.role ≠ 1 → s.lsiOf gsn.toNat = some i → (s.seg i).st = 2 →
      ∃ v : State, exec (.switchReady r gsn) s = .next (s.withPins (fun _ => v.drain)) ∧ (v.seg i).st = 1 ∧ (v.seg i).tentative = true ∧
        (v.seg i).epoch = (s.row gsn.toNat).epoch + 1) ∧
    (∀ (gsn : Gsn) (owner : Dev) (h : Word), let u := s.credited r (.gstRsp gsn owner h); bitAt r.xinfo 9 = false → bitAt r.xinfo 10 = false →
      h ≠ 0 → (u.mirSetAnswer h gsn (knownStatus r.status)).1 = false →
      exec (.gstRsp r gsn owner h) s = .next (s.withPins (fun _ =>
        ((u.mirSetAnswer h gsn (knownStatus r.status)).2.custDone h (knownStatus r.status) gsn.toNat owner).drain))) ∧
    (∀ (gsn : Gsn) (o : CustOp), s.sve.custody.find? (fun o => o.step == 2 && o.req.gsn == gsn) = some o →
      exec (.prepareTimeout gsn) s = .next (s.withPins (fun s => (s.prepAnswer o.peer gsn stTimeout 0).drain)))

/-- While the service engine runs, BLK_DATA’s lines are taken at a target or holder and refused elsewhere, and PAGE_CTL is answered; PAGE_ACK and LINE_ACK take pages and lines out of the copy, and a refused line breaks the pair; COPY_END is noted; MIGRATION_COPY_END and CONVERGE_PASS_END go on to the dirty pages, and to the switch once few are left; SWITCH_TIMEOUT runs another pass or gives up, SWITCH_READY_RESEND repeats it, and SWITCH_COMMIT_APPLIED redirects to the new owner; DRAIN_QUIET_EXPIRY frees the old copy; LAG_BOUND_REACHED holds the segment’s releases; LINE_UPDATE_ACK_TIMEOUT breaks the pair; REMIRROR_DELAY_EXPIRY asks for a mirror again. (11_segment_custody.md R376, R377, R380, R381, R382, R383, R384, R387, R388, R389, R391) -/
def Obligations.SegmentCopy : Prop :=
  ∀ (s : State) (r : Routing) (gsn : Gsn) (k : Nat) (o : BulkOp),
    (s.here r = true → s.halted 0x200 = false →
      (∀ line lines rd i, let u := s.credited r (.blkData line lines rd); s.lsiOf (lineGsn line) = some i → (s.seg i).st = 2 ∨ (s.seg i).st = 4 →
        (s.inOp (lineGsn line)).isSome = true ∨ s.updateWaits line = false →
        exec (.blkData r line lines rd) s = .next (s.withPins (fun _ => (u.blkTake r line lines rd).drain))) ∧
      (∀ line lines rd, let u := s.credited r (.blkData line lines rd); s.lsiOf (lineGsn line) = none → s.updateWaits line = false →
        exec (.blkData r line lines rd) s = .next (s.withPins (fun _ => (u.sendPlain r.src 0 0 stState 0 (.lineAck line)).drain))) ∧
      (∀ (page : BitVec 44) (kind : BitVec 2) (i : Nat), let u := s.credited r (.pageCtl page kind); s.lsiOf (page.toNat / segPages) = some i →
        (s.seg i).st = 2 ∨ (s.seg i).st = 4 → kind = 1 ∨ kind = 2 →
        exec (.pageCtl r page kind) s = .next (s.withPins (fun _ =>
          ((u.discardPage (page.toNat / segPages) (page.toNat % segPages) (kind.toNat == 2)).sendPlain r.src 0 0 stOk 0 (.pageAck page)).drain))) ∧
      (∀ page : BitVec 44, let u := s.credited r (.pageAck page); s.outOp (page.toNat / segPages) = some (k, o) → r.status = 0 →
        exec (.pageAck r page) s = .next (s.withPins (fun _ =>
          ((u.setOp k { o with sent := removeAll o.sent (page.toNat % segPages), dirty := o.dirty }).switchStep k).drain))) ∧
      (∀ line x, let u := s.credited r (.lineAck line); s.sve.updates.find? (fun y => y.line == line) = some x →
        (r.status ≠ 0 → exec (.lineAck r line) s = .next (s.withPins (fun _ => (u.breakPair x.gsn.toNat).drain))) ∧
        (r.status = 0 → x.next = none → exec (.lineAck r line) s = .next (s.withPins (fun _ =>
          ((State.mirrorPoint { u with sve := { u.sve with lagHeld := removeAll u.sve.lagHeld x.gsn,
                                                            updates := u.sve.updates.filter (fun y => y.line != line) } } line
            x.waits).switchSteps).drain)))) ∧
      (∀ kind, exec (.copyEnd r kind) s = .next (s.withPins (fun s => (s.credited r (.copyEnd kind)).drain)))) ∧
    (s.outOp gsn.toNat = some (k, o) →
      (o.phase = 1 → o.sent = [] → exec (.migrationCopyEnd gsn) s = .next (s.withPins (fun s =>
        (((s.passEnd o).setOp k { o with phase := 2, pass := 1 }).sendDirty k).drain))) ∧
      (o.phase = 2 → o.sent = [] → let u := s.passEnd o;
        (o.dirty.length ≤ u.regFld 0x200 0x110 0 12 → exec (.convergePassEnd gsn) s = .next (s.withPins (fun _ => (u.enterSwitch k).drain))) ∧
        (u.regFld 0x200 0x110 0 12 < o.dirty.length → o.pass < u.regFld 0x200 0x110 20 4 →
          exec (.convergePassEnd gsn) s = .next (s.withPins (fun _ => ((u.setOp k { o with pass := o.pass + 1 }).sendDirty k).drain)))) ∧
      (∀ i, s.lsiOf gsn.toNat = some i → o.phase = 3 → o.asked = false →
        (2 ≤ o.tries → exec (.switchTimeout gsn) s = .next (s.withPins (fun s => (((s.freeSegs [i]).dropOp k).tellOp 11 o).drain))) ∧
        (o.tries < 2 → exec (.switchTimeout gsn) s = .next (s.withPins (fun s =>
          (((s.freeSegs [i]).setOp k { o with phase := 2, tries := o.tries + 1 }).sendDirty k).drain)))) ∧
      (o.phase = 3 → o.ready = true →
        exec (.switchReadyResend gsn) s = .next (s.withPins (fun s => (s.tellOp (if o.kind = 0 then 6 else 8) o).drain))) ∧
      (∀ i, s.lsiOf gsn.toNat = some i → o.kind = 0 → o.ready = true → (s.seg i).st = 1 → (s.row gsn.toNat).state = 2 →
        (s.row gsn.toNat).owner ≠ s.fxb.devnum →
        ∃ v : State, exec (.switchCommitApplied gsn) s = .next (s.withPins (fun _ => v.drain)) ∧ (v.seg i).st = 3 ∧
          (v.seg i).partner = (s.row gsn.toNat).owner) ∧
      (∀ i, s.lsiOf gsn.toNat = some i → o.kind = 0 → o.phase = 4 →
        exec (.drainQuietExpiry gsn) s = .next (s.withPins (fun s =>
          (((({ s with fxb := { s.fxb with dir := s.fxb.dir.del gsn.toNat } } : State).dropOp k).freeSeg i).raise 0x200 .sveMigDone).drain)))) ∧
    (∀ i, s.lsiOf gsn.toNat = some i → s.paired gsn.toNat = true → (s.seg i).mmode = 2 → s.sve.updates.any (fun x => x.gsn.toNat == gsn.toNat) = true →
      ∃ t, exec (.lagBoundReached gsn) s = .next t ∧ gsn ∈ t.sve.lagHeld) ∧
    (s.sve.updates.any (fun x => x.gsn.toNat == gsn.toNat) = true →
      exec (.lineUpdateAckTimeout gsn) s = .next (s.withPins (fun s => (s.breakPair gsn.toNat).drain))) ∧
    (∀ e, s.sve.remirror.find? (fun e => e.1 == gsn) = some e →
      ∃ v : State, exec (.remirrorDelayExpiry gsn) s = .next (s.withPins (fun _ => v.drain)) ∧ ∀ x ∈ v.sve.remirror, x.1 ≠ gsn)

/-- While the service engine runs, RW_MARKER and RW_FWD are started at a holder of the region, or answered STATE; RW_CONF is noted; FWU_CTL announces an image, FW_CHUNK stores its parts, FWU_DONE is noted; KR_TABLE and KR_PUSH are taken and acknowledged, KR_ACK is noted, and KR_PULL makes the custodian push; FW_ACTIVATION_WAIT_EXPIRY ends the wait and FW_ACTIVATION_TIMEOUT the rollout; DISCARD_CHECK_ANSWER lets the discard go on, or ends it where a check is refused. (09_rewind.md R301, R303, R305; 11_segment_custody.md R398, R399; 13_crust.md R443, R445; 03_address_spaces_regions.md R100) -/
def Obligations.HolderMessages : Prop :=
  ∀ (s : State) (r : Routing),
    (s.here r = true → s.halted 0x200 = false →
      (∀ rg e, let u := s.credited r (.rwMarker rg e); u.heldRegionOf r.src rg = none →
        exec (.rwMarker r rg e) s = .next (s.withPins (fun _ => (u.sendPlain r.src r.tag 0 stState 0 .rwConf).drain))) ∧
      (∀ rg e n, let u := s.credited r (.rwMarker rg e); u.heldRegionOf r.src rg = some n → u.markRefusal n true = none →
        exec (.rwMarker r rg e) s = .next (s.withPins (fun _ => (u.startMark n e 0 (some (r.src, r.tag))).drain))) ∧
      (∀ rg e n, let u := s.credited r (.rwFwd 1 rg e); u.heldRegionOf r.src rg = some n → u.toRefusal n e true = none →
        exec (.rwFwd r 1 rg e) s = .next (s.withPins (fun _ => (u.startTo n e 0 (some (r.src, r.tag))).drain))) ∧
      (∀ rg e n, let u := s.credited r (.rwFwd 2 rg e); u.heldRegionOf r.src rg = some n → u.dropRefusal n e true = none →
        exec (.rwFwd r 2 rg e) s = .next (s.withPins (fun _ => (u.startDrop n e 0 (some (r.src, r.tag))).drain))) ∧
      (∀ n x o, s.mte.rw.find? (fun (e : Nat × RwRegion) => e.2.op.any (fun o => decide ((r.src, r.tag) ∈ o.confirms))) = some (n, x) →
        x.op = some o → o.phase ≠ 4 → let u := s.credited r .rwConf;
        exec (.rwConf r) s = .next (s.withPins (fun _ => (u.setRwr n { x with op := some { o with
          confirms := removeAll o.confirms (r.src, r.tag), partial_ := o.partial_ || r.status != 0 } }).drain))) ∧
      (∀ ver len, s.sve.fwState ≠ 4 → r.src ≠ s.fxb.devnum →
        ∃ v : State, exec (.fwuCtl r 1 ver len) s = .next (s.withPins (fun _ => v.drain)) ∧ v.sve.fwState = 1 ∧ v.sve.fwVer = ver ∧
          v.sve.fwLen = len.toNat ∧ v.sve.fwFrom = r.src) ∧
      (∀ off ver bytes, s.sve.fwState = 1 → s.sve.fwVer = ver → s.sve.fwFrom = r.src → bytes.length ≤ 208 →
        off.toNat + bytes.length ≤ s.sve.fwLen → (s.fwSlot (!s.sve.running)).received + bytes.length < s.sve.fwLen →
        ∃ v : State, exec (.fwChunk r off ver bytes) s = .next (s.withPins (fun _ => v.drain)) ∧ v.sve.fwState = 1 ∧
          (v.fwSlot (!s.sve.running)).received = (s.fwSlot (!s.sve.running)).received + bytes.length) ∧
      (∀ b : Bool, s.sve.fwHandle = 0 → exec (.fwuDone r b) s = .next (s.withPins (fun s => (s.credited r (.fwuDone b)).drain))) ∧
      (s.sve.fwHandle ≠ 0 → r.src ∈ s.sve.fwWaits → r.status = 0 → s.sve.fwStaging = true → let u := s.credited r (.fwuDone false);
        exec (.fwuDone r false) s = .next (s.withPins (fun _ =>
          (State.nextWave { u with sve := { s.sve with fwWaits := removeAll s.sve.fwWaits r.src } }).drain))) ∧
      (∀ ver bases, s.crs.tblVer < ver → bases.length = 63 →
        ∃ v : State, exec (.krTable r ver bases) s = .next (s.withPins (fun _ => v.drain)) ∧ v.crs.tblVer = ver ∧ v.crs.bases = bases) ∧
      (∀ (n : Fin 64) gen, (s.krange n.val).st = 0 ∨ genAhead gen (s.krange n.val).gen = true →
        (∀ k, ∃ v : State, exec (.krPush r n gen false (some k)) s = .next (s.withPins (fun _ => v.drain)) ∧
          (v.krange n.val).st = 1 ∧ (v.krange n.val).gen = gen ∧ (v.krange n.val).keys = some k) ∧
        (∃ v : State, exec (.krPush r n gen true none) s = .next (s.withPins (fun _ => v.drain)) ∧
          (v.krange n.val).st = 2 ∧ (v.krange n.val).gen = gen ∧ (v.krange n.val).keys = none)) ∧
      (∀ (n : Fin 64) gen st p, let u := s.credited r (.krAck n.val gen); s.pushOf (bitAt r.xinfo 0) n.val gen = some p →
        exec (.krAck r n gen st) s = .next (s.withPins (fun _ => (u.putPush p
          { p with due := removeAll p.due r.src, waits := if st = 0 then removeAll p.waits r.src else p.waits,
                   failed := p.failed || st != 0 }).drain))) ∧
      (s.fxb.role = 1 → ∃ v : State, exec (.krPull r) s = .next (s.withPins (fun _ => v.drain)) ∧
        ∃ p ∈ v.crs.pushes, p.range = none ∧ p.ver = s.crs.tblVer ∧ r.src ∈ p.waits)) ∧
    (s.sve.actWait = true → ∃ v : State, exec .fwActivationWaitExpiry s = .next (s.withPins (fun _ => v.drain)) ∧ v.sve.actWait = false) ∧
    (∀ dev : Dev, dev ≠ s.fxb.devnum → s.sve.fwHandle ≠ 0 → s.sve.fwStaging = false → dev ∈ s.sve.fwWaits →
      exec (.fwActivationTimeout dev) s = .next (s.withPins (fun s => ((s.raise 0x200 .sveFwuFail).rolloutStop).drain))) ∧
    (∀ (dev : Dev) tag st pages d, s.mte.discards.find? (fun d => d.asker.isNone && d.id == tag && decide (dev ∈ d.checks)) = some d →
      let d' : DiscardOp := { d with checks := removeAll d.checks dev };
      (st ≠ 0 → exec (.discardCheckAnswer dev tag false st pages) s = .next (s.withPins (fun s => (s.endDiscard d stRange).drain))) ∧
      (st = 0 → d'.checks ≠ [] → exec (.discardCheckAnswer dev tag false st pages) s = .next (s.withPins (fun s => (s.setDiscard d d').drain))) ∧
      (st = 0 → d'.checks = [] →
        exec (.discardCheckAnswer dev tag false st pages) s = .next (s.withPins (fun s => ((s.setDiscard d d').discardGo d').drain)))) ∧
    (∀ (dev : Dev) tag st (pages : Word) d, s.mte.discards.find? (fun d => d.asker.isNone && d.id == tag && decide (dev ∈ d.confirms)) = some d →
      let d' : DiscardOp := { d with confirms := removeAll d.confirms dev, pages := d.pages + pages.toNat };
      exec (.discardCheckAnswer dev tag true st pages) s = .next (s.withPins (fun s => ((s.setDiscard d d').discardStep d').drain)))

/-- HEAD_LINK_TRAINED makes the link Active at its width and rate, with its lanes’ order and inversion recorded; HEAD_LINK_DOWN takes it down; L0P_WIDTH_CHANGE narrows and widens it; HDM_DECODER_COMMIT of a decoder that is valid and overlaps no other is committed, and of any other reports an error; CONVENTIONAL_RESET, HOT_RESET and FUNCTION_LEVEL_RESET clear the head’s state as each kind says; IDE_FAIL takes the link down; DC_ADD_TIMEOUT and DC_RELEASE_TIMEOUT end dynamic capacity offers and releases. (12_cxl_heads.md R405, R406, R409, R413, R414, R415, R431, R432; 13_crust.md R463; 01_module_physical.md R20, R21) -/
def Obligations.HeadLinks : Prop :=
  ∀ (s : State) (h : Fin 64),
    (∀ (width rate : BitVec 3) (rev : Bool) (inv : Byte), s.headExists h.val = true → (s.head h.val).st = 1 ∨ (s.head h.val).st = 2 → rate.toNat ≤ s.headRateMax h.val →
      rate ≠ 0 → width ≠ 0 → width.toNat ≤ widthCode (8 / s.portsOf h.val) →
      ∃ t, exec (.headLinkTrained h width ⟨rate, rev, inv⟩) s = .next t ∧ (t.head h.val).st = 3 ∧ (t.head h.val).width = width ∧
        (t.head h.val).fullWidth = width ∧ (t.head h.val).rate = rate ∧
        (t.port (8 * h.val)).rev = (rev && decide (s.portsOf h.val < 8)) ∧ (t.port (8 * h.val)).polInv = inv) ∧
    (s.headExists h.val = true → 2 ≤ (s.head h.val).st.toNat →
      ∃ u : State, exec (.headLinkDown h) s = .next (s.withPins (fun _ => u.drain)) ∧ (u.head h.val).st = 2 ∧ (u.head h.val).width = 0 ∧
        (u.head h.val).extents = [] ∧ (u.head h.val).decoders = [] ∧ (u.head h.val).reoffer = true) ∧
    (∀ w : BitVec 3, (s.head h.val).active = true → w ≠ 0 → w.toNat ≤ (s.head h.val).fullWidth.toNat →
      exec (.l0pWidthChange h w) s = .next (s.setHead h.val { s.head h.val with
        width := w, st := if w = (s.head h.val).fullWidth then 3 else 4 })) ∧
    (∀ (d : Fin 8) (cfg : Decoder), s.headExists h.val = true → ((s.head h.val).decoders.find d.val).any Decoder.lock = false →
      (decoderValid cfg = true → (s.head h.val).decoders.any (fun e => e.1 != d.val && rangesOverlap e.2 cfg) = false →
        exec (.hdmDecoderCommit h d cfg) s = .next (s.setHead h.val { s.head h.val with
          decoders := (s.head h.val).decoders.put d.val cfg, commitErr := removeAll (s.head h.val).commitErr d.val })) ∧
      (decoderValid cfg = false ∨ (s.head h.val).decoders.any (fun e => e.1 != d.val && rangesOverlap e.2 cfg) = true →
        exec (.hdmDecoderCommit h d cfg) s = .next (s.setHead h.val { s.head h.val with
          decoders := (s.head h.val).decoders.del d.val, commitErr := insertNew (s.head h.val).commitErr d.val }))) ∧
    (s.headExists h.val = true → ∀ c ∈ [Instr.conventionalReset h, .hotReset h],
      ∃ u : State, exec c s = .next (s.withPins (fun _ => u.drain)) ∧ (u.head h.val).extents = [] ∧ (u.head h.val).decoders = [] ∧
        (u.head h.val).logs = [] ∧ (u.head h.val).ideKeys = [] ∧ (u.head h.val).reoffer = true) ∧
    (s.headExists h.val = true → exec (.functionLevelReset h) s = .next (s.withPins (fun s => (s.headResetCommon h).drain))) ∧
    ((s.head h.val).active = true → ∃ u : State, exec (.ideFail h) s = .next (s.withPins (fun _ => u.drain)) ∧ (u.head h.val).st = 2) ∧
    (∀ (slot : BitVec 14) (o : Offer), (s.head h.val).offers.find? (fun o => o.slot.toNat == slot.toNat) = some o →
      exec (.dcAddTimeout h slot) s = .next (s.withPins (fun s =>
        ((s.dropOffer h.val o stTimeout).raise (headPage h.val) .headDcTimeout).drain))) ∧
    (∀ slot : BitVec 14, (s.head h.val).releasing.any (fun n => n.toNat == slot.toNat) = true →
      exec (.dcReleaseTimeout h slot) s = .next (s.withPins (fun s => (((s.clearSlot h.val slot.toNat).postDc h.val 0x92 slot.toNat
        (fld ((s.head h.val).extents.get 0 slot.toNat) 0 26)).raise (headPage h.val) .headDcTimeout).drain)))

/-- GET_EVENT_RECORDS, GET_EVENT_INTERRUPT_POLICY, GET_FW_INFO, GET_TIMESTAMP, GET_SUPPORTED_LOGS, GET_LOG, IDENTIFY_MEMORY_DEVICE, GET_PARTITION_INFO, GET_HEALTH_INFO, GET_ALERT_CONFIGURATION, GET_SHUTDOWN_STATE, GET_POISON_LIST and GET_DC_EXTENT_LIST that reach the mailbox of a head are answered Success with their payload; MAILBOX_UNSUPPORTED is answered Unsupported. (12_cxl_heads.md R416, R417, R418, R419, R420, R421) -/
def Obligations.MailboxQueries : Prop :=
  ∀ (s : State) (h : Fin 64), s.pages.started = true → s.reaches (.mailbox h) = true →
    (∀ (log : Fin 5), ∀ p ∈ [(Instr.getEventRecords h log, s.eventPayload h.val log.val), (.getEventInterruptPolicy h, [(s.head h.val).policy.toNat]),
      (.getFwInfo h, [2, flag s.sve.running, s.sve.slot0.version.toNat, s.sve.slot1.version.toNat]),
      (.getTimestamp h, [((s.head h.val).stampNow s.time.toNat).toNat]), (.getSupportedLogs h, [1, celUuid, 4 * mailboxOpcodes.length]),
      (.getLog h, mailboxOpcodes.flatMap (fun o => [o, Config.celEffect o])), (.identifyMemoryDevice h, [0, 0, 0, 0, 2048]),
      (.getPartitionInfo h, [0, 0, 0, 0]), (.getHealthInfo h, s.health h.val), (.getAlertConfiguration h, [(s.head h.val).alerts.toNat]),
      (.getShutdownState h, [s.ring 6 / 2 ^ h.val % 2]), (.getPoisonList h, s.poisonList h.val), (.getDcExtentList h, s.extentList h.val)],
      exec p.1 s = .next ((s.emit (.mailbox h rcSuccess p.2)).drain)) ∧
    (∀ op, exec (.mailboxUnsupported h op) s = .next ((s.emit (.mailbox h rcUnsupported [])).drain))

/-- SET_EVENT_INTERRUPT_POLICY, SET_TIMESTAMP, SET_ALERT_CONFIGURATION and SET_SHUTDOWN_STATE are stored and answered; CLEAR_EVENT_RECORDS clears the log; INJECT_POISON and CLEAR_POISON act on the line that the address names; GET_DC_CONFIGURATION reports and offers again, ADD_DC_RESPONSE refuses the offer it does not list, RELEASE_DYNAMIC_CAPACITY releases extents; LORLEK_EXEC runs its packet as its command, and LORLEK_COMPLETIONS reads completions. (12_cxl_heads.md R411, R413, R414, R417, R419, R421, R422, R424) -/
def Obligations.MailboxSettings : Prop :=
  ∀ (s : State) (h : Fin 64), s.pages.started = true → s.reaches (.mailbox h) = true →
    (∀ pol, exec (.setEventInterruptPolicy h pol) s =
      .next (((s.setHead h.val { s.head h.val with policy := pol }).emit (.mailbox h rcSuccess [])).drain)) ∧
    (∀ x, exec (.setTimestamp h x) s =
      .next (((s.setHead h.val { s.head h.val with timestamp := x, stampAt := some s.time.toNat }).emit (.mailbox h rcSuccess [])).drain)) ∧
    (∀ cfg, exec (.setAlertConfiguration h cfg) s =
      .next (((s.setHead h.val { s.head h.val with alerts := cfg }).emit (.mailbox h rcSuccess [])).drain)) ∧
    (s.pantryDown = false →
      exec (.setShutdownState h true) s = .next (s.withPins (fun s =>
        ((s.setRing 6 (BitVec.ofNat 64 (s.ring 6) ||| oneBit 64 h.val).toNat).emit (.mailbox h rcSuccess [])).drain)) ∧
      exec (.setShutdownState h false) s = .next (s.withPins (fun s =>
        ((s.setRing 6 (BitVec.ofNat 64 (s.ring 6) &&& ~~~(oneBit 64 h.val)).toNat).emit (.mailbox h rcSuccess [])).drain))) ∧
    (∀ log : Fin 5, exec (.clearEventRecords h log []) s = .next (((s.setHead h.val { s.head h.val with
      logs := (s.head h.val).logs.put log.val [], logOvf := (s.head h.val).logOvf.del log.val }).emit (.mailbox h rcSuccess [])).drain)) ∧
    (∀ (dpa : Dpa) (a : LineAddr) (d : Line), s.headRight h.val 2 = true → dpa.toNat % 64 = 0 → s.dpaLine h.val dpa = some a → s.safe = false →
      exec (.injectPoison h dpa) s = .next (s.withPins (fun s => ((s.mailStore h a 0 true).emit (.mailbox h rcSuccess [])).drain)) ∧
      exec (.clearPoison h dpa d) s = .next (s.withPins (fun s => ((s.mailStore h a d false).emit (.mailbox h rcSuccess [])).drain))) ∧
    (exec (.getDcConfiguration h) s = .next (s.withPins (fun s =>
      ((s.emit (.mailbox h rcSuccess dcConfig)).reofferAll h.val).drain))) ∧
    (∀ (o : Offer) (rest : List Offer), (s.head h.val).offers = o :: rest →
      exec (.addDcResponse h []) s = .next (s.withPins (fun s =>
        ((s.dropOffer h.val o stDenied).emit (.mailbox h rcSuccess [])).drain))) ∧
    (∀ d : Dpa, s.extentAt h.val d = true → exec (.releaseDynamicCapacity h [d]) s = .next (s.withPins (fun s =>
      ((s.releaseExtent h.val d).emit (.mailbox h rcSuccess [])).drain))) ∧
    (∀ (w : Word) (ws : List Word), s.headRight h.val 1 = true → ws.length < 128 → fld w 8 8 = ws.length + 1 →
      exec (.lorlekExec h (w :: ws)) s = .next (s.withPins (fun s => (s.command (.mailbox h) false (w :: ws)).drain))) ∧
    (s.headRight h.val 1 = true → exec (.lorlekCompletions h) s = .next (s.withPins (fun s =>
      (((s.setHead h.val { s.head h.val with cplQ := (splitPackets 1024 (s.head h.val).cplQ).2 }).emit
        (.mailbox h rcSuccess ((splitPackets 1024 (s.head h.val).cplQ).1.flatMap (fun p => p.map BitVec.toNat)))).admitHeadCpl h.val).drain)))

/-- GET_VERSION, GET_CAPABILITIES, NEGOTIATE_ALGORITHMS, GET_DIGESTS, GET_CERTIFICATE, CHALLENGE, GET_MEASUREMENTS and SPDM_UNSUPPORTED_REQUEST on a path that is up are answered with their response; chains that are absent and indexes out of range are answered with an error; a session is opened by KEY_EXCHANGE, used by FINISH, HEARTBEAT and KEY_UPDATE, and closed by END_SESSION; SET_CERTIFICATE of a requester with the right sets the owner’s chain. (13_crust.md R457, R458, R459, R460, R461) -/
def Obligations.SpdmRequests : Prop :=
  ∀ (s : State) (p : SpdmPath), s.spdmUp p = true →
    (∀ code : Byte, ∀ x ∈ [(Instr.getVersion p, 0x04, [0x12]), (.getCapabilities p, 0x61, [16, spdmFlags]),
        (.negotiateAlgorithms p, 0x63, [0x10, 0x01, 0x08, 0x02, 0x01, 0x02]),
        (.getDigests p, 0x01, s.slotMask :: (List.range 2).filterMap s.chainDigest), (.spdmUnsupportedRequest p code, 0x7f, [0x07, code.toNat])],
      exec x.1 s = .next (s.spdmRsp p x.2.1 x.2.2)) ∧
    (∀ slot : BitVec 4, (∀ c, s.chain slot.toNat = some c → exec (.getCertificate p slot) s = .next (s.spdmRsp p 0x02 (slot.toNat :: c))) ∧
      (s.chain slot.toNat = none → exec (.getCertificate p slot) s = .next (s.spdmRsp p 0x7f [0x01]) ∧
        exec (.challenge p slot) s = .next (s.spdmRsp p 0x7f [0x01])) ∧
      (∀ d, s.chainDigest slot.toNat = some d →
        ∃ t a b, exec (.challenge p slot) s = .next t ∧ .spdm p 0x03 [slot.toNat, d, a, b] ∈ t.out)) ∧
    (∀ i : Byte, (i = 0 → ∃ t a, exec (.getMeasurements p i) s = .next t ∧ .spdm p 0x60 [6, a] ∈ t.out) ∧
      (1 ≤ i.toNat → i.toNat ≤ 6 →
        ∃ t a b, exec (.getMeasurements p i) s = .next t ∧ .spdm p 0x60 [i.toNat, s.measurement i.toNat, a, b] ∈ t.out) ∧
      (6 < i.toNat → i ≠ 0xff → exec (.getMeasurements p i) s = .next (s.spdmRsp p 0x7f [0x01]))) ∧
    (s.crs.sessions.length < 8 → ∃ t a b c, exec (.keyExchange p) s = .next t ∧
      t.crs.sessions = s.crs.sessions ++ [(s.crs.nextSession, p)] ∧ .spdm p 0x64 [s.crs.nextSession.toNat, a, b, c] ∈ t.out) ∧
    (8 ≤ s.crs.sessions.length → exec (.keyExchange p) s = .next (s.spdmRsp p 0x7f [0x03])) ∧
    (∀ n : Word, ∀ x ∈ [(Instr.finish p n, 0x65), (.heartbeat p n, 0x68), (.keyUpdate p n, 0x69)],
      ((n, p) ∈ s.crs.sessions → exec x.1 s = .next (s.spdmRsp p x.2 [n.toNat])) ∧
      ((n, p) ∉ s.crs.sessions → exec x.1 s = .next (s.spdmRsp p 0x7f [0x02]))) ∧
    (∀ n : Word, (n, p) ∈ s.crs.sessions → ∃ t, exec (.endSession p n) s = .next t ∧ .spdm p 0x6c [n.toNat] ∈ t.out ∧
      ∀ e ∈ t.crs.sessions, e.1 ≠ n) ∧
    (∀ (q : Requester) (c : CertChain), requesterPath q = p → s.hasRight q 5 = true → c.leafKey = Config.idKey → s.pantryDown = false →
      s.pan.recalling = false → ∃ t, exec (.setCertificate q 1 c) s = .next t ∧ t.pan.ownerCert = some c ∧ .spdm p 0x6e [1] ∈ t.out)

/-- In a session of its path IDE_KM_QUERY is answered, and IDE_KM_KEY_PROG, IDE_KM_K_SET_GO and IDE_KM_K_SET_STOP program, start and stop a head’s IDE keys; without one the request is an error; SET_ENDPOINT_ID sets the endpoint ID in its range, and GET_ENDPOINT_ID reads it; GET_MCTP_VERSION_SUPPORT, GET_MESSAGE_TYPE_SUPPORT and GET_ENDPOINT_UUID are answered; an MCTP_PACKET that starts a message opens its buffer. (13_crust.md R461, R462; 14_management.md R492, R493, R494, R495) -/
def Obligations.IdeAndMctp : Prop :=
  ∀ (s : State) (h : Fin 64),
    (s.spdmUp (.doe h) = true → s.crs.sessions.any (fun (e : Word × SpdmPath) => e.2 == .doe h) = true →
      exec (.ideKmQuery h) s = .next (s.emit (.ideKm h 0x01)) ∧
      ∀ (set : Fin 2) (mem : Bool),
        (∀ key, exec (.ideKmKeyProg h set mem key) s = .next ((s.setHead h.val { s.head h.val with
          ideKeys := (s.head h.val).ideKeys.put (ideIndex set.val mem) key }).emit (.ideKm h 0x03))) ∧
        (((s.head h.val).ideKeys.find (ideIndex set.val mem)).isSome = true →
          ∃ t, exec (.ideKmKSetGo h set mem) s = .next t ∧ ideIndex set.val mem ∈ (t.head h.val).ideActive ∧ .ideKm h 0x06 ∈ t.out) ∧
        (∃ t, exec (.ideKmKSetStop h set mem) s = .next t ∧
          (t.head h.val).ideActive = removeAll (s.head h.val).ideActive (ideIndex set.val mem) ∧ .ideKm h 0x06 ∈ t.out)) ∧
    (s.spdmUp (.doe h) = true → s.crs.sessions.any (fun (e : Word × SpdmPath) => e.2 == .doe h) = false →
      exec (.ideKmQuery h) s = .next (s.spdmRsp (.doe h) 0x7f [0x04])) ∧
    (s.pages.started = true →
      (∀ eid : Byte, 8 ≤ eid.toNat → eid.toNat ≤ 254 →
        exec (.setEndpointId eid) s = .next (((({ s with mgt := { s.mgt with eid := eid } } : State).emit (.mctp 0x01 [0, eid.toNat]))).sendIbi 0xae [])) ∧
      (∀ eid : Byte, eid.toNat < 8 ∨ eid.toNat = 255 → exec (.setEndpointId eid) s = .next ((s.emit (.mctp 0x01 [2])).sendIbi 0xae [])) ∧
      (∀ x ∈ [(Instr.getEndpointId, 0x02, [0, s.mgt.eid.toNat]), (.getMctpVersionSupport, 0x04, [0, 1, 0xf1f3f000]),
          (.getMessageTypeSupport, 0x05, [0, 3, 0x00, 0x05, 0x06]), (.getEndpointUuid, 0x03, [0, Config.uuid.toNat])],
        exec x.1 s = .next ((s.emit (.mctp x.2.1 x.2.2)).sendIbi 0xae [])) ∧
      (∀ p : MctpPacket, s.mgt.mctpMine p = true → p.payload.length ≤ 64 → p.som = true → p.eom = false → p.mtype.toNat ∈ [0x00, 0x05, 0x06] →
        ∃ t, exec (.mctpPacket p) s = .next t ∧ t.mgt.mctpOpen = true ∧ t.mgt.mctpBuf = p.payload ∧ t.mgt.mctpType = p.mtype ∧
          t.mgt.mctpSeq = p.seq + 1))

/-- A right UNLOCK_TOKEN in the consent window of a module without segments enters test mode, and of one with segments answers STATE; CONSENT_WINDOW_EXPIRY forgets the challenge; at BOOT_MONITOR_CHECK a core whose image is good leaves its boot, and two bad images raise FW_BAD; a DEBUG_ACCESS that reads memory answers the line’s value, and without the right, or outside the test range, zeros. (13_crust.md R464, R465, R466, R467, R468; 15_faults_events.md R538) -/
def Obligations.TestAndBoot : Prop :=
  ∀ s : State,
    (s.crs.window = true → s.crs.testMode = false → s.holdsSegment = false →
      ∃ u : State, exec (.unlockToken ownSerial s.crs.nonce true) s = .next (s.withPins (fun _ => u.drain)) ∧ u.crs.testMode = true) ∧
    (s.crs.window = true → s.crs.testMode = false → s.holdsSegment = true →
      exec (.unlockToken ownSerial s.crs.nonce true) s = .next (s.withPins (fun s => (s.emit (.unlock stState)).drain))) ∧
    (s.crs.window = true → ∃ t, exec .consentWindowExpiry s = .next t ∧ t.crs.window = false ∧ t.crs.nonce = 0 ∧
      t.reg 0x00b 0x110 = 0 ∧ t.reg 0x00b 0x114 = 0) ∧
    (∀ n : Fin 8, (s.core n.val).st = 1 →
      (s.bootCheck s.sve.running = 0 → ∃ u : State, exec (.bootMonitorCheck n) s = .next (s.withPins (fun _ => u.drain)) ∧
        2 ≤ (u.core n.val).st ∧ u.crs.runSvn = BitVec.ofNat 16 (s.fwSlot s.sve.running).svn) ∧
      (s.bootCheck s.sve.running ≠ 0 → s.bootCheck (!s.sve.running) ≠ 0 →
        exec (.bootMonitorCheck n) s = .next (s.withPins (fun s => (s.raise 0x008 .crsFwBad).drain)))) ∧
    (s.pages.started = true →
      (∀ f : Fga, s.hasRight .debug 10 = false ∨ s.debugRange (fgaLine f) = false →
        ∃ t, exec (.debugAccess (.memRead f)) s = .next t ∧ .debugRead 0 false ∈ t.out) ∧
      (∀ f : Fga, s.hasRight .debug 10 = true → s.debugRange (fgaLine f) = true → (s.lookup (lineGsn (fgaLine f))).st = 1 →
        ∃ t, exec (.debugAccess (.memRead f)) s = .next t ∧
          .debugRead (s.debugValue (fgaLine f)).1.1 (s.debugValue (fgaLine f)).1.2 ∈ t.out) ∧
      (∀ a w, s.hasRight .debug 0 = true → exec (.debugAccess (.pageWrite a w)) s = .next s))

/-- EVENT_SOURCE_LATCH takes the queued sources: the first uncorrected one is captured, and a fatal one puts the module in the safe state, as SAFE_STATE does, whose flush ends at SAFE_FLUSH_END where no hang has stopped it, or at SAFE_FLUSH_TIMEOUT; FENCE_REACTION_END marks the fenced pages; CONSEQUENTIAL_WINDOW_EXPIRY closes the window; RECORD_HOLDOFF_EXPIRY ends a hold-off; SPILL_PAGE_EXPIRY programs the spill page. (15_faults_events.md R510, R511, R512, R514, R516, R517, R518, R519, R526, R529) -/
def Obligations.EventsAndSafeState : Prop :=
  ∀ (s : State) (x : Latched),
    (s.flt.queue = [] → exec .eventSourceLatch s = .next (s.withPins State.drain)) ∧
    (s.flt.queue = [x] → x.conseq = false → x.forced = false → (classify x.src).1 = 3 → x.src ≠ srcId 0x003 6 → s.safe = false →
      ∃ u : State, exec .eventSourceLatch s = .next (s.withPins (fun _ => u.drain)) ∧ u.flt.safe = 2 ∧ u.flt.cause = BitVec.ofNat 3 (safeCause x.src)) ∧
    (s.flt.queue = [x] → x.conseq = false → x.forced = false → (classify x.src).1 = 2 → bitAt (s.reg 0x004 0x10c) 31 = false →
      ∃ u : State, exec .eventSourceLatch s = .next (s.withPins (fun _ => u.drain)) ∧
        u.reg 0x004 0x10c = BitVec.ofNat 32 (2 ^ 31 + 2 * 2 ^ 18 + x.src.toNat)) ∧
    (∀ (dom : BitVec 4) (inst : BitVec 20),
      s.flt.windows.any (fun (w : Window) => w.dom.toNat = dom.toNat && w.inst.toNat = inst.toNat && !w.ended) = true →
      ∃ t, exec (.fenceReactionEnd dom inst) s = .next t ∧ (∀ w ∈ t.flt.windows, w.dom = dom → w.inst = inst → w.ended = true) ∧
        (s.isFenced dom.toNat inst.toNat = true → ∀ pg ∈ domainPages dom.toNat inst.toNat, pg ∈ t.pages.fenced)) ∧
    (∀ (dom : BitVec 4) (inst : BitVec 20), ∃ t, exec (.consequentialWindowExpiry dom inst) s = .next t ∧
      ∀ w ∈ t.flt.windows, w.dom = dom → w.inst = inst → w.ended = false) ∧
    (∀ src : BitVec 18, exec (.recordHoldoffExpiry src) s = .next { s with flt := { s.flt with holdoff := removeAll s.flt.holdoff src } }) ∧
    (∀ c : BitVec 3, s.safe = false → ∃ t, exec (.safeState c) s = .next t ∧ t.flt.safe = 2 ∧ t.flt.cause = c ∧ t.sve.lease = false) ∧
    (s.flt.safe = 2 → (s.flt.hung = false → s.flushed = true → ∃ t, exec .safeFlushEnd s = .next t ∧ t.flt.safe = 3) ∧
      (∃ t, exec .safeFlushTimeout s = .next t ∧ t.flt.safe = 3)) ∧
    (s.flt.spillBuf ≠ [] → ∃ t, exec .spillPageExpiry s = .next t ∧ t.flt.spillBuf = [] ∧
      t.flt.spillNext = (s.flt.spillNext + 1) % 16384)

/-- GPF_PHASE1 of a head that exists is acknowledged at once, and nothing else changes. (05_ordering_persistence.md R178) -/
def Obligations.GpfPhase1 : Prop :=
  ∀ (s : State) (h : Fin 64), s.headExists h.val = true →
    exec (.gpfPhase1 h) s = .next { s with out := s.out ++ [.gpfAck h 1] }

/-- Every register lies at an offset that is a multiple of 4; a REGISTER_READ of another width or alignment returns 0 in every state in which the requester reaches the bus; such a REGISTER_WRITE to a page with a block is rejected where the requester holds the right to it. (00_scope.md R6) -/
def Obligations.UnalignedAccess : Prop :=
  (∀ (page off : Nat) (r : RegWord), regWord page off = some r → off % 4 = 0) ∧
  ∀ (s : State) (q : Requester) (addr : BitVec 24) (width : Nat), s.reaches q = true → (width ≠ 4 ∨ addr.toNat % 4 ≠ 0) →
    (∃ t, exec (.registerRead q addr width) s = .next t ∧ .regRead q addr 0 ∈ t.out) ∧
    (∀ (k : PageKind) (w : Word), s.pages.started = true → s.windowShut q = none → pageKind (addr.toNat / 4096) = some k →
      s.mayWrite q (addr.toNat % 4096) w = true →
      exec (.registerWrite q addr width w) s = .next (s.withPins (fun s => (s.reject (addr.toNat / 4096)).drain)))

/-- The pages without a block are those of R578; a read of one returns 0 and is counted as UNMAPPED, and so is a write, which does nothing else. (17_register_pages.md R578) -/
def Obligations.EmptyPages : Prop :=
  ∀ p : Nat, p < 4096 →
    (pageKind p = none ↔ p = 0x007 ∨ (0x029 ≤ p ∧ p ≤ 0x02f) ∨ (0x032 ≤ p ∧ p ≤ 0x03f) ∨ (0x081 ≤ p ∧ p ≤ 0x0ff) ∨
      (0x141 ≤ p ∧ p ≤ 0x17f) ∨ (0x182 ≤ p ∧ p ≤ 0x1bf) ∨ (0x209 ≤ p ∧ p ≤ 0x2ff) ∨ (0x301 ≤ p ∧ p ≤ 0xeff) ∨ (0xf10 ≤ p ∧ p ≤ 0xfff)) ∧
    (pageKind p = none → ∀ (s : State) (q : Requester) (addr : BitVec 24), addr.toNat / 4096 = p → s.reaches q = true →
      s.pages.started = true → s.windowShut q = none →
      (∀ width, exec (.registerRead q addr width) s = .next (s.withPins (fun s => s.unmapped.emit (.regRead q addr 0)))) ∧
      (∀ width w, s.hasRight q 0 = true →
        exec (.registerWrite q addr width w) s = .next (s.withPins (fun s => s.unmapped.drain))))

/-- A step takes the command at the front of the queue and runs it on the state with the queue’s rest; on an empty queue one AON cycle of 40 ns passes instead, which is the model’s choice (log 1). (16_power_thermal_clocks.md R570; 14_management.md R502) -/
def Obligations.FrontOfQueue : Prop :=
  (∀ (c : Instr) (rest : List Instr) (s : State), step { s with pending := c :: rest } = exec c { s with pending := rest }) ∧
  (∀ s : State, s.pending = [] → step s = .next s.tick ∧ s.tick.time = s.time + 40 ∧ s.tick.out = s.out ∧ s.tick.regs = s.regs)

/-- AON reset leaves the module Off with no command waiting, module time and operating time at 0, every register at the reset value of its field table, every page closed, the medium and the pantry as they are built, and the invariant of StepKeepsInv; the values of 48 V present and of an empty medium are the model’s choices (log 3, log 8). (16_power_thermal_clocks.md R571, R573; 00_scope.md R10; 14_management.md R502) -/
def Obligations.ResetState : Prop :=
  State.reset.Inv ∧ State.reset.pending = [] ∧ State.reset.out = [] ∧ State.reset.time = 0 ∧ State.reset.opMs = 0 ∧
    State.reset.pwr.st = 0 ∧ State.reset.pages.started = false ∧ State.reset.safe = false ∧ State.reset.mgt.dyn = none ∧
    ∀ page off, State.reset.reg page off = resetWord (regAddr page off)

/-- Every command answers a next state from every state; it leaves the waiting commands as they are and adds to what the module has driven outward without changing what came before; only AON_RESET changes module time, which restarts at 0, and only AON_RESET and the end of a recall change operating time (R502, R605). (14_management.md R502; 16_power_thermal_clocks.md R605) -/
def Obligations.QueueAndTime : Prop :=
  ∀ (c : Instr) (s : State), ∃ t, exec c s = .next t ∧ t.pending = s.pending ∧ s.out <+: t.out ∧
    (t.time = s.time ∨ (t.time = 0 ∧ ∃ straps, c = .aonReset straps)) ∧
    ((t.opMs = s.opMs ∧ t.opNs = s.opNs) ∨ (∃ straps, c = .aonReset straps) ∨ ∃ a b, c = .recallDone a b)

/-- From every state in which the register file, its shadow copies, the counters and the tables of slices, cages, ports and heads are in their canonical form, the counters fit their widths, and the power state, the flush phase and the cages are legal, a step leads to such a state. (00_scope.md R8, R10; 14_management.md R484; 16_power_thermal_clocks.md R553, R558, R605; 01_module_physical.md R23, R25) -/
def Obligations.StepKeepsInv : Prop :=
  ∀ s t : State, s.Inv → step s = .next t → t.Inv

/-- Each of these commands changes nothing but the parts of the state named beside it: all registers, memories, queues and pins of every other part stay as they are. Parts are named as State names them: out is what the module drives outward, and a command that names it says so. (14_management.md R470, R480; 10_elvuc_link.md R318, R345; 16_power_thermal_clocks.md R545, R560; 15_faults_events.md R529) -/
def Obligations.SmallFrames : Prop :=
  (let P := Touches (fun s t => { s with cages := t.cages });
      (∀ cage, P (.cagePresenceAssert cage)) ∧ (∀ cage, P (.cagePresenceDebounceExpiry cage))) ∧
    (let P := Touches (fun s t => { s with dtc := t.dtc });
      P .fillWindowBoundary ∧ P .patrolScrubPass) ∧
    (let P := Touches (fun s t => { s with flt := t.flt });
      (∀ dom inst, P (.consequentialWindowExpiry dom inst)) ∧ (∀ src, P (.recordHoldoffExpiry src)) ∧ P .spillPageExpiry) ∧
    (let P := Touches (fun s t => { s with fxb := t.fxb });
      P .oldEscapeExpiry) ∧
    (let P := Touches (fun s t => { s with heads := t.heads });
      (∀ h width, P (.l0pWidthChange h width)) ∧ (∀ h d cfg, P (.hdmDecoderCommit h d cfg))) ∧
    (let P := Touches (fun s t => { s with mch := t.mch });
      (∀ die, P (.resumeIdleExpiry die)) ∧ P .mediaThermalRound ∧ (∀ g, P (.modeMoveEnd g))) ∧
    (let P := Touches (fun s t => { s with mgt := t.mgt });
      (∀ p, P (.mctpPacket p)) ∧ P .enthdr0) ∧
    (let P := Touches (fun s t => { s with mte := t.mte });
      (∀ region, P (.rewindMarkHoldEnd region))) ∧
    (let P := Touches (fun s t => { s with out := t.out });
      (∀ h, P (.gpfPhase1 h)) ∧ P .hotJoinRepeat ∧ P .ibiResend) ∧
    (let P := Touches (fun s t => { s with pages := t.pages });
      (∀ page, P (.quiesceDone page))) ∧
    (let P := Touches (fun s t => { s with pan := t.pan });
      P .passwordHoldExpiry) ∧
    (let P := Touches (fun s t => { s with ports := t.ports });
      (∀ port, P (.elvucTrainStart port)) ∧ (∀ port, P (.trainingRetryExpiry port)) ∧ (∀ port, P (.linkWake port))) ∧
    (let P := Touches (fun s t => { s with pwr := t.pwr });
      P .bladeSeatClose ∧ P .minOffTimeExpiry ∧ P .autoIdleEntry ∧ (∀ dom, P (.domainUngate dom))
      ∧ (∀ dom, P (.domainRegate dom)) ∧ P .pllLockLoss) ∧
    (let P := Touches (fun s t => { s with sve := t.sve });
      (∀ dev tag, P (.dedupEntryExpiry dev tag))) ∧
    (let P := Touches (fun s t => { s with mgt := t.mgt, pwr := t.pwr });
      P .pwrEnRise ∧ (∀ straps, P (.mrstNRise straps))) ∧
    (let P := Touches (fun s t => { s with out := t.out, mgt := t.mgt });
      (∀ p, P (.getVersion p)) ∧ (∀ p, P (.getCapabilities p)) ∧ (∀ p, P (.negotiateAlgorithms p)) ∧ (∀ p, P (.getDigests p))
      ∧ (∀ p slot, P (.getCertificate p slot)) ∧ (∀ p session, P (.finish p session))
      ∧ (∀ p session, P (.heartbeat p session)) ∧ (∀ p session, P (.keyUpdate p session))
      ∧ (∀ p code, P (.spdmUnsupportedRequest p code)) ∧ (∀ h, P (.ideKmQuery h)) ∧ (∀ eid, P (.setEndpointId eid))
      ∧ P .getEndpointId ∧ P .getMctpVersionSupport ∧ P .getMessageTypeSupport ∧ P .getEndpointUuid
      ∧ (∀ ev, P (.enec ev)) ∧ (∀ ev, P (.disec ev)) ∧ P .rstdaa ∧ (∀ addr, P (.entdaa addr))
      ∧ (∀ stat addr, P (.setdasa stat addr)) ∧ (∀ addr, P (.setnewda addr)) ∧ (∀ len, P (.setmwl len))
      ∧ (∀ len, P (.setmrl len)) ∧ P .getmwl ∧ P .getmrl ∧ P .getpid ∧ P .getbcr ∧ P .getdcr ∧ P .getstatus ∧ P .getmxds
      ∧ P .getcaps ∧ (∀ code, P (.unsupportedCcc code))) ∧
    (let P := Touches (fun s t => { s with out := t.out, ports := t.ports });
      (∀ port, P (.ackIdleDue port)) ∧ (∀ port, P (.trickleIdleExpiry port)) ∧ P .devReqRepeat
      ∧ (∀ port lanes, P (.receiverDetectionDone port lanes))) ∧
    (let P := Touches (fun s t => { s with pages := t.pages, flt := t.flt });
      (∀ dom inst, P (.fenceReactionEnd dom inst))) ∧
    (let P := Touches (fun s t => { s with pan := t.pan, pwr := t.pwr });
      P .powerUpStart) ∧
    (let P := Touches (fun s t => { s with regs := t.regs, crs := t.crs });
      P .consentWindowExpiry) ∧
    (let P := Touches (fun s t => { s with slices := t.slices, dtc := t.dtc });
      (∀ line, P (.tierLookupDone line))) ∧
    (let P := Touches (fun s t => { s with dtc := t.dtc, mch := t.mch, mte := t.mte });
      (∀ lmp, P (.frameTransferDone lmp))) ∧
    (let P := Touches (fun s t => { s with mgt := t.mgt, pwr := t.pwr, dtc := t.dtc });
      P .pfailNRise) ∧
    (let P := Touches (fun s t => { s with out := t.out, free := t.free, mgt := t.mgt });
      (∀ p slot, P (.challenge p slot)) ∧ (∀ p index, P (.getMeasurements p index))) ∧
    (let P := Touches (fun s t => { s with out := t.out, free := t.free, ports := t.ports });
      (∀ port key nonce, P (.kxOffer port key nonce)) ∧ (∀ port, P (.rekeyIntervalExpiry port))) ∧
    (let P := Touches (fun s t => { s with out := t.out, mgt := t.mgt, heads := t.heads });
      (∀ h set mem key, P (.ideKmKeyProg h set mem key)) ∧ (∀ h set mem, P (.ideKmKSetGo h set mem))
      ∧ (∀ h set mem, P (.ideKmKSetStop h set mem))) ∧
    (let P := Touches (fun s t => { s with out := t.out, ports := t.ports, fxb := t.fxb });
      (∀ port serial inst wanted, P (.devReq port serial inst wanted))) ∧
    (let P := Touches (fun s t => { s with regs := t.regs, flt := t.flt, pan := t.pan });
      P .opsecWriteExpiry) ∧
    (let P := Touches (fun s t => { s with regs := t.regs, perf := t.perf, slices := t.slices });
      (∀ line, P (.mergeDrainAgeExpiry line))) ∧
    (let P := Touches (fun s t => { s with slices := t.slices, dtc := t.dtc, mch := t.mch });
      (∀ line, P (.mapLookupDone line))) ∧
    (let P := Touches (fun s t => { s with out := t.out, free := t.free, mgt := t.mgt, crs := t.crs });
      (∀ p, P (.keyExchange p))) ∧
    (let P := Touches (fun s t => { s with out := t.out, mgt := t.mgt, crs := t.crs, heads := t.heads });
      (∀ p session, P (.endSession p session))) ∧
    (let P := Touches (fun s t => { s with regs := t.regs, flt := t.flt, thm := t.thm, mch := t.mch });
      P .throttleGraceExpiry) ∧
    (let P := Touches (fun s t => { s with regs := t.regs, shadow := t.shadow, pages := t.pages, mch := t.mch });
      P .mchGrpmodeCommit) ∧
    (let P := Touches (fun s t => { s with regs := t.regs, shadow := t.shadow, pages := t.pages, slices := t.slices });
      (∀ sl, P (.slcLockCommit sl)))

/-- Each of these commands changes nothing but its own part and what raising an event may change: the fault recorder (flt), the stored event words (regs), the interrupts of heads (heads), the in-band interrupt (mgt) and what is driven outward (out). (15_faults_events.md R510, R511, R529; 12_cxl_heads.md R431; 14_management.md R477) -/
def Obligations.EventFrames : Prop :=
  (let P := Touches (fun s t => { s with out := t.out, regs := t.regs, flt := t.flt, ports := t.ports, fxb := t.fxb });
      (∀ dev, P (.esqAckDue dev))) ∧
    (let P := Touches (fun s t => { s with out := t.out, regs := t.regs, mgt := t.mgt, flt := t.flt, heads := t.heads });
      (∀ h, P (.gpfTimeout h)) ∧ (∀ temps, P (.dimmReread temps)) ∧ P .reformFreezeEnd ∧ P .reformTimeout ∧ P .cplPop
      ∧ (∀ op, P (.badOp op)) ∧ P .cplAbandon) ∧
    (let P := Touches (fun s t => { s with regs := t.regs, flt := t.flt, pan := t.pan, pwr := t.pwr, thm := t.thm });
      P .thermRestart) ∧
    (let P := Touches (fun s t => { s with out := t.out, regs := t.regs, flt := t.flt, ports := t.ports, fxb := t.fxb, heads := t.heads });
      (∀ h kind tag, P (.barrierWrite h kind tag))) ∧
    (let P := Touches (fun s t => { s with out := t.out, regs := t.regs, hold := t.hold, mgt := t.mgt, flt := t.flt, heads := t.heads });
      (∀ h, P (.completionHoldExpiry h)) ∧ P .cmdAbandon) ∧
    (let P := Touches (fun s t => { s with out := t.out, regs := t.regs, mgt := t.mgt, flt := t.flt, crs := t.crs, heads := t.heads });
      (∀ r, P (.keySlotParityFail r)) ∧ (∀ r, P (.keyFenced r)) ∧ (∀ r, P (.keySlotReloadDone r))) ∧
    (let P := Touches (fun s t => { s with out := t.out, regs := t.regs, mgt := t.mgt, flt := t.flt, mch := t.mch, heads := t.heads });
      (∀ ppa crumb, P (.crumbReadTimeout ppa crumb)) ∧ P .driftSurveyStart ∧ P .survey) ∧
    (let P := Touches (fun s t => { s with out := t.out, regs := t.regs, mgt := t.mgt, flt := t.flt, pan := t.pan, heads := t.heads });
      (∀ q slot c, P (.setCertificate q slot c)) ∧ (∀ key value fails, P (.pantryWrite key value fails)) ∧ P .pantryRecall) ∧
    (let P := Touches (fun s t => { s with out := t.out, regs := t.regs, mgt := t.mgt, flt := t.flt, ports := t.ports, heads := t.heads });
      (∀ port b, P (.ts1 port b)) ∧ (∀ port b, P (.ts2 port b)) ∧ (∀ port preset, P (.equalisationRequest port preset))
      ∧ (∀ port, P (.equalisationDone port)) ∧ (∀ port, P (.replayTimerExpiry port))
      ∧ (∀ h width rate, P (.headLinkTrained h width rate)) ∧ (∀ port, P (.kxDone port))) ∧
    (let P := Touches (fun s t => { s with out := t.out, regs := t.regs, mgt := t.mgt, flt := t.flt, pwr := t.pwr, heads := t.heads });
      P .safeFlushTimeout ∧ P .pllRelock) ∧
    (let P := Touches (fun s t => { s with out := t.out, regs := t.regs, mgt := t.mgt, flt := t.flt, slices := t.slices, heads := t.heads });
      (∀ line, P (.secondSourceReadDone line)) ∧ (∀ sl, P (.invalidationDone sl)) ∧ (∀ sl grp, P (.preloadDone sl grp))) ∧
    (let P := Touches (fun s t => { s with out := t.out, regs := t.regs, mgt := t.mgt, flt := t.flt, cages := t.cages, ports := t.ports, heads := t.heads });
      (∀ cage bytes, P (.cableIdentityReadDone cage bytes)) ∧ (∀ cage, P (.cableIdentityReadTimeout cage))) ∧
    (let P := Touches (fun s t => { s with out := t.out, regs := t.regs, mgt := t.mgt, flt := t.flt, dtc := t.dtc, mte := t.mte, heads := t.heads });
      (∀ c, P (.channelTrainingDone c)) ∧ (∀ region, P (.rwVoidDurable region))) ∧
    (let P := Touches (fun s t => { s with out := t.out, regs := t.regs, mgt := t.mgt, flt := t.flt, mch := t.mch, mte := t.mte, heads := t.heads });
      P .stripeGatherTimeout ∧ (∀ block, P (.eraseDone block)) ∧ (∀ block, P (.eraseFailure block))
      ∧ (∀ setid, P (.setReleaseDurable setid))) ∧
    (let P := Touches (fun s t => { s with out := t.out, regs := t.regs, mgt := t.mgt, flt := t.flt, ports := t.ports, fxb := t.fxb, heads := t.heads });
      (∀ dev, P (.e2eResendExpiry dev)) ∧ (∀ port root epoch, P (.tree port root epoch)) ∧ P .routeHolddownExpiry) ∧
    (let P := Touches (fun s t => { s with out := t.out, regs := t.regs, mgt := t.mgt, flt := t.flt, pwr := t.pwr, mch := t.mch, heads := t.heads });
      (∀ watts, P (.cappedLoopTick watts))) ∧
    (let P := Touches (fun s t => { s with out := t.out, regs := t.regs, mgt := t.mgt, flt := t.flt, thm := t.thm, mch := t.mch, heads := t.heads });
      P .throttleReleaseExpiry) ∧
    (let P := Touches (fun s t => { s with out := t.out, free := t.free, regs := t.regs, mgt := t.mgt, flt := t.flt, mch := t.mch, mte := t.mte, heads := t.heads });
      (∀ g, P (.scraperVictimSelect g))) ∧
    (let P := Touches (fun s t => { s with out := t.out, regs := t.regs, mgt := t.mgt, flt := t.flt, dtc := t.dtc, mch := t.mch, mte := t.mte, heads := t.heads });
      (∀ lmp, P (.stageAgeExpiry lmp)) ∧ (∀ stripe die, P (.programFailure stripe die)) ∧ (∀ ch, P (.busCrcFail ch))
      ∧ P .reformDrainEnd ∧ P .wsnReserve ∧ P .journalFlushExpiry ∧ (∀ setid, P (.relocationProgrammed setid))) ∧
    (let P := Touches (fun s t => { s with out := t.out, regs := t.regs, mgt := t.mgt, flt := t.flt, pwr := t.pwr, dtc := t.dtc, mte := t.mte, heads := t.heads });
      (∀ socket spd, P (.spdHubReadDone socket spd)) ∧ (∀ socket, P (.spdHubReadTimeout socket)) ∧ P .holdupChargeTimeout
      ∧ (∀ c, P (.channelTrainingTimeout c)) ∧ P .holdupMeasureSchedule) ∧
    (let P := Touches (fun s t => { s with out := t.out, regs := t.regs, mgt := t.mgt, flt := t.flt, pan := t.pan, pwr := t.pwr, dtc := t.dtc, mte := t.mte, heads := t.heads });
      (∀ v0 v1 v2, P (.holdMeas v0 v1 v2))) ∧
    (let P := Touches (fun s t => { s with out := t.out, regs := t.regs, mgt := t.mgt, flt := t.flt, pwr := t.pwr, dtc := t.dtc, mch := t.mch, mte := t.mte, heads := t.heads });
      P .pfailNFall ∧ P .readmitTimeExpiry ∧ P .flushDrainEnd)
end

