-- ==== Sys2Proof/Laws/Bus.lean ====
section
/-! SUPPORT. Laws of the register bus: what an accepted and a rejected write do. -/

namespace Sys2Proof.Machine

open Sys2Proof

/-- An accepted write does what the register gives, then what follows from it. -/
theorem pageWrite_accepts {s : State} {q : Requester} {page off : Nat} {w : Word} {k : PageKind} {r : RegWord}
    (ho : off < 4096) (ha : off % 4 = 0) (hk : pageKind page = some k) (hr : regWord page off = some r)
    (h : s.accepts q page off w = true) : s.pageWrite q page off w = (s.acceptWrite q page k r w).drain := by
  simp only [State.accepts, hk, hr, Bool.and_eq_true, Bool.not_eq_true', Option.isNone_iff_eq_none] at h
  obtain ⟨⟨⟨⟨h1, h2⟩, h3⟩, h4⟩, ⟨h5, h7⟩, h6⟩ := h
  have e1 : regAddr page off / 4096 = page := by unfold regAddr; omega
  have e2 : regAddr page off % 4096 = off := by unfold regAddr; omega
  have e3 : regAddr page off % 4 = 0 := by unfold regAddr; omega
  simp [State.pageWrite, State.regWrite, State.busWrite, h1, h2, h3, h4, h5, h6, h7, hk, hr, e1, e2, e3]

end Sys2Proof.Machine
end

