-- ==== Sys2Proof/Laws/Commands.lean ====
section
/-! SUPPORT. Laws of the management commands: how the packet of a command is read back. -/

namespace Sys2Proof.Machine

open Sys2Proof

theorem packet_head (op : Nat) (tag : Byte) (args : List Word) (ho : op < 256) (hl : args.length < 255) :
    ((packet op tag args).headD 0).toNat = op + (args.length + 1) * 2 ^ 8 + tag.toNat * 2 ^ 24 := by
  have := tag.isLt
  simp only [packet, List.headD_cons, BitVec.toNat_ofNat]
  omega

/-- The fields of a command packet's first word. -/
theorem packet_fields (op : Nat) (tag : Byte) (args : List Word) (ho : op < 256) (hl : args.length < 255) :
    fld ((packet op tag args).headD 0) 8 8 = args.length + 1 ∧ fld ((packet op tag args).headD 0) 16 8 = 0 ∧
    BitVec.ofNat 8 (fld ((packet op tag args).headD 0) 24 8) = tag ∧
    ((packet op tag args).headD 0).setWidth 8 = BitVec.ofNat 8 op := by
  have h := packet_head op tag args ho hl
  have := tag.isLt
  unfold fld
  refine ⟨by rw [h]; omega, by rw [h]; omega, ?_, ?_⟩
  · apply BitVec.eq_of_toNat_eq
    simp only [BitVec.toNat_ofNat]
    rw [h]; omega
  · apply BitVec.eq_of_toNat_eq
    simp only [BitVec.toNat_setWidth, BitVec.toNat_ofNat]
    rw [h]; omega

theorem command_run (s : State) (q : Requester) (sec : Bool) (p : List Word) (tag op : Byte) (r : CmdRow)
    (f3 : BitVec.ofNat 8 (fld (p.headD 0) 24 8) = tag) (f4 : (p.headD 0).setWidth 8 = op) (hr : cmdRow op.toNat = some r)
    (hlen : r.lenOk p = true) (hq : r.right.any (fun n => !s.hasRight q n) = false)
    (hs : (s.safe && !decide (op.toNat ∈ [0x01, 0x03, 0x52])) = false) :
    s.command q sec p = s.runCmd ⟨q, op, tag, sec⟩ (p.drop 1) := by
  unfold State.command
  subst f3 f4
  dsimp only
  rw [hr]
  dsimp only
  rw [hlen, hq, hs]
  rfl

/-- How a command packet runs: its row, the operands, the right, the safe state, then the command itself. -/
theorem command_packet (s : State) (q : Requester) (sec : Bool) (op tag : Byte) (args : List Word) (r : CmdRow)
    (hl : args.length < 255) (hr : cmdRow op.toNat = some r) (h1 : r.lo ≤ args.length + 1) (h2 : args.length + 1 ≤ r.hi)
    (hm : (args.zip r.masks).any (fun e => outside e.1 e.2) = false) (hq : r.right.any (fun n => !s.hasRight q n) = false)
    (hs : (s.safe && !decide (op.toNat ∈ [0x01, 0x03, 0x52])) = false) :
    s.command q sec (packet op.toNat tag args) = s.runCmd ⟨q, op, tag, sec⟩ args := by
  obtain ⟨f1, f2, f3, f4⟩ := packet_fields op.toNat tag args op.isLt hl
  have hd : (packet op.toNat tag args).drop 1 = args := rfl
  have hw : (packet op.toNat tag args).length = args.length + 1 := rfl
  have hlen : r.lenOk (packet op.toNat tag args) = true := by
    simp only [CmdRow.lenOk, f1, f2, hw, hd, hm]
    simp [h1, h2]
  have e : BitVec.ofNat 8 op.toNat = op := BitVec.eq_of_toNat_eq (by rw [BitVec.toNat_ofNat]; exact Nat.mod_eq_of_lt op.isLt)
  exact command_run s q sec _ tag op r f3 (f4.trans e) hr hlen hq hs

end Sys2Proof.Machine
end

