-- ==== Sys2Proof/Laws/Table.lean ====
section
/-! SUPPORT. Laws of the sparse tables: a read after a write, and that every table operation keeps the keys strictly
rising and lists no entry equal to what an unlisted key reads as. -/

namespace Sys2Proof

variable {α : Type}

theorem Tab.find_put_same (t : Tab α) (k : Nat) (v : α) : (t.put k v).find k = some v := by
  induction t with
  | nil => simp [Tab.put, Tab.find]
  | cons e t ih =>
    obtain ⟨j, w⟩ := e
    simp only [Tab.put]
    split
    · simp [Tab.find]
    · split
      · simp [Tab.find]
      · simp [Tab.find, ih, *]

theorem Tab.find_put_other (t : Tab α) {k i : Nat} (v : α) (h : i ≠ k) : (t.put k v).find i = t.find i := by
  induction t with
  | nil => simp [Tab.put, Tab.find, h]
  | cons e t ih =>
    obtain ⟨j, w⟩ := e
    simp only [Tab.put]
    split
    · simp [Tab.find, h]
    · split
      · subst_vars; simp [Tab.find, h]
      · simp [Tab.find, ih]

theorem Tab.find_del_same (t : Tab α) (k : Nat) : (t.del k).find k = none := by
  induction t with
  | nil => rfl
  | cons e t ih =>
    obtain ⟨j, w⟩ := e
    simp only [Tab.del]
    split
    · exact ih
    · simp [Tab.find, ih, *]

theorem Tab.find_del_other (t : Tab α) {k i : Nat} (h : i ≠ k) : (t.del k).find i = t.find i := by
  induction t with
  | nil => rfl
  | cons e t ih =>
    obtain ⟨j, w⟩ := e
    simp only [Tab.del]
    split
    · subst_vars; simp [Tab.find, ih, h]
    · simp [Tab.find, ih]

/-- A read after a write to the same key gives the value written. -/
@[simp] theorem Tab.get_set_same [DecidableEq α] (t : Tab α) (d : α) (k : Nat) (v : α) : (t.set d k v).get d k = v := by
  unfold Tab.set Tab.get
  split
  · simp [Tab.find_del_same, *]
  · simp [Tab.find_put_same]

/-- A write leaves what every other key reads as. -/
theorem Tab.get_set_other [DecidableEq α] (t : Tab α) (d : α) {k i : Nat} (v : α) (h : i ≠ k) :
    (t.set d k v).get d i = t.get d i := by
  unfold Tab.set Tab.get
  split
  · rw [Tab.find_del_other t h]
  · rw [Tab.find_put_other t v h]

theorem Tab.all_put {p : Nat × α → Bool} {t : Tab α} {k : Nat} {v : α} (h : t.all p = true) (hv : p (k, v) = true) :
    (t.put k v).all p = true := by
  induction t with
  | nil => simp [Tab.put, hv]
  | cons e t ih =>
    obtain ⟨j, w⟩ := e
    simp only [List.all_cons, Bool.and_eq_true] at h
    simp only [Tab.put]
    split
    · simp [hv, h.1, h.2]
    · split
      · simp [hv, h.2]
      · simp [h.1, ih h.2]

theorem Tab.all_del {p : Nat × α → Bool} {t : Tab α} (k : Nat) (h : t.all p = true) : (t.del k).all p = true := by
  induction t with
  | nil => rfl
  | cons e t ih =>
    obtain ⟨j, w⟩ := e
    simp only [List.all_cons, Bool.and_eq_true] at h
    simp only [Tab.del]
    split
    · exact ih h.2
    · simp [h.1, ih h.2]

/-- Listing a value keeps the keys strictly rising. -/
@[simp] theorem Tab.sorted_put {t : Tab α} {k : Nat} {v : α} (h : t.sorted = true) : (t.put k v).sorted = true := by
  induction t with
  | nil => simp [Tab.put, Tab.sorted]
  | cons e t ih =>
    obtain ⟨j, w⟩ := e
    simp only [Tab.sorted, Bool.and_eq_true] at h
    simp only [Tab.put]
    split
    · rename_i hk
      simp only [Tab.sorted, List.all_cons, Bool.and_eq_true, decide_eq_true_eq]
      refine ⟨⟨hk, ?_⟩, h⟩
      have h1 := h.1
      rw [List.all_eq_true] at h1 ⊢
      intro x hx
      have := h1 x hx
      simp only [decide_eq_true_eq] at this ⊢
      omega
    · split
      · subst_vars; simp [Tab.sorted, h.1, h.2]
      · simp only [Tab.sorted, Bool.and_eq_true]
        refine ⟨Tab.all_put h.1 ?_, ih h.2⟩
        simp only [decide_eq_true_eq]
        omega

/-- Removing a key keeps the keys strictly rising. -/
@[simp] theorem Tab.sorted_del {t : Tab α} {k : Nat} (h : t.sorted = true) : (t.del k).sorted = true := by
  induction t with
  | nil => rfl
  | cons e t ih =>
    obtain ⟨j, w⟩ := e
    simp only [Tab.sorted, Bool.and_eq_true] at h
    simp only [Tab.del]
    split
    · exact ih h.2
    · simp [Tab.sorted, Tab.all_del k h.1, ih h.2]

/-- Storing keeps the keys strictly rising. -/
@[simp] theorem Tab.sorted_set [DecidableEq α] {t : Tab α} {d : α} {k : Nat} {v : α} (h : t.sorted = true) :
    (t.set d k v).sorted = true := by
  unfold Tab.set
  split
  · exact Tab.sorted_del h
  · exact Tab.sorted_put h

/-- Storing keeps the canonical form. -/
theorem Tab.wf_set [DecidableEq α] {t : Tab α} {d : α} {k : Nat} {v : α} (h : t.wf (fun _ => d) = true) :
    (t.set d k v).wf (fun _ => d) = true := by
  unfold Tab.wf at h ⊢
  simp only [Bool.and_eq_true] at h ⊢
  refine ⟨Tab.sorted_set h.1, ?_⟩
  unfold Tab.set
  split
  · exact Tab.all_del k h.2
  · exact Tab.all_put h.2 (by simp [*])

/-- Filtering keeps the keys strictly rising. -/
@[simp] theorem Tab.sorted_filter {t : Tab α} {p : Nat × α → Bool} (h : t.sorted = true) : Tab.sorted (t.filter p) = true := by
  induction t with
  | nil => rfl
  | cons e t ih =>
    obtain ⟨j, w⟩ := e
    simp only [Tab.sorted, Bool.and_eq_true] at h
    rw [List.filter_cons]
    split
    · simp only [Tab.sorted, Bool.and_eq_true]
      refine ⟨?_, ih h.2⟩
      rw [List.all_eq_true] at *
      exact fun x hx => h.1 x (List.mem_filter.mp hx).1
    · exact ih h.2

end Sys2Proof
end

