-- ==== Sys2Proof/Laws/Keeps.lean ====
section
/-! SUPPORT. What every part of a command keeps: the waiting commands, what was driven outward, the clocks, and the invariant of
Safety.lean. One lemma per way a part changes the state. -/

namespace Sys2Proof
open Sys2Proof.Machine

theorem Tab.all_set {α : Type} [DecidableEq α] {p : Nat × α → Bool} {t : Tab α} {d : α} {k : Nat} {v : α} (h : t.all p = true) (hv : p (k, v) = true) :
    (t.set d k v).all p = true := by
  unfold Tab.set
  split
  · exact Tab.all_del k h
  · exact Tab.all_put h hv

/-- Storing a register word keeps the canonical form. -/
theorem Tab.wf_setReg {t : Tab Word} {k : Nat} {v : Word} (h : t.wf resetWord = true) : (t.set (resetWord k) k v).wf resetWord = true := by
  unfold Tab.wf at h ⊢
  simp only [Bool.and_eq_true] at h ⊢
  refine ⟨Tab.sorted_set h.1, ?_⟩
  unfold Tab.set
  split
  · exact Tab.all_del k h.2
  · exact Tab.all_put h.2 (by simp [*])

/-- Filtering keeps what holds of every entry. -/
theorem Tab.all_filter {α : Type} {p q : Nat × α → Bool} {t : Tab α} (h : t.all p = true) : List.all (t.filter q) p = true := by
  rw [List.all_eq_true] at *
  exact fun x hx => h x (List.mem_filter.mp hx).1

theorem Tab.wf_filter {α : Type} [DecidableEq α] {q : Nat × α → Bool} {t : Tab α} {d : Nat → α} (h : t.wf d = true) :
    Tab.wf (t.filter q) d = true := by
  unfold Tab.wf at h ⊢
  simp only [Bool.and_eq_true] at h ⊢
  exact ⟨Tab.sorted_filter h.1, Tab.all_filter h.2⟩

theorem Tab.wf_del {α : Type} [DecidableEq α] {t : Tab α} {d : Nat → α} {k : Nat} (h : t.wf d = true) : Tab.wf (t.del k) d = true := by
  unfold Tab.wf at h ⊢
  simp only [Bool.and_eq_true] at h ⊢
  exact ⟨Tab.sorted_del h.1, Tab.all_del k h.2⟩

end Sys2Proof
namespace Sys2Proof.Machine
open Sys2Proof
theorem Tab.wf_fold {t : Tab Word} {l : List (Nat × Word)} (h : t.wf resetWord = true) :
    Tab.wf (l.foldl (fun (t : Tab Word) (e : Nat × Word) => t.set (resetWord e.1) e.1 e.2) t) resetWord = true := by
  induction l generalizing t with
  | nil => exact h
  | cons e l ih => exact ih (Tab.wf_setReg h)

/-- What every part of a command keeps. -/
structure Keeps (s t : State) : Prop where
  pending : t.pending = s.pending
  out : s.out <+: t.out
  time : t.time = s.time
  opMs : t.opMs = s.opMs
  opNs : t.opNs = s.opNs
  inv : s.Inv → t.Inv

variable {z s : State}

theorem Keeps.refl (s : State) : Keeps s s := ⟨rfl, List.prefix_rfl, rfl, rfl, rfl, id⟩

theorem Keeps.rest {fr ho fa pa mg fl pn th cr dt mc mt fx sv} (h : Keeps z s) :
    Keeps z { s with free := fr, hold := ho, freezeAll := fa, pages := pa, mgt := mg, flt := fl, pan := pn, thm := th, crs := cr, dtc := dt, mch := mc, mte := mt, fxb := fx, sve := sv } :=
  ⟨h.pending, h.out, h.time, h.opMs, h.opNs, h.inv⟩

theorem Keeps.rest_iff {fr ho fa pa mg fl pn th cr dt mc mt fx sv} : Keeps z { s with free := fr, hold := ho, freezeAll := fa, pages := pa, mgt := mg, flt := fl, pan := pn, thm := th, crs := cr, dtc := dt, mch := mc, mte := mt, fxb := fx, sve := sv } ↔ Keeps z s :=
  ⟨fun h => ⟨h.pending, h.out, h.time, h.opMs, h.opNs, h.inv⟩, Keeps.rest⟩

theorem Keeps.restPwr {fr ho fa pa mg fl pn pw th cr dt mc mt fx sv} (h : Keeps z s) (h1 : pw.st = s.pwr.st ∨ pw.st ≤ 9)
    (h2 : pw.fphase = s.pwr.fphase ∨ pw.fphase ≤ 4) :
    Keeps z { s with free := fr, hold := ho, freezeAll := fa, pages := pa, mgt := mg, flt := fl, pan := pn, pwr := pw, thm := th, crs := cr, dtc := dt, mch := mc, mte := mt, fxb := fx, sve := sv } := by
  refine ⟨h.pending, h.out, h.time, h.opMs, h.opNs, fun i => ?_⟩
  obtain ⟨i1, i2, i3⟩ := h.inv i
  refine ⟨i1, i2, ?_⟩
  simp only [State.modesOk, Bool.and_eq_true, decide_eq_true_eq] at i3 ⊢
  refine ⟨⟨?_, ?_⟩, i3.2⟩
  · rcases h1 with h1 | h1
    · exact h1 ▸ i3.1.1
    · exact h1
  · rcases h2 with h2 | h2
    · exact h2 ▸ i3.1.2
    · exact h2

/-- The state of a power record put in place keeps. -/
def KeepsPwr (z s : State) (p : Pwr) : Prop := Keeps z { s with pwr := p }

theorem Keeps.pwr_iff {fr ho fa pa mg fl pn pw th cr dt mc mt fx sv} : Keeps z { s with free := fr, hold := ho, freezeAll := fa, pages := pa, mgt := mg, flt := fl, pan := pn, pwr := pw, thm := th, crs := cr, dtc := dt, mch := mc, mte := mt, fxb := fx, sve := sv } ↔ KeepsPwr z s pw :=
  ⟨fun h => ⟨h.pending, h.out, h.time, h.opMs, h.opNs, h.inv⟩, fun h => ⟨h.pending, h.out, h.time, h.opMs, h.opNs, h.inv⟩⟩

theorem KeepsPwr.intro {pw} (h1 : pw.st = s.pwr.st ∨ pw.st ≤ 9) (h2 : pw.fphase = s.pwr.fphase ∨ pw.fphase ≤ 4) (h : Keeps z s) : KeepsPwr z s pw :=
  Keeps.restPwr h h1 h2

/-- Appending to the outputs keeps. -/
def KeepsOut (z s : State) (o : List Output) : Prop := Keeps z { s with out := s.out ++ o }

theorem Keeps.out_iff {fr ho fa pa mg fl pn th cr dt mc mt fx sv o} : Keeps z { s with out := s.out ++ o, free := fr, hold := ho, freezeAll := fa, pages := pa, mgt := mg, flt := fl, pan := pn, thm := th, crs := cr, dtc := dt, mch := mc, mte := mt, fxb := fx, sve := sv } ↔ KeepsOut z s o :=
  ⟨fun h => ⟨h.pending, h.out, h.time, h.opMs, h.opNs, h.inv⟩, fun h => ⟨h.pending, h.out, h.time, h.opMs, h.opNs, h.inv⟩⟩

theorem KeepsOut.intro {o} (h : Keeps z s) : KeepsOut z s o :=
  ⟨h.pending, h.out.trans (List.prefix_append _ _), h.time, h.opMs, h.opNs, h.inv⟩

theorem Keeps.emit {o : List Output} {mg fl} (h : Keeps z s) : Keeps z { s with mgt := mg, flt := fl, out := s.out ++ o } :=
  ⟨h.pending, h.out.trans (List.prefix_append _ _), h.time, h.opMs, h.opNs, h.inv⟩

theorem Keeps.put {fr ho fa pa mg fl pn th cr dt mc mt fx sv rg sh pe cy sl po hd} (h : Keeps z s)
    (h1 : s.regs.wf resetWord → rg.wf resetWord) (h2 : s.shadow.sorted → sh.sorted)
    (h3 : s.perf.wf (fun _ => 0) → pe.wf (fun _ => 0)) (h3' : s.perf.all (fun e => decide (e.2 < 2 ^ 48)) → pe.all (fun e => decide (e.2 < 2 ^ 48)))
    (h4 : s.cyc.wf (fun _ => 0) → cy.wf (fun _ => 0)) (h4' : s.cyc.all (fun e => decide (e.2 < 2 ^ 64)) → cy.all (fun e => decide (e.2 < 2 ^ 64)))
    (h5 : s.slices.wf (fun _ => {}) → sl.wf (fun _ => {}))
    (h6 : s.ports.wf (fun _ => {}) → po.wf (fun _ => {})) (h7 : s.heads.wf (fun _ => {}) → hd.wf (fun _ => {})) :
    Keeps z { s with regs := rg, shadow := sh, perf := pe, cyc := cy, slices := sl, ports := po, heads := hd, free := fr, hold := ho, freezeAll := fa, pages := pa, mgt := mg, flt := fl, pan := pn, thm := th, crs := cr, dtc := dt, mch := mc, mte := mt, fxb := fx, sve := sv } := by
  refine ⟨h.pending, h.out, h.time, h.opMs, h.opNs, fun i => ?_⟩
  obtain ⟨i1, i2, i3⟩ := h.inv i
  simp only [State.tablesOk, Bool.and_eq_true] at i1
  simp only [State.countsOk, Bool.and_eq_true] at i2
  obtain ⟨⟨⟨⟨⟨⟨⟨j1, j2⟩, j3⟩, j4⟩, j5⟩, j6⟩, j7⟩, j8⟩ := i1
  refine ⟨?_, ?_, i3⟩
  · simp only [State.tablesOk, Bool.and_eq_true]
    exact ⟨⟨⟨⟨⟨⟨⟨h1 j1, h2 j2⟩, h3 j3⟩, h4 j4⟩, h5 j5⟩, j6⟩, h6 j7⟩, h7 j8⟩
  · simp only [State.countsOk, Bool.and_eq_true]
    exact ⟨⟨h3' i2.1.1, h4' i2.1.2⟩, i2.2⟩

theorem Keeps.setCage {c x} (h : Keeps z s) (hx : s.Inv → x.legal = true) : Keeps z (s.setCage c x) := by
  refine ⟨h.pending, h.out, h.time, h.opMs, h.opNs, fun i => ?_⟩
  obtain ⟨i1, i2, i3⟩ := h.inv i
  simp only [State.tablesOk, Bool.and_eq_true] at i1
  obtain ⟨⟨⟨⟨⟨⟨⟨j1, j2⟩, j3⟩, j4⟩, j5⟩, j6⟩, j7⟩, j8⟩ := i1
  refine ⟨?_, i2, ?_⟩
  · simp only [State.tablesOk, Bool.and_eq_true]
    exact ⟨⟨⟨⟨⟨⟨⟨j1, j2⟩, j3⟩, j4⟩, j5⟩, Tab.wf_set j6⟩, j7⟩, j8⟩
  · simp only [State.modesOk, Bool.and_eq_true] at i3 ⊢
    refine ⟨i3.1, ?_⟩
    unfold State.setCage Tab.set
    dsimp only
    split
    · exact Tab.all_del _ i3.2
    · exact Tab.all_put i3.2 (hx (h.inv i))

theorem State.Inv.cage (i : s.Inv) (c : Nat) : (s.cage c).legal = true := by
  obtain ⟨_, _, i3⟩ := i
  simp only [State.modesOk, Bool.and_eq_true] at i3
  unfold State.cage Tab.get
  generalize s.cages = t at i3
  have h := i3.2
  clear i3
  induction t with
  | nil => rfl
  | cons e t ih =>
    obtain ⟨j, w⟩ := e
    simp only [List.all_cons, Bool.and_eq_true] at h
    simp only [Tab.find]
    split
    · exact h.1
    · exact ih h.2

theorem Cage.legal_step {x : Cage} {p : Nat} (h : x.legal = true) (hx : (x.phase == 3) = false) (hp : p ≤ 3) :
    Cage.legal { x with phase := p } = true := by
  simp only [Cage.legal, hx, Bool.or_false, Bool.and_eq_true, decide_eq_true_eq, Bool.not_eq_true'] at h ⊢
  exact ⟨hp, by simp [h.2]⟩

theorem Keeps.ite {c : Prop} [Decidable c] {x y : State} (hx : Keeps z x) (hy : Keeps z y) : Keeps z (if c then x else y) := by
  split <;> assumption

theorem Keeps.id (h : Keeps z s) : Keeps z (id s) := h
theorem State.each_same {α β : Type} {l : List α} {f : State → α → State} (p : State → β) (hf : ∀ t x, p (f t x) = p t) : p (s.each l f) = p s := by
  unfold State.each
  induction l generalizing s with
  | nil => rfl
  | cons x l ih => exact ih.trans (hf s x)

theorem Keeps.fold2 {α β : Type} {l : List α} {f : β × State → α → β × State} {p : β × State} (h : Keeps z p.2)
    (hf : ∀ p x, Keeps z p.2 → Keeps z (f p x).2) : Keeps z (l.foldl f p).2 := by
  induction l generalizing p with
  | nil => exact h
  | cons x l ih => exact ih (hf p x h)
theorem Keeps.snd {α : Type} {p : α × State} {x : α} {t : State} (h : Keeps z p.2) (e : p = (x, t)) : Keeps z t := by rw [e] at h; exact h
theorem Keeps.some {p : Option State} {t : State} (h : ∀ t, p = some t → Keeps z t) (e : p = .some t) : Keeps z t := h t e

theorem Keeps.each {α : Type} {l : List α} {f : State → α → State} (h : Keeps z s) (hf : ∀ t x, Keeps z t → Keeps z (f t x)) :
    Keeps z (s.each l f) := by
  unfold State.each
  induction l generalizing s with
  | nil => exact h
  | cons x l ih => exact ih (hf s x h)
end Sys2Proof.Machine
end

