-- ==== Sys2Proof/Laws/Parts.lean ====
section
/-! SUPPORT. Every function over the state keeps what Laws/Keeps.lean says: a lemma each, in the order the functions call each other. The
exceptions are AON reset, the taking of the counters at recall and the AON cycle, which write the clocks (Laws/Effects.lean). -/

set_option linter.unusedSimpArgs false

namespace Sys2Proof.Machine.State

open Sys2Proof

variable {z s : State}

theorem setRwr_keeps {x1 x2} (h : Keeps z s) : Keeps z (State.setRwr s x1 x2) := by
  unfold State.setRwr
  with_reducible repeat' first | assumption | simp only [↓Keeps.rest_iff]

theorem setReg_keeps {x1 x2 x3} (h : Keeps z s) : Keeps z (State.setReg s x1 x2 x3) := h.put Tab.wf_setReg id id id id id id id id

theorem setRegFld_keeps {x1 x2 x3 x4 x5} (h : Keeps z s) : Keeps z (State.setRegFld s x1 x2 x3 x4 x5) := by
  unfold State.setRegFld
  with_reducible repeat' first | assumption | apply setReg_keeps

theorem countUp_keeps {x1 x2 x3 x4 x5} (h : Keeps z s) : Keeps z (State.countUp s x1 x2 x3 x4 x5) := by
  unfold State.countUp
  with_reducible repeat' first | assumption | apply setRegFld_keeps

theorem latch_keeps {x1 x2 x3 x4} (h : Keeps z s) : Keeps z (State.latch s x1 x2 x3 x4) := by
  unfold State.latch
  with_reducible repeat' first
    | assumption | apply setReg_keeps | apply countUp_keeps | apply Keeps.ite | simp only [↓Keeps.rest_iff]

theorem raiseAt_keeps {x1 x2 x3} (h : Keeps z s) : Keeps z (State.raiseAt s x1 x2 x3) := by
  unfold State.raiseAt
  with_reducible repeat' first | assumption | apply latch_keeps | split

theorem raise_keeps {x1 x2} (h : Keeps z s) : Keeps z (State.raise s x1 x2) := by
  unfold State.raise
  with_reducible repeat' first | assumption | apply raiseAt_keeps

theorem each_keeps {x0 : Type} {x2 : List x0} {x3 : State → x0 → State} (g3 : ∀ y0 y1, Keeps z y0 → Keeps z (x3 y0 y1)) (h : Keeps z s) : Keeps z (State.each s x2 x3) := h.each g3

theorem mapTouch_keeps {x1 x2} (h : Keeps z s) : Keeps z (State.mapTouch s x1 x2) := by
  unfold State.mapTouch
  with_reducible repeat' first | assumption | apply Keeps.ite | simp only [↓Keeps.rest_iff]

theorem setEntry_keeps {x1 x2} (h : Keeps z s) : Keeps z (State.setEntry s x1 x2) := by
  unfold State.setEntry
  with_reducible repeat' first | assumption | apply mapTouch_keeps | simp only [↓Keeps.rest_iff]

theorem fixRet_keeps {x1} (h : Keeps z s) : Keeps z (State.fixRet s x1) := by
  unfold State.fixRet
  with_reducible repeat' first | assumption | apply setEntry_keeps | apply Keeps.ite

theorem keepIndex_keeps {x1} (h : Keeps z s) : Keeps z (State.keepIndex s x1) := by
  unfold State.keepIndex
  with_reducible repeat' first | assumption | apply each_keeps | apply fixRet_keeps | simp only [↓Keeps.rest_iff]

theorem releaseMark_keeps {x1 x2} (h : Keeps z s) : Keeps z (State.releaseMark s x1 x2) := by
  unfold State.releaseMark
  with_reducible repeat' first
    | assumption | apply setRwr_keeps | apply keepIndex_keeps | simp only [↓Keeps.rest_iff] | split

theorem journal_keeps {x1} (h : Keeps z s) : Keeps z (State.journal s x1) := by
  unfold State.journal
  with_reducible repeat' first | assumption | simp only [↓Keeps.rest_iff]

theorem expireOldest_keeps {x1} (h : Keeps z s) : Keeps z (State.expireOldest s x1) := by
  unfold State.expireOldest
  with_reducible repeat' first
    | assumption | apply releaseMark_keeps | apply journal_keeps | apply raise_keeps | split

theorem expireLoop_keeps {x0 x2} (h : Keeps z s) : Keeps z (State.expireLoop x0 s x2) := by
  induction x0 generalizing s x2 with
  | zero => exact h
  | succ n ih =>
    unfold State.expireLoop
    with_reducible repeat' first | assumption | apply ih | apply expireOldest_keeps | apply Keeps.ite

theorem rwPolicy_keeps {x1} (h : Keeps z s) : Keeps z (State.rwPolicy s x1) := by
  unfold State.rwPolicy
  with_reducible repeat' first
    | assumption | apply setRwr_keeps | apply raise_keeps | apply expireLoop_keeps | apply Keeps.ite

theorem setPort_keeps {x1 x2} (h : Keeps z s) : Keeps z (State.setPort s x1 x2) := h.put id id id id id id id Tab.wf_set id

theorem emit_keeps {x1} (h : Keeps z s) : Keeps z (State.emit s x1) := h.emit

theorem linkWake_keeps {x1} (h : Keeps z s) : Keeps z (State.linkWake s x1) := by
  unfold State.linkWake
  with_reducible repeat' first | assumption | apply setPort_keeps | apply emit_keeps

theorem leave_keeps {x1 x2 x3} (h : Keeps z s) : Keeps z (State.leave s x1 x2 x3) := by
  unfold State.leave
  with_reducible repeat' first
    | assumption | apply setPort_keeps | apply linkWake_keeps | apply emit_keeps | apply Keeps.ite

theorem sendOn_keeps {x1 x2} (h : Keeps z s) : Keeps z (State.sendOn s x1 x2) := by
  unfold State.sendOn
  with_reducible repeat' first | assumption | apply leave_keeps | apply Keeps.ite | simp only [↓Keeps.rest_iff]

theorem routeOut_keeps {x1 x2} (h : Keeps z s) : Keeps z (State.routeOut s x1 x2) := by
  unfold State.routeOut
  with_reducible repeat' first
    | assumption | apply leave_keeps | apply raise_keeps | apply countUp_keeps | apply sendOn_keeps
    | simp only [↓Keeps.rest_iff] | split

theorem sendPlain_keeps {x1 x2 x3 x4 x5 x6} (h : Keeps z s) : Keeps z (State.sendPlain s x1 x2 x3 x4 x5 x6) := by
  unfold State.sendPlain
  with_reducible repeat' first | assumption | apply routeOut_keeps | apply Keeps.ite | simp only [↓Keeps.rest_iff]

theorem askModule_keeps {x1 x2} (h : Keeps z s) : Keeps z (State.askModule s x1 x2) := by
  unfold State.askModule
  with_reducible repeat' first | assumption | apply sendPlain_keeps

theorem queueCommit_keeps {x1 x2} (h : Keeps z s) : Keeps z (State.queueCommit s x1 x2) := by
  unfold State.queueCommit
  with_reducible repeat' first | assumption | simp only [↓Keeps.rest_iff]

theorem setCust_keeps {x1 x2} (h : Keeps z s) : Keeps z (State.setCust s x1 x2) := by
  unfold State.setCust
  with_reducible repeat' first | assumption | simp only [↓Keeps.rest_iff]

theorem undoCust_keeps {x1 x2} (h : Keeps z s) : Keeps z (State.undoCust s x1 x2) := by
  unfold State.undoCust
  with_reducible repeat' first | assumption | apply queueCommit_keeps | apply setCust_keeps

theorem askOwner_keeps {x1 x2} (h : Keeps z s) : Keeps z (State.askOwner s x1 x2) := by
  unfold State.askOwner
  with_reducible repeat' first
    | assumption | apply askModule_keeps | apply undoCust_keeps | apply setCust_keeps
    | simp only [↓Keeps.rest_iff] | split

theorem setSeg_keeps {x1 x2} (h : Keeps z s) : Keeps z (State.setSeg s x1 x2) := by
  unfold State.setSeg
  with_reducible repeat' first | assumption | simp only [↓Keeps.rest_iff]

theorem changeSeg_keeps {x1 x2} (h : Keeps z s) : Keeps z (State.changeSeg s x1 x2) := by
  unfold State.changeSeg
  with_reducible repeat' first
    | assumption | apply journal_keeps | apply setSeg_keeps | apply raise_keeps | apply Keeps.ite
    | simp only [↓Keeps.rest_iff]

theorem answerDurable_keeps {x1 x2 x3 x4} (h : Keeps z s) : Keeps z (State.answerDurable s x1 x2 x3 x4) := by
  unfold State.answerDurable
  with_reducible repeat' first | assumption | simp only [↓Keeps.rest_iff]

theorem refusePrep_keeps {x1 x2 x3} (h : Keeps z s) : Keeps z (State.refusePrep s x1 x2 x3) := by
  unfold State.refusePrep
  with_reducible repeat' first | assumption | apply sendPlain_keeps

theorem prepareOwner_keeps {x1 x2} (h : Keeps z s) : Keeps z (State.prepareOwner s x1 x2) := by
  unfold State.prepareOwner
  with_reducible repeat' first
    | assumption | apply changeSeg_keeps | apply answerDurable_keeps | apply refusePrep_keeps
    | simp only [↓Keeps.rest_iff] | split

theorem setOp_keeps {x1 x2} (h : Keeps z s) : Keeps z (State.setOp s x1 x2) := by
  unfold State.setOp
  with_reducible repeat' first | assumption | simp only [↓Keeps.rest_iff]

theorem prepareHolder_keeps {x1 x2} (h : Keeps z s) : Keeps z (State.prepareHolder s x1 x2) := by
  unfold State.prepareHolder
  with_reducible repeat' first
    | assumption | apply changeSeg_keeps | apply answerDurable_keeps | apply setOp_keeps
    | apply refusePrep_keeps | simp only [↓Keeps.rest_iff] | split

theorem setPair_keeps {x1 x2} (h : Keeps z s) : Keeps z (State.setPair s x1 x2) := by
  unfold State.setPair
  with_reducible repeat' first | assumption | simp only [↓Keeps.rest_iff]

theorem sendRsp_keeps {x1 x2 x3 x4 x5 x6} (h : Keeps z s) : Keeps z (State.sendRsp s x1 x2 x3 x4 x5 x6) := by
  unfold State.sendRsp
  with_reducible repeat' first | assumption | apply routeOut_keeps | apply setPair_keeps

theorem copyAck_keeps {x1 x2 x3 x4} (h : Keeps z s) : Keeps z (State.copyAck s x1 x2 x3 x4) := by
  unfold State.copyAck
  with_reducible repeat' first | assumption | apply sendPlain_keeps | simp only [↓Keeps.rest_iff] | split

theorem setHead_keeps {x1 x2} (h : Keeps z s) : Keeps z (State.setHead s x1 x2) := h.put id id id id id id id id Tab.wf_set

theorem gpfCheck_keeps {x1} (h : Keeps z s) : Keeps z (State.gpfCheck s x1) := by
  unfold State.gpfCheck
  with_reducible repeat' first
    | assumption | apply setHead_keeps | apply emit_keeps | simp only [↓Keeps.rest_iff] | split

theorem headDone_keeps {x1 x2 x3 x4} (h : Keeps z s) : Keeps z (State.headDone s x1 x2 x3 x4) := by
  unfold State.headDone
  with_reducible repeat' first
    | assumption | apply gpfCheck_keeps | apply setHead_keeps | simp only [↓Keeps.rest_iff] | split

theorem closeMarks_keeps {x1} (h : Keeps z s) : Keeps z (State.closeMarks s x1) := by
  unfold State.closeMarks
  with_reducible repeat' first
    | assumption | intro x | apply sendRsp_keeps | apply each_keeps | simp only [↓Keeps.rest_iff]

theorem peerDone_keeps {x1 x2 x3} (h : Keeps z s) : Keeps z (State.peerDone s x1 x2 x3) := by
  unfold State.peerDone
  with_reducible repeat' first | assumption | apply closeMarks_keeps | simp only [↓Keeps.rest_iff]

theorem answerBad_keeps {x1 x2} (h : Keeps z s) : Keeps z (State.answerBad s x1 x2) := by
  unfold State.answerBad
  with_reducible repeat' first
    | assumption | apply sendRsp_keeps | apply copyAck_keeps | apply headDone_keeps | apply peerDone_keeps
    | apply emit_keeps | split

theorem dedupNote_keeps {x1 x2 x3 x4} (h : Keeps z s) : Keeps z (State.dedupNote s x1 x2 x3 x4) := by
  unfold State.dedupNote
  with_reducible repeat' first | assumption | simp only [↓Keeps.rest_iff]

theorem answerAtomic_keeps {x1 x2 x3} (h : Keeps z s) : Keeps z (State.answerAtomic s x1 x2 x3) := by
  unfold State.answerAtomic
  with_reducible repeat' first
    | assumption | apply sendRsp_keeps | apply dedupNote_keeps | apply headDone_keeps | apply emit_keeps
    | split

theorem discardEntry_keeps {x1} (h : Keeps z s) : Keeps z (State.discardEntry s x1) := by
  unfold State.discardEntry
  with_reducible repeat' first
    | assumption | intro x | apply answerBad_keeps | apply sendRsp_keeps | apply each_keeps
    | apply answerAtomic_keeps | apply peerDone_keeps | split

theorem answerPoint_keeps {x1 x2 x3} (h : Keeps z s) : Keeps z (State.answerPoint s x1 x2 x3) := by
  unfold State.answerPoint
  with_reducible repeat' first
    | assumption | apply sendRsp_keeps | apply dedupNote_keeps | apply copyAck_keeps
    | apply headDone_keeps | apply peerDone_keeps | apply emit_keeps | apply Keeps.ite | split

theorem ackEarly_keeps {x1} (h : Keeps z s) : Keeps z (State.ackEarly s x1) := by
  unfold State.ackEarly
  with_reducible repeat' first
    | assumption | intro x | apply each_keeps | apply answerPoint_keeps | apply emit_keeps | split

theorem perfAdd_keeps {x1 x2 x3 x4} (h : Keeps z s) : Keeps z (State.perfAdd s x1 x2 x3 x4) := by
  induction x2 generalizing s x3 x4 with
  | zero => exact h
  | succ n ih =>
    unfold State.perfAdd
    have h1 : Keeps z { s with perf := s.perf.set 0 (8 * x1 + x3) ((s.perf.get 0 (8 * x1 + x3) + x4) % 2 ^ 48) } :=
      h.put id id Tab.wf_set (fun i => Tab.all_set i (by simp; omega)) id id id id id
    dsimp only
    split
    · exact h1
    · split
      · exact ih h1
      · exact setReg_keeps h1

theorem perfEvent_keeps {x1 x2 x3} (h : Keeps z s) : Keeps z (State.perfEvent s x1 x2 x3) := by
  unfold State.perfEvent
  with_reducible repeat' first | assumption | intro x | apply perfAdd_keeps | apply each_keeps | apply Keeps.ite

theorem answerRefused_keeps {x1} (h : Keeps z s) : Keeps z (State.answerRefused s x1) := by
  unfold State.answerRefused
  with_reducible repeat' first
    | assumption | apply sendRsp_keeps | apply copyAck_keeps | apply headDone_keeps | apply peerDone_keeps
    | apply emit_keeps | split

theorem setSlice_keeps {x1 x2} (h : Keeps z s) : Keeps z (State.setSlice s x1 x2) := h.put id id id id id id Tab.wf_set id id

theorem admitEntry_keeps {x1 x2} (h : Keeps z s) : Keeps z (State.admitEntry s x1 x2) := by
  unfold State.admitEntry
  with_reducible repeat' first
    | assumption | intro x | apply sendRsp_keeps | apply ackEarly_keeps | apply each_keeps
    | apply perfEvent_keeps | apply raise_keeps | apply answerRefused_keeps | apply setSlice_keeps
    | apply answerAtomic_keeps | apply peerDone_keeps | simp only [↓Keeps.rest_iff] | split

theorem answerRead_keeps {x1 x2 x3} (h : Keeps z s) : Keeps z (State.answerRead s x1 x2 x3) := by
  unfold State.answerRead
  with_reducible repeat' first
    | assumption | apply sendRsp_keeps | apply headDone_keeps | apply peerDone_keeps | apply emit_keeps
    | split

theorem setMiss_keeps {x1 x2} (h : Keeps z s) : Keeps z (State.setMiss s x1 x2) := by
  unfold State.setMiss
  with_reducible repeat' first | assumption | apply setSlice_keeps

theorem missRead_keeps {x1 x2 x3} (h : Keeps z s) : Keeps z (State.missRead s x1 x2 x3) := by
  unfold State.missRead
  with_reducible repeat' first
    | assumption | apply perfEvent_keeps | apply setMiss_keeps | apply setSlice_keeps
    | simp only [↓Keeps.rest_iff] | split

theorem readWay_keeps {x1 x2 x3} (h : Keeps z s) : Keeps z (State.readWay s x1 x2 x3).2 := by
  unfold State.readWay
  with_reducible repeat' first
    | assumption | apply raise_keeps | apply countUp_keeps | apply setSlice_keeps | simp only [↓Keeps.rest_iff]
    | split

theorem lookRead_keeps {x1 x2 x3} (h : Keeps z s) : Keeps z (State.lookRead s x1 x2 x3) := by
  unfold State.lookRead
  with_reducible repeat' first
    | assumption | apply missRead_keeps | apply perfEvent_keeps | apply answerRead_keeps
    | apply setSlice_keeps | apply readWay_keeps | apply Keeps.ite | split | (refine Keeps.snd ?_ ‹_ = (_, _)›)

theorem admitRead_keeps {x1 x2 x3} (h : Keeps z s) : Keeps z (State.admitRead s x1 x2 x3) := by
  unfold State.admitRead
  with_reducible repeat' first
    | assumption | apply perfEvent_keeps | apply lookRead_keeps | apply answerRead_keeps
    | apply setSlice_keeps | apply Keeps.ite

theorem admitOne_keeps {x1 x2 x3} (h : Keeps z s) : Keeps z (State.admitOne s x1 x2 x3).2 := by
  unfold State.admitOne
  with_reducible repeat' first
    | assumption | apply discardEntry_keeps | apply admitEntry_keeps | apply answerRead_keeps
    | apply admitRead_keeps | simp only [↓Keeps.rest_iff] | split

theorem admitList_keeps {x1 x2 x3} (h : Keeps z s) : Keeps z (State.admitList s x1 x2 x3).2 := by
  induction x3 generalizing s x1 x2 with
  | nil => exact h
  | cons y t ih =>
    unfold State.admitList
    with_reducible repeat' first | assumption | apply ih | apply admitOne_keeps

theorem admitAll_keeps {x1} (h : Keeps z s) : Keeps z (State.admitAll s x1) := by
  unfold State.admitAll
  with_reducible repeat' first | assumption | apply admitList_keeps | apply setSlice_keeps

theorem resumeAdmission_keeps  (h : Keeps z s) : Keeps z (State.resumeAdmission s) := by
  unfold State.resumeAdmission
  with_reducible repeat' first | assumption | apply each_keeps | apply admitAll_keeps

theorem freeSegs_keeps {x1} (h : Keeps z s) : Keeps z (State.freeSegs s x1) := by
  unfold State.freeSegs
  with_reducible repeat' first | assumption | apply resumeAdmission_keeps | simp only [↓Keeps.rest_iff]

theorem tagTouch_keeps {x1 x2} (h : Keeps z s) : Keeps z (State.tagTouch s x1 x2) := by
  unfold State.tagTouch
  with_reducible repeat' first | assumption | apply Keeps.ite | simp only [↓Keeps.rest_iff]

theorem dropFrame_keeps {x1} (h : Keeps z s) : Keeps z (State.dropFrame s x1) := by
  unfold State.dropFrame
  with_reducible repeat' first | assumption | apply tagTouch_keeps | simp only [↓Keeps.rest_iff]

theorem wakeFill_keeps {x1} (h : Keeps z s) : Keeps z (State.wakeFill s x1) := by
  unfold State.wakeFill
  with_reducible repeat' first | assumption | intro x | apply each_keeps | apply setSlice_keeps

theorem gpfChecks_keeps  (h : Keeps z s) : Keeps z (State.gpfChecks s) := by
  unfold State.gpfChecks
  with_reducible repeat' first | assumption | apply gpfCheck_keeps | apply each_keeps | apply closeMarks_keeps

theorem endFill_keeps {x1} (h : Keeps z s) : Keeps z (State.endFill s x1) := by
  unfold State.endFill
  with_reducible repeat' first | assumption | simp only [↓Keeps.rest_iff]

theorem forgetPages_keeps {x1} (h : Keeps z s) : Keeps z (State.forgetPages s x1) := by
  unfold State.forgetPages
  with_reducible repeat' first | assumption | apply each_keeps | apply endFill_keeps | simp only [↓Keeps.rest_iff]

theorem discardSegs_keeps {x1} (h : Keeps z s) : Keeps z (State.discardSegs s x1) := by
  unfold State.discardSegs
  with_reducible repeat' first
    | assumption | intro x | apply dropFrame_keeps | apply wakeFill_keeps | apply gpfChecks_keeps
    | apply each_keeps | apply answerRefused_keeps | apply setSlice_keeps | apply forgetPages_keeps
    | simp only [↓Keeps.rest_iff]

theorem supersede_keeps {x1 x2} (h : Keeps z s) : Keeps z (State.supersede s x1 x2) := by
  unfold State.supersede
  with_reducible repeat' first
    | assumption | apply setEntry_keeps | apply journal_keeps | simp only [↓Keeps.rest_iff] | split

theorem reserveWsn_keeps  (h : Keeps z s) : Keeps z (State.reserveWsn s) := by
  unfold State.reserveWsn
  with_reducible repeat' first | assumption | apply journal_keeps | apply Keeps.ite | simp only [↓Keeps.rest_iff]

theorem takeWsn_keeps  (h : Keeps z s) : Keeps z (State.takeWsn s).2 := by
  unfold State.takeWsn
  with_reducible repeat' first
    | assumption | apply reserveWsn_keeps | apply raise_keeps | simp only [↓Keeps.rest_iff] | split

theorem unmapRange_keeps {x1 x2} (h : Keeps z s) : Keeps z (State.unmapRange s x1 x2) := by
  unfold State.unmapRange
  with_reducible repeat' first
    | assumption | intro x | apply supersede_keeps | apply setEntry_keeps | apply journal_keeps
    | apply each_keeps | apply takeWsn_keeps

theorem unmapNow_keeps {x1 x2} (h : Keeps z s) : Keeps z (State.unmapNow s x1 x2) := by
  unfold State.unmapNow
  with_reducible repeat' first
    | assumption | apply supersede_keeps | apply setEntry_keeps | apply journal_keeps
    | apply takeWsn_keeps | simp only [↓Keeps.rest_iff]

theorem touchPage_keeps {x1} (h : Keeps z s) : Keeps z (State.touchPage s x1) := by
  unfold State.touchPage
  with_reducible repeat' first | assumption | simp only [↓Keeps.rest_iff]

theorem unmap_keeps {x1 x2} (h : Keeps z s) : Keeps z (State.unmap s x1 x2) := by
  unfold State.unmap
  with_reducible repeat' first
    | assumption | apply reserveWsn_keeps | apply unmapNow_keeps | apply touchPage_keeps | apply Keeps.ite
    | simp only [↓Keeps.rest_iff]

theorem unmapSegment_keeps {x1} (h : Keeps z s) : Keeps z (State.unmapSegment s x1) := by
  unfold State.unmapSegment
  with_reducible repeat' first
    | assumption | intro x | apply unmapRange_keeps | apply unmap_keeps | apply each_keeps
    | simp only [↓Keeps.rest_iff]

theorem setLive_keeps {x1 x2 x3} (h : Keeps z s) : Keeps z (State.setLive s x1 x2 x3) := by
  unfold State.setLive
  with_reducible repeat' first | assumption | simp only [↓Keeps.rest_iff] | split

theorem rwCheck_keeps  (h : Keeps z s) : Keeps z (State.rwCheck s) := by
  unfold State.rwCheck
  with_reducible repeat' first
    | assumption | apply rwPolicy_keeps | apply setLive_keeps | apply each_keeps | apply raise_keeps
    | apply Keeps.ite

theorem sweep_keeps {x1 x2} (h : Keeps z s) : Keeps z (State.sweep s x1 x2) := by
  unfold State.sweep
  with_reducible repeat' first
    | assumption | apply raise_keeps | apply countUp_keeps | apply setSlice_keeps | apply Keeps.ite

theorem startInv_keeps {x1} (h : Keeps z s) : Keeps z (State.startInv s x1) := by
  unfold State.startInv
  with_reducible repeat' first | assumption | apply setSlice_keeps | simp only [↓Keeps.rest_iff] | split

theorem invDone_keeps {x1} (h : Keeps z s) : Keeps z (State.invDone s x1) := by
  unfold State.invDone
  with_reducible repeat' first
    | assumption | apply setRegFld_keeps | apply sweep_keeps | apply startInv_keeps | apply setSlice_keeps
    | split

theorem serveInv_keeps {x1} (h : Keeps z s) : Keeps z (State.serveInv s x1) := by
  unfold State.serveInv
  with_reducible repeat' first | assumption | intro x | apply invDone_keeps | apply each_keeps

theorem queueInv_keeps {x1 x2} (h : Keeps z s) : Keeps z (State.queueInv s x1 x2) := by
  unfold State.queueInv
  with_reducible repeat' first | assumption | apply startInv_keeps | apply setSlice_keeps | apply Keeps.ite

theorem sweepAll_keeps {x1} (h : Keeps z s) : Keeps z (State.sweepAll s x1) := by
  unfold State.sweepAll
  with_reducible repeat' first
    | assumption | intro x | apply serveInv_keeps | apply invDone_keeps | apply queueInv_keeps
    | apply each_keeps

theorem freeSeg_keeps {x1} (h : Keeps z s) : Keeps z (State.freeSeg s x1) := by
  unfold State.freeSeg
  with_reducible repeat' first
    | assumption | apply changeSeg_keeps | apply freeSegs_keeps | apply discardSegs_keeps
    | apply unmapSegment_keeps | apply rwCheck_keeps | apply sweepAll_keeps | apply Keeps.ite
    | simp only [↓Keeps.rest_iff]

theorem prepareTarget_keeps {x1 x2} (h : Keeps z s) : Keeps z (State.prepareTarget s x1 x2) := by
  unfold State.prepareTarget
  with_reducible repeat' first
    | assumption | apply changeSeg_keeps | apply answerDurable_keeps | apply setOp_keeps
    | apply refusePrep_keeps | split

theorem sendPage_keeps {x1 x2 x3 x4} (h : Keeps z s) : Keeps z (State.sendPage s x1 x2 x3 x4) := by
  unfold State.sendPage
  with_reducible repeat' first
    | assumption | intro x | apply sendPlain_keeps | apply each_keeps | simp only [↓Keeps.rest_iff] | split

theorem sendDirty_keeps {x1} (h : Keeps z s) : Keeps z (State.sendDirty s x1) := by
  unfold State.sendDirty
  with_reducible repeat' first
    | assumption | intro x | apply sendPage_keeps | apply setOp_keeps | apply each_keeps | split

theorem startCopy_keeps {x1 x2 x3 x4} (h : Keeps z s) : Keeps z (State.startCopy s x1 x2 x3 x4) := by
  unfold State.startCopy
  with_reducible repeat' first
    | assumption | apply setOp_keeps | apply sendDirty_keeps | apply refusePrep_keeps | split

theorem tellCustodian_keeps {x1 x2} (h : Keeps z s) : Keeps z (State.tellCustodian s x1 x2) := by
  unfold State.tellCustodian
  with_reducible repeat' first | assumption | apply sendPlain_keeps

theorem askMirror_keeps {x1 x2 x3} (h : Keeps z s) : Keeps z (State.askMirror s x1 x2 x3) := by
  unfold State.askMirror
  with_reducible repeat' first | assumption | apply tellCustodian_keeps | apply Keeps.ite | split

theorem drainMarks_keeps {x1 x2} (h : Keeps z s) : Keeps z (State.drainMarks s x1 x2) := by
  unfold State.drainMarks
  with_reducible repeat' first | assumption | apply perfEvent_keeps | apply setSlice_keeps

theorem tellOp_keeps {x1 x2} (h : Keeps z s) : Keeps z (State.tellOp s x1 x2) := by
  unfold State.tellOp
  with_reducible repeat' first | assumption | apply tellCustodian_keeps

theorem askTarget_keeps {x1} (h : Keeps z s) : Keeps z (State.askTarget s x1) := by
  unfold State.askTarget
  with_reducible repeat' first | assumption | apply sendPlain_keeps

theorem switchStep_keeps {x1} (h : Keeps z s) : Keeps z (State.switchStep s x1) := by
  unfold State.switchStep
  with_reducible repeat' first
    | assumption | apply sendPlain_keeps | apply tellOp_keeps | apply setOp_keeps | apply sendDirty_keeps
    | apply askTarget_keeps | split

theorem holdSegs_keeps {x1} (h : Keeps z s) : Keeps z (State.holdSegs s x1) := by
  unfold State.holdSegs
  with_reducible repeat' first | assumption | simp only [↓Keeps.rest_iff]

theorem enterSwitch_keeps {x1} (h : Keeps z s) : Keeps z (State.enterSwitch s x1) := by
  unfold State.enterSwitch
  with_reducible repeat' first
    | assumption | intro x | apply drainMarks_keeps | apply setOp_keeps | apply each_keeps
    | apply switchStep_keeps | apply holdSegs_keeps | split

theorem moduleReq_keeps {x1 x2} (h : Keeps z s) : Keeps z (State.moduleReq s x1 x2) := by
  unfold State.moduleReq
  with_reducible repeat' first
    | assumption | apply prepareOwner_keeps | apply prepareHolder_keeps | apply freeSeg_keeps
    | apply prepareTarget_keeps | apply sendPlain_keeps | apply setOp_keeps | apply startCopy_keeps
    | apply askMirror_keeps | apply enterSwitch_keeps | apply refusePrep_keeps | apply Keeps.ite | split

theorem setFrame_keeps {x1 x2} (h : Keeps z s) : Keeps z (State.setFrame s x1 x2) := by
  unfold State.setFrame
  with_reducible repeat' first | assumption | apply tagTouch_keeps | simp only [↓Keeps.rest_iff]

theorem answerAll_keeps {x1 x2} (h : Keeps z s) : Keeps z (State.answerAll s x1 x2) := by
  unfold State.answerAll
  with_reducible repeat' first | assumption | intro x | apply each_keeps | apply answerPoint_keeps

set_option maxRecDepth 4000 in
theorem discardPage_keeps {x1 x2 x3} (h : Keeps z s) : Keeps z (State.discardPage s x1 x2 x3) := by
  have f (t : State) (ht : Keeps z t) (l : Lmp) : Keeps z (if (t.entry l).st = 0 && !t.inFlight l && !x3 then t else t.unmap l x3) :=
    Keeps.ite ht (unmap_keeps ht)
  have g (t : State) (ht : Keeps z t) (l : Lmp) : Keeps z (match t.frameOf l with
      | some (n, f) =>
        let ws := f.waits ++ f.held.flatMap (fun h => h.2.2)
        if f.st = 4 || f.st = 6 then (t.setFrame n { f with st := 4, held := [], waits := [] }).answerAll ws 2
        else ((t.forgetPages (fun x => x == l)).dropFrame n).answerAll ws 2
      | none => t) := by
    generalize t.frameOf l = o
    cases o with
    | none => exact ht
    | some y => exact Keeps.ite (answerAll_keeps (setFrame_keeps ht)) (answerAll_keeps (dropFrame_keeps (forgetPages_keeps ht)))
  unfold State.discardPage
  split
  · exact h
  · lift_lets
    extract_lets l p s1 s2 waits src s3 s4
    have h1 : Keeps z s1 := h.each fun t n ht => answerAll_keeps (setSlice_keeps ht)
    clear_value s1
    have h2 : Keeps z s2 := sweepAll_keeps h1
    clear_value s2
    have h3 : Keeps z s3 := h2.rest
    clear_value s3
    have h4 : Keeps z s4 := answerAll_keeps h3
    clear_value s4
    exact gpfChecks_keeps (f _ (g s4 h4 l) _)

theorem pageCtlIn_keeps {x1 x2 x3} (h : Keeps z s) : Keeps z (State.pageCtlIn s x1 x2 x3) := by
  unfold State.pageCtlIn
  with_reducible repeat' first
    | assumption | apply discardPage_keeps | apply sendPlain_keeps | simp only [↓Keeps.rest_iff] | split

theorem sendIbi_keeps {x1 x2} (h : Keeps z s) : Keeps z (State.sendIbi s x1 x2) := by
  unfold State.sendIbi
  with_reducible repeat' first | assumption | apply Keeps.ite | (simp only [↓Keeps.out_iff]; refine KeepsOut.intro ?_)

theorem logInterrupt_keeps {x1 x2} (h : Keeps z s) : Keeps z (State.logInterrupt s x1 x2) := by
  unfold State.logInterrupt
  with_reducible repeat' first | assumption | apply emit_keeps | apply Keeps.ite

theorem postRec_keeps {x1 x2 x3} (h : Keeps z s) : Keeps z (State.postRec s x1 x2 x3) := by
  unfold State.postRec
  with_reducible repeat' first
    | assumption | apply logInterrupt_keeps | apply raise_keeps | apply countUp_keeps
    | apply setHead_keeps | apply Keeps.ite

theorem cplNotice_keeps {x1} (h : Keeps z s) : Keeps z (State.cplNotice s x1) := by
  unfold State.cplNotice
  with_reducible repeat' first
    | assumption | intro x | apply each_keeps | apply sendIbi_keeps | apply postRec_keeps | apply Keeps.ite

theorem popWord_keeps {x1} (h : Keeps z s) : Keeps z (State.popWord s x1).2 := by
  unfold State.popWord
  with_reducible repeat' first | assumption | simp only [↓Keeps.rest_iff] | split

theorem holdHead_keeps {x1 x2} (h : Keeps z s) : Keeps z (State.holdHead s x1 x2) := by
  unfold State.holdHead
  with_reducible repeat' first | assumption | apply setReg_keeps | simp only [↓Keeps.rest_iff]

theorem answerHeldRead_keeps {x1} (h : Keeps z s) : Keeps z (State.answerHeldRead s x1) := by
  unfold State.answerHeldRead
  with_reducible repeat' first | assumption | apply popWord_keeps | apply holdHead_keeps | apply emit_keeps

theorem servePops_keeps  (h : Keeps z s) : Keeps z (State.servePops s) := by
  unfold State.servePops
  with_reducible repeat' first
    | assumption | apply answerHeldRead_keeps | apply each_keeps | simp only [↓Keeps.rest_iff]

theorem pushCpl_keeps {x1} (h : Keeps z s) : Keeps z (State.pushCpl s x1) := by
  unfold State.pushCpl
  with_reducible repeat' first
    | assumption | apply cplNotice_keeps | apply servePops_keeps | apply Keeps.ite | simp only [↓Keeps.rest_iff]

theorem answerCmd_keeps {x1 x2 x3 x4 x5 x6} (h : Keeps z s) : Keeps z (State.answerCmd s x1 x2 x3 x4 x5 x6) := by
  unfold State.answerCmd
  with_reducible repeat' first | assumption | apply pushCpl_keeps | apply emit_keeps | split

theorem answerSecured_keeps {x1} (h : Keeps z s) : Keeps z (State.answerSecured s x1) := by
  unfold State.answerSecured
  with_reducible repeat' first | assumption | apply sendIbi_keeps | apply emit_keeps

theorem setCore_keeps {x1 x2} (h : Keeps z s) : Keeps z (State.setCore s x1 x2) := by
  unfold State.setCore
  with_reducible repeat' first | assumption | simp only [↓Keeps.rest_iff]

theorem freeCore_keeps {x1} (h : Keeps z s) : Keeps z (State.freeCore s x1) := by
  unfold State.freeCore
  with_reducible repeat' first | assumption | intro x | apply each_keeps | apply setCore_keeps | apply Keeps.ite

theorem assignCore_keeps {x1} (h : Keeps z s) : Keeps z (State.assignCore s x1) := by
  unfold State.assignCore
  with_reducible repeat' first | assumption | apply setCore_keeps | simp only [↓Keeps.rest_iff] | split

theorem assignCores_keeps  (h : Keeps z s) : Keeps z (State.assignCores s) := by
  unfold State.assignCores
  with_reducible repeat' first | assumption | apply each_keeps | apply assignCore_keeps

theorem finishHandle_keeps {x1 x2} (h : Keeps z s) : Keeps z (State.finishHandle s x1 x2) := by
  unfold State.finishHandle
  with_reducible repeat' first
    | assumption | apply freeCore_keeps | apply assignCores_keeps | simp only [↓Keeps.rest_iff]

theorem queueHeadCpl_keeps {x1 x2} (h : Keeps z s) : Keeps z (State.queueHeadCpl s x1 x2) := by
  unfold State.queueHeadCpl
  with_reducible repeat' first | assumption | apply postRec_keeps | apply setHead_keeps

theorem pushHeadCpl_keeps {x1 x2} (h : Keeps z s) : Keeps z (State.pushHeadCpl s x1 x2) := by
  unfold State.pushHeadCpl
  with_reducible repeat' first | assumption | apply queueHeadCpl_keeps | apply setHead_keeps | apply Keeps.ite

theorem finish_keeps {x1 x2 x3} (h : Keeps z s) : Keeps z (State.finish s x1 x2 x3) := by
  unfold State.finish
  with_reducible repeat' first
    | assumption | apply answerCmd_keeps | apply answerSecured_keeps | apply finishHandle_keeps
    | apply pushHeadCpl_keeps | apply pushCpl_keeps | split

theorem endDiscard_keeps {x1 x2} (h : Keeps z s) : Keeps z (State.endDiscard s x1 x2) := by
  unfold State.endDiscard
  with_reducible repeat' first
    | assumption | apply sendPlain_keeps | apply finish_keeps | simp only [↓Keeps.rest_iff] | split

theorem discardStep_keeps {x1} (h : Keeps z s) : Keeps z (State.discardStep s x1) := by
  unfold State.discardStep
  with_reducible repeat' first | assumption | apply endDiscard_keeps | apply Keeps.ite

theorem discardHere_keeps {x1 x2} (h : Keeps z s) : Keeps z (State.discardHere s x1 x2) := by
  unfold State.discardHere
  with_reducible repeat' first
    | assumption | intro x | apply discardPage_keeps | apply sendPlain_keeps | apply setOp_keeps
    | apply each_keeps | simp only [↓Keeps.rest_iff] | split

theorem setDiscard_keeps {x1 x2} (h : Keeps z s) : Keeps z (State.setDiscard s x1 x2) := by
  unfold State.setDiscard
  with_reducible repeat' first | assumption | simp only [↓Keeps.rest_iff]

theorem discardGo_keeps {x1} (h : Keeps z s) : Keeps z (State.discardGo s x1) := by
  unfold State.discardGo
  with_reducible repeat' first
    | assumption | intro x | apply endDiscard_keeps | apply sendPlain_keeps | apply discardStep_keeps
    | apply each_keeps | apply discardHere_keeps | apply setDiscard_keeps | apply Keeps.ite

theorem discardAnswer_keeps {x1 x2 x3 x4 x5} (h : Keeps z s) : Keeps z (State.discardAnswer s x1 x2 x3 x4 x5) := by
  unfold State.discardAnswer
  with_reducible repeat' first
    | assumption | apply endDiscard_keeps | apply discardGo_keeps | apply discardStep_keeps
    | apply setDiscard_keeps | apply Keeps.ite | split

theorem setFwSlot_keeps {x1 x2} (h : Keeps z s) : Keeps z (State.setFwSlot s x1 x2) := by
  unfold State.setFwSlot
  with_reducible repeat' first | assumption | simp only [↓Keeps.rest_iff]

theorem fwDone_keeps {x1 x2} (h : Keeps z s) : Keeps z (State.fwDone s x1 x2) := by
  unfold State.fwDone
  with_reducible repeat' first | assumption | apply sendPlain_keeps

theorem fwRefused_keeps  (h : Keeps z s) : Keeps z (State.fwRefused s) := by
  unfold State.fwRefused
  with_reducible repeat' first | assumption | apply raise_keeps | simp only [↓Keeps.rest_iff]

theorem fwChunkIn_keeps {x1 x2 x3 x4} (h : Keeps z s) : Keeps z (State.fwChunkIn s x1 x2 x3 x4) := by
  unfold State.fwChunkIn
  with_reducible repeat' first
    | assumption | apply setFwSlot_keeps | apply fwDone_keeps | apply fwRefused_keeps | apply Keeps.ite
    | simp only [↓Keeps.rest_iff]

theorem addCust_keeps {x1} (h : Keeps z s) : Keeps z (State.addCust s x1) := by
  unfold State.addCust
  with_reducible repeat' first | assumption | simp only [↓Keeps.rest_iff]

theorem dropCust_keeps {x1} (h : Keeps z s) : Keeps z (State.dropCust s x1) := by
  unfold State.dropCust
  with_reducible repeat' first | assumption | simp only [↓Keeps.rest_iff]

theorem answerCust_keeps {x1 x2 x3 x4 x5} (h : Keeps z s) : Keeps z (State.answerCust s x1 x2 x3 x4 x5) := by
  unfold State.answerCust
  with_reducible repeat' first | assumption | apply sendPlain_keeps | apply Keeps.ite

theorem evacDone_keeps {x1} (h : Keeps z s) : Keeps z (State.evacDone s x1) := by
  unfold State.evacDone
  with_reducible repeat' first | assumption | apply dropCust_keeps | apply answerCust_keeps | apply Keeps.ite

theorem tellHead_keeps {x1 x2 x3} (h : Keeps z s) : Keeps z (State.tellHead s x1 x2 x3) := by
  unfold State.tellHead
  with_reducible repeat' first
    | assumption | apply dropCust_keeps | apply answerCust_keeps | apply sendPlain_keeps | apply Keeps.ite
    | simp only [↓Keeps.rest_iff]

theorem endCust_keeps {x1 x2} (h : Keeps z s) : Keeps z (State.endCust s x1 x2) := by
  unfold State.endCust
  with_reducible repeat' first
    | assumption | apply dropCust_keeps | apply evacDone_keeps | apply answerCust_keeps
    | apply setCust_keeps | apply tellHead_keeps | apply Keeps.ite | split

theorem askHolder_keeps {x1 x2} (h : Keeps z s) : Keeps z (State.askHolder s x1 x2) := by
  unfold State.askHolder
  with_reducible repeat' first
    | assumption | apply askModule_keeps | apply setCust_keeps | apply endCust_keeps
    | simp only [↓Keeps.rest_iff] | split

theorem mirrorReq_keeps {x1 x2} (h : Keeps z s) : Keeps z (State.mirrorReq s x1 x2) := by
  unfold State.mirrorReq
  with_reducible repeat' first
    | assumption | apply addCust_keeps | apply queueCommit_keeps | apply raise_keeps | apply endCust_keeps
    | apply askHolder_keeps | apply Keeps.ite | simp only [↓Keeps.rest_iff]

theorem abortCust_keeps {x1 x2} (h : Keeps z s) : Keeps z (State.abortCust s x1 x2) := by
  unfold State.abortCust
  with_reducible repeat' first
    | assumption | apply askModule_keeps | apply answerCust_keeps | apply undoCust_keeps
    | apply endCust_keeps | split

theorem startMigration_keeps {x1} (h : Keeps z s) : Keeps z (State.startMigration s x1) := by
  unfold State.startMigration
  with_reducible repeat' first | assumption | apply queueCommit_keeps | apply setCust_keeps | apply Keeps.ite

theorem evacuate_keeps {x1 x2} (h : Keeps z s) : Keeps z (State.evacuate s x1 x2) := by
  unfold State.evacuate
  with_reducible repeat' first
    | assumption | intro x | apply evacDone_keeps | apply addCust_keeps | apply startMigration_keeps
    | apply each_keeps | apply endCust_keeps | apply askHolder_keeps | simp only [↓Keeps.rest_iff] | split

theorem custodyReq_keeps {x1 x2} (h : Keeps z s) : Keeps z (State.custodyReq s x1 x2) := by
  unfold State.custodyReq
  with_reducible repeat' first
    | assumption | intro x | apply askModule_keeps | apply mirrorReq_keeps | apply abortCust_keeps
    | apply raiseAt_keeps | apply addCust_keeps | apply answerCust_keeps | apply sendPlain_keeps
    | apply queueCommit_keeps | apply startMigration_keeps | apply each_keeps | apply setCust_keeps
    | apply endCust_keeps | apply evacuate_keeps | simp only [↓Keeps.rest_iff] | split

theorem syncRows_keeps {x1 x2 x3 x4} (h : Keeps z s) : Keeps z (State.syncRows s x1 x2 x3 x4) := by
  unfold State.syncRows
  with_reducible repeat' first | assumption | intro x | apply sendPlain_keeps | apply each_keeps

theorem ackKeys_keeps {x1 x2 x3 x4 x5} (h : Keeps z s) : Keeps z (State.ackKeys s x1 x2 x3 x4 x5) := by
  unfold State.ackKeys
  with_reducible repeat' first | assumption | apply sendPlain_keeps

theorem setKrange_keeps {x1 x2} (h : Keeps z s) : Keeps z (State.setKrange s x1 x2) := by
  unfold State.setKrange
  with_reducible repeat' first | assumption | simp only [↓Keeps.rest_iff]

theorem unfence_keeps {x1 x2} (h : Keeps z s) : Keeps z (State.unfence s x1 x2) := by
  unfold State.unfence
  with_reducible repeat' first | assumption | simp only [↓Keeps.rest_iff]

theorem zeroize_keeps {x1 x2} (h : Keeps z s) : Keeps z (State.zeroize s x1 x2) := by
  unfold State.zeroize
  with_reducible repeat' first
    | assumption | apply setKrange_keeps | apply raise_keeps | apply unfence_keeps | apply Keeps.ite
    | simp only [↓Keeps.rest_iff]

theorem installKey_keeps {x1 x2 x3} (h : Keeps z s) : Keeps z (State.installKey s x1 x2 x3) := by
  unfold State.installKey
  with_reducible repeat' first
    | assumption | apply setKrange_keeps | apply unfence_keeps | apply Keeps.ite | simp only [↓Keeps.rest_iff]

theorem krPushIn_keeps {x1 x2 x3 x4 x5} (h : Keeps z s) : Keeps z (State.krPushIn s x1 x2 x3 x4 x5) := by
  unfold State.krPushIn
  with_reducible repeat' first
    | assumption | apply ackKeys_keeps | apply zeroize_keeps | apply installKey_keeps | apply Keeps.ite | split

theorem restartCores_keeps  (h : Keeps z s) : Keeps z (State.restartCores s) := by
  unfold State.restartCores
  with_reducible repeat' first
    | assumption | intro x | apply each_keeps | apply setCore_keeps | apply Keeps.ite | simp only [↓Keeps.rest_iff]

theorem activateSlot_keeps  (h : Keeps z s) : Keeps z (State.activateSlot s) := by
  unfold State.activateSlot
  with_reducible repeat' first | assumption | apply restartCores_keeps | simp only [↓Keeps.rest_iff]

theorem tryActivate_keeps  (h : Keeps z s) : Keeps z (State.tryActivate s) := by
  unfold State.tryActivate
  with_reducible repeat' first | assumption | apply activateSlot_keeps | apply Keeps.ite

theorem fwuCtl_keeps {x1 x2 x3 x4} (h : Keeps z s) : Keeps z (State.fwuCtl s x1 x2 x3 x4) := by
  unfold State.fwuCtl
  with_reducible repeat' first
    | assumption | apply setFwSlot_keeps | apply fwDone_keeps | apply tryActivate_keeps
    | simp only [↓Keeps.rest_iff] | split

theorem newTag_keeps  (h : Keeps z s) : Keeps z (State.newTag s).2 := by
  unfold State.newTag
  with_reducible repeat' first | assumption | simp only [↓Keeps.rest_iff]

theorem rwTags_keeps {x1} (h : Keeps z s) : Keeps z (State.rwTags s x1).2 := by
  unfold State.rwTags
  with_reducible repeat' first | assumption | intro x | apply newTag_keeps | apply Keeps.fold2

theorem rwForward_keeps {x1 x2} (h : Keeps z s) : Keeps z (State.rwForward s x1 x2).2 := by
  unfold State.rwForward
  with_reducible repeat' first
    | assumption | intro x | apply sendPlain_keeps | apply each_keeps | apply rwTags_keeps

theorem startDrop_keeps {x1 x2 x3 x4} (h : Keeps z s) : Keeps z (State.startDrop s x1 x2 x3 x4) := by
  unfold State.startDrop
  with_reducible repeat' first
    | assumption | apply setRwr_keeps | apply journal_keeps | apply rwForward_keeps
    | simp only [↓Keeps.rest_iff] | split

theorem startTo_keeps {x1 x2 x3 x4} (h : Keeps z s) : Keeps z (State.startTo s x1 x2 x3 x4) := by
  unfold State.startTo
  with_reducible repeat' first | assumption | apply setRwr_keeps | apply holdSegs_keeps | apply rwForward_keeps

theorem holderFwd_keeps {x1 x2 x3 x4 x5} (h : Keeps z s) : Keeps z (State.holderFwd s x1 x2 x3 x4 x5) := by
  unfold State.holderFwd
  with_reducible repeat' first
    | assumption | apply startDrop_keeps | apply sendPlain_keeps | apply startTo_keeps | split

theorem switchAsked_keeps {x1 x2} (h : Keeps z s) : Keeps z (State.switchAsked s x1 x2) := by
  unfold State.switchAsked
  with_reducible repeat' first
    | assumption | apply changeSeg_keeps | apply answerDurable_keeps | apply refusePrep_keeps | apply Keeps.ite
    | split

theorem setBases_keeps {x1 x2} (h : Keeps z s) : Keeps z (State.setBases s x1 x2) := by
  unfold State.setBases
  with_reducible repeat' first | assumption | simp only [↓Keeps.rest_iff]

theorem krTableIn_keeps {x1 x2 x3} (h : Keeps z s) : Keeps z (State.krTableIn s x1 x2 x3) := by
  unfold State.krTableIn
  with_reducible repeat' first | assumption | apply ackKeys_keeps | apply setBases_keeps | apply Keeps.ite

theorem postDc_keeps {x1 x2 x3 x4} (h : Keeps z s) : Keeps z (State.postDc s x1 x2 x3 x4) := by
  unfold State.postDc
  with_reducible repeat' first | assumption | apply postRec_keeps

theorem custDone_keeps {x1 x2 x3 x4} (h : Keeps z s) : Keeps z (State.custDone s x1 x2 x3 x4) := by
  unfold State.custDone
  with_reducible repeat' first | assumption | apply finish_keeps | split

theorem endBinding_keeps {x1 x2 x3 x4} (h : Keeps z s) : Keeps z (State.endBinding s x1 x2 x3 x4) := by
  unfold State.endBinding
  with_reducible repeat' first | assumption | apply sendPlain_keeps | apply custDone_keeps | apply Keeps.ite

theorem unbindHead_keeps {x1 x2} (h : Keeps z s) : Keeps z (State.unbindHead s x1 x2) := by
  unfold State.unbindHead
  with_reducible repeat' first
    | assumption | apply postDc_keeps | apply setHead_keeps | apply endBinding_keeps
    | simp only [↓Keeps.rest_iff] | split

theorem dropOp_keeps {x1} (h : Keeps z s) : Keeps z (State.dropOp s x1) := by
  unfold State.dropOp
  with_reducible repeat' first | assumption | simp only [↓Keeps.rest_iff]

theorem targetReady_keeps {x1 x2} (h : Keeps z s) : Keeps z (State.targetReady s x1 x2) := by
  unfold State.targetReady
  with_reducible repeat' first
    | assumption | apply freeSegs_keeps | apply tellOp_keeps | apply setOp_keeps | apply dropOp_keeps
    | split

theorem askUnbind_keeps {x1 x2} (h : Keeps z s) : Keeps z (State.askUnbind s x1 x2) := by
  unfold State.askUnbind
  with_reducible repeat' first | assumption | apply tellCustodian_keeps | apply setHead_keeps

theorem offerExtent_keeps {x1 x2 x3 x4 x5 x6 x7 x8} (h : Keeps z s) : Keeps z (State.offerExtent s x1 x2 x3 x4 x5 x6 x7 x8) := by
  unfold State.offerExtent
  with_reducible repeat' first
    | assumption | apply askUnbind_keeps | apply postDc_keeps | apply setHead_keeps
    | apply endBinding_keeps | split

theorem bindHead_keeps {x1 x2 x3 x4 x5 x6 x7} (h : Keeps z s) : Keeps z (State.bindHead s x1 x2 x3 x4 x5 x6 x7) := by
  unfold State.bindHead
  with_reducible repeat' first
    | assumption | apply offerExtent_keeps | apply askUnbind_keeps | apply setHead_keeps
    | apply endBinding_keeps | apply Keeps.ite

theorem askCopy_keeps {x1} (h : Keeps z s) : Keeps z (State.askCopy s x1) := by
  unfold State.askCopy
  with_reducible repeat' first | assumption | apply askModule_keeps | apply setCust_keeps

theorem prepAnswer_keeps {x1 x2 x3 x4} (h : Keeps z s) : Keeps z (State.prepAnswer s x1 x2 x3 x4) := by
  unfold State.prepAnswer
  with_reducible repeat' first
    | assumption | apply askOwner_keeps | apply askModule_keeps | apply queueCommit_keeps
    | apply undoCust_keeps | apply setCust_keeps | apply endCust_keeps | apply tellHead_keeps
    | apply askHolder_keeps | apply askCopy_keeps | apply Keeps.ite | split

theorem mirSetAnswer_keeps {x1 x2 x3} (h : Keeps z s) : Keeps z (State.mirSetAnswer s x1 x2 x3).2 := by
  unfold State.mirSetAnswer
  with_reducible repeat' first | assumption | apply finish_keeps | simp only [↓Keeps.rest_iff] | split

theorem gstResponse_keeps {x1 x2 x3 x4} (h : Keeps z s) : Keeps z (State.gstResponse s x1 x2 x3 x4) := by
  unfold State.gstResponse
  with_reducible repeat' first
    | assumption | apply unbindHead_keeps | apply targetReady_keeps | apply tellCustodian_keeps
    | apply bindHead_keeps | apply prepAnswer_keeps | apply mirSetAnswer_keeps | apply endBinding_keeps
    | apply custDone_keeps | apply Keeps.ite

theorem gstAcked_keeps {x1 x2} (h : Keeps z s) : Keeps z (State.gstAcked s x1 x2) := by
  unfold State.gstAcked
  with_reducible repeat' first | assumption | simp only [↓Keeps.rest_iff]

theorem endPush_keeps {x1 x2} (h : Keeps z s) : Keeps z (State.endPush s x1 x2) := by
  unfold State.endPush
  with_reducible repeat' first | assumption | apply finish_keeps | apply setBases_keeps | apply Keeps.ite

theorem putPush_keeps {x1 x2} (h : Keeps z s) : Keeps z (State.putPush s x1 x2) := by
  unfold State.putPush
  with_reducible repeat' first | assumption | apply endPush_keeps | apply Keeps.ite | simp only [↓Keeps.rest_iff]

theorem sendPush_keeps {x1 x2} (h : Keeps z s) : Keeps z (State.sendPush s x1 x2) := by
  unfold State.sendPush
  with_reducible repeat' first | assumption | apply sendPlain_keeps | split

theorem krPull_keeps {x1} (h : Keeps z s) : Keeps z (State.krPull s x1) := by
  unfold State.krPull
  with_reducible repeat' first
    | assumption | intro x | apply each_keeps | apply putPush_keeps | apply sendPush_keeps
    | simp only [↓Keeps.rest_iff] | split

theorem setBlock_keeps {x1 x2} (h : Keeps z s) : Keeps z (State.setBlock s x1 x2) := by
  unfold State.setBlock
  with_reducible repeat' first | assumption | simp only [↓Keeps.rest_iff]

theorem openSet_keeps {x1 x2 x3 x4} (h : Keeps z s) : Keeps z (State.openSet s x1 x2 x3 x4).2 := by
  unfold State.openSet
  with_reducible repeat' first
    | assumption | intro x | apply setBlock_keeps | apply each_keeps | simp only [↓Keeps.rest_iff] | split

theorem openFor_keeps {x1 x2 x3} (h : Keeps z s) : Keeps z (State.openFor s x1 x2 x3).2 := by
  unfold State.openFor
  with_reducible repeat' first | assumption | apply openSet_keeps | split

theorem fillers_keeps {x0 x2} (h : Keeps z s) : Keeps z (State.fillers x0 s x2).2 := by
  induction x0 generalizing s x2 with
  | zero => exact h
  | succ n ih =>
    unfold State.fillers
    with_reducible repeat' first | assumption | apply ih | apply takeWsn_keeps

theorem closeStripe_keeps {x1 x2 x3 x4 x5} (h : Keeps z s) : Keeps z (State.closeStripe s x1 x2 x3 x4 x5).2 := by
  unfold State.closeStripe
  with_reducible repeat' first
    | assumption | apply openFor_keeps | apply fillers_keeps | simp only [↓Keeps.rest_iff] | split

theorem metaPages_keeps {x0 x2 x3 x4} (h : Keeps z s) : Keeps z (State.metaPages x0 s x2 x3 x4).2 := by
  induction x0 generalizing s x2 x3 x4 with
  | zero => exact h
  | succ n ih =>
    unfold State.metaPages
    with_reducible repeat' first | assumption | apply ih | apply takeWsn_keeps

theorem captureFrame_keeps {x1} (h : Keeps z s) : Keeps z (State.captureFrame s x1).2 := by
  unfold State.captureFrame
  with_reducible repeat' first | assumption | apply setFrame_keeps | split

theorem captureAll_keeps {x0} (h : Keeps z s) : Keeps z (State.captureAll x0 s).2 := by
  induction x0 generalizing s  with
  | nil => exact h
  | cons y t ih =>
    unfold State.captureAll
    with_reducible repeat' first | assumption | apply ih | apply captureFrame_keeps | split

theorem readyStripe_keeps {x1} (h : Keeps z s) : Keeps z (State.readyStripe s x1).2 := by
  unfold State.readyStripe
  with_reducible repeat' first | assumption | apply captureAll_keeps | split

theorem advanceRow_keeps {x1} (h : Keeps z s) : Keeps z (State.advanceRow s x1) := by
  unfold State.advanceRow
  with_reducible repeat' first | assumption | intro x | apply setBlock_keeps | apply each_keeps | split

theorem setStripe_keeps {x1} (h : Keeps z s) : Keeps z (State.setStripe s x1) := by
  unfold State.setStripe
  with_reducible repeat' first | assumption | simp only [↓Keeps.rest_iff]

theorem setDie_keeps {x1 x2} (h : Keeps z s) : Keeps z (State.setDie s x1 x2) := by
  unfold State.setDie
  with_reducible repeat' first | assumption | simp only [↓Keeps.rest_iff]

theorem setBusy_keeps {x1 x2} (h : Keeps z s) : Keeps z (State.setBusy s x1 x2) := by
  unfold State.setBusy
  with_reducible repeat' first | assumption | intro x | apply setDie_keeps | apply each_keeps

theorem startRow_keeps {x1 x2} (h : Keeps z s) : Keeps z (State.startRow s x1 x2) := by
  unfold State.startRow
  with_reducible repeat' first
    | assumption | intro x | apply readyStripe_keeps | apply advanceRow_keeps | apply each_keeps
    | apply setStripe_keeps | apply setBusy_keeps

theorem orderFault_keeps {x1} (h : Keeps z s) : Keeps z (State.orderFault s x1) := by
  unfold State.orderFault
  with_reducible repeat' first | assumption | apply raiseAt_keeps

theorem issueMeta_keeps {x1} (h : Keeps z s) : Keeps z (State.issueMeta s x1) := by
  unfold State.issueMeta
  with_reducible repeat' first | assumption | apply startRow_keeps | apply orderFault_keeps | split

theorem closeJournal_keeps  (h : Keeps z s) : Keeps z (State.closeJournal s) := by
  unfold State.closeJournal
  with_reducible repeat' first
    | assumption | apply closeStripe_keeps | apply metaPages_keeps | apply issueMeta_keeps | apply Keeps.ite
    | simp only [↓Keeps.rest_iff]

theorem tendJournal_keeps  (h : Keeps z s) : Keeps z (State.tendJournal s) := by
  unfold State.tendJournal
  with_reducible repeat' first | assumption | apply closeJournal_keeps | apply Keeps.ite

theorem placeOne_keeps {x1} (h : Keeps z s) : Keeps z (State.placeOne s x1) := by
  unfold State.placeOne
  with_reducible repeat' first | assumption | apply takeWsn_keeps | simp only [↓Keeps.rest_iff]

theorem closeGather_keeps {x1} (h : Keeps z s) : Keeps z (State.closeGather s x1) := by
  unfold State.closeGather
  with_reducible repeat' first | assumption | apply closeStripe_keeps | simp only [↓Keeps.rest_iff] | split

theorem placeHanded_keeps {x0} (h : Keeps z s) : Keeps z (State.placeHanded x0 s) := by
  induction x0 generalizing s  with
  | zero => exact h
  | succ n ih =>
    unfold State.placeHanded
    with_reducible repeat' first
      | assumption | apply ih | apply placeOne_keeps | apply closeGather_keeps | simp only [↓Keeps.rest_iff] | split

theorem pump_keeps  (h : Keeps z s) : Keeps z (State.pump s) := by
  unfold State.pump
  with_reducible repeat' first
    | assumption | apply reserveWsn_keeps | apply tendJournal_keeps | apply placeHanded_keeps
    | apply closeGather_keeps | apply Keeps.ite

theorem handOver_keeps {x1} (h : Keeps z s) : Keeps z (State.handOver s x1) := by
  unfold State.handOver
  with_reducible repeat' first | assumption | apply setFrame_keeps | simp only [↓Keeps.rest_iff] | split

theorem holdRegion_keeps {x1} (h : Keeps z s) : Keeps z (State.holdRegion s x1) := by
  unfold State.holdRegion
  with_reducible repeat' first
    | assumption | intro x | apply pump_keeps | apply handOver_keeps | apply drainMarks_keeps
    | apply each_keeps | simp only [↓Keeps.rest_iff]

theorem startMark_keeps {x1 x2 x3 x4} (h : Keeps z s) : Keeps z (State.startMark s x1 x2 x3 x4) := by
  unfold State.startMark
  with_reducible repeat' first
    | assumption | apply setRwr_keeps | apply holdRegion_keeps | apply expireOldest_keeps
    | apply rwTags_keeps | apply Keeps.ite

theorem holderMark_keeps {x1 x2 x3 x4} (h : Keeps z s) : Keeps z (State.holderMark s x1 x2 x3 x4) := by
  unfold State.holderMark
  with_reducible repeat' first | assumption | apply startMark_keeps | apply sendPlain_keeps | split

theorem rwFinish_keeps {x1 x2 x3} (h : Keeps z s) : Keeps z (State.rwFinish s x1 x2 x3) := by
  unfold State.rwFinish
  with_reducible repeat' first
    | assumption | apply setRwr_keeps | apply sendPlain_keeps | apply rwCheck_keeps | apply finish_keeps
    | split

theorem rwDone_keeps {x1 x2} (h : Keeps z s) : Keeps z (State.rwDone s x1 x2) := by
  unfold State.rwDone
  with_reducible repeat' first
    | assumption | apply setRwr_keeps | apply rwFinish_keeps | apply raise_keeps | apply Keeps.ite

theorem rwConfirm_keeps {x1 x2 x3} (h : Keeps z s) : Keeps z (State.rwConfirm s x1 x2 x3) := by
  unfold State.rwConfirm
  with_reducible repeat' first | assumption | apply setRwr_keeps | apply rwDone_keeps | apply Keeps.ite | split

theorem discardTold_keeps {x1 x2 x3 x4} (h : Keeps z s) : Keeps z (State.discardTold s x1 x2 x3 x4) := by
  unfold State.discardTold
  with_reducible repeat' first
    | assumption | intro x | apply discardStep_keeps | apply each_keeps | apply discardHere_keeps
    | simp only [↓Keeps.rest_iff]

theorem discardAsked_keeps {x1 x2 x3 x4} (h : Keeps z s) : Keeps z (State.discardAsked s x1 x2 x3 x4) := by
  unfold State.discardAsked
  with_reducible repeat' first | assumption | apply sendPlain_keeps

theorem claimIn_keeps {x1 x2} (h : Keeps z s) : Keeps z (State.claimIn s x1 x2) := by
  unfold State.claimIn
  with_reducible repeat' first | assumption | apply queueCommit_keeps | apply Keeps.ite | simp only [↓Keeps.rest_iff]

theorem ackVersion_keeps  (h : Keeps z s) : Keeps z (State.ackVersion s) := by
  unfold State.ackVersion
  with_reducible repeat' first | assumption | apply sendPlain_keeps | apply Keeps.ite

theorem badAll_keeps {x1 x2} (h : Keeps z s) : Keeps z (State.badAll s x1 x2) := by
  unfold State.badAll
  with_reducible repeat' first | assumption | intro x | apply answerBad_keeps | apply each_keeps

theorem mirrorPoint_keeps {x1 x2} (h : Keeps z s) : Keeps z (State.mirrorPoint s x1 x2) := by
  unfold State.mirrorPoint
  with_reducible repeat' first
    | assumption | apply setFrame_keeps | apply answerAll_keeps | apply badAll_keeps | split

theorem dropUpdates_keeps {x1} (h : Keeps z s) : Keeps z (State.dropUpdates s x1) := by
  unfold State.dropUpdates
  with_reducible repeat' first
    | assumption | intro x | apply each_keeps | apply mirrorPoint_keeps | simp only [↓Keeps.rest_iff]

theorem laggedBreach_keeps {x1 x2} (h : Keeps z s) : Keeps z (State.laggedBreach s x1 x2) := by
  unfold State.laggedBreach
  with_reducible repeat' first | assumption | apply raiseAt_keeps | apply Keeps.ite

theorem rowOwner_keeps {x1 x2 x3 x4} (h : Keeps z s) : Keeps z (State.rowOwner s x1 x2 x3 x4) := by
  unfold State.rowOwner
  with_reducible repeat' first
    | assumption | apply changeSeg_keeps | apply freeSegs_keeps | apply dropUpdates_keeps
    | apply laggedBreach_keeps | apply dropOp_keeps | simp only [↓Keeps.rest_iff] | split

theorem sendSeq_keeps {x1 x2} (h : Keeps z s) : Keeps z (State.sendSeq s x1 x2) := by
  unfold State.sendSeq
  with_reducible repeat' first | assumption | apply routeOut_keeps | apply setPair_keeps

theorem sendRemote_keeps {x1} (h : Keeps z s) : Keeps z (State.sendRemote s x1) := by
  unfold State.sendRemote
  with_reducible repeat' first | assumption | apply newTag_keeps | apply sendSeq_keeps | simp only [↓Keeps.rest_iff]

theorem offerRemote_keeps {x1} (h : Keeps z s) : Keeps z (State.offerRemote s x1) := by
  unfold State.offerRemote
  with_reducible repeat' first | assumption | apply sendRemote_keeps | apply Keeps.ite | simp only [↓Keeps.rest_iff]

theorem arrive_keeps {x1} (h : Keeps z s) : Keeps z (State.arrive s x1) := by
  unfold State.arrive
  with_reducible repeat' first | assumption | apply admitAll_keeps | apply setSlice_keeps

theorem localRead_keeps {x1 x2 x3 x4} (h : Keeps z s) : Keeps z (State.localRead s x1 x2 x3 x4) := by
  unfold State.localRead
  with_reducible repeat' first | assumption | apply arrive_keeps

theorem localStore_keeps {x1 x2 x3 x4 x5 x6} (h : Keeps z s) : Keeps z (State.localStore s x1 x2 x3 x4 x5 x6) := by
  unfold State.localStore
  with_reducible repeat' first | assumption | apply arrive_keeps

theorem localAtomic_keeps {x1 x2 x3 x4 x5 x6 x7 x8} (h : Keeps z s) : Keeps z (State.localAtomic s x1 x2 x3 x4 x5 x6 x7 x8) := by
  unfold State.localAtomic
  with_reducible repeat' first | assumption | apply arrive_keeps

theorem runLocal_keeps {x1} (h : Keeps z s) : Keeps z (State.runLocal s x1) := by
  unfold State.runLocal
  with_reducible repeat' first
    | assumption | apply localRead_keeps | apply localStore_keeps | apply localAtomic_keeps | split

theorem offerAgain_keeps {x1} (h : Keeps z s) : Keeps z (State.offerAgain s x1) := by
  unfold State.offerAgain
  with_reducible repeat' first | assumption | apply offerRemote_keeps | apply runLocal_keeps | apply Keeps.ite

theorem retryWaitq_keeps  (h : Keeps z s) : Keeps z (State.retryWaitq s) := by
  unfold State.retryWaitq
  with_reducible repeat' first
    | assumption | apply each_keeps | apply offerAgain_keeps | apply Keeps.ite | simp only [↓Keeps.rest_iff]

theorem rowOther_keeps {x1 x2 x3 x4} (h : Keeps z s) : Keeps z (State.rowOther s x1 x2 x3 x4) := by
  unfold State.rowOther
  with_reducible repeat' first
    | assumption | apply changeSeg_keeps | apply freeSeg_keeps | apply dropOp_keeps
    | simp only [↓Keeps.rest_iff] | split

theorem rowDir_keeps {x1 x2 x3 x4} (h : Keeps z s) : Keeps z (State.rowDir s x1 x2 x3 x4) := by
  unfold State.rowDir
  with_reducible repeat' first | assumption | simp only [↓Keeps.rest_iff]

theorem reissueHere_keeps {x1} (h : Keeps z s) : Keeps z (State.reissueHere s x1) := by
  unfold State.reissueHere
  with_reducible repeat' first
    | assumption | apply answerBad_keeps | apply answerPoint_keeps | apply runLocal_keeps
    | apply answerAtomic_keeps | split

theorem reissue_keeps {x1 x2} (h : Keeps z s) : Keeps z (State.reissue s x1 x2) := by
  unfold State.reissue
  with_reducible repeat' first
    | assumption | apply reissueHere_keeps | apply sendSeq_keeps | apply Keeps.ite | simp only [↓Keeps.rest_iff]

theorem reissueAll_keeps {x1 x2} (h : Keeps z s) : Keeps z (State.reissueAll s x1 x2) := by
  unfold State.reissueAll
  with_reducible repeat' first | assumption | intro x | apply each_keeps | apply reissue_keeps | split

theorem applyRow_keeps {x1 x2} (h : Keeps z s) : Keeps z (State.applyRow s x1 x2) := by
  unfold State.applyRow
  with_reducible repeat' first
    | assumption | apply rowOwner_keeps | apply retryWaitq_keeps | apply rowOther_keeps
    | apply rowDir_keeps | apply askMirror_keeps | apply reissueAll_keeps | simp only [↓Keeps.rest_iff] | split

theorem applyVersion_keeps {x1 x2 x3} (h : Keeps z s) : Keeps z (State.applyVersion s x1 x2 x3) := by
  unfold State.applyVersion
  with_reducible repeat' first | assumption | apply applyRow_keeps | simp only [↓Keeps.rest_iff]

theorem applyAhead_keeps {x0} (h : Keeps z s) : Keeps z (State.applyAhead x0 s) := by
  induction x0 generalizing s  with
  | zero => exact h
  | succ n ih =>
    unfold State.applyAhead
    with_reducible repeat' first | assumption | apply ih | apply applyVersion_keeps | simp only [↓Keeps.rest_iff] | split

theorem flood_keeps {x1 x2} (h : Keeps z s) : Keeps z (State.flood s x1 x2) := by
  unfold State.flood
  with_reducible repeat' first | assumption | intro x | apply each_keeps | apply sendOn_keeps

theorem gstUpdate_keeps {x1 x2 x3 x4} (h : Keeps z s) : Keeps z (State.gstUpdate s x1 x2 x3 x4) := by
  unfold State.gstUpdate
  with_reducible repeat' first
    | assumption | apply ackVersion_keeps | apply applyAhead_keeps | apply flood_keeps
    | apply applyVersion_keeps | apply Keeps.ite | simp only [↓Keeps.rest_iff]

theorem sendClaims_keeps {x1} (h : Keeps z s) : Keeps z (State.sendClaims s x1) := by
  unfold State.sendClaims
  with_reducible repeat' first | assumption | intro x | apply sendPlain_keeps | apply each_keeps

theorem claimsAsked_keeps {x1 x2} (h : Keeps z s) : Keeps z (State.claimsAsked s x1 x2) := by
  unfold State.claimsAsked
  with_reducible repeat' first
    | assumption | intro x | apply sendClaims_keeps | apply each_keeps | apply sendOn_keeps | apply Keeps.ite
    | simp only [↓Keeps.rest_iff]

theorem breakPair_keeps {x1} (h : Keeps z s) : Keeps z (State.breakPair s x1) := by
  unfold State.breakPair
  with_reducible repeat' first | assumption | apply tellCustodian_keeps | split

theorem switchSteps_keeps  (h : Keeps z s) : Keeps z (State.switchSteps s) := by
  unfold State.switchSteps
  with_reducible repeat' first | assumption | apply each_keeps | apply switchStep_keeps

theorem sendUpdate_keeps {x1 x2 x3} (h : Keeps z s) : Keeps z (State.sendUpdate s x1 x2 x3) := by
  unfold State.sendUpdate
  with_reducible repeat' first | assumption | apply sendPlain_keeps | split

theorem lineAcked_keeps {x1 x2} (h : Keeps z s) : Keeps z (State.lineAcked s x1 x2) := by
  unfold State.lineAcked
  with_reducible repeat' first
    | assumption | apply breakPair_keeps | apply switchSteps_keeps | apply sendUpdate_keeps
    | apply mirrorPoint_keeps | simp only [↓Keeps.rest_iff] | split

theorem lineWaits_keeps {x1 x2 x3} (h : Keeps z s) : Keeps z (State.lineWaits s x1 x2 x3) := by
  unfold State.lineWaits
  with_reducible repeat' first | assumption | simp only [↓Keeps.rest_iff]

theorem takeVictim_keeps {x1} (h : Keeps z s) : Keeps z (State.takeVictim s x1).2 := by
  unfold State.takeVictim
  with_reducible repeat' first
    | assumption | intro x | apply dropFrame_keeps | apply setFrame_keeps | apply each_keeps
    | simp only [↓Keeps.rest_iff] | split

theorem allocFrame_keeps {x1} (h : Keeps z s) : Keeps z (State.allocFrame s x1).2 := by
  unfold State.allocFrame
  with_reducible repeat' first | assumption | apply takeVictim_keeps | simp only [↓Keeps.rest_iff] | split

theorem handDown_keeps {x0} (h : Keeps z s) : Keeps z (State.handDown x0 s) := by
  induction x0 generalizing s  with
  | zero => exact h
  | succ n ih =>
    unfold State.handDown
    with_reducible repeat' first | assumption | apply ih | apply handOver_keeps | split

theorem handHigh_keeps  (h : Keeps z s) : Keeps z (State.handHigh s) := by
  unfold State.handHigh
  with_reducible repeat' first | assumption | apply handDown_keeps | apply Keeps.ite

theorem dirtyTriggers_keeps {x1 x2} (h : Keeps z s) : Keeps z (State.dirtyTriggers s x1 x2) := by
  unfold State.dirtyTriggers
  with_reducible repeat' first | assumption | apply handOver_keeps | apply handHigh_keeps | apply Keeps.ite

theorem becomeDirty_keeps {x1 x2} (h : Keeps z s) : Keeps z (State.becomeDirty s x1 x2) := by
  unfold State.becomeDirty
  with_reducible repeat' first
    | assumption | apply setFrame_keeps | apply dirtyTriggers_keeps | simp only [↓Keeps.rest_iff]

theorem checkSpent_keeps {x1} (h : Keeps z s) : Keeps z (State.checkSpent s x1) := by
  unfold State.checkSpent
  with_reducible repeat' first | assumption | apply setDie_keeps | apply Keeps.ite

theorem askRefresh_keeps {x1 x2} (h : Keeps z s) : Keeps z (State.askRefresh s x1 x2) := by
  unfold State.askRefresh
  with_reducible repeat' first | assumption | apply Keeps.ite | simp only [↓Keeps.rest_iff]

theorem bumpReads_keeps {x1 x2} (h : Keeps z s) : Keeps z (State.bumpReads s x1 x2) := by
  unfold State.bumpReads
  with_reducible repeat' first | assumption | apply askRefresh_keeps | apply setBlock_keeps | apply Keeps.ite

theorem countRead_keeps {x1} (h : Keeps z s) : Keeps z (State.countRead s x1) := by
  unfold State.countRead
  with_reducible repeat' first | assumption | apply bumpReads_keeps | apply Keeps.ite | simp only [↓Keeps.rest_iff]

theorem countRecon_keeps {x1} (h : Keeps z s) : Keeps z (State.countRecon s x1) := by
  unfold State.countRecon
  with_reducible repeat' first | assumption | intro x | apply each_keeps | apply countRead_keeps

theorem suspend_keeps {x1} (h : Keeps z s) : Keeps z (State.suspend s x1) := by
  unfold State.suspend
  with_reducible repeat' first | assumption | apply setDie_keeps | apply Keeps.ite

theorem issueRead_keeps {x1 x2 x3} (h : Keeps z s) : Keeps z (State.issueRead s x1 x2 x3) := by
  unfold State.issueRead
  with_reducible repeat' first
    | assumption | apply checkSpent_keeps | apply countRecon_keeps | apply suspend_keeps
    | apply countRead_keeps | apply Keeps.ite | simp only [↓Keeps.rest_iff]

theorem startFill_keeps {x1} (h : Keeps z s) : Keeps z (State.startFill s x1) := by
  unfold State.startFill
  with_reducible repeat' first | assumption | apply issueRead_keeps | apply Keeps.ite | simp only [↓Keeps.rest_iff]

theorem placeLine_keeps {x1 x2 x3 x4} (h : Keeps z s) : Keeps z (State.placeLine s x1 x2 x3 x4).2 := by
  unfold State.placeLine
  with_reducible repeat' first
    | assumption | apply setFrame_keeps | apply allocFrame_keeps | apply wakeFill_keeps
    | apply becomeDirty_keeps | apply endFill_keeps | apply startFill_keeps | simp only [↓Keeps.rest_iff]
    | split

theorem acceptedLine_keeps {x1} (h : Keeps z s) : Keeps z (State.acceptedLine s x1) := by
  unfold State.acceptedLine
  with_reducible repeat' first | assumption | apply gpfChecks_keeps | apply setSlice_keeps

theorem askFrame_keeps {x1} (h : Keeps z s) : Keeps z (State.askFrame s x1) := by
  unfold State.askFrame
  with_reducible repeat' first | assumption | apply handOver_keeps | simp only [↓Keeps.rest_iff] | split

theorem takeLine_keeps {x1 x2 x3 x4} (h : Keeps z s) : Keeps z (State.takeLine s x1 x2 x3 x4) := by
  unfold State.takeLine
  with_reducible repeat' first
    | assumption | apply lineWaits_keeps | apply placeLine_keeps | apply acceptedLine_keeps
    | apply handHigh_keeps | apply answerAll_keeps | apply askFrame_keeps | apply touchPage_keeps
    | simp only [↓Keeps.rest_iff] | split | (refine Keeps.snd ?_ ‹_ = (_, _)›)

theorem dedupAdd_keeps {x1 x2} (h : Keeps z s) : Keeps z (State.dedupAdd s x1 x2) := by
  unfold State.dedupAdd
  with_reducible repeat' first | assumption | apply raise_keeps | apply Keeps.ite | simp only [↓Keeps.rest_iff]

theorem blkTake_keeps {x1 x2 x3 x4} (h : Keeps z s) : Keeps z (State.blkTake s x1 x2 x3 x4) := by
  unfold State.blkTake
  with_reducible repeat' first
    | assumption | intro x | apply pump_keeps | apply dedupNote_keeps | apply sendPlain_keeps
    | apply each_keeps | apply takeLine_keeps | apply dedupAdd_keeps | simp only [↓Keeps.rest_iff] | split

theorem blkIn_keeps {x1 x2 x3 x4} (h : Keeps z s) : Keeps z (State.blkIn s x1 x2 x3 x4) := by
  unfold State.blkIn
  with_reducible repeat' first | assumption | apply blkTake_keeps | apply Keeps.ite | simp only [↓Keeps.rest_iff]

theorem rolloutEnd_keeps {x1} (h : Keeps z s) : Keeps z (State.rolloutEnd s x1) := by
  unfold State.rolloutEnd
  with_reducible repeat' first | assumption | apply finish_keeps | apply raise_keeps | simp only [↓Keeps.rest_iff]

theorem nextWave_keeps  (h : Keeps z s) : Keeps z (State.nextWave s) := by
  unfold State.nextWave
  with_reducible repeat' first
    | assumption | intro x | apply rolloutEnd_keeps | apply sendPlain_keeps | apply each_keeps | apply Keeps.ite
    | simp only [↓Keeps.rest_iff]

theorem fwuDone_keeps {x1 x2 x3} (h : Keeps z s) : Keeps z (State.fwuDone s x1 x2 x3) := by
  unfold State.fwuDone
  with_reducible repeat' first | assumption | apply nextWave_keeps | apply Keeps.ite | simp only [↓Keeps.rest_iff]

theorem krAck_keeps {x1 x2 x3 x4 x5} (h : Keeps z s) : Keeps z (State.krAck s x1 x2 x3 x4 x5) := by
  unfold State.krAck
  with_reducible repeat' first | assumption | apply putPush_keeps | split

theorem pageAcked_keeps {x1 x2} (h : Keeps z s) : Keeps z (State.pageAcked s x1 x2) := by
  unfold State.pageAcked
  with_reducible repeat' first | assumption | apply setOp_keeps | apply switchStep_keeps | split

theorem custodyMsg_keeps {x1 x2} (h : Keeps z s) : Keeps z (State.custodyMsg s x1 x2) := by
  unfold State.custodyMsg
  cases x2
  all_goals dsimp only
  with_reducible repeat' first
    | assumption | apply moduleReq_keeps | apply pageCtlIn_keeps | apply discardAnswer_keeps
    | apply fwChunkIn_keeps | apply custodyReq_keeps | apply syncRows_keeps | apply krPushIn_keeps
    | apply fwuCtl_keeps | apply holderFwd_keeps | apply switchAsked_keeps | apply krTableIn_keeps
    | apply gstResponse_keeps | apply gstAcked_keeps | apply krPull_keeps | apply holderMark_keeps
    | apply rwConfirm_keeps | apply discardTold_keeps | apply discardAsked_keeps | apply claimIn_keeps
    | apply gstUpdate_keeps | apply claimsAsked_keeps | apply lineAcked_keeps | apply blkIn_keeps
    | apply fwuDone_keeps | apply krAck_keeps | apply pageAcked_keeps | apply Keeps.ite

theorem msgIn_keeps {x1 : Routing} {x2 : Msg} {x3 : State → State} (g3 : ∀ y0, Keeps z y0 → Keeps z (x3 y0)) (h : Keeps z s) : Keeps z (State.msgIn s x1 x2 x3) := by
  unfold State.msgIn
  with_reducible repeat' first | assumption | apply setPort_keeps | apply routeOut_keeps | apply g3 | apply Keeps.ite

theorem sendMarkers_keeps {x1} (h : Keeps z s) : Keeps z (State.sendMarkers s x1) := by
  unfold State.sendMarkers
  with_reducible repeat' first
    | assumption | intro x | apply setRwr_keeps | apply sendPlain_keeps | apply each_keeps | split

theorem markersGo_keeps  (h : Keeps z s) : Keeps z (State.markersGo s) := by
  unfold State.markersGo
  with_reducible repeat' first | assumption | apply each_keeps | apply sendMarkers_keeps

theorem startCommit_keeps  (h : Keeps z s) : Keeps z (State.startCommit s) := by
  unfold State.startCommit
  with_reducible repeat' first
    | assumption | intro x | apply sendPlain_keeps | apply each_keeps | simp only [↓Keeps.rest_iff] | split

theorem endCommit_keeps  (h : Keeps z s) : Keeps z (State.endCommit s).2 := by
  unfold State.endCommit
  with_reducible repeat' first
    | assumption | intro x | apply flood_keeps | apply sendPlain_keeps | apply each_keeps
    | apply applyVersion_keeps | simp only [↓Keeps.rest_iff] | split

theorem startQueued_keeps  (h : Keeps z s) : Keeps z (State.startQueued s) := by
  unfold State.startQueued
  with_reducible repeat' first
    | assumption | intro x | apply startMigration_keeps | apply each_keeps | apply endCust_keeps
    | apply askHolder_keeps | apply Keeps.ite

theorem afterCommit_keeps {x1} (h : Keeps z s) : Keeps z (State.afterCommit s x1) := by
  unfold State.afterCommit
  with_reducible repeat' first
    | assumption | apply askOwner_keeps | apply askModule_keeps | apply startQueued_keeps
    | apply setCust_keeps | apply raise_keeps | apply endCust_keeps | apply tellHead_keeps
    | apply askCopy_keeps | simp only [↓Keeps.rest_iff] | split

theorem custodyStep_keeps  (h : Keeps z s) : Keeps z (State.custodyStep s).2 := by
  unfold State.custodyStep
  with_reducible repeat' first
    | assumption | apply custodyMsg_keeps | apply startCommit_keeps | apply endCommit_keeps
    | apply afterCommit_keeps | simp only [↓Keeps.rest_iff] | split | (refine Keeps.snd ?_ ‹_ = (_, _)›)

theorem custodyRun_keeps {x0} (h : Keeps z s) : Keeps z (State.custodyRun x0 s) := by
  induction x0 generalizing s  with
  | zero => exact h
  | succ n ih =>
    unfold State.custodyRun
    with_reducible repeat' first | assumption | apply ih | apply custodyStep_keeps | apply Keeps.ite

theorem keyPoll_keeps  (h : Keeps z s) : Keeps z (State.keyPoll s) := by
  unfold State.keyPoll
  with_reducible repeat' first | assumption | intro x | apply each_keeps | apply putPush_keeps | apply Keeps.ite

theorem fwPoll_keeps  (h : Keeps z s) : Keeps z (State.fwPoll s) := by
  unfold State.fwPoll
  with_reducible repeat' first
    | assumption | apply tryActivate_keeps | apply nextWave_keeps | apply Keeps.ite | simp only [↓Keeps.rest_iff]

theorem freeUpdates_keeps  (h : Keeps z s) : Keeps z (State.freeUpdates s) := by
  unfold State.freeUpdates
  with_reducible repeat' first
    | assumption | intro x | apply blkTake_keeps | apply each_keeps | simp only [↓Keeps.rest_iff]

theorem resumeSegs_keeps {x1} (h : Keeps z s) : Keeps z (State.resumeSegs s x1) := by
  unfold State.resumeSegs
  with_reducible repeat' first | assumption | apply freeSegs_keeps

theorem setRegion_keeps {x1 x2} (h : Keeps z s) : Keeps z (State.setRegion s x1 x2) := by
  unfold State.setRegion
  with_reducible repeat' first | assumption | simp only [↓Keeps.rest_iff]

theorem applyRegions_keeps  (h : Keeps z s) : Keeps z (State.applyRegions s) := by
  unfold State.applyRegions
  with_reducible repeat' first
    | assumption | intro x | apply setRwr_keeps | apply changeSeg_keeps | apply tendJournal_keeps
    | apply journal_keeps | apply resumeSegs_keeps | apply rwCheck_keeps | apply each_keeps
    | apply handHigh_keeps | apply sweepAll_keeps | apply setRegion_keeps | apply Keeps.ite
    | simp only [↓Keeps.rest_iff]

theorem regionPoll_keeps  (h : Keeps z s) : Keeps z (State.regionPoll s) := by
  unfold State.regionPoll
  with_reducible repeat' first | assumption | apply applyRegions_keeps | apply Keeps.ite

theorem drain_keeps  (h : Keeps z s) : Keeps z (State.drain s) := by
  unfold State.drain
  with_reducible repeat' first
    | assumption | apply switchSteps_keeps | apply markersGo_keeps | apply custodyRun_keeps
    | apply keyPoll_keeps | apply fwPoll_keeps | apply freeUpdates_keeps | apply regionPoll_keeps

theorem custodyIn_keeps {x1 x2} (h : Keeps z s) : Keeps z (State.custodyIn s x1 x2) := by
  unfold State.custodyIn
  with_reducible repeat' first
    | assumption | intro x | apply custodyMsg_keeps | apply msgIn_keeps | apply drain_keeps | apply Keeps.ite
    | simp only [↓Keeps.rest_iff]

theorem postAll_keeps {x1 x2} (h : Keeps z s) : Keeps z (State.postAll s x1 x2) := by
  unfold State.postAll
  with_reducible repeat' first | assumption | intro x | apply each_keeps | apply postRec_keeps

theorem memoryEvent_keeps  (h : Keeps z s) : Keeps z (State.memoryEvent s) := by
  unfold State.memoryEvent
  with_reducible repeat' first | assumption | apply postAll_keeps

theorem pinIbis_keeps {x1} (h : Keeps z s) : Keeps z (State.pinIbis s x1) := by
  unfold State.pinIbis
  with_reducible repeat' first | assumption | apply memoryEvent_keeps | apply sendIbi_keeps | apply Keeps.ite

theorem withPins_keeps {x1 : State → State} (g1 : ∀ y0, Keeps z y0 → Keeps z (x1 y0)) (h : Keeps z s) : Keeps z (State.withPins s x1) := by
  unfold State.withPins
  with_reducible repeat' first | assumption | apply pinIbis_keeps | apply g1

theorem reply_keeps {x1 x2 x3 x4} (h : Keeps z s) : Keeps z (State.reply s x1 x2 x3 x4) := by
  unfold State.reply
  with_reducible repeat' first | assumption | apply answerCmd_keeps | apply answerSecured_keeps | apply Keeps.ite

theorem say_keeps {x1 x2 x3} (h : Keeps z s) : Keeps z (State.say s x1 x2 x3) := by
  unfold State.say
  with_reducible repeat' first | assumption | apply reply_keeps

theorem deny_keeps  (h : Keeps z s) : Keeps z (State.deny s) := by
  unfold State.deny
  with_reducible repeat' first | assumption | apply raise_keeps

theorem refuseRight_keeps {x1} (h : Keeps z s) : Keeps z (State.refuseRight s x1) := by
  unfold State.refuseRight
  with_reducible repeat' first | assumption | apply say_keeps | apply deny_keeps | apply emit_keeps | split

theorem cmdProfile_keeps {x1 x2} (h : Keeps z s) : Keeps z (State.cmdProfile s x1 x2) := by
  unfold State.cmdProfile
  with_reducible repeat' first | assumption | apply setReg_keeps | apply say_keeps | apply Keeps.ite

theorem discardStart_keeps {x1 x2 x3} (h : Keeps z s) : Keeps z (State.discardStart s x1 x2 x3) := by
  unfold State.discardStart
  with_reducible repeat' first
    | assumption | intro x | apply discardGo_keeps | apply sendPlain_keeps | apply newTag_keeps
    | apply each_keeps | apply Keeps.ite | simp only [↓Keeps.rest_iff]

theorem newHandle_keeps {x1 x2 x3} (h : Keeps z s) : Keeps z (State.newHandle s x1 x2 x3).2 := by
  unfold State.newHandle
  with_reducible repeat' first | assumption | apply assignCores_keeps | simp only [↓Keeps.rest_iff]

theorem long_keeps {x1 : CmdCtx} {x2 : State → Word → State} (g2 : ∀ y0 y1, Keeps z y0 → Keeps z (x2 y0 y1)) (h : Keeps z s) : Keeps z (State.long s x1 x2) := by
  unfold State.long
  with_reducible repeat' first
    | assumption | apply reply_keeps | apply newHandle_keeps | apply say_keeps | apply g2 | apply Keeps.ite

theorem relay_keeps {x1 x2} (h : Keeps z s) : Keeps z (State.relay s x1 x2) := by
  unfold State.relay
  with_reducible repeat' first
    | assumption | intro x | apply say_keeps | apply tellCustodian_keeps | apply long_keeps | apply Keeps.ite

theorem cmdUnbind_keeps {x1 x2 x3} (h : Keeps z s) : Keeps z (State.cmdUnbind s x1 x2 x3) := by
  unfold State.cmdUnbind
  with_reducible repeat' first | assumption | apply relay_keeps

theorem present_keeps {x1 x2 x3} (h : Keeps z s) : Keeps z (State.present s x1 x2 x3).2 := by
  unfold State.present
  with_reducible repeat' first | assumption | apply raise_keeps | simp only [↓Keeps.rest_iff] | split

theorem withPassword_keeps {x1 : CmdCtx} {x2 : Nat} {x3 : List Word} {x4 : State → State} (g4 : ∀ y0, Keeps z y0 → Keeps z (x4 y0)) (h : Keeps z s) : Keeps z (State.withPassword s x1 x2 x3 x4) := by
  unfold State.withPassword
  with_reducible repeat' first | assumption | apply present_keeps | apply say_keeps | apply g4 | apply Keeps.ite

theorem sendImage_keeps {x1 x2} (h : Keeps z s) : Keeps z (State.sendImage s x1 x2) := by
  unfold State.sendImage
  with_reducible repeat' first | assumption | intro x | apply sendPlain_keeps | apply each_keeps

theorem fwStart_keeps {x1 x2} (h : Keeps z s) : Keeps z (State.fwStart s x1 x2) := by
  unfold State.fwStart
  with_reducible repeat' first
    | assumption | intro x | apply sendImage_keeps | apply sendPlain_keeps | apply each_keeps
    | apply nextWave_keeps | simp only [↓Keeps.rest_iff]

theorem rolloutStop_keeps  (h : Keeps z s) : Keeps z (State.rolloutStop s) := by
  unfold State.rolloutStop
  with_reducible repeat' first
    | assumption | intro x | apply rolloutEnd_keeps | apply sendPlain_keeps | apply each_keeps

theorem fwAbort_keeps  (h : Keeps z s) : Keeps z (State.fwAbort s).2 := by
  unfold State.fwAbort
  with_reducible repeat' first
    | assumption | apply setFwSlot_keeps | apply rolloutStop_keeps | simp only [↓Keeps.rest_iff] | split

theorem startPush_keeps {x1} (h : Keeps z s) : Keeps z (State.startPush s x1) := by
  unfold State.startPush
  with_reducible repeat' first
    | assumption | intro x | apply endPush_keeps | apply each_keeps | apply sendPush_keeps | apply Keeps.ite
    | simp only [↓Keeps.rest_iff]

theorem krSet_keeps {x1 x2} (h : Keeps z s) : Keeps z (State.krSet s x1 x2) := by
  unfold State.krSet
  with_reducible repeat' first | assumption | apply startPush_keeps

theorem cmdAlloc_keeps {x1 x2 x3} (h : Keeps z s) : Keeps z (State.cmdAlloc s x1 x2 x3) := by
  unfold State.cmdAlloc
  with_reducible repeat' first | assumption | apply relay_keeps

theorem enterIdle_keeps {x1} (h : Keeps z s) : Keeps z (State.enterIdle s x1) := by
  unfold State.enterIdle
  with_reducible repeat' first
    | exact .inl rfl | (refine .inr ?_; (try dsimp only); decide) | assumption
    | (simp only [↓Keeps.pwr_iff]; refine KeepsPwr.intro ?_ ?_ ?_)

theorem handAll_keeps {x1} (h : Keeps z s) : Keeps z (State.handAll s x1) := by
  unfold State.handAll
  with_reducible repeat' first | assumption | intro x | apply handOver_keeps | apply each_keeps

theorem crustStore_keeps {x1 x2 x3} (h : Keeps z s) : Keeps z (State.crustStore s x1 x2 x3).2.2 := by
  unfold State.crustStore
  with_reducible repeat' first | assumption | apply raise_keeps | simp only [↓Keeps.rest_iff] | split

theorem noteUpdate_keeps {x1 x2 x3 x4} (h : Keeps z s) : Keeps z (State.noteUpdate s x1 x2 x3 x4) := by
  unfold State.noteUpdate
  with_reducible repeat' first | assumption | apply sendUpdate_keeps | apply Keeps.ite | simp only [↓Keeps.rest_iff]

theorem passLine_keeps {x1 x2 x3 x4 x5} (h : Keeps z s) : Keeps z (State.passLine s x1 x2 x3 x4 x5) := by
  unfold State.passLine
  with_reducible repeat' first
    | assumption | apply crustStore_keeps | apply acceptedLine_keeps | apply takeLine_keeps
    | apply badAll_keeps | apply noteUpdate_keeps | split

theorem offerLine_keeps {x1 x2} (h : Keeps z s) : Keeps z (State.offerLine s x1 x2) := by
  unfold State.offerLine
  with_reducible repeat' first | assumption | apply passLine_keeps | apply setSlice_keeps

theorem drainAll_keeps {x1 x2 x3} (h : Keeps z s) : Keeps z (State.drainAll s x1 x2 x3) := by
  unfold State.drainAll
  with_reducible repeat' first
    | assumption | intro x | apply offerLine_keeps | apply each_keeps | apply perfEvent_keeps
    | apply answerRefused_keeps | apply setSlice_keeps | apply Keeps.ite

theorem freeLane_keeps {x1 x2} (h : Keeps z s) : Keeps z (State.freeLane s x1 x2) := by
  unfold State.freeLane
  with_reducible repeat' first | assumption | apply setSlice_keeps

theorem fillWaiter_keeps {x1 x2 x3} (h : Keeps z s) : Keeps z (State.fillWaiter s x1 x2 x3) := by
  unfold State.fillWaiter
  with_reducible repeat' first | assumption | apply answerRead_keeps | apply Keeps.ite

theorem tagFail_keeps  (h : Keeps z s) : Keeps z (State.tagFail s) := by
  unfold State.tagFail
  with_reducible repeat' first | assumption | apply raise_keeps | apply countUp_keeps

theorem keyMissing_keeps {x1} (h : Keeps z s) : Keeps z (State.keyMissing s x1) := by
  unfold State.keyMissing
  with_reducible repeat' first | assumption | apply setKrange_keeps | apply raise_keeps | apply Keeps.ite

theorem krMismatch_keeps  (h : Keeps z s) : Keeps z (State.krMismatch s) := by
  unfold State.krMismatch
  with_reducible repeat' first | assumption | apply raise_keeps | apply countUp_keeps

theorem verifiedValue_keeps {x1} (h : Keeps z s) : Keeps z (State.verifiedValue s x1).2 := by
  unfold State.verifiedValue
  with_reducible repeat' first
    | assumption | apply tagFail_keeps | apply keyMissing_keeps | apply krMismatch_keeps | split

theorem readsFirst_keeps {x1 x2} (h : Keeps z s) : Keeps z (State.readsFirst s x1 x2) := by
  unfold State.readsFirst
  with_reducible repeat' first
    | assumption | intro x | apply fillWaiter_keeps | apply each_keeps | apply verifiedValue_keeps
    | apply setSlice_keeps | apply Keeps.ite | split

theorem notePoison_keeps {x1} (h : Keeps z s) : Keeps z (State.notePoison s x1) := by
  unfold State.notePoison
  with_reducible repeat' first | assumption | intro x | apply each_keeps | apply setHead_keeps | apply Keeps.ite

theorem updateWay_keeps {x1 x2 x3 x4} (h : Keeps z s) : Keeps z (State.updateWay s x1 x2 x3 x4) := by
  unfold State.updateWay
  with_reducible repeat' first | assumption | apply setSlice_keeps | simp only [↓Keeps.rest_iff] | split

theorem clearPoison_keeps {x1} (h : Keeps z s) : Keeps z (State.clearPoison s x1) := by
  unfold State.clearPoison
  with_reducible repeat' first | assumption | intro x | apply each_keeps | apply setHead_keeps

theorem mergeLine_keeps {x1 x2 x3 x4 x5} (h : Keeps z s) : Keeps z (State.mergeLine s x1 x2 x3 x4 x5) := by
  unfold State.mergeLine
  with_reducible repeat' first
    | assumption | apply notePoison_keeps | apply updateWay_keeps | apply perfEvent_keeps
    | apply clearPoison_keeps | apply setSlice_keeps | apply Keeps.ite

theorem tellReleased_keeps {x1 x2} (h : Keeps z s) : Keeps z (State.tellReleased s x1 x2) := by
  unfold State.tellReleased
  with_reducible repeat' first
    | assumption | intro x | apply each_keeps | apply answerAll_keeps | apply answerPoint_keeps
    | apply badAll_keeps | apply Keeps.ite

theorem checkHigh_keeps {x1} (h : Keeps z s) : Keeps z (State.checkHigh s x1) := by
  unfold State.checkHigh
  with_reducible repeat' first | assumption | apply perfEvent_keeps | apply setSlice_keeps | apply Keeps.ite

theorem releaseLine_keeps {x1 x2 x3 x4 x5} (h : Keeps z s) : Keeps z (State.releaseLine s x1 x2 x3 x4 x5) := by
  unfold State.releaseLine
  with_reducible repeat' first
    | assumption | apply mergeLine_keeps | apply tellReleased_keeps | apply checkHigh_keeps

theorem refuseEntry_keeps {x1 x2} (h : Keeps z s) : Keeps z (State.refuseEntry s x1 x2) := by
  unfold State.refuseEntry
  with_reducible repeat' first
    | assumption | intro x | apply freeLane_keeps | apply answerBad_keeps | apply each_keeps
    | apply raise_keeps | apply badAll_keeps | apply answerAtomic_keeps | split

theorem answerOld_keeps {x1 x2 x3} (h : Keeps z s) : Keeps z (State.answerOld s x1 x2 x3) := by
  unfold State.answerOld
  with_reducible repeat' first
    | assumption | apply sendRsp_keeps | apply dedupNote_keeps | apply answerAtomic_keeps | split

theorem releaseNow_keeps {x1 x2 x3} (h : Keeps z s) : Keeps z (State.releaseNow s x1 x2 x3) := by
  unfold State.releaseNow
  with_reducible repeat' first
    | assumption | intro x | apply freeLane_keeps | apply each_keeps | apply perfEvent_keeps
    | apply releaseLine_keeps | apply answerPoint_keeps | apply refuseEntry_keeps | apply answerOld_keeps
    | simp only [↓Keeps.rest_iff] | split

theorem forceRelease_keeps {x1 x2 x3} (h : Keeps z s) : Keeps z (State.forceRelease s x1 x2 x3) := by
  unfold State.forceRelease
  with_reducible repeat' first
    | assumption | apply freeLane_keeps | apply readsFirst_keeps | apply releaseNow_keeps
    | apply verifiedValue_keeps | simp only [↓Keeps.rest_iff] | split

theorem forceLanes_keeps {x1 x2 x3} (h : Keeps z s) : Keeps z (State.forceLanes s x1 x2 x3) := by
  unfold State.forceLanes
  with_reducible repeat' first | assumption | intro x | apply each_keeps | apply forceRelease_keeps

theorem flushSlices_keeps  (h : Keeps z s) : Keeps z (State.flushSlices s) := by
  unfold State.flushSlices
  with_reducible repeat' first
    | assumption | intro x | apply pump_keeps | apply drainAll_keeps | apply forceLanes_keeps
    | apply each_keeps | apply setSlice_keeps

theorem startFlush_keeps {x1} (h : Keeps z s) : Keeps z (State.startFlush s x1) := by
  unfold State.startFlush
  with_reducible repeat' first
    | exact .inl rfl | assumption | apply pump_keeps | apply handAll_keeps | apply flushSlices_keeps
    | apply closeGather_keeps | (simp only [↓Keeps.pwr_iff]; refine KeepsPwr.intro ?_ ?_ ?_)

theorem setRail_keeps {x1 x2} (h : Keeps z s) : Keeps z (State.setRail s x1 x2) := by
  unfold State.setRail
  with_reducible repeat' first | exact .inl rfl | assumption | (simp only [↓Keeps.pwr_iff]; refine KeepsPwr.intro ?_ ?_ ?_)

theorem stepInWindow_keeps {x1} (h : Keeps z s) : Keeps z (State.stepInWindow s x1) := by
  unfold State.stepInWindow
  with_reducible repeat' first | assumption | intro x | apply setRail_keeps | apply each_keeps

theorem leaveTrickle_keeps {x1} (h : Keeps z s) : Keeps z (State.leaveTrickle s x1) := by
  unfold State.leaveTrickle
  with_reducible repeat' first | assumption | apply setPort_keeps | apply linkWake_keeps | apply Keeps.ite

theorem unboundAt_keeps {x1 x2} (h : Keeps z s) : Keeps z (State.unboundAt s x1 x2) := by
  unfold State.unboundAt
  with_reducible repeat' first
    | assumption | apply raiseAt_keeps | apply countUp_keeps | apply setHead_keeps | apply Keeps.ite

theorem headOut_keeps {x1 x2 x3 x4} (h : Keeps z s) : Keeps z (State.headOut s x1 x2 x3 x4) := by
  unfold State.headOut
  with_reducible repeat' first | assumption | apply setHead_keeps

theorem invalidSeg_keeps {x1} (h : Keeps z s) : Keeps z (State.invalidSeg s x1) := by
  unfold State.invalidSeg
  with_reducible repeat' first | assumption | apply raiseAt_keeps

theorem headRead_keeps {x1 x2 x3 x4} (h : Keeps z s) : Keeps z (State.headRead s x1 x2 x3 x4) := by
  unfold State.headRead
  with_reducible repeat' first
    | assumption | apply offerRemote_keeps | apply localRead_keeps | apply headOut_keeps
    | apply answerRead_keeps | apply invalidSeg_keeps | simp only [↓Keeps.rest_iff] | split

theorem passRead_keeps {x1 x2 x3 x4} (h : Keeps z s) : Keeps z (State.passRead s x1 x2 x3 x4) := by
  unfold State.passRead
  with_reducible repeat' first
    | assumption | apply unboundAt_keeps | apply headRead_keeps | apply emit_keeps | split

theorem headAtomic_keeps {x1 x2 x3 x4 x5 x6 x7 x8} (h : Keeps z s) : Keeps z (State.headAtomic s x1 x2 x3 x4 x5 x6 x7 x8) := by
  unfold State.headAtomic
  with_reducible repeat' first
    | assumption | apply answerBad_keeps | apply offerRemote_keeps | apply headOut_keeps
    | apply localAtomic_keeps | apply invalidSeg_keeps | apply answerAtomic_keeps | apply Keeps.ite | split

theorem passAtomic_keeps {x1 x2 x3 x4 x5 x6 x7} (h : Keeps z s) : Keeps z (State.passAtomic s x1 x2 x3 x4 x5 x6 x7) := by
  unfold State.passAtomic
  with_reducible repeat' first
    | assumption | apply headAtomic_keeps | apply unboundAt_keeps | apply emit_keeps | split

theorem headStore_keeps {x1 x2 x3 x4 x5 x6} (h : Keeps z s) : Keeps z (State.headStore s x1 x2 x3 x4 x5 x6) := by
  unfold State.headStore
  with_reducible repeat' first
    | assumption | apply answerBad_keeps | apply offerRemote_keeps | apply headOut_keeps
    | apply localStore_keeps | apply answerRefused_keeps | apply invalidSeg_keeps | apply Keeps.ite | split

theorem passWrite_keeps {x1 x2 x3 x4 x5 x6} (h : Keeps z s) : Keeps z (State.passWrite s x1 x2 x3 x4 x5 x6) := by
  unfold State.passWrite
  with_reducible repeat' first
    | assumption | apply unboundAt_keeps | apply headStore_keeps | apply emit_keeps | split

theorem passReq_keeps {x1 x2} (h : Keeps z s) : Keeps z (State.passReq s x1 x2) := by
  unfold State.passReq
  with_reducible repeat' first
    | assumption | apply passRead_keeps | apply passAtomic_keeps | apply passWrite_keeps | split

theorem atSerial_keeps {x1 : Nat} {x2 : Nat} {x3 : State → State} (g3 : ∀ y0, Keeps z y0 → Keeps z (x3 y0)) (h : Keeps z s) : Keeps z (State.atSerial s x1 x2 x3) := by
  unfold State.atSerial
  with_reducible repeat' first | assumption | apply setHead_keeps | apply g3

theorem freeHeld_keeps {x1} (h : Keeps z s) : Keeps z (State.freeHeld s x1) := by
  unfold State.freeHeld
  with_reducible repeat' first
    | assumption | intro x | apply passReq_keeps | apply each_keeps | apply atSerial_keeps
    | apply setHead_keeps | apply Keeps.ite

theorem addMark_keeps {x1 x2 x3} (h : Keeps z s) : Keeps z (State.addMark s x1 x2 x3) := by
  unfold State.addMark
  with_reducible repeat' first | assumption | apply closeMarks_keeps | simp only [↓Keeps.rest_iff]

theorem peerGpf_keeps {x1} (h : Keeps z s) : Keeps z (State.peerGpf s x1) := by
  unfold State.peerGpf
  with_reducible repeat' first
    | assumption | intro x | apply pump_keeps | apply drainAll_keeps | apply forceLanes_keeps
    | apply each_keeps | apply addMark_keeps

theorem dedupAnswer_keeps {x1 x2} (h : Keeps z s) : Keeps z (State.dedupAnswer s x1 x2).2 := by
  unfold State.dedupAnswer
  with_reducible repeat' first | assumption | apply sendRsp_keeps | apply countUp_keeps | split

theorem forwardReq_keeps {x1 x2 x3} (h : Keeps z s) : Keeps z (State.forwardReq s x1 x2 x3) := by
  unfold State.forwardReq
  with_reducible repeat' first | assumption | apply sendRsp_keeps | apply sendSeq_keeps | apply Keeps.ite

theorem serve_keeps {x1 x2 x3} (h : Keeps z s) : Keeps z (State.serve s x1 x2 x3) := by
  unfold State.serve
  with_reducible repeat' first | assumption | simp only [↓Keeps.rest_iff]

theorem serveReq_keeps {x1 : Routing} {x2 : Msg} {x3 : LineAddr} {x4 : ReqKind} {x5 : State → State} (g5 : ∀ y0, Keeps z y0 → Keeps z (x5 y0)) (h : Keeps z s) : Keeps z (State.serveReq s x1 x2 x3 x4 x5) := by
  unfold State.serveReq
  with_reducible repeat' first
    | assumption | apply dedupAnswer_keeps | apply forwardReq_keeps | apply serve_keeps
    | apply sendRsp_keeps | apply invalidSeg_keeps | apply dedupAdd_keeps | apply g5 | apply Keeps.ite | split

theorem deliverReq_keeps {x1 x2} (h : Keeps z s) : Keeps z (State.deliverReq s x1 x2) := by
  unfold State.deliverReq
  cases x2
  all_goals dsimp only
  with_reducible repeat' first
    | assumption | intro x | apply sendRsp_keeps | apply localRead_keeps | apply localStore_keeps
    | apply addMark_keeps | apply peerGpf_keeps | apply serveReq_keeps | apply localAtomic_keeps
    | apply Keeps.ite

theorem unpark_keeps {x0 x2} (h : Keeps z s) : Keeps z (State.unpark x0 s x2) := by
  induction x0 generalizing s with
  | zero => exact h
  | succ n ih =>
    unfold State.unpark
    dsimp only
    split
    · exact h
    · exact ih (deliverReq_keeps (setPair_keeps h))

theorem acceptReq_keeps {x1 x2} (h : Keeps z s) : Keeps z (State.acceptReq s x1 x2) := by
  unfold State.acceptReq
  with_reducible repeat' first
    | assumption | apply sendRsp_keeps | apply routeOut_keeps | apply unpark_keeps
    | apply deliverReq_keeps | apply countUp_keeps | apply setPair_keeps | apply Keeps.ite
    | simp only [↓Keeps.rest_iff]

theorem freeSleepq_keeps  (h : Keeps z s) : Keeps z (State.freeSleepq s) := by
  unfold State.freeSleepq
  with_reducible repeat' first
    | assumption | intro x | apply each_keeps | apply acceptReq_keeps | simp only [↓Keeps.rest_iff]

theorem finishOp_keeps {x1 x2 x3} (h : Keeps z s) : Keeps z (State.finishOp s x1 x2 x3) := by
  unfold State.finishOp
  with_reducible repeat' first | assumption | intro x | apply each_keeps | apply finish_keeps

theorem deepIdleWake_keeps  (h : Keeps z s) : Keeps z (State.deepIdleWake s) := by
  unfold State.deepIdleWake
  with_reducible repeat' first
    | exact .inl rfl | (refine .inr ?_; (try dsimp only); decide) | assumption | intro x | apply stepInWindow_keeps
    | apply leaveTrickle_keeps | apply freeHeld_keeps | apply each_keeps | apply freeSleepq_keeps
    | apply finishOp_keeps | apply setHead_keeps | apply Keeps.ite
    | (simp only [↓Keeps.pwr_iff]; refine KeepsPwr.intro ?_ ?_ ?_)

theorem askOff_keeps  (h : Keeps z s) : Keeps z (State.askOff s) := by
  unfold State.askOff
  with_reducible repeat' first
    | exact .inl rfl | (refine .inr ?_; (try dsimp only); decide) | assumption | apply deepIdleWake_keeps
    | apply startFlush_keeps | split | (simp only [↓Keeps.pwr_iff]; refine KeepsPwr.intro ?_ ?_ ?_)

theorem powerGo_keeps {x1 x2} (h : Keeps z s) : Keeps z (State.powerGo s x1 x2) := by
  unfold State.powerGo
  with_reducible repeat' first
    | exact .inl rfl | (refine .inr ?_; (try dsimp only); decide) | assumption | apply enterIdle_keeps
    | apply finish_keeps | apply startFlush_keeps | apply askOff_keeps | split
    | (simp only [↓Keeps.pwr_iff]; refine KeepsPwr.intro ?_ ?_ ?_)

theorem clearDrops_keeps  (h : Keeps z s) : Keeps z (State.clearDrops s) := by
  unfold State.clearDrops
  with_reducible repeat' first | assumption | simp only [↓Keeps.rest_iff]

theorem clearLogs_keeps  (h : Keeps z s) : Keeps z (State.clearLogs s) := by
  unfold State.clearLogs
  with_reducible repeat' first | assumption | apply clearDrops_keeps | apply raise_keeps | simp only [↓Keeps.rest_iff]

theorem cmdBind_keeps {x1 x2 x3} (h : Keeps z s) : Keeps z (State.cmdBind s x1 x2 x3) := by
  unfold State.cmdBind
  with_reducible repeat' first | assumption | apply relay_keeps

theorem saveParams_keeps  (h : Keeps z s) : Keeps z (State.saveParams s) := by
  unfold State.saveParams
  with_reducible repeat' first | assumption | simp only [↓Keeps.rest_iff]

theorem fwLoad_keeps {x1 x2} (h : Keeps z s) : Keeps z (State.fwLoad s x1 x2).2 := by
  unfold State.fwLoad
  with_reducible repeat' first | assumption | apply setFwSlot_keeps | simp only [↓Keeps.rest_iff] | split

theorem cmdMigrate_keeps {x1 x2 x3} (h : Keeps z s) : Keeps z (State.cmdMigrate s x1 x2 x3) := by
  unfold State.cmdMigrate
  with_reducible repeat' first | assumption | apply relay_keeps

theorem longUnless_keeps {x1 : CmdCtx} {x2 : Option Status} {x3 : State → Word → State} (g3 : ∀ y0 y1, Keeps z y0 → Keeps z (x3 y0 y1)) (h : Keeps z s) : Keeps z (State.longUnless s x1 x2 x3) := by
  unfold State.longUnless
  with_reducible repeat' first | assumption | apply say_keeps | apply long_keeps | split

theorem mirrorStart_keeps {x1 x2 x3} (h : Keeps z s) : Keeps z (State.mirrorStart s x1 x2 x3) := by
  unfold State.mirrorStart
  with_reducible repeat' first
    | assumption | intro x | apply each_keeps | apply finish_keeps | apply askMirror_keeps
    | apply setRegion_keeps | apply Keeps.ite | simp only [↓Keeps.rest_iff]

theorem askReset_keeps {x1} (h : Keeps z s) : Keeps z (State.askReset s x1) := by
  unfold State.askReset
  with_reducible repeat' first
    | exact .inl rfl | (refine .inr ?_; (try dsimp only); decide) | assumption | apply deepIdleWake_keeps
    | apply startFlush_keeps | apply Keeps.ite | (simp only [↓Keeps.pwr_iff]; refine KeepsPwr.intro ?_ ?_ ?_)

theorem cmdAbort_keeps {x1 x2} (h : Keeps z s) : Keeps z (State.cmdAbort s x1 x2) := by
  unfold State.cmdAbort
  with_reducible repeat' first
    | assumption | apply newHandle_keeps | apply say_keeps | apply tellCustodian_keeps | apply Keeps.ite
    | simp only [↓Keeps.rest_iff]

theorem fresh_keeps  (h : Keeps z s) : Keeps z (State.fresh s).2 := by
  unfold State.fresh
  with_reducible repeat' first | assumption | simp only [↓Keeps.rest_iff]

theorem drawKeys_keeps  (h : Keeps z s) : Keeps z (State.drawKeys s).2 := by
  unfold State.drawKeys
  with_reducible repeat' first | assumption | apply fresh_keeps

theorem keyOp_keeps {x1 x2 x3} (h : Keeps z s) : Keeps z (State.keyOp s x1 x2 x3) := by
  unfold State.keyOp
  with_reducible repeat' first
    | assumption | apply startPush_keeps | apply zeroize_keeps | apply installKey_keeps | split

theorem runCmd_keeps {x1 x2} (h : Keeps z s) : Keeps z (State.runCmd s x1 x2) := by
  unfold State.runCmd
  with_reducible repeat' first
    | assumption | intro x | apply cmdProfile_keeps | apply discardStart_keeps | apply cmdUnbind_keeps
    | apply startMark_keeps | apply withPassword_keeps | apply fwStart_keeps | apply startDrop_keeps
    | apply fwRefused_keeps | apply fwAbort_keeps | apply relay_keeps | apply krSet_keeps
    | apply cmdAlloc_keeps | apply say_keeps | apply powerGo_keeps | apply startTo_keeps
    | apply clearLogs_keeps | apply cmdBind_keeps | apply saveParams_keeps | apply long_keeps
    | apply fwLoad_keeps | apply cmdMigrate_keeps | apply longUnless_keeps | apply mirrorStart_keeps
    | apply askReset_keeps | apply cmdAbort_keeps | apply drawKeys_keeps | apply keyOp_keeps
    | simp only [↓Keeps.rest_iff] | split

theorem command_keeps {x1 x2 x3} (h : Keeps z s) : Keeps z (State.command s x1 x2 x3) := by
  unfold State.command
  with_reducible repeat' first
    | assumption | apply refuseRight_keeps | apply say_keeps | apply runCmd_keeps | simp only [↓Keeps.rest_iff]
    | split

theorem cmd_keeps {x1 x2 x3 x4} (h : Keeps z s) : Keeps z (State.cmd s x1 x2 x3 x4) := by
  unfold State.cmd
  with_reducible repeat' first | assumption | apply command_keeps | apply drain_keeps | apply Keeps.ite

theorem readsToRecon_keeps {x1} (h : Keeps z s) : Keeps z (State.readsToRecon s x1) := by
  unfold State.readsToRecon
  with_reducible repeat' first
    | assumption | intro x | apply countRecon_keeps | apply each_keeps | simp only [↓Keeps.rest_iff]

theorem openWindow_keeps {x1 x2} (h : Keeps z s) : Keeps z (State.openWindow s x1 x2) := by
  unfold State.openWindow
  with_reducible repeat' first | assumption | simp only [↓Keeps.rest_iff]

theorem fence_keeps {x1 x2} (h : Keeps z s) : Keeps z (State.fence s x1 x2) := by
  unfold State.fence
  with_reducible repeat' first | assumption | apply openWindow_keeps | apply Keeps.ite | simp only [↓Keeps.rest_iff]

theorem fenceDie_keeps {x1} (h : Keeps z s) : Keeps z (State.fenceDie s x1) := by
  unfold State.fenceDie
  with_reducible repeat' first
    | assumption | apply raiseAt_keeps | apply readsToRecon_keeps | apply setDie_keeps | apply fence_keeps
    | apply Keeps.ite

theorem fenceDieFor_keeps {x1 x2} (h : Keeps z s) : Keeps z (State.fenceDieFor s x1 x2) := by
  unfold State.fenceDieFor
  with_reducible repeat' first | assumption | apply fenceDie_keeps | apply setRegFld_keeps | apply Keeps.ite

theorem readList_keeps {x1} (h : Keeps z s) : Keeps z (State.readList s x1) := by
  unfold State.readList
  with_reducible repeat' first
    | assumption | intro x | apply fenceDieFor_keeps | apply setBlock_keeps | apply each_keeps | apply Keeps.ite

theorem judgeLanes_keeps {x1} (h : Keeps z s) : Keeps z (State.judgeLanes s x1) := by
  unfold State.judgeLanes
  with_reducible repeat' first
    | assumption | intro x | apply each_keeps | apply fence_keeps | apply unfence_keeps | apply Keeps.ite

theorem endBase_keeps {x1} (h : Keeps z s) : Keeps z (State.endBase s x1) := by
  unfold State.endBase
  with_reducible repeat' first
    | assumption | apply setPort_keeps | apply judgeLanes_keeps | apply raiseAt_keeps | apply Keeps.ite

theorem partnerEq_keeps {x1} (h : Keeps z s) : Keeps z (State.partnerEq s x1) := by
  unfold State.partnerEq
  with_reducible repeat' first | assumption | apply endBase_keeps | apply Keeps.ite

theorem startReform_keeps  (h : Keeps z s) : Keeps z (State.startReform s) := by
  unfold State.startReform
  with_reducible repeat' first
    | assumption | apply pump_keeps | apply handOver_keeps | apply each_keeps | apply handAll_keeps
    | apply setRegFld_keeps | apply raise_keeps | apply Keeps.ite

theorem setDch_keeps {x1 x2 x3} (h : Keeps z s) : Keeps z (State.setDch s x1 x2 x3) := by
  unfold State.setDch
  with_reducible repeat' first | assumption | apply setRegFld_keeps | apply Keeps.ite

theorem readmitted_keeps  (h : Keeps z s) : Keeps z (State.readmitted s) := by
  unfold State.readmitted
  with_reducible repeat' first
    | assumption | intro x | apply startReform_keeps | apply setRail_keeps | apply setDch_keeps
    | apply each_keeps | simp only [↓Keeps.rest_iff] | split

theorem mrstRise_keeps {x1} (h : Keeps z s) : Keeps z (State.mrstRise s x1) := by
  unfold State.mrstRise
  with_reducible repeat' first
    | exact .inl rfl | assumption | apply Keeps.ite | (simp only [↓Keeps.pwr_iff]; refine KeepsPwr.intro ?_ ?_ ?_)

theorem barrierAnswer_keeps {x1 x2 x3} (h : Keeps z s) : Keeps z (State.barrierAnswer s x1 x2 x3) := by
  unfold State.barrierAnswer
  with_reducible repeat' first | assumption | apply setHead_keeps | apply emit_keeps

theorem completeBarrier_keeps {x1} (h : Keeps z s) : Keeps z (State.completeBarrier s x1) := by
  unfold State.completeBarrier
  with_reducible repeat' first
    | assumption | apply freeHeld_keeps | apply barrierAnswer_keeps | apply setHead_keeps
    | simp only [↓Keeps.rest_iff] | split

theorem reofferAll_keeps {x1} (h : Keeps z s) : Keeps z (State.reofferAll s x1) := by
  unfold State.reofferAll
  with_reducible repeat' first
    | assumption | intro x | apply offerExtent_keeps | apply each_keeps | apply postRec_keeps
    | apply setHead_keeps | simp only [↓Keeps.rest_iff] | split

theorem dimmReading_keeps {x1 x2} (h : Keeps z s) : Keeps z (State.dimmReading s x1 x2) := by
  unfold State.dimmReading
  with_reducible repeat' first | assumption | apply setRegFld_keeps

theorem retryWaiting_keeps  (h : Keeps z s) : Keeps z (State.retryWaiting s) := by
  unfold State.retryWaiting
  with_reducible repeat' first
    | assumption | intro x | apply acceptedLine_keeps | apply each_keeps | apply takeLine_keeps
    | apply badAll_keeps | simp only [↓Keeps.rest_iff] | split

theorem fillFails_keeps {x1} (h : Keeps z s) : Keeps z (State.fillFails s x1) := by
  unfold State.fillFails
  with_reducible repeat' first
    | assumption | apply dropFrame_keeps | apply pump_keeps | apply wakeFill_keeps
    | apply becomeDirty_keeps | apply retryWaiting_keeps | apply endFill_keeps | simp only [↓Keeps.rest_iff]
    | split

theorem losePage_keeps {x1 x2} (h : Keeps z s) : Keeps z (State.losePage s x1 x2) := by
  unfold State.losePage
  with_reducible repeat' first
    | assumption | apply dropFrame_keeps | apply setFrame_keeps | apply wakeFill_keeps | apply unmap_keeps
    | apply badAll_keeps | apply forgetPages_keeps | apply Keeps.ite | split

theorem loseDimm_keeps {x1} (h : Keeps z s) : Keeps z (State.loseDimm s x1) := by
  unfold State.loseDimm
  with_reducible repeat' first
    | assumption | intro x | apply dropFrame_keeps | apply setFrame_keeps | apply lineWaits_keeps
    | apply raiseAt_keeps | apply each_keeps | apply fillFails_keeps | apply losePage_keeps
    | apply Keeps.ite | simp only [↓Keeps.rest_iff]

theorem feedOff_keeps {x1} (h : Keeps z s) : Keeps z (State.feedOff s x1) := by
  unfold State.feedOff
  with_reducible repeat' first | assumption | apply setRail_keeps | apply Keeps.ite

theorem setSocket_keeps {x1 x2} (h : Keeps z s) : Keeps z (State.setSocket s x1 x2) := by
  unfold State.setSocket
  with_reducible repeat' first | assumption | simp only [↓Keeps.rest_iff]

theorem fenceAs_keeps {x1 x2 x3} (h : Keeps z s) : Keeps z (State.fenceAs s x1 x2 x3) := by
  unfold State.fenceAs
  with_reducible repeat' first
    | assumption | intro x | apply raiseAt_keeps | apply loseDimm_keeps | apply startReform_keeps
    | apply setDch_keeps | apply each_keeps | apply retryWaiting_keeps | apply feedOff_keeps
    | apply raise_keeps | apply fence_keeps | apply setSocket_keeps | apply Keeps.ite
    | simp only [↓Keeps.rest_iff]

theorem fenceDch_keeps {x1 x2} (h : Keeps z s) : Keeps z (State.fenceDch s x1 x2) := by
  unfold State.fenceDch
  with_reducible repeat' first | assumption | apply fenceAs_keeps

theorem dimmRound_keeps {x1 x2 x3} (h : Keeps z s) : Keeps z (State.dimmRound s x1 x2 x3) := by
  unfold State.dimmRound
  with_reducible repeat' first
    | assumption | apply dimmReading_keeps | apply fenceAs_keeps | apply setRegFld_keeps
    | apply raise_keeps | apply setSocket_keeps | apply fenceDch_keeps | apply Keeps.ite

theorem dimmRounds_keeps {x1 x2} (h : Keeps z s) : Keeps z (State.dimmRounds s x1 x2) := by
  unfold State.dimmRounds
  with_reducible repeat' first | assumption | intro x | apply dimmRound_keeps | apply each_keeps

theorem headReq_keeps {x1 x2} (h : Keeps z s) : Keeps z (State.headReq s x1 x2) := by
  unfold State.headReq
  with_reducible repeat' first | assumption | apply passReq_keeps | apply setHead_keeps | apply Keeps.ite

theorem cxlAtomic_keeps {x1 x2 x3 x4 x5 x6 x7} (h : Keeps z s) : Keeps z (State.cxlAtomic s x1 x2 x3 x4 x5 x6 x7) := by
  unfold State.cxlAtomic
  with_reducible repeat' first | assumption | apply passAtomic_keeps | apply headReq_keeps | apply Keeps.ite

theorem setCaps_keeps  (h : Keeps z s) : Keeps z (State.setCaps s) := by
  unfold State.setCaps
  with_reducible repeat' first | assumption | simp only [↓Keeps.rest_iff]

theorem throttleRelease_keeps  (h : Keeps z s) : Keeps z (State.throttleRelease s) := by
  unfold State.throttleRelease
  with_reducible repeat' first
    | assumption | apply memoryEvent_keeps | apply postAll_keeps | apply setCaps_keeps | apply Keeps.ite
    | simp only [↓Keeps.rest_iff]

theorem socketEmpty_keeps {x1 x2} (h : Keeps z s) : Keeps z (State.socketEmpty s x1 x2) := by
  unfold State.socketEmpty
  with_reducible repeat' first | assumption | apply raiseAt_keeps | apply setDch_keeps

theorem setTierRegs_keeps  (h : Keeps z s) : Keeps z (State.setTierRegs s) := by
  unfold State.setTierRegs
  with_reducible repeat' first | assumption | apply setReg_keeps | apply setRegFld_keeps

theorem checkShort_keeps  (h : Keeps z s) : Keeps z (State.checkShort s) := by
  unfold State.checkShort
  with_reducible repeat' first | assumption | apply raise_keeps | apply Keeps.ite | simp only [↓Keeps.rest_iff]

theorem newBudget_keeps {x1} (h : Keeps z s) : Keeps z (State.newBudget s x1) := by
  unfold State.newBudget
  with_reducible repeat' first
    | assumption | apply checkShort_keeps | apply handHigh_keeps | apply handAll_keeps | apply raise_keeps
    | apply Keeps.ite | simp only [↓Keeps.rest_iff]

theorem tierFormed_keeps  (h : Keeps z s) : Keeps z (State.tierFormed s) := by
  unfold State.tierFormed
  with_reducible repeat' first
    | assumption | apply raiseAt_keeps | apply setTierRegs_keeps | apply newBudget_keeps | apply Keeps.ite

theorem decidePopulation_keeps  (h : Keeps z s) : Keeps z (State.decidePopulation s) := by
  unfold State.decidePopulation
  with_reducible repeat' first
    | assumption | intro x | apply tierFormed_keeps | apply setDch_keeps | apply each_keeps
    | apply feedOff_keeps | apply Keeps.ite | simp only [↓Keeps.rest_iff]

theorem socketsKnown_keeps  (h : Keeps z s) : Keeps z (State.socketsKnown s) := by
  unfold State.socketsKnown
  with_reducible repeat' first | assumption | apply decidePopulation_keeps | apply Keeps.ite

theorem spdRead_keeps {x1 x2} (h : Keeps z s) : Keeps z (State.spdRead s x1 x2) := by
  unfold State.spdRead
  with_reducible repeat' first
    | assumption | apply setReg_keeps | apply setRegFld_keeps | apply setSocket_keeps
    | apply socketEmpty_keeps | apply socketsKnown_keeps | apply Keeps.ite

theorem mboxRsp_keeps {x1 x2 x3} (h : Keeps z s) : Keeps z (State.mboxRsp s x1 x2 x3) := by
  unfold State.mboxRsp
  with_reducible repeat' first | assumption | apply emit_keeps

theorem clearRecords_keeps {x1 x2 x3} (h : Keeps z s) : Keeps z (State.clearRecords s x1 x2 x3) := by
  unfold State.clearRecords
  with_reducible repeat' first | assumption | apply mboxRsp_keeps | apply setHead_keeps | apply Keeps.ite

theorem abortOffers_keeps {x1} (h : Keeps z s) : Keeps z (State.abortOffers s x1) := by
  unfold State.abortOffers
  with_reducible repeat' first
    | assumption | intro x | apply each_keeps | apply setHead_keeps | apply endBinding_keeps

theorem endBarriers_keeps {x1 x2} (h : Keeps z s) : Keeps z (State.endBarriers s x1 x2) := by
  unfold State.endBarriers
  with_reducible repeat' first
    | assumption | intro x | apply each_keeps | apply setHead_keeps | apply emit_keeps

theorem headResetCommon_keeps {x1} (h : Keeps z s) : Keeps z (State.headResetCommon s x1) := by
  unfold State.headResetCommon
  with_reducible repeat' first
    | assumption | apply abortOffers_keeps | apply openWindow_keeps | apply raise_keeps
    | apply endBarriers_keeps | apply setHead_keeps

theorem headReset_keeps {x1} (h : Keeps z s) : Keeps z (State.headReset s x1) := by
  unfold State.headReset
  with_reducible repeat' first | assumption | apply headResetCommon_keeps | apply setHead_keeps

theorem headDown_keeps {x1} (h : Keeps z s) : Keeps z (State.headDown s x1) := by
  unfold State.headDown
  with_reducible repeat' first
    | assumption | apply setPort_keeps | apply headReset_keeps | apply raise_keeps | apply setHead_keeps

theorem lateAlarm_keeps {x1 x2} (h : Keeps z s) : Keeps z (State.lateAlarm s x1 x2) := by
  unfold State.lateAlarm
  with_reducible repeat' first | assumption | apply raise_keeps | apply countUp_keeps | apply postRec_keeps

theorem alarmFor_keeps {x1 x2} (h : Keeps z s) : Keeps z (State.alarmFor s x1 x2) := by
  unfold State.alarmFor
  with_reducible repeat' first
    | assumption | apply headDown_keeps | apply sendRsp_keeps | apply lateAlarm_keeps | apply Keeps.ite | split

theorem serveWrong_keeps {x1 x2} (h : Keeps z s) : Keeps z (State.serveWrong s x1 x2) := by
  unfold State.serveWrong
  with_reducible repeat' first
    | assumption | intro x | apply fillWaiter_keeps | apply each_keeps | apply setMiss_keeps
    | apply alarmFor_keeps | apply Keeps.ite

theorem holdEntry_keeps {x1 x2} (h : Keeps z s) : Keeps z (State.holdEntry s x1 x2) := by
  unfold State.holdEntry
  with_reducible repeat' first
    | assumption | apply perfEvent_keeps | apply badAll_keeps | apply setSlice_keeps | apply Keeps.ite

theorem notePace_keeps {x1 x2} (h : Keeps z s) : Keeps z (State.notePace s x1 x2) := by
  unfold State.notePace
  with_reducible repeat' first | assumption | apply setSlice_keeps | apply Keeps.ite

theorem retryBehind_keeps {x1} (h : Keeps z s) : Keeps z (State.retryBehind s x1) := by
  unfold State.retryBehind
  with_reducible repeat' first
    | assumption | intro x | apply each_keeps | apply lookRead_keeps | apply setSlice_keeps

theorem missEntry_keeps {x1 x2} (h : Keeps z s) : Keeps z (State.missEntry s x1 x2) := by
  unfold State.missEntry
  with_reducible repeat' first
    | assumption | apply perfEvent_keeps | apply setMiss_keeps | apply setSlice_keeps
    | simp only [↓Keeps.rest_iff] | split

theorem guardEntry_keeps {x1 x2} (h : Keeps z s) : Keeps z (State.guardEntry s x1 x2) := by
  unfold State.guardEntry
  with_reducible repeat' first
    | assumption | intro x | apply freeLane_keeps | apply each_keeps | apply answerRefused_keeps
    | apply answerAtomic_keeps | apply Keeps.ite

theorem releaseReady_keeps {x1 x2} (h : Keeps z s) : Keeps z (State.releaseReady s x1 x2) := by
  unfold State.releaseReady
  with_reducible repeat' first
    | assumption | apply releaseNow_keeps | apply missEntry_keeps | apply guardEntry_keeps | split

theorem releaseEntry_keeps {x1 x2} (h : Keeps z s) : Keeps z (State.releaseEntry s x1 x2) := by
  unfold State.releaseEntry
  with_reducible repeat' first
    | assumption | apply holdEntry_keeps | apply notePace_keeps | apply admitAll_keeps
    | apply retryBehind_keeps | apply releaseReady_keeps | simp only [↓Keeps.rest_iff] | split

theorem mailbox_keeps {x1 : Fin 64} {x2 : State → State} (g2 : ∀ y0, Keeps z y0 → Keeps z (x2 y0)) (h : Keeps z s) : Keeps z (State.mailbox s x1 x2) := by
  unfold State.mailbox
  with_reducible repeat' first | assumption | apply drain_keeps | apply g2 | apply Keeps.ite

theorem mboxGet_keeps {x1 x2} (h : Keeps z s) : Keeps z (State.mboxGet s x1 x2) := by
  unfold State.mboxGet
  with_reducible repeat' first | assumption | intro x | apply mailbox_keeps | apply mboxRsp_keeps

theorem stale_keeps  (h : Keeps z s) : Keeps z (State.stale s) := by
  unfold State.stale
  with_reducible repeat' first | assumption | apply countUp_keeps

theorem dropRemote_keeps {x1} (h : Keeps z s) : Keeps z (State.dropRemote s x1) := by
  unfold State.dropRemote
  with_reducible repeat' first | assumption | apply retryWaitq_keeps | simp only [↓Keeps.rest_iff]

theorem barrierPeer_keeps {x1 x2 x3 x4} (h : Keeps z s) : Keeps z (State.barrierPeer s x1 x2 x3 x4) := by
  unfold State.barrierPeer
  with_reducible repeat' first | assumption | apply setHead_keeps

theorem barrierDoneRsp_keeps {x1} (h : Keeps z s) : Keeps z (State.barrierDoneRsp s x1) := by
  unfold State.barrierDoneRsp
  with_reducible repeat' first
    | assumption | apply stale_keeps | apply dropRemote_keeps | apply barrierPeer_keeps | split

theorem prepTimeout_keeps {x1} (h : Keeps z s) : Keeps z (State.prepTimeout s x1) := by
  unfold State.prepTimeout
  with_reducible repeat' first | assumption | apply prepAnswer_keeps | split

theorem dropOffer_keeps {x1 x2 x3} (h : Keeps z s) : Keeps z (State.dropOffer s x1 x2 x3) := by
  unfold State.dropOffer
  with_reducible repeat' first
    | assumption | apply askUnbind_keeps | apply setHead_keeps | apply endBinding_keeps

theorem dcAddTimeout_keeps {x1 x2} (h : Keeps z s) : Keeps z (State.dcAddTimeout s x1 x2) := by
  unfold State.dcAddTimeout
  with_reducible repeat' first | assumption | apply raise_keeps | apply dropOffer_keeps | split

theorem linkOut_keeps {x1 x2} (h : Keeps z s) : Keeps z (State.linkOut s x1 x2) := by
  unfold State.linkOut
  with_reducible repeat' first | assumption | apply setPort_keeps | apply emit_keeps | apply Keeps.ite

theorem floodLink_keeps {x1 x2} (h : Keeps z s) : Keeps z (State.floodLink s x1 x2) := by
  unfold State.floodLink
  with_reducible repeat' first | assumption | intro x | apply linkOut_keeps | apply each_keeps

theorem commitShadow_keeps {x1 x2} (h : Keeps z s) : Keeps z (State.commitShadow s x1 x2) := by
  unfold State.commitShadow
  have h1 : ∀ w, Keeps z { s.setReg x1 x2 w with shadow := s.shadow.del (regAddr x1 x2) } := fun w =>
    h.put Tab.wf_setReg Tab.sorted_del id id id id id id id
  have h2 : ∀ o : Option Word, Keeps z (match o with
      | some w => { s.setReg x1 x2 w with shadow := s.shadow.del (regAddr x1 x2) }
      | none => s) := fun o => by cases o <;> [exact h; exact h1 _]
  split
  · exact h
  · exact Keeps.ite (h2 _) (h2 _).rest

theorem originate_keeps  (h : Keeps z s) : Keeps z (State.originate s) := by
  unfold State.originate
  with_reducible repeat' first
    | assumption | intro x | apply floodLink_keeps | apply commitShadow_keeps | apply each_keeps
    | apply Keeps.ite | simp only [↓Keeps.rest_iff]

theorem linkChanged_keeps  (h : Keeps z s) : Keeps z (State.linkChanged s) := by
  unfold State.linkChanged
  with_reducible repeat' first | assumption | apply originate_keeps | simp only [↓Keeps.rest_iff]

theorem portDown_keeps {x1 x2 x3} (h : Keeps z s) : Keeps z (State.portDown s x1 x2 x3) := by
  unfold State.portDown
  with_reducible repeat' first
    | assumption | apply setPort_keeps | apply raiseAt_keeps | apply linkChanged_keeps | apply Keeps.ite
    | simp only [↓Keeps.rest_iff]

theorem trainFailed_keeps {x1 x2} (h : Keeps z s) : Keeps z (State.trainFailed s x1 x2) := by
  unfold State.trainFailed
  with_reducible repeat' first | assumption | apply portDown_keeps

theorem linkAuthFail_keeps {x1} (h : Keeps z s) : Keeps z (State.linkAuthFail s x1) := by
  unfold State.linkAuthFail
  with_reducible repeat' first | assumption | apply raiseAt_keeps | apply trainFailed_keeps

theorem sendProof_keeps {x1} (h : Keeps z s) : Keeps z (State.sendProof s x1) := by
  unfold State.sendProof
  with_reducible repeat' first | assumption | apply linkOut_keeps | apply Keeps.ite

theorem kxCert_keeps {x1 x2} (h : Keeps z s) : Keeps z (State.kxCert s x1 x2) := by
  unfold State.kxCert
  with_reducible repeat' first
    | assumption | apply setPort_keeps | apply linkAuthFail_keeps | apply sendProof_keeps | apply Keeps.ite

theorem mgtIn_keeps {x1 : Nat} {x2 : LinkMsg} {x3 : State → State} (g3 : ∀ y0, Keeps z y0 → Keeps z (x3 y0)) (h : Keeps z s) : Keeps z (State.mgtIn s x1 x2 x3) := by
  unfold State.mgtIn
  with_reducible repeat' first | assumption | apply setPort_keeps | apply g3 | apply Keeps.ite

theorem actWaitEnd_keeps  (h : Keeps z s) : Keeps z (State.actWaitEnd s) := by
  unfold State.actWaitEnd
  with_reducible repeat' first | assumption | apply fwDone_keeps | apply Keeps.ite | simp only [↓Keeps.rest_iff]

theorem supLog_keeps {x1 x2 x3 x4} (h : Keeps z s) : Keeps z (State.supLog s x1 x2 x3 x4) := by
  unfold State.supLog
  with_reducible repeat' first | assumption | apply Keeps.ite | simp only [↓Keeps.rest_iff]

theorem noticeHeads_keeps {x1} (h : Keeps z s) : Keeps z (State.noticeHeads s x1) := by
  unfold State.noticeHeads
  with_reducible repeat' first | assumption | intro x | apply each_keeps | apply postRec_keeps

theorem setRing_keeps {x1 x2} (h : Keeps z s) : Keeps z (State.setRing s x1 x2) := by
  unfold State.setRing
  with_reducible repeat' first | assumption | apply raise_keeps | apply Keeps.ite | simp only [↓Keeps.rest_iff]

theorem logRecord_keeps {x1} (h : Keeps z s) : Keeps z (State.logRecord s x1) := by
  unfold State.logRecord
  with_reducible repeat' first
    | assumption | apply raise_keeps | apply setRing_keeps | simp only [↓Keeps.rest_iff] | split

theorem programSpill_keeps  (h : Keeps z s) : Keeps z (State.programSpill s) := by
  unfold State.programSpill
  with_reducible repeat' first | assumption | apply Keeps.ite | simp only [↓Keeps.rest_iff]

theorem writeRecord_keeps {x1} (h : Keeps z s) : Keeps z (State.writeRecord s x1) := by
  unfold State.writeRecord
  with_reducible repeat' first
    | assumption | apply logRecord_keeps | apply programSpill_keeps | simp only [↓Keeps.rest_iff] | split

theorem nextSeq_keeps  (h : Keeps z s) : Keeps z (State.nextSeq s).2 := by
  unfold State.nextSeq
  with_reducible repeat' first | assumption | apply setRing_keeps | apply Keeps.ite | simp only [↓Keeps.rest_iff]

theorem recordLatched_keeps {x1} (h : Keeps z s) : Keeps z (State.recordLatched s x1) := by
  unfold State.recordLatched
  with_reducible repeat' first
    | assumption | intro x | apply writeRecord_keeps | apply each_keeps | apply nextSeq_keeps | apply Keeps.ite
    | simp only [↓Keeps.rest_iff]

theorem recordEvent_keeps {x1} (h : Keeps z s) : Keeps z (State.recordEvent s x1) := by
  unfold State.recordEvent
  with_reducible repeat' first | assumption | apply recordLatched_keeps | simp only [↓Keeps.rest_iff]

theorem enterSafe_keeps {x1} (h : Keeps z s) : Keeps z (State.enterSafe s x1) := by
  unfold State.enterSafe
  with_reducible repeat' first | assumption | apply raise_keeps | apply Keeps.ite | simp only [↓Keeps.rest_iff]

theorem takeLatched_keeps {x1} (h : Keeps z s) : Keeps z (State.takeLatched s x1) := by
  unfold State.takeLatched
  with_reducible repeat' first
    | assumption | apply setReg_keeps | apply recordEvent_keeps | apply enterSafe_keeps
    | apply countUp_keeps | apply Keeps.ite | simp only [↓Keeps.rest_iff]

theorem endBarriersAll_keeps {x1} (h : Keeps z s) : Keeps z (State.endBarriersAll s x1) := by
  unfold State.endBarriersAll
  with_reducible repeat' first
    | assumption | intro x | apply freeHeld_keeps | apply each_keeps | apply endBarriers_keeps

theorem takeAll_keeps  (h : Keeps z s) : Keeps z (State.takeAll s) := by
  unfold State.takeAll
  with_reducible repeat' first
    | assumption | intro x | apply noticeHeads_keeps | apply each_keeps | apply takeLatched_keeps
    | apply endBarriersAll_keeps | apply Keeps.ite | simp only [↓Keeps.rest_iff]

theorem tearPage_keeps {x1 x2} (h : Keeps z s) : Keeps z (State.tearPage s x1 x2) := by
  unfold State.tearPage
  with_reducible repeat' first | assumption | simp only [↓Keeps.rest_iff]

theorem tearStripes_keeps  (h : Keeps z s) : Keeps z (State.tearStripes s) := by
  unfold State.tearStripes
  with_reducible repeat' first
    | assumption | intro x | apply tearPage_keeps | apply each_keeps | simp only [↓Keeps.rest_iff]

theorem cold_keeps {x1} (h : Keeps z s) : Keeps z (State.cold s x1) := by
  unfold State.cold
  exact (tearStripes_keeps (takeAll_keeps h)).put Tab.wf_filter (fun _ => rfl) (fun _ => rfl) (fun _ => rfl) (fun _ => rfl)
    (fun _ => rfl) (fun _ => rfl) (fun _ => rfl) (fun _ => rfl)

theorem reachOff_keeps {x1} (h : Keeps z s) : Keeps z (State.reachOff s x1) := by
  unfold State.reachOff
  have h1 : Keeps z ((s.supLog 0x05 0xff 0 0).cold (s.supLog 0x05 0xff 0 0).flt.lastSafe) := cold_keeps (supLog_keeps h)
  simp only [↓Keeps.pwr_iff]
  refine KeepsPwr.intro (.inr ?_) (.inr ?_) h1.rest
  · cases x1 <;> (simp only [Pwr.off]; decide)
  · simp only [Pwr.off]; decide

theorem thermalRelease_keeps  (h : Keeps z s) : Keeps z (State.thermalRelease s) := by
  unfold State.thermalRelease
  with_reducible repeat' first | assumption | apply reachOff_keeps | apply raise_keeps

theorem applyBreakout_keeps {x1 x2} (h : Keeps z s) : Keeps z (State.applyBreakout s x1 x2) := by
  unfold State.applyBreakout
  with_reducible repeat' first | assumption | apply raiseAt_keeps | apply setRegFld_keeps | apply Keeps.ite

theorem trainStart_keeps {x1} (h : Keeps z s) : Keeps z (State.trainStart s x1) := by
  unfold State.trainStart
  with_reducible repeat' first | assumption | apply setPort_keeps

theorem beginTraining_keeps {x1} (h : Keeps z s) : Keeps z (State.beginTraining s x1) := by
  unfold State.beginTraining
  with_reducible repeat' first | assumption | apply trainStart_keeps | apply Keeps.ite

theorem startBlock_keeps {x1} (h : Keeps z s) : Keeps z (State.startBlock s x1) := by
  unfold State.startBlock
  with_reducible repeat' first
    | assumption | intro x | apply each_keeps | apply applyBreakout_keeps | apply beginTraining_keeps
    | apply setHead_keeps | apply Keeps.ite

theorem startErases_keeps {x1} (h : Keeps z s) : Keeps z (State.startErases s x1) := by
  unfold State.startErases
  with_reducible repeat' first | assumption | intro x | apply each_keeps | apply setBusy_keeps | apply Keeps.ite

theorem retryTransit_keeps  (h : Keeps z s) : Keeps z (State.retryTransit s) := by
  unfold State.retryTransit
  with_reducible repeat' first
    | assumption | intro x | apply routeOut_keeps | apply each_keeps | apply Keeps.ite | simp only [↓Keeps.rest_iff]

theorem resumeBlock_keeps {x1} (h : Keeps z s) : Keeps z (State.resumeBlock s x1) := by
  unfold State.resumeBlock
  with_reducible repeat' first
    | assumption | apply startBlock_keeps | apply pump_keeps | apply retryWaitq_keeps | apply each_keeps
    | apply freeSleepq_keeps | apply admitAll_keeps | apply retryWaiting_keeps | apply startErases_keeps
    | apply retryTransit_keeps | split

theorem sendOffer_keeps {x1} (h : Keeps z s) : Keeps z (State.sendOffer s x1) := by
  unfold State.sendOffer
  with_reducible repeat' first | assumption | apply setPort_keeps | apply fresh_keeps | apply linkOut_keeps

theorem startKeying_keeps {x1} (h : Keeps z s) : Keeps z (State.startKeying s x1) := by
  unfold State.startKeying
  with_reducible repeat' first | assumption | apply sendOffer_keeps | apply setPort_keeps | apply linkOut_keeps

theorem verifyEnd_keeps {x1 x2} (h : Keeps z s) : Keeps z (State.verifyEnd s x1 x2) := by
  unfold State.verifyEnd
  with_reducible repeat' first
    | assumption | apply setPort_keeps | apply portDown_keeps | apply startKeying_keeps
    | apply retryTransit_keeps | apply trainFailed_keeps | apply linkChanged_keeps | apply Keeps.ite

theorem mctpDrop_keeps  (h : Keeps z s) : Keeps z (State.mctpDrop s) := by
  unfold State.mctpDrop
  with_reducible repeat' first | assumption | simp only [↓Keeps.rest_iff]

theorem mctpTake_keeps {x1 x2} (h : Keeps z s) : Keeps z (State.mctpTake s x1 x2) := by
  unfold State.mctpTake
  with_reducible repeat' first | assumption | apply mctpDrop_keeps | apply Keeps.ite | simp only [↓Keeps.rest_iff]

theorem unmapped_keeps  (h : Keeps z s) : Keeps z (State.unmapped s) := by
  unfold State.unmapped
  with_reducible repeat' first | assumption | apply raise_keeps | apply countUp_keeps | apply Keeps.ite

theorem headDenied_keeps {x1} (h : Keeps z s) : Keeps z (State.headDenied s x1) := by
  unfold State.headDenied
  with_reducible repeat' first | assumption | apply raise_keeps | apply countUp_keeps | apply Keeps.ite

theorem reject_keeps {x1} (h : Keeps z s) : Keeps z (State.reject s x1) := by
  unfold State.reject
  with_reducible repeat' first | assumption | apply raise_keeps | simp only [↓Keeps.rest_iff]

theorem writeDchCtl_keeps {x1 x2} (h : Keeps z s) : Keeps z (State.writeDchCtl s x1 x2) := by
  unfold State.writeDchCtl
  with_reducible repeat' first
    | assumption | apply setSocket_keeps | apply unfence_keeps | apply fenceDch_keeps | apply Keeps.ite

theorem slotFenced_keeps {x1} (h : Keeps z s) : Keeps z (State.slotFenced s x1) := by
  unfold State.slotFenced
  with_reducible repeat' first
    | assumption | apply raiseAt_keeps | apply setKrange_keeps | apply fence_keeps | apply unfence_keeps
    | apply Keeps.ite

theorem fenceChan1_keeps {x1 x2} (h : Keeps z s) : Keeps z (State.fenceChan1 s x1 x2) := by
  unfold State.fenceChan1
  with_reducible repeat' first
    | assumption | apply fenceDie_keeps | apply raiseAt_keeps | apply each_keeps | apply setRegFld_keeps
    | apply fence_keeps | apply Keeps.ite

theorem fenceChan_keeps {x1 x2} (h : Keeps z s) : Keeps z (State.fenceChan s x1 x2) := by
  unfold State.fenceChan
  with_reducible repeat' first
    | assumption | intro x | apply each_keeps | apply fence_keeps | apply fenceChan1_keeps | apply Keeps.ite

theorem failPart_keeps {x1} (h : Keeps z s) : Keeps z (State.failPart s x1) := by
  unfold State.failPart
  with_reducible repeat' first
    | assumption | apply setLive_keeps | apply raise_keeps | apply Keeps.ite | simp only [↓Keeps.rest_iff]

theorem abortCore_keeps {x1} (h : Keeps z s) : Keeps z (State.abortCore s x1) := by
  unfold State.abortCore
  with_reducible repeat' first | assumption | apply finish_keeps | apply Keeps.ite

theorem coreFault_keeps {x1} (h : Keeps z s) : Keeps z (State.coreFault s x1) := by
  unfold State.coreFault
  with_reducible repeat' first
    | assumption | apply abortCore_keeps | apply raiseAt_keeps | apply setCore_keeps | apply fence_keeps

theorem blockDown_keeps {x1 x2} (h : Keeps z s) : Keeps z (State.blockDown s x1 x2) := by
  unfold State.blockDown
  with_reducible repeat' first
    | assumption | intro x | apply setPort_keeps | apply headDown_keeps | apply portDown_keeps
    | apply each_keeps | apply setHead_keeps | apply Keeps.ite

theorem fenceSlice_keeps {x1} (h : Keeps z s) : Keeps z (State.fenceSlice s x1) := by
  unfold State.fenceSlice
  with_reducible repeat' first
    | assumption | apply pump_keeps | apply forceLanes_keeps | apply drainMarks_keeps | apply fence_keeps
    | apply Keeps.ite

theorem slotParity_keeps {x1} (h : Keeps z s) : Keeps z (State.slotParity s x1) := by
  unfold State.slotParity
  with_reducible repeat' first
    | assumption | apply raiseAt_keeps | apply setKrange_keeps | apply fence_keeps | apply Keeps.ite

theorem inject_keeps {x1 x2 x3} (h : Keeps z s) : Keeps z (State.inject s x1 x2 x3) := by
  unfold State.inject
  with_reducible repeat' first
    | assumption | intro x | apply slotFenced_keeps | apply fenceDie_keeps | apply fenceChan_keeps
    | apply failPart_keeps | apply portDown_keeps | apply each_keeps | apply raise_keeps
    | apply fence_keeps | apply coreFault_keeps | apply fenceChan1_keeps | apply blockDown_keeps
    | apply fenceSlice_keeps | apply slotParity_keeps | apply fenceDch_keeps | split

theorem writeInj_keeps {x1} (h : Keeps z s) : Keeps z (State.writeInj s x1) := by
  unfold State.writeInj
  with_reducible repeat' first | assumption | apply inject_keeps | apply Keeps.ite

theorem install_keeps {x1 x2 x3 x4} (h : Keeps z s) : Keeps z (State.install s x1 x2 x3 x4).2 := by
  unfold State.install
  with_reducible repeat' first
    | assumption | apply perfEvent_keeps | apply setSlice_keeps | simp only [↓Keeps.rest_iff] | split

theorem preloadLine_keeps {x1 x2 x3} (h : Keeps z s) : Keeps z (State.preloadLine s x1 x2 x3) := by
  unfold State.preloadLine
  with_reducible repeat' first
    | assumption | apply missRead_keeps | apply install_keeps | apply setSlice_keeps
    | simp only [↓Keeps.rest_iff] | split

theorem preloadMore_keeps {x1 x2 x3} (h : Keeps z s) : Keeps z (State.preloadMore s x1 x2 x3) := by
  induction x3 generalizing s x1 x2 with
  | zero => exact h
  | succ n ih =>
    unfold State.preloadMore
    with_reducible repeat' first
      | assumption | apply ih | apply setSlice_keeps | apply preloadLine_keeps | apply Keeps.ite | split

theorem startPreload_keeps {x1 x2} (h : Keeps z s) : Keeps z (State.startPreload s x1 x2) := by
  unfold State.startPreload
  with_reducible repeat' first | assumption | apply preloadMore_keeps | apply setSlice_keeps | apply Keeps.ite

theorem writeLockCtl_keeps {x1 x2} (h : Keeps z s) : Keeps z (State.writeLockCtl s x1 x2) := by
  unfold State.writeLockCtl
  with_reducible repeat' first | assumption | intro x | apply startPreload_keeps | apply each_keeps

theorem openConsent_keeps  (h : Keeps z s) : Keeps z (State.openConsent s) := by
  unfold State.openConsent
  with_reducible repeat' first | assumption | apply setReg_keeps | apply fresh_keeps | simp only [↓Keeps.rest_iff]

theorem writeMchCtl_keeps {x1 x2} (h : Keeps z s) : Keeps z (State.writeMchCtl s x1 x2) := by
  unfold State.writeMchCtl
  with_reducible repeat' first
    | assumption | intro x | apply fenceChan_keeps | apply fenceDieFor_keeps | apply each_keeps
    | apply Keeps.ite

theorem evrCursor_keeps {x1} (h : Keeps z s) : Keeps z (State.evrCursor s x1) := by
  unfold State.evrCursor
  with_reducible repeat' first | assumption | simp only [↓Keeps.rest_iff]

theorem setPassword_keeps {x1 x2 x3} (h : Keeps z s) : Keeps z (State.setPassword s x1 x2 x3) := by
  unfold State.setPassword
  with_reducible repeat' first | assumption | apply reject_keeps | apply Keeps.ite | simp only [↓Keeps.rest_iff]

theorem clearEntered_keeps {x1} (h : Keeps z s) : Keeps z (State.clearEntered s x1) := by
  unfold State.clearEntered
  with_reducible repeat' first | assumption | simp only [↓Keeps.rest_iff]

theorem unlock_keeps {x1 x2 x3} (h : Keeps z s) : Keeps z (State.unlock s x1 x2 x3) := by
  unfold State.unlock
  with_reducible repeat' first | assumption | apply present_keeps | apply Keeps.ite | simp only [↓Keeps.rest_iff]

theorem panPwctl_keeps {x1 x2} (h : Keeps z s) : Keeps z (State.panPwctl s x1 x2) := by
  unfold State.panPwctl
  with_reducible repeat' first
    | assumption | apply setPassword_keeps | apply clearEntered_keeps | apply unlock_keeps
    | simp only [↓Keeps.rest_iff] | split

theorem evrMove_keeps {x1 x2} (h : Keeps z s) : Keeps z (State.evrMove s x1 x2) := by
  unfold State.evrMove
  with_reducible repeat' first | assumption | simp only [↓Keeps.rest_iff] | split

theorem evrNext_keeps {x1} (h : Keeps z s) : Keeps z (State.evrNext s x1) := by
  unfold State.evrNext
  with_reducible repeat' first | assumption | apply evrMove_keeps | split

theorem when__keeps {x1 : Bool} {x2 : State → State} (g2 : ∀ y0, Keeps z y0 → Keeps z (x2 y0)) (h : Keeps z s) : Keeps z (State.when_ s x1 x2) := by
  unfold State.when_
  with_reducible repeat' first | assumption | apply g2 | apply Keeps.ite

theorem cmdOverflow_keeps  (h : Keeps z s) : Keeps z (State.cmdOverflow s) := by
  unfold State.cmdOverflow
  with_reducible repeat' first | assumption | apply setReg_keeps | apply raise_keeps | simp only [↓Keeps.rest_iff]

theorem cmdCollide_keeps  (h : Keeps z s) : Keeps z (State.cmdCollide s) := by
  unfold State.cmdCollide
  with_reducible repeat' first | assumption | apply setReg_keeps | apply reject_keeps | apply raise_keeps

theorem pushWord_keeps {x1 x2 x3} (h : Keeps z s) : Keeps z (State.pushWord s x1 x2 x3) := by
  unfold State.pushWord
  with_reducible repeat' first
    | assumption | apply command_keeps | apply cmdOverflow_keeps | apply cmdCollide_keeps | apply Keeps.ite
    | simp only [↓Keeps.rest_iff]

theorem supClear_keeps  (h : Keeps z s) : Keeps z (State.supClear s) := by
  unfold State.supClear
  with_reducible repeat' first | assumption | simp only [↓Keeps.rest_iff]

theorem writeLogCfg_keeps {x1} (h : Keeps z s) : Keeps z (State.writeLogCfg s x1) := by
  unfold State.writeLogCfg
  with_reducible repeat' first | assumption | apply supClear_keeps | apply Keeps.ite | simp only [↓Keeps.rest_iff]

theorem clearPerf_keeps {x1} (h : Keeps z s) : Keeps z (State.clearPerf s x1) := by
  unfold State.clearPerf
  exact setReg_keeps (h.put id id Tab.wf_filter Tab.all_filter Tab.wf_del (Tab.all_del _) id id id)

theorem writeGctl_keeps {x1} (h : Keeps z s) : Keeps z (State.writeGctl s x1) := by
  unfold State.writeGctl
  with_reducible repeat' first
    | assumption | apply clearPerf_keeps | apply each_keeps | apply Keeps.ite | simp only [↓Keeps.rest_iff]

theorem supCursor_keeps {x1} (h : Keeps z s) : Keeps z (State.supCursor s x1) := by
  unfold State.supCursor
  with_reducible repeat' first | assumption | simp only [↓Keeps.rest_iff]

theorem setShadow_keeps {x1 x2 x3} (h : Keeps z s) : Keeps z (State.setShadow s x1 x2 x3) := h.put id Tab.sorted_put id id id id id id id

theorem plainWrite_keeps {x1 x2 x3} (h : Keeps z s) : Keeps z (State.plainWrite s x1 x2 x3) := by
  unfold State.plainWrite
  with_reducible repeat' first | assumption | apply setReg_keeps | apply setShadow_keeps | apply Keeps.ite

theorem cancelCommit_keeps  (h : Keeps z s) : Keeps z (State.cancelCommit s) := by
  unfold State.cancelCommit
  with_reducible repeat' first | assumption | apply resumeSegs_keeps | apply Keeps.ite | simp only [↓Keeps.rest_iff]

theorem writeWindow_keeps {x1 x2} (h : Keeps z s) : Keeps z (State.writeWindow s x1 x2) := by
  unfold State.writeWindow
  with_reducible repeat' first | assumption | apply cancelCommit_keeps | simp only [↓Keeps.rest_iff]

theorem supNextOp_keeps {x1} (h : Keeps z s) : Keeps z (State.supNextOp s x1) := by
  unfold State.supNextOp
  with_reducible repeat' first | assumption | simp only [↓Keeps.rest_iff] | split

theorem writeLogCtl_keeps {x1} (h : Keeps z s) : Keeps z (State.writeLogCtl s x1) := by
  unfold State.writeLogCtl
  with_reducible repeat' first | assumption | apply supNextOp_keeps | apply supClear_keeps | apply Keeps.ite

theorem writePortCfg_keeps {x1 x2} (h : Keeps z s) : Keeps z (State.writePortCfg s x1 x2) := by
  unfold State.writePortCfg
  with_reducible repeat' first
    | assumption | apply setReg_keeps | apply headReset_keeps | apply blockDown_keeps
    | apply setHead_keeps | apply Keeps.ite | simp only [↓Keeps.rest_iff]

theorem retrain_keeps {x1 x2} (h : Keeps z s) : Keeps z (State.retrain s x1 x2) := by
  unfold State.retrain
  with_reducible repeat' first
    | assumption | intro x | apply headDown_keeps | apply portDown_keeps | apply each_keeps
    | apply fence_keeps | apply beginTraining_keeps | apply Keeps.ite

theorem writeLcCtl_keeps {x1 x2} (h : Keeps z s) : Keeps z (State.writeLcCtl s x1 x2) := by
  unfold State.writeLcCtl
  with_reducible repeat' first | assumption | apply setReg_keeps | apply setRegFld_keeps | apply Keeps.ite

theorem writeInvCtl_keeps {x1 x2} (h : Keeps z s) : Keeps z (State.writeInvCtl s x1 x2) := by
  unfold State.writeInvCtl
  with_reducible repeat' first | assumption | apply queueInv_keeps | apply Keeps.ite

theorem fenceReactionEnd_keeps {x1 x2} (h : Keeps z s) : Keeps z (State.fenceReactionEnd s x1 x2) := by
  unfold State.fenceReactionEnd
  with_reducible repeat' first | assumption | apply Keeps.ite | simp only [↓Keeps.rest_iff]

theorem resetUnit_keeps {x1} (h : Keeps z s) : Keeps z (State.resetUnit s x1) := by
  unfold State.resetUnit
  exact h.put (fun i => Tab.wf_fold (Tab.wf_filter i)) Tab.sorted_filter Tab.wf_filter Tab.all_filter Tab.wf_del (Tab.all_del _) id id id

theorem dropBulk_keeps {x1} (h : Keeps z s) : Keeps z (State.dropBulk s x1) := by
  unfold State.dropBulk
  with_reducible repeat' first
    | assumption | apply freeSegs_keeps | apply tellOp_keeps | apply dropOp_keeps | split

theorem sveReset_keeps  (h : Keeps z s) : Keeps z (State.sveReset s) := by
  unfold State.sveReset
  with_reducible repeat' first
    | assumption | intro x | apply fenceReactionEnd_keeps | apply abortCore_keeps | apply resetUnit_keeps
    | apply dropBulk_keeps | apply each_keeps | apply openWindow_keeps | apply raise_keeps
    | apply setCore_keeps

theorem prtReset_keeps  (h : Keeps z s) : Keeps z (State.prtReset s) := by
  unfold State.prtReset
  with_reducible repeat' first
    | assumption | intro x | apply startBlock_keeps | apply fenceReactionEnd_keeps | apply resetUnit_keeps
    | apply headReset_keeps | apply each_keeps | apply openWindow_keeps | apply raise_keeps
    | apply blockDown_keeps | apply Keeps.ite

theorem writeReset_keeps {x1} (h : Keeps z s) : Keeps z (State.writeReset s x1) := by
  unfold State.writeReset
  with_reducible repeat' first | assumption | apply sveReset_keeps | apply when__keeps | apply prtReset_keeps

theorem writeBlock_keeps {x1 x2 x3 x4 x5} (h : Keeps z s) : Keeps z (State.writeBlock s x1 x2 x3 x4 x5) := by
  unfold State.writeBlock
  with_reducible repeat' first
    | assumption | intro x | apply writeDchCtl_keeps | apply writeInj_keeps | apply writeLockCtl_keeps
    | apply openConsent_keeps | apply writeMchCtl_keeps | apply evrCursor_keeps | apply panPwctl_keeps
    | apply evrNext_keeps | apply when__keeps | apply pushWord_keeps | apply writeLogCfg_keeps
    | apply writeGctl_keeps | apply supCursor_keeps | apply plainWrite_keeps | apply writeWindow_keeps
    | apply writeLogCtl_keeps | apply writePortCfg_keeps | apply retrain_keeps | apply writeLcCtl_keeps
    | apply writeInvCtl_keeps | apply writeReset_keeps | simp only [↓Keeps.rest_iff] | split

theorem aonWrite_keeps {x1 x2 x3 x4} (h : Keeps z s) : Keeps z (State.aonWrite s x1 x2 x3 x4) := by
  unfold State.aonWrite
  with_reducible repeat' first | assumption | apply writeBlock_keeps | apply Keeps.ite

theorem writeDenied_keeps {x1} (h : Keeps z s) : Keeps z (State.writeDenied s x1) := by
  unfold State.writeDenied
  with_reducible repeat' first | assumption | apply headDenied_keeps | apply deny_keeps | split

theorem clearEvents_keeps {x1 x2} (h : Keeps z s) : Keeps z (State.clearEvents s x1 x2) := by
  unfold State.clearEvents
  with_reducible repeat' first
    | assumption | intro x | apply setReg_keeps | apply latch_keeps | apply each_keeps
    | simp only [↓Keeps.rest_iff]

theorem startCommitRegions_keeps  (h : Keeps z s) : Keeps z (State.startCommitRegions s) := by
  unfold State.startCommitRegions
  with_reducible repeat' first
    | assumption | apply regionPoll_keeps | apply holdSegs_keeps | simp only [↓Keeps.rest_iff]

theorem askCommit_keeps {x1 x2} (h : Keeps z s) : Keeps z (State.askCommit s x1 x2) := by
  unfold State.askCommit
  with_reducible repeat' first | assumption | apply startCommitRegions_keeps | apply Keeps.ite | simp only [↓Keeps.rest_iff]

theorem quiesce_keeps {x1} (h : Keeps z s) : Keeps z (State.quiesce s x1) := by
  unfold State.quiesce
  with_reducible repeat' first | assumption | apply Keeps.ite | simp only [↓Keeps.rest_iff]

theorem setRun_keeps {x1 x2} (h : Keeps z s) : Keeps z (State.setRun s x1 x2) := by
  unfold State.setRun
  with_reducible repeat' first
    | assumption | apply resumeBlock_keeps | apply quiesce_keeps | apply Keeps.ite | simp only [↓Keeps.rest_iff]

theorem unitReset_keeps {x1} (h : Keeps z s) : Keeps z (State.unitReset s x1) := by
  unfold State.unitReset
  with_reducible repeat' first
    | assumption | apply abortCore_keeps | apply openWindow_keeps | apply setCore_keeps
    | apply blockDown_keeps | apply fenceSlice_keeps | simp only [↓Keeps.rest_iff] | split

theorem ctrlReset_keeps {x1} (h : Keeps z s) : Keeps z (State.ctrlReset s x1) := by
  unfold State.ctrlReset
  with_reducible repeat' first | assumption | apply askReset_keeps | apply unitReset_keeps | apply Keeps.ite

theorem writeCtrl_keeps {x1 x2 x3} (h : Keeps z s) : Keeps z (State.writeCtrl s x1 x2 x3) := by
  unfold State.writeCtrl
  with_reducible repeat' first
    | assumption | intro x | apply askCommit_keeps | apply when__keeps | apply setRun_keeps
    | apply ctrlReset_keeps | simp only [↓Keeps.rest_iff]

theorem writePerf_keeps {x1 x2} (h : Keeps z s) : Keeps z (State.writePerf s x1 x2) := by
  unfold State.writePerf
  with_reducible repeat' first
    | assumption | intro x | apply setReg_keeps | apply clearPerf_keeps | apply when__keeps | apply Keeps.ite

theorem forceEvents_keeps {x1 x2} (h : Keeps z s) : Keeps z (State.forceEvents s x1 x2) := by
  unfold State.forceEvents
  with_reducible repeat' first | assumption | intro x | apply latch_keeps | apply each_keeps

theorem writeHeader_keeps {x1 x2 x3 x4} (h : Keeps z s) : Keeps z (State.writeHeader s x1 x2 x3 x4) := by
  unfold State.writeHeader
  with_reducible repeat' first
    | assumption | intro x | apply setReg_keeps | apply clearEvents_keeps | apply when__keeps
    | apply writeCtrl_keeps | apply writePerf_keeps | apply forceEvents_keeps | simp only [↓Keeps.rest_iff]
    | split

theorem acceptWrite_keeps {x1 x2 x3 x4 x5} (h : Keeps z s) : Keeps z (State.acceptWrite s x1 x2 x3 x4 x5) := by
  unfold State.acceptWrite
  with_reducible repeat' first | assumption | apply writeHeader_keeps | apply writeBlock_keeps | apply Keeps.ite

theorem busWrite_keeps {x1 x2 x3 x4} (h : Keeps z s) : Keeps z (State.busWrite s x1 x2 x3 x4) := by
  unfold State.busWrite
  with_reducible repeat' first
    | assumption | apply unmapped_keeps | apply headDenied_keeps | apply reject_keeps
    | apply aonWrite_keeps | apply writeDenied_keeps | apply acceptWrite_keeps | apply Keeps.ite | split

theorem regWrite_keeps {x1 x2 x3 x4} (h : Keeps z s) : Keeps z (State.regWrite s x1 x2 x3 x4) := by
  unfold State.regWrite
  with_reducible repeat' first | assumption | apply busWrite_keeps | apply drain_keeps | apply Keeps.ite

theorem pageWrite_keeps {x1 x2 x3 x4} (h : Keeps z s) : Keeps z (State.pageWrite s x1 x2 x3 x4) := by
  unfold State.pageWrite
  with_reducible repeat' first | assumption | apply regWrite_keeps

theorem ackReqs_keeps {x1 x2} (h : Keeps z s) : Keeps z (State.ackReqs s x1 x2) := by
  unfold State.ackReqs
  with_reducible repeat' first | assumption | apply retryWaitq_keeps | apply setPair_keeps

theorem sendTrain_keeps {x1 x2} (h : Keeps z s) : Keeps z (State.sendTrain s x1 x2) := by
  unfold State.sendTrain
  with_reducible repeat' first | assumption | apply linkOut_keeps

theorem trainBlock_keeps {x1 x2 x3} (h : Keeps z s) : Keeps z (State.trainBlock s x1 x2 x3) := by
  unfold State.trainBlock
  with_reducible repeat' first
    | assumption | apply setPort_keeps | apply sendTrain_keeps | apply endBase_keeps | apply Keeps.ite

theorem kxProof_keeps {x1 x2} (h : Keeps z s) : Keeps z (State.kxProof s x1 x2) := by
  unfold State.kxProof
  with_reducible repeat' first
    | assumption | apply setPort_keeps | apply linkAuthFail_keeps | apply linkOut_keeps | apply Keeps.ite

theorem minOffEnd_keeps  (h : Keeps z s) : Keeps z (State.minOffEnd s) := by
  unfold State.minOffEnd
  with_reducible repeat' first
    | exact .inl rfl | (refine .inr ?_; (try dsimp only); decide) | assumption | apply Keeps.ite
    | (simp only [↓Keeps.pwr_iff]; refine KeepsPwr.intro ?_ ?_ ?_)

theorem moduleReset_keeps {x1} (h : Keeps z s) : Keeps z (State.moduleReset s x1) := by
  unfold State.moduleReset
  with_reducible repeat' first
    | (refine .inr ?_; (try dsimp only); decide) | assumption | apply cold_keeps
    | (simp only [↓Keeps.pwr_iff]; refine KeepsPwr.intro ?_ ?_ ?_)

theorem gpfPeerEnd_keeps {x1 x2} (h : Keeps z s) : Keeps z (State.gpfPeerEnd s x1 x2) := by
  unfold State.gpfPeerEnd
  with_reducible repeat' first | assumption | apply gpfCheck_keeps | apply setHead_keeps

theorem markerEnd_keeps {x1} (h : Keeps z s) : Keeps z (State.markerEnd s x1) := by
  unfold State.markerEnd
  with_reducible repeat' first
    | assumption | apply gpfPeerEnd_keeps | apply dropRemote_keeps | apply barrierPeer_keeps | split

theorem ownerDead_keeps {x1} (h : Keeps z s) : Keeps z (State.ownerDead s x1) := by
  unfold State.ownerDead
  with_reducible repeat' first
    | assumption | intro x | apply each_keeps | apply markerEnd_keeps | apply reissueAll_keeps

theorem setRoles_keeps {x1} (h : Keeps z s) : Keeps z (State.setRoles s x1) := by
  unfold State.setRoles
  with_reducible repeat' first
    | assumption | apply sendClaims_keeps | apply raise_keeps | apply Keeps.ite | simp only [↓Keeps.rest_iff]

theorem dbChanged_keeps  (h : Keeps z s) : Keeps z (State.dbChanged s) := by
  unfold State.dbChanged
  with_reducible repeat' first
    | assumption | apply setRoles_keeps | apply raise_keeps | simp only [↓Keeps.rest_iff] | split

theorem deathRow_keeps {x1 x2} (h : Keeps z s) : Keeps z (State.deathRow s x1 x2).2 := by
  unfold State.deathRow
  with_reducible repeat' first
    | assumption | apply queueCommit_keeps | apply setCust_keeps | apply raise_keeps
    | simp only [↓Keeps.rest_iff] | split

theorem deathRows_keeps {x1} (h : Keeps z s) : Keeps z (State.deathRows s x1) := by
  unfold State.deathRows
  with_reducible repeat' first
    | assumption | intro x | apply raiseAt_keeps | apply deathRow_keeps | apply each_keeps
    | apply endCust_keeps | apply Keeps.ite | apply Keeps.fold2 | simp only [↓Keeps.rest_iff]

theorem stepDown_keeps  (h : Keeps z s) : Keeps z (State.stepDown s) := by
  unfold State.stepDown
  with_reducible repeat' first
    | assumption | intro x | apply answerCust_keeps | apply originate_keeps | apply each_keeps
    | apply raise_keeps | apply Keeps.ite | simp only [↓Keeps.rest_iff]

theorem lsaExpired_keeps {x1} (h : Keeps z s) : Keeps z (State.lsaExpired s x1) := by
  unfold State.lsaExpired
  with_reducible repeat' first
    | assumption | apply ownerDead_keeps | apply dbChanged_keeps | apply deathRows_keeps
    | apply raise_keeps | apply stepDown_keeps | simp only [↓Keeps.rest_iff] | split

theorem sendHello_keeps {x1} (h : Keeps z s) : Keeps z (State.sendHello s x1) := by
  unfold State.sendHello
  with_reducible repeat' first | assumption | apply linkOut_keeps

theorem keysIn_keeps {x1} (h : Keeps z s) : Keeps z (State.keysIn s x1) := by
  unfold State.keysIn
  with_reducible repeat' first | assumption | apply sendHello_keeps | apply setPort_keeps | apply Keeps.ite

theorem kxDone_keeps {x1} (h : Keeps z s) : Keeps z (State.kxDone s x1) := by
  unfold State.kxDone
  with_reducible repeat' first | assumption | apply setPort_keeps | apply keysIn_keeps | apply Keeps.ite

theorem closeConsent_keeps  (h : Keeps z s) : Keeps z (State.closeConsent s) := by
  unfold State.closeConsent
  with_reducible repeat' first | assumption | apply setReg_keeps | simp only [↓Keeps.rest_iff]

theorem cxlRead_keeps {x1 x2 x3 x4} (h : Keeps z s) : Keeps z (State.cxlRead s x1 x2 x3 x4) := by
  unfold State.cxlRead
  with_reducible repeat' first | assumption | apply passRead_keeps | apply headReq_keeps | apply Keeps.ite

theorem setDirState_keeps {x1 x2} (h : Keeps z s) : Keeps z (State.setDirState s x1 x2) := by
  unfold State.setDirState
  with_reducible repeat' first | assumption | simp only [↓Keeps.rest_iff]

theorem remoteError_keeps {x1 x2} (h : Keeps z s) : Keeps z (State.remoteError s x1 x2) := by
  unfold State.remoteError
  with_reducible repeat' first
    | assumption | apply answerBad_keeps | apply dropRemote_keeps | apply answerRead_keeps
    | apply answerAtomic_keeps | split

theorem declareLost_keeps {x1} (h : Keeps z s) : Keeps z (State.declareLost s x1) := by
  unfold State.declareLost
  with_reducible repeat' first
    | assumption | apply setDirState_keeps | apply tellCustodian_keeps | apply remoteError_keeps
    | apply postRec_keeps | apply setHead_keeps | apply Keeps.ite | split

theorem deliveryEnd_keeps {x1 x2} (h : Keeps z s) : Keeps z (State.deliveryEnd s x1 x2) := by
  unfold State.deliveryEnd
  with_reducible repeat' first
    | assumption | apply reissue_keeps | apply markerEnd_keeps | apply declareLost_keeps
    | apply offerAgain_keeps | apply remoteError_keeps | split

theorem deliveryTimeout_keeps {x1} (h : Keeps z s) : Keeps z (State.deliveryTimeout s x1) := by
  unfold State.deliveryTimeout
  with_reducible repeat' first
    | assumption | intro x | apply each_keeps | apply deliveryEnd_keeps | apply Keeps.ite
    | simp only [↓Keeps.rest_iff]

theorem rspIn_keeps {x1 : Routing} {x2 : Msg} {x3 : State → State} (g3 : ∀ y0, Keeps z y0 → Keeps z (x3 y0)) (h : Keeps z s) : Keeps z (State.rspIn s x1 x2 x3) := by
  unfold State.rspIn
  with_reducible repeat' first
    | assumption | intro x | apply ackReqs_keeps | apply msgIn_keeps | apply g3 | apply Keeps.ite

theorem wrStatus_keeps {x1 x2 x3} (h : Keeps z s) : Keeps z (State.wrStatus s x1 x2 x3) := by
  unfold State.wrStatus
  with_reducible repeat' first
    | assumption | apply stale_keeps | apply answerPoint_keeps | apply dropRemote_keeps | apply emit_keeps
    | simp only [↓Keeps.rest_iff] | split

theorem confirmDev_keeps {x1} (h : Keeps z s) : Keeps z (State.confirmDev s x1) := by
  unfold State.confirmDev
  with_reducible repeat' first
    | assumption | apply sendClaims_keeps | apply sendPlain_keeps | apply originate_keeps
    | apply setRing_keeps | apply Keeps.ite | simp only [↓Keeps.rest_iff]

theorem releaseAll_keeps  (h : Keeps z s) : Keeps z (State.releaseAll s) := by
  unfold State.releaseAll
  with_reducible repeat' first | assumption | apply reachOff_keeps

theorem flushShort_keeps  (h : Keeps z s) : Keeps z (State.flushShort s) := by
  unfold State.flushShort
  with_reducible repeat' first | assumption | apply releaseAll_keeps | apply raise_keeps | apply Keeps.ite

theorem maybeFill_keeps {x1} (h : Keeps z s) : Keeps z (State.maybeFill s x1) := by
  unfold State.maybeFill
  with_reducible repeat' first
    | assumption | apply setFrame_keeps | apply allocFrame_keeps | apply startFill_keeps
    | simp only [↓Keeps.rest_iff] | split | (refine Keeps.snd ?_ ‹_ = (_, _)›)

theorem missStage_keeps {x1 x2} (h : Keeps z s) : Keeps z (State.missStage s x1 x2) := by
  unfold State.missStage
  with_reducible repeat' first | assumption | apply setMiss_keeps | split

theorem mapAnswer_keeps {x1 x2} (h : Keeps z s) : Keeps z (State.mapAnswer s x1 x2) := by
  unfold State.mapAnswer
  with_reducible repeat' first
    | assumption | apply maybeFill_keeps | apply issueRead_keeps | apply missStage_keeps | apply Keeps.ite

theorem mapArrived_keeps {x1 x2} (h : Keeps z s) : Keeps z (State.mapArrived s x1 x2) := by
  unfold State.mapArrived
  with_reducible repeat' first
    | assumption | apply mapAnswer_keeps | apply missStage_keeps | apply mapTouch_keeps | split

theorem ccc_keeps {x1} (h : Keeps z s) : Keeps z (State.ccc s x1) := by
  unfold State.ccc
  with_reducible repeat' first | assumption | simp only [↓Keeps.rest_iff]

theorem cccGet_keeps {x1} (h : Keeps z s) : Keeps z (State.cccGet s x1) := by
  unfold State.cccGet
  with_reducible repeat' first | assumption | apply ccc_keeps | apply emit_keeps | apply Keeps.ite

theorem flitCredit_keeps {x1 x2} (h : Keeps z s) : Keeps z (State.flitCredit s x1 x2) := by
  unfold State.flitCredit
  with_reducible repeat' first | assumption | apply setPort_keeps

theorem rekey_keeps {x1} (h : Keeps z s) : Keeps z (State.rekey s x1) := by
  unfold State.rekey
  with_reducible repeat' first | assumption | apply sendOffer_keeps | apply Keeps.ite

theorem linkRetry_keeps {x1} (h : Keeps z s) : Keeps z (State.linkRetry s x1) := by
  unfold State.linkRetry
  with_reducible repeat' first
    | assumption | intro x | apply setPort_keeps | apply linkOut_keeps | apply each_keeps

theorem flitAck_keeps {x1 x2} (h : Keeps z s) : Keeps z (State.flitAck s x1 x2) := by
  unfold State.flitAck
  with_reducible repeat' first | assumption | apply setPort_keeps | apply Keeps.ite

theorem flitHeader_keeps {x1 x2} (h : Keeps z s) : Keeps z (State.flitHeader s x1 x2) := by
  unfold State.flitHeader
  with_reducible repeat' first
    | assumption | apply flitCredit_keeps | apply rekey_keeps | apply retryTransit_keeps
    | apply linkRetry_keeps | apply flitAck_keeps | apply Keeps.ite

theorem spdmDo_keeps {x1 : SpdmPath} {x2 : State → State} (g2 : ∀ y0, Keeps z y0 → Keeps z (x2 y0)) (h : Keeps z s) : Keeps z (State.spdmDo s x1 x2) := by
  unfold State.spdmDo
  with_reducible repeat' first | assumption | apply g2 | apply Keeps.ite

theorem spdmRsp_keeps {x1 x2 x3} (h : Keeps z s) : Keeps z (State.spdmRsp s x1 x2 x3) := by
  unfold State.spdmRsp
  with_reducible repeat' first | assumption | apply sendIbi_keeps | apply emit_keeps | apply Keeps.ite

theorem ibiResend_keeps  (h : Keeps z s) : Keeps z (State.ibiResend s) := by
  unfold State.ibiResend
  with_reducible repeat' first | assumption | apply emit_keeps | split

theorem releaseUnmaps_keeps  (h : Keeps z s) : Keeps z (State.releaseUnmaps s) := by
  unfold State.releaseUnmaps
  with_reducible repeat' first
    | assumption | intro x | apply unmap_keeps | apply discardStep_keeps | apply each_keeps
    | simp only [↓Keeps.rest_iff]

theorem wsnDurable_keeps  (h : Keeps z s) : Keeps z (State.wsnDurable s) := by
  unfold State.wsnDurable
  with_reducible repeat' first
    | assumption | apply releaseUnmaps_keeps | apply pump_keeps | simp only [↓Keeps.rest_iff]

theorem checkHeadroom_keeps  (h : Keeps z s) : Keeps z (State.checkHeadroom s) := by
  unfold State.checkHeadroom
  with_reducible repeat' first | assumption | apply setLive_keeps | apply raise_keeps | apply Keeps.ite

theorem spdmFree_keeps {x1 x2 x3 x4} (h : Keeps z s) : Keeps z (State.spdmFree s x1 x2 x3 x4) := by
  unfold State.spdmFree
  with_reducible repeat' first | assumption | intro x | apply fresh_keeps | apply spdmRsp_keeps | apply Keeps.fold2

theorem ideProg_keeps {x1 x2 x3 x4} (h : Keeps z s) : Keeps z (State.ideProg s x1 x2 x3 x4) := by
  unfold State.ideProg
  with_reducible repeat' first | assumption | apply setHead_keeps

theorem silentDch_keeps {x1 x2} (h : Keeps z s) : Keeps z (State.silentDch s x1 x2) := by
  unfold State.silentDch
  with_reducible repeat' first
    | assumption | apply raiseAt_keeps | apply raise_keeps | apply fenceDch_keeps | split

theorem silentCrust_keeps {x1} (h : Keeps z s) : Keeps z (State.silentCrust s x1) := by
  unfold State.silentCrust
  with_reducible repeat' first | assumption | apply raise_keeps

theorem releaseTimeout_keeps {x1 x2} (h : Keeps z s) : Keeps z (State.releaseTimeout s x1 x2) := by
  unfold State.releaseTimeout
  with_reducible repeat' first
    | assumption | apply setFrame_keeps | apply silentDch_keeps | apply badAll_keeps
    | apply setSlice_keeps | apply silentCrust_keeps | simp only [↓Keeps.rest_iff] | split

theorem endEntry_keeps {x1 x2} (h : Keeps z s) : Keeps z (State.endEntry s x1 x2) := by
  unfold State.endEntry
  with_reducible repeat' first
    | assumption | intro x | apply freeLane_keeps | apply answerBad_keeps | apply each_keeps
    | apply badAll_keeps | apply setSlice_keeps | apply answerAtomic_keeps | split

theorem preloadAll_keeps {x1} (h : Keeps z s) : Keeps z (State.preloadAll s x1) := by
  unfold State.preloadAll
  with_reducible repeat' first | assumption | intro x | apply preloadMore_keeps | apply each_keeps

theorem silentMch_keeps {x1 x2} (h : Keeps z s) : Keeps z (State.silentMch s x1 x2) := by
  unfold State.silentMch
  with_reducible repeat' first | assumption | apply fenceChan_keeps | apply raiseAt_keeps

theorem silentMte_keeps {x1} (h : Keeps z s) : Keeps z (State.silentMte s x1) := by
  unfold State.silentMte
  with_reducible repeat' first | assumption | apply raise_keeps

theorem silentMiss_keeps {x1 x2} (h : Keeps z s) : Keeps z (State.silentMiss s x1 x2) := by
  unfold State.silentMiss
  generalize x2.stage = g
  cases g
  case tier => exact silentDch_keeps h
  case pageFill => exact silentDch_keeps h
  case map => exact silentMte_keeps h
  case mapCrumb => exact silentMch_keeps h
  case medium => exact silentMch_keeps h
  all_goals exact silentCrust_keeps h

theorem dropMiss_keeps {x1} (h : Keeps z s) : Keeps z (State.dropMiss s x1) := by
  unfold State.dropMiss
  with_reducible repeat' first | assumption | apply setSlice_keeps

theorem missTimeout_keeps {x1 x2} (h : Keeps z s) : Keeps z (State.missTimeout s x1 x2) := by
  unfold State.missTimeout
  with_reducible repeat' first
    | assumption | intro x | apply endEntry_keeps | apply each_keeps | apply preloadAll_keeps
    | apply silentMiss_keeps | apply retryBehind_keeps | apply dropMiss_keeps | apply answerRead_keeps
    | split

theorem laneTimeout_keeps {x1 x2} (h : Keeps z s) : Keeps z (State.laneTimeout s x1 x2) := by
  unfold State.laneTimeout
  with_reducible repeat' first
    | assumption | intro x | apply endEntry_keeps | apply each_keeps | apply raise_keeps
    | apply retryBehind_keeps | apply Keeps.ite

theorem strictTimeout_keeps {x1 x2} (h : Keeps z s) : Keeps z (State.strictTimeout s x1 x2) := by
  unfold State.strictTimeout
  with_reducible repeat' first
    | assumption | intro x | apply setFrame_keeps | apply releaseTimeout_keeps | apply silentMch_keeps
    | apply each_keeps | apply badAll_keeps | apply silentMte_keeps | apply Keeps.ite | split

theorem sliceSilent_keeps {x1} (h : Keeps z s) : Keeps z (State.sliceSilent s x1) := by
  unfold State.sliceSilent
  with_reducible repeat' first
    | assumption | apply raiseAt_keeps | apply admitAll_keeps | apply fenceSlice_keeps | apply Keeps.ite

theorem serviceTimeout_keeps {x1 x2} (h : Keeps z s) : Keeps z (State.serviceTimeout s x1 x2) := by
  unfold State.serviceTimeout
  with_reducible repeat' first
    | assumption | apply releaseTimeout_keeps | apply missTimeout_keeps | apply laneTimeout_keeps
    | apply strictTimeout_keeps | apply sliceSilent_keeps | split

theorem mapHost_keeps {x1 x2 x3} (h : Keeps z s) : Keeps z (State.mapHost s x1 x2 x3) := by
  unfold State.mapHost
  with_reducible repeat' first | assumption | apply supersede_keeps | apply setEntry_keeps | apply journal_keeps

theorem journalImage_keeps {x1 x2} (h : Keeps z s) : Keeps z (State.journalImage s x1 x2) := by
  unfold State.journalImage
  with_reducible repeat' first | assumption | apply journal_keeps | apply Keeps.ite

theorem moveIndex_keeps {x1 x2 x3 x4} (h : Keeps z s) : Keeps z (State.moveIndex s x1 x2 x3 x4) := by
  unfold State.moveIndex
  with_reducible repeat' first | assumption | apply journal_keeps | simp only [↓Keeps.rest_iff] | split

theorem frameJournaled_keeps {x1} (h : Keeps z s) : Keeps z (State.frameJournaled s x1) := by
  unfold State.frameJournaled
  with_reducible repeat' first
    | assumption | apply dropFrame_keeps | apply setFrame_keeps | apply becomeDirty_keeps
    | apply retryWaiting_keeps | split

theorem journalPage_keeps {x1 x2} (h : Keeps z s) : Keeps z (State.journalPage s x1 x2) := by
  unfold State.journalPage
  with_reducible repeat' first
    | assumption | apply setEntry_keeps | apply journal_keeps | apply mapHost_keeps
    | apply journalImage_keeps | apply moveIndex_keeps | apply frameJournaled_keeps | apply Keeps.ite | split

theorem landPage_keeps {x1 x2} (h : Keeps z s) : Keeps z (State.landPage s x1 x2) := by
  unfold State.landPage
  with_reducible repeat' first
    | assumption | apply setFrame_keeps | apply journalPage_keeps | apply answerAll_keeps
    | simp only [↓Keeps.rest_iff] | split

theorem spdmError_keeps {x1 x2} (h : Keeps z s) : Keeps z (State.spdmError s x1 x2) := by
  unfold State.spdmError
  with_reducible repeat' first | assumption | apply spdmRsp_keeps

theorem ideDo_keeps {x1 : Fin 64} {x2 : Nat} {x3 : State → State} (g3 : ∀ y0, Keeps z y0 → Keeps z (x3 y0)) (h : Keeps z s) : Keeps z (State.ideDo s x1 x2 x3) := by
  unfold State.ideDo
  with_reducible repeat' first
    | assumption | intro x | apply spdmDo_keeps | apply spdmError_keeps | apply emit_keeps | apply g3
    | apply Keeps.ite

theorem takeParam_keeps {x1} (h : Keeps z s) : Keeps z (State.takeParam s x1) := by
  unfold State.takeParam
  with_reducible repeat' first | assumption | apply setReg_keeps | split

theorem takeParams_keeps  (h : Keeps z s) : Keeps z (State.takeParams s) := by
  unfold State.takeParams
  with_reducible repeat' first
    | assumption | intro x | apply takeParam_keeps | apply each_keeps | apply raise_keeps
    | apply setHead_keeps | apply Keeps.ite | simp only [↓Keeps.rest_iff]

theorem takeKeys_keeps  (h : Keeps z s) : Keeps z (State.takeKeys s) := by
  unfold State.takeKeys
  with_reducible repeat' first
    | assumption | intro x | apply each_keeps | apply setKrange_keeps | apply Keeps.ite | simp only [↓Keeps.rest_iff]

theorem startCores_keeps  (h : Keeps z s) : Keeps z (State.startCores s) := by
  unfold State.startCores
  with_reducible repeat' first | assumption | intro x | apply each_keeps | apply setCore_keeps

theorem copyLate_keeps  (h : Keeps z s) : Keeps z (State.copyLate s) := by
  unfold State.copyLate
  with_reducible repeat' first
    | assumption | intro x | apply logRecord_keeps | apply programSpill_keeps | apply each_keeps
    | apply Keeps.ite | simp only [↓Keeps.rest_iff]

theorem restoreFlush_keeps  (h : Keeps z s) : Keeps z (State.restoreFlush s) := by
  unfold State.restoreFlush
  with_reducible repeat' first
    | exact .inl rfl | assumption | apply fresh_keeps | simp only [↓Keeps.rest_iff] | split
    | (simp only [↓Keeps.pwr_iff]; refine KeepsPwr.intro ?_ ?_ ?_)

theorem startCage_keeps {x1} (h : Keeps z s) : Keeps z (State.startCage s x1) := by
  unfold State.startCage
  with_reducible repeat' first | assumption | apply startBlock_keeps | apply each_keeps

theorem installEscape_keeps  (h : Keeps z s) : Keeps z (State.installEscape s) := by
  unfold State.installEscape
  with_reducible repeat' first
    | assumption | intro x | apply each_keeps | apply raise_keeps | apply Keeps.ite | simp only [↓Keeps.rest_iff]

theorem newTree_keeps {x1} (h : Keeps z s) : Keeps z (State.newTree s x1) := by
  unfold State.newTree
  with_reducible repeat' first | assumption | apply installEscape_keeps | simp only [↓Keeps.rest_iff]

theorem treeIn_keeps {x1 x2 x3} (h : Keeps z s) : Keeps z (State.treeIn s x1 x2 x3) := by
  unfold State.treeIn
  with_reducible repeat' first
    | assumption | apply floodLink_keeps | apply newTree_keeps | apply retryTransit_keeps | apply Keeps.ite

theorem ctrlWrite_keeps {x1 x2 x3} (h : Keeps z s) : Keeps z (State.ctrlWrite s x1 x2 x3) := by
  unfold State.ctrlWrite
  with_reducible repeat' first | assumption | apply pageWrite_keeps

theorem setCert_keeps {x1 x2 x3} (h : Keeps z s) : Keeps z (State.setCert s x1 x2 x3) := by
  unfold State.setCert
  with_reducible repeat' first
    | assumption | apply spdmError_keeps | apply spdmRsp_keeps | apply deny_keeps | apply Keeps.ite
    | simp only [↓Keeps.rest_iff]

theorem wakeReads_keeps  (h : Keeps z s) : Keeps z (State.wakeReads s) := by
  unfold State.wakeReads
  with_reducible repeat' first | assumption | simp only [↓Keeps.rest_iff]

theorem endBusy_keeps {x1 x2} (h : Keeps z s) : Keeps z (State.endBusy s x1 x2) := by
  unfold State.endBusy
  with_reducible repeat' first
    | assumption | apply wakeReads_keeps | apply startErases_keeps | apply setBusy_keeps

theorem rowEnd_keeps {x1} (h : Keeps z s) : Keeps z (State.rowEnd s x1) := by
  unfold State.rowEnd
  with_reducible repeat' first | assumption | apply endBusy_keeps | apply Keeps.ite

theorem landParity_keeps {x1} (h : Keeps z s) : Keeps z (State.landParity s x1) := by
  unfold State.landParity
  with_reducible repeat' first | assumption | simp only [↓Keeps.rest_iff]

theorem maybeFull_keeps {x1} (h : Keeps z s) : Keeps z (State.maybeFull s x1) := by
  unfold State.maybeFull
  with_reducible repeat' first | assumption | apply journal_keeps | simp only [↓Keeps.rest_iff] | split

theorem landMeta_keeps {x1} (h : Keeps z s) : Keeps z (State.landMeta s x1) := by
  unfold State.landMeta
  with_reducible repeat' first
    | assumption | intro x | apply landPage_keeps | apply rowEnd_keeps | apply each_keeps
    | apply landParity_keeps | apply maybeFull_keeps | simp only [↓Keeps.rest_iff]

theorem programImage_keeps {x1 x2} (h : Keeps z s) : Keeps z (State.programImage s x1 x2).2 := by
  unfold State.programImage
  with_reducible repeat' first
    | assumption | apply closeStripe_keeps | apply landMeta_keeps | apply metaPages_keeps
    | apply issueMeta_keeps | simp only [↓Keeps.rest_iff] | split

theorem checkpointPage_keeps {x1} (h : Keeps z s) : Keeps z (State.checkpointPage s x1) := by
  unfold State.checkpointPage
  with_reducible repeat' first
    | assumption | apply journal_keeps | apply programImage_keeps | simp only [↓Keeps.rest_iff] | split
    | (refine Keeps.snd ?_ ‹_ = (_, _)›)

theorem countCorr_keeps {x1} (h : Keeps z s) : Keeps z (State.countCorr s x1) := by
  unfold State.countCorr
  with_reducible repeat' first | assumption | simp only [↓Keeps.rest_iff] | split

theorem crumbRebuilt_keeps {x1} (h : Keeps z s) : Keeps z (State.crumbRebuilt s x1) := by
  unfold State.crumbRebuilt
  with_reducible repeat' first
    | assumption | apply raiseAt_keeps | apply askRefresh_keeps | apply countUp_keeps
    | apply countCorr_keeps

theorem settleCage_keeps {x1 x2} (h : Keeps z s) : Keeps z (State.settleCage s x1 x2) := by
  unfold State.settleCage
  refine Keeps.ite h ?_
  split
  · exact startCage_keeps (h.setCage fun _ => rfl)
  · exact startCage_keeps (raiseAt_keeps (h.setCage fun _ => rfl))

theorem replayGone_keeps {x1 x2 x3} (h : Keeps z s) : Keeps z (State.replayGone s x1 x2 x3) := by
  unfold State.replayGone
  with_reducible repeat' first | assumption | apply setEntry_keeps | apply Keeps.ite

theorem passEnd_keeps {x1} (h : Keeps z s) : Keeps z (State.passEnd s x1) := by
  unfold State.passEnd
  with_reducible repeat' first | assumption | apply sendPlain_keeps

theorem copyEnd_keeps {x1} (h : Keeps z s) : Keeps z (State.copyEnd s x1) := by
  unfold State.copyEnd
  with_reducible repeat' first
    | assumption | apply passEnd_keeps | apply setOp_keeps | apply sendDirty_keeps | split

theorem sendIdle_keeps {x1 x2} (h : Keeps z s) : Keeps z (State.sendIdle s x1 x2) := by
  unfold State.sendIdle
  with_reducible repeat' first | assumption | apply setPort_keeps | apply emit_keeps

theorem discardFlit_keeps {x1} (h : Keeps z s) : Keeps z (State.discardFlit s x1) := by
  unfold State.discardFlit
  with_reducible repeat' first | assumption | apply setPort_keeps | apply sendIdle_keeps | apply Keeps.ite

theorem crcError_keeps {x1} (h : Keeps z s) : Keeps z (State.crcError s x1) := by
  unfold State.crcError
  with_reducible repeat' first | assumption | apply discardFlit_keeps | apply countUp_keeps

theorem securityError_keeps {x1 x2} (h : Keeps z s) : Keeps z (State.securityError s x1 x2) := by
  unfold State.securityError
  with_reducible repeat' first
    | assumption | apply setPort_keeps | apply raiseAt_keeps | apply portDown_keeps
    | apply discardFlit_keeps | apply fence_keeps | apply countUp_keeps | apply beginTraining_keeps
    | apply Keeps.ite | split

theorem takeFlit_keeps {x1 x2} (h : Keeps z s) : Keeps z (State.takeFlit s x1 x2) := by
  unfold State.takeFlit
  with_reducible repeat' first
    | assumption | apply flitHeader_keeps | apply setPort_keeps | apply discardFlit_keeps | apply Keeps.ite

theorem clearFlit_keeps {x1 x2} (h : Keeps z s) : Keeps z (State.clearFlit s x1 x2) := by
  unfold State.clearFlit
  with_reducible repeat' first
    | assumption | apply crcError_keeps | apply discardFlit_keeps | apply securityError_keeps
    | apply takeFlit_keeps | apply Keeps.ite

theorem endCheck_keeps {x1 x2} (h : Keeps z s) : Keeps z (State.endCheck s x1 x2) := by
  unfold State.endCheck
  with_reducible repeat' first
    | assumption | apply askRefresh_keeps | apply setBlock_keeps | apply Keeps.ite | simp only [↓Keeps.rest_iff]

theorem checkJournal_keeps  (h : Keeps z s) : Keeps z (State.checkJournal s) := by
  unfold State.checkJournal
  with_reducible repeat' first | assumption | apply raise_keeps | apply Keeps.ite | simp only [↓Keeps.rest_iff]

theorem trimJournal_keeps  (h : Keeps z s) : Keeps z (State.trimJournal s) := by
  unfold State.trimJournal
  with_reducible repeat' first | assumption | apply checkJournal_keeps | simp only [↓Keeps.rest_iff]

theorem checkpointImages_keeps  (h : Keeps z s) : Keeps z (State.checkpointImages s) := by
  unfold State.checkpointImages
  with_reducible repeat' first
    | assumption | apply journal_keeps | apply trimJournal_keeps | apply takeWsn_keeps | apply Keeps.ite
    | simp only [↓Keeps.rest_iff]

theorem settled_keeps  (h : Keeps z s) : Keeps z (State.settled s) := by
  unfold State.settled
  with_reducible repeat' first
    | assumption | apply checkpointImages_keeps | apply setRegFld_keeps | apply Keeps.ite
    | simp only [↓Keeps.rest_iff]

theorem ageVoids_keeps  (h : Keeps z s) : Keeps z (State.ageVoids s) := by
  unfold State.ageVoids
  with_reducible repeat' first | assumption | simp only [↓Keeps.rest_iff]

theorem dropErasedSets_keeps  (h : Keeps z s) : Keeps z (State.dropErasedSets s) := by
  unfold State.dropErasedSets
  with_reducible repeat' first | assumption | apply ageVoids_keeps | apply Keeps.ite | simp only [↓Keeps.rest_iff]

theorem retire_keeps {x1 x2} (h : Keeps z s) : Keeps z (State.retire s x1 x2) := by
  unfold State.retire
  with_reducible repeat' first
    | assumption | apply checkHeadroom_keeps | apply journal_keeps | apply setBlock_keeps
    | apply raise_keeps

theorem poisonWaiting_keeps {x1} (h : Keeps z s) : Keeps z (State.poisonWaiting s x1) := by
  unfold State.poisonWaiting
  with_reducible repeat' first | assumption | apply badAll_keeps | simp only [↓Keeps.rest_iff]

theorem ackIdle_keeps {x1} (h : Keeps z s) : Keeps z (State.ackIdle s x1) := by
  unfold State.ackIdle
  with_reducible repeat' first | assumption | apply sendIdle_keeps | apply Keeps.ite

theorem warnStart_keeps  (h : Keeps z s) : Keeps z (State.warnStart s) := by
  unfold State.warnStart
  with_reducible repeat' first
    | exact .inl rfl | assumption | apply pump_keeps | apply handAll_keeps | apply raise_keeps | apply Keeps.ite
    | (simp only [↓Keeps.pwr_iff]; refine KeepsPwr.intro ?_ ?_ ?_)

theorem enforce_keeps  (h : Keeps z s) : Keeps z (State.enforce s) := by
  unfold State.enforce
  with_reducible repeat' first
    | assumption | apply raise_keeps | apply setCaps_keeps | apply Keeps.ite | simp only [↓Keeps.rest_iff]

theorem throttleGrace_keeps  (h : Keeps z s) : Keeps z (State.throttleGrace s) := by
  unfold State.throttleGrace
  with_reducible repeat' first | assumption | apply enforce_keeps | apply Keeps.ite

theorem dimmRereads_keeps {x1} (h : Keeps z s) : Keeps z (State.dimmRereads s x1) := by
  unfold State.dimmRereads
  with_reducible repeat' first | assumption | intro x | apply dimmReading_keeps | apply each_keeps

theorem replay_keeps {x1} (h : Keeps z s) : Keeps z (State.replay s x1) := by
  unfold State.replay
  with_reducible repeat' first
    | assumption | intro x | apply setPort_keeps | apply raiseAt_keeps | apply each_keeps
    | apply countUp_keeps | apply emit_keeps | apply Keeps.ite

theorem addVoid_keeps {x1} (h : Keeps z s) : Keeps z (State.addVoid s x1) := by
  unfold State.addVoid
  with_reducible repeat' first | assumption | apply raise_keeps | apply Keeps.ite | simp only [↓Keeps.rest_iff]

theorem toQuiesceEnd_keeps {x1} (h : Keeps z s) : Keeps z (State.toQuiesceEnd s x1) := by
  unfold State.toQuiesceEnd
  with_reducible repeat' first
    | assumption | apply setRwr_keeps | apply discardSegs_keeps | apply addVoid_keeps
    | apply journal_keeps | apply sweepAll_keeps | split

theorem revertSlot_keeps  (h : Keeps z s) : Keeps z (State.revertSlot s) := by
  unfold State.revertSlot
  with_reducible repeat' first
    | assumption | apply restartCores_keeps | apply raise_keeps | simp only [↓Keeps.rest_iff]

theorem activationTimeout_keeps {x1} (h : Keeps z s) : Keeps z (State.activationTimeout s x1) := by
  unfold State.activationTimeout
  with_reducible repeat' first
    | assumption | apply revertSlot_keeps | apply rolloutStop_keeps | apply raise_keeps | apply Keeps.ite

theorem ungate_keeps {x1} (h : Keeps z s) : Keeps z (State.ungate s x1) := by
  unfold State.ungate
  with_reducible repeat' first
    | exact .inl rfl | (refine .inr ?_; (try dsimp only); decide) | assumption | apply Keeps.ite
    | (simp only [↓Keeps.pwr_iff]; refine KeepsPwr.intro ?_ ?_ ?_)

theorem flushOn_keeps  (h : Keeps z s) : Keeps z (State.flushOn s) := by
  unfold State.flushOn
  with_reducible repeat' first
    | assumption | apply pump_keeps | apply handAll_keeps | apply closeJournal_keeps
    | apply flushSlices_keeps | apply closeGather_keeps | apply Keeps.ite

theorem flushProgrammed_keeps  (h : Keeps z s) : Keeps z (State.flushProgrammed s) := by
  unfold State.flushProgrammed
  with_reducible repeat' first
    | exact .inl rfl | (refine .inr ?_; (try dsimp only); decide) | assumption | apply flushOn_keeps
    | apply closeJournal_keeps | apply Keeps.ite | (simp only [↓Keeps.pwr_iff]; refine KeepsPwr.intro ?_ ?_ ?_)

theorem unholdRegion_keeps {x1} (h : Keeps z s) : Keeps z (State.unholdRegion s x1) := by
  unfold State.unholdRegion
  with_reducible repeat' first | assumption | simp only [↓Keeps.rest_iff]

theorem markTimeout_keeps {x1} (h : Keeps z s) : Keeps z (State.markTimeout s x1) := by
  unfold State.markTimeout
  with_reducible repeat' first
    | assumption | apply unholdRegion_keeps | apply rwFinish_keeps | apply raise_keeps | split

theorem drainEnded_keeps  (h : Keeps z s) : Keeps z (State.drainEnded s) := by
  unfold State.drainEnded
  with_reducible repeat' first
    | assumption | apply pump_keeps | apply handAll_keeps | apply setRegFld_keeps | apply Keeps.ite

theorem ideStop_keeps {x1 x2 x3} (h : Keeps z s) : Keeps z (State.ideStop s x1 x2 x3) := by
  unfold State.ideStop
  with_reducible repeat' first | assumption | apply setHead_keeps

theorem restoreEntry_keeps {x1} (h : Keeps z s) : Keeps z (State.restoreEntry s x1) := by
  unfold State.restoreEntry
  with_reducible repeat' first
    | assumption | apply setEntry_keeps | apply journal_keeps | apply Keeps.ite | simp only [↓Keeps.rest_iff]

theorem applyTo_keeps {x1 x2} (h : Keeps z s) : Keeps z (State.applyTo s x1 x2) := by
  unfold State.applyTo
  with_reducible repeat' first
    | assumption | intro x | apply setRwr_keeps | apply restoreEntry_keeps | apply journal_keeps
    | apply each_keeps | apply keepIndex_keeps

theorem resumeRewinds_keeps  (h : Keeps z s) : Keeps z (State.resumeRewinds s) := by
  unfold State.resumeRewinds
  with_reducible repeat' first
    | assumption | intro x | apply setRwr_keeps | apply journal_keeps | apply each_keeps
    | apply raise_keeps | apply applyTo_keeps | split

theorem mctpPacket_keeps {x1} (h : Keeps z s) : Keeps z (State.mctpPacket s x1) := by
  unfold State.mctpPacket
  with_reducible repeat' first | assumption | apply mctpTake_keeps | apply Keeps.ite | simp only [↓Keeps.rest_iff]

theorem rwConfirmTimeout_keeps {x1} (h : Keeps z s) : Keeps z (State.rwConfirmTimeout s x1).2 := by
  unfold State.rwConfirmTimeout
  with_reducible repeat' first | assumption | apply rwFinish_keeps | apply raise_keeps | split

theorem spdTimeout_keeps {x1} (h : Keeps z s) : Keeps z (State.spdTimeout s x1) := by
  unfold State.spdTimeout
  with_reducible repeat' first
    | assumption | apply setSocket_keeps | apply socketEmpty_keeps | apply socketsKnown_keeps | apply Keeps.ite

theorem busCrc_keeps {x1} (h : Keeps z s) : Keeps z (State.busCrc s x1).2 := by
  unfold State.busCrc
  with_reducible repeat' first
    | assumption | apply raiseAt_keeps | apply countUp_keeps | simp only [↓Keeps.rest_iff] | split

theorem clearSlot_keeps {x1 x2} (h : Keeps z s) : Keeps z (State.clearSlot s x1 x2) := by
  unfold State.clearSlot
  with_reducible repeat' first | assumption | apply setHead_keeps

theorem dcReleaseTimeout_keeps {x1 x2} (h : Keeps z s) : Keeps z (State.dcReleaseTimeout s x1 x2) := by
  unfold State.dcReleaseTimeout
  with_reducible repeat' first
    | assumption | apply clearSlot_keeps | apply raise_keeps | apply postDc_keeps | apply Keeps.ite

theorem gpfFlushEnd_keeps  (h : Keeps z s) : Keeps z (State.gpfFlushEnd s) := by
  unfold State.gpfFlushEnd
  with_reducible repeat' first
    | assumption | intro x | apply each_keeps | apply setHead_keeps | apply emit_keeps | apply Keeps.ite

theorem flushTail_keeps  (h : Keeps z s) : Keeps z (State.flushTail s) := by
  unfold State.flushTail
  with_reducible repeat' first
    | assumption | apply programSpill_keeps | apply setRing_keeps | apply gpfFlushEnd_keeps

theorem safeHold_keeps  (h : Keeps z s) : Keeps z (State.safeHold s) := by
  unfold State.safeHold
  have e : s.gpfFlushEnd.pwr = s.pwr := by
    unfold State.gpfFlushEnd
    exact State.each_same State.pwr (fun t n => by split <;> rfl)
  have h1 : Keeps z s.gpfFlushEnd := gpfFlushEnd_keeps h
  exact Keeps.restPwr h1 (.inl (by rw [e])) (.inl (by rw [e]))

theorem safeFlushEnd_keeps  (h : Keeps z s) : Keeps z (State.safeFlushEnd s) := by
  unfold State.safeFlushEnd
  with_reducible repeat' first
    | assumption | apply flushOn_keeps | apply flushTail_keeps | apply safeHold_keeps | apply Keeps.ite

theorem switchStepRails_keeps {x1 x2} (h : Keeps z s) : Keeps z (State.switchStepRails s x1 x2) := by
  unfold State.switchStepRails
  with_reducible repeat' first | assumption | intro x | apply setRail_keeps | apply each_keeps

theorem downStepDone_keeps  (h : Keeps z s) : Keeps z (State.downStepDone s) := by
  unfold State.downStepDone
  with_reducible repeat' first
    | exact .inl rfl | assumption | apply switchStepRails_keeps | apply reachOff_keeps | apply raise_keeps
    | apply Keeps.ite | (simp only [↓Keeps.pwr_iff]; refine KeepsPwr.intro ?_ ?_ ?_)

theorem startReverse_keeps {x1} (h : Keeps z s) : Keeps z (State.startReverse s x1) := by
  unfold State.startReverse
  with_reducible repeat' first
    | exact .inl rfl | (refine .inr ?_; (try dsimp only); decide) | assumption | apply supLog_keeps
    | (simp only [↓Keeps.pwr_iff]; refine KeepsPwr.intro ?_ ?_ ?_)

theorem upStepDone_keeps  (h : Keeps z s) : Keeps z (State.upStepDone s) := by
  unfold State.upStepDone
  with_reducible repeat' first
    | exact .inl rfl | (refine .inr ?_; (try dsimp only); decide) | assumption | apply stepInWindow_keeps
    | apply startReverse_keeps | apply switchStepRails_keeps | apply supLog_keeps | apply Keeps.ite
    | (simp only [↓Keeps.pwr_iff]; refine KeepsPwr.intro ?_ ?_ ?_)

theorem stepDone_keeps  (h : Keeps z s) : Keeps z (State.stepDone s) := by
  unfold State.stepDone
  with_reducible repeat' first
    | exact .inl rfl | assumption | apply stepInWindow_keeps | apply downStepDone_keeps | apply upStepDone_keeps
    | apply Keeps.ite | (simp only [↓Keeps.pwr_iff]; refine KeepsPwr.intro ?_ ?_ ?_)

theorem notePgm_keeps {x1} (h : Keeps z s) : Keeps z (State.notePgm s x1) := by
  unfold State.notePgm
  with_reducible repeat' first | assumption | simp only [↓Keeps.rest_iff]

theorem setMtePhase_keeps {x1} (h : Keeps z s) : Keeps z (State.setMtePhase s x1) := by
  unfold State.setMtePhase
  with_reducible repeat' first | assumption | apply setRegFld_keeps

theorem startupOff_keeps  (h : Keeps z s) : Keeps z (State.startupOff s) := by
  unfold State.startupOff
  with_reducible repeat' first
    | exact .inl rfl | (refine .inr ?_; (try dsimp only); decide) | assumption | apply startFlush_keeps | apply Keeps.ite
    | (simp only [↓Keeps.pwr_iff]; refine KeepsPwr.intro ?_ ?_ ?_)

theorem bringupEnd_keeps  (h : Keeps z s) : Keeps z (State.bringupEnd s) := by
  unfold State.bringupEnd
  with_reducible repeat' first
    | exact .inl rfl | assumption | apply setMtePhase_keeps | apply startupOff_keeps | apply Keeps.ite
    | (simp only [↓Keeps.pwr_iff]; refine KeepsPwr.intro ?_ ?_ ?_)

theorem claimsEnd_keeps  (h : Keeps z s) : Keeps z (State.claimsEnd s) := by
  unfold State.claimsEnd
  with_reducible repeat' first
    | assumption | intro x | apply raiseAt_keeps | apply queueCommit_keeps | apply raise_keeps | apply Keeps.ite
    | apply Keeps.fold2 | simp only [↓Keeps.rest_iff]

theorem orderlyEnd_keeps  (h : Keeps z s) : Keeps z (State.orderlyEnd s) := by
  unfold State.orderlyEnd
  with_reducible repeat' first
    | exact .inl rfl | assumption | apply moduleReset_keeps | apply startReverse_keeps | apply flushTail_keeps
    | apply Keeps.ite | (simp only [↓Keeps.pwr_iff]; refine KeepsPwr.intro ?_ ?_ ?_)

theorem gpfPhase2_keeps {x1} (h : Keeps z s) : Keeps z (State.gpfPhase2 s x1) := by
  unfold State.gpfPhase2
  with_reducible repeat' first
    | assumption | intro x | apply pump_keeps | apply drainAll_keeps | apply offerRemote_keeps
    | apply gpfCheck_keeps | apply forceLanes_keeps | apply each_keeps | apply setHead_keeps
    | apply Keeps.ite

theorem slotReloaded_keeps {x1} (h : Keeps z s) : Keeps z (State.slotReloaded s x1) := by
  unfold State.slotReloaded
  with_reducible repeat' first | assumption | apply setKrange_keeps | apply unfence_keeps | apply Keeps.ite | split

theorem emergency_keeps {x1} (h : Keeps z s) : Keeps z (State.emergency s x1) := by
  unfold State.emergency
  with_reducible repeat' first
    | exact .inl rfl | (refine .inr ?_; (try dsimp only); decide) | assumption | apply releaseAll_keeps
    | apply deepIdleWake_keeps | apply raise_keeps | apply supLog_keeps | apply startFlush_keeps
    | simp only [↓Keeps.rest_iff] | split | (simp only [↓Keeps.pwr_iff]; refine KeepsPwr.intro ?_ ?_ ?_)

theorem remirrorNow_keeps {x1} (h : Keeps z s) : Keeps z (State.remirrorNow s x1) := by
  unfold State.remirrorNow
  with_reducible repeat' first | assumption | apply askModule_keeps | simp only [↓Keeps.rest_iff] | split

theorem closeWindow_keeps {x1 x2} (h : Keeps z s) : Keeps z (State.closeWindow s x1 x2) := by
  unfold State.closeWindow
  with_reducible repeat' first | assumption | simp only [↓Keeps.rest_iff]

theorem admitCpl_keeps {x0} (h : Keeps z s) : Keeps z (State.admitCpl x0 s) := by
  induction x0 generalizing s  with
  | zero => exact h
  | succ n ih =>
    unfold State.admitCpl
    with_reducible repeat' first | assumption | apply ih | apply cplNotice_keeps | simp only [↓Keeps.rest_iff] | split

theorem takeWord_keeps {x1} (h : Keeps z s) : Keeps z (State.takeWord s x1).2 := by
  unfold State.takeWord
  with_reducible repeat' first | assumption | apply popWord_keeps | apply admitCpl_keeps

theorem popBytes_keeps {x0} (h : Keeps z s) : Keeps z (State.popBytes x0 s).2 := by
  induction x0 generalizing s  with
  | zero => exact h
  | succ n ih =>
    unfold State.popBytes
    with_reducible repeat' first | assumption | apply ih | apply takeWord_keeps | simp only [↓Keeps.rest_iff] | split

theorem headLinkLost_keeps {x1} (h : Keeps z s) : Keeps z (State.headLinkLost s x1) := by
  unfold State.headLinkLost
  with_reducible repeat' first | assumption | apply headDown_keeps | apply Keeps.ite

theorem busOk_keeps {x1} (h : Keeps z s) : Keeps z (State.busOk s x1) := by
  unfold State.busOk
  with_reducible repeat' first | assumption | simp only [↓Keeps.rest_iff]

theorem idleFlit_keeps {x1 x2} (h : Keeps z s) : Keeps z (State.idleFlit s x1 x2) := by
  unfold State.idleFlit
  with_reducible repeat' first
    | assumption | apply flitHeader_keeps | apply crcError_keeps | apply securityError_keeps | apply Keeps.ite

theorem reserveFirst_keeps  (h : Keeps z s) : Keeps z (State.reserveFirst s) := by
  unfold State.reserveFirst
  with_reducible repeat' first | assumption | apply reserveWsn_keeps | apply closeJournal_keeps

theorem dramUe_keeps {x1} (h : Keeps z s) : Keeps z (State.dramUe s x1) := by
  unfold State.dramUe
  with_reducible repeat' first
    | assumption | apply countUp_keeps | apply fenceDch_keeps | apply Keeps.ite | simp only [↓Keeps.rest_iff]

theorem dramFrameUe_keeps {x1 x2 x3} (h : Keeps z s) : Keeps z (State.dramFrameUe s x1 x2 x3) := by
  unfold State.dramFrameUe
  with_reducible repeat' first
    | assumption | apply dropFrame_keeps | apply setFrame_keeps | apply notePoison_keeps
    | apply raiseAt_keeps | apply dramUe_keeps | apply raise_keeps | apply fillFails_keeps
    | apply badAll_keeps | split

theorem remember_keeps {x1} (h : Keeps z s) : Keeps z (State.remember s x1) := by
  unfold State.remember
  with_reducible repeat' first | assumption | simp only [↓Keeps.rest_iff] | split

theorem setnewda_keeps {x1} (h : Keeps z s) : Keeps z (State.setnewda s x1) := by
  unfold State.setnewda
  with_reducible repeat' first
    | assumption | apply ccc_keeps | apply emit_keeps | apply Keeps.ite | simp only [↓Keeps.rest_iff]

theorem mediaError_keeps {x1} (h : Keeps z s) : Keeps z (State.mediaError s x1) := by
  unfold State.mediaError
  with_reducible repeat' first | assumption | intro x | apply each_keeps | apply postRec_keeps

theorem enterSafeState_keeps {x1} (h : Keeps z s) : Keeps z (State.enterSafeState s x1) := by
  unfold State.enterSafeState
  with_reducible repeat' first | assumption | apply enterSafe_keeps | apply endBarriersAll_keeps | apply Keeps.ite

theorem firstFail_keeps {x1 x2} (h : Keeps z s) : Keeps z (State.firstFail s x1 x2) := by
  unfold State.firstFail
  with_reducible repeat' first | assumption | apply setReg_keeps | apply Keeps.ite

theorem railReaction_keeps {x1} (h : Keeps z s) : Keeps z (State.railReaction s x1) := by
  unfold State.railReaction
  with_reducible repeat' first
    | assumption | intro x | apply raiseAt_keeps | apply releaseAll_keeps | apply each_keeps
    | apply raise_keeps | apply fence_keeps | apply endBarriersAll_keeps | apply fenceChan1_keeps
    | apply blockDown_keeps | apply fenceDch_keeps | apply Keeps.ite

theorem railFault_keeps {x1} (h : Keeps z s) : Keeps z (State.railFault s x1) := by
  unfold State.railFault
  with_reducible repeat' first
    | assumption | apply setRail_keeps | apply firstFail_keeps | apply raise_keeps | apply supLog_keeps
    | apply railReaction_keeps | apply Keeps.ite

theorem feedOver_keeps {x1} (h : Keeps z s) : Keeps z (State.feedOver s x1) := by
  unfold State.feedOver
  with_reducible repeat' first | assumption | apply railFault_keeps | apply Keeps.ite

theorem releaseExtent_keeps {x1 x2} (h : Keeps z s) : Keeps z (State.releaseExtent s x1 x2) := by
  unfold State.releaseExtent
  with_reducible repeat' first | assumption | apply clearSlot_keeps | apply askUnbind_keeps | apply Keeps.ite

theorem releaseDc_keeps {x1 x2} (h : Keeps z s) : Keeps z (State.releaseDc s x1 x2) := by
  unfold State.releaseDc
  with_reducible repeat' first
    | assumption | intro x | apply releaseExtent_keeps | apply each_keeps | apply mboxRsp_keeps
    | apply Keeps.ite

theorem setEvents_keeps {x1 x2} (h : Keeps z s) : Keeps z (State.setEvents s x1 x2) := by
  unfold State.setEvents
  with_reducible repeat' first | assumption | apply ccc_keeps | apply emit_keeps

theorem enableCaches_keeps  (h : Keeps z s) : Keeps z (State.enableCaches s) := by
  unfold State.enableCaches
  with_reducible repeat' first
    | assumption | intro x | apply each_keeps | apply sweepAll_keeps | apply setRegFld_keeps | apply Keeps.ite

theorem enable_keeps  (h : Keeps z s) : Keeps z (State.enable s) := by
  unfold State.enable
  refine Keeps.ite (startupOff_keeps ?_) h
  have h1 : Keeps z s.enableCaches := enableCaches_keeps h
  generalize s.enableCaches = t at h1
  exact Keeps.restPwr h1 (.inr (by dsimp only; decide)) (.inl rfl)

theorem resendReqs_keeps {x1} (h : Keeps z s) : Keeps z (State.resendReqs s x1) := by
  unfold State.resendReqs
  with_reducible repeat' first | assumption | intro x | apply routeOut_keeps | apply each_keeps

theorem resetPair_keeps {x1 x2} (h : Keeps z s) : Keeps z (State.resetPair s x1 x2) := by
  unfold State.resetPair
  with_reducible repeat' first | assumption | apply resendReqs_keeps | apply setPair_keeps

theorem orderlyFlushTimeout_keeps  (h : Keeps z s) : Keeps z (State.orderlyFlushTimeout s) := by
  unfold State.orderlyFlushTimeout
  with_reducible repeat' first | assumption | apply orderlyEnd_keeps | apply Keeps.ite

theorem i3cReject_keeps {x1} (h : Keeps z s) : Keeps z (State.i3cReject s x1) := by
  unfold State.i3cReject
  with_reducible repeat' first | assumption | apply unmapped_keeps | apply reject_keeps | split

theorem setRead__keeps {x1 x2} (h : Keeps z s) : Keeps z (State.setRead_ s x1 x2) := by
  unfold State.setRead_
  with_reducible repeat' first | assumption | apply i3cReject_keeps | apply Keeps.ite | simp only [↓Keeps.rest_iff]

theorem railSample_keeps {x1 x2} (h : Keeps z s) : Keeps z (State.railSample s x1 x2) := by
  unfold State.railSample
  with_reducible repeat' first | assumption | apply setRail_keeps | apply railFault_keeps | apply Keeps.ite

theorem markDurable_keeps {x1} (h : Keeps z s) : Keeps z (State.markDurable s x1) := by
  unfold State.markDurable
  with_reducible repeat' first
    | assumption | apply setRwr_keeps | apply unholdRegion_keeps | apply rwDone_keeps | split

theorem warnSensor_keeps {x1} (h : Keeps z s) : Keeps z (State.warnSensor s x1) := by
  unfold State.warnSensor
  with_reducible repeat' first | assumption | apply raise_keeps | apply Keeps.ite

theorem throttle_keeps  (h : Keeps z s) : Keeps z (State.throttle s) := by
  unfold State.throttle
  with_reducible repeat' first
    | assumption | apply memoryEvent_keeps | apply originate_keeps | apply postAll_keeps
    | apply raise_keeps | apply Keeps.ite | simp only [↓Keeps.rest_iff]

theorem setSensor_keeps {x1 x2} (h : Keeps z s) : Keeps z (State.setSensor s x1 x2) := by
  unfold State.setSensor
  with_reducible repeat' first | assumption | simp only [↓Keeps.rest_iff]

theorem takeReading_keeps {x1 x2} (h : Keeps z s) : Keeps z (State.takeReading s x1 x2) := by
  unfold State.takeReading
  with_reducible repeat' first | assumption | apply setSensor_keeps

theorem measureStart_keeps  (h : Keeps z s) : Keeps z (State.measureStart s) := by
  unfold State.measureStart
  with_reducible repeat' first
    | exact .inl rfl | assumption | apply newBudget_keeps | apply Keeps.ite
    | (simp only [↓Keeps.pwr_iff]; refine KeepsPwr.intro ?_ ?_ ?_)

theorem coldBank_keeps  (h : Keeps z s) : Keeps z (State.coldBank s) := by
  unfold State.coldBank
  with_reducible repeat' first
    | exact .inl rfl | assumption | apply measureStart_keeps | apply Keeps.ite
    | (simp only [↓Keeps.pwr_iff]; refine KeepsPwr.intro ?_ ?_ ?_)

theorem thermalRound_keeps {x1} (h : Keeps z s) : Keeps z (State.thermalRound s x1) := by
  unfold State.thermalRound
  with_reducible repeat' first
    | assumption | intro x | apply thermalRelease_keeps | apply enforce_keeps | apply warnSensor_keeps
    | apply throttle_keeps | apply each_keeps | apply raise_keeps | apply setSensor_keeps
    | apply setCaps_keeps | apply coldBank_keeps | apply Keeps.ite | simp only [↓Keeps.rest_iff]

theorem passDone_keeps {x1} (h : Keeps z s) : Keeps z (State.passDone s x1) := by
  unfold State.passDone
  with_reducible repeat' first
    | assumption | apply passEnd_keeps | apply setOp_keeps | apply sendDirty_keeps
    | apply enterSwitch_keeps | apply Keeps.ite | split

theorem storeLsa_keeps {x1} (h : Keeps z s) : Keeps z (State.storeLsa s x1) := by
  unfold State.storeLsa
  with_reducible repeat' first | assumption | simp only [↓Keeps.rest_iff]

theorem protoError_keeps  (h : Keeps z s) : Keeps z (State.protoError s) := by
  unfold State.protoError
  with_reducible repeat' first
    | assumption | apply raise_keeps | apply countUp_keeps | apply Keeps.ite | simp only [↓Keeps.rest_iff]

theorem i3cWrite_keeps {x1 x2 x3} (h : Keeps z s) : Keeps z (State.i3cWrite s x1 x2 x3) := by
  unfold State.i3cWrite
  with_reducible repeat' first
    | assumption | intro x | apply i3cReject_keeps | apply busWrite_keeps | apply protoError_keeps
    | apply each_keeps | apply Keeps.ite

theorem measurements_keeps {x1 x2} (h : Keeps z s) : Keeps z (State.measurements s x1 x2) := by
  unfold State.measurements
  with_reducible repeat' first | assumption | apply spdmFree_keeps | apply spdmError_keeps | apply Keeps.ite

theorem cmdAbandon_keeps  (h : Keeps z s) : Keeps z (State.cmdAbandon s) := by
  unfold State.cmdAbandon
  with_reducible repeat' first
    | assumption | apply answerCmd_keeps | apply raise_keeps | simp only [↓Keeps.rest_iff] | split

theorem startSurvey_keeps  (h : Keeps z s) : Keeps z (State.startSurvey s) := by
  unfold State.startSurvey
  with_reducible repeat' first
    | assumption | intro x | apply readList_keeps | apply each_keeps | apply setRegFld_keeps
    | apply issueRead_keeps | simp only [↓Keeps.rest_iff] | split

theorem trainedDch_keeps {x1} (h : Keeps z s) : Keeps z (State.trainedDch s x1) := by
  unfold State.trainedDch
  with_reducible repeat' first | assumption | apply tierFormed_keeps | apply setDch_keeps | apply Keeps.ite

theorem leaseLost_keeps  (h : Keeps z s) : Keeps z (State.leaseLost s) := by
  unfold State.leaseLost
  with_reducible repeat' first | assumption | apply raise_keeps | apply Keeps.ite | simp only [↓Keeps.rest_iff]

theorem flushDrained_keeps  (h : Keeps z s) : Keeps z (State.flushDrained s) := by
  unfold State.flushDrained
  with_reducible repeat' first
    | exact .inl rfl | (refine .inr ?_; (try dsimp only); decide) | assumption | apply pump_keeps
    | apply handAll_keeps | apply closeGather_keeps | apply Keeps.ite
    | (simp only [↓Keeps.pwr_iff]; refine KeepsPwr.intro ?_ ?_ ?_)

theorem mboxDenied_keeps {x1} (h : Keeps z s) : Keeps z (State.mboxDenied s x1) := by
  unfold State.mboxDenied
  with_reducible repeat' first | assumption | apply headDenied_keeps | apply mboxRsp_keeps

theorem mailStore_keeps {x1 x2 x3 x4} (h : Keeps z s) : Keeps z (State.mailStore s x1 x2 x3 x4) := by
  unfold State.mailStore
  with_reducible repeat' first
    | assumption | apply offerRemote_keeps | apply localStore_keeps | apply invalidSeg_keeps
    | simp only [↓Keeps.rest_iff] | split

theorem poisonCmd_keeps {x1 x2 x3 x4} (h : Keeps z s) : Keeps z (State.poisonCmd s x1 x2 x3 x4) := by
  unfold State.poisonCmd
  with_reducible repeat' first
    | assumption | apply mboxDenied_keeps | apply mailStore_keeps | apply mboxRsp_keeps | split

theorem gpfDoneRsp_keeps {x1} (h : Keeps z s) : Keeps z (State.gpfDoneRsp s x1) := by
  unfold State.gpfDoneRsp
  with_reducible repeat' first
    | assumption | apply stale_keeps | apply gpfPeerEnd_keeps | apply dropRemote_keeps | split

theorem resume_keeps {x1} (h : Keeps z s) : Keeps z (State.resume s x1) := by
  unfold State.resume
  with_reducible repeat' first | assumption | apply setDie_keeps | apply Keeps.ite

theorem commitRetry_keeps  (h : Keeps z s) : Keeps z (State.commitRetry s) := by
  unfold State.commitRetry
  with_reducible repeat' first | assumption | apply startCommitRegions_keeps | apply Keeps.ite

theorem commitDecoder_keeps {x1 x2 x3} (h : Keeps z s) : Keeps z (State.commitDecoder s x1 x2 x3) := by
  unfold State.commitDecoder
  with_reducible repeat' first | assumption | apply setHead_keeps | apply Keeps.ite

theorem phaseEnd_keeps {x1 : Nat} {x2 : Nat} {x3 : State → State} (g3 : ∀ y0, Keeps z y0 → Keeps z (x3 y0)) (h : Keeps z s) : Keeps z (State.phaseEnd s x1 x2 x3) := by
  unfold State.phaseEnd
  with_reducible repeat' first
    | assumption | apply setMtePhase_keeps | apply startupOff_keeps | apply g3 | apply Keeps.ite

theorem loadMap_keeps  (h : Keeps z s) : Keeps z (State.loadMap s) := by
  unfold State.loadMap
  with_reducible repeat' first | assumption | simp only [↓Keeps.rest_iff]

theorem mapLoadEnd_keeps {x1} (h : Keeps z s) : Keeps z (State.mapLoadEnd s x1) := by
  unfold State.mapLoadEnd
  with_reducible repeat' first
    | assumption | apply phaseEnd_keeps | apply loadMap_keeps | apply Keeps.ite | apply Keeps.id

theorem quiesceTimeout_keeps {x1} (h : Keeps z s) : Keeps z (State.quiesceTimeout s x1) := by
  unfold State.quiesceTimeout
  with_reducible repeat' first
    | assumption | apply freeSegs_keeps | apply rwFinish_keeps | apply raise_keeps | split

theorem within_keeps {x1 : SpdmPath} {x2 : Word} {x3 : Nat} {x4 : State → State} (g4 : ∀ y0, Keeps z y0 → Keeps z (x4 y0)) (h : Keeps z s) : Keeps z (State.within s x1 x2 x3 x4) := by
  unfold State.within
  with_reducible repeat' first | assumption | apply spdmError_keeps | apply spdmRsp_keeps | apply g4 | apply Keeps.ite

theorem dropIde_keeps {x1} (h : Keeps z s) : Keeps z (State.dropIde s x1) := by
  unfold State.dropIde
  with_reducible repeat' first | assumption | apply setHead_keeps

theorem closeSession_keeps {x1 x2} (h : Keeps z s) : Keeps z (State.closeSession s x1 x2) := by
  unfold State.closeSession
  with_reducible repeat' first | assumption | apply dropIde_keeps | simp only [↓Keeps.rest_iff] | split

theorem commitLocks_keeps {x1} (h : Keeps z s) : Keeps z (State.commitLocks s x1) := by
  unfold State.commitLocks
  exact (setSlice_keeps (h.each fun t o ht => ht.put Tab.wf_setReg Tab.sorted_del id id id id id id id)).rest

theorem relocStripes_keeps {x0 x2 x3 x4 x5} (h : Keeps z s) : Keeps z (State.relocStripes x0 s x2 x3 x4 x5) := by
  induction x0 generalizing s x2 x3 x4 x5 with
  | zero => exact h
  | succ n ih =>
    unfold State.relocStripes
    with_reducible repeat' first | assumption | apply ih | apply closeStripe_keeps | simp only [↓Keeps.rest_iff] | split

theorem pwrEnRise_keeps  (h : Keeps z s) : Keeps z (State.pwrEnRise s) := by
  unfold State.pwrEnRise
  with_reducible repeat' first
    | exact .inl rfl | assumption | apply Keeps.ite | (simp only [↓Keeps.pwr_iff]; refine KeepsPwr.intro ?_ ?_ ?_)

theorem endSurveyRead_keeps {x1 x2} (h : Keeps z s) : Keeps z (State.endSurveyRead s x1 x2) := by
  unfold State.endSurveyRead
  with_reducible repeat' first | assumption | apply fresh_keeps | apply setBlock_keeps | split

theorem busFence_keeps {x1} (h : Keeps z s) : Keeps z (State.busFence s x1) := by
  unfold State.busFence
  with_reducible repeat' first | assumption | apply fenceChan_keeps | apply Keeps.ite

theorem dramCe_keeps {x1 x2 x3} (h : Keeps z s) : Keeps z (State.dramCe s x1 x2 x3) := by
  unfold State.dramCe
  with_reducible repeat' first
    | assumption | apply setReg_keeps | apply raise_keeps | apply countUp_keeps | apply fenceDch_keeps
    | apply Keeps.ite | simp only [↓Keeps.rest_iff]

theorem recoveryEnd_keeps {x1 x2} (h : Keeps z s) : Keeps z (State.recoveryEnd s x1 x2) := by
  unfold State.recoveryEnd
  with_reducible repeat' first
    | assumption | apply setPort_keeps | apply replay_keeps | apply portDown_keeps
    | apply retryTransit_keeps | apply beginTraining_keeps | apply Keeps.ite

theorem debugValue_keeps {x1} (h : Keeps z s) : Keeps z (State.debugValue s x1).2 := by
  unfold State.debugValue
  with_reducible repeat' first | assumption | apply verifiedValue_keeps | simp only [↓Keeps.rest_iff] | split

theorem debugRead_keeps {x1} (h : Keeps z s) : Keeps z (State.debugRead s x1) := by
  unfold State.debugRead
  with_reducible repeat' first
    | assumption | apply deny_keeps | apply debugValue_keeps | apply emit_keeps | apply Keeps.ite

theorem eqRequest_keeps {x1 x2} (h : Keeps z s) : Keeps z (State.eqRequest s x1 x2) := by
  unfold State.eqRequest
  with_reducible repeat' first | assumption | apply partnerEq_keeps | apply setPort_keeps | apply Keeps.ite

theorem devGrantIn_keeps {x1 x2 x3 x4} (h : Keeps z s) : Keeps z (State.devGrantIn s x1 x2 x3 x4) := by
  unfold State.devGrantIn
  with_reducible repeat' first
    | assumption | apply confirmDev_keeps | apply floodLink_keeps | apply Keeps.ite | simp only [↓Keeps.rest_iff]

theorem doneDurable_keeps {x1} (h : Keeps z s) : Keeps z (State.doneDurable s x1) := by
  unfold State.doneDurable
  with_reducible repeat' first | assumption | apply freeSegs_keeps | apply rwDone_keeps | split

theorem writePart_keeps {x1 x2 x3 x4} (h : Keeps z s) : Keeps z (State.writePart s x1 x2 x3 x4) := by
  unfold State.writePart
  with_reducible repeat' first | assumption | apply failPart_keeps | apply Keeps.ite | simp only [↓Keeps.rest_iff]

theorem pantryWrite_keeps {x1 x2 x3 x4} (h : Keeps z s) : Keeps z (State.pantryWrite s x1 x2 x3 x4) := by
  unfold State.pantryWrite
  with_reducible repeat' first | assumption | apply writePart_keeps | simp only [↓Keeps.rest_iff]

theorem noteSlot_keeps {x1} (h : Keeps z s) : Keeps z (State.noteSlot s x1) := by
  unfold State.noteSlot
  with_reducible repeat' first | assumption | apply Keeps.ite | simp only [↓Keeps.rest_iff]

theorem regate_keeps {x1} (h : Keeps z s) : Keeps z (State.regate s x1) := by
  unfold State.regate
  with_reducible repeat' first
    | exact .inl rfl | assumption | apply Keeps.ite | (simp only [↓Keeps.pwr_iff]; refine KeepsPwr.intro ?_ ?_ ?_)

theorem thermalFlush_keeps  (h : Keeps z s) : Keeps z (State.thermalFlush s) := by
  unfold State.thermalFlush
  with_reducible repeat' first
    | exact .inl rfl | (refine .inr ?_; (try dsimp only); decide) | assumption | apply startReverse_keeps
    | apply deepIdleWake_keeps | apply startFlush_keeps | simp only [↓Keeps.rest_iff] | split
    | (simp only [↓Keeps.pwr_iff]; refine KeepsPwr.intro ?_ ?_ ?_)

theorem spillNotice_keeps  (h : Keeps z s) : Keeps z (State.spillNotice s) := by
  unfold State.spillNotice
  with_reducible repeat' first | assumption | apply raise_keeps | apply Keeps.ite | simp only [↓Keeps.rest_iff]

theorem eraseSet_keeps {x1} (h : Keeps z s) : Keeps z (State.eraseSet s x1) := by
  unfold State.eraseSet
  with_reducible repeat' first
    | assumption | intro x | apply retire_keeps | apply setBlock_keeps | apply each_keeps
    | apply startErases_keeps | simp only [↓Keeps.rest_iff] | split

theorem loseSegs_keeps  (h : Keeps z s) : Keeps z (State.loseSegs s) := by
  unfold State.loseSegs
  with_reducible repeat' first
    | assumption | intro x | apply changeSeg_keeps | apply raiseAt_keeps | apply each_keeps

theorem poisonTorn_keeps {x1} (h : Keeps z s) : Keeps z (State.poisonTorn s x1) := by
  unfold State.poisonTorn
  with_reducible repeat' first | assumption | apply unmapNow_keeps | apply Keeps.ite

theorem breach_keeps  (h : Keeps z s) : Keeps z (State.breach s) := by
  unfold State.breach
  with_reducible repeat' first
    | assumption | apply raiseAt_keeps | apply each_keeps | apply setRing_keeps | apply poisonTorn_keeps
    | apply Keeps.ite | simp only [↓Keeps.rest_iff]

theorem unmapVolatile_keeps {x1} (h : Keeps z s) : Keeps z (State.unmapVolatile s x1) := by
  unfold State.unmapVolatile
  with_reducible repeat' first | assumption | apply unmapSegment_keeps | simp only [↓Keeps.rest_iff]

theorem settleAll_keeps  (h : Keeps z s) : Keeps z (State.settleAll s) := by
  unfold State.settleAll
  with_reducible repeat' first
    | assumption | apply checkHeadroom_keeps | apply settled_keeps | apply pump_keeps
    | apply resumeRewinds_keeps | apply checkJournal_keeps | apply spillNotice_keeps
    | apply eraseSet_keeps | apply loseSegs_keeps | apply rwCheck_keeps | apply each_keeps
    | apply breach_keeps | apply unmapVolatile_keeps | apply keepIndex_keeps

theorem holdFault_keeps  (h : Keeps z s) : Keeps z (State.holdFault s) := by
  unfold State.holdFault
  with_reducible repeat' first
    | exact .inl rfl | assumption | apply raise_keeps | apply newBudget_keeps | apply Keeps.ite
    | (simp only [↓Keeps.pwr_iff]; refine KeepsPwr.intro ?_ ?_ ?_)

theorem flushJournaled_keeps {x1} (h : Keeps z s) : Keeps z (State.flushJournaled s x1) := by
  unfold State.flushJournaled
  with_reducible repeat' first
    | exact .inl rfl | (refine .inr ?_; (try dsimp only); decide) | assumption | apply flushTail_keeps
    | apply closeJournal_keeps | apply supLog_keeps | apply Keeps.ite
    | (simp only [↓Keeps.pwr_iff]; refine KeepsPwr.intro ?_ ?_ ?_)

theorem thermRestart_keeps  (h : Keeps z s) : Keeps z (State.thermRestart s) := by
  unfold State.thermRestart
  with_reducible repeat' first
    | exact .inl rfl | (refine .inr ?_; (try dsimp only); decide) | assumption | apply raise_keeps
    | apply supLog_keeps | split | (simp only [↓Keeps.pwr_iff]; refine KeepsPwr.intro ?_ ?_ ?_)

theorem openSession_keeps {x1} (h : Keeps z s) : Keeps z (State.openSession s x1) := by
  unfold State.openSession
  with_reducible repeat' first
    | assumption | apply spdmFree_keeps | apply spdmError_keeps | apply Keeps.ite | simp only [↓Keeps.rest_iff]

theorem engineMark_keeps {x1} (h : Keeps z s) : Keeps z (State.engineMark s x1) := by
  unfold State.engineMark
  with_reducible repeat' first | assumption | intro x | apply each_keeps | apply setSlice_keeps

theorem programAgain_keeps {x1} (h : Keeps z s) : Keeps z (State.programAgain s x1) := by
  unfold State.programAgain
  with_reducible repeat' first
    | assumption | apply closeStripe_keeps | apply rowEnd_keeps | apply issueMeta_keeps | apply Keeps.ite
    | simp only [↓Keeps.rest_iff]

theorem dieFailure_keeps {x1} (h : Keeps z s) : Keeps z (State.dieFailure s x1) := by
  unfold State.dieFailure
  with_reducible repeat' first | assumption | apply fenceDie_keeps | apply setDie_keeps | apply Keeps.ite

theorem noteProgramFail_keeps {x1 x2} (h : Keeps z s) : Keeps z (State.noteProgramFail s x1 x2) := by
  unfold State.noteProgramFail
  with_reducible repeat' first | assumption | apply raiseAt_keeps | apply countUp_keeps | apply dieFailure_keeps

theorem condemnSet_keeps {x1} (h : Keeps z s) : Keeps z (State.condemnSet s x1) := by
  unfold State.condemnSet
  with_reducible repeat' first | assumption | apply journal_keeps | simp only [↓Keeps.rest_iff] | split

theorem programFailure_keeps {x1 x2} (h : Keeps z s) : Keeps z (State.programFailure s x1 x2) := by
  unfold State.programFailure
  with_reducible repeat' first
    | assumption | apply retire_keeps | apply journal_keeps | apply programAgain_keeps
    | apply noteProgramFail_keeps | apply condemnSet_keeps | split

theorem setRead_keeps {x1 x2 x3 x4} (h : Keeps z s) : Keeps z (State.setRead s x1 x2 x3 x4) := by
  unfold State.setRead
  with_reducible repeat' first | assumption | simp only [↓Keeps.rest_iff]

theorem readBusFail_keeps {x1 x2} (h : Keeps z s) : Keeps z (State.readBusFail s x1 x2) := by
  unfold State.readBusFail
  with_reducible repeat' first | assumption | apply countRecon_keeps | apply setRead_keeps | split

theorem wipeBlock_keeps {x1} (h : Keeps z s) : Keeps z (State.wipeBlock s x1) := by
  unfold State.wipeBlock
  with_reducible repeat' first | assumption | simp only [↓Keeps.rest_iff]

theorem eraseFailure_keeps {x1} (h : Keeps z s) : Keeps z (State.eraseFailure s x1) := by
  unfold State.eraseFailure
  with_reducible repeat' first
    | assumption | apply dropErasedSets_keeps | apply retire_keeps | apply raiseAt_keeps
    | apply endBusy_keeps | apply setBlock_keeps | apply wipeBlock_keeps | apply countUp_keeps
    | apply dieFailure_keeps | apply Keeps.ite | simp only [↓Keeps.rest_iff]

theorem busCrcFail_keeps {x1 x2} (h : Keeps z s) : Keeps z (State.busCrcFail s x1 x2) := by
  unfold State.busCrcFail
  with_reducible repeat' first
    | assumption | apply busCrc_keeps | apply busFence_keeps | apply programFailure_keeps
    | apply readBusFail_keeps | apply eraseFailure_keeps | apply Keeps.ite | split

theorem mrstFall_keeps  (h : Keeps z s) : Keeps z (State.mrstFall s) := by
  unfold State.mrstFall
  with_reducible repeat' first | assumption | apply askReset_keeps | simp only [↓Keeps.rest_iff]

theorem endSurvey_keeps  (h : Keeps z s) : Keeps z (State.endSurvey s) := by
  unfold State.endSurvey
  with_reducible repeat' first
    | assumption | intro x | apply askRefresh_keeps | apply each_keeps | apply raise_keeps | apply Keeps.ite
    | simp only [↓Keeps.rest_iff]

theorem resetHead_keeps {x1} (h : Keeps z s) : Keeps z (State.resetHead s x1) := by
  unfold State.resetHead
  with_reducible repeat' first | assumption | apply headReset_keeps | apply Keeps.ite

theorem readEffect_keeps {x1 x2 x3} (h : Keeps z s) : Keeps z (State.readEffect s x1 x2 x3) := by
  unfold State.readEffect
  with_reducible repeat' first
    | assumption | intro x | apply setReg_keeps | apply each_keeps | apply setHead_keeps | apply Keeps.ite
    | simp only [↓Keeps.rest_iff]

theorem readWord_keeps {x1 x2 x3 x4} (h : Keeps z s) : Keeps z (State.readWord s x1 x2 x3 x4).2 := by
  unfold State.readWord
  with_reducible repeat' first | assumption | simp only [↓Keeps.rest_iff] | split

theorem readHead_keeps {x1} (h : Keeps z s) : Keeps z (State.readHead s x1).2 := by
  unfold State.readHead
  with_reducible repeat' first
    | assumption | apply popWord_keeps | apply admitCpl_keeps | apply holdHead_keeps
    | simp only [↓Keeps.rest_iff] | split

theorem busRead_keeps {x1 x2 x3} (h : Keeps z s) : Keeps z (State.busRead s x1 x2 x3).2 := by
  unfold State.busRead
  with_reducible repeat' first
    | assumption | apply unmapped_keeps | apply headDenied_keeps | apply readEffect_keeps
    | apply reject_keeps | apply readWord_keeps | apply readHead_keeps | simp only [↓Keeps.rest_iff] | split

theorem regRead_keeps {x1 x2 x3} (h : Keeps z s) : Keeps z (State.regRead s x1 x2 x3) := by
  unfold State.regRead
  with_reducible repeat' first
    | assumption | apply busRead_keeps | apply emit_keeps | simp only [↓Keeps.rest_iff] | split

theorem badOp_keeps  (h : Keeps z s) : Keeps z (State.badOp s) := by
  unfold State.badOp
  with_reducible repeat' first | assumption | apply raise_keeps | apply Keeps.ite

theorem otherOp_keeps {x1} (h : Keeps z s) : Keeps z (State.otherOp s x1) := by
  unfold State.otherOp
  with_reducible repeat' first | assumption | apply badOp_keeps | apply protoError_keeps | apply Keeps.ite

theorem learnParity_keeps  (h : Keeps z s) : Keeps z (State.learnParity s) := by
  unfold State.learnParity
  with_reducible repeat' first | assumption | simp only [↓Keeps.rest_iff]

theorem roundBlock_keeps {x1} (h : Keeps z s) : Keeps z (State.roundBlock s x1) := by
  unfold State.roundBlock
  with_reducible repeat' first | assumption | apply askRefresh_keeps | apply setBlock_keeps | apply Keeps.ite

theorem mediaRound_keeps  (h : Keeps z s) : Keeps z (State.mediaRound s) := by
  unfold State.mediaRound
  with_reducible repeat' first | assumption | apply each_keeps | apply roundBlock_keeps | simp only [↓Keeps.rest_iff]

theorem lagBound_keeps {x1} (h : Keeps z s) : Keeps z (State.lagBound s x1) := by
  unfold State.lagBound
  with_reducible repeat' first | assumption | simp only [↓Keeps.rest_iff] | split

theorem write4_keeps {x1 x2 x3 x4} (h : Keeps z s) : Keeps z (State.write4 s x1 x2 x3 x4) := by
  unfold State.write4
  with_reducible repeat' first | assumption | apply busWrite_keeps

theorem frameTransferred_keeps {x1} (h : Keeps z s) : Keeps z (State.frameTransferred s x1) := by
  unfold State.frameTransferred
  with_reducible repeat' first | assumption | apply setFrame_keeps | apply handHigh_keeps | split

theorem eraseDone_keeps {x1} (h : Keeps z s) : Keeps z (State.eraseDone s x1) := by
  unfold State.eraseDone
  with_reducible repeat' first
    | assumption | apply dropErasedSets_keeps | apply retire_keeps | apply endBusy_keeps
    | apply setBlock_keeps | apply wipeBlock_keeps | apply Keeps.ite | simp only [↓Keeps.rest_iff]

theorem retryRsp_keeps {x1} (h : Keeps z s) : Keeps z (State.retryRsp s x1) := by
  unfold State.retryRsp
  with_reducible repeat' first | assumption | apply ackReqs_keeps | apply resendReqs_keeps

theorem askTrickle_keeps {x1} (h : Keeps z s) : Keeps z (State.askTrickle s x1) := by
  unfold State.askTrickle
  with_reducible repeat' first | assumption | apply setPort_keeps | apply linkOut_keeps | apply Keeps.ite

theorem deepIdle_keeps  (h : Keeps z s) : Keeps z (State.deepIdle s) := by
  unfold State.deepIdle
  with_reducible repeat' first
    | exact .inl rfl | (refine .inr ?_; (try dsimp only); decide) | assumption | intro x | apply switchStepRails_keeps
    | apply askTrickle_keeps | apply each_keeps | apply finishOp_keeps | apply gpfFlushEnd_keeps
    | apply setHead_keeps | apply Keeps.ite | (simp only [↓Keeps.pwr_iff]; refine KeepsPwr.intro ?_ ?_ ?_)

theorem powerUp_keeps  (h : Keeps z s) : Keeps z (State.powerUp s) := by
  unfold State.powerUp
  with_reducible repeat' first
    | exact .inl rfl | (refine .inr ?_; (try dsimp only); decide) | assumption | apply switchStepRails_keeps
    | apply supLog_keeps | apply Keeps.ite | (simp only [↓Keeps.pwr_iff]; refine KeepsPwr.intro ?_ ?_ ?_)

theorem keyWaitEnd_keeps  (h : Keeps z s) : Keeps z (State.keyWaitEnd s) := by
  unfold State.keyWaitEnd
  with_reducible repeat' first
    | assumption | intro x | apply sendPlain_keeps | apply each_keeps | apply putPush_keeps
    | apply sendPush_keeps | apply Keeps.ite

theorem relockTimeout_keeps  (h : Keeps z s) : Keeps z (State.relockTimeout s) := by
  unfold State.relockTimeout
  with_reducible repeat' first
    | assumption | apply releaseAll_keeps | apply raise_keeps | apply supLog_keeps | apply Keeps.ite

theorem levelReclaim_keeps {x1} (h : Keeps z s) : Keeps z (State.levelReclaim s x1) := by
  unfold State.levelReclaim
  with_reducible repeat' first | assumption | apply Keeps.ite | simp only [↓Keeps.rest_iff]

theorem relocRead_keeps {x1} (h : Keeps z s) : Keeps z (State.relocRead s x1) := by
  unfold State.relocRead
  with_reducible repeat' first
    | assumption | intro x | apply fresh_keeps | apply setBlock_keeps | apply countRecon_keeps
    | apply each_keeps | apply countRead_keeps | apply Keeps.ite

theorem relocate_keeps {x1 x2 x3} (h : Keeps z s) : Keeps z (State.relocate s x1 x2 x3) := by
  unfold State.relocate
  with_reducible repeat' first
    | assumption | apply raiseAt_keeps | apply relocStripes_keeps | apply relocRead_keeps
    | apply each_keeps | apply Keeps.ite

theorem scrape_keeps {x1} (h : Keeps z s) : Keeps z (State.scrape s x1) := by
  unfold State.scrape
  have h1 : Keeps z (s.levelReclaim x1) := levelReclaim_keeps h
  refine Keeps.ite h1 ?_
  split
  · cases Tab.find (s.levelReclaim x1).mte.sets _ with
    | none => exact h1
    | some r => exact relocate_keeps h1
  · split
    · exact h1
    · exact relocate_keeps h1.rest

theorem mctpDo_keeps {x1 x2} (h : Keeps z s) : Keeps z (State.mctpDo s x1 x2) := by
  unfold State.mctpDo
  with_reducible repeat' first | assumption | apply sendIbi_keeps | apply emit_keeps | apply Keeps.ite

theorem fillArrive_keeps {x1 x2} (h : Keeps z s) : Keeps z (State.fillArrive s x1 x2) := by
  unfold State.fillArrive
  with_reducible repeat' first
    | assumption | intro x | apply notePoison_keeps | apply fillWaiter_keeps | apply each_keeps
    | apply perfEvent_keeps | apply preloadAll_keeps | apply install_keeps | apply dropMiss_keeps
    | apply setSlice_keeps | simp only [↓Keeps.rest_iff] | split

theorem writeBarrier_keeps {x1 x2 x3} (h : Keeps z s) : Keeps z (State.writeBarrier s x1 x2 x3) := by
  unfold State.writeBarrier
  with_reducible repeat' first
    | assumption | intro x | apply offerRemote_keeps | apply each_keeps | apply barrierAnswer_keeps
    | apply setHead_keeps | apply Keeps.ite

theorem getstatus_keeps  (h : Keeps z s) : Keeps z (State.getstatus s) := by
  unfold State.getstatus
  with_reducible repeat' first | assumption | apply cccGet_keeps | apply Keeps.ite | simp only [↓Keeps.rest_iff]

theorem mapFound_keeps {x1 x2} (h : Keeps z s) : Keeps z (State.mapFound s x1 x2) := by
  unfold State.mapFound
  with_reducible repeat' first
    | assumption | apply supersede_keeps | apply setEntry_keeps | apply journal_keeps | apply Keeps.ite

theorem tailScan_keeps  (h : Keeps z s) : Keeps z (State.tailScan s) := by
  unfold State.tailScan
  with_reducible repeat' first
    | assumption | intro x | apply reserveFirst_keeps | apply each_keeps | apply mapFound_keeps

theorem untrainedDch_keeps {x1} (h : Keeps z s) : Keeps z (State.untrainedDch s x1) := by
  unfold State.untrainedDch
  with_reducible repeat' first
    | assumption | intro x | apply setDch_keeps | apply each_keeps | apply feedOff_keeps
    | apply raise_keeps | apply decidePopulation_keeps | apply Keeps.ite | simp only [↓Keeps.rest_iff]

theorem nakFlit_keeps {x1 x2} (h : Keeps z s) : Keeps z (State.nakFlit s x1 x2) := by
  unfold State.nakFlit
  with_reducible repeat' first
    | assumption | apply flitHeader_keeps | apply replay_keeps | apply crcError_keeps
    | apply securityError_keeps | apply Keeps.ite

theorem kxOffer_keeps {x1 x2 x3} (h : Keeps z s) : Keeps z (State.kxOffer s x1 x2 x3) := by
  unfold State.kxOffer
  with_reducible repeat' first
    | assumption | apply sendOffer_keeps | apply setPort_keeps | apply sendProof_keeps | apply Keeps.ite

theorem flrHead_keeps {x1} (h : Keeps z s) : Keeps z (State.flrHead s x1) := by
  unfold State.flrHead
  with_reducible repeat' first | assumption | apply headResetCommon_keeps | apply Keeps.ite

theorem recallStart_keeps  (h : Keeps z s) : Keeps z (State.recallStart s) := by
  unfold State.recallStart
  with_reducible repeat' first | assumption | simp only [↓Keeps.rest_iff]

theorem hotJoin_keeps  (h : Keeps z s) : Keeps z (State.hotJoin s) := by
  unfold State.hotJoin
  with_reducible repeat' first | assumption | apply emit_keeps | apply Keeps.ite

theorem redirectOne_keeps {x1 x2} (h : Keeps z s) : Keeps z (State.redirectOne s x1 x2) := by
  unfold State.redirectOne
  with_reducible repeat' first
    | assumption | intro x | apply forwardReq_keeps | apply offerRemote_keeps | apply each_keeps
    | apply peerDone_keeps | split

theorem forcedReaction_keeps {x1} (h : Keeps z s) : Keeps z (State.forcedReaction s x1) := by
  unfold State.forcedReaction
  with_reducible repeat' first
    | assumption | apply fenceChan_keeps | apply headDown_keeps | apply abortCore_keeps
    | apply thermalFlush_keeps | apply releaseAll_keeps | apply setCore_keeps | apply fence_keeps
    | apply endBarriersAll_keeps | apply fenceSlice_keeps | apply fenceDch_keeps | simp only [↓Keeps.rest_iff]
    | split

theorem startSafeFlush_keeps  (h : Keeps z s) : Keeps z (State.startSafeFlush s) := by
  unfold State.startSafeFlush
  with_reducible repeat' first | assumption | apply deepIdleWake_keeps | apply startFlush_keeps | apply Keeps.ite

theorem takeSources_keeps  (h : Keeps z s) : Keeps z (State.takeSources s) := by
  unfold State.takeSources
  with_reducible repeat' first
    | assumption | apply each_keeps | apply takeAll_keeps | apply forcedReaction_keeps
    | apply startSafeFlush_keeps | apply Keeps.ite

theorem sliceAfresh_keeps {x1} (h : Keeps z s) : Keeps z (State.sliceAfresh s x1) := by
  unfold State.sliceAfresh
  with_reducible repeat' first
    | assumption | intro x | apply pump_keeps | apply drainAll_keeps | apply each_keeps
    | apply admitAll_keeps | apply setRegFld_keeps | apply badAll_keeps | apply answerRead_keeps
    | apply setSlice_keeps | apply Keeps.ite

theorem unitResetEnd_keeps {x1} (h : Keeps z s) : Keeps z (State.unitResetEnd s x1) := by
  unfold State.unitResetEnd
  with_reducible repeat' first
    | assumption | apply startBlock_keeps | apply fenceReactionEnd_keeps | apply resetUnit_keeps
    | apply resetHead_keeps | apply raise_keeps | apply sliceAfresh_keeps | apply setCore_keeps
    | apply unfence_keeps | simp only [↓Keeps.rest_iff] | split

theorem pwrEnFall_keeps  (h : Keeps z s) : Keeps z (State.pwrEnFall s) := by
  unfold State.pwrEnFall
  with_reducible repeat' first
    | exact .inl rfl | assumption | apply startReverse_keeps | apply askOff_keeps | apply Keeps.ite
    | (simp only [↓Keeps.pwr_iff]; refine KeepsPwr.intro ?_ ?_ ?_)

theorem enterTrickle_keeps {x1} (h : Keeps z s) : Keeps z (State.enterTrickle s x1) := by
  unfold State.enterTrickle
  with_reducible repeat' first | assumption | apply setPort_keeps | apply linkChanged_keeps

theorem safeEntry_keeps {x1} (h : Keeps z s) : Keeps z (State.safeEntry s x1) := by
  unfold State.safeEntry
  with_reducible repeat' first
    | assumption | apply enterSafeState_keeps | apply startSafeFlush_keeps | apply Keeps.ite

theorem setmrl_keeps {x1} (h : Keeps z s) : Keeps z (State.setmrl s x1) := by
  unfold State.setmrl
  with_reducible repeat' first
    | assumption | apply ccc_keeps | apply emit_keeps | apply Keeps.ite | simp only [↓Keeps.rest_iff]

theorem reformTimeout_keeps  (h : Keeps z s) : Keeps z (State.reformTimeout s) := by
  unfold State.reformTimeout
  with_reducible repeat' first | assumption | apply raise_keeps | apply Keeps.ite

theorem debugPageWrite_keeps  (h : Keeps z s) : Keeps z (State.debugPageWrite s) := by
  unfold State.debugPageWrite
  with_reducible repeat' first | assumption | apply deny_keeps | apply Keeps.ite

theorem debugWrite_keeps {x1 x2} (h : Keeps z s) : Keeps z (State.debugWrite s x1 x2) := by
  unfold State.debugWrite
  with_reducible repeat' first | assumption | apply localStore_keeps | apply deny_keeps | apply Keeps.ite

theorem debugPageRead_keeps {x1} (h : Keeps z s) : Keeps z (State.debugPageRead s x1) := by
  unfold State.debugPageRead
  with_reducible repeat' first | assumption | apply fresh_keeps | apply emit_keeps | apply Keeps.ite

theorem debugAccess_keeps {x1} (h : Keeps z s) : Keeps z (State.debugAccess s x1) := by
  unfold State.debugAccess
  with_reducible repeat' first
    | assumption | apply debugRead_keeps | apply debugPageWrite_keeps | apply debugWrite_keeps
    | apply debugPageRead_keeps | split

theorem replayMap_keeps {x1} (h : Keeps z s) : Keeps z (State.replayMap s x1) := by
  unfold State.replayMap
  with_reducible repeat' first | assumption | apply setEntry_keeps | apply Keeps.ite

theorem replayEntry_keeps {x1} (h : Keeps z s) : Keeps z (State.replayEntry s x1) := by
  unfold State.replayEntry
  with_reducible repeat' first
    | assumption | intro x | apply replayGone_keeps | apply each_keeps | apply replayMap_keeps | split

theorem raiseSvn_keeps  (h : Keeps z s) : Keeps z (State.raiseSvn s) := by
  unfold State.raiseSvn
  with_reducible repeat' first | assumption | apply setRing_keeps | apply Keeps.ite | simp only [↓Keeps.rest_iff]

theorem coresUp_keeps  (h : Keeps z s) : Keeps z (State.coresUp s) := by
  unfold State.coresUp
  with_reducible repeat' first
    | assumption | apply fwDone_keeps | apply raiseSvn_keeps | apply Keeps.ite | simp only [↓Keeps.rest_iff]

theorem bootMonitor_keeps {x1} (h : Keeps z s) : Keeps z (State.bootMonitor s x1) := by
  unfold State.bootMonitor
  with_reducible repeat' first
    | assumption | apply revertSlot_keeps | apply coresUp_keeps | apply raise_keeps | apply setCore_keeps
    | apply assignCores_keeps | apply Keeps.ite | simp only [↓Keeps.rest_iff]

theorem thermShut_keeps {x1 x2} (h : Keeps z s) : Keeps z (State.thermShut s x1 x2) := by
  unfold State.thermShut
  with_reducible repeat' first
    | assumption | apply thermalFlush_keeps | apply raise_keeps | apply supLog_keeps | apply Keeps.ite
    | simp only [↓Keeps.rest_iff]

theorem crumbLost_keeps {x1} (h : Keeps z s) : Keeps z (State.crumbLost s x1) := by
  unfold State.crumbLost
  with_reducible repeat' first | assumption | apply raiseAt_keeps | apply countUp_keeps

theorem holdExpiry_keeps {x1} (h : Keeps z s) : Keeps z (State.holdExpiry s x1) := by
  unfold State.holdExpiry
  with_reducible repeat' first
    | assumption | apply cmdOverflow_keeps | apply holdHead_keeps | apply emit_keeps | apply Keeps.ite
    | simp only [↓Keeps.rest_iff]

theorem flushReleased_keeps  (h : Keeps z s) : Keeps z (State.flushReleased s) := by
  unfold State.flushReleased
  with_reducible repeat' first
    | exact .inl rfl | assumption | apply reachOff_keeps | apply raise_keeps | apply Keeps.ite
    | (simp only [↓Keeps.pwr_iff]; refine KeepsPwr.intro ?_ ?_ ?_)

theorem discardTimeout_keeps {x1} (h : Keeps z s) : Keeps z (State.discardTimeout s x1) := by
  unfold State.discardTimeout
  with_reducible repeat' first | assumption | intro x | apply endDiscard_keeps | apply each_keeps

theorem missFullEnd_keeps {x1} (h : Keeps z s) : Keeps z (State.missFullEnd s x1) := by
  unfold State.missFullEnd
  with_reducible repeat' first
    | assumption | apply admitAll_keeps | apply lookRead_keeps | apply setSlice_keeps
    | simp only [↓Keeps.rest_iff] | split

theorem detected_keeps {x1 x2} (h : Keeps z s) : Keeps z (State.detected s x1 x2) := by
  unfold State.detected
  with_reducible repeat' first | assumption | apply setPort_keeps | apply sendTrain_keeps | apply Keeps.ite

theorem crumbMarks_keeps {x1 x2 x3 x4} (h : Keeps z s) : Keeps z (State.crumbMarks s x1 x2 x3 x4) := by
  unfold State.crumbMarks
  with_reducible repeat' first
    | assumption | apply raiseAt_keeps | apply askRefresh_keeps | apply setBlock_keeps
    | apply countUp_keeps | apply countCorr_keeps | apply Keeps.ite

theorem matesRead_keeps {x1 x2} (h : Keeps z s) : Keeps z (State.matesRead s x1 x2).2.2 := by
  unfold State.matesRead
  dsimp only
  suffices ∀ (l : List (Ppa × CrumbOutcome)) (a : Bool × Bool × State), Keeps z a.2.2 → Keeps z (l.foldl (fun (acc : Bool × Bool × State) e =>
      match crumbParts e.2 with
      | some (step, corrected, refs) => (acc.1, acc.2.1 && step == 1, acc.2.2.crumbMarks e.1 step corrected refs)
      | none => (false, false, acc.2.2)) a).2.2 from this _ _ h
  intro l
  induction l with
  | nil => exact fun a ha => ha
  | cons e l ih =>
    intro a ha
    refine ih _ ?_
    dsimp only
    generalize crumbParts e.2 = o
    cases o with
    | none => exact ha
    | some o => exact crumbMarks_keeps ha

theorem deliver_keeps {x1 x2 x3 x4} (h : Keeps z s) : Keeps z (State.deliver s x1 x2 x3 x4) := by
  unfold State.deliver
  with_reducible repeat' first | assumption | apply perfEvent_keeps | apply missStage_keeps | split

theorem reconDone_keeps {x1 x2 x3} (h : Keeps z s) : Keeps z (State.reconDone s x1 x2 x3) := by
  unfold State.reconDone
  with_reducible repeat' first
    | assumption | apply mapArrived_keeps | apply crumbRebuilt_keeps | apply endCheck_keeps
    | apply mediaError_keeps | apply endSurveyRead_keeps | apply crumbLost_keeps | apply matesRead_keeps
    | apply deliver_keeps | apply setRead_keeps | split

theorem takeProfile_keeps  (h : Keeps z s) : Keeps z (State.takeProfile s) := by
  unfold State.takeProfile
  with_reducible repeat' first
    | exact .inl rfl | assumption | apply setCaps_keeps | apply Keeps.ite
    | (simp only [↓Keeps.pwr_iff]; refine KeepsPwr.intro ?_ ?_ ?_)

theorem dataFlit_keeps {x1 x2} (h : Keeps z s) : Keeps z (State.dataFlit s x1 x2) := by
  unfold State.dataFlit
  with_reducible repeat' first
    | assumption | apply crcError_keeps | apply securityError_keeps | apply takeFlit_keeps | apply Keeps.ite

theorem gapTimeout_keeps  (h : Keeps z s) : Keeps z (State.gapTimeout s) := by
  unfold State.gapTimeout
  with_reducible repeat' first | assumption | apply sendPlain_keeps | apply Keeps.ite

theorem dramMiscorrect_keeps {x1 x2} (h : Keeps z s) : Keeps z (State.dramMiscorrect s x1 x2) := by
  unfold State.dramMiscorrect
  with_reducible repeat' first | assumption | apply setFrame_keeps | apply fresh_keeps | split

theorem grant_keeps {x1 x2} (h : Keeps z s) : Keeps z (State.grant s x1 x2) := by
  unfold State.grant
  with_reducible repeat' first | assumption | apply floodLink_keeps | simp only [↓Keeps.rest_iff]

theorem cxlWrite_keeps {x1 x2 x3 x4 x5 x6} (h : Keeps z s) : Keeps z (State.cxlWrite s x1 x2 x3 x4 x5 x6) := by
  unfold State.cxlWrite
  with_reducible repeat' first
    | assumption | apply fresh_keeps | apply passWrite_keeps | apply headReq_keeps
    | apply writeBarrier_keeps | split

theorem drainOne_keeps {x1 x2} (h : Keeps z s) : Keeps z (State.drainOne s x1 x2) := by
  unfold State.drainOne
  with_reducible repeat' first | assumption | apply offerLine_keeps | apply Keeps.ite | split

theorem l0p_keeps {x1 x2} (h : Keeps z s) : Keeps z (State.l0p s x1 x2) := by
  unfold State.l0p
  with_reducible repeat' first | assumption | apply setHead_keeps | apply Keeps.ite

theorem checkpoint_keeps {x1} (h : Keeps z s) : Keeps z (State.checkpoint s x1) := by
  unfold State.checkpoint
  with_reducible repeat' first | assumption | apply checkpointPage_keeps | apply checkpointImages_keeps | split

theorem release_keeps  (h : Keeps z s) : Keeps z (State.release s) := by
  unfold State.release
  with_reducible repeat' first
    | exact .inl rfl | assumption | apply recallStart_keeps | apply startupOff_keeps | apply emit_keeps
    | apply Keeps.ite | (simp only [↓Keeps.pwr_iff]; refine KeepsPwr.intro ?_ ?_ ?_)

theorem waitReload_keeps {x1 x2} (h : Keeps z s) : Keeps z (State.waitReload s x1 x2) := by
  unfold State.waitReload
  with_reducible repeat' first | assumption | apply setMiss_keeps | simp only [↓Keeps.rest_iff] | split

theorem tierLookup_keeps {x1} (h : Keeps z s) : Keeps z (State.tierLookup s x1) := by
  unfold State.tierLookup
  with_reducible repeat' first
    | assumption | apply setFrame_keeps | apply tagTouch_keeps | apply waitReload_keeps
    | apply missStage_keeps | simp only [↓Keeps.rest_iff] | split

theorem acceptOffer_keeps {x1 x2} (h : Keeps z s) : Keeps z (State.acceptOffer s x1 x2) := by
  unfold State.acceptOffer
  with_reducible repeat' first | assumption | apply setHead_keeps | apply endBinding_keeps

theorem addDcRsp_keeps {x1 x2} (h : Keeps z s) : Keeps z (State.addDcRsp s x1 x2) := by
  unfold State.addDcRsp
  with_reducible repeat' first
    | assumption | intro x | apply each_keeps | apply mboxRsp_keeps | apply acceptOffer_keeps
    | apply dropOffer_keeps | apply Keeps.ite | split

theorem sanitizeAll_keeps  (h : Keeps z s) : Keeps z (State.sanitizeAll s) := by
  unfold State.sanitizeAll
  with_reducible repeat' first
    | assumption | intro x | apply acceptedLine_keeps | apply each_keeps | apply answerAll_keeps
    | simp only [↓Keeps.rest_iff]

theorem tendTree_keeps  (h : Keeps z s) : Keeps z (State.tendTree s) := by
  unfold State.tendTree
  with_reducible repeat' first
    | assumption | apply floodLink_keeps | apply newTree_keeps | apply Keeps.ite | simp only [↓Keeps.rest_iff]

theorem replayTimer_keeps {x1} (h : Keeps z s) : Keeps z (State.replayTimer s x1) := by
  unfold State.replayTimer
  with_reducible repeat' first | assumption | apply replay_keeps | apply sendIdle_keeps | apply Keeps.ite

theorem perfOccupancy_keeps {x1 x2 x3 x4} (h : Keeps z s) : Keeps z (State.perfOccupancy s x1 x2 x3 x4) := by
  unfold State.perfOccupancy
  with_reducible repeat' first | assumption | intro x | apply perfAdd_keeps | apply each_keeps | apply Keeps.ite

theorem alignmentLoss_keeps {x1} (h : Keeps z s) : Keeps z (State.alignmentLoss s x1) := by
  unfold State.alignmentLoss
  with_reducible repeat' first | assumption | apply portDown_keeps | apply beginTraining_keeps | apply Keeps.ite

theorem devConflict_keeps {x1} (h : Keeps z s) : Keeps z (State.devConflict s x1) := by
  unfold State.devConflict
  with_reducible repeat' first | assumption | apply grant_keeps | apply raise_keeps | apply Keeps.ite

theorem autoIdle_keeps  (h : Keeps z s) : Keeps z (State.autoIdle s) := by
  unfold State.autoIdle
  with_reducible repeat' first | assumption | apply enterIdle_keeps | apply Keeps.ite

theorem releaseDurable_keeps {x1} (h : Keeps z s) : Keeps z (State.releaseDurable s x1) := by
  unfold State.releaseDurable
  with_reducible repeat' first | assumption | apply eraseSet_keeps | apply Keeps.ite | simp only [↓Keeps.rest_iff]

theorem recAcks_keeps  (h : Keeps z s) : Keeps z (State.recAcks s) := by
  unfold State.recAcks
  with_reducible repeat' first
    | assumption | intro x | apply sendPlain_keeps | apply each_keeps | simp only [↓Keeps.rest_iff]

theorem reconcile_keeps  (h : Keeps z s) : Keeps z (State.reconcile s) := by
  unfold State.reconcile
  with_reducible repeat' first | assumption | apply raise_keeps | apply Keeps.ite | simp only [↓Keeps.rest_iff]

theorem renewLease_keeps  (h : Keeps z s) : Keeps z (State.renewLease s) := by
  unfold State.renewLease
  with_reducible repeat' first | assumption | apply Keeps.ite | simp only [↓Keeps.rest_iff]

theorem instanceSeen_keeps {x1 x2} (h : Keeps z s) : Keeps z (State.instanceSeen s x1 x2) := by
  unfold State.instanceSeen
  with_reducible repeat' first | assumption | apply resetPair_keeps | apply Keeps.ite | simp only [↓Keeps.rest_iff]

theorem lsaIn_keeps {x1 x2} (h : Keeps z s) : Keeps z (State.lsaIn s x1 x2) := by
  unfold State.lsaIn
  with_reducible repeat' first
    | assumption | apply floodLink_keeps | apply raiseAt_keeps | apply storeLsa_keeps
    | apply dbChanged_keeps | apply devConflict_keeps | apply originate_keeps | apply renewLease_keeps
    | apply instanceSeen_keeps | apply Keeps.ite | simp only [↓Keeps.rest_iff]

theorem secondSource_keeps {x1 x2} (h : Keeps z s) (t : State) (e : (State.secondSource s x1 x2) = some t) : Keeps z t := by
  revert e
  unfold State.secondSource
  dsimp only
  split
  · intro e
    cases e
    refine missStage_keeps (perfEvent_keeps ?_)
    have h1 : Keeps z (match s.frameOf ‹_› with
      | some (n, f) => if f.st == 1 || f.st == 2 then s.dropFrame n else s
      | none => s) := by
      split
      · exact Keeps.ite (dropFrame_keeps h) h
      · exact h
    exact Keeps.ite (countRead_keeps h1) h1
  · intro e
    cases e
    exact missStage_keeps (perfEvent_keeps (countRecon_keeps h))
  · intro e
    cases e

theorem failFirst_keeps {x1 x2 x3 x4} (h : Keeps z s) : Keeps z (State.failFirst s x1 x2 x3 x4) := by
  unfold State.failFirst
  have h1 : Keeps z ((if x3 then s.krMismatch else s).serveWrong x1 x4) := serveWrong_keeps (Keeps.ite (krMismatch_keeps h) h)
  suffices ∀ t : State, Keeps z t → Keeps z (match (if t.retryLines then t.secondSource x1.line x2 else none) with
      | some s => s
      | none => t.tagFail.missStage x1.line (.fill 0 true false)) from this _ h1
  intro t ht
  by_cases c : t.retryLines = true
  · rw [if_pos c]
    split
    · exact secondSource_keeps ht _ ‹_›
    · exact missStage_keeps (tagFail_keeps ht)
  · rw [if_neg c]
    exact missStage_keeps (tagFail_keeps ht)

theorem lineCheck_keeps {x1} (h : Keeps z s) : Keeps z (State.lineCheck s x1) := by
  unfold State.lineCheck
  with_reducible repeat' first
    | assumption | apply keyMissing_keeps | apply missStage_keeps | apply failFirst_keeps | split

theorem relocDone_keeps {x1} (h : Keeps z s) : Keeps z (State.relocDone s x1) := by
  unfold State.relocDone
  with_reducible repeat' first | assumption | apply journal_keeps | simp only [↓Keeps.rest_iff] | split

theorem relocateEnded_keeps  (h : Keeps z s) : Keeps z (State.relocateEnded s) := by
  unfold State.relocateEnded
  with_reducible repeat' first
    | assumption | intro x | apply pump_keeps | apply setDch_keeps | apply each_keeps
    | apply setTierRegs_keeps | apply retryWaiting_keeps | apply setRegFld_keeps | apply feedOff_keeps
    | apply raise_keeps | apply fillFails_keeps | apply relocDone_keeps | apply Keeps.ite
    | simp only [↓Keeps.rest_iff]

theorem rdData_keeps {x1 x2 x3} (h : Keeps z s) : Keeps z (State.rdData s x1 x2 x3) := by
  unfold State.rdData
  with_reducible repeat' first
    | assumption | apply stale_keeps | apply remember_keeps | apply dropRemote_keeps
    | apply answerRead_keeps | split

theorem trickleIn_keeps {x1 x2} (h : Keeps z s) : Keeps z (State.trickleIn s x1 x2) := by
  unfold State.trickleIn
  with_reducible repeat' first | assumption | apply linkOut_keeps | apply enterTrickle_keeps | apply Keeps.ite

theorem programDone_keeps {x1} (h : Keeps z s) : Keeps z (State.programDone s x1) := by
  unfold State.programDone
  with_reducible repeat' first
    | assumption | intro x | apply releaseUnmaps_keeps | apply landPage_keeps | apply pump_keeps
    | apply notePgm_keeps | apply busOk_keeps | apply rowEnd_keeps | apply each_keeps
    | apply landParity_keeps | apply maybeFull_keeps | simp only [↓Keeps.rest_iff] | split

theorem certificate_keeps {x1 x2} (h : Keeps z s) : Keeps z (State.certificate s x1 x2) := by
  unfold State.certificate
  with_reducible repeat' first | assumption | apply spdmError_keeps | apply spdmRsp_keeps | split

theorem settle_keeps  (h : Keeps z s) : Keeps z (State.settle s) := by
  unfold State.settle
  with_reducible repeat' first
    | assumption | apply reserveFirst_keeps | apply phaseEnd_keeps | apply settleAll_keeps | apply Keeps.ite

theorem retryTraining_keeps {x1} (h : Keeps z s) : Keeps z (State.retryTraining s x1) := by
  unfold State.retryTraining
  with_reducible repeat' first | assumption | apply setPort_keeps | apply beginTraining_keeps | apply Keeps.ite

theorem lorlekExec_keeps {x1 x2} (h : Keeps z s) : Keeps z (State.lorlekExec s x1 x2) := by
  unfold State.lorlekExec
  with_reducible repeat' first
    | assumption | apply command_keeps | apply mboxDenied_keeps | apply mboxRsp_keeps | apply Keeps.ite

theorem replayAll_keeps  (h : Keeps z s) : Keeps z (State.replayAll s) := by
  unfold State.replayAll
  with_reducible repeat' first | assumption | intro x | apply replayEntry_keeps | apply each_keeps

theorem zeroizeAll_keeps  (h : Keeps z s) : Keeps z (State.zeroizeAll s) := by
  unfold State.zeroizeAll
  with_reducible repeat' first | assumption | intro x | apply each_keeps | apply zeroize_keeps

theorem switchTimeout_keeps {x1} (h : Keeps z s) : Keeps z (State.switchTimeout s x1) := by
  unfold State.switchTimeout
  with_reducible repeat' first
    | assumption | apply freeSegs_keeps | apply tellOp_keeps | apply setOp_keeps | apply sendDirty_keeps
    | apply dropOp_keeps | split

theorem relock_keeps  (h : Keeps z s) : Keeps z (State.relock s) := by
  unfold State.relock
  with_reducible repeat' first
    | exact .inl rfl | assumption | apply raise_keeps | apply Keeps.ite
    | (simp only [↓Keeps.pwr_iff]; refine KeepsPwr.intro ?_ ?_ ?_)

theorem pbUe_keeps {x1 x2} (h : Keeps z s) : Keeps z (State.pbUe s x1 x2) := by
  unfold State.pbUe
  with_reducible repeat' first
    | assumption | intro x | apply mergeLine_keeps | apply freeLane_keeps | apply poisonWaiting_keeps
    | apply answerBad_keeps | apply raiseAt_keeps | apply updateWay_keeps | apply each_keeps
    | apply raise_keeps | apply countUp_keeps | apply badAll_keeps | apply setSlice_keeps
    | apply answerAtomic_keeps | apply fenceSlice_keeps | apply Keeps.ite | split

theorem confirmSelf_keeps  (h : Keeps z s) : Keeps z (State.confirmSelf s) := by
  unfold State.confirmSelf
  with_reducible repeat' first | assumption | apply confirmDev_keeps | apply Keeps.ite | simp only [↓Keeps.rest_iff]

theorem takeOffice_keeps  (h : Keeps z s) : Keeps z (State.takeOffice s) := by
  unfold State.takeOffice
  with_reducible repeat' first
    | assumption | apply setRoles_keeps | apply flood_keeps | apply originate_keeps
    | apply confirmSelf_keeps | apply Keeps.ite | simp only [↓Keeps.rest_iff]

theorem electionSettled_keeps  (h : Keeps z s) : Keeps z (State.electionSettled s) := by
  unfold State.electionSettled
  with_reducible repeat' first
    | assumption | apply setRoles_keeps | apply raise_keeps | apply takeOffice_keeps
    | simp only [↓Keeps.rest_iff] | split

theorem shadowOnly_keeps  (h : Keeps z s) : Keeps z (State.shadowOnly s) := by
  unfold State.shadowOnly
  with_reducible repeat' first
    | assumption | apply fresh_keeps | apply nextSeq_keeps | simp only [↓Keeps.rest_iff] | split

theorem refFail_keeps  (h : Keeps z s) : Keeps z (State.refFail s) := by
  unfold State.refFail
  with_reducible repeat' first
    | exact .inl rfl | assumption | apply releaseAll_keeps | apply raise_keeps | apply supLog_keeps
    | apply shadowOnly_keeps | apply Keeps.ite | (simp only [↓Keeps.pwr_iff]; refine KeepsPwr.intro ?_ ?_ ?_)

theorem safeFlushTimeout_keeps  (h : Keeps z s) : Keeps z (State.safeFlushTimeout s) := by
  unfold State.safeFlushTimeout
  with_reducible repeat' first | assumption | apply safeHold_keeps | apply Keeps.ite

theorem cplAbandon_keeps  (h : Keeps z s) : Keeps z (State.cplAbandon s) := by
  unfold State.cplAbandon
  with_reducible repeat' first
    | assumption | apply admitCpl_keeps | apply raise_keeps | simp only [↓Keeps.rest_iff] | split

theorem devReqIn_keeps {x1 x2 x3 x4} (h : Keeps z s) : Keeps z (State.devReqIn s x1 x2 x3 x4) := by
  unfold State.devReqIn
  with_reducible repeat' first
    | assumption | apply floodLink_keeps | apply grant_keeps | apply Keeps.ite | simp only [↓Keeps.rest_iff]

theorem trainTimeout_keeps {x1} (h : Keeps z s) : Keeps z (State.trainTimeout s x1) := by
  unfold State.trainTimeout
  with_reducible repeat' first | assumption | apply trainFailed_keeps | apply Keeps.ite

theorem ackTimeout_keeps {x1} (h : Keeps z s) : Keeps z (State.ackTimeout s x1) := by
  unfold State.ackTimeout
  with_reducible repeat' first | assumption | apply raise_keeps | apply Keeps.ite | simp only [↓Keeps.rest_iff]

theorem warnEnd_keeps  (h : Keeps z s) : Keeps z (State.warnEnd s) := by
  unfold State.warnEnd
  with_reducible repeat' first
    | exact .inl rfl | assumption | apply Keeps.ite | (simp only [↓Keeps.pwr_iff]; refine KeepsPwr.intro ?_ ?_ ?_)

theorem challenged_keeps {x1 x2} (h : Keeps z s) : Keeps z (State.challenged s x1 x2) := by
  unfold State.challenged
  with_reducible repeat' first | assumption | apply spdmFree_keeps | apply spdmError_keeps | split

theorem remoteTimeout_keeps {x1} (h : Keeps z s) : Keeps z (State.remoteTimeout s x1) := by
  unfold State.remoteTimeout
  with_reducible repeat' first
    | assumption | apply raiseAt_keeps | apply reissue_keeps | apply markerEnd_keeps
    | apply declareLost_keeps | apply remoteError_keeps | simp only [↓Keeps.rest_iff] | split

theorem atomData_keeps {x1 x2} (h : Keeps z s) : Keeps z (State.atomData s x1 x2) := by
  unfold State.atomData
  with_reducible repeat' first
    | assumption | apply stale_keeps | apply answerBad_keeps | apply answerPoint_keeps
    | apply dropRemote_keeps | apply answerAtomic_keeps | simp only [↓Keeps.rest_iff] | split

theorem pushPacket_keeps {x1 x2} (h : Keeps z s) : Keeps z (State.pushPacket s x1 x2) := by
  fun_induction State.pushPacket s x1 x2 with
  | case1 => exact h
  | case2 => exact pushWord_keeps h
  | case3 s w t ht ih => exact ih (pushWord_keeps h)

theorem i3cPush_keeps {x1} (h : Keeps z s) : Keeps z (State.i3cPush s x1) := by
  unfold State.i3cPush
  with_reducible repeat' first
    | assumption | apply badOp_keeps | apply protoError_keeps | apply pushPacket_keeps | apply Keeps.ite

theorem trickleIdle_keeps {x1} (h : Keeps z s) : Keeps z (State.trickleIdle s x1) := by
  unfold State.trickleIdle
  with_reducible repeat' first | assumption | apply askTrickle_keeps | apply Keeps.ite

theorem errRsp_keeps {x1} (h : Keeps z s) : Keeps z (State.errRsp s x1) := by
  unfold State.errRsp
  with_reducible repeat' first
    | assumption | apply stale_keeps | apply remoteError_keeps | apply alarmFor_keeps | split

theorem readTimeout_keeps {x1 x2} (h : Keeps z s) : Keeps z (State.readTimeout s x1 x2) := by
  unfold State.readTimeout
  with_reducible repeat' first
    | assumption | apply fenceDie_keeps | apply setRead_keeps | simp only [↓Keeps.rest_iff] | split

theorem headTrained_keeps {x1 x2 x3 x4 x5} (h : Keeps z s) : Keeps z (State.headTrained s x1 x2 x3 x4 x5) := by
  unfold State.headTrained
  with_reducible repeat' first
    | assumption | apply setPort_keeps | apply raise_keeps | apply unfence_keeps | apply setHead_keeps
    | apply Keeps.ite

theorem fillCrumb_keeps {x1 x2 x3} (h : Keeps z s) : Keeps z (State.fillCrumb s x1 x2 x3).2 := by
  unfold State.fillCrumb
  with_reducible repeat' first
    | assumption | apply crumbRebuilt_keeps | apply crumbLost_keeps | apply countRecon_keeps
    | apply countRead_keeps | apply crumbMarks_keeps | simp only [↓Keeps.rest_iff] | split

theorem fillCrumbsDone_keeps {x1 x2 x3} (h : Keeps z s) : Keeps z (State.fillCrumbsDone s x1 x2 x3).2 := by
  unfold State.fillCrumbsDone
  with_reducible repeat' first | assumption | intro x | apply fillCrumb_keeps | apply Keeps.fold2

theorem pageFill_keeps {x1 x2} (h : Keeps z s) : Keeps z (State.pageFill s x1 x2) := by
  unfold State.pageFill
  with_reducible repeat' first
    | assumption | apply dropFrame_keeps | apply setFrame_keeps | apply pump_keeps | apply wakeFill_keeps
    | apply becomeDirty_keeps | apply fillCrumbsDone_keeps | apply retryWaiting_keeps
    | apply endFill_keeps | simp only [↓Keeps.rest_iff] | split

theorem commitModes_keeps  (h : Keeps z s) : Keeps z (State.commitModes s) := by
  unfold State.commitModes
  with_reducible repeat' first
    | assumption | intro x | apply setReg_keeps | apply each_keeps | simp only [↓Keeps.rest_iff] | split

theorem admitHeadCpl_keeps {x1} (h : Keeps z s) : Keeps z (State.admitHeadCpl s x1) := by
  unfold State.admitHeadCpl
  with_reducible repeat' first
    | assumption | intro x | apply each_keeps | apply queueHeadCpl_keeps | apply setHead_keeps | apply Keeps.ite

theorem lorlekCpl_keeps {x1} (h : Keeps z s) : Keeps z (State.lorlekCpl s x1) := by
  unfold State.lorlekCpl
  with_reducible repeat' first
    | assumption | apply mboxDenied_keeps | apply mboxRsp_keeps | apply admitHeadCpl_keeps
    | apply setHead_keeps | apply Keeps.ite

theorem redirectHeld_keeps {x1 x2} (h : Keeps z s) : Keeps z (State.redirectHeld s x1 x2) := by
  unfold State.redirectHeld
  with_reducible repeat' first
    | assumption | intro x | apply redirectOne_keeps | apply each_keeps | apply setSlice_keeps

theorem switchApplied_keeps {x1} (h : Keeps z s) : Keeps z (State.switchApplied s x1) := by
  unfold State.switchApplied
  with_reducible repeat' first
    | assumption | apply changeSeg_keeps | apply freeSegs_keeps | apply rwCheck_keeps | apply setOp_keeps
    | apply sweepAll_keeps | apply keepIndex_keeps | apply redirectHeld_keeps | simp only [↓Keeps.rest_iff]
    | split

theorem unlockToken_keeps {x1 x2 x3} (h : Keeps z s) : Keeps z (State.unlockToken s x1 x2 x3) := by
  unfold State.unlockToken
  with_reducible repeat' first
    | assumption | intro x | apply zeroizeAll_keeps | apply each_keeps | apply raise_keeps
    | apply dropIde_keeps | apply blockDown_keeps | apply emit_keeps | apply Keeps.ite
    | simp only [↓Keeps.rest_iff]

theorem updateTimeout_keeps {x1} (h : Keeps z s) : Keeps z (State.updateTimeout s x1) := by
  unfold State.updateTimeout
  with_reducible repeat' first | assumption | apply breakPair_keeps | apply Keeps.ite

theorem voidDurable_keeps {x1} (h : Keeps z s) : Keeps z (State.voidDurable s x1) := by
  unfold State.voidDurable
  with_reducible repeat' first
    | assumption | apply setRwr_keeps | apply journal_keeps | apply applyTo_keeps | split

theorem cageGone_keeps {x1} (h : Keeps z s) : Keeps z (State.cageGone s x1) := by
  unfold State.cageGone
  exact Keeps.ite (h.setCage fun _ => rfl) ((h.setCage fun _ => rfl).each fun t b ht => blockDown_keeps ht)

theorem crumbGood_keeps {x1 x2 x3 x4} (h : Keeps z s) : Keeps z (State.crumbGood s x1 x2 x3 x4) := by
  unfold State.crumbGood
  with_reducible repeat' first
    | assumption | apply mapArrived_keeps | apply endCheck_keeps | apply endSurveyRead_keeps
    | apply deliver_keeps | apply setRead_keeps | apply crumbMarks_keeps

theorem crumbDone_keeps {x1 x2 x3} (h : Keeps z s) : Keeps z (State.crumbDone s x1 x2 x3) := by
  unfold State.crumbDone
  with_reducible repeat' first
    | assumption | apply busOk_keeps | apply countRecon_keeps | apply crumbGood_keeps
    | apply setRead_keeps | split

theorem wakeIn_keeps {x1} (h : Keeps z s) : Keeps z (State.wakeIn s x1) := by
  unfold State.wakeIn
  with_reducible repeat' first | assumption | apply setPort_keeps | apply Keeps.ite

theorem walkRow_keeps {x1} (h : Keeps z s) : Keeps z (State.walkRow s x1) := by
  unfold State.walkRow
  with_reducible repeat' first | assumption | apply wakeReads_keeps | apply setBusy_keeps | apply Keeps.ite | split

theorem recharged_keeps {x1} (h : Keeps z s) : Keeps z (State.recharged s x1) := by
  unfold State.recharged
  with_reducible repeat' first
    | exact .inl rfl | assumption | apply newBudget_keeps | apply Keeps.ite
    | (simp only [↓Keeps.pwr_iff]; refine KeepsPwr.intro ?_ ?_ ?_)

theorem holdSample_keeps {x1} (h : Keeps z s) : Keeps z (State.holdSample s x1) := by
  unfold State.holdSample
  with_reducible repeat' first
    | exact .inl rfl | assumption | apply setRail_keeps | apply recharged_keeps | apply holdFault_keeps
    | apply Keeps.ite | (simp only [↓Keeps.pwr_iff]; refine KeepsPwr.intro ?_ ?_ ?_)

theorem vinSample_keeps {x1} (h : Keeps z s) : Keeps z (State.vinSample s x1) := by
  unfold State.vinSample
  with_reducible repeat' first
    | exact .inl rfl | assumption | apply emergency_keeps | apply warnStart_keeps | apply setRail_keeps
    | apply supLog_keeps | apply warnEnd_keeps | apply Keeps.ite
    | (simp only [↓Keeps.pwr_iff]; refine KeepsPwr.intro ?_ ?_ ?_)

theorem refSample_keeps {x1} (h : Keeps z s) : Keeps z (State.refSample s x1) := by
  unfold State.refSample
  with_reducible repeat' first
    | exact .inl rfl | assumption | apply setRail_keeps | apply raise_keeps | apply Keeps.ite
    | (simp only [↓Keeps.pwr_iff]; refine KeepsPwr.intro ?_ ?_ ?_)

theorem scanSample_keeps {x1 x2} (h : Keeps z s) : Keeps z (State.scanSample s x1 x2) := by
  unfold State.scanSample
  with_reducible repeat' first
    | assumption | apply railSample_keeps | apply holdSample_keeps | apply vinSample_keeps
    | apply refSample_keeps | apply Keeps.ite

theorem goodLost_keeps {x1} (h : Keeps z s) : Keeps z (State.goodLost s x1) := by
  unfold State.goodLost
  with_reducible repeat' first | assumption | apply railFault_keeps | apply Keeps.ite

theorem adcRound_keeps {x1 x2 x3} (h : Keeps z s) : Keeps z (State.adcRound s x1 x2 x3) := by
  unfold State.adcRound
  with_reducible repeat' first
    | assumption | intro x | apply feedOver_keeps | apply each_keeps | apply scanSample_keeps
    | apply goodLost_keeps | apply refSample_keeps | split

theorem setdasa_keeps {x1 x2} (h : Keeps z s) : Keeps z (State.setdasa s x1 x2) := by
  unfold State.setdasa
  with_reducible repeat' first
    | assumption | apply ccc_keeps | apply emit_keeps | apply Keeps.ite | simp only [↓Keeps.rest_iff]

theorem ideGo_keeps {x1 x2 x3} (h : Keeps z s) : Keeps z (State.ideGo s x1 x2 x3) := by
  unfold State.ideGo
  with_reducible repeat' first | assumption | apply setHead_keeps | apply Keeps.ite

theorem eqDone_keeps {x1} (h : Keeps z s) : Keeps z (State.eqDone s x1) := by
  unfold State.eqDone
  with_reducible repeat' first
    | assumption | apply partnerEq_keeps | apply setPort_keeps | apply sendTrain_keeps | apply Keeps.ite

theorem issueStripe_keeps {x1} (h : Keeps z s) : Keeps z (State.issueStripe s x1) := by
  unfold State.issueStripe
  with_reducible repeat' first
    | assumption | apply noteSlot_keeps | apply startRow_keeps | apply retryWaiting_keeps
    | apply orderFault_keeps | apply Keeps.ite | split

theorem trickleExitTimeout_keeps {x1} (h : Keeps z s) : Keeps z (State.trickleExitTimeout s x1) := by
  unfold State.trickleExitTimeout
  with_reducible repeat' first | assumption | apply portDown_keeps | apply beginTraining_keeps | apply Keeps.ite

theorem orderlyFlushEnd_keeps  (h : Keeps z s) : Keeps z (State.orderlyFlushEnd s) := by
  unfold State.orderlyFlushEnd
  with_reducible repeat' first
    | assumption | apply orderlyEnd_keeps | apply flushOn_keeps | apply deepIdle_keeps | apply Keeps.ite

theorem fixAllRet_keeps  (h : Keeps z s) : Keeps z (State.fixAllRet s) := by
  unfold State.fixAllRet
  with_reducible repeat' first | assumption | apply each_keeps | apply fixRet_keeps

theorem setmwl_keeps {x1} (h : Keeps z s) : Keeps z (State.setmwl s x1) := by
  unfold State.setmwl
  with_reducible repeat' first
    | assumption | apply ccc_keeps | apply emit_keeps | apply Keeps.ite | simp only [↓Keeps.rest_iff]

theorem recomputeRoutes_keeps  (h : Keeps z s) : Keeps z (State.recomputeRoutes s) := by
  unfold State.recomputeRoutes
  with_reducible repeat' first
    | assumption | apply tendTree_keeps | apply raise_keeps | apply retryTransit_keeps | apply Keeps.ite
    | simp only [↓Keeps.rest_iff]

theorem commitAbandoned_keeps  (h : Keeps z s) : Keeps z (State.commitAbandoned s) := by
  unfold State.commitAbandoned
  with_reducible repeat' first
    | assumption | apply resumeSegs_keeps | apply raise_keeps | apply Keeps.ite | simp only [↓Keeps.rest_iff]

theorem devReqRepeat_keeps  (h : Keeps z s) : Keeps z (State.devReqRepeat s) := by
  unfold State.devReqRepeat
  with_reducible repeat' first | assumption | apply floodLink_keeps | apply Keeps.ite

theorem rebuild_keeps  (h : Keeps z s) : Keeps z (State.rebuild s) := by
  unfold State.rebuild
  with_reducible repeat' first
    | assumption | intro x | apply replayAll_keeps | apply each_keeps | apply setRegFld_keeps
    | apply fixAllRet_keeps | apply raise_keeps | apply mapFound_keeps | simp only [↓Keeps.rest_iff]

theorem ideFail_keeps {x1} (h : Keeps z s) : Keeps z (State.ideFail s x1) := by
  unfold State.ideFail
  with_reducible repeat' first
    | assumption | apply headDown_keeps | apply raiseAt_keeps | apply fence_keeps
    | apply endBarriersAll_keeps | apply Keeps.ite

theorem refresh_keeps  (h : Keeps z s) : Keeps z (State.refresh s) := by
  unfold State.refresh
  with_reducible repeat' first
    | assumption | apply sendHello_keeps | apply tendTree_keeps | apply originate_keeps | apply each_keeps
    | simp only [↓Keeps.rest_iff]

theorem drainJwait_keeps {x0} (h : Keeps z s) : Keeps z (State.drainJwait x0 s) := by
  induction x0 generalizing s  with
  | zero => exact h
  | succ n ih =>
    unfold State.drainJwait
    with_reducible repeat' first
      | assumption | apply ih | apply journalPage_keeps | apply maybeFull_keeps | simp only [↓Keeps.rest_iff] | split

theorem journalDone_keeps  (h : Keeps z s) : Keeps z (State.journalDone s) := by
  unfold State.journalDone
  with_reducible repeat' first
    | assumption | apply releaseUnmaps_keeps | apply pump_keeps | apply checkJournal_keeps
    | apply landMeta_keeps | apply drainJwait_keeps | simp only [↓Keeps.rest_iff] | split

theorem dropsDurable_keeps  (h : Keeps z s) : Keeps z (State.dropsDurable s) := by
  unfold State.dropsDurable
  with_reducible repeat' first
    | assumption | intro x | apply releaseMark_keeps | apply each_keeps | apply rwDone_keeps | split

theorem modeMoveEnd_keeps {x1} (h : Keeps z s) : Keeps z (State.modeMoveEnd s x1) := by
  unfold State.modeMoveEnd
  with_reducible repeat' first | assumption | apply Keeps.ite | simp only [↓Keeps.rest_iff]

theorem lockLoss_keeps  (h : Keeps z s) : Keeps z (State.lockLoss s) := by
  unfold State.lockLoss
  with_reducible repeat' first | exact .inl rfl | assumption | (simp only [↓Keeps.pwr_iff]; refine KeepsPwr.intro ?_ ?_ ?_)

theorem entdaa_keeps {x1} (h : Keeps z s) : Keeps z (State.entdaa s x1) := by
  unfold State.entdaa
  with_reducible repeat' first
    | assumption | apply ccc_keeps | apply emit_keeps | apply Keeps.ite | simp only [↓Keeps.rest_iff]

theorem holdMeas_keeps {x1 x2 x3} (h : Keeps z s) : Keeps z (State.holdMeas s x1 x2 x3) := by
  unfold State.holdMeas
  with_reducible repeat' first
    | exact .inl rfl | assumption | apply raise_keeps | apply newBudget_keeps | apply supLog_keeps
    | apply holdFault_keeps | apply Keeps.ite | (simp only [↓Keeps.pwr_iff]; refine KeepsPwr.intro ?_ ?_ ?_)

theorem mapLookup_keeps {x1} (h : Keeps z s) : Keeps z (State.mapLookup s x1) := by
  unfold State.mapLookup
  with_reducible repeat' first
    | assumption | apply waitReload_keeps | apply mapAnswer_keeps | apply issueRead_keeps
    | apply setMiss_keeps | apply missStage_keeps | apply mapTouch_keeps | simp only [↓Keeps.rest_iff] | split

theorem freezeEnded_keeps  (h : Keeps z s) : Keeps z (State.freezeEnded s) := by
  unfold State.freezeEnded
  with_reducible repeat' first | assumption | apply setRegFld_keeps | apply Keeps.ite

theorem rstdaa_keeps  (h : Keeps z s) : Keeps z (State.rstdaa s) := by
  unfold State.rstdaa
  with_reducible repeat' first | assumption | apply ccc_keeps | apply emit_keeps

theorem markHoldEnd_keeps {x1} (h : Keeps z s) : Keeps z (State.markHoldEnd s x1) := by
  unfold State.markHoldEnd
  with_reducible repeat' first | assumption | apply setRwr_keeps | apply journal_keeps | split

theorem dramUeAt_keeps {x1 x2} (h : Keeps z s) : Keeps z (State.dramUeAt s x1 x2) := by
  unfold State.dramUeAt
  with_reducible repeat' first
    | assumption | apply dramFrameUe_keeps | apply dramUe_keeps | apply raise_keeps
    | simp only [↓Keeps.rest_iff] | split

theorem dramError_keeps {x1 x2} (h : Keeps z s) : Keeps z (State.dramError s x1 x2) := by
  unfold State.dramError
  with_reducible repeat' first
    | assumption | apply dramCe_keeps | apply dramMiscorrect_keeps | apply dramUeAt_keeps
    | apply fenceDch_keeps | apply Keeps.ite | split

theorem drainEnd_keeps {x1} (h : Keeps z s) : Keeps z (State.drainEnd s x1) := by
  unfold State.drainEnd
  with_reducible repeat' first
    | assumption | apply freeSeg_keeps | apply raise_keeps | apply dropOp_keeps | simp only [↓Keeps.rest_iff]
    | split

theorem preloadDone_keeps {x1 x2} (h : Keeps z s) : Keeps z (State.preloadDone s x1 x2) := by
  unfold State.preloadDone
  with_reducible repeat' first | assumption | apply setSlice_keeps | apply Keeps.ite

theorem tagRetry_keeps  (h : Keeps z s) : Keeps z (State.tagRetry s) := by
  unfold State.tagRetry
  with_reducible repeat' first | assumption | apply raise_keeps

theorem secondDone_keeps {x1} (h : Keeps z s) : Keeps z (State.secondDone s x1) := by
  unfold State.secondDone
  with_reducible repeat' first
    | assumption | apply tagFail_keeps | apply missStage_keeps | apply tagRetry_keeps | split

theorem loopTick_keeps {x1} (h : Keeps z s) : Keeps z (State.loopTick s x1) := by
  unfold State.loopTick
  with_reducible repeat' first
    | exact .inl rfl | assumption | apply takeProfile_keeps | apply setCaps_keeps | apply Keeps.ite
    | (simp only [↓Keeps.pwr_iff]; refine KeepsPwr.intro ?_ ?_ ?_)

theorem switchResend_keeps {x1} (h : Keeps z s) : Keeps z (State.switchResend s x1) := by
  unfold State.switchResend
  with_reducible repeat' first | assumption | apply tellOp_keeps | apply askTarget_keeps | split

theorem i3cPop_keeps  (h : Keeps z s) : Keeps z (State.i3cPop s) := by
  unfold State.i3cPop
  with_reducible repeat' first | assumption | apply badOp_keeps | apply Keeps.ite | simp only [↓Keeps.rest_iff]

theorem setEid_keeps {x1} (h : Keeps z s) : Keeps z (State.setEid s x1) := by
  unfold State.setEid
  with_reducible repeat' first | assumption | apply mctpDo_keeps | apply Keeps.ite | simp only [↓Keeps.rest_iff]

theorem gpfTimeout_keeps {x1} (h : Keeps z s) : Keeps z (State.gpfTimeout s x1) := by
  unfold State.gpfTimeout
  with_reducible repeat' first
    | assumption | intro x | apply each_keeps | apply postRec_keeps | apply setHead_keeps
    | apply emit_keeps | simp only [↓Keeps.rest_iff] | split

theorem readBytes_keeps {x1 x2} (h : Keeps z s) : Keeps z (State.readBytes s x1 x2).2 := by
  induction x2 generalizing s x1 with
  | zero => exact h
  | succ n ih =>
    unfold State.readBytes
    with_reducible repeat' first | assumption | apply ih | apply busRead_keeps

theorem privateRead_keeps {x1} (h : Keeps z s) : Keeps z (State.privateRead s x1) := by
  unfold State.privateRead
  with_reducible repeat' first
    | assumption | apply popBytes_keeps | apply readBytes_keeps | apply emit_keeps | simp only [↓Keeps.rest_iff]
    | split

theorem portActive_keeps {x1} (h : Keeps z s) : Keeps z (State.portActive s x1) := by
  unfold State.portActive
  with_reducible repeat' first
    | assumption | apply setPort_keeps | apply raiseAt_keeps | apply unfence_keeps
    | apply linkChanged_keeps

theorem helloIn_keeps {x1 x2} (h : Keeps z s) : Keeps z (State.helloIn s x1 x2) := by
  unfold State.helloIn
  with_reducible repeat' first
    | assumption | apply setPort_keeps | apply linkAuthFail_keeps | apply raiseAt_keeps
    | apply portActive_keeps | apply linkChanged_keeps | apply Keeps.ite

theorem hello_keeps {x1 x2} (h : Keeps z s) : Keeps z (State.hello s x1 x2) := by
  unfold State.hello
  with_reducible repeat' first | assumption | apply helloIn_keeps | apply instanceSeen_keeps | apply Keeps.ite

theorem setShutdown_keeps {x1 x2} (h : Keeps z s) : Keeps z (State.setShutdown s x1 x2) := by
  unfold State.setShutdown
  with_reducible repeat' first | assumption | apply mboxRsp_keeps | apply setRing_keeps | apply Keeps.ite

theorem stepTimeout_keeps {x1} (h : Keeps z s) : Keeps z (State.stepTimeout s x1) := by
  unfold State.stepTimeout
  with_reducible repeat' first
    | exact .inl rfl | assumption | apply startReverse_keeps | apply setRail_keeps | apply downStepDone_keeps
    | apply firstFail_keeps | apply raise_keeps | apply supLog_keeps | apply Keeps.ite
    | (simp only [↓Keeps.pwr_iff]; refine KeepsPwr.intro ?_ ?_ ?_)

theorem invAll_keeps {x1} (h : Keeps z s) : Keeps z (State.invAll s x1) := by
  unfold State.invAll
  with_reducible repeat' first | assumption | intro x | apply queueInv_keeps | apply each_keeps

theorem resetPage_keeps {x1} (h : Keeps z s) : Keeps z (State.resetPage s x1) := by
  unfold State.resetPage
  exact h.put Tab.wf_filter Tab.sorted_filter Tab.wf_filter Tab.all_filter Tab.wf_del (Tab.all_del _) id id id

theorem tickPage_keeps {x1} (h : Keeps z s) : Keeps z (State.tickPage s x1) := by
  unfold State.tickPage
  have h1 : ∀ n, Keeps z { s with cyc := s.cyc.set 0 x1 (n % 2 ^ 64) } := fun n =>
    h.put id id id id Tab.wf_set (fun i => Tab.all_set i (by simp; omega)) id id id
  refine Keeps.ite h ?_
  dsimp only
  split
  · exact perfOccupancy_keeps (perfOccupancy_keeps (perfOccupancy_keeps (h1 _)))
  · exact Keeps.ite (perfEvent_keeps (h1 _)) (h1 _)

theorem setDir_keeps {x1 x2} (h : Keeps z s) : Keeps z (State.setDir s x1 x2) := by
  unfold State.setDir
  with_reducible repeat' first | assumption | simp only [↓Keeps.rest_iff]

end Sys2Proof.Machine.State
end

