-- ==== Sys2Proof/Laws/Effects.lean ====
section
/-! SUPPORT. Every command answers a next state that keeps what Laws/Keeps.lean says: a lemma each. AON reset, the end of a recall and
the AON cycle come last: they write the clocks (R502, R605). -/

namespace Sys2Proof.Machine

open Sys2Proof

variable {z s : State}

theorem execFwChunk_keeps {x0 x1 x2 x3} (h : Keeps z s) : ∃ t, execFwChunk x0 x1 x2 x3 s = .next t ∧ Keeps z t := by
  unfold execFwChunk
  refine ⟨_, rfl, ?_⟩
  with_reducible repeat' first | assumption | intro x | apply State.custodyIn_keeps | apply State.withPins_keeps

theorem execFwAbort_keeps {x0 x1} (h : Keeps z s) : ∃ t, execFwAbort x0 x1 s = .next t ∧ Keeps z t := by
  unfold execFwAbort
  refine ⟨_, rfl, ?_⟩
  with_reducible repeat' first | assumption | intro x | apply State.cmd_keeps | apply State.withPins_keeps

theorem execCopyEnd_keeps {x0 x1} (h : Keeps z s) : ∃ t, execCopyEnd x0 x1 s = .next t ∧ Keeps z t := by
  unfold execCopyEnd
  refine ⟨_, rfl, ?_⟩
  with_reducible repeat' first | assumption | intro x | apply State.custodyIn_keeps | apply State.withPins_keeps

theorem execMrstNRise_keeps {x0} (h : Keeps z s) : ∃ t, execMrstNRise x0 s = .next t ∧ Keeps z t := by
  unfold execMrstNRise
  refine ⟨_, rfl, ?_⟩
  with_reducible repeat' first | assumption | apply State.mrstRise_keeps

theorem execBarrierComplete_keeps {x0} (h : Keeps z s) : ∃ t, execBarrierComplete x0 s = .next t ∧ Keeps z t := by
  unfold execBarrierComplete
  refine ⟨_, rfl, ?_⟩
  with_reducible repeat' first | assumption | intro x | apply State.completeBarrier_keeps | apply State.withPins_keeps

theorem execCxlMemAtomic_keeps {x0 x1 x2 x3 x4 x5 x6} (h : Keeps z s) : ∃ t, execCxlMemAtomic x0 x1 x2 x3 x4 x5 x6 s = .next t ∧ Keeps z t := by
  unfold execCxlMemAtomic
  refine ⟨_, rfl, ?_⟩
  with_reducible repeat' first | assumption | intro x | apply State.cxlAtomic_keeps | apply State.withPins_keeps

theorem execLaneEntryRelease_keeps {x0 x1} (h : Keeps z s) : ∃ t, execLaneEntryRelease x0 x1 s = .next t ∧ Keeps z t := by
  unfold execLaneEntryRelease
  refine ⟨_, rfl, ?_⟩
  with_reducible repeat' first
    | assumption | intro x | apply State.withPins_keeps | apply State.releaseEntry_keeps | apply State.drain_keeps
    | apply Keeps.ite

theorem execPrepareTimeout_keeps {x0} (h : Keeps z s) : ∃ t, execPrepareTimeout x0 s = .next t ∧ Keeps z t := by
  unfold execPrepareTimeout
  refine ⟨_, rfl, ?_⟩
  with_reducible repeat' first
    | assumption | intro x | apply State.withPins_keeps | apply State.drain_keeps | apply State.prepTimeout_keeps

theorem execKxCert_keeps {x0 x1} (h : Keeps z s) : ∃ t, execKxCert x0 x1 s = .next t ∧ Keeps z t := by
  unfold execKxCert
  refine ⟨_, rfl, ?_⟩
  with_reducible repeat' first
    | assumption | intro x | apply State.kxCert_keeps | apply State.mgtIn_keeps | apply State.withPins_keeps

theorem execFwActivationWaitExpiry_keeps  (h : Keeps z s) : ∃ t, execFwActivationWaitExpiry s = .next t ∧ Keeps z t := by
  unfold execFwActivationWaitExpiry
  refine ⟨_, rfl, ?_⟩
  with_reducible repeat' first
    | assumption | intro x | apply State.actWaitEnd_keeps | apply State.withPins_keeps | apply State.drain_keeps

theorem execMchChFence_keeps {x0 x1} (h : Keeps z s) : ∃ t, execMchChFence x0 x1 s = .next t ∧ Keeps z t := by
  unfold execMchChFence
  refine ⟨_, rfl, ?_⟩
  with_reducible repeat' first | assumption | intro x | apply State.withPins_keeps | apply State.pageWrite_keeps

theorem execTs2_keeps {x0 x1} (h : Keeps z s) : ∃ t, execTs2 x0 x1 s = .next t ∧ Keeps z t := by
  unfold execTs2
  refine ⟨_, rfl, ?_⟩
  with_reducible repeat' first | assumption | intro x | apply State.trainBlock_keeps | apply State.withPins_keeps

theorem execMailboxUnsupported_keeps {x0 x1} (h : Keeps z s) : ∃ t, execMailboxUnsupported x0 x1 s = .next t ∧ Keeps z t := by
  unfold execMailboxUnsupported
  refine ⟨_, rfl, ?_⟩
  with_reducible repeat' first | assumption | intro x | apply State.mailbox_keeps | apply State.mboxRsp_keeps

theorem execKxProof_keeps {x0 x1} (h : Keeps z s) : ∃ t, execKxProof x0 x1 s = .next t ∧ Keeps z t := by
  unfold execKxProof
  refine ⟨_, rfl, ?_⟩
  with_reducible repeat' first
    | assumption | intro x | apply State.mgtIn_keeps | apply State.kxProof_keeps | apply State.withPins_keeps

theorem execMinOffTimeExpiry_keeps  (h : Keeps z s) : ∃ t, execMinOffTimeExpiry s = .next t ∧ Keeps z t := by
  unfold execMinOffTimeExpiry
  refine ⟨_, rfl, ?_⟩
  with_reducible repeat' first | assumption | apply State.minOffEnd_keeps

theorem execChannelFence_keeps {x0 x1} (h : Keeps z s) : ∃ t, execChannelFence x0 x1 s = .next t ∧ Keeps z t := by
  unfold execChannelFence
  refine ⟨_, rfl, ?_⟩
  with_reducible repeat' first | assumption | intro x | apply State.withPins_keeps | apply State.fenceDch_keeps

theorem execLsaExpire_keeps {x0} (h : Keeps z s) : ∃ t, execLsaExpire x0 s = .next t ∧ Keeps z t := by
  unfold execLsaExpire
  refine ⟨_, rfl, ?_⟩
  with_reducible repeat' first
    | assumption | intro x | apply State.lsaExpired_keeps | apply State.withPins_keeps | apply State.drain_keeps | apply Keeps.ite

theorem execCxlMemRead_keeps {x0 x1 x2} (h : Keeps z s) : ∃ t, execCxlMemRead x0 x1 x2 s = .next t ∧ Keeps z t := by
  unfold execCxlMemRead
  refine ⟨_, rfl, ?_⟩
  with_reducible repeat' first | assumption | intro x | apply State.cxlRead_keeps | apply State.withPins_keeps

theorem execWrStat_keeps {x0 x1 x2} (h : Keeps z s) : ∃ t, execWrStat x0 x1 x2 s = .next t ∧ Keeps z t := by
  unfold execWrStat
  refine ⟨_, rfl, ?_⟩
  with_reducible repeat' first
    | assumption | intro x | apply State.rspIn_keeps | apply State.wrStatus_keeps | apply State.withPins_keeps

theorem execGetdcr_keeps  (h : Keeps z s) : ∃ t, execGetdcr s = .next t ∧ Keeps z t := by
  unfold execGetdcr
  refine ⟨_, rfl, ?_⟩
  with_reducible repeat' first | assumption | apply State.cccGet_keeps

theorem execGetDigests_keeps {x0} (h : Keeps z s) : ∃ t, execGetDigests x0 s = .next t ∧ Keeps z t := by
  unfold execGetDigests
  refine ⟨_, rfl, ?_⟩
  with_reducible repeat' first | assumption | intro x | apply State.spdmDo_keeps | apply State.spdmRsp_keeps

theorem execWsnReserveDurable_keeps  (h : Keeps z s) : ∃ t, execWsnReserveDurable s = .next t ∧ Keeps z t := by
  unfold execWsnReserveDurable
  refine ⟨_, rfl, ?_⟩
  with_reducible repeat' first
    | assumption | intro x | apply State.rwCheck_keeps | apply State.wsnDurable_keeps | apply State.withPins_keeps

theorem execNegotiateAlgorithms_keeps {x0} (h : Keeps z s) : ∃ t, execNegotiateAlgorithms x0 s = .next t ∧ Keeps z t := by
  unfold execNegotiateAlgorithms
  refine ⟨_, rfl, ?_⟩
  with_reducible repeat' first | assumption | intro x | apply State.spdmDo_keeps | apply State.spdmRsp_keeps

theorem execModuleReset_keeps {x0 x1} (h : Keeps z s) : ∃ t, execModuleReset x0 x1 s = .next t ∧ Keeps z t := by
  unfold execModuleReset
  refine ⟨_, rfl, ?_⟩
  with_reducible repeat' first | assumption | intro x | apply State.cmd_keeps | apply State.withPins_keeps

theorem execIdeKmKeyProg_keeps {x0 x1 x2 x3} (h : Keeps z s) : ∃ t, execIdeKmKeyProg x0 x1 x2 x3 s = .next t ∧ Keeps z t := by
  unfold execIdeKmKeyProg
  refine ⟨_, rfl, ?_⟩
  with_reducible repeat' first | assumption | intro x | apply State.ideProg_keeps | apply State.ideDo_keeps

theorem execRwFwd_keeps {x0 x1 x2 x3} (h : Keeps z s) : ∃ t, execRwFwd x0 x1 x2 x3 s = .next t ∧ Keeps z t := by
  unfold execRwFwd
  refine ⟨_, rfl, ?_⟩
  with_reducible repeat' first | assumption | intro x | apply State.custodyIn_keeps | apply State.withPins_keeps

theorem execCtrlRun_keeps {x0 x1 x2} (h : Keeps z s) : ∃ t, execCtrlRun x0 x1 x2 s = .next t ∧ Keeps z t := by
  unfold execCtrlRun
  refine ⟨_, rfl, ?_⟩
  with_reducible repeat' first | assumption | intro x | apply State.withPins_keeps | apply State.pageWrite_keeps

theorem execCtrlLock_keeps {x0 x1} (h : Keeps z s) : ∃ t, execCtrlLock x0 x1 s = .next t ∧ Keeps z t := by
  unfold execCtrlLock
  refine ⟨_, rfl, ?_⟩
  with_reducible repeat' first | assumption | intro x | apply State.ctrlWrite_keeps | apply State.withPins_keeps

theorem execSetCertificate_keeps {x0 x1 x2} (h : Keeps z s) : ∃ t, execSetCertificate x0 x1 x2 s = .next t ∧ Keeps z t := by
  unfold execSetCertificate
  refine ⟨_, rfl, ?_⟩
  with_reducible repeat' first
    | assumption | intro x | apply State.spdmDo_keeps | apply State.withPins_keeps | apply State.setCert_keeps

theorem execBarrierDone_keeps {x0} (h : Keeps z s) : ∃ t, execBarrierDone x0 s = .next t ∧ Keeps z t := by
  unfold execBarrierDone
  refine ⟨_, rfl, ?_⟩
  with_reducible repeat' first
    | assumption | intro x | apply State.barrierDoneRsp_keeps | apply State.rspIn_keeps | apply State.withPins_keeps

theorem execUnlockWrite_keeps {x0} (h : Keeps z s) : ∃ t, execUnlockWrite x0 s = .next t ∧ Keeps z t := by
  unfold execUnlockWrite
  refine ⟨_, rfl, ?_⟩
  with_reducible repeat' first | assumption | intro x | apply State.withPins_keeps | apply State.pageWrite_keeps

theorem execCableIdentityReadTimeout_keeps {x0} (h : Keeps z s) : ∃ t, execCableIdentityReadTimeout x0 s = .next t ∧ Keeps z t := by
  unfold execCableIdentityReadTimeout
  refine ⟨_, rfl, ?_⟩
  with_reducible repeat' first | assumption | intro x | apply State.settleCage_keeps | apply State.withPins_keeps

theorem execMigrationCopyEnd_keeps {x0} (h : Keeps z s) : ∃ t, execMigrationCopyEnd x0 s = .next t ∧ Keeps z t := by
  unfold execMigrationCopyEnd
  refine ⟨_, rfl, ?_⟩
  with_reducible repeat' first
    | assumption | intro x | apply State.copyEnd_keeps | apply State.withPins_keeps | apply State.drain_keeps

theorem execClearFlit_keeps {x0 x1} (h : Keeps z s) : ∃ t, execClearFlit x0 x1 s = .next t ∧ Keeps z t := by
  unfold execClearFlit
  refine ⟨_, rfl, ?_⟩
  with_reducible repeat' first | assumption | intro x | apply State.clearFlit_keeps | apply State.withPins_keeps

theorem execDtcChFence_keeps {x0 x1} (h : Keeps z s) : ∃ t, execDtcChFence x0 x1 s = .next t ∧ Keeps z t := by
  unfold execDtcChFence
  refine ⟨_, rfl, ?_⟩
  with_reducible repeat' first | assumption | intro x | apply State.withPins_keeps | apply State.pageWrite_keeps

theorem execAckIdleDue_keeps {x0} (h : Keeps z s) : ∃ t, execAckIdleDue x0 s = .next t ∧ Keeps z t := by
  unfold execAckIdleDue
  refine ⟨_, rfl, ?_⟩
  with_reducible repeat' first | assumption | apply State.ackIdle_keeps

theorem execPfailNFall_keeps  (h : Keeps z s) : ∃ t, execPfailNFall s = .next t ∧ Keeps z t := by
  unfold execPfailNFall
  refine ⟨_, rfl, ?_⟩
  with_reducible repeat' first
    | assumption | intro x | apply State.warnStart_keeps | apply State.withPins_keeps | simp only [↓Keeps.rest_iff]

theorem execThrottleGraceExpiry_keeps  (h : Keeps z s) : ∃ t, execThrottleGraceExpiry s = .next t ∧ Keeps z t := by
  unfold execThrottleGraceExpiry
  refine ⟨_, rfl, ?_⟩
  with_reducible repeat' first | assumption | apply State.throttleGrace_keeps

theorem execReadmitTimeExpiry_keeps  (h : Keeps z s) : ∃ t, execReadmitTimeExpiry s = .next t ∧ Keeps z t := by
  unfold execReadmitTimeExpiry
  refine ⟨_, rfl, ?_⟩
  with_reducible repeat' first | assumption | apply State.readmitted_keeps | apply State.withPins_keeps

theorem execGetcaps_keeps  (h : Keeps z s) : ∃ t, execGetcaps s = .next t ∧ Keeps z t := by
  unfold execGetcaps
  refine ⟨_, rfl, ?_⟩
  with_reducible repeat' first | assumption | apply State.cccGet_keeps

theorem execEvrNextOldest_keeps {x0} (h : Keeps z s) : ∃ t, execEvrNextOldest x0 s = .next t ∧ Keeps z t := by
  unfold execEvrNextOldest
  refine ⟨_, rfl, ?_⟩
  with_reducible repeat' first | assumption | intro x | apply State.withPins_keeps | apply State.pageWrite_keeps

theorem execLockUnlocks_keeps {x0} (h : Keeps z s) : ∃ t, execLockUnlocks x0 s = .next t ∧ Keeps z t := by
  unfold execLockUnlocks
  refine ⟨_, rfl, ?_⟩
  with_reducible repeat' first | assumption | intro x | apply State.withPins_keeps | apply State.pageWrite_keeps

theorem execEvrNextNext_keeps {x0} (h : Keeps z s) : ∃ t, execEvrNextNext x0 s = .next t ∧ Keeps z t := by
  unfold execEvrNextNext
  refine ⟨_, rfl, ?_⟩
  with_reducible repeat' first | assumption | intro x | apply State.withPins_keeps | apply State.pageWrite_keeps

theorem execGpfPhase1_keeps {x0} (h : Keeps z s) : ∃ t, execGpfPhase1 x0 s = .next t ∧ Keeps z t := by
  unfold execGpfPhase1
  refine ⟨_, rfl, ?_⟩
  with_reducible repeat' first | assumption | apply State.emit_keeps | apply Keeps.ite

theorem execRewindToQuiesceEnd_keeps {x0} (h : Keeps z s) : ∃ t, execRewindToQuiesceEnd x0 s = .next t ∧ Keeps z t := by
  unfold execRewindToQuiesceEnd
  refine ⟨_, rfl, ?_⟩
  with_reducible repeat' first | assumption | intro x | apply State.toQuiesceEnd_keeps | apply State.withPins_keeps

theorem execBladeSeatClose_keeps  (h : Keeps z s) : ∃ t, execBladeSeatClose s = .next t ∧ Keeps z t := by
  unfold execBladeSeatClose
  refine ⟨_, rfl, ?_⟩
  with_reducible repeat' first | exact .inl rfl | assumption | (simp only [↓Keeps.pwr_iff]; refine KeepsPwr.intro ?_ ?_ ?_)

theorem execFwActivationTimeout_keeps {x0} (h : Keeps z s) : ∃ t, execFwActivationTimeout x0 s = .next t ∧ Keeps z t := by
  unfold execFwActivationTimeout
  refine ⟨_, rfl, ?_⟩
  with_reducible repeat' first
    | assumption | intro x | apply State.activationTimeout_keeps | apply State.withPins_keeps | apply State.drain_keeps

theorem execDomainUngate_keeps {x0} (h : Keeps z s) : ∃ t, execDomainUngate x0 s = .next t ∧ Keeps z t := by
  unfold execDomainUngate
  refine ⟨_, rfl, ?_⟩
  with_reducible repeat' first | assumption | apply State.ungate_keeps

theorem execCrsTestConsent_keeps {x0 x1} (h : Keeps z s) : ∃ t, execCrsTestConsent x0 x1 s = .next t ∧ Keeps z t := by
  unfold execCrsTestConsent
  refine ⟨_, rfl, ?_⟩
  with_reducible repeat' first | assumption | intro x | apply State.withPins_keeps | apply State.pageWrite_keeps

theorem execStageAgeExpiry_keeps {x0} (h : Keeps z s) : ∃ t, execStageAgeExpiry x0 s = .next t ∧ Keeps z t := by
  unfold execStageAgeExpiry
  refine ⟨_, rfl, ?_⟩
  with_reducible repeat' first
    | assumption | intro x | apply State.pump_keeps | apply State.handOver_keeps | apply State.withPins_keeps | split

theorem execGetAlertConfiguration_keeps {x0} (h : Keeps z s) : ∃ t, execGetAlertConfiguration x0 s = .next t ∧ Keeps z t := by
  unfold execGetAlertConfiguration
  refine ⟨_, rfl, ?_⟩
  with_reducible repeat' first | assumption | apply State.mboxGet_keeps

theorem execFlushProgramEnd_keeps  (h : Keeps z s) : ∃ t, execFlushProgramEnd s = .next t ∧ Keeps z t := by
  unfold execFlushProgramEnd
  refine ⟨_, rfl, ?_⟩
  with_reducible repeat' first | assumption | apply State.flushProgrammed_keeps | apply State.withPins_keeps

theorem execRewindMarkHoldTimeout_keeps {x0} (h : Keeps z s) : ∃ t, execRewindMarkHoldTimeout x0 s = .next t ∧ Keeps z t := by
  unfold execRewindMarkHoldTimeout
  refine ⟨_, rfl, ?_⟩
  with_reducible repeat' first | assumption | intro x | apply State.withPins_keeps | apply State.markTimeout_keeps

theorem execIbiResend_keeps  (h : Keeps z s) : ∃ t, execIbiResend s = .next t ∧ Keeps z t := by
  unfold execIbiResend
  refine ⟨_, rfl, ?_⟩
  with_reducible repeat' first | assumption | apply State.ibiResend_keeps

theorem execKrSet_keeps {x0 x1 x2} (h : Keeps z s) : ∃ t, execKrSet x0 x1 x2 s = .next t ∧ Keeps z t := by
  unfold execKrSet
  refine ⟨_, rfl, ?_⟩
  with_reducible repeat' first | assumption | intro x | apply State.cmd_keeps | apply State.withPins_keeps

theorem execMctpPacket_keeps {x0} (h : Keeps z s) : ∃ t, execMctpPacket x0 s = .next t ∧ Keeps z t := by
  unfold execMctpPacket
  refine ⟨_, rfl, ?_⟩
  with_reducible repeat' first | assumption | apply State.mctpPacket_keeps

theorem execPerfCtlClear_keeps {x0 x1 x2} (h : Keeps z s) : ∃ t, execPerfCtlClear x0 x1 x2 s = .next t ∧ Keeps z t := by
  unfold execPerfCtlClear
  refine ⟨_, rfl, ?_⟩
  with_reducible repeat' first | assumption | intro x | apply State.withPins_keeps | apply State.pageWrite_keeps

theorem execSpdHubReadTimeout_keeps {x0} (h : Keeps z s) : ∃ t, execSpdHubReadTimeout x0 s = .next t ∧ Keeps z t := by
  unfold execSpdHubReadTimeout
  refine ⟨_, rfl, ?_⟩
  with_reducible repeat' first | assumption | intro x | apply State.spdTimeout_keeps | apply State.withPins_keeps

theorem execKrPush_keeps {x0 x1 x2 x3 x4} (h : Keeps z s) : ∃ t, execKrPush x0 x1 x2 x3 x4 s = .next t ∧ Keeps z t := by
  unfold execKrPush
  refine ⟨_, rfl, ?_⟩
  with_reducible repeat' first | assumption | intro x | apply State.custodyIn_keeps | apply State.withPins_keeps

theorem execStripeGatherTimeout_keeps  (h : Keeps z s) : ∃ t, execStripeGatherTimeout s = .next t ∧ Keeps z t := by
  unfold execStripeGatherTimeout
  refine ⟨_, rfl, ?_⟩
  with_reducible repeat' first | assumption | intro x | apply State.closeGather_keeps | apply State.withPins_keeps

theorem execDcReleaseTimeout_keeps {x0 x1} (h : Keeps z s) : ∃ t, execDcReleaseTimeout x0 x1 s = .next t ∧ Keeps z t := by
  unfold execDcReleaseTimeout
  refine ⟨_, rfl, ?_⟩
  with_reducible repeat' first
    | assumption | intro x | apply State.dcReleaseTimeout_keeps | apply State.withPins_keeps | apply State.drain_keeps

theorem execSafeFlushEnd_keeps  (h : Keeps z s) : ∃ t, execSafeFlushEnd s = .next t ∧ Keeps z t := by
  unfold execSafeFlushEnd
  refine ⟨_, rfl, ?_⟩
  with_reducible repeat' first | assumption | apply State.withPins_keeps | apply State.safeFlushEnd_keeps

theorem execStartupBringupEnd_keeps  (h : Keeps z s) : ∃ t, execStartupBringupEnd s = .next t ∧ Keeps z t := by
  unfold execStartupBringupEnd
  refine ⟨_, rfl, ?_⟩
  with_reducible repeat' first | assumption | apply State.bringupEnd_keeps | apply State.withPins_keeps

theorem execRewindDrop_keeps {x0 x1 x2 x3} (h : Keeps z s) : ∃ t, execRewindDrop x0 x1 x2 x3 s = .next t ∧ Keeps z t := by
  unfold execRewindDrop
  refine ⟨_, rfl, ?_⟩
  with_reducible repeat' first | assumption | intro x | apply State.cmd_keeps | apply State.withPins_keeps

theorem execSpdmUnsupportedRequest_keeps {x0 x1} (h : Keeps z s) : ∃ t, execSpdmUnsupportedRequest x0 x1 s = .next t ∧ Keeps z t := by
  unfold execSpdmUnsupportedRequest
  refine ⟨_, rfl, ?_⟩
  with_reducible repeat' first | assumption | intro x | apply State.spdmDo_keeps | apply State.spdmRsp_keeps

theorem execOpsecWriteExpiry_keeps  (h : Keeps z s) : ∃ t, execOpsecWriteExpiry s = .next t ∧ Keeps z t := by
  unfold execOpsecWriteExpiry
  refine ⟨_, rfl, ?_⟩
  with_reducible repeat' first | assumption | apply State.setRing_keeps

theorem execGpfPhase2_keeps {x0} (h : Keeps z s) : ∃ t, execGpfPhase2 x0 s = .next t ∧ Keeps z t := by
  unfold execGpfPhase2
  refine ⟨_, rfl, ?_⟩
  with_reducible repeat' first | assumption | intro x | apply State.gpfPhase2_keeps | apply State.withPins_keeps

theorem execElvucTrainStart_keeps {x0} (h : Keeps z s) : ∃ t, execElvucTrainStart x0 s = .next t ∧ Keeps z t := by
  unfold execElvucTrainStart
  refine ⟨_, rfl, ?_⟩
  with_reducible repeat' first | assumption | apply State.beginTraining_keeps

theorem execRemirrorDelayExpiry_keeps {x0} (h : Keeps z s) : ∃ t, execRemirrorDelayExpiry x0 s = .next t ∧ Keeps z t := by
  unfold execRemirrorDelayExpiry
  refine ⟨_, rfl, ?_⟩
  with_reducible repeat' first
    | assumption | intro x | apply State.withPins_keeps | apply State.remirrorNow_keeps | apply State.drain_keeps

theorem execHeadLinkDown_keeps {x0} (h : Keeps z s) : ∃ t, execHeadLinkDown x0 s = .next t ∧ Keeps z t := by
  unfold execHeadLinkDown
  refine ⟨_, rfl, ?_⟩
  with_reducible repeat' first
    | assumption | intro x | apply State.withPins_keeps | apply State.drain_keeps | apply State.headLinkLost_keeps

theorem execInputTrip_keeps {x0} (h : Keeps z s) : ∃ t, execInputTrip x0 s = .next t ∧ Keeps z t := by
  unfold execInputTrip
  refine ⟨_, rfl, ?_⟩
  with_reducible repeat' first | assumption | intro x | apply State.emergency_keeps | apply State.withPins_keeps

theorem execIdleFlit_keeps {x0 x1} (h : Keeps z s) : ∃ t, execIdleFlit x0 x1 s = .next t ∧ Keeps z t := by
  unfold execIdleFlit
  refine ⟨_, rfl, ?_⟩
  with_reducible repeat' first | assumption | intro x | apply State.idleFlit_keeps | apply State.withPins_keeps

theorem execSetnewda_keeps {x0} (h : Keeps z s) : ∃ t, execSetnewda x0 s = .next t ∧ Keeps z t := by
  unfold execSetnewda
  refine ⟨_, rfl, ?_⟩
  with_reducible repeat' first | assumption | apply State.setnewda_keeps

theorem execGetDcConfiguration_keeps {x0} (h : Keeps z s) : ∃ t, execGetDcConfiguration x0 s = .next t ∧ Keeps z t := by
  unfold execGetDcConfiguration
  refine ⟨_, rfl, ?_⟩
  with_reducible repeat' first
    | assumption | intro x | apply State.reofferAll_keeps | apply State.mailbox_keeps | apply State.mboxRsp_keeps
    | apply State.withPins_keeps

theorem execSetTimestamp_keeps {x0 x1} (h : Keeps z s) : ∃ t, execSetTimestamp x0 x1 s = .next t ∧ Keeps z t := by
  unfold execSetTimestamp
  refine ⟨_, rfl, ?_⟩
  with_reducible repeat' first
    | assumption | intro x | apply State.mailbox_keeps | apply State.mboxRsp_keeps | apply State.setHead_keeps

theorem execEnec_keeps {x0} (h : Keeps z s) : ∃ t, execEnec x0 s = .next t ∧ Keeps z t := by
  unfold execEnec
  refine ⟨_, rfl, ?_⟩
  with_reducible repeat' first | assumption | apply State.setEvents_keeps

theorem execStartupEnable_keeps  (h : Keeps z s) : ∃ t, execStartupEnable s = .next t ∧ Keeps z t := by
  unfold execStartupEnable
  refine ⟨_, rfl, ?_⟩
  with_reducible repeat' first | assumption | apply State.enable_keeps | apply State.withPins_keeps

theorem execGetEventInterruptPolicy_keeps {x0} (h : Keeps z s) : ∃ t, execGetEventInterruptPolicy x0 s = .next t ∧ Keeps z t := by
  unfold execGetEventInterruptPolicy
  refine ⟨_, rfl, ?_⟩
  with_reducible repeat' first | assumption | apply State.mboxGet_keeps

theorem execSetRead_keeps {x0 x1} (h : Keeps z s) : ∃ t, execSetRead x0 x1 s = .next t ∧ Keeps z t := by
  unfold execSetRead
  refine ⟨_, rfl, ?_⟩
  with_reducible repeat' first | assumption | intro x | apply State.withPins_keeps | apply State.setRead__keeps

theorem execGetSupportedLogs_keeps {x0} (h : Keeps z s) : ∃ t, execGetSupportedLogs x0 s = .next t ∧ Keeps z t := by
  unfold execGetSupportedLogs
  refine ⟨_, rfl, ?_⟩
  with_reducible repeat' first | assumption | apply State.mboxGet_keeps

theorem execThermalRound_keeps {x0} (h : Keeps z s) : ∃ t, execThermalRound x0 s = .next t ∧ Keeps z t := by
  unfold execThermalRound
  refine ⟨_, rfl, ?_⟩
  with_reducible repeat' first | assumption | intro x | apply State.withPins_keeps | apply State.thermalRound_keeps

theorem execDisec_keeps {x0} (h : Keeps z s) : ∃ t, execDisec x0 s = .next t ∧ Keeps z t := by
  unfold execDisec
  refine ⟨_, rfl, ?_⟩
  with_reducible repeat' first | assumption | apply State.setEvents_keeps

theorem execDedupEntryExpiry_keeps {x0 x1} (h : Keeps z s) : ∃ t, execDedupEntryExpiry x0 x1 s = .next t ∧ Keeps z t := by
  unfold execDedupEntryExpiry
  refine ⟨_, rfl, ?_⟩
  with_reducible repeat' first | assumption | simp only [↓Keeps.rest_iff]

theorem execKeyGen_keeps {x0 x1 x2} (h : Keeps z s) : ∃ t, execKeyGen x0 x1 x2 s = .next t ∧ Keeps z t := by
  unfold execKeyGen
  refine ⟨_, rfl, ?_⟩
  with_reducible repeat' first | assumption | intro x | apply State.cmd_keeps | apply State.withPins_keeps

theorem execWsnReserve_keeps  (h : Keeps z s) : ∃ t, execWsnReserve s = .next t ∧ Keeps z t := by
  unfold execWsnReserve
  refine ⟨_, rfl, ?_⟩
  with_reducible repeat' first
    | assumption | intro x | apply State.reserveWsn_keeps | apply State.tendJournal_keeps | apply State.withPins_keeps

theorem execLeaseLost_keeps  (h : Keeps z s) : ∃ t, execLeaseLost s = .next t ∧ Keeps z t := by
  unfold execLeaseLost
  refine ⟨_, rfl, ?_⟩
  with_reducible repeat' first | assumption | apply State.leaseLost_keeps | apply State.withPins_keeps

theorem execKrAck_keeps {x0 x1 x2 x3} (h : Keeps z s) : ∃ t, execKrAck x0 x1 x2 x3 s = .next t ∧ Keeps z t := by
  unfold execKrAck
  refine ⟨_, rfl, ?_⟩
  with_reducible repeat' first | assumption | intro x | apply State.custodyIn_keeps | apply State.withPins_keeps

theorem execGstSync_keeps {x0 x1 x2 x3} (h : Keeps z s) : ∃ t, execGstSync x0 x1 x2 x3 s = .next t ∧ Keeps z t := by
  unfold execGstSync
  refine ⟨_, rfl, ?_⟩
  with_reducible repeat' first | assumption | intro x | apply State.custodyIn_keeps | apply State.withPins_keeps

theorem execSpdHubReadDone_keeps {x0 x1} (h : Keeps z s) : ∃ t, execSpdHubReadDone x0 x1 s = .next t ∧ Keeps z t := by
  unfold execSpdHubReadDone
  refine ⟨_, rfl, ?_⟩
  with_reducible repeat' first | assumption | intro x | apply State.spdRead_keeps | apply State.withPins_keeps

theorem execClearPoison_keeps {x0 x1 x2} (h : Keeps z s) : ∃ t, execClearPoison x0 x1 x2 s = .next t ∧ Keeps z t := by
  unfold execClearPoison
  refine ⟨_, rfl, ?_⟩
  with_reducible repeat' first
    | assumption | intro x | apply State.mailbox_keeps | apply State.withPins_keeps | apply State.poisonCmd_keeps

theorem execDimmThermalRound_keeps {x0} (h : Keeps z s) : ∃ t, execDimmThermalRound x0 s = .next t ∧ Keeps z t := by
  unfold execDimmThermalRound
  refine ⟨_, rfl, ?_⟩
  with_reducible repeat' first | assumption | intro x | apply State.dimmRounds_keeps | apply State.withPins_keeps

theorem execFenceReactionEnd_keeps {x0 x1} (h : Keeps z s) : ∃ t, execFenceReactionEnd x0 x1 s = .next t ∧ Keeps z t := by
  unfold execFenceReactionEnd
  refine ⟨_, rfl, ?_⟩
  with_reducible repeat' first | assumption | apply State.fenceReactionEnd_keeps

theorem execGpfDone_keeps {x0} (h : Keeps z s) : ∃ t, execGpfDone x0 s = .next t ∧ Keeps z t := by
  unfold execGpfDone
  refine ⟨_, rfl, ?_⟩
  with_reducible repeat' first
    | assumption | intro x | apply State.gpfDoneRsp_keeps | apply State.rspIn_keeps | apply State.withPins_keeps

theorem execStartupMapLoadEnd_keeps  (h : Keeps z s) : ∃ t, execStartupMapLoadEnd s = .next t ∧ Keeps z t := by
  unfold execStartupMapLoadEnd
  refine ⟨_, rfl, ?_⟩
  with_reducible repeat' first | assumption | intro x | apply State.mapLoadEnd_keeps | apply State.withPins_keeps

theorem execRewindQuiesceTimeout_keeps {x0} (h : Keeps z s) : ∃ t, execRewindQuiesceTimeout x0 s = .next t ∧ Keeps z t := by
  unfold execRewindQuiesceTimeout
  refine ⟨_, rfl, ?_⟩
  with_reducible repeat' first | assumption | intro x | apply State.quiesceTimeout_keeps | apply State.withPins_keeps

theorem execEndSession_keeps {x0 x1} (h : Keeps z s) : ∃ t, execEndSession x0 x1 s = .next t ∧ Keeps z t := by
  unfold execEndSession
  refine ⟨_, rfl, ?_⟩
  with_reducible repeat' first
    | assumption | intro x | apply State.spdmDo_keeps | apply State.within_keeps | apply State.closeSession_keeps

theorem execPwrEnRise_keeps  (h : Keeps z s) : ∃ t, execPwrEnRise s = .next t ∧ Keeps z t := by
  unfold execPwrEnRise
  refine ⟨_, rfl, ?_⟩
  with_reducible repeat' first | assumption | apply State.pwrEnRise_keeps

theorem execLineAck_keeps {x0 x1} (h : Keeps z s) : ∃ t, execLineAck x0 x1 s = .next t ∧ Keeps z t := by
  unfold execLineAck
  refine ⟨_, rfl, ?_⟩
  with_reducible repeat' first | assumption | intro x | apply State.custodyIn_keeps | apply State.withPins_keeps

theorem execGetFwInfo_keeps {x0} (h : Keeps z s) : ∃ t, execGetFwInfo x0 s = .next t ∧ Keeps z t := by
  unfold execGetFwInfo
  refine ⟨_, rfl, ?_⟩
  with_reducible repeat' first | assumption | apply State.mboxGet_keeps

theorem execGstClaim_keeps {x0 x1} (h : Keeps z s) : ∃ t, execGstClaim x0 x1 s = .next t ∧ Keeps z t := by
  unfold execGstClaim
  refine ⟨_, rfl, ?_⟩
  with_reducible repeat' first | assumption | intro x | apply State.custodyIn_keeps | apply State.withPins_keeps

theorem execE2eResendExpiry_keeps {x0} (h : Keeps z s) : ∃ t, execE2eResendExpiry x0 s = .next t ∧ Keeps z t := by
  unfold execE2eResendExpiry
  refine ⟨_, rfl, ?_⟩
  with_reducible repeat' first | assumption | intro x | apply State.withPins_keeps | apply State.resendReqs_keeps

theorem execRecoveryEnd_keeps {x0 x1} (h : Keeps z s) : ∃ t, execRecoveryEnd x0 x1 s = .next t ∧ Keeps z t := by
  unfold execRecoveryEnd
  refine ⟨_, rfl, ?_⟩
  with_reducible repeat' first | assumption | intro x | apply State.recoveryEnd_keeps | apply State.withPins_keeps

theorem execDevGrant_keeps {x0 x1 x2 x3} (h : Keeps z s) : ∃ t, execDevGrant x0 x1 x2 x3 s = .next t ∧ Keeps z t := by
  unfold execDevGrant
  refine ⟨_, rfl, ?_⟩
  with_reducible repeat' first | assumption | intro x | apply State.devGrantIn_keeps | apply State.mgtIn_keeps

theorem execChannelTrainingDone_keeps {x0} (h : Keeps z s) : ∃ t, execChannelTrainingDone x0 s = .next t ∧ Keeps z t := by
  unfold execChannelTrainingDone
  refine ⟨_, rfl, ?_⟩
  with_reducible repeat' first | assumption | intro x | apply State.trainedDch_keeps | apply State.withPins_keeps

theorem execGetbcr_keeps  (h : Keeps z s) : ∃ t, execGetbcr s = .next t ∧ Keeps z t := by
  unfold execGetbcr
  refine ⟨_, rfl, ?_⟩
  with_reducible repeat' first | assumption | apply State.cccGet_keeps

theorem execHoldupChargeTimeout_keeps  (h : Keeps z s) : ∃ t, execHoldupChargeTimeout s = .next t ∧ Keeps z t := by
  unfold execHoldupChargeTimeout
  refine ⟨_, rfl, ?_⟩
  with_reducible repeat' first | assumption | intro x | apply State.holdFault_keeps | apply State.withPins_keeps | apply Keeps.ite

theorem execMirrorSet_keeps {x0 x1 x2 x3} (h : Keeps z s) : ∃ t, execMirrorSet x0 x1 x2 x3 s = .next t ∧ Keeps z t := by
  unfold execMirrorSet
  refine ⟨_, rfl, ?_⟩
  with_reducible repeat' first | assumption | intro x | apply State.cmd_keeps | apply State.withPins_keeps

theorem execThermRestart_keeps  (h : Keeps z s) : ∃ t, execThermRestart s = .next t ∧ Keeps z t := by
  unfold execThermRestart
  refine ⟨_, rfl, ?_⟩
  with_reducible repeat' first | assumption | apply State.thermRestart_keeps

theorem execFinish_keeps {x0 x1} (h : Keeps z s) : ∃ t, execFinish x0 x1 s = .next t ∧ Keeps z t := by
  unfold execFinish
  refine ⟨_, rfl, ?_⟩
  with_reducible repeat' first | assumption | intro x | apply State.spdmDo_keeps | apply State.within_keeps | apply Keeps.id

theorem execBusCrcFail_keeps {x0} (h : Keeps z s) : ∃ t, execBusCrcFail x0 s = .next t ∧ Keeps z t := by
  unfold execBusCrcFail
  refine ⟨_, rfl, ?_⟩
  with_reducible repeat' first | assumption | intro x | apply State.withPins_keeps | apply State.busCrcFail_keeps

theorem execResumeIdleExpiry_keeps {x0} (h : Keeps z s) : ∃ t, execResumeIdleExpiry x0 s = .next t ∧ Keeps z t := by
  unfold execResumeIdleExpiry
  refine ⟨_, rfl, ?_⟩
  with_reducible repeat' first | assumption | apply State.resume_keeps

theorem execGetMeasurements_keeps {x0 x1} (h : Keeps z s) : ∃ t, execGetMeasurements x0 x1 s = .next t ∧ Keeps z t := by
  unfold execGetMeasurements
  refine ⟨_, rfl, ?_⟩
  with_reducible repeat' first | assumption | intro x | apply State.spdmDo_keeps | apply State.measurements_keeps

theorem execGetmrl_keeps  (h : Keeps z s) : ∃ t, execGetmrl s = .next t ∧ Keeps z t := by
  unfold execGetmrl
  refine ⟨_, rfl, ?_⟩
  with_reducible repeat' first | assumption | apply State.cccGet_keeps

theorem execRecordHoldoffExpiry_keeps {x0} (h : Keeps z s) : ∃ t, execRecordHoldoffExpiry x0 s = .next t ∧ Keeps z t := by
  unfold execRecordHoldoffExpiry
  refine ⟨_, rfl, ?_⟩
  with_reducible repeat' first | assumption | simp only [↓Keeps.rest_iff]

theorem execMgtCplHeadRead_keeps {x0} (h : Keeps z s) : ∃ t, execMgtCplHeadRead x0 s = .next t ∧ Keeps z t := by
  unfold execMgtCplHeadRead
  refine ⟨_, rfl, ?_⟩
  with_reducible repeat' first | assumption | intro x | apply State.regRead_keeps | apply State.withPins_keeps

theorem execKeySlotParityFail_keeps {x0} (h : Keeps z s) : ∃ t, execKeySlotParityFail x0 s = .next t ∧ Keeps z t := by
  unfold execKeySlotParityFail
  refine ⟨_, rfl, ?_⟩
  with_reducible repeat' first | assumption | intro x | apply State.withPins_keeps | apply State.slotParity_keeps

theorem execTree_keeps {x0 x1 x2} (h : Keeps z s) : ∃ t, execTree x0 x1 x2 s = .next t ∧ Keeps z t := by
  unfold execTree
  refine ⟨_, rfl, ?_⟩
  with_reducible repeat' first
    | assumption | intro x | apply State.treeIn_keeps | apply State.mgtIn_keeps | apply State.withPins_keeps

theorem execFwStart_keeps {x0 x1 x2} (h : Keeps z s) : ∃ t, execFwStart x0 x1 x2 s = .next t ∧ Keeps z t := by
  unfold execFwStart
  refine ⟨_, rfl, ?_⟩
  with_reducible repeat' first | assumption | intro x | apply State.cmd_keeps | apply State.withPins_keeps

theorem execEraseDone_keeps {x0} (h : Keeps z s) : ∃ t, execEraseDone x0 s = .next t ∧ Keeps z t := by
  unfold execEraseDone
  refine ⟨_, rfl, ?_⟩
  with_reducible repeat' first | assumption | intro x | apply State.withPins_keeps | apply State.eraseDone_keeps

theorem execSequencerStepDone_keeps  (h : Keeps z s) : ∃ t, execSequencerStepDone s = .next t ∧ Keeps z t := by
  unfold execSequencerStepDone
  refine ⟨_, rfl, ?_⟩
  with_reducible repeat' first | assumption | apply State.stepDone_keeps | apply State.withPins_keeps

theorem execPowerUpStart_keeps  (h : Keeps z s) : ∃ t, execPowerUpStart s = .next t ∧ Keeps z t := by
  unfold execPowerUpStart
  refine ⟨_, rfl, ?_⟩
  with_reducible repeat' first | assumption | apply State.powerUp_keeps

theorem execKeyWaitExpiry_keeps  (h : Keeps z s) : ∃ t, execKeyWaitExpiry s = .next t ∧ Keeps z t := by
  unfold execKeyWaitExpiry
  refine ⟨_, rfl, ?_⟩
  with_reducible repeat' first
    | assumption | intro x | apply State.withPins_keeps | apply State.drain_keeps | apply State.keyWaitEnd_keeps

theorem execGetMessageTypeSupport_keeps  (h : Keeps z s) : ∃ t, execGetMessageTypeSupport s = .next t ∧ Keeps z t := by
  unfold execGetMessageTypeSupport
  refine ⟨_, rfl, ?_⟩
  with_reducible repeat' first | assumption | apply State.mctpDo_keeps

theorem execBarrierWrite_keeps {x0 x1 x2} (h : Keeps z s) : ∃ t, execBarrierWrite x0 x1 x2 s = .next t ∧ Keeps z t := by
  unfold execBarrierWrite
  refine ⟨_, rfl, ?_⟩
  with_reducible repeat' first | assumption | apply State.writeBarrier_keeps | apply Keeps.ite

theorem execSetAlertConfiguration_keeps {x0 x1} (h : Keeps z s) : ∃ t, execSetAlertConfiguration x0 x1 s = .next t ∧ Keeps z t := by
  unfold execSetAlertConfiguration
  refine ⟨_, rfl, ?_⟩
  with_reducible repeat' first
    | assumption | intro x | apply State.mailbox_keeps | apply State.mboxRsp_keeps | apply State.setHead_keeps

theorem execBadOp_keeps {x0} (h : Keeps z s) : ∃ t, execBadOp x0 s = .next t ∧ Keeps z t := by
  unfold execBadOp
  refine ⟨_, rfl, ?_⟩
  with_reducible repeat' first | assumption | intro x | apply State.otherOp_keeps | apply State.withPins_keeps

theorem execFillArrival_keeps {x0} (h : Keeps z s) : ∃ t, execFillArrival x0 s = .next t ∧ Keeps z t := by
  unfold execFillArrival
  refine ⟨_, rfl, ?_⟩
  with_reducible repeat' first
    | assumption | intro x | apply State.fillArrive_keeps | apply State.withPins_keeps | apply State.drain_keeps

theorem execLinkAuth_keeps {x0} (h : Keeps z s) : ∃ t, execLinkAuth x0 s = .next t ∧ Keeps z t := by
  unfold execLinkAuth
  refine ⟨_, rfl, ?_⟩
  with_reducible repeat' first
    | assumption | intro x | apply State.linkAuthFail_keeps | apply State.withPins_keeps | apply Keeps.ite

theorem execNakFlit_keeps {x0 x1} (h : Keeps z s) : ∃ t, execNakFlit x0 x1 s = .next t ∧ Keeps z t := by
  unfold execNakFlit
  refine ⟨_, rfl, ?_⟩
  with_reducible repeat' first | assumption | intro x | apply State.nakFlit_keeps | apply State.withPins_keeps

theorem execKxOffer_keeps {x0 x1 x2} (h : Keeps z s) : ∃ t, execKxOffer x0 x1 x2 s = .next t ∧ Keeps z t := by
  unfold execKxOffer
  refine ⟨_, rfl, ?_⟩
  with_reducible repeat' first | assumption | intro x | apply State.kxOffer_keeps | apply State.mgtIn_keeps

theorem execKeyFenced_keeps {x0} (h : Keeps z s) : ∃ t, execKeyFenced x0 s = .next t ∧ Keeps z t := by
  unfold execKeyFenced
  refine ⟨_, rfl, ?_⟩
  with_reducible repeat' first | assumption | intro x | apply State.slotFenced_keeps | apply State.withPins_keeps

theorem execHdmDecoderCommit_keeps {x0 x1 x2} (h : Keeps z s) : ∃ t, execHdmDecoderCommit x0 x1 x2 s = .next t ∧ Keeps z t := by
  unfold execHdmDecoderCommit
  refine ⟨_, rfl, ?_⟩
  with_reducible repeat' first | assumption | apply State.commitDecoder_keeps

theorem execScraperVictimSelect_keeps {x0} (h : Keeps z s) : ∃ t, execScraperVictimSelect x0 s = .next t ∧ Keeps z t := by
  unfold execScraperVictimSelect
  refine ⟨_, rfl, ?_⟩
  with_reducible repeat' first | assumption | intro x | apply State.scrape_keeps | apply State.withPins_keeps | apply Keeps.ite

theorem execSurvey_keeps  (h : Keeps z s) : ∃ t, execSurvey s = .next t ∧ Keeps z t := by
  unfold execSurvey
  refine ⟨_, rfl, ?_⟩
  with_reducible repeat' first | assumption | apply State.endSurvey_keeps | apply State.withPins_keeps

theorem execUnitResetEnd_keeps {x0} (h : Keeps z s) : ∃ t, execUnitResetEnd x0 s = .next t ∧ Keeps z t := by
  unfold execUnitResetEnd
  refine ⟨_, rfl, ?_⟩
  with_reducible repeat' first
    | assumption | intro x | apply State.unitResetEnd_keeps | apply State.withPins_keeps | apply State.drain_keeps

theorem execGetPartitionInfo_keeps {x0} (h : Keeps z s) : ∃ t, execGetPartitionInfo x0 s = .next t ∧ Keeps z t := by
  unfold execGetPartitionInfo
  refine ⟨_, rfl, ?_⟩
  with_reducible repeat' first | assumption | apply State.mboxGet_keeps

theorem execCmdAbandon_keeps  (h : Keeps z s) : ∃ t, execCmdAbandon s = .next t ∧ Keeps z t := by
  unfold execCmdAbandon
  refine ⟨_, rfl, ?_⟩
  with_reducible repeat' first | assumption | apply State.cmdAbandon_keeps | apply State.withPins_keeps

theorem execPwrLogOldest_keeps {x0} (h : Keeps z s) : ∃ t, execPwrLogOldest x0 s = .next t ∧ Keeps z t := by
  unfold execPwrLogOldest
  refine ⟨_, rfl, ?_⟩
  with_reducible repeat' first | assumption | intro x | apply State.withPins_keeps | apply State.pageWrite_keeps

theorem execPwrEnFall_keeps  (h : Keeps z s) : ∃ t, execPwrEnFall s = .next t ∧ Keeps z t := by
  unfold execPwrEnFall
  refine ⟨_, rfl, ?_⟩
  with_reducible repeat' first | assumption | apply State.pwrEnFall_keeps | apply State.withPins_keeps

theorem execRd_keeps {x0 x1} (h : Keeps z s) : ∃ t, execRd x0 x1 s = .next t ∧ Keeps z t := by
  unfold execRd
  refine ⟨_, rfl, ?_⟩
  with_reducible repeat' first
    | assumption | intro x | apply State.msgIn_keeps | apply State.acceptReq_keeps | apply State.withPins_keeps

theorem execSetmrl_keeps {x0} (h : Keeps z s) : ∃ t, execSetmrl x0 s = .next t ∧ Keeps z t := by
  unfold execSetmrl
  refine ⟨_, rfl, ?_⟩
  with_reducible repeat' first | assumption | apply State.setmrl_keeps

theorem execReformTimeout_keeps  (h : Keeps z s) : ∃ t, execReformTimeout s = .next t ∧ Keeps z t := by
  unfold execReformTimeout
  refine ⟨_, rfl, ?_⟩
  with_reducible repeat' first | assumption | apply State.withPins_keeps | apply State.reformTimeout_keeps

theorem execConvergePassEnd_keeps {x0} (h : Keeps z s) : ∃ t, execConvergePassEnd x0 s = .next t ∧ Keeps z t := by
  unfold execConvergePassEnd
  refine ⟨_, rfl, ?_⟩
  with_reducible repeat' first
    | assumption | intro x | apply State.passDone_keeps | apply State.withPins_keeps | apply State.drain_keeps

theorem execOrderlyFlushTimeout_keeps  (h : Keeps z s) : ∃ t, execOrderlyFlushTimeout s = .next t ∧ Keeps z t := by
  unfold execOrderlyFlushTimeout
  refine ⟨_, rfl, ?_⟩
  with_reducible repeat' first | assumption | apply State.orderlyFlushTimeout_keeps | apply State.withPins_keeps

theorem execKeyUpdate_keeps {x0 x1} (h : Keeps z s) : ∃ t, execKeyUpdate x0 x1 s = .next t ∧ Keeps z t := by
  unfold execKeyUpdate
  refine ⟨_, rfl, ?_⟩
  with_reducible repeat' first | assumption | intro x | apply State.spdmDo_keeps | apply State.within_keeps | apply Keeps.id

theorem execAtom_keeps {x0 x1 x2 x3 x4 x5} (h : Keeps z s) : ∃ t, execAtom x0 x1 x2 x3 x4 x5 s = .next t ∧ Keeps z t := by
  unfold execAtom
  refine ⟨_, rfl, ?_⟩
  with_reducible repeat' first
    | assumption | intro x | apply State.msgIn_keeps | apply State.acceptReq_keeps | apply State.withPins_keeps

theorem execBootMonitorCheck_keeps {x0} (h : Keeps z s) : ∃ t, execBootMonitorCheck x0 s = .next t ∧ Keeps z t := by
  unfold execBootMonitorCheck
  refine ⟨_, rfl, ?_⟩
  with_reducible repeat' first
    | assumption | intro x | apply State.bootMonitor_keeps | apply State.withPins_keeps | apply State.drain_keeps

theorem execThermShut_keeps {x0 x1} (h : Keeps z s) : ∃ t, execThermShut x0 x1 s = .next t ∧ Keeps z t := by
  unfold execThermShut
  refine ⟨_, rfl, ?_⟩
  with_reducible repeat' first | assumption | intro x | apply State.withPins_keeps | apply State.thermShut_keeps

theorem execHandleQuery_keeps {x0 x1 x2} (h : Keeps z s) : ∃ t, execHandleQuery x0 x1 x2 s = .next t ∧ Keeps z t := by
  unfold execHandleQuery
  refine ⟨_, rfl, ?_⟩
  with_reducible repeat' first | assumption | intro x | apply State.cmd_keeps | apply State.withPins_keeps

theorem execRegionCommitRetry_keeps  (h : Keeps z s) : ∃ t, execRegionCommitRetry s = .next t ∧ Keeps z t := by
  unfold execRegionCommitRetry
  refine ⟨_, rfl, ?_⟩
  with_reducible repeat' first
    | assumption | intro x | apply State.commitRetry_keeps | apply State.withPins_keeps | apply State.drain_keeps

theorem execSafeState_keeps {x0} (h : Keeps z s) : ∃ t, execSafeState x0 s = .next t ∧ Keeps z t := by
  unfold execSafeState
  refine ⟨_, rfl, ?_⟩
  with_reducible repeat' first | assumption | intro x | apply State.safeEntry_keeps | apply State.withPins_keeps

theorem execFlushReleasePhaseEnd_keeps  (h : Keeps z s) : ∃ t, execFlushReleasePhaseEnd s = .next t ∧ Keeps z t := by
  unfold execFlushReleasePhaseEnd
  refine ⟨_, rfl, ?_⟩
  with_reducible repeat' first | assumption | apply State.withPins_keeps | apply State.flushReleased_keeps

theorem execSliceFence_keeps {x0} (h : Keeps z s) : ∃ t, execSliceFence x0 s = .next t ∧ Keeps z t := by
  unfold execSliceFence
  refine ⟨_, rfl, ?_⟩
  with_reducible repeat' first | assumption | intro x | apply State.withPins_keeps | apply State.sliceSilent_keeps

theorem execMissFullWaitEnd_keeps {x0} (h : Keeps z s) : ∃ t, execMissFullWaitEnd x0 s = .next t ∧ Keeps z t := by
  unfold execMissFullWaitEnd
  refine ⟨_, rfl, ?_⟩
  with_reducible repeat' first | assumption | intro x | apply State.missFullEnd_keeps | apply State.withPins_keeps

theorem execHoldupMeasureSchedule_keeps  (h : Keeps z s) : ∃ t, execHoldupMeasureSchedule s = .next t ∧ Keeps z t := by
  unfold execHoldupMeasureSchedule
  refine ⟨_, rfl, ?_⟩
  with_reducible repeat' first | assumption | apply State.measureStart_keeps | apply State.withPins_keeps

theorem execEvtStatW1c_keeps {x0 x1 x2 x3} (h : Keeps z s) : ∃ t, execEvtStatW1c x0 x1 x2 x3 s = .next t ∧ Keeps z t := by
  unfold execEvtStatW1c
  refine ⟨_, rfl, ?_⟩
  with_reducible repeat' first | assumption | intro x | apply State.withPins_keeps | apply State.pageWrite_keeps

theorem execMediaThermalRound_keeps  (h : Keeps z s) : ∃ t, execMediaThermalRound s = .next t ∧ Keeps z t := by
  unfold execMediaThermalRound
  refine ⟨_, rfl, ?_⟩
  with_reducible repeat' first | assumption | apply State.mediaRound_keeps

theorem execFillWindowBoundary_keeps  (h : Keeps z s) : ∃ t, execFillWindowBoundary s = .next t ∧ Keeps z t := by
  unfold execFillWindowBoundary
  refine ⟨_, rfl, ?_⟩
  with_reducible repeat' first | assumption | simp only [↓Keeps.rest_iff]

theorem execWr_keeps {x0 x1 x2 x3} (h : Keeps z s) : ∃ t, execWr x0 x1 x2 x3 s = .next t ∧ Keeps z t := by
  unfold execWr
  refine ⟨_, rfl, ?_⟩
  with_reducible repeat' first
    | assumption | intro x | apply State.msgIn_keeps | apply State.acceptReq_keeps | apply State.withPins_keeps

theorem execRwMarkDurable_keeps {x0} (h : Keeps z s) : ∃ t, execRwMarkDurable x0 s = .next t ∧ Keeps z t := by
  unfold execRwMarkDurable
  refine ⟨_, rfl, ?_⟩
  with_reducible repeat' first | assumption | intro x | apply State.markDurable_keeps | apply State.withPins_keeps

theorem execSegAlloc_keeps {x0 x1 x2 x3} (h : Keeps z s) : ∃ t, execSegAlloc x0 x1 x2 x3 s = .next t ∧ Keeps z t := by
  unfold execSegAlloc
  refine ⟨_, rfl, ?_⟩
  with_reducible repeat' first | assumption | intro x | apply State.cmd_keeps | apply State.withPins_keeps

theorem execDataFlit_keeps {x0 x1} (h : Keeps z s) : ∃ t, execDataFlit x0 x1 s = .next t ∧ Keeps z t := by
  unfold execDataFlit
  refine ⟨_, rfl, ?_⟩
  with_reducible repeat' first | assumption | intro x | apply State.dataFlit_keeps | apply State.withPins_keeps

theorem execGstGapTimeout_keeps  (h : Keeps z s) : ∃ t, execGstGapTimeout s = .next t ∧ Keeps z t := by
  unfold execGstGapTimeout
  refine ⟨_, rfl, ?_⟩
  with_reducible repeat' first
    | assumption | intro x | apply State.withPins_keeps | apply State.gapTimeout_keeps | apply State.drain_keeps

theorem execDcAddTimeout_keeps {x0 x1} (h : Keeps z s) : ∃ t, execDcAddTimeout x0 x1 s = .next t ∧ Keeps z t := by
  unfold execDcAddTimeout
  refine ⟨_, rfl, ?_⟩
  with_reducible repeat' first
    | assumption | intro x | apply State.dcAddTimeout_keeps | apply State.withPins_keeps | apply State.drain_keeps

theorem execSwitchReady_keeps {x0 x1} (h : Keeps z s) : ∃ t, execSwitchReady x0 x1 s = .next t ∧ Keeps z t := by
  unfold execSwitchReady
  refine ⟨_, rfl, ?_⟩
  with_reducible repeat' first | assumption | intro x | apply State.custodyIn_keeps | apply State.withPins_keeps

theorem execDtcLineAccept_keeps {x0} (h : Keeps z s) : ∃ t, execDtcLineAccept x0 s = .next t ∧ Keeps z t := by
  unfold execDtcLineAccept
  refine ⟨_, rfl, ?_⟩
  with_reducible repeat' first
    | assumption | intro x | apply State.pump_keeps | apply State.withPins_keeps | apply State.drain_keeps
    | apply State.drainOne_keeps | apply Keeps.ite

theorem execL0pWidthChange_keeps {x0 x1} (h : Keeps z s) : ∃ t, execL0pWidthChange x0 x1 s = .next t ∧ Keeps z t := by
  unfold execL0pWidthChange
  refine ⟨_, rfl, ?_⟩
  with_reducible repeat' first | assumption | apply State.l0p_keeps

theorem execSlcInvalidateStart_keeps {x0 x1 x2} (h : Keeps z s) : ∃ t, execSlcInvalidateStart x0 x1 x2 s = .next t ∧ Keeps z t := by
  unfold execSlcInvalidateStart
  refine ⟨_, rfl, ?_⟩
  with_reducible repeat' first | assumption | intro x | apply State.withPins_keeps | apply State.pageWrite_keeps

theorem execStartupRelease_keeps  (h : Keeps z s) : ∃ t, execStartupRelease s = .next t ∧ Keeps z t := by
  unfold execStartupRelease
  refine ⟨_, rfl, ?_⟩
  with_reducible repeat' first | assumption | apply State.withPins_keeps | apply State.release_keeps

theorem execTierLookupDone_keeps {x0} (h : Keeps z s) : ∃ t, execTierLookupDone x0 s = .next t ∧ Keeps z t := by
  unfold execTierLookupDone
  refine ⟨_, rfl, ?_⟩
  with_reducible repeat' first | assumption | apply State.tierLookup_keeps

theorem execEqualisationRequest_keeps {x0 x1} (h : Keeps z s) : ∃ t, execEqualisationRequest x0 x1 s = .next t ∧ Keeps z t := by
  unfold execEqualisationRequest
  refine ⟨_, rfl, ?_⟩
  with_reducible repeat' first | assumption | intro x | apply State.eqRequest_keeps | apply State.withPins_keeps

theorem execReleaseDynamicCapacity_keeps {x0 x1} (h : Keeps z s) : ∃ t, execReleaseDynamicCapacity x0 x1 s = .next t ∧ Keeps z t := by
  unfold execReleaseDynamicCapacity
  refine ⟨_, rfl, ?_⟩
  with_reducible repeat' first
    | assumption | intro x | apply State.releaseDc_keeps | apply State.mailbox_keeps | apply State.withPins_keeps

theorem execGetmxds_keeps  (h : Keeps z s) : ∃ t, execGetmxds s = .next t ∧ Keeps z t := by
  unfold execGetmxds
  refine ⟨_, rfl, ?_⟩
  with_reducible repeat' first | assumption | apply State.cccGet_keeps

theorem execAddDcResponse_keeps {x0 x1} (h : Keeps z s) : ∃ t, execAddDcResponse x0 x1 s = .next t ∧ Keeps z t := by
  unfold execAddDcResponse
  refine ⟨_, rfl, ?_⟩
  with_reducible repeat' first
    | assumption | intro x | apply State.mailbox_keeps | apply State.withPins_keeps | apply State.addDcRsp_keeps

theorem execGstRsp_keeps {x0 x1 x2 x3} (h : Keeps z s) : ∃ t, execGstRsp x0 x1 x2 x3 s = .next t ∧ Keeps z t := by
  unfold execGstRsp
  refine ⟨_, rfl, ?_⟩
  with_reducible repeat' first | assumption | intro x | apply State.custodyIn_keeps | apply State.withPins_keeps

theorem execSanitizeDone_keeps  (h : Keeps z s) : ∃ t, execSanitizeDone s = .next t ∧ Keeps z t := by
  unfold execSanitizeDone
  refine ⟨_, rfl, ?_⟩
  with_reducible repeat' first
    | assumption | apply State.ageVoids_keeps | apply State.sanitizeAll_keeps | apply State.finishOp_keeps | apply Keeps.ite

theorem execUnsupportedCcc_keeps {x0} (h : Keeps z s) : ∃ t, execUnsupportedCcc x0 s = .next t ∧ Keeps z t := by
  unfold execUnsupportedCcc
  refine ⟨_, rfl, ?_⟩
  with_reducible repeat' first | assumption | apply State.ccc_keeps | apply State.emit_keeps

theorem execAlignmentLoss_keeps {x0} (h : Keeps z s) : ∃ t, execAlignmentLoss x0 s = .next t ∧ Keeps z t := by
  unfold execAlignmentLoss
  refine ⟨_, rfl, ?_⟩
  with_reducible repeat' first | assumption | intro x | apply State.withPins_keeps | apply State.alignmentLoss_keeps

theorem execSegRecover_keeps {x0 x1 x2} (h : Keeps z s) : ∃ t, execSegRecover x0 x1 x2 s = .next t ∧ Keeps z t := by
  unfold execSegRecover
  refine ⟨_, rfl, ?_⟩
  with_reducible repeat' first | assumption | intro x | apply State.cmd_keeps | apply State.withPins_keeps

theorem execRegisterRead_keeps {x0 x1 x2} (h : Keeps z s) : ∃ t, execRegisterRead x0 x1 x2 s = .next t ∧ Keeps z t := by
  unfold execRegisterRead
  refine ⟨_, rfl, ?_⟩
  with_reducible repeat' first | assumption | intro x | apply State.regRead_keeps | apply State.withPins_keeps

theorem execSetReleaseDurable_keeps {x0} (h : Keeps z s) : ∃ t, execSetReleaseDurable x0 s = .next t ∧ Keeps z t := by
  unfold execSetReleaseDurable
  refine ⟨_, rfl, ?_⟩
  with_reducible repeat' first | assumption | intro x | apply State.releaseDurable_keeps | apply State.withPins_keeps

theorem execOldEscapeExpiry_keeps  (h : Keeps z s) : ∃ t, execOldEscapeExpiry s = .next t ∧ Keeps z t := by
  unfold execOldEscapeExpiry
  refine ⟨_, rfl, ?_⟩
  with_reducible repeat' first | assumption | simp only [↓Keeps.rest_iff]

theorem execEvtForceWrite_keeps {x0 x1 x2 x3} (h : Keeps z s) : ∃ t, execEvtForceWrite x0 x1 x2 x3 s = .next t ∧ Keeps z t := by
  unfold execEvtForceWrite
  refine ⟨_, rfl, ?_⟩
  with_reducible repeat' first | assumption | intro x | apply State.withPins_keeps | apply State.pageWrite_keeps

theorem execSegAbort_keeps {x0 x1 x2} (h : Keeps z s) : ∃ t, execSegAbort x0 x1 x2 s = .next t ∧ Keeps z t := by
  unfold execSegAbort
  refine ⟨_, rfl, ?_⟩
  with_reducible repeat' first | assumption | intro x | apply State.cmd_keeps | apply State.withPins_keeps

theorem execKeyImport_keeps {x0 x1 x2 x3 x4} (h : Keeps z s) : ∃ t, execKeyImport x0 x1 x2 x3 x4 s = .next t ∧ Keeps z t := by
  unfold execKeyImport
  refine ⟨_, rfl, ?_⟩
  with_reducible repeat' first
    | assumption | intro x | apply State.command_keeps | apply State.withPins_keeps | apply State.drain_keeps | apply Keeps.ite

theorem execFlushDrainEnd_keeps  (h : Keeps z s) : ∃ t, execFlushDrainEnd s = .next t ∧ Keeps z t := by
  unfold execFlushDrainEnd
  refine ⟨_, rfl, ?_⟩
  with_reducible repeat' first | assumption | apply State.flushDrained_keeps | apply State.withPins_keeps

theorem execBladeSeatOpen_keeps  (h : Keeps z s) : ∃ t, execBladeSeatOpen s = .next t ∧ Keeps z t := by
  unfold execBladeSeatOpen
  refine ⟨_, rfl, ?_⟩
  with_reducible repeat' first
    | exact .inl rfl | assumption | intro x | apply State.emergency_keeps | apply State.withPins_keeps
    | (simp only [↓Keeps.pwr_iff]; refine KeepsPwr.intro ?_ ?_ ?_)

theorem execGetVersion_keeps {x0} (h : Keeps z s) : ∃ t, execGetVersion x0 s = .next t ∧ Keeps z t := by
  unfold execGetVersion
  refine ⟨_, rfl, ?_⟩
  with_reducible repeat' first | assumption | intro x | apply State.spdmDo_keeps | apply State.spdmRsp_keeps

theorem execRekeyIntervalExpiry_keeps {x0} (h : Keeps z s) : ∃ t, execRekeyIntervalExpiry x0 s = .next t ∧ Keeps z t := by
  unfold execRekeyIntervalExpiry
  refine ⟨_, rfl, ?_⟩
  with_reducible repeat' first | assumption | apply State.rekey_keeps

theorem execGetEndpointId_keeps  (h : Keeps z s) : ∃ t, execGetEndpointId s = .next t ∧ Keeps z t := by
  unfold execGetEndpointId
  refine ⟨_, rfl, ?_⟩
  with_reducible repeat' first | assumption | apply State.mctpDo_keeps

theorem execProgramDone_keeps {x0} (h : Keeps z s) : ∃ t, execProgramDone x0 s = .next t ∧ Keeps z t := by
  unfold execProgramDone
  refine ⟨_, rfl, ?_⟩
  with_reducible repeat' first
    | assumption | intro x | apply State.checkShort_keeps | apply State.rwCheck_keeps | apply State.programDone_keeps
    | apply State.withPins_keeps

theorem execDiscardCheckAnswer_keeps {x0 x1 x2 x3 x4} (h : Keeps z s) : ∃ t, execDiscardCheckAnswer x0 x1 x2 x3 x4 s = .next t ∧ Keeps z t := by
  unfold execDiscardCheckAnswer
  refine ⟨_, rfl, ?_⟩
  with_reducible repeat' first
    | assumption | intro x | apply State.discardAnswer_keeps | apply State.withPins_keeps | apply State.drain_keeps

theorem execGetCertificate_keeps {x0 x1} (h : Keeps z s) : ∃ t, execGetCertificate x0 x1 s = .next t ∧ Keeps z t := by
  unfold execGetCertificate
  refine ⟨_, rfl, ?_⟩
  with_reducible repeat' first | assumption | intro x | apply State.spdmDo_keeps | apply State.certificate_keeps

theorem execTrainingRetryExpiry_keeps {x0} (h : Keeps z s) : ∃ t, execTrainingRetryExpiry x0 s = .next t ∧ Keeps z t := by
  unfold execTrainingRetryExpiry
  refine ⟨_, rfl, ?_⟩
  with_reducible repeat' first | assumption | apply State.retryTraining_keeps

theorem execLorlekExec_keeps {x0 x1} (h : Keeps z s) : ∃ t, execLorlekExec x0 x1 s = .next t ∧ Keeps z t := by
  unfold execLorlekExec
  refine ⟨_, rfl, ?_⟩
  with_reducible repeat' first
    | assumption | intro x | apply State.mailbox_keeps | apply State.withPins_keeps | apply State.lorlekExec_keeps

theorem execFlushJournalEnd_keeps {x0} (h : Keeps z s) : ∃ t, execFlushJournalEnd x0 s = .next t ∧ Keeps z t := by
  unfold execFlushJournalEnd
  refine ⟨_, rfl, ?_⟩
  with_reducible repeat' first | assumption | intro x | apply State.flushJournaled_keeps | apply State.withPins_keeps

theorem execRegionCommit_keeps {x0} (h : Keeps z s) : ∃ t, execRegionCommit x0 s = .next t ∧ Keeps z t := by
  unfold execRegionCommit
  refine ⟨_, rfl, ?_⟩
  with_reducible repeat' first | assumption | intro x | apply State.ctrlWrite_keeps | apply State.withPins_keeps

theorem execMrstNFall_keeps  (h : Keeps z s) : ∃ t, execMrstNFall s = .next t ∧ Keeps z t := by
  unfold execMrstNFall
  refine ⟨_, rfl, ?_⟩
  with_reducible repeat' first | assumption | apply State.mrstFall_keeps | apply State.withPins_keeps

theorem execSwitchTimeout_keeps {x0} (h : Keeps z s) : ∃ t, execSwitchTimeout x0 s = .next t ∧ Keeps z t := by
  unfold execSwitchTimeout
  refine ⟨_, rfl, ?_⟩
  with_reducible repeat' first
    | assumption | intro x | apply State.withPins_keeps | apply State.drain_keeps | apply State.switchTimeout_keeps

theorem execStartupTailScanEnd_keeps  (h : Keeps z s) : ∃ t, execStartupTailScanEnd s = .next t ∧ Keeps z t := by
  unfold execStartupTailScanEnd
  refine ⟨_, rfl, ?_⟩
  with_reducible repeat' first
    | assumption | intro x | apply State.phaseEnd_keeps | apply State.tailScan_keeps | apply State.withPins_keeps

theorem execPllRelock_keeps  (h : Keeps z s) : ∃ t, execPllRelock s = .next t ∧ Keeps z t := by
  unfold execPllRelock
  refine ⟨_, rfl, ?_⟩
  with_reducible repeat' first | assumption | apply State.withPins_keeps | apply State.relock_keeps

theorem execCagePresenceDebounceExpiry_keeps {x0} (h : Keeps z s) : ∃ t, execCagePresenceDebounceExpiry x0 s = .next t ∧ Keeps z t := by
  refine ⟨_, rfl, ?_⟩
  split
  · rename_i e
    exact h.setCage fun i => Cage.legal_step (i.cage _) (by rw [e]; decide) (by decide)
  · exact h

theorem execPbSramUe_keeps {x0 x1} (h : Keeps z s) : ∃ t, execPbSramUe x0 x1 s = .next t ∧ Keeps z t := by
  unfold execPbSramUe
  refine ⟨_, rfl, ?_⟩
  with_reducible repeat' first
    | assumption | intro x | apply State.admitAll_keeps | apply State.pbUe_keeps | apply State.withPins_keeps

theorem execSetWritePassword_keeps {x0} (h : Keeps z s) : ∃ t, execSetWritePassword x0 s = .next t ∧ Keeps z t := by
  unfold execSetWritePassword
  refine ⟨_, rfl, ?_⟩
  with_reducible repeat' first | assumption | intro x | apply State.withPins_keeps | apply State.pageWrite_keeps

theorem execHotReset_keeps {x0} (h : Keeps z s) : ∃ t, execHotReset x0 s = .next t ∧ Keeps z t := by
  unfold execHotReset
  refine ⟨_, rfl, ?_⟩
  with_reducible repeat' first
    | assumption | intro x | apply State.resetHead_keeps | apply State.withPins_keeps | apply State.drain_keeps

theorem execSafeFlushTimeout_keeps  (h : Keeps z s) : ∃ t, execSafeFlushTimeout s = .next t ∧ Keeps z t := by
  unfold execSafeFlushTimeout
  refine ⟨_, rfl, ?_⟩
  with_reducible repeat' first | assumption | apply State.safeFlushTimeout_keeps | apply State.withPins_keeps

theorem execCplAbandon_keeps  (h : Keeps z s) : ∃ t, execCplAbandon s = .next t ∧ Keeps z t := by
  unfold execCplAbandon
  refine ⟨_, rfl, ?_⟩
  with_reducible repeat' first | assumption | apply State.cplAbandon_keeps | apply State.withPins_keeps

theorem execFreezeAll_keeps {x0 x1} (h : Keeps z s) : ∃ t, execFreezeAll x0 x1 s = .next t ∧ Keeps z t := by
  unfold execFreezeAll
  refine ⟨_, rfl, ?_⟩
  with_reducible repeat' first | assumption | intro x | apply State.withPins_keeps | apply State.pageWrite_keeps

theorem execNop_keeps {x0 x1} (h : Keeps z s) : ∃ t, execNop x0 x1 s = .next t ∧ Keeps z t := by
  unfold execNop
  refine ⟨_, rfl, ?_⟩
  with_reducible repeat' first | assumption | intro x | apply State.cmd_keeps | apply State.withPins_keeps

theorem execDevReq_keeps {x0 x1 x2 x3} (h : Keeps z s) : ∃ t, execDevReq x0 x1 x2 x3 s = .next t ∧ Keeps z t := by
  unfold execDevReq
  refine ⟨_, rfl, ?_⟩
  with_reducible repeat' first | assumption | intro x | apply State.mgtIn_keeps | apply State.devReqIn_keeps

theorem execGetmwl_keeps  (h : Keeps z s) : ∃ t, execGetmwl s = .next t ∧ Keeps z t := by
  unfold execGetmwl
  refine ⟨_, rfl, ?_⟩
  with_reducible repeat' first | assumption | apply State.cccGet_keeps

theorem execGetPoisonList_keeps {x0} (h : Keeps z s) : ∃ t, execGetPoisonList x0 s = .next t ∧ Keeps z t := by
  unfold execGetPoisonList
  refine ⟨_, rfl, ?_⟩
  with_reducible repeat' first | assumption | apply State.mboxGet_keeps

theorem execTrainingTimeout_keeps {x0} (h : Keeps z s) : ∃ t, execTrainingTimeout x0 s = .next t ∧ Keeps z t := by
  unfold execTrainingTimeout
  refine ⟨_, rfl, ?_⟩
  with_reducible repeat' first | assumption | intro x | apply State.withPins_keeps | apply State.trainTimeout_keeps

theorem execStandbyAckTimeout_keeps {x0} (h : Keeps z s) : ∃ t, execStandbyAckTimeout x0 s = .next t ∧ Keeps z t := by
  unfold execStandbyAckTimeout
  refine ⟨_, rfl, ?_⟩
  with_reducible repeat' first
    | assumption | intro x | apply State.withPins_keeps | apply State.drain_keeps | apply State.ackTimeout_keeps

theorem execConsentWindowExpiry_keeps  (h : Keeps z s) : ∃ t, execConsentWindowExpiry s = .next t ∧ Keeps z t := by
  unfold execConsentWindowExpiry
  refine ⟨_, rfl, ?_⟩
  with_reducible repeat' first | assumption | apply State.closeConsent_keeps | apply Keeps.ite

theorem execDomainRegate_keeps {x0} (h : Keeps z s) : ∃ t, execDomainRegate x0 s = .next t ∧ Keeps z t := by
  unfold execDomainRegate
  refine ⟨_, rfl, ?_⟩
  with_reducible repeat' first | assumption | apply State.regate_keeps

theorem execChannelTrainingTimeout_keeps {x0} (h : Keeps z s) : ∃ t, execChannelTrainingTimeout x0 s = .next t ∧ Keeps z t := by
  unfold execChannelTrainingTimeout
  refine ⟨_, rfl, ?_⟩
  with_reducible repeat' first | assumption | intro x | apply State.untrainedDch_keeps | apply State.withPins_keeps

theorem execPfailNRise_keeps  (h : Keeps z s) : ∃ t, execPfailNRise s = .next t ∧ Keeps z t := by
  unfold execPfailNRise
  refine ⟨_, rfl, ?_⟩
  with_reducible repeat' first | assumption | apply State.warnEnd_keeps | simp only [↓Keeps.rest_iff]

theorem execFwLoad_keeps {x0 x1 x2 x3} (h : Keeps z s) : ∃ t, execFwLoad x0 x1 x2 x3 s = .next t ∧ Keeps z t := by
  unfold execFwLoad
  refine ⟨_, rfl, ?_⟩
  with_reducible repeat' first | assumption | intro x | apply State.cmd_keeps | apply State.withPins_keeps

theorem execChallenge_keeps {x0 x1} (h : Keeps z s) : ∃ t, execChallenge x0 x1 s = .next t ∧ Keeps z t := by
  unfold execChallenge
  refine ⟨_, rfl, ?_⟩
  with_reducible repeat' first | assumption | intro x | apply State.spdmDo_keeps | apply State.challenged_keeps

theorem execRemoteRequestTimeout_keeps {x0} (h : Keeps z s) : ∃ t, execRemoteRequestTimeout x0 s = .next t ∧ Keeps z t := by
  unfold execRemoteRequestTimeout
  refine ⟨_, rfl, ?_⟩
  with_reducible repeat' first
    | assumption | intro x | apply State.discardTimeout_keeps | apply State.withPins_keeps | apply State.remoteTimeout_keeps
    | apply State.drain_keeps

theorem execDiscard_keeps {x0 x1 x2 x3} (h : Keeps z s) : ∃ t, execDiscard x0 x1 x2 x3 s = .next t ∧ Keeps z t := by
  unfold execDiscard
  refine ⟨_, rfl, ?_⟩
  with_reducible repeat' first | assumption | intro x | apply State.cmd_keeps | apply State.withPins_keeps

theorem execSlcPreload_keeps {x0 x1 x2} (h : Keeps z s) : ∃ t, execSlcPreload x0 x1 x2 s = .next t ∧ Keeps z t := by
  unfold execSlcPreload
  refine ⟨_, rfl, ?_⟩
  with_reducible repeat' first | assumption | intro x | apply State.withPins_keeps | apply State.pageWrite_keeps

theorem execRewindTo_keeps {x0 x1 x2 x3} (h : Keeps z s) : ∃ t, execRewindTo x0 x1 x2 x3 s = .next t ∧ Keeps z t := by
  unfold execRewindTo
  refine ⟨_, rfl, ?_⟩
  with_reducible repeat' first | assumption | intro x | apply State.cmd_keeps | apply State.withPins_keeps

theorem execGetEventRecords_keeps {x0 x1} (h : Keeps z s) : ∃ t, execGetEventRecords x0 x1 s = .next t ∧ Keeps z t := by
  unfold execGetEventRecords
  refine ⟨_, rfl, ?_⟩
  with_reducible repeat' first | assumption | apply State.mboxGet_keeps

theorem execSlcLockCommit_keeps {x0} (h : Keeps z s) : ∃ t, execSlcLockCommit x0 s = .next t ∧ Keeps z t := by
  unfold execSlcLockCommit
  refine ⟨_, rfl, ?_⟩
  with_reducible repeat' first | assumption | apply State.commitLocks_keeps | apply Keeps.ite

theorem execSegUnbind_keeps {x0 x1 x2 x3} (h : Keeps z s) : ∃ t, execSegUnbind x0 x1 x2 x3 s = .next t ∧ Keeps z t := by
  unfold execSegUnbind
  refine ⟨_, rfl, ?_⟩
  with_reducible repeat' first | assumption | intro x | apply State.cmd_keeps | apply State.withPins_keeps

theorem execAtomData_keeps {x0 x1} (h : Keeps z s) : ∃ t, execAtomData x0 x1 s = .next t ∧ Keeps z t := by
  unfold execAtomData
  refine ⟨_, rfl, ?_⟩
  with_reducible repeat' first
    | assumption | intro x | apply State.rspIn_keeps | apply State.atomData_keeps | apply State.withPins_keeps

theorem execPwrLogClear_keeps {x0} (h : Keeps z s) : ∃ t, execPwrLogClear x0 s = .next t ∧ Keeps z t := by
  unfold execPwrLogClear
  refine ⟨_, rfl, ?_⟩
  with_reducible repeat' first | assumption | intro x | apply State.withPins_keeps | apply State.pageWrite_keeps

theorem execClearEventRecords_keeps {x0 x1 x2} (h : Keeps z s) : ∃ t, execClearEventRecords x0 x1 x2 s = .next t ∧ Keeps z t := by
  unfold execClearEventRecords
  refine ⟨_, rfl, ?_⟩
  with_reducible repeat' first | assumption | intro x | apply State.clearRecords_keeps | apply State.mailbox_keeps

theorem execIdeKmQuery_keeps {x0} (h : Keeps z s) : ∃ t, execIdeKmQuery x0 s = .next t ∧ Keeps z t := by
  unfold execIdeKmQuery
  refine ⟨_, rfl, ?_⟩
  with_reducible repeat' first | assumption | apply State.ideDo_keeps | apply Keeps.id

theorem execCmdPush_keeps {x0} (h : Keeps z s) : ∃ t, execCmdPush x0 s = .next t ∧ Keeps z t := by
  unfold execCmdPush
  refine ⟨_, rfl, ?_⟩
  with_reducible repeat' first
    | assumption | intro x | apply State.i3cPush_keeps | apply State.withPins_keeps | apply State.drain_keeps

theorem execGetTimestamp_keeps {x0} (h : Keeps z s) : ∃ t, execGetTimestamp x0 s = .next t ∧ Keeps z t := by
  unfold execGetTimestamp
  refine ⟨_, rfl, ?_⟩
  with_reducible repeat' first | assumption | apply State.mboxGet_keeps

theorem execGpf_keeps {x0} (h : Keeps z s) : ∃ t, execGpf x0 s = .next t ∧ Keeps z t := by
  unfold execGpf
  refine ⟨_, rfl, ?_⟩
  with_reducible repeat' first
    | assumption | intro x | apply State.msgIn_keeps | apply State.acceptReq_keeps | apply State.withPins_keeps

theorem execReconstructionDone_keeps {x0 x1 x2} (h : Keeps z s) : ∃ t, execReconstructionDone x0 x1 x2 s = .next t ∧ Keeps z t := by
  unfold execReconstructionDone
  refine ⟨_, rfl, ?_⟩
  with_reducible repeat' first | assumption | intro x | apply State.reconDone_keeps | apply State.withPins_keeps | apply Keeps.ite

theorem execThrottleReleaseExpiry_keeps  (h : Keeps z s) : ∃ t, execThrottleReleaseExpiry s = .next t ∧ Keeps z t := by
  unfold execThrottleReleaseExpiry
  refine ⟨_, rfl, ?_⟩
  with_reducible repeat' first | assumption | apply State.throttleRelease_keeps | apply State.withPins_keeps

theorem execPageCtl_keeps {x0 x1 x2} (h : Keeps z s) : ∃ t, execPageCtl x0 x1 x2 s = .next t ∧ Keeps z t := by
  unfold execPageCtl
  refine ⟨_, rfl, ?_⟩
  with_reducible repeat' first | assumption | intro x | apply State.custodyIn_keeps | apply State.withPins_keeps

theorem execTrickleIdleExpiry_keeps {x0} (h : Keeps z s) : ∃ t, execTrickleIdleExpiry x0 s = .next t ∧ Keeps z t := by
  unfold execTrickleIdleExpiry
  refine ⟨_, rfl, ?_⟩
  with_reducible repeat' first | assumption | apply State.trickleIdle_keeps

theorem execFwuDone_keeps {x0 x1} (h : Keeps z s) : ∃ t, execFwuDone x0 x1 s = .next t ∧ Keeps z t := by
  unfold execFwuDone
  refine ⟨_, rfl, ?_⟩
  with_reducible repeat' first | assumption | intro x | apply State.custodyIn_keeps | apply State.withPins_keeps

theorem execConventionalReset_keeps {x0} (h : Keeps z s) : ∃ t, execConventionalReset x0 s = .next t ∧ Keeps z t := by
  unfold execConventionalReset
  refine ⟨_, rfl, ?_⟩
  with_reducible repeat' first
    | assumption | intro x | apply State.resetHead_keeps | apply State.withPins_keeps | apply State.drain_keeps

theorem execMgtCmdPushWrite_keeps {x0 x1} (h : Keeps z s) : ∃ t, execMgtCmdPushWrite x0 x1 s = .next t ∧ Keeps z t := by
  unfold execMgtCmdPushWrite
  refine ⟨_, rfl, ?_⟩
  with_reducible repeat' first | assumption | intro x | apply State.withPins_keeps | apply State.pageWrite_keeps

theorem execErr_keeps {x0} (h : Keeps z s) : ∃ t, execErr x0 s = .next t ∧ Keeps z t := by
  unfold execErr
  refine ⟨_, rfl, ?_⟩
  with_reducible repeat' first
    | assumption | intro x | apply State.rspIn_keeps | apply State.withPins_keeps | apply State.drain_keeps
    | apply State.errRsp_keeps

theorem execReceiverDetectionDone_keeps {x0 x1} (h : Keeps z s) : ∃ t, execReceiverDetectionDone x0 x1 s = .next t ∧ Keeps z t := by
  unfold execReceiverDetectionDone
  refine ⟨_, rfl, ?_⟩
  with_reducible repeat' first | assumption | apply State.detected_keeps

theorem execCrumbReadTimeout_keeps {x0 x1} (h : Keeps z s) : ∃ t, execCrumbReadTimeout x0 x1 s = .next t ∧ Keeps z t := by
  unfold execCrumbReadTimeout
  refine ⟨_, rfl, ?_⟩
  with_reducible repeat' first | assumption | intro x | apply State.withPins_keeps | apply State.readTimeout_keeps

theorem execPllRelockTimeout_keeps  (h : Keeps z s) : ∃ t, execPllRelockTimeout s = .next t ∧ Keeps z t := by
  unfold execPllRelockTimeout
  refine ⟨_, rfl, ?_⟩
  with_reducible repeat' first | assumption | apply State.relockTimeout_keeps | apply State.withPins_keeps

theorem execTs1_keeps {x0 x1} (h : Keeps z s) : ∃ t, execTs1 x0 x1 s = .next t ∧ Keeps z t := by
  unfold execTs1
  refine ⟨_, rfl, ?_⟩
  with_reducible repeat' first | assumption | intro x | apply State.trainBlock_keeps | apply State.withPins_keeps

theorem execKrPull_keeps {x0} (h : Keeps z s) : ∃ t, execKrPull x0 s = .next t ∧ Keeps z t := by
  unfold execKrPull
  refine ⟨_, rfl, ?_⟩
  with_reducible repeat' first | assumption | intro x | apply State.custodyIn_keeps | apply State.withPins_keeps

theorem execEvrNextNewest_keeps {x0} (h : Keeps z s) : ∃ t, execEvrNextNewest x0 s = .next t ∧ Keeps z t := by
  unfold execEvrNextNewest
  refine ⟨_, rfl, ?_⟩
  with_reducible repeat' first | assumption | intro x | apply State.withPins_keeps | apply State.pageWrite_keeps

theorem execHeadLinkTrained_keeps {x0 x1 x2} (h : Keeps z s) : ∃ t, execHeadLinkTrained x0 x1 x2 s = .next t ∧ Keeps z t := by
  unfold execHeadLinkTrained
  refine ⟨_, rfl, ?_⟩
  with_reducible repeat' first | assumption | intro x | apply State.headTrained_keeps | apply State.withPins_keeps

theorem execPageFillDone_keeps {x0 x1} (h : Keeps z s) : ∃ t, execPageFillDone x0 x1 s = .next t ∧ Keeps z t := by
  unfold execPageFillDone
  refine ⟨_, rfl, ?_⟩
  with_reducible repeat' first | assumption | intro x | apply State.pageFill_keeps | apply State.withPins_keeps

theorem execMchGrpmodeCommit_keeps  (h : Keeps z s) : ∃ t, execMchGrpmodeCommit s = .next t ∧ Keeps z t := by
  refine ⟨_, rfl, Keeps.ite ?_ h⟩
  have e : s.commitModes.shadow = s.shadow := by
    unfold State.commitModes
    split
    · rfl
    · simp only [State.setReg]
      exact State.each_same State.shadow (fun t g => by split <;> rfl)
  exact (State.commitModes_keeps h).put id (fun i => Tab.sorted_del (e ▸ i)) id id id id id id id

theorem execEsqAckDue_keeps {x0} (h : Keeps z s) : ∃ t, execEsqAckDue x0 s = .next t ∧ Keeps z t := by
  unfold execEsqAckDue
  refine ⟨_, rfl, ?_⟩
  with_reducible repeat' first | assumption | apply State.sendRsp_keeps | apply Keeps.ite

theorem execIdentifyMemoryDevice_keeps {x0} (h : Keeps z s) : ∃ t, execIdentifyMemoryDevice x0 s = .next t ∧ Keeps z t := by
  unfold execIdentifyMemoryDevice
  refine ⟨_, rfl, ?_⟩
  with_reducible repeat' first | assumption | apply State.mboxGet_keeps

theorem execLorlekCompletions_keeps {x0} (h : Keeps z s) : ∃ t, execLorlekCompletions x0 s = .next t ∧ Keeps z t := by
  unfold execLorlekCompletions
  refine ⟨_, rfl, ?_⟩
  with_reducible repeat' first
    | assumption | intro x | apply State.mailbox_keeps | apply State.lorlekCpl_keeps | apply State.withPins_keeps

theorem execWrite_keeps {x0 x1 x2} (h : Keeps z s) : ∃ t, execWrite x0 x1 x2 s = .next t ∧ Keeps z t := by
  unfold execWrite
  refine ⟨_, rfl, ?_⟩
  with_reducible repeat' first
    | assumption | intro x | apply State.i3cWrite_keeps | apply State.withPins_keeps | apply State.drain_keeps

theorem execCxlMemWrite_keeps {x0 x1 x2 x3 x4 x5} (h : Keeps z s) : ∃ t, execCxlMemWrite x0 x1 x2 x3 x4 x5 s = .next t ∧ Keeps z t := by
  unfold execCxlMemWrite
  refine ⟨_, rfl, ?_⟩
  with_reducible repeat' first | assumption | intro x | apply State.cxlWrite_keeps | apply State.withPins_keeps

theorem execUnlockRead_keeps {x0} (h : Keeps z s) : ∃ t, execUnlockRead x0 s = .next t ∧ Keeps z t := by
  unfold execUnlockRead
  refine ⟨_, rfl, ?_⟩
  with_reducible repeat' first | assumption | intro x | apply State.withPins_keeps | apply State.pageWrite_keeps

theorem execSwitchCommitApplied_keeps {x0} (h : Keeps z s) : ∃ t, execSwitchCommitApplied x0 s = .next t ∧ Keeps z t := by
  unfold execSwitchCommitApplied
  refine ⟨_, rfl, ?_⟩
  with_reducible repeat' first
    | assumption | intro x | apply State.switchApplied_keeps | apply State.withPins_keeps | apply State.drain_keeps

theorem execKeyExchange_keeps {x0} (h : Keeps z s) : ∃ t, execKeyExchange x0 s = .next t ∧ Keeps z t := by
  unfold execKeyExchange
  refine ⟨_, rfl, ?_⟩
  with_reducible repeat' first | assumption | intro x | apply State.spdmDo_keeps | apply State.openSession_keeps

theorem execElectionSettleExpiry_keeps  (h : Keeps z s) : ∃ t, execElectionSettleExpiry s = .next t ∧ Keeps z t := by
  unfold execElectionSettleExpiry
  refine ⟨_, rfl, ?_⟩
  with_reducible repeat' first
    | assumption | intro x | apply State.electionSettled_keeps | apply State.withPins_keeps | apply State.drain_keeps
    | apply Keeps.ite

theorem execUnlockToken_keeps {x0 x1 x2} (h : Keeps z s) : ∃ t, execUnlockToken x0 x1 x2 s = .next t ∧ Keeps z t := by
  unfold execUnlockToken
  refine ⟨_, rfl, ?_⟩
  with_reducible repeat' first
    | assumption | intro x | apply State.unlockToken_keeps | apply State.withPins_keeps | apply State.drain_keeps

theorem execBarrier_keeps {x0 x1} (h : Keeps z s) : ∃ t, execBarrier x0 x1 s = .next t ∧ Keeps z t := by
  unfold execBarrier
  refine ⟨_, rfl, ?_⟩
  with_reducible repeat' first
    | assumption | intro x | apply State.msgIn_keeps | apply State.acceptReq_keeps | apply State.withPins_keeps

theorem execEraseFailure_keeps {x0} (h : Keeps z s) : ∃ t, execEraseFailure x0 s = .next t ∧ Keeps z t := by
  unfold execEraseFailure
  refine ⟨_, rfl, ?_⟩
  with_reducible repeat' first | assumption | intro x | apply State.withPins_keeps | apply State.eraseFailure_keeps

theorem execLineUpdateAckTimeout_keeps {x0} (h : Keeps z s) : ∃ t, execLineUpdateAckTimeout x0 s = .next t ∧ Keeps z t := by
  unfold execLineUpdateAckTimeout
  refine ⟨_, rfl, ?_⟩
  with_reducible repeat' first
    | assumption | intro x | apply State.updateTimeout_keeps | apply State.withPins_keeps | apply State.drain_keeps

theorem execProgramFailure_keeps {x0 x1} (h : Keeps z s) : ∃ t, execProgramFailure x0 x1 s = .next t ∧ Keeps z t := by
  unfold execProgramFailure
  refine ⟨_, rfl, ?_⟩
  with_reducible repeat' first | assumption | intro x | apply State.programFailure_keeps | apply State.withPins_keeps

theorem execPowerProfile_keeps {x0 x1 x2} (h : Keeps z s) : ∃ t, execPowerProfile x0 x1 x2 s = .next t ∧ Keeps z t := by
  unfold execPowerProfile
  refine ⟨_, rfl, ?_⟩
  with_reducible repeat' first | assumption | intro x | apply State.cmd_keeps | apply State.withPins_keeps

theorem execLagBoundReached_keeps {x0} (h : Keeps z s) : ∃ t, execLagBoundReached x0 s = .next t ∧ Keeps z t := by
  unfold execLagBoundReached
  refine ⟨_, rfl, ?_⟩
  with_reducible repeat' first | assumption | intro x | apply State.lagBound_keeps | apply State.withPins_keeps

theorem execRwVoidDurable_keeps {x0} (h : Keeps z s) : ∃ t, execRwVoidDurable x0 s = .next t ∧ Keeps z t := by
  unfold execRwVoidDurable
  refine ⟨_, rfl, ?_⟩
  with_reducible repeat' first | assumption | intro x | apply State.withPins_keeps | apply State.voidDurable_keeps

theorem execLocalServiceTimeout_keeps {x0 x1} (h : Keeps z s) : ∃ t, execLocalServiceTimeout x0 x1 s = .next t ∧ Keeps z t := by
  unfold execLocalServiceTimeout
  refine ⟨_, rfl, ?_⟩
  with_reducible repeat' first | assumption | intro x | apply State.serviceTimeout_keeps | apply State.withPins_keeps

theorem execSanitize_keeps {x0 x1} (h : Keeps z s) : ∃ t, execSanitize x0 x1 s = .next t ∧ Keeps z t := by
  unfold execSanitize
  refine ⟨_, rfl, ?_⟩
  with_reducible repeat' first | assumption | intro x | apply State.cmd_keeps | apply State.withPins_keeps

theorem execQuiesceDone_keeps {x0} (h : Keeps z s) : ∃ t, execQuiesceDone x0 s = .next t ∧ Keeps z t := by
  unfold execQuiesceDone
  refine ⟨_, rfl, ?_⟩
  with_reducible repeat' first | assumption | apply State.quiesce_keeps

theorem execClaimWindowExpiry_keeps  (h : Keeps z s) : ∃ t, execClaimWindowExpiry s = .next t ∧ Keeps z t := by
  unfold execClaimWindowExpiry
  refine ⟨_, rfl, ?_⟩
  with_reducible repeat' first
    | assumption | intro x | apply State.claimsEnd_keeps | apply State.withPins_keeps | apply State.drain_keeps

theorem execReformRelocateEnd_keeps  (h : Keeps z s) : ∃ t, execReformRelocateEnd s = .next t ∧ Keeps z t := by
  unfold execReformRelocateEnd
  refine ⟨_, rfl, ?_⟩
  with_reducible repeat' first
    | assumption | intro x | apply State.relocateEnded_keeps | apply State.withPins_keeps | apply State.drain_keeps

theorem execKeySlotReloadDone_keeps {x0} (h : Keeps z s) : ∃ t, execKeySlotReloadDone x0 s = .next t ∧ Keeps z t := by
  unfold execKeySlotReloadDone
  refine ⟨_, rfl, ?_⟩
  with_reducible repeat' first | assumption | intro x | apply State.slotReloaded_keeps | apply State.withPins_keeps

theorem execLsa_keeps {x0 x1} (h : Keeps z s) : ∃ t, execLsa x0 x1 s = .next t ∧ Keeps z t := by
  unfold execLsa
  refine ⟨_, rfl, ?_⟩
  with_reducible repeat' first
    | assumption | intro x | apply State.lsaIn_keeps | apply State.mgtIn_keeps | apply State.withPins_keeps | apply Keeps.ite

theorem execSetReadPassword_keeps {x0} (h : Keeps z s) : ∃ t, execSetReadPassword x0 s = .next t ∧ Keeps z t := by
  unfold execSetReadPassword
  refine ⟨_, rfl, ?_⟩
  with_reducible repeat' first | assumption | intro x | apply State.withPins_keeps | apply State.pageWrite_keeps

theorem execRwConf_keeps {x0} (h : Keeps z s) : ∃ t, execRwConf x0 s = .next t ∧ Keeps z t := by
  unfold execRwConf
  refine ⟨_, rfl, ?_⟩
  with_reducible repeat' first | assumption | intro x | apply State.custodyIn_keeps | apply State.withPins_keeps

theorem execVerifyEnd_keeps {x0 x1} (h : Keeps z s) : ∃ t, execVerifyEnd x0 x1 s = .next t ∧ Keeps z t := by
  unfold execVerifyEnd
  refine ⟨_, rfl, ?_⟩
  with_reducible repeat' first | assumption | intro x | apply State.verifyEnd_keeps | apply State.withPins_keeps

theorem execEvrCursorWrite_keeps {x0 x1} (h : Keeps z s) : ∃ t, execEvrCursorWrite x0 x1 s = .next t ∧ Keeps z t := by
  unfold execEvrCursorWrite
  refine ⟨_, rfl, ?_⟩
  with_reducible repeat' first | assumption | intro x | apply State.withPins_keeps | apply State.pageWrite_keeps

theorem execCagePresenceDeassert_keeps {x0} (h : Keeps z s) : ∃ t, execCagePresenceDeassert x0 s = .next t ∧ Keeps z t := by
  unfold execCagePresenceDeassert
  refine ⟨_, rfl, ?_⟩
  with_reducible repeat' first | assumption | intro x | apply State.withPins_keeps | apply State.cageGone_keeps

theorem execGetCapabilities_keeps {x0} (h : Keeps z s) : ∃ t, execGetCapabilities x0 s = .next t ∧ Keeps z t := by
  unfold execGetCapabilities
  refine ⟨_, rfl, ?_⟩
  with_reducible repeat' first | assumption | intro x | apply State.spdmDo_keeps | apply State.spdmRsp_keeps

theorem execKeyErase_keeps {x0 x1 x2} (h : Keeps z s) : ∃ t, execKeyErase x0 x1 x2 s = .next t ∧ Keeps z t := by
  unfold execKeyErase
  refine ⟨_, rfl, ?_⟩
  with_reducible repeat' first | assumption | intro x | apply State.cmd_keeps | apply State.withPins_keeps

theorem execSegEvacuate_keeps {x0 x1 x2} (h : Keeps z s) : ∃ t, execSegEvacuate x0 x1 x2 s = .next t ∧ Keeps z t := by
  unfold execSegEvacuate
  refine ⟨_, rfl, ?_⟩
  with_reducible repeat' first | assumption | intro x | apply State.cmd_keeps | apply State.withPins_keeps

theorem execEventSourceLatch_keeps  (h : Keeps z s) : ∃ t, execEventSourceLatch s = .next t ∧ Keeps z t := by
  unfold execEventSourceLatch
  refine ⟨_, rfl, ?_⟩
  with_reducible repeat' first
    | assumption | intro x | apply State.takeSources_keeps | apply State.withPins_keeps | apply State.drain_keeps

theorem execLineCheckDone_keeps {x0} (h : Keeps z s) : ∃ t, execLineCheckDone x0 s = .next t ∧ Keeps z t := by
  unfold execLineCheckDone
  refine ⟨_, rfl, ?_⟩
  with_reducible repeat' first | assumption | intro x | apply State.lineCheck_keeps | apply State.withPins_keeps | apply Keeps.ite

theorem execCrumbReadDone_keeps {x0 x1 x2} (h : Keeps z s) : ∃ t, execCrumbReadDone x0 x1 x2 s = .next t ∧ Keeps z t := by
  unfold execCrumbReadDone
  refine ⟨_, rfl, ?_⟩
  with_reducible repeat' first | assumption | intro x | apply State.crumbDone_keeps | apply State.withPins_keeps | apply Keeps.ite

theorem execMergeDrainAgeExpiry_keeps {x0} (h : Keeps z s) : ∃ t, execMergeDrainAgeExpiry x0 s = .next t ∧ Keeps z t := by
  unfold execMergeDrainAgeExpiry
  refine ⟨_, rfl, ?_⟩
  with_reducible repeat' first | assumption | apply State.drainMarks_keeps

theorem execLinkWake_keeps {x0} (h : Keeps z s) : ∃ t, execLinkWake x0 s = .next t ∧ Keeps z t := by
  unfold execLinkWake
  refine ⟨_, rfl, ?_⟩
  with_reducible repeat' first | assumption | intro x | apply State.mgtIn_keeps | apply State.wakeIn_keeps

theorem execPwrLogNext_keeps {x0} (h : Keeps z s) : ∃ t, execPwrLogNext x0 s = .next t ∧ Keeps z t := by
  unfold execPwrLogNext
  refine ⟨_, rfl, ?_⟩
  with_reducible repeat' first | assumption | intro x | apply State.withPins_keeps | apply State.pageWrite_keeps

theorem execCagePresenceAssert_keeps {x0} (h : Keeps z s) : ∃ t, execCagePresenceAssert x0 s = .next t ∧ Keeps z t := by
  refine ⟨_, rfl, ?_⟩
  split
  · rename_i e
    exact h.setCage fun i => Cage.legal_step (i.cage _) (by rw [e]; decide) (by decide)
  · exact h

theorem execClearAll_keeps {x0} (h : Keeps z s) : ∃ t, execClearAll x0 s = .next t ∧ Keeps z t := by
  unfold execClearAll
  refine ⟨_, rfl, ?_⟩
  with_reducible repeat' first | assumption | intro x | apply State.withPins_keeps | apply State.pageWrite_keeps

theorem execMgtCmdLastWrite_keeps {x0 x1} (h : Keeps z s) : ∃ t, execMgtCmdLastWrite x0 x1 s = .next t ∧ Keeps z t := by
  unfold execMgtCmdLastWrite
  refine ⟨_, rfl, ?_⟩
  with_reducible repeat' first | assumption | intro x | apply State.withPins_keeps | apply State.pageWrite_keeps

theorem execCableIdentityReadDone_keeps {x0 x1} (h : Keeps z s) : ∃ t, execCableIdentityReadDone x0 x1 s = .next t ∧ Keeps z t := by
  unfold execCableIdentityReadDone
  refine ⟨_, rfl, ?_⟩
  with_reducible repeat' first | assumption | intro x | apply State.settleCage_keeps | apply State.withPins_keeps

theorem execPrtCtlRetrain_keeps {x0 x1 x2} (h : Keeps z s) : ∃ t, execPrtCtlRetrain x0 x1 x2 s = .next t ∧ Keeps z t := by
  unfold execPrtCtlRetrain
  refine ⟨_, rfl, ?_⟩
  with_reducible repeat' first | assumption | intro x | apply State.withPins_keeps | apply State.pageWrite_keeps

theorem execSegMigrate_keeps {x0 x1 x2 x3} (h : Keeps z s) : ∃ t, execSegMigrate x0 x1 x2 x3 s = .next t ∧ Keeps z t := by
  unfold execSegMigrate
  refine ⟨_, rfl, ?_⟩
  with_reducible repeat' first | assumption | intro x | apply State.cmd_keeps | apply State.withPins_keeps

theorem execGetDcExtentList_keeps {x0} (h : Keeps z s) : ∃ t, execGetDcExtentList x0 s = .next t ∧ Keeps z t := by
  unfold execGetDcExtentList
  refine ⟨_, rfl, ?_⟩
  with_reducible repeat' first | assumption | apply State.mboxGet_keeps

theorem execFltInjWrite_keeps {x0 x1} (h : Keeps z s) : ∃ t, execFltInjWrite x0 x1 s = .next t ∧ Keeps z t := by
  unfold execFltInjWrite
  refine ⟨_, rfl, ?_⟩
  with_reducible repeat' first | assumption | intro x | apply State.withPins_keeps | apply State.pageWrite_keeps

theorem execDebugAccess_keeps {x0} (h : Keeps z s) : ∃ t, execDebugAccess x0 s = .next t ∧ Keeps z t := by
  unfold execDebugAccess
  refine ⟨_, rfl, ?_⟩
  with_reducible repeat' first | assumption | intro x | apply State.debugAccess_keeps | apply State.withPins_keeps

theorem execGetMctpVersionSupport_keeps  (h : Keeps z s) : ∃ t, execGetMctpVersionSupport s = .next t ∧ Keeps z t := by
  unfold execGetMctpVersionSupport
  refine ⟨_, rfl, ?_⟩
  with_reducible repeat' first | assumption | apply State.mctpDo_keeps

theorem execCheckpointWrite_keeps {x0} (h : Keeps z s) : ∃ t, execCheckpointWrite x0 s = .next t ∧ Keeps z t := by
  unfold execCheckpointWrite
  refine ⟨_, rfl, ?_⟩
  with_reducible repeat' first | assumption | intro x | apply State.checkpoint_keeps | apply State.withPins_keeps

theorem execFrameTransferDone_keeps {x0} (h : Keeps z s) : ∃ t, execFrameTransferDone x0 s = .next t ∧ Keeps z t := by
  unfold execFrameTransferDone
  refine ⟨_, rfl, ?_⟩
  with_reducible repeat' first | assumption | apply State.frameTransferred_keeps | apply State.walkRow_keeps

theorem execAdcScanRound_keeps {x0} (h : Keeps z s) : ∃ t, execAdcScanRound x0 s = .next t ∧ Keeps z t := by
  unfold execAdcScanRound
  refine ⟨_, rfl, ?_⟩
  with_reducible repeat' first | assumption | intro x | apply State.adcRound_keeps | apply State.withPins_keeps

theorem execIdeKmKSetStop_keeps {x0 x1 x2} (h : Keeps z s) : ∃ t, execIdeKmKSetStop x0 x1 x2 s = .next t ∧ Keeps z t := by
  unfold execIdeKmKSetStop
  refine ⟨_, rfl, ?_⟩
  with_reducible repeat' first | assumption | intro x | apply State.ideStop_keeps | apply State.ideDo_keeps

theorem execRdData_keeps {x0 x1 x2} (h : Keeps z s) : ∃ t, execRdData x0 x1 x2 s = .next t ∧ Keeps z t := by
  unfold execRdData
  refine ⟨_, rfl, ?_⟩
  with_reducible repeat' first
    | assumption | intro x | apply State.rspIn_keeps | apply State.rdData_keeps | apply State.withPins_keeps

theorem execRetry_keeps {x0} (h : Keeps z s) : ∃ t, execRetry x0 s = .next t ∧ Keeps z t := by
  unfold execRetry
  refine ⟨_, rfl, ?_⟩
  with_reducible repeat' first
    | assumption | intro x | apply State.retryRsp_keeps | apply State.msgIn_keeps | apply State.withPins_keeps

theorem execSetdasa_keeps {x0 x1} (h : Keeps z s) : ∃ t, execSetdasa x0 x1 s = .next t ∧ Keeps z t := by
  unfold execSetdasa
  refine ⟨_, rfl, ?_⟩
  with_reducible repeat' first | assumption | apply State.setdasa_keeps

theorem execPantryWrite_keeps {x0 x1 x2} (h : Keeps z s) : ∃ t, execPantryWrite x0 x1 x2 s = .next t ∧ Keeps z t := by
  unfold execPantryWrite
  refine ⟨_, rfl, ?_⟩
  with_reducible repeat' first | assumption | intro x | apply State.pantryWrite_keeps | apply State.withPins_keeps

theorem execGstReq_keeps {x0 x1} (h : Keeps z s) : ∃ t, execGstReq x0 x1 s = .next t ∧ Keeps z t := by
  unfold execGstReq
  refine ⟨_, rfl, ?_⟩
  with_reducible repeat' first | assumption | intro x | apply State.custodyIn_keeps | apply State.withPins_keeps

theorem execIdeKmKSetGo_keeps {x0 x1 x2} (h : Keeps z s) : ∃ t, execIdeKmKSetGo x0 x1 x2 s = .next t ∧ Keeps z t := by
  unfold execIdeKmKSetGo
  refine ⟨_, rfl, ?_⟩
  with_reducible repeat' first | assumption | intro x | apply State.ideDo_keeps | apply State.ideGo_keeps

theorem execRwMarker_keeps {x0 x1 x2} (h : Keeps z s) : ∃ t, execRwMarker x0 x1 x2 s = .next t ∧ Keeps z t := by
  unfold execRwMarker
  refine ⟨_, rfl, ?_⟩
  with_reducible repeat' first | assumption | intro x | apply State.custodyIn_keeps | apply State.withPins_keeps

theorem execRwDoneDurable_keeps {x0} (h : Keeps z s) : ∃ t, execRwDoneDurable x0 s = .next t ∧ Keeps z t := by
  unfold execRwDoneDurable
  refine ⟨_, rfl, ?_⟩
  with_reducible repeat' first | assumption | intro x | apply State.doneDurable_keeps | apply State.withPins_keeps

theorem execGetShutdownState_keeps {x0} (h : Keeps z s) : ∃ t, execGetShutdownState x0 s = .next t ∧ Keeps z t := by
  unfold execGetShutdownState
  refine ⟨_, rfl, ?_⟩
  with_reducible repeat' first | assumption | apply State.mboxGet_keeps

theorem execGetpid_keeps  (h : Keeps z s) : ∃ t, execGetpid s = .next t ∧ Keeps z t := by
  unfold execGetpid
  refine ⟨_, rfl, ?_⟩
  with_reducible repeat' first | assumption | apply State.cccGet_keeps

theorem execStartupImageLoadEnd_keeps  (h : Keeps z s) : ∃ t, execStartupImageLoadEnd s = .next t ∧ Keeps z t := by
  unfold execStartupImageLoadEnd
  refine ⟨_, rfl, ?_⟩
  with_reducible repeat' first
    | assumption | intro x | apply State.phaseEnd_keeps | apply State.mapLoadEnd_keeps | apply State.withPins_keeps
    | apply Keeps.ite | apply Keeps.id

theorem execEqualisationDone_keeps {x0} (h : Keeps z s) : ∃ t, execEqualisationDone x0 s = .next t ∧ Keeps z t := by
  unfold execEqualisationDone
  refine ⟨_, rfl, ?_⟩
  with_reducible repeat' first | assumption | intro x | apply State.withPins_keeps | apply State.eqDone_keeps

theorem execPwrLogCompatWrite_keeps {x0 x1} (h : Keeps z s) : ∃ t, execPwrLogCompatWrite x0 x1 s = .next t ∧ Keeps z t := by
  unfold execPwrLogCompatWrite
  refine ⟨_, rfl, ?_⟩
  with_reducible repeat' first | assumption | intro x | apply State.withPins_keeps | apply State.pageWrite_keeps

theorem execStripeIssue_keeps {x0} (h : Keeps z s) : ∃ t, execStripeIssue x0 s = .next t ∧ Keeps z t := by
  unfold execStripeIssue
  refine ⟨_, rfl, ?_⟩
  with_reducible repeat' first | assumption | intro x | apply State.withPins_keeps | apply State.issueStripe_keeps

theorem execTrickleExitTimeout_keeps {x0} (h : Keeps z s) : ∃ t, execTrickleExitTimeout x0 s = .next t ∧ Keeps z t := by
  unfold execTrickleExitTimeout
  refine ⟨_, rfl, ?_⟩
  with_reducible repeat' first | assumption | intro x | apply State.trickleExitTimeout_keeps | apply State.withPins_keeps

theorem execFabricDeliveryTimeout_keeps {x0} (h : Keeps z s) : ∃ t, execFabricDeliveryTimeout x0 s = .next t ∧ Keeps z t := by
  unfold execFabricDeliveryTimeout
  refine ⟨_, rfl, ?_⟩
  with_reducible repeat' first
    | assumption | intro x | apply State.deliveryTimeout_keeps | apply State.discardTimeout_keeps | apply State.withPins_keeps
    | apply State.drain_keeps

theorem execBlkData_keeps {x0 x1 x2 x3} (h : Keeps z s) : ∃ t, execBlkData x0 x1 x2 x3 s = .next t ∧ Keeps z t := by
  unfold execBlkData
  refine ⟨_, rfl, ?_⟩
  with_reducible repeat' first | assumption | intro x | apply State.custodyIn_keeps | apply State.withPins_keeps

theorem execKrTable_keeps {x0 x1 x2} (h : Keeps z s) : ∃ t, execKrTable x0 x1 x2 s = .next t ∧ Keeps z t := by
  unfold execKrTable
  refine ⟨_, rfl, ?_⟩
  with_reducible repeat' first | assumption | intro x | apply State.custodyIn_keeps | apply State.withPins_keeps

theorem execReplayTimerExpiry_keeps {x0} (h : Keeps z s) : ∃ t, execReplayTimerExpiry x0 s = .next t ∧ Keeps z t := by
  unfold execReplayTimerExpiry
  refine ⟨_, rfl, ?_⟩
  with_reducible repeat' first | assumption | intro x | apply State.replayTimer_keeps | apply State.withPins_keeps

theorem execReformDrainEnd_keeps  (h : Keeps z s) : ∃ t, execReformDrainEnd s = .next t ∧ Keeps z t := by
  unfold execReformDrainEnd
  refine ⟨_, rfl, ?_⟩
  with_reducible repeat' first | assumption | apply State.drainEnded_keeps | apply State.withPins_keeps

theorem execKxDone_keeps {x0} (h : Keeps z s) : ∃ t, execKxDone x0 s = .next t ∧ Keeps z t := by
  unfold execKxDone
  refine ⟨_, rfl, ?_⟩
  with_reducible repeat' first
    | assumption | intro x | apply State.kxDone_keeps | apply State.mgtIn_keeps | apply State.withPins_keeps

theorem execOrderlyFlushEnd_keeps  (h : Keeps z s) : ∃ t, execOrderlyFlushEnd s = .next t ∧ Keeps z t := by
  unfold execOrderlyFlushEnd
  refine ⟨_, rfl, ?_⟩
  with_reducible repeat' first | assumption | apply State.orderlyFlushEnd_keeps | apply State.withPins_keeps

theorem execEnthdr0_keeps  (h : Keeps z s) : ∃ t, execEnthdr0 s = .next t ∧ Keeps z t := by
  unfold execEnthdr0
  refine ⟨_, rfl, ?_⟩
  with_reducible repeat' first | assumption | apply State.ccc_keeps

theorem execStartupReplayEnd_keeps  (h : Keeps z s) : ∃ t, execStartupReplayEnd s = .next t ∧ Keeps z t := by
  unfold execStartupReplayEnd
  refine ⟨_, rfl, ?_⟩
  with_reducible repeat' first
    | assumption | intro x | apply State.phaseEnd_keeps | apply State.replayAll_keeps | apply State.fixAllRet_keeps
    | apply State.withPins_keeps

theorem execSetmwl_keeps {x0} (h : Keeps z s) : ∃ t, execSetmwl x0 s = .next t ∧ Keeps z t := by
  unfold execSetmwl
  refine ⟨_, rfl, ?_⟩
  with_reducible repeat' first | assumption | apply State.setmwl_keeps

theorem execLinkTrickle_keeps {x0 x1} (h : Keeps z s) : ∃ t, execLinkTrickle x0 x1 s = .next t ∧ Keeps z t := by
  unfold execLinkTrickle
  refine ⟨_, rfl, ?_⟩
  with_reducible repeat' first
    | assumption | intro x | apply State.mgtIn_keeps | apply State.trickleIn_keeps | apply State.withPins_keeps

theorem execSegBind_keeps {x0 x1 x2 x3} (h : Keeps z s) : ∃ t, execSegBind x0 x1 x2 x3 s = .next t ∧ Keeps z t := by
  unfold execSegBind
  refine ⟨_, rfl, ?_⟩
  with_reducible repeat' first | assumption | intro x | apply State.cmd_keeps | apply State.withPins_keeps

theorem execGetLog_keeps {x0} (h : Keeps z s) : ∃ t, execGetLog x0 s = .next t ∧ Keeps z t := by
  unfold execGetLog
  refine ⟨_, rfl, ?_⟩
  with_reducible repeat' first | assumption | apply State.mboxGet_keeps

theorem execRewindMark_keeps {x0 x1 x2} (h : Keeps z s) : ∃ t, execRewindMark x0 x1 x2 s = .next t ∧ Keeps z t := by
  unfold execRewindMark
  refine ⟨_, rfl, ?_⟩
  with_reducible repeat' first | assumption | intro x | apply State.cmd_keeps | apply State.withPins_keeps

theorem execPowerState_keeps {x0 x1 x2} (h : Keeps z s) : ∃ t, execPowerState x0 x1 x2 s = .next t ∧ Keeps z t := by
  unfold execPowerState
  refine ⟨_, rfl, ?_⟩
  with_reducible repeat' first | assumption | intro x | apply State.cmd_keeps | apply State.withPins_keeps

theorem execStartupJournalLocateEnd_keeps  (h : Keeps z s) : ∃ t, execStartupJournalLocateEnd s = .next t ∧ Keeps z t := by
  unfold execStartupJournalLocateEnd
  refine ⟨_, rfl, ?_⟩
  with_reducible repeat' first | assumption | intro x | apply State.phaseEnd_keeps | apply State.withPins_keeps | apply Keeps.id

theorem execPwrLogNewest_keeps {x0} (h : Keeps z s) : ∃ t, execPwrLogNewest x0 s = .next t ∧ Keeps z t := by
  unfold execPwrLogNewest
  refine ⟨_, rfl, ?_⟩
  with_reducible repeat' first | assumption | intro x | apply State.withPins_keeps | apply State.pageWrite_keeps

theorem execInvalidationDone_keeps {x0} (h : Keeps z s) : ∃ t, execInvalidationDone x0 s = .next t ∧ Keeps z t := by
  unfold execInvalidationDone
  refine ⟨_, rfl, ?_⟩
  with_reducible repeat' first | assumption | intro x | apply State.invDone_keeps | apply State.withPins_keeps

theorem execMchChDiefence_keeps {x0 x1 x2} (h : Keeps z s) : ∃ t, execMchChDiefence x0 x1 x2 s = .next t ∧ Keeps z t := by
  unfold execMchChDiefence
  refine ⟨_, rfl, ?_⟩
  with_reducible repeat' first | assumption | intro x | apply State.withPins_keeps | apply State.pageWrite_keeps

theorem execEsqAck_keeps {x0} (h : Keeps z s) : ∃ t, execEsqAck x0 s = .next t ∧ Keeps z t := by
  unfold execEsqAck
  refine ⟨_, rfl, ?_⟩
  with_reducible repeat' first
    | assumption | intro x | apply State.ackReqs_keeps | apply State.msgIn_keeps | apply State.withPins_keeps

theorem execRouteHolddownExpiry_keeps  (h : Keeps z s) : ∃ t, execRouteHolddownExpiry s = .next t ∧ Keeps z t := by
  unfold execRouteHolddownExpiry
  refine ⟨_, rfl, ?_⟩
  with_reducible repeat' first | assumption | apply State.withPins_keeps | apply State.recomputeRoutes_keeps

theorem execRegisterWrite_keeps {x0 x1 x2 x3} (h : Keeps z s) : ∃ t, execRegisterWrite x0 x1 x2 x3 s = .next t ∧ Keeps z t := by
  unfold execRegisterWrite
  refine ⟨_, rfl, ?_⟩
  with_reducible repeat' first | assumption | intro x | apply State.regWrite_keeps | apply State.withPins_keeps

theorem execRegionCommitQuiesceTimeout_keeps  (h : Keeps z s) : ∃ t, execRegionCommitQuiesceTimeout s = .next t ∧ Keeps z t := by
  unfold execRegionCommitQuiesceTimeout
  refine ⟨_, rfl, ?_⟩
  with_reducible repeat' first
    | assumption | intro x | apply State.commitAbandoned_keeps | apply State.withPins_keeps | apply State.drain_keeps

theorem execDriftSurveyStart_keeps  (h : Keeps z s) : ∃ t, execDriftSurveyStart s = .next t ∧ Keeps z t := by
  unfold execDriftSurveyStart
  refine ⟨_, rfl, ?_⟩
  with_reducible repeat' first | assumption | apply State.startSurvey_keeps | apply State.withPins_keeps

theorem execDevReqRepeat_keeps  (h : Keeps z s) : ∃ t, execDevReqRepeat s = .next t ∧ Keeps z t := by
  unfold execDevReqRepeat
  refine ⟨_, rfl, ?_⟩
  with_reducible repeat' first | assumption | apply State.devReqRepeat_keeps | apply Keeps.ite

theorem execFwuCtl_keeps {x0 x1 x2 x3} (h : Keeps z s) : ∃ t, execFwuCtl x0 x1 x2 x3 s = .next t ∧ Keeps z t := by
  unfold execFwuCtl
  refine ⟨_, rfl, ?_⟩
  with_reducible repeat' first | assumption | intro x | apply State.custodyIn_keeps | apply State.withPins_keeps

theorem execSettle_keeps  (h : Keeps z s) : ∃ t, execSettle s = .next t ∧ Keeps z t := by
  unfold execSettle
  refine ⟨_, rfl, ?_⟩
  with_reducible repeat' first | assumption | apply State.settle_keeps | apply State.withPins_keeps

theorem execFullRebuild_keeps  (h : Keeps z s) : ∃ t, execFullRebuild s = .next t ∧ Keeps z t := by
  unfold execFullRebuild
  refine ⟨_, rfl, ?_⟩
  with_reducible repeat' first
    | assumption | intro x | apply State.phaseEnd_keeps | apply State.rebuild_keeps | apply State.withPins_keeps

theorem execCtrlCommit_keeps {x0 x1} (h : Keeps z s) : ∃ t, execCtrlCommit x0 x1 s = .next t ∧ Keeps z t := by
  unfold execCtrlCommit
  refine ⟨_, rfl, ?_⟩
  with_reducible repeat' first | assumption | intro x | apply State.ctrlWrite_keeps | apply State.withPins_keeps

theorem execIdeFail_keeps {x0} (h : Keeps z s) : ∃ t, execIdeFail x0 s = .next t ∧ Keeps z t := by
  unfold execIdeFail
  refine ⟨_, rfl, ?_⟩
  with_reducible repeat' first
    | assumption | intro x | apply State.ideFail_keeps | apply State.withPins_keeps | apply State.drain_keeps

theorem execConsequentialWindowExpiry_keeps {x0 x1} (h : Keeps z s) : ∃ t, execConsequentialWindowExpiry x0 x1 s = .next t ∧ Keeps z t := by
  unfold execConsequentialWindowExpiry
  refine ⟨_, rfl, ?_⟩
  with_reducible repeat' first | assumption | apply State.closeWindow_keeps

theorem execRefreshInterval_keeps  (h : Keeps z s) : ∃ t, execRefreshInterval s = .next t ∧ Keeps z t := by
  unfold execRefreshInterval
  refine ⟨_, rfl, ?_⟩
  with_reducible repeat' first | assumption | apply State.refresh_keeps | apply Keeps.ite

theorem execSlcLcEnableWrite_keeps {x0 x1 x2} (h : Keeps z s) : ∃ t, execSlcLcEnableWrite x0 x1 x2 s = .next t ∧ Keeps z t := by
  unfold execSlcLcEnableWrite
  refine ⟨_, rfl, ?_⟩
  with_reducible repeat' first | assumption | intro x | apply State.withPins_keeps | apply State.pageWrite_keeps

theorem execHotJoinRepeat_keeps  (h : Keeps z s) : ∃ t, execHotJoinRepeat s = .next t ∧ Keeps z t := by
  unfold execHotJoinRepeat
  refine ⟨_, rfl, ?_⟩
  with_reducible repeat' first | assumption | apply State.hotJoin_keeps

theorem execJournalStripeProgrammed_keeps  (h : Keeps z s) : ∃ t, execJournalStripeProgrammed s = .next t ∧ Keeps z t := by
  unfold execJournalStripeProgrammed
  refine ⟨_, rfl, ?_⟩
  with_reducible repeat' first
    | assumption | intro x | apply State.rwCheck_keeps | apply State.recAcks_keeps | apply State.journalDone_keeps
    | apply State.withPins_keeps | apply State.dropsDurable_keeps | apply State.drain_keeps

theorem execPageAck_keeps {x0 x1} (h : Keeps z s) : ∃ t, execPageAck x0 x1 s = .next t ∧ Keeps z t := by
  unfold execPageAck
  refine ⟨_, rfl, ?_⟩
  with_reducible repeat' first | assumption | intro x | apply State.custodyIn_keeps | apply State.withPins_keeps

theorem execModeMoveEnd_keeps {x0} (h : Keeps z s) : ∃ t, execModeMoveEnd x0 s = .next t ∧ Keeps z t := by
  unfold execModeMoveEnd
  refine ⟨_, rfl, ?_⟩
  with_reducible repeat' first | assumption | apply State.modeMoveEnd_keeps

theorem execStartupBlockScanEnd_keeps  (h : Keeps z s) : ∃ t, execStartupBlockScanEnd s = .next t ∧ Keeps z t := by
  unfold execStartupBlockScanEnd
  refine ⟨_, rfl, ?_⟩
  with_reducible repeat' first
    | assumption | intro x | apply State.phaseEnd_keeps | apply State.learnParity_keeps | apply State.withPins_keeps

theorem execPllLockLoss_keeps  (h : Keeps z s) : ∃ t, execPllLockLoss s = .next t ∧ Keeps z t := by
  unfold execPllLockLoss
  refine ⟨_, rfl, ?_⟩
  with_reducible repeat' first | assumption | apply State.lockLoss_keeps

theorem execEvlogClear_keeps {x0 x1 x2} (h : Keeps z s) : ∃ t, execEvlogClear x0 x1 x2 s = .next t ∧ Keeps z t := by
  unfold execEvlogClear
  refine ⟨_, rfl, ?_⟩
  with_reducible repeat' first | assumption | intro x | apply State.cmd_keeps | apply State.withPins_keeps

theorem execEntdaa_keeps {x0} (h : Keeps z s) : ∃ t, execEntdaa x0 s = .next t ∧ Keeps z t := by
  unfold execEntdaa
  refine ⟨_, rfl, ?_⟩
  with_reducible repeat' first | assumption | apply State.entdaa_keeps

theorem execPatrolScrubPass_keeps  (h : Keeps z s) : ∃ t, execPatrolScrubPass s = .next t ∧ Keeps z t := by
  unfold execPatrolScrubPass
  refine ⟨_, rfl, ?_⟩
  with_reducible repeat' first | assumption | simp only [↓Keeps.rest_iff]

theorem execParamSave_keeps {x0 x1 x2} (h : Keeps z s) : ∃ t, execParamSave x0 x1 x2 s = .next t ∧ Keeps z t := by
  unfold execParamSave
  refine ⟨_, rfl, ?_⟩
  with_reducible repeat' first | assumption | intro x | apply State.cmd_keeps | apply State.withPins_keeps

theorem execDimmReread_keeps {x0} (h : Keeps z s) : ∃ t, execDimmReread x0 s = .next t ∧ Keeps z t := by
  unfold execDimmReread
  refine ⟨_, rfl, ?_⟩
  with_reducible repeat' first | assumption | intro x | apply State.dimmRereads_keeps | apply State.withPins_keeps

theorem execHoldMeas_keeps {x0 x1 x2} (h : Keeps z s) : ∃ t, execHoldMeas x0 x1 x2 s = .next t ∧ Keeps z t := by
  unfold execHoldMeas
  refine ⟨_, rfl, ?_⟩
  with_reducible repeat' first | assumption | intro x | apply State.holdMeas_keeps | apply State.withPins_keeps

theorem execSetEventInterruptPolicy_keeps {x0 x1} (h : Keeps z s) : ∃ t, execSetEventInterruptPolicy x0 x1 s = .next t ∧ Keeps z t := by
  unfold execSetEventInterruptPolicy
  refine ⟨_, rfl, ?_⟩
  with_reducible repeat' first
    | assumption | intro x | apply State.mailbox_keeps | apply State.mboxRsp_keeps | apply State.setHead_keeps

theorem execMapLookupDone_keeps {x0} (h : Keeps z s) : ∃ t, execMapLookupDone x0 s = .next t ∧ Keeps z t := by
  unfold execMapLookupDone
  refine ⟨_, rfl, ?_⟩
  with_reducible repeat' first | assumption | apply State.mapLookup_keeps

theorem execReformFreezeEnd_keeps  (h : Keeps z s) : ∃ t, execReformFreezeEnd s = .next t ∧ Keeps z t := by
  unfold execReformFreezeEnd
  refine ⟨_, rfl, ?_⟩
  with_reducible repeat' first | assumption | apply State.withPins_keeps | apply State.freezeEnded_keeps

theorem execDeepIdleWake_keeps  (h : Keeps z s) : ∃ t, execDeepIdleWake s = .next t ∧ Keeps z t := by
  unfold execDeepIdleWake
  refine ⟨_, rfl, ?_⟩
  with_reducible repeat' first
    | assumption | intro x | apply State.deepIdleWake_keeps | apply State.withPins_keeps | apply State.drain_keeps

theorem execRstdaa_keeps  (h : Keeps z s) : ∃ t, execRstdaa s = .next t ∧ Keeps z t := by
  unfold execRstdaa
  refine ⟨_, rfl, ?_⟩
  with_reducible repeat' first | assumption | apply State.rstdaa_keeps

theorem execRelocationProgrammed_keeps {x0} (h : Keeps z s) : ∃ t, execRelocationProgrammed x0 s = .next t ∧ Keeps z t := by
  unfold execRelocationProgrammed
  refine ⟨_, rfl, ?_⟩
  with_reducible repeat' first
    | assumption | intro x | apply State.tendJournal_keeps | apply State.relocDone_keeps | apply State.withPins_keeps
    | apply Keeps.ite | simp only [↓Keeps.rest_iff]

theorem execRewindMarkHoldEnd_keeps {x0} (h : Keeps z s) : ∃ t, execRewindMarkHoldEnd x0 s = .next t ∧ Keeps z t := by
  unfold execRewindMarkHoldEnd
  refine ⟨_, rfl, ?_⟩
  with_reducible repeat' first | assumption | apply State.markHoldEnd_keeps

theorem execSubsystemResetSve_keeps {x0} (h : Keeps z s) : ∃ t, execSubsystemResetSve x0 s = .next t ∧ Keeps z t := by
  unfold execSubsystemResetSve
  refine ⟨_, rfl, ?_⟩
  with_reducible repeat' first | assumption | intro x | apply State.withPins_keeps | apply State.pageWrite_keeps

theorem execSpillPageExpiry_keeps  (h : Keeps z s) : ∃ t, execSpillPageExpiry s = .next t ∧ Keeps z t := by
  unfold execSpillPageExpiry
  refine ⟨_, rfl, ?_⟩
  with_reducible repeat' first | assumption | apply State.programSpill_keeps

theorem execDramError_keeps {x0 x1} (h : Keeps z s) : ∃ t, execDramError x0 x1 s = .next t ∧ Keeps z t := by
  unfold execDramError
  refine ⟨_, rfl, ?_⟩
  with_reducible repeat' first | assumption | intro x | apply State.withPins_keeps | apply State.dramError_keeps

theorem execPwrLogcurWrite_keeps {x0 x1} (h : Keeps z s) : ∃ t, execPwrLogcurWrite x0 x1 s = .next t ∧ Keeps z t := by
  unfold execPwrLogcurWrite
  refine ⟨_, rfl, ?_⟩
  with_reducible repeat' first | assumption | intro x | apply State.withPins_keeps | apply State.pageWrite_keeps

theorem execCtrlReset_keeps {x0 x1} (h : Keeps z s) : ∃ t, execCtrlReset x0 x1 s = .next t ∧ Keeps z t := by
  unfold execCtrlReset
  refine ⟨_, rfl, ?_⟩
  with_reducible repeat' first | assumption | intro x | apply State.ctrlWrite_keeps | apply State.withPins_keeps

theorem execDrainQuietExpiry_keeps {x0} (h : Keeps z s) : ∃ t, execDrainQuietExpiry x0 s = .next t ∧ Keeps z t := by
  unfold execDrainQuietExpiry
  refine ⟨_, rfl, ?_⟩
  with_reducible repeat' first
    | assumption | intro x | apply State.withPins_keeps | apply State.drainEnd_keeps | apply State.drain_keeps

theorem execSegFree_keeps {x0 x1 x2} (h : Keeps z s) : ∃ t, execSegFree x0 x1 x2 s = .next t ∧ Keeps z t := by
  unfold execSegFree
  refine ⟨_, rfl, ?_⟩
  with_reducible repeat' first | assumption | intro x | apply State.cmd_keeps | apply State.withPins_keeps

theorem execPreloadDone_keeps {x0 x1} (h : Keeps z s) : ∃ t, execPreloadDone x0 x1 s = .next t ∧ Keeps z t := by
  unfold execPreloadDone
  refine ⟨_, rfl, ?_⟩
  with_reducible repeat' first | assumption | intro x | apply State.preloadDone_keeps | apply State.withPins_keeps

theorem execCompletionHoldExpiry_keeps {x0} (h : Keeps z s) : ∃ t, execCompletionHoldExpiry x0 s = .next t ∧ Keeps z t := by
  unfold execCompletionHoldExpiry
  refine ⟨_, rfl, ?_⟩
  with_reducible repeat' first | assumption | intro x | apply State.holdExpiry_keeps | apply State.withPins_keeps

theorem execAutoIdleEntry_keeps  (h : Keeps z s) : ∃ t, execAutoIdleEntry s = .next t ∧ Keeps z t := by
  unfold execAutoIdleEntry
  refine ⟨_, rfl, ?_⟩
  with_reducible repeat' first | assumption | apply State.autoIdle_keeps

theorem execFxbFabidCommit_keeps  (h : Keeps z s) : ∃ t, execFxbFabidCommit s = .next t ∧ Keeps z t := by
  unfold execFxbFabidCommit
  refine ⟨_, rfl, ?_⟩
  with_reducible repeat' first
    | assumption | intro x | apply State.commitShadow_keeps | apply State.withPins_keeps | apply State.retrain_keeps
    | apply Keeps.ite

theorem execSecondSourceReadDone_keeps {x0} (h : Keeps z s) : ∃ t, execSecondSourceReadDone x0 s = .next t ∧ Keeps z t := by
  unfold execSecondSourceReadDone
  refine ⟨_, rfl, ?_⟩
  with_reducible repeat' first
    | assumption | intro x | apply State.secondDone_keeps | apply State.withPins_keeps | apply Keeps.ite

theorem execCappedLoopTick_keeps {x0} (h : Keeps z s) : ∃ t, execCappedLoopTick x0 s = .next t ∧ Keeps z t := by
  unfold execCappedLoopTick
  refine ⟨_, rfl, ?_⟩
  with_reducible repeat' first | assumption | intro x | apply State.withPins_keeps | apply State.loopTick_keeps

theorem execInjectPoison_keeps {x0 x1} (h : Keeps z s) : ∃ t, execInjectPoison x0 x1 s = .next t ∧ Keeps z t := by
  unfold execInjectPoison
  refine ⟨_, rfl, ?_⟩
  with_reducible repeat' first
    | assumption | intro x | apply State.mailbox_keeps | apply State.withPins_keeps | apply State.poisonCmd_keeps

theorem execGstAck_keeps {x0 x1} (h : Keeps z s) : ∃ t, execGstAck x0 x1 s = .next t ∧ Keeps z t := by
  unfold execGstAck
  refine ⟨_, rfl, ?_⟩
  with_reducible repeat' first | assumption | intro x | apply State.custodyIn_keeps | apply State.withPins_keeps

theorem execGetstatus_keeps  (h : Keeps z s) : ∃ t, execGetstatus s = .next t ∧ Keeps z t := by
  unfold execGetstatus
  refine ⟨_, rfl, ?_⟩
  with_reducible repeat' first | assumption | apply State.getstatus_keeps

theorem execFlushShort_keeps  (h : Keeps z s) : ∃ t, execFlushShort s = .next t ∧ Keeps z t := by
  unfold execFlushShort
  refine ⟨_, rfl, ?_⟩
  with_reducible repeat' first | assumption | apply State.flushShort_keeps | apply State.withPins_keeps

theorem execSwitchReadyResend_keeps {x0} (h : Keeps z s) : ∃ t, execSwitchReadyResend x0 s = .next t ∧ Keeps z t := by
  unfold execSwitchReadyResend
  refine ⟨_, rfl, ?_⟩
  with_reducible repeat' first
    | assumption | intro x | apply State.withPins_keeps | apply State.switchResend_keeps | apply State.drain_keeps

theorem execCplPop_keeps  (h : Keeps z s) : ∃ t, execCplPop s = .next t ∧ Keeps z t := by
  unfold execCplPop
  refine ⟨_, rfl, ?_⟩
  with_reducible repeat' first | assumption | apply State.i3cPop_keeps | apply State.withPins_keeps

theorem execPasswordHoldExpiry_keeps  (h : Keeps z s) : ∃ t, execPasswordHoldExpiry s = .next t ∧ Keeps z t := by
  unfold execPasswordHoldExpiry
  refine ⟨_, rfl, ?_⟩
  with_reducible repeat' first | assumption | simp only [↓Keeps.rest_iff]

theorem execReferenceFailure_keeps  (h : Keeps z s) : ∃ t, execReferenceFailure s = .next t ∧ Keeps z t := by
  unfold execReferenceFailure
  refine ⟨_, rfl, ?_⟩
  with_reducible repeat' first | assumption | apply State.refFail_keeps | apply State.withPins_keeps

theorem execSetEndpointId_keeps {x0} (h : Keeps z s) : ∃ t, execSetEndpointId x0 s = .next t ∧ Keeps z t := by
  unfold execSetEndpointId
  refine ⟨_, rfl, ?_⟩
  with_reducible repeat' first | assumption | apply State.setEid_keeps

theorem execPantryRecall_keeps  (h : Keeps z s) : ∃ t, execPantryRecall s = .next t ∧ Keeps z t := by
  unfold execPantryRecall
  refine ⟨_, rfl, ?_⟩
  with_reducible repeat' first | assumption | intro x | apply State.reconcile_keeps | apply State.withPins_keeps | apply Keeps.ite

theorem execHeartbeat_keeps {x0 x1} (h : Keeps z s) : ∃ t, execHeartbeat x0 x1 s = .next t ∧ Keeps z t := by
  unfold execHeartbeat
  refine ⟨_, rfl, ?_⟩
  with_reducible repeat' first | assumption | intro x | apply State.spdmDo_keeps | apply State.within_keeps | apply Keeps.id

theorem execDtcChReadmit_keeps {x0 x1} (h : Keeps z s) : ∃ t, execDtcChReadmit x0 x1 s = .next t ∧ Keeps z t := by
  unfold execDtcChReadmit
  refine ⟨_, rfl, ?_⟩
  with_reducible repeat' first | assumption | intro x | apply State.withPins_keeps | apply State.pageWrite_keeps

theorem execSubsystemResetPrt_keeps {x0} (h : Keeps z s) : ∃ t, execSubsystemResetPrt x0 s = .next t ∧ Keeps z t := by
  unfold execSubsystemResetPrt
  refine ⟨_, rfl, ?_⟩
  with_reducible repeat' first | assumption | intro x | apply State.withPins_keeps | apply State.pageWrite_keeps

theorem execMirrorConfirmTimeout_keeps {x0} (h : Keeps z s) : ∃ t, execMirrorConfirmTimeout x0 s = .next t ∧ Keeps z t := by
  unfold execMirrorConfirmTimeout
  refine ⟨_, rfl, ?_⟩
  with_reducible repeat' first
    | assumption | intro x | apply State.breakPair_keeps | apply State.rwConfirmTimeout_keeps | apply State.each_keeps
    | apply State.withPins_keeps | apply State.drain_keeps | apply Keeps.ite

theorem execFunctionLevelReset_keeps {x0} (h : Keeps z s) : ∃ t, execFunctionLevelReset x0 s = .next t ∧ Keeps z t := by
  unfold execFunctionLevelReset
  refine ⟨_, rfl, ?_⟩
  with_reducible repeat' first
    | assumption | intro x | apply State.flrHead_keeps | apply State.withPins_keeps | apply State.drain_keeps

theorem execGpfTimeout_keeps {x0} (h : Keeps z s) : ∃ t, execGpfTimeout x0 s = .next t ∧ Keeps z t := by
  unfold execGpfTimeout
  refine ⟨_, rfl, ?_⟩
  with_reducible repeat' first | assumption | intro x | apply State.withPins_keeps | apply State.gpfTimeout_keeps

theorem execGetEndpointUuid_keeps  (h : Keeps z s) : ∃ t, execGetEndpointUuid s = .next t ∧ Keeps z t := by
  unfold execGetEndpointUuid
  refine ⟨_, rfl, ?_⟩
  with_reducible repeat' first | assumption | apply State.mctpDo_keeps

theorem execParamDefault_keeps {x0 x1 x2} (h : Keeps z s) : ∃ t, execParamDefault x0 x1 x2 s = .next t ∧ Keeps z t := by
  unfold execParamDefault
  refine ⟨_, rfl, ?_⟩
  with_reducible repeat' first | assumption | intro x | apply State.cmd_keeps | apply State.withPins_keeps

theorem execJournalFlushExpiry_keeps  (h : Keeps z s) : ∃ t, execJournalFlushExpiry s = .next t ∧ Keeps z t := by
  unfold execJournalFlushExpiry
  refine ⟨_, rfl, ?_⟩
  with_reducible repeat' first | assumption | apply State.closeJournal_keeps | apply State.withPins_keeps

theorem execPrivateRead_keeps {x0} (h : Keeps z s) : ∃ t, execPrivateRead x0 s = .next t ∧ Keeps z t := by
  unfold execPrivateRead
  refine ⟨_, rfl, ?_⟩
  with_reducible repeat' first | assumption | intro x | apply State.privateRead_keeps | apply State.withPins_keeps

theorem execGstUpd_keeps {x0 x1 x2 x3} (h : Keeps z s) : ∃ t, execGstUpd x0 x1 x2 x3 s = .next t ∧ Keeps z t := by
  unfold execGstUpd
  refine ⟨_, rfl, ?_⟩
  with_reducible repeat' first
    | assumption | intro x | apply State.gstUpdate_keeps | apply State.withPins_keeps | apply State.drain_keeps

theorem execHello_keeps {x0 x1} (h : Keeps z s) : ∃ t, execHello x0 x1 s = .next t ∧ Keeps z t := by
  unfold execHello
  refine ⟨_, rfl, ?_⟩
  with_reducible repeat' first
    | assumption | intro x | apply State.mgtIn_keeps | apply State.withPins_keeps | apply State.hello_keeps

theorem execGetHealthInfo_keeps {x0} (h : Keeps z s) : ∃ t, execGetHealthInfo x0 s = .next t ∧ Keeps z t := by
  unfold execGetHealthInfo
  refine ⟨_, rfl, ?_⟩
  with_reducible repeat' first | assumption | apply State.mboxGet_keeps

theorem execSetShutdownState_keeps {x0 x1} (h : Keeps z s) : ∃ t, execSetShutdownState x0 x1 s = .next t ∧ Keeps z t := by
  unfold execSetShutdownState
  refine ⟨_, rfl, ?_⟩
  with_reducible repeat' first
    | assumption | intro x | apply State.mailbox_keeps | apply State.withPins_keeps | apply State.setShutdown_keeps

theorem execSequencerStepTimeout_keeps {x0} (h : Keeps z s) : ∃ t, execSequencerStepTimeout x0 s = .next t ∧ Keeps z t := by
  unfold execSequencerStepTimeout
  refine ⟨_, rfl, ?_⟩
  with_reducible repeat' first | assumption | intro x | apply State.withPins_keeps | apply State.stepTimeout_keeps

/-- What the three that write the clocks keep: the waiting commands, the outputs before, the invariant. -/
structure Grows (s t : State) : Prop where
  pending : t.pending = s.pending
  out : s.out <+: t.out
  inv : s.Inv → t.Inv

theorem Keeps.grows (h : Keeps z s) : Grows z s := ⟨h.pending, h.out, h.inv⟩

theorem Grows.trans {a b c : State} (h : Grows a b) (g : Grows b c) : Grows a c :=
  ⟨g.pending.trans h.pending, h.out.trans g.out, fun i => g.inv (h.inv i)⟩

theorem State.Inv.clocks {t : BitVec 64} {m n : Nat} (i : s.Inv) (hn : n < 1000000) : State.Inv { s with time := t, opMs := m, opNs := n } := by
  obtain ⟨i1, i2, i3⟩ := i
  refine ⟨i1, ?_, i3⟩
  simp only [State.countsOk, Bool.and_eq_true, decide_eq_true_eq] at i2 ⊢
  exact ⟨i2.1, hn⟩

/-- The counters taken at recall (R605): operating time is set once, module time is left. -/
theorem State.takeCounters_grows (s : State) : Grows s s.takeCounters ∧ s.takeCounters.time = s.time := by
  have h1 : Keeps s (s.setRing 0 (s.ring 0 + 1)) := State.setRing_keeps (Keeps.refl s)
  have key : ∀ t : State, Keeps s t →
      Grows s (if t.pwr.opSet then t else { t with opMs := s.recalled 1 * 1000, opNs := 0, pwr := { t.pwr with opSet := true } }) ∧
      (if t.pwr.opSet then t else { t with opMs := s.recalled 1 * 1000, opNs := 0, pwr := { t.pwr with opSet := true } }).time = s.time := by
    intro t h
    split
    · exact ⟨h.grows, h.time⟩
    · have k : Keeps s { t with pwr := { t.pwr with opSet := true } } := Keeps.restPwr h (.inl rfl) (.inl rfl)
      refine ⟨⟨h.pending, h.out, fun i => ?_⟩, h.time⟩
      have j := State.Inv.clocks (t := t.time) (m := s.recalled 1 * 1000) (n := 0) (k.inv i) (by omega)
      exact j
  obtain ⟨g, e⟩ := key _ h1
  exact ⟨⟨g.pending, g.out, g.inv⟩, e⟩

/-- RECALL_DONE keeps all but operating time (R537, R605). -/
theorem execRecallDone_grows (a b : Bool) (s : State) : ∃ t, execRecallDone a b s = .next t ∧ Grows s t ∧ t.time = s.time := by
  refine ⟨_, rfl, ?_⟩
  suffices h : ∀ u, s.recallDone a b = u → Grows s u ∧ u.time = s.time from
    have k : Keeps (s.recallDone a b) ((s.recallDone a b).pinIbis s.levels) := State.pinIbis_keeps (Keeps.refl _)
    ⟨(h _ rfl).1.trans k.grows, k.time.trans (h _ rfl).2⟩
  intro u hu
  unfold State.recallDone at hu
  split at hu
  · subst hu
    exact ⟨(Keeps.refl s).grows, rfl⟩
  · extract_lets src s1 s2 s3 s4 s5 at hu
    have h1 : Keeps s s1 := (Keeps.refl s).rest
    have h3 : Keeps s s3 := State.when__keeps (fun _ h => State.failPart_keeps h) (State.when__keeps (fun _ h => State.failPart_keeps h) h1)
    obtain ⟨g, e⟩ := State.takeCounters_grows s3
    have h4 : Keeps s3.takeCounters s4 :=
      State.restoreFlush_keeps (State.startCores_keeps (State.takeKeys_keeps (State.takeParams_keeps (State.copyLate_keeps (Keeps.refl _)))))
    have h5 : Keeps s3.takeCounters s5 := State.raise_keeps h4
    have h6 : Keeps s3.takeCounters u := hu ▸ h5.each fun _ _ h => State.startCage_keeps h
    exact ⟨h3.grows.trans (g.trans h6.grows), h6.time.trans (e.trans h3.time)⟩

/-- AON_RESET restarts the clocks (R502, R573). -/
theorem execAonReset_grows (straps : BitVec 2) (s : State) :
    ∃ t, execAonReset straps s = .next t ∧ Grows s t ∧ t.time = 0 ∧ t.opMs = 0 ∧ t.opNs = 0 := by
  refine ⟨_, rfl, ?_⟩
  have k : Keeps (s.aonReset straps) ((s.aonReset straps).pinIbis s.levels) := State.pinIbis_keeps (Keeps.refl _)
  have h : Keeps s (s.cold false) := State.cold_keeps (Keeps.refl s)
  have g : Grows s (s.aonReset straps) := by
    unfold State.aonReset
    refine ⟨h.pending, h.out.trans (List.prefix_append _ _), fun i => ?_⟩
    obtain ⟨i1, i2, _⟩ := h.inv i
    simp only [State.tablesOk, Bool.and_eq_true] at i1
    simp only [State.countsOk, Bool.and_eq_true] at i2
    obtain ⟨⟨⟨⟨⟨⟨⟨_, j2⟩, j3⟩, j4⟩, j5⟩, _⟩, j7⟩, j8⟩ := i1
    refine ⟨?_, ?_, rfl⟩
    · simp only [State.tablesOk, Bool.and_eq_true]
      exact ⟨⟨⟨⟨⟨⟨⟨rfl, j2⟩, j3⟩, j4⟩, j5⟩, rfl⟩, j7⟩, j8⟩
    · simp only [State.countsOk, Bool.and_eq_true]
      exact ⟨i2.1, rfl⟩
  exact ⟨g.trans k.grows, k.time, k.opMs, k.opNs⟩

/-- An AON cycle keeps all but the clocks (R502, R605). -/
theorem State.tick_grows (s : State) : Grows s s.tick := by
  have h1 : Grows s { s with time := s.time + 40 } := ⟨rfl, List.prefix_rfl, fun i => ⟨i.1, i.2.1, i.2.2⟩⟩
  have h2 : Grows s { s with time := s.time + 40, opMs := s.opMs + (s.opNs + 40) / 1000000, opNs := (s.opNs + 40) % 1000000 } :=
    ⟨rfl, List.prefix_rfl, fun i => i.clocks (by omega)⟩
  unfold State.tick
  have key : ∀ t : State, Grows s t → Grows s (if t.pwr.locked && t.pwr.refOk then t.each allPages State.tickPage else t) := by
    intro t h
    split
    · exact h.trans ((Keeps.refl t).each fun _ _ k => State.tickPage_keeps k).grows
    · exact h
  refine key _ ?_
  dsimp only
  split
  · exact h2
  · exact h1

end Sys2Proof.Machine
end

