-- ==== Sys2Proof/Laws/Fabric.lean ====
section
/-! SUPPORT. Laws of messages that arrive: what is done with one that is addressed to this module, and what each custody message does. -/

namespace Sys2Proof.Machine

open Sys2Proof

variable (s : State) (r : Routing)

/-- The credit of a message changes nothing but its port. -/
@[simp] theorem State.credited_pages (m : Msg) : (s.credited r m).pages = s.pages := rfl
@[simp] theorem State.credited_halted (m : Msg) (p : Nat) : (s.credited r m).halted p = s.halted p := rfl

/-- A message to this module is handled once its credit is owed (R341, R359). -/
theorem State.msgIn_here (m : Msg) (f : State → State) (h : s.here r = true) : s.msgIn r m f = f (s.credited r m) := by
  simp only [State.here, Bool.and_eq_true, beq_iff_eq] at h
  show (if !(s.port r.port.val).carries then s else if decide (r.dst = s.fxb.devnum) && s.fxb.devnum != 0 then f (s.credited r m) else _) = _
  rw [h.1.1, h.2, decide_eq_true h.1.2]
  rfl

/-- A response to this module is handled once its credit and its acknowledgement are taken (R345). -/
theorem State.rspIn_here (m : Msg) (f : State → State) (h : s.here r = true) : s.rspIn r m f = f (s.acked r m) := by
  rw [State.rspIn, State.msgIn_here s r m _ h]
  rfl

/-- A custody message to this module is taken up while the service engine runs (R401, R485). -/
theorem State.custodyIn_here (m : Msg) (h : s.here r = true) (hh : s.halted 0x200 = false) :
    s.custodyIn r m = ((s.credited r m).custodyMsg r m).drain := by
  rw [State.custodyIn, State.msgIn_here s r m _ h]
  simp only [State.credited_halted, hh]
  rfl

/-! ### What each custody message does (R401) -/

@[simp] theorem State.custodyMsg_gstRsp (gsn : Gsn) (o : Dev) (h : Word) : s.custodyMsg r (.gstRsp gsn o h) = s.gstResponse r gsn o h := rfl
@[simp] theorem State.custodyMsg_gstAck (v : BitVec 64) : s.custodyMsg r (.gstAck v) = s.gstAcked r.src v.toNat := rfl
theorem State.custodyMsg_gstSync (f : Gsn) (n : BitVec 27) (v : BitVec 64) :
    s.custodyMsg r (.gstSync f n v) = if n = 0 then s.claimsAsked r v else s.syncRows r.src f n v.toNat := rfl
@[simp] theorem State.custodyMsg_gstClaim (c : Claim) : s.custodyMsg r (.gstClaim c) = s.claimIn r.src c := rfl
@[simp] theorem State.custodyMsg_blkData (a : LineAddr) (l : List SLine) (d : Dev) :
    s.custodyMsg r (.blkData a l d) = s.blkIn r a l d := rfl
@[simp] theorem State.custodyMsg_pageCtl (p : BitVec 44) (k : BitVec 2) : s.custodyMsg r (.pageCtl p k) = s.pageCtlIn r p k.toNat := rfl
@[simp] theorem State.custodyMsg_pageAck (p : BitVec 44) : s.custodyMsg r (.pageAck p) = s.pageAcked p.toNat r.status := rfl
@[simp] theorem State.custodyMsg_lineAck (a : LineAddr) : s.custodyMsg r (.lineAck a) = s.lineAcked a r.status := rfl
@[simp] theorem State.custodyMsg_copyEnd (k : BitVec 2) : s.custodyMsg r (.copyEnd k) = s := rfl
@[simp] theorem State.custodyMsg_rwMarker (g : Byte) (e : BitVec 16) :
    s.custodyMsg r (.rwMarker g e) = s.holderMark r.src r.tag g e := rfl
@[simp] theorem State.custodyMsg_rwFwd (op : BitVec 2) (g : Byte) (e : BitVec 16) :
    s.custodyMsg r (.rwFwd op g e) = s.holderFwd r.src r.tag op.toNat g e := rfl
@[simp] theorem State.custodyMsg_rwConf : s.custodyMsg r .rwConf = s.rwConfirm r.src r.tag r.status := rfl
@[simp] theorem State.custodyMsg_fwChunk (o v : Word) (b : List Byte) : s.custodyMsg r (.fwChunk o v b) = s.fwChunkIn r.src o v b := rfl
@[simp] theorem State.custodyMsg_fwuCtl (k : BitVec 4) (v l : Word) : s.custodyMsg r (.fwuCtl k v l) = s.fwuCtl r.src k.toNat v l := rfl
@[simp] theorem State.custodyMsg_fwuDone (a : Bool) : s.custodyMsg r (.fwuDone a) = s.fwuDone r.src r.status a := rfl
@[simp] theorem State.custodyMsg_krTable (v : Word) (b : List (BitVec 27)) : s.custodyMsg r (.krTable v b) = s.krTableIn r.src v b := rfl
@[simp] theorem State.custodyMsg_krPush (n : Nat) (g : BitVec 16) (e : Bool) (k : Option KeySet) :
    s.custodyMsg r (.krPush n g e k) = s.krPushIn r.src n g e k := rfl
@[simp] theorem State.custodyMsg_krAck (n : Nat) (g : BitVec 16) :
    s.custodyMsg r (.krAck n g) = s.krAck r.src (bitAt r.xinfo 0) n g r.status := rfl
@[simp] theorem State.custodyMsg_krPull : s.custodyMsg r .krPull = s.krPull r.src := rfl

/-- A request that the custodian makes of this module (XINFO[0], log 32). -/
theorem State.custodyMsg_order (g : GstReq) (h : bitAt r.xinfo 0 = true) : s.custodyMsg r (.gstReq g) = s.moduleReq r.src g := by
  show (if bitAt r.xinfo 0 then _ else _) = _
  rw [h]; rfl

/-- A request to the custodian. -/
theorem State.custodyMsg_ask (g : GstReq) (h : bitAt r.xinfo 0 = false) (h6 : g.op ≠ 6) :
    s.custodyMsg r (.gstReq g) = s.custodyReq r.src g := by
  show (if bitAt r.xinfo 0 then _ else if g.op == 6 && _ then _ else _) = _
  rw [h, beq_false_of_ne h6]
  rfl

/-- Switch-ready at the target. -/
theorem State.custodyMsg_switch (g : GstReq) (h : bitAt r.xinfo 0 = false) (h6 : g.op = 6) (hr : s.fxb.role ≠ 1) :
    s.custodyMsg r (.gstReq g) = s.switchAsked r.src g.gsn := by
  show (if bitAt r.xinfo 0 then _ else if g.op == 6 && (s.fxb.role != 1 || _) then _ else _) = _
  rw [h, beq_iff_eq.mpr h6, bne_iff_ne.mpr hr]
  rfl

end Sys2Proof.Machine
end

