-- ==== Sys2Proof/Laws/State.lean ====
section
/-! SUPPORT. Laws of the state: what each named operation leaves alone, one lemma per field, and that a read after a write gives what was
written. -/

namespace Sys2Proof.Machine.State

open Sys2Proof

/-! ### Choices -/

@[simp] theorem ite_pending (c : Prop) [Decidable c] (a b : State) : (if c then a else b).pending = if c then a.pending else b.pending := by split <;> rfl
@[simp] theorem ite_out (c : Prop) [Decidable c] (a b : State) : (if c then a else b).out = if c then a.out else b.out := by split <;> rfl
@[simp] theorem ite_free (c : Prop) [Decidable c] (a b : State) : (if c then a else b).free = if c then a.free else b.free := by split <;> rfl
@[simp] theorem ite_time (c : Prop) [Decidable c] (a b : State) : (if c then a else b).time = if c then a.time else b.time := by split <;> rfl
@[simp] theorem ite_opMs (c : Prop) [Decidable c] (a b : State) : (if c then a else b).opMs = if c then a.opMs else b.opMs := by split <;> rfl
@[simp] theorem ite_opNs (c : Prop) [Decidable c] (a b : State) : (if c then a else b).opNs = if c then a.opNs else b.opNs := by split <;> rfl
@[simp] theorem ite_regs (c : Prop) [Decidable c] (a b : State) : (if c then a else b).regs = if c then a.regs else b.regs := by split <;> rfl
@[simp] theorem ite_shadow (c : Prop) [Decidable c] (a b : State) : (if c then a else b).shadow = if c then a.shadow else b.shadow := by split <;> rfl
@[simp] theorem ite_hold (c : Prop) [Decidable c] (a b : State) : (if c then a else b).hold = if c then a.hold else b.hold := by split <;> rfl
@[simp] theorem ite_perf (c : Prop) [Decidable c] (a b : State) : (if c then a else b).perf = if c then a.perf else b.perf := by split <;> rfl
@[simp] theorem ite_cyc (c : Prop) [Decidable c] (a b : State) : (if c then a else b).cyc = if c then a.cyc else b.cyc := by split <;> rfl
@[simp] theorem ite_freezeAll (c : Prop) [Decidable c] (a b : State) : (if c then a else b).freezeAll = if c then a.freezeAll else b.freezeAll := by split <;> rfl
@[simp] theorem ite_pages (c : Prop) [Decidable c] (a b : State) : (if c then a else b).pages = if c then a.pages else b.pages := by split <;> rfl
@[simp] theorem ite_mgt (c : Prop) [Decidable c] (a b : State) : (if c then a else b).mgt = if c then a.mgt else b.mgt := by split <;> rfl
@[simp] theorem ite_flt (c : Prop) [Decidable c] (a b : State) : (if c then a else b).flt = if c then a.flt else b.flt := by split <;> rfl
@[simp] theorem ite_pan (c : Prop) [Decidable c] (a b : State) : (if c then a else b).pan = if c then a.pan else b.pan := by split <;> rfl
@[simp] theorem ite_pwr (c : Prop) [Decidable c] (a b : State) : (if c then a else b).pwr = if c then a.pwr else b.pwr := by split <;> rfl
@[simp] theorem ite_thm (c : Prop) [Decidable c] (a b : State) : (if c then a else b).thm = if c then a.thm else b.thm := by split <;> rfl
@[simp] theorem ite_crs (c : Prop) [Decidable c] (a b : State) : (if c then a else b).crs = if c then a.crs else b.crs := by split <;> rfl
@[simp] theorem ite_slices (c : Prop) [Decidable c] (a b : State) : (if c then a else b).slices = if c then a.slices else b.slices := by split <;> rfl
@[simp] theorem ite_dtc (c : Prop) [Decidable c] (a b : State) : (if c then a else b).dtc = if c then a.dtc else b.dtc := by split <;> rfl
@[simp] theorem ite_mch (c : Prop) [Decidable c] (a b : State) : (if c then a else b).mch = if c then a.mch else b.mch := by split <;> rfl
@[simp] theorem ite_mte (c : Prop) [Decidable c] (a b : State) : (if c then a else b).mte = if c then a.mte else b.mte := by split <;> rfl
@[simp] theorem ite_cages (c : Prop) [Decidable c] (a b : State) : (if c then a else b).cages = if c then a.cages else b.cages := by split <;> rfl
@[simp] theorem ite_ports (c : Prop) [Decidable c] (a b : State) : (if c then a else b).ports = if c then a.ports else b.ports := by split <;> rfl
@[simp] theorem ite_fxb (c : Prop) [Decidable c] (a b : State) : (if c then a else b).fxb = if c then a.fxb else b.fxb := by split <;> rfl
@[simp] theorem ite_heads (c : Prop) [Decidable c] (a b : State) : (if c then a else b).heads = if c then a.heads else b.heads := by split <;> rfl
@[simp] theorem ite_sve (c : Prop) [Decidable c] (a b : State) : (if c then a else b).sve = if c then a.sve else b.sve := by split <;> rfl

/-! ### setSlice -/

@[simp] theorem setSlice_pending (s : State) (i x) : (s.setSlice i x).pending = s.pending := rfl
@[simp] theorem setSlice_out (s : State) (i x) : (s.setSlice i x).out = s.out := rfl
@[simp] theorem setSlice_free (s : State) (i x) : (s.setSlice i x).free = s.free := rfl
@[simp] theorem setSlice_time (s : State) (i x) : (s.setSlice i x).time = s.time := rfl
@[simp] theorem setSlice_opMs (s : State) (i x) : (s.setSlice i x).opMs = s.opMs := rfl
@[simp] theorem setSlice_opNs (s : State) (i x) : (s.setSlice i x).opNs = s.opNs := rfl
@[simp] theorem setSlice_regs (s : State) (i x) : (s.setSlice i x).regs = s.regs := rfl
@[simp] theorem setSlice_shadow (s : State) (i x) : (s.setSlice i x).shadow = s.shadow := rfl
@[simp] theorem setSlice_hold (s : State) (i x) : (s.setSlice i x).hold = s.hold := rfl
@[simp] theorem setSlice_perf (s : State) (i x) : (s.setSlice i x).perf = s.perf := rfl
@[simp] theorem setSlice_cyc (s : State) (i x) : (s.setSlice i x).cyc = s.cyc := rfl
@[simp] theorem setSlice_freezeAll (s : State) (i x) : (s.setSlice i x).freezeAll = s.freezeAll := rfl
@[simp] theorem setSlice_pages (s : State) (i x) : (s.setSlice i x).pages = s.pages := rfl
@[simp] theorem setSlice_mgt (s : State) (i x) : (s.setSlice i x).mgt = s.mgt := rfl
@[simp] theorem setSlice_flt (s : State) (i x) : (s.setSlice i x).flt = s.flt := rfl
@[simp] theorem setSlice_pan (s : State) (i x) : (s.setSlice i x).pan = s.pan := rfl
@[simp] theorem setSlice_pwr (s : State) (i x) : (s.setSlice i x).pwr = s.pwr := rfl
@[simp] theorem setSlice_thm (s : State) (i x) : (s.setSlice i x).thm = s.thm := rfl
@[simp] theorem setSlice_crs (s : State) (i x) : (s.setSlice i x).crs = s.crs := rfl
@[simp] theorem setSlice_dtc (s : State) (i x) : (s.setSlice i x).dtc = s.dtc := rfl
@[simp] theorem setSlice_mch (s : State) (i x) : (s.setSlice i x).mch = s.mch := rfl
@[simp] theorem setSlice_mte (s : State) (i x) : (s.setSlice i x).mte = s.mte := rfl
@[simp] theorem setSlice_cages (s : State) (i x) : (s.setSlice i x).cages = s.cages := rfl
@[simp] theorem setSlice_ports (s : State) (i x) : (s.setSlice i x).ports = s.ports := rfl
@[simp] theorem setSlice_fxb (s : State) (i x) : (s.setSlice i x).fxb = s.fxb := rfl
@[simp] theorem setSlice_heads (s : State) (i x) : (s.setSlice i x).heads = s.heads := rfl
@[simp] theorem setSlice_sve (s : State) (i x) : (s.setSlice i x).sve = s.sve := rfl

/-! ### setPort -/

@[simp] theorem setPort_pending (s : State) (i x) : (s.setPort i x).pending = s.pending := rfl
@[simp] theorem setPort_out (s : State) (i x) : (s.setPort i x).out = s.out := rfl
@[simp] theorem setPort_free (s : State) (i x) : (s.setPort i x).free = s.free := rfl
@[simp] theorem setPort_time (s : State) (i x) : (s.setPort i x).time = s.time := rfl
@[simp] theorem setPort_opMs (s : State) (i x) : (s.setPort i x).opMs = s.opMs := rfl
@[simp] theorem setPort_opNs (s : State) (i x) : (s.setPort i x).opNs = s.opNs := rfl
@[simp] theorem setPort_regs (s : State) (i x) : (s.setPort i x).regs = s.regs := rfl
@[simp] theorem setPort_shadow (s : State) (i x) : (s.setPort i x).shadow = s.shadow := rfl
@[simp] theorem setPort_hold (s : State) (i x) : (s.setPort i x).hold = s.hold := rfl
@[simp] theorem setPort_perf (s : State) (i x) : (s.setPort i x).perf = s.perf := rfl
@[simp] theorem setPort_cyc (s : State) (i x) : (s.setPort i x).cyc = s.cyc := rfl
@[simp] theorem setPort_freezeAll (s : State) (i x) : (s.setPort i x).freezeAll = s.freezeAll := rfl
@[simp] theorem setPort_pages (s : State) (i x) : (s.setPort i x).pages = s.pages := rfl
@[simp] theorem setPort_mgt (s : State) (i x) : (s.setPort i x).mgt = s.mgt := rfl
@[simp] theorem setPort_flt (s : State) (i x) : (s.setPort i x).flt = s.flt := rfl
@[simp] theorem setPort_pan (s : State) (i x) : (s.setPort i x).pan = s.pan := rfl
@[simp] theorem setPort_pwr (s : State) (i x) : (s.setPort i x).pwr = s.pwr := rfl
@[simp] theorem setPort_thm (s : State) (i x) : (s.setPort i x).thm = s.thm := rfl
@[simp] theorem setPort_crs (s : State) (i x) : (s.setPort i x).crs = s.crs := rfl
@[simp] theorem setPort_slices (s : State) (i x) : (s.setPort i x).slices = s.slices := rfl
@[simp] theorem setPort_dtc (s : State) (i x) : (s.setPort i x).dtc = s.dtc := rfl
@[simp] theorem setPort_mch (s : State) (i x) : (s.setPort i x).mch = s.mch := rfl
@[simp] theorem setPort_mte (s : State) (i x) : (s.setPort i x).mte = s.mte := rfl
@[simp] theorem setPort_cages (s : State) (i x) : (s.setPort i x).cages = s.cages := rfl
@[simp] theorem setPort_fxb (s : State) (i x) : (s.setPort i x).fxb = s.fxb := rfl
@[simp] theorem setPort_heads (s : State) (i x) : (s.setPort i x).heads = s.heads := rfl
@[simp] theorem setPort_sve (s : State) (i x) : (s.setPort i x).sve = s.sve := rfl

/-! ### setCage -/

@[simp] theorem setCage_pending (s : State) (i x) : (s.setCage i x).pending = s.pending := rfl
@[simp] theorem setCage_out (s : State) (i x) : (s.setCage i x).out = s.out := rfl
@[simp] theorem setCage_free (s : State) (i x) : (s.setCage i x).free = s.free := rfl
@[simp] theorem setCage_time (s : State) (i x) : (s.setCage i x).time = s.time := rfl
@[simp] theorem setCage_opMs (s : State) (i x) : (s.setCage i x).opMs = s.opMs := rfl
@[simp] theorem setCage_opNs (s : State) (i x) : (s.setCage i x).opNs = s.opNs := rfl
@[simp] theorem setCage_regs (s : State) (i x) : (s.setCage i x).regs = s.regs := rfl
@[simp] theorem setCage_shadow (s : State) (i x) : (s.setCage i x).shadow = s.shadow := rfl
@[simp] theorem setCage_hold (s : State) (i x) : (s.setCage i x).hold = s.hold := rfl
@[simp] theorem setCage_perf (s : State) (i x) : (s.setCage i x).perf = s.perf := rfl
@[simp] theorem setCage_cyc (s : State) (i x) : (s.setCage i x).cyc = s.cyc := rfl
@[simp] theorem setCage_freezeAll (s : State) (i x) : (s.setCage i x).freezeAll = s.freezeAll := rfl
@[simp] theorem setCage_pages (s : State) (i x) : (s.setCage i x).pages = s.pages := rfl
@[simp] theorem setCage_mgt (s : State) (i x) : (s.setCage i x).mgt = s.mgt := rfl
@[simp] theorem setCage_flt (s : State) (i x) : (s.setCage i x).flt = s.flt := rfl
@[simp] theorem setCage_pan (s : State) (i x) : (s.setCage i x).pan = s.pan := rfl
@[simp] theorem setCage_pwr (s : State) (i x) : (s.setCage i x).pwr = s.pwr := rfl
@[simp] theorem setCage_thm (s : State) (i x) : (s.setCage i x).thm = s.thm := rfl
@[simp] theorem setCage_crs (s : State) (i x) : (s.setCage i x).crs = s.crs := rfl
@[simp] theorem setCage_slices (s : State) (i x) : (s.setCage i x).slices = s.slices := rfl
@[simp] theorem setCage_dtc (s : State) (i x) : (s.setCage i x).dtc = s.dtc := rfl
@[simp] theorem setCage_mch (s : State) (i x) : (s.setCage i x).mch = s.mch := rfl
@[simp] theorem setCage_mte (s : State) (i x) : (s.setCage i x).mte = s.mte := rfl
@[simp] theorem setCage_ports (s : State) (i x) : (s.setCage i x).ports = s.ports := rfl
@[simp] theorem setCage_fxb (s : State) (i x) : (s.setCage i x).fxb = s.fxb := rfl
@[simp] theorem setCage_heads (s : State) (i x) : (s.setCage i x).heads = s.heads := rfl
@[simp] theorem setCage_sve (s : State) (i x) : (s.setCage i x).sve = s.sve := rfl

/-! ### setHead -/

@[simp] theorem setHead_pending (s : State) (i x) : (s.setHead i x).pending = s.pending := rfl
@[simp] theorem setHead_out (s : State) (i x) : (s.setHead i x).out = s.out := rfl
@[simp] theorem setHead_free (s : State) (i x) : (s.setHead i x).free = s.free := rfl
@[simp] theorem setHead_time (s : State) (i x) : (s.setHead i x).time = s.time := rfl
@[simp] theorem setHead_opMs (s : State) (i x) : (s.setHead i x).opMs = s.opMs := rfl
@[simp] theorem setHead_opNs (s : State) (i x) : (s.setHead i x).opNs = s.opNs := rfl
@[simp] theorem setHead_regs (s : State) (i x) : (s.setHead i x).regs = s.regs := rfl
@[simp] theorem setHead_shadow (s : State) (i x) : (s.setHead i x).shadow = s.shadow := rfl
@[simp] theorem setHead_hold (s : State) (i x) : (s.setHead i x).hold = s.hold := rfl
@[simp] theorem setHead_perf (s : State) (i x) : (s.setHead i x).perf = s.perf := rfl
@[simp] theorem setHead_cyc (s : State) (i x) : (s.setHead i x).cyc = s.cyc := rfl
@[simp] theorem setHead_freezeAll (s : State) (i x) : (s.setHead i x).freezeAll = s.freezeAll := rfl
@[simp] theorem setHead_pages (s : State) (i x) : (s.setHead i x).pages = s.pages := rfl
@[simp] theorem setHead_mgt (s : State) (i x) : (s.setHead i x).mgt = s.mgt := rfl
@[simp] theorem setHead_flt (s : State) (i x) : (s.setHead i x).flt = s.flt := rfl
@[simp] theorem setHead_pan (s : State) (i x) : (s.setHead i x).pan = s.pan := rfl
@[simp] theorem setHead_pwr (s : State) (i x) : (s.setHead i x).pwr = s.pwr := rfl
@[simp] theorem setHead_thm (s : State) (i x) : (s.setHead i x).thm = s.thm := rfl
@[simp] theorem setHead_crs (s : State) (i x) : (s.setHead i x).crs = s.crs := rfl
@[simp] theorem setHead_slices (s : State) (i x) : (s.setHead i x).slices = s.slices := rfl
@[simp] theorem setHead_dtc (s : State) (i x) : (s.setHead i x).dtc = s.dtc := rfl
@[simp] theorem setHead_mch (s : State) (i x) : (s.setHead i x).mch = s.mch := rfl
@[simp] theorem setHead_mte (s : State) (i x) : (s.setHead i x).mte = s.mte := rfl
@[simp] theorem setHead_cages (s : State) (i x) : (s.setHead i x).cages = s.cages := rfl
@[simp] theorem setHead_ports (s : State) (i x) : (s.setHead i x).ports = s.ports := rfl
@[simp] theorem setHead_fxb (s : State) (i x) : (s.setHead i x).fxb = s.fxb := rfl
@[simp] theorem setHead_sve (s : State) (i x) : (s.setHead i x).sve = s.sve := rfl

/-! ### setDir -/

@[simp] theorem setDir_pending (s : State) (i x) : (s.setDir i x).pending = s.pending := rfl
@[simp] theorem setDir_out (s : State) (i x) : (s.setDir i x).out = s.out := rfl
@[simp] theorem setDir_free (s : State) (i x) : (s.setDir i x).free = s.free := rfl
@[simp] theorem setDir_time (s : State) (i x) : (s.setDir i x).time = s.time := rfl
@[simp] theorem setDir_opMs (s : State) (i x) : (s.setDir i x).opMs = s.opMs := rfl
@[simp] theorem setDir_opNs (s : State) (i x) : (s.setDir i x).opNs = s.opNs := rfl
@[simp] theorem setDir_regs (s : State) (i x) : (s.setDir i x).regs = s.regs := rfl
@[simp] theorem setDir_shadow (s : State) (i x) : (s.setDir i x).shadow = s.shadow := rfl
@[simp] theorem setDir_hold (s : State) (i x) : (s.setDir i x).hold = s.hold := rfl
@[simp] theorem setDir_perf (s : State) (i x) : (s.setDir i x).perf = s.perf := rfl
@[simp] theorem setDir_cyc (s : State) (i x) : (s.setDir i x).cyc = s.cyc := rfl
@[simp] theorem setDir_freezeAll (s : State) (i x) : (s.setDir i x).freezeAll = s.freezeAll := rfl
@[simp] theorem setDir_pages (s : State) (i x) : (s.setDir i x).pages = s.pages := rfl
@[simp] theorem setDir_mgt (s : State) (i x) : (s.setDir i x).mgt = s.mgt := rfl
@[simp] theorem setDir_flt (s : State) (i x) : (s.setDir i x).flt = s.flt := rfl
@[simp] theorem setDir_pan (s : State) (i x) : (s.setDir i x).pan = s.pan := rfl
@[simp] theorem setDir_pwr (s : State) (i x) : (s.setDir i x).pwr = s.pwr := rfl
@[simp] theorem setDir_thm (s : State) (i x) : (s.setDir i x).thm = s.thm := rfl
@[simp] theorem setDir_crs (s : State) (i x) : (s.setDir i x).crs = s.crs := rfl
@[simp] theorem setDir_slices (s : State) (i x) : (s.setDir i x).slices = s.slices := rfl
@[simp] theorem setDir_dtc (s : State) (i x) : (s.setDir i x).dtc = s.dtc := rfl
@[simp] theorem setDir_mch (s : State) (i x) : (s.setDir i x).mch = s.mch := rfl
@[simp] theorem setDir_mte (s : State) (i x) : (s.setDir i x).mte = s.mte := rfl
@[simp] theorem setDir_cages (s : State) (i x) : (s.setDir i x).cages = s.cages := rfl
@[simp] theorem setDir_ports (s : State) (i x) : (s.setDir i x).ports = s.ports := rfl
@[simp] theorem setDir_heads (s : State) (i x) : (s.setDir i x).heads = s.heads := rfl
@[simp] theorem setDir_sve (s : State) (i x) : (s.setDir i x).sve = s.sve := rfl

/-! ### setPair -/

@[simp] theorem setPair_pending (s : State) (i x) : (s.setPair i x).pending = s.pending := rfl
@[simp] theorem setPair_out (s : State) (i x) : (s.setPair i x).out = s.out := rfl
@[simp] theorem setPair_free (s : State) (i x) : (s.setPair i x).free = s.free := rfl
@[simp] theorem setPair_time (s : State) (i x) : (s.setPair i x).time = s.time := rfl
@[simp] theorem setPair_opMs (s : State) (i x) : (s.setPair i x).opMs = s.opMs := rfl
@[simp] theorem setPair_opNs (s : State) (i x) : (s.setPair i x).opNs = s.opNs := rfl
@[simp] theorem setPair_regs (s : State) (i x) : (s.setPair i x).regs = s.regs := rfl
@[simp] theorem setPair_shadow (s : State) (i x) : (s.setPair i x).shadow = s.shadow := rfl
@[simp] theorem setPair_hold (s : State) (i x) : (s.setPair i x).hold = s.hold := rfl
@[simp] theorem setPair_perf (s : State) (i x) : (s.setPair i x).perf = s.perf := rfl
@[simp] theorem setPair_cyc (s : State) (i x) : (s.setPair i x).cyc = s.cyc := rfl
@[simp] theorem setPair_freezeAll (s : State) (i x) : (s.setPair i x).freezeAll = s.freezeAll := rfl
@[simp] theorem setPair_pages (s : State) (i x) : (s.setPair i x).pages = s.pages := rfl
@[simp] theorem setPair_mgt (s : State) (i x) : (s.setPair i x).mgt = s.mgt := rfl
@[simp] theorem setPair_flt (s : State) (i x) : (s.setPair i x).flt = s.flt := rfl
@[simp] theorem setPair_pan (s : State) (i x) : (s.setPair i x).pan = s.pan := rfl
@[simp] theorem setPair_pwr (s : State) (i x) : (s.setPair i x).pwr = s.pwr := rfl
@[simp] theorem setPair_thm (s : State) (i x) : (s.setPair i x).thm = s.thm := rfl
@[simp] theorem setPair_crs (s : State) (i x) : (s.setPair i x).crs = s.crs := rfl
@[simp] theorem setPair_slices (s : State) (i x) : (s.setPair i x).slices = s.slices := rfl
@[simp] theorem setPair_dtc (s : State) (i x) : (s.setPair i x).dtc = s.dtc := rfl
@[simp] theorem setPair_mch (s : State) (i x) : (s.setPair i x).mch = s.mch := rfl
@[simp] theorem setPair_mte (s : State) (i x) : (s.setPair i x).mte = s.mte := rfl
@[simp] theorem setPair_cages (s : State) (i x) : (s.setPair i x).cages = s.cages := rfl
@[simp] theorem setPair_ports (s : State) (i x) : (s.setPair i x).ports = s.ports := rfl
@[simp] theorem setPair_heads (s : State) (i x) : (s.setPair i x).heads = s.heads := rfl
@[simp] theorem setPair_sve (s : State) (i x) : (s.setPair i x).sve = s.sve := rfl

/-! ### setDie -/

@[simp] theorem setDie_pending (s : State) (i x) : (s.setDie i x).pending = s.pending := rfl
@[simp] theorem setDie_out (s : State) (i x) : (s.setDie i x).out = s.out := rfl
@[simp] theorem setDie_free (s : State) (i x) : (s.setDie i x).free = s.free := rfl
@[simp] theorem setDie_time (s : State) (i x) : (s.setDie i x).time = s.time := rfl
@[simp] theorem setDie_opMs (s : State) (i x) : (s.setDie i x).opMs = s.opMs := rfl
@[simp] theorem setDie_opNs (s : State) (i x) : (s.setDie i x).opNs = s.opNs := rfl
@[simp] theorem setDie_regs (s : State) (i x) : (s.setDie i x).regs = s.regs := rfl
@[simp] theorem setDie_shadow (s : State) (i x) : (s.setDie i x).shadow = s.shadow := rfl
@[simp] theorem setDie_hold (s : State) (i x) : (s.setDie i x).hold = s.hold := rfl
@[simp] theorem setDie_perf (s : State) (i x) : (s.setDie i x).perf = s.perf := rfl
@[simp] theorem setDie_cyc (s : State) (i x) : (s.setDie i x).cyc = s.cyc := rfl
@[simp] theorem setDie_freezeAll (s : State) (i x) : (s.setDie i x).freezeAll = s.freezeAll := rfl
@[simp] theorem setDie_pages (s : State) (i x) : (s.setDie i x).pages = s.pages := rfl
@[simp] theorem setDie_mgt (s : State) (i x) : (s.setDie i x).mgt = s.mgt := rfl
@[simp] theorem setDie_flt (s : State) (i x) : (s.setDie i x).flt = s.flt := rfl
@[simp] theorem setDie_pan (s : State) (i x) : (s.setDie i x).pan = s.pan := rfl
@[simp] theorem setDie_pwr (s : State) (i x) : (s.setDie i x).pwr = s.pwr := rfl
@[simp] theorem setDie_thm (s : State) (i x) : (s.setDie i x).thm = s.thm := rfl
@[simp] theorem setDie_crs (s : State) (i x) : (s.setDie i x).crs = s.crs := rfl
@[simp] theorem setDie_slices (s : State) (i x) : (s.setDie i x).slices = s.slices := rfl
@[simp] theorem setDie_dtc (s : State) (i x) : (s.setDie i x).dtc = s.dtc := rfl
@[simp] theorem setDie_mte (s : State) (i x) : (s.setDie i x).mte = s.mte := rfl
@[simp] theorem setDie_cages (s : State) (i x) : (s.setDie i x).cages = s.cages := rfl
@[simp] theorem setDie_ports (s : State) (i x) : (s.setDie i x).ports = s.ports := rfl
@[simp] theorem setDie_fxb (s : State) (i x) : (s.setDie i x).fxb = s.fxb := rfl
@[simp] theorem setDie_heads (s : State) (i x) : (s.setDie i x).heads = s.heads := rfl
@[simp] theorem setDie_sve (s : State) (i x) : (s.setDie i x).sve = s.sve := rfl

/-! ### setBlock -/

@[simp] theorem setBlock_pending (s : State) (i x) : (s.setBlock i x).pending = s.pending := rfl
@[simp] theorem setBlock_out (s : State) (i x) : (s.setBlock i x).out = s.out := rfl
@[simp] theorem setBlock_free (s : State) (i x) : (s.setBlock i x).free = s.free := rfl
@[simp] theorem setBlock_time (s : State) (i x) : (s.setBlock i x).time = s.time := rfl
@[simp] theorem setBlock_opMs (s : State) (i x) : (s.setBlock i x).opMs = s.opMs := rfl
@[simp] theorem setBlock_opNs (s : State) (i x) : (s.setBlock i x).opNs = s.opNs := rfl
@[simp] theorem setBlock_regs (s : State) (i x) : (s.setBlock i x).regs = s.regs := rfl
@[simp] theorem setBlock_shadow (s : State) (i x) : (s.setBlock i x).shadow = s.shadow := rfl
@[simp] theorem setBlock_hold (s : State) (i x) : (s.setBlock i x).hold = s.hold := rfl
@[simp] theorem setBlock_perf (s : State) (i x) : (s.setBlock i x).perf = s.perf := rfl
@[simp] theorem setBlock_cyc (s : State) (i x) : (s.setBlock i x).cyc = s.cyc := rfl
@[simp] theorem setBlock_freezeAll (s : State) (i x) : (s.setBlock i x).freezeAll = s.freezeAll := rfl
@[simp] theorem setBlock_pages (s : State) (i x) : (s.setBlock i x).pages = s.pages := rfl
@[simp] theorem setBlock_mgt (s : State) (i x) : (s.setBlock i x).mgt = s.mgt := rfl
@[simp] theorem setBlock_flt (s : State) (i x) : (s.setBlock i x).flt = s.flt := rfl
@[simp] theorem setBlock_pan (s : State) (i x) : (s.setBlock i x).pan = s.pan := rfl
@[simp] theorem setBlock_pwr (s : State) (i x) : (s.setBlock i x).pwr = s.pwr := rfl
@[simp] theorem setBlock_thm (s : State) (i x) : (s.setBlock i x).thm = s.thm := rfl
@[simp] theorem setBlock_crs (s : State) (i x) : (s.setBlock i x).crs = s.crs := rfl
@[simp] theorem setBlock_slices (s : State) (i x) : (s.setBlock i x).slices = s.slices := rfl
@[simp] theorem setBlock_dtc (s : State) (i x) : (s.setBlock i x).dtc = s.dtc := rfl
@[simp] theorem setBlock_mte (s : State) (i x) : (s.setBlock i x).mte = s.mte := rfl
@[simp] theorem setBlock_cages (s : State) (i x) : (s.setBlock i x).cages = s.cages := rfl
@[simp] theorem setBlock_ports (s : State) (i x) : (s.setBlock i x).ports = s.ports := rfl
@[simp] theorem setBlock_fxb (s : State) (i x) : (s.setBlock i x).fxb = s.fxb := rfl
@[simp] theorem setBlock_heads (s : State) (i x) : (s.setBlock i x).heads = s.heads := rfl
@[simp] theorem setBlock_sve (s : State) (i x) : (s.setBlock i x).sve = s.sve := rfl

/-! ### setSeg -/

@[simp] theorem setSeg_pending (s : State) (i x) : (s.setSeg i x).pending = s.pending := rfl
@[simp] theorem setSeg_out (s : State) (i x) : (s.setSeg i x).out = s.out := rfl
@[simp] theorem setSeg_free (s : State) (i x) : (s.setSeg i x).free = s.free := rfl
@[simp] theorem setSeg_time (s : State) (i x) : (s.setSeg i x).time = s.time := rfl
@[simp] theorem setSeg_opMs (s : State) (i x) : (s.setSeg i x).opMs = s.opMs := rfl
@[simp] theorem setSeg_opNs (s : State) (i x) : (s.setSeg i x).opNs = s.opNs := rfl
@[simp] theorem setSeg_regs (s : State) (i x) : (s.setSeg i x).regs = s.regs := rfl
@[simp] theorem setSeg_shadow (s : State) (i x) : (s.setSeg i x).shadow = s.shadow := rfl
@[simp] theorem setSeg_hold (s : State) (i x) : (s.setSeg i x).hold = s.hold := rfl
@[simp] theorem setSeg_perf (s : State) (i x) : (s.setSeg i x).perf = s.perf := rfl
@[simp] theorem setSeg_cyc (s : State) (i x) : (s.setSeg i x).cyc = s.cyc := rfl
@[simp] theorem setSeg_freezeAll (s : State) (i x) : (s.setSeg i x).freezeAll = s.freezeAll := rfl
@[simp] theorem setSeg_pages (s : State) (i x) : (s.setSeg i x).pages = s.pages := rfl
@[simp] theorem setSeg_mgt (s : State) (i x) : (s.setSeg i x).mgt = s.mgt := rfl
@[simp] theorem setSeg_flt (s : State) (i x) : (s.setSeg i x).flt = s.flt := rfl
@[simp] theorem setSeg_pan (s : State) (i x) : (s.setSeg i x).pan = s.pan := rfl
@[simp] theorem setSeg_pwr (s : State) (i x) : (s.setSeg i x).pwr = s.pwr := rfl
@[simp] theorem setSeg_thm (s : State) (i x) : (s.setSeg i x).thm = s.thm := rfl
@[simp] theorem setSeg_crs (s : State) (i x) : (s.setSeg i x).crs = s.crs := rfl
@[simp] theorem setSeg_slices (s : State) (i x) : (s.setSeg i x).slices = s.slices := rfl
@[simp] theorem setSeg_dtc (s : State) (i x) : (s.setSeg i x).dtc = s.dtc := rfl
@[simp] theorem setSeg_mch (s : State) (i x) : (s.setSeg i x).mch = s.mch := rfl
@[simp] theorem setSeg_cages (s : State) (i x) : (s.setSeg i x).cages = s.cages := rfl
@[simp] theorem setSeg_ports (s : State) (i x) : (s.setSeg i x).ports = s.ports := rfl
@[simp] theorem setSeg_fxb (s : State) (i x) : (s.setSeg i x).fxb = s.fxb := rfl
@[simp] theorem setSeg_heads (s : State) (i x) : (s.setSeg i x).heads = s.heads := rfl
@[simp] theorem setSeg_sve (s : State) (i x) : (s.setSeg i x).sve = s.sve := rfl

/-! ### setRegion -/

@[simp] theorem setRegion_pending (s : State) (i x) : (s.setRegion i x).pending = s.pending := rfl
@[simp] theorem setRegion_out (s : State) (i x) : (s.setRegion i x).out = s.out := rfl
@[simp] theorem setRegion_free (s : State) (i x) : (s.setRegion i x).free = s.free := rfl
@[simp] theorem setRegion_time (s : State) (i x) : (s.setRegion i x).time = s.time := rfl
@[simp] theorem setRegion_opMs (s : State) (i x) : (s.setRegion i x).opMs = s.opMs := rfl
@[simp] theorem setRegion_opNs (s : State) (i x) : (s.setRegion i x).opNs = s.opNs := rfl
@[simp] theorem setRegion_regs (s : State) (i x) : (s.setRegion i x).regs = s.regs := rfl
@[simp] theorem setRegion_shadow (s : State) (i x) : (s.setRegion i x).shadow = s.shadow := rfl
@[simp] theorem setRegion_hold (s : State) (i x) : (s.setRegion i x).hold = s.hold := rfl
@[simp] theorem setRegion_perf (s : State) (i x) : (s.setRegion i x).perf = s.perf := rfl
@[simp] theorem setRegion_cyc (s : State) (i x) : (s.setRegion i x).cyc = s.cyc := rfl
@[simp] theorem setRegion_freezeAll (s : State) (i x) : (s.setRegion i x).freezeAll = s.freezeAll := rfl
@[simp] theorem setRegion_pages (s : State) (i x) : (s.setRegion i x).pages = s.pages := rfl
@[simp] theorem setRegion_mgt (s : State) (i x) : (s.setRegion i x).mgt = s.mgt := rfl
@[simp] theorem setRegion_flt (s : State) (i x) : (s.setRegion i x).flt = s.flt := rfl
@[simp] theorem setRegion_pan (s : State) (i x) : (s.setRegion i x).pan = s.pan := rfl
@[simp] theorem setRegion_pwr (s : State) (i x) : (s.setRegion i x).pwr = s.pwr := rfl
@[simp] theorem setRegion_thm (s : State) (i x) : (s.setRegion i x).thm = s.thm := rfl
@[simp] theorem setRegion_crs (s : State) (i x) : (s.setRegion i x).crs = s.crs := rfl
@[simp] theorem setRegion_slices (s : State) (i x) : (s.setRegion i x).slices = s.slices := rfl
@[simp] theorem setRegion_dtc (s : State) (i x) : (s.setRegion i x).dtc = s.dtc := rfl
@[simp] theorem setRegion_mch (s : State) (i x) : (s.setRegion i x).mch = s.mch := rfl
@[simp] theorem setRegion_cages (s : State) (i x) : (s.setRegion i x).cages = s.cages := rfl
@[simp] theorem setRegion_ports (s : State) (i x) : (s.setRegion i x).ports = s.ports := rfl
@[simp] theorem setRegion_fxb (s : State) (i x) : (s.setRegion i x).fxb = s.fxb := rfl
@[simp] theorem setRegion_heads (s : State) (i x) : (s.setRegion i x).heads = s.heads := rfl
@[simp] theorem setRegion_sve (s : State) (i x) : (s.setRegion i x).sve = s.sve := rfl

/-! ### setRwr -/

@[simp] theorem setRwr_pending (s : State) (i x) : (s.setRwr i x).pending = s.pending := rfl
@[simp] theorem setRwr_out (s : State) (i x) : (s.setRwr i x).out = s.out := rfl
@[simp] theorem setRwr_free (s : State) (i x) : (s.setRwr i x).free = s.free := rfl
@[simp] theorem setRwr_time (s : State) (i x) : (s.setRwr i x).time = s.time := rfl
@[simp] theorem setRwr_opMs (s : State) (i x) : (s.setRwr i x).opMs = s.opMs := rfl
@[simp] theorem setRwr_opNs (s : State) (i x) : (s.setRwr i x).opNs = s.opNs := rfl
@[simp] theorem setRwr_regs (s : State) (i x) : (s.setRwr i x).regs = s.regs := rfl
@[simp] theorem setRwr_shadow (s : State) (i x) : (s.setRwr i x).shadow = s.shadow := rfl
@[simp] theorem setRwr_hold (s : State) (i x) : (s.setRwr i x).hold = s.hold := rfl
@[simp] theorem setRwr_perf (s : State) (i x) : (s.setRwr i x).perf = s.perf := rfl
@[simp] theorem setRwr_cyc (s : State) (i x) : (s.setRwr i x).cyc = s.cyc := rfl
@[simp] theorem setRwr_freezeAll (s : State) (i x) : (s.setRwr i x).freezeAll = s.freezeAll := rfl
@[simp] theorem setRwr_pages (s : State) (i x) : (s.setRwr i x).pages = s.pages := rfl
@[simp] theorem setRwr_mgt (s : State) (i x) : (s.setRwr i x).mgt = s.mgt := rfl
@[simp] theorem setRwr_flt (s : State) (i x) : (s.setRwr i x).flt = s.flt := rfl
@[simp] theorem setRwr_pan (s : State) (i x) : (s.setRwr i x).pan = s.pan := rfl
@[simp] theorem setRwr_pwr (s : State) (i x) : (s.setRwr i x).pwr = s.pwr := rfl
@[simp] theorem setRwr_thm (s : State) (i x) : (s.setRwr i x).thm = s.thm := rfl
@[simp] theorem setRwr_crs (s : State) (i x) : (s.setRwr i x).crs = s.crs := rfl
@[simp] theorem setRwr_slices (s : State) (i x) : (s.setRwr i x).slices = s.slices := rfl
@[simp] theorem setRwr_dtc (s : State) (i x) : (s.setRwr i x).dtc = s.dtc := rfl
@[simp] theorem setRwr_mch (s : State) (i x) : (s.setRwr i x).mch = s.mch := rfl
@[simp] theorem setRwr_cages (s : State) (i x) : (s.setRwr i x).cages = s.cages := rfl
@[simp] theorem setRwr_ports (s : State) (i x) : (s.setRwr i x).ports = s.ports := rfl
@[simp] theorem setRwr_fxb (s : State) (i x) : (s.setRwr i x).fxb = s.fxb := rfl
@[simp] theorem setRwr_heads (s : State) (i x) : (s.setRwr i x).heads = s.heads := rfl
@[simp] theorem setRwr_sve (s : State) (i x) : (s.setRwr i x).sve = s.sve := rfl

/-! ### setKrange -/

@[simp] theorem setKrange_pending (s : State) (i x) : (s.setKrange i x).pending = s.pending := rfl
@[simp] theorem setKrange_out (s : State) (i x) : (s.setKrange i x).out = s.out := rfl
@[simp] theorem setKrange_free (s : State) (i x) : (s.setKrange i x).free = s.free := rfl
@[simp] theorem setKrange_time (s : State) (i x) : (s.setKrange i x).time = s.time := rfl
@[simp] theorem setKrange_opMs (s : State) (i x) : (s.setKrange i x).opMs = s.opMs := rfl
@[simp] theorem setKrange_opNs (s : State) (i x) : (s.setKrange i x).opNs = s.opNs := rfl
@[simp] theorem setKrange_regs (s : State) (i x) : (s.setKrange i x).regs = s.regs := rfl
@[simp] theorem setKrange_shadow (s : State) (i x) : (s.setKrange i x).shadow = s.shadow := rfl
@[simp] theorem setKrange_hold (s : State) (i x) : (s.setKrange i x).hold = s.hold := rfl
@[simp] theorem setKrange_perf (s : State) (i x) : (s.setKrange i x).perf = s.perf := rfl
@[simp] theorem setKrange_cyc (s : State) (i x) : (s.setKrange i x).cyc = s.cyc := rfl
@[simp] theorem setKrange_freezeAll (s : State) (i x) : (s.setKrange i x).freezeAll = s.freezeAll := rfl
@[simp] theorem setKrange_pages (s : State) (i x) : (s.setKrange i x).pages = s.pages := rfl
@[simp] theorem setKrange_mgt (s : State) (i x) : (s.setKrange i x).mgt = s.mgt := rfl
@[simp] theorem setKrange_flt (s : State) (i x) : (s.setKrange i x).flt = s.flt := rfl
@[simp] theorem setKrange_pan (s : State) (i x) : (s.setKrange i x).pan = s.pan := rfl
@[simp] theorem setKrange_pwr (s : State) (i x) : (s.setKrange i x).pwr = s.pwr := rfl
@[simp] theorem setKrange_thm (s : State) (i x) : (s.setKrange i x).thm = s.thm := rfl
@[simp] theorem setKrange_slices (s : State) (i x) : (s.setKrange i x).slices = s.slices := rfl
@[simp] theorem setKrange_dtc (s : State) (i x) : (s.setKrange i x).dtc = s.dtc := rfl
@[simp] theorem setKrange_mch (s : State) (i x) : (s.setKrange i x).mch = s.mch := rfl
@[simp] theorem setKrange_mte (s : State) (i x) : (s.setKrange i x).mte = s.mte := rfl
@[simp] theorem setKrange_cages (s : State) (i x) : (s.setKrange i x).cages = s.cages := rfl
@[simp] theorem setKrange_ports (s : State) (i x) : (s.setKrange i x).ports = s.ports := rfl
@[simp] theorem setKrange_fxb (s : State) (i x) : (s.setKrange i x).fxb = s.fxb := rfl
@[simp] theorem setKrange_heads (s : State) (i x) : (s.setKrange i x).heads = s.heads := rfl
@[simp] theorem setKrange_sve (s : State) (i x) : (s.setKrange i x).sve = s.sve := rfl

/-! ### setRail -/

@[simp] theorem setRail_pending (s : State) (i x) : (s.setRail i x).pending = s.pending := rfl
@[simp] theorem setRail_out (s : State) (i x) : (s.setRail i x).out = s.out := rfl
@[simp] theorem setRail_free (s : State) (i x) : (s.setRail i x).free = s.free := rfl
@[simp] theorem setRail_time (s : State) (i x) : (s.setRail i x).time = s.time := rfl
@[simp] theorem setRail_opMs (s : State) (i x) : (s.setRail i x).opMs = s.opMs := rfl
@[simp] theorem setRail_opNs (s : State) (i x) : (s.setRail i x).opNs = s.opNs := rfl
@[simp] theorem setRail_regs (s : State) (i x) : (s.setRail i x).regs = s.regs := rfl
@[simp] theorem setRail_shadow (s : State) (i x) : (s.setRail i x).shadow = s.shadow := rfl
@[simp] theorem setRail_hold (s : State) (i x) : (s.setRail i x).hold = s.hold := rfl
@[simp] theorem setRail_perf (s : State) (i x) : (s.setRail i x).perf = s.perf := rfl
@[simp] theorem setRail_cyc (s : State) (i x) : (s.setRail i x).cyc = s.cyc := rfl
@[simp] theorem setRail_freezeAll (s : State) (i x) : (s.setRail i x).freezeAll = s.freezeAll := rfl
@[simp] theorem setRail_pages (s : State) (i x) : (s.setRail i x).pages = s.pages := rfl
@[simp] theorem setRail_mgt (s : State) (i x) : (s.setRail i x).mgt = s.mgt := rfl
@[simp] theorem setRail_flt (s : State) (i x) : (s.setRail i x).flt = s.flt := rfl
@[simp] theorem setRail_pan (s : State) (i x) : (s.setRail i x).pan = s.pan := rfl
@[simp] theorem setRail_thm (s : State) (i x) : (s.setRail i x).thm = s.thm := rfl
@[simp] theorem setRail_crs (s : State) (i x) : (s.setRail i x).crs = s.crs := rfl
@[simp] theorem setRail_slices (s : State) (i x) : (s.setRail i x).slices = s.slices := rfl
@[simp] theorem setRail_dtc (s : State) (i x) : (s.setRail i x).dtc = s.dtc := rfl
@[simp] theorem setRail_mch (s : State) (i x) : (s.setRail i x).mch = s.mch := rfl
@[simp] theorem setRail_mte (s : State) (i x) : (s.setRail i x).mte = s.mte := rfl
@[simp] theorem setRail_cages (s : State) (i x) : (s.setRail i x).cages = s.cages := rfl
@[simp] theorem setRail_ports (s : State) (i x) : (s.setRail i x).ports = s.ports := rfl
@[simp] theorem setRail_fxb (s : State) (i x) : (s.setRail i x).fxb = s.fxb := rfl
@[simp] theorem setRail_heads (s : State) (i x) : (s.setRail i x).heads = s.heads := rfl
@[simp] theorem setRail_sve (s : State) (i x) : (s.setRail i x).sve = s.sve := rfl

/-! ### setSensor -/

@[simp] theorem setSensor_pending (s : State) (i x) : (s.setSensor i x).pending = s.pending := rfl
@[simp] theorem setSensor_out (s : State) (i x) : (s.setSensor i x).out = s.out := rfl
@[simp] theorem setSensor_free (s : State) (i x) : (s.setSensor i x).free = s.free := rfl
@[simp] theorem setSensor_time (s : State) (i x) : (s.setSensor i x).time = s.time := rfl
@[simp] theorem setSensor_opMs (s : State) (i x) : (s.setSensor i x).opMs = s.opMs := rfl
@[simp] theorem setSensor_opNs (s : State) (i x) : (s.setSensor i x).opNs = s.opNs := rfl
@[simp] theorem setSensor_regs (s : State) (i x) : (s.setSensor i x).regs = s.regs := rfl
@[simp] theorem setSensor_shadow (s : State) (i x) : (s.setSensor i x).shadow = s.shadow := rfl
@[simp] theorem setSensor_hold (s : State) (i x) : (s.setSensor i x).hold = s.hold := rfl
@[simp] theorem setSensor_perf (s : State) (i x) : (s.setSensor i x).perf = s.perf := rfl
@[simp] theorem setSensor_cyc (s : State) (i x) : (s.setSensor i x).cyc = s.cyc := rfl
@[simp] theorem setSensor_freezeAll (s : State) (i x) : (s.setSensor i x).freezeAll = s.freezeAll := rfl
@[simp] theorem setSensor_pages (s : State) (i x) : (s.setSensor i x).pages = s.pages := rfl
@[simp] theorem setSensor_mgt (s : State) (i x) : (s.setSensor i x).mgt = s.mgt := rfl
@[simp] theorem setSensor_flt (s : State) (i x) : (s.setSensor i x).flt = s.flt := rfl
@[simp] theorem setSensor_pan (s : State) (i x) : (s.setSensor i x).pan = s.pan := rfl
@[simp] theorem setSensor_pwr (s : State) (i x) : (s.setSensor i x).pwr = s.pwr := rfl
@[simp] theorem setSensor_crs (s : State) (i x) : (s.setSensor i x).crs = s.crs := rfl
@[simp] theorem setSensor_slices (s : State) (i x) : (s.setSensor i x).slices = s.slices := rfl
@[simp] theorem setSensor_dtc (s : State) (i x) : (s.setSensor i x).dtc = s.dtc := rfl
@[simp] theorem setSensor_mch (s : State) (i x) : (s.setSensor i x).mch = s.mch := rfl
@[simp] theorem setSensor_mte (s : State) (i x) : (s.setSensor i x).mte = s.mte := rfl
@[simp] theorem setSensor_cages (s : State) (i x) : (s.setSensor i x).cages = s.cages := rfl
@[simp] theorem setSensor_ports (s : State) (i x) : (s.setSensor i x).ports = s.ports := rfl
@[simp] theorem setSensor_fxb (s : State) (i x) : (s.setSensor i x).fxb = s.fxb := rfl
@[simp] theorem setSensor_heads (s : State) (i x) : (s.setSensor i x).heads = s.heads := rfl
@[simp] theorem setSensor_sve (s : State) (i x) : (s.setSensor i x).sve = s.sve := rfl

/-! ### setCore -/

@[simp] theorem setCore_pending (s : State) (i x) : (s.setCore i x).pending = s.pending := rfl
@[simp] theorem setCore_out (s : State) (i x) : (s.setCore i x).out = s.out := rfl
@[simp] theorem setCore_free (s : State) (i x) : (s.setCore i x).free = s.free := rfl
@[simp] theorem setCore_time (s : State) (i x) : (s.setCore i x).time = s.time := rfl
@[simp] theorem setCore_opMs (s : State) (i x) : (s.setCore i x).opMs = s.opMs := rfl
@[simp] theorem setCore_opNs (s : State) (i x) : (s.setCore i x).opNs = s.opNs := rfl
@[simp] theorem setCore_regs (s : State) (i x) : (s.setCore i x).regs = s.regs := rfl
@[simp] theorem setCore_shadow (s : State) (i x) : (s.setCore i x).shadow = s.shadow := rfl
@[simp] theorem setCore_hold (s : State) (i x) : (s.setCore i x).hold = s.hold := rfl
@[simp] theorem setCore_perf (s : State) (i x) : (s.setCore i x).perf = s.perf := rfl
@[simp] theorem setCore_cyc (s : State) (i x) : (s.setCore i x).cyc = s.cyc := rfl
@[simp] theorem setCore_freezeAll (s : State) (i x) : (s.setCore i x).freezeAll = s.freezeAll := rfl
@[simp] theorem setCore_pages (s : State) (i x) : (s.setCore i x).pages = s.pages := rfl
@[simp] theorem setCore_mgt (s : State) (i x) : (s.setCore i x).mgt = s.mgt := rfl
@[simp] theorem setCore_flt (s : State) (i x) : (s.setCore i x).flt = s.flt := rfl
@[simp] theorem setCore_pan (s : State) (i x) : (s.setCore i x).pan = s.pan := rfl
@[simp] theorem setCore_pwr (s : State) (i x) : (s.setCore i x).pwr = s.pwr := rfl
@[simp] theorem setCore_thm (s : State) (i x) : (s.setCore i x).thm = s.thm := rfl
@[simp] theorem setCore_crs (s : State) (i x) : (s.setCore i x).crs = s.crs := rfl
@[simp] theorem setCore_slices (s : State) (i x) : (s.setCore i x).slices = s.slices := rfl
@[simp] theorem setCore_dtc (s : State) (i x) : (s.setCore i x).dtc = s.dtc := rfl
@[simp] theorem setCore_mch (s : State) (i x) : (s.setCore i x).mch = s.mch := rfl
@[simp] theorem setCore_mte (s : State) (i x) : (s.setCore i x).mte = s.mte := rfl
@[simp] theorem setCore_cages (s : State) (i x) : (s.setCore i x).cages = s.cages := rfl
@[simp] theorem setCore_ports (s : State) (i x) : (s.setCore i x).ports = s.ports := rfl
@[simp] theorem setCore_fxb (s : State) (i x) : (s.setCore i x).fxb = s.fxb := rfl
@[simp] theorem setCore_heads (s : State) (i x) : (s.setCore i x).heads = s.heads := rfl

/-! ### emit -/

@[simp] theorem emit_pending (s : State) (o) : (s.emit o).pending = s.pending := rfl
@[simp] theorem emit_free (s : State) (o) : (s.emit o).free = s.free := rfl
@[simp] theorem emit_time (s : State) (o) : (s.emit o).time = s.time := rfl
@[simp] theorem emit_opMs (s : State) (o) : (s.emit o).opMs = s.opMs := rfl
@[simp] theorem emit_opNs (s : State) (o) : (s.emit o).opNs = s.opNs := rfl
@[simp] theorem emit_regs (s : State) (o) : (s.emit o).regs = s.regs := rfl
@[simp] theorem emit_shadow (s : State) (o) : (s.emit o).shadow = s.shadow := rfl
@[simp] theorem emit_hold (s : State) (o) : (s.emit o).hold = s.hold := rfl
@[simp] theorem emit_perf (s : State) (o) : (s.emit o).perf = s.perf := rfl
@[simp] theorem emit_cyc (s : State) (o) : (s.emit o).cyc = s.cyc := rfl
@[simp] theorem emit_freezeAll (s : State) (o) : (s.emit o).freezeAll = s.freezeAll := rfl
@[simp] theorem emit_pages (s : State) (o) : (s.emit o).pages = s.pages := rfl
@[simp] theorem emit_mgt (s : State) (o) : (s.emit o).mgt = s.mgt := rfl
@[simp] theorem emit_flt (s : State) (o) : (s.emit o).flt = s.flt := rfl
@[simp] theorem emit_pan (s : State) (o) : (s.emit o).pan = s.pan := rfl
@[simp] theorem emit_pwr (s : State) (o) : (s.emit o).pwr = s.pwr := rfl
@[simp] theorem emit_thm (s : State) (o) : (s.emit o).thm = s.thm := rfl
@[simp] theorem emit_crs (s : State) (o) : (s.emit o).crs = s.crs := rfl
@[simp] theorem emit_slices (s : State) (o) : (s.emit o).slices = s.slices := rfl
@[simp] theorem emit_dtc (s : State) (o) : (s.emit o).dtc = s.dtc := rfl
@[simp] theorem emit_mch (s : State) (o) : (s.emit o).mch = s.mch := rfl
@[simp] theorem emit_mte (s : State) (o) : (s.emit o).mte = s.mte := rfl
@[simp] theorem emit_cages (s : State) (o) : (s.emit o).cages = s.cages := rfl
@[simp] theorem emit_ports (s : State) (o) : (s.emit o).ports = s.ports := rfl
@[simp] theorem emit_fxb (s : State) (o) : (s.emit o).fxb = s.fxb := rfl
@[simp] theorem emit_heads (s : State) (o) : (s.emit o).heads = s.heads := rfl
@[simp] theorem emit_sve (s : State) (o) : (s.emit o).sve = s.sve := rfl

/-! ### setReg -/

@[simp] theorem setReg_pending (s : State) (p o w) : (s.setReg p o w).pending = s.pending := rfl
@[simp] theorem setReg_out (s : State) (p o w) : (s.setReg p o w).out = s.out := rfl
@[simp] theorem setReg_free (s : State) (p o w) : (s.setReg p o w).free = s.free := rfl
@[simp] theorem setReg_time (s : State) (p o w) : (s.setReg p o w).time = s.time := rfl
@[simp] theorem setReg_opMs (s : State) (p o w) : (s.setReg p o w).opMs = s.opMs := rfl
@[simp] theorem setReg_opNs (s : State) (p o w) : (s.setReg p o w).opNs = s.opNs := rfl
@[simp] theorem setReg_shadow (s : State) (p o w) : (s.setReg p o w).shadow = s.shadow := rfl
@[simp] theorem setReg_hold (s : State) (p o w) : (s.setReg p o w).hold = s.hold := rfl
@[simp] theorem setReg_perf (s : State) (p o w) : (s.setReg p o w).perf = s.perf := rfl
@[simp] theorem setReg_cyc (s : State) (p o w) : (s.setReg p o w).cyc = s.cyc := rfl
@[simp] theorem setReg_freezeAll (s : State) (p o w) : (s.setReg p o w).freezeAll = s.freezeAll := rfl
@[simp] theorem setReg_pages (s : State) (p o w) : (s.setReg p o w).pages = s.pages := rfl
@[simp] theorem setReg_mgt (s : State) (p o w) : (s.setReg p o w).mgt = s.mgt := rfl
@[simp] theorem setReg_flt (s : State) (p o w) : (s.setReg p o w).flt = s.flt := rfl
@[simp] theorem setReg_pan (s : State) (p o w) : (s.setReg p o w).pan = s.pan := rfl
@[simp] theorem setReg_pwr (s : State) (p o w) : (s.setReg p o w).pwr = s.pwr := rfl
@[simp] theorem setReg_thm (s : State) (p o w) : (s.setReg p o w).thm = s.thm := rfl
@[simp] theorem setReg_crs (s : State) (p o w) : (s.setReg p o w).crs = s.crs := rfl
@[simp] theorem setReg_slices (s : State) (p o w) : (s.setReg p o w).slices = s.slices := rfl
@[simp] theorem setReg_dtc (s : State) (p o w) : (s.setReg p o w).dtc = s.dtc := rfl
@[simp] theorem setReg_mch (s : State) (p o w) : (s.setReg p o w).mch = s.mch := rfl
@[simp] theorem setReg_mte (s : State) (p o w) : (s.setReg p o w).mte = s.mte := rfl
@[simp] theorem setReg_cages (s : State) (p o w) : (s.setReg p o w).cages = s.cages := rfl
@[simp] theorem setReg_ports (s : State) (p o w) : (s.setReg p o w).ports = s.ports := rfl
@[simp] theorem setReg_fxb (s : State) (p o w) : (s.setReg p o w).fxb = s.fxb := rfl
@[simp] theorem setReg_heads (s : State) (p o w) : (s.setReg p o w).heads = s.heads := rfl
@[simp] theorem setReg_sve (s : State) (p o w) : (s.setReg p o w).sve = s.sve := rfl

/-! ### setRegFld -/

@[simp] theorem setRegFld_pending (s : State) (p o l n v) : (s.setRegFld p o l n v).pending = s.pending := rfl
@[simp] theorem setRegFld_out (s : State) (p o l n v) : (s.setRegFld p o l n v).out = s.out := rfl
@[simp] theorem setRegFld_free (s : State) (p o l n v) : (s.setRegFld p o l n v).free = s.free := rfl
@[simp] theorem setRegFld_time (s : State) (p o l n v) : (s.setRegFld p o l n v).time = s.time := rfl
@[simp] theorem setRegFld_opMs (s : State) (p o l n v) : (s.setRegFld p o l n v).opMs = s.opMs := rfl
@[simp] theorem setRegFld_opNs (s : State) (p o l n v) : (s.setRegFld p o l n v).opNs = s.opNs := rfl
@[simp] theorem setRegFld_shadow (s : State) (p o l n v) : (s.setRegFld p o l n v).shadow = s.shadow := rfl
@[simp] theorem setRegFld_hold (s : State) (p o l n v) : (s.setRegFld p o l n v).hold = s.hold := rfl
@[simp] theorem setRegFld_perf (s : State) (p o l n v) : (s.setRegFld p o l n v).perf = s.perf := rfl
@[simp] theorem setRegFld_cyc (s : State) (p o l n v) : (s.setRegFld p o l n v).cyc = s.cyc := rfl
@[simp] theorem setRegFld_freezeAll (s : State) (p o l n v) : (s.setRegFld p o l n v).freezeAll = s.freezeAll := rfl
@[simp] theorem setRegFld_pages (s : State) (p o l n v) : (s.setRegFld p o l n v).pages = s.pages := rfl
@[simp] theorem setRegFld_mgt (s : State) (p o l n v) : (s.setRegFld p o l n v).mgt = s.mgt := rfl
@[simp] theorem setRegFld_flt (s : State) (p o l n v) : (s.setRegFld p o l n v).flt = s.flt := rfl
@[simp] theorem setRegFld_pan (s : State) (p o l n v) : (s.setRegFld p o l n v).pan = s.pan := rfl
@[simp] theorem setRegFld_pwr (s : State) (p o l n v) : (s.setRegFld p o l n v).pwr = s.pwr := rfl
@[simp] theorem setRegFld_thm (s : State) (p o l n v) : (s.setRegFld p o l n v).thm = s.thm := rfl
@[simp] theorem setRegFld_crs (s : State) (p o l n v) : (s.setRegFld p o l n v).crs = s.crs := rfl
@[simp] theorem setRegFld_slices (s : State) (p o l n v) : (s.setRegFld p o l n v).slices = s.slices := rfl
@[simp] theorem setRegFld_dtc (s : State) (p o l n v) : (s.setRegFld p o l n v).dtc = s.dtc := rfl
@[simp] theorem setRegFld_mch (s : State) (p o l n v) : (s.setRegFld p o l n v).mch = s.mch := rfl
@[simp] theorem setRegFld_mte (s : State) (p o l n v) : (s.setRegFld p o l n v).mte = s.mte := rfl
@[simp] theorem setRegFld_cages (s : State) (p o l n v) : (s.setRegFld p o l n v).cages = s.cages := rfl
@[simp] theorem setRegFld_ports (s : State) (p o l n v) : (s.setRegFld p o l n v).ports = s.ports := rfl
@[simp] theorem setRegFld_fxb (s : State) (p o l n v) : (s.setRegFld p o l n v).fxb = s.fxb := rfl
@[simp] theorem setRegFld_heads (s : State) (p o l n v) : (s.setRegFld p o l n v).heads = s.heads := rfl
@[simp] theorem setRegFld_sve (s : State) (p o l n v) : (s.setRegFld p o l n v).sve = s.sve := rfl

/-! ### countUp -/

@[simp] theorem countUp_pending (s : State) (p o l n v) : (s.countUp p o l n v).pending = s.pending := rfl
@[simp] theorem countUp_out (s : State) (p o l n v) : (s.countUp p o l n v).out = s.out := rfl
@[simp] theorem countUp_free (s : State) (p o l n v) : (s.countUp p o l n v).free = s.free := rfl
@[simp] theorem countUp_time (s : State) (p o l n v) : (s.countUp p o l n v).time = s.time := rfl
@[simp] theorem countUp_opMs (s : State) (p o l n v) : (s.countUp p o l n v).opMs = s.opMs := rfl
@[simp] theorem countUp_opNs (s : State) (p o l n v) : (s.countUp p o l n v).opNs = s.opNs := rfl
@[simp] theorem countUp_shadow (s : State) (p o l n v) : (s.countUp p o l n v).shadow = s.shadow := rfl
@[simp] theorem countUp_hold (s : State) (p o l n v) : (s.countUp p o l n v).hold = s.hold := rfl
@[simp] theorem countUp_perf (s : State) (p o l n v) : (s.countUp p o l n v).perf = s.perf := rfl
@[simp] theorem countUp_cyc (s : State) (p o l n v) : (s.countUp p o l n v).cyc = s.cyc := rfl
@[simp] theorem countUp_freezeAll (s : State) (p o l n v) : (s.countUp p o l n v).freezeAll = s.freezeAll := rfl
@[simp] theorem countUp_pages (s : State) (p o l n v) : (s.countUp p o l n v).pages = s.pages := rfl
@[simp] theorem countUp_mgt (s : State) (p o l n v) : (s.countUp p o l n v).mgt = s.mgt := rfl
@[simp] theorem countUp_flt (s : State) (p o l n v) : (s.countUp p o l n v).flt = s.flt := rfl
@[simp] theorem countUp_pan (s : State) (p o l n v) : (s.countUp p o l n v).pan = s.pan := rfl
@[simp] theorem countUp_pwr (s : State) (p o l n v) : (s.countUp p o l n v).pwr = s.pwr := rfl
@[simp] theorem countUp_thm (s : State) (p o l n v) : (s.countUp p o l n v).thm = s.thm := rfl
@[simp] theorem countUp_crs (s : State) (p o l n v) : (s.countUp p o l n v).crs = s.crs := rfl
@[simp] theorem countUp_slices (s : State) (p o l n v) : (s.countUp p o l n v).slices = s.slices := rfl
@[simp] theorem countUp_dtc (s : State) (p o l n v) : (s.countUp p o l n v).dtc = s.dtc := rfl
@[simp] theorem countUp_mch (s : State) (p o l n v) : (s.countUp p o l n v).mch = s.mch := rfl
@[simp] theorem countUp_mte (s : State) (p o l n v) : (s.countUp p o l n v).mte = s.mte := rfl
@[simp] theorem countUp_cages (s : State) (p o l n v) : (s.countUp p o l n v).cages = s.cages := rfl
@[simp] theorem countUp_ports (s : State) (p o l n v) : (s.countUp p o l n v).ports = s.ports := rfl
@[simp] theorem countUp_fxb (s : State) (p o l n v) : (s.countUp p o l n v).fxb = s.fxb := rfl
@[simp] theorem countUp_heads (s : State) (p o l n v) : (s.countUp p o l n v).heads = s.heads := rfl
@[simp] theorem countUp_sve (s : State) (p o l n v) : (s.countUp p o l n v).sve = s.sve := rfl

/-! ### A read after a write -/

@[simp] theorem slice_setSlice (s : State) (i x) : (s.setSlice i x).slice i = x := by simp [State.slice, State.setSlice]
theorem slice_setSlice_other (s : State) {i j} (x) (h : j ≠ i) : (s.setSlice i x).slice j = s.slice j := by
  simp [State.slice, State.setSlice, Tab.get_set_other _ _ _ h]
@[simp] theorem port_setPort (s : State) (i x) : (s.setPort i x).port i = x := by simp [State.port, State.setPort]
theorem port_setPort_other (s : State) {i j} (x) (h : j ≠ i) : (s.setPort i x).port j = s.port j := by
  simp [State.port, State.setPort, Tab.get_set_other _ _ _ h]
@[simp] theorem cage_setCage (s : State) (i x) : (s.setCage i x).cage i = x := by simp [State.cage, State.setCage]
theorem cage_setCage_other (s : State) {i j} (x) (h : j ≠ i) : (s.setCage i x).cage j = s.cage j := by
  simp [State.cage, State.setCage, Tab.get_set_other _ _ _ h]
@[simp] theorem head_setHead (s : State) (i x) : (s.setHead i x).head i = x := by simp [State.head, State.setHead]
theorem head_setHead_other (s : State) {i j} (x) (h : j ≠ i) : (s.setHead i x).head j = s.head j := by
  simp [State.head, State.setHead, Tab.get_set_other _ _ _ h]
@[simp] theorem dir_setDir (s : State) (i x) : (s.setDir i x).dir i = x := by simp [State.dir, State.setDir]
theorem dir_setDir_other (s : State) {i j} (x) (h : j ≠ i) : (s.setDir i x).dir j = s.dir j := by
  simp [State.dir, State.setDir, Tab.get_set_other _ _ _ h]
@[simp] theorem pair_setPair (s : State) (i x) : (s.setPair i x).pair i = x := by simp [State.pair, State.setPair]
theorem pair_setPair_other (s : State) {i j} (x) (h : j ≠ i) : (s.setPair i x).pair j = s.pair j := by
  simp [State.pair, State.setPair, Tab.get_set_other _ _ _ h]
@[simp] theorem die_setDie (s : State) (i x) : (s.setDie i x).die i = x := by simp [State.die, State.setDie]
theorem die_setDie_other (s : State) {i j} (x) (h : j ≠ i) : (s.setDie i x).die j = s.die j := by
  simp [State.die, State.setDie, Tab.get_set_other _ _ _ h]
@[simp] theorem block_setBlock (s : State) (i x) : (s.setBlock i x).block i = x := by simp [State.block, State.setBlock]
theorem block_setBlock_other (s : State) {i j} (x) (h : j ≠ i) : (s.setBlock i x).block j = s.block j := by
  simp [State.block, State.setBlock, Tab.get_set_other _ _ _ h]
@[simp] theorem seg_setSeg (s : State) (i x) : (s.setSeg i x).seg i = x := by simp [State.seg, State.setSeg]
theorem seg_setSeg_other (s : State) {i j} (x) (h : j ≠ i) : (s.setSeg i x).seg j = s.seg j := by
  simp [State.seg, State.setSeg, Tab.get_set_other _ _ _ h]
@[simp] theorem region_setRegion (s : State) (i x) : (s.setRegion i x).region i = x := by simp [State.region, State.setRegion]
theorem region_setRegion_other (s : State) {i j} (x) (h : j ≠ i) : (s.setRegion i x).region j = s.region j := by
  simp [State.region, State.setRegion, Tab.get_set_other _ _ _ h]
@[simp] theorem rwr_setRwr (s : State) (i x) : (s.setRwr i x).rwr i = x := by simp [State.rwr, State.setRwr]
theorem rwr_setRwr_other (s : State) {i j} (x) (h : j ≠ i) : (s.setRwr i x).rwr j = s.rwr j := by
  simp [State.rwr, State.setRwr, Tab.get_set_other _ _ _ h]
@[simp] theorem krange_setKrange (s : State) (i x) : (s.setKrange i x).krange i = x := by simp [State.krange, State.setKrange]
theorem krange_setKrange_other (s : State) {i j} (x) (h : j ≠ i) : (s.setKrange i x).krange j = s.krange j := by
  simp [State.krange, State.setKrange, Tab.get_set_other _ _ _ h]
@[simp] theorem rail_setRail (s : State) (i x) : (s.setRail i x).rail i = x := by simp [State.rail, State.setRail]
theorem rail_setRail_other (s : State) {i j} (x) (h : j ≠ i) : (s.setRail i x).rail j = s.rail j := by
  simp [State.rail, State.setRail, Tab.get_set_other _ _ _ h]
@[simp] theorem sensor_setSensor (s : State) (i x) : (s.setSensor i x).sensor i = x := by simp [State.sensor, State.setSensor]
theorem sensor_setSensor_other (s : State) {i j} (x) (h : j ≠ i) : (s.setSensor i x).sensor j = s.sensor j := by
  simp [State.sensor, State.setSensor, Tab.get_set_other _ _ _ h]
@[simp] theorem core_setCore (s : State) (i x) : (s.setCore i x).core i = x := by simp [State.core, State.setCore]
theorem core_setCore_other (s : State) {i j} (x) (h : j ≠ i) : (s.setCore i x).core j = s.core j := by
  simp [State.core, State.setCore, Tab.get_set_other _ _ _ h]

@[simp] theorem emit_out (s : State) (o) : (s.emit o).out = s.out ++ [o] := rfl

theorem regAddr_inj {p o p' o' : Nat} (h : o < 4096) (h' : o' < 4096) : regAddr p o = regAddr p' o' ↔ p = p' ∧ o = o' := by
  unfold regAddr
  omega

@[simp] theorem reg_setReg (s : State) (p o w) : (s.setReg p o w).reg p o = w := by simp [State.reg, State.setReg]

theorem reg_setReg_other (s : State) {p o p' o'} (w) (h : regAddr p' o' ≠ regAddr p o) : (s.setReg p o w).reg p' o' = s.reg p' o' := by
  unfold State.reg State.setReg Tab.get
  dsimp only
  unfold Tab.set
  split
  · rw [Tab.find_del_other _ h]
  · rw [Tab.find_put_other _ _ h]

/-! ### Raising an event changes registers of the page and FLT, nothing else (R487, R512) -/

theorem latch_eq (s : State) (p b f w) : s.latch p b f w = { s with regs := (s.latch p b f w).regs, flt := (s.latch p b f w).flt } := by
  suffices h : ∀ u, s.latch p b f w = u → u = { s with regs := u.regs, flt := u.flt } from h _ rfl
  intro u hu
  unfold State.latch at hu
  have h1 : ∀ t : State, t = { s with regs := t.regs, flt := t.flt } → ∀ x, { t with flt := x } = { s with regs := t.regs, flt := x } := by
    intro t ht x
    rw [ht]
  have h2 : ∀ t : State, t = { s with regs := t.regs, flt := t.flt } → ∀ o x, t.setReg p o x = { s with regs := (t.setReg p o x).regs, flt := t.flt } := by
    intro t ht o x
    unfold State.setReg
    rw [ht]
  extract_lets id cls conseq s1 s2 s3 src s4 at hu
  have k1 : s1 = { s with regs := s1.regs, flt := s1.flt } := h2 s rfl _ _
  have k2 : s2 = { s with regs := s2.regs, flt := s2.flt } := by
    simp only [s2]
    split
    · exact k1
    · exact h2 s1 k1 _ _
  have k3 : s3 = { s with regs := s3.regs, flt := s3.flt } := h2 s2 k2 _ _
  have k4 : s4 = { s with regs := s4.regs, flt := s4.flt } := by
    simp only [s4]
    split
    · exact k3
    · exact h1 s3 k3 _
  split at hu
  · rw [← hu]; exact k4
  · rw [← hu]; exact h1 s4 k4 _

theorem raiseAt_eq (s : State) (p src w) : s.raiseAt p src w = { s with regs := (s.raiseAt p src w).regs, flt := (s.raiseAt p src w).flt } := by
  unfold State.raiseAt
  split
  · rfl
  · exact latch_eq ..

@[simp] theorem raiseAt_pending (s : State) (p src w) : (s.raiseAt p src w).pending = s.pending := (congrArg State.pending (raiseAt_eq s p src w) :)
@[simp] theorem raiseAt_out (s : State) (p src w) : (s.raiseAt p src w).out = s.out := (congrArg State.out (raiseAt_eq s p src w) :)
@[simp] theorem raiseAt_free (s : State) (p src w) : (s.raiseAt p src w).free = s.free := (congrArg State.free (raiseAt_eq s p src w) :)
@[simp] theorem raiseAt_time (s : State) (p src w) : (s.raiseAt p src w).time = s.time := (congrArg State.time (raiseAt_eq s p src w) :)
@[simp] theorem raiseAt_opMs (s : State) (p src w) : (s.raiseAt p src w).opMs = s.opMs := (congrArg State.opMs (raiseAt_eq s p src w) :)
@[simp] theorem raiseAt_opNs (s : State) (p src w) : (s.raiseAt p src w).opNs = s.opNs := (congrArg State.opNs (raiseAt_eq s p src w) :)
@[simp] theorem raiseAt_shadow (s : State) (p src w) : (s.raiseAt p src w).shadow = s.shadow := (congrArg State.shadow (raiseAt_eq s p src w) :)
@[simp] theorem raiseAt_hold (s : State) (p src w) : (s.raiseAt p src w).hold = s.hold := (congrArg State.hold (raiseAt_eq s p src w) :)
@[simp] theorem raiseAt_perf (s : State) (p src w) : (s.raiseAt p src w).perf = s.perf := (congrArg State.perf (raiseAt_eq s p src w) :)
@[simp] theorem raiseAt_cyc (s : State) (p src w) : (s.raiseAt p src w).cyc = s.cyc := (congrArg State.cyc (raiseAt_eq s p src w) :)
@[simp] theorem raiseAt_freezeAll (s : State) (p src w) : (s.raiseAt p src w).freezeAll = s.freezeAll := (congrArg State.freezeAll (raiseAt_eq s p src w) :)
@[simp] theorem raiseAt_pages (s : State) (p src w) : (s.raiseAt p src w).pages = s.pages := (congrArg State.pages (raiseAt_eq s p src w) :)
@[simp] theorem raiseAt_mgt (s : State) (p src w) : (s.raiseAt p src w).mgt = s.mgt := (congrArg State.mgt (raiseAt_eq s p src w) :)
@[simp] theorem raiseAt_pan (s : State) (p src w) : (s.raiseAt p src w).pan = s.pan := (congrArg State.pan (raiseAt_eq s p src w) :)
@[simp] theorem raiseAt_pwr (s : State) (p src w) : (s.raiseAt p src w).pwr = s.pwr := (congrArg State.pwr (raiseAt_eq s p src w) :)
@[simp] theorem raiseAt_thm (s : State) (p src w) : (s.raiseAt p src w).thm = s.thm := (congrArg State.thm (raiseAt_eq s p src w) :)
@[simp] theorem raiseAt_crs (s : State) (p src w) : (s.raiseAt p src w).crs = s.crs := (congrArg State.crs (raiseAt_eq s p src w) :)
@[simp] theorem raiseAt_slices (s : State) (p src w) : (s.raiseAt p src w).slices = s.slices := (congrArg State.slices (raiseAt_eq s p src w) :)
@[simp] theorem raiseAt_dtc (s : State) (p src w) : (s.raiseAt p src w).dtc = s.dtc := (congrArg State.dtc (raiseAt_eq s p src w) :)
@[simp] theorem raiseAt_mch (s : State) (p src w) : (s.raiseAt p src w).mch = s.mch := (congrArg State.mch (raiseAt_eq s p src w) :)
@[simp] theorem raiseAt_mte (s : State) (p src w) : (s.raiseAt p src w).mte = s.mte := (congrArg State.mte (raiseAt_eq s p src w) :)
@[simp] theorem raiseAt_cages (s : State) (p src w) : (s.raiseAt p src w).cages = s.cages := (congrArg State.cages (raiseAt_eq s p src w) :)
@[simp] theorem raiseAt_ports (s : State) (p src w) : (s.raiseAt p src w).ports = s.ports := (congrArg State.ports (raiseAt_eq s p src w) :)
@[simp] theorem raiseAt_fxb (s : State) (p src w) : (s.raiseAt p src w).fxb = s.fxb := (congrArg State.fxb (raiseAt_eq s p src w) :)
@[simp] theorem raiseAt_heads (s : State) (p src w) : (s.raiseAt p src w).heads = s.heads := (congrArg State.heads (raiseAt_eq s p src w) :)
@[simp] theorem raiseAt_sve (s : State) (p src w) : (s.raiseAt p src w).sve = s.sve := (congrArg State.sve (raiseAt_eq s p src w) :)
@[simp] theorem raise_pending (s : State) (p src) : (s.raise p src).pending = s.pending := raiseAt_pending s p src {}
@[simp] theorem raise_out (s : State) (p src) : (s.raise p src).out = s.out := raiseAt_out s p src {}
@[simp] theorem raise_free (s : State) (p src) : (s.raise p src).free = s.free := raiseAt_free s p src {}
@[simp] theorem raise_time (s : State) (p src) : (s.raise p src).time = s.time := raiseAt_time s p src {}
@[simp] theorem raise_opMs (s : State) (p src) : (s.raise p src).opMs = s.opMs := raiseAt_opMs s p src {}
@[simp] theorem raise_opNs (s : State) (p src) : (s.raise p src).opNs = s.opNs := raiseAt_opNs s p src {}
@[simp] theorem raise_shadow (s : State) (p src) : (s.raise p src).shadow = s.shadow := raiseAt_shadow s p src {}
@[simp] theorem raise_hold (s : State) (p src) : (s.raise p src).hold = s.hold := raiseAt_hold s p src {}
@[simp] theorem raise_perf (s : State) (p src) : (s.raise p src).perf = s.perf := raiseAt_perf s p src {}
@[simp] theorem raise_cyc (s : State) (p src) : (s.raise p src).cyc = s.cyc := raiseAt_cyc s p src {}
@[simp] theorem raise_freezeAll (s : State) (p src) : (s.raise p src).freezeAll = s.freezeAll := raiseAt_freezeAll s p src {}
@[simp] theorem raise_pages (s : State) (p src) : (s.raise p src).pages = s.pages := raiseAt_pages s p src {}
@[simp] theorem raise_mgt (s : State) (p src) : (s.raise p src).mgt = s.mgt := raiseAt_mgt s p src {}
@[simp] theorem raise_pan (s : State) (p src) : (s.raise p src).pan = s.pan := raiseAt_pan s p src {}
@[simp] theorem raise_pwr (s : State) (p src) : (s.raise p src).pwr = s.pwr := raiseAt_pwr s p src {}
@[simp] theorem raise_thm (s : State) (p src) : (s.raise p src).thm = s.thm := raiseAt_thm s p src {}
@[simp] theorem raise_crs (s : State) (p src) : (s.raise p src).crs = s.crs := raiseAt_crs s p src {}
@[simp] theorem raise_slices (s : State) (p src) : (s.raise p src).slices = s.slices := raiseAt_slices s p src {}
@[simp] theorem raise_dtc (s : State) (p src) : (s.raise p src).dtc = s.dtc := raiseAt_dtc s p src {}
@[simp] theorem raise_mch (s : State) (p src) : (s.raise p src).mch = s.mch := raiseAt_mch s p src {}
@[simp] theorem raise_mte (s : State) (p src) : (s.raise p src).mte = s.mte := raiseAt_mte s p src {}
@[simp] theorem raise_cages (s : State) (p src) : (s.raise p src).cages = s.cages := raiseAt_cages s p src {}
@[simp] theorem raise_ports (s : State) (p src) : (s.raise p src).ports = s.ports := raiseAt_ports s p src {}
@[simp] theorem raise_fxb (s : State) (p src) : (s.raise p src).fxb = s.fxb := raiseAt_fxb s p src {}
@[simp] theorem raise_heads (s : State) (p src) : (s.raise p src).heads = s.heads := raiseAt_heads s p src {}
@[simp] theorem raise_sve (s : State) (p src) : (s.raise p src).sve = s.sve := raiseAt_sve s p src {}

/-! ### The live conditions, the reaction windows and the fences are FLT's (R510, R513, R515) -/

@[simp] theorem openWindow_pending (s : State) (d i) : (s.openWindow d i).pending = s.pending := rfl
@[simp] theorem unfence_pending (s : State) (d i) : (s.unfence d i).pending = s.pending := rfl
@[simp] theorem fence_pending (s : State) (d i) : (s.fence d i).pending = s.pending := by unfold State.fence; dsimp only; split <;> rfl
@[simp] theorem setLive_pending (s : State) (p src on) : (s.setLive p src on).pending = s.pending := by unfold State.setLive; split <;> rfl
@[simp] theorem openWindow_out (s : State) (d i) : (s.openWindow d i).out = s.out := rfl
@[simp] theorem unfence_out (s : State) (d i) : (s.unfence d i).out = s.out := rfl
@[simp] theorem fence_out (s : State) (d i) : (s.fence d i).out = s.out := by unfold State.fence; dsimp only; split <;> rfl
@[simp] theorem setLive_out (s : State) (p src on) : (s.setLive p src on).out = s.out := by unfold State.setLive; split <;> rfl
@[simp] theorem openWindow_free (s : State) (d i) : (s.openWindow d i).free = s.free := rfl
@[simp] theorem unfence_free (s : State) (d i) : (s.unfence d i).free = s.free := rfl
@[simp] theorem fence_free (s : State) (d i) : (s.fence d i).free = s.free := by unfold State.fence; dsimp only; split <;> rfl
@[simp] theorem setLive_free (s : State) (p src on) : (s.setLive p src on).free = s.free := by unfold State.setLive; split <;> rfl
@[simp] theorem openWindow_time (s : State) (d i) : (s.openWindow d i).time = s.time := rfl
@[simp] theorem unfence_time (s : State) (d i) : (s.unfence d i).time = s.time := rfl
@[simp] theorem fence_time (s : State) (d i) : (s.fence d i).time = s.time := by unfold State.fence; dsimp only; split <;> rfl
@[simp] theorem setLive_time (s : State) (p src on) : (s.setLive p src on).time = s.time := by unfold State.setLive; split <;> rfl
@[simp] theorem openWindow_opMs (s : State) (d i) : (s.openWindow d i).opMs = s.opMs := rfl
@[simp] theorem unfence_opMs (s : State) (d i) : (s.unfence d i).opMs = s.opMs := rfl
@[simp] theorem fence_opMs (s : State) (d i) : (s.fence d i).opMs = s.opMs := by unfold State.fence; dsimp only; split <;> rfl
@[simp] theorem setLive_opMs (s : State) (p src on) : (s.setLive p src on).opMs = s.opMs := by unfold State.setLive; split <;> rfl
@[simp] theorem openWindow_opNs (s : State) (d i) : (s.openWindow d i).opNs = s.opNs := rfl
@[simp] theorem unfence_opNs (s : State) (d i) : (s.unfence d i).opNs = s.opNs := rfl
@[simp] theorem fence_opNs (s : State) (d i) : (s.fence d i).opNs = s.opNs := by unfold State.fence; dsimp only; split <;> rfl
@[simp] theorem setLive_opNs (s : State) (p src on) : (s.setLive p src on).opNs = s.opNs := by unfold State.setLive; split <;> rfl
@[simp] theorem openWindow_regs (s : State) (d i) : (s.openWindow d i).regs = s.regs := rfl
@[simp] theorem unfence_regs (s : State) (d i) : (s.unfence d i).regs = s.regs := rfl
@[simp] theorem fence_regs (s : State) (d i) : (s.fence d i).regs = s.regs := by unfold State.fence; dsimp only; split <;> rfl
@[simp] theorem setLive_regs (s : State) (p src on) : (s.setLive p src on).regs = s.regs := by unfold State.setLive; split <;> rfl
@[simp] theorem openWindow_shadow (s : State) (d i) : (s.openWindow d i).shadow = s.shadow := rfl
@[simp] theorem unfence_shadow (s : State) (d i) : (s.unfence d i).shadow = s.shadow := rfl
@[simp] theorem fence_shadow (s : State) (d i) : (s.fence d i).shadow = s.shadow := by unfold State.fence; dsimp only; split <;> rfl
@[simp] theorem setLive_shadow (s : State) (p src on) : (s.setLive p src on).shadow = s.shadow := by unfold State.setLive; split <;> rfl
@[simp] theorem openWindow_hold (s : State) (d i) : (s.openWindow d i).hold = s.hold := rfl
@[simp] theorem unfence_hold (s : State) (d i) : (s.unfence d i).hold = s.hold := rfl
@[simp] theorem fence_hold (s : State) (d i) : (s.fence d i).hold = s.hold := by unfold State.fence; dsimp only; split <;> rfl
@[simp] theorem setLive_hold (s : State) (p src on) : (s.setLive p src on).hold = s.hold := by unfold State.setLive; split <;> rfl
@[simp] theorem openWindow_perf (s : State) (d i) : (s.openWindow d i).perf = s.perf := rfl
@[simp] theorem unfence_perf (s : State) (d i) : (s.unfence d i).perf = s.perf := rfl
@[simp] theorem fence_perf (s : State) (d i) : (s.fence d i).perf = s.perf := by unfold State.fence; dsimp only; split <;> rfl
@[simp] theorem setLive_perf (s : State) (p src on) : (s.setLive p src on).perf = s.perf := by unfold State.setLive; split <;> rfl
@[simp] theorem openWindow_cyc (s : State) (d i) : (s.openWindow d i).cyc = s.cyc := rfl
@[simp] theorem unfence_cyc (s : State) (d i) : (s.unfence d i).cyc = s.cyc := rfl
@[simp] theorem fence_cyc (s : State) (d i) : (s.fence d i).cyc = s.cyc := by unfold State.fence; dsimp only; split <;> rfl
@[simp] theorem setLive_cyc (s : State) (p src on) : (s.setLive p src on).cyc = s.cyc := by unfold State.setLive; split <;> rfl
@[simp] theorem openWindow_freezeAll (s : State) (d i) : (s.openWindow d i).freezeAll = s.freezeAll := rfl
@[simp] theorem unfence_freezeAll (s : State) (d i) : (s.unfence d i).freezeAll = s.freezeAll := rfl
@[simp] theorem fence_freezeAll (s : State) (d i) : (s.fence d i).freezeAll = s.freezeAll := by unfold State.fence; dsimp only; split <;> rfl
@[simp] theorem setLive_freezeAll (s : State) (p src on) : (s.setLive p src on).freezeAll = s.freezeAll := by unfold State.setLive; split <;> rfl
@[simp] theorem openWindow_pages (s : State) (d i) : (s.openWindow d i).pages = s.pages := rfl
@[simp] theorem unfence_pages (s : State) (d i) : (s.unfence d i).pages = s.pages := rfl
@[simp] theorem fence_pages (s : State) (d i) : (s.fence d i).pages = s.pages := by unfold State.fence; dsimp only; split <;> rfl
@[simp] theorem setLive_pages (s : State) (p src on) : (s.setLive p src on).pages = s.pages := by unfold State.setLive; split <;> rfl
@[simp] theorem openWindow_mgt (s : State) (d i) : (s.openWindow d i).mgt = s.mgt := rfl
@[simp] theorem unfence_mgt (s : State) (d i) : (s.unfence d i).mgt = s.mgt := rfl
@[simp] theorem fence_mgt (s : State) (d i) : (s.fence d i).mgt = s.mgt := by unfold State.fence; dsimp only; split <;> rfl
@[simp] theorem setLive_mgt (s : State) (p src on) : (s.setLive p src on).mgt = s.mgt := by unfold State.setLive; split <;> rfl
@[simp] theorem openWindow_pan (s : State) (d i) : (s.openWindow d i).pan = s.pan := rfl
@[simp] theorem unfence_pan (s : State) (d i) : (s.unfence d i).pan = s.pan := rfl
@[simp] theorem fence_pan (s : State) (d i) : (s.fence d i).pan = s.pan := by unfold State.fence; dsimp only; split <;> rfl
@[simp] theorem setLive_pan (s : State) (p src on) : (s.setLive p src on).pan = s.pan := by unfold State.setLive; split <;> rfl
@[simp] theorem openWindow_pwr (s : State) (d i) : (s.openWindow d i).pwr = s.pwr := rfl
@[simp] theorem unfence_pwr (s : State) (d i) : (s.unfence d i).pwr = s.pwr := rfl
@[simp] theorem fence_pwr (s : State) (d i) : (s.fence d i).pwr = s.pwr := by unfold State.fence; dsimp only; split <;> rfl
@[simp] theorem setLive_pwr (s : State) (p src on) : (s.setLive p src on).pwr = s.pwr := by unfold State.setLive; split <;> rfl
@[simp] theorem openWindow_thm (s : State) (d i) : (s.openWindow d i).thm = s.thm := rfl
@[simp] theorem unfence_thm (s : State) (d i) : (s.unfence d i).thm = s.thm := rfl
@[simp] theorem fence_thm (s : State) (d i) : (s.fence d i).thm = s.thm := by unfold State.fence; dsimp only; split <;> rfl
@[simp] theorem setLive_thm (s : State) (p src on) : (s.setLive p src on).thm = s.thm := by unfold State.setLive; split <;> rfl
@[simp] theorem openWindow_crs (s : State) (d i) : (s.openWindow d i).crs = s.crs := rfl
@[simp] theorem unfence_crs (s : State) (d i) : (s.unfence d i).crs = s.crs := rfl
@[simp] theorem fence_crs (s : State) (d i) : (s.fence d i).crs = s.crs := by unfold State.fence; dsimp only; split <;> rfl
@[simp] theorem setLive_crs (s : State) (p src on) : (s.setLive p src on).crs = s.crs := by unfold State.setLive; split <;> rfl
@[simp] theorem openWindow_slices (s : State) (d i) : (s.openWindow d i).slices = s.slices := rfl
@[simp] theorem unfence_slices (s : State) (d i) : (s.unfence d i).slices = s.slices := rfl
@[simp] theorem fence_slices (s : State) (d i) : (s.fence d i).slices = s.slices := by unfold State.fence; dsimp only; split <;> rfl
@[simp] theorem setLive_slices (s : State) (p src on) : (s.setLive p src on).slices = s.slices := by unfold State.setLive; split <;> rfl
@[simp] theorem openWindow_dtc (s : State) (d i) : (s.openWindow d i).dtc = s.dtc := rfl
@[simp] theorem unfence_dtc (s : State) (d i) : (s.unfence d i).dtc = s.dtc := rfl
@[simp] theorem fence_dtc (s : State) (d i) : (s.fence d i).dtc = s.dtc := by unfold State.fence; dsimp only; split <;> rfl
@[simp] theorem setLive_dtc (s : State) (p src on) : (s.setLive p src on).dtc = s.dtc := by unfold State.setLive; split <;> rfl
@[simp] theorem openWindow_mch (s : State) (d i) : (s.openWindow d i).mch = s.mch := rfl
@[simp] theorem unfence_mch (s : State) (d i) : (s.unfence d i).mch = s.mch := rfl
@[simp] theorem fence_mch (s : State) (d i) : (s.fence d i).mch = s.mch := by unfold State.fence; dsimp only; split <;> rfl
@[simp] theorem setLive_mch (s : State) (p src on) : (s.setLive p src on).mch = s.mch := by unfold State.setLive; split <;> rfl
@[simp] theorem openWindow_mte (s : State) (d i) : (s.openWindow d i).mte = s.mte := rfl
@[simp] theorem unfence_mte (s : State) (d i) : (s.unfence d i).mte = s.mte := rfl
@[simp] theorem fence_mte (s : State) (d i) : (s.fence d i).mte = s.mte := by unfold State.fence; dsimp only; split <;> rfl
@[simp] theorem setLive_mte (s : State) (p src on) : (s.setLive p src on).mte = s.mte := by unfold State.setLive; split <;> rfl
@[simp] theorem openWindow_cages (s : State) (d i) : (s.openWindow d i).cages = s.cages := rfl
@[simp] theorem unfence_cages (s : State) (d i) : (s.unfence d i).cages = s.cages := rfl
@[simp] theorem fence_cages (s : State) (d i) : (s.fence d i).cages = s.cages := by unfold State.fence; dsimp only; split <;> rfl
@[simp] theorem setLive_cages (s : State) (p src on) : (s.setLive p src on).cages = s.cages := by unfold State.setLive; split <;> rfl
@[simp] theorem openWindow_ports (s : State) (d i) : (s.openWindow d i).ports = s.ports := rfl
@[simp] theorem unfence_ports (s : State) (d i) : (s.unfence d i).ports = s.ports := rfl
@[simp] theorem fence_ports (s : State) (d i) : (s.fence d i).ports = s.ports := by unfold State.fence; dsimp only; split <;> rfl
@[simp] theorem setLive_ports (s : State) (p src on) : (s.setLive p src on).ports = s.ports := by unfold State.setLive; split <;> rfl
@[simp] theorem openWindow_fxb (s : State) (d i) : (s.openWindow d i).fxb = s.fxb := rfl
@[simp] theorem unfence_fxb (s : State) (d i) : (s.unfence d i).fxb = s.fxb := rfl
@[simp] theorem fence_fxb (s : State) (d i) : (s.fence d i).fxb = s.fxb := by unfold State.fence; dsimp only; split <;> rfl
@[simp] theorem setLive_fxb (s : State) (p src on) : (s.setLive p src on).fxb = s.fxb := by unfold State.setLive; split <;> rfl
@[simp] theorem openWindow_heads (s : State) (d i) : (s.openWindow d i).heads = s.heads := rfl
@[simp] theorem unfence_heads (s : State) (d i) : (s.unfence d i).heads = s.heads := rfl
@[simp] theorem fence_heads (s : State) (d i) : (s.fence d i).heads = s.heads := by unfold State.fence; dsimp only; split <;> rfl
@[simp] theorem setLive_heads (s : State) (p src on) : (s.setLive p src on).heads = s.heads := by unfold State.setLive; split <;> rfl
@[simp] theorem openWindow_sve (s : State) (d i) : (s.openWindow d i).sve = s.sve := rfl
@[simp] theorem unfence_sve (s : State) (d i) : (s.unfence d i).sve = s.sve := rfl
@[simp] theorem fence_sve (s : State) (d i) : (s.fence d i).sve = s.sve := by unfold State.fence; dsimp only; split <;> rfl
@[simp] theorem setLive_sve (s : State) (p src on) : (s.setLive p src on).sve = s.sve := by unfold State.setLive; split <;> rfl

/-! ### The pins' interrupts follow changes of the levels alone (R488) -/

@[simp] theorem pinIbis_same (s : State) : s.pinIbis s.levels = s := by simp [State.pinIbis]

theorem pinIbis_of_levels (s t : State) (h : t.levels = s.levels) : t.pinIbis s.levels = t := by rw [← h]; simp

end Sys2Proof.Machine.State
end

