-- ==== Sys2Proof/WellFormed.lean ====
section
/-! DEFINITION. Which commands are well formed: the operands whose types admit more than the spec's forms (R11, R23, R328, R338, R350,
R398, R441, R461, R474, R480, R542, R562). Every other command is well formed whatever its operands. -/

namespace Sys2Proof

/-- A flit carries the 14 grains of R328, and its first header lies in one of them or in none (R329). -/
def Flit.wf (f : Flit) : Bool := decide (f.grains.length ≤ 14) && (decide (f.first.toNat ≤ 13) || f.first == 15)

/-- An LSA fragment numbers itself within its fragments and carries at most the neighbours that fit (R350). -/
def LsaFrag.wf (x : LsaFrag) : Bool := decide (x.frag.toNat ≤ x.fragsM1.toNat) && decide (x.nbrs.length ≤ 48)

/-- An access of the register bus is 1, 2, 4 or 8 bytes wide (R6). -/
def widthOk (n : Nat) : Bool := n == 1 || n == 2 || n == 4 || n == 8

/-- The operands have the forms that the spec gives the command. -/
def Instr.wf : Instr → Bool
  | .cableIdentityReadDone _ bytes => decide (7 ≤ bytes.length)
  | .cxlMemRead _ hpa _ => decide (hpa.toNat % 64 = 0)
  | .cxlMemWrite _ hpa _ _ _ _ => decide (hpa.toNat % 64 = 0)
  | .dimmThermalRound temps => decide (temps.temps.length = 16)
  | .dimmReread temps => decide (temps.length = 16)
  | .dataFlit _ f => f.wf
  | .idleFlit _ f => f.wf
  | .nakFlit _ f => f.wf
  | .clearFlit _ f => f.wf
  | .blkData _ _ lines _ => decide (1 ≤ lines.length) && decide (lines.length ≤ 3)
  | .lsa _ x => x.wf
  | .gstClaim _ c => decide (c.state.toNat ≤ 5)
  | .fwChunk _ _ _ bytes => decide (1 ≤ bytes.length) && decide (bytes.length ≤ 208)
  | .krTable _ _ bases => decide (bases.length = 63)
  | .mctpPacket p => decide (p.payload.length ≤ 64)
  | .write _ words _ => decide (1 ≤ words.length) && decide (words.length ≤ 128)
  | .cmdPush words => decide (1 ≤ words.length) && decide (words.length ≤ 128)
  | .badOp op => decide (0xc4 ≤ op.toNat) && decide (op.toNat ≤ 0xc7)
  | .registerWrite _ _ width _ => widthOk width
  | .adcScanRound mv => decide (mv.mv.length = 40)
  | .thermalRound temps => decide (temps.length = 164)
  | .registerRead _ _ width => widthOk width
  | .cagePresenceAssert .. | .cagePresenceDebounceExpiry .. | .cableIdentityReadTimeout .. | .cagePresenceDeassert ..
  | .bladeSeatClose | .bladeSeatOpen | .pwrEnRise | .pwrEnFall | .mrstNFall | .mrstNRise .. | .pfailNFall | .spdHubReadDone ..
  | .spdHubReadTimeout .. | .holdupChargeTimeout | .cxlMemAtomic .. | .missFullWaitEnd .. | .tierLookupDone .. | .mapLookupDone ..
  | .crumbReadDone .. | .crumbReadTimeout .. | .reconstructionDone .. | .lineCheckDone .. | .secondSourceReadDone ..
  | .fillArrival .. | .laneEntryRelease .. | .mergeDrainAgeExpiry .. | .dtcLineAccept .. | .pageFillDone ..
  | .frameTransferDone .. | .stageAgeExpiry .. | .fillWindowBoundary | .stripeGatherTimeout | .stripeIssue .. | .programDone ..
  | .programFailure .. | .eraseDone .. | .eraseFailure .. | .resumeIdleExpiry .. | .busCrcFail .. | .localServiceTimeout ..
  | .remoteRequestTimeout .. | .fabricDeliveryTimeout .. | .barrierWrite .. | .barrierComplete .. | .gpfPhase1 .. | .gpfPhase2 ..
  | .gpfTimeout .. | .regionCommit .. | .regionCommitQuiesceTimeout | .regionCommitRetry | .discard .. | .slcLcEnableWrite ..
  | .slcInvalidateStart .. | .invalidationDone .. | .slcLockCommit .. | .slcPreload .. | .preloadDone .. | .pbSramUe ..
  | .sliceFence .. | .channelTrainingDone .. | .channelTrainingTimeout .. | .readmitTimeExpiry | .dramError .. | .patrolScrubPass
  | .channelFence .. | .dtcChFence .. | .dtcChReadmit .. | .reformDrainEnd | .reformFreezeEnd | .reformRelocateEnd
  | .reformTimeout | .holdMeas .. | .driftSurveyStart | .survey | .mediaThermalRound | .mchGrpmodeCommit | .modeMoveEnd ..
  | .mchChFence .. | .mchChDiefence .. | .wsnReserve | .wsnReserveDurable | .journalFlushExpiry | .journalStripeProgrammed
  | .checkpointWrite .. | .startupBlockScanEnd | .startupJournalLocateEnd | .startupImageLoadEnd | .startupMapLoadEnd
  | .startupReplayEnd | .startupTailScanEnd | .fullRebuild | .settle | .scraperVictimSelect .. | .relocationProgrammed ..
  | .setReleaseDurable .. | .rewindMark .. | .rewindMarkHoldEnd .. | .rwMarkDurable .. | .rewindMarkHoldTimeout .. | .rewindTo ..
  | .rewindToQuiesceEnd .. | .rwVoidDurable .. | .rwDoneDurable .. | .rewindQuiesceTimeout .. | .rewindDrop ..
  | .mirrorConfirmTimeout .. | .elvucTrainStart .. | .ts1 .. | .ts2 .. | .equalisationRequest .. | .equalisationDone ..
  | .verifyEnd .. | .trainingTimeout .. | .trainingRetryExpiry .. | .replayTimerExpiry .. | .ackIdleDue .. | .recoveryEnd ..
  | .alignmentLoss .. | .rd .. | .wr .. | .atom .. | .barrier .. | .gpf .. | .rdData .. | .wrStat .. | .atomData ..
  | .barrierDone .. | .gpfDone .. | .retry .. | .esqAck .. | .err .. | .esqAckDue .. | .e2eResendExpiry .. | .hello ..
  | .devReq .. | .devGrant .. | .tree .. | .linkTrickle .. | .linkWake .. | .trickleIdleExpiry .. | .trickleExitTimeout ..
  | .refreshInterval | .lsaExpire .. | .electionSettleExpiry | .devReqRepeat | .routeHolddownExpiry | .oldEscapeExpiry
  | .prtCtlRetrain .. | .fxbFabidCommit | .gstReq .. | .gstRsp .. | .gstUpd .. | .gstAck .. | .gstSync .. | .standbyAckTimeout ..
  | .gstGapTimeout | .claimWindowExpiry | .prepareTimeout .. | .pageCtl .. | .pageAck .. | .migrationCopyEnd ..
  | .convergePassEnd .. | .switchReady .. | .switchTimeout .. | .switchReadyResend .. | .switchCommitApplied ..
  | .drainQuietExpiry .. | .lineAck .. | .copyEnd .. | .lagBoundReached .. | .lineUpdateAckTimeout .. | .remirrorDelayExpiry ..
  | .rwMarker .. | .rwFwd .. | .rwConf .. | .leaseLost | .dedupEntryExpiry .. | .fwuCtl .. | .fwuDone .. | .fwActivationWaitExpiry
  | .fwActivationTimeout .. | .headLinkTrained .. | .headLinkDown .. | .l0pWidthChange .. | .hdmDecoderCommit ..
  | .conventionalReset .. | .hotReset .. | .functionLevelReset .. | .ideFail .. | .dcAddTimeout .. | .dcReleaseTimeout ..
  | .getEventRecords .. | .clearEventRecords .. | .getEventInterruptPolicy .. | .setEventInterruptPolicy .. | .getFwInfo ..
  | .getTimestamp .. | .setTimestamp .. | .getSupportedLogs .. | .getLog .. | .identifyMemoryDevice .. | .getPartitionInfo ..
  | .getHealthInfo .. | .getAlertConfiguration .. | .setAlertConfiguration .. | .getShutdownState .. | .setShutdownState ..
  | .getPoisonList .. | .injectPoison .. | .clearPoison .. | .getDcConfiguration .. | .getDcExtentList .. | .addDcResponse ..
  | .releaseDynamicCapacity .. | .mailboxUnsupported .. | .lorlekExec .. | .lorlekCompletions .. | .kxOffer .. | .kxCert ..
  | .kxProof .. | .kxDone .. | .linkAuth .. | .rekeyIntervalExpiry .. | .krPush .. | .krAck .. | .krPull .. | .keyWaitExpiry
  | .keySlotParityFail .. | .keyFenced .. | .getVersion .. | .getCapabilities .. | .negotiateAlgorithms .. | .getDigests ..
  | .getCertificate .. | .challenge .. | .getMeasurements .. | .keyExchange .. | .finish .. | .heartbeat .. | .keyUpdate ..
  | .endSession .. | .setCertificate .. | .spdmUnsupportedRequest .. | .ideKmQuery .. | .ideKmKeyProg .. | .ideKmKSetGo ..
  | .ideKmKSetStop .. | .setEndpointId .. | .getEndpointId | .getMctpVersionSupport | .getMessageTypeSupport | .getEndpointUuid
  | .crsTestConsent .. | .unlockToken .. | .consentWindowExpiry | .bootMonitorCheck .. | .enec .. | .disec .. | .rstdaa
  | .entdaa .. | .setdasa .. | .setnewda .. | .setmwl .. | .setmrl .. | .getmwl | .getmrl | .getpid | .getbcr | .getdcr
  | .getstatus | .getmxds | .getcaps | .enthdr0 | .unsupportedCcc .. | .hotJoinRepeat | .ibiResend | .setRead .. | .privateRead ..
  | .cplPop | .mgtCmdPushWrite .. | .mgtCmdLastWrite .. | .mgtCplHeadRead .. | .completionHoldExpiry .. | .cmdAbandon
  | .cplAbandon | .nop .. | .handleQuery .. | .segAlloc .. | .segFree .. | .segBind .. | .segUnbind .. | .segMigrate ..
  | .segEvacuate .. | .mirrorSet .. | .segRecover .. | .segAbort .. | .krSet .. | .keyGen .. | .keyImport .. | .keyErase ..
  | .fwLoad .. | .fwStart .. | .fwAbort .. | .powerProfile .. | .powerState .. | .moduleReset .. | .sanitize .. | .sanitizeDone
  | .paramSave .. | .paramDefault .. | .evlogClear .. | .ctrlCommit .. | .ctrlLock .. | .ctrlReset .. | .ctrlRun ..
  | .quiesceDone .. | .evtStatW1c .. | .evtForceWrite .. | .perfCtlClear .. | .freezeAll .. | .clearAll .. | .eventSourceLatch
  | .fenceReactionEnd .. | .consequentialWindowExpiry .. | .recordHoldoffExpiry .. | .safeState .. | .safeFlushEnd
  | .safeFlushTimeout | .fltInjWrite .. | .evrCursorWrite .. | .evrNextNext .. | .evrNextOldest .. | .evrNextNewest ..
  | .spillPageExpiry | .pantryWrite .. | .pantryRecall | .recallDone .. | .opsecWriteExpiry | .unlockRead .. | .unlockWrite ..
  | .setReadPassword .. | .setWritePassword .. | .lockUnlocks .. | .passwordHoldExpiry | .sequencerStepDone
  | .sequencerStepTimeout .. | .minOffTimeExpiry | .powerUpStart | .orderlyFlushEnd | .orderlyFlushTimeout | .inputTrip ..
  | .flushDrainEnd | .flushProgramEnd | .flushJournalEnd .. | .flushReleasePhaseEnd | .flushShort | .holdupMeasureSchedule
  | .cappedLoopTick .. | .autoIdleEntry | .domainUngate .. | .domainRegate .. | .deepIdleWake | .throttleGraceExpiry
  | .throttleReleaseExpiry | .thermShut .. | .thermRestart | .pllLockLoss | .pllRelock | .pllRelockTimeout | .referenceFailure
  | .subsystemResetPrt .. | .subsystemResetSve .. | .unitResetEnd .. | .aonReset .. | .startupRelease | .startupBringupEnd
  | .startupEnable | .pwrLogcurWrite .. | .pwrLogNext .. | .pwrLogOldest .. | .pwrLogNewest .. | .pwrLogClear ..
  | .pwrLogCompatWrite .. | .pfailNRise | .keySlotReloadDone .. | .receiverDetectionDone .. | .discardCheckAnswer ..
  | .debugAccess .. => true

end Sys2Proof
end

