-- ==== Sys2Proof/Tests/Slice0.lean ====
section
/-! SUPPORT. Tests: what the well-formedness check refuses, values that the spec or a standard states, and, for each statement of the
certificates, states and operands that meet the hypotheses of each of its clauses. -/

namespace Sys2Proof.Machine

open Sys2Proof

/-! ### Ill-formed commands are refused -/

theorem test_wf_cable : (Instr.cableIdentityReadDone 0 (List.replicate 6 0)).wf = false := by decide
theorem test_wf_read_address : (Instr.cxlMemRead 0 32 ⟨0, .none⟩).wf = false := by decide
theorem test_wf_write_address : (Instr.cxlMemWrite 0 1 0 0 0 false).wf = false := by decide
theorem test_wf_dimm_round : (Instr.dimmThermalRound ⟨List.replicate 15 0, 0⟩).wf = false := by decide
theorem test_wf_dimm_reread : (Instr.dimmReread (List.replicate 17 0)).wf = false := by decide
theorem test_wf_data_flit : (Instr.dataFlit 0 { (default : Flit) with grains := List.replicate 15 0 }).wf = false := by decide
theorem test_wf_idle_flit : (Instr.idleFlit 0 { (default : Flit) with first := 14 }).wf = false := by decide
theorem test_wf_nak_flit : (Instr.nakFlit 0 { (default : Flit) with first := 14 }).wf = false := by decide
theorem test_wf_clear_flit : (Instr.clearFlit 0 { (default : Flit) with first := 14 }).wf = false := by decide
theorem test_wf_bulk_none : (Instr.blkData default 0 [] 0).wf = false := by decide
theorem test_wf_bulk_four : (Instr.blkData default 0 (List.replicate 4 default) 0).wf = false := by decide
theorem test_wf_lsa : (Instr.lsa 0 { (default : LsaFrag) with frag := 1 }).wf = false := by decide
theorem test_wf_lsa_neighbours : (Instr.lsa 0 { (default : LsaFrag) with nbrs := List.replicate 49 default }).wf = false := by decide
theorem test_wf_claim : (Instr.gstClaim default { (default : Claim) with state := 6 }).wf = false := by decide
theorem test_wf_chunk_empty : (Instr.fwChunk default 0 0 []).wf = false := by decide
set_option maxRecDepth 20000 in
theorem test_wf_chunk_long : (Instr.fwChunk default 0 0 (List.replicate 209 0)).wf = false := by decide
theorem test_wf_key_table : (Instr.krTable default 0 (List.replicate 62 0)).wf = false := by decide
theorem test_wf_mctp : (Instr.mctpPacket { (default : MctpPacket) with payload := List.replicate 65 0 }).wf = false := by decide
theorem test_wf_write_empty : (Instr.write 0 [] 0).wf = false := by decide
set_option maxRecDepth 20000 in
theorem test_wf_write_long : (Instr.write 0 (List.replicate 129 0) 0).wf = false := by decide
theorem test_wf_push : (Instr.cmdPush []).wf = false := by decide
theorem test_wf_bad_op : (Instr.badOp 0xc3).wf = false := by decide
theorem test_wf_write_width : (Instr.registerWrite .i3c 0 3 0).wf = false := by decide
theorem test_wf_read_width : (Instr.registerRead .i3c 0 0).wf = false := by decide
theorem test_wf_adc : (Instr.adcScanRound ⟨List.replicate 39 0, [], []⟩).wf = false := by decide
set_option maxRecDepth 20000 in
theorem test_wf_thermal : (Instr.thermalRound (List.replicate 16 0)).wf = false := by decide
theorem test_wf_good : (Instr.registerRead .i3c 0 4).wf = true := by decide

/-! ### Values that the spec or a standard states -/

/-- SHA-256 of the empty message (FIPS 180-4). -/
theorem test_sha256_empty : sha256 [] = 0xe3b0c44298fc1c149afbf4c8996fb92427ae41e4649b934ca495991b7852b855#256 := by decide +kernel

/-- The LMP of FGA 0x0_4000_3040 in a segment at LSI 5 is (5 << 18) | 3 (R90). -/
theorem test_lmp : lmpOf 5 (fgaLine 0x40003040#56) = 0x140003#32 := by decide

/-- The GSN and the line in its page of that FGA (R79, R91). -/
theorem test_gsn : lineGsn (fgaLine 0x40003040#56) = 1 ∧ lineInPage (fgaLine 0x40003040#56) = 1 := by decide

/-- A cable descriptor with a wrong checksum is no descriptor (R23). -/
theorem test_cable_checksum : parseCable [0x4b, 1, 2, 30, 0x34, 0x12, 0xb3] = none := by decide

/-- Reserved breakout and rate codes leave the cable unidentified (R23). -/
theorem test_cable_reserved : parseCable [0x4b, 3, 2, 30, 0, 0, 0x6e] = none ∧ parseCable [0x4b, 0, 4, 30, 0, 0, 0x6d] = none := by decide

/-- The pages on both sides of each border of R578. -/
theorem test_pages : pageKind 0x006 = some .pan ∧ pageKind 0x007 = none ∧ pageKind 0x008 = some .crs0 ∧ pageKind 0x028 = some .dtc ∧
    pageKind 0x029 = none ∧ pageKind 0x1bf = none ∧ pageKind 0x1c0 = some .head ∧ pageKind 0xf0f = some .dbg ∧ pageKind 0xf10 = none := by decide

/-- The defaults of the shutdown trip (R567) and of the rights of I3C and of a head (R450). -/
theorem test_reset_trip : State.reset.trip = 130 := by decide

/-- The serial-number arithmetic of key generations: 1 is ahead of 0xffff, and equal generations are not (R441). -/
theorem test_gen : genAhead 1 0xffff = true ∧ genAhead 5 5 = false ∧ genAhead 0 0x8000 = false := by decide

/-- A segment table row survives AON reset only through the medium: reset holds none. -/
theorem test_reset_empty : State.reset.sve.gst = [] ∧ State.reset.mte.map = [] ∧ State.reset.pan.rings = [] := by decide

/-- MRST_N low in reset leaves the strap samples alone; its rise takes them (R30). -/
theorem test_straps : (after State.reset (exec (.mrstNRise 2) { State.reset with pwr := { State.reset.pwr with inReset := true } })).mgt.straps = 2 := by
  decide

/-- A GPF phase 1 request to a port block without a head changes nothing (R178, R404). -/
theorem test_gpf_no_head : exec (.gpfPhase1 0) State.reset = .next State.reset := by rfl

/-- SETMWL below the lower limit is refused (R470). -/
theorem test_setmwl : (after State.reset (exec (.setmwl 63) State.reset)).mgt.mwl = 516 ∧
    (after State.reset (exec (.setmwl 63) State.reset)).out = [.i3cNack] := by decide

/-- GETPID before an address is assigned is not answered (R471). -/
theorem test_getpid : (after State.reset (exec .getpid State.reset)).out = [.i3cNack] := by decide

/-! ### States and operands that meet the hypotheses of the statements -/

/-- A module that is On and knows a custodian. -/
def W : State :=
  { State.reset with pages := { started := true }, pwr := { st := 3 }, fxb := { cust := 5, devnum := 7 } }

/-- The same with a head on port block 0 that is trained and has every right; its first GiB is the register window. -/
def Wh : State :=
  let s := { W with heads := [(0, { st := 3, fullWidth := 4, decoders := [(0, ⟨0, 0x100000000000, 0, 0, false⟩)] })],
                    sve := { W.sve with tabled := true } }
  ((s.setRegFld 0x100 0x100 8 8 1).setReg 0x1c0 0x10c 0xffffffff).setReg 0x00a 0x104 0xfff

/-- The same with the first GiB of the fabric bound to extent slot 0 for reads and writes, and owned by this module. -/
def Wa : State :=
  { Wh with heads := [(0, { Wh.head 0 with extents := [(0, 0xe0000000)] })], fxb := { Wh.fxb with dir := [(0, { st := 1, owner := 7 })] } }

/-- The same with port 0.0 Active, so that messages to device 7 arrive. -/
def Wp : State := { W with ports := [(0, { st := 3, phase := 6 })] }

/-- A message to this module. -/
def R : Routing := { (default : Routing) with dst := 7, src := 9 }

/-- A serial number that is not this module\'s. -/
theorem other_serial : ownSerial + 1 ≠ ownSerial := by
  generalize ownSerial = x
  bv_omega

/-- A firmware image of one byte, whose header is that of R463. -/
def image : FwImage := { received := 4097, bytes := [(0, 83), (1, 78), (2, 68), (3, 78), (4, 1), (12, 1), (16, 110), (17, 52), (18, 11), (19, 156), (20, 255), (21, 179), (22, 122), (23, 152), (24, 156), (25, 165), (26, 68), (27, 230), (28, 187), (29, 120), (30, 10), (31, 44), (32, 120), (33, 144), (34, 29), (35, 63), (36, 179), (37, 55), (38, 56), (39, 118), (40, 133), (41, 17), (42, 163), (43, 6), (44, 23), (45, 175), (46, 160), (47, 29), (48, 1)] }

/-- The image passes every check but those of its signatures, which the model leaves open (log 11). -/
theorem image_check (h : Config.fwChainOk (image.span 0x040 3840) = true)
    (g : Config.fwSigOk (image.span 0x040 3840) (image.span 0 0xf40) (image.span 0xf40 64) = true) : image.check 4097 0 = stOk := by
  have a : (image.le 0x000 4 != 0x4e444e53 || image.le 0x004 2 != 1) = false := by decide +kernel
  have b : image.body = 1 := by decide +kernel
  have c : (image.le 0x030 1 != 1) = false := by decide +kernel
  have d : (sha256 (image.span 4096 1) != BitVec.ofNat 256 (ofBytesBE (image.span 0x010 32))) = false := by decide +kernel
  have e : image.svn = 0 := by decide +kernel
  have r : image.received = 4097 := rfl
  rw [FwImage.check, a, b, c, d, e, h, g, r]
  rfl

theorem test_boot_of_signature (h : Config.fwChainOk (image.span 0x040 3840) = true)
    (g : Config.fwSigOk (image.span 0x040 3840) (image.span 0 0xf40) (image.span 0xf40 64) = true) :
    let s : State := { W with sve := { W.sve with slot0 := image, cores := [(0, { st := 1 })] } }
    (s.core 0).st = 1 ∧ s.bootCheck s.sve.running = 0 := by
  refine ⟨by decide, ?_⟩
  have b : image.body + 4096 = 4097 := by decide +kernel
  exact (congrArg (fun n => image.check n 0) b).trans (image_check h g)

theorem test_update_of_signature (h : Config.fwChainOk (image.span 0x040 3840) = true)
    (g : Config.fwSigOk (image.span 0x040 3840) (image.span 0 0xf40) (image.span 0xf40 64) = true) :
    let s : State := { W with sve := { W.sve with slot1 := image }, fxb := { W.fxb with role := 1 } }
    s.pages.started = true ∧ s.safe = false ∧ s.mte.wsnEnd = false ∧ s.hasRight .i3c 6 = true ∧ s.fwRefusal 4097 = none := by
  refine ⟨by decide, by decide, by decide, by decide, ?_⟩
  have c : image.check 4097 0 = stOk := image_check h g
  have e : ∀ s : State, s.fwMayStart = true → (s.fwSlot (!s.sve.running)).check 4097 s.crs.minSvn.toNat = stOk → s.fwRefusal 4097 = none := by
    intro s h1 h2
    have h2 : (s.fwSlot (!s.sve.running)).check (4097#32).toNat s.crs.minSvn.toNat = stOk := h2
    rw [State.fwRefusal, h1]
    exact if_pos h2
  exact e _ (by decide) c

set_option maxRecDepth 20000 in
/-- Every clause of PowerPins can be met. -/
theorem test_meets_PowerPins :
    (((W : State).pwr.st = 3) ∧
      ((W : State).pwr.inReset = false)) ∧
    (((W : State).pwr.inReset = false)) ∧
    ((({ W with pwr := { W.pwr with inReset := true } } : State).pwr.inReset = true)) ∧
    (((W : State).up = true) ∧
      ((W : State).pwr.warn = false)) ∧
    ((({ W with pwr := { W.pwr with warn := true } } : State).pwr.warn = true) ∧
      (railInside 38 ({ W with pwr := { W.pwr with warn := true } } : State).pwr.vin = true)) := by
  and_intros <;> decide

set_option maxRecDepth 20000 in
/-- Every clause of Sequencer can be met. -/
theorem test_meets_Sequencer :
    ((({ State.reset with pwr := { State.reset.pwr with offDone := true } } : State).mayPowerUp = true)) ∧
    ((({ W with pwr := { W.pwr with st := 1, step := 7 } } : State).pwr.st = 1) ∧
      (({ W with pwr := { W.pwr with st := 1, step := 7 } } : State).pwr.offReq = false) ∧
      (({ W with pwr := { W.pwr with st := 1, step := 7 } } : State).pwr.step < 8)) ∧
    ((({ W with pwr := { W.pwr with st := 1, step := 8 } } : State).pwr.st = 1) ∧
      (({ W with pwr := { W.pwr with st := 1, step := 8 } } : State).pwr.offReq = false) ∧
      (({ W with pwr := { W.pwr with st := 1, step := 8 } } : State).pwr.step = 8)) ∧
    ((({ W with pwr := { W.pwr with st := 6, down := true, step := 2 } } : State).pwr.st = 6) ∧
      (({ W with pwr := { W.pwr with st := 6, down := true, step := 2 } } : State).pwr.down = true) ∧
      (1 < ({ W with pwr := { W.pwr with st := 6, down := true, step := 2 } } : State).pwr.step)) ∧
    ((({ W with pwr := { W.pwr with st := 6, down := true, step := 1 } } : State).pwr.st = 6) ∧
      (({ W with pwr := { W.pwr with st := 6, down := true, step := 1 } } : State).pwr.down = true) ∧
      (({ W with pwr := { W.pwr with st := 6, down := true, step := 1 } } : State).pwr.step ≤ 1) ∧
      (({ W with pwr := { W.pwr with st := 6, down := true, step := 1 } } : State).pwr.thermOff = false)) ∧
    ((({ W with pwr := { W.pwr with st := 1 } } : State).pwr.st = 1)) ∧
    ((({ W with pwr := { W.pwr with st := 8 } } : State).pwr.st = 8)) ∧
    ((({ W with pwr := { W.pwr with st := 6, flush := 1 } } : State).pwr.flush = 1) ∧
      (({ W with pwr := { W.pwr with st := 6, flush := 1 } } : State).flushed = true)) ∧
    ((({ W with pwr := { W.pwr with st := 6, flush := 1 } } : State).pwr.flush = 1)) := by
  and_intros <;> decide

set_option maxRecDepth 20000 in
/-- Clauses of EmergencyFlush can be met. -/
theorem test_meets_EmergencyFlush :
    ((({ W with pwr := { W.pwr with flush := 3, fphase := 1 } } : State).pwr.flush = 3) ∧
      (({ W with pwr := { W.pwr with flush := 3, fphase := 1 } } : State).pwr.fphase = 1) ∧
      (({ W with pwr := { W.pwr with flush := 3, fphase := 1 } } : State).undrained = false)) ∧
    ((({ W with pwr := { W.pwr with flush := 3, fphase := 2 } } : State).pwr.flush = 3) ∧
      (({ W with pwr := { W.pwr with flush := 3, fphase := 2 } } : State).pwr.fphase = 2) ∧
      (({ W with pwr := { W.pwr with flush := 3, fphase := 2 } } : State).unflushed = false)) ∧
    ((({ W with pwr := { W.pwr with flush := 3, fphase := 3 } } : State).pwr.flush = 3) ∧
      (({ W with pwr := { W.pwr with flush := 3, fphase := 3 } } : State).pwr.fphase = 3) ∧
      (({ W with pwr := { W.pwr with flush := 3, fphase := 3 } } : State).unjournaled = false)) ∧
    ((({ W with pwr := { W.pwr with flush := 3, fphase := 4 } } : State).pwr.flush = 3) ∧
      (({ W with pwr := { W.pwr with flush := 3, fphase := 4 } } : State).pwr.fphase = 4) ∧
      (({ W with pwr := { W.pwr with flush := 3, fphase := 4 } } : State).pwr.thermOff = false)) ∧
    ((({ W with pwr := { W.pwr with flush := 3 } } : State).pwr.flush = 3)) ∧
    (((W : State).up = true) ∧
      ((W : State).pwr.flush = 0) ∧
      (bankHealthy (0 : BitVec 20).toNat (0 : BitVec 20).toNat (0 : BitVec 20).toNat = false)) ∧
    ((({ W with pwr := { W.pwr with mstate := 1 } } : State).up = true) ∧
      (({ W with pwr := { W.pwr with mstate := 1 } } : State).pwr.mstate = 1)) ∧
    (((W : State).up = true) ∧
      ((W : State).pwr.mstate ≠ 2)) := by
  and_intros <;> decide

set_option maxRecDepth 20000 in
/-- A clause of EmergencyFlush can be met. -/
theorem test_meets_EmergencyFlush_2 :
    (((W : State).up = true) ∧
      ((W : State).pwr.flush = 0) ∧
      (bankHealthy (80000 : BitVec 20).toNat (79900 : BitVec 20).toNat (79000 : BitVec 20).toNat = true)) := by
  and_intros <;> decide +kernel

set_option maxRecDepth 20000 in
/-- Every clause of AdcScan can be met. -/
theorem test_meets_AdcScan :
    ((((List.range 40).map (fun ch => BitVec.ofNat 20 (railNominal ch)) : List (BitVec 20)).length = 40) ∧
      (∀ (ch : Nat), ch < 40 → railInside ch (((List.range 40).map (fun ch => BitVec.ofNat 20 (railNominal ch)) : List (BitVec 20)).getD ch 0).toNat = true)) := by
  and_intros <;> decide

set_option maxRecDepth 20000 in
/-- Every clause of PowerStates can be met. -/
theorem test_meets_PowerStates :
    (((({ W with pwr := { W.pwr with profile := 2 } } : State).setRegFld 0x002 0x104 0 2 2 : State).pwr.st = 3) ∧
      ((({ W with pwr := { W.pwr with profile := 2 } } : State).setRegFld 0x002 0x104 0 2 2 : State).pwr.profile = 2) ∧
      ((({ W with pwr := { W.pwr with profile := 2 } } : State).setRegFld 0x002 0x104 0 2 2 : State).regFld 2 260 0 2 = 2)) ∧
    ((({ W with pwr := { W.pwr with profile := 1 } } : State).pwr.st = 3) ∧
      (({ W with pwr := { W.pwr with profile := 1 } } : State).pwr.profile = 1) ∧
      (({ W with pwr := { W.pwr with profile := 1 } } : State).slicesQuiet = true)) ∧
    ((({ W with pwr := { W.pwr with st := 4 } } : State).pwr.st = 4) ∧
      (({ W with pwr := { W.pwr with st := 4 } } : State).pwr.autoIdle = false) ∧
      (idleDomain (5 : Fin 25).val = true)) ∧
    ((({ W with pwr := { W.pwr with st := 4 } } : State).pwr.st = 4) ∧
      (({ W with pwr := { W.pwr with st := 4 } } : State).pwr.autoIdle = false) ∧
      (idleDomain (23 : Fin 25).val = true)) ∧
    ((({ W with pwr := { W.pwr with st := 5 } } : State).pwr.st = 5)) := by
  and_intros <;> decide

set_option maxRecDepth 20000 in
/-- A clause of Thermal can be met. -/
theorem test_meets_Thermal :
    (((W : State).domGated 2 = false) ∧
      ((W : State).pwr.flush ≠ 4) ∧
      ((List.replicate 164 0 : List Reading).length = 164)) := by
  refine ⟨by decide, by decide, List.length_replicate⟩

set_option maxRecDepth 20000 in
/-- Clauses of Thermal can be met. -/
theorem test_meets_Thermal_2 :
    ((({ W with thm := { req := true } } : State).thm.req = true)) ∧
    ((({ W with thm := { req := true } } : State).thm.req = true) ∧
      (({ W with thm := { req := true } } : State).cool = true)) ∧
    (((W : State).pwr.st = 3) ∧
      ((W : State).pwr.flush = 0) ∧
      ((W : State).trip ≤ BitVec.toInt (130 : Reading))) := by
  and_intros <;> decide

set_option maxRecDepth 20000 in
/-- A clause of Thermal can be met. -/
theorem test_meets_Thermal_3 :
    ((({ W with pwr := { W.pwr with st := 9 } } : State).pwr.st = 9) ∧
      (∀ (ch : Nat), ch < 164 → ({ W with pwr := { W.pwr with st := 9 } } : State).atLeast ch ({ W with pwr := { W.pwr with st := 9 } } : State).restartLevel = false)) := by
  exact ⟨rfl, fun _ _ => rfl⟩

set_option maxRecDepth 20000 in
/-- Every clause of ClocksAndResets can be met. -/
theorem test_meets_ClocksAndResets :
    ((({ W with pwr := { W.pwr with locked := false } } : State).pwr.locked = false)) ∧
    ((({ W with pwr := { W.pwr with locked := false } } : State).pwr.locked = false) ∧
      (({ W with pwr := { W.pwr with locked := false } } : State).isOff = false)) ∧
    (((W : State).isOff = false)) ∧
    (((0x100 : BitVec 12).toNat ∈ ({ W with pages := { resetting := [0x100] } } : State).pages.resetting)) := by
  and_intros <;> decide

set_option maxRecDepth 20000 in
/-- Every clause of CagesAndSockets can be met. -/
theorem test_meets_CagesAndSockets :
    ((((W : State).cage (0 : Fin 8).val).phase = 0)) ∧
    (((({ W with cages := [(0, { phase := 1 })] } : State).cage (0 : Fin 8).val).phase = 1)) ∧
    (((({ W with cages := [(0, { phase := 2 })] } : State).cage (0 : Fin 8).val).phase = 2) ∧
      (parseCable ([0x4b, 1, 2, 30, 0x34, 0x12, 0xb2] : List Byte) = some ((1 : Byte), (2 : Byte), (30 : Byte), (0x1234 : BitVec 16)))) ∧
    (((({ W with cages := [(0, { phase := 2 })] } : State).cage (0 : Fin 8).val).phase = 2) ∧
      (parseCable ([] : List Byte) = none)) ∧
    (((({ W with cages := [(0, { phase := 2 })] } : State).cage (0 : Fin 8).val).phase = 2)) ∧
    (((W : State).dtc.decided = false) ∧
      ((W : State).up = true) ∧
      (((W : State).socket (0 : Fin 16).val).known = false)) := by
  and_intros <;> decide

set_option maxRecDepth 20000 in
/-- Every clause of HostAccesses can be met. -/
theorem test_meets_HostAccesses :
    (((({ Wa with slices := [(0, { merge := [{ (default : MergeEntry) with line := 0 }] })] } : State).head (0 : Fin 64).val).route (0 : BitVec 64) false = HpaRoute.fga (0 : Fga)) ∧
      (({ Wa with slices := [(0, { merge := [{ (default : MergeEntry) with line := 0 }] })] } : State).admits (0 : Fin 64) (fgaLine (0 : Fga)) = true) ∧
      ((({ Wa with slices := [(0, { merge := [{ (default : MergeEntry) with line := 0 }] })] } : State).sliceOf (fgaLine (0 : Fga))).ownEntries (Ident.head (0 : Fin 64) (fgaLine (0 : Fga))) (fgaLine (0 : Fga)) = []) ∧
      ((({ Wa with slices := [(0, { merge := [{ (default : MergeEntry) with line := 0 }] })] } : State).sliceOf (fgaLine (0 : Fga))).readWaits (Ident.head (0 : Fin 64) (fgaLine (0 : Fga))) (fgaLine (0 : Fga)) = false) ∧
      ((({ Wa with slices := [(0, { merge := [{ (default : MergeEntry) with line := 0 }] })] } : State).sliceOf (fgaLine (0 : Fga))).merged (fgaLine (0 : Fga)) = some ({ (default : MergeEntry) with line := 0 } : MergeEntry))) ∧
    ((((({ Wa with slices := [(0, { lc := [(0, { (default : Way) with valid := true })] })] } : State).setReg 0x010 0x104 1 : State).head (0 : Fin 64).val).route (0 : BitVec 64) false = HpaRoute.fga (0 : Fga)) ∧
      ((({ Wa with slices := [(0, { lc := [(0, { (default : Way) with valid := true })] })] } : State).setReg 0x010 0x104 1 : State).admits (0 : Fin 64) (fgaLine (0 : Fga)) = true) ∧
      (((({ Wa with slices := [(0, { lc := [(0, { (default : Way) with valid := true })] })] } : State).setReg 0x010 0x104 1 : State).sliceOf (fgaLine (0 : Fga))).ownEntries (Ident.head (0 : Fin 64) (fgaLine (0 : Fga))) (fgaLine (0 : Fga)) = []) ∧
      (((({ Wa with slices := [(0, { lc := [(0, { (default : Way) with valid := true })] })] } : State).setReg 0x010 0x104 1 : State).sliceOf (fgaLine (0 : Fga))).readWaits (Ident.head (0 : Fin 64) (fgaLine (0 : Fga))) (fgaLine (0 : Fga)) = false) ∧
      (((({ Wa with slices := [(0, { lc := [(0, { (default : Way) with valid := true })] })] } : State).setReg 0x010 0x104 1 : State).sliceOf (fgaLine (0 : Fga))).merged (fgaLine (0 : Fga)) = none) ∧
      ((({ Wa with slices := [(0, { lc := [(0, { (default : Way) with valid := true })] })] } : State).setReg 0x010 0x104 1 : State).lcEnabled (sliceHash (fgaLine (0 : Fga))) = true) ∧
      (((({ Wa with slices := [(0, { lc := [(0, { (default : Way) with valid := true })] })] } : State).setReg 0x010 0x104 1 : State).sliceOf (fgaLine (0 : Fga))).findWay (fgaLine (0 : Fga)) = some (0 : Nat))) ∧
    ((((Wa : State).head (0 : Fin 64).val).route (0 : BitVec 64) false = HpaRoute.fga (0 : Fga)) ∧
      ((Wa : State).admits (0 : Fin 64) (fgaLine (0 : Fga)) = true) ∧
      (((Wa : State).sliceOf (fgaLine (0 : Fga))).ownEntries (Ident.head (0 : Fin 64) (fgaLine (0 : Fga))) (fgaLine (0 : Fga)) = []) ∧
      (((Wa : State).sliceOf (fgaLine (0 : Fga))).readWaits (Ident.head (0 : Fin 64) (fgaLine (0 : Fga))) (fgaLine (0 : Fga)) = false) ∧
      (((Wa : State).sliceOf (fgaLine (0 : Fga))).merged (fgaLine (0 : Fga)) = none) ∧
      (((Wa : State).sliceOf (fgaLine (0 : Fga))).findWay (fgaLine (0 : Fga)) = none) ∧
      (((Wa : State).sliceOf (fgaLine (0 : Fga))).missOf (fgaLine (0 : Fga)) = none) ∧
      (((Wa : State).sliceOf (fgaLine (0 : Fga))).misses.length < 512)) ∧
    ((((Wa : State).head (0 : Fin 64).val).route (0 : BitVec 64) true = HpaRoute.fga (0 : Fga)) ∧
      ((Wa : State).admits (0 : Fin 64) (fgaLine (0 : Fga)) = true) ∧
      (((Wa : State).sliceOf (fgaLine (0 : Fga))).youngest (Ident.head (0 : Fin 64) (fgaLine (0 : Fga))) = none)) ∧
    ((((Wa : State).head (0 : Fin 64).val).route (0 : BitVec 64) true = HpaRoute.fga (0 : Fga)) ∧
      ((Wa : State).admits (0 : Fin 64) (fgaLine (0 : Fga)) = true) ∧
      (atomOk (0 : BitVec 4) (0 : BitVec 2) (BitVec.setWidth 6 (0 : Fga)) = true)) ∧
    (((Wh : State).headTakes (0 : Fin 64).val = true) ∧
      (((Wh : State).head (0 : Fin 64).val).route (16383 * 2^30 + 64 : BitVec 64) false = HpaRoute.window (64 : Nat))) ∧
    (((Wh : State).headTakes (0 : Fin 64).val = true) ∧
      (((Wh : State).head (0 : Fin 64).val).route (16383 * 2^30 + 64 : BitVec 64) true = HpaRoute.window (64 : Nat)) ∧
      ((64 : Nat) / 64 ≠ 0)) ∧
    (((Wh : State).headTakes (0 : Fin 64).val = true) ∧
      (((Wh : State).head (0 : Fin 64).val).route (16383 * 2^30 + 64 : BitVec 64) true = HpaRoute.window (64 : Nat))) ∧
    (((Wh : State).headTakes (0 : Fin 64).val = true) ∧
      (((Wh : State).head (0 : Fin 64).val).route (0 : BitVec 64) false = HpaRoute.unbound (0 : Nat)) ∧
      ((Wh : State).headHolds ((0 : Fin 64).val) ((Wh : State).head (0 : Fin 64).val).serial ReqKind.read = false)) ∧
    (((Wh : State).headTakes (0 : Fin 64).val = true) ∧
      (((Wh : State).head (0 : Fin 64).val).route (0x100000000000 : BitVec 64) true = HpaRoute.unbound (0 : Nat)) ∧
      ((Wh : State).headHolds ((0 : Fin 64).val) ((Wh : State).head (0 : Fin 64).val).serial ReqKind.store = false)) ∧
    ((({ Wh with heads := [(0, { Wh.head 0 with barriers := [⟨0, 1, 0, 0, [], []⟩] })] } : State).headTakes (0 : Fin 64).val = true) ∧
      (({ Wh with heads := [(0, { Wh.head 0 with barriers := [⟨0, 1, 0, 0, [], []⟩] })] } : State).headHolds ((0 : Fin 64).val) (({ Wh with heads := [(0, { Wh.head 0 with barriers := [⟨0, 1, 0, 0, [], []⟩] })] } : State).head (0 : Fin 64).val).serial ReqKind.read = true) ∧
      (({ Wh with heads := [(0, { Wh.head 0 with barriers := [⟨0, 1, 0, 0, [], []⟩] })] } : State).inWindow ((0 : Fin 64).val) (0 : BitVec 64) false = none)) := by
  and_intros <;> decide

set_option maxRecDepth 20000 in
/-- Every clause of ReadStages can be met. -/
theorem test_meets_ReadStages :
    (((({ W with slices := [(0, { misses := [{ (default : MissEntry) with stage := .tier }] })] } : State).sliceOf (0 : LineAddr)).missOf (0 : LineAddr) = some ({ (default : MissEntry) with stage := .tier } : MissEntry)) ∧
      (({ (default : MissEntry) with stage := .tier } : MissEntry).stage = MissStage.tier) ∧
      (({ W with slices := [(0, { misses := [{ (default : MissEntry) with stage := .tier }] })] } : State).halted 40 = false) ∧
      (({ W with slices := [(0, { misses := [{ (default : MissEntry) with stage := .tier }] })] } : State).lineLmp (0 : LineAddr) = none)) ∧
    (((({ W with slices := [(0, { misses := [{ (default : MissEntry) with stage := .tier }] })], mte := { W.mte with segs := [(0, { st := 1 })] } } : State).sliceOf (0 : LineAddr)).missOf (0 : LineAddr) = some ({ (default : MissEntry) with stage := .tier } : MissEntry)) ∧
      (({ (default : MissEntry) with stage := .tier } : MissEntry).stage = MissStage.tier) ∧
      (({ W with slices := [(0, { misses := [{ (default : MissEntry) with stage := .tier }] })], mte := { W.mte with segs := [(0, { st := 1 })] } } : State).halted 40 = false) ∧
      (({ W with slices := [(0, { misses := [{ (default : MissEntry) with stage := .tier }] })], mte := { W.mte with segs := [(0, { st := 1 })] } } : State).lineLmp (0 : LineAddr) = some (0 : Lmp)) ∧
      (({ W with slices := [(0, { misses := [{ (default : MissEntry) with stage := .tier }] })], mte := { W.mte with segs := [(0, { st := 1 })] } } : State).frameOf (0 : Lmp) = none) ∧
      ((({ W with slices := [(0, { misses := [{ (default : MissEntry) with stage := .tier }] })], mte := { W.mte with segs := [(0, { st := 1 })] } } : State).dtc.waiting.any fun w_ => w_.line == (0 : LineAddr)) = false)) ∧
    (((({ W with slices := [(0, { misses := [{ (default : MissEntry) with stage := .tier }] })], mte := { W.mte with segs := [(0, { st := 1 })] }, dtc := { W.dtc with frames := [(0, { (default : Frame) with st := 2 })] } } : State).sliceOf (0 : LineAddr)).missOf (0 : LineAddr) = some ({ (default : MissEntry) with stage := .tier } : MissEntry)) ∧
      (({ (default : MissEntry) with stage := .tier } : MissEntry).stage = MissStage.tier) ∧
      (({ W with slices := [(0, { misses := [{ (default : MissEntry) with stage := .tier }] })], mte := { W.mte with segs := [(0, { st := 1 })] }, dtc := { W.dtc with frames := [(0, { (default : Frame) with st := 2 })] } } : State).halted 40 = false) ∧
      (({ W with slices := [(0, { misses := [{ (default : MissEntry) with stage := .tier }] })], mte := { W.mte with segs := [(0, { st := 1 })] }, dtc := { W.dtc with frames := [(0, { (default : Frame) with st := 2 })] } } : State).lineLmp (0 : LineAddr) = some (0 : Lmp)) ∧
      (({ W with slices := [(0, { misses := [{ (default : MissEntry) with stage := .tier }] })], mte := { W.mte with segs := [(0, { st := 1 })] }, dtc := { W.dtc with frames := [(0, { (default : Frame) with st := 2 })] } } : State).frameOf (0 : Lmp) = some ((0 : Nat), ({ (default : Frame) with st := 2 } : Frame))) ∧
      (({ (default : Frame) with st := 2 } : Frame).st = 2)) ∧
    ((((({ W with slices := [(0, { misses := [{ (default : MissEntry) with stage := .map }] })], mte := { W.mte with segs := [(0, { st := 1 })] } } : State).setRegFld 0x028 0x108 0 12 1 : State).sliceOf (0 : LineAddr)).missOf (0 : LineAddr) = some ({ (default : MissEntry) with stage := .map } : MissEntry)) ∧
      (({ (default : MissEntry) with stage := .map } : MissEntry).stage = MissStage.map) ∧
      ((({ W with slices := [(0, { misses := [{ (default : MissEntry) with stage := .map }] })], mte := { W.mte with segs := [(0, { st := 1 })] } } : State).setRegFld 0x028 0x108 0 12 1 : State).halted 48 = false) ∧
      ((({ W with slices := [(0, { misses := [{ (default : MissEntry) with stage := .map }] })], mte := { W.mte with segs := [(0, { st := 1 })] } } : State).setRegFld 0x028 0x108 0 12 1 : State).lineLmp (0 : LineAddr) = some (0 : Lmp)) ∧
      ((({ W with slices := [(0, { misses := [{ (default : MissEntry) with stage := .map }] })], mte := { W.mte with segs := [(0, { st := 1 })] } } : State).setRegFld 0x028 0x108 0 12 1 : State).mapCached (0 : Lmp) = true) ∧
      (¬(0 : Lmp) ∈ (({ W with slices := [(0, { misses := [{ (default : MissEntry) with stage := .map }] })], mte := { W.mte with segs := [(0, { st := 1 })] } } : State).setRegFld 0x028 0x108 0 12 1 : State).dtc.fills) ∧
      (((({ W with slices := [(0, { misses := [{ (default : MissEntry) with stage := .map }] })], mte := { W.mte with segs := [(0, { st := 1 })] } } : State).setRegFld 0x028 0x108 0 12 1 : State).entry (0 : Lmp)).st = 0)) ∧
    ((((({ W with slices := [(0, { misses := [{ (default : MissEntry) with stage := .map }] })], mte := { W.mte with segs := [(0, { st := 1 })], map := [(0, { st := 1 })] } } : State).setRegFld 0x028 0x108 0 12 1 : State).sliceOf (0 : LineAddr)).missOf (0 : LineAddr) = some ({ (default : MissEntry) with stage := .map } : MissEntry)) ∧
      (({ (default : MissEntry) with stage := .map } : MissEntry).stage = MissStage.map) ∧
      ((({ W with slices := [(0, { misses := [{ (default : MissEntry) with stage := .map }] })], mte := { W.mte with segs := [(0, { st := 1 })], map := [(0, { st := 1 })] } } : State).setRegFld 0x028 0x108 0 12 1 : State).halted 48 = false) ∧
      ((({ W with slices := [(0, { misses := [{ (default : MissEntry) with stage := .map }] })], mte := { W.mte with segs := [(0, { st := 1 })], map := [(0, { st := 1 })] } } : State).setRegFld 0x028 0x108 0 12 1 : State).lineLmp (0 : LineAddr) = some (0 : Lmp)) ∧
      ((({ W with slices := [(0, { misses := [{ (default : MissEntry) with stage := .map }] })], mte := { W.mte with segs := [(0, { st := 1 })], map := [(0, { st := 1 })] } } : State).setRegFld 0x028 0x108 0 12 1 : State).mapCached (0 : Lmp) = true) ∧
      (¬(0 : Lmp) ∈ (({ W with slices := [(0, { misses := [{ (default : MissEntry) with stage := .map }] })], mte := { W.mte with segs := [(0, { st := 1 })], map := [(0, { st := 1 })] } } : State).setRegFld 0x028 0x108 0 12 1 : State).dtc.fills) ∧
      (((({ W with slices := [(0, { misses := [{ (default : MissEntry) with stage := .map }] })], mte := { W.mte with segs := [(0, { st := 1 })], map := [(0, { st := 1 })] } } : State).setRegFld 0x028 0x108 0 12 1 : State).entry (0 : Lmp)).st = 1)) ∧
    ((((({ W with slices := [(0, { misses := [{ (default : MissEntry) with stage := .map }] })], mte := { W.mte with segs := [(0, { st := 1 })], map := [(0, { st := 2 })] } } : State).setRegFld 0x028 0x108 0 12 1 : State).sliceOf (0 : LineAddr)).missOf (0 : LineAddr) = some ({ (default : MissEntry) with stage := .map } : MissEntry)) ∧
      (({ (default : MissEntry) with stage := .map } : MissEntry).stage = MissStage.map) ∧
      ((({ W with slices := [(0, { misses := [{ (default : MissEntry) with stage := .map }] })], mte := { W.mte with segs := [(0, { st := 1 })], map := [(0, { st := 2 })] } } : State).setRegFld 0x028 0x108 0 12 1 : State).halted 48 = false) ∧
      ((({ W with slices := [(0, { misses := [{ (default : MissEntry) with stage := .map }] })], mte := { W.mte with segs := [(0, { st := 1 })], map := [(0, { st := 2 })] } } : State).setRegFld 0x028 0x108 0 12 1 : State).lineLmp (0 : LineAddr) = some (0 : Lmp)) ∧
      ((({ W with slices := [(0, { misses := [{ (default : MissEntry) with stage := .map }] })], mte := { W.mte with segs := [(0, { st := 1 })], map := [(0, { st := 2 })] } } : State).setRegFld 0x028 0x108 0 12 1 : State).mapCached (0 : Lmp) = true) ∧
      (¬(0 : Lmp) ∈ (({ W with slices := [(0, { misses := [{ (default : MissEntry) with stage := .map }] })], mte := { W.mte with segs := [(0, { st := 1 })], map := [(0, { st := 2 })] } } : State).setRegFld 0x028 0x108 0 12 1 : State).dtc.fills) ∧
      (((({ W with slices := [(0, { misses := [{ (default : MissEntry) with stage := .map }] })], mte := { W.mte with segs := [(0, { st := 1 })], map := [(0, { st := 2 })] } } : State).setRegFld 0x028 0x108 0 12 1 : State).entry (0 : Lmp)).st = 2)) ∧
    (((({ W with slices := [(0, { misses := [{ (default : MissEntry) with stage := .check unwrittenLine .crumbLater }] })] } : State).sliceOf (0 : LineAddr)).missOf (0 : LineAddr) = some ({ (default : MissEntry) with stage := .check unwrittenLine .crumbLater } : MissEntry)) ∧
      (({ W with slices := [(0, { misses := [{ (default : MissEntry) with stage := .check unwrittenLine .crumbLater }] })] } : State).keyWaits (0 : LineAddr) = false) ∧
      (({ (default : MissEntry) with stage := .check unwrittenLine .crumbLater } : MissEntry).stage = MissStage.check (unwrittenLine : SLine) (.crumbLater : MissSrc)) ∧
      (({ W with slices := [(0, { misses := [{ (default : MissEntry) with stage := .check unwrittenLine .crumbLater }] })] } : State).crustCheck (0 : LineAddr) (unwrittenLine : SLine) = Checked.pass (0 : Line))) ∧
    (((({ W with slices := [(0, { misses := [{ (default : MissEntry) with stage := .check poisonLine .crumbLater }] })] } : State).sliceOf (0 : LineAddr)).missOf (0 : LineAddr) = some ({ (default : MissEntry) with stage := .check poisonLine .crumbLater } : MissEntry)) ∧
      (({ W with slices := [(0, { misses := [{ (default : MissEntry) with stage := .check poisonLine .crumbLater }] })] } : State).keyWaits (0 : LineAddr) = false) ∧
      (({ (default : MissEntry) with stage := .check poisonLine .crumbLater } : MissEntry).stage = MissStage.check (poisonLine : SLine) (.crumbLater : MissSrc)) ∧
      (({ W with slices := [(0, { misses := [{ (default : MissEntry) with stage := .check poisonLine .crumbLater }] })] } : State).crustCheck (0 : LineAddr) (poisonLine : SLine) = Checked.poison)) ∧
    (((({ W with slices := [(0, { misses := [{ (default : MissEntry) with stage := .second (.tierClean 0) }] })] } : State).sliceOf (0 : LineAddr)).missOf (0 : LineAddr) = some ({ (default : MissEntry) with stage := .second (.tierClean 0) } : MissEntry)) ∧
      (({ W with slices := [(0, { misses := [{ (default : MissEntry) with stage := .second (.tierClean 0) }] })] } : State).keyWaits (0 : LineAddr) = false) ∧
      (({ (default : MissEntry) with stage := .second (.tierClean 0) } : MissEntry).stage = MissStage.second (.tierClean 0 : MissSrc)) ∧
      (({ W with slices := [(0, { misses := [{ (default : MissEntry) with stage := .second (.tierClean 0) }] })] } : State).crustCheck (0 : LineAddr) (({ W with slices := [(0, { misses := [{ (default : MissEntry) with stage := .second (.tierClean 0) }] })] } : State).secondLine (0 : LineAddr) (.tierClean 0 : MissSrc)) = Checked.pass (0 : Line))) ∧
    (((({ W with slices := [(0, { misses := [{ (default : MissEntry) with stage := .fill 0 true true }] })] } : State).sliceOf (0 : LineAddr)).missOf (0 : LineAddr) = some ({ (default : MissEntry) with stage := .fill 0 true true } : MissEntry)) ∧
      (({ (default : MissEntry) with stage := .fill 0 true true } : MissEntry).stage = MissStage.fill (0 : Line) (true : Bool) (true : Bool)) ∧
      ((({ W with slices := [(0, { misses := [{ (default : MissEntry) with stage := .fill 0 true true }] })] } : State).sliceOf (0 : LineAddr)).preloading = [])) := by
  and_intros <;> decide

set_option maxRecDepth 20000 in
/-- Clauses of CrumbReads can be met. -/
theorem test_meets_CrumbReads :
    ((({ W with mch := { W.mch with reads := [{ ppa := 0, crumb := 0, why := .line 0, recon := false, waits := false, resets := 0, slow := false, ladder := false, bad := false }] } } : State).findRead (0 : Ppa) (0 : Fin 8) false = some ({ ppa := 0, crumb := 0, why := .line 0, recon := false, waits := false, resets := 0, slow := false, ladder := false, bad := false } : CrumbRead)) ∧
      (({ ppa := 0, crumb := 0, why := .line 0, recon := false, waits := false, resets := 0, slow := false, ladder := false, bad := false } : CrumbRead).waits = false) ∧
      (({ W with mch := { W.mch with reads := [{ ppa := 0, crumb := 0, why := .line 0, recon := false, waits := false, resets := 0, slow := false, ladder := false, bad := false }] } } : State).chanHalted (ppaChan (0 : Ppa)) = false) ∧
      (({ W with mch := { W.mch with reads := [{ ppa := 0, crumb := 0, why := .line 0, recon := false, waits := false, resets := 0, slow := false, ladder := false, bad := false }] } } : State).inTurn ({ ppa := 0, crumb := 0, why := .line 0, recon := false, waits := false, resets := 0, slow := false, ladder := false, bad := false } : CrumbRead) = true)) ∧
    ((({ W with mch := { W.mch with reads := [{ ppa := 0, crumb := 0, why := .line 0, recon := false, waits := false, resets := 0, slow := false, ladder := false, bad := false }] }, slices := [(0, { misses := [{ (default : MissEntry) with stage := .medium 0 0 }] })] } : State).findRead (0 : Ppa) (0 : Fin 8) false = some ({ ppa := 0, crumb := 0, why := .line 0, recon := false, waits := false, resets := 0, slow := false, ladder := false, bad := false } : CrumbRead)) ∧
      (({ ppa := 0, crumb := 0, why := .line 0, recon := false, waits := false, resets := 0, slow := false, ladder := false, bad := false } : CrumbRead).waits = false) ∧
      (({ W with mch := { W.mch with reads := [{ ppa := 0, crumb := 0, why := .line 0, recon := false, waits := false, resets := 0, slow := false, ladder := false, bad := false }] }, slices := [(0, { misses := [{ (default : MissEntry) with stage := .medium 0 0 }] })] } : State).chanHalted (ppaChan (0 : Ppa)) = false) ∧
      (({ W with mch := { W.mch with reads := [{ ppa := 0, crumb := 0, why := .line 0, recon := false, waits := false, resets := 0, slow := false, ladder := false, bad := false }] }, slices := [(0, { misses := [{ (default : MissEntry) with stage := .medium 0 0 }] })] } : State).inTurn ({ ppa := 0, crumb := 0, why := .line 0, recon := false, waits := false, resets := 0, slow := false, ladder := false, bad := false } : CrumbRead) = true) ∧
      (({ ppa := 0, crumb := 0, why := .line 0, recon := false, waits := false, resets := 0, slow := false, ladder := false, bad := false } : CrumbRead).why = ReadFor.line (0 : LineAddr)) ∧
      ((({ W with mch := { W.mch with reads := [{ ppa := 0, crumb := 0, why := .line 0, recon := false, waits := false, resets := 0, slow := false, ladder := false, bad := false }] }, slices := [(0, { misses := [{ (default : MissEntry) with stage := .medium 0 0 }] })] } : State).sliceOf (0 : LineAddr)).missOf (0 : LineAddr) = some ({ (default : MissEntry) with stage := .medium 0 0 } : MissEntry)) ∧
      (({ (default : MissEntry) with stage := .medium 0 0 } : MissEntry).stage = MissStage.medium (0 : Ppa) (0 : Fin 8))) ∧
    ((({ W with mch := { W.mch with reads := [{ ppa := 0, crumb := 0, why := .line 0, recon := false, waits := false, resets := 1, slow := false, ladder := false, bad := false }] } } : State).findRead (0 : Ppa) (0 : Fin 8) false = some ({ ppa := 0, crumb := 0, why := .line 0, recon := false, waits := false, resets := 1, slow := false, ladder := false, bad := false } : CrumbRead)) ∧
      (({ ppa := 0, crumb := 0, why := .line 0, recon := false, waits := false, resets := 1, slow := false, ladder := false, bad := false } : CrumbRead).resets < 2)) ∧
    ((({ W with mch := { W.mch with reads := [{ ppa := 0, crumb := 0, why := .line 0, recon := false, waits := false, resets := 2, slow := false, ladder := false, bad := false }] } } : State).findRead (0 : Ppa) (0 : Fin 8) false = some ({ ppa := 0, crumb := 0, why := .line 0, recon := false, waits := false, resets := 2, slow := false, ladder := false, bad := false } : CrumbRead)) ∧
      (2 ≤ ({ ppa := 0, crumb := 0, why := .line 0, recon := false, waits := false, resets := 2, slow := false, ladder := false, bad := false } : CrumbRead).resets)) ∧
    ((({ W with mch := { W.mch with reads := [{ ppa := 0, crumb := 0, why := .line 0, recon := true, waits := false, resets := 0, slow := false, ladder := false, bad := false }] } } : State).findRead (0 : Ppa) (0 : Fin 8) true = some ({ ppa := 0, crumb := 0, why := .line 0, recon := true, waits := false, resets := 0, slow := false, ladder := false, bad := false } : CrumbRead)) ∧
      (({ ppa := 0, crumb := 0, why := .line 0, recon := true, waits := false, resets := 0, slow := false, ladder := false, bad := false } : CrumbRead).waits = false) ∧
      (({ W with mch := { W.mch with reads := [{ ppa := 0, crumb := 0, why := .line 0, recon := true, waits := false, resets := 0, slow := false, ladder := false, bad := false }] } } : State).chanHalted (ppaChan (0 : Ppa)) = false) ∧
      (({ ppa := 0, crumb := 0, why := .line 0, recon := true, waits := false, resets := 0, slow := false, ladder := false, bad := false } : CrumbRead).why = ReadFor.line (0 : LineAddr))) := by
  and_intros <;> decide

set_option maxRecDepth 20000 in
/-- A clause of CrumbReads can be met. -/
theorem test_meets_CrumbReads_2 :
    (((({ W with slices := [(0, { stalled := [default], misses := List.replicate 511 default })] } : State).slice (0 : Fin 8).val).stalled = (default : LineAddr × Waiter) :: ([] : List (LineAddr × Waiter))) ∧
      ((({ W with slices := [(0, { stalled := [default], misses := List.replicate 511 default })] } : State).slice (0 : Fin 8).val).misses.length < 512)) := by
  refine ⟨rfl, ?_⟩; show (List.replicate 511 _).length < 512; simp

set_option maxRecDepth 20000 in
/-- Every clause of WritesDown can be met. -/
theorem test_meets_WritesDown :
    ((({ W with slices := [(0, { merge := [{ (default : MergeEntry) with draining := true }] })], mte := { W.mte with segs := [(0, { st := 1 })] }, dtc := { W.dtc with frames := [(0, { (default : Frame) with st := 3 })] }, crs := { W.crs with ranges := [(0, { st := 1, keys := some default })] } } : State).keyWaits (0 : LineAddr) = false) ∧
      ((({ W with slices := [(0, { merge := [{ (default : MergeEntry) with draining := true }] })], mte := { W.mte with segs := [(0, { st := 1 })] }, dtc := { W.dtc with frames := [(0, { (default : Frame) with st := 3 })] }, crs := { W.crs with ranges := [(0, { st := 1, keys := some default })] } } : State).slice (sliceHash (0 : LineAddr))).offering = false) ∧
      (({ W with slices := [(0, { merge := [{ (default : MergeEntry) with draining := true }] })], mte := { W.mte with segs := [(0, { st := 1 })] }, dtc := { W.dtc with frames := [(0, { (default : Frame) with st := 3 })] }, crs := { W.crs with ranges := [(0, { st := 1, keys := some default })] } } : State).frozen = false) ∧
      (({ W with slices := [(0, { merge := [{ (default : MergeEntry) with draining := true }] })], mte := { W.mte with segs := [(0, { st := 1 })] }, dtc := { W.dtc with frames := [(0, { (default : Frame) with st := 3 })] }, crs := { W.crs with ranges := [(0, { st := 1, keys := some default })] } } : State).halted 40 = false) ∧
      (List.find? (fun m_ => m_.line == (0 : LineAddr) && m_.draining) (({ W with slices := [(0, { merge := [{ (default : MergeEntry) with draining := true }] })], mte := { W.mte with segs := [(0, { st := 1 })] }, dtc := { W.dtc with frames := [(0, { (default : Frame) with st := 3 })] }, crs := { W.crs with ranges := [(0, { st := 1, keys := some default })] } } : State).slice (sliceHash (0 : LineAddr))).merge = some ({ (default : MergeEntry) with draining := true } : MergeEntry)) ∧
      ((({ W with slices := [(0, { merge := [{ (default : MergeEntry) with draining := true }] })], mte := { W.mte with segs := [(0, { st := 1 })] }, dtc := { W.dtc with frames := [(0, { (default : Frame) with st := 3 })] }, crs := { W.crs with ranges := [(0, { st := 1, keys := some default })] } } : State).activeKeys (({ W with slices := [(0, { merge := [{ (default : MergeEntry) with draining := true }] })], mte := { W.mte with segs := [(0, { st := 1 })] }, dtc := { W.dtc with frames := [(0, { (default : Frame) with st := 3 })] }, crs := { W.crs with ranges := [(0, { st := 1, keys := some default })] } } : State).keyRangeOf (lineGsn (0 : LineAddr)))).isSome = true) ∧
      (({ W with slices := [(0, { merge := [{ (default : MergeEntry) with draining := true }] })], mte := { W.mte with segs := [(0, { st := 1 })] }, dtc := { W.dtc with frames := [(0, { (default : Frame) with st := 3 })] }, crs := { W.crs with ranges := [(0, { st := 1, keys := some default })] } } : State).mirrorOf (0 : LineAddr) = 0) ∧
      (({ W with slices := [(0, { merge := [{ (default : MergeEntry) with draining := true }] })], mte := { W.mte with segs := [(0, { st := 1 })] }, dtc := { W.dtc with frames := [(0, { (default : Frame) with st := 3 })] }, crs := { W.crs with ranges := [(0, { st := 1, keys := some default })] } } : State).lineLmp (0 : LineAddr) = some (0 : Lmp)) ∧
      (({ W with slices := [(0, { merge := [{ (default : MergeEntry) with draining := true }] })], mte := { W.mte with segs := [(0, { st := 1 })] }, dtc := { W.dtc with frames := [(0, { (default : Frame) with st := 3 })] }, crs := { W.crs with ranges := [(0, { st := 1, keys := some default })] } } : State).frameOf (0 : Lmp) = some ((0 : Nat), ({ (default : Frame) with st := 3 } : Frame))) ∧
      (({ (default : Frame) with st := 3 } : Frame).st = 3) ∧
      (¬({ W with slices := [(0, { merge := [{ (default : MergeEntry) with draining := true }] })], mte := { W.mte with segs := [(0, { st := 1 })] }, dtc := { W.dtc with frames := [(0, { (default : Frame) with st := 3 })] }, crs := { W.crs with ranges := [(0, { st := 1, keys := some default })] } } : State).frameChan (0 : Nat) ∈ ({ W with slices := [(0, { merge := [{ (default : MergeEntry) with draining := true }] })], mte := { W.mte with segs := [(0, { st := 1 })] }, dtc := { W.dtc with frames := [(0, { (default : Frame) with st := 3 })] }, crs := { W.crs with ranges := [(0, { st := 1, keys := some default })] } } : State).dtc.dead)) ∧
    (((0 : Lmp) ∈ ({ W with dtc := { W.dtc with frames := [(0, { (default : Frame) with st := 1 })], fills := [0] } } : State).dtc.fills) ∧
      (({ W with dtc := { W.dtc with frames := [(0, { (default : Frame) with st := 1 })], fills := [0] } } : State).frameOf (0 : Lmp) = some ((0 : Nat), ({ (default : Frame) with st := 1 } : Frame))) ∧
      (({ (default : Frame) with st := 1 } : Frame).st = 1) ∧
      (Option.any (fun r_ => r_.waits || r_.recon || !({ W with dtc := { W.dtc with frames := [(0, { (default : Frame) with st := 1 })], fills := [0] } } : State).inTurn r_) (List.find? (fun r_ => r_.why == ReadFor.fill (0 : Lmp)) ({ W with dtc := { W.dtc with frames := [(0, { (default : Frame) with st := 1 })], fills := [0] } } : State).mch.reads) = false) ∧
      (∀ (g : CrumbOutcome × Bool), g ∈ ([] : List (CrumbOutcome × Bool)) → (crumbParts g.fst).isSome = true)) ∧
    ((({ W with dtc := { W.dtc with frames := [(0, { (default : Frame) with st := 4 })], fills := [0] } } : State).frameOf (0 : Lmp) = some ((0 : Nat), ({ (default : Frame) with st := 4 } : Frame))) ∧
      (({ (default : Frame) with st := 4 } : Frame).st = 4) ∧
      (({ (default : Frame) with st := 4 } : Frame).xferred = false) ∧
      (({ (default : Frame) with st := 4 } : Frame).held = [])) ∧
    ((({ W with dtc := { W.dtc with frames := [(0, { (default : Frame) with st := 3 })], fills := [0] } } : State).frameOf (0 : Lmp) = some ((0 : Nat), ({ (default : Frame) with st := 3 } : Frame))) ∧
      (({ W with dtc := { W.dtc with frames := [(0, { (default : Frame) with st := 3 })], fills := [0] } } : State).dtc.frames.find (0 : Nat) = some ({ (default : Frame) with st := 3 } : Frame)) ∧
      (({ (default : Frame) with st := 3 } : Frame).st = 3) ∧
      (({ (default : Frame) with st := 3 } : Frame).handed = false)) ∧
    ((List.find? (fun e_ => e_.uid == (0 : Nat)) (({ W with slices := [(0, { lanes := [{ (default : LaneEntry) with current := some (0, false) }] })] } : State).slice (0 : Fin 8).val).lanes = some ({ (default : LaneEntry) with current := some (0, false) } : LaneEntry)) ∧
      (((({ W with slices := [(0, { lanes := [{ (default : LaneEntry) with current := some (0, false) }] })] } : State).slice (0 : Fin 8).val).lanes.any fun e_ => e_.uid == (0 : Nat) && ({ W with slices := [(0, { lanes := [{ (default : LaneEntry) with current := some (0, false) }] })] } : State).keyWaits e_.line) = false) ∧
      (({ W with slices := [(0, { lanes := [{ (default : LaneEntry) with current := some (0, false) }] })] } : State).releaseHeld ({ (default : LaneEntry) with current := some (0, false) } : LaneEntry).line = false) ∧
      ((({ W with slices := [(0, { lanes := [{ (default : LaneEntry) with current := some (0, false) }] })] } : State).slice (0 : Fin 8).val).atHead ({ (default : LaneEntry) with current := some (0, false) } : LaneEntry) = true) ∧
      (({ W with slices := [(0, { lanes := [{ (default : LaneEntry) with current := some (0, false) }] })] } : State).markAhead ((0 : Fin 8).val) ({ (default : LaneEntry) with current := some (0, false) } : LaneEntry) = false) ∧
      ((({ W with slices := [(0, { lanes := [{ (default : LaneEntry) with current := some (0, false) }] })] } : State).slice (0 : Fin 8).val).mergeRoom ({ (default : LaneEntry) with current := some (0, false) } : LaneEntry).line = true) ∧
      (({ W with slices := [(0, { lanes := [{ (default : LaneEntry) with current := some (0, false) }] })] } : State).paceHeld ((0 : Fin 8).val) ({ (default : LaneEntry) with current := some (0, false) } : LaneEntry).line = false) ∧
      (({ W with slices := [(0, { lanes := [{ (default : LaneEntry) with current := some (0, false) }] })] } : State).guardRefuses ({ (default : LaneEntry) with current := some (0, false) } : LaneEntry).line = false) ∧
      (({ W with slices := [(0, { lanes := [{ (default : LaneEntry) with current := some (0, false) }] })] } : State).currentIn ((0 : Fin 8).val) ({ (default : LaneEntry) with current := some (0, false) } : LaneEntry) = some ((0 : Line), false))) := by
  and_intros <;> decide

set_option maxRecDepth 20000 in
/-- Every clause of StripesAndErases can be met. -/
theorem test_meets_StripesAndErases :
    ((({ W with pwr := { W.pwr with flush := 1 }, mte := { W.mte with durCeiling := 1024, gather := [default], sets := [(0, { (default : SetRec) with st := 2, blocks := List.replicate 16 0 })] } } : State).hostGroup = some (0 : Nat)) ∧
      (({ W with pwr := { W.pwr with flush := 1 }, mte := { W.mte with durCeiling := 1024, gather := [default], sets := [(0, { (default : SetRec) with st := 2, blocks := List.replicate 16 0 })] } } : State).mte.gather ≠ []) ∧
      ((({ W with pwr := { W.pwr with flush := 1 }, mte := { W.mte with durCeiling := 1024, gather := [default], sets := [(0, { (default : SetRec) with st := 2, blocks := List.replicate 16 0 })] } } : State).closeStripe (0 : Nat) 0 (if ({ W with pwr := { W.pwr with flush := 1 }, mte := { W.mte with durCeiling := 1024, gather := [default], sets := [(0, { (default : SetRec) with st := 2, blocks := List.replicate 16 0 })] } } : State).pwr.flush = 3 then 3 else 0) (List.take (({ W with pwr := { W.pwr with flush := 1 }, mte := { W.mte with durCeiling := 1024, gather := [default], sets := [(0, { (default : SetRec) with st := 2, blocks := List.replicate 16 0 })] } } : State).dataPages (0 : Nat)) ({ W with pwr := { W.pwr with flush := 1 }, mte := { W.mte with durCeiling := 1024, gather := [default], sets := [(0, { (default : SetRec) with st := 2, blocks := List.replicate 16 0 })] } } : State).mte.gather) 0).fst = true)) ∧
    ((({ W with mte := { W.mte with stripes := [{ (default : Stripe) with issued := false }] } } : State).nextStripeOf (0 : Fin 16).val = some ({ (default : Stripe) with issued := false } : Stripe)) ∧
      (0 < ({ W with mte := { W.mte with stripes := [{ (default : Stripe) with issued := false }] } } : State).progRoom (0 : Fin 16).val) ∧
      (({ W with mte := { W.mte with stripes := [{ (default : Stripe) with issued := false }] } } : State).outOfOrder ({ (default : Stripe) with issued := false } : Stripe) = false) ∧
      (({ W with mte := { W.mte with stripes := [{ (default : Stripe) with issued := false }] } } : State).capRoom (List.foldl (fun n_ y_ => n_ + y_.pages.length) 0 (({ W with mte := { W.mte with stripes := [{ (default : Stripe) with issued := false }] } } : State).rowOf ({ (default : Stripe) with issued := false } : Stripe))) = true) ∧
      (({ W with mte := { W.mte with stripes := [{ (default : Stripe) with issued := false }] } } : State).rowHalted (({ W with mte := { W.mte with stripes := [{ (default : Stripe) with issued := false }] } } : State).rowOf ({ (default : Stripe) with issued := false } : Stripe)) = false)) ∧
    ((List.find? (fun x_ => x_.id == (0 : Nat) && x_.issued && decide (x_.kind ≤ 1)) ({ W with mte := { W.mte with stripes := [{ (default : Stripe) with issued := true, kind := 1 }] } } : State).mte.stripes = some ({ (default : Stripe) with issued := true, kind := 1 } : Stripe))) ∧
    ((List.find? (fun x_ => x_.id == (0 : Nat) && x_.issued) ({ W with mte := { W.mte with stripes := [{ (default : Stripe) with issued := true }] } } : State).mte.stripes = some ({ (default : Stripe) with issued := true } : Stripe))) ∧
    (((({ W with mch := { W.mch with blocks := [(0, { st := 4 })] } } : State).block (ppaBlock (0 : Ppa))).st = 4)) ∧
    (((({ W with mch := { W.mch with dies := [(255, { suspended := true })] } } : State).die (255 : Fin 256).val).suspended = true) ∧
      (({ W with mch := { W.mch with dies := [(255, { suspended := true })] } } : State).readsQueued (255 : Fin 256).val = false)) ∧
    ((({ W with mch := { W.mch with repeats := [(63, 2)] } } : State).mch.repeats.get 0 (63 : Fin 64).val < 3)) := by
  and_intros <;> decide

set_option maxRecDepth 20000 in
/-- Every clause of TimeoutsEndRequests can be met. -/
theorem test_meets_TimeoutsEndRequests :
    (((({ W with slices := [(0, { misses := [{ (default : MissEntry) with stage := .tier }] })] } : State).sliceOf (0 : LineAddr)).missOf (0 : LineAddr) = some ({ (default : MissEntry) with stage := .tier } : MissEntry)) ∧
      ((({ W with slices := [(0, { misses := [{ (default : MissEntry) with stage := .tier }] })] } : State).sliceOf (0 : LineAddr)).behind = []) ∧
      ((({ W with slices := [(0, { misses := [{ (default : MissEntry) with stage := .tier }] })] } : State).sliceOf (0 : LineAddr)).preloading = [])) ∧
    ((List.find? (fun m_ => m_.line == (0 : LineAddr) && m_.draining && !m_.offered) (({ W with slices := [(0, { merge := [{ (default : MergeEntry) with draining := true }] })] } : State).sliceOf (0 : LineAddr)).merge = some ({ (default : MergeEntry) with draining := true } : MergeEntry))) ∧
    (((W : State).isFenced 4 (sliceHash (0 : LineAddr)) = false)) ∧
    (((W : State).isFenced 4 (0 : Fin 8).val = false)) ∧
    ((List.find? (fun q_ => q_.tag == (0 : BitVec 16)) ({ W with fxb := { W.fxb with remotes := [{ (default : Remote) with kind := .read, sender := .head 0 0 }] } } : State).fxb.remotes = some ({ (default : Remote) with kind := .read, sender := .head 0 0 } : Remote)) ∧
      (({ (default : Remote) with kind := .read, sender := .head 0 0 } : Remote).kind = ReqKind.read) ∧
      (({ (default : Remote) with kind := .read, sender := .head 0 0 } : Remote).sender = Sender.head (0 : Fin 64) (0 : BitVec 16))) ∧
    (((W : State).unreachable (9 : Dev) = true)) := by
  and_intros <;> decide

set_option maxRecDepth 20000 in
/-- Every clause of BarriersAndGpf can be met. -/
theorem test_meets_BarriersAndGpf :
    ((({ Wh with flt := { safe := 1 } } : State).headTakes (0 : Fin 64).val = true) ∧
      (({ Wh with flt := { safe := 1 } } : State).safe = true)) ∧
    ((({ Wh with heads := [(0, { Wh.head 0 with barriers := List.replicate 4 default })] } : State).headTakes (0 : Fin 64).val = true) ∧
      (({ Wh with heads := [(0, { Wh.head 0 with barriers := List.replicate 4 default })] } : State).safe = false) ∧
      (4 ≤ (({ Wh with heads := [(0, { Wh.head 0 with barriers := List.replicate 4 default })] } : State).head (0 : Fin 64).val).barriers.length)) ∧
    (((Wh : State).headTakes (0 : Fin 64).val = true) ∧
      ((Wh : State).safe = false) ∧
      (((Wh : State).head (0 : Fin 64).val).barriers.length < 4) ∧
      ((0 : BitVec 2) = 0)) ∧
    (((Wh : State).headTakes (0 : Fin 64).val = true) ∧
      ((Wh : State).safe = false) ∧
      (((Wh : State).head (0 : Fin 64).val).barriers.length < 4) ∧
      ((3 : BitVec 2) ≠ 0)) ∧
    (((({ Wh with heads := [(0, { Wh.head 0 with barriers := [⟨0, 1, 0, 0, [], []⟩] })] } : State).head (0 : Fin 64).val).barriers = (⟨0, 1, 0, 0, [], []⟩ : Barrier) :: ([] : List Barrier)) ∧
      (({ Wh with heads := [(0, { Wh.head 0 with barriers := [⟨0, 1, 0, 0, [], []⟩] })] } : State).barrierMet ((0 : Fin 64).val) (⟨0, 1, 0, 0, [], []⟩ : Barrier) = true)) ∧
    (((Wh : State).headExists (0 : Fin 64).val = true)) ∧
    ((({ Wh with pwr := { Wh.pwr with flush := 4 } } : State).headExists (0 : Fin 64).val = true) ∧
      ((({ Wh with pwr := { Wh.pwr with flush := 4 } } : State).head (0 : Fin 64).val).gpf = none) ∧
      (({ Wh with pwr := { Wh.pwr with flush := 4 } } : State).pwr.flush ≠ 0)) ∧
    (((Wh : State).headExists (0 : Fin 64).val = true) ∧
      (((Wh : State).head (0 : Fin 64).val).gpf = none) ∧
      ((Wh : State).pwr.flush = 0) ∧
      (∀ (n : Nat), n < 8 → ((Wh : State).slice n).lanes = [] ∧ ((Wh : State).slice n).merge = []) ∧
      ((Wh : State).barrierPeers ((0 : Fin 64).val) (barrierHolds 2) = []) ∧
      (∀ (o : Outst), o ∈ ((Wh : State).head (0 : Fin 64).val).outs → o.kind ≠ ReqKind.store) ∧
      (((Wh : State).head (0 : Fin 64).val).held = [])) ∧
    (((({ Wh with heads := [(0, { Wh.head 0 with gpf := some 0 })] } : State).head (0 : Fin 64).val).gpf = some (0 : Nat))) := by
  and_intros <;> decide

set_option maxRecDepth 20000 in
/-- Every clause of SliceCommands can be met. -/
theorem test_meets_SliceCommands :
    (((({ W with slices := [(0, { inv := [default] })] } : State).slice (0 : Fin 8).val).inv = (default : InvReq) :: ([] : List InvReq))) ∧
    ((slcPage (0 : Fin 8).val ∈ ({ W with pages := { started := true, committing := [0x10] } } : State).pages.committing)) ∧
    (((3 : Fin 4).val ∈ (({ W with slices := [(7, { preloading := [3] })] } : State).slice (7 : Fin 8).val).preloading) ∧
      (({ W with slices := [(7, { preloading := [3] })] } : State).preloadLineAt ((7 : Fin 8).val) ((3 : Fin 4).val) ((({ W with slices := [(7, { preloading := [3] })] } : State).slice (7 : Fin 8).val).preNext.get 0 (3 : Fin 4).val) = none) ∧
      (∀ (m : MissEntry), m ∈ (({ W with slices := [(7, { preloading := [3] })] } : State).slice (7 : Fin 8).val).misses → ∀ (w : Waiter), w ∈ m.waiters → w.ident ≠ preloadIdent (3 : Fin 4).val) ∧
      (∀ (w : LineAddr × Waiter), w ∈ (({ W with slices := [(7, { preloading := [3] })] } : State).slice (7 : Fin 8).val).stalled → w.snd.ident ≠ preloadIdent (3 : Fin 4).val)) ∧
    (((.free : PbPlace) ≠ PbPlace.corrected)) := by
  and_intros <;> decide

set_option maxRecDepth 20000 in
/-- Every clause of TierChannels can be met. -/
theorem test_meets_TierChannels :
    ((((W.setRegFld 0x028 0x104 4 3 1).setRegFld (dchPage 0) 0x100 29 3 2 : State).dchState (0 : Fin 16).val = 2) ∧
      (((W.setRegFld 0x028 0x104 4 3 1).setRegFld (dchPage 0) 0x100 29 3 2 : State).regFld 40 260 4 3 ≠ 0)) ∧
    (((W.setRegFld (dchPage 0) 0x100 29 3 2 : State).dchState (0 : Fin 16).val = 2) ∧
      ((W.setRegFld (dchPage 0) 0x100 29 3 2 : State).regFld 40 260 4 3 = 0)) ∧
    ((∀ (k : Nat), k < 16 → (List.replicate 16 85 : List Byte).getD k 128 ≠ 128 ∧ spdOutside ((({ W with dtc := { W.dtc with sockets := (List.range 16).map (fun k => (k, { known := true, spd := { rdimm := true, gib := 128, grade := 3, hi := 85, lo := 0, now := 40 }, outRounds := 0, badRounds := 0 })) } } : State).setRegFld (dchPage 0) 0x100 29 3 3 : State).socket k).spd ((List.replicate 16 85 : List Byte).getD k 128) = false) ∧
      (((({ W with dtc := { W.dtc with sockets := (List.range 16).map (fun k => (k, { known := true, spd := { rdimm := true, gib := 128, grade := 3, hi := 85, lo := 0, now := 40 }, outRounds := 0, badRounds := 0 })) } } : State).setRegFld (dchPage 0) 0x100 29 3 3 : State).socket (0 : Fin 16).val).known = true) ∧
      (spdOk ((({ W with dtc := { W.dtc with sockets := (List.range 16).map (fun k => (k, { known := true, spd := { rdimm := true, gib := 128, grade := 3, hi := 85, lo := 0, now := 40 }, outRounds := 0, badRounds := 0 })) } } : State).setRegFld (dchPage 0) 0x100 29 3 3 : State).socket (0 : Fin 16).val).spd = true) ∧
      ((({ W with dtc := { W.dtc with sockets := (List.range 16).map (fun k => (k, { known := true, spd := { rdimm := true, gib := 128, grade := 3, hi := 85, lo := 0, now := 40 }, outRounds := 0, badRounds := 0 })) } } : State).setRegFld (dchPage 0) 0x100 29 3 3 : State).dchState (0 : Fin 16).val = 3)) ∧
    ((((({ W with dtc := { W.dtc with sockets := (List.range 16).map (fun k => (k, { known := true, spd := { rdimm := true, gib := 128, grade := 3, hi := 85, lo := 0, now := 40 }, outRounds := 0, badRounds := 0 })) } } : State) : State).socket (0 : Fin 16).val).known = true) ∧
      (spdOk ((({ W with dtc := { W.dtc with sockets := (List.range 16).map (fun k => (k, { known := true, spd := { rdimm := true, gib := 128, grade := 3, hi := 85, lo := 0, now := 40 }, outRounds := 0, badRounds := 0 })) } } : State) : State).socket (0 : Fin 16).val).spd = true) ∧
      ((({ W with dtc := { W.dtc with sockets := (List.range 16).map (fun k => (k, { known := true, spd := { rdimm := true, gib := 128, grade := 3, hi := 85, lo := 0, now := 40 }, outRounds := 0, badRounds := 0 })) } } : State) : State).dchState (0 : Fin 16).val ≠ 3)) ∧
    (((W.setRegFld (dchPage 0) 0x100 29 3 3 : State).dchState (0 : Fin 16).val = 3)) ∧
    (((W.setRegFld (dchPage 0) 0x100 29 3 3 : State).dchState (0 : Fin 16).val = 3) ∧
      (bitAt ((W.setRegFld (dchPage 0) 0x100 29 3 3 : State).reg (dchPage (0 : Fin 16).val) 268) 5 = false)) ∧
    (((W.setRegFld 0x028 0x104 4 3 1 : State).regFld 40 260 4 3 = 1) ∧
      ((List.filter (fun e_ => e_.snd.staged) (W.setRegFld 0x028 0x104 4 3 1 : State).dtc.frames).length ≤ 16384)) ∧
    (((W.setRegFld 0x028 0x104 4 3 2 : State).regFld 40 260 4 3 = 2) ∧
      ((List.any (W.setRegFld 0x028 0x104 4 3 2 : State).dtc.frames fun e_ => e_.snd.staged) = false)) ∧
    (((W.setRegFld 0x028 0x104 4 3 3 : State).regFld 40 260 4 3 = 3) ∧
      (((W.setRegFld 0x028 0x104 4 3 3 : State).dtc.joining.any fun c_ => (W.setRegFld 0x028 0x104 4 3 3 : State).dchState c_ == 2) = false) ∧
      ((List.any (W.setRegFld 0x028 0x104 4 3 3 : State).dtc.frames fun e_ => e_.snd.staged) = false)) ∧
    (((W.setRegFld 0x028 0x104 4 3 1 : State).regFld 40 260 4 3 = 1)) ∧
    ((List.find? (fun g_ => (groupSockets g_).any fun c_ => !decide (c_ ∈ (({ W with dtc := { W.dtc with decided := true, sockets := (List.range 16).map (fun k => (k, { known := true, readmit := true, spd := { rdimm := true, gib := 128, grade := 3, hi := 85, lo := 0, now := 40 }, outRounds := 0, badRounds := 0 })) } } : State).each (List.range 16) (fun s c => (s.setRegFld (dchPage c) 0x100 24 8 0x81).setRegFld (dchPage c) 0x104 0 8 40) : State).dtc.used)) (List.range 4) = some (0 : Fin 4).val) ∧
      ((({ W with dtc := { W.dtc with decided := true, sockets := (List.range 16).map (fun k => (k, { known := true, readmit := true, spd := { rdimm := true, gib := 128, grade := 3, hi := 85, lo := 0, now := 40 }, outRounds := 0, badRounds := 0 })) } } : State).each (List.range 16) (fun s c => (s.setRegFld (dchPage c) 0x100 24 8 0x81).setRegFld (dchPage c) 0x104 0 8 40) : State).dtc.decided = true) ∧
      ((({ W with dtc := { W.dtc with decided := true, sockets := (List.range 16).map (fun k => (k, { known := true, readmit := true, spd := { rdimm := true, gib := 128, grade := 3, hi := 85, lo := 0, now := 40 }, outRounds := 0, badRounds := 0 })) } } : State).each (List.range 16) (fun s c => (s.setRegFld (dchPage c) 0x100 24 8 0x81).setRegFld (dchPage c) 0x104 0 8 40) : State).regFld 40 260 4 3 = 0) ∧
      ((groupSockets (0 : Fin 4).val).all (({ W with dtc := { W.dtc with decided := true, sockets := (List.range 16).map (fun k => (k, { known := true, readmit := true, spd := { rdimm := true, gib := 128, grade := 3, hi := 85, lo := 0, now := 40 }, outRounds := 0, badRounds := 0 })) } } : State).each (List.range 16) (fun s c => (s.setRegFld (dchPage c) 0x100 24 8 0x81).setRegFld (dchPage c) 0x104 0 8 40) : State).mayJoin = true)) := by
  and_intros <;> decide

set_option maxRecDepth 20000 in
/-- Every clause of MediumState can be met. -/
theorem test_meets_MediumState :
    (((W : State).mch.surveyed = false)) ∧
    (((W : State).mch.surveyed = false) ∧
      (((W : State).mch.reads.any fun r_ => r_.why == ReadFor.survey) = false)) ∧
    ((128 ∈ ({ W with pages := { started := true, committing := [0x80] }, shadow := [(regAddr 0x080 0x104, 1)] } : State).pages.committing) ∧
      (({ W with pages := { started := true, committing := [0x80] }, shadow := [(regAddr 0x080 0x104, 1)] } : State).shadow.find (regAddr 128 260) = some (1 : Word))) ∧
    (((W : State).busyIn (0 : Fin 16).val ≤ busyLimit ((W : State).groupMode (0 : Fin 16).val))) := by
  and_intros <;> decide

set_option maxRecDepth 20000 in
/-- Every clause of JournalAndWsn can be met. -/
theorem test_meets_JournalAndWsn :
    (((W : State).mte.ceiling < (W : State).mte.durCeiling + 2 ^ 24)) ∧
    ((({ W with mte := { W.mte with jbuf := [default] } } : State).mte.jbuf ≠ []) ∧
      (({ W with mte := { W.mte with jbuf := [default] } } : State).mte.jprog = [])) ∧
    ((List.find? (fun x_ => x_.kind == 2 && x_.issued) ({ W with mte := { W.mte with stripes := [{ (default : Stripe) with issued := true, kind := 2 }] } } : State).mte.stripes = some ({ (default : Stripe) with issued := true, kind := 2 } : Stripe))) ∧
    (((8388607 : BitVec 23).toNat ∈ ({ W with mte := { W.mte with changed := [8388607], durCeiling := 1024 } } : State).mte.changed) ∧
      ((({ W with mte := { W.mte with changed := [8388607], durCeiling := 1024 } } : State).programImage (8388607 : BitVec 23).toNat ({ W with mte := { W.mte with changed := [8388607], durCeiling := 1024 } } : State).mte.jTop).fst ≠ none)) := by
  and_intros <;> decide

set_option maxRecDepth 20000 in
/-- Every clause of StartupPhases can be met. -/
theorem test_meets_StartupPhases :
    (((({ W with pwr := { W.pwr with st := 2, startup := 3 } } : State).setRegFld 0x030 0x104 28 4 1 : State).pwr.startup = 3) ∧
      ((({ W with pwr := { W.pwr with st := 2, startup := 3 } } : State).setRegFld 0x030 0x104 28 4 1 : State).mtePhase = 1)) ∧
    (((({ W with pwr := { W.pwr with st := 2, startup := 3 } } : State).setRegFld 0x030 0x104 28 4 2 : State).pwr.startup = 3) ∧
      ((({ W with pwr := { W.pwr with st := 2, startup := 3 } } : State).setRegFld 0x030 0x104 28 4 2 : State).mtePhase = 2)) ∧
    (((({ W with pwr := { W.pwr with st := 2, startup := 3 } } : State).setRegFld 0x030 0x104 28 4 3 : State).pwr.startup = 3) ∧
      ((({ W with pwr := { W.pwr with st := 2, startup := 3 } } : State).setRegFld 0x030 0x104 28 4 3 : State).mtePhase = 3)) ∧
    (((({ W with pwr := { W.pwr with st := 2, startup := 3 } } : State).setRegFld 0x030 0x104 28 4 4 : State).pwr.startup = 3) ∧
      ((({ W with pwr := { W.pwr with st := 2, startup := 3 } } : State).setRegFld 0x030 0x104 28 4 4 : State).mtePhase = 4)) ∧
    (((({ W with pwr := { W.pwr with st := 2, startup := 3 } } : State).setRegFld 0x030 0x104 28 4 5 : State).pwr.startup = 3) ∧
      ((({ W with pwr := { W.pwr with st := 2, startup := 3 } } : State).setRegFld 0x030 0x104 28 4 5 : State).mtePhase = 5)) ∧
    (((({ W with pwr := { W.pwr with st := 2, startup := 3 } } : State).setRegFld 0x030 0x104 28 4 6 : State).pwr.startup = 3) ∧
      ((({ W with pwr := { W.pwr with st := 2, startup := 3 } } : State).setRegFld 0x030 0x104 28 4 6 : State).mtePhase = 6)) ∧
    (((({ W with pwr := { W.pwr with st := 2, startup := 3 } } : State).setRegFld 0x030 0x104 28 4 8 : State).pwr.startup = 3) ∧
      ((({ W with pwr := { W.pwr with st := 2, startup := 3 } } : State).setRegFld 0x030 0x104 28 4 8 : State).mtePhase = 8)) ∧
    (((({ W with pwr := { W.pwr with st := 2, startup := 3 }, mte := { W.mte with nextWsn := 1, durCeiling := 2 } } : State).setRegFld 0x030 0x104 28 4 7 : State).pwr.startup = 3) ∧
      ((({ W with pwr := { W.pwr with st := 2, startup := 3 }, mte := { W.mte with nextWsn := 1, durCeiling := 2 } } : State).setRegFld 0x030 0x104 28 4 7 : State).mtePhase = 7) ∧
      ((({ W with pwr := { W.pwr with st := 2, startup := 3 }, mte := { W.mte with nextWsn := 1, durCeiling := 2 } } : State).setRegFld 0x030 0x104 28 4 7 : State).wsnReady = true)) ∧
    ((({ W with pwr := { W.pwr with st := 2, startup := 1 } } : State).pwr.offReq = false) ∧
      (({ W with pwr := { W.pwr with st := 2, startup := 1 } } : State).pwr.startup = 1)) ∧
    (((({ W with pwr := { W.pwr with st := 2, startup := 2 }, dtc := { decided := true } } : State).setRegFld 0x040 0x100 29 3 1 : State).pwr.offReq = false) ∧
      ((({ W with pwr := { W.pwr with st := 2, startup := 2 }, dtc := { decided := true } } : State).setRegFld 0x040 0x100 29 3 1 : State).pwr.startup = 2) ∧
      ((({ W with pwr := { W.pwr with st := 2, startup := 2 }, dtc := { decided := true } } : State).setRegFld 0x040 0x100 29 3 1 : State).dtc.decided = true) ∧
      ((({ W with pwr := { W.pwr with st := 2, startup := 2 }, dtc := { decided := true } } : State).setRegFld 0x040 0x100 29 3 1 : State).surveyStarted = true) ∧
      ((({ W with pwr := { W.pwr with st := 2, startup := 2 }, dtc := { decided := true } } : State).setRegFld 0x040 0x100 29 3 1 : State).pan.recalling = false)) ∧
    (((({ W with pwr := { W.pwr with st := 2, startup := 3 }, mte := { restored := true } } : State).setRegFld 0x030 0x104 28 4 0 : State).pwr.offReq = false) ∧
      ((({ W with pwr := { W.pwr with st := 2, startup := 3 }, mte := { restored := true } } : State).setRegFld 0x030 0x104 28 4 0 : State).pwr.startup = 3) ∧
      ((({ W with pwr := { W.pwr with st := 2, startup := 3 }, mte := { restored := true } } : State).setRegFld 0x030 0x104 28 4 0 : State).mtePhase = 0) ∧
      ((({ W with pwr := { W.pwr with st := 2, startup := 3 }, mte := { restored := true } } : State).setRegFld 0x030 0x104 28 4 0 : State).mte.restored = true) ∧
      (bitAt ((({ W with pwr := { W.pwr with st := 2, startup := 3 }, mte := { restored := true } } : State).setRegFld 0x030 0x104 28 4 0 : State).reg 6 268) 0 = false)) := by
  and_intros <;> decide

set_option maxRecDepth 20000 in
/-- Every clause of Scraping can be met. -/
theorem test_meets_Scraping :
    ((({ W with mte := { W.mte with sets := [(0, ⟨0, 0, 3, 0, [], 0, 1, [], 0⟩)] } } : State).frozen = false) ∧
      ((({ W with mte := { W.mte with sets := [(0, ⟨0, 0, 3, 0, [], 0, 1, [], 0⟩)] } } : State).levelReclaim (0 : Fin 16).val).mte.victim.find (0 : Fin 16).val = none) ∧
      ((({ W with mte := { W.mte with sets := [(0, ⟨0, 0, 3, 0, [], 0, 1, [], 0⟩)] } } : State).levelReclaim (0 : Fin 16).val).groupState (0 : Fin 16).val ≠ 2) ∧
      ((({ W with mte := { W.mte with sets := [(0, ⟨0, 0, 3, 0, [], 0, 1, [], 0⟩)] } } : State).levelReclaim (0 : Fin 16).val).victimOf (0 : Fin 16).val = some ((0 : Nat), (⟨0, 0, 3, 0, [], 0, 1, [], 0⟩ : SetRec), (1 : Nat)))) ∧
    ((({ W with mte := { W.mte with sets := [(0, { (default : SetRec) with st := 4 })] } } : State).mte.sets.find (0 : BitVec 64).toNat = some ({ (default : SetRec) with st := 4 } : SetRec)) ∧
      (({ (default : SetRec) with st := 4 } : SetRec).st = 4) ∧
      (({ W with mte := { W.mte with sets := [(0, { (default : SetRec) with st := 4 })] } } : State).setLivePages ({ (default : SetRec) with st := 4 } : SetRec) = []) ∧
      (¬(0 : BitVec 64).toNat ∈ ({ W with mte := { W.mte with sets := [(0, { (default : SetRec) with st := 4 })] } } : State).mte.releasing) ∧
      (({ W with mte := { W.mte with sets := [(0, { (default : SetRec) with st := 4 })] } } : State).frozen = false)) ∧
    (((0 : BitVec 64).toNat ∈ ({ W with mte := { W.mte with releasing := [0] } } : State).mte.releasing) ∧
      (({ W with mte := { W.mte with releasing := [0] } } : State).isDurable 7 (0 : BitVec 64) = true)) := by
  and_intros <;> decide

set_option maxRecDepth 20000 in
/-- Every clause of RewindPhases can be met. -/
theorem test_meets_RewindPhases :
    (((({ W with mte := { W.mte with rw := [(255, { op := some { (default : RwOp) with kind := 1, phase := 1 } })] } } : State).rwr (255 : BitVec 8).toNat).op = some ({ (default : RwOp) with kind := 1, phase := 1 } : RwOp)) ∧
      (({ (default : RwOp) with kind := 1, phase := 1 } : RwOp).kind = 1) ∧
      (({ (default : RwOp) with kind := 1, phase := 1 } : RwOp).phase = 1) ∧
      (({ W with mte := { W.mte with rw := [(255, { op := some { (default : RwOp) with kind := 1, phase := 1 } })] } } : State).holdMet (255 : BitVec 8).toNat = true)) ∧
    (((({ W with mte := { W.mte with rw := [(255, { op := some { (default : RwOp) with kind := 1, phase := 2 } })] } } : State).rwr (255 : BitVec 8).toNat).op = some ({ (default : RwOp) with kind := 1, phase := 2 } : RwOp)) ∧
      (({ (default : RwOp) with kind := 1, phase := 2 } : RwOp).kind = 1) ∧
      (({ (default : RwOp) with kind := 1, phase := 2 } : RwOp).phase = 2) ∧
      (({ W with mte := { W.mte with rw := [(255, { op := some { (default : RwOp) with kind := 1, phase := 2 } })] } } : State).isDurable 16 (BitVec.ofNat 64 ({ (default : RwOp) with kind := 1, phase := 2 } : RwOp).cut) = true)) ∧
    (((({ W with mte := { W.mte with rw := [(255, { op := some { (default : RwOp) with kind := 1, phase := 1 } })] } } : State).rwr (255 : BitVec 8).toNat).op = some ({ (default : RwOp) with kind := 1, phase := 1 } : RwOp)) ∧
      (({ (default : RwOp) with kind := 1, phase := 1 } : RwOp).kind = 1) ∧
      (({ (default : RwOp) with kind := 1, phase := 1 } : RwOp).phase = 1)) ∧
    (((({ W with mte := { W.mte with rw := [(255, { op := some { (default : RwOp) with kind := 2, phase := 1 } })] } } : State).rwr (255 : BitVec 8).toNat).op = some ({ (default : RwOp) with kind := 2, phase := 1 } : RwOp)) ∧
      (({ (default : RwOp) with kind := 2, phase := 1 } : RwOp).kind = 2) ∧
      (({ (default : RwOp) with kind := 2, phase := 1 } : RwOp).phase = 1) ∧
      (({ W with mte := { W.mte with rw := [(255, { op := some { (default : RwOp) with kind := 2, phase := 1 } })] } } : State).quiesceMet (255 : BitVec 8).toNat = true)) ∧
    (((({ W with mte := { W.mte with rw := [(255, { op := some { (default : RwOp) with kind := 2, phase := 2 } })] } } : State).rwr (255 : BitVec 8).toNat).op = some ({ (default : RwOp) with kind := 2, phase := 2 } : RwOp)) ∧
      (({ (default : RwOp) with kind := 2, phase := 2 } : RwOp).kind = 2) ∧
      (({ (default : RwOp) with kind := 2, phase := 2 } : RwOp).phase = 2) ∧
      (({ W with mte := { W.mte with rw := [(255, { op := some { (default : RwOp) with kind := 2, phase := 2 } })] } } : State).isDurable 18 (BitVec.ofNat 64 ({ (default : RwOp) with kind := 2, phase := 2 } : RwOp).cut) = true)) ∧
    (((({ W with mte := { W.mte with rw := [(255, { op := some { (default : RwOp) with kind := 2, phase := 3 } })] } } : State).rwr (255 : BitVec 8).toNat).op = some ({ (default : RwOp) with kind := 2, phase := 3 } : RwOp)) ∧
      (({ (default : RwOp) with kind := 2, phase := 3 } : RwOp).kind = 2) ∧
      (({ (default : RwOp) with kind := 2, phase := 3 } : RwOp).phase = 3) ∧
      (({ W with mte := { W.mte with rw := [(255, { op := some { (default : RwOp) with kind := 2, phase := 3 } })] } } : State).isDurable 21 (BitVec.ofNat 64 ({ (default : RwOp) with kind := 2, phase := 3 } : RwOp).cut) = true)) ∧
    (((({ W with mte := { W.mte with rw := [(255, { op := some { (default : RwOp) with kind := 2, phase := 1 } })] } } : State).rwr (255 : BitVec 8).toNat).op = some ({ (default : RwOp) with kind := 2, phase := 1 } : RwOp)) ∧
      (({ (default : RwOp) with kind := 2, phase := 1 } : RwOp).kind = 2) ∧
      (({ (default : RwOp) with kind := 2, phase := 1 } : RwOp).phase = 1)) ∧
    (((({ W with mte := { W.mte with rw := [(255, { op := some { (default : RwOp) with kind := 1, phase := 4 } })] } } : State).rwr (255 : BitVec 8).toNat).op = some ({ (default : RwOp) with kind := 1, phase := 4 } : RwOp)) ∧
      (({ (default : RwOp) with kind := 1, phase := 4 } : RwOp).phase = 4)) := by
  and_intros <;> decide

set_option maxRecDepth 20000 in
/-- Every clause of RegisterAccess can be met. -/
theorem test_meets_RegisterAccess :
    (((W : State).pages.started = true) ∧
      ((W : State).reaches (.i3c : Requester) = true) ∧
      (pageKind (0x180 : BitVec 12).toNat = some (.fxb : PageKind)) ∧
      (regWord (0x180 : BitVec 12).toNat (0x110 : BitVec 12).toNat = some (((regWord 0x180 0x110).get rfl) : RegWord)) ∧
      ((0x110 : BitVec 12).toNat % 4 = 0) ∧
      ((W : State).accepts (.i3c : Requester) (0x180 : BitVec 12).toNat (0x110 : BitVec 12).toNat (5 : Word) = true)) ∧
    (((W : State).pages.started = true) ∧
      ((W : State).reaches (.i3c : Requester) = true) ∧
      (pageKind (0x180 : BitVec 12).toNat = some (.fxb : PageKind)) ∧
      (regWord (0x180 : BitVec 12).toNat (0x110 : BitVec 12).toNat = some (((regWord 0x180 0x110).get rfl) : RegWord)) ∧
      ((0x110 : BitVec 12).toNat % 4 = 0) ∧
      ((W : State).windowShut (.i3c : Requester) = none) ∧
      ((W : State).mayWrite (.i3c : Requester) (0x110 : BitVec 12).toNat (0xffffffff : Word) = true) ∧
      ((W : State).blockClosed (0x180 : BitVec 12).toNat (.fxb : PageKind) (0x110 : BitVec 12).toNat = false) ∧
      ((W : State).writeOk (.i3c : Requester) (0x180 : BitVec 12).toNat (.fxb : PageKind) (((regWord 0x180 0x110).get rfl) : RegWord) (0xffffffff : Word) = false)) ∧
    (((W.setReg 0x00a 0x100 0 : State).pages.started = true) ∧
      ((W.setReg 0x00a 0x100 0 : State).reaches (.i3c : Requester) = true) ∧
      (pageKind (0 : BitVec 12).toNat = some (.mgt : PageKind)) ∧
      ((W.setReg 0x00a 0x100 0 : State).windowShut (.i3c : Requester) = none) ∧
      ((W.setReg 0x00a 0x100 0 : State).mayWrite (.i3c : Requester) (0 : BitVec 12).toNat (0 : Word) = false)) ∧
    (((W : State).pages.started = true) ∧
      ((W : State).reaches (.i3c : Requester) = true) ∧
      (pageKind (0 : BitVec 12).toNat = some (.mgt : PageKind)) ∧
      ((W : State).windowShut (.i3c : Requester) = none) ∧
      ((W : State).mayWrite (.i3c : Requester) (0xffe : BitVec 12).toNat (0 : Word) = true) ∧
      ((0 : Nat) ≠ 4 ∨ (0xffe : BitVec 12).toNat % 4 ≠ 0)) ∧
    (((W : State).pages.started = true) ∧
      ((W : State).reaches (.i3c : Requester) = true) ∧
      (pageKind (0xfff : BitVec 12).toNat = none) ∧
      ((W : State).windowShut (.i3c : Requester) = none) ∧
      ((W : State).hasRight (.i3c : Requester) 0 = true)) ∧
    (((W : State).pages.started = true) ∧
      ((W : State).reaches (.i3c : Requester) = true) ∧
      (pageKind (7 : BitVec 12).toNat = none) ∧
      ((W : State).windowShut (.i3c : Requester) = none)) ∧
    (((({ Wh with pages := { started := true } } : State).setReg 0x1c0 0x10c 0 : State).pages.started = true) ∧
      ((({ Wh with pages := { started := true } } : State).setReg 0x1c0 0x10c 0 : State).reaches (.head 0 : Requester) = true) ∧
      ((({ Wh with pages := { started := true } } : State).setReg 0x1c0 0x10c 0 : State).windowShut (.head 0 : Requester) = some (0 : Fin 64))) ∧
    (((W : State).pages.started = true) ∧
      ((W : State).reaches (.i3c : Requester) = true) ∧
      (pageKind (0x180 : BitVec 12).toNat = some (.fxb : PageKind)) ∧
      (regWord (0x180 : BitVec 12).toNat (0x110 : BitVec 12).toNat = some (((regWord 0x180 0x110).get rfl) : RegWord)) ∧
      ((0x110 : BitVec 12).toNat % 4 = 0) ∧
      ((W : State).windowShut (.i3c : Requester) = none) ∧
      ((W : State).blockClosed (0x180 : BitVec 12).toNat (.fxb : PageKind) (0x110 : BitVec 12).toNat = false) ∧
      ((0x180 : BitVec 12) ++ (0x110 : BitVec 12) ≠ (288 : BitVec 24)) ∧
      (¬((.i3c : Requester) = Requester.i3c ∧ ((0x180 : BitVec 12) ++ (0x110 : BitVec 12)).toNat ∈ fifoAddrs))) ∧
    (((W : State).pages.started = true) ∧
      ((W : State).reaches (.i3c : Requester) = true) ∧
      (pageKind (0 : BitVec 12).toNat = some (.mgt : PageKind)) ∧
      (regWord (0 : BitVec 12).toNat (0x110 : BitVec 12).toNat = some (((regWord 0 0x110).get rfl) : RegWord)) ∧
      ((0x110 : BitVec 12).toNat % 4 = 0) ∧
      ((W : State).windowShut (.i3c : Requester) = none) ∧
      ((W : State).blockClosed (0 : BitVec 12).toNat (.mgt : PageKind) (0x110 : BitVec 12).toNat = false) ∧
      ((.i3c : Requester) = Requester.i3c) ∧
      (((0 : BitVec 12) ++ (0x110 : BitVec 12)).toNat ∈ fifoAddrs)) := by
  and_intros <;> decide

set_option maxRecDepth 20000 in
/-- Every clause of HeaderCommands can be met. -/
theorem test_meets_HeaderCommands :
    ((pageKind (0 : BitVec 12).toNat = some (.mgt : PageKind)) ∧
      ((W : State).accepts (.i3c : Requester) (0 : BitVec 12).toNat 8 ((W : State).ctrlWord (0 : BitVec 12).toNat 8) = true) ∧
      ((.mgt : PageKind) ≠ PageKind.mte)) ∧
    ((pageKind (0 : BitVec 12).toNat = some (.mgt : PageKind)) ∧
      ((W : State).accepts (.i3c : Requester) (0 : BitVec 12).toNat 8 ((W : State).ctrlWord (0 : BitVec 12).toNat 4) = true)) ∧
    ((pageKind (0 : BitVec 12).toNat = some (.mgt : PageKind)) ∧
      ((W : State).accepts (.i3c : Requester) (0 : BitVec 12).toNat 8 ((W : State).ctrlWord (0 : BitVec 12).toNat 2) = true)) ∧
    ((pageKind (0 : BitVec 12).toNat = some (.mgt : PageKind)) ∧
      ((W : State).accepts (.i3c : Requester) (0 : BitVec 12).toNat 8 (if (true : Bool) = true then 1 else 0) = true)) ∧
    ((pageKind (0x180 : BitVec 12).toNat = some (.fxb : PageKind)) ∧
      ((0x180 : BitVec 12).toNat ∈ ({ W with pages := { started := true, stopped := [0x180] } } : State).pages.stopped) ∧
      (({ W with pages := { started := true, stopped := [0x180] } } : State).pageIdle (0x180 : BitVec 12).toNat = true)) ∧
    ((pageKind (0 : BitVec 12).toNat = some (.mgt : PageKind)) ∧
      ((W : State).accepts (.i3c : Requester) (0 : BitVec 12).toNat 16 (0 : Word) = true)) ∧
    ((pageKind (0 : BitVec 12).toNat = some (.mgt : PageKind)) ∧
      ((W : State).accepts (.i3c : Requester) (0 : BitVec 12).toNat 20 (0 : Word) = true)) ∧
    ((pageKind (0 : BitVec 12).toNat = some (.mgt : PageKind)) ∧
      ((W : State).accepts (.i3c : Requester) (0 : BitVec 12).toNat 32 (0 : Word) = true)) ∧
    ((pageKind (0 : BitVec 12).toNat = some (.mgt : PageKind)) ∧
      ((W : State).accepts (.i3c : Requester) (0 : BitVec 12).toNat 36 (0 : Word) = true)) ∧
    ((pageKind (0x180 : BitVec 12).toNat = some (.fxb : PageKind)) ∧
      (({ W with pages := { started := true, locked := [0x180] } } : State).accepts (.i3c : Requester) (0x180 : BitVec 12).toNat 56 (0x2000000 : Word) = true) ∧
      (bitAt (0x2000000 : Word) 25 = true) ∧
      ((0x180 : BitVec 12).toNat ∈ ({ W with pages := { started := true, locked := [0x180] } } : State).pages.locked)) ∧
    ((pageKind (0 : BitVec 12).toNat = some (.mgt : PageKind)) ∧
      ((W : State).accepts (.i3c : Requester) 768 256 (if (true : Bool) = true then 1 else 0) = true)) ∧
    ((pageKind (0 : BitVec 12).toNat = some (.mgt : PageKind)) ∧
      ((W : State).accepts (.i3c : Requester) 768 256 (BitVec.ofNat 32 (2 + flag (W : State).freezeAll)) = true)) ∧
    (((W : State).accepts (.i3c : Requester) 48 8 ((W : State).ctrlWord 48 8) = true) ∧
      ((W : State).mte.commit = 0)) ∧
    ((({ W with mte := { W.mte with commit := 1 } } : State).mte.commit = 1)) ∧
    ((({ W with mte := { W.mte with commit := 2 } } : State).mte.commit = 2)) ∧
    (((W : State).accepts (.i3c : Requester) 1 264 1 = true)) ∧
    (((W : State).accepts (.i3c : Requester) 1 264 2 = true)) ∧
    (((W : State).accepts (.i3c : Requester) 2 300 (0 : Word) = true)) ∧
    ((({ W with pan := { W.pan with supWin := some default, sup := [(0, { (default : SupRec) with seq := 1, commit := true })] } } : State).accepts (.i3c : Requester) 2 304 1 = true) ∧
      (({ W with pan := { W.pan with supWin := some default, sup := [(0, { (default : SupRec) with seq := 1, commit := true })] } } : State).pan.supWin = some (default : SupRec)) ∧
      ((pickRec ({ W with pan := { W.pan with supWin := some default, sup := [(0, { (default : SupRec) with seq := 1, commit := true })] } } : State).pan.sup (fun x_ => ({ W with pan := { W.pan with supWin := some default, sup := [(0, { (default : SupRec) with seq := 1, commit := true })] } } : State).supOk x_ && decide ((default : SupRec).seq < x_.seq)) fun a_ b_ => decide (a_.seq < b_.seq)) = some ((0, { (default : SupRec) with seq := 1, commit := true }) : Nat × SupRec))) ∧
    ((({ W with pan := { W.pan with sup := [(0, default)] } } : State).accepts (.i3c : Requester) 2 304 2 = true) ∧
      ((pickRec ({ W with pan := { W.pan with sup := [(0, default)] } } : State).pan.sup (fun r_ => ({ W with pan := { W.pan with sup := [(0, default)] } } : State).supOk r_ && true) fun a_ b_ => decide (a_.seq < b_.seq)) = some ((0, default) : Nat × SupRec))) ∧
    ((({ W with pan := { W.pan with sup := [(0, default)] } } : State).accepts (.i3c : Requester) 2 304 4 = true) ∧
      ((pickRec ({ W with pan := { W.pan with sup := [(0, default)] } } : State).pan.sup (fun r_ => ({ W with pan := { W.pan with sup := [(0, default)] } } : State).supOk r_ && true) fun a_ b_ => decide (b_.seq < a_.seq)) = some ((0, default) : Nat × SupRec))) ∧
    (((W : State).accepts (.i3c : Requester) 2 304 8 = true)) ∧
    (((W : State).accepts (.i3c : Requester) 2 296 (if (true : Bool) = true then 1 else 0) = true) ∧
      ((true : Bool) ≠ (W : State).pan.compat)) := by
  and_intros <;> decide

set_option maxRecDepth 20000 in
/-- Every clause of BlockRegisters can be met. -/
theorem test_meets_BlockRegisters :
    (((W : State).accepts (.i3c : Requester) (slcPage (0 : Fin 8).val) 260 (0 : Word) = true)) ∧
    (((W : State).accepts (.i3c : Requester) (slcPage (0 : Fin 8).val) 268 (0xc0000000 : Word) = true) ∧
      (bitAt (0xc0000000 : Word) 31 = true) ∧
      (bitAt (0xc0000000 : Word) 30 = true)) ∧
    (((W : State).accepts (.i3c : Requester) (slcPage (0 : Fin 8).val) 328 (0 : Word) = true)) ∧
    (((W.setRegFld (dchPage 0) 0x100 29 3 3 : State).accepts (.i3c : Requester) (dchPage (0 : Fin 16).val) 272 2147483648 = true)) ∧
    ((((W.setRegFld (dchPage 0) 0x100 29 3 4).setRegFld (dchPage 0) 0x100 24 5 6 : State).accepts (.i3c : Requester) (dchPage (0 : Fin 16).val) 272 1073741824 = true)) ∧
    (((W.setRegFld (chanPage 0) 0x100 29 3 1 : State).accepts (.i3c : Requester) (chanPage (0 : Fin 64).val) 268 2147483648 = true)) ∧
    (((W.setRegFld (chanPage 0) 0x100 29 3 1 : State).accepts (.i3c : Requester) (chanPage (0 : Fin 64).val) 268 (BitVec.setWidth 32 (8 : BitVec 4)) = true)) ∧
    (((W : State).accepts (.i3c : Requester) (256 + (0 : Fin 64).val) 260 (0 : Word) = true)) ∧
    (((W : State).accepts (.i3c : Requester) 11 264 (0x80000000 : Word) = true) ∧
      (bitAt (0x80000000 : Word) 31 = true)) ∧
    ((({ W with crs := { W.crs with testMode := true } } : State).accepts (.i3c : Requester) 4 296 (0x90000000 : Word) = true) ∧
      (bitAt (0x90000000 : Word) 31 = true)) ∧
    (((W : State).accepts (.i3c : Requester) 5 264 (0 : Word) = true)) ∧
    ((({ W with flt := { W.flt with window := some default } } : State).accepts (.i3c : Requester) 5 268 1 = true) ∧
      (({ W with flt := { W.flt with window := some default } } : State).flt.window = some (default : Record))) ∧
    (((W : State).accepts (.i3c : Requester) 5 268 2 = true)) ∧
    (((W : State).accepts (.i3c : Requester) 5 268 4 = true)) := by
  and_intros <;> decide

set_option maxRecDepth 20000 in
/-- A clause of PasswordsAndPantry can be met. -/
theorem test_meets_PasswordsAndPantry :
    ((({ W with pan := { W.pan with pwds := [(0, pwDigest 0)] } } : State).accepts (.i3c : Requester) 6 264 1 = true) ∧
      (({ W with pan := { W.pan with pwds := [(0, pwDigest 0)] } } : State).pan.hold = false) ∧
      (({ W with pan := { W.pan with pwds := [(0, pwDigest 0)] } } : State).pan.pwds.find (pwKey (({ W with pan := { W.pan with pwds := [(0, pwDigest 0)] } } : State).regFld 6 260 0 3 : Nat) false) = some (pwDigest (({ W with pan := { W.pan with pwds := [(0, pwDigest 0)] } } : State).entered (.i3c : Requester))))) := by
  refine ⟨by decide, rfl, rfl⟩

set_option maxRecDepth 20000 in
/-- A clause of PasswordsAndPantry can be met. -/
theorem test_meets_PasswordsAndPantry_2 :
    ((({ W with pan := { W.pan with pwds := [(1, pwDigest 0)] } } : State).accepts (.i3c : Requester) 6 264 2 = true) ∧
      (({ W with pan := { W.pan with pwds := [(1, pwDigest 0)] } } : State).pan.hold = false) ∧
      (({ W with pan := { W.pan with pwds := [(1, pwDigest 0)] } } : State).pan.pwds.find (pwKey (({ W with pan := { W.pan with pwds := [(1, pwDigest 0)] } } : State).regFld 6 260 0 3 : Nat) true) = some (pwDigest (({ W with pan := { W.pan with pwds := [(1, pwDigest 0)] } } : State).entered (.i3c : Requester))))) := by
  refine ⟨by decide, rfl, rfl⟩

set_option maxRecDepth 20000 in
/-- Clauses of PasswordsAndPantry can be met. -/
theorem test_meets_PasswordsAndPantry_3 :
    (((W : State).accepts (.i3c : Requester) 6 264 3 = true) ∧
      ((W : State).unlocked (.i3c : Requester) ((W : State).regFld 6 260 0 3 : Nat) true = true)) ∧
    (((W : State).accepts (.i3c : Requester) 6 264 4 = true) ∧
      ((W : State).unlocked (.i3c : Requester) ((W : State).regFld 6 260 0 3 : Nat) true = true)) ∧
    (((W : State).accepts (.i3c : Requester) 6 264 5 = true)) ∧
    (((W : State).pantryDown = false)) ∧
    (((W : State).pan.paFailed = false) ∧
      ((W : State).pan.pbFailed = false)) ∧
    ((({ W with pan := { W.pan with recalling := true } } : State).pan.recalling = true)) ∧
    ((partitions[(0 : Nat)]? = some (⟨0, 0x1000⟩ : Partition)) ∧
      (partitions[(0 : Nat) + 1]? = some (⟨0x1000, 0xf000⟩ : Partition))) ∧
    (((0 : Nat) < 60)) ∧
    (((0 : Nat) < 16384)) := by
  and_intros <;> decide

set_option maxRecDepth 20000 in
/-- Every clause of I3cCodes can be met. -/
theorem test_meets_I3cCodes :
    (((W : State).mgt.dyn = none)) ∧
    (((W : State).mgt.dyn = none) ∧
      ((0x48 : BitVec 7).toNat = (W : State).mgt.statAddr)) ∧
    (((W : State).mgt.dyn ≠ none ∨ (0 : BitVec 7).toNat ≠ (W : State).mgt.statAddr)) ∧
    ((({ W with mgt := { W.mgt with dyn := some 9 } } : State).mgt.dyn ≠ none)) ∧
    ((64 ≤ (516 : BitVec 16).toNat) ∧
      ((516 : BitVec 16).toNat ≤ 516)) ∧
    ((64 ≤ (64 : BitVec 16).toNat) ∧
      ((64 : BitVec 16).toNat ≤ 512)) ∧
    (((63 : BitVec 16).toNat < 64)) ∧
    (((0 : BitVec 16).toNat < 64)) ∧
    ((({ W with mgt := { W.mgt with dyn := some 9 } } : State).mgt.dyn ≠ none) ∧
      (((Instr.getdcr, [0]) : Instr × List Byte) ∈ [(Instr.getmwl, msbBytes 2 ({ W with mgt := { W.mgt with dyn := some 9 } } : State).mgt.mwl.toNat), (Instr.getmrl, msbBytes 2 ({ W with mgt := { W.mgt with dyn := some 9 } } : State).mgt.mrl.toNat ++ [3]), (Instr.getpid, msbBytes 6 provisionedId), (Instr.getbcr, [38]), (Instr.getdcr, [0]), (Instr.getmxds, [0, 0]), (Instr.getcaps, [1, 1, 0, 0])])) ∧
    (((W : State).mgt.dyn = none) ∧
      ((Instr.getpid : Instr) ∈ [Instr.getmwl, Instr.getmrl, Instr.getpid, Instr.getbcr, Instr.getdcr, Instr.getmxds, Instr.getcaps])) ∧
    (((W : State).mgt.dyn = none) ∧
      ((W : State).mgt.hjEn = true)) ∧
    ((({ W with mgt := { W.mgt with ibis := [(1, []), (0, [])] } } : State).mgt.ibis.getLast? = some ((0 : Byte), ([] : List Byte)))) := by
  and_intros <;> decide

set_option maxRecDepth 20000 in
/-- Every clause of I3cTransfers can be met. -/
theorem test_meets_I3cTransfers :
    (((W : State).mgt.tooLong 8 = false) ∧
      ((0 : BitVec 24).toNat % 4 = 0) ∧
      (namesFifo (0 : BitVec 24).toNat 1 = false)) ∧
    (((1 : Byte) ≠ 0) ∧
      (BitVec.toNat (1 : Byte) ≤ 128) ∧
      ((0x180110 : BitVec 24).toNat % 4 = 0) ∧
      (BitVec.toNat (1 : Byte) ≤ wordsLeft (0x180110 : BitVec 24).toNat) ∧
      (namesFifo (0x180110 : BitVec 24).toNat (BitVec.toNat (1 : Byte)) = false)) ∧
    ((({ W with mgt := { W.mgt with dyn := some 9, rdPtr := some (0, 1) } } : State).mgt.rdPtr = some ((0 : BitVec 24), 1)) ∧
      (({ W with mgt := { W.mgt with dyn := some 9, rdPtr := some (0, 1) } } : State).mgt.popNext = false) ∧
      (({ W with mgt := { W.mgt with dyn := some 9, rdPtr := some (0, 1) } } : State).mgt.legacy = false) ∧
      (4 ≤ ({ W with mgt := { W.mgt with dyn := some 9, rdPtr := some (0, 1) } } : State).mgt.mrl.toNat)) ∧
    ((({ W with mgt := { W.mgt with dyn := some 9 } } : State).pages.started = true) ∧
      (({ W with mgt := { W.mgt with dyn := some 9 } } : State).mgt.dyn ≠ none) ∧
      (({ W with mgt := { W.mgt with dyn := some 9 } } : State).mgt.tooLong 5 = false)) ∧
    ((({ W with mgt := { W.mgt with dyn := some 9 } } : State).pages.started = true) ∧
      (({ W with mgt := { W.mgt with dyn := some 9 } } : State).mgt.dyn ≠ none)) ∧
    (((W : State).pages.started = true) ∧
      (196 ≤ BitVec.toNat (0xc7 : Byte)) ∧
      (BitVec.toNat (0xc7 : Byte) ≤ 199)) ∧
    ((BitVec.toNat (0 : Byte) ≠ 1) ∧
      (BitVec.toNat (0 : Byte) < 192 ∨ 199 < BitVec.toNat (0 : Byte))) := by
  and_intros <;> decide

set_option maxRecDepth 20000 in
/-- Every clause of CommandFifo can be met. -/
theorem test_meets_CommandFifo :
    (((Wh : State).accepts (Requester.head (0 : Fin 64)) 0 272 (0 : Word) = true) ∧
      ((Wh : State).mgt.cmdOwner = none ∨ (Wh : State).mgt.cmdOwner = some (Requester.head (0 : Fin 64))) ∧
      ((Wh : State).mgt.cmdHeld = none) ∧
      ((Wh : State).mgt.cmdOpen.length < 128)) ∧
    ((({ Wh with mgt := { Wh.mgt with cmdOpen := List.replicate 127 0, cmdOwner := some (.head 0) } } : State).accepts (Requester.head (0 : Fin 64)) 0 276 (0 : Word) = true) ∧
      (({ Wh with mgt := { Wh.mgt with cmdOpen := List.replicate 127 0, cmdOwner := some (.head 0) } } : State).mgt.cmdOwner = none ∨ ({ Wh with mgt := { Wh.mgt with cmdOpen := List.replicate 127 0, cmdOwner := some (.head 0) } } : State).mgt.cmdOwner = some (Requester.head (0 : Fin 64))) ∧
      (({ Wh with mgt := { Wh.mgt with cmdOpen := List.replicate 127 0, cmdOwner := some (.head 0) } } : State).mgt.cmdHeld = none) ∧
      (({ Wh with mgt := { Wh.mgt with cmdOpen := List.replicate 127 0, cmdOwner := some (.head 0) } } : State).mgt.cmdOpen.length < 128)) ∧
    ((({ Wh with mgt := { Wh.mgt with cmdOpen := List.replicate 128 0, cmdOwner := some (.head 0) } } : State).accepts (Requester.head (0 : Fin 64)) 0 272 (0 : Word) = true) ∧
      (({ Wh with mgt := { Wh.mgt with cmdOpen := List.replicate 128 0, cmdOwner := some (.head 0) } } : State).mgt.cmdOwner = none ∨ ({ Wh with mgt := { Wh.mgt with cmdOpen := List.replicate 128 0, cmdOwner := some (.head 0) } } : State).mgt.cmdOwner = some (Requester.head (0 : Fin 64))) ∧
      (({ Wh with mgt := { Wh.mgt with cmdOpen := List.replicate 128 0, cmdOwner := some (.head 0) } } : State).mgt.cmdHeld = none) ∧
      (128 ≤ ({ Wh with mgt := { Wh.mgt with cmdOpen := List.replicate 128 0, cmdOwner := some (.head 0) } } : State).mgt.cmdOpen.length)) ∧
    ((({ Wh with mgt := { Wh.mgt with cpl := [[0]] } } : State).pages.started = true) ∧
      (({ Wh with mgt := { Wh.mgt with cpl := [[0]] } } : State).reaches (Requester.head (0 : Fin 64)) = true) ∧
      (({ Wh with mgt := { Wh.mgt with cpl := [[0]] } } : State).windowShut (Requester.head (0 : Fin 64)) = none) ∧
      (¬0 ∈ ({ Wh with mgt := { Wh.mgt with cpl := [[0]] } } : State).pages.resetting) ∧
      (({ Wh with mgt := { Wh.mgt with cpl := [[0]] } } : State).mgt.cplOwner = none) ∧
      (({ Wh with mgt := { Wh.mgt with cpl := [[0]] } } : State).mgt.cpl = ((0 : Word) :: ([] : List Word)) :: ([] : List (List Word)))) ∧
    (((Wh : State).pages.started = true) ∧
      ((Wh : State).reaches (Requester.head (0 : Fin 64)) = true) ∧
      ((Wh : State).windowShut (Requester.head (0 : Fin 64)) = none) ∧
      (¬0 ∈ (Wh : State).pages.resetting) ∧
      ((Wh : State).mgt.cplOwner = none) ∧
      ((Wh : State).mgt.cpl = [])) ∧
    ((Requester.head (0 : Fin 64) ∈ ({ Wh with mgt := { Wh.mgt with cplRead := [.head 0] } } : State).mgt.cplRead) ∧
      (({ Wh with mgt := { Wh.mgt with cplRead := [.head 0] } } : State).mgt.cmdHeld = none)) ∧
    ((({ Wh with mgt := { Wh.mgt with cmdOpen := [0], cmdOwner := some .i3c } } : State).mgt.cmdOpen = (0 : Word) :: ([] : List Word)) ∧
      (({ Wh with mgt := { Wh.mgt with cmdOpen := [0], cmdOwner := some .i3c } } : State).mgt.cmdOwner = some (.i3c : Requester))) ∧
    ((({ Wh with mgt := { Wh.mgt with cplOwner := some .i3c } } : State).mgt.cplOwner = some (.i3c : Requester))) := by
  and_intros <;> decide

set_option maxRecDepth 20000 in
/-- Every clause of ShortCommands can be met. -/
theorem test_meets_ShortCommands :
    (((W : State).pages.started = true)) ∧
    (((W : State).pages.started = true) ∧
      ((W : State).safe = false) ∧
      ((W : State).hasRight (.i3c : Requester) 8 = true) ∧
      ((0 : BitVec 2) ≠ 2) ∧
      ((0 : BitVec 2) ≠ 3)) ∧
    (((W : State).pages.started = true) ∧
      ((W : State).hasRight (.i3c : Requester) 8 = true)) ∧
    (((W : State).pages.started = true) ∧
      ((W : State).safe = false) ∧
      ((W : State).hasRight (.i3c : Requester) 6 = true)) ∧
    (((W : State).pages.started = true) ∧
      ((W : State).safe = false) ∧
      ((W : State).pan.recalling = false) ∧
      ((W : State).pan.hold = false) ∧
      ((W : State).pantryDown = false) ∧
      ((W : State).pan.pwds.find (pwKey 2 true) = none)) ∧
    (((W : State).pages.started = true) ∧
      ((W : State).safe = false) ∧
      ((W : State).pan.recalling = false) ∧
      ((W : State).pan.hold = false) ∧
      ((W : State).pantryDown = false) ∧
      ((W : State).pan.pwds.find (pwKey 5 true) = none)) := by
  and_intros <;> decide

set_option maxRecDepth 20000 in
/-- Every clause of SegmentCommands can be met. -/
theorem test_meets_SegmentCommands :
    (((W : State).pages.started = true) ∧
      ((W : State).safe = false) ∧
      ((W : State).hasRight (.i3c : Requester) 2 = true) ∧
      ((W : State).fxb.cust ≠ 0)) ∧
    (((W : State).pages.started = true) ∧
      ((W : State).safe = false) ∧
      ((W : State).hasRight (.i3c : Requester) 2 = true) ∧
      ((W : State).fxb.cust ≠ 0) ∧
      (BitVec.toNat (0 : Word) < 2 ^ 22) ∧
      (BitVec.toNat (0 : Word) < 2 ^ 16) ∧
      ((W : State).mirrorRefusal (0 : Word) (0 : Word) = none)) := by
  and_intros <;> decide

set_option maxRecDepth 20000 in
/-- Every clause of LongCommands can be met. -/
theorem test_meets_LongCommands :
    ((({ W with fxb := { W.fxb with dir := [(0, { st := 2, owner := 9 })] } } : State).pages.started = true) ∧
      (({ W with fxb := { W.fxb with dir := [(0, { st := 2, owner := 9 })] } } : State).safe = false) ∧
      (({ W with fxb := { W.fxb with dir := [(0, { st := 2, owner := 9 })] } } : State).mte.wsnEnd = false) ∧
      (({ W with fxb := { W.fxb with dir := [(0, { st := 2, owner := 9 })] } } : State).hasRight (.i3c : Requester) 4 = true) ∧
      (({ W with fxb := { W.fxb with dir := [(0, { st := 2, owner := 9 })] } } : State).discardRefusal (0 : Fga) (1 : Word) = none)) ∧
    ((({ W with mte := { W.mte with regions := [(255, { attr0 := 0x10001 })] } } : State).pages.started = true) ∧
      (({ W with mte := { W.mte with regions := [(255, { attr0 := 0x10001 })] } } : State).safe = false) ∧
      (({ W with mte := { W.mte with regions := [(255, { attr0 := 0x10001 })] } } : State).mte.wsnEnd = false) ∧
      (({ W with mte := { W.mte with regions := [(255, { attr0 := 0x10001 })] } } : State).hasRight (.i3c : Requester) 3 = true) ∧
      (({ W with mte := { W.mte with regions := [(255, { attr0 := 0x10001 })] } } : State).markRefusal (BitVec.toNat (255 : Byte)) true = none)) ∧
    ((({ W with mte := { W.mte with regions := [(255, { attr0 := 0x10001 })], rw := [(255, { marks := [⟨7, 0, 0⟩] })] } } : State).pages.started = true) ∧
      (({ W with mte := { W.mte with regions := [(255, { attr0 := 0x10001 })], rw := [(255, { marks := [⟨7, 0, 0⟩] })] } } : State).safe = false) ∧
      (({ W with mte := { W.mte with regions := [(255, { attr0 := 0x10001 })], rw := [(255, { marks := [⟨7, 0, 0⟩] })] } } : State).mte.wsnEnd = false) ∧
      (({ W with mte := { W.mte with regions := [(255, { attr0 := 0x10001 })], rw := [(255, { marks := [⟨7, 0, 0⟩] })] } } : State).hasRight (.i3c : Requester) 3 = true) ∧
      (({ W with mte := { W.mte with regions := [(255, { attr0 := 0x10001 })], rw := [(255, { marks := [⟨7, 0, 0⟩] })] } } : State).toRefusal (BitVec.toNat (255 : Byte)) (7 : BitVec 16) true = none)) ∧
    ((({ W with mte := { W.mte with regions := [(255, { attr0 := 0x10001 })], rw := [(255, { marks := [⟨7, 0, 0⟩] })] } } : State).pages.started = true) ∧
      (({ W with mte := { W.mte with regions := [(255, { attr0 := 0x10001 })], rw := [(255, { marks := [⟨7, 0, 0⟩] })] } } : State).safe = false) ∧
      (({ W with mte := { W.mte with regions := [(255, { attr0 := 0x10001 })], rw := [(255, { marks := [⟨7, 0, 0⟩] })] } } : State).mte.wsnEnd = false) ∧
      (({ W with mte := { W.mte with regions := [(255, { attr0 := 0x10001 })], rw := [(255, { marks := [⟨7, 0, 0⟩] })] } } : State).hasRight (.i3c : Requester) 3 = true) ∧
      (({ W with mte := { W.mte with regions := [(255, { attr0 := 0x10001 })], rw := [(255, { marks := [⟨7, 0, 0⟩] })] } } : State).dropRefusal (BitVec.toNat (255 : Byte)) (7 : BitVec 16) true = none)) ∧
    ((({ W with fxb := { W.fxb with role := 1 } } : State).pages.started = true) ∧
      (({ W with fxb := { W.fxb with role := 1 } } : State).safe = false) ∧
      (({ W with fxb := { W.fxb with role := 1 } } : State).mte.wsnEnd = false) ∧
      (({ W with fxb := { W.fxb with role := 1 } } : State).hasRight (.i3c : Requester) 5 = true) ∧
      ((List.replicate 63 0x4000000 : List (BitVec 27)).length = 63) ∧
      (({ W with fxb := { W.fxb with role := 1 } } : State).krSetRefusal (List.replicate 63 0x4000000 : List (BitVec 27)) = none)) ∧
    ((({ W with fxb := { W.fxb with role := 1 } } : State).pages.started = true) ∧
      (({ W with fxb := { W.fxb with role := 1 } } : State).safe = false) ∧
      (({ W with fxb := { W.fxb with role := 1 } } : State).mte.wsnEnd = false) ∧
      (({ W with fxb := { W.fxb with role := 1 } } : State).hasRight (.i3c : Requester) 5 = true) ∧
      (({ W with fxb := { W.fxb with role := 1 } } : State).keyRefusal (63 : BitVec 6).toNat none = none)) ∧
    ((({ W with fxb := { W.fxb with role := 1 }, crs := { W.crs with sessions := [(1, .i3c)] } } : State).pages.started = true) ∧
      (({ W with fxb := { W.fxb with role := 1 }, crs := { W.crs with sessions := [(1, .i3c)] } } : State).safe = false) ∧
      (({ W with fxb := { W.fxb with role := 1 }, crs := { W.crs with sessions := [(1, .i3c)] } } : State).mte.wsnEnd = false) ∧
      (({ W with fxb := { W.fxb with role := 1 }, crs := { W.crs with sessions := [(1, .i3c)] } } : State).hasRight (.i3c : Requester) 5 = true) ∧
      (({ W with fxb := { W.fxb with role := 1 }, crs := { W.crs with sessions := [(1, .i3c)] } } : State).inSession = true) ∧
      (({ W with fxb := { W.fxb with role := 1 }, crs := { W.crs with sessions := [(1, .i3c)] } } : State).keyRefusal (0 : BitVec 6).toNat (some ({ k1 := 1, k2 := 2, kt := 3 } : KeySet)) = none)) ∧
    ((({ W with fxb := { W.fxb with role := 1 } } : State).pages.started = true) ∧
      (({ W with fxb := { W.fxb with role := 1 } } : State).safe = false) ∧
      (({ W with fxb := { W.fxb with role := 1 } } : State).mte.wsnEnd = false) ∧
      (({ W with fxb := { W.fxb with role := 1 } } : State).hasRight (.i3c : Requester) 5 = true) ∧
      (({ W with fxb := { W.fxb with role := 1 } } : State).fxb.role = 1)) ∧
    (((W : State).pages.started = true) ∧
      ((W : State).safe = false) ∧
      ((W : State).mte.wsnEnd = false) ∧
      ((W : State).hasRight (.i3c : Requester) 8 = true) ∧
      ((W : State).powerRefusal (BitVec.setWidth 32 (3 : BitVec 2)) = none)) ∧
    (((W : State).pages.started = true) ∧
      ((W : State).safe = false) ∧
      ((W : State).mte.wsnEnd = false) ∧
      ((W : State).hasRight (.i3c : Requester) 7 = true) ∧
      ((W : State).sanitizeRefusal = none)) ∧
    ((({ W with mgt := { W.mgt with handles := [{ (default : HandleRec) with op := 0x53 }] } } : State).pages.started = true) ∧
      (({ W with mgt := { W.mgt with handles := [{ (default : HandleRec) with op := 0x53 }] } } : State).safe = false) ∧
      (({ W with mgt := { W.mgt with handles := [{ (default : HandleRec) with op := 0x53 }] } } : State).mte.wsnEnd = false) ∧
      (({ (default : HandleRec) with op := 0x53 } : HandleRec) ∈ ({ W with mgt := { W.mgt with handles := [{ (default : HandleRec) with op := 0x53 }] } } : State).mgt.handles) ∧
      (({ (default : HandleRec) with op := 0x53 } : HandleRec).op = 83) ∧
      (({ (default : HandleRec) with op := 0x53 } : HandleRec).st ≠ 3)) := by
  and_intros <;> decide

set_option maxRecDepth 20000 in
/-- Every clause of LinkTraining can be met. -/
theorem test_meets_LinkTraining :
    (((({ W with ports := [(0, { wait := false })], cages := [(0, { phase := 3 })] } : State).setRegFld 0x100 0x100 16 8 1 : State).elvucPort (0 : Fin 512).val = true) ∧
      ((({ W with ports := [(0, { wait := false })], cages := [(0, { phase := 3 })] } : State).setRegFld 0x100 0x100 16 8 1 : State).portPresent (0 : Fin 512).val = true) ∧
      ((({ W with ports := [(0, { wait := false })], cages := [(0, { phase := 3 })] } : State).setRegFld 0x100 0x100 16 8 1 : State).blockRuns ((0 : Fin 512).val / 8) = true) ∧
      (((({ W with ports := [(0, { wait := false })], cages := [(0, { phase := 3 })] } : State).setRegFld 0x100 0x100 16 8 1 : State).port (0 : Fin 512).val).st.toNat ≤ 1) ∧
      (((({ W with ports := [(0, { wait := false })], cages := [(0, { phase := 3 })] } : State).setRegFld 0x100 0x100 16 8 1 : State).port (0 : Fin 512).val).wait = false)) ∧
    (((({ W with ports := [(0, { st := 2, phase := 1 })] } : State).port (0 : Fin 512).val).st = 2) ∧
      ((({ W with ports := [(0, { st := 2, phase := 1 })] } : State).port (0 : Fin 512).val).phase = 1) ∧
      (bitAt (1 : BitVec 8) 0 = true ∨ bitAt (1 : BitVec 8) (({ W with ports := [(0, { st := 2, phase := 1 })] } : State).portWidth (0 : Fin 512).val - 1) = true)) ∧
    (((({ W with ports := [(0, { st := 2, phase := 2 })] } : State).port (0 : Fin 512).val).st = 2) ∧
      ((({ W with ports := [(0, { st := 2, phase := 2 })] } : State).port (0 : Fin 512).val).phase = 2) ∧
      (({ W with ports := [(0, { st := 2, phase := 2 })] } : State).goodBlock ((0 : Fin 512).val) 1 ({ (default : TrainBlock) with crc := 1 } : TrainBlock) = false)) ∧
    (((({ W with ports := [(0, { st := 2, phase := 2 })] } : State).port (0 : Fin 512).val).st = 2) ∧
      ((({ W with ports := [(0, { st := 2, phase := 2 })] } : State).port (0 : Fin 512).val).phase = 2) ∧
      (({ W with ports := [(0, { st := 2, phase := 2 })] } : State).goodBlock ((0 : Fin 512).val) 2 ({ (default : TrainBlock) with crc := 1 } : TrainBlock) = false)) ∧
    (((({ W with ports := [(0, { st := 2, phase := 2 })] } : State).port (0 : Fin 512).val).st = 2) ∧
      ((({ W with ports := [(0, { st := 2, phase := 2 })] } : State).port (0 : Fin 512).val).phase = 2) ∧
      (((1, Instr.ts1 (0 : Fin 512) ({ (default : TrainBlock) with lane := 0, rate := 3, width := 1, role := 1, crc := BitVec.ofNat 8 (crc8 (trainBytes 1 { (default : TrainBlock) with lane := 0, rate := 3, width := 1, role := 1 })) } : TrainBlock)) : Nat × Instr) ∈ [(1, Instr.ts1 (0 : Fin 512) ({ (default : TrainBlock) with lane := 0, rate := 3, width := 1, role := 1, crc := BitVec.ofNat 8 (crc8 (trainBytes 1 { (default : TrainBlock) with lane := 0, rate := 3, width := 1, role := 1 })) } : TrainBlock)), (2, Instr.ts2 (0 : Fin 512) ({ (default : TrainBlock) with lane := 0, rate := 3, width := 1, role := 1, crc := BitVec.ofNat 8 (crc8 (trainBytes 1 { (default : TrainBlock) with lane := 0, rate := 3, width := 1, role := 1 })) } : TrainBlock))]) ∧
      (({ W with ports := [(0, { st := 2, phase := 2 })] } : State).goodBlock ((0 : Fin 512).val) ((1, Instr.ts1 (0 : Fin 512) ({ (default : TrainBlock) with lane := 0, rate := 3, width := 1, role := 1, crc := BitVec.ofNat 8 (crc8 (trainBytes 1 { (default : TrainBlock) with lane := 0, rate := 3, width := 1, role := 1 })) } : TrainBlock)) : Nat × Instr).fst ({ (default : TrainBlock) with lane := 0, rate := 3, width := 1, role := 1, crc := BitVec.ofNat 8 (crc8 (trainBytes 1 { (default : TrainBlock) with lane := 0, rate := 3, width := 1, role := 1 })) } : TrainBlock) = true)) ∧
    (((({ W with ports := [(0, { st := 2, phase := 3 })] } : State).port (0 : Fin 512).val).st = 2) ∧
      ((({ W with ports := [(0, { st := 2, phase := 3 })] } : State).port (0 : Fin 512).val).phase = 3) ∧
      ((10 : BitVec 4).toNat ≤ 10)) ∧
    (((({ W with ports := [(0, { st := 2, phase := 3 })] } : State).port (0 : Fin 512).val).st = 2) ∧
      ((({ W with ports := [(0, { st := 2, phase := 3 })] } : State).port (0 : Fin 512).val).phase = 3)) ∧
    (((({ W with ports := [(0, { st := 2, phase := 4 })] } : State).port (0 : Fin 512).val).st = 2) ∧
      ((({ W with ports := [(0, { st := 2, phase := 4 })] } : State).port (0 : Fin 512).val).phase = 4) ∧
      ((({ W with ports := [(0, { st := 2, phase := 4 })] } : State).port (0 : Fin 512).val).exiting = false)) ∧
    (((({ W with ports := [(0, { st := 2, phase := 4, rate := 3 })] } : State).port (0 : Fin 512).val).st = 2) ∧
      ((({ W with ports := [(0, { st := 2, phase := 4, rate := 3 })] } : State).port (0 : Fin 512).val).phase = 4) ∧
      ((({ W with ports := [(0, { st := 2, phase := 4, rate := 3 })] } : State).port (0 : Fin 512).val).exiting = false) ∧
      ((({ W with ports := [(0, { st := 2, phase := 4, rate := 3 })] } : State).port (0 : Fin 512).val).rate ≠ 0)) ∧
    (((({ W with ports := [(0, { st := 2, phase := 4 })] } : State).port (0 : Fin 512).val).st = 2) ∧
      ((({ W with ports := [(0, { st := 2, phase := 4 })] } : State).port (0 : Fin 512).val).phase = 4) ∧
      ((({ W with ports := [(0, { st := 2, phase := 4 })] } : State).port (0 : Fin 512).val).exiting = false) ∧
      ((({ W with ports := [(0, { st := 2, phase := 4 })] } : State).port (0 : Fin 512).val).rate = 0)) ∧
    (((({ W with ports := [(0, { st := 2, phase := 2 })] } : State).port (0 : Fin 512).val).st = 2) ∧
      ((({ W with ports := [(0, { st := 2, phase := 2 })] } : State).port (0 : Fin 512).val).exiting = false) ∧
      ((({ W with ports := [(0, { st := 2, phase := 2 })] } : State).port (0 : Fin 512).val).phase ≠ 5)) ∧
    (((({ W with ports := [(0, { wait := true })], cages := [(0, { phase := 3 })] } : State).setRegFld 0x100 0x100 16 8 1 : State).elvucPort (0 : Fin 512).val = true) ∧
      ((({ W with ports := [(0, { wait := true })], cages := [(0, { phase := 3 })] } : State).setRegFld 0x100 0x100 16 8 1 : State).portPresent (0 : Fin 512).val = true) ∧
      ((({ W with ports := [(0, { wait := true })], cages := [(0, { phase := 3 })] } : State).setRegFld 0x100 0x100 16 8 1 : State).blockRuns ((0 : Fin 512).val / 8) = true) ∧
      (((({ W with ports := [(0, { wait := true })], cages := [(0, { phase := 3 })] } : State).setRegFld 0x100 0x100 16 8 1 : State).port (0 : Fin 512).val).st.toNat ≤ 1) ∧
      (((({ W with ports := [(0, { wait := true })], cages := [(0, { phase := 3 })] } : State).setRegFld 0x100 0x100 16 8 1 : State).port (0 : Fin 512).val).wait = true)) := by
  and_intros <;> decide

set_option maxRecDepth 20000 in
/-- Clauses of LinkFlits can be met. -/
theorem test_meets_LinkFlits :
    (((({ W with ports := [(0, { st := 3, phase := 6 })] } : State).port (0 : Fin 512).val).flits = true) ∧
      ((({ W with ports := [(0, { st := 3, phase := 6 })] } : State).port (0 : Fin 512).val).phase ≠ 5) ∧
      ((({ W with ports := [(0, { st := 3, phase := 6 })] } : State).port (0 : Fin 512).val).crcGood 1 ({ (default : Flit) with seq := 1, crc := flitCrc { (default : Flit) with seq := 1 } 1 none } : Flit) = true) ∧
      ((({ W with ports := [(0, { st := 3, phase := 6 })] } : State).port (0 : Fin 512).val).tagGood 1 ({ (default : Flit) with seq := 1, crc := flitCrc { (default : Flit) with seq := 1 } 1 none } : Flit) = true) ∧
      (({ (default : Flit) with seq := 1, crc := flitCrc { (default : Flit) with seq := 1 } 1 none } : Flit).seq = (({ W with ports := [(0, { st := 3, phase := 6 })] } : State).port (0 : Fin 512).val).rxAck + 1)) ∧
    (((({ W with ports := [(0, { st := 3, phase := 6 })] } : State).port (0 : Fin 512).val).flits = true) ∧
      (((2, Instr.nakFlit (0 : Fin 512) ({ (default : Flit) with crc := 1 } : Flit)) : Nat × Instr) ∈ [(0, Instr.idleFlit (0 : Fin 512) ({ (default : Flit) with crc := 1 } : Flit)), (2, Instr.nakFlit (0 : Fin 512) ({ (default : Flit) with crc := 1 } : Flit)), (3, Instr.clearFlit (0 : Fin 512) ({ (default : Flit) with crc := 1 } : Flit))]) ∧
      ((({ W with ports := [(0, { st := 3, phase := 6 })] } : State).port (0 : Fin 512).val).crcGood ((2, Instr.nakFlit (0 : Fin 512) ({ (default : Flit) with crc := 1 } : Flit)) : Nat × Instr).fst ({ (default : Flit) with crc := 1 } : Flit) = false)) ∧
    (((({ W with ports := [(0, { st := 3, phase := 6 })] } : State).port (0 : Fin 512).val).flits = true) ∧
      ((({ W with ports := [(0, { st := 3, phase := 6 })] } : State).port (0 : Fin 512).val).crcGood 1 ({ (default : Flit) with crc := 1 } : Flit) = false) ∧
      ((({ W with ports := [(0, { st := 3, phase := 6 })] } : State).port (0 : Fin 512).val).phase ≠ 5)) ∧
    (((({ W with ports := [(0, { st := 3, phase := 6 })] } : State).port (0 : Fin 512).val).flits = true) ∧
      ((({ W with ports := [(0, { st := 3, phase := 6 })] } : State).port (0 : Fin 512).val).crcGood 0 ({ (default : Flit) with crc := flitCrc (default : Flit) 0 none } : Flit) = true) ∧
      ((({ W with ports := [(0, { st := 3, phase := 6 })] } : State).port (0 : Fin 512).val).tagGood 0 ({ (default : Flit) with crc := flitCrc (default : Flit) 0 none } : Flit) = true)) ∧
    (((({ W with ports := [(0, { st := 3, phase := 6 })] } : State).port (0 : Fin 512).val).flits = true) ∧
      ((({ W with ports := [(0, { st := 3, phase := 6 })] } : State).port (0 : Fin 512).val).crcGood 2 ({ (default : Flit) with crc := flitCrc (default : Flit) 2 none } : Flit) = true) ∧
      ((({ W with ports := [(0, { st := 3, phase := 6 })] } : State).port (0 : Fin 512).val).tagGood 2 ({ (default : Flit) with crc := flitCrc (default : Flit) 2 none } : Flit) = true)) ∧
    (((({ W with ports := [(0, { st := 3, phase := 6 })] } : State).port (0 : Fin 512).val).st = 3) ∧
      ((({ W with ports := [(0, { st := 3, phase := 6 })] } : State).port (0 : Fin 512).val).crcGood 3 ({ (default : Flit) with crc := flitCrc (default : Flit) 3 none } : Flit) = true)) := by
  and_intros <;> decide +kernel

set_option maxRecDepth 20000 in
/-- Clauses of LinkFlits can be met. -/
theorem test_meets_LinkFlits_2 :
    (((({ W with ports := [(0, { st := 3, phase := 6, unacked := [(1, .msg R .gpf)] })] } : State).port (0 : Fin 512).val).flits = true) ∧
      ((({ W with ports := [(0, { st := 3, phase := 6, unacked := [(1, .msg R .gpf)] })] } : State).port (0 : Fin 512).val).gap = false) ∧
      ((({ W with ports := [(0, { st := 3, phase := 6, unacked := [(1, .msg R .gpf)] })] } : State).port (0 : Fin 512).val).unacked ≠ []) ∧
      ((({ W with ports := [(0, { st := 3, phase := 6, unacked := [(1, .msg R .gpf)] })] } : State).port (0 : Fin 512).val).replays + 1 ≤ ({ W with ports := [(0, { st := 3, phase := 6, unacked := [(1, .msg R .gpf)] })] } : State).regFld 320 264 16 8)) ∧
    (((({ W with ports := [(0, { st := 3, phase := 6, unacked := [(1, .msg R .gpf)], replays := 255 })] } : State).port (0 : Fin 512).val).flits = true) ∧
      ((({ W with ports := [(0, { st := 3, phase := 6, unacked := [(1, .msg R .gpf)], replays := 255 })] } : State).port (0 : Fin 512).val).gap = false) ∧
      ((({ W with ports := [(0, { st := 3, phase := 6, unacked := [(1, .msg R .gpf)], replays := 255 })] } : State).port (0 : Fin 512).val).unacked ≠ []) ∧
      (({ W with ports := [(0, { st := 3, phase := 6, unacked := [(1, .msg R .gpf)], replays := 255 })] } : State).regFld 320 264 16 8 < (({ W with ports := [(0, { st := 3, phase := 6, unacked := [(1, .msg R .gpf)], replays := 255 })] } : State).port (0 : Fin 512).val).replays + 1)) ∧
    (((({ W with ports := [(0, { st := 3, phase := 6 })] } : State).port (0 : Fin 512).val).flits = true)) ∧
    (((({ W with ports := [(0, { st := 6 })] } : State).port (0 : Fin 512).val).st = 6)) ∧
    (((({ W with ports := [(0, { st := 6 })] } : State).port (0 : Fin 512).val).flits = true ∨ (({ W with ports := [(0, { st := 6 })] } : State).port (0 : Fin 512).val).st = 6)) := by
  and_intros <;> decide

set_option maxRecDepth 20000 in
/-- Every clause of TrickleMode can be met. -/
theorem test_meets_TrickleMode :
    (((({ Wp with pwr := { Wp.pwr with st := 5 } } : State).port (0 : Fin 512).val).st = 3) ∧
      ((({ Wp with pwr := { Wp.pwr with st := 5 } } : State).port (0 : Fin 512).val).trickleAsked = false) ∧
      (({ Wp with pwr := { Wp.pwr with st := 5 } } : State).regFld 320 264 0 8 ≠ 0 ∨ ({ Wp with pwr := { Wp.pwr with st := 5 } } : State).pwr.st = 5)) ∧
    (((({ W with ports := [(0, { st := 3, phase := 6, trickleAsked := true })] } : State).port (0 : Fin 512).val).st = 3) ∧
      ((({ W with ports := [(0, { st := 3, phase := 6, trickleAsked := true })] } : State).port (0 : Fin 512).val).trickleAsked = true)) ∧
    (((({ W with ports := [(0, { st := 5 })] } : State).port (0 : Fin 512).val).st = 5)) ∧
    (((({ W with ports := [(0, { st := 2, phase := 3, exiting := true })] } : State).port (0 : Fin 512).val).exiting = true)) := by
  and_intros <;> decide

set_option maxRecDepth 20000 in
/-- Clauses of LinkKeying can be met. -/
theorem test_meets_LinkKeying :
    (((({ W with ports := [(0, { st := 2, phase := 5 })] } : State).port (0 : Fin 512).val).flits = true) ∧
      ((({ W with ports := [(0, { st := 2, phase := 5 })] } : State).port (0 : Fin 512).val).keying = true) ∧
      ((({ W with ports := [(0, { st := 2, phase := 5 })] } : State).port (0 : Fin 512).val).keys.offered = false)) ∧
    (((({ W with ports := [(0, { st := 2, phase := 5, keys := { offered := true, gotOffer := true } })] } : State).port (0 : Fin 512).val).flits = true) ∧
      ((({ W with ports := [(0, { st := 2, phase := 5, keys := { offered := true, gotOffer := true } })] } : State).port (0 : Fin 512).val).keying = true) ∧
      ((({ W with ports := [(0, { st := 2, phase := 5, keys := { offered := true, gotOffer := true } })] } : State).port (0 : Fin 512).val).keys.offered = true) ∧
      ((({ W with ports := [(0, { st := 2, phase := 5, keys := { offered := true, gotOffer := true } })] } : State).port (0 : Fin 512).val).keys.gotOffer = true)) ∧
    (((({ W with ports := [(0, { st := 2, phase := 5, keys := { proofOk := true, doneTx := true } })] } : State).port (0 : Fin 512).val).flits = true) ∧
      ((({ W with ports := [(0, { st := 2, phase := 5, keys := { proofOk := true, doneTx := true } })] } : State).port (0 : Fin 512).val).keying = true) ∧
      ((({ W with ports := [(0, { st := 2, phase := 5, keys := { proofOk := true, doneTx := true } })] } : State).port (0 : Fin 512).val).keys.proofOk = true) ∧
      ((({ W with ports := [(0, { st := 2, phase := 5, keys := { proofOk := true, doneTx := true } })] } : State).port (0 : Fin 512).val).keys.doneTx = true)) ∧
    (((({ W with ports := [(0, { st := 2, phase := 5, keys := { proofOk := true } })] } : State).port (0 : Fin 512).val).flits = true) ∧
      ((({ W with ports := [(0, { st := 2, phase := 5, keys := { proofOk := true } })] } : State).port (0 : Fin 512).val).keying = true) ∧
      ((({ W with ports := [(0, { st := 2, phase := 5, keys := { proofOk := true } })] } : State).port (0 : Fin 512).val).keys.proofOk = true) ∧
      ((({ W with ports := [(0, { st := 2, phase := 5, keys := { proofOk := true } })] } : State).port (0 : Fin 512).val).keys.doneTx = false)) ∧
    (((({ W with ports := [(0, { st := 3, phase := 6, keys := { valid := true } })] } : State).port (0 : Fin 512).val).flits = true) ∧
      ((({ W with ports := [(0, { st := 3, phase := 6, keys := { valid := true } })] } : State).port (0 : Fin 512).val).keying = true)) ∧
    (((({ W with ports := [(0, { st := 5, keys := { valid := true } })] } : State).port (0 : Fin 512).val).flits = true) ∧
      ((({ W with ports := [(0, { st := 5, keys := { valid := true } })] } : State).port (0 : Fin 512).val).st = 3 ∨ (({ W with ports := [(0, { st := 5, keys := { valid := true } })] } : State).port (0 : Fin 512).val).st = 5) ∧
      ((({ W with ports := [(0, { st := 5, keys := { valid := true } })] } : State).port (0 : Fin 512).val).keys.valid = true) ∧
      ((({ W with ports := [(0, { st := 5, keys := { valid := true } })] } : State).port (0 : Fin 512).val).keys.offered = false)) ∧
    ((({ W with fxb := { W.fxb with conf := true } } : State).fxb.role ≠ 1) ∧
      (({ W with fxb := { W.fxb with conf := true } } : State).fxb.conf = true) ∧
      (({ W with fxb := { W.fxb with conf := true } } : State).fxb.cust ≠ 0) ∧
      (((List.range 64).any fun n_ => (({ W with fxb := { W.fxb with conf := true } } : State).krange n_).st == 0) = true)) ∧
    (((({ W with crs := { W.crs with ranges := [(0, { st := 1 })] } } : State).krange (0 : Fin 64).val).st = 1) ∧
      ((({ W with crs := { W.crs with ranges := [(0, { st := 1 })] } } : State).krange (0 : Fin 64).val).reload = false)) ∧
    (((({ W with crs := { W.crs with ranges := [(0, { st := 1, reload := true })] } } : State).krange (0 : Fin 64).val).reload = true)) ∧
    (((({ W with crs := { W.crs with ranges := [(0, { st := 1, reload := true })] }, pan := { W.pan with keys := [(0, (1, default))] } } : State).krange (0 : Fin 64).val).reload = true) ∧
      (({ W with crs := { W.crs with ranges := [(0, { st := 1, reload := true })] }, pan := { W.pan with keys := [(0, (1, default))] } } : State).pan.keys.find (0 : Fin 64).val = some ((1 : BitVec 16), (default : KeySet)))) := by
  and_intros <;> decide

set_option maxRecDepth 20000 in
/-- A clause of LinkKeying can be met. -/
theorem test_meets_LinkKeying_2 :
    (((({ W with ports := [(0, { st := 2, phase := 5 })] } : State).port (0 : Fin 512).val).flits = true) ∧
      ((({ W with ports := [(0, { st := 2, phase := 5 })] } : State).port (0 : Fin 512).val).st = 2) ∧
      ((({ W with ports := [(0, { st := 2, phase := 5 })] } : State).port (0 : Fin 512).val).phase = 5) ∧
      (chainOk ({ certs := 3, bytes := 2048, sigsOk := true, rootDigest := Config.lorlekRoot1, leafSerial := 0, leafKey := 0 } : CertChain) (({ W with ports := [(0, { st := 2, phase := 5 })] } : State).port (0 : Fin 512).val).partnerSerial = true)) := by
  refine ⟨rfl, rfl, rfl, ?_⟩; simp [chainOk, Config.lorlekRoots, State.port, Tab.get, Tab.find]

set_option maxRecDepth 20000 in
/-- A clause of LinkKeying can be met. -/
theorem test_meets_LinkKeying_3 :
    (((({ W with ports := [(0, { st := 2, phase := 5 })] } : State).port (0 : Fin 512).val).flits = true) ∧
      ((({ W with ports := [(0, { st := 2, phase := 5 })] } : State).port (0 : Fin 512).val).st = 2) ∧
      ((({ W with ports := [(0, { st := 2, phase := 5 })] } : State).port (0 : Fin 512).val).phase = 5) ∧
      (chainOk ({ certs := 3, bytes := 2048, sigsOk := false, rootDigest := Config.lorlekRoot1, leafSerial := 0, leafKey := 0 } : CertChain) (({ W with ports := [(0, { st := 2, phase := 5 })] } : State).port (0 : Fin 512).val).partnerSerial = false)) := by
  refine ⟨rfl, rfl, rfl, ?_⟩; simp [chainOk]

set_option maxRecDepth 20000 in
/-- A clause of LinkMessages can be met. -/
theorem test_meets_LinkMessages :
    (((({ W with ports := [(0, { st := 3, phase := 6 })] } : State).port (0 : Fin 512).val).st = 3) ∧
      ((({ W with ports := [(0, { st := 3, phase := 6 })] } : State).port (0 : Fin 512).val).keys.valid = false) ∧
      (({ (default : Hello) with serial := ownSerial + 1, fabid := W.reg 0x180 0x114 } : Hello).serial ≠ ownSerial) ∧
      (({ (default : Hello) with serial := ownSerial + 1, fabid := W.reg 0x180 0x114 } : Hello).fabid = ({ W with ports := [(0, { st := 3, phase := 6 })] } : State).reg 384 276)) := by
  exact ⟨rfl, rfl, other_serial, by decide⟩

set_option maxRecDepth 20000 in
/-- A clause of LinkMessages can be met. -/
theorem test_meets_LinkMessages_2 :
    (((({ W with ports := [(0, { st := 3, phase := 6 })] } : State).port (0 : Fin 512).val).st = 3) ∧
      ((({ W with ports := [(0, { st := 3, phase := 6 })] } : State).port (0 : Fin 512).val).keys.valid = false) ∧
      (({ (default : Hello) with serial := ownSerial + 1, fabid := W.reg 0x180 0x114 + 1 } : Hello).serial ≠ ownSerial) ∧
      (({ (default : Hello) with serial := ownSerial + 1, fabid := W.reg 0x180 0x114 + 1 } : Hello).fabid ≠ ({ W with ports := [(0, { st := 3, phase := 6 })] } : State).reg 384 276)) := by
  exact ⟨rfl, rfl, other_serial, by decide⟩

set_option maxRecDepth 20000 in
/-- A clause of LinkMessages can be met. -/
theorem test_meets_LinkMessages_3 :
    (((({ W with ports := [(0, { st := 3, phase := 6 })] } : State).port (0 : Fin 512).val).st = 3) ∧
      (({ (default : LsaFrag) with serial := ownSerial + 1 } : LsaFrag).serial ≠ ownSerial) ∧
      (({ W with ports := [(0, { st := 3, phase := 6 })] } : State).lsaNew ({ (default : LsaFrag) with serial := ownSerial + 1 } : LsaFrag) = true)) := by
  exact ⟨rfl, other_serial, rfl⟩

set_option maxRecDepth 20000 in
/-- Clauses of LinkMessages can be met. -/
theorem test_meets_LinkMessages_4 :
    (((({ Wp with fxb := { Wp.fxb with role := 1 } } : State).port (0 : Fin 512).val).st = 3) ∧
      (({ Wp with fxb := { Wp.fxb with role := 1 } } : State).safe = false) ∧
      (({ Wp with fxb := { Wp.fxb with role := 1 } } : State).fxb.role = 1)) ∧
    (((({ W with ports := [(0, { st := 3, phase := 6 })] } : State).port (0 : Fin 512).val).st = 3) ∧
      (({ W with ports := [(0, { st := 3, phase := 6 })] } : State).safe = false) ∧
      (({ W with ports := [(0, { st := 3, phase := 6 })] } : State).fxb.role ≠ 1) ∧
      (¬((0 : BitVec 64), (0 : Dev), false) ∈ ({ W with ports := [(0, { st := 3, phase := 6 })] } : State).fxb.flooded)) ∧
    (((({ W with ports := [(0, { st := 3, phase := 6 })] } : State).port (0 : Fin 512).val).st = 3)) ∧
    (((({ W with ports := [(0, { st := 3, phase := 6 })] } : State).port (0 : Fin 512).val).st = 3) ∧
      (({ W with ports := [(0, { st := 3, phase := 6 })] } : State).safe = false) ∧
      ((1 : BitVec 16) ≠ ({ W with ports := [(0, { st := 3, phase := 6 })] } : State).fxb.treeEpoch)) := by
  and_intros <;> decide

set_option maxRecDepth 20000 in
/-- Clauses of DiscoveryTimers can be met. -/
theorem test_meets_DiscoveryTimers :
    (((W : State).up = true) ∧
      ((W : State).safe = false)) ∧
    ((({ W with fxb := { W.fxb with db := [default] } } : State).up = true) ∧
      (List.find? (fun y_ => y_.serial == (0 : BitVec 64)) ({ W with fxb := { W.fxb with db := [default] } } : State).fxb.db = some (default : Lsa))) ∧
    (((W.setRegFld 0x180 0x110 0 8 255 : State).up = true) ∧
      ((W.setRegFld 0x180 0x110 0 8 255 : State).eligible = [])) ∧
    (((W : State).up = true) ∧
      ((W : State).fxb.conf = false) ∧
      ((W : State).fxb.role ≠ 1)) ∧
    ((({ W with fxb := { W.fxb with topoChanged := true } } : State).fxb.topoChanged = true)) ∧
    ((({ W with shadow := [(regAddr 384 276, 5)], pages := { W.pages with committing := [0x180] } } : State).shadow.find (regAddr 384 276) = some (5 : Word)) ∧
      (384 ∈ ({ W with shadow := [(regAddr 384 276, 5)], pages := { W.pages with committing := [0x180] } } : State).pages.committing)) := by
  and_intros <;> decide

set_option maxRecDepth 20000 in
/-- A clause of DiscoveryTimers can be met. -/
theorem test_meets_DiscoveryTimers_2 :
    ((({ W with fxb := { W.fxb with role := 1 } } : State).up = true) ∧
      (({ W with fxb := { W.fxb with role := 1 } } : State).eligible ≠ []) ∧
      (({ W with fxb := { W.fxb with role := 1 } } : State).custodianKey = some ((W.prio, ownSerial) : Byte × BitVec 64))) := by
  refine ⟨by decide, ?_, rfl⟩; exact List.cons_ne_nil _ _

set_option maxRecDepth 20000 in
/-- Every clause of FabricRequests can be met. -/
theorem test_meets_FabricRequests :
    ((((Instr.rd (R : Routing) (0 : Fga), Msg.rd (fgaLine (0 : Fga))) : Instr × Msg) ∈ [(Instr.rd (R : Routing) (0 : Fga), Msg.rd (fgaLine (0 : Fga))), (Instr.wr (R : Routing) (0 : Fga) (0 : BitVec 64) (0 : Line), Msg.wr (fgaLine (0 : Fga)) (0 : BitVec 64) (0 : Line)), (Instr.atom (R : Routing) (0 : Fga) (0 : BitVec 4) (0 : BitVec 2) (0 : BitVec 128) (0 : BitVec 128), Msg.atom (0 : Fga) (0 : BitVec 4) (0 : BitVec 2) (0 : BitVec 128) (0 : BitVec 128)), (Instr.barrier (R : Routing) (0 : BitVec 2), Msg.barrier (0 : BitVec 2)), (Instr.gpf (R : Routing), Msg.gpf)]) ∧
      (({ Wp with pwr := { Wp.pwr with flush := 1 } } : State).here (R : Routing) = true) ∧
      (({ Wp with pwr := { Wp.pwr with flush := 1 } } : State).admissionOff = true)) ∧
    ((((Instr.rd (R : Routing) (0 : Fga), Msg.rd (fgaLine (0 : Fga))) : Instr × Msg) ∈ [(Instr.rd (R : Routing) (0 : Fga), Msg.rd (fgaLine (0 : Fga))), (Instr.wr (R : Routing) (0 : Fga) (0 : BitVec 64) (0 : Line), Msg.wr (fgaLine (0 : Fga)) (0 : BitVec 64) (0 : Line)), (Instr.atom (R : Routing) (0 : Fga) (0 : BitVec 4) (0 : BitVec 2) (0 : BitVec 128) (0 : BitVec 128), Msg.atom (0 : Fga) (0 : BitVec 4) (0 : BitVec 2) (0 : BitVec 128) (0 : BitVec 128)), (Instr.barrier (R : Routing) (0 : BitVec 2), Msg.barrier (0 : BitVec 2)), (Instr.gpf (R : Routing), Msg.gpf)]) ∧
      (({ Wp with pwr := { Wp.pwr with st := 5 } } : State).here (R : Routing) = true) ∧
      (({ Wp with pwr := { Wp.pwr with st := 5 } } : State).admissionOff = false) ∧
      (({ Wp with pwr := { Wp.pwr with st := 5 } } : State).sleeps = true ∨ ({ Wp with pwr := { Wp.pwr with st := 5 } } : State).halted 384 = true)) ∧
    ((((Instr.gpf (R : Routing), Msg.gpf) : Instr × Msg) ∈ [(Instr.rd (R : Routing) (0 : Fga), Msg.rd (fgaLine (0 : Fga))), (Instr.wr (R : Routing) (0 : Fga) (0 : BitVec 64) (0 : Line), Msg.wr (fgaLine (0 : Fga)) (0 : BitVec 64) (0 : Line)), (Instr.atom (R : Routing) (0 : Fga) (0 : BitVec 4) (0 : BitVec 2) (0 : BitVec 128) (0 : BitVec 128), Msg.atom (0 : Fga) (0 : BitVec 4) (0 : BitVec 2) (0 : BitVec 128) (0 : BitVec 128)), (Instr.barrier (R : Routing) (0 : BitVec 2), Msg.barrier (0 : BitVec 2)), (Instr.gpf (R : Routing), Msg.gpf)]) ∧
      ((Wp : State).here (R : Routing) = true) ∧
      ((Wp : State).admissionOff = false) ∧
      ((Wp : State).sleeps = false) ∧
      ((Wp : State).halted 384 = false) ∧
      (((R : Routing).esq - ((Wp : State).pair (BitVec.toNat ((Wp : State).pairOf (R : Routing) ((Instr.gpf (R : Routing), Msg.gpf) : Instr × Msg).snd.gsn))).rxNext).toNat = 0)) ∧
    ((((Instr.rd ({ R with esq := 32767 } : Routing) (0 : Fga), Msg.rd (fgaLine (0 : Fga))) : Instr × Msg) ∈ [(Instr.rd ({ R with esq := 32767 } : Routing) (0 : Fga), Msg.rd (fgaLine (0 : Fga))), (Instr.wr ({ R with esq := 32767 } : Routing) (0 : Fga) (0 : BitVec 64) (0 : Line), Msg.wr (fgaLine (0 : Fga)) (0 : BitVec 64) (0 : Line)), (Instr.atom ({ R with esq := 32767 } : Routing) (0 : Fga) (0 : BitVec 4) (0 : BitVec 2) (0 : BitVec 128) (0 : BitVec 128), Msg.atom (0 : Fga) (0 : BitVec 4) (0 : BitVec 2) (0 : BitVec 128) (0 : BitVec 128)), (Instr.barrier ({ R with esq := 32767 } : Routing) (0 : BitVec 2), Msg.barrier (0 : BitVec 2)), (Instr.gpf ({ R with esq := 32767 } : Routing), Msg.gpf)]) ∧
      ((Wp : State).here ({ R with esq := 32767 } : Routing) = true) ∧
      ((Wp : State).admissionOff = false) ∧
      ((Wp : State).sleeps = false) ∧
      ((Wp : State).halted 384 = false) ∧
      (0 < (({ R with esq := 32767 } : Routing).esq - ((Wp : State).pair (BitVec.toNat ((Wp : State).pairOf ({ R with esq := 32767 } : Routing) ((Instr.rd ({ R with esq := 32767 } : Routing) (0 : Fga), Msg.rd (fgaLine (0 : Fga))) : Instr × Msg).snd.gsn))).rxNext).toNat) ∧
      ((({ R with esq := 32767 } : Routing).esq - ((Wp : State).pair (BitVec.toNat ((Wp : State).pairOf ({ R with esq := 32767 } : Routing) ((Instr.rd ({ R with esq := 32767 } : Routing) (0 : Fga), Msg.rd (fgaLine (0 : Fga))) : Instr × Msg).snd.gsn))).rxNext).toNat < 2 ^ 15) ∧
      ((((Wp : State).pair (BitVec.toNat ((Wp : State).pairOf ({ R with esq := 32767 } : Routing) ((Instr.rd ({ R with esq := 32767 } : Routing) (0 : Fga), Msg.rd (fgaLine (0 : Fga))) : Instr × Msg).snd.gsn))).parked.any fun e_ => e_.fst.esq == ({ R with esq := 32767 } : Routing).esq) = false) ∧
      ((Wp : State).parkedAll < 1024)) ∧
    ((((Instr.rd ({ R with esq := 32768 } : Routing) (0 : Fga), Msg.rd (fgaLine (0 : Fga))) : Instr × Msg) ∈ [(Instr.rd ({ R with esq := 32768 } : Routing) (0 : Fga), Msg.rd (fgaLine (0 : Fga))), (Instr.wr ({ R with esq := 32768 } : Routing) (0 : Fga) (0 : BitVec 64) (0 : Line), Msg.wr (fgaLine (0 : Fga)) (0 : BitVec 64) (0 : Line)), (Instr.atom ({ R with esq := 32768 } : Routing) (0 : Fga) (0 : BitVec 4) (0 : BitVec 2) (0 : BitVec 128) (0 : BitVec 128), Msg.atom (0 : Fga) (0 : BitVec 4) (0 : BitVec 2) (0 : BitVec 128) (0 : BitVec 128)), (Instr.barrier ({ R with esq := 32768 } : Routing) (0 : BitVec 2), Msg.barrier (0 : BitVec 2)), (Instr.gpf ({ R with esq := 32768 } : Routing), Msg.gpf)]) ∧
      ((Wp : State).here ({ R with esq := 32768 } : Routing) = true) ∧
      ((Wp : State).admissionOff = false) ∧
      ((Wp : State).sleeps = false) ∧
      ((Wp : State).halted 384 = false) ∧
      (2 ^ 15 ≤ (({ R with esq := 32768 } : Routing).esq - ((Wp : State).pair (BitVec.toNat ((Wp : State).pairOf ({ R with esq := 32768 } : Routing) ((Instr.rd ({ R with esq := 32768 } : Routing) (0 : Fga), Msg.rd (fgaLine (0 : Fga))) : Instr × Msg).snd.gsn))).rxNext).toNat)) := by
  and_intros <;> decide

set_option maxRecDepth 20000 in
/-- Every clause of FabricResponses can be met. -/
theorem test_meets_FabricResponses :
    (((Wp : State).here (R : Routing) = true) ∧
      (((Wp : State).acked (R : Routing) (Msg.rdData (0 : Line) (true : Bool))).named (R : Routing) = none)) ∧
    ((({ Wp with fxb := { Wp.fxb with remotes := [{ (default : Remote) with kind := .read }] } } : State).here (R : Routing) = true) ∧
      ((({ Wp with fxb := { Wp.fxb with remotes := [{ (default : Remote) with kind := .read }] } } : State).acked (R : Routing) (Msg.rdData (0 : Line) (true : Bool))).named (R : Routing) = some ({ (default : Remote) with kind := .read } : Remote)) ∧
      (({ (default : Remote) with kind := .read } : Remote).kind = ReqKind.read)) ∧
    ((({ Wp with fxb := { Wp.fxb with remotes := [{ (default : Remote) with kind := .store }] } } : State).here (R : Routing) = true) ∧
      ((({ Wp with fxb := { Wp.fxb with remotes := [{ (default : Remote) with kind := .store }] } } : State).acked (R : Routing) (Msg.wrStat (0 : BitVec 2) false)).named (R : Routing) = some ({ (default : Remote) with kind := .store } : Remote)) ∧
      (({ (default : Remote) with kind := .store } : Remote).kind = ReqKind.store)) ∧
    ((({ Wp with fxb := { Wp.fxb with remotes := [{ (default : Remote) with kind := .store, sender := .head 0 0 }] } } : State).here (R : Routing) = true) ∧
      ((({ Wp with fxb := { Wp.fxb with remotes := [{ (default : Remote) with kind := .store, sender := .head 0 0 }] } } : State).acked (R : Routing) (Msg.wrStat 1 true)).named (R : Routing) = some ({ (default : Remote) with kind := .store, sender := .head 0 0 } : Remote)) ∧
      (({ (default : Remote) with kind := .store, sender := .head 0 0 } : Remote).kind = ReqKind.store) ∧
      (({ (default : Remote) with kind := .store, sender := .head 0 0 } : Remote).answered = false) ∧
      (({ (default : Remote) with kind := .store, sender := .head 0 0 } : Remote).done = false) ∧
      (({ (default : Remote) with kind := .store, sender := .head 0 0 } : Remote).sender = Sender.head (0 : Fin 64) (0 : BitVec 16))) ∧
    ((({ Wp with fxb := { Wp.fxb with remotes := [{ (default : Remote) with kind := .atomic }] } } : State).here ({ R with xinfo := 4 } : Routing) = true) ∧
      ((({ Wp with fxb := { Wp.fxb with remotes := [{ (default : Remote) with kind := .atomic }] } } : State).acked ({ R with xinfo := 4 } : Routing) (Msg.atomData (0 : BitVec 128))).named ({ R with xinfo := 4 } : Routing) = some ({ (default : Remote) with kind := .atomic } : Remote)) ∧
      (({ (default : Remote) with kind := .atomic } : Remote).kind = ReqKind.atomic) ∧
      (({ (default : Remote) with kind := .atomic } : Remote).done = false) ∧
      (({ R with xinfo := 4 } : Routing).status = stOk) ∧
      (bitAt ({ R with xinfo := 4 } : Routing).xinfo 2 = true)) ∧
    ((({ Wp with fxb := { Wp.fxb with remotes := [{ (default : Remote) with kind := .atomic }] } } : State).here (R : Routing) = true) ∧
      ((({ Wp with fxb := { Wp.fxb with remotes := [{ (default : Remote) with kind := .atomic }] } } : State).acked (R : Routing) (Msg.atomData (0 : BitVec 128))).named (R : Routing) = some ({ (default : Remote) with kind := .atomic } : Remote)) ∧
      (({ (default : Remote) with kind := .atomic } : Remote).kind = ReqKind.atomic) ∧
      (({ (default : Remote) with kind := .atomic } : Remote).done = false) ∧
      ((R : Routing).status ≠ stIntegrity) ∧
      ((R : Routing).status ≠ stOk ∨ bitAt (R : Routing).xinfo 2 = false)) ∧
    ((({ Wp with fxb := { Wp.fxb with remotes := [{ (default : Remote) with kind := .barrier, sender := .head 0 0 }] } } : State).here (R : Routing) = true) ∧
      ((({ Wp with fxb := { Wp.fxb with remotes := [{ (default : Remote) with kind := .barrier, sender := .head 0 0 }] } } : State).acked (R : Routing) Msg.barrierDone).named (R : Routing) = some ({ (default : Remote) with kind := .barrier, sender := .head 0 0 } : Remote)) ∧
      (({ (default : Remote) with kind := .barrier, sender := .head 0 0 } : Remote).kind = ReqKind.barrier) ∧
      (({ (default : Remote) with kind := .barrier, sender := .head 0 0 } : Remote).sender = Sender.head (0 : Fin 64) (0 : BitVec 16))) ∧
    ((({ Wp with fxb := { Wp.fxb with remotes := [{ (default : Remote) with kind := .gpf, sender := .head 0 0 }] } } : State).here (R : Routing) = true) ∧
      ((({ Wp with fxb := { Wp.fxb with remotes := [{ (default : Remote) with kind := .gpf, sender := .head 0 0 }] } } : State).acked (R : Routing) Msg.gpfDone).named (R : Routing) = some ({ (default : Remote) with kind := .gpf, sender := .head 0 0 } : Remote)) ∧
      (({ (default : Remote) with kind := .gpf, sender := .head 0 0 } : Remote).kind = ReqKind.gpf) ∧
      (({ (default : Remote) with kind := .gpf, sender := .head 0 0 } : Remote).sender = Sender.head (0 : Fin 64) (0 : BitVec 16))) ∧
    ((({ Wp with fxb := { Wp.fxb with remotes := [{ (default : Remote) with kind := .read }] } } : State).here (R : Routing) = true) ∧
      ((({ Wp with fxb := { Wp.fxb with remotes := [{ (default : Remote) with kind := .read }] } } : State).acked (R : Routing) Msg.err).named (R : Routing) = some ({ (default : Remote) with kind := .read } : Remote))) ∧
    (((Wp : State).here (R : Routing) = true)) ∧
    ((({ Wp with fxb := { Wp.fxb with pairs := [(0, { ackDue := true })] } } : State).here (R : Routing) = true) ∧
      ((({ Wp with fxb := { Wp.fxb with pairs := [(0, { ackDue := true })] } } : State).pair (BitVec.toNat (0 : Dev))).ackDue = true)) := by
  and_intros <;> decide

set_option maxRecDepth 20000 in
/-- Every clause of SegmentTableRows can be met. -/
theorem test_meets_SegmentTableRows :
    (((Wp : State).fxb.role = 0) ∧
      (((Wp : State).sve.ahead.any fun e_ => e_.fst == (1 : BitVec 64).toNat) = false) ∧
      ((1 : BitVec 64).toNat = (Wp : State).sve.ver + 1)) ∧
    (((Wp : State).fxb.role = 0) ∧
      (((Wp : State).sve.ahead.any fun e_ => e_.fst == (2 : BitVec 64).toNat) = false) ∧
      ((Wp : State).sve.ver + 1 < (2 : BitVec 64).toNat) ∧
      ((Wp : State).sve.ahead.length < 64)) ∧
    (((Wp : State).here (R : Routing) = true) ∧
      ((Wp : State).halted 512 = false)) ∧
    (((Wp : State).here (R : Routing) = true) ∧
      ((Wp : State).halted 512 = false) ∧
      ((1 : BitVec 27) ≠ 0)) ∧
    ((({ Wp with fxb := { Wp.fxb with role := 1 }, sve := { Wp.sve with claiming := true } } : State).here (R : Routing) = true) ∧
      (({ Wp with fxb := { Wp.fxb with role := 1 }, sve := { Wp.sve with claiming := true } } : State).halted 512 = false) ∧
      (({ Wp with fxb := { Wp.fxb with role := 1 }, sve := { Wp.sve with claiming := true } } : State).fxb.role = 1) ∧
      (({ Wp with fxb := { Wp.fxb with role := 1 }, sve := { Wp.sve with claiming := true } } : State).sve.claiming = true)) ∧
    (((({ Wp with sve := { Wp.sve with commits := [{ (default : GstCommit) with started := true, waits := [0] }] } } : State).sve.commits.any fun c_ => c_.started && decide ((0 : Dev) ∈ c_.waits)) = true)) ∧
    ((({ Wp with sve := { Wp.sve with ahead := [default] } } : State).sve.ahead ≠ []) ∧
      (({ Wp with sve := { Wp.sve with ahead := [default] } } : State).fxb.cust ≠ 0) ∧
      (({ Wp with sve := { Wp.sve with ahead := [default] } } : State).fxb.role ≠ 1)) ∧
    ((({ Wp with sve := { Wp.sve with claiming := true } } : State).sve.claiming = true)) ∧
    ((({ Wp with sve := { Wp.sve with lease := true } } : State).fxb.role ≠ 1) ∧
      (({ Wp with sve := { Wp.sve with lease := true } } : State).sve.lease = true)) := by
  and_intros <;> decide

set_option maxRecDepth 20000 in
/-- Every clause of CustodyRequests can be met. -/
theorem test_meets_CustodyRequests :
    (((Wp : State).here (R : Routing) = true) ∧
      ((Wp : State).halted 512 = false) ∧
      (bitAt (R : Routing).xinfo 0 = false) ∧
      (({ (default : GstReq) with op := 1 } : GstReq).op ≠ 6) ∧
      ((Wp : State).fxb.role ≠ 1)) ∧
    ((({ Wp with fxb := { Wp.fxb with role := 1 }, crs := { Wp.crs with ranges := [(0, { st := 1 })] } } : State).here (R : Routing) = true) ∧
      (({ Wp with fxb := { Wp.fxb with role := 1 }, crs := { Wp.crs with ranges := [(0, { st := 1 })] } } : State).halted 512 = false) ∧
      (bitAt (R : Routing).xinfo 0 = false) ∧
      (({ (default : GstReq) with op := 1 } : GstReq).op = 1) ∧
      (({ Wp with fxb := { Wp.fxb with role := 1 }, crs := { Wp.crs with ranges := [(0, { st := 1 })] } } : State).fxb.role = 1) ∧
      (({ Wp with fxb := { Wp.fxb with role := 1 }, crs := { Wp.crs with ranges := [(0, { st := 1 })] } } : State).quorate = true) ∧
      (({ Wp with fxb := { Wp.fxb with role := 1 }, crs := { Wp.crs with ranges := [(0, { st := 1 })] } } : State).sve.claiming = false) ∧
      ((({ Wp with fxb := { Wp.fxb with role := 1 }, crs := { Wp.crs with ranges := [(0, { st := 1 })] } } : State).krange ({ (default : GstReq) with op := 1 } : GstReq).keyRange.toNat).st = 1) ∧
      ((({ Wp with fxb := { Wp.fxb with role := 1 }, crs := { Wp.crs with ranges := [(0, { st := 1 })] } } : State).credited (R : Routing) (Msg.gstReq ({ (default : GstReq) with op := 1 } : GstReq))).lowestFree ({ (default : GstReq) with op := 1 } : GstReq).keyRange.toNat = some (0 : Nat))) ∧
    ((({ Wp with mte := { Wp.mte with segs := [(0, { st := 4 })] } } : State).here ({ R with xinfo := 1 } : Routing) = true) ∧
      (({ Wp with mte := { Wp.mte with segs := [(0, { st := 4 })] } } : State).halted 512 = false) ∧
      (bitAt ({ R with xinfo := 1 } : Routing).xinfo 0 = true) ∧
      (({ (default : GstReq) with op := 2 } : GstReq).op = 2) ∧
      (({ Wp with mte := { Wp.mte with segs := [(0, { st := 4 })] } } : State).lsiOf (BitVec.toNat ({ (default : GstReq) with op := 2 } : GstReq).gsn) = some (0 : Nat)) ∧
      ((({ Wp with mte := { Wp.mte with segs := [(0, { st := 4 })] } } : State).seg (0 : Nat)).st = 4) ∧
      ((({ Wp with mte := { Wp.mte with segs := [(0, { st := 4 })] } } : State).row (BitVec.toNat ({ (default : GstReq) with op := 2 } : GstReq).gsn)).mirror ≠ ({ Wp with mte := { Wp.mte with segs := [(0, { st := 4 })] } } : State).fxb.devnum)) ∧
    ((({ Wp with mte := { Wp.mte with segs := [(0, { st := 2 })] } } : State).here (R : Routing) = true) ∧
      (({ Wp with mte := { Wp.mte with segs := [(0, { st := 2 })] } } : State).halted 512 = false) ∧
      (bitAt (R : Routing).xinfo 0 = false) ∧
      (({ Wp with mte := { Wp.mte with segs := [(0, { st := 2 })] } } : State).fxb.role ≠ 1) ∧
      (({ Wp with mte := { Wp.mte with segs := [(0, { st := 2 })] } } : State).lsiOf (BitVec.toNat (0 : Gsn)) = some (0 : Nat)) ∧
      ((({ Wp with mte := { Wp.mte with segs := [(0, { st := 2 })] } } : State).seg (0 : Nat)).st = 2)) ∧
    (((Wp : State).here (R : Routing) = true) ∧
      ((Wp : State).halted 512 = false) ∧
      (bitAt (R : Routing).xinfo 9 = false) ∧
      (bitAt (R : Routing).xinfo 10 = false) ∧
      ((1 : Word) ≠ 0) ∧
      ((((Wp : State).credited (R : Routing) (Msg.gstRsp (0 : Gsn) (0 : Dev) (1 : Word))).mirSetAnswer (1 : Word) (0 : Gsn) (knownStatus (R : Routing).status)).fst = false)) ∧
    ((({ Wp with sve := { Wp.sve with custody := [{ (default : CustOp) with step := 2 }] } } : State).here (R : Routing) = true) ∧
      (({ Wp with sve := { Wp.sve with custody := [{ (default : CustOp) with step := 2 }] } } : State).halted 512 = false) ∧
      (List.find? (fun o_ => o_.step == 2 && o_.req.gsn == (0 : Gsn)) ({ Wp with sve := { Wp.sve with custody := [{ (default : CustOp) with step := 2 }] } } : State).sve.custody = some ({ (default : CustOp) with step := 2 } : CustOp))) := by
  and_intros <;> decide

set_option maxRecDepth 20000 in
/-- Every clause of SegmentCopy can be met. -/
theorem test_meets_SegmentCopy :
    ((({ Wp with mte := { Wp.mte with segs := [(0, { st := 2 })] } } : State).here (R : Routing) = true) ∧
      (({ Wp with mte := { Wp.mte with segs := [(0, { st := 2 })] } } : State).halted 512 = false) ∧
      (({ Wp with mte := { Wp.mte with segs := [(0, { st := 2 })] } } : State).lsiOf (lineGsn (0 : LineAddr)) = some (0 : Nat)) ∧
      ((({ Wp with mte := { Wp.mte with segs := [(0, { st := 2 })] } } : State).seg (0 : Nat)).st = 2 ∨ (({ Wp with mte := { Wp.mte with segs := [(0, { st := 2 })] } } : State).seg (0 : Nat)).st = 4) ∧
      ((({ Wp with mte := { Wp.mte with segs := [(0, { st := 2 })] } } : State).inOp (lineGsn (0 : LineAddr))).isSome = true ∨ ({ Wp with mte := { Wp.mte with segs := [(0, { st := 2 })] } } : State).updateWaits (0 : LineAddr) = false)) ∧
    (((Wp : State).here (R : Routing) = true) ∧
      ((Wp : State).halted 512 = false) ∧
      ((Wp : State).lsiOf (lineGsn (0 : LineAddr)) = none) ∧
      ((Wp : State).updateWaits (0 : LineAddr) = false)) ∧
    ((({ Wp with mte := { Wp.mte with segs := [(0, { st := 2 })] } } : State).here (R : Routing) = true) ∧
      (({ Wp with mte := { Wp.mte with segs := [(0, { st := 2 })] } } : State).halted 512 = false) ∧
      (({ Wp with mte := { Wp.mte with segs := [(0, { st := 2 })] } } : State).lsiOf ((0 : BitVec 44).toNat / segPages) = some (0 : Nat)) ∧
      ((({ Wp with mte := { Wp.mte with segs := [(0, { st := 2 })] } } : State).seg (0 : Nat)).st = 2 ∨ (({ Wp with mte := { Wp.mte with segs := [(0, { st := 2 })] } } : State).seg (0 : Nat)).st = 4) ∧
      ((2 : BitVec 2) = 1 ∨ (2 : BitVec 2) = 2)) ∧
    ((({ Wp with sve := { Wp.sve with ops := [(4, { (default : BulkOp) with kind := 0 })] } } : State).here (R : Routing) = true) ∧
      (({ Wp with sve := { Wp.sve with ops := [(4, { (default : BulkOp) with kind := 0 })] } } : State).halted 512 = false) ∧
      (({ Wp with sve := { Wp.sve with ops := [(4, { (default : BulkOp) with kind := 0 })] } } : State).outOp ((0 : BitVec 44).toNat / segPages) = some ((4 : Nat), ({ (default : BulkOp) with kind := 0 } : BulkOp))) ∧
      ((R : Routing).status = 0)) ∧
    ((({ Wp with sve := { Wp.sve with updates := [default] } } : State).here ({ R with status := 1 } : Routing) = true) ∧
      (({ Wp with sve := { Wp.sve with updates := [default] } } : State).halted 512 = false) ∧
      (List.find? (fun y_ => y_.line == (0 : LineAddr)) ({ Wp with sve := { Wp.sve with updates := [default] } } : State).sve.updates = some (default : LineUpd)) ∧
      (({ R with status := 1 } : Routing).status ≠ 0)) ∧
    ((({ Wp with sve := { Wp.sve with updates := [default] } } : State).here (R : Routing) = true) ∧
      (({ Wp with sve := { Wp.sve with updates := [default] } } : State).halted 512 = false) ∧
      (List.find? (fun y_ => y_.line == (0 : LineAddr)) ({ Wp with sve := { Wp.sve with updates := [default] } } : State).sve.updates = some (default : LineUpd)) ∧
      ((R : Routing).status = 0) ∧
      ((default : LineUpd).next = none)) ∧
    (((Wp : State).here (R : Routing) = true) ∧
      ((Wp : State).halted 512 = false)) ∧
    ((({ Wp with sve := { Wp.sve with ops := [(4, { (default : BulkOp) with phase := 1 })] } } : State).outOp (BitVec.toNat (0 : Gsn)) = some ((4 : Nat), ({ (default : BulkOp) with phase := 1 } : BulkOp))) ∧
      (({ (default : BulkOp) with phase := 1 } : BulkOp).phase = 1) ∧
      (({ (default : BulkOp) with phase := 1 } : BulkOp).sent = [])) ∧
    ((({ Wp with sve := { Wp.sve with ops := [(4, { (default : BulkOp) with phase := 2 })] } } : State).outOp (BitVec.toNat (0 : Gsn)) = some ((4 : Nat), ({ (default : BulkOp) with phase := 2 } : BulkOp))) ∧
      (({ (default : BulkOp) with phase := 2 } : BulkOp).phase = 2) ∧
      (({ (default : BulkOp) with phase := 2 } : BulkOp).sent = []) ∧
      (({ (default : BulkOp) with phase := 2 } : BulkOp).dirty.length ≤ (({ Wp with sve := { Wp.sve with ops := [(4, { (default : BulkOp) with phase := 2 })] } } : State).passEnd ({ (default : BulkOp) with phase := 2 } : BulkOp)).regFld 512 272 0 12)) ∧
    (((({ Wp with sve := { Wp.sve with ops := [(4, { (default : BulkOp) with phase := 2, dirty := [0] })] } } : State).setRegFld 0x200 0x110 0 12 0 : State).outOp (BitVec.toNat (0 : Gsn)) = some ((4 : Nat), ({ (default : BulkOp) with phase := 2, dirty := [0] } : BulkOp))) ∧
      (({ (default : BulkOp) with phase := 2, dirty := [0] } : BulkOp).phase = 2) ∧
      (({ (default : BulkOp) with phase := 2, dirty := [0] } : BulkOp).sent = []) ∧
      (((({ Wp with sve := { Wp.sve with ops := [(4, { (default : BulkOp) with phase := 2, dirty := [0] })] } } : State).setRegFld 0x200 0x110 0 12 0 : State).passEnd ({ (default : BulkOp) with phase := 2, dirty := [0] } : BulkOp)).regFld 512 272 0 12 < ({ (default : BulkOp) with phase := 2, dirty := [0] } : BulkOp).dirty.length) ∧
      (({ (default : BulkOp) with phase := 2, dirty := [0] } : BulkOp).pass < ((({ Wp with sve := { Wp.sve with ops := [(4, { (default : BulkOp) with phase := 2, dirty := [0] })] } } : State).setRegFld 0x200 0x110 0 12 0 : State).passEnd ({ (default : BulkOp) with phase := 2, dirty := [0] } : BulkOp)).regFld 512 272 20 4)) ∧
    ((({ Wp with sve := { Wp.sve with ops := [(4, { (default : BulkOp) with phase := 3, tries := 2 })] }, mte := { Wp.mte with segs := [(0, { st := 1 })] } } : State).outOp (BitVec.toNat (0 : Gsn)) = some ((4 : Nat), ({ (default : BulkOp) with phase := 3, tries := 2 } : BulkOp))) ∧
      (({ Wp with sve := { Wp.sve with ops := [(4, { (default : BulkOp) with phase := 3, tries := 2 })] }, mte := { Wp.mte with segs := [(0, { st := 1 })] } } : State).lsiOf (BitVec.toNat (0 : Gsn)) = some (0 : Nat)) ∧
      (({ (default : BulkOp) with phase := 3, tries := 2 } : BulkOp).phase = 3) ∧
      (({ (default : BulkOp) with phase := 3, tries := 2 } : BulkOp).asked = false) ∧
      (2 ≤ ({ (default : BulkOp) with phase := 3, tries := 2 } : BulkOp).tries)) ∧
    ((({ Wp with sve := { Wp.sve with ops := [(4, { (default : BulkOp) with phase := 3, tries := 1 })] }, mte := { Wp.mte with segs := [(0, { st := 1 })] } } : State).outOp (BitVec.toNat (0 : Gsn)) = some ((4 : Nat), ({ (default : BulkOp) with phase := 3, tries := 1 } : BulkOp))) ∧
      (({ Wp with sve := { Wp.sve with ops := [(4, { (default : BulkOp) with phase := 3, tries := 1 })] }, mte := { Wp.mte with segs := [(0, { st := 1 })] } } : State).lsiOf (BitVec.toNat (0 : Gsn)) = some (0 : Nat)) ∧
      (({ (default : BulkOp) with phase := 3, tries := 1 } : BulkOp).phase = 3) ∧
      (({ (default : BulkOp) with phase := 3, tries := 1 } : BulkOp).asked = false) ∧
      (({ (default : BulkOp) with phase := 3, tries := 1 } : BulkOp).tries < 2)) ∧
    ((({ Wp with sve := { Wp.sve with ops := [(4, { (default : BulkOp) with phase := 3, ready := true })] } } : State).outOp (BitVec.toNat (0 : Gsn)) = some ((4 : Nat), ({ (default : BulkOp) with phase := 3, ready := true } : BulkOp))) ∧
      (({ (default : BulkOp) with phase := 3, ready := true } : BulkOp).phase = 3) ∧
      (({ (default : BulkOp) with phase := 3, ready := true } : BulkOp).ready = true)) ∧
    ((({ Wp with sve := { Wp.sve with ops := [(4, { (default : BulkOp) with ready := true })], gst := [(0, { (default : GstRow) with state := 2, owner := 9 })] }, mte := { Wp.mte with segs := [(0, { st := 1 })] } } : State).outOp (BitVec.toNat (0 : Gsn)) = some ((4 : Nat), ({ (default : BulkOp) with ready := true } : BulkOp))) ∧
      (({ Wp with sve := { Wp.sve with ops := [(4, { (default : BulkOp) with ready := true })], gst := [(0, { (default : GstRow) with state := 2, owner := 9 })] }, mte := { Wp.mte with segs := [(0, { st := 1 })] } } : State).lsiOf (BitVec.toNat (0 : Gsn)) = some (0 : Nat)) ∧
      (({ (default : BulkOp) with ready := true } : BulkOp).kind = 0) ∧
      (({ (default : BulkOp) with ready := true } : BulkOp).ready = true) ∧
      ((({ Wp with sve := { Wp.sve with ops := [(4, { (default : BulkOp) with ready := true })], gst := [(0, { (default : GstRow) with state := 2, owner := 9 })] }, mte := { Wp.mte with segs := [(0, { st := 1 })] } } : State).seg (0 : Nat)).st = 1) ∧
      ((({ Wp with sve := { Wp.sve with ops := [(4, { (default : BulkOp) with ready := true })], gst := [(0, { (default : GstRow) with state := 2, owner := 9 })] }, mte := { Wp.mte with segs := [(0, { st := 1 })] } } : State).row (BitVec.toNat (0 : Gsn))).state = 2) ∧
      ((({ Wp with sve := { Wp.sve with ops := [(4, { (default : BulkOp) with ready := true })], gst := [(0, { (default : GstRow) with state := 2, owner := 9 })] }, mte := { Wp.mte with segs := [(0, { st := 1 })] } } : State).row (BitVec.toNat (0 : Gsn))).owner ≠ ({ Wp with sve := { Wp.sve with ops := [(4, { (default : BulkOp) with ready := true })], gst := [(0, { (default : GstRow) with state := 2, owner := 9 })] }, mte := { Wp.mte with segs := [(0, { st := 1 })] } } : State).fxb.devnum)) ∧
    ((({ Wp with sve := { Wp.sve with ops := [(4, { (default : BulkOp) with phase := 4 })] }, mte := { Wp.mte with segs := [(0, { st := 1 })] } } : State).outOp (BitVec.toNat (0 : Gsn)) = some ((4 : Nat), ({ (default : BulkOp) with phase := 4 } : BulkOp))) ∧
      (({ Wp with sve := { Wp.sve with ops := [(4, { (default : BulkOp) with phase := 4 })] }, mte := { Wp.mte with segs := [(0, { st := 1 })] } } : State).lsiOf (BitVec.toNat (0 : Gsn)) = some (0 : Nat)) ∧
      (({ (default : BulkOp) with phase := 4 } : BulkOp).kind = 0) ∧
      (({ (default : BulkOp) with phase := 4 } : BulkOp).phase = 4)) ∧
    ((({ Wp with sve := { Wp.sve with updates := [default] }, mte := { Wp.mte with segs := [(0, { st := 1, mmode := 2, partner := 9 })] } } : State).lsiOf (BitVec.toNat (0 : Gsn)) = some (0 : Nat)) ∧
      (({ Wp with sve := { Wp.sve with updates := [default] }, mte := { Wp.mte with segs := [(0, { st := 1, mmode := 2, partner := 9 })] } } : State).paired (BitVec.toNat (0 : Gsn)) = true) ∧
      ((({ Wp with sve := { Wp.sve with updates := [default] }, mte := { Wp.mte with segs := [(0, { st := 1, mmode := 2, partner := 9 })] } } : State).seg (0 : Nat)).mmode = 2) ∧
      ((({ Wp with sve := { Wp.sve with updates := [default] }, mte := { Wp.mte with segs := [(0, { st := 1, mmode := 2, partner := 9 })] } } : State).sve.updates.any fun x_ => BitVec.toNat x_.gsn == BitVec.toNat (0 : Gsn)) = true)) ∧
    (((({ Wp with sve := { Wp.sve with updates := [default] } } : State).sve.updates.any fun x_ => BitVec.toNat x_.gsn == BitVec.toNat (0 : Gsn)) = true)) ∧
    ((List.find? (fun e_ => e_.fst == (0 : Gsn)) ({ Wp with sve := { Wp.sve with remirror := [(0, 1)] } } : State).sve.remirror = some ((0, 1) : Gsn × BitVec 2))) := by
  and_intros <;> decide

set_option maxRecDepth 20000 in
/-- Every clause of HolderMessages can be met. -/
theorem test_meets_HolderMessages :
    (((Wp : State).here (R : Routing) = true) ∧
      ((Wp : State).halted 512 = false) ∧
      (((Wp : State).credited (R : Routing) (Msg.rwMarker (0 : Byte) (0 : BitVec 16))).heldRegionOf (R : Routing).src (0 : Byte) = none)) ∧
    ((({ Wp with sve := { Wp.sve with holdRegions := [(9, 0, 0)] }, mte := { Wp.mte with regions := [(0, { attr0 := 0x10001 })] } } : State).here (R : Routing) = true) ∧
      (({ Wp with sve := { Wp.sve with holdRegions := [(9, 0, 0)] }, mte := { Wp.mte with regions := [(0, { attr0 := 0x10001 })] } } : State).halted 512 = false) ∧
      ((({ Wp with sve := { Wp.sve with holdRegions := [(9, 0, 0)] }, mte := { Wp.mte with regions := [(0, { attr0 := 0x10001 })] } } : State).credited (R : Routing) (Msg.rwMarker (0 : Byte) (0 : BitVec 16))).heldRegionOf (R : Routing).src (0 : Byte) = some (0 : Nat)) ∧
      ((({ Wp with sve := { Wp.sve with holdRegions := [(9, 0, 0)] }, mte := { Wp.mte with regions := [(0, { attr0 := 0x10001 })] } } : State).credited (R : Routing) (Msg.rwMarker (0 : Byte) (0 : BitVec 16))).markRefusal (0 : Nat) true = none)) ∧
    ((({ Wp with sve := { Wp.sve with holdRegions := [(9, 0, 0)] }, mte := { Wp.mte with regions := [(0, { attr0 := 0x10001 })], rw := [(0, { marks := [⟨0, 0, 0⟩] })] } } : State).here (R : Routing) = true) ∧
      (({ Wp with sve := { Wp.sve with holdRegions := [(9, 0, 0)] }, mte := { Wp.mte with regions := [(0, { attr0 := 0x10001 })], rw := [(0, { marks := [⟨0, 0, 0⟩] })] } } : State).halted 512 = false) ∧
      ((({ Wp with sve := { Wp.sve with holdRegions := [(9, 0, 0)] }, mte := { Wp.mte with regions := [(0, { attr0 := 0x10001 })], rw := [(0, { marks := [⟨0, 0, 0⟩] })] } } : State).credited (R : Routing) (Msg.rwFwd 1 (0 : Byte) (0 : BitVec 16))).heldRegionOf (R : Routing).src (0 : Byte) = some (0 : Nat)) ∧
      ((({ Wp with sve := { Wp.sve with holdRegions := [(9, 0, 0)] }, mte := { Wp.mte with regions := [(0, { attr0 := 0x10001 })], rw := [(0, { marks := [⟨0, 0, 0⟩] })] } } : State).credited (R : Routing) (Msg.rwFwd 1 (0 : Byte) (0 : BitVec 16))).toRefusal (0 : Nat) (0 : BitVec 16) true = none)) ∧
    ((({ Wp with sve := { Wp.sve with holdRegions := [(9, 0, 0)] }, mte := { Wp.mte with regions := [(0, { attr0 := 0x10001 })], rw := [(0, { marks := [⟨0, 0, 0⟩] })] } } : State).here (R : Routing) = true) ∧
      (({ Wp with sve := { Wp.sve with holdRegions := [(9, 0, 0)] }, mte := { Wp.mte with regions := [(0, { attr0 := 0x10001 })], rw := [(0, { marks := [⟨0, 0, 0⟩] })] } } : State).halted 512 = false) ∧
      ((({ Wp with sve := { Wp.sve with holdRegions := [(9, 0, 0)] }, mte := { Wp.mte with regions := [(0, { attr0 := 0x10001 })], rw := [(0, { marks := [⟨0, 0, 0⟩] })] } } : State).credited (R : Routing) (Msg.rwFwd 2 (0 : Byte) (0 : BitVec 16))).heldRegionOf (R : Routing).src (0 : Byte) = some (0 : Nat)) ∧
      ((({ Wp with sve := { Wp.sve with holdRegions := [(9, 0, 0)] }, mte := { Wp.mte with regions := [(0, { attr0 := 0x10001 })], rw := [(0, { marks := [⟨0, 0, 0⟩] })] } } : State).credited (R : Routing) (Msg.rwFwd 2 (0 : Byte) (0 : BitVec 16))).dropRefusal (0 : Nat) (0 : BitVec 16) true = none)) ∧
    ((({ Wp with mte := { Wp.mte with rw := [(0, { op := some { (default : RwOp) with phase := 3, confirms := [(9, 0)] } })] } } : State).here (R : Routing) = true) ∧
      (({ Wp with mte := { Wp.mte with rw := [(0, { op := some { (default : RwOp) with phase := 3, confirms := [(9, 0)] } })] } } : State).halted 512 = false) ∧
      (List.find? (fun e_ => Option.any (fun o_ => decide (((R : Routing).src, (R : Routing).tag) ∈ o_.confirms)) e_.snd.op) ({ Wp with mte := { Wp.mte with rw := [(0, { op := some { (default : RwOp) with phase := 3, confirms := [(9, 0)] } })] } } : State).mte.rw = some ((0 : Nat), ({ op := some { (default : RwOp) with phase := 3, confirms := [(9, 0)] } } : RwRegion))) ∧
      (({ op := some { (default : RwOp) with phase := 3, confirms := [(9, 0)] } } : RwRegion).op = some ({ (default : RwOp) with phase := 3, confirms := [(9, 0)] } : RwOp)) ∧
      (({ (default : RwOp) with phase := 3, confirms := [(9, 0)] } : RwOp).phase ≠ 4)) ∧
    (((Wp : State).here (R : Routing) = true) ∧
      ((Wp : State).halted 512 = false) ∧
      ((Wp : State).sve.fwState ≠ 4) ∧
      ((R : Routing).src ≠ (Wp : State).fxb.devnum)) ∧
    ((({ Wp with sve := { Wp.sve with fwState := 1, fwFrom := 9, fwLen := 209 } } : State).here (R : Routing) = true) ∧
      (({ Wp with sve := { Wp.sve with fwState := 1, fwFrom := 9, fwLen := 209 } } : State).halted 512 = false) ∧
      (({ Wp with sve := { Wp.sve with fwState := 1, fwFrom := 9, fwLen := 209 } } : State).sve.fwState = 1) ∧
      (({ Wp with sve := { Wp.sve with fwState := 1, fwFrom := 9, fwLen := 209 } } : State).sve.fwVer = (0 : Word)) ∧
      (({ Wp with sve := { Wp.sve with fwState := 1, fwFrom := 9, fwLen := 209 } } : State).sve.fwFrom = (R : Routing).src) ∧
      ((List.replicate 208 0 : List Byte).length ≤ 208) ∧
      (BitVec.toNat (0 : Word) + (List.replicate 208 0 : List Byte).length ≤ ({ Wp with sve := { Wp.sve with fwState := 1, fwFrom := 9, fwLen := 209 } } : State).sve.fwLen) ∧
      ((({ Wp with sve := { Wp.sve with fwState := 1, fwFrom := 9, fwLen := 209 } } : State).fwSlot !({ Wp with sve := { Wp.sve with fwState := 1, fwFrom := 9, fwLen := 209 } } : State).sve.running).received + (List.replicate 208 0 : List Byte).length < ({ Wp with sve := { Wp.sve with fwState := 1, fwFrom := 9, fwLen := 209 } } : State).sve.fwLen)) ∧
    (((Wp : State).here (R : Routing) = true) ∧
      ((Wp : State).halted 512 = false) ∧
      ((Wp : State).sve.fwHandle = 0)) ∧
    ((({ Wp with sve := { Wp.sve with fwHandle := 1, fwWaits := [9], fwStaging := true } } : State).here (R : Routing) = true) ∧
      (({ Wp with sve := { Wp.sve with fwHandle := 1, fwWaits := [9], fwStaging := true } } : State).halted 512 = false) ∧
      (({ Wp with sve := { Wp.sve with fwHandle := 1, fwWaits := [9], fwStaging := true } } : State).sve.fwHandle ≠ 0) ∧
      ((R : Routing).src ∈ ({ Wp with sve := { Wp.sve with fwHandle := 1, fwWaits := [9], fwStaging := true } } : State).sve.fwWaits) ∧
      ((R : Routing).status = 0) ∧
      (({ Wp with sve := { Wp.sve with fwHandle := 1, fwWaits := [9], fwStaging := true } } : State).sve.fwStaging = true)) ∧
    (((Wp : State).here (R : Routing) = true) ∧
      ((Wp : State).halted 512 = false) ∧
      ((Wp : State).crs.tblVer < (1 : Word)) ∧
      ((List.replicate 63 0 : List (BitVec 27)).length = 63)) ∧
    (((Wp : State).here (R : Routing) = true) ∧
      ((Wp : State).halted 512 = false) ∧
      (((Wp : State).krange (0 : Fin 64).val).st = 0 ∨ genAhead (0 : BitVec 16) ((Wp : State).krange (0 : Fin 64).val).gen = true)) ∧
    ((({ Wp with crs := { Wp.crs with ranges := [(0, { st := 1 })] } } : State).here (R : Routing) = true) ∧
      (({ Wp with crs := { Wp.crs with ranges := [(0, { st := 1 })] } } : State).halted 512 = false) ∧
      ((({ Wp with crs := { Wp.crs with ranges := [(0, { st := 1 })] } } : State).krange (0 : Fin 64).val).st = 0 ∨ genAhead (1 : BitVec 16) (({ Wp with crs := { Wp.crs with ranges := [(0, { st := 1 })] } } : State).krange (0 : Fin 64).val).gen = true)) ∧
    ((({ Wp with crs := { Wp.crs with pushes := [{ (default : KeyPush) with range := some 0 }] } } : State).here (R : Routing) = true) ∧
      (({ Wp with crs := { Wp.crs with pushes := [{ (default : KeyPush) with range := some 0 }] } } : State).halted 512 = false) ∧
      (({ Wp with crs := { Wp.crs with pushes := [{ (default : KeyPush) with range := some 0 }] } } : State).pushOf (bitAt (R : Routing).xinfo 0) ((0 : Fin 64).val) (0 : BitVec 16) = some ({ (default : KeyPush) with range := some 0 } : KeyPush))) ∧
    ((({ Wp with fxb := { Wp.fxb with role := 1 } } : State).here (R : Routing) = true) ∧
      (({ Wp with fxb := { Wp.fxb with role := 1 } } : State).halted 512 = false) ∧
      (({ Wp with fxb := { Wp.fxb with role := 1 } } : State).fxb.role = 1)) ∧
    ((({ Wp with sve := { Wp.sve with actWait := true } } : State).sve.actWait = true)) ∧
    (((9 : Dev) ≠ ({ Wp with sve := { Wp.sve with fwHandle := 1, fwWaits := [9] } } : State).fxb.devnum) ∧
      (({ Wp with sve := { Wp.sve with fwHandle := 1, fwWaits := [9] } } : State).sve.fwHandle ≠ 0) ∧
      (({ Wp with sve := { Wp.sve with fwHandle := 1, fwWaits := [9] } } : State).sve.fwStaging = false) ∧
      ((9 : Dev) ∈ ({ Wp with sve := { Wp.sve with fwHandle := 1, fwWaits := [9] } } : State).sve.fwWaits)) ∧
    ((List.find? (fun d_ => d_.asker.isNone && d_.id == (0 : BitVec 16) && decide ((0 : Dev) ∈ d_.checks)) ({ Wp with mte := { Wp.mte with discards := [{ (default : DiscardOp) with checks := [0] }] } } : State).mte.discards = some ({ (default : DiscardOp) with checks := [0] } : DiscardOp)) ∧
      ((1 : Status) ≠ 0)) ∧
    ((List.find? (fun d_ => d_.asker.isNone && d_.id == (0 : BitVec 16) && decide ((0 : Dev) ∈ d_.checks)) ({ Wp with mte := { Wp.mte with discards := [{ (default : DiscardOp) with checks := [0, 1] }] } } : State).mte.discards = some ({ (default : DiscardOp) with checks := [0, 1] } : DiscardOp)) ∧
      ((0 : Status) = 0) ∧
      (({ handle := ({ (default : DiscardOp) with checks := [0, 1] } : DiscardOp).handle, fga := ({ (default : DiscardOp) with checks := [0, 1] } : DiscardOp).fga, lines := ({ (default : DiscardOp) with checks := [0, 1] } : DiscardOp).lines, checks := removeAll ({ (default : DiscardOp) with checks := [0, 1] } : DiscardOp).checks (0 : Dev), confirms := ({ (default : DiscardOp) with checks := [0, 1] } : DiscardOp).confirms, pages := ({ (default : DiscardOp) with checks := [0, 1] } : DiscardOp).pages, partial_ := ({ (default : DiscardOp) with checks := [0, 1] } : DiscardOp).partial_, id := ({ (default : DiscardOp) with checks := [0, 1] } : DiscardOp).id, asker := ({ (default : DiscardOp) with checks := [0, 1] } : DiscardOp).asker } : DiscardOp).checks ≠ [])) ∧
    ((List.find? (fun d_ => d_.asker.isNone && d_.id == (0 : BitVec 16) && decide ((0 : Dev) ∈ d_.checks)) ({ Wp with mte := { Wp.mte with discards := [{ (default : DiscardOp) with checks := [0] }] } } : State).mte.discards = some ({ (default : DiscardOp) with checks := [0] } : DiscardOp)) ∧
      ((0 : Status) = 0) ∧
      (({ handle := ({ (default : DiscardOp) with checks := [0] } : DiscardOp).handle, fga := ({ (default : DiscardOp) with checks := [0] } : DiscardOp).fga, lines := ({ (default : DiscardOp) with checks := [0] } : DiscardOp).lines, checks := removeAll ({ (default : DiscardOp) with checks := [0] } : DiscardOp).checks (0 : Dev), confirms := ({ (default : DiscardOp) with checks := [0] } : DiscardOp).confirms, pages := ({ (default : DiscardOp) with checks := [0] } : DiscardOp).pages, partial_ := ({ (default : DiscardOp) with checks := [0] } : DiscardOp).partial_, id := ({ (default : DiscardOp) with checks := [0] } : DiscardOp).id, asker := ({ (default : DiscardOp) with checks := [0] } : DiscardOp).asker } : DiscardOp).checks = [])) ∧
    ((List.find? (fun d_ => d_.asker.isNone && d_.id == (0 : BitVec 16) && decide ((0 : Dev) ∈ d_.confirms)) ({ Wp with mte := { Wp.mte with discards := [{ (default : DiscardOp) with confirms := [0] }] } } : State).mte.discards = some ({ (default : DiscardOp) with confirms := [0] } : DiscardOp))) := by
  and_intros <;> decide

set_option maxRecDepth 20000 in
/-- Every clause of HeadLinks can be met. -/
theorem test_meets_HeadLinks :
    ((({ Wh with heads := [(0, { Wh.head 0 with st := 1, fullWidth := 0 })] } : State).headExists (0 : Fin 64).val = true) ∧
      ((({ Wh with heads := [(0, { Wh.head 0 with st := 1, fullWidth := 0 })] } : State).head (0 : Fin 64).val).st = 1 ∨ (({ Wh with heads := [(0, { Wh.head 0 with st := 1, fullWidth := 0 })] } : State).head (0 : Fin 64).val).st = 2) ∧
      ((4 : BitVec 3).toNat ≤ ({ Wh with heads := [(0, { Wh.head 0 with st := 1, fullWidth := 0 })] } : State).headRateMax (0 : Fin 64).val) ∧
      ((4 : BitVec 3) ≠ 0) ∧
      ((4 : BitVec 3) ≠ 0) ∧
      ((4 : BitVec 3).toNat ≤ widthCode (8 / ({ Wh with heads := [(0, { Wh.head 0 with st := 1, fullWidth := 0 })] } : State).portsOf (0 : Fin 64).val))) ∧
    (((Wh : State).headExists (0 : Fin 64).val = true) ∧
      (2 ≤ ((Wh : State).head (0 : Fin 64).val).st.toNat)) ∧
    ((((Wh : State).head (0 : Fin 64).val).active = true) ∧
      ((4 : BitVec 3) ≠ 0) ∧
      ((4 : BitVec 3).toNat ≤ ((Wh : State).head (0 : Fin 64).val).fullWidth.toNat)) ∧
    (((Wh : State).headExists (0 : Fin 64).val = true) ∧
      (Option.any Decoder.lock (((Wh : State).head (0 : Fin 64).val).decoders.find (7 : Fin 8).val) = false) ∧
      (decoderValid (⟨0x200000000000, 0x10000000, 0, 0, false⟩ : Decoder) = true) ∧
      ((List.any ((Wh : State).head (0 : Fin 64).val).decoders fun e_ => e_.fst != (7 : Fin 8).val && rangesOverlap e_.snd (⟨0x200000000000, 0x10000000, 0, 0, false⟩ : Decoder)) = false)) ∧
    (((Wh : State).headExists (0 : Fin 64).val = true) ∧
      (Option.any Decoder.lock (((Wh : State).head (0 : Fin 64).val).decoders.find (7 : Fin 8).val) = false) ∧
      (decoderValid (default : Decoder) = false ∨ (List.any ((Wh : State).head (0 : Fin 64).val).decoders fun e_ => e_.fst != (7 : Fin 8).val && rangesOverlap e_.snd (default : Decoder)) = true)) ∧
    (((Wh : State).headExists (0 : Fin 64).val = true) ∧
      ((Instr.hotReset (0 : Fin 64) : Instr) ∈ [Instr.conventionalReset (0 : Fin 64), Instr.hotReset (0 : Fin 64)])) ∧
    (((Wh : State).headExists (0 : Fin 64).val = true)) ∧
    ((((Wh : State).head (0 : Fin 64).val).active = true)) ∧
    ((List.find? (fun o_ => o_.slot.toNat == (0 : BitVec 14).toNat) (({ Wh with heads := [(0, { Wh.head 0 with offers := [default] })] } : State).head (0 : Fin 64).val).offers = some (default : Offer))) ∧
    ((((({ Wh with heads := [(0, { Wh.head 0 with releasing := [0] })] } : State).head (0 : Fin 64).val).releasing.any fun n_ => n_.toNat == (0 : BitVec 14).toNat) = true)) := by
  and_intros <;> decide

set_option maxRecDepth 20000 in
/-- A clause of MailboxQueries can be met. -/
theorem test_meets_MailboxQueries :
    (((Wh : State).pages.started = true) ∧
      ((Wh : State).reaches (Requester.mailbox (0 : Fin 64)) = true) ∧
      (((Instr.getHealthInfo (0 : Fin 64), (Wh : State).health 0) : Instr × Payload) ∈ [(Instr.getEventRecords (0 : Fin 64) (0 : Fin 5), (Wh : State).eventPayload (0 : Fin 64).val (0 : Fin 5).val), (Instr.getEventInterruptPolicy (0 : Fin 64), [((Wh : State).head (0 : Fin 64).val).policy.toNat]), (Instr.getFwInfo (0 : Fin 64), [2, flag (Wh : State).sve.running, BitVec.toNat (Wh : State).sve.slot0.version, BitVec.toNat (Wh : State).sve.slot1.version]), (Instr.getTimestamp (0 : Fin 64), [(((Wh : State).head (0 : Fin 64).val).stampNow (Wh : State).time.toNat).toNat]), (Instr.getSupportedLogs (0 : Fin 64), [1, celUuid, 4 * mailboxOpcodes.length]), (Instr.getLog (0 : Fin 64), List.flatMap (fun o_ => [o_, Config.celEffect o_]) mailboxOpcodes), (Instr.identifyMemoryDevice (0 : Fin 64), [0, 0, 0, 0, 2048]), (Instr.getPartitionInfo (0 : Fin 64), [0, 0, 0, 0]), (Instr.getHealthInfo (0 : Fin 64), (Wh : State).health (0 : Fin 64).val), (Instr.getAlertConfiguration (0 : Fin 64), [((Wh : State).head (0 : Fin 64).val).alerts.toNat]), (Instr.getShutdownState (0 : Fin 64), [(Wh : State).ring 6 / 2 ^ (0 : Fin 64).val % 2]), (Instr.getPoisonList (0 : Fin 64), (Wh : State).poisonList (0 : Fin 64).val), (Instr.getDcExtentList (0 : Fin 64), (Wh : State).extentList (0 : Fin 64).val)])) := by
  refine ⟨by decide, by decide, ?_⟩; simp

set_option maxRecDepth 20000 in
/-- A clause of MailboxQueries can be met. -/
theorem test_meets_MailboxQueries_2 :
    (((Wh : State).pages.started = true) ∧
      ((Wh : State).reaches (Requester.mailbox (0 : Fin 64)) = true)) := by
  and_intros <;> decide

set_option maxRecDepth 20000 in
/-- Every clause of MailboxSettings can be met. -/
theorem test_meets_MailboxSettings :
    (((Wh : State).pages.started = true) ∧
      ((Wh : State).reaches (Requester.mailbox (0 : Fin 64)) = true)) ∧
    (((Wh : State).pages.started = true) ∧
      ((Wh : State).reaches (Requester.mailbox (0 : Fin 64)) = true) ∧
      ((Wh : State).pantryDown = false)) ∧
    ((({ Wh with heads := [(0, { Wh.head 0 with extents := [(0, 0xe0000000)] })] } : State).pages.started = true) ∧
      (({ Wh with heads := [(0, { Wh.head 0 with extents := [(0, 0xe0000000)] })] } : State).reaches (Requester.mailbox (0 : Fin 64)) = true) ∧
      (({ Wh with heads := [(0, { Wh.head 0 with extents := [(0, 0xe0000000)] })] } : State).headRight ((0 : Fin 64).val) 2 = true) ∧
      (BitVec.toNat (64 : Dpa) % 64 = 0) ∧
      (({ Wh with heads := [(0, { Wh.head 0 with extents := [(0, 0xe0000000)] })] } : State).dpaLine ((0 : Fin 64).val) (64 : Dpa) = some (1 : LineAddr)) ∧
      (({ Wh with heads := [(0, { Wh.head 0 with extents := [(0, 0xe0000000)] })] } : State).safe = false)) ∧
    ((({ Wh with heads := [(0, { Wh.head 0 with offers := [default] })] } : State).pages.started = true) ∧
      (({ Wh with heads := [(0, { Wh.head 0 with offers := [default] })] } : State).reaches (Requester.mailbox (0 : Fin 64)) = true) ∧
      ((({ Wh with heads := [(0, { Wh.head 0 with offers := [default] })] } : State).head (0 : Fin 64).val).offers = (default : Offer) :: ([] : List Offer))) ∧
    ((({ Wh with heads := [(0, { Wh.head 0 with extents := [(16382, 0xe0000000)] })] } : State).pages.started = true) ∧
      (({ Wh with heads := [(0, { Wh.head 0 with extents := [(16382, 0xe0000000)] })] } : State).reaches (Requester.mailbox (0 : Fin 64)) = true) ∧
      (({ Wh with heads := [(0, { Wh.head 0 with extents := [(16382, 0xe0000000)] })] } : State).extentAt ((0 : Fin 64).val) (16382 * 2^30 : Dpa) = true)) ∧
    (((Wh : State).pages.started = true) ∧
      ((Wh : State).reaches (Requester.mailbox (0 : Fin 64)) = true) ∧
      ((Wh : State).headRight ((0 : Fin 64).val) 1 = true) ∧
      ((List.replicate 127 0 : List Word).length < 128) ∧
      (fld (0x8000 : Word) 8 8 = (List.replicate 127 0 : List Word).length + 1)) ∧
    (((Wh : State).pages.started = true) ∧
      ((Wh : State).reaches (Requester.mailbox (0 : Fin 64)) = true) ∧
      ((Wh : State).headRight ((0 : Fin 64).val) 1 = true)) := by
  and_intros <;> decide

set_option maxRecDepth 20000 in
/-- Clauses of SpdmRequests can be met. -/
theorem test_meets_SpdmRequests :
    (((W : State).spdmUp (SpdmPath.i3c : SpdmPath) = true) ∧
      (((Instr.getVersion (SpdmPath.i3c : SpdmPath), 4, [18]) : Instr × Nat × List Nat) ∈ [(Instr.getVersion (SpdmPath.i3c : SpdmPath), 4, [18]), (Instr.getCapabilities (SpdmPath.i3c : SpdmPath), 97, [16, spdmFlags]), (Instr.negotiateAlgorithms (SpdmPath.i3c : SpdmPath), 99, [16, 1, 8, 2, 1, 2]), (Instr.getDigests (SpdmPath.i3c : SpdmPath), 1, (W : State).slotMask :: List.filterMap (W : State).chainDigest (List.range 2)), (Instr.spdmUnsupportedRequest (SpdmPath.i3c : SpdmPath) (0 : Byte), 127, [7, BitVec.toNat (0 : Byte)])])) ∧
    (((W : State).spdmUp (SpdmPath.i3c : SpdmPath) = true) ∧
      ((W : State).chain (0 : BitVec 4).toNat = none)) ∧
    (((W : State).spdmUp (SpdmPath.i3c : SpdmPath) = true) ∧
      ((0 : Byte) = 0)) ∧
    (((W : State).spdmUp (SpdmPath.i3c : SpdmPath) = true) ∧
      (1 ≤ BitVec.toNat (6 : Byte)) ∧
      (BitVec.toNat (6 : Byte) ≤ 6)) ∧
    (((W : State).spdmUp (SpdmPath.i3c : SpdmPath) = true) ∧
      (6 < BitVec.toNat (7 : Byte)) ∧
      ((7 : Byte) ≠ 255)) ∧
    ((({ W with crs := { W.crs with sessions := List.replicate 7 (1, .i3c) } } : State).spdmUp (SpdmPath.i3c : SpdmPath) = true) ∧
      (({ W with crs := { W.crs with sessions := List.replicate 7 (1, .i3c) } } : State).crs.sessions.length < 8)) ∧
    ((({ W with crs := { W.crs with sessions := List.replicate 8 (1, .i3c) } } : State).spdmUp (SpdmPath.i3c : SpdmPath) = true) ∧
      (8 ≤ ({ W with crs := { W.crs with sessions := List.replicate 8 (1, .i3c) } } : State).crs.sessions.length)) ∧
    ((({ W with crs := { W.crs with sessions := [(0, .i3c)] } } : State).spdmUp (SpdmPath.i3c : SpdmPath) = true) ∧
      (((Instr.heartbeat (SpdmPath.i3c : SpdmPath) (0 : Word), 104) : Instr × Nat) ∈ [(Instr.finish (SpdmPath.i3c : SpdmPath) (0 : Word), 101), (Instr.heartbeat (SpdmPath.i3c : SpdmPath) (0 : Word), 104), (Instr.keyUpdate (SpdmPath.i3c : SpdmPath) (0 : Word), 105)]) ∧
      (((0 : Word), (SpdmPath.i3c : SpdmPath)) ∈ ({ W with crs := { W.crs with sessions := [(0, .i3c)] } } : State).crs.sessions)) ∧
    (((W : State).spdmUp (SpdmPath.i3c : SpdmPath) = true) ∧
      (((Instr.heartbeat (SpdmPath.i3c : SpdmPath) (0 : Word), 104) : Instr × Nat) ∈ [(Instr.finish (SpdmPath.i3c : SpdmPath) (0 : Word), 101), (Instr.heartbeat (SpdmPath.i3c : SpdmPath) (0 : Word), 104), (Instr.keyUpdate (SpdmPath.i3c : SpdmPath) (0 : Word), 105)]) ∧
      (¬((0 : Word), (SpdmPath.i3c : SpdmPath)) ∈ (W : State).crs.sessions)) ∧
    ((({ W with crs := { W.crs with sessions := [(0, .i3c)] } } : State).spdmUp (SpdmPath.i3c : SpdmPath) = true) ∧
      (((0 : Word), (SpdmPath.i3c : SpdmPath)) ∈ ({ W with crs := { W.crs with sessions := [(0, .i3c)] } } : State).crs.sessions)) := by
  and_intros <;> decide

set_option maxRecDepth 20000 in
/-- A clause of SpdmRequests can be met. -/
theorem test_meets_SpdmRequests_2 :
    ((({ W with crs := { W.crs with idState := 2 } } : State).spdmUp (SpdmPath.i3c : SpdmPath) = true) ∧
      (({ W with crs := { W.crs with idState := 2 } } : State).chain (0 : BitVec 4).toNat = some (Config.slot0Chain : List Nat))) := by
  exact ⟨rfl, rfl⟩

set_option maxRecDepth 20000 in
/-- A clause of SpdmRequests can be met. -/
theorem test_meets_SpdmRequests_3 :
    ((({ W with crs := { W.crs with idState := 2 } } : State).spdmUp (SpdmPath.i3c : SpdmPath) = true) ∧
      (({ W with crs := { W.crs with idState := 2 } } : State).chainDigest (0 : BitVec 4).toNat = some ((sha256 Config.slot0Chain).toNat : Nat))) := by
  exact ⟨rfl, rfl⟩

set_option maxRecDepth 20000 in
/-- A clause of SpdmRequests can be met. -/
theorem test_meets_SpdmRequests_4 :
    (((W : State).spdmUp (SpdmPath.i3c : SpdmPath) = true) ∧
      (requesterPath (.i3c : Requester) = (SpdmPath.i3c : SpdmPath)) ∧
      ((W : State).hasRight (.i3c : Requester) 5 = true) ∧
      (({ (default : CertChain) with leafKey := Config.idKey } : CertChain).leafKey = Config.idKey) ∧
      ((W : State).pantryDown = false) ∧
      ((W : State).pan.recalling = false)) := by
  exact ⟨rfl, rfl, by decide, rfl, rfl, rfl⟩

set_option maxRecDepth 20000 in
/-- Every clause of IdeAndMctp can be met. -/
theorem test_meets_IdeAndMctp :
    ((({ Wh with crs := { Wh.crs with sessions := [(1, .doe 0)] } } : State).spdmUp (SpdmPath.doe (0 : Fin 64)) = true) ∧
      ((({ Wh with crs := { Wh.crs with sessions := [(1, .doe 0)] } } : State).crs.sessions.any fun e_ => e_.snd == SpdmPath.doe (0 : Fin 64)) = true)) ∧
    ((({ Wh with heads := [(0, { Wh.head 0 with ideKeys := [(ideIndex 0 true, 1)] })], crs := { Wh.crs with sessions := [(1, .doe 0)] } } : State).spdmUp (SpdmPath.doe (0 : Fin 64)) = true) ∧
      ((({ Wh with heads := [(0, { Wh.head 0 with ideKeys := [(ideIndex 0 true, 1)] })], crs := { Wh.crs with sessions := [(1, .doe 0)] } } : State).crs.sessions.any fun e_ => e_.snd == SpdmPath.doe (0 : Fin 64)) = true) ∧
      (((({ Wh with heads := [(0, { Wh.head 0 with ideKeys := [(ideIndex 0 true, 1)] })], crs := { Wh.crs with sessions := [(1, .doe 0)] } } : State).head (0 : Fin 64).val).ideKeys.find (ideIndex ((0 : Fin 2).val) (true : Bool))).isSome = true)) ∧
    (((Wh : State).spdmUp (SpdmPath.doe (0 : Fin 64)) = true) ∧
      (((Wh : State).crs.sessions.any fun e_ => e_.snd == SpdmPath.doe (0 : Fin 64)) = false)) ∧
    (((W : State).pages.started = true) ∧
      (8 ≤ BitVec.toNat (254 : Byte)) ∧
      (BitVec.toNat (254 : Byte) ≤ 254)) ∧
    (((W : State).pages.started = true) ∧
      (BitVec.toNat (255 : Byte) < 8 ∨ BitVec.toNat (255 : Byte) = 255)) ∧
    (((W : State).pages.started = true) ∧
      (((Instr.getEndpointId, 2, [0, BitVec.toNat (W : State).mgt.eid]) : Instr × Nat × List Nat) ∈ [(Instr.getEndpointId, 2, [0, BitVec.toNat (W : State).mgt.eid]), (Instr.getMctpVersionSupport, 4, [0, 1, 4059295744]), (Instr.getMessageTypeSupport, 5, [0, 3, 0, 5, 6]), (Instr.getEndpointUuid, 3, [0, Config.uuid.toNat])])) ∧
    (((W : State).pages.started = true) ∧
      ((W : State).mgt.mctpMine ({ (default : MctpPacket) with som := true, payload := List.replicate 64 0 } : MctpPacket) = true) ∧
      (({ (default : MctpPacket) with som := true, payload := List.replicate 64 0 } : MctpPacket).payload.length ≤ 64) ∧
      (({ (default : MctpPacket) with som := true, payload := List.replicate 64 0 } : MctpPacket).som = true) ∧
      (({ (default : MctpPacket) with som := true, payload := List.replicate 64 0 } : MctpPacket).eom = false) ∧
      (({ (default : MctpPacket) with som := true, payload := List.replicate 64 0 } : MctpPacket).mtype.toNat ∈ [0, 5, 6])) := by
  and_intros <;> decide

set_option maxRecDepth 20000 in
/-- Every clause of TestAndBoot can be met. -/
theorem test_meets_TestAndBoot :
    ((({ W with crs := { W.crs with window := true } } : State).crs.window = true) ∧
      (({ W with crs := { W.crs with window := true } } : State).crs.testMode = false) ∧
      (({ W with crs := { W.crs with window := true } } : State).holdsSegment = false)) ∧
    ((({ W with crs := { W.crs with window := true }, mte := { W.mte with segs := [(0, { st := 1 })] } } : State).crs.window = true) ∧
      (({ W with crs := { W.crs with window := true }, mte := { W.mte with segs := [(0, { st := 1 })] } } : State).crs.testMode = false) ∧
      (({ W with crs := { W.crs with window := true }, mte := { W.mte with segs := [(0, { st := 1 })] } } : State).holdsSegment = true)) ∧
    ((({ W with crs := { W.crs with window := true } } : State).crs.window = true)) ∧
    (((({ W with sve := { W.sve with cores := [(7, { st := 1 })] } } : State).core (7 : Fin 8).val).st = 1) ∧
      (({ W with sve := { W.sve with cores := [(7, { st := 1 })] } } : State).bootCheck ({ W with sve := { W.sve with cores := [(7, { st := 1 })] } } : State).sve.running ≠ 0) ∧
      ((({ W with sve := { W.sve with cores := [(7, { st := 1 })] } } : State).bootCheck !({ W with sve := { W.sve with cores := [(7, { st := 1 })] } } : State).sve.running) ≠ 0)) ∧
    (((W : State).pages.started = true) ∧
      ((W : State).hasRight Requester.debug 10 = false ∨ (W : State).debugRange (fgaLine (0 : Fga)) = false)) ∧
    (((({ W with fxb := { W.fxb with dir := [(0, { st := 1, owner := 7 })] } } : State).setReg 0x00a 0x108 0xfff |>.setReg 0x00a 0x110 1 : State).pages.started = true) ∧
      ((({ W with fxb := { W.fxb with dir := [(0, { st := 1, owner := 7 })] } } : State).setReg 0x00a 0x108 0xfff |>.setReg 0x00a 0x110 1 : State).hasRight Requester.debug 10 = true) ∧
      ((({ W with fxb := { W.fxb with dir := [(0, { st := 1, owner := 7 })] } } : State).setReg 0x00a 0x108 0xfff |>.setReg 0x00a 0x110 1 : State).debugRange (fgaLine (0 : Fga)) = true) ∧
      (((({ W with fxb := { W.fxb with dir := [(0, { st := 1, owner := 7 })] } } : State).setReg 0x00a 0x108 0xfff |>.setReg 0x00a 0x110 1 : State).lookup (lineGsn (fgaLine (0 : Fga)))).st = 1)) ∧
    (((W.setReg 0x00a 0x108 0xfff : State).pages.started = true) ∧
      ((W.setReg 0x00a 0x108 0xfff : State).hasRight Requester.debug 0 = true)) := by
  and_intros <;> decide

set_option maxRecDepth 20000 in
/-- Every clause of EventsAndSafeState can be met. -/
theorem test_meets_EventsAndSafeState :
    (((W : State).flt.queue = [])) ∧
    ((({ W with flt := { W.flt with queue := [{ (default : Latched) with src := srcId 4 1 }] } } : State).flt.queue = [({ (default : Latched) with src := srcId 4 1 } : Latched)]) ∧
      (({ (default : Latched) with src := srcId 4 1 } : Latched).conseq = false) ∧
      (({ (default : Latched) with src := srcId 4 1 } : Latched).forced = false) ∧
      ((classify ({ (default : Latched) with src := srcId 4 1 } : Latched).src).fst = 3) ∧
      (({ (default : Latched) with src := srcId 4 1 } : Latched).src ≠ srcId 3 6) ∧
      (({ W with flt := { W.flt with queue := [{ (default : Latched) with src := srcId 4 1 }] } } : State).safe = false)) ∧
    ((({ W with flt := { W.flt with queue := [{ (default : Latched) with src := srcId 2 3 }] } } : State).flt.queue = [({ (default : Latched) with src := srcId 2 3 } : Latched)]) ∧
      (({ (default : Latched) with src := srcId 2 3 } : Latched).conseq = false) ∧
      (({ (default : Latched) with src := srcId 2 3 } : Latched).forced = false) ∧
      ((classify ({ (default : Latched) with src := srcId 2 3 } : Latched).src).fst = 2) ∧
      (bitAt (({ W with flt := { W.flt with queue := [{ (default : Latched) with src := srcId 2 3 }] } } : State).reg 4 268) 31 = false)) ∧
    (((({ W with flt := { W.flt with windows := [⟨4, 7, false⟩] } } : State).flt.windows.any fun w_ => decide (w_.dom.toNat = (4 : BitVec 4).toNat) && decide (w_.inst.toNat = (7 : BitVec 20).toNat) && !w_.ended) = true)) ∧
    (((W : State).safe = false)) ∧
    (((({ W with flt := { W.flt with safe := 2 }, mte := { W.mte with restored := true } } : State).setRegFld 0x030 0x104 28 4 0 : State).flt.safe = 2) ∧
      ((({ W with flt := { W.flt with safe := 2 }, mte := { W.mte with restored := true } } : State).setRegFld 0x030 0x104 28 4 0 : State).flt.hung = false) ∧
      ((({ W with flt := { W.flt with safe := 2 }, mte := { W.mte with restored := true } } : State).setRegFld 0x030 0x104 28 4 0 : State).flushed = true)) ∧
    ((({ W with flt := { W.flt with safe := 2 } } : State).flt.safe = 2)) ∧
    ((({ W with flt := { W.flt with spillBuf := [default] } } : State).flt.spillBuf ≠ [])) := by
  and_intros <;> decide

set_option maxRecDepth 20000 in
/-- Every clause of GpfPhase1 can be met. -/
theorem test_meets_GpfPhase1 :
    (((Wh : State).headExists (0 : Fin 64).val = true)) := by
  decide

set_option maxRecDepth 20000 in
/-- Every clause of UnalignedAccess can be met. -/
theorem test_meets_UnalignedAccess :
    ((regWord (0x180 : Nat) (0x110 : Nat) = some ((regWord 0x180 0x110).get rfl : RegWord))) ∧
    (((W : State).reaches (.i3c : Requester) = true) ∧
      ((0 : Nat) ≠ 4 ∨ (0 : BitVec 24).toNat % 4 ≠ 0)) ∧
    (((W : State).reaches (.i3c : Requester) = true) ∧
      ((0 : Nat) ≠ 4 ∨ (0 : BitVec 24).toNat % 4 ≠ 0) ∧
      ((W : State).pages.started = true) ∧
      ((W : State).windowShut (.i3c : Requester) = none) ∧
      (pageKind ((0 : BitVec 24).toNat / 4096) = some (.mgt : PageKind)) ∧
      ((W : State).mayWrite (.i3c : Requester) ((0 : BitVec 24).toNat % 4096) (0 : Word) = true)) := by
  and_intros <;> decide

set_option maxRecDepth 20000 in
/-- Every clause of EmptyPages can be met. -/
theorem test_meets_EmptyPages :
    (((0xfff : Nat) < 4096)) ∧
    (((0xfff : Nat) < 4096) ∧
      (pageKind (0xfff : Nat) = none) ∧
      ((0xfff004 : BitVec 24).toNat / 4096 = (0xfff : Nat)) ∧
      ((W : State).reaches (.i3c : Requester) = true) ∧
      ((W : State).pages.started = true) ∧
      ((W : State).windowShut (.i3c : Requester) = none)) ∧
    (((0xfff : Nat) < 4096) ∧
      (pageKind (0xfff : Nat) = none) ∧
      ((0xfff004 : BitVec 24).toNat / 4096 = (0xfff : Nat)) ∧
      ((W : State).reaches (.i3c : Requester) = true) ∧
      ((W : State).pages.started = true) ∧
      ((W : State).windowShut (.i3c : Requester) = none) ∧
      ((W : State).hasRight (.i3c : Requester) 0 = true)) := by
  and_intros <;> decide

set_option maxRecDepth 20000 in
/-- Every clause of FrontOfQueue can be met. -/
theorem test_meets_FrontOfQueue :
    (((W : State).pending = [])) := by
  decide

/-- A state that the invariant holds in takes a step. -/
theorem test_meets_StepKeepsInv : State.reset.Inv ∧ step State.reset = .next State.reset.tick := ⟨⟨by decide, by decide, by decide⟩, rfl⟩

/-- A command of each frame statement answers a next state. -/
theorem test_meets_SmallFrames : exec .bladeSeatClose State.reset = .next { State.reset with pwr := { State.reset.pwr with seat := true } } := rfl

theorem test_meets_EventFrames : exec (.gpfTimeout 0) State.reset = .next State.reset := rfl

end Sys2Proof.Machine
end

section
/-! PROOFS. A command keeps what Laws/Keeps.lean says, unless it is one of the two that write the clocks, which keep all of it but
the clocks; so a step keeps the invariant of Safety.lean. -/

namespace Sys2Proof.Machine

open Sys2Proof

/-- What a command can do: AON_RESET and RECALL_DONE write the clocks (R502, R605), and every other command keeps them, the waiting
commands, what was driven outward and the invariant. One arm per command, as `exec` has. -/
theorem exec_keeps_or_sets_clocks (c : Instr) (s : State) :
    (∃ t, exec c s = .next t ∧ Keeps s t) ∨ (∃ straps, c = .aonReset straps) ∨ ∃ a b, c = .recallDone a b := by
  have k : Keeps s s := Keeps.refl s
  cases c with
  | cagePresenceAssert => exact .inl (execCagePresenceAssert_keeps k)
  | cagePresenceDebounceExpiry => exact .inl (execCagePresenceDebounceExpiry_keeps k)
  | cableIdentityReadDone => exact .inl (execCableIdentityReadDone_keeps k)
  | cableIdentityReadTimeout => exact .inl (execCableIdentityReadTimeout_keeps k)
  | cagePresenceDeassert => exact .inl (execCagePresenceDeassert_keeps k)
  | bladeSeatClose => exact .inl (execBladeSeatClose_keeps k)
  | bladeSeatOpen => exact .inl (execBladeSeatOpen_keeps k)
  | pwrEnRise => exact .inl (execPwrEnRise_keeps k)
  | pwrEnFall => exact .inl (execPwrEnFall_keeps k)
  | mrstNFall => exact .inl (execMrstNFall_keeps k)
  | mrstNRise => exact .inl (execMrstNRise_keeps k)
  | pfailNFall => exact .inl (execPfailNFall_keeps k)
  | spdHubReadDone => exact .inl (execSpdHubReadDone_keeps k)
  | spdHubReadTimeout => exact .inl (execSpdHubReadTimeout_keeps k)
  | holdupChargeTimeout => exact .inl (execHoldupChargeTimeout_keeps k)
  | cxlMemRead => exact .inl (execCxlMemRead_keeps k)
  | cxlMemWrite => exact .inl (execCxlMemWrite_keeps k)
  | cxlMemAtomic => exact .inl (execCxlMemAtomic_keeps k)
  | missFullWaitEnd => exact .inl (execMissFullWaitEnd_keeps k)
  | tierLookupDone => exact .inl (execTierLookupDone_keeps k)
  | mapLookupDone => exact .inl (execMapLookupDone_keeps k)
  | crumbReadDone => exact .inl (execCrumbReadDone_keeps k)
  | crumbReadTimeout => exact .inl (execCrumbReadTimeout_keeps k)
  | reconstructionDone => exact .inl (execReconstructionDone_keeps k)
  | lineCheckDone => exact .inl (execLineCheckDone_keeps k)
  | secondSourceReadDone => exact .inl (execSecondSourceReadDone_keeps k)
  | fillArrival => exact .inl (execFillArrival_keeps k)
  | laneEntryRelease => exact .inl (execLaneEntryRelease_keeps k)
  | mergeDrainAgeExpiry => exact .inl (execMergeDrainAgeExpiry_keeps k)
  | dtcLineAccept => exact .inl (execDtcLineAccept_keeps k)
  | pageFillDone => exact .inl (execPageFillDone_keeps k)
  | frameTransferDone => exact .inl (execFrameTransferDone_keeps k)
  | stageAgeExpiry => exact .inl (execStageAgeExpiry_keeps k)
  | fillWindowBoundary => exact .inl (execFillWindowBoundary_keeps k)
  | stripeGatherTimeout => exact .inl (execStripeGatherTimeout_keeps k)
  | stripeIssue => exact .inl (execStripeIssue_keeps k)
  | programDone => exact .inl (execProgramDone_keeps k)
  | programFailure => exact .inl (execProgramFailure_keeps k)
  | eraseDone => exact .inl (execEraseDone_keeps k)
  | eraseFailure => exact .inl (execEraseFailure_keeps k)
  | resumeIdleExpiry => exact .inl (execResumeIdleExpiry_keeps k)
  | busCrcFail => exact .inl (execBusCrcFail_keeps k)
  | localServiceTimeout => exact .inl (execLocalServiceTimeout_keeps k)
  | remoteRequestTimeout => exact .inl (execRemoteRequestTimeout_keeps k)
  | fabricDeliveryTimeout => exact .inl (execFabricDeliveryTimeout_keeps k)
  | barrierWrite => exact .inl (execBarrierWrite_keeps k)
  | barrierComplete => exact .inl (execBarrierComplete_keeps k)
  | gpfPhase1 => exact .inl (execGpfPhase1_keeps k)
  | gpfPhase2 => exact .inl (execGpfPhase2_keeps k)
  | gpfTimeout => exact .inl (execGpfTimeout_keeps k)
  | regionCommit => exact .inl (execRegionCommit_keeps k)
  | regionCommitQuiesceTimeout => exact .inl (execRegionCommitQuiesceTimeout_keeps k)
  | regionCommitRetry => exact .inl (execRegionCommitRetry_keeps k)
  | discard => exact .inl (execDiscard_keeps k)
  | slcLcEnableWrite => exact .inl (execSlcLcEnableWrite_keeps k)
  | slcInvalidateStart => exact .inl (execSlcInvalidateStart_keeps k)
  | invalidationDone => exact .inl (execInvalidationDone_keeps k)
  | slcLockCommit => exact .inl (execSlcLockCommit_keeps k)
  | slcPreload => exact .inl (execSlcPreload_keeps k)
  | preloadDone => exact .inl (execPreloadDone_keeps k)
  | pbSramUe => exact .inl (execPbSramUe_keeps k)
  | sliceFence => exact .inl (execSliceFence_keeps k)
  | channelTrainingDone => exact .inl (execChannelTrainingDone_keeps k)
  | channelTrainingTimeout => exact .inl (execChannelTrainingTimeout_keeps k)
  | dimmThermalRound => exact .inl (execDimmThermalRound_keeps k)
  | dimmReread => exact .inl (execDimmReread_keeps k)
  | readmitTimeExpiry => exact .inl (execReadmitTimeExpiry_keeps k)
  | dramError => exact .inl (execDramError_keeps k)
  | patrolScrubPass => exact .inl (execPatrolScrubPass_keeps k)
  | channelFence => exact .inl (execChannelFence_keeps k)
  | dtcChFence => exact .inl (execDtcChFence_keeps k)
  | dtcChReadmit => exact .inl (execDtcChReadmit_keeps k)
  | reformDrainEnd => exact .inl (execReformDrainEnd_keeps k)
  | reformFreezeEnd => exact .inl (execReformFreezeEnd_keeps k)
  | reformRelocateEnd => exact .inl (execReformRelocateEnd_keeps k)
  | reformTimeout => exact .inl (execReformTimeout_keeps k)
  | holdMeas => exact .inl (execHoldMeas_keeps k)
  | driftSurveyStart => exact .inl (execDriftSurveyStart_keeps k)
  | survey => exact .inl (execSurvey_keeps k)
  | mediaThermalRound => exact .inl (execMediaThermalRound_keeps k)
  | mchGrpmodeCommit => exact .inl (execMchGrpmodeCommit_keeps k)
  | modeMoveEnd => exact .inl (execModeMoveEnd_keeps k)
  | mchChFence => exact .inl (execMchChFence_keeps k)
  | mchChDiefence => exact .inl (execMchChDiefence_keeps k)
  | wsnReserve => exact .inl (execWsnReserve_keeps k)
  | wsnReserveDurable => exact .inl (execWsnReserveDurable_keeps k)
  | journalFlushExpiry => exact .inl (execJournalFlushExpiry_keeps k)
  | journalStripeProgrammed => exact .inl (execJournalStripeProgrammed_keeps k)
  | checkpointWrite => exact .inl (execCheckpointWrite_keeps k)
  | startupBlockScanEnd => exact .inl (execStartupBlockScanEnd_keeps k)
  | startupJournalLocateEnd => exact .inl (execStartupJournalLocateEnd_keeps k)
  | startupImageLoadEnd => exact .inl (execStartupImageLoadEnd_keeps k)
  | startupMapLoadEnd => exact .inl (execStartupMapLoadEnd_keeps k)
  | startupReplayEnd => exact .inl (execStartupReplayEnd_keeps k)
  | startupTailScanEnd => exact .inl (execStartupTailScanEnd_keeps k)
  | fullRebuild => exact .inl (execFullRebuild_keeps k)
  | settle => exact .inl (execSettle_keeps k)
  | scraperVictimSelect => exact .inl (execScraperVictimSelect_keeps k)
  | relocationProgrammed => exact .inl (execRelocationProgrammed_keeps k)
  | setReleaseDurable => exact .inl (execSetReleaseDurable_keeps k)
  | rewindMark => exact .inl (execRewindMark_keeps k)
  | rewindMarkHoldEnd => exact .inl (execRewindMarkHoldEnd_keeps k)
  | rwMarkDurable => exact .inl (execRwMarkDurable_keeps k)
  | rewindMarkHoldTimeout => exact .inl (execRewindMarkHoldTimeout_keeps k)
  | rewindTo => exact .inl (execRewindTo_keeps k)
  | rewindToQuiesceEnd => exact .inl (execRewindToQuiesceEnd_keeps k)
  | rwVoidDurable => exact .inl (execRwVoidDurable_keeps k)
  | rwDoneDurable => exact .inl (execRwDoneDurable_keeps k)
  | rewindQuiesceTimeout => exact .inl (execRewindQuiesceTimeout_keeps k)
  | rewindDrop => exact .inl (execRewindDrop_keeps k)
  | mirrorConfirmTimeout => exact .inl (execMirrorConfirmTimeout_keeps k)
  | elvucTrainStart => exact .inl (execElvucTrainStart_keeps k)
  | ts1 => exact .inl (execTs1_keeps k)
  | ts2 => exact .inl (execTs2_keeps k)
  | equalisationRequest => exact .inl (execEqualisationRequest_keeps k)
  | equalisationDone => exact .inl (execEqualisationDone_keeps k)
  | verifyEnd => exact .inl (execVerifyEnd_keeps k)
  | trainingTimeout => exact .inl (execTrainingTimeout_keeps k)
  | trainingRetryExpiry => exact .inl (execTrainingRetryExpiry_keeps k)
  | dataFlit => exact .inl (execDataFlit_keeps k)
  | idleFlit => exact .inl (execIdleFlit_keeps k)
  | nakFlit => exact .inl (execNakFlit_keeps k)
  | clearFlit => exact .inl (execClearFlit_keeps k)
  | replayTimerExpiry => exact .inl (execReplayTimerExpiry_keeps k)
  | ackIdleDue => exact .inl (execAckIdleDue_keeps k)
  | recoveryEnd => exact .inl (execRecoveryEnd_keeps k)
  | alignmentLoss => exact .inl (execAlignmentLoss_keeps k)
  | rd => exact .inl (execRd_keeps k)
  | wr => exact .inl (execWr_keeps k)
  | atom => exact .inl (execAtom_keeps k)
  | barrier => exact .inl (execBarrier_keeps k)
  | gpf => exact .inl (execGpf_keeps k)
  | rdData => exact .inl (execRdData_keeps k)
  | wrStat => exact .inl (execWrStat_keeps k)
  | atomData => exact .inl (execAtomData_keeps k)
  | barrierDone => exact .inl (execBarrierDone_keeps k)
  | gpfDone => exact .inl (execGpfDone_keeps k)
  | retry => exact .inl (execRetry_keeps k)
  | esqAck => exact .inl (execEsqAck_keeps k)
  | err => exact .inl (execErr_keeps k)
  | blkData => exact .inl (execBlkData_keeps k)
  | esqAckDue => exact .inl (execEsqAckDue_keeps k)
  | e2eResendExpiry => exact .inl (execE2eResendExpiry_keeps k)
  | hello => exact .inl (execHello_keeps k)
  | lsa => exact .inl (execLsa_keeps k)
  | devReq => exact .inl (execDevReq_keeps k)
  | devGrant => exact .inl (execDevGrant_keeps k)
  | tree => exact .inl (execTree_keeps k)
  | linkTrickle => exact .inl (execLinkTrickle_keeps k)
  | linkWake => exact .inl (execLinkWake_keeps k)
  | trickleIdleExpiry => exact .inl (execTrickleIdleExpiry_keeps k)
  | trickleExitTimeout => exact .inl (execTrickleExitTimeout_keeps k)
  | refreshInterval => exact .inl (execRefreshInterval_keeps k)
  | lsaExpire => exact .inl (execLsaExpire_keeps k)
  | electionSettleExpiry => exact .inl (execElectionSettleExpiry_keeps k)
  | devReqRepeat => exact .inl (execDevReqRepeat_keeps k)
  | routeHolddownExpiry => exact .inl (execRouteHolddownExpiry_keeps k)
  | oldEscapeExpiry => exact .inl (execOldEscapeExpiry_keeps k)
  | prtCtlRetrain => exact .inl (execPrtCtlRetrain_keeps k)
  | fxbFabidCommit => exact .inl (execFxbFabidCommit_keeps k)
  | gstReq => exact .inl (execGstReq_keeps k)
  | gstRsp => exact .inl (execGstRsp_keeps k)
  | gstUpd => exact .inl (execGstUpd_keeps k)
  | gstAck => exact .inl (execGstAck_keeps k)
  | gstSync => exact .inl (execGstSync_keeps k)
  | gstClaim => exact .inl (execGstClaim_keeps k)
  | standbyAckTimeout => exact .inl (execStandbyAckTimeout_keeps k)
  | gstGapTimeout => exact .inl (execGstGapTimeout_keeps k)
  | claimWindowExpiry => exact .inl (execClaimWindowExpiry_keeps k)
  | prepareTimeout => exact .inl (execPrepareTimeout_keeps k)
  | pageCtl => exact .inl (execPageCtl_keeps k)
  | pageAck => exact .inl (execPageAck_keeps k)
  | migrationCopyEnd => exact .inl (execMigrationCopyEnd_keeps k)
  | convergePassEnd => exact .inl (execConvergePassEnd_keeps k)
  | switchReady => exact .inl (execSwitchReady_keeps k)
  | switchTimeout => exact .inl (execSwitchTimeout_keeps k)
  | switchReadyResend => exact .inl (execSwitchReadyResend_keeps k)
  | switchCommitApplied => exact .inl (execSwitchCommitApplied_keeps k)
  | drainQuietExpiry => exact .inl (execDrainQuietExpiry_keeps k)
  | lineAck => exact .inl (execLineAck_keeps k)
  | copyEnd => exact .inl (execCopyEnd_keeps k)
  | lagBoundReached => exact .inl (execLagBoundReached_keeps k)
  | lineUpdateAckTimeout => exact .inl (execLineUpdateAckTimeout_keeps k)
  | remirrorDelayExpiry => exact .inl (execRemirrorDelayExpiry_keeps k)
  | rwMarker => exact .inl (execRwMarker_keeps k)
  | rwFwd => exact .inl (execRwFwd_keeps k)
  | rwConf => exact .inl (execRwConf_keeps k)
  | leaseLost => exact .inl (execLeaseLost_keeps k)
  | dedupEntryExpiry => exact .inl (execDedupEntryExpiry_keeps k)
  | fwChunk => exact .inl (execFwChunk_keeps k)
  | fwuCtl => exact .inl (execFwuCtl_keeps k)
  | fwuDone => exact .inl (execFwuDone_keeps k)
  | fwActivationWaitExpiry => exact .inl (execFwActivationWaitExpiry_keeps k)
  | fwActivationTimeout => exact .inl (execFwActivationTimeout_keeps k)
  | headLinkTrained => exact .inl (execHeadLinkTrained_keeps k)
  | headLinkDown => exact .inl (execHeadLinkDown_keeps k)
  | l0pWidthChange => exact .inl (execL0pWidthChange_keeps k)
  | hdmDecoderCommit => exact .inl (execHdmDecoderCommit_keeps k)
  | conventionalReset => exact .inl (execConventionalReset_keeps k)
  | hotReset => exact .inl (execHotReset_keeps k)
  | functionLevelReset => exact .inl (execFunctionLevelReset_keeps k)
  | ideFail => exact .inl (execIdeFail_keeps k)
  | dcAddTimeout => exact .inl (execDcAddTimeout_keeps k)
  | dcReleaseTimeout => exact .inl (execDcReleaseTimeout_keeps k)
  | getEventRecords => exact .inl (execGetEventRecords_keeps k)
  | clearEventRecords => exact .inl (execClearEventRecords_keeps k)
  | getEventInterruptPolicy => exact .inl (execGetEventInterruptPolicy_keeps k)
  | setEventInterruptPolicy => exact .inl (execSetEventInterruptPolicy_keeps k)
  | getFwInfo => exact .inl (execGetFwInfo_keeps k)
  | getTimestamp => exact .inl (execGetTimestamp_keeps k)
  | setTimestamp => exact .inl (execSetTimestamp_keeps k)
  | getSupportedLogs => exact .inl (execGetSupportedLogs_keeps k)
  | getLog => exact .inl (execGetLog_keeps k)
  | identifyMemoryDevice => exact .inl (execIdentifyMemoryDevice_keeps k)
  | getPartitionInfo => exact .inl (execGetPartitionInfo_keeps k)
  | getHealthInfo => exact .inl (execGetHealthInfo_keeps k)
  | getAlertConfiguration => exact .inl (execGetAlertConfiguration_keeps k)
  | setAlertConfiguration => exact .inl (execSetAlertConfiguration_keeps k)
  | getShutdownState => exact .inl (execGetShutdownState_keeps k)
  | setShutdownState => exact .inl (execSetShutdownState_keeps k)
  | getPoisonList => exact .inl (execGetPoisonList_keeps k)
  | injectPoison => exact .inl (execInjectPoison_keeps k)
  | clearPoison => exact .inl (execClearPoison_keeps k)
  | getDcConfiguration => exact .inl (execGetDcConfiguration_keeps k)
  | getDcExtentList => exact .inl (execGetDcExtentList_keeps k)
  | addDcResponse => exact .inl (execAddDcResponse_keeps k)
  | releaseDynamicCapacity => exact .inl (execReleaseDynamicCapacity_keeps k)
  | mailboxUnsupported h opcode => exact .inl (execMailboxUnsupported_keeps (x1 := opcode) k)
  | lorlekExec => exact .inl (execLorlekExec_keeps k)
  | lorlekCompletions => exact .inl (execLorlekCompletions_keeps k)
  | kxOffer => exact .inl (execKxOffer_keeps k)
  | kxCert => exact .inl (execKxCert_keeps k)
  | kxProof => exact .inl (execKxProof_keeps k)
  | kxDone => exact .inl (execKxDone_keeps k)
  | linkAuth => exact .inl (execLinkAuth_keeps k)
  | rekeyIntervalExpiry => exact .inl (execRekeyIntervalExpiry_keeps k)
  | krTable => exact .inl (execKrTable_keeps k)
  | krPush => exact .inl (execKrPush_keeps k)
  | krAck => exact .inl (execKrAck_keeps k)
  | krPull => exact .inl (execKrPull_keeps k)
  | keyWaitExpiry => exact .inl (execKeyWaitExpiry_keeps k)
  | keySlotParityFail => exact .inl (execKeySlotParityFail_keeps k)
  | keyFenced => exact .inl (execKeyFenced_keeps k)
  | getVersion => exact .inl (execGetVersion_keeps k)
  | getCapabilities => exact .inl (execGetCapabilities_keeps k)
  | negotiateAlgorithms => exact .inl (execNegotiateAlgorithms_keeps k)
  | getDigests => exact .inl (execGetDigests_keeps k)
  | getCertificate => exact .inl (execGetCertificate_keeps k)
  | challenge => exact .inl (execChallenge_keeps k)
  | getMeasurements => exact .inl (execGetMeasurements_keeps k)
  | keyExchange => exact .inl (execKeyExchange_keeps k)
  | finish => exact .inl (execFinish_keeps k)
  | heartbeat => exact .inl (execHeartbeat_keeps k)
  | keyUpdate => exact .inl (execKeyUpdate_keeps k)
  | endSession => exact .inl (execEndSession_keeps k)
  | setCertificate => exact .inl (execSetCertificate_keeps k)
  | spdmUnsupportedRequest => exact .inl (execSpdmUnsupportedRequest_keeps k)
  | ideKmQuery => exact .inl (execIdeKmQuery_keeps k)
  | ideKmKeyProg => exact .inl (execIdeKmKeyProg_keeps k)
  | ideKmKSetGo => exact .inl (execIdeKmKSetGo_keeps k)
  | ideKmKSetStop => exact .inl (execIdeKmKSetStop_keeps k)
  | setEndpointId => exact .inl (execSetEndpointId_keeps k)
  | getEndpointId => exact .inl (execGetEndpointId_keeps k)
  | getMctpVersionSupport => exact .inl (execGetMctpVersionSupport_keeps k)
  | getMessageTypeSupport => exact .inl (execGetMessageTypeSupport_keeps k)
  | getEndpointUuid => exact .inl (execGetEndpointUuid_keeps k)
  | mctpPacket => exact .inl (execMctpPacket_keeps k)
  | crsTestConsent => exact .inl (execCrsTestConsent_keeps k)
  | unlockToken => exact .inl (execUnlockToken_keeps k)
  | consentWindowExpiry => exact .inl (execConsentWindowExpiry_keeps k)
  | bootMonitorCheck => exact .inl (execBootMonitorCheck_keeps k)
  | enec => exact .inl (execEnec_keeps k)
  | disec => exact .inl (execDisec_keeps k)
  | rstdaa => exact .inl (execRstdaa_keeps k)
  | entdaa => exact .inl (execEntdaa_keeps k)
  | setdasa => exact .inl (execSetdasa_keeps k)
  | setnewda => exact .inl (execSetnewda_keeps k)
  | setmwl => exact .inl (execSetmwl_keeps k)
  | setmrl => exact .inl (execSetmrl_keeps k)
  | getmwl => exact .inl (execGetmwl_keeps k)
  | getmrl => exact .inl (execGetmrl_keeps k)
  | getpid => exact .inl (execGetpid_keeps k)
  | getbcr => exact .inl (execGetbcr_keeps k)
  | getdcr => exact .inl (execGetdcr_keeps k)
  | getstatus => exact .inl (execGetstatus_keeps k)
  | getmxds => exact .inl (execGetmxds_keeps k)
  | getcaps => exact .inl (execGetcaps_keeps k)
  | enthdr0 => exact .inl (execEnthdr0_keeps k)
  | unsupportedCcc code => exact .inl (execUnsupportedCcc_keeps (x0 := code) k)
  | hotJoinRepeat => exact .inl (execHotJoinRepeat_keeps k)
  | ibiResend => exact .inl (execIbiResend_keeps k)
  | write => exact .inl (execWrite_keeps k)
  | setRead => exact .inl (execSetRead_keeps k)
  | privateRead => exact .inl (execPrivateRead_keeps k)
  | cmdPush => exact .inl (execCmdPush_keeps k)
  | cplPop => exact .inl (execCplPop_keeps k)
  | badOp => exact .inl (execBadOp_keeps k)
  | mgtCmdPushWrite => exact .inl (execMgtCmdPushWrite_keeps k)
  | mgtCmdLastWrite => exact .inl (execMgtCmdLastWrite_keeps k)
  | mgtCplHeadRead => exact .inl (execMgtCplHeadRead_keeps k)
  | completionHoldExpiry => exact .inl (execCompletionHoldExpiry_keeps k)
  | cmdAbandon => exact .inl (execCmdAbandon_keeps k)
  | cplAbandon => exact .inl (execCplAbandon_keeps k)
  | nop => exact .inl (execNop_keeps k)
  | handleQuery => exact .inl (execHandleQuery_keeps k)
  | segAlloc => exact .inl (execSegAlloc_keeps k)
  | segFree => exact .inl (execSegFree_keeps k)
  | segBind => exact .inl (execSegBind_keeps k)
  | segUnbind => exact .inl (execSegUnbind_keeps k)
  | segMigrate => exact .inl (execSegMigrate_keeps k)
  | segEvacuate => exact .inl (execSegEvacuate_keeps k)
  | mirrorSet => exact .inl (execMirrorSet_keeps k)
  | segRecover => exact .inl (execSegRecover_keeps k)
  | segAbort => exact .inl (execSegAbort_keeps k)
  | krSet => exact .inl (execKrSet_keeps k)
  | keyGen => exact .inl (execKeyGen_keeps k)
  | keyImport => exact .inl (execKeyImport_keeps k)
  | keyErase => exact .inl (execKeyErase_keeps k)
  | fwLoad => exact .inl (execFwLoad_keeps k)
  | fwStart => exact .inl (execFwStart_keeps k)
  | fwAbort => exact .inl (execFwAbort_keeps k)
  | powerProfile => exact .inl (execPowerProfile_keeps k)
  | powerState => exact .inl (execPowerState_keeps k)
  | moduleReset => exact .inl (execModuleReset_keeps k)
  | sanitize => exact .inl (execSanitize_keeps k)
  | sanitizeDone => exact .inl (execSanitizeDone_keeps k)
  | paramSave => exact .inl (execParamSave_keeps k)
  | paramDefault => exact .inl (execParamDefault_keeps k)
  | evlogClear => exact .inl (execEvlogClear_keeps k)
  | ctrlCommit => exact .inl (execCtrlCommit_keeps k)
  | ctrlLock => exact .inl (execCtrlLock_keeps k)
  | ctrlReset => exact .inl (execCtrlReset_keeps k)
  | ctrlRun => exact .inl (execCtrlRun_keeps k)
  | quiesceDone => exact .inl (execQuiesceDone_keeps k)
  | evtStatW1c => exact .inl (execEvtStatW1c_keeps k)
  | evtForceWrite => exact .inl (execEvtForceWrite_keeps k)
  | perfCtlClear => exact .inl (execPerfCtlClear_keeps k)
  | freezeAll => exact .inl (execFreezeAll_keeps k)
  | clearAll => exact .inl (execClearAll_keeps k)
  | registerWrite => exact .inl (execRegisterWrite_keeps k)
  | eventSourceLatch => exact .inl (execEventSourceLatch_keeps k)
  | fenceReactionEnd => exact .inl (execFenceReactionEnd_keeps k)
  | consequentialWindowExpiry => exact .inl (execConsequentialWindowExpiry_keeps k)
  | recordHoldoffExpiry => exact .inl (execRecordHoldoffExpiry_keeps k)
  | safeState => exact .inl (execSafeState_keeps k)
  | safeFlushEnd => exact .inl (execSafeFlushEnd_keeps k)
  | safeFlushTimeout => exact .inl (execSafeFlushTimeout_keeps k)
  | fltInjWrite => exact .inl (execFltInjWrite_keeps k)
  | evrCursorWrite => exact .inl (execEvrCursorWrite_keeps k)
  | evrNextNext => exact .inl (execEvrNextNext_keeps k)
  | evrNextOldest => exact .inl (execEvrNextOldest_keeps k)
  | evrNextNewest => exact .inl (execEvrNextNewest_keeps k)
  | spillPageExpiry => exact .inl (execSpillPageExpiry_keeps k)
  | pantryWrite => exact .inl (execPantryWrite_keeps k)
  | pantryRecall => exact .inl (execPantryRecall_keeps k)
  | recallDone a b => exact .inr (.inr ⟨a, b, rfl⟩)
  | opsecWriteExpiry => exact .inl (execOpsecWriteExpiry_keeps k)
  | unlockRead => exact .inl (execUnlockRead_keeps k)
  | unlockWrite => exact .inl (execUnlockWrite_keeps k)
  | setReadPassword => exact .inl (execSetReadPassword_keeps k)
  | setWritePassword => exact .inl (execSetWritePassword_keeps k)
  | lockUnlocks => exact .inl (execLockUnlocks_keeps k)
  | passwordHoldExpiry => exact .inl (execPasswordHoldExpiry_keeps k)
  | adcScanRound => exact .inl (execAdcScanRound_keeps k)
  | sequencerStepDone => exact .inl (execSequencerStepDone_keeps k)
  | sequencerStepTimeout => exact .inl (execSequencerStepTimeout_keeps k)
  | minOffTimeExpiry => exact .inl (execMinOffTimeExpiry_keeps k)
  | powerUpStart => exact .inl (execPowerUpStart_keeps k)
  | orderlyFlushEnd => exact .inl (execOrderlyFlushEnd_keeps k)
  | orderlyFlushTimeout => exact .inl (execOrderlyFlushTimeout_keeps k)
  | inputTrip => exact .inl (execInputTrip_keeps k)
  | flushDrainEnd => exact .inl (execFlushDrainEnd_keeps k)
  | flushProgramEnd => exact .inl (execFlushProgramEnd_keeps k)
  | flushJournalEnd => exact .inl (execFlushJournalEnd_keeps k)
  | flushReleasePhaseEnd => exact .inl (execFlushReleasePhaseEnd_keeps k)
  | flushShort => exact .inl (execFlushShort_keeps k)
  | holdupMeasureSchedule => exact .inl (execHoldupMeasureSchedule_keeps k)
  | cappedLoopTick => exact .inl (execCappedLoopTick_keeps k)
  | autoIdleEntry => exact .inl (execAutoIdleEntry_keeps k)
  | domainUngate => exact .inl (execDomainUngate_keeps k)
  | domainRegate => exact .inl (execDomainRegate_keeps k)
  | deepIdleWake => exact .inl (execDeepIdleWake_keeps k)
  | thermalRound => exact .inl (execThermalRound_keeps k)
  | throttleGraceExpiry => exact .inl (execThrottleGraceExpiry_keeps k)
  | throttleReleaseExpiry => exact .inl (execThrottleReleaseExpiry_keeps k)
  | thermShut => exact .inl (execThermShut_keeps k)
  | thermRestart => exact .inl (execThermRestart_keeps k)
  | pllLockLoss => exact .inl (execPllLockLoss_keeps k)
  | pllRelock => exact .inl (execPllRelock_keeps k)
  | pllRelockTimeout => exact .inl (execPllRelockTimeout_keeps k)
  | referenceFailure => exact .inl (execReferenceFailure_keeps k)
  | subsystemResetPrt => exact .inl (execSubsystemResetPrt_keeps k)
  | subsystemResetSve => exact .inl (execSubsystemResetSve_keeps k)
  | unitResetEnd => exact .inl (execUnitResetEnd_keeps k)
  | aonReset straps => exact .inr (.inl ⟨straps, rfl⟩)
  | startupRelease => exact .inl (execStartupRelease_keeps k)
  | startupBringupEnd => exact .inl (execStartupBringupEnd_keeps k)
  | startupEnable => exact .inl (execStartupEnable_keeps k)
  | pwrLogcurWrite => exact .inl (execPwrLogcurWrite_keeps k)
  | pwrLogNext => exact .inl (execPwrLogNext_keeps k)
  | pwrLogOldest => exact .inl (execPwrLogOldest_keeps k)
  | pwrLogNewest => exact .inl (execPwrLogNewest_keeps k)
  | pwrLogClear => exact .inl (execPwrLogClear_keeps k)
  | pwrLogCompatWrite => exact .inl (execPwrLogCompatWrite_keeps k)
  | registerRead => exact .inl (execRegisterRead_keeps k)
  | pfailNRise => exact .inl (execPfailNRise_keeps k)
  | keySlotReloadDone => exact .inl (execKeySlotReloadDone_keeps k)
  | receiverDetectionDone => exact .inl (execReceiverDetectionDone_keeps k)
  | discardCheckAnswer => exact .inl (execDiscardCheckAnswer_keeps k)
  | debugAccess => exact .inl (execDebugAccess_keeps k)

/-- Every command answers a next state, and no command loses a waiting command, an output or the invariant. -/
theorem exec_grows (c : Instr) (s : State) : ∃ t, exec c s = .next t ∧ Grows s t := by
  obtain ⟨t, e, k⟩ | ⟨straps, rfl⟩ | ⟨a, b, rfl⟩ := exec_keeps_or_sets_clocks c s
  · exact ⟨t, e, k.grows⟩
  · obtain ⟨t, e, g, -⟩ := execAonReset_grows straps s
    exact ⟨t, e, g⟩
  · obtain ⟨t, e, g, -⟩ := execRecallDone_grows a b s
    exact ⟨t, e, g⟩

theorem exec_keeps_inv {c : Instr} {s t : State} (i : s.Inv) (h : exec c s = .next t) : t.Inv := by
  obtain ⟨u, e, g⟩ := exec_grows c s
  cases e.symm.trans h
  exact g.inv i

/-- The invariant says nothing of the commands that wait. -/
theorem State.Inv.withPending {s : State} (i : s.Inv) (l : List Instr) : State.Inv { s with pending := l } := i

/-- Settles O58: a step is an AON cycle or the command at the front of the queue, and each keeps the invariant. -/
theorem stepKeepsInv : Obligations.StepKeepsInv := by
  intro s t i h
  unfold step at h
  split at h
  next => cases h; exact s.tick_grows.inv i
  next c rest _ => exact exec_keeps_inv (i.withPending rest) h

end Sys2Proof.Machine
end

section
/-! PROOFS. The register bus serves aligned accesses of 32 bits (R6). -/

namespace Sys2Proof.Machine

open Sys2Proof

/-! ### Where registers lie -/

theorem headerWords_aligned : ∀ r ∈ headerWords, r.off % 4 = 0 := by decide

theorem PageKind.words_aligned (k : PageKind) : ∀ r ∈ k.words, r.off % 4 = 0 := by cases k <;> decide

/-- A register is a word of the header or of its page's block, and has the offset it was asked for. -/
theorem regWord_some {page off : Nat} {r : RegWord} (h : regWord page off = some r) :
    (r ∈ headerWords ∨ ∃ k : PageKind, r ∈ k.words) ∧ r.off = off := by
  unfold regWord at h
  split at h
  next => cases h
  next k _ =>
    refine ⟨?_, by simpa using List.find?_some h⟩
    have hm := List.mem_of_find?_eq_some h
    split at hm
    · exact .inl hm
    · exact .inr ⟨k, hm⟩

theorem regWord_aligned {page off : Nat} {r : RegWord} (h : regWord page off = some r) : off % 4 = 0 := by
  obtain ⟨hr | ⟨k, hr⟩, rfl⟩ := regWord_some h
  · exact headerWords_aligned r hr
  · exact k.words_aligned r hr

/-! ### Accesses of another width or alignment -/

variable {s : State} {q : Requester} {width : Nat}

/-- The check of R6 as the bus makes it. -/
theorem served_eq_false {addr : Nat} (h : width ≠ 4 ∨ addr % 4 ≠ 0) : (width == 4 && addr % 4 == 0) = false := by
  rw [Bool.and_eq_false_iff, beq_eq_false_iff_ne, beq_eq_false_iff_ne]
  exact h

/-- Such a read returns 0 whatever else holds: on every path that does not look at the alignment the bus answers 0 too. -/
theorem busRead_unaligned {addr : Nat} (h : width ≠ 4 ∨ addr % 4 ≠ 0) : (s.busRead q addr width).1 = some 0 := by
  simp only [State.busRead, served_eq_false h, Bool.false_and, Bool.not_false, Bool.true_or, Bool.false_eq_true, if_true, if_false]
  split
  next => split <;> rfl
  next =>
    split
    next => rfl
    next => split <;> rfl

theorem regRead_of_busRead {addr : BitVec 24} {w : Word} (hq : s.reaches q = true) (h : (s.busRead q addr.toNat width).1 = some w) :
    s.regRead q addr width = (s.busRead q addr.toNat width).2.emit (.regRead q addr w) := by
  simp only [State.regRead, hq, if_true, h]

theorem withPins_congr {f g : State → State} (h : f s = g s) : s.withPins f = s.withPins g := by
  rw [State.withPins, h, State.withPins]

/-- What an operation drives outward stays driven when the IBIs of the pins follow it. -/
theorem mem_out_withPins {f : State → State} {o : Output} (h : o ∈ (f s).out) : o ∈ (s.withPins f).out :=
  (State.pinIbis_keeps (Keeps.refl (f s))).out.subset h

/-- Such a write that gets past the window and the right is rejected (R6, R426, R450). -/
theorem busWrite_unaligned {addr : Nat} {w : Word} {k : PageKind} (h : width ≠ 4 ∨ addr % 4 ≠ 0) (hs : s.pages.started = true)
    (hw : s.windowShut q = none) (hk : pageKind (addr / 4096) = some k) (hr : s.mayWrite q (addr % 4096) w = true) :
    s.busWrite q addr width w = s.reject (addr / 4096) := by
  simp only [State.busWrite, served_eq_false h, hs, hw, hk, hr, Bool.not_true, Bool.not_false, Bool.true_or, Bool.false_eq_true,
    if_true, if_false]

theorem registerRead_unaligned {addr : BitVec 24} (hq : s.reaches q = true) (h : width ≠ 4 ∨ addr.toNat % 4 ≠ 0) :
    ∃ t, exec (.registerRead q addr width) s = .next t ∧ .regRead q addr 0 ∈ t.out := by
  refine ⟨_, rfl, mem_out_withPins ?_⟩
  rw [regRead_of_busRead hq (busRead_unaligned h)]
  simp

theorem registerWrite_unaligned {addr : BitVec 24} {w : Word} {k : PageKind} (hq : s.reaches q = true)
    (h : width ≠ 4 ∨ addr.toNat % 4 ≠ 0) (hs : s.pages.started = true) (hw : s.windowShut q = none)
    (hk : pageKind (addr.toNat / 4096) = some k) (hr : s.mayWrite q (addr.toNat % 4096) w = true) :
    exec (.registerWrite q addr width w) s = .next (s.withPins (fun s => (s.reject (addr.toNat / 4096)).drain)) := by
  have e : s.regWrite q addr.toNat width w = (s.reject (addr.toNat / 4096)).drain := by
    rw [State.regWrite, if_pos hq, busWrite_unaligned h hs hw hk hr]
  exact congrArg Host.Outcome.next (withPins_congr e)

/-- Settles O53, from the offsets of the register tables and the bus's check of width and alignment. -/
theorem unalignedAccess : Obligations.UnalignedAccess :=
  ⟨fun _ _ _ => regWord_aligned, fun _ _ _ _ hq h =>
    ⟨registerRead_unaligned hq h, fun _ _ hs hw hk hr => registerWrite_unaligned hq h hs hw hk hr⟩⟩

end Sys2Proof.Machine
end

section
/-! PROOFS. What a flush, the IBIs of the pins, the start of a cage's ports and their loss leave alone: the supervisor's record, the thermal
record, the cages, and the pins of power and reset. One equation per operation, in the order of the model's files; the simplifier goes through
an operation by the equations of those it calls. -/

namespace Sys2Proof.Machine

open Sys2Proof

/-- What the requests, the slices, the tier, the medium and the links read but never write. -/
structure Plant where
  pwr : Pwr
  thm : Thm
  cages : Tab Cage
  straps : BitVec 2
  pwrEn : Bool
  mrst : Bool
  pfail : Bool

def State.plant (s : State) : Plant :=
  { pwr := s.pwr, thm := s.thm, cages := s.cages, straps := s.mgt.straps, pwrEn := s.mgt.pwrEn, mrst := s.mgt.mrst, pfail := s.mgt.pfail }

end Sys2Proof.Machine

namespace Sys2Proof.Machine.State

open Sys2Proof

variable (s : State)

/-! ### Choices, loops and the other fields

The proofs `(rfl)` are in parentheses so that the simplifier keeps them as proof steps: it then discharges the side condition of
`each_plant` by them. -/

@[simp] theorem plant_rest {pe ou fr ti om on rg sh ho pf cy fa pa fl pn cr sl dt mc mt po fx hd sv} :
    State.plant { s with
      pending := pe, out := ou, free := fr, time := ti, opMs := om, opNs := on, regs := rg, shadow := sh, hold := ho, perf := pf, cyc := cy,
      freezeAll := fa, pages := pa, flt := fl, pan := pn, crs := cr, slices := sl, dtc := dt, mch := mc, mte := mt, ports := po, fxb := fx,
      heads := hd, sve := sv } = s.plant := (rfl)

/-- The queues of the management block are no part of the plant. -/
@[simp] theorem plant_mgt {ou ib cp cw co cr hs} :
    State.plant { s with out := ou, mgt := { s.mgt with ibis := ib, cpl := cp, cplWait := cw, cplOwner := co, cplRead := cr, handles := hs } }
      = s.plant := (rfl)

@[simp] theorem plant_ite (c : Prop) [Decidable c] (a b : State) : (if c then a else b).plant = if c then a.plant else b.plant :=
  apply_ite _ _ _ _

@[simp] theorem each_plant {α : Type} (l : List α) (f : State → α → State) (hf : ∀ t x, (f t x).plant = t.plant) :
    (s.each l f).plant = s.plant := each_same State.plant hf

/-- The state in the answer of an operation that leaves the plant alone. -/
theorem plant_of_eq {s t : State} {α : Type} {p : α × State} {x : α} (e : p = (x, t)) (h : p.2.plant = s.plant) :
    t.plant = s.plant := by
  rw [e] at h; exact h

/-! ### The named operations -/

@[simp] theorem setSlice_plant (i x) : (s.setSlice i x).plant = s.plant := (rfl)
@[simp] theorem setPort_plant (i x) : (s.setPort i x).plant = s.plant := (rfl)
@[simp] theorem setHead_plant (i x) : (s.setHead i x).plant = s.plant := (rfl)
@[simp] theorem setPair_plant (dev x) : (s.setPair dev x).plant = s.plant := (rfl)
@[simp] theorem setDie_plant (i x) : (s.setDie i x).plant = s.plant := (rfl)
@[simp] theorem setBlock_plant (i x) : (s.setBlock i x).plant = s.plant := (rfl)
@[simp] theorem setKrange_plant (r x) : (s.setKrange r x).plant = s.plant := (rfl)
@[simp] theorem setCore_plant (n x) : (s.setCore n x).plant = s.plant := (rfl)
@[simp] theorem emit_plant (o) : (s.emit o).plant = s.plant := (rfl)
@[simp] theorem setReg_plant (page off w) : (s.setReg page off w).plant = s.plant := (rfl)
@[simp] theorem setRegFld_plant (page off lsb w v) : (s.setRegFld page off lsb w v).plant = s.plant := by simp [State.setRegFld]
@[simp] theorem countUp_plant (page off lsb w by_) : (s.countUp page off lsb w by_).plant = s.plant := by simp [State.countUp]
@[simp] theorem latch_plant (page bit forced w) : (s.latch page bit forced w).plant = s.plant := by simp [State.latch]

@[simp] theorem raiseAt_plant (page src w) : (s.raiseAt page src w).plant = s.plant := by
  unfold State.raiseAt
  split <;> simp

@[simp] theorem raise_plant (page src) : (s.raise page src).plant = s.plant := by simp [State.raise]
@[simp] theorem openWindow_plant (dom inst) : (s.openWindow dom inst).plant = s.plant := (rfl)

@[simp] theorem perfAdd_plant (page fuel n k) : (s.perfAdd page fuel n k).plant = s.plant := by
  induction fuel generalizing s n k with
  | zero => rfl
  | succ fuel ih => simp [perfAdd, ih]

@[simp] theorem perfEvent_plant (page code k) : (s.perfEvent page code k).plant = s.plant := by simp [State.perfEvent]
@[simp] theorem sendIbi_plant (mdb payload) : (s.sendIbi mdb payload).plant = s.plant := by simp [State.sendIbi]

/-! ### Sending -/

@[simp] theorem linkWake_plant (p) : (s.linkWake p).plant = s.plant := (rfl)
@[simp] theorem leave_plant (p r m) : (s.leave p r m).plant = s.plant := by simp [State.leave]
@[simp] theorem sendOn_plant (r m) : (s.sendOn r m).plant = s.plant := by simp [State.sendOn]

@[simp] theorem routeOut_plant (r m) : (s.routeOut r m).plant = s.plant := by
  unfold State.routeOut
  repeat' split
  all_goals simp

@[simp] theorem sendPlain_plant (dst tag epoch status xinfo m) : (s.sendPlain dst tag epoch status xinfo m).plant = s.plant := by
  simp [State.sendPlain]

@[simp] theorem sendRsp_plant (dst tag epoch status xinfo m) : (s.sendRsp dst tag epoch status xinfo m).plant = s.plant := by
  simp [State.sendRsp]

@[simp] theorem linkOut_plant (p m) : (s.linkOut p m).plant = s.plant := by simp [State.linkOut]
@[simp] theorem floodLink_plant (except_ m) : (s.floodLink except_ m).plant = s.plant := by simp [State.floodLink]
@[simp] theorem closeMarks_plant (dev) : (s.closeMarks dev).plant = s.plant := by simp [State.closeMarks]
@[simp] theorem peerDone_plant (dev tag rank) : (s.peerDone dev tag rank).plant = s.plant := by simp [State.peerDone]

/-! ### Answers, and what follows them -/

@[simp] theorem gpfCheck_plant (h) : (s.gpfCheck h).plant = s.plant := by
  unfold State.gpfCheck
  dsimp only
  split <;> simp

@[simp] theorem gpfChecks_plant : s.gpfChecks.plant = s.plant := by simp [State.gpfChecks]

@[simp] theorem headDone_plant (h tag kind rank) : (s.headDone h tag kind rank).plant = s.plant := by
  unfold State.headDone
  dsimp only
  split <;> simp

@[simp] theorem dedupNote_plant (dev tag point old) : (s.dedupNote dev tag point old).plant = s.plant := (rfl)

@[simp] theorem copyAck_plant (dev line page status) : (s.copyAck dev line page status).plant = s.plant := by
  unfold State.copyAck
  dsimp only
  repeat' split
  all_goals simp

@[simp] theorem answerRead_plant (who data poison) : (s.answerRead who data poison).plant = s.plant := by
  unfold State.answerRead
  split <;> simp

@[simp] theorem answerPoint_plant (w point last) : (s.answerPoint w point last).plant = s.plant := by
  unfold State.answerPoint
  split <;> simp

@[simp] theorem answerBad_plant (w rank) : (s.answerBad w rank).plant = s.plant := by
  unfold State.answerBad
  split <;> simp

@[simp] theorem answerRefused_plant (w) : (s.answerRefused w).plant = s.plant := by
  unfold State.answerRefused
  split <;> simp

@[simp] theorem answerAtomic_plant (who old poison) : (s.answerAtomic who old poison).plant = s.plant := by
  unfold State.answerAtomic
  split <;> simp

@[simp] theorem answerOld_plant (who old later) : (s.answerOld who old later).plant = s.plant := by
  unfold State.answerOld
  split <;> simp

@[simp] theorem answerAll_plant (ws point) : (s.answerAll ws point).plant = s.plant := by simp [State.answerAll]
@[simp] theorem badAll_plant (ws rank) : (s.badAll ws rank).plant = s.plant := by simp [State.badAll]

/-! ### Event records and pins -/

@[simp] theorem logInterrupt_plant (h log) : (s.logInterrupt h log).plant = s.plant := by simp [State.logInterrupt]
@[simp] theorem postRec_plant (h log r) : (s.postRec h log r).plant = s.plant := by simp [State.postRec]
@[simp] theorem postAll_plant (log r) : (s.postAll log r).plant = s.plant := by simp [State.postAll]
@[simp] theorem memoryEvent_plant : s.memoryEvent.plant = s.plant := by simp [State.memoryEvent]
@[simp] theorem pinIbis_plant (old) : (s.pinIbis old).plant = s.plant := by simp [State.pinIbis]

/-! ### The supervisor log -/

@[simp] theorem supLog_plant (kind chan value aux) : (s.supLog kind chan value aux).plant = s.plant := by simp [State.supLog]

/-! ### Poison lists and completions -/

@[simp] theorem notePoison_plant (a) : (s.notePoison a).plant = s.plant := by simp [State.notePoison]
@[simp] theorem clearPoison_plant (a) : (s.clearPoison a).plant = s.plant := by simp [State.clearPoison]

@[simp] theorem assignCore_plant (n) : (s.assignCore n).plant = s.plant := by
  unfold State.assignCore
  split
  · rfl
  · split
    · rfl
    · exact (plant_mgt _).trans (setCore_plant _ _ _)

@[simp] theorem assignCores_plant : s.assignCores.plant = s.plant := by simp [State.assignCores]
@[simp] theorem freeCore_plant (handle) : (s.freeCore handle).plant = s.plant := by simp [State.freeCore]
@[simp] theorem finishHandle_plant (r st) : (s.finishHandle r st).plant = s.plant := by simp [State.finishHandle]
@[simp] theorem cplNotice_plant (handle) : (s.cplNotice handle).plant = s.plant := by simp [State.cplNotice]

@[simp] theorem popWord_plant (q) : (s.popWord q).2.plant = s.plant := by
  unfold State.popWord
  split
  · rfl
  · split <;> rfl

@[simp] theorem holdHead_plant (q v) : (s.holdHead q v).plant = s.plant := by simp [State.holdHead]
@[simp] theorem answerHeldRead_plant (q) : (s.answerHeldRead q).plant = s.plant := by simp [State.answerHeldRead]
@[simp] theorem servePops_plant : s.servePops.plant = s.plant := by simp [State.servePops]
@[simp] theorem pushCpl_plant (p) : (s.pushCpl p).plant = s.plant := by simp [State.pushCpl]
@[simp] theorem queueHeadCpl_plant (h p) : (s.queueHeadCpl h p).plant = s.plant := by simp [State.queueHeadCpl]
@[simp] theorem pushHeadCpl_plant (h p) : (s.pushHeadCpl h p).plant = s.plant := by simp [State.pushHeadCpl]
@[simp] theorem answerSecured_plant (words) : (s.answerSecured words).plant = s.plant := by simp [State.answerSecured]

@[simp] theorem answerCmd_plant (q op tag status handle results) : (s.answerCmd q op tag status handle results).plant = s.plant := by
  unfold State.answerCmd
  split <;> simp

@[simp] theorem finish_plant (handle status results) : (s.finish handle status results).plant = s.plant := by
  unfold State.finish
  repeat' split
  all_goals simp

@[simp] theorem custDone_plant (handle status gsn owner) : (s.custDone handle status gsn owner).plant = s.plant := by
  unfold State.custDone
  split <;> simp

@[simp] theorem endBinding_plant (from_ handle gsn status) : (s.endBinding from_ handle gsn status).plant = s.plant := by
  simp [State.endBinding]

/-! ### The medium -/

@[simp] theorem askRefresh_plant (block reason) : (s.askRefresh block reason).plant = s.plant := by simp [State.askRefresh]
@[simp] theorem bumpReads_plant (block n) : (s.bumpReads block n).plant = s.plant := by simp [State.bumpReads]
@[simp] theorem countRead_plant (block) : (s.countRead block).plant = s.plant := by simp [State.countRead]
@[simp] theorem countRecon_plant (p) : (s.countRecon p).plant = s.plant := by simp [State.countRecon]
@[simp] theorem suspend_plant (d) : (s.suspend d).plant = s.plant := by simp [State.suspend]
@[simp] theorem checkSpent_plant (d) : (s.checkSpent d).plant = s.plant := by simp [State.checkSpent]
@[simp] theorem issueRead_plant (p c why) : (s.issueRead p c why).plant = s.plant := by simp [State.issueRead]
@[simp] theorem setBusy_plant (ds op) : (s.setBusy ds op).plant = s.plant := by simp [State.setBusy]

/-! ### The tier -/

@[simp] theorem tagTouch_plant (set write) : (s.tagTouch set write).plant = s.plant := by
  unfold State.tagTouch
  split <;> rfl

@[simp] theorem setFrame_plant (n f) : (s.setFrame n f).plant = s.plant := by simp [State.setFrame]
@[simp] theorem dropFrame_plant (n) : (s.dropFrame n).plant = s.plant := by simp [State.dropFrame]

@[simp] theorem takeVictim_plant (set) : (s.takeVictim set).2.plant = s.plant := by
  unfold State.takeVictim
  dsimp only
  split
  · rfl
  · split <;> exact ((plant_rest _).trans (dropFrame_plant _ _)).trans (each_plant _ _ _ fun t w => by split <;> simp)

@[simp] theorem allocFrame_plant (l) : (s.allocFrame l).2.plant = s.plant := by
  unfold State.allocFrame
  dsimp only
  repeat' split
  all_goals simp

@[simp] theorem handOver_plant (n) : (s.handOver n).plant = s.plant := by
  unfold State.handOver
  split <;> simp

@[simp] theorem handDown_plant (fuel) (s : State) : (handDown fuel s).plant = s.plant := by
  induction fuel generalizing s with
  | zero => rfl
  | succ fuel ih =>
    unfold handDown
    split
    · rfl
    · split <;> simp [ih]

@[simp] theorem handHigh_plant : s.handHigh.plant = s.plant := by simp [State.handHigh]
@[simp] theorem dirtyTriggers_plant (n l) : (s.dirtyTriggers n l).plant = s.plant := by simp [State.dirtyTriggers]
@[simp] theorem becomeDirty_plant (n f) : (s.becomeDirty n f).plant = s.plant := by simp [State.becomeDirty]
@[simp] theorem handAll_plant (volatileToo) : (s.handAll volatileToo).plant = s.plant := by simp [State.handAll]
@[simp] theorem lineWaits_plant (a sl ws) : (s.lineWaits a sl ws).plant = s.plant := (rfl)
@[simp] theorem touchPage_plant (l) : (s.touchPage l).plant = s.plant := by simp [State.touchPage]
@[simp] theorem acceptedLine_plant (a) : (s.acceptedLine a).plant = s.plant := by simp [State.acceptedLine]
@[simp] theorem wakeFill_plant (l) : (s.wakeFill l).plant = s.plant := by simp [State.wakeFill]
@[simp] theorem startFill_plant (l) : (s.startFill l).plant = s.plant := by simp [State.startFill]
@[simp] theorem endFill_plant (l) : (s.endFill l).plant = s.plant := (rfl)

@[simp] theorem placeLine_plant (a l sl ws) : (s.placeLine a l sl ws).2.plant = s.plant := by
  unfold State.placeLine
  dsimp only
  repeat' split
  all_goals simp

@[simp] theorem askFrame_plant (l) : (s.askFrame l).plant = s.plant := by
  unfold State.askFrame
  dsimp only
  repeat' split
  all_goals simp

@[simp] theorem takeLine_plant (a l sl ws) : (s.takeLine a l sl ws).plant = s.plant := by
  unfold State.takeLine
  dsimp only
  split
  · simp
  · split
    next t e => simp [plant_of_eq e (placeLine_plant s a l sl _)]
    next t e => simp [plant_of_eq e (placeLine_plant s a l sl _)]

/-! ### Keys and tags of lines -/

@[simp] theorem keyMissing_plant (r) : (s.keyMissing r).plant = s.plant := by simp [State.keyMissing]

@[simp] theorem crustStore_plant (a data poison) : (s.crustStore a data poison).2.2.plant = s.plant := by
  unfold State.crustStore
  dsimp only
  repeat' split
  all_goals simp

@[simp] theorem tagFail_plant : s.tagFail.plant = s.plant := by simp [State.tagFail]
@[simp] theorem krMismatch_plant : s.krMismatch.plant = s.plant := by simp [State.krMismatch]

/-! ### The MTE -/

@[simp] theorem journal_plant (e) : (s.journal e).plant = s.plant := (rfl)
@[simp] theorem reserveWsn_plant : s.reserveWsn.plant = s.plant := by simp [State.reserveWsn]

@[simp] theorem takeWsn_plant : s.takeWsn.2.plant = s.plant := by
  simp only [State.takeWsn, apply_ite Prod.snd, plant_rest, plant_ite, raise_plant, reserveWsn_plant, ite_self]

@[simp] theorem openSet_plant (g plane purpose reason) : (s.openSet g plane purpose reason).2.plant = s.plant := by
  unfold State.openSet
  dsimp only
  split <;> simp

@[simp] theorem openFor_plant (g purpose reason) : (s.openFor g purpose reason).2.plant = s.plant := by
  unfold State.openFor
  split
  · rfl
  · split <;> simp

@[simp] theorem fillers_plant (n) (s : State) (l) : (fillers n s l).2.plant = s.plant := by
  induction n generalizing s l with
  | zero => rfl
  | succ n ih => simp [fillers, ih]

@[simp] theorem closeStripe_plant (g kind purpose pages reason) : (s.closeStripe g kind purpose pages reason).2.plant = s.plant := by
  unfold State.closeStripe
  dsimp only
  repeat' split
  all_goals simp

@[simp] theorem closeGather_plant (force) : (s.closeGather force).plant = s.plant := by
  unfold State.closeGather
  split <;> simp

@[simp] theorem captureFrame_plant (p) : (s.captureFrame p).2.plant = s.plant := by
  unfold State.captureFrame
  repeat' split
  all_goals simp

@[simp] theorem captureAll_plant (l) (s : State) : (captureAll l s).2.plant = s.plant := by
  induction l generalizing s with
  | nil => rfl
  | cons p t ih =>
    simp only [captureAll, ih]
    split <;> simp

@[simp] theorem setStripe_plant (x) : (s.setStripe x).plant = s.plant := (rfl)

@[simp] theorem advanceRow_plant (x) : (s.advanceRow x).plant = s.plant := by
  unfold State.advanceRow
  split <;> simp

@[simp] theorem readyStripe_plant (x) : (s.readyStripe x).2.plant = s.plant := by
  unfold State.readyStripe
  split <;> simp

@[simp] theorem startRow_plant (x row) : (s.startRow x row).plant = s.plant := by simp [State.startRow]
@[simp] theorem orderFault_plant (x) : (s.orderFault x).plant = s.plant := by simp [State.orderFault]

@[simp] theorem issueMeta_plant (id) : (s.issueMeta id).plant = s.plant := by
  unfold State.issueMeta
  split <;> simp

@[simp] theorem metaPages_plant (n) (s : State) (type aux l) : (metaPages n s type aux l).2.plant = s.plant := by
  induction n generalizing s l with
  | zero => rfl
  | succ n ih => simp [metaPages, ih]

@[simp] theorem closeJournal_plant : s.closeJournal.plant = s.plant := by simp [State.closeJournal]
@[simp] theorem placeOne_plant (l) : (s.placeOne l).plant = s.plant := by simp [State.placeOne]

@[simp] theorem placeHanded_plant (fuel) (s : State) : (placeHanded fuel s).plant = s.plant := by
  induction fuel generalizing s with
  | zero => rfl
  | succ fuel ih =>
    unfold placeHanded
    split
    · rfl
    · split <;> simp [ih]

@[simp] theorem tendJournal_plant : s.tendJournal.plant = s.plant := by simp [State.tendJournal]
@[simp] theorem pump_plant : s.pump.plant = s.plant := by simp [State.pump]

/-! ### The slices in a flush -/

@[simp] theorem updateWay_plant (n a data poison) : (s.updateWay n a data poison).plant = s.plant := by
  unfold State.updateWay
  dsimp only
  repeat' split
  all_goals simp

@[simp] theorem verifiedValue_plant (a) : (s.verifiedValue a).2.plant = s.plant := by
  unfold State.verifiedValue
  split <;> simp

@[simp] theorem freeLane_plant (n uid) : (s.freeLane n uid).plant = s.plant := (rfl)
@[simp] theorem tellReleased_plant (a ws) : (s.tellReleased a ws).plant = s.plant := by simp [State.tellReleased]

@[simp] theorem mergeLine_plant (n a data poison all) : (s.mergeLine n a data poison all).plant = s.plant := by
  simp [State.mergeLine]

@[simp] theorem checkHigh_plant (n) : (s.checkHigh n).plant = s.plant := by simp [State.checkHigh]

@[simp] theorem refuseEntry_plant (n e) : (s.refuseEntry n e).plant = s.plant := by
  unfold State.refuseEntry
  split <;> simp

@[simp] theorem releaseLine_plant (n a data poison ws) : (s.releaseLine n a data poison ws).plant = s.plant := by
  simp [State.releaseLine]

@[simp] theorem releaseNow_plant (n e cur) : (s.releaseNow n e cur).plant = s.plant := by
  unfold State.releaseNow
  dsimp only
  repeat' split
  all_goals simp

@[simp] theorem fillWaiter_plant (a base w) : (s.fillWaiter a base w).plant = s.plant := by simp [State.fillWaiter]

@[simp] theorem readsFirst_plant (n e) : (s.readsFirst n e).plant = s.plant := by
  unfold State.readsFirst
  refine (each_plant _ _ _ fun t w => by simp).trans ?_
  refine (setSlice_plant _ _ _).trans (each_plant _ _ _ fun t m => ?_)
  dsimp only
  split
  · rfl
  · split <;> simp

@[simp] theorem forceRelease_plant (n e keepVolatile) : (s.forceRelease n e keepVolatile).plant = s.plant := by
  unfold State.forceRelease
  dsimp only
  repeat' split
  all_goals simp

@[simp] theorem forceLanes_plant (n ok keepVolatile) : (s.forceLanes n ok keepVolatile).plant = s.plant := by
  simp [State.forceLanes]

@[simp] theorem sendUpdate_plant (a sl peer) : (s.sendUpdate a sl peer).plant = s.plant := by
  unfold State.sendUpdate
  split <;> simp

@[simp] theorem noteUpdate_plant (a sl ws peer) : (s.noteUpdate a sl ws peer).plant = s.plant := by simp [State.noteUpdate]

@[simp] theorem passLine_plant (a data poison ws peer) : (s.passLine a data poison ws peer).plant = s.plant := by
  unfold State.passLine
  dsimp only
  repeat' split
  all_goals simp

@[simp] theorem offerLine_plant (n m) : (s.offerLine n m).plant = s.plant := by simp [State.offerLine]
@[simp] theorem drainAll_plant (n ok dropVolatile) : (s.drainAll n ok dropVolatile).plant = s.plant := by simp [State.drainAll]
@[simp] theorem flushSlices_plant : s.flushSlices.plant = s.plant := by simp [State.flushSlices]

/-! ### The reset of a head -/

@[simp] theorem endBarriers_plant (h status) : (s.endBarriers h status).plant = s.plant := by simp [State.endBarriers]
@[simp] theorem abortOffers_plant (h) : (s.abortOffers h).plant = s.plant := by simp [State.abortOffers]
@[simp] theorem headResetCommon_plant (h) : (s.headResetCommon h).plant = s.plant := by simp [State.headResetCommon]
@[simp] theorem headReset_plant (h) : (s.headReset h).plant = s.plant := by simp [State.headReset]
@[simp] theorem headDown_plant (h) : (s.headDown h).plant = s.plant := by simp [State.headDown]

/-! ### Discovery -/

@[simp] theorem commitShadow_plant (page off) : (s.commitShadow page off).plant = s.plant := by
  unfold State.commitShadow
  repeat' split
  all_goals simp

@[simp] theorem originate_plant : s.originate.plant = s.plant := by simp [State.originate]
@[simp] theorem linkChanged_plant : s.linkChanged.plant = s.plant := by simp [State.linkChanged]

/-! ### Ports and cages -/

@[simp] theorem trainStart_plant (n) : (s.trainStart n).plant = s.plant := (rfl)

@[simp] theorem portDown_plant (n cause wait) : (s.portDown n cause wait).plant = s.plant := by
  simp only [State.portDown, plant_ite, linkChanged_plant, plant_rest, raiseAt_plant, setPort_plant, ite_self]

@[simp] theorem beginTraining_plant (n) : (s.beginTraining n).plant = s.plant := by simp [State.beginTraining]
@[simp] theorem blockDown_plant (b cause) : (s.blockDown b cause).plant = s.plant := by simp [State.blockDown]
@[simp] theorem applyBreakout_plant (c b) : (s.applyBreakout c b).plant = s.plant := by simp [State.applyBreakout]
@[simp] theorem startBlock_plant (b) : (s.startBlock b).plant = s.plant := by simp [State.startBlock]
@[simp] theorem startCage_plant (c) : (s.startCage c).plant = s.plant := by simp [State.startCage]

/-! ### Reading the plant -/

variable {s} {t : State}

theorem pwr_of_plant (h : t.plant = s.plant) : t.pwr = s.pwr := congrArg Plant.pwr h
theorem cage_of_plant (h : t.plant = s.plant) (c : Nat) : t.cage c = s.cage c := congrArg (fun p => p.cages.get {} c) h
theorem pwrEn_of_plant (h : t.plant = s.plant) : t.mgt.pwrEn = s.mgt.pwrEn := congrArg Plant.pwrEn h
theorem mrst_of_plant (h : t.plant = s.plant) : t.mgt.mrst = s.mgt.mrst := congrArg Plant.mrst h
theorem pfail_of_plant (h : t.plant = s.plant) : t.mgt.pfail = s.mgt.pfail := congrArg Plant.pfail h

/-- The IBIs that follow an operation leave what it has made of the plant. -/
theorem withPins_plant (f : State → State) : (s.withPins f).plant = (f s).plant := pinIbis_plant _ _

theorem supLog_pwr (kind chan value aux : Nat) : (s.supLog kind chan value aux).pwr = s.pwr :=
  pwr_of_plant (supLog_plant _ _ _ _ _)

theorem withPins_pwr (f : State → State) : (s.withPins f).pwr = (f s).pwr := pwr_of_plant (withPins_plant f)
theorem withPins_cage (f : State → State) (c : Nat) : (s.withPins f).cage c = (f s).cage c := cage_of_plant (withPins_plant f) c
theorem withPins_pwrEn (f : State → State) : (s.withPins f).mgt.pwrEn = (f s).mgt.pwrEn := pwrEn_of_plant (withPins_plant f)
theorem withPins_mrst (f : State → State) : (s.withPins f).mgt.mrst = (f s).mgt.mrst := mrst_of_plant (withPins_plant f)
theorem withPins_pfail (f : State → State) : (s.withPins f).mgt.pfail = (f s).mgt.pfail := pfail_of_plant (withPins_plant f)

end Sys2Proof.Machine.State
end

section
/-! PROOFS. The power and reset pins (R30, R32, R33, R481, R482, R550): from On each falling pin starts its flush, and a flush changes of the
plant its own kind alone. -/

namespace Sys2Proof.Machine

open Sys2Proof

variable {s : State}

/-! ### A flush that begins (R173) -/

/-- A flush that begins notes its kind; what it hands over changes nothing else of the plant. -/
theorem State.startFlush_plant (s : State) (kind : Nat) :
    (s.startFlush kind).plant = State.plant { s with pwr := { s.pwr with flush := kind } } := by
  simp only [State.startFlush, State.closeGather_plant, State.pump_plant, State.handAll_plant, State.flushSlices_plant]

theorem State.startFlush_pwr (s : State) (kind : Nat) : (s.startFlush kind).pwr = { s.pwr with flush := kind } :=
  State.pwr_of_plant (s.startFlush_plant kind)

theorem State.startFlush_pwrEn (s : State) (kind : Nat) : (s.startFlush kind).mgt.pwrEn = s.mgt.pwrEn := by
  rw [State.pwrEn_of_plant (s.startFlush_plant kind)]

theorem State.startFlush_mrst (s : State) (kind : Nat) : (s.startFlush kind).mgt.mrst = s.mgt.mrst := by
  rw [State.mrst_of_plant (s.startFlush_plant kind)]

/-! ### What the supervisor does from On (R481, R549, R553) -/

theorem State.deepIdleWake_awake (h : s.pwr.st ≠ 5) : s.deepIdleWake = s := if_pos (bne_iff_ne.mpr h)

theorem State.askOff_on (on : s.pwr.st = 3) : s.askOff = State.startFlush { s with pwr := { s.pwr with st := 6 } } 1 := by
  rw [State.askOff, on]; rfl

theorem State.askReset_on (on : s.pwr.st = 3) (cause : BitVec 4) :
    s.askReset cause = State.startFlush { s with pwr := { s.pwr with st := 6, askedCause := cause } } 2 := by
  rw [State.askReset, State.deepIdleWake_awake (by rw [on]; decide)]
  exact if_pos (by rw [on]; decide)

/-- The emergency flush begins with Drain and notes its cause and the size of what it has to program. -/
theorem State.emergency_on (on : s.pwr.st = 3) (ready : s.pwr.inReset = false) (cause : BitVec 3) :
    (s.emergency cause).pwr = { s.pwr with
      st := 7, fcause := cause, fdone := false, fphase := 1, flush := 3, fmib := (s.emergency cause).pwr.fmib } := by
  have awake : s.deepIdleWake = s := State.deepIdleWake_awake (by rw [on]; decide)
  simp [State.emergency, awake, on, ready, State.startFlush_pwr, State.supLog_pwr]

theorem bladeSeatOpen_on (on : s.pwr.st = 3) (ready : s.pwr.inReset = false) : ∃ t, exec .bladeSeatOpen s = .next t ∧
    t.pwr.seat = false ∧ t.pwr.st = 7 ∧ t.pwr.flush = 3 ∧ t.pwr.fcause = 2 := by
  have h := State.emergency_on (s := { s with pwr := { s.pwr with seat := false } }) on ready 2
  exact ⟨_, rfl, by rw [State.withPins_pwr, h]; exact ⟨rfl, rfl, rfl, rfl⟩⟩

theorem inputTrip_on (on : s.pwr.st = 3) (ready : s.pwr.inReset = false) (high : Bool) : ∃ t, exec (.inputTrip high) s = .next t ∧
    t.pwr.st = 7 ∧ t.pwr.flush = 3 ∧ t.pwr.fphase = 1 ∧ t.pwr.fcause = if high then 3 else 1 := by
  have h := State.emergency_on on ready (if high then 3 else 1)
  exact ⟨_, rfl, by rw [State.withPins_pwr, h]; exact ⟨rfl, rfl, rfl, rfl⟩⟩

theorem pwrEnFall_on (on : s.pwr.st = 3) (ready : s.pwr.inReset = false) : ∃ t, exec .pwrEnFall s = .next t ∧
    t.mgt.pwrEn = false ∧ t.pwr.st = 6 ∧ t.pwr.flush = 1 := by
  have h : s.pwrEnFall = State.startFlush
      { s with mgt := { s.mgt with pwrEn := false }, pwr := { s.pwr with latchedOff := false, st := 6 } } 1 := by
    simp [State.pwrEnFall, ready, State.askOff_on, on]
  exact ⟨_, rfl, by
    rw [State.withPins_pwrEn, State.withPins_pwr, h, State.startFlush_pwrEn, State.startFlush_pwr]
    exact ⟨rfl, rfl, rfl⟩⟩

theorem mrstNFall_on (on : s.pwr.st = 3) : ∃ t, exec .mrstNFall s = .next t ∧
    t.mgt.mrst = false ∧ t.pwr.st = 6 ∧ t.pwr.flush = 2 ∧ t.pwr.askedCause = 1 := by
  have h := State.askReset_on (s := { s with mgt := { s.mgt with mrst := false } }) on 1
  exact ⟨_, rfl, by
    rw [State.withPins_mrst, State.withPins_pwr, State.mrstFall, h, State.startFlush_mrst, State.startFlush_pwr]
    exact ⟨rfl, rfl, rfl, rfl⟩⟩

/-! ### Pins that start no flush -/

theorem pwrEnRise_ready (ready : s.pwr.inReset = false) : exec .pwrEnRise s =
    .next { s with mgt := { s.mgt with pwrEn := true }, pwr := { s.pwr with latchedOff := false, attempts := 0 } } :=
  congrArg Host.Outcome.next (if_neg (by simp [ready]))

theorem mrstNRise_held (held : s.pwr.inReset = true) (straps : BitVec 2) : exec (.mrstNRise straps) s =
    .next { s with mgt := { s.mgt with mrst := true, straps := straps }, pwr := { s.pwr with inReset := false, startup := 1 } } :=
  congrArg Host.Outcome.next (if_pos held)

theorem pfailNFall_warns (up : s.up = true) (quiet : s.pwr.warn = false) : ∃ t, exec .pfailNFall s = .next t ∧
    t.mgt.pfail = false ∧ t.pwr.warn = true := by
  have h : (State.warnStart { s with mgt := { s.mgt with pfail := false } }).plant =
      State.plant { s with mgt := { s.mgt with pfail := false }, pwr := { s.pwr with warn := true } } := by
    rw [State.warnStart, if_neg (by simp [quiet]; exact up)]
    simp only [State.pump_plant, State.handAll_plant, State.raise_plant]
    rfl
  exact ⟨_, rfl, by rw [State.withPins_pfail, State.pfail_of_plant h], by rw [State.withPins_pwr, State.pwr_of_plant h]⟩

theorem pfailNRise_ends (warned : s.pwr.warn = true) (inside : railInside 38 s.pwr.vin = true) : exec .pfailNRise s =
    .next { s with mgt := { s.mgt with pfail := true }, pwr := { s.pwr with warn := false }, dtc := { s.dtc with early := false } } :=
  congrArg Host.Outcome.next (if_pos (by simp [warned, inside]))

/-- Settles O1, pin by pin. -/
theorem powerPins : Obligations.PowerPins := fun _ =>
  ⟨rfl,
   fun on ready => ⟨bladeSeatOpen_on on ready, inputTrip_on on ready, pwrEnFall_on on ready, mrstNFall_on on⟩,
   pwrEnRise_ready, mrstNRise_held, pfailNFall_warns, pfailNRise_ends⟩

end Sys2Proof.Machine
end

section
/-! PROOFS. Cages and RDIMM sockets (R23 to R25, R35, R36): the ports of a cage start or go down without a change to the cages, and a socket
that is read or times out is known before the population is decided. -/

namespace Sys2Proof.Machine

open Sys2Proof

variable {s : State} {c : Nat}

/-! ### Cages -/

theorem State.settleCage_identified (read : (s.cage c).phase = 2) (br rate len : Byte) (part : BitVec 16) :
    (s.settleCage c (some (br, rate, len, part))).cage c =
      { phase := 3, ident := true, breakout := br, rate := rate, len := len, part := part } := by
  rw [State.settleCage, if_neg (by simp [read]), State.cage_of_plant (State.startCage_plant _ _), State.cage_setCage]

theorem State.settleCage_unidentified (read : (s.cage c).phase = 2) : (s.settleCage c none).cage c = { phase := 3 } := by
  rw [State.settleCage, if_neg (by simp [read]), State.cage_of_plant ((State.startCage_plant _ _).trans (State.raiseAt_plant _ _ _ _)),
    State.cage_setCage]

theorem State.cageGone_cage (s : State) (c : Nat) : (s.cageGone c).cage c = {} := by
  have h : (s.cageGone c).plant = (s.setCage c {}).plant := by simp [State.cageGone]
  rw [State.cage_of_plant h, State.cage_setCage]

theorem cagePresenceAssert_notes {c : Fin 8} (empty : (s.cage c.val).phase = 0) : ∃ t, exec (.cagePresenceAssert c) s = .next t ∧
    (t.cage c.val).phase = 1 :=
  ⟨_, congrArg Host.Outcome.next (if_pos empty), by rw [State.cage_setCage]⟩

theorem cagePresenceDebounceExpiry_settles {c : Fin 8} (noted : (s.cage c.val).phase = 1) :
    ∃ t, exec (.cagePresenceDebounceExpiry c) s = .next t ∧ (t.cage c.val).phase = 2 :=
  ⟨_, congrArg Host.Outcome.next (if_pos noted), by rw [State.cage_setCage]⟩

theorem cableIdentityReadDone_identified {c : Fin 8} (read : (s.cage c.val).phase = 2) {b : List Byte} {br rate len : Byte}
    {part : BitVec 16} (h : parseCable b = some (br, rate, len, part)) : ∃ t, exec (.cableIdentityReadDone c b) s = .next t ∧
    t.cage c.val = { phase := 3, ident := true, breakout := br, rate := rate, len := len, part := part } :=
  ⟨_, rfl, by rw [State.withPins_cage, h, State.settleCage_identified read]⟩

theorem cableIdentityReadDone_unidentified {c : Fin 8} (read : (s.cage c.val).phase = 2) {b : List Byte} (h : parseCable b = none) :
    ∃ t, exec (.cableIdentityReadDone c b) s = .next t ∧ t.cage c.val = { phase := 3 } :=
  ⟨_, rfl, by rw [State.withPins_cage, h, State.settleCage_unidentified read]⟩

theorem cableIdentityReadTimeout_unidentified {c : Fin 8} (read : (s.cage c.val).phase = 2) :
    ∃ t, exec (.cableIdentityReadTimeout c) s = .next t ∧ t.cage c.val = { phase := 3 } :=
  ⟨_, rfl, by rw [State.withPins_cage, State.settleCage_unidentified read]⟩

theorem cagePresenceDeassert_empties (s : State) (c : Fin 8) : ∃ t, exec (.cagePresenceDeassert c) s = .next t ∧ t.cage c.val = {} :=
  ⟨_, rfl, by rw [State.withPins_cage, State.cageGone_cage]⟩

/-! ### Sockets -/

/-- What is known of a socket is DTC's, and a read after a write gives what was written. -/
theorem State.socket_setSocket (s : State) (c : Nat) (x : Socket) : (s.setSocket c x).socket c = x := by
  simp [State.socket, State.setSocket, Tab.get, Tab.find_put_same]

theorem State.socket_of_dtc {s t : State} (h : t.dtc = s.dtc) (c : Nat) : t.socket c = s.socket c := by
  rw [State.socket, h, State.socket]

theorem State.setDch_dtc (s : State) (c st cause : Nat) : (s.setDch c st cause).dtc = s.dtc := by
  rw [State.setDch, State.ite_dtc, State.setRegFld_dtc _ _ _ 6, ite_self, State.setRegFld_dtc, State.setRegFld_dtc]

theorem State.socketEmpty_dtc (s : State) (c cause : Nat) : (s.socketEmpty c cause).dtc = s.dtc := by
  rw [State.socketEmpty, State.raiseAt_dtc, State.setDch_dtc]

section
variable (undecided : s.dtc.decided = false) (up : s.up = true) (unknown : (s.socket c).known = false)
include undecided up unknown

/-- A socket whose hub has been read holds what was read, whatever it is worth, before the population looks at it. -/
theorem State.spdRead_eq (d : Spd) : ∃ u : State, s.spdRead c d = u.socketsKnown ∧
    u.socket c = { known := true, spd := d, outRounds := 0, badRounds := 0 } := by
  rw [State.spdRead, if_neg (by simp [undecided, up, unknown])]
  refine ⟨_, rfl, (State.socket_of_dtc ?_ c).trans (s.socket_setSocket c _)⟩
  simp only [State.ite_dtc, State.socketEmpty_dtc, State.setRegFld_dtc, State.setReg_dtc, ite_self]

/-- A hub that does not answer leaves an empty socket that is known all the same. -/
theorem State.spdTimeout_eq : ∃ u : State, s.spdTimeout c = u.socketsKnown ∧ (u.socket c).known = true := by
  rw [State.spdTimeout, if_neg (by simp [undecided, up, unknown])]
  exact ⟨_, rfl, by rw [State.socket_of_dtc (State.socketEmpty_dtc _ _ _), State.socket_setSocket]⟩

end

theorem spdHubReadDone_settles {k : Fin 16} (undecided : s.dtc.decided = false) (up : s.up = true)
    (unknown : (s.socket k.val).known = false) (d : Spd) : ∃ u : State,
    exec (.spdHubReadDone k d) s = .next (s.withPins (fun _ => u.socketsKnown)) ∧
    (u.socket k.val).known = true ∧ (u.socket k.val).spd = d := by
  obtain ⟨u, h, hu⟩ := State.spdRead_eq undecided up unknown d
  exact ⟨u, congrArg Host.Outcome.next (withPins_congr h), by rw [hu], by rw [hu]⟩

theorem spdHubReadTimeout_settles {k : Fin 16} (undecided : s.dtc.decided = false) (up : s.up = true)
    (unknown : (s.socket k.val).known = false) : ∃ u : State,
    exec (.spdHubReadTimeout k) s = .next (s.withPins (fun _ => u.socketsKnown)) ∧ (u.socket k.val).known = true := by
  obtain ⟨u, h, hu⟩ := State.spdTimeout_eq undecided up unknown
  exact ⟨u, congrArg Host.Outcome.next (withPins_congr h), hu⟩

/-- Settles O8, command by command. -/
theorem cagesAndSockets : Obligations.CagesAndSockets := fun s c =>
  ⟨cagePresenceAssert_notes, cagePresenceDebounceExpiry_settles,
   fun read _ _ _ _ _ h => cableIdentityReadDone_identified read h,
   fun read _ h => cableIdentityReadDone_unidentified read h,
   cableIdentityReadTimeout_unidentified, cagePresenceDeassert_empties s c,
   fun _ undecided up unknown => ⟨spdHubReadDone_settles undecided up unknown, spdHubReadTimeout_settles undecided up unknown⟩⟩

end Sys2Proof.Machine
end

section
/-! PROOFS. Responses of the fabric (R68, R73, R158, R340, R345, R383, R384): one that arrives here is handled in the state that has taken its
credit and its acknowledgement, and each kind of response ends the request it names. -/

namespace Sys2Proof.Machine

open Sys2Proof

variable {s : State} {r : Routing} {q : Remote} {h : Fin 64} {k : BitVec 16}

/-! ### What a response does to the request it names -/

theorem State.rdData_unnamed (none_ : s.named r = none) (d : Line) (pz : Bool) : s.rdData r d pz = s.stale := by
  simp only [State.rdData, none_]

theorem State.rdData_read (named : s.named r = some q) (read : q.kind = .read) (d : Line) (pz : Bool) :
    s.rdData r d pz = ((s.remember q).answerRead q.sender d pz).dropRemote q.tag := by
  simp only [State.rdData, named, read]
  rfl

/-- The last point of a store: a Late one completes with it, an Early one has been acknowledged (R61). -/
theorem State.wrStatus_last (named : s.named r = some q) (store : q.kind = .store) (p : Nat) :
    s.wrStatus r p false =
      (s.answerPoint { sender := q.sender, late := !q.answered && !q.done } p true).dropRemote q.tag := by
  simp only [State.wrStatus, named, store]
  rfl

/-- Entering the lane acknowledges an Early store of a head, which goes on until its last point (R61, R68). -/
theorem State.wrStatus_early (named : s.named r = some q) (store : q.kind = .store) (unanswered : q.answered = false)
    (notDone : q.done = false) (head : q.sender = .head h k) :
    s.wrStatus r 1 true = State.emit { s with fxb := { s.fxb with remotes := s.fxb.remotes.map (fun (x : Remote) =>
      if x.tag == q.tag then { x with answered := true } else x) } } (.writeDone h k false) := by
  simp only [State.wrStatus, named, store, unanswered, notDone, head]
  rfl

section
variable (named : s.named r = some q) (atomic : q.kind = .atomic) (notDone : q.done = false) (old : BitVec 128)
include named atomic notDone

/-- With XINFO[2] the store part of an atomic reaches its point later: its head has its old value, and the request stays (log 82). -/
theorem State.atomData_later (ok : r.status = stOk) (later : bitAt r.xinfo 2 = true) :
    s.atomData r old = (let v := s.answerAtomic q.sender old false;
      { v with fxb := { v.fxb with remotes := v.fxb.remotes.map (fun (x : Remote) =>
        if x.tag == q.tag then { x with done := true } else x) } }) := by
  simp only [State.atomData, named, atomic, notDone, ok, later]
  rfl

theorem State.atomData_last (sound : r.status ≠ stIntegrity) (last : r.status ≠ stOk ∨ bitAt r.xinfo 2 = false) :
    s.atomData r old =
      ((s.answerAtomic q.sender old (r.status != stOk)).answerPoint { sender := q.sender, late := false } 2 true).dropRemote q.tag := by
  have notLater : (r.status == stOk && bitAt r.xinfo 2) = false := by simpa [← imp_iff_not_or] using last
  simp only [State.atomData, named, atomic, notDone, notLater, beq_false_of_ne sound]
  rfl

end

theorem State.barrierDoneRsp_head (named : s.named r = some q) (barrier : q.kind = .barrier) (head : q.sender = .head h k) :
    s.barrierDoneRsp r = (s.barrierPeer h.val k q.dst (doneRank r.status)).dropRemote q.tag := by
  simp only [State.barrierDoneRsp, named, barrier, head]
  rfl

theorem State.gpfDoneRsp_head (named : s.named r = some q) (gpf : q.kind = .gpf) (head : q.sender = .head h k) :
    s.gpfDoneRsp r = (s.gpfPeerEnd h.val q.dst).dropRemote q.tag := by
  simp only [State.gpfDoneRsp, named, gpf, head]
  rfl

theorem State.errRsp_named (named : s.named r = some q) : s.errRsp r = s.remoteError q (errRank r.status) := by
  simp only [State.errRsp, named]

/-! ### The commands -/

/-- A response to this module is what its handler makes of it, followed by the pins. -/
theorem withPins_rspIn {t : State} {m : Msg} {f : State → State} (here : s.here r = true) (handled : f (s.acked r m) = t) :
    s.withPins (fun s => s.rspIn r m f) = s.withPins (fun _ => t) :=
  withPins_congr ((State.rspIn_here s r m f here).trans handled)

theorem rdData_settles (here : s.here r = true) (d : Line) (pz : Bool) : let u := s.acked r (.rdData d pz);
    (u.named r = none → exec (.rdData r d pz) s = .next (s.withPins (fun _ => u.stale))) ∧
    (∀ q, u.named r = some q → q.kind = .read →
      exec (.rdData r d pz) s = .next (s.withPins (fun _ => ((u.remember q).answerRead q.sender d pz).dropRemote q.tag))) :=
  ⟨fun unnamed => congrArg Host.Outcome.next (withPins_rspIn here (State.rdData_unnamed unnamed d pz)),
   fun _ named read => congrArg Host.Outcome.next (withPins_rspIn here (State.rdData_read named read d pz))⟩

theorem err_ends (here : s.here r = true) (named : (s.acked r .err).named r = some q) :
    exec (.err r) s = .next (s.withPins (fun _ => ((s.acked r .err).remoteError q (errRank r.status)).drain)) :=
  congrArg Host.Outcome.next (withPins_congr (congrArg State.drain
    ((State.rspIn_here s r .err _ here).trans (State.errRsp_named named))))

theorem retry_resends (here : s.here r = true) : exec (.retry r) s =
    .next (s.withPins (fun s => ((s.credited r .retry).ackReqs r.src (r.esq - 1)).resendReqs r.src)) :=
  congrArg Host.Outcome.next (withPins_congr (State.msgIn_here s r .retry _ here))

theorem esqAck_acknowledges (here : s.here r = true) : exec (.esqAck r) s =
    .next (s.withPins (fun s => (s.credited r .esqAck).ackReqs r.src r.esq)) :=
  congrArg Host.Outcome.next (withPins_congr (State.msgIn_here s r .esqAck _ here))

/-! ### The acknowledgement that is due (R345) -/

/-- Sending a message on leaves the pairs of sequences. -/
theorem State.routeOut_pairs (s : State) (r : Routing) (m : Msg) : (s.routeOut r m).fxb.pairs = s.fxb.pairs := by
  unfold State.routeOut State.sendOn State.leave State.linkWake
  dsimp only
  repeat' split
  all_goals simp

/-- A response carries the acknowledgement of its receiver's requests. -/
theorem State.sendRsp_ackDue (s : State) (dev : Dev) (tag epoch xinfo : BitVec 16) (status : Status) (m : Msg) :
    ((s.sendRsp dev tag epoch status xinfo m).pair dev.toNat).ackDue = false := by
  simp only [State.sendRsp, State.pair, State.routeOut_pairs, State.setPair, Tab.get_set_same]

theorem esqAckDue_sends {dev : Dev} (due : (s.pair dev.toNat).ackDue = true) :
    ∃ t, exec (.esqAckDue dev) s = .next t ∧ (t.pair dev.toNat).ackDue = false :=
  ⟨_, congrArg Host.Outcome.next (if_pos due), State.sendRsp_ackDue _ _ _ _ _ _ _⟩

/-- Settles O40, response by response. -/
theorem fabricResponses : Obligations.FabricResponses := fun _ _ here =>
  ⟨rdData_settles here,
   fun pt _ named store => congrArg Host.Outcome.next (withPins_rspIn here (State.wrStatus_last named store pt.toNat)),
   fun _ _ _ named store unanswered notDone head =>
     congrArg Host.Outcome.next (withPins_rspIn here (State.wrStatus_early named store unanswered notDone head)),
   fun old _ named atomic notDone ok later =>
     congrArg Host.Outcome.next (withPins_rspIn here (State.atomData_later named atomic notDone old ok later)),
   fun old _ named atomic notDone sound last =>
     congrArg Host.Outcome.next (withPins_rspIn here (State.atomData_last named atomic notDone old sound last)),
   fun _ _ _ named barrier head => congrArg Host.Outcome.next (withPins_rspIn here (State.barrierDoneRsp_head named barrier head)),
   fun _ _ _ named gpf head => congrArg Host.Outcome.next (withPins_rspIn here (State.gpfDoneRsp_head named gpf head)),
   fun _ named => err_ends here named,
   ⟨retry_resends here, esqAck_acknowledges here⟩,
   fun _ due => esqAckDue_sends due,
   fun _ => rfl⟩

end Sys2Proof.Machine
end

section
/-! PROOFS. What the end of a wait, a silent unit's fence and a slice's fence leave alone: the slices, or the fences of FLT. One equation per
operation, in the order of the model's files; the simplifier goes through an operation by the equations of those it calls. -/

namespace Sys2Proof.Machine

open Sys2Proof

/-- A part of the state that few operations write. -/
inductive Ward where
  | slices
  | fences

/-- What a part holds. -/
def State.ward (p : Ward) (s : State) : Tab Slice × List (BitVec 4 × BitVec 20) :=
  match p with
  | .slices => (s.slices, [])
  | .fences => ([], s.flt.fences)

end Sys2Proof.Machine

namespace Sys2Proof.Machine.State

open Sys2Proof

variable {p : Ward} (s : State)

/-! ### Choices, loops and the other fields

As with the plant, a proof `(rfl)` in parentheses stays a step that the simplifier takes in the side condition of `each_ward`. -/

@[simp] theorem ward_rest {pe ou fr ti om on rg sh ho pf cy fa pa mg pn pw th cr dt mc mt ca po fx hd sv} :
    ward p { s with
      pending := pe, out := ou, free := fr, time := ti, opMs := om, opNs := on, regs := rg, shadow := sh, hold := ho, perf := pf, cyc := cy,
      freezeAll := fa, pages := pa, mgt := mg, pan := pn, pwr := pw, thm := th, crs := cr, dtc := dt, mch := mc, mte := mt, cages := ca,
      ports := po, fxb := fx, heads := hd, sve := sv } = s.ward p := (rfl)

@[simp] theorem ward_slices {pe ou fr ti om on rg sh ho pf cy fa pa mg fl pn pw th cr dt mc mt ca po fx hd sv} :
    ward .slices { s with
      pending := pe, out := ou, free := fr, time := ti, opMs := om, opNs := on, regs := rg, shadow := sh, hold := ho, perf := pf, cyc := cy,
      freezeAll := fa, pages := pa, mgt := mg, flt := fl, pan := pn, pwr := pw, thm := th, crs := cr, dtc := dt, mch := mc, mte := mt,
      cages := ca, ports := po, fxb := fx, heads := hd, sve := sv } = s.ward .slices := (rfl)

@[simp] theorem ward_ite (c : Prop) [Decidable c] (x y : State) : (if c then x else y).ward p = if c then x.ward p else y.ward p :=
  apply_ite _ _ _ _

@[simp] theorem each_ward {α : Type} (l : List α) (f : State → α → State) (hf : ∀ t x, (f t x).ward p = t.ward p) :
    (s.each l f).ward p = s.ward p := each_same (State.ward p) hf

/-- The state in the answer of an operation that leaves a part alone. -/
theorem ward_of_eq {s t : State} {α : Type} {r : α × State} {x : α} (e : r = (x, t)) (h : r.2.ward p = s.ward p) : t.ward p = s.ward p := by
  rw [e] at h; exact h

theorem slices_of_ward {s t : State} (h : t.ward .slices = s.ward .slices) : t.slices = s.slices := congrArg Prod.fst h

theorem isFenced_of_ward {s t : State} (h : t.ward .fences = s.ward .fences) (dom inst : Nat) : t.isFenced dom inst = s.isFenced dom inst :=
  congrArg (fun x => x.2.any (fun x => decide (x.1.toNat = dom) && decide (x.2.toNat = inst))) h

/-! ### The named operations -/

@[simp] theorem setSlice_ward (i x) : (s.setSlice i x).ward .fences = s.ward .fences := (rfl)
@[simp] theorem setPort_ward (i x) : (s.setPort i x).ward p = s.ward p := (rfl)
@[simp] theorem setHead_ward (i x) : (s.setHead i x).ward p = s.ward p := (rfl)
@[simp] theorem setPair_ward (dev x) : (s.setPair dev x).ward p = s.ward p := (rfl)
@[simp] theorem setDie_ward (i x) : (s.setDie i x).ward p = s.ward p := (rfl)
@[simp] theorem setBlock_ward (i x) : (s.setBlock i x).ward p = s.ward p := (rfl)
@[simp] theorem setKrange_ward (r x) : (s.setKrange r x).ward p = s.ward p := (rfl)
@[simp] theorem emit_ward (o) : (s.emit o).ward p = s.ward p := (rfl)
@[simp] theorem setReg_ward (page off w) : (s.setReg page off w).ward p = s.ward p := (rfl)
@[simp] theorem countUp_ward (page off lsb w by_) : (s.countUp page off lsb w by_).ward p = s.ward p := (rfl)

@[simp] theorem latch_ward (page bit forced w) : (s.latch page bit forced w).ward p = s.ward p := by
  unfold State.latch
  dsimp only
  repeat' split
  all_goals rfl

@[simp] theorem raiseAt_ward (page src w) : (s.raiseAt page src w).ward p = s.ward p := by
  unfold State.raiseAt
  split <;> simp

@[simp] theorem raise_ward (page src) : (s.raise page src).ward p = s.ward p := raiseAt_ward s page src {}

@[simp] theorem perfAdd_ward (page fuel n k) : (s.perfAdd page fuel n k).ward p = s.ward p := by
  induction fuel generalizing s n k with
  | zero => rfl
  | succ fuel ih => simp [perfAdd, ih]

@[simp] theorem perfEvent_ward (page code k) : (s.perfEvent page code k).ward p = s.ward p := by simp [State.perfEvent]

/-! ### Sending -/

@[simp] theorem routeOut_ward (r m) : (s.routeOut r m).ward p = s.ward p := by
  unfold State.routeOut State.sendOn State.leave State.linkWake
  dsimp only
  repeat' split
  all_goals simp

@[simp] theorem sendPlain_ward (dst tag epoch status xinfo m) : (s.sendPlain dst tag epoch status xinfo m).ward p = s.ward p := by
  simp [State.sendPlain]

@[simp] theorem sendRsp_ward (dst tag epoch status xinfo m) : (s.sendRsp dst tag epoch status xinfo m).ward p = s.ward p := by
  simp [State.sendRsp]

@[simp] theorem peerDone_ward (dev tag rank) : (s.peerDone dev tag rank).ward p = s.ward p := by
  simp [State.peerDone, State.closeMarks]

/-! ### Answers -/

@[simp] theorem headDone_ward (h tag kind rank) : (s.headDone h tag kind rank).ward p = s.ward p := by
  unfold State.headDone State.gpfCheck
  dsimp only
  repeat' split
  all_goals simp

@[simp] theorem dedupNote_ward (dev tag point old) : (s.dedupNote dev tag point old).ward p = s.ward p := (rfl)

@[simp] theorem copyAck_ward (dev line page status) : (s.copyAck dev line page status).ward p = s.ward p := by
  unfold State.copyAck
  dsimp only
  repeat' split
  all_goals simp

@[simp] theorem answerRead_ward (who data poison) : (s.answerRead who data poison).ward p = s.ward p := by
  unfold State.answerRead
  split <;> simp

@[simp] theorem answerPoint_ward (w point last) : (s.answerPoint w point last).ward p = s.ward p := by
  unfold State.answerPoint
  split <;> simp

@[simp] theorem answerBad_ward (w rank) : (s.answerBad w rank).ward p = s.ward p := by
  unfold State.answerBad
  split <;> simp

@[simp] theorem answerRefused_ward (w) : (s.answerRefused w).ward p = s.ward p := by
  unfold State.answerRefused
  split <;> simp

@[simp] theorem answerAtomic_ward (who old poison) : (s.answerAtomic who old poison).ward p = s.ward p := by
  unfold State.answerAtomic
  split <;> simp

@[simp] theorem answerOld_ward (who old later) : (s.answerOld who old later).ward p = s.ward p := by
  unfold State.answerOld
  split <;> simp

@[simp] theorem answerAll_ward (ws point) : (s.answerAll ws point).ward p = s.ward p := by simp [State.answerAll]
@[simp] theorem badAll_ward (ws rank) : (s.badAll ws rank).ward p = s.ward p := by simp [State.badAll]

/-! ### The pins -/

@[simp] theorem sendIbi_ward (mdb payload) : (s.sendIbi mdb payload).ward p = s.ward p := by simp [State.sendIbi]

@[simp] theorem memoryEvent_ward : s.memoryEvent.ward p = s.ward p := by
  simp [State.memoryEvent, State.postAll, State.postRec, State.logInterrupt]

theorem withPins_ward (f : State → State) : (s.withPins f).ward p = (f s).ward p := by simp [State.withPins, State.pinIbis]

/-! ### The pump of the MTE -/

@[simp] theorem reserveWsn_ward : s.reserveWsn.ward p = s.ward p := by simp [State.reserveWsn, State.journal]

@[simp] theorem takeWsn_ward : s.takeWsn.2.ward p = s.ward p := by
  simp only [State.takeWsn, apply_ite Prod.snd, ward_rest, ward_ite, raise_ward, reserveWsn_ward, ite_self]

@[simp] theorem fillers_ward (n) (s : State) (l) : (fillers n s l).2.ward p = s.ward p := by
  induction n generalizing s l with
  | zero => rfl
  | succ n ih => simp [fillers, ih]

@[simp] theorem openFor_ward (g purpose reason) : (s.openFor g purpose reason).2.ward p = s.ward p := by
  unfold State.openFor State.openSet
  dsimp only
  repeat' split
  all_goals simp

@[simp] theorem closeStripe_ward (g kind purpose pages reason) : (s.closeStripe g kind purpose pages reason).2.ward p = s.ward p := by
  unfold State.closeStripe
  dsimp only
  repeat' split
  all_goals simp

@[simp] theorem closeGather_ward (force) : (s.closeGather force).ward p = s.ward p := by
  unfold State.closeGather
  split <;> simp

@[simp] theorem placeHanded_ward (fuel) (s : State) : (placeHanded fuel s).ward p = s.ward p := by
  induction fuel generalizing s with
  | zero => rfl
  | succ fuel ih =>
    unfold placeHanded
    split
    · rfl
    · split <;> simp [ih, State.placeOne]

@[simp] theorem metaPages_ward (n) (s : State) (type aux l) : (metaPages n s type aux l).2.ward p = s.ward p := by
  induction n generalizing s l with
  | zero => rfl
  | succ n ih => simp [metaPages, ih]

@[simp] theorem setFrame_ward (n f) : (s.setFrame n f).ward p = s.ward p := by
  simp only [State.setFrame, State.tagTouch, ward_ite, ward_rest, ite_self]

@[simp] theorem captureFrame_ward (x) : (s.captureFrame x).2.ward p = s.ward p := by
  unfold State.captureFrame
  repeat' split
  all_goals simp

@[simp] theorem captureAll_ward (l) (s : State) : (captureAll l s).2.ward p = s.ward p := by
  induction l generalizing s with
  | nil => rfl
  | cons p t ih =>
    simp only [captureAll, ih]
    split <;> simp

@[simp] theorem readyStripe_ward (x) : (s.readyStripe x).2.ward p = s.ward p := by
  unfold State.readyStripe
  split <;> simp

@[simp] theorem setBusy_ward (ds op) : (s.setBusy ds op).ward p = s.ward p := by simp [State.setBusy]

@[simp] theorem advanceRow_ward (x) : (s.advanceRow x).ward p = s.ward p := by
  unfold State.advanceRow
  split <;> simp

@[simp] theorem issueMeta_ward (id) : (s.issueMeta id).ward p = s.ward p := by
  unfold State.issueMeta
  split <;> simp [State.orderFault, State.startRow, State.setStripe]

@[simp] theorem pump_ward : s.pump.ward p = s.ward p := by simp [State.pump, State.tendJournal, State.closeJournal]

/-! ### A forced release of the lanes, and the drain marks -/

@[simp] theorem notePoison_ward (a) : (s.notePoison a).ward p = s.ward p := by simp [State.notePoison]
@[simp] theorem clearPoison_ward (a) : (s.clearPoison a).ward p = s.ward p := by simp [State.clearPoison]

@[simp] theorem updateWay_ward (n a data poison) : (s.updateWay n a data poison).ward .fences = s.ward .fences := by
  unfold State.updateWay
  dsimp only
  repeat' split
  all_goals simp

@[simp] theorem verifiedValue_ward (a) : (s.verifiedValue a).2.ward p = s.ward p := by
  unfold State.verifiedValue
  split <;> simp [State.keyMissing, State.tagFail, State.krMismatch]

@[simp] theorem freeLane_ward (n uid) : (s.freeLane n uid).ward .fences = s.ward .fences := (rfl)

@[simp] theorem releaseLine_ward (n a data poison ws) : (s.releaseLine n a data poison ws).ward .fences = s.ward .fences := by
  simp [State.releaseLine, State.mergeLine, State.tellReleased, State.checkHigh]

@[simp] theorem refuseEntry_ward (n e) : (s.refuseEntry n e).ward .fences = s.ward .fences := by
  unfold State.refuseEntry
  split <;> simp

@[simp] theorem releaseNow_ward (n e cur) : (s.releaseNow n e cur).ward .fences = s.ward .fences := by
  unfold State.releaseNow
  dsimp only
  repeat' split
  all_goals simp

@[simp] theorem fillWaiter_ward (a base w) : (s.fillWaiter a base w).ward p = s.ward p := by simp [State.fillWaiter]

@[simp] theorem readsFirst_ward (n e) : (s.readsFirst n e).ward .fences = s.ward .fences := by
  unfold State.readsFirst
  refine (each_ward _ _ _ fun t w => by simp).trans ?_
  refine (setSlice_ward _ _ _).trans (each_ward _ _ _ fun t m => ?_)
  dsimp only
  split
  · rfl
  · split <;> simp

@[simp] theorem forceRelease_ward (n e keepVolatile) : (s.forceRelease n e keepVolatile).ward .fences = s.ward .fences := by
  unfold State.forceRelease
  dsimp only
  repeat' split
  all_goals simp

@[simp] theorem forceLanes_ward (n ok keepVolatile) : (s.forceLanes n ok keepVolatile).ward .fences = s.ward .fences := by
  simp [State.forceLanes]

@[simp] theorem drainMarks_ward (n ok) : (s.drainMarks n ok).ward .fences = s.ward .fences := by simp [State.drainMarks]

/-! ### Admission -/

@[simp] theorem missRead_ward (n a w) : (s.missRead n a w).ward .fences = s.ward .fences := by
  unfold State.missRead
  dsimp only
  repeat' split
  all_goals simp [State.setMiss]

@[simp] theorem readWay_ward (n a e) : (s.readWay n a e).2.ward .fences = s.ward .fences := by
  unfold State.readWay
  dsimp only
  repeat' split
  all_goals simp

@[simp] theorem lookRead_ward (n a w) : (s.lookRead n a w).ward .fences = s.ward .fences := by
  unfold State.lookRead
  dsimp only
  iterate 4
    split
    · simp
  split
  next e => simp [ward_of_eq e (readWay_ward ..)]
  next e => simp [ward_of_eq e (readWay_ward ..)]

@[simp] theorem admitRead_ward (n a w) : (s.admitRead n a w).ward .fences = s.ward .fences := by simp [State.admitRead]

@[simp] theorem ackEarly_ward (e) : (s.ackEarly e).ward p = s.ward p := by
  unfold State.ackEarly
  split
  · rfl
  · refine each_ward _ _ _ fun t w => ?_
    repeat' split
    all_goals simp

@[simp] theorem admitEntry_ward (n e) : (s.admitEntry n e).ward .fences = s.ward .fences := by
  unfold State.admitEntry
  dsimp only
  repeat' split
  case h_1.isFalse => exact (each_ward _ _ _ fun t w => by split <;> simp).trans (by simp)
  all_goals simp

@[simp] theorem discardEntry_ward (e) : (s.discardEntry e).ward p = s.ward p := by
  refine each_ward _ _ _ fun t w => ?_
  repeat' split
  all_goals simp

@[simp] theorem admitOne_ward (n kept r) : (s.admitOne n kept r).2.ward .fences = s.ward .fences := by
  unfold State.admitOne
  dsimp only
  repeat' split
  all_goals simp

@[simp] theorem admitList_ward (n kept l) : (s.admitList n kept l).2.ward .fences = s.ward .fences := by
  induction l generalizing s kept with
  | nil => rfl
  | cons r t ih => simp [admitList, ih]

@[simp] theorem admitAll_ward (n) : (s.admitAll n).ward .fences = s.ward .fences := by simp [State.admitAll]

/-! ### The fences of a silent unit -/

@[simp] theorem fence_ward (dom inst) : (s.fence dom inst).ward .slices = s.ward .slices := by
  simp only [ward, fence_slices]

@[simp] theorem setRegFld_ward (page off lsb w v) : (s.setRegFld page off lsb w v).ward p = s.ward p := (rfl)

@[simp] theorem feedOff_ward (c) : (s.feedOff c).ward p = s.ward p := by simp [State.feedOff, State.setRail]
@[simp] theorem setDch_ward (c st cause) : (s.setDch c st cause).ward p = s.ward p := by simp [State.setDch]

@[simp] theorem handOver_ward (n) : (s.handOver n).ward p = s.ward p := by
  unfold State.handOver
  split <;> simp

@[simp] theorem startReform_ward : s.startReform.ward p = s.ward p := by simp [State.startReform, State.handAll]

/-- A channel whose DIMM has not died is fenced without a line of a slice lost. -/
@[simp] theorem fenceDch_ward (c) : (s.fenceDch c 0).ward .slices = s.ward .slices := by
  simp [State.fenceDch, State.fenceAs, State.setSocket]

@[simp] theorem askRefresh_ward (block reason) : (s.askRefresh block reason).ward p = s.ward p := by simp [State.askRefresh]
@[simp] theorem bumpReads_ward (block n) : (s.bumpReads block n).ward p = s.ward p := by simp [State.bumpReads]
@[simp] theorem countRead_ward (block) : (s.countRead block).ward p = s.ward p := by simp [State.countRead]
@[simp] theorem countRecon_ward (x) : (s.countRecon x).ward p = s.ward p := by simp [State.countRecon]
@[simp] theorem readsToRecon_ward (d) : (s.readsToRecon d).ward p = s.ward p := by simp [State.readsToRecon]
@[simp] theorem fenceDie_ward (d) : (s.fenceDie d).ward .slices = s.ward .slices := by simp [State.fenceDie]

@[simp] theorem fenceChan1_ward (ch cause) : (s.fenceChan1 ch cause).ward .slices = s.ward .slices := by simp [State.fenceChan1]
@[simp] theorem fenceChan_ward (ch cause) : (s.fenceChan ch cause).ward .slices = s.ward .slices := by simp [State.fenceChan]

@[simp] theorem silentDch_ward (n c) : (s.silentDch n c).ward .slices = s.ward .slices := by
  unfold State.silentDch
  split <;> simp

@[simp] theorem silentMch_ward (n ch) : (s.silentMch n ch).ward .slices = s.ward .slices := by
  rw [State.silentMch, fenceChan_ward, raiseAt_ward]

@[simp] theorem silentMte_ward (n) : (s.silentMte n).ward p = s.ward p := by rw [State.silentMte, raise_ward, raise_ward]
@[simp] theorem silentCrust_ward (n) : (s.silentCrust n).ward p = s.ward p := by rw [State.silentCrust, raise_ward, raise_ward]

theorem silentMiss_ward (n m) : (s.silentMiss n m).ward .slices = s.ward .slices := by
  unfold State.silentMiss
  cases m.stage
  case tier => exact silentDch_ward ..
  case pageFill => exact silentDch_ward ..
  case map => exact silentMte_ward ..
  case mapCrumb => exact silentMch_ward ..
  case medium => exact silentMch_ward ..
  all_goals exact silentCrust_ward ..

end Sys2Proof.Machine.State
end

section
/-! PROOFS. The timeouts of R73 (R73, R153, R161, R514; log 41): the answer that a wait ends with is driven outward and stays, the miss it was
for is gone with no other in its place, and a slice that is silent stays fenced while its lanes and its merge store empty. -/

namespace Sys2Proof.Machine

open Sys2Proof

variable {s : State} {a : LineAddr} {n : Nat} {o : Output}

/-! ### The answers -/

/-- What one round of a loop drives outward stays driven when no round takes an output back. -/
theorem State.mem_out_each {α : Type} {l : List α} {f : State → α → State} {x : α} (mem : x ∈ l)
    (keeps : ∀ {z t : State} (y : α), Keeps z t → Keeps z (f t y)) (drives : ∀ t, o ∈ (f t x).out) : o ∈ (s.each l f).out := by
  induction l generalizing s with
  | nil => cases mem
  | cons y l ih =>
    rcases List.mem_cons.mp mem with rfl | later
    · exact (State.each_keeps (fun _ y => keeps y) (Keeps.refl (f s x))).out.subset (drives s)
    · exact ih later

theorem State.answerRead_head (s : State) (h : Fin 64) (k : BitVec 16) (d : Line) (pz : Bool) :
    .readData h k d pz ∈ (s.answerRead (.head h k) d pz).out :=
  (State.headDone_keeps (Keeps.refl (s.emit (.readData h k d pz)))).out.subset List.mem_concat_self

/-- A read to another module that ends in error is poison to its host. -/
theorem State.remoteError_read {q : Remote} {h : Fin 64} {k : BitVec 16} (read : q.kind = .read) (head : q.sender = .head h k) (s : State)
    (rank : Nat) : .readData h k 0 true ∈ (s.remoteError q rank).out := by
  simp only [State.remoteError, read, head]
  exact (State.dropRemote_keeps (Keeps.refl _)).out.subset (s.answerRead_head h k 0 true)

/-! ### A miss that is not served -/

/-- The reads of a slice: its misses, the reads behind an atomic, and the groups that preload. -/
def Slice.reads (x : Slice) : List MissEntry × List (LineAddr × Waiter) × List Nat := (x.misses, x.behind, x.preloading)

/-- An answer without a write of a slice leaves every slice. -/
theorem State.slice_of_ward {t : State} (h : t.ward .slices = s.ward .slices) (n : Nat) : t.slice n = s.slice n := by
  rw [State.slice, State.slices_of_ward h, State.slice]

/-- The end of a lane entry's requesters writes no reads of its slice. -/
theorem State.endEntry_reads (s : State) (n : Nat) (e : LaneEntry) : ((s.endEntry n e).slice n).reads = (s.slice n).reads := by
  unfold State.endEntry
  split
  · rw [State.slice_of_ward (State.badAll_ward _ _ _), State.slice_setSlice]
    rfl
  · rw [State.slice_of_ward (State.each_ward _ _ _ fun t w => by simp), State.freeLane, State.slice_setSlice]
    rfl

/-- The reads of a miss end with poison, but for those that have been served. -/
def State.poisonReads (s : State) (ws : List Waiter) : State :=
  s.each ws (fun s w => if w.served then s else s.answerRead w.sender 0 true)

/-- A miss has ended with its reads and with what its lane entries wait for. -/
def State.missEnded (s : State) (n : Nat) (a : LineAddr) (m : MissEntry) : State :=
  (((s.silentMiss n m).dropMiss a).poisonReads m.waiters).each
    ((s.slice n).lanes.filter (fun e => decide (e.uid ∈ m.entries))) (fun s e => s.endEntry n e)

theorem State.missTimeout_found {m : MissEntry} (found : (s.slice n).missOf a = some m) :
    s.missTimeout n a = ((s.missEnded n a m).retryBehind n).preloadAll n := by
  simp only [State.missTimeout, found, State.missEnded, State.poisonReads]

theorem State.poisonReads_ward (s : State) (ws : List Waiter) : (s.poisonReads ws).ward .slices = s.ward .slices :=
  State.each_ward _ _ _ fun t w => by rw [State.ward_ite, State.answerRead_ward, ite_self]

/-- Of the reads of its slice, the end of a miss takes the misses of its line away. -/
theorem State.missEnded_reads (s : State) (a : LineAddr) (m : MissEntry) :
    ((s.missEnded (sliceHash a) a m).slice (sliceHash a)).reads =
      ((s.slice (sliceHash a)).misses.filter (fun m => m.line != a), (s.slice (sliceHash a)).behind, (s.slice (sliceHash a)).preloading) := by
  refine (State.each_same (fun t => (t.slice (sliceHash a)).reads) fun t e => t.endEntry_reads _ e).trans ?_
  rw [State.slice_of_ward (State.poisonReads_ward _ _), State.dropMiss, State.slice_setSlice,
    State.slice_of_ward (State.silentMiss_ward _ _ _)]
  rfl

/-- Without reads behind an atomic and without a preload nothing follows the end of a miss. -/
theorem State.retry_preload_idle {ms : List MissEntry} (idle : (s.slice n).reads = (ms, [], [])) :
    (((s.retryBehind n).preloadAll n).slice n).reads = (ms, [], []) := by
  obtain ⟨-, behind, preloading⟩ : _ ∧ (s.slice n).behind = [] ∧ (s.slice n).preloading = [] := by simpa [Slice.reads] using idle
  have retry : (s.retryBehind n).slice n = s.slice n := by
    simp only [State.retryBehind, behind, State.each, List.foldl_nil, State.slice_setSlice]
    rw [← behind]
  rw [State.preloadAll, retry, preloading]
  exact (congrArg Slice.reads retry).trans idle

section
variable {m : MissEntry} (found : (s.slice (sliceHash a)).missOf a = some m)
include found

theorem State.missTimeout_missOf (behind : (s.slice (sliceHash a)).behind = []) (preloading : (s.slice (sliceHash a)).preloading = []) :
    ((s.missTimeout (sliceHash a) a).slice (sliceHash a)).missOf a = none := by
  have ended := s.missEnded_reads a m
  rw [behind, preloading] at ended
  have reads := State.retry_preload_idle ended
  rw [← State.missTimeout_found found] at reads
  have misses := congrArg Prod.fst reads
  simp only [Slice.reads] at misses
  simp [Slice.missOf, misses]

theorem State.missTimeout_poisons {w : Waiter} {h : Fin 64} {k : BitVec 16} (waits : w ∈ m.waiters) (head : w.sender = .head h k)
    (unserved : w.served = false) : .readData h k 0 true ∈ (s.missTimeout (sliceHash a) a).out := by
  have poisoned : ∀ u : State, .readData h k 0 true ∈ (u.poisonReads m.waiters).out := fun u =>
    State.mem_out_each waits (fun y h => by split; exacts [h, State.answerRead_keeps h]) fun t => by
      simpa only [unserved, head, Bool.false_eq_true, if_false] using t.answerRead_head h k 0 true
  rw [State.missTimeout_found found]
  exact (State.preloadAll_keeps (State.retryBehind_keeps (State.each_keeps (fun _ _ => State.endEntry_keeps)
    (Keeps.refl _)))).out.subset (poisoned _)

end

theorem localServiceTimeout_miss {m : MissEntry} (found : (s.sliceOf a).missOf a = some m) (behind : (s.sliceOf a).behind = [])
    (preloading : (s.sliceOf a).preloading = []) : ∃ t, exec (.localServiceTimeout .miss a) s = .next t ∧ (t.sliceOf a).missOf a = none ∧
    ∀ w ∈ m.waiters, ∀ h n, w.sender = .head h n → w.served = false → .readData h n 0 true ∈ t.out := by
  refine ⟨_, rfl, ?_, fun w waits h k head unserved => mem_out_withPins (State.missTimeout_poisons found waits head unserved)⟩
  rw [State.sliceOf, State.slice_of_ward (State.withPins_ward _ _)]
  exact State.missTimeout_missOf found behind preloading

/-! ### A release that is not taken -/

theorem State.releaseTimeout_merge {m : MergeEntry}
    (found : (s.sliceOf a).merge.find? (fun (m : MergeEntry) => m.line == a && m.draining && !m.offered) = some m) :
    { m with waits := [] } ∈ ((s.releaseTimeout (sliceHash a) a).sliceOf a).merge := by
  rw [State.sliceOf] at found
  simp only [State.releaseTimeout, found]
  rw [State.sliceOf, State.slice_of_ward (State.badAll_ward _ _ _), State.slice_setSlice, State.slice_of_ward (State.silentCrust_ward _ _)]
  exact List.mem_map.mpr ⟨m, List.mem_of_find?_eq_some found, if_pos (beq_self_eq_true m)⟩

theorem localServiceTimeout_release {m : MergeEntry}
    (found : (s.sliceOf a).merge.find? (fun (m : MergeEntry) => m.line == a && m.draining && !m.offered) = some m) :
    ∃ t, exec (.localServiceTimeout .release a) s = .next t ∧ { m with waits := [] } ∈ (t.sliceOf a).merge := by
  refine ⟨_, rfl, ?_⟩
  rw [State.sliceOf, State.slice_of_ward (State.withPins_ward _ _)]
  exact State.releaseTimeout_merge found

/-! ### A slice that does not accept requests -/

theorem State.fence_isFenced (s : State) {n : Nat} (slice : n < 8) : (s.fence 4 n).isFenced 4 n = true := by
  unfold State.fence
  dsimp only
  split
  · assumption
  · have inst : n < 1048576 := by omega
    simp [State.isFenced, inst]

/-- The silent slice is fenced; emptying its lanes and refusing its requests lifts no fence. -/
theorem State.sliceSilent_fences (slice : n < 8) (running : s.isFenced 4 n = false) : (s.sliceSilent n).isFenced 4 n = true := by
  have raised : (s.raiseAt (slcPage n) .slcLsvcTimeout { dom := 4, inst := n }).isFenced 4 n = false := by
    rw [State.isFenced_of_ward (State.raiseAt_ward _ _ _ _), running]
  rw [State.sliceSilent, if_neg (by simp [running]), State.fenceSlice, if_neg (by simp [raised])]
  dsimp only
  rw [State.isFenced_of_ward (State.admitAll_ward _ _), State.isFenced_of_ward (State.pump_ward _),
    State.isFenced_of_ward (State.drainMarks_ward _ _ _), State.isFenced_of_ward (State.forceLanes_ward _ _ _ _)]
  exact State.fence_isFenced _ slice

theorem xorGroups_lt (n w x : Nat) : xorGroups n w x < 2 ^ w := by
  induction n generalizing x with
  | zero => exact Nat.two_pow_pos w
  | succ n ih => exact Nat.xor_lt_two_pow (Nat.mod_lt _ (Nat.two_pow_pos w)) (ih _)

theorem sliceHash_lt (a : LineAddr) : sliceHash a < 8 := xorGroups_lt 17 3 a.toNat

theorem withPins_sliceSilent (slice : n < 8) (running : s.isFenced 4 n = false) :
    (s.withPins (fun s => s.sliceSilent n)).isFenced 4 n = true := by
  rw [State.isFenced_of_ward (State.withPins_ward _ _)]
  exact State.sliceSilent_fences slice running

/-! ### Requests to other modules -/

theorem remoteRequestTimeout_poisons {tag : BitVec 16} {q : Remote} {h : Fin 64} {k : BitVec 16}
    (found : s.fxb.remotes.find? (fun q => q.tag == tag) = some q) (read : q.kind = .read) (head : q.sender = .head h k) :
    ∃ u : State, exec (.remoteRequestTimeout tag) s = .next (s.withPins (fun _ => u.drain)) ∧ .readData h k 0 true ∈ u.out := by
  refine ⟨_, congrArg Host.Outcome.next (withPins_congr rfl), (State.discardTimeout_keeps (Keeps.refl _)).out.subset ?_⟩
  simp only [State.remoteTimeout, found, read]
  exact State.remoteError_read read head _ 0

/-- Every read to an owner that cannot be reached ends with poison. -/
theorem State.deliveryTimeout_poisons {dev : Dev} (unreachable : s.unreachable dev = true) {q : Remote} (open_ : q ∈ s.fxb.remotes)
    (owner : q.dst = dev) (read : q.kind = .read) {h : Fin 64} {k : BitVec 16} (head : q.sender = .head h k) :
    .readData h k 0 true ∈ (s.deliveryTimeout dev).out := by
  rw [State.deliveryTimeout, if_neg (by simp [unreachable])]
  refine (State.each_keeps (fun _ _ => State.deliveryEnd_keeps) (Keeps.refl _)).out.subset
    (State.mem_out_each (List.mem_filter.mpr ⟨open_, beq_iff_eq.mpr owner⟩) (fun _ => State.deliveryEnd_keeps) fun t => ?_)
  simp only [State.deliveryEnd, read]
  exact State.remoteError_read read head t 0

theorem fabricDeliveryTimeout_poisons {dev : Dev} (unreachable : s.unreachable dev = true) :
    ∃ u : State, exec (.fabricDeliveryTimeout dev) s = .next (s.withPins (fun _ => u.drain)) ∧
      ∀ q ∈ s.fxb.remotes, q.dst = dev → q.kind = .read → ∀ h k, q.sender = .head h k → .readData h k 0 true ∈ u.out :=
  ⟨_, congrArg Host.Outcome.next (withPins_congr rfl), fun _ open_ owner read _ _ head => (State.discardTimeout_keeps (Keeps.refl _)).out.subset
    (State.deliveryTimeout_poisons unreachable open_ owner read head)⟩

/-- Settles O14, wait by wait. -/
theorem timeoutsEndRequests : Obligations.TimeoutsEndRequests := fun _ a =>
  ⟨fun _ found behind preloading => localServiceTimeout_miss found behind preloading,
   fun _ found => localServiceTimeout_release found,
   fun running => ⟨_, rfl, withPins_sliceSilent (sliceHash_lt a) running⟩,
   fun sl running => ⟨_, rfl, withPins_sliceSilent sl.isLt running⟩,
   fun _ _ _ _ found read head => remoteRequestTimeout_poisons found read head,
   fun _ unreachable => fabricDeliveryTimeout_poisons unreachable⟩

end Sys2Proof.Machine
end

section
/-! PROOFS. The end of a long operation leaves alone what the medium's engine and the tier hold: one equation per operation, in the order of
the model's files. -/

namespace Sys2Proof.Machine

open Sys2Proof

/-- What the map and the tier hold. -/
def State.stored (s : State) : Mte × Dtc := (s.mte, s.dtc)

end Sys2Proof.Machine

namespace Sys2Proof.Machine.State

open Sys2Proof

variable (s : State)

/-- Every part of the state but the two is written freely; `(rfl)` stays a step of the simplifier, as with the plant. -/
@[simp] theorem stored_rest {pe ou fr ti om on rg sh ho pf cy fa pa mg fl pn pw th cr sl mc ca po fx hd sv} :
    stored { s with
      pending := pe, out := ou, free := fr, time := ti, opMs := om, opNs := on, regs := rg, shadow := sh, hold := ho, perf := pf, cyc := cy,
      freezeAll := fa, pages := pa, mgt := mg, flt := fl, pan := pn, pwr := pw, thm := th, crs := cr, slices := sl, mch := mc, cages := ca,
      ports := po, fxb := fx, heads := hd, sve := sv } = s.stored := (rfl)

@[simp] theorem stored_ite (c : Prop) [Decidable c] (a b : State) : (if c then a else b).stored = if c then a.stored else b.stored :=
  apply_ite _ _ _ _

@[simp] theorem each_stored {α : Type} (l : List α) (f : State → α → State) (hf : ∀ t x, (f t x).stored = t.stored) :
    (s.each l f).stored = s.stored := each_same State.stored hf

@[simp] theorem setHead_stored (i x) : (s.setHead i x).stored = s.stored := (rfl)
@[simp] theorem setCore_stored (n x) : (s.setCore n x).stored = s.stored := (rfl)
@[simp] theorem emit_stored (o) : (s.emit o).stored = s.stored := (rfl)
@[simp] theorem setReg_stored (page off w) : (s.setReg page off w).stored = s.stored := (rfl)
@[simp] theorem countUp_stored (page off lsb w by_) : (s.countUp page off lsb w by_).stored = s.stored := (rfl)
@[simp] theorem raise_stored (page src) : (s.raise page src).stored = s.stored := by simp [State.stored]
@[simp] theorem sendIbi_stored (mdb payload) : (s.sendIbi mdb payload).stored = s.stored := by simp [State.sendIbi]

/-! ### Event records -/

@[simp] theorem logInterrupt_stored (h log) : (s.logInterrupt h log).stored = s.stored := by simp [State.logInterrupt]
@[simp] theorem postRec_stored (h log r) : (s.postRec h log r).stored = s.stored := by simp [State.postRec]

/-! ### Handles and completions -/

@[simp] theorem assignCore_stored (n) : (s.assignCore n).stored = s.stored := by
  unfold State.assignCore
  split
  next => rfl
  next => split <;> rfl

@[simp] theorem assignCores_stored : s.assignCores.stored = s.stored := by simp [State.assignCores]
@[simp] theorem freeCore_stored (handle) : (s.freeCore handle).stored = s.stored := by simp [State.freeCore]
@[simp] theorem finishHandle_stored (r st) : (s.finishHandle r st).stored = s.stored := by simp [State.finishHandle]
@[simp] theorem cplNotice_stored (handle) : (s.cplNotice handle).stored = s.stored := by simp [State.cplNotice]

@[simp] theorem popWord_stored (q) : (s.popWord q).2.stored = s.stored := by
  unfold State.popWord
  split
  next => rfl
  next => split <;> rfl

@[simp] theorem holdHead_stored (q v) : (s.holdHead q v).stored = s.stored := by simp [State.holdHead]
@[simp] theorem answerHeldRead_stored (q) : (s.answerHeldRead q).stored = s.stored := by simp [State.answerHeldRead]
@[simp] theorem servePops_stored : s.servePops.stored = s.stored := by simp [State.servePops]
@[simp] theorem pushCpl_stored (p) : (s.pushCpl p).stored = s.stored := by simp [State.pushCpl]
@[simp] theorem queueHeadCpl_stored (h p) : (s.queueHeadCpl h p).stored = s.stored := by simp [State.queueHeadCpl]
@[simp] theorem pushHeadCpl_stored (h p) : (s.pushHeadCpl h p).stored = s.stored := by simp [State.pushHeadCpl]
@[simp] theorem answerSecured_stored (words) : (s.answerSecured words).stored = s.stored := by simp [State.answerSecured]

@[simp] theorem answerCmd_stored (q op tag status handle results) : (s.answerCmd q op tag status handle results).stored = s.stored := by
  unfold State.answerCmd
  split <;> simp

@[simp] theorem finish_stored (handle status results) : (s.finish handle status results).stored = s.stored := by
  unfold State.finish
  repeat' split
  all_goals simp

@[simp] theorem finishOp_stored (op status results) : (s.finishOp op status results).stored = s.stored := by simp [State.finishOp]

end Sys2Proof.Machine.State
end

section
/-! PROOFS. The commands that run under a handle (R99, R300, R302, R304, R398, R442, R444, R499, R558): a packet that spells its operands in
their defined bits passes the common checks, its operands are read back as they were given, and with no refusal left the command is accepted
and started. -/

namespace Sys2Proof.Machine

open Sys2Proof

variable {s : State} {q : Requester} {tag : Byte} {sec : Bool}

/-! ### Operands in their defined bits (R495) -/

theorem outside_eq_false_of_lt {w : Word} {n : Nat} (small : w.toNat < 2 ^ n) : outside w (2 ^ n - 1) = false := by
  simp only [outside, bne_eq_false_iff_eq]
  apply BitVec.eq_of_getLsbD_eq
  intro i bound
  simp only [BitVec.getLsbD_and, BitVec.getLsbD_not, BitVec.getLsbD_ofNat, Nat.testBit_two_pow_sub_one, bound, decide_true, Bool.true_and]
  by_cases low : i < n
  · simp [low]
  · have clear : w.getLsbD i = false :=
      Nat.testBit_lt_two_pow (small.trans_le (Nat.pow_le_pow_right Nat.two_pos (Nat.le_of_not_lt low)))
    simp [clear]

theorem outside_setWidth {n : Nat} (x : BitVec n) : outside (x.setWidth 32) (2 ^ n - 1) = false :=
  outside_eq_false_of_lt (by
    rw [BitVec.toNat_setWidth]
    exact (Nat.mod_le _ _).trans_lt x.isLt)

/-- A packet whose one argument is wholly in its defined bits. -/
theorem argument_defined {w : Word} {mask : Nat} (h : outside w mask = false) : ([w].zip [mask]).any (fun e => outside e.1 e.2) = false := by
  simp [h]

theorem bases_defined (bases : List (BitVec 27)) (n : Nat) :
    ((bases.map (fun b => (b.setWidth 32 : Word))).zip (List.replicate n 0x7ffffff)).any (fun e => outside e.1 e.2) = false := by
  rw [List.any_eq_false]
  rintro ⟨w, m⟩ mem
  obtain ⟨word, mask⟩ := List.of_mem_zip mem
  obtain ⟨b, -, rfl⟩ := List.mem_map.mp word
  rw [List.eq_of_mem_replicate mask]
  exact Bool.eq_false_iff.mp (outside_setWidth b)

/-! ### Operands read back (R492) -/

theorem fld_setWidth {n : Nat} (x : BitVec n) (narrow : n ≤ 32) : fld (x.setWidth 32 : Word) 0 n = x.toNat := by
  rw [fld, BitVec.toNat_setWidth_of_le narrow, pow_zero, Nat.div_one, Nat.mod_eq_of_lt x.isLt]

/-- The argument word of REWIND_TO and REWIND_DROP. -/
def rewindWord (r : Byte) (e : BitVec 16) : Word := BitVec.ofNat 32 (r.toNat + e.toNat * 2 ^ 8)

theorem rewindWord_toNat (r : Byte) (e : BitVec 16) : (rewindWord r e).toNat = r.toNat + e.toNat * 2 ^ 8 := by
  have := r.isLt
  have := e.isLt
  rw [rewindWord, BitVec.toNat_ofNat, Nat.mod_eq_of_lt (by omega)]

theorem rewindWord_defined (r : Byte) (e : BitVec 16) : outside (rewindWord r e) 0xffffff = false :=
  outside_eq_false_of_lt (n := 24) (by
    have := r.isLt
    have := e.isLt
    rw [rewindWord_toNat]
    omega)

theorem rewindWord_region (r : Byte) (e : BitVec 16) : fld (rewindWord r e) 0 8 = r.toNat := by
  have := r.isLt
  rw [fld, rewindWord_toNat]
  omega

theorem rewindWord_epoch (r : Byte) (e : BitVec 16) : BitVec.ofNat 16 (fld (rewindWord r e) 8 16) = e := by
  have := r.isLt
  apply BitVec.eq_of_toNat_eq
  rw [BitVec.toNat_ofNat, fld, rewindWord_toNat]
  omega

/-- The two words of an FGA hold it whole. -/
theorem fga_of_words (fga : Fga) : BitVec.ofNat 56 ((BitVec.ofNat 32 (fld fga 0 32) : Word).toNat +
    fld (BitVec.ofNat 32 (fld fga 32 24) : Word) 0 24 * 2 ^ 32) = fga := by
  have := fga.isLt
  apply BitVec.eq_of_toNat_eq
  simp only [fld, BitVec.toNat_ofNat]
  omega

theorem discardWords_defined (fga : Fga) (lines : Word) :
    ([BitVec.ofNat 32 (fld fga 0 32), BitVec.ofNat 32 (fld fga 32 24), lines].zip [0xffffffff, 0xffffff]).any
      (fun e => outside e.1 e.2) = false := by
  have low : outside (BitVec.ofNat 32 (fld fga 0 32)) 0xffffffff = false := outside_eq_false_of_lt (n := 32) (BitVec.isLt _)
  have high : outside (BitVec.ofNat 32 (fld fga 32 24)) 0xffffff = false :=
    outside_eq_false_of_lt (n := 24) (by rw [BitVec.toNat_ofNat, fld]; omega)
  simp [low, high]

/-! ### Key sets in words (R11, R497) -/

theorem ofBytesLE_append (a b : List Nat) : ofBytesLE (a ++ b) = ofBytesLE a + 256 ^ a.length * ofBytesLE b := by
  induction a with
  | nil => simp [ofBytesLE]
  | cons x a ih =>
    rw [List.cons_append, ofBytesLE, ih, ofBytesLE, List.length_cons, pow_succ]
    ring

theorem ofBytesLE_bytesLE (n x : Nat) : ofBytesLE (bytesLE n x) = x % 256 ^ n := by
  induction n generalizing x with
  | zero => simp [ofBytesLE, bytesLE, Nat.mod_one]
  | succ n ih => rw [bytesLE, ofBytesLE, ih, Nat.mod_mod, pow_succ', Nat.mod_mul]

theorem bytesLE_length (n x : Nat) : (bytesLE n x).length = n := by
  induction n generalizing x with
  | zero => rfl
  | succ n ih => rw [bytesLE, List.length_cons, ih]

/-- The low `n` words of a number, bits [31:0] first. -/
def lowWords {m : Nat} (x : BitVec m) (n : Nat) : List Word := (List.range n).map (fun i => BitVec.ofNat 32 (fld x (32 * i) 32))

/-- The bytes of words, first byte lowest. -/
def argBytes (l : List Word) : List Nat := l.flatMap (fun w => bytesLE 4 w.toNat)

theorem argBytes_append (a b : List Word) : argBytes (a ++ b) = argBytes a ++ argBytes b := List.flatMap_append

theorem argBytes_length (l : List Word) : (argBytes l).length = 4 * l.length := by
  simp [argBytes, List.length_flatMap, bytesLE_length, Nat.mul_comm]

theorem lowWords_succ {m : Nat} (x : BitVec m) (n : Nat) : lowWords x (n + 1) = lowWords x n ++ [BitVec.ofNat 32 (fld x (32 * n) 32)] := by
  simp [lowWords, List.range_succ]

theorem lowWords_length {m : Nat} (x : BitVec m) (n : Nat) : (lowWords x n).length = n := by simp [lowWords]

/-- A word's four bytes spell it. -/
theorem ofBytesLE_word (w : Word) : ofBytesLE (argBytes [w]) = w.toNat := by
  rw [argBytes, List.flatMap_singleton, ofBytesLE_bytesLE]
  exact Nat.mod_eq_of_lt w.isLt

theorem ofBytesLE_lowWords {m : Nat} (x : BitVec m) (n : Nat) : ofBytesLE (argBytes (lowWords x n)) = x.toNat % 2 ^ (32 * n) := by
  induction n with
  | zero => simp [lowWords, argBytes, ofBytesLE, Nat.mod_one]
  | succ n ih =>
    have base : 256 ^ (4 * n) = 2 ^ (32 * n) := by rw [show (256 : Nat) = 2 ^ 8 from rfl, ← pow_mul, ← Nat.mul_assoc]
    rw [lowWords_succ, argBytes_append, ofBytesLE_append, ih, argBytes_length, lowWords_length, base, ofBytesLE_word, BitVec.toNat_ofNat, fld,
      Nat.mod_mod, Nat.mul_succ, pow_add, Nat.mod_mul]

/-- A key of 256 bits is spelt by its eight words. -/
theorem key_of_lowWords (x : BitVec 256) : BitVec.ofNat 256 (ofBytesLE (argBytes (lowWords x 8))) = x := by
  rw [ofBytesLE_lowWords, Nat.mod_eq_of_lt x.isLt, BitVec.ofNat_toNat, BitVec.setWidth_eq]

theorem keyWordsOf_eq (k : KeySet) : keyWordsOf k = lowWords k.k1 8 ++ lowWords k.k2 8 ++ lowWords k.kt 8 := by
  simp [keyWordsOf, lowWords]

theorem keyWordsOf_length (k : KeySet) : (keyWordsOf k).length = 24 := by
  simp [keyWordsOf_eq, lowWords_length]

/-- The key set of an import is read back as it was given. -/
theorem wordsKeys_keyWordsOf (k : KeySet) : wordsKeys (keyWordsOf k) = k := by
  have first : ((keyWordsOf k).drop (8 * 0)).take 8 = lowWords k.k1 8 := by simp [keyWordsOf_eq, lowWords_length]
  have second : ((keyWordsOf k).drop (8 * 1)).take 8 = lowWords k.k2 8 := by simp [keyWordsOf_eq, lowWords_length]
  have third : ((keyWordsOf k).drop (8 * 2)).take 8 = lowWords k.kt 8 := by
    simp [keyWordsOf_eq, lowWords_length, List.drop_append, List.drop_eq_nil_of_le]
  simp only [wordsKeys, first, second, third]
  exact congr (congrArg₂ KeySet.mk (key_of_lowWords k.k1) (key_of_lowWords k.k2)) (key_of_lowWords k.kt)

/-! ### Acceptance (R493 to R495) -/

/-- No packet is longer than 128 words. -/
theorem cmdRow_hi_le {op : Nat} {r : CmdRow} (row : cmdRow op = some r) : r.hi ≤ 128 := by
  unfold cmdRow at row
  split at row <;> cases row <;> decide

/-- A command with its row's length and bits, from a requester with its right, passes the checks of R495. -/
theorem State.command_runs {op : Byte} {args : List Word} {n : Nat} {masks : List Nat} (normal : s.safe = false)
    (row : cmdRow op.toNat = some ⟨some n, args.length + 1, args.length + 1, masks⟩)
    (defined : (args.zip masks).any (fun e => outside e.1 e.2) = false) (right : s.hasRight q n = true) :
    s.command q sec (packet op.toNat tag args) = s.runCmd ⟨q, op, tag, sec⟩ args :=
  have short : args.length < 255 := Nat.lt_of_succ_lt ((cmdRow_hi_le row).trans_lt (by decide))
  command_packet s q sec op tag args _ short row le_rfl le_rfl defined (by simp [right]) (by simp [normal])

/-! ### What each command does once it runs

While WSNs are left (log 68), the arm of a command that nothing refuses is its long operation, with the operands that its words spell. -/

section
variable (live : s.mte.wsnEnd = false)
include live

theorem runCmd_discard {fga : Fga} {lines : Word} (free : s.discardRefusal fga lines = none) :
    s.runCmd ⟨q, 0x20, tag, sec⟩ [BitVec.ofNat 32 (fld fga 0 32), BitVec.ofNat 32 (fld fga 32 24), lines] =
      s.long ⟨q, 0x20, tag, sec⟩ (fun s h => s.discardStart h fga lines) := by
  simp only [State.runCmd, live, List.getD_cons_zero, List.getD_cons_succ, fga_of_words, State.longUnless, free]
  rfl

theorem runCmd_rewindMark {r : Byte} (free : s.markRefusal r.toNat true = none) :
    s.runCmd ⟨q, 0x21, tag, sec⟩ [r.setWidth 32] =
      s.long ⟨q, 0x21, tag, sec⟩ (fun s h => s.startMark r.toNat (s.rwr r.toNat).epoch h none) := by
  simp [State.runCmd, live, fld_setWidth r, State.longUnless, free]

theorem runCmd_rewindTo {r : Byte} {e : BitVec 16} (free : s.toRefusal r.toNat e true = none) :
    s.runCmd ⟨q, 0x22, tag, sec⟩ [rewindWord r e] = s.long ⟨q, 0x22, tag, sec⟩ (fun s h => s.startTo r.toNat e h none) := by
  simp [State.runCmd, live, rewindWord_region, rewindWord_epoch, State.longUnless, free]

theorem runCmd_rewindDrop {r : Byte} {e : BitVec 16} (free : s.dropRefusal r.toNat e true = none) :
    s.runCmd ⟨q, 0x23, tag, sec⟩ [rewindWord r e] = s.long ⟨q, 0x23, tag, sec⟩ (fun s h => s.startDrop r.toNat e h none) := by
  simp [State.runCmd, live, rewindWord_region, rewindWord_epoch, State.longUnless, free]

theorem runCmd_krSet {bases : List (BitVec 27)} (free : s.krSetRefusal bases = none) :
    s.runCmd ⟨q, 0x30, tag, sec⟩ (bases.map (fun b => b.setWidth 32)) = s.long ⟨q, 0x30, tag, sec⟩ (fun s h => s.krSet bases h) := by
  simp [State.runCmd, live, Function.comp_def, State.longUnless, free]

theorem runCmd_keyGen {r : BitVec 6} (free : s.keyRefusal r.toNat none = none) :
    s.runCmd ⟨q, 0x31, tag, sec⟩ [r.setWidth 32] =
      s.long ⟨q, 0x31, tag, sec⟩ (fun s h => s.drawKeys.2.keyOp r.toNat (some s.drawKeys.1) h) := by
  simp [State.runCmd, live, fld_setWidth r, State.longUnless, free]

theorem runCmd_keyImport {r : BitVec 6} {k : KeySet} (free : s.keyRefusal r.toNat (some k) = none) :
    s.runCmd ⟨q, 0x32, tag, true⟩ (r.setWidth 32 :: keyWordsOf k) =
      s.long ⟨q, 0x32, tag, true⟩ (fun s h => s.keyOp r.toNat (some k) h) := by
  simp [State.runCmd, live, fld_setWidth r, wordsKeys_keyWordsOf, State.longUnless, free]

theorem runCmd_keyErase {r : BitVec 6} (custodian : s.fxb.role = 1) :
    s.runCmd ⟨q, 0x33, tag, sec⟩ [r.setWidth 32] = s.long ⟨q, 0x33, tag, sec⟩ (fun s h => s.keyOp r.toNat none h) := by
  simp [State.runCmd, live, fld_setWidth r, State.longUnless, custodian]

theorem runCmd_fwStart {len : Word} (free : s.fwRefusal len = none) :
    s.runCmd ⟨q, 0x41, tag, sec⟩ [len] = s.long ⟨q, 0x41, tag, sec⟩ (fun s h => s.fwStart len h) := by
  simp [State.runCmd, live, free]

theorem runCmd_powerState {w : Word} (free : s.powerRefusal w = none) :
    s.runCmd ⟨q, 0x51, tag, sec⟩ [w] = s.long ⟨q, 0x51, tag, sec⟩ (fun s h => s.powerGo w h) := by
  simp [State.runCmd, live, State.longUnless, free]

theorem runCmd_sanitize (free : s.sanitizeRefusal = none) :
    s.runCmd ⟨q, 0x53, tag, sec⟩ [] = s.long ⟨q, 0x53, tag, sec⟩ (fun s _ => s) := by
  simp [State.runCmd, live, State.longUnless, free]

end

/-! ### The commands -/

section
variable (started : s.pages.started = true) (normal : s.safe = false) (live : s.mte.wsnEnd = false)

include started normal in
/-- A command whose checks are passed and that starts a long operation. -/
theorem cmd_starts {op : Byte} {args : List Word} {n : Nat} {masks : List Nat} {work : State → Word → State}
    (row : cmdRow op.toNat = some ⟨some n, args.length + 1, args.length + 1, masks⟩)
    (defined : (args.zip masks).any (fun e => outside e.1 e.2) = false) (right : s.hasRight q n = true)
    (run : s.runCmd ⟨q, op, tag, false⟩ args = s.long ⟨q, op, tag, false⟩ work) :
    Host.Outcome.next (φ := Fault) (ρ := Refusal) (s.withPins (fun s => s.cmd q op.toNat tag args)) =
      .next (s.withPins (fun s => (s.long ⟨q, op, tag, false⟩ work).drain)) := by
  refine congrArg Host.Outcome.next (withPins_congr ?_)
  rw [State.cmd, if_pos started, State.command_runs normal row defined right, run]

include started normal live

theorem keyImport_starts {r : BitVec 6} {k : KeySet} (right : s.hasRight q 5 = true) (session : s.inSession = true)
    (free : s.keyRefusal r.toNat (some k) = none) :
    exec (.keyImport q tag true (r.setWidth 32) k) s =
      .next (s.withPins (fun s => (s.long ⟨q, 0x32, tag, true⟩ (fun s h => s.keyOp r.toNat (some k) h)).drain)) := by
  refine congrArg Host.Outcome.next (withPins_congr ?_)
  have words : (r.setWidth 32 :: keyWordsOf k).length = 25 := by rw [List.length_cons, keyWordsOf_length]
  have accepted : s.command q true (packet 0x32 tag (r.setWidth 32 :: keyWordsOf k)) =
      s.runCmd ⟨q, 0x32, tag, true⟩ (r.setWidth 32 :: keyWordsOf k) :=
    State.command_runs (op := 0x32) (masks := [0x3f]) normal (by rw [words]; rfl) (argument_defined (outside_setWidth r)) right
  rw [if_pos started, session, Bool.and_true, accepted, runCmd_keyImport live free]

theorem krSet_starts {bases : List (BitVec 27)} (right : s.hasRight q 5 = true) (count : bases.length = 63)
    (free : s.krSetRefusal bases = none) :
    exec (.krSet q tag (bases.map (fun b => b.setWidth 32))) s =
      .next (s.withPins (fun s => (s.long ⟨q, 0x30, tag, false⟩ (fun s h => s.krSet bases h)).drain)) := by
  have words : (bases.map (fun b => (b.setWidth 32 : Word))).length = 63 := by rw [List.length_map, count]
  exact cmd_starts (op := 0x30) started normal (by rw [words]; rfl) (bases_defined bases 63) right (runCmd_krSet live free)

end

/-! ### The end of SANITIZE -/

theorem State.sanitizeAll_empties (s : State) : s.sanitizeAll.ageVoids.mte.map = [] ∧ s.sanitizeAll.ageVoids.dtc.frames = [] := ⟨rfl, rfl⟩

/-- The completions leave the map and the tier as the erases left them. -/
theorem sanitizeDone_empties {x : HandleRec} (mem : x ∈ s.mgt.handles) (sanitize : x.op = 0x53) (running : x.st ≠ 3) :
    ∃ t, exec .sanitizeDone s = .next t ∧ t.mte.map = [] ∧ t.dtc.frames = [] := by
  have runs : s.mgt.handles.any (fun (x : HandleRec) => x.op == 0x53 && x.st != 3) = true :=
    List.any_eq_true.mpr ⟨x, mem, by simp [sanitize, running]⟩
  have kept := State.finishOp_stored s.sanitizeAll.ageVoids 0x53 stOk []
  have map : (s.sanitizeAll.ageVoids.finishOp 0x53 stOk []).mte = s.sanitizeAll.ageVoids.mte := congrArg Prod.fst kept
  have tier : (s.sanitizeAll.ageVoids.finishOp 0x53 stOk []).dtc = s.sanitizeAll.ageVoids.dtc := congrArg Prod.snd kept
  obtain ⟨noMap, noFrames⟩ := s.sanitizeAll_empties
  exact ⟨_, congrArg Host.Outcome.next (if_pos runs), by rw [map, noMap], by rw [tier, noFrames]⟩

/-- Settles O32, command by command. -/
theorem longCommands : Obligations.LongCommands := fun _ _ _ started normal live =>
  ⟨fun fga lines right free => cmd_starts (op := 0x20) started normal rfl (discardWords_defined fga lines) right
     (runCmd_discard live free),
   fun r right free => cmd_starts (op := 0x21) started normal rfl (argument_defined (outside_setWidth r)) right
     (runCmd_rewindMark live free),
   fun r e right free => cmd_starts (op := 0x22) started normal rfl (argument_defined (rewindWord_defined r e)) right
     (runCmd_rewindTo live free),
   fun r e right free => cmd_starts (op := 0x23) started normal rfl (argument_defined (rewindWord_defined r e)) right
     (runCmd_rewindDrop live free),
   fun _ right count free => krSet_starts started normal live right count free,
   fun r right free => cmd_starts (op := 0x31) started normal rfl (argument_defined (outside_setWidth r)) right
     (runCmd_keyGen live free),
   fun _ _ right session free => keyImport_starts started normal live right session free,
   fun r right custodian => cmd_starts (op := 0x33) started normal rfl (argument_defined (outside_setWidth r)) right
     (runCmd_keyErase live custodian),
   fun _ right free => cmd_starts (op := 0x41) started normal rfl rfl right (runCmd_fwStart live free),
   fun w right free => cmd_starts (op := 0x51) started normal rfl (argument_defined (outside_setWidth w)) right
     (runCmd_powerState live free),
   fun right free => cmd_starts (op := 0x53) started normal rfl rfl right (runCmd_sanitize live free),
   fun _ mem sanitize running => sanitizeDone_empties mem sanitize running⟩

end Sys2Proof.Machine
end

section
/-! PROOFS. The block registers that act when they are written (R118, R121, R128, R203, R208, R244, R362, R466, R521, R527): a write that
every rule accepts is the effect of its register on the unit of its page. -/

namespace Sys2Proof.Machine

open Sys2Proof

variable {s : State} {q : Requester} {w : Word} {page off : Nat}

/-- The register of a page's block that an accepted write reaches, and that its effect is all the write does. -/
theorem pageWrite_block {k : PageKind} (kind : pageKind page = some k) (block : 0x100 ≤ off) (inside : off < 4096)
    (ok : s.accepts q page off w = true) :
    ∃ r : RegWord, r.off = off ∧ s.pageWrite q page off w = (s.writeBlock q page k r w).drain := by
  obtain ⟨r, word⟩ : ∃ r, regWord page off = some r := by
    cases found : regWord page off with
    | some r => exact ⟨r, rfl⟩
    | none => simp [State.accepts, kind, found] at ok
  obtain ⟨-, rfl⟩ := regWord_some word
  refine ⟨r, rfl, ?_⟩
  rw [pageWrite_accepts inside (regWord_aligned word) kind word ok, State.acceptWrite, if_neg (Nat.not_lt.mpr block)]

/-- A command that is the write of a block register does what `effect` does, where every block register at that offset does it. -/
theorem withPins_pageWrite {k : PageKind} {effect : State → State} (kind : pageKind page = some k) (block : 0x100 ≤ off)
    (inside : off < 4096) (ok : s.accepts q page off w = true)
    (acts : ∀ r : RegWord, r.off = off → s.writeBlock q page k r w = effect s) :
    Host.Outcome.next (φ := Fault) (ρ := Refusal) (s.withPins (fun s => s.pageWrite q page off w)) =
      .next (s.withPins (fun s => (effect s).drain)) := by
  obtain ⟨r, at_, write⟩ := pageWrite_block kind block inside ok
  exact congrArg Host.Outcome.next (withPins_congr (write.trans (congrArg State.drain (acts r at_))))

/-! ### The instances of a page kind (R577) -/

theorem pageKind_slice (sl : Fin 8) : pageKind (slcPage sl.val) = some .slc := by decide +revert
theorem pageKind_dramChannel (c : Fin 16) : pageKind (dchPage c.val) = some .dtcCh := by decide +revert
theorem pageKind_mediaChannel (ch : Fin 64) : pageKind (chanPage ch.val) = some .mchCh := by decide +revert
theorem pageKind_portBlock (p : Fin 64) : pageKind (0x100 + p.val) = some .prt := by decide +revert

theorem slcPage_sub (n : Nat) : slcPage n - 0x010 = n := Nat.add_sub_cancel_left ..
theorem dchPage_sub (c : Nat) : dchPage c - 0x018 = c := Nat.add_sub_cancel_left ..
theorem chanPage_sub (ch : Nat) : chanPage ch - 0x040 = ch := Nat.add_sub_cancel_left ..

/-! ### The words -/

/-- A word of four die bits asks for no channel fence. -/
theorem bitAt_dies_channel (d : BitVec 4) : bitAt (d.setWidth 32) 31 = false := by simp [bitAt]

theorem mchCtlDies_dies (ch : Nat) (d : BitVec 4) :
    mchCtlDies ch (d.setWidth 32) = ((List.range 4).filter (fun i => d.getLsbD i)).map (fun i => 4 * ch + i) := by
  rw [mchCtlDies]
  refine congrArg (List.map _) (List.filter_congr fun i mem => ?_)
  have small : i < 32 := (List.mem_range.mp mem).trans (by decide)
  simp [bitAt, small]

/-! ### What each register does -/

section
variable {r : RegWord}

theorem writeBlock_lcCtl (at_ : r.off = 0x104) : s.writeBlock q page .slc r w = s.writeLcCtl page w := by
  simp only [State.writeBlock, at_]

theorem writeBlock_invCtl (n : Nat) (at_ : r.off = 0x10c) (start : bitAt w 31 = true) (full : bitAt w 30 = true) :
    s.writeBlock q (slcPage n) .slc r w = s.queueInv n .full := by
  simp only [State.writeBlock, at_, State.writeInvCtl, start, full, slcPage_sub, Bool.not_true, Bool.false_eq_true, if_false, if_true]

theorem writeBlock_lockCtl (n : Nat) (at_ : r.off = 0x148) :
    s.writeBlock q (slcPage n) .slc r w = s.each ((List.range 4).filter (fun g => bitAt w g)) (fun s g => s.startPreload n g) := by
  simp only [State.writeBlock, at_, State.writeLockCtl, slcPage_sub]

theorem writeBlock_dchFence (c : Nat) (at_ : r.off = 0x110) :
    s.writeBlock q (dchPage c) .dtcCh r 0x80000000 = s.fenceDch c 6 := by
  simp only [State.writeBlock, at_, State.writeDchCtl, dchPage_sub]
  rfl

theorem writeBlock_dchReadmit (c : Nat) (at_ : r.off = 0x110) :
    s.writeBlock q (dchPage c) .dtcCh r 0x40000000 = (s.setSocket c { s.socket c with readmit := true }).unfence 5 c := by
  simp only [State.writeBlock, at_, State.writeDchCtl, dchPage_sub]
  rfl

theorem writeBlock_chanFence (ch : Nat) (at_ : r.off = 0x10c) :
    s.writeBlock q (chanPage ch) .mchCh r 0x80000000 = s.fenceChan ch 3 := by
  simp only [State.writeBlock, at_, State.writeMchCtl, chanPage_sub]
  rfl

theorem writeBlock_dieFence (ch : Nat) (d : BitVec 4) (at_ : r.off = 0x10c) :
    s.writeBlock q (chanPage ch) .mchCh r (d.setWidth 32) =
      s.each (((List.range 4).filter (fun i => d.getLsbD i)).map (fun i => 4 * ch + i)) (fun s d => s.fenceDieFor d 3) := by
  simp only [State.writeBlock, at_, State.writeMchCtl, chanPage_sub, bitAt_dies_channel, mchCtlDies_dies, Bool.false_eq_true, if_false]

theorem writeBlock_retrain (p : Nat) (at_ : r.off = 0x104) : s.writeBlock q (0x100 + p) .prt r w =
    s.retrain (((List.range 8).filter (fun j => bitAt w j)).map (fun j => 8 * p + j)) 8 := by
  simp only [State.writeBlock, at_, Nat.add_sub_cancel_left]

theorem writeBlock_consent (at_ : r.off = 0x108) (consent : bitAt w 31 = true) : s.writeBlock q page .crs3 r w = s.openConsent := by
  simp only [State.writeBlock, at_, State.when_, consent, if_true]

theorem writeBlock_inject (at_ : r.off = 0x128) (now : bitAt w 31 = true) :
    s.writeBlock q page .flt r w = s.inject (fld w 28 3) (fld w 24 4) (fld w 0 20) := by
  simp only [State.writeBlock, at_, State.writeInj, now, if_true]

theorem writeBlock_cursor (at_ : r.off = 0x108) : s.writeBlock q page .evr r w = s.evrCursor w.toNat := by
  simp only [State.writeBlock, at_]

theorem writeBlock_next (at_ : r.off = 0x10c) : s.writeBlock q page .evr r w = s.evrNext (fld w 0 3) := by
  simp only [State.writeBlock, at_]

end

/-- NEXT moves from the record in the window (R527). -/
theorem State.evrNext_of_window {r : Record} (window : s.flt.window = some r) : s.evrNext 1 = s.evrMove (fun x => r.seq < x.seq) true := by
  simp only [State.evrNext, window, if_true]

/-- The window opens with the challenge just drawn (R466). -/
theorem crsTestConsent_opens (ok : s.accepts q 0x00b 0x108 w = true) (consent : bitAt w 31 = true) :
    ∃ u : State, exec (.crsTestConsent q w) s = .next (s.withPins (fun _ => u.drain)) ∧ u.crs.window = true ∧
      u.crs.nonce = BitVec.ofNat 64 (s.fresh).1 :=
  ⟨s.openConsent, (withPins_pageWrite (effect := State.openConsent) rfl (by decide) (by decide) ok fun _ at_ =>
    writeBlock_consent at_ consent).trans (congrArg Host.Outcome.next (withPins_congr rfl)), rfl, rfl⟩

/-- A move of the recorder's cursor is the write of its operation to EVR_NEXT. -/
theorem evrNext_moves {op : Nat} {move : State → State} (ok : s.accepts q 0x005 0x10c w = true) (code : fld w 0 3 = op)
    (moves : s.evrNext op = move s) : Host.Outcome.next (φ := Fault) (ρ := Refusal) (s.withPins (fun s => s.pageWrite q 0x005 0x10c w)) =
      .next (s.withPins (fun s => (move s).drain)) :=
  withPins_pageWrite rfl (by decide) (by decide) ok fun _ at_ => by rw [writeBlock_next at_, code, moves]

/-- Settles O25, register by register. -/
theorem blockRegisters : Obligations.BlockRegisters := fun s q w =>
  ⟨fun sl ok => withPins_pageWrite (pageKind_slice sl) (by decide) (by decide) ok fun _ => writeBlock_lcCtl,
   fun sl ok start full => withPins_pageWrite (pageKind_slice sl) (by decide) (by decide) ok fun _ at_ =>
     writeBlock_invCtl sl.val at_ start full,
   fun sl ok => withPins_pageWrite (pageKind_slice sl) (by decide) (by decide) ok fun _ => writeBlock_lockCtl sl.val,
   fun c ok => withPins_pageWrite (pageKind_dramChannel c) (by decide) (by decide) ok fun _ => writeBlock_dchFence c.val,
   fun c ok => withPins_pageWrite (pageKind_dramChannel c) (by decide) (by decide) ok fun _ => writeBlock_dchReadmit c.val,
   fun ch ok => withPins_pageWrite (pageKind_mediaChannel ch) (by decide) (by decide) ok fun _ => writeBlock_chanFence ch.val,
   fun ch d ok => withPins_pageWrite (pageKind_mediaChannel ch) (by decide) (by decide) ok fun _ => writeBlock_dieFence ch.val d,
   fun p ok => withPins_pageWrite (pageKind_portBlock p) (by decide) (by decide) ok fun _ => writeBlock_retrain p.val,
   fun ok consent => crsTestConsent_opens ok consent,
   fun ok now => withPins_pageWrite rfl (by decide) (by decide) ok fun _ at_ => writeBlock_inject at_ now,
   fun ok => withPins_pageWrite rfl (by decide) (by decide) ok fun _ at_ => writeBlock_cursor at_,
   fun ok _ window => evrNext_moves ok rfl (State.evrNext_of_window window),
   fun ok => evrNext_moves ok rfl rfl,
   fun ok => evrNext_moves ok rfl rfl⟩

end Sys2Proof.Machine
end

section
/-! PROOFS. What the work of a slice leaves alone: the times of its uncorrectable SRAM errors (R514). One equation per operation that writes a
slice, in the order of the model's files; the simplifier goes through the others by their equations for the slices. -/

namespace Sys2Proof.Machine

open Sys2Proof

/-- When each slice had its uncorrectable SRAM errors. -/
def errorTimes (w : Tab Slice × List (BitVec 4 × BitVec 20)) (n : Nat) : List Nat := (w.1.get {} n).ues

@[simp] theorem errorTimes_ite (c : Prop) [Decidable c] (v w : Tab Slice × List (BitVec 4 × BitVec 20)) :
    errorTimes (if c then v else w) = if c then errorTimes v else errorTimes w := apply_ite _ _ _ _

@[simp] theorem Slice.setWay_ues (x : Slice) (set w v) : (x.setWay set w v).ues = x.ues := (rfl)
@[simp] theorem Slice.refresh_ues (x : Slice) (a v) : (x.refresh a v).ues = x.ues := (rfl)

theorem Slice.foldl_same {α β : Type} (π : Slice → β) {f : Slice → α → Slice} (hf : ∀ y v, π (f y v) = π y) (l : List α) (x : Slice) :
    π (l.foldl f x) = π x := by
  induction l generalizing x with
  | nil => rfl
  | cons v l ih => rw [List.foldl_cons, ih, hf]

/-- A touch writes ways alone. -/
theorem Slice.touch_same {β : Type} (π : Slice → β) (hπ : ∀ (y : Slice) set w v, π (y.setWay set w v) = π y) (x : Slice) (set cls w age) :
    π (x.touch set cls w age) = π x := by
  refine (hπ _ _ _ _).trans (Slice.foldl_same π (fun y v => ?_) cls x)
  dsimp only
  split
  · exact hπ _ _ _ _
  · rfl

@[simp] theorem Slice.touch_ues (x : Slice) (set cls w age) : (x.touch set cls w age).ues = x.ues :=
  Slice.touch_same Slice.ues (fun _ _ _ _ => rfl) x set cls w age

end Sys2Proof.Machine

namespace Sys2Proof.Machine.State

open Sys2Proof

variable (s : State)

@[simp] theorem slice_ues (n) : (s.slice n).ues = errorTimes (s.ward .slices) n := (rfl)

@[simp] theorem setSlice_times {i x} (h : x.ues = errorTimes (s.ward .slices) i) :
    errorTimes ((s.setSlice i x).ward .slices) = errorTimes (s.ward .slices) := by
  funext n
  rw [← slice_ues, ← slice_ues]
  rcases eq_or_ne n i with rfl | other
  · rw [slice_setSlice, h, slice_ues]
  · rw [slice_setSlice_other s x other]

@[simp] theorem each_times {α : Type} (l : List α) (f : State → α → State)
    (hf : ∀ t x, errorTimes ((f t x).ward .slices) = errorTimes (t.ward .slices)) :
    errorTimes ((s.each l f).ward .slices) = errorTimes (s.ward .slices) := each_same (fun t => errorTimes (t.ward .slices)) hf

theorem times_of_eq {s t : State} {α : Type} {r : α × State} {x : α} (e : r = (x, t))
    (h : errorTimes (r.2.ward .slices) = errorTimes (s.ward .slices)) : errorTimes (t.ward .slices) = errorTimes (s.ward .slices) := by
  rw [e] at h; exact h

/-! ### The merge store and release -/

@[simp] theorem updateWay_times (n a data poison) : errorTimes ((s.updateWay n a data poison).ward .slices) = errorTimes (s.ward .slices) := by
  unfold State.updateWay
  dsimp only
  repeat' split
  all_goals simp

@[simp] theorem freeLane_times (n uid) : errorTimes ((s.freeLane n uid).ward .slices) = errorTimes (s.ward .slices) := by
  simp [State.freeLane]

@[simp] theorem mergeLine_times (n a data poison all) :
    errorTimes ((s.mergeLine n a data poison all).ward .slices) = errorTimes (s.ward .slices) := by
  unfold State.mergeLine
  dsimp only
  repeat' split
  all_goals simp

@[simp] theorem checkHigh_times (n) : errorTimes ((s.checkHigh n).ward .slices) = errorTimes (s.ward .slices) := by
  unfold State.checkHigh
  dsimp only
  split <;> simp

@[simp] theorem tellReleased_ward {p} (a ws) : (s.tellReleased a ws).ward p = s.ward p := by simp [State.tellReleased]

@[simp] theorem releaseLine_times (n a data poison ws) :
    errorTimes ((s.releaseLine n a data poison ws).ward .slices) = errorTimes (s.ward .slices) := by
  simp [State.releaseLine]

@[simp] theorem refuseEntry_times (n e) : errorTimes ((s.refuseEntry n e).ward .slices) = errorTimes (s.ward .slices) := by
  unfold State.refuseEntry
  split <;> simp

@[simp] theorem releaseNow_times (n e cur) : errorTimes ((s.releaseNow n e cur).ward .slices) = errorTimes (s.ward .slices) := by
  unfold State.releaseNow
  dsimp only
  repeat' split
  all_goals simp

@[simp] theorem readsFirst_times (n e) : errorTimes ((s.readsFirst n e).ward .slices) = errorTimes (s.ward .slices) := by
  unfold State.readsFirst
  dsimp only
  refine (congrArg errorTimes (each_ward _ _ _ fun t w => by simp)).trans ((setSlice_times _ (by simp)).trans (each_times _ _ _ fun t m => ?_))
  split
  · rfl
  · split <;> simp

@[simp] theorem forceRelease_times (n e keepVolatile) :
    errorTimes ((s.forceRelease n e keepVolatile).ward .slices) = errorTimes (s.ward .slices) := by
  unfold State.forceRelease
  dsimp only
  repeat' split
  all_goals simp

@[simp] theorem forceLanes_times (n ok keepVolatile) :
    errorTimes ((s.forceLanes n ok keepVolatile).ward .slices) = errorTimes (s.ward .slices) := by
  simp [State.forceLanes]

@[simp] theorem drainMarks_times (n ok) : errorTimes ((s.drainMarks n ok).ward .slices) = errorTimes (s.ward .slices) := by
  simp [State.drainMarks]

@[simp] theorem fenceSlice_times (n) : errorTimes ((s.fenceSlice n).ward .slices) = errorTimes (s.ward .slices) := by
  simp [State.fenceSlice]

@[simp] theorem poisonWaiting_ward {p} (a) : (s.poisonWaiting a).ward p = s.ward p :=
  (badAll_ward _ _ _).trans (ward_rest _)

/-! ### Admission -/

@[simp] theorem setMiss_times (a m) : errorTimes ((s.setMiss a m).ward .slices) = errorTimes (s.ward .slices) := by simp [State.setMiss]

@[simp] theorem missRead_times (n a w) : errorTimes ((s.missRead n a w).ward .slices) = errorTimes (s.ward .slices) := by
  unfold State.missRead
  dsimp only
  repeat' split
  all_goals simp

@[simp] theorem readWay_times (n a e) : errorTimes ((s.readWay n a e).2.ward .slices) = errorTimes (s.ward .slices) := by
  unfold State.readWay
  dsimp only
  repeat' split
  all_goals simp

@[simp] theorem lookRead_times (n a w) : errorTimes ((s.lookRead n a w).ward .slices) = errorTimes (s.ward .slices) := by
  unfold State.lookRead
  dsimp only
  iterate 4
    split
    · simp
  split
  next e => simp [times_of_eq e (readWay_times ..)]
  next e => simp [times_of_eq e (readWay_times ..)]

@[simp] theorem admitRead_times (n a w) : errorTimes ((s.admitRead n a w).ward .slices) = errorTimes (s.ward .slices) := by
  simp [State.admitRead]

@[simp] theorem admitEntry_times (n e) : errorTimes ((s.admitEntry n e).ward .slices) = errorTimes (s.ward .slices) := by
  unfold State.admitEntry
  dsimp only
  repeat' split
  case h_1.isFalse => exact (congrArg errorTimes (each_ward _ _ _ fun t w => by split <;> simp)).trans (by simp)
  all_goals simp

@[simp] theorem admitOne_times (n kept r) : errorTimes ((s.admitOne n kept r).2.ward .slices) = errorTimes (s.ward .slices) := by
  unfold State.admitOne
  dsimp only
  repeat' split
  all_goals simp

@[simp] theorem admitList_times (n kept l) : errorTimes ((s.admitList n kept l).2.ward .slices) = errorTimes (s.ward .slices) := by
  induction l generalizing s kept with
  | nil => rfl
  | cons r t ih => simp [admitList, ih]

@[simp] theorem admitAll_times (n) : errorTimes ((s.admitAll n).ward .slices) = errorTimes (s.ward .slices) := by simp [State.admitAll]

end Sys2Proof.Machine.State
end

section
/-! PROOFS. The commands of a slice (R114, R121 to R125, R128, R135, R514; log 70): the end of an invalidation, the commit of the lock
shadows, the end of a preload, and an error of the proofing buffer. -/

namespace Sys2Proof.Machine

open Sys2Proof

variable {s : State} {n : Nat}

/-! ### Invalidation -/

/-- The ways of a slice that a request covers are gone, and nothing else of the slice has changed. -/
theorem State.sweep_slice (s : State) (n : Nat) (r : InvReq) : (s.sweep n r).slice n = { s.slice n with
    lc := (s.slice n).lc.filter (fun e => !(e.2.valid && r.covers (keyLine n e.1 e.2) e.2.region)) } := by
  unfold State.sweep
  dsimp only
  split
  · exact State.slice_setSlice _ _ _
  · rw [State.slice_of_ward ((State.raise_ward _ _ _).trans (State.countUp_ward _ _ _ _ _ _)), State.slice_setSlice]

/-- The start of the engine marks misses and lane entries; the ways and the queue stay. -/
theorem State.startInv_ways_queue (s : State) (n : Nat) :
    ((s.startInv n).slice n).lc = (s.slice n).lc ∧ ((s.startInv n).slice n).inv = (s.slice n).inv := by
  unfold State.startInv
  dsimp only
  split
  · exact ⟨rfl, rfl⟩
  · rw [State.slice_setSlice]
    exact ⟨rfl, rfl⟩

/-- The walk of the running invalidation has ended, and the next request is at the front. -/
def State.invEnded (s : State) (n : Nat) (r : InvReq) (rest : List InvReq) : State :=
  let u := (s.sweep n r).setSlice n { (s.sweep n r).slice n with inv := rest }
  if r == .full then u.setRegFld (slcPage n) 0x108 1 1 1 else u

theorem State.invDone_running {r : InvReq} {rest : List InvReq} (running : (s.slice n).inv = r :: rest) :
    s.invDone n = (s.invEnded n r rest).startInv n := by
  simp only [State.invDone, running, State.invEnded]

theorem State.invEnded_slice (s : State) (n : Nat) (r : InvReq) (rest : List InvReq) :
    (s.invEnded n r rest).slice n = { (s.sweep n r).slice n with inv := rest } := by
  unfold State.invEnded
  dsimp only
  split
  · rw [State.slice_of_ward (State.setRegFld_ward _ _ _ _ _ _), State.slice_setSlice]
  · rw [State.slice_setSlice]

theorem State.invDone_ways_queue {r : InvReq} {rest : List InvReq} (running : (s.slice n).inv = r :: rest) :
    ((s.invDone n).slice n).lc = (s.slice n).lc.filter (fun e => !(e.2.valid && r.covers (keyLine n e.1 e.2) e.2.region)) ∧
    ((s.invDone n).slice n).inv = rest := by
  rw [State.invDone_running running, (State.startInv_ways_queue _ n).1, (State.startInv_ways_queue _ n).2, State.invEnded_slice,
    State.sweep_slice]
  exact ⟨rfl, rfl⟩

theorem invalidationDone_sweeps (sl : Fin 8) {r : InvReq} {rest : List InvReq} (running : (s.slice sl.val).inv = r :: rest) :
    ∃ t, exec (.invalidationDone sl) s = .next t ∧ (t.slice sl.val).inv = rest ∧
      ∀ e ∈ (t.slice sl.val).lc, e.2.valid = true → r.covers (keyLine sl.val e.1 e.2) e.2.region = false := by
  obtain ⟨ways, queue⟩ := State.invDone_ways_queue running
  have same : (s.withPins (fun s => s.invDone sl.val)).slice sl.val = (s.invDone sl.val).slice sl.val :=
    State.slice_of_ward (State.withPins_ward _ _) _
  refine ⟨_, rfl, by rw [same, queue], fun e mem valid => ?_⟩
  rw [same, ways, List.mem_filter, valid, Bool.true_and, Bool.not_eq_true'] at mem
  exact mem.2

/-! ### Lock commit -/

/-- One register takes its shadow. -/
def State.takeShadow (s : State) (page off : Nat) : State :=
  { s.setReg page off (s.shadowReg page off) with shadow := s.shadow.del (regAddr page off) }

theorem State.takeShadow_reg (s : State) (page off : Nat) : (s.takeShadow page off).reg page off = s.shadowReg page off :=
  State.reg_setReg _ _ _ _

/-- Registers that are not among those that take their shadows keep their words. -/
theorem State.takeShadows_reg_other {page off : Nat} {l : List Nat} (h : off ∉ l) (s : State) :
    (s.each l (fun s o => s.takeShadow page o)).reg page off = s.reg page off := by
  induction l generalizing s with
  | nil => rfl
  | cons o l ih =>
    obtain ⟨other, later⟩ := not_or.mp (mt List.mem_cons.mpr h)
    refine (ih later (s.takeShadow page o)).trans (State.reg_setReg_other s _ fun same => other ?_)
    exact Nat.add_left_cancel same

/-- The registers of the lock groups, SLC_LOCK_WAYS first (R125). -/
theorem State.commitLocks_regs (s : State) (n : Nat) : (s.commitLocks n).regs =
    ((s.takeShadow (slcPage n) 0x120).each [0x128, 0x12c, 0x130, 0x134, 0x138, 0x13c, 0x140, 0x144]
      (fun s o => s.takeShadow (slcPage n) o)).regs := rfl

theorem State.reg_of_regs {t : State} (h : t.regs = s.regs) (page off : Nat) : t.reg page off = s.reg page off := by
  rw [State.reg, h, State.reg]

theorem State.commitLocks_ways (s : State) (n : Nat) : (s.commitLocks n).reg (slcPage n) 0x120 = s.shadowReg (slcPage n) 0x120 := by
  rw [State.reg_of_regs (State.commitLocks_regs s n), State.takeShadows_reg_other (by decide), State.takeShadow_reg]

theorem not_mem_removeAll {α : Type} [DecidableEq α] (l : List α) (x : α) : x ∉ removeAll l x := by simp [removeAll]

theorem slcLockCommit_takes (sl : Fin 8) (pending : slcPage sl.val ∈ s.pages.committing) :
    ∃ t, exec (.slcLockCommit sl) s = .next t ∧ slcPage sl.val ∉ t.pages.committing ∧
      t.reg (slcPage sl.val) 0x120 = s.shadowReg (slcPage sl.val) 0x120 :=
  ⟨_, congrArg Host.Outcome.next (if_pos pending), not_mem_removeAll _ _, s.commitLocks_ways sl.val⟩

/-! ### Preload -/

theorem State.preloadDone_ends {g : Nat} (running : g ∈ (s.slice n).preloading)
    (asked : s.preloadLineAt n g ((s.slice n).preNext.get 0 g) = none)
    (misses : ∀ m ∈ (s.slice n).misses, ∀ w ∈ m.waiters, w.ident ≠ preloadIdent g)
    (stalled : ∀ w ∈ (s.slice n).stalled, w.2.ident ≠ preloadIdent g) :
    s.preloadDone n g = s.setSlice n { s.slice n with preloading := removeAll (s.slice n).preloading g } := by
  have missed : (s.slice n).misses.any (fun m => m.waiters.any (fun w => w.ident == preloadIdent g)) = false := by
    simpa using misses
  have waits : (s.slice n).stalled.any (fun w => w.2.ident == preloadIdent g) = false := List.any_eq_false.mpr (by simpa using stalled)
  simp only [State.preloadDone, asked, missed, waits]
  rw [if_neg (by simp [running])]

theorem preloadDone_ends (sl : Fin 8) (g : Fin 4) (running : g.val ∈ (s.slice sl.val).preloading)
    (asked : s.preloadLineAt sl.val g.val ((s.slice sl.val).preNext.get 0 g.val) = none)
    (misses : ∀ m ∈ (s.slice sl.val).misses, ∀ w ∈ m.waiters, w.ident ≠ preloadIdent g.val)
    (stalled : ∀ w ∈ (s.slice sl.val).stalled, w.2.ident ≠ preloadIdent g.val) :
    ∃ t, exec (.preloadDone sl g) s = .next t ∧ g.val ∉ (t.slice sl.val).preloading := by
  refine ⟨_, rfl, ?_⟩
  rw [State.slice_of_ward (State.withPins_ward _ _), State.preloadDone_ends running asked misses stalled, State.slice_setSlice]
  exact not_mem_removeAll _ _

/-! ### The proofing buffer -/

theorem State.setSlice_errorTimes (s : State) (n : Nat) (x : Slice) : errorTimes ((s.setSlice n x).ward .slices) n = x.ues := by
  rw [← State.slice_ues, State.slice_setSlice]

/-- The error is remembered with those of the last day, whatever it hit and whether or not it fences the slice. -/
theorem State.pbUe_times {p : PbPlace} (uncorrected : p ≠ .corrected) (s : State) (n : Nat) :
    errorTimes ((s.pbUe n p).ward .slices) n = (s.slice n).ues.filter (fun t => s.ns ≤ t + 86400000000000) ++ [s.ns] := by
  rw [State.pbUe, if_neg (by simpa using uncorrected)]
  dsimp only
  rw [State.ward_ite, errorTimes_ite, State.fenceSlice_times, ite_self]
  generalize noted : (s.raiseAt _ _ _).setSlice n _ = v
  have times : errorTimes (v.ward .slices) n = (s.slice n).ues.filter (fun t => s.ns ≤ t + 86400000000000) ++ [s.ns] := by
    rw [← noted, State.setSlice_errorTimes]
  rw [← times]
  clear noted times
  refine congrFun ?_ n
  cases p with
  | corrected => exact absurd rfl uncorrected
  | free => rfl
  | lane uid =>
    dsimp only
    split
    · rfl
    · rw [State.mergeLine_times]
      split
      · simp
      · rw [State.each_ward _ _ _ fun t w => by simp, State.freeLane_times]
  | merge a => simp

theorem pbSramUe_remembers (sl : Fin 8) {p : PbPlace} (uncorrected : p ≠ .corrected) :
    ∃ t, exec (.pbSramUe sl p) s = .next t ∧ s.ns ∈ (t.slice sl.val).ues := by
  refine ⟨_, rfl, ?_⟩
  rw [State.slice_of_ward (State.withPins_ward _ _), State.slice_ues, State.admitAll_times, State.pbUe_times uncorrected]
  exact List.mem_concat_self

theorem pbSramUe_corrected (sl : Fin 8) : exec (.pbSramUe sl .corrected) s = .next (s.withPins (fun s =>
    ((s.countUp (slcPage sl.val) 0x164 16 16 1).raise (slcPage sl.val) .slcPbSramCe).admitAll sl.val)) := rfl

/-- Settles O16, command by command. -/
theorem sliceCommands : Obligations.SliceCommands := fun _ sl =>
  ⟨fun _ _ running => invalidationDone_sweeps sl running,
   fun pending => slcLockCommit_takes sl pending,
   fun g running asked misses stalled => preloadDone_ends sl g running asked misses stalled,
   fun _ uncorrected => pbSramUe_remembers sl uncorrected,
   pbSramUe_corrected sl⟩

end Sys2Proof.Machine
end

section
/-! PROOFS. What a lookup and a medium read leave alone: the slices, and of the tier what the line is read from. One equation per operation. -/

namespace Sys2Proof.Machine.State

open Sys2Proof

variable {p : Ward} (s : State)

@[simp] theorem tagTouch_ward (set write) : (s.tagTouch set write).ward p = s.ward p := by
  unfold State.tagTouch
  split <;> rfl

@[simp] theorem mapTouch_ward (l write) : (s.mapTouch l write).ward p = s.ward p := by
  unfold State.mapTouch
  split <;> rfl

@[simp] theorem suspend_ward (d) : (s.suspend d).ward p = s.ward p := by simp [State.suspend]
@[simp] theorem checkSpent_ward (d) : (s.checkSpent d).ward p = s.ward p := by simp [State.checkSpent]
@[simp] theorem issueRead_ward (l c why) : (s.issueRead l c why).ward p = s.ward p := by simp [State.issueRead]
@[simp] theorem dropFrame_ward (n) : (s.dropFrame n).ward p = s.ward p := by simp [State.dropFrame]

@[simp] theorem takeVictim_ward (set) : (s.takeVictim set).2.ward p = s.ward p := by
  unfold State.takeVictim
  dsimp only
  split
  · rfl
  · split <;> exact ((ward_rest _).trans (dropFrame_ward _ _)).trans (each_ward _ _ _ fun t w => by split <;> simp)

@[simp] theorem allocFrame_ward (l) : (s.allocFrame l).2.ward p = s.ward p := by
  unfold State.allocFrame
  dsimp only
  repeat' split
  all_goals simp

@[simp] theorem startFill_ward (l) : (s.startFill l).ward p = s.ward p := by simp [State.startFill]

@[simp] theorem maybeFill_ward (l) : (s.maybeFill l).ward p = s.ward p := by
  unfold State.maybeFill
  dsimp only
  generalize noted : (if s.regFld 0x028 0x114 0 2 = 1 then _ else s) = u
  have same : u.ward p = s.ward p := by
    rw [← noted, ward_ite, ward_rest, ite_self]
  rw [← same, ward_ite]
  split
  · rfl
  · split
    next e => exact ward_of_eq e (allocFrame_ward _ _)
    next e => rw [startFill_ward, setFrame_ward, ward_of_eq e (allocFrame_ward _ _)]

end Sys2Proof.Machine.State
end

section
/-! PROOFS. The stages of a missed line (R50 to R55, R107, R191, R195, R248, R435, R436): each lookup, check and read sets the next stage of
the line's miss, and a fill ends it with the answers of the reads that wait for it. -/

namespace Sys2Proof.Machine

open Sys2Proof

variable {s : State} {a : LineAddr} {l : Lmp} {m : MissEntry}

/-! ### The miss entry of a line -/

theorem Slice.missOf_line {x : Slice} (found : x.missOf a = some m) : m.line = a := by
  simpa using List.find?_some found

/-- Where a test finds an element, it finds the element that takes its place and passes the test. -/
theorem find?_map_replace {α : Type} {p : α → Bool} {l : List α} {x y : α} (found : l.find? p = some x) (passes : p y = true) :
    (l.map (fun z => if p z then y else z)).find? p = some y := by
  induction l with
  | nil => cases found
  | cons z l ih =>
    rw [List.map_cons]
    cases test : p z with
    | true => rw [if_pos rfl, List.find?_cons_of_pos passes]
    | false =>
      rw [List.find?_cons_of_neg (by simp [test])] at found
      rw [if_neg (by simp), List.find?_cons_of_neg (by simp [test]), ih found]

theorem State.setMiss_missOf {m' : MissEntry} (found : (s.sliceOf a).missOf a = some m) (line : m'.line = a) :
    ((s.setMiss a m').sliceOf a).missOf a = some m' := by
  rw [State.sliceOf, State.setMiss, State.slice_setSlice]
  exact find?_map_replace found (beq_iff_eq.mpr line)

theorem State.missStage_missOf (found : (s.sliceOf a).missOf a = some m) (st : MissStage) :
    ((s.missStage a st).sliceOf a).missOf a = some { m with stage := st } := by
  rw [State.missStage, found]
  exact State.setMiss_missOf found (Slice.missOf_line (m := m) found)

/-- The stage of a line's miss. -/
def State.stageOf (s : State) (a : LineAddr) : Option MissStage := ((s.sliceOf a).missOf a).map MissEntry.stage

theorem State.stageOf_missStage {st' : MissStage} (found : s.stageOf a = some st') (st : MissStage) :
    (s.missStage a st).stageOf a = some st := by
  obtain ⟨m, found, -⟩ := Option.map_eq_some_iff.mp found
  rw [State.stageOf, State.missStage_missOf found, Option.map_some]

theorem State.setMiss_stageOf {m' : MissEntry} (found : (s.sliceOf a).missOf a = some m) (line : m'.line = a)
    (stage : m'.stage = m.stage) : (s.setMiss a m').stageOf a = s.stageOf a := by
  rw [State.stageOf, State.setMiss_missOf found line, State.stageOf, found, Option.map_some, Option.map_some, stage]

theorem State.stageOf_of_ward {t : State} (h : t.ward .slices = s.ward .slices) : t.stageOf a = s.stageOf a := by
  rw [State.stageOf, State.sliceOf, State.slice_of_ward h, State.stageOf, State.sliceOf]

@[simp] theorem State.missStage_dtc (s : State) (a : LineAddr) (st : MissStage) : (s.missStage a st).dtc = s.dtc := by
  unfold State.missStage
  split <;> rfl

/-- The pins do not look at the slices. -/
theorem State.withPins_missStage (s : State) (a : LineAddr) (st : MissStage) :
    s.withPins (fun s => s.missStage a st) = s.missStage a st := by
  refine State.pinIbis_of_levels _ _ ?_
  change (s.missStage a st).levels = s.levels
  unfold State.missStage
  split <;> rfl

@[simp] theorem State.tagTouch_frames (s : State) (set : Nat) (write : Bool) : (s.tagTouch set write).dtc.frames = s.dtc.frames := by
  unfold State.tagTouch
  split <;> rfl

@[simp] theorem State.setFrame_find (s : State) (n : Nat) (f : Frame) : (s.setFrame n f).dtc.frames.find n = some f := by
  rw [State.setFrame, State.tagTouch_frames, Tab.find_put_same]

/-! ### The caches that a lookup keeps -/

/-- What a lookup reads of a line's page: its frame, the lines that wait for frames, its stored form, its map entry and the fills. -/
def State.pageView (s : State) (a : LineAddr) (l : Lmp) : Tab Frame × List DtcWait × SLine × MapEntry × List Lmp :=
  (s.dtc.frames, s.dtc.waiting, s.storedLine a, s.entry l, s.dtc.fills)

theorem State.tagTouch_view (s : State) (set : Nat) (write : Bool) : (s.tagTouch set write).pageView a l = s.pageView a l := by
  unfold State.tagTouch
  split <;> rfl

theorem State.mapTouch_view (s : State) (k : Lmp) (write : Bool) : (s.mapTouch k write).pageView a l = s.pageView a l := by
  unfold State.mapTouch
  split <;> rfl

theorem State.waitReload_view (s : State) (b : LineAddr) (hit : ReserveArea → Bool) :
    (s.waitReload b hit).pageView a l = s.pageView a l := by
  unfold State.waitReload
  split
  · rfl
  · dsimp only
    split <;> rfl

theorem State.waitReload_mapCached (s : State) (b : LineAddr) (hit : ReserveArea → Bool) :
    (s.waitReload b hit).mapCached l = s.mapCached l := by
  unfold State.waitReload
  split
  · rfl
  · dsimp only
    split <;> rfl

theorem State.waitReload_stageOf (s : State) (a : LineAddr) (hit : ReserveArea → Bool) : (s.waitReload a hit).stageOf a = s.stageOf a := by
  unfold State.waitReload
  split
  · rfl
  · dsimp only
    split
    · rfl
    next m found =>
      exact State.setMiss_stageOf found (Slice.missOf_line (m := m) found) rfl

/-! ### What a fill leaves alone -/

/-- An install writes ways alone. -/
theorem State.install_reads (s : State) (n : Nat) (a : LineAddr) (data : Line) (stale : Bool) :
    ((s.install n a data stale).2.slice n).reads = (s.slice n).reads := by
  have touch : ∀ (x : Slice) (set : Nat) (cls : List Nat) (w age : Nat), (x.touch set cls w age).reads = x.reads :=
    Slice.touch_same Slice.reads fun _ _ _ _ => rfl
  unfold State.install
  dsimp only
  repeat' split
  all_goals rw [State.slice_of_ward (State.perfEvent_ward _ _ _ _)]
  all_goals rw [State.slice_setSlice, touch]
  all_goals rfl

/-! ### The tier lookup -/

/-- What the tier answers for a line of page `l`, its directory set in the tag cache. -/
def State.tierAnswer (s : State) (a : LineAddr) (l : Lmp) : State :=
  let waits := s.dtc.waiting.any (fun w => w.line == a)
  match s.frameOf l with
  | none => if waits then s.missStage a (.check (s.storedLine a) (.tierStaged l)) else s.missStage a .map
  | some (n, f) =>
    if !waits && (f.st == 1 || (f.st == 5 && !bitAt f.mask (lineInPage a))) then s.missStage a (.pageFill l)
    else (s.setFrame n { f with ref := true }).missStage a (.check (s.storedLine a) (if f.st == 2 then .tierClean l else .tierStaged l))

section
variable (found : (s.sliceOf a).missOf a = some m)
include found

section
variable (stage : m.stage = .tier) (runs : s.halted 0x028 = false)
include stage runs

theorem State.tierLookup_unmapped (unmapped : s.lineLmp a = none) : s.tierLookup a = s.missStage a (.fill 0 true false) := by
  simp [State.tierLookup, found, stage, runs, unmapped]

/-- The lookup answers from a state that differs in its caches alone. -/
theorem State.tierLookup_mapped (mapped : s.lineLmp a = some l) :
    ∃ u : State, u.stageOf a = some .tier ∧ u.pageView a l = s.pageView a l ∧ s.tierLookup a = u.tierAnswer a l := by
  refine ⟨?looked, ?_, ?_, ?answer⟩
  case answer =>
    simp only [State.tierLookup, found, stage, runs, mapped]
    rfl
  · rw [State.stageOf_of_ward (State.tagTouch_ward _ _ _), State.waitReload_stageOf, State.stageOf, found, Option.map_some, stage]
  · rw [State.tagTouch_view, State.waitReload_view]

/-- A line whose page has no frame, and that waits for none, goes on to the map. -/
theorem tierLookupDone_absent (mapped : s.lineLmp a = some l) (absent : s.frameOf l = none)
    (apart : s.dtc.waiting.any (fun w => w.line == a) = false) :
    ∃ t, exec (.tierLookupDone a) s = .next t ∧ ((t.sliceOf a).missOf a).map MissEntry.stage = some .map := by
  obtain ⟨u, tier, view, answer⟩ := State.tierLookup_mapped found stage runs mapped
  obtain ⟨frames, waiting, -⟩ : u.dtc.frames = s.dtc.frames ∧ u.dtc.waiting = s.dtc.waiting ∧ _ := by
    simpa only [State.pageView, Prod.mk.injEq] using view
  have noFrame : u.frameOf l = none := by rw [State.frameOf, frames]; exact absent
  refine ⟨u.missStage a .map, congrArg Host.Outcome.next (answer.trans ?_), State.stageOf_missStage tier _⟩
  simp [State.tierAnswer, noFrame, waiting, apart]

/-- A line of a clean frame goes to its check as stored, and the frame is marked as referenced. -/
theorem tierLookupDone_clean {n : Nat} {f : Frame} (mapped : s.lineLmp a = some l) (held : s.frameOf l = some (n, f)) (clean : f.st = 2) :
    ∃ t, exec (.tierLookupDone a) s = .next t ∧
      ((t.sliceOf a).missOf a).map MissEntry.stage = some (.check (s.storedLine a) (.tierClean l)) ∧
      t.dtc.frames.find n = some { f with ref := true } := by
  obtain ⟨u, tier, view, answer⟩ := State.tierLookup_mapped found stage runs mapped
  obtain ⟨frames, -, stored, -⟩ : u.dtc.frames = s.dtc.frames ∧ _ ∧ u.storedLine a = s.storedLine a ∧ _ := by
    simpa only [State.pageView, Prod.mk.injEq] using view
  have frame : u.frameOf l = some (n, f) := by rw [State.frameOf, frames]; exact held
  refine ⟨(u.setFrame n { f with ref := true }).missStage a (.check (s.storedLine a) (.tierClean l)),
    congrArg Host.Outcome.next (answer.trans ?_), State.stageOf_missStage (st' := .tier) ?_ _, ?_⟩
  · simp [State.tierAnswer, frame, clean, stored]
  · rw [State.stageOf_of_ward (State.setFrame_ward _ _ _), tier]
  · rw [State.missStage_dtc, State.setFrame_find]

end

/-! ### The map lookup -/

section
variable (stage : m.stage = .map) (runs : s.halted 0x030 = false) (mapped : s.lineLmp a = some l) (cached : s.mapCached l = true)
include stage runs mapped cached

theorem State.mapLookup_cached :
    ∃ u : State, u.stageOf a = some .map ∧ u.pageView a l = s.pageView a l ∧ s.mapLookup a = u.mapAnswer a l := by
  refine ⟨?looked, ?_, ?_, ?answer⟩
  case answer =>
    simp only [State.mapLookup, found, stage, runs, mapped, State.waitReload_mapCached, cached]
    rfl
  · rw [State.stageOf_of_ward (State.mapTouch_ward _ _ _), State.waitReload_stageOf, State.stageOf, found, Option.map_some, stage]
  · rw [State.mapTouch_view, State.waitReload_view]

/-- The map's answer for a page that no fill brings: zeros, a read of the medium, or poison. -/
theorem mapLookupDone_answers (idle : l ∉ s.dtc.fills) :
    ((s.entry l).st = 0 → ∃ t, exec (.mapLookupDone a) s = .next t ∧
      ((t.sliceOf a).missOf a).map MissEntry.stage = some (.check unwrittenLine .crumbLater)) ∧
    ((s.entry l).st = 1 → ∃ t c, exec (.mapLookupDone a) s = .next t ∧
      ((t.sliceOf a).missOf a).map MissEntry.stage = some (.medium (s.entry l).ppa c) ∧ c.val = lineInPage a / 8 % 8) ∧
    ((s.entry l).st = 2 → ∃ t, exec (.mapLookupDone a) s = .next t ∧
      ((t.sliceOf a).missOf a).map MissEntry.stage = some (.check poisonLine .crumbLater)) := by
  obtain ⟨u, map, view, answer⟩ := State.mapLookup_cached found stage runs mapped cached
  obtain ⟨-, -, -, entry, fills⟩ : _ ∧ _ ∧ _ ∧ u.entry l = s.entry l ∧ u.dtc.fills = s.dtc.fills := by
    simpa only [State.pageView, Prod.mk.injEq] using view
  rw [← fills] at idle
  rw [← entry]
  refine ⟨fun unmapped => ⟨_, congrArg Host.Outcome.next answer, ?_⟩, fun mapped => ⟨_, ⟨lineInPage a / 8 % 8, Nat.mod_lt _ (by decide)⟩,
    congrArg Host.Outcome.next answer, ?_, rfl⟩, fun poisoned => ⟨_, congrArg Host.Outcome.next answer, ?_⟩⟩
  · simp only [State.mapAnswer, if_neg idle, unmapped]
    exact State.stageOf_missStage map _
  · simp only [State.mapAnswer, if_neg idle, mapped, if_true]
    refine (State.stageOf_of_ward (State.maybeFill_ward _ _)).trans (State.stageOf_missStage (st' := .map) ?_ _)
    rw [State.stageOf_of_ward (State.issueRead_ward _ _ _ _), map]
  · simp only [State.mapAnswer, if_neg idle, poisoned]
    exact State.stageOf_missStage map _

end

/-! ### The checks of Crust -/

section
variable (live : s.keyWaits a = false)
include live

theorem lineCheckDone_passes {sl : SLine} {src : MissSrc} {d : Line} (stage : m.stage = .check sl src)
    (passes : s.crustCheck a sl = .pass d) : exec (.lineCheckDone a) s = .next (s.missStage a (.fill d false true)) := by
  refine congrArg Host.Outcome.next ((withPins_congr ?_).trans (s.withPins_missStage a _))
  simp [live, State.lineCheck, found, stage, passes]

theorem lineCheckDone_poisons {sl : SLine} {src : MissSrc} (stage : m.stage = .check sl src) (poisoned : s.crustCheck a sl = .poison) :
    exec (.lineCheckDone a) s = .next (s.missStage a (.fill 0 true false)) := by
  refine congrArg Host.Outcome.next ((withPins_congr ?_).trans (s.withPins_missStage a _))
  simp [live, State.lineCheck, found, stage, poisoned]

theorem secondSourceReadDone_passes {src : MissSrc} {d : Line} (stage : m.stage = .second src)
    (passes : s.crustCheck a (s.secondLine a src) = .pass d) :
    exec (.secondSourceReadDone a) s = .next (s.withPins (fun s => s.tagRetry.missStage a (.fill d false true))) := by
  refine congrArg Host.Outcome.next (withPins_congr ?_)
  simp [live, State.secondDone, found, stage, passes]

end

/-! ### The fill -/

section
variable {data : Line} {poison ok : Bool} (stage : m.stage = .fill data poison ok) (replays : Nat)

/-- The slice after a fill has brought its line: the miss is dropped, the lane entries that wait have the value, the line is installed. -/
def State.fillBrought (s : State) (a : LineAddr) (m : MissEntry) (data : Line) (poison passed : Bool) (replays : Nat) : State :=
  let n := sliceHash a
  let base := m.newer.getD (data, poison)
  let s := s.dropMiss a
  let s := s.setSlice n { s.slice n with lanes := (s.slice n).lanes.map (fun (e : LaneEntry) =>
    if e.uid ∈ m.entries then { e with current := some base } else e) }
  let s := if base.2 && m.newer.isNone then s.notePoison a else s
  if passed && !base.2 then
    ((if s.displaces n a m.stale then s.perfEvent (slcPage n) 0x07 replays else s).install n a base.1 m.stale).2
  else s.perfEvent (slcPage n) 0x09 1

include stage in
theorem State.fillArrive_fill : s.fillArrive a replays = ((s.fillBrought a m data poison ok replays).each m.waiters
    (fun s w => s.fillWaiter a (m.newer.getD (data, poison)) w)).preloadAll (sliceHash a) := by
  rw [State.sliceOf] at found
  simp only [State.fillArrive, found, stage, State.fillBrought]

omit found in
/-- Of the reads of its slice, the fill takes the misses of its line away. -/
theorem State.fillBrought_reads (s : State) (a : LineAddr) (m : MissEntry) :
    ((s.fillBrought a m data poison ok replays).slice (sliceHash a)).reads =
      ((s.slice (sliceHash a)).misses.filter (fun m => m.line != a), (s.slice (sliceHash a)).behind, (s.slice (sliceHash a)).preloading) := by
  unfold State.fillBrought
  dsimp only
  generalize given : State.setSlice (s.dropMiss a) _ _ = u
  have dropped : (u.slice (sliceHash a)).reads = ((s.slice (sliceHash a)).misses.filter (fun m => m.line != a),
      (s.slice (sliceHash a)).behind, (s.slice (sliceHash a)).preloading) := by
    rw [← given, State.slice_setSlice, State.dropMiss, State.slice_setSlice]
    rfl
  rw [← dropped]
  clear given dropped
  generalize noted : (if (m.newer.getD (data, poison)).2 && m.newer.isNone then _ else u) = v
  have same : v.slice (sliceHash a) = u.slice (sliceHash a) := State.slice_of_ward (by rw [← noted]; simp) _
  rw [← same]
  split
  · rw [State.install_reads, State.slice_of_ward (s := v) (by simp)]
  · rw [State.slice_of_ward (State.perfEvent_ward _ _ _ _)]

include stage

/-- Without a preload nothing follows the answers of the reads. -/
theorem State.fillArrive_idle (preloading : (s.sliceOf a).preloading = []) : s.fillArrive a replays =
    (s.fillBrought a m data poison ok replays).each m.waiters (fun s w => s.fillWaiter a (m.newer.getD (data, poison)) w) := by
  have same : ((s.fillBrought a m data poison ok replays).each m.waiters
      (fun s w => s.fillWaiter a (m.newer.getD (data, poison)) w)).slice (sliceHash a) =
      (s.fillBrought a m data poison ok replays).slice (sliceHash a) :=
    State.slice_of_ward (State.each_ward _ _ _ fun t w => State.fillWaiter_ward _ _ _ _) _
  have reads := congrArg (fun x => x.2.2) (s.fillBrought_reads (data := data) (poison := poison) (ok := ok) replays a m)
  have idle : ((s.fillBrought a m data poison ok replays).slice (sliceHash a)).preloading = [] := reads.trans preloading
  rw [State.fillArrive_fill found stage, State.preloadAll, same, idle]
  rfl

theorem State.fillArrive_missOf (preloading : (s.sliceOf a).preloading = []) :
    ((s.fillArrive a replays).sliceOf a).missOf a = none := by
  have misses := congrArg Prod.fst (s.fillBrought_reads (data := data) (poison := poison) (ok := ok) replays a m)
  rw [State.fillArrive_idle found stage replays preloading, State.sliceOf,
    State.slice_of_ward (State.each_ward _ _ _ fun t w => State.fillWaiter_ward _ _ _ _)]
  simp only [Slice.reads] at misses
  simp [Slice.missOf, misses]

omit found stage in
/-- A read that found no bytes of its own lane gets the line as it came. -/
theorem State.fillWaiter_answers (s : State) {w : Waiter} {h : Fin 64} {k : BitVec 16} (head : w.sender = .head h k)
    (unserved : w.served = false) (alone : w.own = []) : .readData h k data poison ∈ (s.fillWaiter a (data, poison) w).out := by
  have answer : s.fillWaiter a (data, poison) w = s.answerRead (.head h k) data poison := by
    simp only [State.fillWaiter, unserved, alone, head, Bool.false_eq_true, if_false]
    exact congrArg _ (Bool.and_true poison)
  rw [answer]
  exact s.answerRead_head h k data poison

theorem State.fillArrive_answers (preloading : (s.sliceOf a).preloading = []) (current : m.newer = none) {w : Waiter} (waits : w ∈ m.waiters)
    {h : Fin 64} {k : BitVec 16} (head : w.sender = .head h k) (unserved : w.served = false) (alone : w.own = []) :
    .readData h k data poison ∈ (s.fillArrive a replays).out := by
  rw [State.fillArrive_idle found stage replays preloading, current]
  exact State.mem_out_each waits (fun _ => State.fillWaiter_keeps) fun t => t.fillWaiter_answers head unserved alone

theorem fillArrival_ends (k : Fin 3) (preloading : (s.sliceOf a).preloading = []) :
    ∃ u : State, exec (.fillArrival ⟨a, k⟩) s = .next (s.withPins (fun _ => u.drain)) ∧ (u.sliceOf a).missOf a = none ∧
      (m.newer = none → ∀ w ∈ m.waiters, ∀ h n, w.sender = .head h n → w.served = false → w.own = [] →
        .readData h n data poison ∈ u.out) :=
  ⟨s.fillArrive a k.val, congrArg Host.Outcome.next (withPins_congr rfl), State.fillArrive_missOf found stage k.val preloading,
   fun current _ waits _ _ head unserved alone => State.fillArrive_answers found stage k.val preloading current waits head unserved alone⟩

end

end

/-- Settles O10, stage by stage. -/
theorem readStages : Obligations.ReadStages := fun _ _ _ found =>
  ⟨fun stage runs => ⟨fun unmapped => congrArg Host.Outcome.next (State.tierLookup_unmapped found stage runs unmapped),
     fun _ mapped absent apart => tierLookupDone_absent found stage runs mapped absent apart,
     fun _ _ _ mapped held clean => tierLookupDone_clean found stage runs mapped held clean⟩,
   fun stage runs _ mapped cached idle => mapLookupDone_answers found stage runs mapped cached idle,
   fun live _ _ _ stage passes => lineCheckDone_passes found live stage passes,
   fun live _ _ stage poisoned => lineCheckDone_poisons found live stage poisoned,
   fun live _ _ stage passes => secondSourceReadDone_passes found live stage passes,
   fun _ _ _ k stage preloading => fillArrival_ends found stage k preloading⟩

end Sys2Proof.Machine
end

section
/-! PROOFS. What the answers of stores, the crumbs of a fill and a drain leave alone: the tier, or the slices. One equation per operation, in
the order of the model's files. -/

namespace Sys2Proof.Machine.State

open Sys2Proof

variable (s : State)

/-! ### The tier, past the answers -/

@[simp] theorem each_dtc {α : Type} (l : List α) (f : State → α → State) (hf : ∀ t x, (f t x).dtc = t.dtc) :
    (s.each l f).dtc = s.dtc := each_same State.dtc hf

@[simp] theorem routeOut_dtc (r m) : (s.routeOut r m).dtc = s.dtc := by
  unfold State.routeOut State.sendOn State.leave State.linkWake
  dsimp only
  repeat' split
  all_goals simp

@[simp] theorem sendPlain_dtc (dst tag epoch status xinfo m) : (s.sendPlain dst tag epoch status xinfo m).dtc = s.dtc := by
  simp [State.sendPlain]

@[simp] theorem sendRsp_dtc (dst tag epoch status xinfo m) : (s.sendRsp dst tag epoch status xinfo m).dtc = s.dtc := by
  simp [State.sendRsp]

@[simp] theorem closeMarks_dtc (dev) : (s.closeMarks dev).dtc = s.dtc := by simp [State.closeMarks]
@[simp] theorem peerDone_dtc (dev tag rank) : (s.peerDone dev tag rank).dtc = s.dtc := by simp [State.peerDone]

@[simp] theorem gpfCheck_dtc (h) : (s.gpfCheck h).dtc = s.dtc := by
  unfold State.gpfCheck
  dsimp only
  split <;> simp

@[simp] theorem gpfChecks_dtc : s.gpfChecks.dtc = s.dtc := by simp [State.gpfChecks]

@[simp] theorem headDone_dtc (h tag kind rank) : (s.headDone h tag kind rank).dtc = s.dtc := by
  unfold State.headDone
  dsimp only
  split <;> simp

@[simp] theorem copyAck_dtc (dev line page status) : (s.copyAck dev line page status).dtc = s.dtc := by
  unfold State.copyAck
  dsimp only
  repeat' split
  all_goals simp

@[simp] theorem answerPoint_dtc (w point last) : (s.answerPoint w point last).dtc = s.dtc := by
  unfold State.answerPoint
  split <;> simp [State.dedupNote]

@[simp] theorem answerAll_dtc (ws point) : (s.answerAll ws point).dtc = s.dtc := by simp [State.answerAll]
@[simp] theorem touchPage_dtc (l) : (s.touchPage l).dtc = s.dtc := (rfl)
@[simp] theorem acceptedLine_dtc (a) : (s.acceptedLine a).dtc = s.dtc := by simp [State.acceptedLine]
@[simp] theorem wakeFill_dtc (l) : (s.wakeFill l).dtc = s.dtc := each_dtc _ _ _ fun _ _ => rfl

/-! ### The tier, past the crumbs of a fill and the walk of a row -/

@[simp] theorem askRefresh_dtc (block reason) : (s.askRefresh block reason).dtc = s.dtc := by
  unfold State.askRefresh
  split <;> rfl

@[simp] theorem bumpReads_dtc (block n) : (s.bumpReads block n).dtc = s.dtc := by simp [State.bumpReads]
@[simp] theorem countRead_dtc (block) : (s.countRead block).dtc = s.dtc := by simp [State.countRead]

@[simp] theorem countCorr_dtc (p) : (s.countCorr p).dtc = s.dtc := by
  unfold State.countCorr
  split <;> rfl

@[simp] theorem crumbMarks_dtc (p step corrected refs) : (s.crumbMarks p step corrected refs).dtc = s.dtc := by simp [State.crumbMarks]
@[simp] theorem setBusy_dtc (ds op) : (s.setBusy ds op).dtc = s.dtc := each_dtc _ _ _ fun _ _ => rfl
@[simp] theorem wakeReads_dtc : s.wakeReads.dtc = s.dtc := (rfl)

@[simp] theorem walkRow_dtc (l) : (s.walkRow l).dtc = s.dtc := by
  unfold State.walkRow
  dsimp only
  repeat' split
  all_goals simp

/-! ### The slices, past a drain -/

variable {p : Ward}

@[simp] theorem closeMarks_ward (dev) : (s.closeMarks dev).ward p = s.ward p := by simp [State.closeMarks]

@[simp] theorem gpfCheck_ward (h) : (s.gpfCheck h).ward p = s.ward p := by
  unfold State.gpfCheck
  dsimp only
  split <;> simp

@[simp] theorem gpfChecks_ward : s.gpfChecks.ward p = s.ward p := by simp [State.gpfChecks]
@[simp] theorem touchPage_ward (l) : (s.touchPage l).ward p = s.ward p := ward_rest _

@[simp] theorem handDown_ward (fuel) (s : State) : (handDown fuel s).ward p = s.ward p := by
  induction fuel generalizing s with
  | zero => rfl
  | succ fuel ih =>
    unfold handDown
    split
    · rfl
    · split <;> simp [ih]

@[simp] theorem handHigh_ward : s.handHigh.ward p = s.ward p := by simp [State.handHigh]

end Sys2Proof.Machine.State
end

section
/-! PROOFS. Lines on their way down (R131 to R134, R191 to R196, R432): a drain puts a line, enciphered, into the Dirty frame of its page; a
page fill makes a Clean frame; the end of a transfer and a hand-over write their frame alone. -/

namespace Sys2Proof.Machine

open Sys2Proof

variable {s : State} {a : LineAddr} {l : Lmp} {n : Nat} {f : Frame}

/-! ### Drain marks -/

theorem State.drainMarks_merge (s : State) (n : Nat) (ok : MergeEntry → Bool) : ((s.drainMarks n ok).slice n).merge =
    (s.slice n).merge.map (fun m => if ok m then { m with draining := true } else m) := by
  rw [State.drainMarks, State.slice_of_ward (State.perfEvent_ward _ _ _ _), State.slice_setSlice]

theorem mergeDrainAgeExpiry_marks (s : State) (a : LineAddr) : ∃ t, exec (.mergeDrainAgeExpiry a) s = .next t ∧
    ∀ m ∈ (t.slice (sliceHash a)).merge, m.line = a → m.draining = true := by
  refine ⟨_, rfl, fun m mem line => ?_⟩
  rw [State.drainMarks_merge, List.mem_map] at mem
  obtain ⟨y, -, rfl⟩ := mem
  revert line
  split
  next => exact fun _ => rfl
  next kept => exact fun line => by simpa [line] using kept

/-! ### Frames and hand-overs -/

theorem State.setFrame_find_other (s : State) {k : Nat} (f : Frame) (other : n ≠ k) :
    (s.setFrame k f).dtc.frames.find n = s.dtc.frames.find n := by
  rw [State.setFrame, State.tagTouch_frames, Tab.find_put_other _ _ other]

@[simp] theorem State.setFrame_fills (s : State) (n : Nat) (f : Frame) : (s.setFrame n f).dtc.fills = s.dtc.fills := by
  unfold State.setFrame State.tagTouch
  split <;> rfl

@[simp] theorem State.setFrame_mte (s : State) (n : Nat) (f : Frame) : (s.setFrame n f).mte = s.mte := by
  unfold State.setFrame State.tagTouch
  split <;> rfl

theorem State.frameOf_of_dtc {t : State} (h : t.dtc = s.dtc) (l : Lmp) : t.frameOf l = s.frameOf l := by
  rw [State.frameOf, h, State.frameOf]

/-- A frame as a hand-over leaves it: a Dirty one may have been handed to the MTE, and nothing else has changed. -/
def Frame.HandedTo (f g : Frame) : Prop := ∃ handed, g = { f with handed := handed } ∧ (f.st = 3 ∨ handed = f.handed)

theorem Frame.HandedTo.refl (f : Frame) : f.HandedTo f := ⟨f.handed, rfl, .inr rfl⟩

theorem Frame.HandedTo.trans {f g h : Frame} (fg : f.HandedTo g) (gh : g.HandedTo h) : f.HandedTo h := by
  obtain ⟨b, rfl, fb⟩ := fg
  obtain ⟨c, rfl, gc⟩ := gh
  refine ⟨c, rfl, ?_⟩
  rcases gc with dirty | same
  · exact .inl dirty
  · exact same ▸ fb

theorem Frame.HandedTo.lines {f g : Frame} (h : f.HandedTo g) : g.lines = f.lines := by
  obtain ⟨_, rfl, -⟩ := h
  rfl

/-- A frame that is not Dirty is not handed over. -/
theorem Frame.HandedTo.eq {f g : Frame} (h : f.HandedTo g) (clean : f.st ≠ 3) : g = f := by
  obtain ⟨b, rfl, dirty | same⟩ := h
  · exact absurd dirty clean
  · rw [same]

theorem State.handOver_find (held : s.dtc.frames.find n = some f) (k : Nat) :
    ∃ g, (s.handOver k).dtc.frames.find n = some g ∧ f.HandedTo g := by
  unfold State.handOver
  split
  next g found =>
    split
    next dirty =>
      rcases eq_or_ne n k with rfl | other
      · obtain rfl : f = g := Option.some.inj (held.symm.trans found)
        simp only [Bool.and_eq_true, beq_iff_eq] at dirty
        exact ⟨_, s.setFrame_find n _, true, rfl, .inl dirty.1⟩
      · exact ⟨f, (s.setFrame_find_other _ other).trans held, .refl f⟩
    next => exact ⟨f, held, .refl f⟩
  next => exact ⟨f, held, .refl f⟩

theorem State.handDown_find (held : s.dtc.frames.find n = some f) (fuel : Nat) :
    ∃ g, (State.handDown fuel s).dtc.frames.find n = some g ∧ f.HandedTo g := by
  induction fuel generalizing s f with
  | zero => exact ⟨f, held, .refl f⟩
  | succ fuel ih =>
    unfold State.handDown
    split
    next => exact ⟨f, held, .refl f⟩
    next =>
      split
      next k _ =>
        obtain ⟨g, found, fg⟩ := State.handOver_find held k
        obtain ⟨h, last, gh⟩ := ih found
        exact ⟨h, last, fg.trans gh⟩
      next => exact ⟨f, held, .refl f⟩

theorem State.handHigh_find (held : s.dtc.frames.find n = some f) : ∃ g, s.handHigh.dtc.frames.find n = some g ∧ f.HandedTo g := by
  unfold State.handHigh
  split
  · exact State.handDown_find held _
  · exact ⟨f, held, .refl f⟩

theorem stageAgeExpiry_hands (frame : s.frameOf l = some (n, f)) (held : s.dtc.frames.find n = some f) (dirty : f.st = 3)
    (kept : f.handed = false) : ∃ u : State, exec (.stageAgeExpiry l) s = .next (s.withPins (fun _ => u.pump)) ∧
      u.mte.handoff = s.mte.handoff ++ [f.lmp] ∧ u.dtc.frames.find n = some { f with handed := true } := by
  have handed : s.handOver n = { s.setFrame n { f with handed := true } with mte := { s.mte with handoff := s.mte.handoff ++ [f.lmp] } } := by
    simp [State.handOver, held, dirty, kept]
  refine ⟨s.handOver n, congrArg Host.Outcome.next (withPins_congr ?_), ?_, ?_⟩
  · simp only [frame]
  · rw [handed]
  · rw [handed]
    exact s.setFrame_find n _

/-- The transfer of a page ends without a line that waits for it. -/
theorem State.frameTransferred_idle (frame : s.frameOf l = some (n, f)) (programming : f.st = 4) (running : f.xferred = false)
    (idle : f.held = []) : s.frameTransferred l = (s.setFrame n { f with held := [], xferred := true }).handHigh := by
  simp [State.frameTransferred, frame, programming, running, idle]

theorem frameTransferDone_transfers (frame : s.frameOf l = some (n, f)) (programming : f.st = 4) (running : f.xferred = false)
    (idle : f.held = []) : ∃ t, exec (.frameTransferDone l) s = .next t ∧
      t.dtc.frames.find n = some { f with held := [], xferred := true } := by
  refine ⟨_, rfl, ?_⟩
  rw [State.frameTransferred_idle ((State.frameOf_of_dtc (s.walkRow_dtc l) l).trans frame) programming running idle]
  obtain ⟨g, found, handed⟩ := State.handHigh_find ((s.walkRow l).setFrame_find n { f with held := [], xferred := true })
  rw [found, handed.eq (by simp [programming])]

/-! ### A page fill -/

/-- The read of a fill that may end counts as neither waiting nor reconstructed. -/
theorem fill_may_end {read : Option CrumbRead} {turn : CrumbRead → Bool}
    (ready : read.any (fun r => r.waits || r.recon || !turn r) = false) :
    read.any (fun r => r.waits || (!r.recon && !turn r)) = false ∧ read.any CrumbRead.recon = false := by
  cases read with
  | none => exact ⟨rfl, rfl⟩
  | some r =>
    simp only [Option.any_some, Bool.or_eq_false_iff] at ready ⊢
    obtain ⟨⟨waits, recon⟩, turn⟩ := ready
    simp [waits, recon, turn]

theorem State.fillCrumb_decoded {o : CrumbOutcome × Bool} (decodes : (crumbParts o.1).isSome = true) (s : State) (p : Ppa) :
    (s.fillCrumb p false o).1 = false ∧ (s.fillCrumb p false o).2.dtc = s.dtc := by
  obtain ⟨parts, decoded⟩ := Option.isSome_iff_exists.mp decodes
  simp [State.fillCrumb, decoded]

/-- Crumbs that decode on their die leave none lost, and the tier as it was. -/
theorem State.fillCrumbsDone_decoded {got : List (Nat × CrumbOutcome × Bool)} (decode : ∀ e ∈ got, (crumbParts e.2.1).isSome = true)
    (s : State) (p : Ppa) : (s.fillCrumbsDone p false got).1 = [] ∧ (s.fillCrumbsDone p false got).2.dtc = s.dtc := by
  unfold State.fillCrumbsDone
  induction got generalizing s with
  | nil => exact ⟨rfl, rfl⟩
  | cons e got ih =>
    obtain ⟨first, rest⟩ := List.forall_mem_cons.mp decode
    obtain ⟨kept, tier⟩ := State.fillCrumb_decoded first s p
    simp only [List.foldl_cons, kept, Bool.false_eq_true, if_false]
    rw [← tier]
    exact ih rest _

/-- The outcomes that a fill takes are those given, and decoded ones beyond them. -/
theorem fill_outcomes_decode {got : List (CrumbOutcome × Bool)} (decode : ∀ g ∈ got, (crumbParts g.1).isSome = true) (crumbs : List Nat)
    (mapped : Bool) : ∀ e ∈ if mapped then crumbs.zip (got ++ List.replicate 8 (CrumbOutcome.step1 0 [], true)) else [],
      (crumbParts e.2.1).isSome = true := by
  intro e mem
  split at mem
  next =>
    rcases List.mem_append.mp (List.of_mem_zip mem).2 with given | beyond
    · exact decode _ given
    · rw [List.eq_of_mem_replicate beyond]
      rfl
  next => cases mem

section
variable (filling : l ∈ s.dtc.fills) (frame : s.frameOf l = some (n, f)) (fills : f.st = 1)
  (ready : (s.mch.reads.find? (fun (r : CrumbRead) => r.why == .fill l)).any (fun r => r.waits || r.recon || !s.inTurn r) = false)
  (got : List (CrumbOutcome × Bool)) (decode : ∀ g ∈ got, (crumbParts g.1).isSome = true)
include filling frame fills ready decode

/-- A fill whose crumbs decode writes a Clean frame into the tier that it leaves. -/
theorem State.pageFill_decoded : ∃ (v : State) (g : Frame), v.dtc = (s.endFill l).dtc ∧ g.st = 2 ∧
    s.pageFill l got = ((v.setFrame n g).wakeFill l).retryWaiting.pump := by
  obtain ⟨ends, direct⟩ := fill_may_end ready
  have held : (s.endFill l).frameOf l = some (n, f) := frame
  obtain ⟨lost, tier⟩ := State.fillCrumbsDone_decoded
    (fill_outcomes_decode decode (fillCrumbs f) (((s.endFill l).entry l).st == 1)) (s.endFill l) ((s.endFill l).entry l).ppa
  refine ⟨_, ?clean, tier, ?st, ?fill⟩
  case fill =>
    simp only [State.pageFill, filling, not_true_eq_false, ends, direct, held, fills, lost, beq_self_eq_true, List.isEmpty_nil,
      Bool.false_eq_true, if_true, if_false]
    rfl
  rfl

theorem pageFillDone_cleans : ∃ u : State, exec (.pageFillDone l got) s = .next (s.withPins (fun _ => u.retryWaiting.pump)) ∧
    l ∉ u.dtc.fills ∧ (u.dtc.frames.find n).map Frame.st = some 2 := by
  obtain ⟨v, g, tier, clean, fill⟩ := State.pageFill_decoded filling frame fills ready got decode
  refine ⟨(v.setFrame n g).wakeFill l, congrArg Host.Outcome.next (withPins_congr fill), ?_, ?_⟩
  · rw [State.wakeFill_dtc, State.setFrame_fills, tier]
    exact not_mem_removeAll _ _
  · rw [State.wakeFill_dtc, State.setFrame_find, Option.map_some, clean]

end

end Sys2Proof.Machine
end

section
/-! PROOFS. The drain of a merge-store entry (R134, R192, R432): it passes Crust, enters the Dirty frame of its page, and is freed. -/

namespace Sys2Proof.Machine

open Sys2Proof

variable {s : State} {a : LineAddr} {l : Lmp} {n : Nat} {f : Frame} {m : MergeEntry} {sl : SLine}

theorem removeFirst_length {α : Type} {p : α → Bool} {l : List α} (some_ : ∃ x ∈ l, p x = true) :
    (removeFirst p l).length + 1 = l.length := by
  induction l with
  | nil => simp at some_
  | cons x l ih =>
    rw [removeFirst]
    split
    next => rfl
    next fails => rw [List.length_cons, List.length_cons, ih (by simpa [fails] using some_)]

/-! ### Through Crust -/

/-- Under an Active key, or poisoned, a line has its stored form without an event. -/
theorem State.crustStore_active (active : (s.activeKeys (s.keyRangeOf (lineGsn a))).isSome = true) (data : Line) (poison : Bool) :
    s.crustStore a data poison = ((s.crustStore a data poison).1, true, s) := by
  obtain ⟨k, keys⟩ := Option.isSome_iff_exists.mp active
  cases poison <;> simp [State.crustStore, keys]

/-- The stored form comes from Crust's part of the state alone. -/
theorem State.crustStore_of_crs {t : State} (h : t.crs = s.crs) (a : LineAddr) (data : Line) (poison : Bool) :
    (t.crustStore a data poison).1 = (s.crustStore a data poison).1 := by
  have range : t.keyRangeOf (lineGsn a) = s.keyRangeOf (lineGsn a) := by rw [State.keyRangeOf, h, State.keyRangeOf]
  have keys : ∀ r, t.activeKeys r = s.activeKeys r := fun r => by rw [State.activeKeys, State.krange, h]; rfl
  simp only [State.crustStore, range, keys]
  split
  next => rfl
  next => cases s.activeKeys (s.keyRangeOf (lineGsn a)) <;> rfl

theorem State.passLine_active (active : (s.activeKeys (s.keyRangeOf (lineGsn a))).isSome = true) (unpaired : s.mirrorOf a = 0)
    (mapped : s.lineLmp a = some l) (data : Line) (poison : Bool) (ws : List Waiting) (peer : Option (Dev × BitVec 16)) :
    s.passLine a data poison ws peer = s.takeLine a l (s.crustStore a data poison).1 ws := by
  simp only [State.passLine, mapped]
  rw [State.crustStore_active active]
  simp [unpaired]

/-! ### Into the frame -/

/-- A Dirty frame on a live channel takes every line of its page. -/
theorem State.placeLine_dirty (frame : s.frameOf l = some (n, f)) (dirty : f.st = 3) (live : s.frameChan n ∉ s.dtc.dead) (a : LineAddr)
    (sl : SLine) (ws : List Waiting) : s.placeLine a l sl ws = (true, s.setFrame n (f.put (lineInPage a) sl ws)) := by
  simp [State.placeLine, frame, dirty, live]

/-- The tier takes a line for a Dirty frame: it enters the frame, its merge-store entry is freed, and what waited for no more is told. -/
theorem State.takeLine_dirty (frame : s.frameOf l = some (n, f)) (dirty : f.st = 3) (live : s.frameChan n ∉ s.dtc.dead)
    (flows : s.frozen = false) (runs : s.halted 0x028 = false) (a : LineAddr) (sl : SLine) (ws : List Waiting) :
    ∃ kept now, s.takeLine a l sl ws =
      ((((s.setFrame n (f.put (lineInPage a) sl kept)).touchPage l).acceptedLine a).answerAll now 2).handHigh := by
  refine ⟨?kept, ?now, ?taken⟩
  case taken =>
    simp only [State.takeLine, flows, runs, Bool.false_and, Bool.or_self, Bool.false_eq_true, if_false,
      State.placeLine_dirty frame dirty live]
    rfl

/-! ### Out of the merge store -/

/-- The entry stands offered in the merge store. -/
def State.offered (s : State) (n : Nat) (m : MergeEntry) : State :=
  s.setSlice n { s.slice n with merge := (s.slice n).merge.map (fun (y : MergeEntry) =>
    if y == m then { y with draining := true, offered := true, waits := [] } else y) }

theorem State.offerLine_eq (s : State) (n : Nat) (m : MergeEntry) :
    s.offerLine n m = (s.offered n m).passLine m.line m.data m.poison m.waits m.peer := rfl

theorem State.drainOne_offers (free : (s.slice n).offering = false) (flows : s.frozen = false) (runs : s.halted 0x028 = false)
    (found : (s.slice n).merge.find? (fun m => m.line == a && m.draining) = some m) : s.drainOne n a = s.offerLine n m := by
  simp [State.drainOne, free, flows, runs, found]

/-- One offered entry of the line leaves the merge store when the tier has taken it. -/
theorem State.acceptedLine_merge (s : State) (a : LineAddr) : ((s.acceptedLine a).slice (sliceHash a)).merge =
    removeFirst (fun (m : MergeEntry) => m.line == a && m.offered) (s.slice (sliceHash a)).merge := by
  rw [State.acceptedLine, State.slice_of_ward (State.gpfChecks_ward _), State.slice_setSlice]

/-- What a taken line leaves: its frame with the line, and one merge-store entry of the line less. -/
theorem State.taken_line (frame : Frame) (line : frame.lines.find (lineInPage a) = some sl) (v : State)
    (offered : ∃ y ∈ (v.slice (sliceHash a)).merge, (y.line == a && y.offered) = true) (now : List Waiting) :
    ∃ g, (((((v.setFrame n frame).touchPage l).acceptedLine a).answerAll now 2).handHigh).dtc.frames.find n = some g ∧
      g.lines.find (lineInPage a) = some sl ∧
      ((((((v.setFrame n frame).touchPage l).acceptedLine a).answerAll now 2).handHigh).slice (sliceHash a)).merge.length + 1 =
        (v.slice (sliceHash a)).merge.length := by
  have held : ((((v.setFrame n frame).touchPage l).acceptedLine a).answerAll now 2).dtc.frames.find n = some frame := by
    rw [State.answerAll_dtc, State.acceptedLine_dtc, State.touchPage_dtc, State.setFrame_find]
  obtain ⟨g, found, handed⟩ := State.handHigh_find held
  refine ⟨g, found, by rw [handed.lines, line], ?_⟩
  rw [State.slice_of_ward ((State.handHigh_ward _).trans (State.answerAll_ward _ _ _)), State.acceptedLine_merge,
    State.slice_of_ward ((State.touchPage_ward _ _).trans (State.setFrame_ward _ _ _))]
  exact removeFirst_length offered

section
variable (free : (s.slice (sliceHash a)).offering = false) (flows : s.frozen = false) (runs : s.halted 0x028 = false)
  (found : (s.slice (sliceHash a)).merge.find? (fun m => m.line == a && m.draining) = some m)
include found

theorem merge_offered : ∃ y ∈ ((s.offered (sliceHash a) m).slice (sliceHash a)).merge, (y.line == a && y.offered) = true := by
  have line : (m.line == a) = true := (Bool.and_eq_true _ _ ▸ List.find?_some found).1
  rw [State.offered, State.slice_setSlice]
  exact ⟨_, List.mem_map.mpr ⟨m, List.mem_of_find?_eq_some found, rfl⟩, by simp [line]⟩

include free flows runs in
theorem State.drainOne_active (active : (s.activeKeys (s.keyRangeOf (lineGsn a))).isSome = true) (unpaired : s.mirrorOf a = 0)
    (mapped : s.lineLmp a = some l) : s.drainOne (sliceHash a) a =
      (s.offered (sliceHash a) m).takeLine a l (s.crustStore a m.data m.poison).1 m.waits := by
  have line : m.line = a := beq_iff_eq.mp (Bool.and_eq_true _ _ ▸ List.find?_some found).1
  rw [State.drainOne_offers free flows runs found, State.offerLine_eq, line,
    State.passLine_active (s := s.offered (sliceHash a) m) active unpaired mapped,
    State.crustStore_of_crs (t := s.offered (sliceHash a) m) (s := s) rfl]

include free flows runs in
theorem dtcLineAccept_places (live : s.keyWaits a = false) (active : (s.activeKeys (s.keyRangeOf (lineGsn a))).isSome = true)
    (unpaired : s.mirrorOf a = 0) (mapped : s.lineLmp a = some l) (frame : s.frameOf l = some (n, f)) (dirty : f.st = 3)
    (channel : s.frameChan n ∉ s.dtc.dead) :
    ∃ (u : State) (g : Frame), exec (.dtcLineAccept a) s = .next (s.withPins (fun _ => u.pump.drain)) ∧
      u.dtc.frames.find n = some g ∧ g.lines.find (lineInPage a) = some (s.crustStore a m.data m.poison).1 ∧
      (u.slice (sliceHash a)).merge.length + 1 = (s.slice (sliceHash a)).merge.length := by
  obtain ⟨kept, now, taken⟩ := State.takeLine_dirty (s := s.offered (sliceHash a) m) frame dirty channel flows runs a
    (s.crustStore a m.data m.poison).1 m.waits
  obtain ⟨g, held, line, less⟩ := State.taken_line (n := n) (l := l) (f.put (lineInPage a) (s.crustStore a m.data m.poison).1 kept)
    (Tab.find_put_same _ _ _) (s.offered (sliceHash a) m) (merge_offered found) now
  have drained := (State.drainOne_active free flows runs found active unpaired mapped).trans taken
  rw [← drained] at held less
  refine ⟨_, g, congrArg Host.Outcome.next (withPins_congr (if_neg (by simp [live]))), held, line, less.trans ?_⟩
  rw [State.offered, State.slice_setSlice, List.length_map]

end

end Sys2Proof.Machine
end

section
/-! PROOFS. The release of a lane entry (R131 to R133): it leaves the lanes, and the line that it makes stands in the merge store. -/

namespace Sys2Proof.Machine

open Sys2Proof

variable {s : State} {n : Nat} {e : LaneEntry}

/-- The entries in the lanes of a slice. -/
def Slice.uids (x : Slice) : List Nat := x.lanes.map LaneEntry.uid

/-- The lines in the merge store of a slice. -/
def Slice.stored (x : Slice) : List (LineAddr × Line × Bool) := x.merge.map (fun m => (m.line, m.data, m.poison))

/-! ### What the operations of a release do to them -/

theorem Slice.refresh_uids (x : Slice) (a v) : (x.refresh a v).uids = x.uids := by
  simp only [Slice.uids, Slice.refresh, List.map_map]
  refine List.map_congr_left fun e _ => ?_
  dsimp only [Function.comp_apply]
  split <;> rfl

theorem State.freeLane_uids (s : State) (n uid : Nat) : uid ∉ ((s.freeLane n uid).slice n).uids := by
  simp [State.freeLane, Slice.uids]

/-- A released line updates a way of the line cache alone. -/
theorem State.updateWay_same {β : Type} (π : Slice → β) (ways : ∀ (y : Slice) set w v, π (y.setWay set w v) = π y) (s : State) (n a data poison) :
    π ((s.updateWay n a data poison).slice n) = π (s.slice n) := by
  unfold State.updateWay
  dsimp only
  split
  · rfl
  · split
    · rw [State.slice_setSlice, ways]
    · rfl

/-- Reaching the high watermark marks entries of the merge store for draining, and changes no line there. -/
theorem highMarks_stored (l : List MergeEntry) (k : Nat) (acc : List MergeEntry) :
    ((l.foldl (fun (acc : Nat × List MergeEntry) m =>
      if !m.draining && 0 < acc.1 then (acc.1 - 1, acc.2 ++ [{ m with draining := true }]) else (acc.1, acc.2 ++ [m])) (k, acc)).2).map
        (fun m => (m.line, m.data, m.poison)) = (acc ++ l).map (fun m => (m.line, m.data, m.poison)) := by
  induction l generalizing k acc with
  | nil => rw [List.foldl_nil, List.append_nil]
  | cons m l ih =>
    rw [List.foldl_cons]
    split <;> rw [ih] <;> simp

theorem State.checkHigh_uids (s : State) (n : Nat) : ((s.checkHigh n).slice n).uids = (s.slice n).uids := by
  unfold State.checkHigh
  dsimp only
  split
  · rw [State.slice_of_ward (State.perfEvent_ward _ _ _ _), State.slice_setSlice]
    rfl
  · rfl

theorem State.checkHigh_stored (s : State) (n : Nat) : ((s.checkHigh n).slice n).stored = (s.slice n).stored := by
  unfold State.checkHigh
  dsimp only
  split
  · rw [State.slice_of_ward (State.perfEvent_ward _ _ _ _), State.slice_setSlice]
    exact highMarks_stored _ _ _
  · rfl

/-- The merge store with a line put in: over the entry of the line that does not drain, else as a new one. -/
def State.mergedSlice (s : State) (n : Nat) (a : LineAddr) (data : Line) (poison : Bool) (all : List Waiting) : Slice :=
  let x := s.slice n
  let now := s.drainsNow n a
  let ws := if s.keyActive a && s.pointLater a then all else []
  let peer := peerOf all
  let srcs := all.filterMap Waiting.src
  if x.merge.any (fun m => m.line == a && !m.draining) then
    { x with merge := x.merge.map (fun (m : MergeEntry) =>
      if m.line == a && !m.draining then { m with data := data, poison := poison, waits := m.waits ++ ws, draining := now, peer := peer,
                                                          srcs := srcs.foldl insertNew m.srcs } else m) }
  else { x with merge := x.merge ++ [{ line := a, data := data, poison := poison, draining := now, waits := ws, peer := peer, srcs := srcs.foldl insertNew [] }] }

theorem State.mergedSlice_uids (s : State) (n a data poison all) : (s.mergedSlice n a data poison all).uids = (s.slice n).uids := by
  unfold State.mergedSlice
  dsimp only
  split <;> rfl

theorem State.mergedSlice_stored (s : State) (n a data poison all) : (a, data, poison) ∈ (s.mergedSlice n a data poison all).stored := by
  unfold State.mergedSlice
  dsimp only
  split
  next there =>
    obtain ⟨m, held, same⟩ := List.any_eq_true.mp there
    have line : m.line = a := beq_iff_eq.mp (Bool.and_eq_true _ _ ▸ same).1
    exact List.mem_map.mpr ⟨_, List.mem_map.mpr ⟨m, held, rfl⟩, by rw [if_pos same, line]⟩
  next => exact List.mem_map.mpr ⟨_, List.mem_append.mpr (.inr (List.mem_singleton.mpr rfl)), rfl⟩

/-- Of a slice, the merge of a line writes the merge store, the newer value for those that wait, and a way. -/
theorem State.mergeLine_same {β : Type} (π : Slice → β) (ways : ∀ (y : Slice) set w v, π (y.setWay set w v) = π y)
    (refreshed : ∀ (y : Slice) a v, π (y.refresh a v) = π y) (s : State) (n a data poison all) :
    π ((s.mergeLine n a data poison all).slice n) = π (s.mergedSlice n a data poison all) := by
  have wards : ∀ (t : State) (now : Bool), let u := if now then t.perfEvent (slcPage n) 0x0d 1 else t
      (if poison then u.notePoison a else u.clearPoison a).ward .slices = t.ward .slices := by
    intro t now
    cases poison <;> cases now <;> simp
  calc π ((s.mergeLine n a data poison all).slice n)
      = π (((s.setSlice n ((s.mergedSlice n a data poison all).refresh a (data, poison))).updateWay n a data poison).slice n) :=
        congrArg π (State.slice_of_ward (wards _ (s.drainsNow n a)) n)
    _ = π (s.mergedSlice n a data poison all) := by rw [State.updateWay_same π ways, State.slice_setSlice, refreshed]

theorem State.releaseLine_uids (s : State) (n a data poison ws) : ((s.releaseLine n a data poison ws).slice n).uids = (s.slice n).uids := by
  rw [State.releaseLine, State.checkHigh_uids, State.slice_of_ward (State.tellReleased_ward _ _ _),
    State.mergeLine_same Slice.uids (fun _ _ _ _ => rfl) Slice.refresh_uids, State.mergedSlice_uids]

theorem State.releaseLine_stored (s : State) (n a data poison ws) : (a, data, poison) ∈ ((s.releaseLine n a data poison ws).slice n).stored := by
  rw [State.releaseLine, State.checkHigh_stored, State.slice_of_ward (State.tellReleased_ward _ _ _),
    State.mergeLine_same Slice.stored (fun _ _ _ _ => rfl) (fun _ _ _ => rfl)]
  exact State.mergedSlice_stored s n a data poison ws

/-! ### The release -/

/-- The line that a released store makes, over the current value `d`. -/
def LaneEntry.makes (e : LaneEntry) (d : Line) : Line := if e.mask = fullMask then e.data else overlay d e.data e.mask

theorem State.releaseNow_store (store : e.op = .store) (s : State) (n : Nat) (d : Line) : s.releaseNow n e (some (d, false)) =
    ((s.freeLane n e.uid).perfEvent (slcPage n) 0x0a 1).releaseLine n e.line (e.makes d) e.poison e.waits := by
  unfold State.releaseNow LaneEntry.makes
  simp only [store]
  split <;> rfl

/-- A store that is released stands in the merge store, over the current value. -/
theorem State.releaseNow_stored (store : e.op = .store) (s : State) (n : Nat) (d : Line) :
    (e.line, e.makes d, e.poison) ∈ ((s.releaseNow n e (some (d, false))).slice n).stored := by
  rw [State.releaseNow_store store]
  exact State.releaseLine_stored _ _ _ _ _ _

/-- A released entry leaves the lanes. -/
theorem State.releaseNow_uids (s : State) (n : Nat) (e : LaneEntry) (d : Line) :
    ((s.releaseNow n e (some (d, false))).slice n).uids = ((s.freeLane n e.uid).slice n).uids := by
  cases op : e.op with
  | store => rw [State.releaseNow_store op, State.releaseLine_uids, State.slice_of_ward (State.perfEvent_ward _ _ _ _)]
  | atomic op' size off a b =>
    unfold State.releaseNow
    simp only [op]
    split
    · exact (State.releaseLine_uids _ _ _ _ _ _).trans (congrArg Slice.uids (State.slice_of_ward (by simp) n))
    · exact congrArg Slice.uids (State.slice_of_ward (by simp) n)

/-- The throttle counts in a field of its own. -/
theorem State.notePace_currentIn (s : State) (n : Nat) (a : LineAddr) (e : LaneEntry) : (s.notePace n a).currentIn n e = s.currentIn n e := by
  unfold State.notePace
  split
  · unfold State.currentIn
    dsimp only
    rw [State.slice_setSlice]
    rfl
  · rfl

theorem State.notePace_guardRefuses (s : State) (n : Nat) (a b : LineAddr) : (s.notePace n a).guardRefuses b = s.guardRefuses b := by
  unfold State.notePace
  split <;> rfl

section
variable {uid : Nat} {d : Line} (found : (s.slice n).lanes.find? (fun e => e.uid == uid) = some e)
  (free : s.releaseHeld e.line = false) (head : (s.slice n).atHead e = true) (first : s.markAhead n e = false)
  (room : (s.slice n).mergeRoom e.line = true) (paced : s.paceHeld n e.line = false) (allowed : s.guardRefuses e.line = false)
  (current : s.currentIn n e = some (d, false))

include free head first room paced found allowed current in
/-- An entry that every condition of R131 lets go is released over its current value, and what waited for it goes on. -/
theorem State.releaseEntry_released :
    s.releaseEntry n uid = (((s.notePace n e.line).releaseNow n e (some (d, false))).retryBehind n).admitAll n := by
  have ready : (s.notePace n e.line).releaseReady n e = (s.notePace n e.line).releaseNow n e (some (d, false)) := by
    simp [State.releaseReady, State.notePace_guardRefuses, allowed, State.notePace_currentIn, current]
  simp [State.releaseEntry, found, free, head, first, room, paced, ready]

end

theorem laneEntryRelease_releases {sl : Fin 8} {uid : Nat} {d : Line} (found : (s.slice sl.val).lanes.find? (fun e => e.uid == uid) = some e)
    (keyed : (s.slice sl.val).lanes.any (fun e => e.uid == uid && s.keyWaits e.line) = false)
    (released : s.releaseEntry sl.val uid =
      (((s.notePace sl.val e.line).releaseNow sl.val e (some (d, false))).retryBehind sl.val).admitAll sl.val) :
    ∃ u : State, exec (.laneEntryRelease sl uid) s = .next (s.withPins (fun _ => ((u.retryBehind sl.val).admitAll sl.val).drain)) ∧
      (∀ y ∈ (u.slice sl.val).lanes, y.uid ≠ uid) ∧
      (e.op = .store → ∃ m ∈ (u.slice sl.val).merge, m.line = e.line ∧ m.poison = e.poison ∧ m.data = e.makes d) := by
  have same : e.uid = uid := by simpa using List.find?_some found
  refine ⟨(s.notePace sl.val e.line).releaseNow sl.val e (some (d, false)), congrArg Host.Outcome.next (withPins_congr ?_), ?_, ?_⟩
  · simp only [keyed, Bool.false_eq_true, if_false, released]
  · intro y held taken
    have gone := State.freeLane_uids (s.notePace sl.val e.line) sl.val e.uid
    rw [← State.releaseNow_uids _ _ _ d, same] at gone
    exact gone (taken ▸ List.mem_map_of_mem held)
  · intro store
    obtain ⟨m, held, value⟩ := List.mem_map.mp (State.releaseNow_stored store (s.notePace sl.val e.line) sl.val d)
    obtain ⟨line, data, poison⟩ : m.line = e.line ∧ m.data = e.makes d ∧ m.poison = e.poison := by simpa using value
    exact ⟨m, held, line, poison, data⟩

/-! ### O12 -/

/-- Settles O12, command by command: the drain of a line from its entry's offer to its frame's acceptance, the fill and the hand-over of a
frame from the frame that the directory names, and the release of a lane entry from the operations that make it up. -/
theorem writesDown : Obligations.WritesDown := fun s a _ =>
  ⟨mergeDrainAgeExpiry_marks s a,
    fun _ _ _ live free flows runs found active unpaired mapped frame dirty channel =>
      dtcLineAccept_places free flows runs found live active unpaired mapped frame dirty channel,
    fun _ _ filling frame fills ready got decode => pageFillDone_cleans filling frame fills ready got decode,
    fun _ _ frame ready moving none_held => frameTransferDone_transfers frame ready moving none_held,
    fun _ _ frame held dirty kept => stageAgeExpiry_hands frame held dirty kept,
    rfl,
    fun _ _ _ _ found keyed free head first room paced allowed current =>
      laneEntryRelease_releases found keyed (State.releaseEntry_released found free head first room paced allowed current)⟩

end Sys2Proof.Machine
end

section
/-! PROOFS. What the pump of the MTE, a marker to a peer and the IBIs of the pins leave alone at the heads (R179, R425): the first two write no
head, and an event record changes nothing of a head's Global Persistent Flush. One equation per operation, in the order in which they call each
other. -/

namespace Sys2Proof.Machine.State

open Sys2Proof

variable (s : State)

/-! ### The pump of the MTE -/

@[simp] theorem each_heads {α : Type} (l : List α) (f : State → α → State) (hf : ∀ t x, (f t x).heads = t.heads) :
    (s.each l f).heads = s.heads := each_same State.heads hf

@[simp] theorem perfAdd_heads (page fuel n k) : (s.perfAdd page fuel n k).heads = s.heads := by
  induction fuel generalizing s n k with
  | zero => rfl
  | succ fuel ih => simp [perfAdd, ih]

@[simp] theorem perfEvent_heads (page code k) : (s.perfEvent page code k).heads = s.heads := by simp [State.perfEvent]

@[simp] theorem reserveWsn_heads : s.reserveWsn.heads = s.heads := by simp [State.reserveWsn, State.journal]

@[simp] theorem takeWsn_heads : s.takeWsn.2.heads = s.heads := by simp [State.takeWsn, apply_ite Prod.snd]

@[simp] theorem fillers_heads (n) (s : State) (l) : (fillers n s l).2.heads = s.heads := by
  induction n generalizing s l with
  | zero => rfl
  | succ n ih => simp [fillers, ih]

@[simp] theorem openFor_heads (g purpose reason) : (s.openFor g purpose reason).2.heads = s.heads := by
  unfold State.openFor State.openSet
  dsimp only
  repeat' split
  case h_2.isTrue.isTrue => exact each_heads _ _ _ fun _ _ => rfl
  all_goals rfl

@[simp] theorem closeStripe_heads (g kind purpose pages reason) : (s.closeStripe g kind purpose pages reason).2.heads = s.heads := by
  unfold State.closeStripe
  dsimp only
  repeat' split
  all_goals simp

@[simp] theorem closeGather_heads (force) : (s.closeGather force).heads = s.heads := by
  unfold State.closeGather
  split <;> simp

@[simp] theorem placeHanded_heads (fuel) (s : State) : (placeHanded fuel s).heads = s.heads := by
  induction fuel generalizing s with
  | zero => rfl
  | succ fuel ih =>
    unfold placeHanded
    split
    · rfl
    · split <;> simp [ih, State.placeOne]

@[simp] theorem metaPages_heads (n) (s : State) (type aux l) : (metaPages n s type aux l).2.heads = s.heads := by
  induction n generalizing s l with
  | zero => rfl
  | succ n ih => simp [metaPages, ih]

@[simp] theorem setFrame_heads (n f) : (s.setFrame n f).heads = s.heads := by simp [State.setFrame, State.tagTouch]

@[simp] theorem captureFrame_heads (x) : (s.captureFrame x).2.heads = s.heads := by
  unfold State.captureFrame
  repeat' split
  all_goals simp

@[simp] theorem captureAll_heads (l) (s : State) : (captureAll l s).2.heads = s.heads := by
  induction l generalizing s with
  | nil => rfl
  | cons p t ih =>
    simp only [captureAll, ih]
    split <;> simp

@[simp] theorem readyStripe_heads (x) : (s.readyStripe x).2.heads = s.heads := by
  unfold State.readyStripe
  split <;> simp

@[simp] theorem setBusy_heads (ds op) : (s.setBusy ds op).heads = s.heads := each_heads _ _ _ fun _ _ => rfl

@[simp] theorem advanceRow_heads (x) : (s.advanceRow x).heads = s.heads := by
  unfold State.advanceRow
  split
  · rfl
  · exact each_heads _ _ _ fun _ _ => rfl

@[simp] theorem issueMeta_heads (id) : (s.issueMeta id).heads = s.heads := by
  unfold State.issueMeta
  split <;> simp [State.orderFault, State.startRow, State.setStripe]

@[simp] theorem pump_heads : s.pump.heads = s.heads := by simp [State.pump, State.tendJournal, State.closeJournal]

/-! ### Markers to peers -/

@[simp] theorem routeOut_heads (r m) : (s.routeOut r m).heads = s.heads := by
  unfold State.routeOut State.sendOn State.leave State.linkWake
  dsimp only
  repeat' split
  all_goals simp

@[simp] theorem offerRemote_heads (q) : (s.offerRemote q).heads = s.heads := by
  simp [State.offerRemote, State.sendRemote, State.sendSeq, State.newTag]

theorem head_of_heads {s t : State} (e : t.heads = s.heads) (i : Nat) : t.head i = s.head i := congrArg (fun w : Tab Head => w.get {} i) e

/-! ### Event records and the pins -/

theorem setHead_gpf {h : Nat} {x : Head} (same : x.gpf = (s.head h).gpf) (i : Nat) : ((s.setHead h x).head i).gpf = (s.head i).gpf := by
  by_cases own : i = h
  · rw [own, head_setHead, same]
  · rw [head_setHead_other s x own]

@[simp] theorem ite_gpf (c : Prop) [Decidable c] (a b : State) (i : Nat) :
    ((if c then a else b).head i).gpf = if c then (a.head i).gpf else (b.head i).gpf := apply_ite (fun t : State => (t.head i).gpf) c a b

@[simp] theorem each_gpf {α : Type} (l : List α) (f : State → α → State) (i : Nat) (hf : ∀ t x, ((f t x).head i).gpf = (t.head i).gpf) :
    ((s.each l f).head i).gpf = (s.head i).gpf := each_same (fun t => (t.head i).gpf) hf

@[simp] theorem logInterrupt_heads (h log) : (s.logInterrupt h log).heads = s.heads := by simp [State.logInterrupt]

@[simp] theorem sendIbi_head (mdb payload i) : (s.sendIbi mdb payload).head i = s.head i := head_of_heads (by simp [State.sendIbi]) i

@[simp] theorem postRec_gpf (h log r i) : ((s.postRec h log r).head i).gpf = (s.head i).gpf := by
  unfold State.postRec
  dsimp only
  split
  · rw [head_of_heads (logInterrupt_heads _ _ _)]
    exact s.setHead_gpf (by rfl) i
  · rw [head_of_heads ((raise_heads _ _ _).trans (countUp_heads _ _ _ _ _ _))]
    exact s.setHead_gpf (by rfl) i

@[simp] theorem memoryEvent_gpf (i) : (s.memoryEvent.head i).gpf = (s.head i).gpf := by simp [State.memoryEvent, State.postAll]

/-- The IBIs that follow an operation change nothing of a head's GPF, though the heads learn of HOLD_OK (R425). -/
theorem withPins_gpf (f : State → State) (i : Nat) : ((s.withPins f).head i).gpf = ((f s).head i).gpf := by
  simp [State.withPins, State.pinIbis]

end Sys2Proof.Machine.State
end

section
/-! PROOFS. Barriers of a head and its Global Persistent Flush (R155 to R158, R178 to R180, R411, R519): what each command of a head makes of the
head's record, and the answer that it drives outward and that nothing after it takes back. -/

namespace Sys2Proof.Machine

open Sys2Proof

variable {s : State} {h : Fin 64}

/-! ### A barrier that is written (R155, R157, R158, R519) -/

section
variable {kind : BitVec 2} {tag : Byte}

theorem barrierWrite_of_takes (takes : s.headTakes h.val = true) :
    exec (.barrierWrite h kind tag) s = .next (s.writeBarrier h kind tag) :=
  congrArg Host.Outcome.next (if_pos takes)

theorem State.writeBarrier_safe (safe : s.safe = true) : s.writeBarrier h kind tag = s.barrierAnswer h tag stState := if_pos safe

theorem State.writeBarrier_full (safe : s.safe = false) (full : 4 ≤ (s.head h.val).barriers.length) :
    s.writeBarrier h kind tag = s.barrierAnswer h tag stBusy := by
  simp [State.writeBarrier, safe, full]

theorem State.writeBarrier_reserved (safe : s.safe = false) (room : (s.head h.val).barriers.length < 4) (reserved : kind = 0) :
    s.writeBarrier h kind tag = s.barrierAnswer h tag stUnsupported := by
  simp [State.writeBarrier, safe, room, reserved]

/-- The barrier that a write leaves outstanding at its head (R155). -/
def State.newBarrier (s : State) (h : Fin 64) (kind : BitVec 2) (tag : Byte) : Barrier :=
  { tag := tag, kind := kind, serial := (s.head h.val).serial, worst := (s.head h.val).past,
    peers := s.barrierPeers h.val (barrierHolds 3), places := s.places }

/-- The markers to the peers change no head, so the barrier stands behind those before it. -/
theorem State.writeBarrier_waits (safe : s.safe = false) (room : (s.head h.val).barriers.length < 4) (holds : kind ≠ 0) :
    ((s.writeBarrier h kind tag).head h.val).barriers = (s.head h.val).barriers ++ [s.newBarrier h kind tag] := by
  simp only [State.writeBarrier, safe, Nat.not_le.mpr room, holds, Bool.false_eq_true, if_false]
  rw [State.head_of_heads (State.each_heads _ _ _ fun t d => State.offerRemote_heads t _), State.head_setHead]
  rfl

end

/-! ### A barrier that completes (R156 to R158, R411) -/

theorem State.completeBarrier_met {b : Barrier} {rest : List Barrier} (oldest : (s.head h.val).barriers = b :: rest)
    (met : s.barrierMet h.val b = true) : s.completeBarrier h =
      ((s.setHead h.val { s.head h.val with barriers := rest }).barrierAnswer h b.tag (rankStatus b.worst)).freeHeld h := by
  simp [State.completeBarrier, oldest, met]

/-- The requests that go on behind the barrier take nothing back of what has been driven outward. -/
theorem barrierComplete_answers {b : Barrier} {rest : List Barrier} (oldest : (s.head h.val).barriers = b :: rest)
    (met : s.barrierMet h.val b = true) :
    ∃ t, exec (.barrierComplete h) s = .next t ∧ .barrierCmp h b.tag (rankStatus b.worst) ∈ t.out := by
  refine ⟨_, rfl, mem_out_withPins ?_⟩
  rw [State.completeBarrier_met oldest met]
  exact (State.freeHeld_keeps (Keeps.refl _)).out.subset List.mem_concat_self

/-! ### Phase 1 (R178) -/

theorem gpfPhase1_acknowledges (present : s.headExists h.val = true) :
    exec (.gpfPhase1 h) s = .next { s with out := s.out ++ [.gpfAck h 1] } :=
  congrArg Host.Outcome.next (if_pos present)

/-! ### Phase 2 (R179, R180) -/

theorem State.each_still {α : Type} {l : List α} {f : State → α → State} (still : ∀ x ∈ l, f s x = s) : s.each l f = s := by
  induction l with
  | nil => rfl
  | cons x l ih =>
    change (f s x).each l f = s
    rw [still x List.mem_cons_self]
    exact ih fun y mem => still y (List.mem_cons_of_mem x mem)

theorem State.forceLanes_empty {n : Nat} (empty : (s.slice n).lanes = []) (ok keepVolatile) : s.forceLanes n ok keepVolatile = s := by
  rw [State.forceLanes, empty]; rfl

theorem State.drainAll_empty {n : Nat} (empty : (s.slice n).merge = []) (ok dropVolatile) : s.drainAll n ok dropVolatile = s := by
  rw [State.drainAll, empty]; rfl

theorem State.undrainedOf_empty (empty : ∀ n, n < 8 → (s.slice n).merge = []) (src : Nat) : s.undrainedOf src = false := by
  rw [State.undrainedOf, List.any_eq_false]
  intro n mem
  simp [empty n (List.mem_range.mp mem)]

/-- Phase 2 completes where none of what it waits for is left (R179 step 4). -/
theorem State.gpfCheck_completes {g : Nat} (runs : (s.head h.val).gpf = some g) (peers : (s.head h.val).gpfPeers = [])
    (stores : ∀ o ∈ (s.head h.val).outs, o.kind ≠ .store) (held : (s.head h.val).held = [])
    (drained : ∀ n, n < 8 → (s.slice n).merge = []) :
    s.gpfCheck h.val = (s.setHead h.val { s.head h.val with gpf := none }).emit (.gpfAck h 2) := by
  have none_open : s.gpfOpen h.val g = [] := by
    rw [State.gpfOpen, List.filter_eq_nil_iff]
    intro o mem
    simp [stores o mem]
  have self : (⟨h.val % 64, Nat.mod_lt _ (by decide)⟩ : Fin 64) = h := Fin.ext (Nat.mod_eq_of_lt h.isLt)
  simp [State.gpfCheck, runs, peers, held, none_open, State.undrainedOf_empty drained, self]

/-- The record of a head whose phase 2 begins with no peer to wait for. -/
def State.gpfBegun (s : State) (h : Nat) : State := s.setHead h { s.head h with gpf := some (s.head h).serial, gpfPeers := [] }

section
variable (present : s.headExists h.val = true) (idle : (s.head h.val).gpf = none)

include present idle in
theorem State.gpfPhase2_during_flush (flush : s.pwr.flush ≠ 0) :
    s.gpfPhase2 h = s.setHead h.val { s.head h.val with gpf := some (s.head h.val).serial } := by
  simp [State.gpfPhase2, present, idle, flush]

include present idle in
theorem gpfPhase2_remembers (flush : s.pwr.flush ≠ 0) :
    ∃ t, exec (.gpfPhase2 h) s = .next t ∧ (t.head h.val).gpf = some (s.head h.val).serial := by
  refine ⟨_, rfl, ?_⟩
  rw [State.withPins_gpf, State.gpfPhase2_during_flush present idle flush, State.head_setHead]

include present idle in
/-- With empty slices and no peer to tell, phase 2 goes straight to its check. -/
theorem State.gpfPhase2_empty (flush : s.pwr.flush = 0) (empty : ∀ n, n < 8 → (s.slice n).lanes = [] ∧ (s.slice n).merge = [])
    (peers : s.barrierPeers h.val (barrierHolds 2) = []) : s.gpfPhase2 h = (s.gpfBegun h.val).pump.gpfCheck h.val := by
  have lanes : (s.gpfBegun h.val).each (List.range 8) (fun t n => t.forceLanes n (fun e => e.ofHead h.val) true) = s.gpfBegun h.val :=
    State.each_still fun n mem => State.forceLanes_empty (s := s.gpfBegun h.val) (empty n (List.mem_range.mp mem)).1 _ _
  have merges : (s.gpfBegun h.val).each (List.range 8) (fun t n => t.drainAll n (fun _ => true) true) = s.gpfBegun h.val :=
    State.each_still fun n mem => State.drainAll_empty (s := s.gpfBegun h.val) (empty n (List.mem_range.mp mem)).2 _ _
  unfold State.gpfBegun at lanes merges ⊢
  simp only [State.gpfPhase2, present, idle, flush, peers, lanes, Option.isSome_none, Bool.not_true, Bool.or_self, Bool.false_eq_true,
    bne_self_eq_false, if_false]
  exact congrArg (fun t : State => t.pump.gpfCheck h.val) merges

include present idle in
theorem gpfPhase2_acknowledges (flush : s.pwr.flush = 0) (empty : ∀ n, n < 8 → (s.slice n).lanes = [] ∧ (s.slice n).merge = [])
    (peers : s.barrierPeers h.val (barrierHolds 2) = []) (stores : ∀ o ∈ (s.head h.val).outs, o.kind ≠ .store)
    (held : (s.head h.val).held = []) :
    ∃ t, exec (.gpfPhase2 h) s = .next t ∧ .gpfAck h 2 ∈ t.out ∧ (t.head h.val).gpf = none := by
  have head : (s.gpfBegun h.val).pump.head h.val =
      { s.head h.val with gpf := some (s.head h.val).serial, gpfPeers := [] } :=
    (State.head_of_heads (State.pump_heads _) _).trans (State.head_setHead _ _ _)
  have slices : (s.gpfBegun h.val).pump.slices = s.slices := State.slices_of_ward (State.pump_ward _)
  have drained (n : Nat) (lt : n < 8) : ((s.gpfBegun h.val).pump.slice n).merge = [] := by
    rw [State.slice, slices]
    exact (empty n lt).2
  have completes := State.gpfCheck_completes (s := (s.gpfBegun h.val).pump) (h := h) (by rw [head]) (by rw [head])
    (by rw [head]; exact stores) (by rw [head]; exact held) drained
  have ends := (State.gpfPhase2_empty present idle flush empty peers).trans completes
  refine ⟨_, rfl, mem_out_withPins ?_, ?_⟩
  · rw [ends]
    exact List.mem_concat_self
  · rw [State.withPins_gpf, ends]
    exact congrArg Head.gpf (State.head_setHead _ _ _)

end

/-! ### The timeout (R180) -/

/-- The timeout ends the phase after the records that name the segments. -/
theorem State.gpfTimeout_ends {g : Nat} (runs : (s.head h.val).gpf = some g) : ∃ u : State,
    s.gpfTimeout h = (u.setHead h.val { u.head h.val with gpf := none, gpfPeers := [] }).emit (.gpfAck h 2) := by
  simp only [State.gpfTimeout, runs]
  exact ⟨_, rfl⟩

theorem gpfTimeout_acknowledges {g : Nat} (runs : (s.head h.val).gpf = some g) :
    ∃ t, exec (.gpfTimeout h) s = .next t ∧ .gpfAck h 2 ∈ t.out ∧ (t.head h.val).gpf = none := by
  obtain ⟨u, ends⟩ := State.gpfTimeout_ends runs
  refine ⟨_, rfl, mem_out_withPins ?_, ?_⟩
  · rw [ends]
    exact List.mem_concat_self
  · rw [State.withPins_gpf, ends]
    exact congrArg Head.gpf (State.head_setHead _ _ _)

/-! ### O15 and O52 -/

/-- Settles O15, command by command: a barrier that is written is answered or waits, a barrier that is met is answered, phase 1 is
acknowledged, and phase 2 is remembered during a flush, checked at once otherwise, and ended by its timeout. -/
theorem barriersAndGpf : Obligations.BarriersAndGpf := fun s h =>
  ⟨fun _ tag takes =>
    ⟨fun safe => ⟨_, barrierWrite_of_takes takes, congrArg State.out (State.writeBarrier_safe safe)⟩,
      fun safe full => ⟨_, barrierWrite_of_takes takes, congrArg State.out (State.writeBarrier_full safe full)⟩,
      fun safe room reserved => ⟨_, barrierWrite_of_takes takes, congrArg State.out (State.writeBarrier_reserved safe room reserved)⟩,
      fun safe room holds => ⟨_, s.newBarrier h _ tag, barrierWrite_of_takes takes, rfl, rfl, State.writeBarrier_waits safe room holds⟩⟩,
    fun _ _ oldest met => barrierComplete_answers oldest met,
    fun present => ⟨_, gpfPhase1_acknowledges present, rfl⟩,
    fun present idle flush => gpfPhase2_remembers present idle flush,
    fun present idle flush empty peers stores held => gpfPhase2_acknowledges present idle flush empty peers stores held,
    fun _ runs => gpfTimeout_acknowledges runs⟩

/-- Settles O52: nothing but the acknowledgement is driven outward, and the state is otherwise the same. -/
theorem gpfPhase1 : Obligations.GpfPhase1 := fun _ _ present => gpfPhase1_acknowledges present

end Sys2Proof.Machine
end

section
/-! PROOFS. Register fields (R10, R487): a field reads as it was written, a write of one field leaves the other fields and the other registers,
and an event changes the header words of its page alone. -/

namespace Sys2Proof.Machine

open Sys2Proof

/-! ### Words -/

/-- The bits of a number whose `w` bits from `l` on are replaced by those of `v`. -/
theorem testBit_fieldWrite (n l w v i : Nat) : (n - n / 2 ^ l % 2 ^ w * 2 ^ l + v % 2 ^ w * 2 ^ l).testBit i =
    if i < l then n.testBit i else if i < l + w then v.testBit (i - l) else n.testBit i := by
  have split : n = 2 ^ l * (2 ^ w * (n / 2 ^ l / 2 ^ w) + n / 2 ^ l % 2 ^ w) + n % 2 ^ l := by
    rw [Nat.div_add_mod, Nat.div_add_mod]
  have written : n - n / 2 ^ l % 2 ^ w * 2 ^ l + v % 2 ^ w * 2 ^ l = 2 ^ l * (2 ^ w * (n / 2 ^ l / 2 ^ w) + v % 2 ^ w) + n % 2 ^ l := by
    have old : n - n / 2 ^ l % 2 ^ w * 2 ^ l = 2 ^ l * (2 ^ w * (n / 2 ^ l / 2 ^ w)) + n % 2 ^ l := by
      refine Nat.sub_eq_of_eq_add (split.trans ?_)
      ring
    rw [old]
    ring
  have low : n % 2 ^ l < 2 ^ l := Nat.mod_lt _ (Nat.two_pow_pos l)
  rw [written, Nat.testBit_two_pow_mul_add _ low, Nat.testBit_two_pow_mul_add _ (Nat.mod_lt v (Nat.two_pow_pos w))]
  by_cases below : i < l
  · simp [below]
  · rw [if_neg below, if_neg below]
    by_cases inside : i < l + w
    · have narrow : i - l < w := by omega
      rw [if_pos inside, if_pos narrow, Nat.testBit_mod_two_pow, decide_eq_true narrow, Bool.true_and]
    · have wide : ¬ i - l < w := by omega
      rw [if_neg inside, if_neg wide, Nat.testBit_div_two_pow, Nat.testBit_div_two_pow]
      congr 1
      omega

theorem testBit_fld {n : Nat} (x : BitVec n) (lsb w i : Nat) : (fld x lsb w).testBit i = (decide (i < w) && x.toNat.testBit (lsb + i)) := by
  rw [fld, Nat.testBit_mod_two_pow, Nat.testBit_div_two_pow, Nat.add_comm]

end Sys2Proof.Machine

namespace Sys2Proof.Machine.State

open Sys2Proof

variable (s : State) {page off page' off' : Nat}

/-! ### A field of a stored word -/

/-- The bits of a register whose field has been written. -/
theorem testBit_setRegFld (page off l w v : Nat) {i : Nat} (bound : i < 32) :
    ((s.setRegFld page off l w v).reg page off).toNat.testBit i =
      if i < l then (s.reg page off).toNat.testBit i else if i < l + w then v.testBit (i - l) else (s.reg page off).toNat.testBit i := by
  rw [State.setRegFld, reg_setReg, BitVec.toNat_ofNat, Nat.testBit_mod_two_pow, decide_eq_true bound, Bool.true_and, testBit_fieldWrite]

theorem regFld_setRegFld (page off v : Nat) {l w : Nat} (bound : l + w ≤ 32) :
    (s.setRegFld page off l w v).regFld page off l w = v % 2 ^ w := by
  refine Nat.eq_of_testBit_eq fun i => ?_
  rw [State.regFld, testBit_fld, Nat.testBit_mod_two_pow]
  by_cases inside : i < w
  · rw [testBit_setRegFld s page off l w v (by omega), if_neg (by omega), if_pos (by omega), Nat.add_sub_cancel_left]
  · simp [inside]

/-- A write of a field leaves the fields beside it. -/
theorem regFld_setRegFld_beside (page off v : Nat) {l w l' w' : Nat} (bound : l' + w' ≤ 32) (beside : l' + w' ≤ l ∨ l + w ≤ l') :
    (s.setRegFld page off l w v).regFld page off l' w' = s.regFld page off l' w' := by
  refine Nat.eq_of_testBit_eq fun i => ?_
  rw [State.regFld, State.regFld, testBit_fld, testBit_fld]
  by_cases inside : i < w'
  · rw [testBit_setRegFld s page off l w v (by omega)]
    rcases beside with below | above
    · rw [if_pos (by omega)]
    · rw [if_neg (by omega), if_neg (by omega)]
  · simp [inside]

theorem reg_setRegFld_other (l w v : Nat) (other : regAddr page' off' ≠ regAddr page off) :
    (s.setRegFld page off l w v).reg page' off' = s.reg page' off' := reg_setReg_other s _ other

theorem regFld_setRegFld_other (l w v l' w' : Nat) (other : regAddr page' off' ≠ regAddr page off) :
    (s.setRegFld page off l w v).regFld page' off' l' w' = s.regFld page' off' l' w' :=
  congrArg (fld · l' w') (s.reg_setRegFld_other l w v other)

/-! ### The header words and the block's own registers -/

/-- A register past the header is no word of a header. -/
theorem regAddr_block {o : Nat} (header : o < 0x100) (block : 0x100 ≤ off) (inPage : off < 0x1000) (page : Nat) :
    regAddr page' off ≠ regAddr page o := by
  unfold regAddr
  omega

section
variable (block : 0x100 ≤ off) (inPage : off < 0x1000)
include block inPage

theorem latch_reg (p bit : Nat) (forced : Bool) (w : Where) : (s.latch p bit forced w).reg page off = s.reg page off := by
  have header (t : State) (o : Nat) (x : Word) (h : o < 0x100) : (t.setReg p o x).reg page off = t.reg page off :=
    reg_setReg_other t x (regAddr_block h block inPage p)
  have past (t u : State) (c : Prop) [Decidable c] (h : u.reg page off = t.reg page off) : (if c then t else u).reg page off = t.reg page off := by
    split
    exacts [rfl, h]
  unfold State.latch
  extract_lets id cls conseq s1 s2 s3 flt s4
  have e4 : s4.reg page off = s3.reg page off := past s3 _ _ rfl
  have e3 : s3.reg page off = s2.reg page off := header s2 0x2c _ (by decide)
  have e2 : s2.reg page off = s1.reg page off := past s1 _ _ (header s1 0x28 _ (by decide))
  have e1 : s1.reg page off = s.reg page off := header s 0x10 _ (by decide)
  have same : s4.reg page off = s.reg page off := (e4.trans e3).trans (e2.trans e1)
  split
  exacts [same, same]

theorem raiseAt_reg (p : Nat) (src : Source) (w : Where) : (s.raiseAt p src w).reg page off = s.reg page off := by
  unfold State.raiseAt
  split
  · rfl
  · exact s.latch_reg block inPage p _ false w

theorem raise_reg (p : Nat) (src : Source) : (s.raise p src).reg page off = s.reg page off := s.raiseAt_reg block inPage p src {}

end

end Sys2Proof.Machine.State
end

section
/-! PROOFS. What the loss of a dead DIMM and the start of a re-form leave alone (R205, R206, R513): no fence is lifted, and the channels that are
to join stay named. One equation per operation, in the order in which they call each other. -/

namespace Sys2Proof.Machine.State

open Sys2Proof

variable {p : Ward} (s : State)

/-! ### The fences, past the lines of a frame and the pages of a dead DIMM -/

@[simp] theorem setSocket_ward (c x) : (s.setSocket c x).ward p = s.ward p := (rfl)
@[simp] theorem endFill_ward (l) : (s.endFill l).ward p = s.ward p := (rfl)
@[simp] theorem lineWaits_ward (a sl ws) : (s.lineWaits a sl ws).ward p = s.ward p := (rfl)
@[simp] theorem wakeFill_ward (l) : (s.wakeFill l).ward .fences = s.ward .fences := by simp [State.wakeFill]
@[simp] theorem acceptedLine_ward (a) : (s.acceptedLine a).ward .fences = s.ward .fences := by simp [State.acceptedLine]
@[simp] theorem handAll_ward (volatileToo) : (s.handAll volatileToo).ward p = s.ward p := by simp [State.handAll]
@[simp] theorem dirtyTriggers_ward (n l) : (s.dirtyTriggers n l).ward p = s.ward p := by simp [State.dirtyTriggers]
@[simp] theorem becomeDirty_ward (n f) : (s.becomeDirty n f).ward p = s.ward p := by simp [State.becomeDirty]

@[simp] theorem placeLine_ward (a l sl ws) : (s.placeLine a l sl ws).2.ward .fences = s.ward .fences := by
  unfold State.placeLine
  dsimp only
  repeat' split
  all_goals simp

@[simp] theorem askFrame_ward (l) : (s.askFrame l).ward p = s.ward p := by
  unfold State.askFrame
  dsimp only
  repeat' split
  all_goals simp

@[simp] theorem takeLine_ward (a l sl ws) : (s.takeLine a l sl ws).ward .fences = s.ward .fences := by
  unfold State.takeLine
  dsimp only
  split
  · simp
  · split
    next e => simp [ward_of_eq e (placeLine_ward ..)]
    next e => simp [ward_of_eq e (placeLine_ward ..)]

@[simp] theorem retryWaiting_ward : s.retryWaiting.ward .fences = s.ward .fences := by
  refine (each_ward _ _ _ fun t w => ?_).trans (ward_rest _)
  split <;> simp

@[simp] theorem fillFails_ward (l) : (s.fillFails l).ward .fences = s.ward .fences := by
  unfold State.fillFails
  dsimp only
  repeat' split
  all_goals simp

@[simp] theorem setEntry_ward (l e) : (s.setEntry l e).ward p = s.ward p := by simp [State.setEntry]

@[simp] theorem supersede_ward (l w) : (s.supersede l w).ward p = s.ward p := by
  unfold State.supersede
  dsimp only
  split
  · rfl
  · split <;> simp [State.journal]

@[simp] theorem unmapNow_ward (l poison) : (s.unmapNow l poison).ward p = s.ward p := by simp [State.unmapNow, State.journal]

@[simp] theorem unmap_ward (l poison) : (s.unmap l poison).ward p = s.ward p := by
  unfold State.unmap
  dsimp only
  repeat' split
  all_goals simp

@[simp] theorem forgetPages_ward (gone) : (s.forgetPages gone).ward p = s.ward p := by simp [State.forgetPages]

@[simp] theorem losePage_ward (n f) : (s.losePage n f).ward .fences = s.ward .fences := by
  unfold State.losePage
  dsimp only
  split <;> simp

@[simp] theorem loseDimm_ward (c) : (s.loseDimm c).ward .fences = s.ward .fences := by
  unfold State.loseDimm
  split
  · rfl
  · extract_lets dtc t here lost segs u v
    have losing : u.ward .fences = s.ward .fences := (each_ward _ _ _ fun _ _ => losePage_ward _ _ _).trans (ward_rest s)
    have dropping : v.ward .fences = u.ward .fences := by
      refine each_ward _ _ _ fun _ _ => ?_
      repeat' split
      all_goals simp
    split
    · exact dropping.trans losing
    · exact (raiseAt_ward _ _ _ _).trans (dropping.trans losing)

/-! ### The tier, past the work of the MTE -/

@[simp] theorem perfAdd_dtc (page fuel n k) : (s.perfAdd page fuel n k).dtc = s.dtc := by
  induction fuel generalizing s n k with
  | zero => rfl
  | succ fuel ih => simp [perfAdd, ih]

@[simp] theorem perfEvent_dtc (page code k) : (s.perfEvent page code k).dtc = s.dtc := by simp [State.perfEvent]
@[simp] theorem journal_dtc (e) : (s.journal e).dtc = s.dtc := (rfl)
@[simp] theorem reserveWsn_dtc : s.reserveWsn.dtc = s.dtc := by simp [State.reserveWsn]
@[simp] theorem takeWsn_dtc : s.takeWsn.2.dtc = s.dtc := by simp [State.takeWsn, apply_ite Prod.snd]

@[simp] theorem fillers_dtc (n) (s : State) (l) : (fillers n s l).2.dtc = s.dtc := by
  induction n generalizing s l with
  | zero => rfl
  | succ n ih => simp [fillers, ih]

@[simp] theorem openFor_dtc (g purpose reason) : (s.openFor g purpose reason).2.dtc = s.dtc := by
  unfold State.openFor State.openSet
  dsimp only
  repeat' split
  case h_2.isTrue.isTrue => exact each_dtc _ _ _ fun _ _ => rfl
  all_goals rfl

@[simp] theorem closeStripe_dtc (g kind purpose pages reason) : (s.closeStripe g kind purpose pages reason).2.dtc = s.dtc := by
  unfold State.closeStripe
  dsimp only
  repeat' split
  all_goals simp

@[simp] theorem closeGather_dtc (force) : (s.closeGather force).dtc = s.dtc := by
  unfold State.closeGather
  split <;> simp

@[simp] theorem placeHanded_dtc (fuel) (s : State) : (placeHanded fuel s).dtc = s.dtc := by
  induction fuel generalizing s with
  | zero => rfl
  | succ fuel ih =>
    unfold placeHanded
    split
    · rfl
    · split <;> simp [ih, State.placeOne]

@[simp] theorem metaPages_dtc (n) (s : State) (type aux l) : (metaPages n s type aux l).2.dtc = s.dtc := by
  induction n generalizing s l with
  | zero => rfl
  | succ n ih => simp [metaPages, ih]

@[simp] theorem advanceRow_dtc (x) : (s.advanceRow x).dtc = s.dtc := by
  unfold State.advanceRow
  split
  · rfl
  · exact each_dtc _ _ _ fun _ _ => rfl

/-! ### The channels that are to join, past the frames -/

@[simp] theorem ite_joining (c : Prop) [Decidable c] (x y : Dtc) : (if c then x else y).joining = if c then x.joining else y.joining :=
  apply_ite _ _ _ _

@[simp] theorem each_joining {α : Type} (l : List α) (f : State → α → State) (hf : ∀ t x, (f t x).dtc.joining = t.dtc.joining) :
    (s.each l f).dtc.joining = s.dtc.joining := each_same (fun t => t.dtc.joining) hf

@[simp] theorem setFrame_joining (n f) : (s.setFrame n f).dtc.joining = s.dtc.joining := by
  unfold State.setFrame State.tagTouch
  split <;> rfl

@[simp] theorem captureFrame_joining (x) : (s.captureFrame x).2.dtc.joining = s.dtc.joining := by
  unfold State.captureFrame
  repeat' split
  all_goals simp

@[simp] theorem captureAll_joining (l) (s : State) : (captureAll l s).2.dtc.joining = s.dtc.joining := by
  induction l generalizing s with
  | nil => rfl
  | cons p t ih =>
    simp only [captureAll, ih]
    split <;> simp

@[simp] theorem readyStripe_joining (x) : (s.readyStripe x).2.dtc.joining = s.dtc.joining := by
  unfold State.readyStripe
  split <;> simp

@[simp] theorem issueMeta_joining (id) : (s.issueMeta id).dtc.joining = s.dtc.joining := by
  unfold State.issueMeta
  split <;> simp [State.orderFault, State.startRow, State.setStripe]

@[simp] theorem closeJournal_joining : s.closeJournal.dtc.joining = s.dtc.joining := by simp [State.closeJournal]
@[simp] theorem tendJournal_joining : s.tendJournal.dtc.joining = s.dtc.joining := by simp [State.tendJournal]
@[simp] theorem pump_joining : s.pump.dtc.joining = s.dtc.joining := by simp [State.pump]

@[simp] theorem handOver_joining (n) : (s.handOver n).dtc.joining = s.dtc.joining := by
  unfold State.handOver
  split <;> simp

@[simp] theorem handAll_joining (volatileToo) : (s.handAll volatileToo).dtc.joining = s.dtc.joining := by simp [State.handAll]
@[simp] theorem startReform_joining : s.startReform.dtc.joining = s.dtc.joining := by simp [State.startReform]

/-! ### The tier, past its channels' registers and the pins -/

@[simp] theorem feedOff_dtc (c) : (s.feedOff c).dtc = s.dtc := by simp [State.feedOff]

@[simp] theorem setTierRegs_dtc : s.setTierRegs.dtc = s.dtc := (setRegFld_dtc _ _ _ _ _ _).trans (setReg_dtc _ _ _ _)

theorem withPins_dtc (f : State → State) : (s.withPins f).dtc = (f s).dtc := by
  simp [State.withPins, State.pinIbis, State.sendIbi, State.memoryEvent, State.postAll, State.postRec, State.logInterrupt]

end Sys2Proof.Machine.State
end

section
/-! PROOFS. The channels of the DRAM tier (R183, R184, R202 to R207, R513; log 60): what each command makes of a channel's state, of what is
known of its DIMM, of its fence and of the phase of a re-form. -/

namespace Sys2Proof.Machine

open Sys2Proof

variable {s : State} {c d : Nat}

/-! ### The registers of a channel and the phase of a re-form -/

theorem dchPage_ne (c : Nat) (channel : c < 16) : dchPage c ≠ 0x028 := by
  unfold dchPage
  omega

theorem dchPage_inj : dchPage c = dchPage d ↔ c = d := by
  unfold dchPage
  omega

theorem State.dchState_of_reg {t : State} (h : t.reg (dchPage c) 0x100 = s.reg (dchPage c) 0x100) : t.dchState c = s.dchState c :=
  congrArg (fld · 29 3) h

/-- A write to the registers of a channel beside STATE and CAUSE leaves the states of all channels. -/
theorem State.setRegFld_dchState (s : State) (c d v : Nat) {off l w : Nat} (inPage : off < 0x1000) (below : l + w ≤ 29) :
    (s.setRegFld (dchPage d) off l w v).dchState c = s.dchState c := by
  by_cases same : regAddr (dchPage c) 0x100 = regAddr (dchPage d) off
  · obtain ⟨own, rfl⟩ := (regAddr_inj (by decide) inPage).mp same
    rw [State.dchState, own, State.regFld_setRegFld_beside _ _ _ _ (by decide) (.inr below), State.dchState, own]
  · exact State.regFld_setRegFld_other s l w v 29 3 same

theorem State.raiseAt_dchState (s : State) (p : Nat) (src : Source) (w : Where) (c : Nat) : (s.raiseAt p src w).dchState c = s.dchState c :=
  State.dchState_of_reg (s.raiseAt_reg (by decide) (by decide) p src w)

theorem State.raise_dchState (s : State) (p : Nat) (src : Source) (c : Nat) : (s.raise p src).dchState c = s.dchState c :=
  s.raiseAt_dchState p src {} c

theorem State.feedOff_reg (s : State) (c page off : Nat) : (s.feedOff c).reg page off = s.reg page off := by
  unfold State.feedOff
  split <;> rfl

theorem State.setDch_dchState (s : State) (c st cause : Nat) : (s.setDch c st cause).dchState c = st % 8 := by
  have written : ((s.setRegFld (dchPage c) 0x100 29 3 st).setRegFld (dchPage c) 0x100 24 5 cause).dchState c = st % 8 := by
    rw [State.setRegFld_dchState _ _ _ _ (by decide) (by decide)]
    exact s.regFld_setRegFld _ _ _ (by decide)
  unfold State.setDch
  split
  · exact written
  · rw [State.setRegFld_dchState _ _ _ _ (by decide) (by decide), written]

/-- The registers of a channel are not those of the tier. -/
theorem State.setDch_reg_tier (s : State) (channel : c < 16) (st cause off : Nat) (inPage : off < 0x1000) :
    (s.setDch c st cause).reg 0x028 off = s.reg 0x028 off := by
  have other (t : State) (l w v : Nat) : (t.setRegFld (dchPage c) 0x100 l w v).reg 0x028 off = t.reg 0x028 off :=
    t.reg_setRegFld_other l w v fun same => dchPage_ne c channel ((regAddr_inj inPage (by decide)).mp same).1.symm
  unfold State.setDch
  split <;> simp only [other]

/-! ### Training (R183) -/

theorem channelTrainingDone_joins {c : Fin 16} (trains : s.dchState c.val = 2) (reform : s.regFld 0x028 0x104 4 3 ≠ 0) :
    ∃ u : State, exec (.channelTrainingDone c) s = .next (s.withPins (fun _ => u)) ∧ u.dchState c.val = 3 :=
  ⟨s.setDch c.val 3 0, congrArg Host.Outcome.next (withPins_congr (by simp [State.trainedDch, trains, reform])), s.setDch_dchState _ _ _⟩

theorem channelTrainingDone_forms {c : Fin 16} (trains : s.dchState c.val = 2) (still : s.regFld 0x028 0x104 4 3 = 0) :
    ∃ u : State, exec (.channelTrainingDone c) s = .next (s.withPins (fun _ => u.tierFormed)) ∧ u.dchState c.val = 3 :=
  ⟨s.setDch c.val 3 0, congrArg Host.Outcome.next (withPins_congr (by simp [State.trainedDch, trains, still])), s.setDch_dchState _ _ _⟩

/-- A channel that has not trained is Empty with the cause of R208, its feed is off, and the failure is reported. -/
def State.dchUntrained (s : State) (c : Nat) : State := ((s.setDch c 0 7).feedOff c).raise (dchPage c) .dtcChTrainFail

theorem State.dchUntrained_dchState (s : State) (c : Nat) : (s.dchUntrained c).dchState c = 0 := by
  rw [State.dchUntrained, State.raise_dchState, State.dchState_of_reg (State.feedOff_reg _ _ _ _), State.setDch_dchState]

theorem State.dchUntrained_phase (s : State) (channel : c < 16) : (s.dchUntrained c).regFld 0x028 0x104 4 3 = s.regFld 0x028 0x104 4 3 := by
  rw [State.regFld, State.dchUntrained, State.raise_reg _ (by decide) (by decide), State.feedOff_reg,
    State.setDch_reg_tier s channel _ _ _ (by decide), State.regFld]

theorem State.untrainedDch_outside (trains : s.dchState c = 2) (channel : c < 16) (still : s.regFld 0x028 0x104 4 3 = 0) :
    s.untrainedDch c = (s.dchUntrained c).decidePopulation := by
  rw [State.untrainedDch, if_neg (by simp [trains])]
  exact if_pos ((s.dchUntrained_phase channel).trans still)

theorem channelTrainingTimeout_empties {c : Fin 16} (trains : s.dchState c.val = 2) (still : s.regFld 0x028 0x104 4 3 = 0) :
    ∃ u : State, exec (.channelTrainingTimeout c) s = .next (s.withPins (fun _ => u.decidePopulation)) ∧ u.dchState c.val = 0 :=
  ⟨s.dchUntrained c.val, congrArg Host.Outcome.next (withPins_congr (State.untrainedDch_outside trains c.isLt still)),
    s.dchUntrained_dchState _⟩

/-! ### Rounds over the DIMMs -/

/-- One round of a loop brings about what no later round undoes, where every round keeps what the rounds rest on. -/
theorem State.each_settles {α : Type} {P Q : State → Prop} {l : List α} {f : State → α → State} {x : α} (mem : x ∈ l) (start : P s)
    (keepsP : ∀ t, ∀ y ∈ l, P t → P (f t y)) (sets : ∀ t, P t → Q (f t x)) (keepsQ : ∀ t, ∀ y ∈ l, P t → Q t → Q (f t y)) :
    Q (s.each l f) := by
  obtain ⟨before, after, rfl⟩ := List.append_of_mem mem
  have reached : P (before.foldl f s) :=
    List.foldlRecOn before f start fun t kept y here => keepsP t y (List.mem_append_left _ here) kept
  rw [State.each, List.foldl_append, List.foldl_cons]
  refine (List.foldlRecOn (motive := fun t => P t ∧ Q t) after f ⟨keepsP _ x mem reached, sets _ reached⟩ fun t both y here => ?_).2
  have listed : y ∈ before ++ x :: after := List.mem_append_right _ (List.mem_cons_of_mem x here)
  exact ⟨keepsP t y listed both.1, keepsQ t y listed both.1 both.2⟩

theorem State.dimmReading_dchState (s : State) (d : Nat) (t : Byte) (c : Nat) : (s.dimmReading d t).dchState c = s.dchState c := by
  rw [State.dimmReading, State.setRegFld_dchState _ _ _ _ (by decide) (by decide), State.setRegFld_dchState _ _ _ _ (by decide) (by decide)]

theorem State.dimmReading_dtc (s : State) (d : Nat) (t : Byte) : (s.dimmReading d t).dtc = s.dtc := rfl

/-- NOW shows the reading (R208). -/
theorem State.dimmReading_now (s : State) (c : Nat) (t : Byte) : (s.dimmReading c t).regFld (dchPage c) 0x104 0 8 = t.toNat := by
  rw [State.dimmReading, State.regFld_setRegFld_beside _ _ _ _ (by decide) (.inl (by decide)), State.regFld_setRegFld _ _ _ _ (by decide)]
  exact Nat.mod_eq_of_lt t.isLt

theorem State.dimmReading_now_other (s : State) (other : c ≠ d) (t : Byte) :
    (s.dimmReading d t).regFld (dchPage c) 0x104 0 8 = s.regFld (dchPage c) 0x104 0 8 := by
  have apart : regAddr (dchPage c) 0x104 ≠ regAddr (dchPage d) 0x104 := fun same =>
    other (dchPage_inj.mp ((regAddr_inj (by decide) (by decide)).mp same).1)
  rw [State.dimmReading, State.regFld_setRegFld_other _ _ _ _ _ _ apart, State.regFld_setRegFld_other _ _ _ _ _ _ apart]

/-- A reread shows each reading at its own DIMM. -/
theorem State.dimmRereads_now (temps : List Byte) (channel : c < 16) (known : (s.socket c).known = true) (ok : spdOk (s.socket c).spd = true)
    (unused : s.dchState c ≠ 3) : (s.dimmRereads temps).regFld (dchPage c) 0x104 0 8 = (temps.getD c 0x80).toNat := by
  have mem : c ∈ (List.range 16).filter (fun c => (s.socket c).known && spdOk (s.socket c).spd && s.dchState c != 3) := by
    simp [channel, known, ok, unused]
  refine State.each_settles (P := fun _ => True) (Q := fun t => t.regFld (dchPage c) 0x104 0 8 = (temps.getD c 0x80).toNat) mem trivial
    (fun _ _ _ _ => trivial) (fun t _ => t.dimmReading_now c _) fun t d _ _ shown => ?_
  rcases eq_or_ne c d with rfl | other
  · exact t.dimmReading_now c _
  · exact (t.dimmReading_now_other other _).trans shown

theorem dimmReread_records {c : Fin 16} (temps : List Byte) (known : (s.socket c.val).known = true) (ok : spdOk (s.socket c.val).spd = true)
    (unused : s.dchState c.val ≠ 3) : ∃ u : State, exec (.dimmReread temps) s = .next (s.withPins (fun _ => u)) ∧
      u.regFld (dchPage c.val) 0x104 0 8 = (temps.getD c.val 0x80).toNat :=
  ⟨_, congrArg Host.Outcome.next (withPins_congr rfl), State.dimmRereads_now temps c.isLt known ok unused⟩

/-! ### Readings within the limits (R202) -/

/-- What DTC holds is the same, and so is the state of every channel: registers beside STATE and events may differ. -/
def State.SameDimms (s t : State) : Prop := t.dtc = s.dtc ∧ ∀ c, t.dchState c = s.dchState c

theorem State.SameDimms.refl (s : State) : s.SameDimms s := ⟨rfl, fun _ => rfl⟩

theorem State.SameDimms.trans {t u : State} (st : s.SameDimms t) (tu : t.SameDimms u) : s.SameDimms u :=
  ⟨tu.1.trans st.1, fun c => (tu.2 c).trans (st.2 c)⟩

theorem State.SameDimms.ite {t u : State} {p : Prop} [Decidable p] (st : s.SameDimms t) (su : s.SameDimms u) :
    s.SameDimms (if p then t else u) := by
  split
  exacts [st, su]

theorem State.setRegFld_sameDimms (s : State) (d v : Nat) {off l w : Nat} (inPage : off < 0x1000) (below : l + w ≤ 29) :
    s.SameDimms (s.setRegFld (dchPage d) off l w v) := ⟨rfl, fun c => s.setRegFld_dchState c d v inPage below⟩

theorem State.raise_sameDimms (s : State) (p : Nat) (src : Source) : s.SameDimms (s.raise p src) :=
  ⟨s.raise_dtc p src, s.raise_dchState p src⟩

theorem State.dimmReading_sameDimms (s : State) (d : Nat) (t : Byte) : s.SameDimms (s.dimmReading d t) :=
  ⟨s.dimmReading_dtc d t, s.dimmReading_dchState d t⟩

/-- What is known of a DIMM, with no bad round counted. -/
def Socket.cleared (x : Socket) : Socket := { x with outRounds := 0, badRounds := 0 }

/-- A readable reading within the limits clears the counts of a DIMM in use, of an Active channel among them, and counts nothing of another. -/
theorem State.dimmRound_inside {t : Byte} (readable : t ≠ 0x80) (inside : spdOutside (s.socket d).spd t = false) : ∃ u : State,
    s.SameDimms u ∧ ((s.dchState d ≠ 3 ∧ s.dimmRound d t false = u) ∨ s.dimmRound d t false = u.setSocket d (s.socket d).cleared) := by
  unfold State.dimmRound
  rw [if_neg Bool.false_ne_true]
  extract_lets b read x bad v hi refreshed was throttled out
  have noted : s.SameDimms read := s.dimmReading_sameDimms d t
  have same : x = s.socket d := State.socket_of_dtc noted.1 d
  have refresh : read.SameDimms refreshed :=
    .ite (read.setRegFld_sameDimms d 1 (by decide) (by decide)) (.ite (read.setRegFld_sameDimms d 0 (by decide) (by decide)) (.refl read))
  have throttle : refreshed.SameDimms throttled :=
    .ite (.ite ((refreshed.setRegFld_sameDimms d 1 (by decide) (by decide)).trans (State.raise_sameDimms _ _ _)) (.refl refreshed))
      (.ite (refreshed.setRegFld_sameDimms d 0 (by decide) (by decide)) (.refl refreshed))
  split
  next idle =>
    have inactive : s.dchState d ≠ 3 := by
      rw [← noted.2 d]
      simp only [Bool.and_eq_true, bne_iff_ne] at idle
      exact idle.1
    exact ⟨read, noted, .inl ⟨inactive, rfl⟩⟩
  next =>
    rw [← same] at inside ⊢
    rw [if_neg (ne_true_of_eq_false inside)]
    exact ⟨throttled, (noted.trans refresh).trans throttle, .inr rfl⟩

theorem State.socket_setSocket_other (s : State) (x : Socket) (other : c ≠ d) : (s.setSocket d x).socket c = s.socket c := by
  simp [State.socket, State.setSocket, Tab.get, Tab.find_put_other _ _ other]

theorem State.setSocket_dchState (s : State) (d : Nat) (x : Socket) (c : Nat) : (s.setSocket d x).dchState c = s.dchState c := rfl

/-- What one round keeps: the states of the channels, and of each socket all but its counts, which it clears or leaves. -/
theorem State.dimmRound_inside_keeps {t : Byte} (readable : t ≠ 0x80) (inside : spdOutside (s.socket d).spd t = false) (c : Nat) :
    (s.dimmRound d t false).dchState c = s.dchState c ∧
      ((s.dimmRound d t false).socket c = s.socket c ∨ (s.dimmRound d t false).socket c = (s.socket c).cleared) := by
  obtain ⟨u, same, ⟨-, round⟩ | round⟩ := State.dimmRound_inside readable inside
  · exact round ▸ ⟨same.2 c, .inl (State.socket_of_dtc same.1 c)⟩
  · rw [round, State.setSocket_dchState]
    refine ⟨same.2 c, ?_⟩
    rcases eq_or_ne c d with rfl | other
    · exact .inr (State.socket_setSocket _ _ _)
    · exact .inl ((u.socket_setSocket_other _ other).trans (State.socket_of_dtc same.1 c))

theorem State.dimmRound_clears {t : Byte} (readable : t ≠ 0x80) (inside : spdOutside (s.socket c).spd t = false) (active : s.dchState c = 3) :
    (s.dimmRound c t false).socket c = (s.socket c).cleared := by
  obtain ⟨u, -, ⟨inactive, -⟩ | round⟩ := State.dimmRound_inside readable inside
  · exact absurd active inactive
  · rw [round, State.socket_setSocket]

/-- The counts of bad rounds of a DIMM are 0. -/
def Socket.Clear (x : Socket) : Prop := x.outRounds = 0 ∧ x.badRounds = 0

theorem State.dimmRounds_clear {temps : List Byte}
    (inside : ∀ k, k < 16 → temps.getD k 0x80 ≠ 0x80 ∧ spdOutside (s.socket k).spd (temps.getD k 0x80) = false) (channel : c < 16)
    (known : (s.socket c).known = true) (ok : spdOk (s.socket c).spd = true) (active : s.dchState c = 3) :
    ((s.dimmRounds temps 0).socket c).Clear := by
  have mem : c ∈ (List.range 16).filter (fun c => (s.socket c).known && spdOk (s.socket c).spd) := by simp [channel, known, ok]
  have noneGone (d : Nat) : bitAt (0 : BitVec 16) d = false := BitVec.getLsbD_zero
  simp only [State.dimmRounds, noneGone]
  refine State.each_settles (P := fun t => t.dchState c = 3 ∧ ∀ k, (t.socket k).spd = (s.socket k).spd) (Q := fun t => (t.socket c).Clear)
    mem ⟨active, fun _ => rfl⟩ (fun t d listed kept => ?keeps) (fun t kept => ?sets) fun t d listed kept clear => ?stays
  case sets =>
    obtain ⟨readable, here⟩ := inside c channel
    rw [State.dimmRound_clears readable ((kept.2 c).symm ▸ here) kept.1]
    exact ⟨rfl, rfl⟩
  all_goals
    obtain ⟨readable, here⟩ := inside d (List.mem_range.mp (List.mem_of_mem_filter listed))
    have round := State.dimmRound_inside_keeps readable ((kept.2 d).symm ▸ here)
  case keeps =>
    refine ⟨(round c).1.trans kept.1, fun k => ?_⟩
    rcases (round k).2 with same | cleared
    · rw [same, kept.2 k]
    · rw [cleared, ← kept.2 k]
      rfl
  case stays =>
    rcases (round c).2 with same | cleared
    · exact same ▸ clear
    · exact cleared ▸ ⟨rfl, rfl⟩

theorem dimmThermalRound_clears {c : Fin 16} {temps : List Byte}
    (inside : ∀ k, k < 16 → temps.getD k 0x80 ≠ 0x80 ∧ spdOutside (s.socket k).spd (temps.getD k 0x80) = false)
    (known : (s.socket c.val).known = true) (ok : spdOk (s.socket c.val).spd = true) (active : s.dchState c.val = 3) :
    ∃ t, exec (.dimmThermalRound ⟨temps, 0⟩) s = .next t ∧ (t.socket c.val).outRounds = 0 ∧ (t.socket c.val).badRounds = 0 := by
  refine ⟨_, rfl, ?_⟩
  rw [State.socket_of_dtc (State.withPins_dtc _ _)]
  exact State.dimmRounds_clear inside c.isLt known ok active

/-! ### DRAM errors (R204) -/

theorem dramError_rail {c : Fin 16} (active : s.dchState c.val = 3) : exec (.dramError c .rail) s = exec (.channelFence c 5) s :=
  congrArg Host.Outcome.next (withPins_congr (by simp [State.dramError, active]))

/-- A corrected error on a channel without a marked device is in the log of the last 24 hours, whether or not it marks the device. -/
theorem State.dramCe_logs (unmarked : bitAt (s.reg (dchPage c) 0x10c) 5 = false) (sub : Bool) (dev : BitVec 4) :
    (c, 10 * (if sub then 1 else 0) + dev.toNat, s.ns) ∈ (s.dramCe c sub dev).dtc.ces := by
  unfold State.dramCe
  extract_lets device counted log dtc logged mark
  have unmarked' : bitAt mark 5 = false := by
    have same : mark = s.reg (dchPage c) 0x10c :=
      (State.raise_reg _ (by decide) (by decide) _ _).trans (s.reg_setRegFld_other _ _ _ (by rw [Ne, regAddr_inj] <;> simp))
    rw [same, unmarked]
  have entered : (c, device, s.ns) ∈ logged.dtc.ces := by
    have now : counted.ns = s.ns := congrArg BitVec.toNat ((State.raise_time _ _ _).trans (State.countUp_time _ _ _ _ _ _))
    exact now ▸ List.mem_concat_self
  rw [if_neg (ne_true_of_eq_false unmarked'), State.ite_dtc, State.raise_dtc, State.setReg_dtc, ite_self]
  exact entered

theorem dramError_corrected {c : Fin 16} (active : s.dchState c.val = 3) (unmarked : bitAt (s.reg (dchPage c.val) 0x10c) 5 = false)
    (sub : Bool) (dev : BitVec 4) (p : DramPlace) : ∃ t, exec (.dramError c (.device sub dev p)) s = .next t ∧
      (c.val, 10 * (if sub then 1 else 0) + dev.toNat, s.ns) ∈ t.dtc.ces := by
  have corrected : s.dramError c.val (.device sub dev p) = s.dramCe c.val sub dev := by simp [State.dramError, active, unmarked]
  refine ⟨_, rfl, ?_⟩
  rw [State.withPins_dtc, corrected]
  exact State.dramCe_logs unmarked sub dev

/-- PATROL_SCRUB_PASS counts its pass (R204). -/
theorem patrolScrubPass_counts (s : State) : exec .patrolScrubPass s = .next { s with dtc := { s.dtc with scrubs := s.dtc.scrubs + 1 } } := rfl

/-! ### Channel fences (R204, R205, R513) -/

theorem State.fence_holds (s : State) {dom inst : Nat} (code : dom < 16) (number : inst < 2 ^ 20) : (s.fence dom inst).isFenced dom inst = true := by
  unfold State.fence
  dsimp only
  split
  · assumption
  · exact List.any_eq_true.mpr ⟨_, List.mem_concat_self,
      Bool.and_eq_true_iff.mpr ⟨decide_eq_true (Nat.mod_eq_of_lt code), decide_eq_true (Nat.mod_eq_of_lt number)⟩⟩

/-- The fence of an Active channel holds its domain; neither the loss of its DIMM nor the re-form that begins lifts it. -/
theorem State.fenceAs_isFenced (active : s.dchState c = 3) (channel : c < 16) (cause : Nat) (dies : Bool) :
    (s.fenceAs c cause dies).isFenced 5 c = true := by
  rw [State.fenceAs, if_neg (by simp [active]), if_neg (by simp [active])]
  extract_lets fenced reported held socket known out dtc named apart lost
  have holds : known.isFenced 5 c = true := State.fence_holds reported (by decide) (by omega)
  rw [← holds]
  split
  next =>
    have apart_ward : apart.ward .fences = known.ward .fences :=
      (State.each_ward _ _ _ fun t d => by rw [State.feedOff_ward, State.ward_ite, State.setDch_ward, ite_self]).trans (State.ward_rest known)
    refine State.isFenced_of_ward ?_ 5 c
    rw [State.ward_ite, State.startReform_ward, ite_self, apart_ward]
  next =>
    have lost_ward : lost.ward .fences = known.ward .fences := by rw [State.ward_ite, State.loseDimm_ward, ite_self]
    exact State.isFenced_of_ward ((State.startReform_ward _).trans ((State.ward_rest lost).trans lost_ward)) 5 c

theorem channelFence_fences {c : Fin 16} (active : s.dchState c.val = 3) (cause : BitVec 5) :
    ∃ t, exec (.channelFence c cause) s = .next t ∧ t.isFenced 5 c.val = true := by
  refine ⟨_, rfl, ?_⟩
  rw [State.isFenced_of_ward (State.withPins_ward _ _)]
  exact State.fenceAs_isFenced active c.isLt _ _

/-! ### The phases of a re-form (R206, R207) -/

/-- PHASE reads as it was written. -/
theorem State.setPhase_phase (s : State) (phase : Nat) : (s.setRegFld 0x028 0x104 4 3 phase).regFld 0x028 0x104 4 3 = phase % 8 :=
  s.regFld_setRegFld _ _ _ (by decide)

theorem reformDrainEnd_freezes (drains : s.regFld 0x028 0x104 4 3 = 1)
    (few : (s.dtc.frames.filter (fun (e : Nat × Frame) => e.2.staged)).length ≤ 16384) : ∃ u : State,
    exec .reformDrainEnd s = .next (s.withPins (fun _ => (u.handAll true).pump)) ∧ u.regFld 0x028 0x104 4 3 = 2 :=
  ⟨_, congrArg Host.Outcome.next (withPins_congr (if_neg (by simp [drains, few]))), s.setPhase_phase 2⟩

theorem reformFreezeEnd_relocates (freezes : s.regFld 0x028 0x104 4 3 = 2)
    (empty : s.dtc.frames.any (fun (e : Nat × Frame) => e.2.staged) = false) : ∃ u : State,
    exec .reformFreezeEnd s = .next (s.withPins (fun _ => u)) ∧ u.regFld 0x028 0x104 4 3 = 3 :=
  ⟨_, congrArg Host.Outcome.next (withPins_congr (if_neg (by simp [freezes, empty]))), s.setPhase_phase 3⟩

/-- The tier after the Switch of a re-form holds no page, and no channel is left to leave or to join; Resume then lets the waiting lines in. -/
theorem State.relocateEnded_empties (relocates : s.regFld 0x028 0x104 4 3 = 3)
    (trained : s.dtc.joining.any (fun c => s.dchState c == 2) = false)
    (empty : s.dtc.frames.any (fun (e : Nat × Frame) => e.2.staged) = false) : ∃ (u : State) (late : List Nat),
    s.relocateEnded = ((u.retryWaiting).each late State.relocDone).pump ∧ u.dtc.frames = [] ∧ u.dtc.leaving = [] ∧ u.dtc.joining = [] := by
  rw [State.relocateEnded, if_neg (by simp [relocates, trained, empty])]
  extract_lets ended gone used late dtc switched left formed
  have tier : formed.dtc = switched.dtc := (State.setTierRegs_dtc left).trans
    (State.each_dtc _ _ _ fun t d => by rw [State.feedOff_dtc, State.setRegFld_dtc, State.ite_dtc, State.setDch_dtc, ite_self])
  refine ⟨_, late, rfl, ?_⟩
  rw [State.raise_dtc]
  exact ⟨congrArg Dtc.frames tier, congrArg Dtc.leaving tier, congrArg Dtc.joining tier⟩

theorem reformRelocateEnd_switches (relocates : s.regFld 0x028 0x104 4 3 = 3)
    (trained : s.dtc.joining.any (fun c => s.dchState c == 2) = false)
    (empty : s.dtc.frames.any (fun (e : Nat × Frame) => e.2.staged) = false) : ∃ (u : State) (late : List Nat),
    exec .reformRelocateEnd s = .next (s.withPins (fun _ => (((u.retryWaiting).each late State.relocDone).pump).drain)) ∧
      u.dtc.frames = [] ∧ u.dtc.leaving = [] ∧ u.dtc.joining = [] := by
  obtain ⟨u, late, ends, empties⟩ := State.relocateEnded_empties relocates trained empty
  exact ⟨u, late, congrArg Host.Outcome.next (withPins_congr (congrArg State.drain ends)), empties⟩

theorem reformTimeout_reports (drains : s.regFld 0x028 0x104 4 3 = 1) :
    exec .reformTimeout s = .next (s.withPins (fun s => s.raise 0x028 .dtcReformTmo)) :=
  congrArg Host.Outcome.next (withPins_congr (if_pos drains))

/-! ### Groups that join (R203) -/

theorem readmitTimeExpiry_joins {g : Fin 4}
    (next_ : (List.range 4).find? (fun g => (groupSockets g).any (fun c => !decide (c ∈ s.dtc.used))) = some g.val)
    (decided : s.dtc.decided = true) (still : s.regFld 0x028 0x104 4 3 = 0) (may : (groupSockets g.val).all s.mayJoin = true) :
    ∃ t, exec .readmitTimeExpiry s = .next t ∧ t.dtc.joining = groupSockets g.val := by
  refine ⟨_, rfl, ?_⟩
  rw [State.withPins_dtc, State.readmitted, next_]
  dsimp only
  rw [if_neg (by simp [decided, still, may]), State.startReform_joining]

/-- Settles O17, command by command. -/
theorem tierChannels : Obligations.TierChannels := fun s _ =>
  ⟨channelTrainingDone_joins, channelTrainingDone_forms, channelTrainingTimeout_empties,
    fun _ inside known ok active => dimmThermalRound_clears inside known ok active,
    fun temps known ok unused => dimmReread_records temps known ok unused,
    dramError_rail,
    fun active unmarked sub dev p => dramError_corrected active unmarked sub dev p,
    fun active cause => channelFence_fences active cause,
    patrolScrubPass_counts s,
    reformDrainEnd_freezes, reformFreezeEnd_relocates,
    fun relocates trained empty => reformRelocateEnd_switches relocates trained empty,
    reformTimeout_reports,
    fun _ next_ decided still may => readmitTimeExpiry_joins next_ decided still may⟩

end Sys2Proof.Machine
end

section
/-! PROOFS. What answers, lines on their way down, crumb reads, stripes and their ends leave alone: the programmed pages, the record of
programs, the anchors of the blocks, or the stripes. One equation per operation, in the order in which they call each other; the simplifier
goes through an operation by the equations of those it calls. -/

namespace Sys2Proof.Machine

open Sys2Proof

/-- A part of the media controllers, or the stripes of the MTE, that few operations write. -/
inductive MediumPart where
  | pages
  | programs
  | anchors
  | stripes

/-- What a part holds. -/
def State.part (p : MediumPart) (s : State) : Tab Page × List (Nat × Nat) × (Nat → Bool) × List Stripe :=
  match p with
  | .pages => (s.mch.pages, [], fun _ => false, [])
  | .programs => ([], s.mch.pgmLog, fun _ => false, [])
  | .anchors => ([], [], fun b => (s.block b).anchored, [])
  | .stripes => ([], [], fun _ => false, s.mte.stripes)

end Sys2Proof.Machine

namespace Sys2Proof.Machine.State

open Sys2Proof

variable {p : MediumPart} (s : State)

/-! ### Choices, loops and the other fields

As with the plant, a proof `(rfl)` in parentheses stays a step that the simplifier takes in the side condition of `each_part`. -/

@[simp] theorem part_rest {pe ou fr ti om on rg sh ho pf cy fa pa mg fl pn pw th cr sl dt ca po fx hd sv} :
    part p { s with
      pending := pe, out := ou, free := fr, time := ti, opMs := om, opNs := on, regs := rg, shadow := sh, hold := ho, perf := pf, cyc := cy,
      freezeAll := fa, pages := pa, mgt := mg, flt := fl, pan := pn, pwr := pw, thm := th, crs := cr, slices := sl, dtc := dt, cages := ca,
      ports := po, fxb := fx, heads := hd, sve := sv } = s.part p := (rfl)

@[simp] theorem part_mch {pe ou fr ti om on rg sh ho pf cy fa pa mg fl pn pw th cr sl dt ca po fx hd sv di re rf mo bf rp cp su co ro bl bu} :
    part p { s with
      pending := pe, out := ou, free := fr, time := ti, opMs := om, opNs := on, regs := rg, shadow := sh, hold := ho, perf := pf, cyc := cy,
      freezeAll := fa, pages := pa, mgt := mg, flt := fl, pan := pn, pwr := pw, thm := th, crs := cr, slices := sl, dtc := dt, cages := ca,
      ports := po, fxb := fx, heads := hd, sve := sv, mch := { s.mch with
        dies := di, reads := re, refresh := rf, moving := mo, busFails := bf, repeats := rp, cap := cp, surveyed := su, corr := co,
        round := ro, badLists := bl, badUnread := bu } } = s.part p := (rfl)

@[simp] theorem part_pages {pe ou fr ti om on rg sh ho pf cy fa pa mg fl pn pw th cr sl dt ca po fx hd sv mt} :
    part .pages { s with
      pending := pe, out := ou, free := fr, time := ti, opMs := om, opNs := on, regs := rg, shadow := sh, hold := ho, perf := pf, cyc := cy,
      freezeAll := fa, pages := pa, mgt := mg, flt := fl, pan := pn, pwr := pw, thm := th, crs := cr, slices := sl, dtc := dt, cages := ca,
      ports := po, fxb := fx, heads := hd, sve := sv, mte := mt } = s.part .pages := (rfl)

@[simp] theorem part_programs {pe ou fr ti om on rg sh ho pf cy fa pa mg fl pn pw th cr sl dt ca po fx hd sv mt} :
    part .programs { s with
      pending := pe, out := ou, free := fr, time := ti, opMs := om, opNs := on, regs := rg, shadow := sh, hold := ho, perf := pf, cyc := cy,
      freezeAll := fa, pages := pa, mgt := mg, flt := fl, pan := pn, pwr := pw, thm := th, crs := cr, slices := sl, dtc := dt, cages := ca,
      ports := po, fxb := fx, heads := hd, sve := sv, mte := mt } = s.part .programs := (rfl)

@[simp] theorem part_programs_mch {pg mt} :
    part .programs { s with mch := { s.mch with pages := pg }, mte := mt } = s.part .programs := (rfl)

@[simp] theorem part_ite (c : Prop) [Decidable c] (x y : State) : (if c then x else y).part p = if c then x.part p else y.part p :=
  apply_ite _ _ _ _

@[simp] theorem each_part {α : Type} (l : List α) (f : State → α → State) (hf : ∀ t x, (f t x).part p = t.part p) :
    (s.each l f).part p = s.part p := each_same (State.part p) hf

/-- The state in the answer of an operation that leaves a part alone. -/
theorem part_of_eq {s t : State} {α : Type} {r : α × State} {x : α} (e : r = (x, t)) (h : r.2.part p = s.part p) : t.part p = s.part p := by
  rw [e] at h; exact h

theorem part_congr {s t : State} (mch : t.mch = s.mch) (mte : t.mte = s.mte) : t.part p = s.part p := by
  cases p <;> simp only [part, State.block, mch, mte]

theorem pages_of_part {s t : State} (h : t.part .pages = s.part .pages) : t.mch.pages = s.mch.pages := congrArg Prod.fst h
theorem pgmLog_of_part {s t : State} (h : t.part .programs = s.part .programs) : t.mch.pgmLog = s.mch.pgmLog := congrArg (·.2.1) h
theorem stripes_of_part {s t : State} (h : t.part .stripes = s.part .stripes) : t.mte.stripes = s.mte.stripes := congrArg (·.2.2.2) h

theorem anchored_of_part {s t : State} (h : t.part .anchors = s.part .anchors) (b : Nat) : (t.block b).anchored = (s.block b).anchored :=
  congrFun (congrArg (·.2.2.1) h) b

/-! ### The named operations -/

@[simp] theorem setSlice_part (i x) : (s.setSlice i x).part p = s.part p := (rfl)
@[simp] theorem setPort_part (i x) : (s.setPort i x).part p = s.part p := (rfl)
@[simp] theorem setHead_part (i x) : (s.setHead i x).part p = s.part p := (rfl)
@[simp] theorem setPair_part (dev x) : (s.setPair dev x).part p = s.part p := (rfl)
@[simp] theorem setCore_part (n x) : (s.setCore n x).part p = s.part p := (rfl)
@[simp] theorem setDie_part (i x) : (s.setDie i x).part p = s.part p := (rfl)
@[simp] theorem setBlock_part_pages (i x) : (s.setBlock i x).part .pages = s.part .pages := (rfl)
@[simp] theorem setBlock_part_programs (i x) : (s.setBlock i x).part .programs = s.part .programs := (rfl)
@[simp] theorem setRwr_part_programs (r x) : (s.setRwr r x).part .programs = s.part .programs := (rfl)
@[simp] theorem emit_part (o) : (s.emit o).part p = s.part p := (rfl)
@[simp] theorem setRegFld_part (page off lsb w v) : (s.setRegFld page off lsb w v).part p = s.part p := (rfl)
@[simp] theorem countUp_part (page off lsb w by_) : (s.countUp page off lsb w by_).part p = s.part p := (rfl)
@[simp] theorem fence_part (dom inst) : (s.fence dom inst).part p = s.part p := part_congr (by simp) (by simp)
@[simp] theorem setLive_part (page src on) : (s.setLive page src on).part p = s.part p := part_congr (by simp) (by simp)
@[simp] theorem raiseAt_part (page src w) : (s.raiseAt page src w).part p = s.part p := part_congr (by simp) (by simp)
@[simp] theorem raise_part (page src) : (s.raise page src).part p = s.part p := raiseAt_part s page src {}

/-- A block keeps its anchor when it is written with it. -/
@[simp] theorem setBlock_part (i x) (same : x.anchored = (s.block i).anchored) : (s.setBlock i x).part p = s.part p := by
  cases p with
  | anchors =>
    simp only [part, Prod.mk.injEq, true_and, and_true]
    funext b
    by_cases own : b = i
    · rw [own, block_setBlock, same]
    · rw [block_setBlock_other s x own]
  | _ => rfl

/-! ### Sending and answers -/

@[simp] theorem routeOut_part (r m) : (s.routeOut r m).part p = s.part p := by
  unfold State.routeOut State.sendOn State.leave State.linkWake
  dsimp only
  repeat' split
  all_goals simp

@[simp] theorem sendPlain_part (dst tag epoch status xinfo m) : (s.sendPlain dst tag epoch status xinfo m).part p = s.part p := by
  simp [State.sendPlain]

@[simp] theorem sendRsp_part (dst tag epoch status xinfo m) : (s.sendRsp dst tag epoch status xinfo m).part p = s.part p := by
  simp [State.sendRsp]

@[simp] theorem closeMarks_part (dev) : (s.closeMarks dev).part p = s.part p := by simp [State.closeMarks]
@[simp] theorem peerDone_part (dev tag rank) : (s.peerDone dev tag rank).part p = s.part p := by simp [State.peerDone]

@[simp] theorem gpfCheck_part (h) : (s.gpfCheck h).part p = s.part p := by
  unfold State.gpfCheck
  dsimp only
  split <;> simp

@[simp] theorem gpfChecks_part : s.gpfChecks.part p = s.part p := by simp [State.gpfChecks]

@[simp] theorem headDone_part (h tag kind rank) : (s.headDone h tag kind rank).part p = s.part p := by
  unfold State.headDone
  dsimp only
  split <;> simp

@[simp] theorem copyAck_part (dev line page status) : (s.copyAck dev line page status).part p = s.part p := by
  unfold State.copyAck
  dsimp only
  repeat' split
  all_goals simp

@[simp] theorem answerPoint_part (w point last) : (s.answerPoint w point last).part p = s.part p := by
  unfold State.answerPoint
  split <;> simp [State.dedupNote]

@[simp] theorem answerBad_part (w rank) : (s.answerBad w rank).part p = s.part p := by
  unfold State.answerBad
  split <;> simp

@[simp] theorem answerAll_part (ws point) : (s.answerAll ws point).part p = s.part p := by simp [State.answerAll]
@[simp] theorem badAll_part (ws rank) : (s.badAll ws rank).part p = s.part p := by simp [State.badAll]
@[simp] theorem acceptedLine_part (a) : (s.acceptedLine a).part p = s.part p := by simp [State.acceptedLine]

/-! ### Crumb reads and fences of dies -/

@[simp] theorem askRefresh_part (block reason) : (s.askRefresh block reason).part p = s.part p := by simp [State.askRefresh]
@[simp] theorem bumpReads_part (block n) : (s.bumpReads block n).part p = s.part p := by simp [State.bumpReads]
@[simp] theorem countRead_part (block) : (s.countRead block).part p = s.part p := by simp [State.countRead]
@[simp] theorem countRecon_part (x) : (s.countRecon x).part p = s.part p := by simp [State.countRecon]
@[simp] theorem suspend_part (d) : (s.suspend d).part p = s.part p := by simp [State.suspend]
@[simp] theorem checkSpent_part (d) : (s.checkSpent d).part p = s.part p := by simp [State.checkSpent]
@[simp] theorem issueRead_part (x c why) : (s.issueRead x c why).part p = s.part p := by simp [State.issueRead]
@[simp] theorem readsToRecon_part (d) : (s.readsToRecon d).part p = s.part p := by simp [State.readsToRecon]
@[simp] theorem fenceDie_part (d) : (s.fenceDie d).part p = s.part p := by simp [State.fenceDie]
@[simp] theorem dieFailure_part (d) : (s.dieFailure d).part p = s.part p := by simp [State.dieFailure]

@[simp] theorem readList_part (d) : (s.readList d).part p = s.part p := by simp [State.readList, State.fenceDieFor]

/-! ### Lines into frames -/

@[simp] theorem tagTouch_part (set write) : (s.tagTouch set write).part p = s.part p := by simp [State.tagTouch]
@[simp] theorem setFrame_part (n f) : (s.setFrame n f).part p = s.part p := by simp [State.setFrame]
@[simp] theorem dropFrame_part (n) : (s.dropFrame n).part p = s.part p := by simp [State.dropFrame]

@[simp] theorem takeVictim_part (set) : (s.takeVictim set).2.part p = s.part p := by
  unfold State.takeVictim
  dsimp only
  split
  · rfl
  · split <;> exact ((part_rest _).trans (dropFrame_part _ _)).trans (each_part _ _ _ fun t w => by split <;> simp)

@[simp] theorem allocFrame_part (l) : (s.allocFrame l).2.part p = s.part p := by
  unfold State.allocFrame
  dsimp only
  repeat' split
  all_goals simp

@[simp] theorem startFill_part (l) : (s.startFill l).part p = s.part p := by simp [State.startFill]
@[simp] theorem endFill_part (l) : (s.endFill l).part p = s.part p := (rfl)
@[simp] theorem wakeFill_part (l) : (s.wakeFill l).part p = s.part p := by simp [State.wakeFill]
@[simp] theorem lineWaits_part (a sl ws) : (s.lineWaits a sl ws).part p = s.part p := (rfl)
@[simp] theorem touchPage_part (l) : (s.touchPage l).part p = s.part p := (rfl)
theorem handed_part (l) : part p { s with mte := { s.mte with handoff := l } } = s.part p := (rfl)

@[simp] theorem handOver_part (n) : (s.handOver n).part p = s.part p := by
  unfold State.handOver
  split
  · simp only [part_ite, handed_part, setFrame_part, ite_self]
  · rfl

@[simp] theorem handDown_part (fuel) (s : State) : (handDown fuel s).part p = s.part p := by
  induction fuel generalizing s with
  | zero => rfl
  | succ fuel ih =>
    unfold handDown
    split
    · rfl
    · split <;> simp [ih]

@[simp] theorem handHigh_part : s.handHigh.part p = s.part p := by simp [State.handHigh]
@[simp] theorem dirtyTriggers_part (n l) : (s.dirtyTriggers n l).part p = s.part p := by simp [State.dirtyTriggers]
@[simp] theorem becomeDirty_part (n f) : (s.becomeDirty n f).part p = s.part p := by simp [State.becomeDirty]

@[simp] theorem placeLine_part (a l sl ws) : (s.placeLine a l sl ws).2.part p = s.part p := by
  unfold State.placeLine
  dsimp only
  repeat' split
  all_goals simp

@[simp] theorem askFrame_part (l) : (s.askFrame l).part p = s.part p := by
  unfold State.askFrame
  dsimp only
  repeat' split
  all_goals simp

@[simp] theorem takeLine_part (a l sl ws) : (s.takeLine a l sl ws).part p = s.part p := by
  unfold State.takeLine
  dsimp only
  split
  · simp
  · split
    next e => simp [part_of_eq e (placeLine_part ..)]
    next e => simp [part_of_eq e (placeLine_part ..)]

@[simp] theorem retryWaiting_part : s.retryWaiting.part p = s.part p := by
  refine (each_part _ _ _ fun t w => ?_).trans (part_rest _)
  split <;> simp

/-! ### The stripes, past the start of a row -/

@[simp] theorem captureFrame_part (x) : (s.captureFrame x).2.part p = s.part p := by
  unfold State.captureFrame
  repeat' split
  all_goals simp

@[simp] theorem captureAll_part (l) (s : State) : (captureAll l s).2.part p = s.part p := by
  induction l generalizing s with
  | nil => rfl
  | cons p t ih =>
    simp only [captureAll, ih]
    split <;> simp

@[simp] theorem readyStripe_part (x) : (s.readyStripe x).2.part p = s.part p := by
  unfold State.readyStripe
  split <;> simp

@[simp] theorem setBusy_part (ds op) : (s.setBusy ds op).part p = s.part p := by simp [State.setBusy]

@[simp] theorem advanceRow_part (x) : (s.advanceRow x).part p = s.part p := by
  unfold State.advanceRow
  split <;> simp

/-! ### The pages, past the end of an erase -/

@[simp] theorem startErases_part (g) : (s.startErases g).part p = s.part p := by simp [State.startErases]
@[simp] theorem wakeReads_part : s.wakeReads.part p = s.part p := part_mch s
@[simp] theorem endBusy_part (g op) : (s.endBusy g op).part p = s.part p := by simp [State.endBusy]
theorem journal_part (e) : (s.journal e).part p = s.part p := (rfl)
@[simp] theorem checkHeadroom_part : s.checkHeadroom.part p = s.part p := by simp [State.checkHeadroom]

@[simp] theorem retire_part (block cause) : (s.retire block cause).part p = s.part p := by
  simp [State.retire, journal_part]

@[simp] theorem dropErasedSets_part : s.dropErasedSets.part .pages = s.part .pages := by
  simp [State.dropErasedSets, State.ageVoids]

/-! ### The record of programs, past the end of a program -/

@[simp] theorem mapTouch_part (l write) : (s.mapTouch l write).part p = s.part p := by simp [State.mapTouch]
@[simp] theorem setEntry_part (l e) : (s.setEntry l e).part .programs = s.part .programs := by simp [State.setEntry]

@[simp] theorem supersede_part (l w) : (s.supersede l w).part .programs = s.part .programs := by
  unfold State.supersede
  dsimp only
  split
  · rfl
  · split <;> simp [journal_part]

@[simp] theorem frameJournaled_part (l) : (s.frameJournaled l).part p = s.part p := by
  unfold State.frameJournaled
  dsimp only
  repeat' split
  all_goals simp

@[simp] theorem journalPage_part (x ppa) : (s.journalPage x ppa).part .programs = s.part .programs := by
  unfold State.journalPage State.moveIndex
  dsimp only
  repeat' split
  all_goals simp [journal_part, State.journalImage, State.mapHost]

@[simp] theorem landPage_part (x pg) : (s.landPage x pg).part .programs = s.part .programs := by
  unfold State.landPage
  dsimp only
  repeat' split
  all_goals simp

@[simp] theorem landParity_part (x) : (s.landParity x).part .programs = s.part .programs := (rfl)
@[simp] theorem busOk_part (ch) : (s.busOk ch).part p = s.part p := part_mch s

@[simp] theorem maybeFull_part (id) : (s.maybeFull id).part .programs = s.part .programs := by
  unfold State.maybeFull
  split <;> simp [journal_part]

@[simp] theorem reserveWsn_part : s.reserveWsn.part p = s.part p := by
  unfold State.reserveWsn
  dsimp only
  split <;> rfl

@[simp] theorem takeWsn_part : s.takeWsn.2.part .programs = s.part .programs := by
  simp only [State.takeWsn, apply_ite Prod.snd, part_programs, part_ite, raise_part, reserveWsn_part, ite_self]

@[simp] theorem fillers_part (n) (s : State) (l) : (fillers n s l).2.part .programs = s.part .programs := by
  induction n generalizing s l with
  | zero => rfl
  | succ n ih => simp [fillers, ih]

@[simp] theorem openFor_part (g purpose reason) : (s.openFor g purpose reason).2.part .programs = s.part .programs := by
  unfold State.openFor State.openSet
  dsimp only
  repeat' split
  all_goals simp

@[simp] theorem closeStripe_part (g kind purpose pages reason) :
    (s.closeStripe g kind purpose pages reason).2.part .programs = s.part .programs := by
  unfold State.closeStripe
  dsimp only
  repeat' split
  all_goals simp

@[simp] theorem closeGather_part (force) : (s.closeGather force).part .programs = s.part .programs := by
  unfold State.closeGather
  split <;> simp

@[simp] theorem placeHanded_part (fuel) (s : State) : (placeHanded fuel s).part .programs = s.part .programs := by
  induction fuel generalizing s with
  | zero => rfl
  | succ fuel ih =>
    unfold placeHanded
    split
    · rfl
    · split <;> simp [ih, State.placeOne]

@[simp] theorem metaPages_part (n) (s : State) (type aux l) : (metaPages n s type aux l).2.part .programs = s.part .programs := by
  induction n generalizing s l with
  | zero => rfl
  | succ n ih => simp [metaPages, ih]

@[simp] theorem issueMeta_part (id) : (s.issueMeta id).part .programs = s.part .programs := by
  unfold State.issueMeta
  split <;> simp [State.orderFault, State.startRow, State.setStripe]

@[simp] theorem pump_part : s.pump.part .programs = s.part .programs := by simp [State.pump, State.tendJournal, State.closeJournal]

@[simp] theorem unmap_part (l poison) : (s.unmap l poison).part .programs = s.part .programs := by
  unfold State.unmap
  dsimp only
  repeat' split
  all_goals simp [State.unmapNow, journal_part]

/-! ### The record of programs, past the completion of a long operation -/

@[simp] theorem sendIbi_part (mdb payload) : (s.sendIbi mdb payload).part p = s.part p := by simp [State.sendIbi]

@[simp] theorem postRec_part (h log r) : (s.postRec h log r).part p = s.part p := by simp [State.postRec, State.logInterrupt]

@[simp] theorem assignCore_part (n) : (s.assignCore n).part p = s.part p := by
  unfold State.assignCore
  split
  next => rfl
  next => split <;> rfl

@[simp] theorem cplNotice_part (handle) : (s.cplNotice handle).part p = s.part p := by simp [State.cplNotice]

@[simp] theorem finishHandle_part (r st) : (s.finishHandle r st).part p = s.part p := by
  simp [State.finishHandle, State.freeCore, State.assignCores]

@[simp] theorem popWord_part (q) : (s.popWord q).2.part p = s.part p := by
  unfold State.popWord
  split
  next => rfl
  next => split <;> rfl

@[simp] theorem answerHeldRead_part (q) : (s.answerHeldRead q).part p = s.part p := by simp [State.answerHeldRead, State.holdHead]
@[simp] theorem servePops_part : s.servePops.part p = s.part p := by simp [State.servePops]
@[simp] theorem pushCpl_part (x) : (s.pushCpl x).part p = s.part p := by simp [State.pushCpl]

@[simp] theorem pushHeadCpl_part (h x) : (s.pushHeadCpl h x).part p = s.part p := by simp [State.pushHeadCpl, State.queueHeadCpl]

@[simp] theorem finish_part (handle status results) : (s.finish handle status results).part p = s.part p := by
  unfold State.finish State.answerCmd
  repeat' split
  all_goals simp [State.answerSecured]

@[simp] theorem discardStep_part (d) : (s.discardStep d).part .programs = s.part .programs := by
  unfold State.discardStep State.endDiscard
  dsimp only
  repeat' split
  all_goals simp

@[simp] theorem releaseUnmaps_part : s.releaseUnmaps.part .programs = s.part .programs := by simp [State.releaseUnmaps]

/-! ### The record of programs, past the policies of rewind -/

@[simp] theorem checkShort_part : s.checkShort.part p = s.part p := by simp [State.checkShort]
@[simp] theorem keepIndex_part (ok) : (s.keepIndex ok).part .programs = s.part .programs := by simp [State.keepIndex, State.fixRet]

@[simp] theorem releaseMark_part (r epoch) : (s.releaseMark r epoch).part .programs = s.part .programs := by
  unfold State.releaseMark
  dsimp only
  split <;> simp

@[simp] theorem expireLoop_part (n) (s : State) (r) : (expireLoop n s r).part .programs = s.part .programs := by
  induction n generalizing s with
  | zero => rfl
  | succ n ih =>
    unfold expireLoop State.expireOldest
    repeat' split
    all_goals simp [ih, journal_part]

@[simp] theorem rwPolicy_part (r) : (s.rwPolicy r).part .programs = s.part .programs := by simp [State.rwPolicy]
@[simp] theorem rwCheck_part : s.rwCheck.part .programs = s.part .programs := by simp [State.rwCheck]

/-! ### The pins -/

@[simp] theorem each_mch {α : Type} (l : List α) (f : State → α → State) (hf : ∀ t x, (f t x).mch = t.mch) :
    (s.each l f).mch = s.mch := each_same State.mch hf

@[simp] theorem postRec_mch (h log r) : (s.postRec h log r).mch = s.mch := by simp [State.postRec, State.logInterrupt]

theorem withPins_mch (f : State → State) : (s.withPins f).mch = (f s).mch := by
  simp [State.withPins, State.pinIbis, State.sendIbi, State.memoryEvent, State.postAll]

@[simp] theorem each_mte {α : Type} (l : List α) (f : State → α → State) (hf : ∀ t x, (f t x).mte = t.mte) :
    (s.each l f).mte = s.mte := each_same State.mte hf

theorem withPins_mte (f : State → State) : (s.withPins f).mte = (f s).mte := by
  simp [State.withPins, State.pinIbis, State.sendIbi, State.memoryEvent, State.postAll, State.postRec, State.logInterrupt]

end Sys2Proof.Machine.State
end

section
/-! PROOFS. Crumb reads (R108, R216, R225 to R233, R241, R242, R246): a decoded crumb goes to Crust and one that fails the ladder becomes a
reconstruction, a reconstruction leaves no read behind, a read that times out is issued again or fences its die, and a read that waits for a
miss entry looks again. -/

namespace Sys2Proof.Machine

open Sys2Proof

variable {s : State} {p : Ppa} {c : Fin 8} {r : CrumbRead} {a : LineAddr}

/-! ### What the marks of a read leave alone -/

@[simp] theorem State.askRefresh_reads (s : State) (b reason : Nat) : (s.askRefresh b reason).mch.reads = s.mch.reads := by
  unfold State.askRefresh
  split <;> rfl

@[simp] theorem State.askRefresh_dies (s : State) (b reason : Nat) : (s.askRefresh b reason).mch.dies = s.mch.dies := by
  unfold State.askRefresh
  split <;> rfl

@[simp] theorem State.askRefresh_mte (s : State) (b reason : Nat) : (s.askRefresh b reason).mte = s.mte := by
  unfold State.askRefresh
  split <;> rfl

@[simp] theorem State.setBlock_reads (s : State) (b : Nat) (x : Block) : (s.setBlock b x).mch.reads = s.mch.reads := rfl
@[simp] theorem State.setBlock_dies (s : State) (b : Nat) (x : Block) : (s.setBlock b x).mch.dies = s.mch.dies := rfl

@[simp] theorem State.countCorr_reads (s : State) (p : Ppa) : (s.countCorr p).mch.reads = s.mch.reads := by
  unfold State.countCorr
  split <;> rfl

@[simp] theorem State.countCorr_dies (s : State) (p : Ppa) : (s.countCorr p).mch.dies = s.mch.dies := by
  unfold State.countCorr
  split <;> rfl

@[simp] theorem State.countCorr_mte (s : State) (p : Ppa) : (s.countCorr p).mte = s.mte := by
  unfold State.countCorr
  split <;> rfl

@[simp] theorem State.countCorr_part {q : MediumPart} (s : State) (p : Ppa) : (s.countCorr p).part q = s.part q := by
  unfold State.countCorr
  split
  · exact State.part_mch s
  · rfl

@[simp] theorem State.countCorr_ward {q : Ward} (s : State) (p : Ppa) : (s.countCorr p).ward q = s.ward q := by
  unfold State.countCorr
  split <;> rfl

theorem State.crumbMarks_reads (s : State) (p : Ppa) (step corrected : Nat) (refs : List Nat) :
    (s.crumbMarks p step corrected refs).mch.reads = s.mch.reads := by
  simp [State.crumbMarks, apply_ite State.mch, apply_ite Mch.reads]

theorem State.crumbMarks_dies (s : State) (p : Ppa) (step corrected : Nat) (refs : List Nat) :
    (s.crumbMarks p step corrected refs).mch.dies = s.mch.dies := by
  simp [State.crumbMarks, apply_ite State.mch, apply_ite Mch.dies]

theorem State.crumbMarks_mte (s : State) (p : Ppa) (step corrected : Nat) (refs : List Nat) :
    (s.crumbMarks p step corrected refs).mte = s.mte := by simp [State.crumbMarks]

theorem State.crumbMarks_ward (s : State) (p : Ppa) (step corrected : Nat) (refs : List Nat) :
    (s.crumbMarks p step corrected refs).ward .slices = s.ward .slices := by simp [State.crumbMarks]

theorem State.crumbMarks_pages (s : State) (p : Ppa) (step corrected : Nat) (refs : List Nat) :
    (s.crumbMarks p step corrected refs).mch.pages = s.mch.pages :=
  State.pages_of_part (by simp [State.crumbMarks])

/-! ### Counting reads -/

@[simp] theorem State.bumpReads_reads (s : State) (b n : Nat) : (s.bumpReads b n).mch.reads = s.mch.reads := by
  simp [State.bumpReads, apply_ite State.mch, apply_ite Mch.reads]

@[simp] theorem State.bumpReads_dies (s : State) (b n : Nat) : (s.bumpReads b n).mch.dies = s.mch.dies := by
  simp [State.bumpReads, apply_ite State.mch, apply_ite Mch.dies]

/-- A count may start a check of the block, whose reads follow those there are (R237). -/
theorem State.countRead_reads (s : State) (b : Nat) : s.mch.reads ⊆ (s.countRead b).mch.reads := by
  unfold State.countRead
  dsimp only
  split
  · simp
  · simp

theorem State.countRead_dies (s : State) (b : Nat) : (s.countRead b).mch.dies = s.mch.dies := by
  unfold State.countRead
  dsimp only
  split
  · simp
  · simp

theorem State.countRecon_reads (s : State) (p : Ppa) : s.mch.reads ⊆ (s.countRecon p).mch.reads :=
  List.foldlRecOn (motive := fun (t : State) => s.mch.reads ⊆ t.mch.reads) _ _ (List.Subset.refl _)
    fun t kept _ _ => List.Subset.trans kept (t.countRead_reads _)

theorem State.countRecon_dies (s : State) (p : Ppa) : (s.countRecon p).mch.dies = s.mch.dies :=
  State.each_same (fun t => t.mch.dies) fun t _ => t.countRead_dies _

/-! ### The reads of a die -/

theorem State.findRead_of {recon : Bool} (found : s.findRead p c recon = some r) : r.ppa = p ∧ r.crumb = c := by
  have test := List.find?_some found
  simp only [CrumbRead.is, Bool.and_eq_true, beq_iff_eq] at test
  obtain ⟨⟨⟨ppa, crumb⟩, -⟩, -⟩ := test
  exact ⟨ppa, crumb⟩

/-- The read that takes the place of a found one is among the reads. -/
theorem mem_replaceRead {l : List CrumbRead} {recon : Bool} (found : l.find? (fun r => r.is p c && r.recon == recon) = some r)
    (x : CrumbRead) : x ∈ replaceRead p c recon (some x) l := by
  induction l with
  | nil => cases found
  | cons y l ih =>
    rw [replaceRead]
    cases test : (y.is p c && y.recon == recon) with
    | true => simp
    | false =>
      rw [List.find?_cons_of_neg (by simp [test])] at found
      simp [ih found]

/-! ### A read that is for a line -/

theorem State.endSurveyRead_line (s : State) (why : r.why = .line a) (r3 : Option Nat) : s.endSurveyRead r r3 = s := by
  rw [State.endSurveyRead, if_pos (by simp [why])]

theorem State.endCheck_line (s : State) (why : r.why = .line a) (bad : Bool) : s.endCheck r bad = s := by
  rw [State.endCheck, if_pos (by simp [why])]

theorem State.mapArrived_line (s : State) (why : r.why = .line a) (good : Bool) : s.mapArrived r good = s := by
  rw [State.mapArrived, why]

/-- The line that a read brought is at Crust (R57, R233). -/
theorem State.deliver_stageOf {st : MissStage} (why : r.why = .line a) (stage : s.stageOf a = some st) (waits : st = .medium r.ppa r.crumb)
    (sl : LineAddr → SLine) (src : MissSrc) (slow : Bool) : (s.deliver r sl src slow).stageOf a = some (.check (sl a) src) := by
  obtain ⟨m, found, own⟩ := Option.map_eq_some_iff.mp stage
  rw [State.deliver, why]
  dsimp only
  rw [found]
  dsimp only
  rw [if_pos (by simp [own, waits])]
  refine State.stageOf_missStage (st' := st) ?_ _
  rw [← stage]
  refine State.stageOf_of_ward ?_
  simp

@[simp] theorem State.perfAdd_mch (s : State) (page fuel n k : Nat) : (s.perfAdd page fuel n k).mch = s.mch := by
  induction fuel generalizing s n k with
  | zero => rfl
  | succ fuel ih => simp [State.perfAdd, ih]

@[simp] theorem State.missStage_mch (s : State) (a : LineAddr) (st : MissStage) : (s.missStage a st).mch = s.mch := by
  unfold State.missStage
  split <;> rfl

theorem State.deliver_mch (s : State) (r : CrumbRead) (sl : LineAddr → SLine) (src : MissSrc) (slow : Bool) :
    (s.deliver r sl src slow).mch = s.mch := by
  unfold State.deliver
  repeat' split
  all_goals simp [State.perfEvent]

/-! ### CRUMB_READ_DONE (R228, R230) -/

theorem crumbReadDone_runs (o : CrumbOutcome) (running : s.chanHalted (ppaChan p) = false) :
    exec (.crumbReadDone p c o) s = .next (s.withPins (fun s => s.crumbDone p c o)) :=
  congrArg Host.Outcome.next (withPins_congr (if_neg (by simp [running])))

section
variable (found : s.findRead p c false = some r) (idle : r.waits = false) (turn : s.inTurn r = true) {o : CrumbOutcome}
include found idle turn

theorem State.crumbDone_decoded {step corrected : Nat} {refs : List Nat} (parts : crumbParts o = some (step, corrected, refs)) :
    s.crumbDone p c o = (s.busOk (ppaChan p)).crumbGood r step corrected refs := by
  rw [State.crumbDone, found]
  dsimp only
  rw [if_neg (by simp [idle, turn]), parts]

theorem State.crumbDone_failed (parts : crumbParts o = none) :
    s.crumbDone p c o = ((s.busOk (ppaChan p)).setRead p c false
      (some { r with recon := true, waits := s.mateBusy p, slow := true, ladder := true })).countRecon p := by
  rw [State.crumbDone, found]
  dsimp only
  rw [if_neg (by simp [idle, turn]), parts]
  rfl

end

theorem crumbReadDone_reconstructs (found : s.findRead p c false = some r) (idle : r.waits = false)
    (running : s.chanHalted (ppaChan p) = false) (turn : s.inTurn r = true) : ∃ t, exec (.crumbReadDone p c .failed) s = .next t ∧
      { r with recon := true, waits := s.mateBusy p, slow := true, ladder := true } ∈ t.mch.reads := by
  refine ⟨_, crumbReadDone_runs .failed running, ?_⟩
  rw [State.withPins_mch, State.crumbDone_failed found idle turn rfl]
  exact State.countRecon_reads _ _ (mem_replaceRead found _)

/-- What a crumb brings depends on the map, the tier, the programmed pages and the fences of the dies alone. -/
theorem State.crumbLine_congr {s t : State} (mte : t.mte = s.mte) (dtc : t.dtc = s.dtc) (pages : t.mch.pages = s.mch.pages)
    (dies : t.mch.dies = s.mch.dies) (p : Ppa) (a : LineAddr) : t.crumbLine p a = s.crumbLine p a := by
  have page (q : Ppa) : t.pageAt q = s.pageAt q := congrArg (Tab.find · q.toNat) pages
  have entry (l : Lmp) : t.entry l = s.entry l := congrArg (fun m : Mte => m.map.get {} l.toNat) mte
  have frame (l : Lmp) : t.frameOf l = s.frameOf l := by rw [State.frameOf, dtc, State.frameOf]
  have lmp : t.lineLmp a = s.lineLmp a := by simp only [State.lineLmp, State.lsiOf, mte]
  have readable (q : Ppa) : t.readable q = s.readable q := by
    simp only [State.readable, State.mateFenced, State.stripeMates, State.setOfBlock, State.die, mte, pages, dies]
  have stored : t.storedLine a = s.storedLine a := by simp only [State.storedLine, page, entry, frame, lmp, readable, dtc]
  rw [State.crumbLine, page, stored, State.crumbLine]

theorem State.crumbGood_line (s : State) (why : r.why = .line a) (corrected : Nat) (refs : List Nat) {marked : State}
    (marks : (s.setRead r.ppa r.crumb false none).crumbMarks r.ppa 1 corrected refs = marked) :
    s.crumbGood r 1 corrected refs = marked.deliver r (fun a => marked.crumbLine r.ppa a) (.crumbFirst r.ppa r.crumb) (r.slow || false) := by
  rw [State.crumbGood, marks, State.endSurveyRead_line _ why, State.endCheck_line _ why, State.mapArrived_line _ why]
  rfl

theorem crumbReadDone_checks (found : s.findRead p c false = some r) (idle : r.waits = false)
    (running : s.chanHalted (ppaChan p) = false) (turn : s.inTurn r = true) {m : MissEntry} (k : Nat) (refs : List Nat)
    (why : r.why = .line a) (missed : (s.sliceOf a).missOf a = some m) (stage : m.stage = .medium p c) :
    ∃ t, exec (.crumbReadDone p c (.step1 k refs)) s = .next t ∧
      ((t.sliceOf a).missOf a).map MissEntry.stage = some (.check (s.crumbLine p a) (.crumbFirst p c)) := by
  refine ⟨_, crumbReadDone_runs (.step1 k refs) running, ?_⟩
  obtain ⟨rfl, rfl⟩ := State.findRead_of found
  generalize marks : ((s.busOk (ppaChan r.ppa)).setRead r.ppa r.crumb false none).crumbMarks r.ppa 1 k refs = marked
  have waits : marked.stageOf a = some m.stage := by
    rw [← marks, State.stageOf_of_ward (State.crumbMarks_ward ..)]
    exact congrArg (Option.map MissEntry.stage) missed
  have line : marked.crumbLine r.ppa a = s.crumbLine r.ppa a := by
    rw [← marks]
    exact State.crumbLine_congr (State.crumbMarks_mte ..) (State.crumbMarks_dtc ..) (State.crumbMarks_pages ..)
      (State.crumbMarks_dies ..) _ _
  refine (State.stageOf_of_ward (State.withPins_ward _ _)).trans ?_
  rw [State.crumbDone_decoded found idle turn rfl, State.crumbGood_line _ why k refs marks, State.deliver_stageOf why waits stage, line]

/-! ### CRUMB_READ_TIMEOUT (R242, R246) -/

theorem State.readsToRecon_dies (s : State) (d : Nat) : (s.readsToRecon d).mch.dies = s.mch.dies :=
  State.each_same (fun t => t.mch.dies) fun t r => t.countRecon_dies r.ppa

theorem State.fenceDie_fenced (s : State) (d : Nat) : ((s.fenceDie d).die d).fenced = true := by
  unfold State.fenceDie
  split
  · assumption
  · extract_lets was told x u v
    have fenced : (v.die d).fenced = true := by
      rw [State.die, State.readsToRecon_dies, State.fence_mch]
      exact congrArg Die.fenced (State.die_setDie _ _ _)
    split
    · rw [State.die, State.raiseAt_mch]
      exact fenced
    · exact fenced

theorem crumbReadTimeout_retries (found : s.findRead p c false = some r) (few : r.resets < 2) :
    exec (.crumbReadTimeout p c) s = .next (s.withPins (fun s => s.setRead p c false (some { r with resets := r.resets + 1 }))) := by
  refine congrArg Host.Outcome.next (withPins_congr ?_)
  simp only [State.readTimeout, found, if_pos few]

theorem crumbReadTimeout_fences (found : s.findRead p c false = some r) (spent : 2 ≤ r.resets) :
    ∃ t, exec (.crumbReadTimeout p c) s = .next t ∧ (t.die (ppaDie p)).fenced = true := by
  refine ⟨_, rfl, ?_⟩
  rw [State.die, State.withPins_mch, State.readTimeout, found]
  dsimp only
  rw [if_neg (by omega)]
  exact s.fenceDie_fenced _

/-! ### RECONSTRUCTION_DONE (R231, R243) -/

theorem State.matesRead_reads (s : State) (p : Ppa) (mates : List CrumbOutcome) :
    (s.matesRead p mates).2.2.mch.reads = s.mch.reads := by
  unfold State.matesRead
  refine List.foldlRecOn (motive := fun (acc : Bool × Bool × State) => acc.2.2.mch.reads = s.mch.reads) _ _ rfl fun acc kept e _ => ?_
  split
  · exact (State.crumbMarks_reads ..).trans kept
  · exact kept

theorem State.crumbRebuilt_reads (s : State) (p : Ppa) : (s.crumbRebuilt p).mch.reads = s.mch.reads := by simp [State.crumbRebuilt]
theorem State.crumbLost_mch (s : State) (p : Ppa) : (s.crumbLost p).mch = s.mch := by simp [State.crumbLost]
theorem State.mediaError_mch (s : State) (a : LineAddr) : (s.mediaError a).mch = s.mch := by simp [State.mediaError]

theorem State.reconDone_reads (found : s.findRead p c true = some r) (idle : r.waits = false) (why : r.why = .line a)
    (mates : List CrumbOutcome) : (s.reconDone p c mates).mch.reads = replaceRead p c true none s.mch.reads := by
  rw [State.reconDone, found]
  dsimp only
  rw [if_neg (by simp [idle]), State.deliver_mch, State.mapArrived_line _ why, State.endCheck_line _ why, State.endSurveyRead_line _ why, why]
  dsimp only
  have read := (s.setRead p c true none).matesRead_reads p mates
  repeat' split
  · rw [State.crumbRebuilt_reads, read]; rfl
  · rw [read]; rfl
  · rw [State.mediaError_mch, State.crumbLost_mch, read]; rfl

theorem reconstructionDone_leaves (found : s.findRead p c true = some r) (idle : r.waits = false)
    (running : s.chanHalted (ppaChan p) = false) (why : r.why = .line a) (mates : List CrumbOutcome) :
    ∃ t, exec (.reconstructionDone p c mates) s = .next t ∧ t.mch.reads = replaceRead p c true none s.mch.reads := by
  refine ⟨_, rfl, ?_⟩
  rw [State.withPins_mch, if_neg (by simp [running])]
  exact State.reconDone_reads found idle why mates

/-! ### MISS_FULL_WAIT_END (R108) -/

theorem missFullWaitEnd_looks {sl : Fin 8} {q : LineAddr × Waiter} {rest : List (LineAddr × Waiter)}
    (waits : (s.slice sl.val).stalled = q :: rest) (room : (s.slice sl.val).misses.length < 512) :
    exec (.missFullWaitEnd sl) s = .next (s.withPins (fun s =>
      ((s.setSlice sl.val { s.slice sl.val with stalled := rest }).lookRead sl.val q.1 q.2).admitAll sl.val)) := by
  refine congrArg Host.Outcome.next (withPins_congr ?_)
  rw [State.missFullEnd]
  dsimp only
  rw [waits]
  exact if_pos room

/-- Settles O11, command by command. -/
theorem crumbReads : Obligations.CrumbReads := fun _ _ _ _ =>
  ⟨fun found idle running turn => ⟨crumbReadDone_reconstructs found idle running turn,
      fun _ _ k refs why missed stage => crumbReadDone_checks found idle running turn k refs why missed stage⟩,
    crumbReadTimeout_retries, crumbReadTimeout_fences,
    fun found idle running _ mates why => reconstructionDone_leaves found idle running why mates,
    fun _ _ _ waits room => missFullWaitEnd_looks waits room⟩

end Sys2Proof.Machine
end

section
/-! PROOFS. Stripes and erases (R63, R215, R216, R223, R229 to R232, R234, R241, R258, R275 to R278): a row that starts is issued and no later
work of the start takes that back, a program is counted, a failed block is retired, and an erase leaves no page of its block. -/

namespace Sys2Proof.Machine

open Sys2Proof

variable {s : State}

/-! ### STRIPE_GATHER_TIMEOUT (R63) -/

theorem stripeGatherTimeout_closes {g : Nat} (group : s.hostGroup = some g) (waiting : s.mte.gather ≠ [])
    (closes : (s.closeStripe g 0 (if s.pwr.flush = 3 then 3 else 0) (s.mte.gather.take (s.dataPages g)) 0).1 = true) :
    ∃ t, exec .stripeGatherTimeout s = .next t ∧ t.mte.gather = s.mte.gather.drop (s.dataPages g) := by
  refine ⟨_, rfl, ?_⟩
  rw [State.withPins_mte, State.closeGather, group]
  dsimp only
  rw [if_neg (by simpa using waiting), if_pos closes]

/-! ### STRIPE_ISSUE (R191, R215, R223, R229, R234) -/

/-- Every stripe of a number is issued. -/
def State.issuedAs (s : State) (id : Nat) : Prop := ∀ y ∈ s.mte.stripes, y.id = id → y.issued = true

/-- One stripe of a row: its frames captured, its tags written, its blocks past its row. -/
def State.startOne (lead : Nat) (s : State) (y : Stripe) : State :=
  ((s.readyStripe y).2.setStripe { (s.readyStripe y).1 with lead := lead }).advanceRow y

/-- The start of a stripe replaces those of its number by an issued one. -/
theorem State.startOne_stripes (lead : Nat) (s : State) (y : Stripe) : ∃ x : Stripe, x.id = y.id ∧ x.issued = true ∧
    (s.startOne lead y).mte.stripes = s.mte.stripes.map (fun z => if z.id = y.id then x else z) :=
  ⟨{ (s.readyStripe y).1 with lead := lead }, rfl, rfl,
    (State.stripes_of_part (State.advanceRow_part _ _)).trans
      (congrArg (List.map _) (State.stripes_of_part (s.readyStripe_part y)))⟩

theorem State.startOne_issues (lead : Nat) (s : State) (y : Stripe) : (s.startOne lead y).issuedAs y.id := by
  obtain ⟨x, -, issued, stripes⟩ := s.startOne_stripes lead y
  intro z mem own
  rw [stripes] at mem
  obtain ⟨w, -, rfl⟩ := List.mem_map.mp mem
  split
  · exact issued
  · next other => exact absurd (by rwa [if_neg other] at own) other

theorem State.startOne_keeps_issued {id : Nat} (lead : Nat) (y : Stripe) (before : s.issuedAs id) : (s.startOne lead y).issuedAs id := by
  obtain ⟨x, -, issued, stripes⟩ := s.startOne_stripes lead y
  intro z mem own
  rw [stripes] at mem
  obtain ⟨w, old, rfl⟩ := List.mem_map.mp mem
  split
  · exact issued
  · next other => exact before w old (by rwa [if_neg other] at own)

/-- The dies of a row turn busy, and its stripes start one after another. -/
theorem State.startRow_each (s : State) (x : Stripe) (row : List Stripe) : ∃ u : State,
    s.startRow x row = u.each row (State.startOne x.id) :=
  ⟨_, rfl⟩

theorem State.startRow_issues (s : State) {x : Stripe} {row : List Stripe} (leads : x ∈ row) : (s.startRow x row).issuedAs x.id := by
  obtain ⟨u, starts⟩ := s.startRow_each x row
  rw [starts]
  exact State.each_settles (P := fun _ => True) (Q := fun t => t.issuedAs x.id) leads trivial (fun _ _ _ _ => trivial)
    (fun t _ => t.startOne_issues x.id x) (fun _ y _ _ before => State.startOne_keeps_issued x.id y before)

theorem State.issueStripe_starts {g : Nat} {x : Stripe} (next_ : s.nextStripeOf g = some x) (room : 0 < s.progRoom g)
    (order : s.outOfOrder x = false) (cap : s.capRoom ((s.rowOf x).foldl (fun n y => n + y.pages.length) 0) = true)
    (running : s.rowHalted (s.rowOf x) = false) : s.issueStripe g = ((s.noteSlot g).startRow x (s.rowOf x)).retryWaiting := by
  rw [State.issueStripe, next_]
  dsimp only
  rw [if_neg (by omega), if_neg (by simp [order]), if_neg (by simp [cap, running])]

theorem stripeIssue_issues {g : Fin 16} {x : Stripe} (next_ : s.nextStripeOf g.val = some x) (room : 0 < s.progRoom g.val)
    (order : s.outOfOrder x = false) (cap : s.capRoom ((s.rowOf x).foldl (fun n y => n + y.pages.length) 0) = true)
    (running : s.rowHalted (s.rowOf x) = false) :
    ∃ t, exec (.stripeIssue g) s = .next t ∧ ∀ y ∈ t.mte.stripes, y.id = x.id → y.issued = true := by
  refine ⟨_, rfl, ?_⟩
  rw [State.withPins_mte, State.issueStripe_starts next_ room order cap running, State.stripes_of_part (State.retryWaiting_part _)]
  exact State.startRow_issues _ (List.mem_cons_self ..)

/-! ### PROGRAM_DONE (R234, R258) -/

theorem State.notePgm_logs (s : State) (n : Nat) : (s.ns, n) ∈ (s.notePgm n).mch.pgmLog :=
  List.mem_append_right _ (List.mem_singleton.mpr rfl)

theorem State.programDone_logs {n : Nat} {x : Stripe}
    (found : s.mte.stripes.find? (fun x => x.id == n && x.issued && decide (x.kind ≤ 1)) = some x) :
    (s.ns, x.pages.length) ∈ (s.programDone n).mch.pgmLog := by
  rw [State.programDone, found]
  dsimp only
  generalize ended : State.rowEnd _ x = u
  have now : u.ns = s.ns := by
    rw [← ended]
    exact congrArg BitVec.toNat (State.rowEnd_keeps (Keeps.rest (Keeps.refl s))).time
  rw [State.pgmLog_of_part (s := u.notePgm x.pages.length) (by simp), ← now]
  exact u.notePgm_logs _

theorem programDone_counts {n : Nat} {x : Stripe}
    (found : s.mte.stripes.find? (fun x => x.id == n && x.issued && decide (x.kind ≤ 1)) = some x) :
    ∃ t, exec (.programDone n) s = .next t ∧ (s.ns, x.pages.length) ∈ t.mch.pgmLog := by
  refine ⟨_, rfl, ?_⟩
  rw [State.withPins_mch, State.pgmLog_of_part (s := s.programDone n) (by simp)]
  exact State.programDone_logs found

/-! ### PROGRAM_FAILURE (R241, R275) -/

theorem State.checkHeadroom_mch (s : State) : s.checkHeadroom.mch = s.mch := by simp [State.checkHeadroom]

theorem State.retire_retires (s : State) (b cause : Nat) : ((s.retire b cause).block b).st = 2 := by
  rw [State.block, State.retire, State.checkHeadroom_mch, State.raise_mch]
  exact congrArg Block.st (s.block_setBlock b _)

theorem State.programFailure_again {n d : Nat} {x : Stripe} (found : s.mte.stripes.find? (fun x => x.id == n && x.issued) = some x) :
    ∃ u : State, s.programFailure n d = (u.retire (ppaBlock (s.placeOf x d)) 2).programAgain x :=
  ⟨_, by rw [State.programFailure, found]⟩

theorem programFailure_retires {n : Nat} {d : Fin 256} {x : Stripe}
    (found : s.mte.stripes.find? (fun x => x.id == n && x.issued) = some x) :
    ∃ u : State, exec (.programFailure n d) s = .next (s.withPins (fun _ => u.programAgain x)) ∧
      (u.block (ppaBlock (s.placeOf x d.val))).st = 2 := by
  obtain ⟨u, again⟩ := State.programFailure_again (d := d.val) found
  exact ⟨_, congrArg Host.Outcome.next (withPins_congr again), u.retire_retires _ _⟩

/-! ### ERASE_DONE and ERASE_FAILURE (R226, R241, R276 to R278) -/

/-- The medium holds no page of a block. -/
def Mch.emptied (m : Mch) (b : Nat) : Prop := ∀ e ∈ m.pages, e.1 / 1024 ≠ b

theorem State.wipeBlock_empties (s : State) (b : Nat) : (s.wipeBlock b).mch.emptied b := fun e mem => by
  simpa using (List.mem_filter.mp mem).2

theorem Mch.emptied_of_part {t : State} {b : Nat} (same : t.part .pages = s.part .pages) (empty : s.mch.emptied b) : t.mch.emptied b := by
  rw [Mch.emptied, State.pages_of_part same]
  exact empty

theorem State.eraseDone_empties {b : Nat} (erasing : (s.block b).st = 4) : (s.eraseDone b).mch.emptied b := by
  rw [State.eraseDone]
  dsimp only
  rw [if_neg (by simp [erasing])]
  refine Mch.emptied_of_part ?_ (s.wipeBlock_empties b)
  simp only [State.dropErasedSets_part, State.endBusy_part, State.part_ite, State.retire_part, State.part_mch, State.setBlock_part_pages,
    ite_self]

theorem State.eraseFailure_empties {b : Nat} (erasing : (s.block b).st = 4) : (s.eraseFailure b).mch.emptied b := by
  rw [State.eraseFailure]
  dsimp only
  rw [if_neg (by simp [erasing])]
  refine Mch.emptied_of_part ?_ (s.wipeBlock_empties b)
  simp only [State.dropErasedSets_part, State.dieFailure_part, State.endBusy_part, State.part_mch, State.retire_part, State.countUp_part,
    State.raiseAt_part, State.setBlock_part_pages]

theorem eraseDone_leaves {b : Ppa} (erasing : (s.block (ppaBlock b)).st = 4) :
    ∃ t, exec (.eraseDone b) s = .next t ∧ ∀ e ∈ t.mch.pages, e.1 / 1024 ≠ ppaBlock b := by
  refine ⟨_, rfl, ?_⟩
  rw [State.withPins_mch]
  exact State.eraseDone_empties erasing

theorem eraseFailure_leaves {b : Ppa} (erasing : (s.block (ppaBlock b)).st = 4) :
    ∃ t, exec (.eraseFailure b) s = .next t ∧ ∀ e ∈ t.mch.pages, e.1 / 1024 ≠ ppaBlock b := by
  refine ⟨_, rfl, ?_⟩
  rw [State.withPins_mch]
  exact State.eraseFailure_empties erasing

/-! ### RESUME_IDLE_EXPIRY (R232) -/

theorem resumeIdleExpiry_resumes {d : Fin 256} (suspended : (s.die d.val).suspended = true) (none_ : s.readsQueued d.val = false) :
    ∃ t, exec (.resumeIdleExpiry d) s = .next t ∧ (t.die d.val).suspended = false ∧
      (t.die d.val).typEnd = (s.die d.val).typEnd + (s.ns - (s.die d.val).susAt) + 500 := by
  refine ⟨_, rfl, ?_⟩
  rw [State.resume, if_neg (by simp [suspended, none_]), State.die_setDie]
  exact ⟨rfl, rfl⟩

/-! ### BUS_CRC_FAIL (R216) -/

theorem State.busCrcFail_repeats {ch : Nat} (few : s.mch.repeats.get 0 ch < 3) (op : BusOp) :
    (s.busCrcFail ch op).mch.repeats.get 0 ch = s.mch.repeats.get 0 ch + 1 := by
  rw [State.busCrcFail, State.busCrc]
  dsimp only
  rw [State.countUp_mch, if_pos few, if_pos (by rfl), State.raiseAt_mch]
  simp

theorem busCrcFail_counts {ch : Fin 64} (op : BusOp) (few : s.mch.repeats.get 0 ch.val < 3) :
    ∃ t, exec (.busCrcFail ⟨ch, op⟩) s = .next t ∧ t.mch.repeats.get 0 ch.val = s.mch.repeats.get 0 ch.val + 1 := by
  refine ⟨_, rfl, ?_⟩
  rw [State.withPins_mch]
  exact State.busCrcFail_repeats few op

/-- Settles O13, command by command. -/
theorem stripesAndErases : Obligations.StripesAndErases := fun _ =>
  ⟨fun _ group waiting closes => stripeGatherTimeout_closes group waiting closes,
    fun _ _ next_ room order cap running => stripeIssue_issues next_ room order cap running,
    fun _ _ found => programDone_counts found,
    fun _ _ _ found => programFailure_retires found,
    fun _ erasing => ⟨eraseDone_leaves erasing, eraseFailure_leaves erasing⟩,
    fun _ suspended none_ => resumeIdleExpiry_resumes suspended none_,
    fun _ op few => busCrcFail_counts op few⟩

end Sys2Proof.Machine
end

section
/-! PROOFS. The state of the medium (R213, R226, R227, R235, R238, R239): the survey takes every anchor and ends with its last read, a thermal
round counts, and a committed group mode is in force once the group's move ends. -/

namespace Sys2Proof.Machine

open Sys2Proof

variable {s : State}

/-! ### DRIFT_SURVEY_START (R213, R227) -/

/-- What holds of every listed value and of the default holds of every value read. -/
theorem Tab.get_of_all {α : Type} {P : α → Prop} {t : Tab α} {d : α} (listed : ∀ e ∈ t, P e.2) (unlisted : P d) (k : Nat) :
    P (t.get d k) := by
  induction t with
  | nil => exact unlisted
  | cons e t ih =>
    obtain ⟨j, v⟩ := e
    rw [Tab.get, Tab.find]
    split
    · exact listed (j, v) (List.mem_cons_self ..)
    · exact ih fun e mem => listed e (List.mem_cons_of_mem _ mem)

/-- The blocks as a survey finds them: no anchor, and the counters at 65,536 (R227, R236). -/
def unanchoredBlocks (l : Tab Block) : Tab Block :=
  (l.map (fun (e : Nat × Block) => (e.1, { e.2 with reads := 65536, anchored := false }))).filter
    (fun (e : Nat × Block) => !decide (e.2 = ({} : Block)))

theorem unanchoredBlocks_get (l : Tab Block) (b : Nat) : ((unanchoredBlocks l).get {} b).anchored = false :=
  Tab.get_of_all (P := fun x : Block => x.anchored = false) (fun e mem => by
    obtain ⟨old, -, rfl⟩ := List.mem_map.mp (List.mem_filter.mp mem).1
    rfl) rfl b

theorem State.startSurvey_anchored (fresh : s.mch.surveyed = false) (b : Nat) : (s.startSurvey.block b).anchored = false := by
  rw [State.startSurvey, if_neg (by simp [fresh])]
  refine (State.anchored_of_part (s := { s with mch := { s.mch with blocks := unanchoredBlocks s.mch.blocks } }) ?_ b).trans
    (unanchoredBlocks_get _ b)
  refine (State.each_part _ _ _ fun t e => by split <;> simp).trans ?_
  exact (State.each_part _ _ _ fun t d => by simp).trans (State.each_part _ _ _ fun t ch => by simp)

theorem driftSurveyStart_unanchors (fresh : s.mch.surveyed = false) :
    ∃ t, exec .driftSurveyStart s = .next t ∧ ∀ b, (t.block b).anchored = false := by
  refine ⟨_, rfl, fun b => ?_⟩
  rw [State.block, State.withPins_mch]
  exact State.startSurvey_anchored fresh b

/-! ### SURVEY (R227, R239) -/

theorem State.askRefresh_surveyed (s : State) (b reason : Nat) : (s.askRefresh b reason).mch.surveyed = s.mch.surveyed := by
  unfold State.askRefresh
  split <;> rfl

theorem survey_ends (fresh : s.mch.surveyed = false) (ended : s.mch.reads.any (fun r => r.why == .survey) = false) :
    ∃ t, exec .survey s = .next t ∧ t.mch.surveyed = true := by
  refine ⟨_, rfl, ?_⟩
  rw [State.withPins_mch, State.endSurvey, if_neg (by simp only [fresh, ended]; decide), State.raise_mch]
  exact State.each_same (fun t => t.mch.surveyed) fun t e => t.askRefresh_surveyed e.1 4

/-! ### MEDIA_THERMAL_ROUND (R226, R238) -/

theorem State.roundBlock_round (s : State) (e : Nat × Block) : (s.roundBlock e).mch.round = s.mch.round := by
  unfold State.roundBlock State.askRefresh
  dsimp only
  repeat' split
  all_goals rfl

theorem mediaThermalRound_counts (s : State) : ∃ t, exec .mediaThermalRound s = .next t ∧ t.mch.round = s.mch.round + 1 :=
  ⟨_, rfl, congrArg (· + 1) (State.each_same (fun t => t.mch.round) State.roundBlock_round)⟩

/-! ### Group modes (R235) -/

theorem mchGrpmodeCommit_commits (pending : 0x080 ∈ s.pages.committing) {w : Word} (written : s.shadow.find (regAddr 0x080 0x104) = some w) :
    ∃ t, exec .mchGrpmodeCommit s = .next t ∧ t.reg 0x080 0x104 = w ∧ 0x080 ∉ t.pages.committing := by
  refine ⟨_, congrArg Host.Outcome.next (if_pos pending), ?_, by simp [removeAll]⟩
  change s.commitModes.reg 0x080 0x104 = w
  rw [State.commitModes, written]
  exact State.reg_setReg _ _ _ _

theorem modeMoveEnd_ends {g : Fin 16} (fits : s.busyIn g.val ≤ busyLimit (s.groupMode g.val)) :
    ∃ t, exec (.modeMoveEnd g) s = .next t ∧ t.mch.moving.find g.val = none := by
  refine ⟨_, rfl, ?_⟩
  rw [State.modeMoveEnd, if_pos fits]
  exact Tab.find_del_same _ _

/-- Settles O18, command by command. -/
theorem mediumState : Obligations.MediumState := fun s =>
  ⟨driftSurveyStart_unanchors, survey_ends, mediaThermalRound_counts s,
    fun pending _ written => mchGrpmodeCommit_commits pending written,
    fun _ fits => modeMoveEnd_ends fits⟩

end Sys2Proof.Machine
end

section
/-! PROOFS. What the writer of stripes and of journal pages leaves alone in the MTE (R250, R251, R258, R259): a stripe takes write numbers, whose
reservation may append to the journal, and nothing else of the ledger changes; a journal stripe also moves entries out of the buffer. -/

namespace Sys2Proof.Machine

open Sys2Proof

/-- The parts of the MTE that neither a set nor a program writes: the journal not yet durable, the reserved write numbers, and the scraper's
victims with the sets that wait for their release. -/
structure Ledger where
  jbuf : List JEntry
  jprog : List JEntry
  ceiling : Nat
  durCeiling : Nat
  victim : Tab Nat
  releasing : List Nat

def State.ledger (s : State) : Ledger :=
  { jbuf := s.mte.jbuf, jprog := s.mte.jprog, ceiling := s.mte.ceiling, durCeiling := s.mte.durCeiling, victim := s.mte.victim,
    releasing := s.mte.releasing }

/-- What writing stripes and journal pages does to the reservations and to the scraper: a block of write numbers is reserved at most once
(R251). -/
structure Writes (s t : State) : Prop where
  durCeiling : t.mte.durCeiling = s.mte.durCeiling
  ceiling : s.mte.durCeiling + 2 ^ 24 ≤ s.mte.ceiling → t.mte.ceiling = s.mte.ceiling
  victim : t.mte.victim = s.mte.victim
  releasing : t.mte.releasing = s.mte.releasing

/-- What filling a stripe does: the journal buffer may grow, and the stripe that is programmed keeps its entries. -/
structure Fills (s t : State) : Prop extends Writes s t where
  jprog : t.mte.jprog = s.mte.jprog
  jbuf : s.mte.jbuf <+: t.mte.jbuf

end Sys2Proof.Machine

namespace Sys2Proof.Machine.State

open Sys2Proof

variable (s : State)

/-! ### The MTE, past the dies, the blocks and the frames -/

@[simp] theorem setBusy_mte (ds op) : (s.setBusy ds op).mte = s.mte := each_mte _ _ _ fun _ _ => rfl

@[simp] theorem advanceRow_mte (x) : (s.advanceRow x).mte = s.mte := by
  unfold State.advanceRow
  split
  · rfl
  · exact each_mte _ _ _ fun _ _ => rfl

@[simp] theorem captureFrame_mte (x) : (s.captureFrame x).2.mte = s.mte := by
  unfold State.captureFrame
  repeat' split
  all_goals simp

@[simp] theorem captureAll_mte (l) (s : State) : (captureAll l s).2.mte = s.mte := by
  induction l generalizing s with
  | nil => rfl
  | cons p t ih =>
    simp only [captureAll, ih]
    split <;> simp

@[simp] theorem readyStripe_mte (x) : (s.readyStripe x).2.mte = s.mte := by
  unfold State.readyStripe
  split <;> simp

@[simp] theorem startErases_mte (g) : (s.startErases g).mte = s.mte := by simp [State.startErases]
@[simp] theorem checkHeadroom_mte : s.checkHeadroom.mte = s.mte := by simp [State.checkHeadroom]
@[simp] theorem bumpReads_mte (block n) : (s.bumpReads block n).mte = s.mte := by simp [State.bumpReads]
@[simp] theorem countRead_mte (block) : (s.countRead block).mte = s.mte := by simp [State.countRead]
@[simp] theorem countRecon_mte (p) : (s.countRecon p).mte = s.mte := by simp [State.countRecon]
@[simp] theorem relocRead_mte (e) : (s.relocRead e).mte = s.mte := by simp [State.relocRead, State.fresh]

/-! ### The ledger, past sets and programs -/

theorem ledger_of_mte {s t : State} (h : t.mte = s.mte) : t.ledger = s.ledger := by simp only [ledger, h]

@[simp] theorem each_ledger {α : Type} (l : List α) (f : State → α → State) (hf : ∀ t x, (f t x).ledger = t.ledger) :
    (s.each l f).ledger = s.ledger := each_same State.ledger hf

@[simp] theorem openFor_ledger (g purpose reason) : (s.openFor g purpose reason).2.ledger = s.ledger := by
  unfold State.openFor State.openSet
  dsimp only
  repeat' split
  case h_2.isTrue.isTrue => exact each_ledger s _ _ fun _ _ => rfl
  all_goals rfl

theorem setStripe_ledger (x) : (s.setStripe x).ledger = s.ledger := rfl

@[simp] theorem startRow_ledger (x row) : (s.startRow x row).ledger = s.ledger := by
  refine (each_ledger _ _ _ fun t y => ?_).trans (ledger_of_mte (s.setBusy_mte _ _))
  exact (ledger_of_mte (advanceRow_mte _ _)).trans ((setStripe_ledger _ _).trans (ledger_of_mte (t.readyStripe_mte y)))

@[simp] theorem issueMeta_ledger (id) : (s.issueMeta id).ledger = s.ledger := by
  unfold State.issueMeta State.orderFault
  repeat' split
  · rfl
  · exact ledger_of_mte (raiseAt_mte _ _ _ _)
  · rfl
  · exact startRow_ledger s _ _

end Sys2Proof.Machine.State

namespace Sys2Proof.Machine

open Sys2Proof

variable {s t u : State}

/-! ### Filling stripes -/

theorem Writes.trans (h : Writes s t) (h' : Writes t u) : Writes s u where
  durCeiling := h'.durCeiling.trans h.durCeiling
  ceiling reserved := (h'.ceiling (by rw [h.durCeiling, h.ceiling reserved]; exact reserved)).trans (h.ceiling reserved)
  victim := h'.victim.trans h.victim
  releasing := h'.releasing.trans h.releasing

theorem Fills.trans (h : Fills s t) (h' : Fills t u) : Fills s u where
  toWrites := h.toWrites.trans h'.toWrites
  jprog := h'.jprog.trans h.jprog
  jbuf := h.jbuf.trans h'.jbuf

theorem Fills.of_ledger (h : t.ledger = s.ledger) : Fills s t where
  durCeiling := congrArg Ledger.durCeiling h
  ceiling _ := congrArg Ledger.ceiling h
  victim := congrArg Ledger.victim h
  releasing := congrArg Ledger.releasing h
  jprog := congrArg Ledger.jprog h
  jbuf := by rw [show t.mte.jbuf = s.mte.jbuf from congrArg Ledger.jbuf h]

theorem Fills.refl (s : State) : Fills s s := .of_ledger rfl

theorem Fills.each {α : Type} {l : List α} {f : State → α → State} (hf : ∀ t x, Fills t (f t x)) : Fills s (s.each l f) := by
  induction l generalizing s with
  | nil => exact .refl s
  | cons x l ih => exact (hf s x).trans ih

theorem State.journal_fills (s : State) (e : JEntry) : Fills s (s.journal e) where
  durCeiling := rfl
  ceiling _ := rfl
  victim := rfl
  releasing := rfl
  jprog := rfl
  jbuf := ⟨_, rfl⟩

/-- A block that is reserved is not reserved again. -/
theorem State.reserveWsn_fills (s : State) : Fills s s.reserveWsn := by
  unfold State.reserveWsn
  dsimp only
  split
  next unreserved => exact ⟨⟨rfl, fun reserved => absurd unreserved (by omega), rfl, rfl⟩, rfl, ⟨_, rfl⟩⟩
  next => exact .refl s

theorem State.takeWsn_fills (s : State) : Fills s s.takeWsn.2 := by
  have numbered : Fills s { s with mte := { s.mte with nextWsn := s.mte.nextWsn + 1 } } := .of_ledger rfl
  have ended (v : State) : Fills v (({ v with mte := { v.mte with wsnEnd := true } }).raise 0x030 .mteWsnEnd) :=
    .of_ledger ((State.ledger_of_mte (State.raise_mte _ _ _)).trans rfl)
  unfold State.takeWsn
  extract_lets n old s1 s2
  have reserved : Fills s s2 := by
    unfold s2
    split
    exacts [numbered.trans (State.reserveWsn_fills _), numbered]
  split
  exacts [reserved.trans (ended _), reserved]

theorem State.fillers_fills (n : Nat) (s : State) (l : List StripePage) : Fills s (State.fillers n s l).2 := by
  induction n generalizing s l with
  | zero => exact .refl s
  | succ n ih => exact s.takeWsn_fills.trans (ih _ _)

theorem State.metaPages_fills (n : Nat) (s : State) (type : Byte) (aux : Nat) (l : List StripePage) :
    Fills s (State.metaPages n s type aux l).2 := by
  induction n generalizing s l with
  | zero => exact .refl s
  | succ n ih => exact s.takeWsn_fills.trans (ih _ _)

theorem State.closeStripe_fills (s : State) (g kind purpose : Nat) (pages : List StripePage) (reason : Nat) :
    Fills s (s.closeStripe g kind purpose pages reason).2 := by
  have opened : Fills s (s.openFor g purpose reason).2 := .of_ledger (s.openFor_ledger g purpose reason)
  unfold State.closeStripe
  dsimp only
  split
  · exact .refl s
  · split
    · exact opened
    · exact opened.trans ((State.fillers_fills _ _ _).trans (.of_ledger rfl))

/-! ### Journal stripes -/

/-- A journal stripe takes its entries from the front of the buffer, in order, where one is closed at all (R259). -/
theorem State.closeJournal_ledger (s : State) : Fills s s.closeJournal ∨ ∃ t n, Fills s t ∧
    s.closeJournal.ledger = { t.ledger with jprog := t.mte.jbuf.take n, jbuf := t.mte.jbuf.drop n } := by
  unfold State.closeJournal
  dsimp only
  repeat' split
  · exact .inl (.refl s)
  · exact .inl ((State.metaPages_fills _ s _ _ _).trans (State.closeStripe_fills _ _ _ _ _ _))
  · exact .inr ⟨_, _, (State.metaPages_fills _ s _ _ _).trans (State.closeStripe_fills _ _ _ _ _ _), State.issueMeta_ledger _ _⟩

theorem State.closeJournal_writes (s : State) : Writes s s.closeJournal := by
  obtain filled | ⟨t, n, filled, taken⟩ := s.closeJournal_ledger
  · exact filled.toWrites
  · exact filled.toWrites.trans
      ⟨congrArg Ledger.durCeiling taken, fun _ => congrArg Ledger.ceiling taken, congrArg Ledger.victim taken, congrArg Ledger.releasing taken⟩

theorem State.tendJournal_writes (s : State) : Writes s s.tendJournal := by
  unfold State.tendJournal
  split
  exacts [s.closeJournal_writes, (Fills.refl s).toWrites]

theorem State.closeJournal_entries (s : State) (idle : s.mte.jprog = []) :
    s.mte.jbuf <+: s.closeJournal.mte.jprog ++ s.closeJournal.mte.jbuf := by
  obtain filled | ⟨t, n, filled, taken⟩ := s.closeJournal_ledger
  · rw [filled.jprog, idle]
    exact filled.jbuf
  · have jprog : s.closeJournal.mte.jprog = t.mte.jbuf.take n := congrArg Ledger.jprog taken
    have jbuf : s.closeJournal.mte.jbuf = t.mte.jbuf.drop n := congrArg Ledger.jbuf taken
    rw [jprog, jbuf, List.take_append_drop]
    exact filled.jbuf

end Sys2Proof.Machine
end

section
/-! PROOFS. The scraper (R271 to R273, R255): a victim that is taken stays the group's victim while its pages are copied, a set without live
pages waits for its release, and a durable release leaves the list of those that wait while its set is handed over for erase. -/

namespace Sys2Proof.Machine

open Sys2Proof

variable {s : State}

/-! ### Taking a victim (R271, R272) -/

theorem State.relocStripes_fills (fuel : Nat) (s : State) (g src reason : Nat) (l : List StripePage) :
    Fills s (State.relocStripes fuel s g src reason l) := by
  induction fuel generalizing s l with
  | zero => exact .refl s
  | succ fuel ih =>
    have closed := s.closeStripe_fills g 1 1 (l.take (s.dataPages g)) reason
    unfold State.relocStripes
    dsimp only
    repeat' split
    · exact .refl s
    · exact closed
    · refine closed.trans (Fills.trans ?_ (ih _ _))
      exact .of_ledger rfl
    · exact closed.trans (ih _ _)
    · exact closed.trans (ih _ _)

theorem State.relocate_fills (s : State) (g id : Nat) (r : SetRec) : Fills s (s.relocate g id r) := by
  unfold State.relocate
  extract_lets live lost s1 s2
  have told : s1.mte = s.mte := by
    unfold s1
    split
    exacts [rfl, State.raiseAt_mte _ _ _ _]
  have read : s2.mte = s1.mte := State.each_mte s1 live _ State.relocRead_mte
  exact (Fills.of_ledger (State.ledger_of_mte (read.trans told))).trans (State.relocStripes_fills _ _ _ _ _ _)

theorem State.scrape_takes {g id reason : Nat} {x : SetRec} (free : (s.levelReclaim g).mte.victim.find g = none)
    (runs : (s.levelReclaim g).groupState g ≠ 2) (next_ : (s.levelReclaim g).victimOf g = some (id, x, reason)) :
    (s.scrape g).mte.victim.find g = some id := by
  unfold State.scrape
  dsimp only
  rw [if_neg runs, free, next_]
  dsimp only
  rw [(State.relocate_fills _ g id _).victim]
  exact Tab.find_put_same _ _ _

theorem scraperVictimSelect_takes {g : Fin 16} {id reason : Nat} {x : SetRec} (awake : s.frozen = false)
    (free : (s.levelReclaim g.val).mte.victim.find g.val = none) (runs : (s.levelReclaim g.val).groupState g.val ≠ 2)
    (next_ : (s.levelReclaim g.val).victimOf g.val = some (id, x, reason)) :
    ∃ t, exec (.scraperVictimSelect g) s = .next t ∧ t.mte.victim.find g.val = some id := by
  refine ⟨_, rfl, ?_⟩
  rw [State.withPins_mte, if_neg (by simp [awake])]
  exact State.scrape_takes free runs next_

/-! ### Releasing a set (R255, R273) -/

theorem State.relocDone_releases {id : Nat} {x : SetRec} (listed : s.mte.sets.find id = some x) (victim : x.st = 4)
    (empty : s.setLivePages x = []) (fresh : id ∉ s.mte.releasing) : (s.relocDone id).mte.releasing = s.mte.releasing ++ [id] := by
  unfold State.relocDone
  rw [listed]
  dsimp only
  rw [if_pos (by simp [victim, empty, fresh])]
  rfl

theorem relocationProgrammed_releases {id : BitVec 64} {x : SetRec} (listed : s.mte.sets.find id.toNat = some x) (victim : x.st = 4)
    (empty : s.setLivePages x = []) (fresh : id.toNat ∉ s.mte.releasing) (awake : s.frozen = false) :
    ∃ t, exec (.relocationProgrammed id) s = .next t ∧ id.toNat ∈ t.mte.releasing := by
  refine ⟨_, rfl, ?_⟩
  rw [State.withPins_mte, if_neg (by simp [awake]), (State.tendJournal_writes _).releasing,
    State.relocDone_releases listed victim empty fresh]
  simp

theorem State.retire_fills (s : State) (block cause : Nat) : Fills s (s.retire block cause) := by
  unfold State.retire
  extract_lets old s1 s2
  have retired : Fills s s1 := .of_ledger rfl
  have told : ((s2.raise 0x030 .mteRetire).checkHeadroom).mte = s2.mte := by simp
  exact (retired.trans (s1.journal_fills _)).trans (.of_ledger (State.ledger_of_mte told))

theorem State.eraseSet_fills (s : State) (id : Nat) : Fills s (s.eraseSet id) := by
  unfold State.eraseSet
  split
  · exact .refl s
  next r _ =>
    extract_lets old s1 s2
    have erasing : Fills s s1 := .of_ledger rfl
    have handed : Fills s1 s2 := Fills.each fun t b => by
      dsimp only
      repeat' split
      exacts [.refl t, t.retire_fills b 4, .of_ledger rfl]
    exact (erasing.trans handed).trans (.of_ledger (State.ledger_of_mte (s2.startErases_mte _)))

theorem State.releaseDurable_forgets {id : Nat} (waits : id ∈ s.mte.releasing) (durable : s.isDurable 0x07 (BitVec.ofNat 64 id) = true) :
    (s.releaseDurable id).mte.releasing = removeAll s.mte.releasing id := by
  unfold State.releaseDurable
  rw [if_pos (by rw [decide_eq_true waits, durable]; rfl)]
  exact (State.eraseSet_fills _ id).releasing

theorem setReleaseDurable_forgets {id : BitVec 64} (waits : id.toNat ∈ s.mte.releasing) (durable : s.isDurable 0x07 id = true) :
    ∃ t, exec (.setReleaseDurable id) s = .next t ∧ id.toNat ∉ t.mte.releasing := by
  refine ⟨_, rfl, ?_⟩
  rw [State.withPins_mte, State.releaseDurable_forgets waits (by rwa [BitVec.ofNat_toNat, BitVec.setWidth_eq])]
  simp [removeAll]

/-- Settles O21, command by command. -/
theorem scraping : Obligations.Scraping := fun _ =>
  ⟨fun _ _ _ _ awake free runs next_ => scraperVictimSelect_takes awake free runs next_,
    fun _ _ listed victim empty fresh awake => relocationProgrammed_releases listed victim empty fresh awake,
    fun _ waits durable => setReleaseDurable_forgets waits durable⟩

end Sys2Proof.Machine
end

section
/-! PROOFS. Write numbers and the journal (R251, R258 to R263; log 15): the reserved ceiling, the reservations that have become durable, the
entries of a journal stripe from the buffer to the durable journal, and the captures of a map page and of the tables. -/

namespace Sys2Proof.Machine

open Sys2Proof

variable {s : State}

/-! ### Reservations (R251) -/

theorem State.withPins_mte_of {f : State → State} {t : State} (e : f s = t) : (s.withPins f).mte = t.mte := by
  rw [State.withPins_mte, e]

theorem State.reserveWsn_of_room (room : s.mte.ceiling < s.mte.durCeiling + 2 ^ 24) :
    s.reserveWsn = ({ s with mte := { s.mte with ceiling := s.mte.durCeiling + 2 ^ 24 } }).journal
      { type := 0x09, arg := 0, x := 0, y := BitVec.ofNat 64 (s.mte.durCeiling + 2 ^ 24), z := 0 } := by
  unfold State.reserveWsn
  exact if_pos room

theorem wsnReserve_reserves (room : s.mte.ceiling < s.mte.durCeiling + 2 ^ 24) :
    ∃ t, exec .wsnReserve s = .next t ∧ t.mte.ceiling = s.mte.durCeiling + 2 ^ 24 := by
  have ceiling : s.reserveWsn.mte.ceiling = s.mte.durCeiling + 2 ^ 24 := by rw [State.reserveWsn_of_room room]; rfl
  have reserved : s.reserveWsn.mte.durCeiling + 2 ^ 24 ≤ s.reserveWsn.mte.ceiling := by rw [ceiling, s.reserveWsn_fills.durCeiling]
  refine ⟨_, rfl, ?_⟩
  rw [State.withPins_mte_of (s := s) (t := s.reserveWsn.tendJournal) rfl]
  exact (s.reserveWsn.tendJournal_writes.ceiling reserved).trans ceiling

/-- The ceiling that the reservations of a durable journal give, from `top` on (R251). -/
def reservedTop (l : List (Nat × JEntry)) (top : Nat) : Nat :=
  l.foldl (fun m (e : Nat × JEntry) => if e.2.type = 0x09 then max m e.2.y.toNat else m) top

theorem reservedTop_ge (l : List (Nat × JEntry)) (top : Nat) :
    top ≤ reservedTop l top ∧ ∀ e ∈ l, e.2.type = 0x09 → e.2.y.toNat ≤ reservedTop l top := by
  induction l generalizing top with
  | nil => exact ⟨le_refl _, by simp⟩
  | cons e l ih =>
    obtain ⟨above, counts⟩ := ih (if e.2.type = 0x09 then max top e.2.y.toNat else top)
    refine ⟨le_trans ?_ above, List.forall_mem_cons.mpr ⟨fun reservation => le_trans ?_ above, counts⟩⟩
    · split
      exacts [le_max_left _ _, le_refl _]
    · rw [if_pos reservation]
      exact le_max_right _ _

theorem wsnReserveDurable_counts (s : State) :
    ∃ u : State, exec .wsnReserveDurable s = .next (s.withPins (fun _ => (u.releaseUnmaps.pump).rwCheck)) ∧
      s.mte.durCeiling ≤ u.mte.durCeiling ∧ ∀ e ∈ s.mte.jdur, e.2.type = 0x09 → e.2.y.toNat ≤ u.mte.durCeiling :=
  ⟨{ s with mte := { s.mte with durCeiling := reservedTop s.mte.jdur s.mte.durCeiling } }, rfl, reservedTop_ge _ _⟩

/-! ### The journal stripe (R258 to R260) -/

theorem journalFlushExpiry_takes (idle : s.mte.jprog = []) :
    ∃ t, exec .journalFlushExpiry s = .next t ∧ s.mte.jbuf <+: t.mte.jprog ++ t.mte.jbuf := by
  refine ⟨_, rfl, ?_⟩
  rw [State.withPins_mte]
  exact s.closeJournal_entries idle

/-- With a page to spare for each entry, the pages of a journal stripe hold every entry (R260). -/
theorem flatten_journalPages {n : Nat} {l : List JEntry} (room : l.length ≤ n) : (journalPages n l).flatten = l := by
  induction n generalizing l with
  | zero => rw [List.eq_nil_of_length_eq_zero (Nat.le_zero.mp room)]; rfl
  | succ n ih =>
    unfold journalPages
    dsimp only
    rw [List.flatten_cons, ih, List.take_append_drop]
    rw [List.length_drop]
    split <;> omega

/-- The entries of the pages of a journal stripe, each with its page's WSN (R258). -/
def pagedEntries (base : Nat) (pages : List (List JEntry)) : List (Nat × JEntry) :=
  ((List.range pages.length).zip pages).flatMap (fun (p : Nat × List JEntry) => p.2.map (fun e => (base + p.1, e)))

theorem pagedEntries_snd (base : Nat) (pages : List (List JEntry)) : (pagedEntries base pages).map Prod.snd = pages.flatten := by
  simp only [pagedEntries, List.map_flatMap, List.map_map, Function.comp_def, List.map_id']
  rw [List.flatMap_def, List.map_snd_zip (by simp)]

/-- The journal stripe has landed, and its entries stand in the durable journal. -/
def State.journalLanded (s : State) (x : Stripe) : State :=
  let pages := journalPages s.mte.jprog.length s.mte.jprog
  let t := s.landMeta x
  { t with mte := { t.mte with
    jdur := t.mte.jdur ++ pagedEntries s.mte.jprogWsn pages, jprog := [],
    jTop := s.mte.jprogWsn + ((pages.filter (fun l => !l.isEmpty)).length - 1) } }

theorem State.journalDone_landed {x : Stripe} (programmed : s.mte.stripes.find? (fun x => x.kind == 2 && x.issued) = some x) :
    s.journalDone =
      (State.drainJwait (s.journalLanded x).mte.jwait.length (s.journalLanded x)).checkJournal.releaseUnmaps.pump := by
  unfold State.journalDone
  rw [programmed]
  rfl

theorem journalStripeProgrammed_lands {x : Stripe} (programmed : s.mte.stripes.find? (fun x => x.kind == 2 && x.issued) = some x) :
    ∃ u : State, exec .journalStripeProgrammed s = .next (s.withPins (fun _ =>
        (((State.drainJwait u.mte.jwait.length u).checkJournal.releaseUnmaps.pump.dropsDurable).rwCheck.recAcks).drain)) ∧
      u.mte.jprog = [] ∧ ∀ e ∈ s.mte.jprog, e ∈ u.mte.jdur.map Prod.snd := by
  refine ⟨s.journalLanded x, congrArg Host.Outcome.next (withPins_congr ?_), rfl, fun e taken => ?_⟩
  · rw [State.journalDone_landed programmed]
  · have durable : (s.journalLanded x).mte.jdur.map Prod.snd = (s.landMeta x).mte.jdur.map Prod.snd ++ s.mte.jprog := by
      rw [State.journalLanded, List.map_append, pagedEntries_snd, flatten_journalPages (le_refl _)]
    rw [durable]
    exact List.mem_append_right _ taken

/-! ### Checkpoints (R262) -/

/-- The record of a map page whose image has been programmed at `ppa`: the image is its newest capture, with its CKPT entry (R262). -/
def State.pageCaptured (s : State) (k cap : Nat) (ppa : Ppa) : State :=
  let old : Tab MapEntry := s.mte.image.filter (fun e => e.1 / 512 != k)
  let img := (s.mte.map.filter (fun e => e.1 / 512 == k)).foldl (fun (t : Tab MapEntry) e => t.put e.1 e.2) old
  ({ s with mte := { s.mte with image := img, captured := s.mte.captured.put k cap, changed := removeAll s.mte.changed k } }).journal
    { type := 0x0a, arg := 0, x := BitVec.ofNat 64 k, y := BitVec.ofNat 64 cap, z := ppa }

theorem State.pageCaptured_changed (s : State) (k cap : Nat) (ppa : Ppa) :
    (s.pageCaptured k cap ppa).mte.changed = removeAll s.mte.changed k := rfl

theorem State.pageCaptured_captured (s : State) (k cap : Nat) (ppa : Ppa) :
    (s.pageCaptured k cap ppa).mte.captured = s.mte.captured.put k cap := rfl

theorem State.checkpointPage_captures {k : Nat} (changed : k ∈ s.mte.changed) (programs : (s.programImage k s.mte.jTop).1 ≠ none) :
    ∃ t ppa, s.checkpointPage k = State.pageCaptured t k s.mte.jTop ppa := by
  obtain ⟨ppa, programmed⟩ := Option.ne_none_iff_exists'.mp programs
  refine ⟨(s.programImage k s.mte.jTop).2, ppa, ?_⟩
  have image : s.programImage k s.mte.jTop = (some ppa, (s.programImage k s.mte.jTop).2) := Prod.ext programmed rfl
  generalize (s.programImage k s.mte.jTop).2 = t at image
  unfold State.checkpointPage
  rw [if_neg (not_not_intro changed)]
  simp only [image]
  rfl

theorem checkpointWrite_page {n : BitVec 23} (changed : n.toNat ∈ s.mte.changed)
    (programs : (s.programImage n.toNat s.mte.jTop).1 ≠ none) :
    ∃ t, exec (.checkpointWrite (.page n)) s = .next t ∧ n.toNat ∉ t.mte.changed ∧ t.mte.captured.find n.toNat = some s.mte.jTop := by
  obtain ⟨t, ppa, captured⟩ := State.checkpointPage_captures changed programs
  refine ⟨s.withPins (fun _ => t.pageCaptured n.toNat s.mte.jTop ppa), congrArg Host.Outcome.next (withPins_congr captured), ?_⟩
  rw [State.withPins_mte, State.pageCaptured_changed, State.pageCaptured_captured]
  exact ⟨by simp [removeAll], Tab.find_put_same _ _ _⟩

/-- The check of the journal writes JRN_FULL's condition alone (R263). -/
theorem State.checkJournal_mte (s : State) : ∃ full, s.checkJournal.mte = { s.mte with jfull := full } := by
  unfold State.checkJournal
  extract_lets full old
  split
  · exact ⟨true, State.raise_mte _ _ _⟩
  · exact ⟨full, rfl⟩

theorem State.trimJournal_images (s : State) : s.trimJournal.mte.dirImage = s.mte.dirImage ∧ s.trimJournal.mte.dirOk = s.mte.dirOk := by
  unfold State.trimJournal
  extract_lets low t old
  obtain ⟨full, e⟩ := State.checkJournal_mte { s with mte := { s.mte with
    trim := t, jdur := s.mte.jdur.filter (fun (e : Nat × JEntry) => decide (t ≤ e.1)) } }
  rw [e]
  exact ⟨rfl, rfl⟩

theorem State.checkpointImages_captures (s : State) : s.checkpointImages.mte.dirImage = s.mte.jTop ∧ s.checkpointImages.mte.dirOk = true := by
  unfold State.checkpointImages
  dsimp only
  split
  exacts [State.trimJournal_images _, ⟨rfl, rfl⟩]

theorem checkpointWrite_images (s : State) :
    ∃ t, exec (.checkpointWrite .images) s = .next t ∧ t.mte.dirImage = s.mte.jTop ∧ t.mte.dirOk = true := by
  refine ⟨_, rfl, ?_⟩
  rw [State.withPins_mte]
  exact s.checkpointImages_captures

/-- Settles O19, command by command. -/
theorem journalAndWsn : Obligations.JournalAndWsn := fun s =>
  ⟨wsnReserve_reserves, wsnReserveDurable_counts s, fun _ idle => journalFlushExpiry_takes idle,
    fun _ programmed => journalStripeProgrammed_lands programmed, fun _ changed programs => checkpointWrite_page changed programs,
    checkpointWrite_images s⟩

end Sys2Proof.Machine
end

section
/-! PROOFS. What the IBIs of the pins and the sweep of the line caches leave alone (R122, R428, R488): the IBIs write no register below the pages of
the heads, and an invalidation writes its own slice's counts and INV_DONE, and nothing of the supervisor. -/

namespace Sys2Proof.Machine.State

open Sys2Proof

variable (s : State) {page off : Nat}

/-! ### Registers, past the pins -/

theorem each_reg {α : Type} (l : List α) (f : State → α → State) (hf : ∀ t x, (f t x).reg page off = t.reg page off) :
    (s.each l f).reg page off = s.reg page off := each_same (fun t => t.reg page off) hf

section
variable (below : page < 0x1c0) (block : 0x100 ≤ off) (inPage : off < 0x1000)
include below block inPage

theorem postRec_reg (h log r) : (s.postRec h log r).reg page off = s.reg page off := by
  unfold State.postRec
  extract_lets x l t
  split
  · exact reg_of_regs (by simp [State.logInterrupt]) _ _
  · rw [State.raise_reg _ block inPage]
    refine (State.reg_setReg_other _ _ fun same => ?_).trans (reg_of_regs rfl _ _)
    have pages := ((regAddr_inj inPage (by decide)).mp same).1
    omega

theorem memoryEvent_reg : s.memoryEvent.reg page off = s.reg page off :=
  each_reg s _ _ fun t h => t.postRec_reg below block inPage h 0 _

theorem pinIbis_reg (old) : (s.pinIbis old).reg page off = s.reg page off := by
  have ibi (t : State) (mdb payload) : (t.sendIbi mdb payload).reg page off = t.reg page off :=
    reg_of_regs (by simp [State.sendIbi]) _ _
  unfold State.pinIbis
  extract_lets now t u
  have told : u.reg page off = s.reg page off := by
    unfold u t
    repeat' split
    all_goals simp only [ibi]
  split
  · rw [State.memoryEvent_reg _ below block inPage, ibi, told]
  · exact told

theorem withPins_reg (f : State → State) : (s.withPins f).reg page off = (f s).reg page off := State.pinIbis_reg _ below block inPage _

end

@[simp] theorem each_pages {α : Type} (l : List α) (f : State → α → State) (hf : ∀ t x, (f t x).pages = t.pages) :
    (s.each l f).pages = s.pages := each_same State.pages hf

@[simp] theorem each_pan {α : Type} (l : List α) (f : State → α → State) (hf : ∀ t x, (f t x).pan = t.pan) :
    (s.each l f).pan = s.pan := each_same State.pan hf

theorem withPins_pages (f : State → State) : (s.withPins f).pages = (f s).pages := by
  simp [State.withPins, State.pinIbis, State.sendIbi, State.memoryEvent, State.postAll, State.postRec, State.logInterrupt]

theorem withPins_pan (f : State → State) : (s.withPins f).pan = (f s).pan := by
  simp [State.withPins, State.pinIbis, State.sendIbi, State.memoryEvent, State.postAll, State.postRec, State.logInterrupt]

theorem withPins_out (f : State → State) : (f s).out <+: (s.withPins f).out := (State.pinIbis_keeps (Keeps.refl _)).out

/-! ### The supervisor, past a sweep of the line caches -/

@[simp] theorem each_pwr {α : Type} (l : List α) (f : State → α → State) (hf : ∀ t x, (f t x).pwr = t.pwr) :
    (s.each l f).pwr = s.pwr := each_same State.pwr hf

@[simp] theorem startInv_pwr (n) : (s.startInv n).pwr = s.pwr := by
  unfold State.startInv
  dsimp only
  split <;> rfl

@[simp] theorem queueInv_pwr (n r) : (s.queueInv n r).pwr = s.pwr := by simp [State.queueInv]
@[simp] theorem sweep_pwr (n r) : (s.sweep n r).pwr = s.pwr := by simp [State.sweep]

@[simp] theorem invDone_pwr (n) : (s.invDone n).pwr = s.pwr := by
  unfold State.invDone
  split <;> simp

@[simp] theorem serveInv_pwr (n) : (s.serveInv n).pwr = s.pwr := by simp [State.serveInv]
@[simp] theorem sweepAll_pwr (r) : (s.sweepAll r).pwr = s.pwr := by simp [State.sweepAll]

@[simp] theorem enableCaches_pwr : s.enableCaches.pwr = s.pwr := by
  unfold State.enableCaches
  split
  · rfl
  · exact (each_pwr _ _ _ fun t n => t.setRegFld_pwr (slcPage n) 0x104 0 1 1).trans (sweepAll_pwr _ _)

/-! ### The registers of the other pages, past the sweep of a slice -/

theorem startInv_reg (n page off) : (s.startInv n).reg page off = s.reg page off := by
  unfold State.startInv
  dsimp only
  split <;> rfl

theorem queueInv_reg (n r page off) : (s.queueInv n r).reg page off = s.reg page off := by
  unfold State.queueInv
  extract_lets x t
  split
  · exact (t.startInv_reg n page off).trans rfl
  · rfl

section
variable {n : Nat} (other : page ≠ slcPage n) (block : 0x100 ≤ off) (inPage : off < 0x1000)
include other block inPage

theorem sweep_reg_other (r) : (s.sweep n r).reg page off = s.reg page off := by
  unfold State.sweep
  extract_lets x hit locked t
  split
  · rfl
  · rw [State.raise_reg _ block inPage]
    exact State.reg_setReg_other _ _ fun same => other ((regAddr_inj inPage (by decide)).mp same).1

theorem invDone_reg_other : (s.invDone n).reg page off = s.reg page off := by
  unfold State.invDone
  split
  · rfl
  next r t _ =>
    rw [State.startInv_reg]
    refine Eq.trans ?_ (s.sweep_reg_other other block inPage r)
    split
    · exact State.reg_setRegFld_other _ _ _ _ fun same => other ((regAddr_inj inPage (by decide)).mp same).1
    · rfl

theorem serveInv_reg_other : (s.serveInv n).reg page off = s.reg page off :=
  each_reg s _ _ fun t _ => t.invDone_reg_other other block inPage

end

end Sys2Proof.Machine.State
end

section
/-! PROOFS. Start-up (R36, R120, R251, R264 to R270, R537, R573): each phase of Translation leads to the next one, and the release, the end of
bring-up and the enabling of the line caches each lead to the next phase of start-up. -/

namespace Sys2Proof.Machine

open Sys2Proof

variable {s : State} {n : Nat}

/-! ### The phases of Translation (R268, R269) -/

theorem State.mtePhase_setMtePhase (s : State) {n : Nat} (phase : n < 16) : (s.setMtePhase n).mtePhase = n :=
  (s.regFld_setRegFld 0x030 0x104 n (by decide)).trans (Nat.mod_eq_of_lt phase)

theorem State.setMtePhase_pwr (s : State) (n : Nat) : (s.setMtePhase n).pwr = s.pwr := State.setRegFld_pwr _ _ _ _ _ _

theorem State.withPins_mtePhase (s : State) (f : State → State) : (s.withPins f).mtePhase = (f s).mtePhase :=
  congrArg (fld · 28 4) (s.withPins_reg (by decide) (by decide) (by decide) f)

theorem State.phaseEnd_at (translates : s.pwr.startup = 3) {old : Nat} (phase : s.mtePhase = old) (new : Nat) (f : State → State) :
    s.phaseEnd old new f = ((f s).setMtePhase new).startupOff := by
  unfold State.phaseEnd
  exact if_pos (by simp [translates, phase])

/-- An operation that ends its phase leads to the next one, unless an Off request waits. -/
theorem State.phaseEnd_leads (translates : s.pwr.startup = 3) {old new : Nat} (phase : s.mtePhase = old) (next_ : new < 16)
    {f g : State → State} (ends : g s = s.phaseEnd old new f) :
    ∃ u : State, (.next (s.withPins g) : Host.Outcome State Fault Refusal) = .next (s.withPins (fun _ => u.startupOff)) ∧ u.mtePhase = new :=
  ⟨(f s).setMtePhase new, congrArg Host.Outcome.next (withPins_congr (ends.trans (State.phaseEnd_at translates phase new f))),
    State.mtePhase_setMtePhase _ next_⟩

theorem startupBlockScanEnd_leads (translates : s.pwr.startup = 3) (phase : s.mtePhase = 1) :
    ∃ u : State, exec .startupBlockScanEnd s = .next (s.withPins (fun _ => u.startupOff)) ∧ u.mtePhase = 2 :=
  State.phaseEnd_leads translates phase (by decide) rfl

theorem startupJournalLocateEnd_leads (translates : s.pwr.startup = 3) (phase : s.mtePhase = 2) :
    ∃ u : State, exec .startupJournalLocateEnd s = .next (s.withPins (fun _ => u.startupOff)) ∧
      u.mtePhase = if s.needsRebuild then 8 else 3 :=
  State.phaseEnd_leads translates phase (by split <;> decide) rfl

/-- Map load leads to Replay, or to a full rebuild where an image is lost. -/
theorem State.mapLoadEnd_leads (translates : s.pwr.startup = 3) {old : Nat} (phase : s.mtePhase = old) {g : State → State}
    (ends : g s = s.mapLoadEnd old) :
    ∃ u : State, (.next (s.withPins g) : Host.Outcome State Fault Refusal) = .next (s.withPins (fun _ => u.startupOff)) ∧
      u.mtePhase = if s.imagesLost then 8 else 5 := by
  unfold State.mapLoadEnd at ends
  split at ends
  next lost => rw [if_pos lost]; exact State.phaseEnd_leads translates phase (by decide) ends
  next whole => rw [if_neg whole]; exact State.phaseEnd_leads translates phase (by decide) ends

theorem startupImageLoadEnd_leads (translates : s.pwr.startup = 3) (phase : s.mtePhase = 3) :
    ∃ u : State, exec .startupImageLoadEnd s = .next (s.withPins (fun _ => u.startupOff)) ∧
      u.mtePhase = if s.reduced then (if s.imagesLost then 8 else 5) else 4 := by
  by_cases reduced : s.reduced = true
  · rw [if_pos reduced]
    exact State.mapLoadEnd_leads translates phase (if_pos reduced)
  · rw [if_neg reduced]
    exact State.phaseEnd_leads translates phase (by decide) (if_neg reduced)

theorem startupMapLoadEnd_leads (translates : s.pwr.startup = 3) (phase : s.mtePhase = 4) :
    ∃ u : State, exec .startupMapLoadEnd s = .next (s.withPins (fun _ => u.startupOff)) ∧ u.mtePhase = if s.imagesLost then 8 else 5 :=
  State.mapLoadEnd_leads translates phase rfl

theorem startupReplayEnd_leads (translates : s.pwr.startup = 3) (phase : s.mtePhase = 5) :
    ∃ u : State, exec .startupReplayEnd s = .next (s.withPins (fun _ => u.startupOff)) ∧ u.mtePhase = 6 :=
  State.phaseEnd_leads translates phase (by decide) rfl

theorem startupTailScanEnd_leads (translates : s.pwr.startup = 3) (phase : s.mtePhase = 6) :
    ∃ u : State, exec .startupTailScanEnd s = .next (s.withPins (fun _ => u.startupOff)) ∧ u.mtePhase = 7 :=
  State.phaseEnd_leads translates phase (by decide) rfl

theorem fullRebuild_leads (translates : s.pwr.startup = 3) (phase : s.mtePhase = 8) :
    ∃ u : State, exec .fullRebuild s = .next (s.withPins (fun _ => u.startupOff)) ∧ u.mtePhase = 6 :=
  State.phaseEnd_leads translates phase (by decide) rfl

theorem settle_leads (translates : s.pwr.startup = 3) (phase : s.mtePhase = 7) (ready : s.wsnReady = true) :
    ∃ u : State, exec .settle s = .next (s.withPins (fun _ => u.startupOff)) ∧ u.mtePhase = 0 :=
  State.phaseEnd_leads translates phase (by decide) (if_neg (by simp [ready]))

/-! ### Release and the end of bring-up (R36, R537, R573) -/

/-- No Off request waits: start-up goes on (R548). -/
theorem State.startupOff_none (stays : s.pwr.offReq = false) : s.startupOff = s := if_neg (by simp [stays])

/-- The domains run, and the recall has begun. -/
def State.released (s : State) : State := ({ s with pwr := { s.pwr with startup := 2 } }).recallStart

theorem State.release_from (waits : s.pwr.startup = 1) (stays : s.pwr.offReq = false) :
    s.release = if s.mgt.dyn.isNone && s.mgt.hjEn then s.released.emit .hotJoin else s.released := by
  unfold State.release
  rw [if_neg (by simp [waits])]
  refine State.startupOff_none ?_
  rw [State.ite_pwr, State.emit_pwr, ite_self]
  exact stays

theorem startupRelease_releases (stays : s.pwr.offReq = false) (waits : s.pwr.startup = 1) :
    ∃ t, exec .startupRelease s = .next t ∧ t.pwr.startup = 2 ∧ t.pages.started = true ∧ t.pan.recalling = true ∧
      (s.mgt.dyn = none → s.mgt.hjEn = true → .hotJoin ∈ t.out) := by
  have release := State.release_from waits stays
  refine ⟨_, rfl, ?_, ?_, ?_, fun lost asks => (State.withPins_out _ _).subset ?_⟩
  · rw [State.withPins_pwr, release, State.ite_pwr, State.emit_pwr, ite_self]
    rfl
  · rw [State.withPins_pages, release, State.ite_pages, State.emit_pages, ite_self]
    rfl
  · rw [State.withPins_pan, release, State.ite_pan, State.emit_pan, ite_self]
    rfl
  · rw [release, if_pos (by simp [lost, asks]), State.emit_out]
    exact List.mem_append_right _ List.mem_cons_self

theorem startupBringupEnd_translates (stays : s.pwr.offReq = false) (bringup : s.pwr.startup = 2) (decided : s.dtc.decided = true)
    (survey : s.surveyStarted = true) (recalled : s.pan.recalling = false) :
    ∃ t, exec .startupBringupEnd s = .next t ∧ t.pwr.startup = 3 ∧ t.mtePhase = 1 := by
  have ends : s.bringupEnd =
      ({ s with pwr := { s.pwr with startup := 3 }, mte := { s.mte with startAt := s.ns } } : State).setMtePhase 1 := by
    unfold State.bringupEnd
    refine (if_pos (by simp [bringup, decided, survey, recalled])).trans (State.startupOff_none ?_)
    rw [State.setMtePhase_pwr]
    exact stays
  refine ⟨_, rfl, ?_, ?_⟩
  · rw [State.withPins_pwr, ends, State.setMtePhase_pwr]
  · rw [State.withPins_mtePhase, ends, State.mtePhase_setMtePhase _ (by decide)]

/-! ### Enabling the line caches (R120, R573) -/

theorem slcPage_inj {m : Nat} : slcPage m = slcPage n ↔ m = n := by
  unfold slcPage
  omega

/-- The engine of a slice is idle once it has worked off its queue (R121). -/
theorem State.serveInv_idle (s : State) (n : Nat) : ((s.serveInv n).slice n).inv = [] := by
  have walked (l : List InvReq) (t : State) (queue : (t.slice n).inv = l) : ((t.each l (fun s _ => s.invDone n)).slice n).inv = [] := by
    induction l generalizing t with
    | nil => exact queue
    | cons r l ih => exact ih _ (State.invDone_ways_queue queue).2
  exact walked _ s rfl

/-- A full invalidation that an idle engine takes sets INV_DONE when it ends (R118). -/
theorem State.invDone_queued_full (idle : (s.slice n).inv = []) :
    ((s.queueInv n .full).invDone n).regFld (slcPage n) 0x108 1 1 = 1 := by
  have running : ((s.queueInv n .full).slice n).inv = .full :: [] := by
    rw [State.queueInv, idle]
    exact (State.startInv_ways_queue _ n).2.trans (by rw [State.slice_setSlice]; rfl)
  rw [State.invDone_running running, State.regFld, State.startInv_reg]
  exact State.regFld_setRegFld _ _ _ _ (by decide)

/-- One slice of the sweep: what came before is served, then its own walk ends. -/
theorem State.sweepAll_done (s : State) (slice : n < 8) : (s.sweepAll .full).regFld (slcPage n) 0x108 1 1 = 1 := by
  refine State.each_settles (P := fun _ => True) (Q := fun t => t.regFld (slcPage n) 0x108 1 1 = 1) (List.mem_range.mpr slice) trivial
    (fun _ _ _ _ => trivial) (fun t _ => State.invDone_queued_full (t.serveInv_idle n)) fun t m _ _ done => ?_
  rcases eq_or_ne n m with rfl | other
  · exact State.invDone_queued_full (t.serveInv_idle n)
  · have apart : slcPage n ≠ slcPage m := fun same => other (slcPage_inj.mp same)
    rw [State.regFld, State.invDone_reg_other _ apart (by decide) (by decide), State.queueInv_reg,
      State.serveInv_reg_other _ apart (by decide) (by decide)]
    exact done

/-- ENABLE of each slice is set, and INV_DONE stays. -/
theorem State.enableCaches_on (s : State) (on : bitAt (s.reg 0x006 0x10c) 0 = false) (slice : n < 8) :
    s.enableCaches.regFld (slcPage n) 0x108 1 1 = 1 ∧ s.enableCaches.lcEnabled n = true := by
  have swept : s.enableCaches = (s.sweepAll .full).each (List.range 8) (fun s n => s.setRegFld (slcPage n) 0x104 0 1 1) := by
    unfold State.enableCaches
    exact if_neg (by simp [on])
  have enabled (t : State) : (t.setRegFld (slcPage n) 0x104 0 1 1).lcEnabled n = true :=
    (t.testBit_setRegFld (slcPage n) 0x104 0 1 1 (i := 0) (by decide)).trans (by simp)
  have kept (t : State) (m : Nat) : (t.setRegFld (slcPage m) 0x104 0 1 1).regFld (slcPage n) 0x108 1 1 = t.regFld (slcPage n) 0x108 1 1 :=
    t.regFld_setRegFld_other _ _ _ _ _ fun same => absurd ((regAddr_inj (by decide) (by decide)).mp same).2 (by decide)
  rw [swept]
  constructor
  · exact (State.each_same (fun t => t.regFld (slcPage n) 0x108 1 1) kept).trans (s.sweepAll_done slice)
  · refine State.each_settles (P := fun _ => True) (Q := fun t => t.lcEnabled n = true) (List.mem_range.mpr slice) trivial
      (fun _ _ _ _ => trivial) (fun t _ => enabled t) fun t m _ _ on_ => ?_
    rcases eq_or_ne n m with rfl | other
    · exact enabled t
    · have apart : regAddr (slcPage n) 0x104 ≠ regAddr (slcPage m) 0x104 := fun same =>
        other (slcPage_inj.mp ((regAddr_inj (by decide) (by decide)).mp same).1)
      rw [State.lcEnabled, State.reg_setRegFld_other _ _ _ _ apart]
      exact on_

theorem startupEnable_enables (stays : s.pwr.offReq = false) (translated : s.pwr.startup = 3) (phase : s.mtePhase = 0)
    (restored : s.mte.restored = true) (on : bitAt (s.reg 0x006 0x10c) 0 = false) :
    ∃ t, exec .startupEnable s = .next t ∧ t.pwr.st = 3 ∧ t.pwr.startup = 4 ∧
      ∀ n : Fin 8, t.regFld (slcPage n.val) 0x108 1 1 = 1 ∧ t.lcEnabled n.val = true := by
  have enable : s.enable = { s.enableCaches with pwr := { s.enableCaches.pwr with st := 3, startup := 4 } } := by
    unfold State.enable
    refine (if_pos (by simp [translated, phase, restored])).trans (State.startupOff_none ?_)
    change s.enableCaches.pwr.offReq = false
    rw [State.enableCaches_pwr, stays]
  refine ⟨_, rfl, by rw [State.withPins_pwr, enable], by rw [State.withPins_pwr, enable], fun n => ?_⟩
  have below : slcPage n.val < 0x1c0 := by
    unfold slcPage
    omega
  have shown (off : Nat) (block : 0x100 ≤ off) (inPage : off < 0x1000) :
      (s.withPins State.enable).reg (slcPage n.val) off = s.enableCaches.reg (slcPage n.val) off := by
    rw [State.withPins_reg _ below block inPage, enable]
    rfl
  rw [State.regFld, State.lcEnabled, shown 0x108 (by decide) (by decide), shown 0x104 (by decide) (by decide)]
  exact s.enableCaches_on on n.isLt

/-- Settles O20, phase by phase. -/
theorem startupPhases : Obligations.StartupPhases :=
  ⟨fun _ translates => ⟨startupBlockScanEnd_leads translates, startupJournalLocateEnd_leads translates,
      startupImageLoadEnd_leads translates, startupMapLoadEnd_leads translates, startupReplayEnd_leads translates,
      startupTailScanEnd_leads translates, fullRebuild_leads translates, settle_leads translates⟩,
    fun _ stays => ⟨startupRelease_releases stays, startupBringupEnd_translates stays, startupEnable_enables stays⟩⟩

end Sys2Proof.Machine
end

section
/-! PROOFS. What messages to peers, the end of a long operation and the policies of rewind leave alone: the MTE, Crust, the service engine, or
the operation of a region. -/

namespace Sys2Proof.Machine

open Sys2Proof

/-- What the MTE, Crust and the service engine hold. -/
def State.engines (s : State) : Mte × Crs × Sve := (s.mte, s.crs, s.sve)

/-- The operation of a region (R299). -/
def State.rwOp (s : State) (r : Nat) : Option RwOp := (s.rwr r).op

end Sys2Proof.Machine

namespace Sys2Proof.Machine.State

open Sys2Proof

variable (s : State)

/-! ### Messages -/

@[simp] theorem routeOut_engines (r m) : (s.routeOut r m).engines = s.engines := by
  unfold State.routeOut State.sendOn State.leave State.linkWake
  dsimp only
  repeat' split
  all_goals simp [engines]

@[simp] theorem routeOut_mte (r m) : (s.routeOut r m).mte = s.mte := congrArg Prod.fst (s.routeOut_engines r m)
@[simp] theorem routeOut_crs (r m) : (s.routeOut r m).crs = s.crs := congrArg (·.2.1) (s.routeOut_engines r m)
@[simp] theorem routeOut_sve (r m) : (s.routeOut r m).sve = s.sve := congrArg (·.2.2) (s.routeOut_engines r m)

@[simp] theorem sendPlain_mte (dst tag epoch status xinfo m) : (s.sendPlain dst tag epoch status xinfo m).mte = s.mte := by
  simp [State.sendPlain]

@[simp] theorem sendPlain_crs (dst tag epoch status xinfo m) : (s.sendPlain dst tag epoch status xinfo m).crs = s.crs := by
  simp [State.sendPlain]

/-- A message that this module sends itself joins its queue; the service engine is otherwise as it was. -/
theorem sendPlain_sve (dst tag epoch status xinfo m) :
    ∃ q, (s.sendPlain dst tag epoch status xinfo m).sve = { s.sve with selfq := q } := by
  unfold State.sendPlain
  dsimp only
  split
  exacts [⟨_, rfl⟩, ⟨s.sve.selfq, s.routeOut_sve _ _⟩]

@[simp] theorem breakPair_mte (gsn) : (s.breakPair gsn).mte = s.mte := by
  unfold State.breakPair State.tellCustodian
  repeat' split
  all_goals simp

/-! ### The end of a long operation -/

@[simp] theorem each_crs {α : Type} (l : List α) (f : State → α → State) (hf : ∀ t x, (f t x).crs = t.crs) :
    (s.each l f).crs = s.crs := each_same State.crs hf

@[simp] theorem finish_mte (handle status results) : (s.finish handle status results).mte = s.mte :=
  congrArg Prod.fst (s.finish_stored handle status results)

@[simp] theorem assignCore_crs (n) : (s.assignCore n).crs = s.crs := by
  unfold State.assignCore
  split
  next => rfl
  next => split <;> rfl

@[simp] theorem finishHandle_crs (r st) : (s.finishHandle r st).crs = s.crs := by
  simp [State.finishHandle, State.freeCore, State.assignCores]

@[simp] theorem postRec_crs (h log r) : (s.postRec h log r).crs = s.crs := by simp [State.postRec, State.logInterrupt]

@[simp] theorem popWord_crs (q) : (s.popWord q).2.crs = s.crs := by
  unfold State.popWord
  split
  next => rfl
  next => split <;> rfl

@[simp] theorem answerHeldRead_crs (q) : (s.answerHeldRead q).crs = s.crs := by simp [State.answerHeldRead, State.holdHead]

@[simp] theorem pushCpl_crs (p) : (s.pushCpl p).crs = s.crs := by
  simp [State.pushCpl, State.cplNotice, State.servePops, State.sendIbi]

@[simp] theorem finish_crs (handle status results) : (s.finish handle status results).crs = s.crs := by
  unfold State.finish State.answerCmd
  repeat' split
  all_goals simp [State.answerSecured, State.sendIbi, State.pushHeadCpl, State.queueHeadCpl]

/-! ### The operation of a region, past the policies of rewind -/

variable {r : Nat}

theorem rwOp_of_mte {s t : State} (h : t.mte = s.mte) : t.rwOp r = s.rwOp r := by
  simp only [rwOp, State.rwr, h]

@[simp] theorem rwOp_index {x} : rwOp { s with mte := { s.mte with index := x } } r = s.rwOp r := (rfl)

@[simp] theorem rwOp_ite (c : Prop) [Decidable c] (a b : State) : (if c then a else b).rwOp r = if c then a.rwOp r else b.rwOp r :=
  apply_ite (rwOp · r) _ _ _

@[simp] theorem each_rwOp {α : Type} (l : List α) (f : State → α → State) (hf : ∀ t x, (f t x).rwOp r = t.rwOp r) :
    (s.each l f).rwOp r = s.rwOp r := each_same (rwOp · r) hf

theorem rwOp_setRwr (x) : (s.setRwr r x).rwOp r = x.op := congrArg RwRegion.op (s.rwr_setRwr r x)

/-- A write that keeps the operation of its region keeps that of every region. -/
@[simp] theorem setRwr_rwOp (i x) (same : x.op = (s.rwr i).op) : (s.setRwr i x).rwOp r = s.rwOp r := by
  rcases eq_or_ne r i with rfl | other
  · rw [rwOp_setRwr, same, rwOp]
  · rw [rwOp, s.rwr_setRwr_other x other, rwOp]

@[simp] theorem raise_rwOp (page src) : (s.raise page src).rwOp r = s.rwOp r := rwOp_of_mte (s.raise_mte page src)
@[simp] theorem setLive_rwOp (page src on) : (s.setLive page src on).rwOp r = s.rwOp r := rwOp_of_mte (s.setLive_mte page src on)
@[simp] theorem journal_rwOp (e) : (s.journal e).rwOp r = s.rwOp r := (rfl)

@[simp] theorem mapTouch_mte (l write) : (s.mapTouch l write).mte = s.mte := by
  unfold State.mapTouch
  split <;> rfl

@[simp] theorem setEntry_rwOp (l e) : (s.setEntry l e).rwOp r = s.rwOp r := (rwOp_of_mte (mapTouch_mte _ _ _)).trans rfl

@[simp] theorem keepIndex_rwOp (ok) : (s.keepIndex ok).rwOp r = s.rwOp r := by simp [State.keepIndex, State.fixRet]

@[simp] theorem releaseMark_rwOp (i epoch) : (s.releaseMark i epoch).rwOp r = s.rwOp r := by
  unfold State.releaseMark
  dsimp only
  split
  · exact (keepIndex_rwOp _ _).trans (setRwr_rwOp _ _ _ rfl)
  · exact (keepIndex_rwOp _ _).trans ((rwOp_index _).trans (setRwr_rwOp _ _ _ rfl))

@[simp] theorem expireOldest_rwOp (i) : (s.expireOldest i).rwOp r = s.rwOp r := by
  unfold State.expireOldest
  split <;> simp

@[simp] theorem expireLoop_rwOp (n) (s : State) (i) : (expireLoop n s i).rwOp r = s.rwOp r := by
  induction n generalizing s with
  | zero => rfl
  | succ n ih => simp [expireLoop, ih]

@[simp] theorem rwPolicy_rwOp (i) : (s.rwPolicy i).rwOp r = s.rwOp r := by simp [State.rwPolicy]
@[simp] theorem rwCheck_rwOp : s.rwCheck.rwOp r = s.rwOp r := by simp [State.rwCheck]

end Sys2Proof.Machine.State
end

section
/-! PROOFS. The phases of the rewind operations (R300, R302, R303, R312, R316): each wait that ends takes the operation of its region to its next
phase, or ends it. -/

namespace Sys2Proof.Machine

open Sys2Proof

variable {s : State} {r : Nat} {o : RwOp}

theorem State.withPins_rwOp (s : State) (f : State → State) : (s.withPins f).rwOp r = (f s).rwOp r := State.rwOp_of_mte (s.withPins_mte f)

/-! ### Ends of operations (R299, R312) -/

/-- An operation that has finished runs no more, whatever follows from its end. -/
theorem State.rwFinish_ends (s : State) (r : Nat) (o : RwOp) (status : Status) : (s.rwFinish r o status).rwOp r = none := by
  have ended : (s.setRwr r { s.rwr r with op := none }).rwOp r = none := s.rwOp_setRwr _
  unfold State.rwFinish
  dsimp only
  rw [State.rwCheck_rwOp]
  split
  · exact (State.rwOp_of_mte (State.sendPlain_mte _ _ _ _ _ _ _)).trans ended
  · exact (State.rwOp_of_mte (State.finish_mte _ _ _ _)).trans ended

/-- The local part done, an operation ends, or waits for its holders. -/
theorem State.rwDone_rwOp (s : State) (r : Nat) (o : RwOp) :
    (s.rwDone r o).rwOp r = if o.confirms.isEmpty then none else some { o with phase := 4 } := by
  unfold State.rwDone
  split
  · split
    · rw [State.raise_rwOp, State.rwFinish_ends]
    · exact s.rwFinish_ends r o stOk
  · exact s.rwOp_setRwr _

/-! ### REWIND_MARK (R300, R316) -/

theorem rewindMarkHoldEnd_cuts {r : BitVec 8} (runs : (s.rwr r.toNat).op = some o) (mark : o.kind = 1) (hold : o.phase = 1)
    (met : s.holdMet r.toNat = true) :
    ∃ t, exec (.rewindMarkHoldEnd r) s = .next t ∧
      (t.rwr r.toNat).marks = (s.rwr r.toNat).marks ++ [⟨o.epoch, s.mte.nextWsn, BitVec.ofNat 40 (s.opMs % 2 ^ 40)⟩] ∧
      (t.rwr r.toNat).op = some { o with phase := 2, cut := s.mte.nextWsn } := by
  refine ⟨_, rfl, ?_⟩
  unfold State.markHoldEnd
  simp only [runs]
  rw [if_pos (by rw [mark, hold, met]; rfl), State.rwr_setRwr]
  exact ⟨rfl, rfl⟩

theorem State.markDurable_rwOp (runs : s.rwOp r = some o) (mark : o.kind = 1) (cut : o.phase = 2)
    (durable : s.isDurable 0x10 (BitVec.ofNat 64 o.cut) = true) :
    (s.markDurable r).rwOp r = if o.confirms.isEmpty then none else some { o with phase := 4 } := by
  unfold State.markDurable
  simp only [show (s.rwr r).op = some o from runs]
  rw [if_pos (by rw [mark, cut, durable]; rfl)]
  exact State.rwDone_rwOp _ _ _

theorem State.markTimeout_ends (runs : s.rwOp r = some o) (mark : o.kind = 1) (hold : o.phase = 1) : (s.markTimeout r).rwOp r = none := by
  unfold State.markTimeout
  simp only [show (s.rwr r).op = some o from runs]
  rw [if_pos (by rw [mark, hold]; rfl), State.raise_rwOp, State.rwFinish_ends]

/-! ### REWIND_TO (R302, R303, R316) -/

theorem State.toQuiesceEnd_phase (runs : s.rwOp r = some o) (rewind : o.kind = 2) (quiesce : o.phase = 1) (met : s.quiesceMet r = true) :
    ((s.toQuiesceEnd r).rwOp r).map RwOp.phase = some 2 := by
  unfold State.toQuiesceEnd
  simp only [show (s.rwr r).op = some o from runs]
  rw [if_pos (by rw [rewind, quiesce, met]; rfl), State.rwOp_setRwr]
  rfl

theorem State.voidDurable_rwOp (runs : s.rwOp r = some o) (rewind : o.kind = 2) (void : o.phase = 2)
    (durable : s.isDurable 0x12 (BitVec.ofNat 64 o.cut) = true) : (s.voidDurable r).rwOp r = some { o with phase := 3 } := by
  unfold State.voidDurable
  simp only [show (s.rwr r).op = some o from runs]
  rw [if_pos (by rw [rewind, void, durable]; rfl), State.rwOp_setRwr]

theorem State.doneDurable_rwOp (runs : s.rwOp r = some o) (rewind : o.kind = 2) (applied : o.phase = 3)
    (durable : s.isDurable 0x15 (BitVec.ofNat 64 o.cut) = true) :
    (s.doneDurable r).rwOp r = if o.confirms.isEmpty then none else some { o with phase := 4 } := by
  unfold State.doneDurable
  simp only [show (s.rwr r).op = some o from runs]
  rw [if_pos (by rw [rewind, applied, durable]; rfl), State.rwDone_rwOp]

theorem State.quiesceTimeout_ends (runs : s.rwOp r = some o) (rewind : o.kind = 2) (quiesce : o.phase = 1) :
    (s.quiesceTimeout r).rwOp r = none := by
  unfold State.quiesceTimeout
  simp only [show (s.rwr r).op = some o from runs]
  rw [if_pos (by rw [rewind, quiesce]; rfl), State.raise_rwOp, State.rwFinish_ends]

/-! ### The confirmation of the mirror holders (R312) -/

theorem State.rwConfirmTimeout_waiting (runs : s.rwOp r = some o) (waits : o.phase = 4) :
    s.rwConfirmTimeout r = (true, (s.rwFinish r o stPartial).raise 0x031 .rwMirrorPart) := by
  unfold State.rwConfirmTimeout
  simp only [show (s.rwr r).op = some o from runs]
  exact if_pos waits

/-- The pairs of a region's mirrored segments are broken (R391). -/
def State.breakPairs (s : State) (r : Nat) : State :=
  s.each ((s.regionSegs r).filter (fun i => (s.seg i).mmode != 0)) (fun s i => s.breakPair (s.seg i).gsn.toNat)

theorem State.breakPairs_rwOp (s : State) (i : Nat) : (s.breakPairs i).rwOp r = s.rwOp r :=
  State.each_rwOp _ _ _ fun t _ => State.rwOp_of_mte (t.breakPair_mte _)

theorem mirrorConfirmTimeout_ends {r : BitVec 8} (runs : (s.rwr r.toNat).op = some o) (waits : o.phase = 4) :
    ∃ u : State, exec (.mirrorConfirmTimeout r) s = .next (s.withPins (fun _ => u.drain)) ∧ (u.rwr r.toNat).op = none := by
  refine ⟨((s.rwFinish r.toNat o stPartial).raise 0x031 .rwMirrorPart).breakPairs r.toNat,
    congrArg Host.Outcome.next (withPins_congr ?_), ?_⟩
  · dsimp only
    rw [State.rwConfirmTimeout_waiting runs waits]
    exact if_pos rfl
  · exact (State.breakPairs_rwOp _ _).trans ((State.raise_rwOp _ _ _).trans (s.rwFinish_ends _ o stPartial))

/-- Settles O22, command by command. -/
theorem rewindPhases : Obligations.RewindPhases := fun s _ _ runs =>
  ⟨rewindMarkHoldEnd_cuts runs,
    fun mark cut durable => ⟨_, rfl, (s.withPins_rwOp _).trans (State.markDurable_rwOp runs mark cut durable)⟩,
    fun mark hold => ⟨_, rfl, (s.withPins_rwOp _).trans (State.markTimeout_ends runs mark hold)⟩,
    fun rewind quiesce met => ⟨_, rfl, (congrArg _ (s.withPins_rwOp _)).trans (State.toQuiesceEnd_phase runs rewind quiesce met)⟩,
    fun rewind void durable => ⟨_, rfl, (s.withPins_rwOp _).trans (State.voidDurable_rwOp runs rewind void durable)⟩,
    fun rewind applied durable => ⟨_, rfl, (s.withPins_rwOp _).trans (State.doneDurable_rwOp runs rewind applied durable)⟩,
    fun rewind quiesce => ⟨_, rfl, (s.withPins_rwOp _).trans (State.quiesceTimeout_ends runs rewind quiesce)⟩,
    mirrorConfirmTimeout_ends runs⟩

end Sys2Proof.Machine
end

section
/-! PROOFS. Messages between modules about rewind, firmware and keys, and the answers that a discard waits for (R99, R312, R398 to R400, R442 to
R445; log 59): what each of them does once it has arrived, and what it stores. -/

namespace Sys2Proof.Machine

open Sys2Proof

variable {s : State} {r : Routing} {dev : Dev} {tag epoch : BitVec 16} {g : Byte} {n : Nat}

/-- A custody message that has arrived while the service engine runs, by what it does (R401, R485). -/
theorem withPins_custodyIn {m : Msg} {t : State} (here : s.here r = true) (running : s.halted 0x200 = false)
    (does : (s.credited r m).custodyMsg r m = t) : s.withPins (fun s => s.custodyIn r m) = s.withPins (fun _ => t.drain) :=
  withPins_congr ((State.custodyIn_here s r m here running).trans (congrArg State.drain does))

/-! ### Rewind at a mirror holder (R312) -/

theorem State.holderMark_unheld (unheld : s.heldRegionOf dev g = none) :
    s.holderMark dev tag g epoch = s.sendPlain dev tag 0 stState 0 .rwConf := by
  unfold State.holderMark
  simp only [unheld]

theorem State.holderMark_starts (held : s.heldRegionOf dev g = some n) (ready : s.markRefusal n true = none) :
    s.holderMark dev tag g epoch = s.startMark n epoch 0 (some (dev, tag)) := by
  unfold State.holderMark
  simp only [held, ready]

theorem State.holderFwd_rewinds (held : s.heldRegionOf dev g = some n) (ready : s.toRefusal n epoch true = none) :
    s.holderFwd dev tag 1 g epoch = s.startTo n epoch 0 (some (dev, tag)) := by
  unfold State.holderFwd
  simp only [held, ready]
  rfl

theorem State.holderFwd_drops (held : s.heldRegionOf dev g = some n) (ready : s.dropRefusal n epoch true = none) :
    s.holderFwd dev tag 2 g epoch = s.startDrop n epoch 0 (some (dev, tag)) := by
  unfold State.holderFwd
  simp only [held, ready]
  rfl

theorem State.rwConfirm_noted {x : RwRegion} {o : RwOp} {status : Status}
    (waits : s.mte.rw.find? (fun (e : Nat × RwRegion) => e.2.op.any (fun o => decide ((dev, tag) ∈ o.confirms))) = some (n, x))
    (runs : x.op = some o) (unfinished : o.phase ≠ 4) :
    s.rwConfirm dev tag status = s.setRwr n { x with op := some { o with
      confirms := removeAll o.confirms (dev, tag), partial_ := o.partial_ || status != 0 } } := by
  unfold State.rwConfirm
  simp only [waits, runs]
  exact if_neg unfinished

/-! ### Firmware images (R398 to R400) -/

/-- Writing an image changes nothing of the service engine but the slots. -/
theorem State.setFwSlot_sve (s : State) (n : Bool) (f : FwImage) :
    ∃ a b, (s.setFwSlot n f).sve = { s.sve with slot0 := a, slot1 := b } := by
  cases n
  exacts [⟨f, s.sve.slot1, rfl⟩, ⟨s.sve.slot0, f, rfl⟩]

theorem State.fwSlot_setFwSlot (s : State) (n : Bool) (f : FwImage) : (s.setFwSlot n f).fwSlot n = f := by
  cases n <;> rfl

theorem State.fwuCtl_offer {src : Dev} (idle : s.sve.fwState ≠ 4) (other : src ≠ s.fxb.devnum) (ver len : Word) :
    s.fwuCtl src 1 ver len =
      ({ s with sve := { s.sve with fwState := 1, fwLen := len.toNat, fwVer := ver, fwFrom := src, actWait := false } }).setFwSlot
        (!s.sve.running) {} :=
  if_neg (by rw [decide_eq_false idle, decide_eq_false other]; decide)

/-- The image that is being received, with one more chunk. -/
def State.chunked (s : State) (off : Word) (b : List Byte) : FwImage :=
  { (s.fwSlot (!s.sve.running)).put off.toNat b with received := (s.fwSlot (!s.sve.running)).received + b.length }

theorem State.fwChunkIn_stores {src : Dev} {off ver : Word} {b : List Byte} (offered : s.sve.fwState = 1) (version : s.sve.fwVer = ver)
    (sender : s.sve.fwFrom = src) (short : b.length ≤ 208) (inside : off.toNat + b.length ≤ s.sve.fwLen)
    (more : (s.fwSlot (!s.sve.running)).received + b.length < s.sve.fwLen) :
    s.fwChunkIn src off ver b = s.setFwSlot (!s.sve.running) (s.chunked off b) := by
  have length : (s.setFwSlot (!s.sve.running) (s.chunked off b)).sve.fwLen = s.sve.fwLen := by
    obtain ⟨_, _, sve⟩ := s.setFwSlot_sve (!s.sve.running) (s.chunked off b)
    rw [sve]
  unfold State.fwChunkIn
  rw [if_neg (by simp [offered, version, sender, short, inside])]
  exact if_pos (lt_of_lt_of_eq more length.symm)

theorem State.fwuDone_idle (idle : s.sve.fwHandle = 0) (status : Status) (activated : Bool) : s.fwuDone dev status activated = s :=
  if_pos (by simp [idle])

theorem State.fwuDone_staged (rollout : s.sve.fwHandle ≠ 0) (waits : dev ∈ s.sve.fwWaits) {status : Status} (ok : status = 0)
    (staging : s.sve.fwStaging = true) :
    s.fwuDone dev status false = State.nextWave { s with sve := { s.sve with fwWaits := removeAll s.sve.fwWaits dev } } := by
  subst ok
  unfold State.fwuDone
  rw [if_neg (by rw [decide_eq_false rollout, decide_eq_true waits]; decide)]
  simp only [staging]
  rfl

theorem fwActivationWaitExpiry_ends (waits : s.sve.actWait = true) :
    ∃ v : State, exec .fwActivationWaitExpiry s = .next (s.withPins (fun _ => v.drain)) ∧ v.sve.actWait = false := by
  refine ⟨s.actWaitEnd, congrArg Host.Outcome.next (withPins_congr rfl), ?_⟩
  unfold State.actWaitEnd State.fwDone
  rw [if_pos waits]
  obtain ⟨_, sve⟩ := State.sendPlain_sve _ _ _ _ _ _ _
  rw [sve]

theorem State.activationTimeout_stops (other : dev ≠ s.fxb.devnum) (rollout : s.sve.fwHandle ≠ 0) (activating : s.sve.fwStaging = false)
    (waits : dev ∈ s.sve.fwWaits) : s.activationTimeout dev = (s.raise 0x200 .sveFwuFail).rolloutStop := by
  have own : (if dev = s.fxb.devnum && s.sve.fwState = 4 then s.revertSlot else s) = s :=
    if_neg (by rw [decide_eq_false other, Bool.false_and]; decide)
  unfold State.activationTimeout
  rw [own]
  exact if_pos (by rw [bne_iff_ne.mpr rollout, activating, decide_eq_true waits]; rfl)

theorem fwActivationTimeout_stops (other : dev ≠ s.fxb.devnum) (rollout : s.sve.fwHandle ≠ 0) (activating : s.sve.fwStaging = false)
    (waits : dev ∈ s.sve.fwWaits) :
    exec (.fwActivationTimeout dev) s = .next (s.withPins (fun s => ((s.raise 0x200 .sveFwuFail).rolloutStop).drain)) :=
  congrArg Host.Outcome.next (withPins_congr (congrArg State.drain (State.activationTimeout_stops other rollout activating waits)))

/-! ### Keys at a module (R442, R445) -/

theorem State.krTableIn_applies {ver : Word} {bases : List (BitVec 27)} (newer : s.crs.tblVer < ver) (whole : bases.length = 63) :
    s.krTableIn dev ver bases = (s.setBases ver bases).ackKeys dev true 0 (ver.setWidth 16) stOk := by
  unfold State.krTableIn
  rw [if_pos (by rw [decide_eq_true newer, whole]; rfl)]

theorem State.krange_of_crs {t : State} (h : t.crs = s.crs) (n : Nat) : t.krange n = s.krange n :=
  congrArg (fun c : Crs => c.ranges.get {} n) h

theorem State.krange_installKey (s : State) (n : Nat) (gen : BitVec 16) (k : KeySet) :
    (s.installKey n gen k).krange n = { st := 1, gen := gen, keys := some k } := State.krange_setKrange _ _ _

theorem State.krange_zeroize (s : State) (n : Nat) (gen : BitVec 16) : (s.zeroize n gen).krange n = { st := 2, gen := gen } :=
  (State.krange_of_crs (State.raise_crs _ _ _) n).trans (State.krange_setKrange _ _ _)

/-- A Missing range takes any generation, another one a generation ahead of its own. -/
def State.takesGen (s : State) (n : Nat) (gen : BitVec 16) : Prop := (s.krange n).st = 0 ∨ genAhead gen (s.krange n).gen = true

theorem State.takesGen.accepted {gen : BitVec 16} (takes : s.takesGen n gen) :
    ((s.krange n).st != 0 && !genAhead gen (s.krange n).gen) = false := by
  rcases takes with missing | ahead
  · rw [missing]
    rfl
  · rw [ahead]
    exact Bool.and_false _

theorem State.krPushIn_installs {gen : BitVec 16} (takes : s.takesGen n gen) (k : KeySet) :
    s.krPushIn dev n gen false (some k) = (s.installKey n gen k).ackKeys dev false n gen stOk := by
  unfold State.krPushIn
  exact if_neg (Bool.eq_false_iff.mp takes.accepted)

theorem State.krPushIn_zeroizes {gen : BitVec 16} (takes : s.takesGen n gen) :
    s.krPushIn dev n gen true none = (s.zeroize n gen).ackKeys dev false n gen stOk := by
  unfold State.krPushIn
  exact if_neg (Bool.eq_false_iff.mp takes.accepted)

theorem State.ackKeys_krange (s : State) (dst : Dev) (table : Bool) (n : Nat) (gen : BitVec 16) (st : Status) (i : Nat) :
    (s.ackKeys dst table n gen st).krange i = s.krange i := State.krange_of_crs (s.sendPlain_crs _ _ _ _ _ _) i

/-! ### Keys at the custodian (R442, R445) -/

theorem State.krAck_noted {table : Bool} {gen : BitVec 16} {p : KeyPush} (pushed : s.pushOf table n gen = some p) (st : Status) :
    s.krAck dev table n gen st = s.putPush p { p with
      due := removeAll p.due dev, waits := if st = 0 then removeAll p.waits dev else p.waits, failed := p.failed || st != 0 } := by
  unfold State.krAck
  simp only [pushed]

@[simp] theorem State.sendPush_crs (s : State) (p : KeyPush) (dev : Dev) : (s.sendPush p dev).crs = s.crs := by
  unfold State.sendPush
  split <;> exact s.sendPlain_crs _ _ _ _ _ _

/-- The end of a push may bring its table into force, but the other pushes stay. -/
theorem State.endPush_pushes (s : State) (p : KeyPush) (st : Status) : (s.endPush p st).crs.pushes = s.crs.pushes := by
  unfold State.endPush
  rw [State.finish_crs]
  split <;> rfl

/-- A changed push stands in the place of the old one, unless no answer is due any more. -/
theorem State.putPush_pushes (s : State) (old p : KeyPush) : ∃ h, (s.putPush old p).crs.pushes =
    s.crs.pushes.flatMap (fun x => if x == old then (if p.waits.isEmpty then [] else [{ p with handle := h }]) else [x]) := by
  have ended (c : Bool) (st : Status) : (if c then s.endPush p st else s).crs.pushes = s.crs.pushes := by
    rw [State.ite_crs, apply_ite Crs.pushes, State.endPush_pushes, ite_self]
  have settled : (if p.due.isEmpty then { p with handle := 0 } else p) = { p with handle := if p.due.isEmpty then 0 else p.handle } := by
    split <;> rfl
  refine ⟨if p.due.isEmpty then 0 else p.handle, ?_⟩
  unfold State.putPush
  dsimp only
  rw [settled, ended]

/-- A module is due the table of a version. -/
def State.tableDue (s : State) (dev : Dev) (ver : Word) : Prop := ∃ p ∈ s.crs.pushes, p.range = none ∧ p.ver = ver ∧ dev ∈ p.waits

theorem State.tableDue_of_crs {t : State} {ver : Word} (h : t.crs = s.crs) (due : s.tableDue dev ver) : t.tableDue dev ver := by
  unfold State.tableDue
  rwa [h]

theorem State.putPush_due {old p : KeyPush} (pushed : old ∈ s.crs.pushes) (table : p.range = none) (waits : dev ∈ p.waits) :
    (s.putPush old p).tableDue dev p.ver := by
  obtain ⟨h, pushes⟩ := s.putPush_pushes old p
  refine ⟨{ p with handle := h }, ?_, table, rfl, waits⟩
  rw [pushes]
  exact List.mem_flatMap.mpr ⟨old, pushed, by simp [List.ne_nil_of_mem waits]⟩

theorem State.putPush_keepsDue {old p : KeyPush} {ver : Word} (range : old.range ≠ none) (due : s.tableDue dev ver) :
    (s.putPush old p).tableDue dev ver := by
  obtain ⟨h, pushes⟩ := s.putPush_pushes old p
  obtain ⟨q, pushed, table, version, waits⟩ := due
  have other : q ≠ old := fun same => range (same ▸ table)
  refine ⟨q, ?_, table, version, waits⟩
  rw [pushes]
  exact List.mem_flatMap.mpr ⟨q, pushed, by simp [other]⟩

/-- A push or a table that a module has asked for: it joins those that wait for the push, where it is under way, or the push starts (R445). -/
def State.addPull (s : State) (dev : Dev) (p : KeyPush) : State :=
  match s.crs.pushes.find? (fun x => x.range == p.range && x.gen == p.gen && x.ver == p.ver) with
  | some x => (s.putPush x { x with waits := insertNew x.waits dev }).sendPush x dev
  | none => ({ s with crs := { s.crs with pushes := s.crs.pushes ++ [{ p with waits := [dev] }] } }).sendPush p dev

/-- The push of the table held. -/
def State.tablePush (s : State) : KeyPush :=
  { range := none, gen := 0, erase := false, waits := [], due := [], handle := 0, failed := false, ver := s.crs.tblVer, bases := s.crs.bases }

/-- The push of what a range holds. -/
def State.rangePush (s : State) (n : Nat) : KeyPush :=
  { range := some n, gen := (s.krange n).gen, erase := (s.krange n).st == 2, waits := [], due := [], handle := 0, failed := false }

/-- The custodian adds the table first, then every range that has a set or has been erased. -/
theorem State.krPull_adds (custodian : s.fxb.role = 1) : ∃ ranges : List Nat,
    s.krPull dev = (s.addPull dev s.tablePush).each ranges (fun s n => s.addPull dev (s.rangePush n)) :=
  ⟨_, if_neg (by simp [custodian])⟩

theorem mem_insertNew {α : Type} [DecidableEq α] (l : List α) (x : α) : x ∈ insertNew l x := by
  unfold insertNew
  split
  next listed => exact listed
  next => exact List.mem_append_right _ List.mem_cons_self

theorem State.addPull_due {p : KeyPush} (table : p.range = none) : (s.addPull dev p).tableDue dev p.ver := by
  unfold State.addPull
  split
  next x found =>
    have same := List.find?_some found
    simp only [Bool.and_eq_true, beq_iff_eq] at same
    obtain ⟨⟨range, _⟩, version⟩ := same
    rw [← version]
    exact State.tableDue_of_crs (State.sendPush_crs _ _ _)
      (State.putPush_due (List.mem_of_find?_eq_some found) (range.trans table) (mem_insertNew _ _))
  next =>
    exact State.tableDue_of_crs (State.sendPush_crs _ _ _)
      ⟨_, List.mem_append_right _ List.mem_cons_self, table, rfl, List.mem_cons_self⟩

theorem State.addPull_keepsDue {p : KeyPush} {ver : Word} (range : p.range ≠ none) (due : s.tableDue dev ver) :
    (s.addPull dev p).tableDue dev ver := by
  unfold State.addPull
  split
  next x found =>
    have same := List.find?_some found
    simp only [Bool.and_eq_true, beq_iff_eq] at same
    obtain ⟨⟨same_range, _⟩, _⟩ := same
    exact State.tableDue_of_crs (State.sendPush_crs _ _ _) (State.putPush_keepsDue (fun none_ => range (same_range ▸ none_)) due)
  next =>
    obtain ⟨q, pushed, rest⟩ := due
    exact State.tableDue_of_crs (State.sendPush_crs _ _ _) ⟨q, List.mem_append_left _ pushed, rest⟩

theorem State.krPull_due (custodian : s.fxb.role = 1) : (s.krPull dev).tableDue dev s.crs.tblVer := by
  obtain ⟨ranges, adds⟩ := State.krPull_adds (s := s) (dev := dev) custodian
  rw [adds]
  exact List.foldlRecOn (motive := fun t : State => t.tableDue dev s.crs.tblVer) ranges _ (State.addPull_due rfl)
    fun _ due n _ => State.addPull_keepsDue (Option.some_ne_none n) due

/-! ### The answers that a discard waits for (R99) -/

theorem State.discardAnswer_check {st : Status} {d : DiscardOp} (pages : Nat)
    (waits : s.mte.discards.find? (fun d => d.asker.isNone && d.id == tag && decide (dev ∈ d.checks)) = some d) :
    s.discardAnswer dev tag false st pages =
      if st != 0 then s.endDiscard d stRange
      else
        let d' : DiscardOp := { d with checks := removeAll d.checks dev }
        if d'.checks.isEmpty then (s.setDiscard d d').discardGo d' else s.setDiscard d d' := by
  unfold State.discardAnswer
  simp only [Bool.false_eq_true, if_false, waits]

theorem State.discardAnswer_confirm {st : Status} {d : DiscardOp} (pages : Nat)
    (waits : s.mte.discards.find? (fun d => d.asker.isNone && d.id == tag && decide (dev ∈ d.confirms)) = some d) :
    s.discardAnswer dev tag true st pages =
      let d' : DiscardOp := { d with confirms := removeAll d.confirms dev, pages := d.pages + pages }
      (s.setDiscard d d').discardStep d' := by
  unfold State.discardAnswer
  simp only [if_true, waits]

/-- An answer, followed by what it lets go on. -/
theorem discardCheckAnswer_does {confirm : Bool} {st : Status} {pages : Word} {f : State → State}
    (answered : s.discardAnswer dev tag confirm st pages.toNat = f s) :
    exec (.discardCheckAnswer dev tag confirm st pages) s = .next (s.withPins (fun s => (f s).drain)) :=
  congrArg Host.Outcome.next (withPins_congr (congrArg State.drain answered))

theorem discardCheckAnswer_check {st : Status} {pages : Word} {d : DiscardOp}
    (waits : s.mte.discards.find? (fun d => d.asker.isNone && d.id == tag && decide (dev ∈ d.checks)) = some d) :
    let d' : DiscardOp := { d with checks := removeAll d.checks dev };
    (st ≠ 0 → exec (.discardCheckAnswer dev tag false st pages) s = .next (s.withPins (fun s => (s.endDiscard d stRange).drain))) ∧
    (st = 0 → d'.checks ≠ [] →
      exec (.discardCheckAnswer dev tag false st pages) s = .next (s.withPins (fun s => (s.setDiscard d d').drain))) ∧
    (st = 0 → d'.checks = [] →
      exec (.discardCheckAnswer dev tag false st pages) s = .next (s.withPins (fun s => ((s.setDiscard d d').discardGo d').drain))) := by
  have answer := State.discardAnswer_check (st := st) pages.toNat waits
  refine ⟨fun refused => discardCheckAnswer_does (answer.trans (if_pos (bne_iff_ne.mpr refused))), fun ok more => ?_, fun ok all => ?_⟩
  all_goals
    subst ok
    refine discardCheckAnswer_does (answer.trans ((if_neg (by decide)).trans ?_))
  · exact if_neg (by simpa using more)
  · exact if_pos (by simpa using all)

theorem discardCheckAnswer_confirm (st : Status) {pages : Word} {d : DiscardOp}
    (waits : s.mte.discards.find? (fun d => d.asker.isNone && d.id == tag && decide (dev ∈ d.confirms)) = some d) :
    let d' : DiscardOp := { d with confirms := removeAll d.confirms dev, pages := d.pages + pages.toNat };
    exec (.discardCheckAnswer dev tag true st pages) s = .next (s.withPins (fun s => ((s.setDiscard d d').discardStep d').drain)) :=
  discardCheckAnswer_does (State.discardAnswer_confirm pages.toNat waits)

/-! ### The messages, as they arrive at a running service engine (R401, R485) -/

section

variable (here : s.here r = true) (running : s.halted 0x200 = false)
include here running

theorem rwMarker_refused (rg : Byte) (e : BitVec 16) : let u := s.credited r (.rwMarker rg e); u.heldRegionOf r.src rg = none →
    exec (.rwMarker r rg e) s = .next (s.withPins (fun _ => (u.sendPlain r.src r.tag 0 stState 0 .rwConf).drain)) :=
  fun unheld => congrArg Host.Outcome.next (withPins_custodyIn here running (State.holderMark_unheld unheld))

theorem rwMarker_starts (rg : Byte) (e : BitVec 16) (n : Nat) : let u := s.credited r (.rwMarker rg e);
    u.heldRegionOf r.src rg = some n → u.markRefusal n true = none →
    exec (.rwMarker r rg e) s = .next (s.withPins (fun _ => (u.startMark n e 0 (some (r.src, r.tag))).drain)) :=
  fun held ready => congrArg Host.Outcome.next (withPins_custodyIn here running (State.holderMark_starts held ready))

theorem rwFwd_rewinds (rg : Byte) (e : BitVec 16) (n : Nat) : let u := s.credited r (.rwFwd 1 rg e);
    u.heldRegionOf r.src rg = some n → u.toRefusal n e true = none →
    exec (.rwFwd r 1 rg e) s = .next (s.withPins (fun _ => (u.startTo n e 0 (some (r.src, r.tag))).drain)) :=
  fun held ready => congrArg Host.Outcome.next (withPins_custodyIn here running (State.holderFwd_rewinds held ready))

theorem rwFwd_drops (rg : Byte) (e : BitVec 16) (n : Nat) : let u := s.credited r (.rwFwd 2 rg e);
    u.heldRegionOf r.src rg = some n → u.dropRefusal n e true = none →
    exec (.rwFwd r 2 rg e) s = .next (s.withPins (fun _ => (u.startDrop n e 0 (some (r.src, r.tag))).drain)) :=
  fun held ready => congrArg Host.Outcome.next (withPins_custodyIn here running (State.holderFwd_drops held ready))

theorem rwConf_noted (n : Nat) (x : RwRegion) (o : RwOp)
    (waits : s.mte.rw.find? (fun (e : Nat × RwRegion) => e.2.op.any (fun o => decide ((r.src, r.tag) ∈ o.confirms))) = some (n, x))
    (runs : x.op = some o) (unfinished : o.phase ≠ 4) : let u := s.credited r .rwConf;
    exec (.rwConf r) s = .next (s.withPins (fun _ => (u.setRwr n { x with op := some { o with
      confirms := removeAll o.confirms (r.src, r.tag), partial_ := o.partial_ || r.status != 0 } }).drain)) :=
  congrArg Host.Outcome.next
    (withPins_custodyIn here running (State.rwConfirm_noted (s := s.credited r .rwConf) waits runs unfinished))

theorem fwuCtl_announces (idle : s.sve.fwState ≠ 4) (other : r.src ≠ s.fxb.devnum) (ver len : Word) :
    ∃ v : State, exec (.fwuCtl r 1 ver len) s = .next (s.withPins (fun _ => v.drain)) ∧ v.sve.fwState = 1 ∧ v.sve.fwVer = ver ∧
      v.sve.fwLen = len.toNat ∧ v.sve.fwFrom = r.src := by
  refine ⟨_, congrArg Host.Outcome.next (withPins_custodyIn here running
    (State.fwuCtl_offer (s := s.credited r (.fwuCtl 1 ver len)) idle other ver len)), ?_⟩
  obtain ⟨_, _, sve⟩ := State.setFwSlot_sve _ _ _
  rw [sve]
  exact ⟨rfl, rfl, rfl, rfl⟩

theorem fwChunk_stores {off ver : Word} {b : List Byte} (offered : s.sve.fwState = 1) (version : s.sve.fwVer = ver)
    (sender : s.sve.fwFrom = r.src) (short : b.length ≤ 208) (inside : off.toNat + b.length ≤ s.sve.fwLen)
    (more : (s.fwSlot (!s.sve.running)).received + b.length < s.sve.fwLen) :
    ∃ v : State, exec (.fwChunk r off ver b) s = .next (s.withPins (fun _ => v.drain)) ∧ v.sve.fwState = 1 ∧
      (v.fwSlot (!s.sve.running)).received = (s.fwSlot (!s.sve.running)).received + b.length := by
  refine ⟨_, congrArg Host.Outcome.next (withPins_custodyIn here running
    (State.fwChunkIn_stores (s := s.credited r (.fwChunk off ver b)) offered version sender short inside more)), ?_, ?_⟩
  · obtain ⟨_, _, sve⟩ := State.setFwSlot_sve _ _ _
    rw [sve]
    exact offered
  · exact congrArg FwImage.received (State.fwSlot_setFwSlot _ _ _)

theorem fwuDone_ignored (b : Bool) (idle : s.sve.fwHandle = 0) :
    exec (.fwuDone r b) s = .next (s.withPins (fun s => (s.credited r (.fwuDone b)).drain)) :=
  congrArg Host.Outcome.next (withPins_congr ((State.custodyIn_here s r _ here running).trans
    (congrArg State.drain (State.fwuDone_idle (s := s.credited r (.fwuDone b)) idle r.status b))))

theorem fwuDone_goesOn (rollout : s.sve.fwHandle ≠ 0) (waits : r.src ∈ s.sve.fwWaits) (ok : r.status = 0)
    (staging : s.sve.fwStaging = true) : let u := s.credited r (.fwuDone false);
    exec (.fwuDone r false) s = .next (s.withPins (fun _ =>
      (State.nextWave { u with sve := { s.sve with fwWaits := removeAll s.sve.fwWaits r.src } }).drain)) :=
  congrArg Host.Outcome.next (withPins_custodyIn here running
    (State.fwuDone_staged (s := s.credited r (.fwuDone false)) rollout waits ok staging))

theorem krTable_applies {ver : Word} {bases : List (BitVec 27)} (newer : s.crs.tblVer < ver) (whole : bases.length = 63) :
    ∃ v : State, exec (.krTable r ver bases) s = .next (s.withPins (fun _ => v.drain)) ∧ v.crs.tblVer = ver ∧ v.crs.bases = bases := by
  refine ⟨_, congrArg Host.Outcome.next (withPins_custodyIn here running
    (State.krTableIn_applies (s := s.credited r (.krTable ver bases)) newer whole)), ?_⟩
  rw [State.ackKeys, State.sendPlain_crs]
  exact ⟨rfl, rfl⟩

theorem krPush_taken {n : Fin 64} {gen : BitVec 16} (takes : s.takesGen n.val gen) :
    (∀ k, ∃ v : State, exec (.krPush r n gen false (some k)) s = .next (s.withPins (fun _ => v.drain)) ∧
      (v.krange n.val).st = 1 ∧ (v.krange n.val).gen = gen ∧ (v.krange n.val).keys = some k) ∧
    (∃ v : State, exec (.krPush r n gen true none) s = .next (s.withPins (fun _ => v.drain)) ∧
      (v.krange n.val).st = 2 ∧ (v.krange n.val).gen = gen ∧ (v.krange n.val).keys = none) := by
  constructor
  · intro k
    refine ⟨_, congrArg Host.Outcome.next (withPins_custodyIn here running
      (State.krPushIn_installs (s := s.credited r (.krPush n.val gen false (some k))) takes k)), ?_⟩
    rw [State.ackKeys_krange, State.krange_installKey]
    exact ⟨rfl, rfl, rfl⟩
  · refine ⟨_, congrArg Host.Outcome.next (withPins_custodyIn here running
      (State.krPushIn_zeroizes (s := s.credited r (.krPush n.val gen true none)) takes)), ?_⟩
    rw [State.ackKeys_krange, State.krange_zeroize]
    exact ⟨rfl, rfl, rfl⟩

theorem krAck_noted (n : Fin 64) (gen : BitVec 16) (st : Status) (p : KeyPush) : let u := s.credited r (.krAck n.val gen);
    s.pushOf (bitAt r.xinfo 0) n.val gen = some p →
    exec (.krAck r n gen st) s = .next (s.withPins (fun _ => (u.putPush p { p with
      due := removeAll p.due r.src, waits := if st = 0 then removeAll p.waits r.src else p.waits, failed := p.failed || st != 0 }).drain)) :=
  fun pushed => congrArg Host.Outcome.next (withPins_custodyIn (r := { r with status := st }) here running
    (State.krAck_noted (s := s.credited r (.krAck n.val gen)) pushed st))

theorem krPull_pushes (custodian : s.fxb.role = 1) :
    ∃ v : State, exec (.krPull r) s = .next (s.withPins (fun _ => v.drain)) ∧
      ∃ p ∈ v.crs.pushes, p.range = none ∧ p.ver = s.crs.tblVer ∧ r.src ∈ p.waits :=
  ⟨_, congrArg Host.Outcome.next (withPins_custodyIn here running rfl), State.krPull_due (s := s.credited r .krPull) custodian⟩

end

/-- Settles O44, message by message. -/
theorem holderMessages : Obligations.HolderMessages := fun _ _ =>
  ⟨fun here running =>
    ⟨rwMarker_refused here running, rwMarker_starts here running, rwFwd_rewinds here running, rwFwd_drops here running,
      rwConf_noted here running, fun ver len idle other => fwuCtl_announces here running idle other ver len,
      fun _ _ _ => fwChunk_stores here running, fwuDone_ignored here running, fwuDone_goesOn here running,
      fun _ _ => krTable_applies here running, fun _ _ => krPush_taken here running, krAck_noted here running,
      krPull_pushes here running⟩,
    fwActivationWaitExpiry_ends,
    fun _ => fwActivationTimeout_stops,
    fun _ _ _ _ _ waits => discardCheckAnswer_check waits,
    fun _ _ st _ _ waits => discardCheckAnswer_confirm st waits⟩

end Sys2Proof.Machine
end

section
/-! PROOFS. Requests of other modules (R341, R344, R359, R360, R485, R558): one that arrives here is taken in order, parked ahead of its order,
acknowledged again behind it, or held while the module sleeps or its crossbar does not run. -/

namespace Sys2Proof.Machine

open Sys2Proof

variable {s : State} {r : Routing} {m : Msg}

/-! ### Operations that leave the levels of the pins (R488) -/

/-- No IBI follows an operation that leaves the levels of the pins. -/
theorem State.withPins_of_levels {f : State → State} {t : State} (does : f s = t) (same : t.levels = s.levels) : s.withPins f = t := by
  rw [State.withPins, does]
  exact State.pinIbis_of_levels s t same

/-! ### What a request finds (R173, R344, R485, R558) -/

theorem State.acceptReq_off (off : s.admissionOff = true) : s.acceptReq r m = s := if_pos off

theorem State.acceptReq_held (on : s.admissionOff = false) (held : s.sleeps = true ∨ s.halted 0x180 = true) :
    s.acceptReq r m = { s with fxb := { s.fxb with sleepq := s.fxb.sleepq ++ [(r, m)] } } := by
  have waits : (s.sleeps || s.halted 0x180) = true := by simpa using held
  simp only [State.acceptReq, on, waits, Bool.false_eq_true, if_false, if_true]

section
variable (on : s.admissionOff = false) (awake : s.sleeps = false) (runs : s.halted 0x180 = false)
include on awake runs

/-- The request that is next in the order of its pair is delivered, and the parked ones follow. -/
theorem State.acceptReq_next (next : (r.esq - (s.pair (s.pairOf r m.gsn).toNat).rxNext).toNat = 0) :
    s.acceptReq r m = State.unpark (s.pair (s.pairOf r m.gsn).toNat).parked.length
      ((s.setPair (s.pairOf r m.gsn).toNat { s.pair (s.pairOf r m.gsn).toNat with
        rxNext := (s.pair (s.pairOf r m.gsn).toNat).rxNext + 1, retryAt := none, ackDue := true }).deliverReq r m) (s.pairOf r m.gsn) := by
  simp only [State.acceptReq, on, awake, runs, Bool.or_self, Bool.false_eq_true, if_false]
  exact if_pos next

/-- A request that is ahead of its order is parked while there is room. -/
theorem State.acceptReq_ahead (later : 0 < (r.esq - (s.pair (s.pairOf r m.gsn).toNat).rxNext).toNat)
    (ahead : (r.esq - (s.pair (s.pairOf r m.gsn).toNat).rxNext).toNat < 2 ^ 15)
    (new : (s.pair (s.pairOf r m.gsn).toNat).parked.any (fun e => e.1.esq == r.esq) = false) (room : s.parkedAll < 1024) :
    s.acceptReq r m = s.setPair (s.pairOf r m.gsn).toNat { s.pair (s.pairOf r m.gsn).toNat with
      parked := (s.pair (s.pairOf r m.gsn).toNat).parked ++ [(r, m)] } := by
  simp only [State.acceptReq, on, awake, runs, new, Bool.or_self, Bool.false_eq_true, if_false]
  rw [if_neg later.ne', if_pos ahead, if_pos room]

/-- A request behind its order has been taken already, and is acknowledged again. -/
theorem State.acceptReq_known (behind : 2 ^ 15 ≤ (r.esq - (s.pair (s.pairOf r m.gsn).toNat).rxNext).toNat) :
    s.acceptReq r m = s.sendRsp (s.pairOf r m.gsn) r.tag r.epoch 0 0 .esqAck := by
  simp only [State.acceptReq, on, awake, runs, Bool.or_self, Bool.false_eq_true, if_false]
  rw [if_neg ((Nat.two_pow_pos 15).trans_le behind).ne', if_neg behind.not_gt]

end

/-! ### The commands (R359) -/

/-- A request to this module is accepted once its credit is owed. -/
theorem withPins_acceptReq {t : State} (here : s.here r = true) (does : (s.credited r m).acceptReq r m = t) :
    s.withPins (fun s => s.msgIn r m (fun s => s.acceptReq r m)) = s.withPins (fun _ => t) :=
  withPins_congr ((State.msgIn_here s r m _ here).trans does)

/-- The same of a request whose acceptance leaves the levels of the pins. -/
theorem withPins_acceptReq_quiet {t : State} (here : s.here r = true) (does : (s.credited r m).acceptReq r m = t)
    (quiet : t.levels = s.levels) : s.withPins (fun s => s.msgIn r m (fun s => s.acceptReq r m)) = t :=
  (withPins_acceptReq here does).trans (State.withPins_of_levels rfl quiet)

/-- The five requests are accepted alike. -/
theorem exec_request {fga : Fga} {mask : BitVec 64} {d : Line} {op : BitVec 4} {sz kind : BitVec 2} {a b : BitVec 128} {p : Instr × Msg}
    (request : p ∈ [(Instr.rd r fga, Msg.rd (fgaLine fga)), (.wr r fga mask d, .wr (fgaLine fga) mask d),
      (.atom r fga op sz a b, .atom fga op sz a b), (.barrier r kind, .barrier kind), (.gpf r, .gpf)]) (s : State) :
    exec p.1 s = .next (s.withPins (fun s => s.msgIn r p.2 (fun s => s.acceptReq r p.2))) := by
  simp only [List.mem_cons, List.not_mem_nil, or_false] at request
  rcases request with rfl | rfl | rfl | rfl | rfl <;> rfl

/-- Settles O39, by the place of the request in the order of its pair. -/
theorem fabricRequests : Obligations.FabricRequests := by
  intro s r fga mask d op sz kind a b p request here u
  rw [exec_request request s]
  refine ⟨fun off => ?_, fun on held => ?_, fun on awake runs => ⟨fun next => ?_, fun later ahead new room => ?_, fun behind => ?_⟩⟩ <;>
    refine congrArg Host.Outcome.next ?_
  · exact withPins_acceptReq_quiet here (State.acceptReq_off off) rfl
  · exact withPins_acceptReq_quiet here (State.acceptReq_held on held) rfl
  · exact withPins_acceptReq here (State.acceptReq_next on awake runs next)
  · exact withPins_acceptReq_quiet here (State.acceptReq_ahead on awake runs later ahead new room) rfl
  · exact withPins_acceptReq here (State.acceptReq_known on awake runs behind)

end Sys2Proof.Machine
end

section
/-! PROOFS. What link messages, the IBIs of the pins and the loss of a link make of the ports (R329, R335, R341, R347, R488): a link message
changes of a port the flits it sends and nothing else, and the IBIs change no port. -/

namespace Sys2Proof.Machine

open Sys2Proof

/-- A port without the flits it sends: their numbers, their credit, and what waits to be sent or acknowledged. -/
def Port.settled (x : Port) : Port := { x with credit := [], txSeq := 0, flitNo := 0, unacked := [], sinceAck := 0, mgtq := [] }

/-- What is read of two ports is the same where it is read of parts that they share. -/
theorem Port.read_of {α : Type} {part : Port → Port} {x y : Port} (h : part x = part y) (f : Port → α) (hf : ∀ z, f (part z) = f z) :
    f x = f y := by
  rw [← hf x, h, hf y]

namespace State

variable (s : State) (n : Nat)

/-! ### A port after a write -/

theorem port_of_ports {s t : State} (h : t.ports = s.ports) (n : Nat) : t.port n = s.port n := congrArg (fun p => p.get {} n) h

/-- What is read of a port is as it was when another port is written, or the same one with that part as it was. -/
theorem setPort_reads {α : Type} {p : Nat} {x : Port} (part : Port → α) (h : part x = part (s.port p)) :
    part ((s.setPort p x).port n) = part (s.port n) := by
  by_cases same : n = p
  · rw [same, port_setPort, h]
  · rw [port_setPort_other _ _ same]

theorem each_settled {α : Type} (l : List α) (f : State → α → State) (hf : ∀ t x, ((f t x).port n).settled = (t.port n).settled) :
    ((s.each l f).port n).settled = (s.port n).settled := each_same (fun t => (t.port n).settled) hf

theorem each_ports {α : Type} (l : List α) (f : State → α → State) (hf : ∀ t x, (f t x).ports = t.ports) :
    (s.each l f).ports = s.ports := each_same State.ports hf

/-! ### Link messages (R335, R341) -/

@[simp] theorem linkOut_settled (p m) : ((s.linkOut p m).port n).settled = (s.port n).settled := by
  unfold State.linkOut
  dsimp only
  split
  · rfl
  · split
    · exact s.setPort_reads n Port.settled rfl
    · exact s.setPort_reads n Port.settled rfl

@[simp] theorem floodLink_settled (except_ m) : ((s.floodLink except_ m).port n).settled = (s.port n).settled :=
  s.each_settled n _ _ fun t p => t.linkOut_settled n p m

@[simp] theorem sendTrain_ports (p kind) : (s.sendTrain p kind).ports = s.ports := rfl

/-! ### A link that changes (R350, R357) -/

@[simp] theorem commitShadow_ports (page off) : (s.commitShadow page off).ports = s.ports := by
  unfold State.commitShadow
  split
  · rfl
  · dsimp only
    split <;> split <;> rfl

@[simp] theorem originate_settled : (s.originate.port n).settled = (s.port n).settled := by
  unfold State.originate
  split
  · rfl
  · dsimp only
    refine (each_settled _ n _ _ fun t g => t.floodLink_settled n none _).trans ?_
    exact congrArg Port.settled (port_of_ports (s.commitShadow_ports 0x180 0x110) n)

@[simp] theorem linkChanged_settled : (s.linkChanged.port n).settled = (s.port n).settled := originate_settled _ n

/-- What a port that has gone Down holds (R326, R336, R347). -/
theorem portDown_settled (cause : Nat) (wait : Bool) : ((s.portDown n cause wait).port n).settled = Port.settled
    { backoff := if wait then min 64 (2 * (s.port n).backoff) else (s.port n).backoff, wait := wait, st := 1, cause := BitVec.ofNat 5 cause } := by
  unfold State.portDown
  extract_lets x st down at_ told fx cleared
  have raised : told.ports = down.ports := by
    unfold told
    split
    · exact raiseAt_ports ..
    · split
      · exact raiseAt_ports ..
      · rfl
  have port : (cleared.port n).settled = (down.port n).settled := congrArg Port.settled (port_of_ports (s := down) raised n)
  have written : down.port n = _ := port_setPort s n _
  split
  · rw [linkChanged_settled, port, written]
  · rw [port, written]

/-! ### The pins (R488) -/

@[simp] theorem postRec_ports (h log r) : (s.postRec h log r).ports = s.ports := by simp [State.postRec, State.logInterrupt]

theorem withPins_ports (f : State → State) : (s.withPins f).ports = (f s).ports := by
  have ibi (t : State) (mdb payload) : (t.sendIbi mdb payload).ports = t.ports := by simp [State.sendIbi]
  have event (t : State) : t.memoryEvent.ports = t.ports := each_ports _ _ _ fun u h => u.postRec_ports h 0 _
  simp only [State.withPins, State.pinIbis, ite_ports, ibi, event, ite_self]

theorem withPins_port (f : State → State) : (s.withPins f).port n = (f s).port n := port_of_ports (s.withPins_ports f) n

end State

end Sys2Proof.Machine
end

section
/-! PROOFS. The training of an Elvuc port (R20, R22, R321 to R326): detection, Base with its blocks, Equalise, Verify, and the ways in which
training fails and starts again. -/

namespace Sys2Proof.Machine

open Sys2Proof

variable {s : State} {n : Nat}

/-! ### Start and detection (R321, R326) -/

theorem State.beginTraining_starts (elvuc : s.elvucPort n = true) (present : s.portPresent n = true) (runs : s.blockRuns (n / 8) = true)
    (down : (s.port n).st.toNat ≤ 1) (ready : (s.port n).wait = false) : s.beginTraining n = s.trainStart n := by
  simp [State.beginTraining, elvuc, present, runs, down, ready]

theorem State.retryTraining_starts (elvuc : s.elvucPort n = true) (present : s.portPresent n = true) (runs : s.blockRuns (n / 8) = true)
    (down : (s.port n).st.toNat ≤ 1) (waits : (s.port n).wait = true) :
    s.retryTraining n = (s.setPort n { s.port n with wait := false }).trainStart n := by
  refine (if_pos waits).trans (State.beginTraining_starts elvuc present runs ?_ ?_)
  · rw [State.port_setPort]; exact down
  · rw [State.port_setPort]

theorem State.detected_base (training : (s.port n).st = 2) (detect : (s.port n).phase = 1) {lanes : BitVec 8}
    (partner : bitAt lanes 0 = true ∨ bitAt lanes (s.portWidth n - 1) = true) :
    s.detected n lanes = (s.sendTrain n 1).setPort n { s.port n with phase := 2 } := by
  have met : (bitAt lanes 0 || bitAt lanes (s.portWidth n - 1)) = true := by simpa using partner
  simp [State.detected, training, detect, met]

theorem portFin_val (p : Fin 512) : portFin p.val = p := Fin.ext (Nat.mod_eq_of_lt p.isLt)

/-! ### Base (R20 to R22, R321, R324) -/

/-- The port once it has noted a good block. -/
def State.blockNoted (s : State) (n : Nat) (b : TrainBlock) : Port :=
  { s.port n with
    seen := true, mixed := (s.port n).mixed || s.breaksR22 n b,
    good := (s.port n).good.set 0 b.onLane.val (min 64 ((s.port n).good.get 0 b.onLane.val + 1)),
    rev := if (s.port n).good.isEmpty then decide (1 < s.portWidth n) && decide (b.lane.toNat + b.onLane.val + 1 = s.portWidth n)
      else (s.port n).rev,
    partnerRate := b.rate, partnerSerial := b.serial,
    polInv := setBit8 (s.port n).polInv (s.blockLane n b.onLane.val) b.inverted }

/-- A good block is noted, and the first one is answered with TS2. -/
def State.noteBlock (s : State) (n : Nat) (b : TrainBlock) : State :=
  if (s.port n).good.isEmpty then (s.setPort n (s.blockNoted n b)).sendTrain n 2 else s.setPort n (s.blockNoted n b)

theorem State.noteBlock_port (s : State) (n : Nat) (b : TrainBlock) : (s.noteBlock n b).port n = s.blockNoted n b := by
  unfold State.noteBlock
  split
  · exact State.port_setPort s n _
  · exact State.port_setPort s n _

theorem State.noteBlock_portWidth (s : State) (n : Nat) (b : TrainBlock) : (s.noteBlock n b).portWidth n = s.portWidth n := by
  unfold State.noteBlock
  split <;> rfl

section
variable (training : (s.port n).st = 2) (base : (s.port n).phase = 2) {kind : Nat} {b : TrainBlock}
include training base

theorem State.trainBlock_bad (bad : s.goodBlock n kind b = false) :
    s.trainBlock n kind b = s.setPort n { s.port n with seen := true, good := (s.port n).good.set 0 b.onLane.val 0 } := by
  simp [State.trainBlock, training, base, bad]

theorem State.trainBlock_good (good : s.goodBlock n kind b = true) : s.trainBlock n kind b =
    if (List.range (s.portWidth n)).all ((s.noteBlock n b).passed n) then (s.noteBlock n b).endBase n else s.noteBlock n b :=
  (if_neg (by simp [training, base])).trans (if_neg (by simp [good]))

end

theorem State.judgeLanes_ports (s : State) (n : Nat) : (s.judgeLanes n).ports = s.ports := by
  refine State.each_ports s _ _ fun t i => ?_
  dsimp only
  split
  · rfl
  · exact State.fence_ports ..

/-- A port without what the end of Base sets: its phase, its rate and its width (R322, R324). -/
def Port.untrained (x : Port) : Port := { x with phase := 0, eqDone := false, rate := 0, width := 0 }

theorem State.endBase_untrained (s : State) (n : Nat) : ((s.endBase n).port n).untrained = (s.port n).untrained := by
  unfold State.endBase
  extract_lets w judged x t
  have ended : (t.port n).untrained = (s.port n).untrained :=
    (congrArg Port.untrained (State.port_setPort judged n _)).trans
      (congrArg Port.untrained (State.port_of_ports (s.judgeLanes_ports n) n) :)
  split
  · rfl
  · split
    · exact (congrArg Port.untrained (State.port_of_ports (State.raiseAt_ports ..) n)).trans ended
    · exact ended

/-- Base ends in Equalise for a port whose cabling keeps R22. -/
theorem State.endBase_phase (wide : s.trainWidth n ≠ 0) (pure_ : (s.port n).mixed = false) : ((s.endBase n).port n).phase = 3 := by
  unfold State.endBase
  extract_lets w judged x t
  have ended : (t.port n).phase = 3 := congrArg Port.phase (State.port_setPort judged n _)
  rw [if_neg (by simp [w, wide, pure_])]
  split
  · exact (congrArg Port.phase (State.port_of_ports (State.raiseAt_ports ..) n)).trans ended
  · exact ended

/-- A block has 1, 2, 4 or 8 ports of equal width (R19). -/
theorem State.portWidth_mem (s : State) (n : Nat) : s.portWidth n ∈ [8, 4, 2, 1] := by
  have bound : s.regFld (0x100 + n / 8) 0x100 0 2 < 4 := Nat.mod_lt _ (by decide)
  unfold State.portWidth State.portsOf
  generalize s.regFld (0x100 + n / 8) 0x100 0 2 = f at bound
  interval_cases f <;> decide

/-- A port whose lanes have all passed trains at some width (R324). -/
theorem State.trainWidth_ne_zero (all : ∀ i, i < s.portWidth n → s.passed n i = true) : s.trainWidth n ≠ 0 := by
  unfold State.trainWidth
  extract_lets w ok
  have whole : ok w = true := by
    simp only [ok, le_refl, decide_true, Bool.true_and, List.all_eq_true, List.mem_range]
    intro i inside
    exact all _ (by split <;> omega)
  obtain ⟨k, found⟩ := Option.isSome_iff_exists.mp (List.find?_isSome.mpr ⟨w, s.portWidth_mem n, whole⟩)
  have listed := List.mem_of_find?_eq_some found
  rw [found]
  rintro rfl
  exact absurd listed (by decide)

/-- What a good block leaves of the port, and that the block with which every lane has passed ends Base. -/
theorem State.trainBlock_notes (training : (s.port n).st = 2) (base : (s.port n).phase = 2) {kind : Nat} {b : TrainBlock}
    (good : s.goodBlock n kind b = true) :
    ((s.trainBlock n kind b).port n).untrained = (s.blockNoted n b).untrained ∧
    ((s.port n).mixed = false → s.breaksR22 n b = false → 63 ≤ (s.port n).good.get 0 b.onLane.val →
      (∀ i, i < s.portWidth n → i ≠ b.onLane.val → s.passed n i = true) → ((s.trainBlock n kind b).port n).phase = 3) := by
  rw [State.trainBlock_good training base good]
  constructor
  · split
    · rw [State.endBase_untrained, State.noteBlock_port]
    · rw [State.noteBlock_port]
  · intro pure_ keeps count others
    have all : ∀ i, i < s.portWidth n → (s.noteBlock n b).passed n i = true := by
      intro i inside
      by_cases own : i = b.onLane.val
      · have counted : min 64 ((s.port n).good.get 0 b.onLane.val + 1) = 64 := by omega
        simp [State.passed, State.noteBlock_port, State.blockNoted, own, counted]
      · have passed := others i inside own
        simpa [State.passed, State.noteBlock_port, State.blockNoted, Tab.get_set_other _ _ _ own] using passed
    rw [if_pos (by simpa using all)]
    refine State.endBase_phase (State.trainWidth_ne_zero fun i inside => all i ?_) ?_
    · rwa [State.noteBlock_portWidth] at inside
    · rw [State.noteBlock_port]
      simp [State.blockNoted, pure_, keeps]

/-! ### Equalise and Verify (R321, R322, R325) -/

theorem State.partnerEq_equalising (phase : (s.port n).phase = 3) : s.partnerEq n = s := if_neg (by simp [phase])

section
variable (training : (s.port n).st = 2) (phase : (s.port n).phase = 3)
include training phase

theorem State.eqRequest_sets {preset : BitVec 4} (legal : preset.toNat ≤ 10) :
    s.eqRequest n preset = s.setPort n { s.port n with eqTx := preset } := by
  rw [State.eqRequest, State.partnerEq_equalising phase]
  exact if_pos (by simp [training, phase, legal])

theorem State.eqDone_verifies : s.eqDone n = (s.sendTrain n 4).setPort n { s.port n with eqDone := true, phase := 4 } := by
  rw [State.eqDone, State.partnerEq_equalising phase]
  exact if_pos (by simp [training, phase])

end

section
variable (training : (s.port n).st = 2) (phase : (s.port n).phase = 4) (stays : (s.port n).exiting = false)
include training phase stays

theorem State.verifyEnd_settled (pass : Bool) : s.verifyEnd n pass =
    if pass then s.startKeying n else if (s.port n).rate = 0 then s.trainFailed n 4
    else s.setPort n { s.port n with phase := 3, eqDone := false, rate := (s.port n).rate - 1 } :=
  (if_neg (by simp [training, phase])).trans (if_neg (by simp [stays]))

end

/-- An offer of keys changes of a port the state of its exchange, and not whether it has keys (R455). -/
theorem State.sendOffer_settled (s : State) (n : Nat) : ∃ k : LinkKeys, k.valid = (s.port n).keys.valid ∧
    ((s.sendOffer n).port n).settled = Port.settled { s.port n with keys := k } := by
  refine ⟨_, ?_, (State.linkOut_settled ..).trans (congrArg Port.settled (State.port_setPort ..))⟩
  rfl

/-- The first messages of an exchange leave the phase of a port, and whether it has keys. -/
theorem State.exchange_phase (s : State) (n : Nat) : (((s.sendOffer n).linkOut n .kxCert).port n).phase = (s.port n).phase ∧
    (((s.sendOffer n).linkOut n .kxCert).port n).keys.valid = (s.port n).keys.valid := by
  obtain ⟨k, keys, offered⟩ := s.sendOffer_settled n
  have sent := ((s.sendOffer n).linkOut_settled n n .kxCert).trans offered
  exact ⟨Port.read_of sent Port.phase fun _ => rfl, (Port.read_of sent (fun x => x.keys.valid) fun _ => rfl).trans keys⟩

/-- Keying begins without keys (R321, R455). -/
theorem State.startKeying_phase (s : State) (n : Nat) :
    ((s.startKeying n).port n).phase = 5 ∧ ((s.startKeying n).port n).keys.valid = false := by
  unfold State.startKeying
  dsimp only
  rw [(State.exchange_phase _ n).1, (State.exchange_phase _ n).2, State.port_setPort]
  exact ⟨rfl, rfl⟩

theorem State.trainTimeout_fails (training : (s.port n).st = 2) (stays : (s.port n).exiting = false) (early : (s.port n).phase ≠ 5) :
    s.trainTimeout n = s.trainFailed n (if (s.port n).seen then 2 else 3) :=
  if_pos (by simp [training, stays, early])

/-! ### The commands -/

theorem exec_trainBlock {p : Fin 512} {b : TrainBlock} {c : Nat × Instr} (block : c ∈ [(1, Instr.ts1 p b), (2, .ts2 p b)]) (s : State) :
    exec c.2 s = .next (s.withPins (fun s => s.trainBlock p.val c.1 b)) := by
  simp only [List.mem_cons, List.not_mem_nil, or_false] at block
  rcases block with rfl | rfl <;> rfl

section
variable {p : Fin 512}

theorem receiverDetectionDone_base {lanes : BitVec 8} (training : (s.port p.val).st = 2) (detect : (s.port p.val).phase = 1)
    (partner : bitAt lanes 0 = true ∨ bitAt lanes (s.portWidth p.val - 1) = true) :
    ∃ t, exec (.receiverDetectionDone p lanes) s = .next t ∧ (t.port p.val).phase = 2 ∧
      .link p (.train 1 (BitVec.ofNat 8 (s.ownLimit p.val)) (BitVec.ofNat 8 (s.portWidth p.val)) 0) ∈ t.out := by
  refine ⟨_, congrArg Host.Outcome.next (State.detected_base training detect partner), congrArg Port.phase (State.port_setPort _ _ _), ?_⟩
  have sent : ((s.sendTrain p.val 1).setPort p.val { s.port p.val with phase := 2 }).out =
      s.out ++ [.link (portFin p.val) (.train 1 (BitVec.ofNat 8 (s.ownLimit p.val)) (BitVec.ofNat 8 (s.portWidth p.val)) 0)] := rfl
  rw [sent, portFin_val]
  exact List.mem_append_right _ (List.mem_singleton_self _)

section
variable (training : (s.port p.val).st = 2) (base : (s.port p.val).phase = 2) {b : TrainBlock} {c : Nat × Instr}
    (block : c ∈ [(1, Instr.ts1 p b), (2, .ts2 p b)])
include training base block

theorem exec_trainBlock_bad (bad : s.goodBlock p.val c.1 b = false) : exec c.2 s = .next (s.setPort p.val { s.port p.val with
    seen := true, good := (s.port p.val).good.set 0 b.onLane.val 0 }) :=
  (exec_trainBlock block s).trans (congrArg Host.Outcome.next
    (State.withPins_of_levels (State.trainBlock_bad training base bad) rfl))

theorem exec_trainBlock_good (good : s.goodBlock p.val c.1 b = true) :
    ∃ t, exec c.2 s = .next t ∧ (t.port p.val).seen = true ∧ (t.port p.val).partnerSerial = b.serial ∧
      (t.port p.val).good.get 0 b.onLane.val = min 64 ((s.port p.val).good.get 0 b.onLane.val + 1) ∧
      (t.port p.val).polInv = setBit8 (s.port p.val).polInv (s.blockLane p.val b.onLane.val) b.inverted ∧
      (t.port p.val).mixed = ((s.port p.val).mixed || s.breaksR22 p.val b) ∧
      ((s.port p.val).mixed = false → s.breaksR22 p.val b = false → 63 ≤ (s.port p.val).good.get 0 b.onLane.val →
        (∀ i, i < s.portWidth p.val → i ≠ b.onLane.val → s.passed p.val i = true) → (t.port p.val).phase = 3) := by
  obtain ⟨noted, ends⟩ := State.trainBlock_notes training base good
  refine ⟨_, exec_trainBlock block s, ?_⟩
  rw [State.withPins_port]
  exact ⟨Port.read_of noted Port.seen fun _ => rfl, Port.read_of noted Port.partnerSerial fun _ => rfl,
    (Port.read_of noted (fun x => x.good.get 0 b.onLane.val) fun _ => rfl).trans (Tab.get_set_same ..),
    Port.read_of noted Port.polInv fun _ => rfl, Port.read_of noted Port.mixed fun _ => rfl, ends⟩

end

theorem verifyEnd_ends (training : (s.port p.val).st = 2) (phase : (s.port p.val).phase = 4) (stays : (s.port p.val).exiting = false) :
    (∃ t, exec (.verifyEnd p true) s = .next t ∧ (t.port p.val).phase = 5 ∧ (t.port p.val).keys.valid = false) ∧
    ((s.port p.val).rate ≠ 0 → exec (.verifyEnd p false) s = .next (s.setPort p.val { s.port p.val with
      phase := 3, eqDone := false, rate := (s.port p.val).rate - 1 })) ∧
    ((s.port p.val).rate = 0 → ∃ t, exec (.verifyEnd p false) s = .next t ∧ (t.port p.val).st = 1 ∧ (t.port p.val).cause = 4) := by
  have ends := State.verifyEnd_settled training phase stays
  refine ⟨⟨_, rfl, ?_⟩, fun fast => ?_, fun slow => ⟨_, rfl, ?_⟩⟩
  · rw [State.withPins_port, ends true, if_pos rfl]
    exact State.startKeying_phase s p.val
  · exact congrArg Host.Outcome.next (State.withPins_of_levels ((ends false).trans (if_neg fast)) rfl)
  · rw [State.withPins_port, ends false, if_neg (by decide), if_pos slow]
    have down := s.portDown_settled p.val 4 true
    exact ⟨Port.read_of down Port.st fun _ => rfl, Port.read_of down Port.cause fun _ => rfl⟩

theorem trainingTimeout_waits (training : (s.port p.val).st = 2) (stays : (s.port p.val).exiting = false)
    (early : (s.port p.val).phase ≠ 5) :
    ∃ t, exec (.trainingTimeout p) s = .next t ∧ (t.port p.val).st = 1 ∧ (t.port p.val).wait = true ∧
      (t.port p.val).backoff = min 64 (2 * (s.port p.val).backoff) ∧ (t.port p.val).cause = if (s.port p.val).seen then 2 else 3 := by
  refine ⟨_, rfl, ?_⟩
  rw [State.withPins_port, State.trainTimeout_fails training stays early]
  have down := s.portDown_settled p.val (if (s.port p.val).seen then 2 else 3) true
  exact ⟨Port.read_of down Port.st fun _ => rfl, Port.read_of down Port.wait fun _ => rfl, Port.read_of down Port.backoff fun _ => rfl,
    (Port.read_of down Port.cause fun _ => rfl).trans (apply_ite (BitVec.ofNat 5) _ _ _)⟩

end

/-- Settles O33, phase by phase. -/
theorem linkTraining : Obligations.LinkTraining := fun s p =>
  ⟨fun elvuc present runs down ready => congrArg Host.Outcome.next (State.beginTraining_starts elvuc present runs down ready),
   fun _ training detect partner => receiverDetectionDone_base training detect partner,
   fun b training base =>
    ⟨exec_trainBlock_bad training base (c := (1, .ts1 p b)) (by simp),
     exec_trainBlock_bad training base (c := (2, .ts2 p b)) (by simp),
     fun _ block good => exec_trainBlock_good training base block good⟩,
   fun training phase =>
    ⟨fun _ legal => congrArg Host.Outcome.next (State.withPins_of_levels (State.eqRequest_sets training phase legal) rfl),
     ⟨_, rfl, by
      rw [State.withPins_port, State.eqDone_verifies training phase, State.port_setPort]
      exact ⟨rfl, rfl⟩⟩⟩,
   verifyEnd_ends, trainingTimeout_waits,
   fun elvuc present runs down waits =>
    ⟨_, congrArg Host.Outcome.next (State.retryTraining_starts elvuc present runs down waits),
     by rw [State.trainStart, State.port_setPort]; exact ⟨rfl, rfl⟩⟩⟩

end Sys2Proof.Machine
end

section
/-! PROOFS. The flits of an Elvuc link (R328 to R336, R341): what is taken in order, what a flit that fails its checks leaves, the replay of what
is not acknowledged, and Recovery. -/

namespace Sys2Proof.Machine

open Sys2Proof

variable {s : State} {n : Nat} {f : Flit}

/-! ### Flits that arrive (R329, R331, R332, R334) -/

section
variable (flits : (s.port n).flits = true)
include flits

theorem State.dataFlit_takes (open_ : (s.port n).phase ≠ 5) (crc : (s.port n).crcGood 1 f = true) (tag : (s.port n).tagGood 1 f = true)
    (next : f.seq = (s.port n).rxAck + 1) : s.dataFlit n f = (s.setPort n { s.port n with
      rxAck := f.seq, rxFlits := (s.port n).rxFlits + 1, gap := false, lastBadTag := none, sinceAck := (s.port n).sinceAck + 1,
      kepochRx := f.kepoch,
      keys := if f.kepoch != (s.port n).kepochRx then { (s.port n).keys with oldRx := none } else (s.port n).keys }).flitHeader n f :=
  (if_neg (by simp [flits, open_])).trans <| (if_neg (by simp [crc])).trans <| (if_neg (by simp [tag])).trans (if_neg (by simp [next]))

theorem State.dataFlit_crcError (open_ : (s.port n).phase ≠ 5) (crc : (s.port n).crcGood 1 f = false) : s.dataFlit n f = s.crcError n :=
  (if_neg (by simp [flits, open_])).trans (if_pos (by simp [crc]))

theorem State.idleFlit_crcError (crc : (s.port n).crcGood 0 f = false) : s.idleFlit n f = s.crcError n :=
  (if_neg (by simp [flits])).trans (if_pos (by simp [crc]))

theorem State.nakFlit_crcError (crc : (s.port n).crcGood 2 f = false) : s.nakFlit n f = s.crcError n :=
  (if_neg (by simp [flits])).trans (if_pos (by simp [crc]))

theorem State.clearFlit_crcError (crc : (s.port n).crcGood 3 f = false) : s.clearFlit n f = s.crcError n :=
  (if_neg (by simp [flits])).trans (if_pos (by simp [crc]))

theorem State.idleFlit_acts (crc : (s.port n).crcGood 0 f = true) (tag : (s.port n).tagGood 0 f = true) :
    s.idleFlit n f = s.flitHeader n f :=
  (if_neg (by simp [flits])).trans <| (if_neg (by simp [crc])).trans (if_neg (by simp [tag]))

theorem State.nakFlit_acts (crc : (s.port n).crcGood 2 f = true) (tag : (s.port n).tagGood 2 f = true) :
    s.nakFlit n f = (s.flitHeader n f).replay n :=
  (if_neg (by simp [flits])).trans <| (if_neg (by simp [crc])).trans (if_neg (by simp [tag]))

end

/-- A CLEAR flit on a link past training is a security error (R332). -/
theorem State.clearFlit_active (active : (s.port n).st = 3) (crc : (s.port n).crcGood 3 f = true) :
    s.clearFlit n f = (s.securityError n none).discardFlit n :=
  (if_neg (by simp [Port.flits, active])).trans <| (if_neg (by simp [crc])).trans (if_neg (by simp [active]))

/-! ### What a discarded flit leaves (R334) -/

/-- An IDLE or NAK flit changes of a port the credit it owes and the count of what it has to acknowledge. -/
theorem State.sendIdle_port (s : State) (n : Nat) (nak : Bool) : ∃ o, (s.sendIdle n nak).port n = { s.port n with owed := o, sinceAck := 0 } :=
  ⟨_, State.port_setPort s n _⟩

theorem State.sendIdle_out (s : State) (n : Nat) :
    ∃ g : Flit, (s.sendIdle n false).out = s.out ++ [.link (portFin n) (.flit 0 g)] ∧ g.ack = (s.port n).rxAck := ⟨_, rfl, rfl⟩

theorem State.discardFlit_gap (s : State) (n : Nat) :
    ((s.discardFlit n).port n).gap = true ∧ ((s.discardFlit n).port n).rxAck = (s.port n).rxAck := by
  unfold State.discardFlit
  dsimp only
  split
  next gap => exact ⟨gap, rfl⟩
  next =>
    obtain ⟨o, sent⟩ := (s.setPort n { s.port n with gap := true }).sendIdle_port n true
    rw [sent, State.port_setPort]
    exact ⟨rfl, rfl⟩

theorem State.crcError_gap (s : State) (n : Nat) :
    ((s.crcError n).port n).gap = true ∧ ((s.crcError n).port n).rxAck = (s.port n).rxAck :=
  State.discardFlit_gap (s.countUp (blockPage (n / 8)) 0x108 16 16) n

theorem State.securityError_port (s : State) (n : Nat) : (s.securityError n none).port n = s.port n :=
  State.port_of_ports (State.raiseAt_ports ..) n

/-! ### Replay and Recovery (R334 to R336) -/

theorem State.each_emit_out {α : Type} (l : List α) (f : α → Output) (s : State) : (s.each l fun s u => s.emit (f u)).out = s.out ++ l.map f := by
  induction l generalizing s with
  | nil => exact (List.append_nil _).symm
  | cons u l ih => exact (ih (s.emit (f u))).trans (List.append_assoc ..)

theorem State.each_emit_ports {α : Type} (l : List α) (f : α → Output) (s : State) : (s.each l fun s u => s.emit (f u)).ports = s.ports :=
  State.each_ports s l _ fun _ _ => rfl

section
variable (waits : (s.port n).unacked ≠ [])
include waits

/-- What is not acknowledged goes out again, in order, while the limit of replays is not passed. -/
theorem State.replay_repeats (within : (s.port n).replays + 1 ≤ s.regFld 0x140 0x108 16 8) :
    s.replay n = (s.setPort n { s.port n with replays := (s.port n).replays + 1 }).each (s.port n).unacked fun s u => s.emit (u.2.out n) :=
  (if_neg (by simpa using waits)).trans (if_neg within.not_gt)

theorem State.replay_recovers (past : s.regFld 0x140 0x108 16 8 < (s.port n).replays + 1) :
    (s.replay n).port n = { s.port n with st := 6, replays := 0 } := by
  have recovers : s.replay n = ((s.setPort n { s.port n with st := 6, replays := 0 }).countUp (blockPage (n / 8)) 0x108 8 8).raiseAt
      (blockPage (n / 8)) .prtRecovery { dom := 2, inst := n, kind := 7, items := [n] } :=
    (if_neg (by simpa using waits)).trans (if_pos past)
  rw [recovers, State.port_of_ports (State.raiseAt_ports ..) n, State.port_of_ports (State.countUp_ports ..) n, State.port_setPort]

end

theorem State.replayTimer_replays (flits : (s.port n).flits = true) (whole : (s.port n).gap = false) : s.replayTimer n = s.replay n := by
  refine (if_neg (by simp [flits])).trans ?_
  rw [if_neg (by simp [whole])]

theorem State.recoveryEnd_active (recovers : (s.port n).st = 6) :
    s.recoveryEnd n true = ((s.setPort n { s.port n with st := 3 }).replay n).retryTransit :=
  if_neg (by simp [recovers])

theorem State.recoveryEnd_retrains (recovers : (s.port n).st = 6) : s.recoveryEnd n false = (s.portDown n 5 false).beginTraining n :=
  if_neg (by simp [recovers])

theorem State.alignmentLoss_retrains (up : (s.port n).flits = true ∨ (s.port n).st = 6) :
    s.alignmentLoss n = (s.portDown n 6 false).beginTraining n :=
  if_pos (by simpa using up)

/-! ### The commands -/

/-- What follows a command whose operation is known in its state. -/
theorem next_withPins {g h : State → State} (does : g s = h s) :
    (.next (s.withPins g) : Host.Outcome State Fault Refusal) = .next (s.withPins h) :=
  congrArg Host.Outcome.next (withPins_congr does)

section
variable {p : Fin 512}

theorem exec_crcError (flits : (s.port p.val).flits = true) {c : Nat × Instr}
    (flit : c ∈ [(0, Instr.idleFlit p f), (2, .nakFlit p f), (3, .clearFlit p f)]) (crc : (s.port p.val).crcGood c.1 f = false) :
    exec c.2 s = .next (s.withPins (fun s => s.crcError p.val)) := by
  simp only [List.mem_cons, List.not_mem_nil, or_false] at flit
  rcases flit with rfl | rfl | rfl
  · exact next_withPins (State.idleFlit_crcError flits crc)
  · exact next_withPins (State.nakFlit_crcError flits crc)
  · exact next_withPins (State.clearFlit_crcError flits crc)

theorem dataFlit_discards (flits : (s.port p.val).flits = true) (crc : (s.port p.val).crcGood 1 f = false) (open_ : (s.port p.val).phase ≠ 5) :
    ∃ t, exec (.dataFlit p f) s = .next t ∧ (t.port p.val).gap = true ∧ (t.port p.val).rxAck = (s.port p.val).rxAck := by
  refine ⟨_, rfl, ?_⟩
  rw [State.withPins_port, State.dataFlit_crcError flits open_ crc]
  exact s.crcError_gap p.val

theorem clearFlit_discards (active : (s.port p.val).st = 3) (crc : (s.port p.val).crcGood 3 f = true) :
    ∃ t, exec (.clearFlit p f) s = .next t ∧ (t.port p.val).gap = true ∧ (t.port p.val).rxAck = (s.port p.val).rxAck := by
  refine ⟨_, rfl, ?_⟩
  rw [State.withPins_port, State.clearFlit_active active crc]
  obtain ⟨gap, ack⟩ := (s.securityError p.val none).discardFlit_gap p.val
  exact ⟨gap, ack.trans (congrArg Port.rxAck (s.securityError_port p.val))⟩

theorem replayTimerExpiry_replays (flits : (s.port p.val).flits = true) (whole : (s.port p.val).gap = false)
    (waits : (s.port p.val).unacked ≠ []) :
    ((s.port p.val).replays + 1 ≤ s.regFld 0x140 0x108 16 8 → ∃ t, exec (.replayTimerExpiry p) s = .next t ∧
      t.out = s.out ++ (s.port p.val).unacked.map (fun u => u.2.out p.val) ∧ (t.port p.val).replays = (s.port p.val).replays + 1) ∧
    (s.regFld 0x140 0x108 16 8 < (s.port p.val).replays + 1 → ∃ t, exec (.replayTimerExpiry p) s = .next t ∧
      (t.port p.val).st = 6 ∧ (t.port p.val).unacked = (s.port p.val).unacked) := by
  have replays := State.replayTimer_replays flits whole
  constructor
  · intro within
    have repeats := replays.trans (State.replay_repeats waits within)
    refine ⟨_, congrArg Host.Outcome.next (State.withPins_of_levels repeats (State.each_same State.levels fun _ _ => rfl)),
      State.each_emit_out .., ?_⟩
    rw [State.port_of_ports (State.each_emit_ports ..), State.port_setPort]
  · intro past
    refine ⟨_, rfl, ?_⟩
    rw [State.withPins_port, replays, State.replay_recovers waits past]
    exact ⟨rfl, rfl⟩

theorem ackIdleDue_acknowledges (flits : (s.port p.val).flits = true) : ∃ t, exec (.ackIdleDue p) s = .next t ∧
    (t.port p.val).sinceAck = 0 ∧ ∃ g : Flit, t.out = s.out ++ [.link p (.flit 0 g)] ∧ g.ack = (s.port p.val).rxAck := by
  obtain ⟨o, port⟩ := s.sendIdle_port p.val false
  obtain ⟨g, out, ack⟩ := s.sendIdle_out p.val
  rw [portFin_val] at out
  exact ⟨_, congrArg Host.Outcome.next (if_pos flits), congrArg Port.sinceAck port, g, out, ack⟩

end

/-- Settles O34, flit by flit and timer by timer. -/
theorem linkFlits : Obligations.LinkFlits := fun _ _ _ =>
  ⟨fun flits open_ crc tag next => next_withPins (State.dataFlit_takes flits open_ crc tag next),
   fun flits _ flit crc => exec_crcError flits flit crc,
   dataFlit_discards,
   fun flits crc tag => next_withPins (State.idleFlit_acts flits crc tag),
   fun flits crc tag => next_withPins (State.nakFlit_acts flits crc tag),
   clearFlit_discards, replayTimerExpiry_replays, ackIdleDue_acknowledges,
   fun recovers => ⟨next_withPins (State.recoveryEnd_active recovers), next_withPins (State.recoveryEnd_retrains recovers)⟩,
   fun up => next_withPins (State.alignmentLoss_retrains up)⟩

end Sys2Proof.Machine
end

section
/-! PROOFS. Trickle (R347, R348): an idle port asks its partner, both enter at the lowest rate, and a wake starts the exit. -/

namespace Sys2Proof.Machine

open Sys2Proof

variable {s : State} {n : Nat}

/-- A port that owes the credit of a link-local message (R341). -/
def State.owing (s : State) (n : Nat) (m : LinkMsg) : Port :=
  { s.port n with owed := (s.port n).owed.set 0 6 ((s.port n).owed.get 0 6 + linkLen m) }

/-- A link-local message of a port that takes flits is handled once its credit is owed. -/
theorem State.mgtIn_flits (flits : (s.port n).flits = true) (m : LinkMsg) (f : State → State) :
    s.mgtIn n m f = f (s.setPort n (s.owing n m)) :=
  if_pos flits

theorem State.trickleIdle_asks (active : (s.port n).st = 3) (new : (s.port n).trickleAsked = false)
    (wanted : s.regFld 0x140 0x108 0 8 ≠ 0 ∨ s.pwr.st = 5) :
    s.trickleIdle n = (s.setPort n { s.port n with trickleAsked := true }).linkOut n (.trickle false) :=
  (if_neg (by rcases wanted with timed | deep <;> simp [*])).trans (if_neg (by simp [active, new]))

theorem State.trickleIn_enters (active : (s.port n).st = 3) (asked : (s.port n).trickleAsked = true) (accept : Bool) :
    s.trickleIn n accept = s.enterTrickle n :=
  (if_neg (by simp [active])).trans <| (if_pos (by simp [asked])).trans (if_pos asked)

/-- A port that has entered Trickle runs lane 0 at the lowest rate, and keeps the rate and width it is to return to. -/
theorem State.enterTrickle_settled (s : State) (n : Nat) : ((s.enterTrickle n).port n).settled = Port.settled { s.port n with
    st := 5, trickleAsked := false, savedRate := (s.port n).rate, savedWidth := (s.port n).width, rate := 0, width := 1 } :=
  (State.linkChanged_settled ..).trans (congrArg Port.settled (State.port_setPort ..))

theorem State.wakeIn_exits (sleeps : (s.port n).st = 5) :
    s.wakeIn n = s.setPort n { s.port n with st := 2, phase := 3, exiting := true, eqDone := false } :=
  if_pos (by simp [sleeps])

/-! ### The commands -/

section
variable {p : Fin 512}

theorem trickleIdleExpiry_asks (active : (s.port p.val).st = 3) (new : (s.port p.val).trickleAsked = false)
    (wanted : s.regFld 0x140 0x108 0 8 ≠ 0 ∨ s.pwr.st = 5) :
    ∃ t, exec (.trickleIdleExpiry p) s = .next t ∧ (t.port p.val).trickleAsked = true ∧ (t.port p.val).st = 3 := by
  refine ⟨_, congrArg Host.Outcome.next (State.trickleIdle_asks active new wanted), ?_⟩
  have asked := (State.linkOut_settled _ p.val p.val (.trickle false)).trans
    (congrArg Port.settled (s.port_setPort p.val { s.port p.val with trickleAsked := true }))
  exact ⟨Port.read_of asked Port.trickleAsked fun _ => rfl, (Port.read_of asked Port.st fun _ => rfl).trans active⟩

theorem linkTrickle_enters (active : (s.port p.val).st = 3) (asked : (s.port p.val).trickleAsked = true) (a : Bool) :
    ∃ t, exec (.linkTrickle p a) s = .next t ∧ (t.port p.val).st = 5 ∧ (t.port p.val).rate = 0 ∧ (t.port p.val).width = 1 ∧
      (t.port p.val).savedRate = (s.port p.val).rate ∧ (t.port p.val).savedWidth = (s.port p.val).width := by
  refine ⟨_, rfl, ?_⟩
  rw [State.withPins_port, State.mgtIn_flits (by simp [Port.flits, active])]
  rw [State.trickleIn_enters (by rw [State.port_setPort]; exact active) (by rw [State.port_setPort]; exact asked)]
  have entered := (s.setPort p.val (s.owing p.val (.trickle a))).enterTrickle_settled p.val
  rw [State.port_setPort] at entered
  exact ⟨Port.read_of entered Port.st fun _ => rfl, Port.read_of entered Port.rate fun _ => rfl, Port.read_of entered Port.width fun _ => rfl,
    Port.read_of entered Port.savedRate fun _ => rfl, Port.read_of entered Port.savedWidth fun _ => rfl⟩

theorem linkWake_exits (sleeps : (s.port p.val).st = 5) :
    ∃ t, exec (.linkWake p) s = .next t ∧ (t.port p.val).st = 2 ∧ (t.port p.val).phase = 3 ∧ (t.port p.val).exiting = true := by
  refine ⟨_, congrArg Host.Outcome.next (State.mgtIn_flits (by simp [Port.flits, sleeps]) .wake _), ?_⟩
  rw [State.wakeIn_exits (by rw [State.port_setPort]; exact sleeps), State.port_setPort]
  exact ⟨rfl, rfl, rfl⟩

end

/-- Settles O35, from the request to the exit. -/
theorem trickleMode : Obligations.TrickleMode := fun _ _ =>
  ⟨trickleIdleExpiry_asks, linkTrickle_enters, linkWake_exits, fun exits => next_withPins (if_pos exits)⟩

end Sys2Proof.Machine
end

section
/-! PROOFS. What messages between modules, their answers and the requests that follow leave alone: what discovery has learnt. One equation per
operation, in the order of the model's files; the simplifier goes through an operation by the equations of those it calls. -/

namespace Sys2Proof.Machine

open Sys2Proof

/-- What discovery has learnt: the link-state database, this module's own number and sequence, the escape tree's epoch, what is due to be
recomputed, and what has been granted and flooded (R350 to R358). -/
structure Lore where
  db : List Lsa
  lsaSeq : Word
  conf : Bool
  devnum : Dev
  treeEpoch : BitVec 16
  topoChanged : Bool
  grants : List (BitVec 64 × Dev)
  flooded : List (BitVec 64 × Dev × Bool)

def State.lore (s : State) : Lore :=
  { db := s.fxb.db, lsaSeq := s.fxb.lsaSeq, conf := s.fxb.conf, devnum := s.fxb.devnum, treeEpoch := s.fxb.treeEpoch,
    topoChanged := s.fxb.topoChanged, grants := s.fxb.grants, flooded := s.fxb.flooded }

end Sys2Proof.Machine

namespace Sys2Proof.Machine.State

open Sys2Proof

variable (s : State)

/-! ### Choices, loops and the other fields

As with the plant, a proof `(rfl)` in parentheses stays a step that the simplifier takes in the side condition of `each_lore`. -/

@[simp] theorem lore_rest {pe ou fr ti om on rg sh ho pf cy fa pa mg fl pn pw th cr sl dt mc mt ca po hd sv} :
    State.lore { s with
      pending := pe, out := ou, free := fr, time := ti, opMs := om, opNs := on, regs := rg, shadow := sh, hold := ho, perf := pf, cyc := cy,
      freezeAll := fa, pages := pa, mgt := mg, flt := fl, pan := pn, pwr := pw, thm := th, crs := cr, slices := sl, dtc := dt, mch := mc,
      mte := mt, cages := ca, ports := po, heads := hd, sve := sv } = s.lore := (rfl)

/-- The directory, the roles, the routes and the traffic of FXB are no part of it. -/
@[simp] theorem lore_fxb {pe ou fr ti om on rg sh ho pf cy fa pa mg fl pn pw th cr sl dt mc mt ca po hd sv di ro cu s1 s2 qu me rt oe ta td tf
    pr re wq tr se ma rc ff nt de sr bi sq ne ln} :
    State.lore { s with
      pending := pe, out := ou, free := fr, time := ti, opMs := om, opNs := on, regs := rg, shadow := sh, hold := ho, perf := pf, cyc := cy,
      freezeAll := fa, pages := pa, mgt := mg, flt := fl, pan := pn, pwr := pw, thm := th, crs := cr, slices := sl, dtc := dt, mch := mc,
      mte := mt, cages := ca, ports := po, heads := hd, sve := sv,
      fxb := { s.fxb with
        dir := di, role := ro, cust := cu, stby1 := s1, stby2 := s2, quorum := qu, memb := me, routes := rt, oldEsc := oe, treeAt := ta,
        treeDue := td, treeOf := tf, pairs := pr, remotes := re, waitq := wq, transit := tr, served := se, marks := ma, recent := rc,
        fwdFrom := ff, nextTag := nt, dead := de, serial := sr, bifSet := bi, sleepq := sq, noElig := ne, lastNbrs := ln } } = s.lore := (rfl)

@[simp] theorem lore_ite (c : Prop) [Decidable c] (a b : State) : (if c then a else b).lore = if c then a.lore else b.lore :=
  apply_ite _ _ _ _

@[simp] theorem each_lore {α : Type} (l : List α) (f : State → α → State) (hf : ∀ t x, (f t x).lore = t.lore) :
    (s.each l f).lore = s.lore := each_same State.lore hf

/-- The state in the answer of an operation that leaves it alone. -/
theorem lore_of_eq {s t : State} {α : Type} {p : α × State} {x : α} (e : p = (x, t)) (h : p.2.lore = s.lore) : t.lore = s.lore := by
  rw [e] at h; exact h

/-! ### The named operations -/

@[simp] theorem setSlice_lore (i x) : (s.setSlice i x).lore = s.lore := (rfl)
@[simp] theorem setPort_lore (i x) : (s.setPort i x).lore = s.lore := (rfl)
@[simp] theorem setHead_lore (i x) : (s.setHead i x).lore = s.lore := (rfl)
@[simp] theorem setPair_lore (dev x) : (s.setPair dev x).lore = s.lore := (rfl)
@[simp] theorem emit_lore (o) : (s.emit o).lore = s.lore := (rfl)
@[simp] theorem setReg_lore (page off w) : (s.setReg page off w).lore = s.lore := (rfl)
@[simp] theorem countUp_lore (page off lsb w by_) : (s.countUp page off lsb w by_).lore = s.lore := (rfl)

@[simp] theorem raiseAt_lore (page src w) : (s.raiseAt page src w).lore = s.lore := by rw [lore, lore, raiseAt_fxb]
@[simp] theorem raise_lore (page src) : (s.raise page src).lore = s.lore := raiseAt_lore s page src {}

@[simp] theorem perfAdd_lore (page fuel n k) : (s.perfAdd page fuel n k).lore = s.lore := by
  induction fuel generalizing s n k with
  | zero => rfl
  | succ fuel ih => simp [perfAdd, ih]

@[simp] theorem perfEvent_lore (page code k) : (s.perfEvent page code k).lore = s.lore := by simp [State.perfEvent]

/-! ### Sending -/

@[simp] theorem routeOut_lore (r m) : (s.routeOut r m).lore = s.lore := by
  unfold State.routeOut State.sendOn State.leave State.linkWake
  dsimp only
  repeat' split
  all_goals simp

@[simp] theorem retryTransit_lore : s.retryTransit.lore = s.lore := by simp [State.retryTransit]

@[simp] theorem sendPlain_lore (dst tag epoch status xinfo m) : (s.sendPlain dst tag epoch status xinfo m).lore = s.lore := by
  simp [State.sendPlain]

@[simp] theorem sendRsp_lore (dst tag epoch status xinfo m) : (s.sendRsp dst tag epoch status xinfo m).lore = s.lore := by
  simp [State.sendRsp]

@[simp] theorem sendSeq_lore (r m) : (s.sendSeq r m).lore = s.lore := by simp [State.sendSeq]
@[simp] theorem newTag_lore : s.newTag.2.lore = s.lore := by simp [State.newTag]
@[simp] theorem linkOut_lore (p m) : (s.linkOut p m).lore = s.lore := by simp [State.linkOut]
@[simp] theorem floodLink_lore (except_ m) : (s.floodLink except_ m).lore = s.lore := by simp [State.floodLink]
@[simp] theorem peerDone_lore (dev tag rank) : (s.peerDone dev tag rank).lore = s.lore := by simp [State.peerDone, State.closeMarks]

/-! ### Answers -/

@[simp] theorem gpfCheck_lore (h) : (s.gpfCheck h).lore = s.lore := by
  unfold State.gpfCheck
  dsimp only
  split <;> simp

@[simp] theorem headDone_lore (h tag kind rank) : (s.headDone h tag kind rank).lore = s.lore := by
  unfold State.headDone
  dsimp only
  split <;> simp

@[simp] theorem dedupNote_lore (dev tag point old) : (s.dedupNote dev tag point old).lore = s.lore := (rfl)

@[simp] theorem copyAck_lore (dev line page status) : (s.copyAck dev line page status).lore = s.lore := by
  unfold State.copyAck
  dsimp only
  repeat' split
  all_goals simp

@[simp] theorem answerRead_lore (who data poison) : (s.answerRead who data poison).lore = s.lore := by
  unfold State.answerRead
  split <;> simp

@[simp] theorem answerPoint_lore (w point last) : (s.answerPoint w point last).lore = s.lore := by
  unfold State.answerPoint
  split <;> simp

@[simp] theorem answerBad_lore (w rank) : (s.answerBad w rank).lore = s.lore := by
  unfold State.answerBad
  split <;> simp

@[simp] theorem answerRefused_lore (w) : (s.answerRefused w).lore = s.lore := by
  unfold State.answerRefused
  split <;> simp

@[simp] theorem answerAtomic_lore (who old poison) : (s.answerAtomic who old poison).lore = s.lore := by
  unfold State.answerAtomic
  split <;> simp

/-! ### Admission at a slice -/

@[simp] theorem missRead_lore (n a w) : (s.missRead n a w).lore = s.lore := by
  unfold State.missRead
  dsimp only
  repeat' split
  all_goals simp [State.setMiss]

@[simp] theorem readWay_lore (n a e) : (s.readWay n a e).2.lore = s.lore := by
  unfold State.readWay
  dsimp only
  repeat' split
  all_goals simp

@[simp] theorem lookRead_lore (n a w) : (s.lookRead n a w).lore = s.lore := by
  unfold State.lookRead
  dsimp only
  iterate 4
    split
    · simp
  split
  next e => simp [lore_of_eq e (readWay_lore ..)]
  next e => simp [lore_of_eq e (readWay_lore ..)]

@[simp] theorem admitRead_lore (n a w) : (s.admitRead n a w).lore = s.lore := by simp [State.admitRead]

@[simp] theorem ackEarly_lore (e) : (s.ackEarly e).lore = s.lore := by
  unfold State.ackEarly
  split
  · rfl
  · refine each_lore _ _ _ fun t w => ?_
    repeat' split
    all_goals simp

@[simp] theorem admitEntry_lore (n e) : (s.admitEntry n e).lore = s.lore := by
  unfold State.admitEntry
  dsimp only
  repeat' split
  case h_1.isFalse => exact (each_lore _ _ _ fun t w => by split <;> simp).trans (by simp)
  all_goals simp

@[simp] theorem discardEntry_lore (e) : (s.discardEntry e).lore = s.lore := by
  refine each_lore _ _ _ fun t w => ?_
  repeat' split
  all_goals simp

@[simp] theorem admitOne_lore (n kept r) : (s.admitOne n kept r).2.lore = s.lore := by
  unfold State.admitOne
  dsimp only
  repeat' split
  all_goals simp

@[simp] theorem admitList_lore (n kept l) : (s.admitList n kept l).2.lore = s.lore := by
  induction l generalizing s kept with
  | nil => rfl
  | cons r t ih => simp [admitList, ih]

@[simp] theorem arrive_lore (r) : (s.arrive r).lore = s.lore := by simp [State.arrive, State.admitAll]

/-! ### Requests to other modules -/

@[simp] theorem runLocal_lore (q) : (s.runLocal q).lore = s.lore := by
  unfold State.runLocal
  split <;> simp [State.localRead, State.localStore, State.localAtomic]

@[simp] theorem offerRemote_lore (q) : (s.offerRemote q).lore = s.lore := by simp [State.offerRemote, State.sendRemote]
@[simp] theorem offerAgain_lore (q) : (s.offerAgain q).lore = s.lore := by simp [State.offerAgain]
@[simp] theorem dropRemote_lore (tag) : (s.dropRemote tag).lore = s.lore := by simp [State.dropRemote, State.retryWaitq]

/-! ### A module that has died (R160, R384) -/

@[simp] theorem reissue_lore (q e) : (s.reissue q e).lore = s.lore := by
  unfold State.reissue State.reissueHere
  dsimp only
  repeat' split
  all_goals simp

@[simp] theorem markerEnd_lore (q) : (s.markerEnd q).lore = s.lore := by
  unfold State.markerEnd
  split <;> simp [State.barrierPeer, State.gpfPeerEnd]

@[simp] theorem reissueAll_lore (gsn old) : (s.reissueAll gsn old).lore = s.lore := by
  unfold State.reissueAll
  split
  · rfl
  · refine each_lore _ _ _ fun t q => ?_
    split <;> simp

@[simp] theorem ownerDead_lore (dev) : (s.ownerDead dev).lore = s.lore := by simp [State.ownerDead]

/-! ### The custodian's rows and operations (R374, R394, R395) -/

@[simp] theorem answerCust_lore (dst g st gsn owner) : (s.answerCust dst g st gsn owner).lore = s.lore := by simp [State.answerCust]
@[simp] theorem tellHead_lore (o rd wr) : (s.tellHead o rd wr).lore = s.lore := by simp [State.tellHead, State.dropCust]

@[simp] theorem endCust_lore (o st) : (s.endCust o st).lore = s.lore := by
  unfold State.endCust
  extract_lets t u
  have dropped : t.lore = s.lore := rfl
  have told : u.lore = s.lore := by
    refine Eq.trans ?_ dropped
    unfold u
    repeat' split
    all_goals simp [State.setCust, State.evacDone, State.dropCust]
  split
  · split <;> simp [told]
  · exact told

@[simp] theorem deathRow_lore (dev n) : (s.deathRow dev n).2.lore = s.lore := by
  unfold State.deathRow
  extract_lets r g again abort aborted queued
  have again_lore (t : State) : (again t).lore = t.lore := rfl
  have abort_lore (t : State) : (abort t).lore = t.lore := by
    unfold abort
    split <;> rfl
  have aborted_lore : aborted.lore = s.lore := abort_lore s
  repeat' split
  all_goals simp [again_lore, abort_lore, aborted_lore, State.queueCommit]

@[simp] theorem deathRows_lore (dev) : (s.deathRows dev).lore = s.lore := by
  unfold State.deathRows
  extract_lets rows queued x base sve t u
  have rowsDone : ∀ (l : List Nat) (acc : List Nat × State), (l.foldl (fun (acc : List Nat × State) n =>
      ((if (acc.2.deathRow dev n).1 then acc.1 ++ [n] else acc.1), (acc.2.deathRow dev n).2)) acc).2.lore = acc.2.lore := by
    intro l
    induction l with
    | nil => exact fun _ => rfl
    | cons n l ih => exact fun acc => (ih _).trans (deathRow_lore ..)
  have died : x.2.lore = s.lore := rowsDone ..
  refine (each_lore _ _ _ fun t o => endCust_lore ..).trans ?_
  have told : u.lore = t.lore := by
    unfold u
    split <;> simp
  exact told.trans died

/-! ### Roles (R353, R354) -/

@[simp] theorem sendClaims_lore (dst) : (s.sendClaims dst).lore = s.lore := by simp [State.sendClaims]
@[simp] theorem setRoles_lore (cust) : (s.setRoles cust).lore = s.lore := by simp [State.setRoles]

@[simp] theorem dbChanged_lore : s.dbChanged.lore = s.lore := by
  unfold State.dbChanged
  extract_lets t fxb u
  have raised : t.lore = s.lore := by
    unfold t
    split <;> simp
  have eligible : u.lore = s.lore := by
    refine Eq.trans ?_ raised
    unfold u
    split <;> rfl
  split
  · exact (setRoles_lore ..).trans eligible
  · split
    · exact eligible
    · exact (raise_lore ..).trans eligible

/-! ### The pins (R488) -/

theorem withPins_fxb (f : State → State) : (s.withPins f).fxb = (f s).fxb := by
  have ibi (t : State) (mdb payload) : (t.sendIbi mdb payload).fxb = t.fxb := by simp [State.sendIbi]
  have record (t : State) (h log r) : (t.postRec h log r).fxb = t.fxb := by simp [State.postRec, State.logInterrupt]
  have event (t : State) : t.memoryEvent.fxb = t.fxb := each_same State.fxb fun u h => record u h 0 _
  simp only [State.withPins, State.pinIbis, ite_fxb, ibi, event, ite_self]

end Sys2Proof.Machine.State
end

section
/-! PROOFS. What arrives at a port about the fabric (R327, R349 to R351, R355, R358): HELLO, an LSA, a request and a grant of a device number, and
the epoch of the escape tree. -/

namespace Sys2Proof.Machine

open Sys2Proof

variable {s : State} {n : Nat}

/-! ### HELLO (R327, R346, R349) -/

section
variable (active : (s.port n).st = 3) (open_ : (s.port n).keys.valid = false) {h : Hello} (other : h.serial ≠ ownSerial)
include active open_ other

/-- HELLO of the same fabric names the partner of an Active port. -/
theorem State.helloIn_partner (same : h.fabid = s.reg 0x180 0x114) : ((s.helloIn n h).port n).settled =
    Port.settled { s.port n with partnerDev := h.dev, partnerConf := h.conf, partnerSerial := h.serial } := by
  unfold State.helloIn
  dsimp only
  rw [if_neg (by simp [active]), if_neg (by simp [open_]), if_neg (by simp [other, same]), if_neg (by simp [active])]
  split
  · rw [State.linkChanged_settled, State.port_setPort]
  · rw [State.port_setPort]

/-- HELLO of another fabric isolates the port, with cause 9. -/
theorem State.helloIn_isolates (differs : h.fabid ≠ s.reg 0x180 0x114) :
    ((s.helloIn n h).port n).st = 4 ∧ ((s.helloIn n h).port n).cause = 9 := by
  unfold State.helloIn
  dsimp only
  rw [if_neg (by simp [active]), if_neg (by simp [open_]), if_pos (by simp [differs]), if_neg (by simp [active]), if_neg (by simp [active])]
  have isolated := (State.linkChanged_settled _ n).trans (congrArg Port.settled
    ((State.port_of_ports (State.raiseAt_ports (s.setPort n { s.port n with
      partnerDev := h.dev, partnerConf := h.conf, partnerSerial := h.serial, st := 4, phase := 0, exiting := false,
      cause := if h.serial == ownSerial then 10 else 9 }) (blockPage (n / 8)) .prtFabidMismatch { kind := 7, items := [n] }) n).trans
      (State.port_setPort s n _)))
  exact ⟨Port.read_of isolated Port.st fun _ => rfl,
    (Port.read_of isolated Port.cause fun _ => rfl).trans (if_neg (by simp [other]))⟩

end

/-- What a port has learnt of its partner, and whether it is Active. -/
def Port.greeting (x : Port) : Dev × Bool × BitVec 64 × Bool := (x.partnerDev, x.partnerConf, x.partnerSerial, x.st == 3)

namespace State

variable (s : State) (n : Nat)

theorem linkWake_greeting (p : Nat) : ((s.linkWake p).port n).greeting = (s.port n).greeting :=
  s.setPort_reads n (p := p) (x := (s.port p).launch 6 1 (.link .wake)) Port.greeting rfl

/-- A message that leaves may wake a Trickle port, and changes nothing else of what a port has learnt. -/
theorem leave_greeting (p : Nat) (r : Routing) (m : Msg) : ((s.leave p r m).port n).greeting = (s.port n).greeting := by
  unfold State.leave
  extract_lets x k r' wake launched x' s'
  have woken : (x'.st == 3) = (x.st == 3) := by
    by_cases wakes : wake = true
    · have trickle : x.st = 5 := by simpa using (Bool.and_eq_true_iff.mp wakes).1
      simp [x', wakes, trickle]
    · simp [x', wakes]
  have left : (s'.port n).greeting = (s.port n).greeting :=
    s.setPort_reads n (p := p) (x := x') Port.greeting (by rw [Port.greeting, woken]; rfl)
  split
  · exact (s'.linkWake_greeting n p).trans left
  · exact left

theorem sendOn_greeting (r : Routing) (m : Msg) : ((s.sendOn r m).port n).greeting = (s.port n).greeting := by
  unfold State.sendOn
  dsimp only
  split
  · rfl
  · split
    · exact s.leave_greeting n _ r m
    · rfl

theorem routeOut_greeting (r : Routing) (m : Msg) : ((s.routeOut r m).port n).greeting = (s.port n).greeting := by
  unfold State.routeOut
  split
  · exact s.sendOn_greeting n r m
  · split
    · exact congrArg Port.greeting (port_of_ports (raise_ports ..) n)
    · split
      · rfl
      · split
        · exact s.leave_greeting n _ _ m
        · rfl

theorem resendReqs_greeting (dev : Dev) : ((s.resendReqs dev).port n).greeting = (s.port n).greeting :=
  each_same (fun t => (t.port n).greeting) fun t u => t.routeOut_greeting n { u.r with esc := false, down := false } u.m

theorem resetPair_greeting (dev : Dev) (inst : BitVec 24) : ((s.resetPair dev inst).port n).greeting = (s.port n).greeting := by
  unfold State.resetPair
  extract_lets p renumber copies renewed
  have same : renewed.ports = s.ports := rfl
  rw [resendReqs_greeting, port_of_ports same]

/-- A module that has started anew restarts its pair's sequences, and leaves what the ports have learnt (R346). -/
theorem instanceSeen_greeting (dev : Dev) (inst : BitVec 24) : ((s.instanceSeen dev inst).port n).greeting = (s.port n).greeting := by
  unfold State.instanceSeen
  split
  · rfl
  · extract_lets renewed
    have same : (renewed.port n).greeting = (s.port n).greeting := s.resetPair_greeting n dev inst
    split
    · rw [← same]
      rfl
    · exact same

end State

/-- HELLO of the same fabric leaves the port Active, with its partner named. -/
theorem State.hello_partner (active : (s.port n).st = 3) (open_ : (s.port n).keys.valid = false) {h : Hello} (other : h.serial ≠ ownSerial)
    (same : h.fabid = s.reg 0x180 0x114) : ((s.hello n h).port n).greeting = (h.dev, h.conf, h.serial, true) := by
  have named := State.helloIn_partner active open_ other same
  have greeted : ((s.helloIn n h).port n).greeting = (h.dev, h.conf, h.serial, true) := by
    refine (Port.read_of named Port.greeting fun _ => rfl).trans ?_
    simp [Port.greeting, active]
  unfold State.hello
  dsimp only
  split
  · exact greeted
  · exact (State.instanceSeen_greeting _ n h.dev h.inst).trans greeted

theorem State.hello_isolates (active : (s.port n).st = 3) (open_ : (s.port n).keys.valid = false) {h : Hello} (other : h.serial ≠ ownSerial)
    (differs : h.fabid ≠ s.reg 0x180 0x114) : ((s.hello n h).port n).st = 4 ∧ ((s.hello n h).port n).cause = 9 := by
  obtain ⟨isolated, cause⟩ := State.helloIn_isolates active open_ other differs
  have stays : s.hello n h = s.helloIn n h := if_pos (by simp [isolated])
  rw [stays]
  exact ⟨isolated, cause⟩

/-! ### LSA (R350, R351) -/

namespace State

variable (s : State)

@[simp] theorem commitShadow_lore (page off) : (s.commitShadow page off).lore = s.lore := by
  unfold State.commitShadow
  split
  · rfl
  · dsimp only
    split <;> split <;> rfl

/-- A new LSA of this module takes the next sequence; the safe state originates none (R350, R518). -/
theorem originate_lore : s.originate.lore = { s.lore with lsaSeq := if s.safe then s.fxb.lsaSeq else s.fxb.lsaSeq + 1 } := by
  unfold State.originate
  split
  · rfl
  · have same := s.commitShadow_lore 0x180 0x110
    dsimp only
    rw [each_lore _ _ _ fun t g => floodLink_lore ..]
    exact congrArg (fun l : Lore => { l with lsaSeq := l.lsaSeq + 1 }) same

@[simp] theorem resendReqs_lore (dev) : (s.resendReqs dev).lore = s.lore := by simp [State.resendReqs]

@[simp] theorem resetPair_lore (dev inst) : (s.resetPair dev inst).lore = s.lore := by
  unfold State.resetPair
  dsimp only
  rw [resendReqs_lore, setPair_lore]

@[simp] theorem instanceSeen_lore (dev inst) : (s.instanceSeen dev inst).lore = s.lore := by
  simp [State.instanceSeen]

@[simp] theorem renewLease_lore : s.renewLease.lore = s.lore := by simp [State.renewLease]

theorem db_of_lore {s t : State} (h : t.lore = s.lore) : t.fxb.db = s.fxb.db := congrArg Lore.db h

/-- A new fragment of another origin is stored. -/
theorem lsaIn_stores {p : Nat} {x : LsaFrag} (other : x.serial ≠ ownSerial) (new : s.lsaNew x = true) : x ∈ (s.lsaIn p x).fxb.db := by
  unfold State.lsaIn
  rw [if_neg other, if_neg (by simp [new])]
  extract_lets warned settled stored seen leased flooded
  have db : stored.fxb.db = settled.fxb.db.filter (fun y => !(y.serial == x.serial && (lsaAbove x y || y.frag == x.frag))) ++ [x] := rfl
  have after_ : flooded.dbChanged.lore = stored.lore := by
    rw [dbChanged_lore]
    unfold flooded leased seen
    simp
  rw [db_of_lore after_, db]
  exact List.mem_append_right _ (List.mem_singleton_self x)

/-! ### Device numbers (R355) and the escape tree (R358) -/

@[simp] theorem setRing_lore (n v) : (s.setRing n v).lore = s.lore := by
  simp only [State.setRing, lore_ite, raise_lore, lore_rest, ite_self]

theorem grant_lore (serial dev) : (s.grant serial dev).lore =
    { s.lore with grants := s.fxb.grants.filter (fun g => g.1 != serial) ++ [(serial, dev)] } :=
  floodLink_lore _ none (.devGrant serial dev (ownSerial.setWidth 52))

theorem grant_grants (serial dev) : (serial, dev) ∈ (s.grant serial dev).fxb.grants := by
  rw [show (s.grant serial dev).fxb.grants = _ from congrArg Lore.grants (s.grant_lore serial dev)]
  exact List.mem_append_right _ (List.mem_singleton_self _)

/-- Whether there is a custodian to ask or not, this module has its number, and a new LSA says so. -/
theorem confirmDev_lore (dev) : (s.confirmDev dev).lore =
    ((({ s with fxb := { s.fxb with devnum := dev, conf := true } }).setRing 5 dev.toNat).originate).lore := by
  unfold State.confirmDev
  dsimp only
  split
  · rfl
  · simp

theorem confirmDev_confirms (dev) : (s.confirmDev dev).fxb.devnum = dev ∧ (s.confirmDev dev).fxb.conf = true := by
  have confirmed := s.confirmDev_lore dev
  rw [originate_lore, setRing_lore] at confirmed
  exact ⟨congrArg Lore.devnum confirmed, congrArg Lore.conf confirmed⟩

@[simp] theorem installEscape_lore : s.installEscape.lore = s.lore := by
  unfold State.installEscape
  dsimp only
  refine each_lore _ _ _ fun t d => ?_
  split
  · simp
  · simp

theorem newTree_lore (epoch) : (s.newTree epoch).lore = { s.lore with treeEpoch := epoch } := by
  unfold State.newTree
  dsimp only
  rw [installEscape_lore]
  rfl

theorem treeIn_installs {epoch} (normal : s.safe = false) (new : epoch ≠ s.fxb.treeEpoch) (p root) :
    (s.treeIn p root epoch).lore = { s.lore with treeEpoch := epoch } := by
  unfold State.treeIn
  rw [if_neg (by simp [normal, new]), retryTransit_lore, floodLink_lore, newTree_lore]

end State

/-! ### The commands -/

section
variable {p : Fin 512} (active : (s.port p.val).st = 3)
include active

theorem hello_meets (h : Hello) (open_ : (s.port p.val).keys.valid = false) (other : h.serial ≠ ownSerial) :
    (h.fabid = s.reg 0x180 0x114 → ∃ t, exec (.hello p h) s = .next t ∧ (t.port p.val).partnerDev = h.dev ∧
      (t.port p.val).partnerConf = h.conf ∧ (t.port p.val).partnerSerial = h.serial ∧ (t.port p.val).st = 3) ∧
    (h.fabid ≠ s.reg 0x180 0x114 → ∃ t, exec (.hello p h) s = .next t ∧ (t.port p.val).st = 4 ∧ (t.port p.val).cause = 9) := by
  have owing : (s.setPort p.val (s.owing p.val (.hello h))).port p.val = s.owing p.val (.hello h) := s.port_setPort ..
  have active' : ((s.setPort p.val (s.owing p.val (.hello h))).port p.val).st = 3 := by rw [owing]; exact active
  have open' : ((s.setPort p.val (s.owing p.val (.hello h))).port p.val).keys.valid = false := by rw [owing]; exact open_
  constructor
  · intro same
    refine ⟨_, rfl, ?_⟩
    rw [State.withPins_port, State.mgtIn_flits (by simp [Port.flits, active])]
    have greeted := State.hello_partner active' open' other same
    simpa [Port.greeting] using greeted
  · intro differs
    refine ⟨_, rfl, ?_⟩
    rw [State.withPins_port, State.mgtIn_flits (by simp [Port.flits, active])]
    exact State.hello_isolates active' open' other differs

theorem lsa_stores (l : LsaFrag) (other : l.serial ≠ ownSerial) (new : s.lsaNew l = true) :
    ∃ t, exec (.lsa p l) s = .next t ∧ l ∈ t.fxb.db := by
  refine ⟨_, rfl, ?_⟩
  rw [State.withPins_fxb, State.mgtIn_flits (by simp [Port.flits, active]), State.port_setPort,
    if_pos (by simp [State.owing, Port.carries, active])]
  exact State.lsaIn_stores _ other new

theorem devReq_answers (serial inst wanted) (normal : s.safe = false) :
    (s.fxb.role = 1 → ∃ t d, exec (.devReq p serial inst wanted) s = .next t ∧ (serial, d) ∈ t.fxb.grants) ∧
    (s.fxb.role ≠ 1 → (serial, wanted, false) ∉ s.fxb.flooded →
      ∃ t, exec (.devReq p serial inst wanted) s = .next t ∧ t.fxb.flooded = s.fxb.flooded ++ [(serial, wanted, false)]) := by
  have handled := State.mgtIn_flits (s := s) (n := p.val) (by simp [Port.flits, active]) (.devReq serial inst wanted)
    (fun s => s.devReqIn p.val serial inst wanted)
  have normal' : (s.setPort p.val (s.owing p.val (.devReq serial inst wanted))).safe = false := normal
  constructor
  · intro custodian
    exact ⟨_, _, congrArg Host.Outcome.next (handled.trans ((if_neg (by simp [normal'])).trans (if_pos custodian))),
      State.grant_grants ..⟩
  · intro member new
    refine ⟨_, congrArg Host.Outcome.next (handled.trans
      ((if_neg (by simp [normal'])).trans ((if_neg member).trans (if_neg new)))), ?_⟩
    exact congrArg Lore.flooded (State.floodLink_lore ..)

theorem devGrant_confirms (dev : Dev) (cust) :
    ∃ t, exec (.devGrant p ownSerial dev cust) s = .next t ∧ t.fxb.devnum = dev ∧ t.fxb.conf = true :=
  ⟨_, congrArg Host.Outcome.next ((State.mgtIn_flits (by simp [Port.flits, active]) (.devGrant ownSerial dev cust) _).trans (if_pos rfl)),
    State.confirmDev_confirms _ dev⟩

theorem tree_installs (root epoch) (normal : s.safe = false) (new : epoch ≠ s.fxb.treeEpoch) :
    ∃ t, exec (.tree p root epoch) s = .next t ∧ t.fxb.treeEpoch = epoch := by
  refine ⟨_, rfl, ?_⟩
  rw [State.withPins_fxb, State.mgtIn_flits (by simp [Port.flits, active])]
  exact congrArg Lore.treeEpoch (State.treeIn_installs (s.setPort p.val (s.owing p.val (.tree root epoch))) normal new p.val root)

end

/-- Settles O37, message by message. -/
theorem linkMessages : Obligations.LinkMessages := fun _ _ active =>
  ⟨hello_meets active, lsa_stores active, devReq_answers active, devGrant_confirms active, tree_installs active⟩

end Sys2Proof.Machine
end

section
/-! PROOFS. The timers of discovery (R350, R352 to R355, R357, R358, R362): the refresh, the expiry of an origin, the election, the routes, and the
commit of the fabric ID. -/

namespace Sys2Proof.Machine

open Sys2Proof

variable (s : State)

namespace State

/-! ### The refresh (R349, R350, R358) -/

@[simp] theorem linkOut_flt (p m) : (s.linkOut p m).flt = s.flt := by simp [State.linkOut]

@[simp] theorem sendHello_lore (n) : (s.sendHello n).lore = s.lore := linkOut_lore ..

/-- What is due of the escape tree takes no more than a new epoch. -/
theorem tendTree_lore : ∃ e, s.tendTree.lore = { s.lore with treeEpoch := e } := by
  unfold State.tendTree
  dsimp only
  split
  · exact ⟨s.fxb.treeEpoch, rfl⟩
  · split
    · exact ⟨s.fxb.treeEpoch, rfl⟩
    · split
      · exact ⟨s.fxb.treeEpoch, rfl⟩
      · exact ⟨_, (floodLink_lore ..).trans (newTree_lore ..)⟩

theorem originate_renews (normal : s.safe = false) : s.originate.lore = { s.lore with lsaSeq := s.fxb.lsaSeq + 1 } := by
  rw [originate_lore, normal, if_neg Bool.false_ne_true]

/-- The requests and grants that were passed on are forgotten. -/
def forget : State := { s with fxb := { s.fxb with flooded := [] } }

theorem forget_lore : s.forget.lore = { s.lore with flooded := [] } := rfl

theorem refresh_eq : s.refresh =
    (s.each ((s.ports.filter fun e => e.2.flits && e.2.phase != 5).map Prod.fst) (fun s n => s.sendHello n)).forget.originate.tendTree := rfl

theorem safe_of_flt {s t : State} (h : t.flt = s.flt) : t.safe = s.safe := congrArg (fun f : Flt => f.safe != 0) h

/-- What was passed on is forgotten, a new LSA goes out, and the escape tree is tended. -/
theorem refresh_lore (normal : s.safe = false) : ∃ e, s.refresh.lore =
    { s.lore with lsaSeq := s.fxb.lsaSeq + 1, flooded := [], treeEpoch := e } := by
  rw [refresh_eq]
  generalize greeted_eq : s.each _ _ = greeted
  have lore : greeted.lore = s.lore := by
    rw [← greeted_eq]
    exact each_lore _ _ _ sendHello_lore
  have flt : greeted.flt = s.flt := by
    rw [← greeted_eq]
    exact each_same State.flt fun t n => t.linkOut_flt n _
  obtain ⟨e, tended⟩ := greeted.forget.originate.tendTree_lore
  have renewed := greeted.forget.originate_renews ((safe_of_flt flt).trans normal)
  rw [forget_lore, lore] at renewed
  refine ⟨e, tended.trans ?_⟩
  rw [renewed]
  exact congrArg (fun l : Lore => { s.lore with lsaSeq := l.lsaSeq + 1, flooded := [], treeEpoch := e }) lore

theorem refresh_renews (normal : s.safe = false) : s.refresh.fxb.lsaSeq = s.fxb.lsaSeq + 1 ∧ s.refresh.fxb.flooded = [] := by
  obtain ⟨e, renewed⟩ := s.refresh_lore normal
  generalize s.refresh = t at renewed ⊢
  exact ⟨congrArg Lore.lsaSeq renewed, congrArg Lore.flooded renewed⟩

/-! ### An origin expires (R352, R369) -/

theorem originate_db : s.originate.fxb.db = s.fxb.db := congrArg Lore.db s.originate_lore

/-- A custodian that steps down originates a new LSA, and keeps its database. -/
theorem stepDown_db : s.stepDown.fxb.db = s.fxb.db := by
  unfold State.stepDown
  extract_lets l fxb sve idle answered
  have ended : answered.lore = idle.lore := by
    refine each_lore _ _ _ fun t o => ?_
    split <;> simp
  exact (originate_db _).trans ((db_of_lore ((raise_lore ..).trans ended)).trans rfl)

/-- The record of an expired origin is gone, whatever else its loss sets off. -/
theorem lsaExpired_removes {serial : BitVec 64} {x : Lsa} (found : s.fxb.db.find? (fun y => y.serial == serial) = some x) :
    (s.lsaExpired serial).fxb.db = s.fxb.db.filter (fun y => y.serial != serial) := by
  unfold State.lsaExpired
  split
  case h_1 missing => exact nomatch missing.symm.trans found
  case h_2 y _ =>
    extract_lets fxb dev act dropped raised died acted
    have died_db : died.fxb.db = dropped.fxb.db := by
      refine db_of_lore (Eq.trans ?_ (raise_lore dropped 0x180 .fxbLsaExpire))
      unfold died
      split
      · rfl
      · exact ownerDead_lore ..
    have acted_db : acted.fxb.db = died.fxb.db := by
      unfold acted
      split
      · exact died.stepDown_db
      · split
        · exact db_of_lore (deathRows_lore ..)
        · rfl
    exact (db_of_lore acted.dbChanged_lore).trans (acted_db.trans died_db)

/-! ### The election (R353, R354) -/

theorem electionSettled_none (none_ : s.eligible = []) : s.electionSettled.fxb = { s.fxb with
    noElig := true, quorum := false, cust := 0, stby1 := 0, stby2 := 0, role := 0 } := by
  unfold State.electionSettled
  rw [if_pos (by rw [none_]; rfl), raise_fxb]

theorem electionSettled_custodian {k : Byte × BitVec 64} (some_ : s.eligible ≠ []) (live : s.custodianKey = some k) :
    s.electionSettled = ({ s with fxb := { s.fxb with quorum := true } }).setRoles (some k.2) := by
  unfold State.electionSettled
  rw [if_neg (by simp [some_]), live]

/-! ### Routes (R357, R358) -/

theorem recomputeRoutes_settles (due : s.fxb.topoChanged = true) : s.recomputeRoutes.fxb.topoChanged = false := by
  unfold State.recomputeRoutes
  rw [if_neg (by simp [due])]
  extract_lets dests new fxb routed
  obtain ⟨e, tended⟩ := (routed.raise 0x180 .fxbTopology).tendTree_lore
  rw [raise_lore] at tended
  exact congrArg Lore.topoChanged ((retryTransit_lore _).trans tended)

/-! ### The fabric ID (R8, R362)

Ports go down and train again under the new fabric ID. An LSA that follows brings 0x110 of FXB into force and no other register, so the
fabric ID stays, and no port becomes a head's. -/

theorem commitShadow_reg {page off : Nat} {w : Word} (pending : page ∈ s.pages.committing) (found : s.shadow.find (regAddr page off) = some w) :
    (s.commitShadow page off).reg page off = w := by
  unfold State.commitShadow
  rw [if_neg (not_not_intro pending), found]
  dsimp only
  split
  · exact (reg_of_regs rfl _ _).trans (reg_setReg s page off w)
  · exact (reg_of_regs rfl _ _).trans (reg_setReg s page off w)

section
variable {page off : Nat} (inPage : off < 0x1000)
include inPage

theorem commitShadow_reg_other {page' off' : Nat} (inPage' : off' < 0x1000) (other : off ≠ off') :
    (s.commitShadow page' off').reg page off = s.reg page off := by
  have apart : regAddr page off ≠ regAddr page' off' := fun same => other ((regAddr_inj inPage inPage').mp same).2
  unfold State.commitShadow
  split
  · rfl
  · extract_lets stored pages
    have kept : stored.reg page off = s.reg page off := by
      unfold stored
      split
      · exact (reg_of_regs rfl _ _).trans (reg_setReg_other s _ apart)
      · rfl
    split
    · exact kept
    · exact (reg_of_regs rfl _ _).trans kept

end

@[simp] theorem linkOut_regs (p m) : (s.linkOut p m).regs = s.regs := by simp [State.linkOut]
@[simp] theorem floodLink_regs (except_ m) : (s.floodLink except_ m).regs = s.regs := each_same State.regs fun t p => t.linkOut_regs p m
@[simp] theorem beginTraining_regs (n) : (s.beginTraining n).regs = s.regs := by simp [State.beginTraining, State.trainStart]

section
variable {page off : Nat} (inPage : off < 0x1000) (other : off ≠ 0x110)
include inPage other

theorem originate_reg : s.originate.reg page off = s.reg page off := by
  unfold State.originate
  split
  · rfl
  · dsimp only
    refine (reg_of_regs (each_same State.regs fun t g => t.floodLink_regs none _) _ _).trans ?_
    exact (reg_of_regs rfl _ _).trans (s.commitShadow_reg_other inPage (by decide) other)

theorem linkChanged_reg : s.linkChanged.reg page off = s.reg page off := (originate_reg _ inPage other).trans (reg_of_regs rfl _ _)

variable (block : 0x100 ≤ off)
include block

theorem portDown_reg (n cause wait) : (s.portDown n cause wait).reg page off = s.reg page off := by
  unfold State.portDown
  extract_lets x st down at_ reported fxb forgotten
  have told : reported.reg page off = s.reg page off := by
    unfold reported
    split
    · exact raiseAt_reg _ block inPage _ _ _
    · split
      · exact raiseAt_reg _ block inPage _ _ _
      · rfl
  split
  · exact (linkChanged_reg _ inPage other).trans told
  · exact told

theorem retrain_one_reg {n : Nat} (head : s.isHeadPort n = false) (cause : Nat) : (s.retrain [n] cause).reg page off = s.reg page off := by
  have trains : s.retrain [n] cause = if s.elvucPort n then ((s.fence 2 n).portDown n cause false).beginTraining n else s :=
    if_neg (by simp [head])
  rw [trains]
  split
  · rw [reg_of_regs (beginTraining_regs ..), portDown_reg _ inPage other block, reg_of_regs (fence_regs ..)]
  · rfl

theorem retrain_reg {l : List Nat} (heads : ∀ n ∈ l, s.isHeadPort n = false) (cause : Nat) :
    (s.retrain l cause).reg page off = s.reg page off := by
  induction l generalizing s with
  | nil => rfl
  | cons n l ih =>
    have head := heads n List.mem_cons_self
    have later (m : Nat) (hm : m ∈ l) : (s.retrain [n] cause).isHeadPort m = false := by
      rw [State.isHeadPort, State.portCfg, s.retrain_one_reg (by decide) (by decide) (by decide) head]
      exact heads m (List.mem_cons_of_mem n hm)
    exact (ih (s.retrain [n] cause) later).trans (s.retrain_one_reg inPage other block head cause)

end

theorem elvucPort_not_head {n : Nat} (elvuc : s.elvucPort n = true) : s.isHeadPort n = false := by
  simpa using (Bool.and_eq_true_iff.mp elvuc).2

end State

/-! ### The commands -/

variable {s}

theorem refreshInterval_renews (up : s.up = true) (normal : s.safe = false) :
    ∃ t, exec .refreshInterval s = .next t ∧ t.fxb.lsaSeq = s.fxb.lsaSeq + 1 ∧ t.fxb.flooded = [] :=
  ⟨_, congrArg Host.Outcome.next (if_pos up), s.refresh_renews normal⟩

theorem lsaExpire_removes (serial : BitVec 64) (x : Lsa) (up : s.up = true) (found : s.fxb.db.find? (fun y => y.serial == serial) = some x) :
    ∃ u : State, exec (.lsaExpire serial) s = .next (s.withPins (fun _ => u.drain)) ∧ ∀ y ∈ u.fxb.db, y.serial ≠ serial := by
  refine ⟨s.lsaExpired serial, next_withPins (if_pos up), fun y kept => ?_⟩
  rw [s.lsaExpired_removes found] at kept
  simpa using (List.mem_filter.mp kept).2

theorem electionSettleExpiry_none (up : s.up = true) (none_ : s.eligible = []) :
    ∃ u : State, exec .electionSettleExpiry s = .next (s.withPins (fun _ => u.drain)) ∧
      u.fxb.cust = 0 ∧ u.fxb.role = 0 ∧ u.fxb.quorum = false ∧ u.fxb.noElig = true := by
  refine ⟨s.electionSettled, next_withPins (if_pos up), ?_⟩
  rw [s.electionSettled_none none_]
  exact ⟨rfl, rfl, rfl, rfl⟩

theorem electionSettleExpiry_custodian (k : Byte × BitVec 64) (up : s.up = true) (some_ : s.eligible ≠ []) (live : s.custodianKey = some k) :
    exec .electionSettleExpiry s = .next (s.withPins (fun s =>
      (({ s with fxb := { s.fxb with quorum := true } }).setRoles (some k.2)).drain)) :=
  next_withPins ((if_pos up).trans (congrArg State.drain (s.electionSettled_custodian some_ live)))

theorem devReqRepeat_floods (up : s.up = true) (unconfirmed : s.fxb.conf = false) (member : s.fxb.role ≠ 1) : exec .devReqRepeat s =
    .next (s.floodLink none (.devReq ownSerial s.instance_ (BitVec.ofNat 12 (s.ring 5)))) :=
  congrArg Host.Outcome.next ((if_pos up).trans (if_neg (by simpa [unconfirmed] using member)))

theorem routeHolddownExpiry_settles (due : s.fxb.topoChanged = true) :
    ∃ t, exec .routeHolddownExpiry s = .next t ∧ t.fxb.topoChanged = false := by
  refine ⟨_, rfl, ?_⟩
  rw [State.withPins_fxb]
  exact s.recomputeRoutes_settles due

theorem fxbFabidCommit_commits (w : Word) (found : s.shadow.find (regAddr 0x180 0x114) = some w) (pending : 0x180 ∈ s.pages.committing) :
    ∃ t, exec .fxbFabidCommit s = .next t ∧ t.reg 0x180 0x114 = w := by
  have committed := s.commitShadow_reg pending found
  refine ⟨_, rfl, ?_⟩
  rw [State.withPins_reg _ (by decide) (by decide) (by decide)]
  dsimp only
  rw [if_neg (by simp [found, pending])]
  split
  · exact committed
  · refine (State.retrain_reg _ (by decide) (by decide) (by decide) (fun n elvuc => ?_) 9).trans committed
    rw [State.isHeadPort, State.portCfg, s.commitShadow_reg_other (by decide) (by decide) (by decide)]
    exact s.elvucPort_not_head (List.mem_filter.mp elvuc).2

/-- Settles O38, timer by timer. -/
theorem discoveryTimers : Obligations.DiscoveryTimers := fun _ =>
  ⟨refreshInterval_renews, lsaExpire_removes, electionSettleExpiry_none, electionSettleExpiry_custodian, devReqRepeat_floods,
    routeHolddownExpiry_settles, rfl, fxbFabidCommit_commits⟩

end Sys2Proof.Machine
end

section
/-! PROOFS. The queue, the clocks and the state after AON reset (R10, R484, R502, R570, R571, R573, R605): a command keeps the waiting commands,
the outputs before it and the clocks, AON_RESET and the end of a recall excepted; an AON cycle can write a register, the PERF_CTL of a page whose
counter wraps. -/

namespace Sys2Proof.Machine

open Sys2Proof

/-- Settles O57, by what each command keeps; the two that write the clocks apart. -/
theorem queueAndTime : Obligations.QueueAndTime := by
  intro c s
  obtain ⟨t, runs, keeps⟩ | ⟨straps, rfl⟩ | ⟨a, b, rfl⟩ := exec_keeps_or_sets_clocks c s
  · exact ⟨t, runs, keeps.pending, keeps.out, .inl keeps.time, .inl ⟨keeps.opMs, keeps.opNs⟩⟩
  · obtain ⟨t, runs, grows, time, -, -⟩ := execAonReset_grows straps s
    exact ⟨t, runs, grows.pending, grows.out, .inr ⟨time, straps, rfl⟩, .inr (.inl ⟨straps, rfl⟩)⟩
  · obtain ⟨t, runs, grows, time⟩ := execRecallDone_grows a b s
    exact ⟨t, runs, grows.pending, grows.out, .inl time, .inr (.inr ⟨a, b, rfl⟩)⟩

/-! ### An AON cycle on an empty queue (R484, R570; log 1) -/

/-- Thermal-off, with counter 0 of PWR enabled for the cycles of its page and four short of its end: an AON cycle has 4 cycles of the PWR
domain, and in Thermal-off only the pages of that domain count. -/
def lastCycles : State :=
  { State.reset with
    regs := [(regAddr 0x002 0x38, 1)], perf := [(8 * 0x002, 2 ^ 48 - 4)], pages := { State.reset.pages with started := true },
    pwr := { State.reset.pwr with st := 9 } }

/-- The counter wraps and shows it in OVF of PERF_CTL. -/
theorem lastCycles_tick_overflows : lastCycles.tick.reg 0x002 0x38 = 0x00010001 := by decide +kernel

theorem lastCycles_reg : lastCycles.reg 0x002 0x38 = 0x00000001 := rfl

/-- Refutes O55: the AON cycle that passes on an empty queue counts in the performance counters, and a counter that wraps sets OVF in the
PERF_CTL register of its page, so the cycle does not leave the registers as they are. -/
theorem not_frontOfQueue : ¬ Obligations.FrontOfQueue := by
  intro ⟨_, idle⟩
  obtain ⟨-, -, -, regs⟩ := idle lastCycles rfl
  have same : lastCycles.tick.reg 0x002 0x38 = lastCycles.reg 0x002 0x38 := by
    rw [State.reg, regs, State.reg]
  rw [lastCycles_tick_overflows, lastCycles_reg] at same
  exact absurd same (by decide)

/-- Settles O56: each value is the one the reset state is written with, and an empty register file reads as the reset words. -/
theorem resetState : Obligations.ResetState :=
  ⟨⟨by decide, by decide, by decide⟩, rfl, rfl, rfl, rfl, rfl, rfl, rfl, rfl, fun _ _ => rfl⟩

end Sys2Proof.Machine
end

section
/-! PROOFS. The accesses of the register bus (R6, R9, R426, R450, R475, R480, R578): which branch of the bus each access takes, and what it leaves
behind. -/

namespace Sys2Proof.Machine

open Sys2Proof

variable {s : State} {q : Requester} {w : Word} {width : Nat}

/-! ### Addresses -/

theorem toNat_pageOff (page off : BitVec 12) : (page ++ off : BitVec 24).toNat = regAddr page.toNat off.toNat := by
  rw [BitVec.toNat_append, ← Nat.shiftLeft_add_eq_or_of_lt off.isLt, Nat.shiftLeft_eq, regAddr]

theorem pageOff_page (page off : BitVec 12) : (page ++ off : BitVec 24).toNat / 4096 = page.toNat := by
  have := off.isLt
  rw [toNat_pageOff, regAddr]
  omega

theorem pageOff_off (page off : BitVec 12) : (page ++ off : BitVec 24).toNat % 4096 = off.toNat := by
  have := off.isLt
  rw [toNat_pageOff, regAddr]
  omega

theorem pageOff_mod_four (page off : BitVec 12) : (page ++ off : BitVec 24).toNat % 4 = off.toNat % 4 := by
  rw [toNat_pageOff, regAddr]
  omega

/-- The pages that no block holds (R578). -/
theorem pageKind_eq_none {p : Nat} (small : p < 4096) :
    pageKind p = none ↔ p = 0x007 ∨ (0x029 ≤ p ∧ p ≤ 0x02f) ∨ (0x032 ≤ p ∧ p ≤ 0x03f) ∨ (0x081 ≤ p ∧ p ≤ 0x0ff) ∨
      (0x141 ≤ p ∧ p ≤ 0x17f) ∨ (0x182 ≤ p ∧ p ≤ 0x1bf) ∨ (0x209 ≤ p ∧ p ≤ 0x2ff) ∨ (0x301 ≤ p ∧ p ≤ 0xeff) ∨ (0xf10 ≤ p ∧ p ≤ 0xfff) := by
  simp only [pageKind, ite_eq_iff, reduceCtorEq, and_false, false_or, and_true, Bool.and_eq_true, decide_eq_true_eq]
  omega

/-! ### A command is its access (R6) -/

/-- A write that reaches the bus is what the bus makes of it, with what follows. -/
theorem registerWrite_does {addr : BitVec 24} {effect : State → State} (reach : s.reaches q = true)
    (bus : s.busWrite q addr.toNat width w = effect s) :
    exec (.registerWrite q addr width w) s = .next (s.withPins (fun s => (effect s).drain)) := by
  have e : s.regWrite q addr.toNat width w = (effect s).drain := by rw [State.regWrite, if_pos reach, bus]
  exact congrArg Host.Outcome.next (withPins_congr e)

/-- A read that reaches the bus answers the bus's word. -/
theorem registerRead_does {addr : BitVec 24} {effect : State → State} (reach : s.reaches q = true)
    (bus : s.busRead q addr.toNat width = (some w, effect s)) :
    exec (.registerRead q addr width) s = .next (s.withPins (fun s => (effect s).emit (.regRead q addr w))) := by
  have e : s.regRead q addr width = (effect s).emit (.regRead q addr w) := by
    rw [regRead_of_busRead reach (w := w) (by rw [bus]), bus]
  exact congrArg Host.Outcome.next (withPins_congr e)

section
variable {addr : Nat} (started : s.pages.started = true)
include started

/-! ### Writes (R450, R480) -/

section
variable (open_ : s.windowShut q = none)
include open_

/-- A write to a page that holds no block, by a requester that may write registers. -/
theorem busWrite_unmapped (none_ : pageKind (addr / 4096) = none) (right : s.hasRight q 0 = true) :
    s.busWrite q addr width w = s.unmapped := by
  simp [State.busWrite, started, open_, none_, right]

variable {k : PageKind} (kind : pageKind (addr / 4096) = some k)
include kind

/-- The right is looked at before the register. -/
theorem busWrite_denied (right : s.mayWrite q (addr % 4096) w = false) : s.busWrite q addr width w = s.writeDenied q := by
  simp [State.busWrite, started, open_, kind, right]

/-- A whole word for a register that a rule of it forbids. -/
theorem busWrite_forbidden {r : RegWord} (word : regWord (addr / 4096) (addr % 4096) = some r)
    (right : s.mayWrite q (addr % 4096) w = true) (rule : s.writeOk q (addr / 4096) k r w = false) :
    s.busWrite q addr 4 w = s.reject (addr / 4096) := by
  simp [State.busWrite, started, open_, kind, right, word, rule]

end

/-! ### Reads (R426, R475, R480) -/

theorem busRead_shut {h : Fin 64} (shut : s.windowShut q = some h) : s.busRead q addr width = (some 0, s.headDenied h.val) := by
  simp [State.busRead, started, shut]

variable (open_ : s.windowShut q = none)
include open_

theorem busRead_unmapped (none_ : pageKind (addr / 4096) = none) : s.busRead q addr width = (some 0, s.unmapped) := by
  simp [State.busRead, started, open_, none_]

variable {k : PageKind} (kind : pageKind (addr / 4096) = some k) (closed : s.blockClosed (addr / 4096) k (addr % 4096) = false)
  (aligned : addr % 4 = 0)
include kind closed aligned

omit open_ in
/-- I3C reads the FIFOs by CPL_POP and CMD_PUSH alone. -/
theorem busRead_i3cFifo (fifo : addr ∈ fifoAddrs) : s.busRead .i3c addr 4 = (some 0, s.reject (addr / 4096)) := by
  simp [State.busRead, started, show s.windowShut .i3c = none from rfl, kind, closed, aligned, fifo]

/-- Any other register but the head of the completion FIFO answers its word. -/
theorem busRead_word {r : RegWord} (word : regWord (addr / 4096) (addr % 4096) = some r) (fifo : ¬ (q = .i3c ∧ addr ∈ fifoAddrs))
    (head : addr ≠ 0x000120) : (s.busRead q addr 4).1 = some (s.readWord q (addr / 4096) k r).1 := by
  simp [State.busRead, started, open_, kind, closed, aligned, fifo, head, word]

end

/-- Settles O54, from the table of the pages and the bus's answers for a page without a block. -/
theorem emptyPages : Obligations.EmptyPages := fun p small =>
  ⟨pageKind_eq_none small, by
    rintro none_ s q addr rfl reach started open_
    exact ⟨fun _ => registerRead_does reach (busRead_unmapped started open_ none_),
      fun _ _ right => registerWrite_does reach (busWrite_unmapped started open_ none_ right)⟩⟩

/-! ### Accesses by page and offset -/

/-- An access that every rule allows does what its register gives. -/
theorem registerWrite_accepted {page off : BitVec 12} {k : PageKind} {r : RegWord} (kind : pageKind page.toNat = some k)
    (word : regWord page.toNat off.toNat = some r) (ok : s.accepts q page.toNat off.toNat w = true) :
    exec (.registerWrite q (page ++ off) 4 w) s = .next (s.withPins (fun s => (s.acceptWrite q page.toNat k r w).drain)) := by
  have e : s.regWrite q (page ++ off).toNat 4 w = (s.acceptWrite q page.toNat k r w).drain := by
    rw [toNat_pageOff]
    exact pageWrite_accepts off.isLt (regWord_aligned word) kind word ok
  exact congrArg Host.Outcome.next (withPins_congr e)

section
variable {page off : BitVec 12} (started : s.pages.started = true) (reach : s.reaches q = true)
include started reach

section
variable (open_ : s.windowShut q = none)
include open_

theorem registerWrite_forbidden {k : PageKind} {r : RegWord} (kind : pageKind page.toNat = some k)
    (word : regWord page.toNat off.toNat = some r) (right : s.mayWrite q off.toNat w = true)
    (rule : s.writeOk q page.toNat k r w = false) :
    exec (.registerWrite q (page ++ off) 4 w) s = .next (s.withPins (fun s => (s.reject page.toNat).drain)) := by
  rw [← pageOff_page page off] at kind word rule ⊢
  rw [← pageOff_off page off] at word right
  exact registerWrite_does reach (busWrite_forbidden started open_ kind word right rule)

theorem registerWrite_denied {k : PageKind} (kind : pageKind page.toNat = some k) (right : s.mayWrite q off.toNat w = false) :
    exec (.registerWrite q (page ++ off) width w) s = .next (s.withPins (fun s => (s.writeDenied q).drain)) := by
  rw [← pageOff_page page off] at kind
  rw [← pageOff_off page off] at right
  exact registerWrite_does reach (busWrite_denied started open_ kind right)

theorem registerRead_word {k : PageKind} {r : RegWord} (kind : pageKind page.toNat = some k)
    (word : regWord page.toNat off.toNat = some r) (closed : s.blockClosed page.toNat k off.toNat = false)
    (head : page ++ off ≠ (0x000120 : BitVec 24)) (fifo : ¬ (q = .i3c ∧ (page ++ off).toNat ∈ fifoAddrs)) :
    ∃ t, exec (.registerRead q (page ++ off) 4) s = .next t ∧
      .regRead q (page ++ off) (s.readWord q page.toNat k r).1 ∈ t.out := by
  have aligned : (page ++ off).toNat % 4 = 0 := (pageOff_mod_four page off).trans (regWord_aligned word)
  rw [← pageOff_page page off] at kind word closed ⊢
  rw [← pageOff_off page off] at word closed
  have bus := busRead_word started open_ kind closed aligned word fifo (fun h => head (BitVec.eq_of_toNat_eq h))
  refine ⟨_, rfl, mem_out_withPins ?_⟩
  rw [regRead_of_busRead reach bus]
  simp

end

theorem registerRead_i3cFifo {k : PageKind} (i3c : q = .i3c) (kind : pageKind page.toNat = some k)
    (closed : s.blockClosed page.toNat k off.toNat = false) (aligned : off.toNat % 4 = 0) (fifo : (page ++ off).toNat ∈ fifoAddrs) :
    exec (.registerRead q (page ++ off) 4) s =
      .next (s.withPins (fun s => (s.reject page.toNat).emit (.regRead q (page ++ off) 0))) := by
  subst i3c
  rw [← pageOff_mod_four page off] at aligned
  rw [← pageOff_page page off] at kind closed ⊢
  rw [← pageOff_off page off] at closed
  exact registerRead_does reach (busRead_i3cFifo started kind closed aligned fifo)

end

/-- Settles O23, branch by branch of the bus. -/
theorem registerAccess : Obligations.RegisterAccess := by
  intro s q page off w started reach
  refine ⟨fun k r kind word _ => ⟨registerWrite_accepted kind word,
      fun open_ right _ rule => registerWrite_forbidden started reach open_ kind word right rule⟩,
    fun k kind open_ => ⟨registerWrite_denied started reach open_ kind, fun right width other => ?_⟩,
    fun none_ open_ right width => registerWrite_does reach (busWrite_unmapped started open_ (by rwa [pageOff_page]) right),
    fun none_ open_ width => registerRead_does reach (busRead_unmapped started open_ (by rwa [pageOff_page])),
    fun h shut width => registerRead_does reach (busRead_shut started shut),
    fun k r kind word aligned open_ closed => ⟨registerRead_word started reach open_ kind word closed,
      fun i3c => registerRead_i3cFifo started reach i3c kind closed aligned⟩⟩
  rw [← pageOff_mod_four page off] at other
  rw [← pageOff_page page off] at kind ⊢
  rw [← pageOff_off page off] at right
  exact registerWrite_unaligned reach other started open_ kind right

end Sys2Proof.Machine
end

section
/-! PROOFS. The common command codes of I3C, Hot-Join and the IBIs that are sent again (R470 to R473, R477, R488): every code ends HDR mode, a
SET answers by an acknowledgement, and a direct GET is answered at a dynamic address alone. -/

namespace Sys2Proof.Machine

open Sys2Proof

variable {s : State} {addr : BitVec 7} {len : BitVec 16}

/-! ### Events (ENEC, DISEC) -/

theorem setEvents_bitAt8 (b : Byte) (i : Nat) : State.setEvents.bitAt8 b i = b.getLsbD i := by
  rw [State.setEvents.bitAt8, BitVec.getLsbD, Nat.testBit_eq_decide_div_mod_eq]
  rfl

/-- Bit 0 of the byte is for IBIs, bit 3 for Hot-Join. -/
theorem State.setEvents_mgt (s : State) (ev : Byte) (on : Bool) :
    (s.setEvents ev on).mgt.ibiEn = (if ev.getLsbD 0 then on else s.mgt.ibiEn) ∧
      (s.setEvents ev on).mgt.hjEn = (if ev.getLsbD 3 then on else s.mgt.hjEn) := by
  rw [← setEvents_bitAt8, ← setEvents_bitAt8]
  exact ⟨rfl, rfl⟩

theorem enec_enables (s : State) (ev : Byte) : ∃ t, exec (.enec ev) s = .next t ∧ t.out = s.out ++ [.i3cAck] ∧ t.mgt.hdr = false ∧
    t.mgt.ibiEn = (s.mgt.ibiEn || ev.getLsbD 0) ∧ t.mgt.hjEn = (s.mgt.hjEn || ev.getLsbD 3) := by
  obtain ⟨ibi, hj⟩ := s.setEvents_mgt ev true
  exact ⟨_, rfl, rfl, rfl, ibi.trans (by rw [Bool.if_true_left, Bool.or_comm, Bool.decide_eq_true]),
    hj.trans (by rw [Bool.if_true_left, Bool.or_comm, Bool.decide_eq_true])⟩

theorem disec_disables (s : State) (ev : Byte) : ∃ t, exec (.disec ev) s = .next t ∧ t.out = s.out ++ [.i3cAck] ∧ t.mgt.hdr = false ∧
    t.mgt.ibiEn = (s.mgt.ibiEn && !ev.getLsbD 0) ∧ t.mgt.hjEn = (s.mgt.hjEn && !ev.getLsbD 3) := by
  obtain ⟨ibi, hj⟩ := s.setEvents_mgt ev false
  exact ⟨_, rfl, rfl, rfl, ibi.trans (by rw [Bool.if_false_left, Bool.and_comm, Bool.decide_eq_true]),
    hj.trans (by rw [Bool.if_false_left, Bool.and_comm, Bool.decide_eq_true])⟩

/-! ### Addresses (R471) -/

theorem entdaa_takes (legacy : s.mgt.dyn = none) : exec (.entdaa addr) s =
    .next { s with mgt := { s.mgt with hdr := false, dyn := some addr },
                   out := s.out ++ [.i3cBytes (msbBytes 6 provisionedId ++ [0x26, 0x00])] } :=
  congrArg Host.Outcome.next (if_neg (by simp [State.ccc, legacy]))

theorem setdasa_takes {st : BitVec 7} (legacy : s.mgt.dyn = none) (own : st.toNat = s.mgt.statAddr) : exec (.setdasa st addr) s =
    .next { s with mgt := { s.mgt with hdr := false, dyn := some addr }, out := s.out ++ [.i3cAck] } :=
  congrArg Host.Outcome.next (if_pos (by simp [State.ccc, legacy, own, Mgt.statAddr]))

theorem setdasa_refuses {st : BitVec 7} (other : s.mgt.dyn ≠ none ∨ st.toNat ≠ s.mgt.statAddr) : exec (.setdasa st addr) s =
    .next { s with mgt := { s.mgt with hdr := false }, out := s.out ++ [.i3cNack] } := by
  refine congrArg Host.Outcome.next (if_neg ?_)
  rw [Bool.and_eq_true, Option.isNone_iff_eq_none, decide_eq_true_eq]
  exact fun ⟨legacy, own⟩ => other.elim (· legacy) (· own)

theorem setnewda_takes (dynamic : s.mgt.dyn ≠ none) : exec (.setnewda addr) s =
    .next { s with mgt := { s.mgt with hdr := false, dyn := some addr }, out := s.out ++ [.i3cAck] } :=
  congrArg Host.Outcome.next (if_pos (Option.isSome_iff_ne_none.mpr dynamic))

/-! ### Lengths (R470) -/

theorem setmwl_takes (low : 64 ≤ len.toNat) (high : len.toNat ≤ 516) : exec (.setmwl len) s =
    .next { s with mgt := { s.mgt with hdr := false, mwl := len }, out := s.out ++ [.i3cAck] } :=
  congrArg Host.Outcome.next (if_pos (by simp [low, high]))

theorem setmrl_takes (low : 64 ≤ len.toNat) (high : len.toNat ≤ 512) : exec (.setmrl len) s =
    .next { s with mgt := { s.mgt with hdr := false, mrl := len }, out := s.out ++ [.i3cAck] } :=
  congrArg Host.Outcome.next (if_pos (by simp [low, high]))

theorem setmwl_refuses (short : len.toNat < 64) : exec (.setmwl len) s =
    .next { s with mgt := { s.mgt with hdr := false }, out := s.out ++ [.i3cNack] } :=
  congrArg Host.Outcome.next (if_neg (by simp [Nat.not_le.mpr short]))

theorem setmrl_refuses (short : len.toNat < 64) : exec (.setmrl len) s =
    .next { s with mgt := { s.mgt with hdr := false }, out := s.out ++ [.i3cNack] } :=
  congrArg Host.Outcome.next (if_neg (by simp [Nat.not_le.mpr short]))

/-! ### Direct GETs (R470, R473) -/

theorem State.cccGet_dynamic (dynamic : s.mgt.dyn ≠ none) (b : List Byte) :
    s.cccGet b = { s with mgt := { s.mgt with hdr := false }, out := s.out ++ [.i3cBytes b] } :=
  if_pos (Option.isSome_iff_ne_none.mpr dynamic)

theorem State.cccGet_legacy (legacy : s.mgt.dyn = none) (b : List Byte) :
    s.cccGet b = { s with mgt := { s.mgt with hdr := false }, out := s.out ++ [.i3cNack] } :=
  if_neg (by simp [State.ccc, legacy])

/-- The codes that are a GET, with the bytes they answer. -/
def directGets (s : State) : List (Instr × List Byte) :=
  [(.getmwl, msbBytes 2 s.mgt.mwl.toNat), (.getmrl, msbBytes 2 s.mgt.mrl.toNat ++ [3]), (.getpid, msbBytes 6 provisionedId), (.getbcr, [0x26]),
   (.getdcr, [0x00]), (.getmxds, [0x00, 0x00]), (.getcaps, [0x01, 0x01, 0x00, 0x00])]

theorem directGets_exec : ∀ p ∈ directGets s, exec p.1 s = .next (s.cccGet p.2) := by
  simp only [directGets, List.forall_mem_cons]
  exact ⟨rfl, rfl, rfl, rfl, rfl, rfl, rfl, fun _ none_ => nomatch none_⟩

theorem getstatus_answers (dynamic : s.mgt.dyn ≠ none) : exec .getstatus s =
    .next { s with mgt := { s.mgt with hdr := false, protoErr := false }, out := s.out ++ [.i3cBytes (msbBytes 2 s.getStatus.toNat)] } := by
  refine congrArg Host.Outcome.next ?_
  rw [State.getstatus, State.cccGet_dynamic dynamic, if_pos (Option.isSome_iff_ne_none.mpr dynamic)]

/-! ### Hot-Join and IBIs (R472, R488) -/

theorem hotJoinRepeat_sends (legacy : s.mgt.dyn = none) (enabled : s.mgt.hjEn = true) :
    exec .hotJoinRepeat s = .next { s with out := s.out ++ [.hotJoin] } :=
  congrArg Host.Outcome.next (if_pos (by simp [legacy, enabled]))

theorem ibiResend_sends {m : Byte} {p : List Byte} (last : s.mgt.ibis.getLast? = some (m, p)) :
    exec .ibiResend s = .next { s with out := s.out ++ [.ibi m (s.ibiNow m p)] } := by
  refine congrArg Host.Outcome.next ?_
  rw [State.ibiResend, last]
  rfl

/-- Settles O27, code by code. -/
theorem i3cCodes : Obligations.I3cCodes := fun s ev _ _ =>
  ⟨enec_enables s ev, disec_disables s ev, rfl, entdaa_takes, fun _ => setdasa_takes, fun _ => setdasa_refuses, setnewda_takes,
   setmwl_takes, setmrl_takes, fun short => ⟨setmwl_refuses short, setmrl_refuses short⟩,
   fun dynamic p get => (directGets_exec p get).trans (congrArg Host.Outcome.next (State.cccGet_dynamic dynamic _)),
   fun legacy c get => by
    obtain ⟨p, listed, rfl⟩ : ∃ p ∈ directGets s, p.1 = c := List.mem_map.mp get
    exact (directGets_exec p listed).trans (congrArg Host.Outcome.next (State.cccGet_legacy legacy _)),
   getstatus_answers, rfl, fun _ => rfl, hotJoinRepeat_sends, fun _ _ => ibiResend_sends⟩

end Sys2Proof.Machine
end

section
/-! PROOFS. What events, records and IBIs leave alone (R424, R425, R483, R487, R488, R512): an operation that only tells of something writes the
event words, FLT, the IBIs that wait and the event logs of the heads, and drives outputs; all else stays as it was. -/

namespace Sys2Proof.Machine

open Sys2Proof

/-- A head without its event logs. -/
def Head.unlogged (x : Head) : Head := { x with logs := [], logOvf := [], nextHdl := 0 }

/-- A state that differs from the one before it by what has been told alone. -/
structure Noticed (s t : State) : Prop where
  parts : ∃ o r i f h, t = { s with out := o, regs := r, mgt := { s.mgt with ibis := i }, flt := f, heads := h }
  heads : ∀ k, (t.head k).unlogged = (s.head k).unlogged

namespace Noticed

variable {s t u : State}

theorem refl (s : State) : Noticed s s := ⟨⟨_, _, _, _, _, rfl⟩, fun _ => rfl⟩

theorem trans (h : Noticed s t) (g : Noticed t u) : Noticed s u := by
  obtain ⟨⟨_, _, _, _, _, rfl⟩, heads⟩ := h
  obtain ⟨⟨_, _, _, _, _, rfl⟩, heads'⟩ := g
  exact ⟨⟨_, _, _, _, _, rfl⟩, fun k => (heads' k).trans (heads k)⟩

theorem ite {c : Prop} [Decidable c] (h : Noticed s t) (g : Noticed s u) : Noticed s (if c then t else u) := by split <;> assumption

theorem each {α : Type} {l : List α} {f : State → α → State} (step : ∀ t x, Noticed t (f t x)) : Noticed s (s.each l f) := by
  unfold State.each
  induction l generalizing s with
  | nil => exact refl s
  | cons x l ih => exact (step s x).trans ih

/-! ### The operations that tell -/

theorem emit (o : Output) : Noticed s (s.emit o) := ⟨⟨_, _, _, _, _, rfl⟩, fun _ => rfl⟩
theorem setReg (page off : Nat) (w : Word) : Noticed s (s.setReg page off w) := ⟨⟨_, _, _, _, _, rfl⟩, fun _ => rfl⟩
theorem countUp (page off lsb w by_ : Nat) : Noticed s (s.countUp page off lsb w by_) := setReg page off _

theorem raiseAt (page : Nat) (src : Source) (w : Where) : Noticed s (s.raiseAt page src w) := by
  rw [State.raiseAt_eq]
  exact ⟨⟨_, _, _, _, _, rfl⟩, fun _ => rfl⟩

theorem raise (page : Nat) (src : Source) : Noticed s (s.raise page src) := raiseAt page src {}

theorem sendIbi (mdb : Nat) (payload : List Byte) : Noticed s (s.sendIbi mdb payload) := by
  unfold State.sendIbi
  split
  exacts [⟨⟨_, _, _, _, _, rfl⟩, fun _ => rfl⟩, refl s]

/-- A write of a head that reaches its logs alone. -/
theorem setLogs (h : Nat) (l : Tab (List CxlRec)) (o : Tab Nat) (n : BitVec 16) :
    Noticed s (s.setHead h { s.head h with logs := l, logOvf := o, nextHdl := n }) := by
  refine ⟨⟨_, _, _, _, _, rfl⟩, fun k => ?_⟩
  by_cases own : k = h
  · rw [own, State.head_setHead]
    rfl
  · rw [State.head_setHead_other _ _ own]

theorem logInterrupt (h log : Nat) : Noticed s (s.logInterrupt h log) := ite (emit _) (refl s)

theorem postRec (h log : Nat) (r : CxlRec) : Noticed s (s.postRec h log r) := by
  unfold State.postRec
  extract_lets x l full
  split
  · exact (setLogs h _ _ _).trans (logInterrupt h log)
  · exact ((setLogs h _ _ _).trans (countUp ..)).trans (raise _ _)

theorem postAll (log : Nat) (r : CxlRec) : Noticed s (s.postAll log r) := each fun _ h => postRec h log r
theorem memoryEvent : Noticed s s.memoryEvent := postAll 0 _

theorem pinIbis (old : Levels) : Noticed s (s.pinIbis old) := by
  unfold State.pinIbis
  extract_lets now s1 s2
  have fault : Noticed s s1 := ite (sendIbi _ _) (refl s)
  have throt : Noticed s1 s2 := ite (sendIbi _ _) (refl s1)
  exact (fault.trans throt).trans (ite ((sendIbi _ _).trans memoryEvent) (refl s2))

theorem withPins (f : State → State) : Noticed (f s) (s.withPins f) := pinIbis _

theorem cplNotice (handle : Word) : Noticed s (s.cplNotice handle) := by
  unfold State.cplNotice
  extract_lets n s1
  have ibi : Noticed s s1 := ite (sendIbi _ _) (refl s)
  exact ibi.trans (each fun _ h => postRec h 0 _)

/-! ### What stays -/

section
variable (h : Noticed s t)
include h

theorem pages : t.pages = s.pages := by obtain ⟨⟨_, _, _, _, _, rfl⟩, -⟩ := h; rfl
theorem pan : t.pan = s.pan := by obtain ⟨⟨_, _, _, _, _, rfl⟩, -⟩ := h; rfl
theorem pwr : t.pwr = s.pwr := by obtain ⟨⟨_, _, _, _, _, rfl⟩, -⟩ := h; rfl
theorem thm : t.thm = s.thm := by obtain ⟨⟨_, _, _, _, _, rfl⟩, -⟩ := h; rfl
theorem crs : t.crs = s.crs := by obtain ⟨⟨_, _, _, _, _, rfl⟩, -⟩ := h; rfl
theorem slices : t.slices = s.slices := by obtain ⟨⟨_, _, _, _, _, rfl⟩, -⟩ := h; rfl
theorem dtc : t.dtc = s.dtc := by obtain ⟨⟨_, _, _, _, _, rfl⟩, -⟩ := h; rfl
theorem mch : t.mch = s.mch := by obtain ⟨⟨_, _, _, _, _, rfl⟩, -⟩ := h; rfl
theorem mte : t.mte = s.mte := by obtain ⟨⟨_, _, _, _, _, rfl⟩, -⟩ := h; rfl
theorem ports : t.ports = s.ports := by obtain ⟨⟨_, _, _, _, _, rfl⟩, -⟩ := h; rfl
theorem fxb : t.fxb = s.fxb := by obtain ⟨⟨_, _, _, _, _, rfl⟩, -⟩ := h; rfl
theorem sve : t.sve = s.sve := by obtain ⟨⟨_, _, _, _, _, rfl⟩, -⟩ := h; rfl
theorem mgt : t.mgt = { s.mgt with ibis := t.mgt.ibis } := by obtain ⟨⟨_, _, _, _, _, rfl⟩, -⟩ := h; rfl

theorem head_eq (k : Nat) : t.head k =
    { s.head k with logs := (t.head k).logs, logOvf := (t.head k).logOvf, nextHdl := (t.head k).nextHdl } := by
  have same := h.heads k
  generalize t.head k = x at same ⊢
  generalize s.head k = y at same ⊢
  cases x
  cases y
  simpa [Head.unlogged] using same

end

end Noticed

end Sys2Proof.Machine
end

section
/-! PROOFS. The command and completion FIFOs (R488 to R491): what a push, a pop and the end of each wait make of the FIFOs. -/

namespace Sys2Proof.Machine

open Sys2Proof

variable {s : State} {q : Requester} {w : Word} {h : Fin 64}

/-! ### Pushes (R489) -/

theorem writeBlock_cmdPush {page : Nat} {r : RegWord} (at_ : r.off = 0x110) : s.writeBlock q page .mgt r w = s.pushWord q w false := by
  simp only [State.writeBlock, at_]

theorem writeBlock_cmdLast {page : Nat} {r : RegWord} (at_ : r.off = 0x114) : s.writeBlock q page .mgt r w = s.pushWord q w true := by
  simp only [State.writeBlock, at_]

section
variable (mine : s.mgt.cmdOwner = none ∨ s.mgt.cmdOwner = some q) (free : s.mgt.cmdHeld = none)
include mine free

omit free in
/-- The open packet is nobody's or the requester's own. -/
theorem cmdOwner_other : s.mgt.cmdOwner.any (fun o => o != q) = false := by
  rcases mine with none_ | own
  · rw [none_]; rfl
  · rw [own]; simp

theorem State.pushWord_adds (room : s.mgt.cmdOpen.length < 128) : s.pushWord q w false =
    { s with mgt := { s.mgt with cmdOpen := s.mgt.cmdOpen ++ [w], cmdOwner := some q } } := by
  simp [State.pushWord, cmdOwner_other mine, free, room]

theorem State.pushWord_runs (room : s.mgt.cmdOpen.length < 128) : s.pushWord q w true =
    State.command { s with mgt := { s.mgt with cmdOpen := [], cmdOwner := none } } q false (s.mgt.cmdOpen ++ [w]) := by
  simp [State.pushWord, cmdOwner_other mine, free, room]

theorem State.pushWord_held (full : 128 ≤ s.mgt.cmdOpen.length) (inBand : q ≠ .i3c) : s.pushWord q w false =
    { s with mgt := { s.mgt with cmdHeld := some (q, w) } } := by
  simp [State.pushWord, cmdOwner_other mine, free, full, inBand]

end

/-! ### Pops (R490, R491) -/

/-- Waiting packets enter behind those that are there: the packet that is being popped stays its requester's. -/
theorem State.admitCpl_cplOwner (n : Nat) (s : State) : (State.admitCpl n s).mgt.cplOwner = s.mgt.cplOwner := by
  induction n generalizing s with
  | zero => rfl
  | succ n ih =>
    unfold State.admitCpl
    split
    · rfl
    · dsimp only
      split
      · rw [ih, (Noticed.cplNotice _).mgt]
      · rfl

/-- The word at the front of the FIFO is popped; the packet is reserved until its last word is. -/
theorem State.popWord_front {x : Word} {r : List Word} {p : List (List Word)} (free : s.mgt.cplOwner = none)
    (front : s.mgt.cpl = (x :: r) :: p) :
    ∃ end_, (s.popWord q).1 = some (x, end_) ∧ (s.popWord q).2.mgt.cplOwner = if r = [] then none else some q := by
  cases r with
  | nil => exact ⟨true, by simp [State.popWord, free, front], by simp [State.popWord, free, front]⟩
  | cons y r => exact ⟨false, by simp [State.popWord, free, front], by simp [State.popWord, free, front]⟩

theorem State.cplHead_word (s : State) (x : Word) (end_ : Bool) : BitVec.ofNat 32 (s.cplHead (some (x, end_))) = x := by
  refine BitVec.eq_of_toNat_eq ?_
  rw [BitVec.toNat_ofNat, State.cplHead]
  have := x.isLt
  split <;> omega

/-- A read of the head of the FIFO reaches the FIFO. -/
theorem busRead_head (started : s.pages.started = true) (open_ : s.windowShut (.head h) = none) (running : 0x000 ∉ s.pages.resetting) :
    s.busRead (.head h) 0x000120 4 = s.readHead (.head h) := by
  have kind : pageKind (0x000120 / 4096) = some .mgt := rfl
  simp [State.busRead, started, open_, kind, State.blockClosed, running]

section
variable (started : s.pages.started = true) (reach : s.reaches (.head h) = true) (open_ : s.windowShut (.head h) = none)
  (running : 0x000 ∉ s.pages.resetting) (free : s.mgt.cplOwner = none)
include started reach open_ running free

theorem mgtCplHeadRead_pops {x : Word} {r : List Word} {p : List (List Word)} (front : s.mgt.cpl = (x :: r) :: p) :
    ∃ t, exec (.mgtCplHeadRead (.head h)) s = .next t ∧ .regRead (.head h) 0x000120 x ∈ t.out ∧
      t.mgt.cplOwner = if r = [] then none else some (.head h) := by
  obtain ⟨end_, popped, owner⟩ := State.popWord_front (q := .head h) free front
  have head : s.readHead (.head h) = (some x, State.admitCpl 64 ((s.popWord (.head h)).2.holdHead (.head h)
      ((s.popWord (.head h)).2.cplHead (some (x, end_))))) := by
    simp only [State.readHead, front, List.isEmpty_cons, Bool.and_false, Bool.false_eq_true, if_false, popped, State.cplHead_word]
  have bus := (busRead_head started open_ running).trans head
  refine ⟨_, registerRead_does (addr := 0x000120) (effect := fun _ => _) reach bus, mem_out_withPins ?_, ?_⟩
  · simp
  · rw [(Noticed.withPins _).mgt, State.emit_mgt, State.admitCpl_cplOwner]
    exact owner

theorem mgtCplHeadRead_holds (empty : s.mgt.cpl = []) : exec (.mgtCplHeadRead (.head h)) s =
    .next { s with mgt := { s.mgt with cplRead := s.mgt.cplRead ++ [.head h] } } := by
  have head : s.readHead (.head h) = (none, { s with mgt := { s.mgt with cplRead := s.mgt.cplRead ++ [.head h] } }) := by
    simp [State.readHead, free, empty]
  have bus := (busRead_head started open_ running).trans head
  have e : s.regRead (.head h) 0x000120 4 = { s with mgt := { s.mgt with cplRead := s.mgt.cplRead ++ [.head h] } } := by
    simp only [State.regRead, reach, if_true, show BitVec.toNat (0x000120 : BitVec 24) = 0x000120 from rfl, bus]
  exact congrArg Host.Outcome.next (State.withPins_of_levels e rfl)

end

/-! ### The ends of the waits -/

theorem completionHoldExpiry_answers (waits : .head h ∈ s.mgt.cplRead) (free : s.mgt.cmdHeld = none) :
    ∃ t, exec (.completionHoldExpiry h) s = .next t ∧ .regRead (.head h) 0x000120 0 ∈ t.out := by
  refine ⟨_, rfl, mem_out_withPins ?_⟩
  simp [State.holdExpiry, free, waits]

theorem cmdAbandon_answers {x : Word} {r : List Word} {q : Requester} (open_ : s.mgt.cmdOpen = x :: r) (owner : s.mgt.cmdOwner = some q) :
    exec .cmdAbandon s = .next (s.withPins (fun s =>
      (State.raise { s with mgt := { s.mgt with cmdOpen := [], cmdOwner := none, cmdHeld := none } } 0x000 .mgtCmdAbandon).answerCmd q
        (BitVec.ofNat 8 x.toNat) (BitVec.ofNat 8 (fld x 24 8)) stAborted 0 [])) :=
  next_withPins (by rw [State.cmdAbandon, open_, owner])

theorem cplAbandon_drops {q : Requester} (owner : s.mgt.cplOwner = some q) :
    ∃ t, exec .cplAbandon s = .next t ∧ t.mgt.cplOwner = none := by
  refine ⟨_, rfl, ?_⟩
  rw [(Noticed.withPins _).mgt, State.cplAbandon, owner]
  dsimp only
  rw [State.admitCpl_cplOwner, State.raise_mgt]

/-- Settles O29, by the place of the packet in its FIFO. -/
theorem commandFifo : Obligations.CommandFifo := fun _ _ _ =>
  ⟨fun ok mine free room => withPins_pageWrite rfl (by decide) (by decide) ok fun _ at_ =>
     (writeBlock_cmdPush at_).trans (State.pushWord_adds mine free room),
   fun ok mine free room => withPins_pageWrite rfl (by decide) (by decide) ok fun _ at_ =>
     (writeBlock_cmdLast at_).trans (State.pushWord_runs mine free room),
   fun ok mine free full => withPins_pageWrite rfl (by decide) (by decide) ok fun _ at_ =>
     (writeBlock_cmdPush at_).trans (State.pushWord_held mine free full (by simp)),
   fun started reach open_ running => ⟨fun _ _ _ free front => mgtCplHeadRead_pops started reach open_ running free front,
     fun free empty => mgtCplHeadRead_holds started reach open_ running free empty⟩,
   completionHoldExpiry_answers, fun _ _ _ => cmdAbandon_answers, fun _ => cplAbandon_drops⟩

end Sys2Proof.Machine
end

section
/-! PROOFS. Private writes and reads over I3C (R473 to R478): what each selector does, and which byte stream a read sends. -/

namespace Sys2Proof.Machine

open Sys2Proof

variable {s : State}

/-! ### Writes of registers (R475) -/

/-- A register address leaves room for its word in the page. -/
theorem wordsLeft_pos {addr : Nat} (aligned : addr % 4 = 0) : 0 < wordsLeft addr := by
  unfold wordsLeft
  omega

theorem State.i3cWrite_one {addr : Nat} {w : Word} (short : s.mgt.tooLong 8 = false) (aligned : addr % 4 = 0)
    (fifo : namesFifo addr 1 = false) : s.i3cWrite addr [w] 0 = s.busWrite .i3c addr 4 w := by
  have room := wordsLeft_pos aligned
  simp [State.i3cWrite, short, aligned, fifo, State.each, room]

theorem write_one {addr : BitVec 24} {w : Word} (short : s.mgt.tooLong 8 = false) (aligned : addr.toNat % 4 = 0)
    (fifo : namesFifo addr.toNat 1 = false) : ∃ t, exec (.write addr [w] 0) s = .next t ∧ exec (.registerWrite .i3c addr 4 w) s = .next t :=
  ⟨_, next_withPins (h := fun s => (s.busWrite .i3c addr.toNat 4 w).drain)
    (congrArg State.drain (State.i3cWrite_one short aligned fifo)), registerWrite_does rfl rfl⟩

/-! ### Reads (R475, R476) -/

theorem setRead_points {addr : BitVec 24} {n : Byte} (some_ : n ≠ 0) (max : n.toNat ≤ 128) (aligned : addr.toNat % 4 = 0)
    (inside : n.toNat ≤ wordsLeft addr.toNat) (fifo : namesFifo addr.toNat n.toNat = false) :
    exec (.setRead addr n) s = .next { s with mgt := { s.mgt with rdPtr := some (addr, n.toNat), popNext := false } } := by
  have count : n.toNat ≠ 0 := fun zero => some_ (BitVec.eq_of_toNat_eq zero)
  have does : s.setRead_ addr n.toNat = { s with mgt := { s.mgt with rdPtr := some (addr, n.toNat), popNext := false } } := by
    simp [State.setRead_, count, Nat.not_lt.mpr max, aligned, fifo, Nat.min_eq_left inside]
  exact congrArg Host.Outcome.next (State.withPins_of_levels does rfl)

theorem State.readEffect_mgt (s : State) (page : Nat) (k : PageKind) (off : Nat) : (s.readEffect page k off).mgt = s.mgt := by
  unfold State.readEffect
  extract_lets m s1
  have cleared : s1.mgt = s.mgt := by simp only [s1, State.ite_mgt, State.setReg_mgt, ite_self]
  split
  · exact cleared
  · split
    · refine Eq.trans (State.each_same State.mgt ?_) cleared
      exact fun _ _ => rfl
    · exact cleared

theorem State.readWord_mgt (s : State) (q : Requester) (page : Nat) (k : PageKind) (r : RegWord) :
    (s.readWord q page k r).2.mgt = s.mgt := by
  unfold State.readWord
  dsimp only
  repeat' split
  all_goals rfl

theorem State.unmapped_mgt (s : State) : s.unmapped.mgt = s.mgt := by simp [State.unmapped]
theorem State.reject_mgt (s : State) (page : Nat) : (s.reject page).mgt = s.mgt := by simp [State.reject]

/-- A register read over I3C leaves the FIFOs and the I3C target alone. -/
theorem State.busRead_i3c_mgt (s : State) (addr width : Nat) : (s.busRead .i3c addr width).2.mgt = s.mgt := by
  unfold State.busRead
  dsimp only
  split
  · split
    · split
      · exact s.readWord_mgt _ _ _ _
      · rfl
    · rfl
  · split
    · exact absurd ‹_› (by simp [State.windowShut, requesterHead])
    · split
      · exact s.unmapped_mgt
      · split
        · rfl
        · split
          · exact s.reject_mgt _
          · split
            · rename_i fifo head
              exact absurd (show _ = true by simp [head, fifoAddrs]) fifo
            · split
              · rfl
              · exact (State.readEffect_mgt _ _ _ _).trans (s.readWord_mgt _ _ _ _)

/-- The state that reads the words SET_READ named: neither a range nor a pop is left for a later read. -/
def State.readTaken (s : State) : State := { s with mgt := { s.mgt with rdPtr := none, popNext := false } }

section
variable {a : BitVec 24} (ptr : s.mgt.rdPtr = some (a, 1)) (pop : s.mgt.popNext = false) (dynamic : s.mgt.legacy = false)
  (room : 4 ≤ s.mgt.mrl.toNat)
include ptr pop dynamic room

/-- Four bytes of a range of one register are its word. -/
theorem State.privateRead_word : s.privateRead 4 = (s.readTaken.busRead .i3c a.toNat 4).2.emit
    (.i3cBytes (wordBytes ((s.readTaken.busRead .i3c a.toNat 4).1.getD 0))) := by
  have bytes : (if s.mgt.hdr || s.mgt.legacy then 4 else min 4 s.mgt.mrl.toNat) = 4 := by simp [room]
  have still : (s.readTaken.busRead .i3c a.toNat 4).2.mgt.legacy = false := by
    rw [State.busRead_i3c_mgt]
    exact dynamic
  simp only [State.privateRead, bytes, pop, ptr, Bool.false_eq_true, if_false]
  have read : State.readBytes s.readTaken a.toNat 1 =
      (wordBytes ((s.readTaken.busRead .i3c a.toNat 4).1.getD 0), (s.readTaken.busRead .i3c a.toNat 4).2) := by
    simp [State.readBytes]
  let some_ (b : List Byte) : List Byte := if b.isEmpty then [0] else b
  change State.emit (State.readBytes s.readTaken a.toNat 1).2 (.i3cBytes (List.take 4
    (if (State.readBytes s.readTaken a.toNat 1).2.mgt.legacy then _ else some_ (State.readBytes s.readTaken a.toNat 1).1))) = _
  rw [read, if_neg (by rw [still]; exact Bool.false_ne_true)]
  rfl

theorem privateRead_sends : ∃ t, exec (.privateRead 4) s = .next t ∧ t.mgt.rdPtr = none ∧
    .i3cBytes (wordBytes ((s.readTaken.busRead .i3c a.toNat 4).1.getD 0)) ∈ t.out := by
  refine ⟨_, next_withPins (h := fun _ => _) (State.privateRead_word ptr pop dynamic room), ?_, mem_out_withPins (by simp)⟩
  rw [(Noticed.withPins _).mgt, State.emit_mgt, State.busRead_i3c_mgt]
  rfl

end

/-! ### The FIFOs (R474, R478) -/

theorem legacy_of_dyn (dynamic : s.mgt.dyn ≠ none) : s.mgt.legacy = false :=
  Option.isNone_eq_false_iff.mpr (Option.isSome_iff_ne_none.mpr dynamic)

section
variable (started : s.pages.started = true)
include started

theorem cmdPush_one {w : Word} (dynamic : s.mgt.dyn ≠ none) (short : s.mgt.tooLong 5 = false) :
    exec (.cmdPush [w]) s = .next (s.withPins (fun s => (s.pushWord .i3c w true).drain)) :=
  next_withPins (congrArg State.drain (by simp [State.i3cPush, started, legacy_of_dyn dynamic, short, State.pushPacket]))

theorem cplPop_points (dynamic : s.mgt.dyn ≠ none) :
    exec .cplPop s = .next { s with mgt := { s.mgt with popNext := true, rdPtr := none } } := by
  have does : s.i3cPop = { s with mgt := { s.mgt with popNext := true, rdPtr := none } } := by
    simp [State.i3cPop, started, legacy_of_dyn dynamic]
  exact congrArg Host.Outcome.next (State.withPins_of_levels does rfl)

/-! ### Selectors of no operation (R473, R474) -/

theorem badOp_legacy {op : Byte} (low : 0xc4 ≤ op.toNat) (high : op.toNat ≤ 0xc7) :
    exec (.badOp op) s = .next (s.withPins (fun s => s.raise 0x000 .mgtBadOp)) :=
  next_withPins (by simp [State.otherOp, low, high, State.badOp, started])

end

theorem State.protoError_mgt (s : State) : s.protoError.mgt = { s.mgt with protoErr := true } := by
  unfold State.protoError
  extract_lets s1
  split
  · rw [State.raise_mgt, State.countUp_mgt]
  · rfl

theorem badOp_protocol {op : Byte} (write : op.toNat ≠ 0x01) (none_ : op.toNat < 0xc0 ∨ 0xc7 < op.toNat) :
    ∃ t, exec (.badOp op) s = .next t ∧ t.mgt.protoErr = true := by
  have does : s.otherOp op.toNat = s.protoError := by
    have reserved : ¬ (0xc4 ≤ op.toNat ∧ op.toNat ≤ 0xc7) := by omega
    have known : ¬ (op.toNat = 0x01 ∨ 0xc0 ≤ op.toNat ∧ op.toNat ≤ 0xc3) := by omega
    simp only [State.otherOp, Bool.and_eq_true, Bool.or_eq_true, decide_eq_true_eq, reserved, known, if_false]
  refine ⟨_, next_withPins (h := State.protoError) does, ?_⟩
  rw [(Noticed.withPins _).mgt, State.protoError_mgt]

/-- Settles O28, selector by selector. -/
theorem i3cTransfers : Obligations.I3cTransfers := fun _ =>
  ⟨fun _ _ => write_one, fun _ _ => setRead_points, fun _ => privateRead_sends,
   fun _ started => cmdPush_one started, cplPop_points, fun _ started => badOp_legacy started, fun _ => badOp_protocol⟩

end Sys2Proof.Machine
end

section
/-! PROOFS. The mailbox of a head (R412 to R417, R421 to R424): a command that reaches it is answered by its response, and a setting is stored
before it is answered. -/

namespace Sys2Proof.Machine

open Sys2Proof

variable {s : State} {h : Fin 64}

section
variable (started : s.pages.started = true) (reach : s.reaches (.mailbox h) = true)
include started reach

/-- A command that reaches the mailbox runs. -/
theorem State.mailbox_runs (f : State → State) : s.mailbox h f = (f s).drain := if_pos (by simp [started, reach])

/-- A command that only reports is answered Success with its payload. -/
theorem State.mboxGet_answers (p : State → Payload) : s.mboxGet h p = (s.emit (.mailbox h rcSuccess (p s))).drain :=
  State.mailbox_runs started reach _

/-! ### Queries (R421) -/

theorem mailbox_queries (log : Fin 5) : ∀ p ∈ [(Instr.getEventRecords h log, s.eventPayload h.val log.val),
      (.getEventInterruptPolicy h, [(s.head h.val).policy.toNat]),
      (.getFwInfo h, [2, flag s.sve.running, s.sve.slot0.version.toNat, s.sve.slot1.version.toNat]),
      (.getTimestamp h, [((s.head h.val).stampNow s.time.toNat).toNat]), (.getSupportedLogs h, [1, celUuid, 4 * mailboxOpcodes.length]),
      (.getLog h, mailboxOpcodes.flatMap (fun o => [o, Config.celEffect o])), (.identifyMemoryDevice h, [0, 0, 0, 0, 2048]),
      (.getPartitionInfo h, [0, 0, 0, 0]), (.getHealthInfo h, s.health h.val), (.getAlertConfiguration h, [(s.head h.val).alerts.toNat]),
      (.getShutdownState h, [s.ring 6 / 2 ^ h.val % 2]), (.getPoisonList h, s.poisonList h.val), (.getDcExtentList h, s.extentList h.val)],
    exec p.1 s = .next ((s.emit (.mailbox h rcSuccess p.2)).drain) := by
  have answers (p : State → Payload) := congrArg (Host.Outcome.next (φ := Fault) (ρ := Refusal)) (State.mboxGet_answers started reach p)
  simp only [List.forall_mem_cons]
  exact ⟨answers _, answers _, answers _, answers _, answers fun _ => [1, celUuid, 4 * mailboxOpcodes.length],
    answers fun _ => mailboxOpcodes.flatMap (fun o => [o, Config.celEffect o]), answers fun _ => [0, 0, 0, 0, 2048],
    answers fun _ => [0, 0, 0, 0], answers _, answers _, answers _, answers _, answers _, fun _ none_ => nomatch none_⟩

end

/-- Settles O46: each query is a report of the state. -/
theorem mailboxQueries : Obligations.MailboxQueries := fun _ _ started reach =>
  ⟨mailbox_queries started reach, fun _ => congrArg Host.Outcome.next (State.mailbox_runs started reach _)⟩

/-! ### Settings (R413 to R417, R421, R422) -/

/-- The shutdown state is bit `h` of counter ring 6. -/
theorem State.setShutdown_stores (up : s.pantryDown = false) (dirty : Bool) : s.setShutdown h dirty =
    (s.setRing 6 (if dirty then BitVec.ofNat 64 (s.ring 6) ||| oneBit 64 h.val
      else BitVec.ofNat 64 (s.ring 6) &&& ~~~(oneBit 64 h.val)).toNat).emit (.mailbox h rcSuccess []) :=
  if_neg (by simp [up])

/-- Where no record is named, all are cleared. -/
theorem State.clearRecords_all (s : State) (h : Fin 64) (log : Nat) : s.clearRecords h log [] = (s.setHead h.val { s.head h.val with
    logs := (s.head h.val).logs.put log [], logOvf := (s.head h.val).logOvf.del log }).emit (.mailbox h rcSuccess []) := by
  simp [State.clearRecords, State.mboxRsp]

/-- A line that the head may write takes the store (R417). -/
theorem State.poisonCmd_stores {dpa : Dpa} {a : LineAddr} (right : s.headRight h.val 2 = true) (aligned : dpa.toNat % 64 = 0)
    (line : s.dpaLine h.val dpa = some a) (safe : s.safe = false) (data : Line) (poison : Bool) :
    s.poisonCmd h dpa data poison = (s.mailStore h a data poison).emit (.mailbox h rcSuccess []) := by
  simp only [State.poisonCmd, right, aligned, line, safe, Bool.not_true, Bool.false_eq_true, ne_eq, not_true_eq_false, if_false]
  rfl

/-- An answer that lists no offer refuses the oldest (R413). -/
theorem State.addDcRsp_refuses {o : Offer} {rest : List Offer} (offers : (s.head h.val).offers = o :: rest) :
    s.addDcRsp h [] = (s.dropOffer h.val o stDenied).emit (.mailbox h rcSuccess []) := by
  simp [State.addDcRsp, offers, State.each, State.mboxRsp]

theorem State.releaseDc_one {d : Dpa} (extent : s.extentAt h.val d = true) :
    s.releaseDc h [d] = (s.releaseExtent h.val d).emit (.mailbox h rcSuccess []) := by
  simp [State.releaseDc, extent, State.each, State.mboxRsp]

/-- A packet as long as it says runs as its command (R422). -/
theorem State.lorlekExec_runs {w : Word} {ws : List Word} (right : s.headRight h.val 1 = true) (short : ws.length < 128)
    (length : fld w 8 8 = ws.length + 1) : s.lorlekExec h (w :: ws) = s.command (.mailbox h) false (w :: ws) := by
  simp [State.lorlekExec, right, length, Nat.not_lt.mpr (Nat.succ_le_of_lt short)]

theorem State.lorlekCpl_reads (right : s.headRight h.val 1 = true) : s.lorlekCpl h =
    ((s.setHead h.val { s.head h.val with cplQ := (splitPackets 1024 (s.head h.val).cplQ).2 }).emit
      (.mailbox h rcSuccess ((splitPackets 1024 (s.head h.val).cplQ).1.flatMap (fun p => p.map BitVec.toNat)))).admitHeadCpl h.val :=
  if_neg (by simp [right])

/-- Settles O47, setting by setting. -/
theorem mailboxSettings : Obligations.MailboxSettings := by
  intro s h started reach
  have stores (f : State → State) := congrArg (Host.Outcome.next (φ := Fault) (ρ := Refusal)) (State.mailbox_runs started reach f)
  have runs {f g : State → State} (does : f s = g s) : (.next (s.withPins (fun s => s.mailbox h f)) : Host.Outcome State Fault Refusal) =
      .next (s.withPins (fun s => (g s).drain)) :=
    next_withPins ((State.mailbox_runs started reach f).trans (congrArg State.drain does))
  exact ⟨fun _ => stores _, fun _ => stores _, fun _ => stores _,
    fun up => ⟨runs (State.setShutdown_stores up true), runs (State.setShutdown_stores up false)⟩,
    fun log => (stores _).trans (congrArg (fun t : State => Host.Outcome.next t.drain) (s.clearRecords_all h log.val)),
    fun _ _ d right aligned line safe => ⟨runs (State.poisonCmd_stores right aligned line safe 0 true),
      runs (State.poisonCmd_stores right aligned line safe d false)⟩,
    runs rfl, fun _ _ offers => runs (State.addDcRsp_refuses offers), fun _ extent => runs (State.releaseDc_one extent),
    fun _ _ right short length => runs (State.lorlekExec_runs right short length), fun right => runs (State.lorlekCpl_reads right)⟩

end Sys2Proof.Machine
end

section
/-! PROOFS. The SPDM responder, IDE key management and the MCTP endpoint (R457 to R462): a request on a path that is up is answered by its response. -/

namespace Sys2Proof.Machine

open Sys2Proof

variable {s : State} {p : SpdmPath}

/-! ### Responses (R459) -/

theorem State.mem_sendIbi_out (s : State) (mdb : Nat) (payload : List Byte) {o : Output} (mem : o ∈ s.out) : o ∈ (s.sendIbi mdb payload).out := by
  unfold State.sendIbi
  split
  · exact List.mem_append_left _ mem
  · exact mem

theorem State.spdmRsp_mem_out (s : State) (p : SpdmPath) (code : Nat) (d : Payload) : .spdm p code d ∈ (s.spdmRsp p code d).out := by
  have told : .spdm p code d ∈ (s.emit (.spdm p code d)).out := by simp
  unfold State.spdmRsp
  extract_lets t
  split
  · exact t.mem_sendIbi_out 0xae [] told
  · exact told

theorem State.spdmRsp_noticed (s : State) (p : SpdmPath) (code : Nat) (d : Payload) : Noticed s (s.spdmRsp p code d) :=
  .ite ((Noticed.emit _).trans (.sendIbi _ _)) (.emit _)

/-- A request on a path that is up runs. -/
theorem State.spdm_runs (up : s.spdmUp p = true) (f : State → State) : s.spdmDo p f = f s := if_pos up

theorem State.spdmDo_next (up : s.spdmUp p = true) {f : State → State} {t : State} (does : f s = t) :
    (.next (s.spdmDo p f) : Host.Outcome State Fault Refusal) = .next t := congrArg Host.Outcome.next ((if_pos up).trans does)

/-- Taking free values moves the counter of free values alone. -/
theorem State.spdmFree_one (s : State) (p : SpdmPath) (code : Nat) (d : Payload) : ∃ a, s.spdmFree p code d 1 =
    ({ s with free := s.free + 1 } : State).spdmRsp p code (d ++ [a]) := ⟨_, rfl⟩

theorem State.spdmFree_two (s : State) (p : SpdmPath) (code : Nat) (d : Payload) : ∃ a b, s.spdmFree p code d 2 =
    ({ s with free := s.free + 1 + 1 } : State).spdmRsp p code (d ++ [a] ++ [b]) := ⟨_, _, rfl⟩

theorem State.spdmFree_three (s : State) (p : SpdmPath) (code : Nat) (d : Payload) : ∃ a b c, s.spdmFree p code d 3 =
    ({ s with free := s.free + 1 + 1 + 1 } : State).spdmRsp p code (d ++ [a] ++ [b] ++ [c]) := ⟨_, _, _, rfl⟩

/-! ### Requests (R458 to R460) -/

theorem State.certificate_of_chain {slot : Nat} {c : List Nat} (chain : s.chain slot = some c) :
    s.certificate p slot = s.spdmRsp p 0x02 (slot :: c) := by simp [State.certificate, chain]

theorem State.certificate_none {slot : Nat} (chain : s.chain slot = none) : s.certificate p slot = s.spdmRsp p 0x7f [0x01] := by
  simp [State.certificate, chain, State.spdmError]

theorem State.challenged_of_chain {slot d : Nat} (chain : s.chainDigest slot = some d) :
    s.challenged p slot = s.spdmFree p 0x03 [slot, d] 2 := by simp [State.challenged, chain]

theorem State.challenged_none {slot : Nat} (chain : s.chain slot = none) : s.challenged p slot = s.spdmRsp p 0x7f [0x01] := by
  simp [State.challenged, State.chainDigest, chain, State.spdmError]

theorem State.measurements_one {i : Nat} (low : 1 ≤ i) (high : i ≤ 6) :
    s.measurements p i = s.spdmFree p 0x60 [i, s.measurement i] 2 := by
  rw [State.measurements, if_neg (by omega), if_neg (by omega), if_pos high]

theorem State.measurements_none {i : Nat} (high : 6 < i) (all : i ≠ 0xff) : s.measurements p i = s.spdmRsp p 0x7f [0x01] := by
  rw [State.measurements, if_neg (by omega), if_neg all, if_neg (by omega)]
  rfl

theorem State.openSession_opens (room : s.crs.sessions.length < 8) : ∃ a b c, s.openSession p =
    ({ s with free := s.free + 1 + 1 + 1, crs := { s.crs with
      sessions := s.crs.sessions ++ [(s.crs.nextSession, p)], nextSession := s.crs.nextSession + 1 } } : State).spdmRsp p 0x64
        [s.crs.nextSession.toNat, a, b, c] := ⟨_, _, _, if_neg (Nat.not_le.mpr room)⟩

theorem State.within_of_mem {n : Word} {code : Nat} {f : State → State} (open_ : (n, p) ∈ s.crs.sessions) :
    s.within p n code f = (f s).spdmRsp p code [n.toNat] := if_pos open_

theorem State.within_of_not_mem {n : Word} {code : Nat} {f : State → State} (closed : (n, p) ∉ s.crs.sessions) :
    s.within p n code f = s.spdmRsp p 0x7f [0x02] := if_neg closed

theorem State.closeSession_sessions (s : State) (p : SpdmPath) (n : Word) : ∀ e ∈ (s.closeSession p n).crs.sessions, e.1 ≠ n := by
  have closed : ∀ e ∈ s.crs.sessions.filter (fun (e : Word × SpdmPath) => e.1 != n), e.1 ≠ n := fun e mem => by
    simpa using (List.mem_filter.mp mem).2
  cases p with
  | doe h => exact closed
  | i3c => exact closed

/-- An owner chain that certifies the identity key is taken (R458). -/
theorem State.setCert_takes {q : Requester} {c : CertChain} (right : s.hasRight q 5 = true) (key : c.leafKey = Config.idKey)
    (up : s.pantryDown = false) (open_ : s.pan.recalling = false) :
    s.setCert q 1 c = ({ s with pan := { s.pan with ownerCert := some c } } : State).spdmRsp (requesterPath q) 0x6e [1] := by
  simp [State.setCert, right, key, up, open_]

/-- Settles O48, request by request. -/
theorem spdmRequests : Obligations.SpdmRequests := by
  intro s p up
  refine ⟨fun code => ?_, fun slot => ⟨fun c chain => ?_, fun chain => ⟨?_, ?_⟩, fun d chain => ?_⟩,
    fun i => ⟨?_, fun low high => ?_, fun high all => ?_⟩, fun room => ?_, fun full => ?_, fun n => ?_, fun n open_ => ?_,
    fun q c path right key panUp open_ => ?_⟩
  · simp only [List.forall_mem_cons]
    exact ⟨State.spdmDo_next up rfl, State.spdmDo_next up rfl, State.spdmDo_next up rfl, State.spdmDo_next up rfl,
      State.spdmDo_next up rfl, fun _ none_ => nomatch none_⟩
  · exact State.spdmDo_next up (State.certificate_of_chain chain)
  · exact State.spdmDo_next up (State.certificate_none chain)
  · exact State.spdmDo_next up (State.challenged_none chain)
  · obtain ⟨a, b, free⟩ := s.spdmFree_two p 0x03 [slot.toNat, d]
    exact ⟨_, a, b, State.spdmDo_next up ((State.challenged_of_chain chain).trans free), State.spdmRsp_mem_out _ _ _ _⟩
  · rintro rfl
    obtain ⟨a, free⟩ := s.spdmFree_one p 0x60 [6]
    exact ⟨_, a, State.spdmDo_next up free, State.spdmRsp_mem_out _ _ _ _⟩
  · obtain ⟨a, b, free⟩ := s.spdmFree_two p 0x60 [i.toNat, s.measurement i.toNat]
    exact ⟨_, a, b, State.spdmDo_next up ((State.measurements_one low high).trans free), State.spdmRsp_mem_out _ _ _ _⟩
  · exact State.spdmDo_next up (State.measurements_none high fun same => all (BitVec.eq_of_toNat_eq same))
  · obtain ⟨a, b, c, opened⟩ := State.openSession_opens room
    refine ⟨_, a, b, c, State.spdmDo_next up opened, ?_, State.spdmRsp_mem_out _ _ _ _⟩
    rw [(State.spdmRsp_noticed _ _ _ _).crs]
  · exact State.spdmDo_next up (if_pos full)
  · simp only [List.forall_mem_cons]
    have used (code : Nat) : ((n, p) ∈ s.crs.sessions → (.next (s.spdmDo p fun s => s.within p n code id) : Host.Outcome State Fault Refusal) =
          .next (s.spdmRsp p code [n.toNat])) ∧
        ((n, p) ∉ s.crs.sessions → (.next (s.spdmDo p fun s => s.within p n code id) : Host.Outcome State Fault Refusal) =
          .next (s.spdmRsp p 0x7f [0x02])) :=
      ⟨fun open_ => State.spdmDo_next up (State.within_of_mem open_), fun closed => State.spdmDo_next up (State.within_of_not_mem closed)⟩
    exact ⟨used 0x65, used 0x68, used 0x69, fun _ none_ => nomatch none_⟩
  · refine ⟨_, State.spdmDo_next up (State.within_of_mem open_), State.spdmRsp_mem_out _ _ _ _, ?_⟩
    rw [(State.spdmRsp_noticed _ _ _ _).crs]
    exact s.closeSession_sessions p n
  · subst path
    refine ⟨_, next_withPins (h := fun _ => _) ((State.spdm_runs up fun s => s.setCert q 1 c).trans
      (State.setCert_takes right key panUp open_)), ?_, ?_⟩
    · rw [(Noticed.withPins _).pan, (State.spdmRsp_noticed _ _ _ _).pan]
    · exact mem_out_withPins (State.spdmRsp_mem_out _ _ _ _)

/-! ### IDE key management (R462) and MCTP (R461) -/

@[simp] theorem State.head_emit (s : State) (o : Output) (i : Nat) : (s.emit o).head i = s.head i := rfl

/-- In a session of the head's DOE an IDE request runs and is answered. -/
theorem State.ideDo_runs {h : Fin 64} (up : s.spdmUp (.doe h) = true)
    (session : s.crs.sessions.any (fun (e : Word × SpdmPath) => e.2 == .doe h) = true) (code : Nat) (f : State → State) :
    s.ideDo h code f = (f s).emit (.ideKm h code) := (if_pos up).trans (if_pos session)

theorem State.mctp_answers (started : s.pages.started = true) (code : Nat) (d : State → Payload) :
    s.mctpDo code d = (s.emit (.mctp code (d s))).sendIbi 0xae [] := if_pos started

theorem State.setEid_takes {eid : Byte} (started : s.pages.started = true) (low : 8 ≤ eid.toNat) (high : eid.toNat ≤ 254) :
    s.setEid eid = (({ s with mgt := { s.mgt with eid := eid } } : State).emit (.mctp 0x01 [0, eid.toNat])).sendIbi 0xae [] := by
  simp [State.setEid, started, low, high, State.mctpDo]

theorem State.setEid_refuses {eid : Byte} (started : s.pages.started = true) (outside : eid.toNat < 8 ∨ eid.toNat = 255) :
    s.setEid eid = (s.emit (.mctp 0x01 [2])).sendIbi 0xae [] := by
  have out : ¬ (8 ≤ eid.toNat ∧ eid.toNat ≤ 254) := by omega
  simp [State.setEid, started, out, State.mctpDo]

/-- The first packet of a message that goes on opens the buffer. -/
theorem State.mctpPacket_opens {p : MctpPacket} (started : s.pages.started = true) (mine : s.mgt.mctpMine p = true)
    (short : p.payload.length ≤ 64) (first : p.som = true) (more : p.eom = false) (kind : p.mtype.toNat ∈ [0x00, 0x05, 0x06]) :
    s.mctpPacket p = { s with mgt := { s.mgt with
      mctpType := p.mtype, mctpFrom := p.src, mctpTag := p.msgTag, mctpBuf := p.payload, mctpOpen := true, mctpSeq := p.seq + 1 } } := by
  have fits : ¬ 64 < p.payload.length := by omega
  have small : ¬ 4096 < p.payload.length := by omega
  rw [State.mctpPacket, if_neg (by simp [started, mine, fits]), if_pos first, if_pos kind, State.mctpTake, if_neg (by simp [small, more])]

/-- Settles O49, request by request. -/
theorem ideAndMctp : Obligations.IdeAndMctp := by
  intro s h
  refine ⟨fun up session => ?_, fun up none_ => ?_, fun started => ⟨fun eid low high => ?_, fun eid outside => ?_, ?_,
    fun p mine short first more kind => ⟨_, congrArg Host.Outcome.next (State.mctpPacket_opens started mine short first more kind), rfl, rfl, rfl, rfl⟩⟩⟩
  · have runs (code : Nat) (f : State → State) := congrArg (Host.Outcome.next (φ := Fault) (ρ := Refusal)) (State.ideDo_runs up session code f)
    refine ⟨runs 0x01 id, fun set mem => ⟨fun key => runs 0x03 _, fun programmed => ⟨_, runs 0x06 _, ?_, ?_⟩, ⟨_, runs 0x06 _, ?_, ?_⟩⟩⟩
    · simp [State.ideGo, programmed, Head.withActive, mem_insertNew]
    · simp
    · simp [State.ideStop, Head.withActive]
    · simp
  · exact State.spdmDo_next up (if_neg (by simp [none_]))
  · exact congrArg Host.Outcome.next (State.setEid_takes started low high)
  · exact congrArg Host.Outcome.next (State.setEid_refuses started outside)
  · have answers (code : Nat) (d : State → Payload) :=
      congrArg (Host.Outcome.next (φ := Fault) (ρ := Refusal)) (State.mctp_answers started code d)
    simp only [List.forall_mem_cons]
    exact ⟨answers _ _, answers 0x04 fun _ => [0, 1, 0xf1f3f000], answers 0x05 fun _ => [0, 3, 0x00, 0x05, 0x06],
      answers 0x03 fun _ => [0, Config.uuid.toNat], fun _ none_ => nomatch none_⟩

end Sys2Proof.Machine
end

section
/-! PROOFS. Factory test mode, the boot monitor and the debug class (R453, R465, R466, R469). -/

namespace Sys2Proof.Machine

open Sys2Proof

variable {s : State}

/-- What every step of a list keeps, the list keeps. -/
theorem State.each_preserves {α : Type} {P : State → Prop} {f : State → α → State} (step : ∀ t x, P t → P (f t x)) (l : List α)
    (start : P s) : P (s.each l f) := by
  unfold State.each
  induction l generalizing s with
  | nil => exact start
  | cons x l ih => exact ih (step s x start)

/-! ### Factory test mode (R466, R469) -/

theorem unlockToken_enters (window : s.crs.window = true) (out : s.crs.testMode = false) (empty : s.holdsSegment = false) :
    (s.unlockToken ownSerial s.crs.nonce true).crs.testMode = true := by
  simp [State.unlockToken, window, out, empty]

theorem State.unlockToken_refuses (window : s.crs.window = true) (out : s.crs.testMode = false) (holds : s.holdsSegment = true) :
    s.unlockToken ownSerial s.crs.nonce true = s.emit (.unlock stState) := by
  simp [State.unlockToken, window, out, holds]

theorem State.closeConsent_forgets (s : State) : s.closeConsent.crs.window = false ∧ s.closeConsent.crs.nonce = 0 ∧
    s.closeConsent.reg 0x00b 0x110 = 0 ∧ s.closeConsent.reg 0x00b 0x114 = 0 :=
  ⟨rfl, rfl, (State.reg_setReg_other _ _ (by decide)).trans (State.reg_setReg ..), State.reg_setReg ..⟩

/-! ### The boot monitor (R465) -/

/-- A core that has left its boot. -/
def State.booted (n : Nat) (s : State) : Prop := 2 ≤ (s.core n).st

theorem State.assignCore_booted {n : Nat} (s : State) (k : Nat) (up : s.booted n) : (s.assignCore k).booted n := by
  unfold State.assignCore
  split
  next => exact up
  next =>
    split
    next => exact up
    next r _ =>
      show 2 ≤ ((s.setCore k { st := 3, op := r.op, handle := r.handle }).core n).st
      by_cases own : n = k
      · rw [own, State.core_setCore]
        exact Nat.le_succ 2
      · rw [State.core_setCore_other _ _ own]
        exact up

theorem State.raiseSvn_sve (s : State) : s.raiseSvn.sve = s.sve := by
  unfold State.raiseSvn State.setRing
  dsimp only
  repeat' split
  all_goals simp

theorem State.raiseSvn_runSvn (s : State) : s.raiseSvn.crs.runSvn = s.crs.runSvn := by
  unfold State.raiseSvn State.setRing
  dsimp only
  repeat' split
  all_goals simp

theorem State.fwDone_cores (s : State) (st : Status) (activated : Bool) : (s.fwDone st activated).sve.cores = s.sve.cores := by
  obtain ⟨q, sent⟩ := s.sendPlain_sve s.sve.fwFrom 0 0 st (if activated then 1 else 0) (.fwuDone activated)
  exact (congrArg Sve.cores sent).trans rfl

theorem State.fwDone_crs (s : State) (st : Status) (activated : Bool) : (s.fwDone st activated).crs = s.crs := s.sendPlain_crs ..

/-- The end of an activation starts no core anew, and runs no other image. -/
theorem State.coresUp_cores (s : State) : s.coresUp.sve.cores = s.sve.cores := by
  unfold State.coresUp
  split
  · rfl
  · rw [State.fwDone_cores, State.raiseSvn_sve]

theorem State.coresUp_runSvn (s : State) : s.coresUp.crs.runSvn = s.crs.runSvn := by
  unfold State.coresUp
  split
  · rfl
  · rw [State.fwDone_crs, State.raiseSvn_runSvn]

/-- A core leaves its boot with the SVN of the image that runs. -/
def State.leaveBoot (s : State) (n : Nat) : State :=
  ({ s with crs := { s.crs with runSvn := BitVec.ofNat 16 (s.fwSlot s.sve.running).svn } } : State).setCore n { st := 2 }

theorem State.bootMonitor_good {n : Nat} (boots : (s.core n).st = 1) (good : s.bootCheck s.sve.running = 0) :
    s.bootMonitor n = (s.leaveBoot n).assignCores.coresUp := by
  rw [State.bootMonitor, if_neg (by simp [boots]), if_pos good]
  rfl

theorem State.bootMonitor_boots {n : Nat} (boots : (s.core n).st = 1) (good : s.bootCheck s.sve.running = 0) :
    (s.bootMonitor n).booted n ∧ (s.bootMonitor n).crs.runSvn = BitVec.ofNat 16 (s.fwSlot s.sve.running).svn := by
  have left : (s.leaveBoot n).booted n := Nat.le_of_eq (by rw [State.leaveBoot, State.core_setCore])
  have booted : (s.leaveBoot n).assignCores.booted n := State.each_preserves (fun t k => t.assignCore_booted k) _ left
  rw [State.bootMonitor_good boots good]
  constructor
  · rw [State.booted, State.core, State.coresUp_cores]
    exact booted
  · rw [State.coresUp_runSvn, State.assignCores, State.each_crs _ _ _ State.assignCore_crs]
    rfl

theorem State.bootMonitor_none {n : Nat} (boots : (s.core n).st = 1) (bad : s.bootCheck s.sve.running ≠ 0)
    (other : s.bootCheck (!s.sve.running) ≠ 0) : s.bootMonitor n = s.raise 0x008 .crsFwBad := by
  rw [State.bootMonitor, if_neg (by simp [boots]), if_neg bad, if_neg other]

/-! ### Debug reads of memory (R453) -/

theorem State.debugRead_refuses {f : Fga} (refused : s.hasRight .debug 10 = false ∨ s.debugRange (fgaLine f) = false) :
    s.debugRead f = s.deny.emit (.debugRead 0 false) :=
  if_pos (by rcases refused with no | no <;> simp [no])

theorem State.debugRead_answers {f : Fga} (right : s.hasRight .debug 10 = true) (range : s.debugRange (fgaLine f) = true)
    (owned : (s.lookup (lineGsn (fgaLine f))).st = 1) : s.debugRead f =
      (s.debugValue (fgaLine f)).2.emit (.debugRead (s.debugValue (fgaLine f)).1.1 (s.debugValue (fgaLine f)).1.2) := by
  rw [State.debugRead, if_neg (by simp [right, range]), if_neg (by simp [owned])]

/-- Settles O50, part by part. -/
theorem testAndBoot : Obligations.TestAndBoot := by
  intro s
  refine ⟨fun window out empty => ⟨s.unlockToken ownSerial s.crs.nonce true, next_withPins rfl, unlockToken_enters window out empty⟩,
    fun window out holds => next_withPins (congrArg State.drain (State.unlockToken_refuses window out holds)),
    fun window => ⟨_, congrArg Host.Outcome.next (if_pos window), s.closeConsent_forgets⟩,
    fun n boots => ⟨fun good => ⟨s.bootMonitor n.val, next_withPins rfl, State.bootMonitor_boots boots good⟩,
      fun bad other => next_withPins (congrArg State.drain (State.bootMonitor_none boots bad other))⟩, fun started => ?_⟩
  have reads (f : Fga) : s.debugAccess (.memRead f) = s.debugRead f := if_neg (by simp [started])
  have writes (a w) : s.debugAccess (.pageWrite a w) = s.debugPageWrite := if_neg (by simp [started])
  refine ⟨fun f refused => ⟨_, rfl, mem_out_withPins ?_⟩, fun f right range owned => ⟨_, rfl, mem_out_withPins ?_⟩, fun a w right => ?_⟩
  · rw [reads, State.debugRead_refuses refused]
    simp
  · rw [reads, State.debugRead_answers right range owned]
    simp
  · have still : s.debugAccess (.pageWrite a w) = s := (writes a w).trans (if_pos right)
    exact congrArg Host.Outcome.next (State.withPins_of_levels still rfl)

end Sys2Proof.Machine
end

section
/-! PROOFS. What a message to a peer leaves alone (R335, R341, R345, R348, R359): it tells of something, spends the credit of a port or waits in the
crossbar, or joins this module's own queue; all else stays as it was. -/

namespace Sys2Proof.Machine

open Sys2Proof

/-- A state that differs from the one before it by what has been told or sent alone. -/
structure Posted (s t : State) : Prop where
  parts : ∃ o r i f h p w x q, t = { s with
    out := o, regs := r, mgt := { s.mgt with ibis := i }, flt := f, heads := h, ports := p,
    fxb := { s.fxb with transit := w, pairs := x }, sve := { s.sve with selfq := q } }
  heads : ∀ k, (t.head k).unlogged = (s.head k).unlogged

theorem Noticed.posted {s t : State} (h : Noticed s t) : Posted s t := by
  obtain ⟨⟨_, _, _, _, _, rfl⟩, heads⟩ := h
  exact ⟨⟨_, _, _, _, _, _, _, _, _, rfl⟩, heads⟩

namespace Posted

variable {s t u : State}

theorem refl (s : State) : Posted s s := (Noticed.refl s).posted

theorem trans (h : Posted s t) (g : Posted t u) : Posted s u := by
  obtain ⟨⟨_, _, _, _, _, _, _, _, _, rfl⟩, heads⟩ := h
  obtain ⟨⟨_, _, _, _, _, _, _, _, _, rfl⟩, heads'⟩ := g
  exact ⟨⟨_, _, _, _, _, _, _, _, _, rfl⟩, fun k => (heads' k).trans (heads k)⟩

theorem ite {c : Prop} [Decidable c] (h : Posted s t) (g : Posted s u) : Posted s (if c then t else u) := by split <;> assumption

theorem each {α : Type} {l : List α} {f : State → α → State} (step : ∀ t x, Posted t (f t x)) : Posted s (s.each l f) := by
  unfold State.each
  induction l generalizing s with
  | nil => exact refl s
  | cons x l ih => exact (step s x).trans ih

/-! ### The operations that send -/

theorem setPort (i : Nat) (x : Port) : Posted s (s.setPort i x) := ⟨⟨_, _, _, _, _, _, _, _, _, rfl⟩, fun _ => rfl⟩
theorem setPair (i : Nat) (x : Pair) : Posted s (s.setPair i x) := ⟨⟨_, _, _, _, _, _, _, _, _, rfl⟩, fun _ => rfl⟩
theorem emit (o : Output) : Posted s (s.emit o) := (Noticed.emit o).posted

theorem linkWake (p : Nat) : Posted s (s.linkWake p) := (setPort p _).trans (emit _)

theorem leave (p : Nat) (r : Routing) (m : Msg) : Posted s (s.leave p r m) := by
  unfold State.leave
  extract_lets x k r' wake src x' s1
  have sent : Posted s s1 := (setPort p x').trans (emit _)
  exact ite (sent.trans (linkWake p)) sent

theorem wait (r : Routing) (m : Msg) : Posted s { s with fxb := { s.fxb with transit := s.fxb.transit ++ [(r, m)] } } :=
  ⟨⟨_, _, _, _, _, _, _, _, _, rfl⟩, fun _ => rfl⟩

theorem sendOn (r : Routing) (m : Msg) : Posted s (s.sendOn r m) := ite (refl s) (ite (leave _ r m) (wait r m))

theorem routeOut (r : Routing) (m : Msg) : Posted s (s.routeOut r m) := by
  unfold State.routeOut
  refine ite (sendOn r m) (ite ((Noticed.countUp _ _ _ _ _).trans (.raise _ _)).posted (ite (Noticed.countUp _ _ _ _ _).posted ?_))
  split
  exacts [leave _ _ m, wait r m]

theorem sendPlain (dst : Dev) (tag epoch : BitVec 16) (status : Status) (xinfo : BitVec 16) (m : Msg) :
    Posted s (s.sendPlain dst tag epoch status xinfo m) :=
  ite ⟨⟨_, _, _, _, _, _, _, _, _, rfl⟩, fun _ => rfl⟩ (routeOut _ m)

theorem sendRsp (dst : Dev) (tag epoch : BitVec 16) (status : Status) (xinfo : BitVec 16) (m : Msg) :
    Posted s (s.sendRsp dst tag epoch status xinfo m) := (setPair _ _).trans (routeOut _ m)

theorem sendSeq (r : Routing) (m : Msg) : Posted s (s.sendSeq r m) := (setPair _ _).trans (routeOut _ m)

theorem tellCustodian (tag : BitVec 16) (g : GstReq) : Posted s (s.tellCustodian tag g) := sendPlain ..

theorem flood (port : Option Nat) (m : Msg) : Posted s (s.flood port m) := each fun _ _ => sendOn _ m

theorem linkOut (p : Nat) (m : LinkMsg) : Posted s (s.linkOut p m) :=
  ite (emit _) (ite ((setPort p _).trans (emit _)) (setPort p _))

theorem floodLink (port : Option Nat) (m : LinkMsg) : Posted s (s.floodLink port m) := each fun _ p => linkOut p m

/-! ### What stays -/

section
variable (h : Posted s t)
include h

theorem pages : t.pages = s.pages := by obtain ⟨⟨_, _, _, _, _, _, _, _, _, rfl⟩, -⟩ := h; rfl
theorem pan : t.pan = s.pan := by obtain ⟨⟨_, _, _, _, _, _, _, _, _, rfl⟩, -⟩ := h; rfl
theorem pwr : t.pwr = s.pwr := by obtain ⟨⟨_, _, _, _, _, _, _, _, _, rfl⟩, -⟩ := h; rfl
theorem crs : t.crs = s.crs := by obtain ⟨⟨_, _, _, _, _, _, _, _, _, rfl⟩, -⟩ := h; rfl
theorem slices : t.slices = s.slices := by obtain ⟨⟨_, _, _, _, _, _, _, _, _, rfl⟩, -⟩ := h; rfl
theorem dtc : t.dtc = s.dtc := by obtain ⟨⟨_, _, _, _, _, _, _, _, _, rfl⟩, -⟩ := h; rfl
theorem mte : t.mte = s.mte := by obtain ⟨⟨_, _, _, _, _, _, _, _, _, rfl⟩, -⟩ := h; rfl
theorem mgt : t.mgt = { s.mgt with ibis := t.mgt.ibis } := by obtain ⟨⟨_, _, _, _, _, _, _, _, _, rfl⟩, -⟩ := h; rfl
theorem fxb : t.fxb = { s.fxb with transit := t.fxb.transit, pairs := t.fxb.pairs } := by
  obtain ⟨⟨_, _, _, _, _, _, _, _, _, rfl⟩, -⟩ := h; rfl
theorem sve : t.sve = { s.sve with selfq := t.sve.selfq } := by obtain ⟨⟨_, _, _, _, _, _, _, _, _, rfl⟩, -⟩ := h; rfl
theorem handles : t.mgt.handles = s.mgt.handles := by rw [h.mgt]

end

end Posted

end Sys2Proof.Machine
end

section
/-! PROOFS. Commands on segments (R373 to R376, R385, R386, R397, R501): a packet that spells its operands in their defined bits is relayed to the
custodian with each operand in its place. -/

namespace Sys2Proof.Machine

open Sys2Proof

variable {s : State} {q : Requester} {tag : Byte} {gsn : Gsn}

/-! ### Operands read back (R492) -/

theorem ofNat_fld {n : Nat} (w : BitVec n) (lsb k : Nat) : BitVec.ofNat k (fld w lsb k) = w.extractLsb' lsb k := by
  apply BitVec.eq_of_toNat_eq
  simp [fld, BitVec.extractLsb'_toNat, Nat.shiftRight_eq_div_pow]

theorem setWidth_back {n : Nat} (x : BitVec n) (narrow : n ≤ 32) : (x.setWidth 32).setWidth n = x := by
  rw [BitVec.setWidth_setWidth_of_le _ narrow, BitVec.setWidth_eq]

/-- The low field of a word that spells two fields, and the high one. -/
theorem pair_low {n m : Nat} (x : BitVec n) (y : BitVec m) (narrow : m ≤ 32) : ((x ++ y).setWidth 32).setWidth m = y := by
  apply BitVec.eq_of_getLsbD_eq
  intro i bound
  simp [BitVec.getLsbD_append, bound, Nat.lt_of_lt_of_le bound narrow]

theorem pair_high {n m : Nat} (x : BitVec n) (y : BitVec m) (narrow : n + m ≤ 32) :
    BitVec.ofNat n (fld ((x ++ y).setWidth 32 : Word) m n) = x := by
  rw [ofNat_fld]
  apply BitVec.eq_of_getLsbD_eq
  intro i bound
  have inside : m + i < 32 := by omega
  simp [BitVec.getLsbD_append, bound, inside]

/-- The middle field of a word that spells three. -/
theorem triple_mid {a b c : Nat} (x : BitVec a) (y : BitVec b) (z : BitVec c) (narrow : a + b + c ≤ 32) :
    BitVec.ofNat b (fld ((x ++ y ++ z).setWidth 32 : Word) c b) = y := by
  rw [ofNat_fld]
  apply BitVec.eq_of_getLsbD_eq
  intro i bound
  have inside : c + i < 32 := by omega
  simp [BitVec.getLsbD_append, bound, inside]

theorem triple_high {a b c : Nat} (x : BitVec a) (y : BitVec b) (z : BitVec c) (narrow : a + b + c ≤ 32) :
    BitVec.ofNat a (fld ((x ++ y ++ z).setWidth 32 : Word) (b + c) a) = x := by
  rw [ofNat_fld]
  apply BitVec.eq_of_getLsbD_eq
  intro i bound
  have inside : b + c + i < 32 := by omega
  have above : ¬ b + c + i < c := by omega
  have shift : b + c + i - c = b + i := by omega
  simp [BitVec.getLsbD_append, bound, inside, above, shift]

/-- A packet whose two arguments are wholly in their defined bits. -/
theorem arguments_defined {v w : Word} {m k : Nat} (h : outside v m = false) (g : outside w k = false) :
    ([v, w].zip [m, k]).any (fun e => outside e.1 e.2) = false := by
  simp [h, g]

/-! ### What each command does once it runs -/

theorem State.relay_long {c : CmdCtx} {g : GstReq} (cust : s.fxb.cust ≠ 0) :
    s.relay c g = s.long c (fun s h => s.tellCustodian 0 { g with handle := h }) := if_neg cust

section
variable (cust : s.fxb.cust ≠ 0)
include cust

theorem runCmd_segAlloc {w1 : Word} {d : Dev} : s.runCmd ⟨q, 0x10, tag, false⟩ [w1, d.setWidth 32] = s.long ⟨q, 0x10, tag, false⟩ (fun s h =>
    s.tellCustodian 0 { op := 1, gsn := 0, devA := w1.setWidth 12, head := BitVec.ofNat 6 (fld w1 12 6), keyRange := BitVec.ofNat 6 (fld w1 18 6),
                        region := BitVec.ofNat 8 (fld w1 24 8), devB := d, mmode := 0, handle := h }) := by
  simp [State.runCmd, State.cmdAlloc, State.relay_long cust, segReq]

theorem runCmd_segFree : s.runCmd ⟨q, 0x11, tag, false⟩ [gsn.setWidth 32] =
    s.long ⟨q, 0x11, tag, false⟩ (fun s h => s.tellCustodian 0 ⟨2, gsn, 0, 0, 0, 0, 0, 0, h⟩) := by
  simp [State.runCmd, State.relay_long cust, segReq]

theorem runCmd_segBind {d : Dev} {head : BitVec 6} {mm : BitVec 2} :
    s.runCmd ⟨q, 0x12, tag, false⟩ [gsn.setWidth 32, (mm ++ head ++ d).setWidth 32] =
      s.long ⟨q, 0x12, tag, false⟩ (fun s h => s.tellCustodian 0 ⟨3, gsn, d, 0, 0, 0, head, mm, h⟩) := by
  have dev : ((mm ++ head ++ d).setWidth 32 : Word).setWidth 12 = d := pair_low _ _ (by decide)
  have bits : BitVec.ofNat 6 (fld ((mm ++ head ++ d).setWidth 32 : Word) 12 6) = head := triple_mid _ _ _ (by decide)
  have mode : BitVec.ofNat 2 (fld ((mm ++ head ++ d).setWidth 32 : Word) 18 2) = mm := triple_high _ _ _ (by decide)
  simp only [State.runCmd, State.cmdBind, List.getD_cons_zero, List.getD_cons_succ, dev, bits, mode]
  simp [State.relay_long cust, segReq]

theorem runCmd_segUnbind {d : Dev} {head : BitVec 6} :
    s.runCmd ⟨q, 0x13, tag, false⟩ [gsn.setWidth 32, (head ++ d).setWidth 32] =
      s.long ⟨q, 0x13, tag, false⟩ (fun s h => s.tellCustodian 0 ⟨4, gsn, d, 0, 0, 0, head, 0, h⟩) := by
  have dev : ((head ++ d).setWidth 32 : Word).setWidth 12 = d := pair_low _ _ (by decide)
  have bits : BitVec.ofNat 6 (fld ((head ++ d).setWidth 32 : Word) 12 6) = head := pair_high _ _ (by decide)
  simp only [State.runCmd, State.cmdUnbind, List.getD_cons_zero, List.getD_cons_succ, dev, bits]
  simp [State.relay_long cust, segReq]

theorem runCmd_segMigrate {d : Dev} {r : Byte} :
    s.runCmd ⟨q, 0x14, tag, false⟩ [gsn.setWidth 32, (r ++ d).setWidth 32] =
      s.long ⟨q, 0x14, tag, false⟩ (fun s h => s.tellCustodian 0 ⟨5, gsn, 0, d, r, 0, 0, 0, h⟩) := by
  have dev : ((r ++ d).setWidth 32 : Word).setWidth 12 = d := pair_low _ _ (by decide)
  have bits : BitVec.ofNat 8 (fld ((r ++ d).setWidth 32 : Word) 12 8) = r := pair_high _ _ (by decide)
  simp only [State.runCmd, State.cmdMigrate, List.getD_cons_zero, List.getD_cons_succ, dev, bits]
  simp [State.relay_long cust, segReq]

theorem runCmd_segEvacuate {d : Dev} : s.runCmd ⟨q, 0x15, tag, false⟩ [d.setWidth 32] =
    s.long ⟨q, 0x15, tag, false⟩ (fun s h => s.tellCustodian 0 ⟨12, 0, d, 0, 0, 0, 0, 0, h⟩) := by
  simp [State.runCmd, State.relay_long cust, segReq]

theorem runCmd_segRecover : s.runCmd ⟨q, 0x17, tag, false⟩ [gsn.setWidth 32] =
    s.long ⟨q, 0x17, tag, false⟩ (fun s h => s.tellCustodian 0 ⟨10, gsn, 0, 0, 0, 0, 0, 0, h⟩) := by
  simp [State.runCmd, State.relay_long cust, segReq]

end

theorem runCmd_mirrorSet {w1 w2 : Word} (free : s.mirrorRefusal w1 w2 = none) : s.runCmd ⟨q, 0x16, tag, false⟩ [w1, w2] =
    s.long ⟨q, 0x16, tag, false⟩ (fun s h => s.mirrorStart w1 w2 h) := by
  simp [State.runCmd, State.longUnless, free]

/-! ### SEG_ABORT (R385) -/

/-- An operation is listed under its handle with its opcode and TAG. -/
def State.listed (h : Word) (op tag : Byte) (s : State) : Prop := ∃ x ∈ s.mgt.handles, x.handle = h ∧ x.op = op ∧ x.tag = tag

theorem State.assignCore_listed {h : Word} {op tag : Byte} (s : State) (n : Nat) (there : s.listed h op tag) :
    (s.assignCore n).listed h op tag := by
  unfold State.assignCore
  split
  next => exact there
  next =>
    split
    next => exact there
    next r _ =>
      obtain ⟨x, mem, same⟩ := there
      refine ⟨_, List.mem_map_of_mem mem, ?_⟩
      split <;> exact same

theorem State.assignCores_listed {h : Word} {op tag : Byte} (there : s.listed h op tag) : s.assignCores.listed h op tag :=
  State.each_preserves State.assignCore_listed _ there

theorem State.listed_append (s : State) (serials : Tab Nat) (r : HandleRec) : State.listed r.handle r.op r.tag
    { s with mgt := { s.mgt with serials := serials, handles := s.mgt.handles ++ [r] } } :=
  ⟨r, List.mem_append_right _ (List.mem_singleton_self _), rfl, rfl, rfl⟩

theorem State.newHandle_listed (s : State) (q : Requester) (op tag : Byte) :
    (s.newHandle q op tag).2.listed (s.newHandle q op tag).1 op tag := by
  unfold State.newHandle
  extract_lets o n h next r
  clear_value h next
  have here : r.handle = h ∧ r.op = op ∧ r.tag = tag := ⟨rfl, rfl, rfl⟩
  clear_value r
  dsimp only
  exact State.assignCores_listed ⟨r, List.mem_append_right _ (List.mem_singleton_self _), here⟩

theorem State.cmdAbort_lists (s : State) (c : CmdCtx) (gsn : Word) (cust : s.fxb.cust ≠ 0) :
    ∃ x ∈ (s.cmdAbort c gsn).mgt.handles, x.op = c.op ∧ x.tag = c.tag ∧ x.q = c.q := by
  obtain ⟨x, mem, handle, op, tag⟩ := s.newHandle_listed .internal c.op c.tag
  rw [State.cmdAbort, if_neg cust]
  generalize s.newHandle .internal c.op c.tag = made at mem handle ⊢
  rw [(Posted.tellCustodian _ _).handles]
  refine ⟨{ x with q := c.q }, List.mem_map.mpr ⟨x, mem, if_pos (beq_iff_eq.mpr handle)⟩, op, tag, rfl⟩

theorem segAbort_lists (started : s.pages.started = true) (normal : s.safe = false) (right : s.hasRight q 2 = true) (cust : s.fxb.cust ≠ 0) :
    ∃ u : State, exec (.segAbort q tag (gsn.setWidth 32)) s = .next (s.withPins (fun _ => u.drain)) ∧
      ∃ x ∈ u.mgt.handles, x.op = 0x18 ∧ x.tag = tag ∧ x.q = q := by
  refine ⟨s.cmdAbort ⟨q, 0x18, tag, false⟩ (gsn.setWidth 32), next_withPins (h := fun _ => _) ?_, s.cmdAbort_lists _ _ cust⟩
  have runs : s.runCmd ⟨q, 0x18, tag, false⟩ [gsn.setWidth 32] = s.cmdAbort ⟨q, 0x18, tag, false⟩ (gsn.setWidth 32) := by
    simp [State.runCmd]
  have segment : outside (gsn.setWidth 32) gsnBits = false := outside_setWidth gsn
  rw [State.cmd, if_pos started]
  exact congrArg State.drain ((State.command_runs (op := 0x18) normal rfl (argument_defined segment) right).trans runs)

/-- Settles O31, command by command. -/
theorem segmentCommands : Obligations.SegmentCommands := fun _ _ _ gsn started normal right cust =>
  have segment : outside (gsn.setWidth 32) gsnBits = false := outside_setWidth gsn
  ⟨fun w1 d => cmd_starts (op := 0x10) started normal rfl (arguments_defined (outside_eq_false_of_lt (n := 32) w1.isLt) (outside_setWidth d)) right
     (runCmd_segAlloc cust),
   cmd_starts (op := 0x11) started normal rfl (argument_defined segment) right (runCmd_segFree cust),
   fun _ _ _ => cmd_starts (op := 0x12) started normal rfl (arguments_defined segment (outside_setWidth _)) right (runCmd_segBind cust),
   fun _ _ => cmd_starts (op := 0x13) started normal rfl (arguments_defined segment (outside_setWidth _)) right (runCmd_segUnbind cust),
   fun _ _ => cmd_starts (op := 0x14) started normal rfl (arguments_defined segment (outside_setWidth _)) right (runCmd_segMigrate cust),
   fun d => cmd_starts (op := 0x15) started normal rfl (argument_defined (outside_setWidth d)) right (runCmd_segEvacuate cust),
   cmd_starts (op := 0x17) started normal rfl (argument_defined segment) right (runCmd_segRecover cust),
   segAbort_lists started normal right cust,
   fun _ _ small1 small2 free => cmd_starts (op := 0x16) started normal rfl
     (arguments_defined (outside_eq_false_of_lt (n := 22) small1) (outside_eq_false_of_lt (n := 16) small2)) right (runCmd_mirrorSet free)⟩

end Sys2Proof.Machine
end

section
/-! PROOFS. Requests to the custodian and to the modules that prepare (R367, R371, R373, R375, R380, R385, R401): what each of them does once it has
arrived. -/

namespace Sys2Proof.Machine

open Sys2Proof

variable {s : State} {r : Routing} {gsn : Gsn}

/-! ### A request at the custodian (R369, R373) -/

theorem State.custodyReq_elsewhere {dev : Dev} {g : GstReq} (role : s.fxb.role ≠ 1) :
    s.custodyReq dev g = s.answerCust dev g stState g.gsn 0 := if_pos (by rw [bne_iff_ne.mpr role]; rfl)

/-- An allocation in an active key range takes the range's lowest free segment. -/
theorem State.custodyReq_allocates {dev : Dev} {g : GstReq} {k : Nat} (alloc : g.op = 1) (role : s.fxb.role = 1) (quorate : s.quorate = true)
    (settled : s.sve.claiming = false) (keys : (s.krange g.keyRange.toNat).st = 1) (free : s.lowestFree g.keyRange.toNat = some k) :
    s.custodyReq dev g = (s.addCust { newCust dev g with req := { g with gsn := BitVec.ofNat 26 k }, step := 1 }).queueCommit k
      { freedRow (s.rowAhead k) with state := 1 } := by
  have serves : (s.fxb.role != 1 || !s.quorate || s.sve.claiming) = false := by simp [role, quorate, settled]
  simp only [State.custodyReq, serves, alloc]
  simp [keys, free]

/-- The custodian's order to release a segment frees the copy held here. -/
theorem State.moduleReq_frees {dev : Dev} {g : GstReq} {i : Nat} (release : g.op = 2) (held : s.lsiOf g.gsn.toNat = some i)
    (copy : (s.seg i).st = 4) (gone : (s.row g.gsn.toNat).mirror ≠ s.fxb.devnum) : s.moduleReq dev g = s.freeSeg i := by
  simp only [State.moduleReq, release, held]
  simp [copy, gone]

/-! ### Switch-ready (R371, R380) -/

theorem State.changeSeg_seg (s : State) (i : Nat) (g : Seg) : (s.changeSeg i g).seg i = g := by
  unfold State.changeSeg
  dsimp only
  split
  · exact (congrArg (fun m : Mte => m.segs.get {} i) (State.raise_mte _ _ _)).trans (s.seg_setSeg i g)
  · exact s.seg_setSeg i g

/-- A module that prepares for a segment becomes its tentative owner. -/
theorem State.switchAsked_readies {dev : Dev} {i : Nat} (held : s.lsiOf gsn.toNat = some i) (prepares : (s.seg i).st = 2) :
    s.switchAsked dev gsn =
      (s.changeSeg i { s.seg i with st := 1, tentative := true, epoch := (s.row gsn.toNat).epoch + 1 }).answerDurable i dev gsn 0 := by
  simp only [State.switchAsked, held]
  exact if_pos prepares

/-! ### Answers (R373, R401) -/

theorem State.gstResponse_ends {owner : Dev} {h : Word} (bind : bitAt r.xinfo 9 = false) (unbind : bitAt r.xinfo 10 = false) (own : h ≠ 0)
    (other : (s.mirSetAnswer h gsn (knownStatus r.status)).1 = false) : s.gstResponse r gsn owner h =
      (s.mirSetAnswer h gsn (knownStatus r.status)).2.custDone h (knownStatus r.status) gsn.toNat owner := by
  simp only [State.gstResponse, bind, unbind, if_neg own, other, Bool.false_eq_true, if_false]

theorem State.prepTimeout_refuses {o : CustOp} (waits : s.sve.custody.find? (fun o => o.step == 2 && o.req.gsn == gsn) = some o) :
    s.prepTimeout gsn = s.prepAnswer o.peer gsn stTimeout 0 := by
  simp only [State.prepTimeout, waits]

/-- Settles O42, message by message. -/
theorem custodyRequests : Obligations.CustodyRequests := by
  intro s r here running
  have does {m : Msg} {t : State} (does : (s.credited r m).custodyMsg r m = t) :
      (.next (s.withPins (fun s => s.custodyIn r m)) : Host.Outcome State Fault Refusal) = .next (s.withPins (fun _ => t.drain)) :=
    congrArg Host.Outcome.next (withPins_custodyIn here running does)
  refine ⟨fun g ask other role => does ?_, fun g k ask alloc role quorate settled keys free => does ?_,
    fun g i order release held copy gone => does ?_, fun gsn i ask role held prepares => ⟨_, does (State.custodyMsg_switch _ r _ ask rfl role), ?_⟩,
    fun gsn owner h bind unbind own other => does (State.gstResponse_ends bind unbind own other),
    fun gsn o waits => next_withPins (congrArg State.drain (State.prepTimeout_refuses waits))⟩
  · exact (State.custodyMsg_ask _ r g ask other).trans (State.custodyReq_elsewhere role)
  · have op : g.op ≠ 6 := by rw [alloc]; decide
    exact (State.custodyMsg_ask _ r g ask op).trans (State.custodyReq_allocates alloc role quorate settled keys free)
  · exact (State.custodyMsg_order _ r g order).trans (State.moduleReq_frees release held copy gone)
  · generalize arrived : s.credited r _ = u
    have row : u.row gsn.toNat = s.row gsn.toNat := by rw [← arrived]; rfl
    rw [State.switchAsked_readies (by rw [← arrived]; exact held) (by rw [← arrived]; exact prepares)]
    have seg (g : Seg) : ((u.changeSeg i g).answerDurable i r.src gsn 0).seg i = g := u.changeSeg_seg i g
    rw [seg, row]
    exact ⟨rfl, rfl, rfl⟩

end Sys2Proof.Machine
end

section
/-! PROOFS. The version of the segment table, the run state of the pages, the pantry's recall, the power supervisor's record, the
safe state, the segment records and the regions, past what else an operation brings about: the request path, the engines and the journal leave
them as they are, and a row that takes effect leaves the first four (R97, R98, R366, R380, R484). -/

namespace Sys2Proof.Machine

open Sys2Proof

/-- What few operations write. -/
inductive Spared where
  | version
  | runs
  | recalled
  | power
  | safety
  | segments
  | regions

/-- Rows and commits change the segments and the regions, and a fatal source brings the safe state. -/
def Spared.far : Spared → Bool
  | .version | .runs | .recalled | .power => true
  | .safety | .segments | .regions => false

/-- What a state holds in one part; the others are empty. -/
structure Holding where
  version : Nat := 0
  started : Bool := false
  stopped : List Nat := []
  resetting : List Nat := []
  recalling : Bool := false
  pwr : Pwr := {}
  safe : Nat := 0
  cause : BitVec 3 := 0
  lease : Bool := false
  segs : Tab Seg := []
  commit : Nat := 0
  regions : Tab Region := []

def Spared.of (k : Spared) (pages : Pages) (flt : Flt) (pan : Pantry) (pwr : Pwr) (mte : Mte) (sve : Sve) : Holding :=
  match k with
  | .version => { version := sve.ver }
  | .runs => { started := pages.started, stopped := pages.stopped, resetting := pages.resetting }
  | .recalled => { recalling := pan.recalling }
  | .power => { pwr := pwr }
  | .safety => { safe := flt.safe, cause := flt.cause, lease := sve.lease }
  | .segments => { segs := mte.segs }
  | .regions => { commit := mte.commit, regions := mte.regions }

/-- A state holds in a part what another held. -/
def Spares (k : Spared) (z s : State) : Prop := k.of s.pages s.flt s.pan s.pwr s.mte s.sve = k.of z.pages z.flt z.pan z.pwr z.mte z.sve

def SparesParts (k : Spared) (z s : State) (pages : Pages) (flt : Flt) (pan : Pantry) (pwr : Pwr) (mte : Mte) (sve : Sve) : Prop :=
  Spares k z { s with pages := pages, flt := flt, pan := pan, pwr := pwr, mte := mte, sve := sve }

section
variable {k : Spared} {z s : State}

theorem Spares.refl (k : Spared) (s : State) : Spares k s s := Eq.refl (k.of s.pages s.flt s.pan s.pwr s.mte s.sve)

theorem Spares.rest_iff {o fr rg sh ho pe cy fa pa mg fl pn pw th cr sl dt mc mt po fx hd sv} :
    Spares k z { s with
      out := o, free := fr, regs := rg, shadow := sh, hold := ho, perf := pe, cyc := cy,
      freezeAll := fa, pages := pa, mgt := mg, flt := fl, pan := pn, pwr := pw, thm := th, crs := cr, slices := sl, dtc := dt, mch := mc,
      mte := mt, ports := po, fxb := fx, heads := hd, sve := sv } ↔ SparesParts k z s pa fl pn pw mt sv := Iff.rfl

theorem SparesParts.intro {pages flt pan pwr mte sve} (h : Spares k z s) (version : sve.ver = s.sve.ver)
    (runs : (pages.started, pages.stopped, pages.resetting) = (s.pages.started, s.pages.stopped, s.pages.resetting))
    (recalled : pan.recalling = s.pan.recalling) (power : pwr = s.pwr)
    (safety : (flt.safe, flt.cause, sve.lease) = (s.flt.safe, s.flt.cause, s.sve.lease)) (segments : mte.segs = s.mte.segs)
    (regions : (mte.commit, mte.regions) = (s.mte.commit, s.mte.regions)) : SparesParts k z s pages flt pan pwr mte sve := by
  refine Eq.trans ?_ h
  simp only [Prod.mk.injEq] at runs safety regions
  cases k <;> simp only [Spared.of, version, runs, recalled, power, safety, segments, regions]

theorem SparesParts.distant {pages flt pan pwr mte sve} (far : k.far = true) (h : Spares k z s) (version : sve.ver = s.sve.ver)
    (runs : (pages.started, pages.stopped, pages.resetting) = (s.pages.started, s.pages.stopped, s.pages.resetting))
    (recalled : pan.recalling = s.pan.recalling) (power : pwr = s.pwr) : SparesParts k z s pages flt pan pwr mte sve := by
  refine Eq.trans ?_ h
  simp only [Prod.mk.injEq] at runs
  cases k
  case version => simp only [Spared.of, version]
  case runs => simp only [Spared.of, runs]
  case recalled => simp only [Spared.of, recalled]
  case power => simp only [Spared.of, power]
  all_goals nomatch far

theorem Spares.ite {c : Prop} [Decidable c] {x y : State} (hx : Spares k z x) (hy : Spares k z y) : Spares k z (if c then x else y) := by
  split <;> assumption

theorem Spares.snd {α : Type} {p : α × State} {x : α} {t : State} (h : Spares k z p.2) (e : p = (x, t)) : Spares k z t := by rwa [e] at h

theorem Spares.fold2 {α β : Type} {l : List α} {f : β × State → α → β × State} {p : β × State} (h : Spares k z p.2)
    (hf : ∀ p x, Spares k z p.2 → Spares k z (f p x).2) : Spares k z (l.foldl f p).2 := by
  induction l generalizing p with
  | nil => exact h
  | cons x l ih => exact ih (hf p x h)

/-! ### What a part holds, read off the relation -/

theorem Spares.version (h : Spares .version z s) : s.sve.ver = z.sve.ver := congrArg Holding.version h
theorem Spares.started (h : Spares .runs z s) : s.pages.started = z.pages.started := congrArg Holding.started h
theorem Spares.stopped (h : Spares .runs z s) : s.pages.stopped = z.pages.stopped := congrArg Holding.stopped h
theorem Spares.resetting (h : Spares .runs z s) : s.pages.resetting = z.pages.resetting := congrArg Holding.resetting h
theorem Spares.recalling (h : Spares .recalled z s) : s.pan.recalling = z.pan.recalling := congrArg Holding.recalling h
theorem Spares.pwr (h : Spares .power z s) : s.pwr = z.pwr := congrArg Holding.pwr h
theorem Spares.safe (h : Spares .safety z s) : s.flt.safe = z.flt.safe := congrArg Holding.safe h
theorem Spares.cause (h : Spares .safety z s) : s.flt.cause = z.flt.cause := congrArg Holding.cause h
theorem Spares.lease (h : Spares .safety z s) : s.sve.lease = z.sve.lease := congrArg Holding.lease h
theorem Spares.segs (h : Spares .segments z s) : s.mte.segs = z.mte.segs := congrArg Holding.segs h
theorem Spares.commit (h : Spares .regions z s) : s.mte.commit = z.mte.commit := congrArg Holding.commit h
theorem Spares.regions (h : Spares .regions z s) : s.mte.regions = z.mte.regions := congrArg Holding.regions h

end

end Sys2Proof.Machine

namespace Sys2Proof.Machine.State

set_option linter.unusedSimpArgs false

open Sys2Proof

variable {k : Spared} {z s : State}

theorem far_spares {t : State} (far : k.far = true) (version : t.sve.ver = s.sve.ver) (runs : t.pages = s.pages)
    (recalled : t.pan.recalling = s.pan.recalling) (power : t.pwr = s.pwr) (h : Spares k z s) : Spares k z t := by
  refine Eq.trans ?_ h
  cases k
  case version => simp only [Spared.of, version]
  case runs => simp only [Spared.of, runs]
  case recalled => simp only [Spared.of, recalled]
  case power => simp only [Spared.of, power]
  all_goals nomatch far

theorem setRwr_spares {x1 x2} (h : Spares k z s) : Spares k z (State.setRwr s x1 x2) := by
  unfold State.setRwr
  with_reducible repeat' first | assumption | refine SparesParts.intro ?_ rfl rfl rfl rfl rfl rfl rfl | simp only [↓Spares.rest_iff]

theorem setReg_spares {x1 x2 x3} (h : Spares k z s) : Spares k z (State.setReg s x1 x2 x3) := h

theorem setRegFld_spares {x1 x2 x3 x4 x5} (h : Spares k z s) : Spares k z (State.setRegFld s x1 x2 x3 x4 x5) := by
  unfold State.setRegFld
  with_reducible repeat' first | assumption | apply setReg_spares

theorem countUp_spares {x1 x2 x3 x4 x5} (h : Spares k z s) : Spares k z (State.countUp s x1 x2 x3 x4 x5) := by
  unfold State.countUp
  with_reducible repeat' first | assumption | apply setRegFld_spares

theorem latch_spares {x1 x2 x3 x4} (h : Spares k z s) : Spares k z (State.latch s x1 x2 x3 x4) := by
  unfold State.latch
  with_reducible repeat' first
    | assumption | apply setReg_spares | apply countUp_spares | apply Spares.ite | refine SparesParts.intro ?_ rfl rfl rfl rfl rfl rfl rfl
    | simp only [↓Spares.rest_iff]

theorem raiseAt_spares {x1 x2 x3} (h : Spares k z s) : Spares k z (State.raiseAt s x1 x2 x3) := by
  unfold State.raiseAt
  with_reducible repeat' first | assumption | apply latch_spares | split

theorem raise_spares {x1 x2} (h : Spares k z s) : Spares k z (State.raise s x1 x2) := by
  unfold State.raise
  with_reducible repeat' first | assumption | apply raiseAt_spares

theorem each_spares {x0 : Type} {x2 : List x0} {x3 : State → x0 → State} 
    (g3 : ∀ y0 y1, Spares k z y0 → Spares k z (x3 y0 y1)) (h : Spares k z s) : Spares k z (State.each s x2 x3) := each_preserves g3 x2 h

theorem mapTouch_spares {x1 x2} (h : Spares k z s) : Spares k z (State.mapTouch s x1 x2) := by
  unfold State.mapTouch
  with_reducible repeat' first
    | assumption | apply Spares.ite | refine SparesParts.intro ?_ rfl rfl rfl rfl rfl rfl rfl | simp only [↓Spares.rest_iff]

theorem setEntry_spares {x1 x2} (h : Spares k z s) : Spares k z (State.setEntry s x1 x2) := by
  unfold State.setEntry
  with_reducible repeat' first
    | assumption | apply mapTouch_spares | refine SparesParts.intro ?_ rfl rfl rfl rfl rfl rfl rfl | simp only [↓Spares.rest_iff]

theorem fixRet_spares {x1} (h : Spares k z s) : Spares k z (State.fixRet s x1) := by
  unfold State.fixRet
  with_reducible repeat' first | assumption | apply setEntry_spares | apply Spares.ite

theorem keepIndex_spares {x1} (h : Spares k z s) : Spares k z (State.keepIndex s x1) := by
  unfold State.keepIndex
  with_reducible repeat' first
    | assumption | apply each_spares | apply fixRet_spares | refine SparesParts.intro ?_ rfl rfl rfl rfl rfl rfl rfl | simp only [↓Spares.rest_iff]

theorem releaseMark_spares {x1 x2} (h : Spares k z s) : Spares k z (State.releaseMark s x1 x2) := by
  unfold State.releaseMark
  with_reducible repeat' first
    | assumption | apply setRwr_spares | apply keepIndex_spares | refine SparesParts.intro ?_ rfl rfl rfl rfl rfl rfl rfl
    | simp only [↓Spares.rest_iff] | split

theorem journal_spares {x1} (h : Spares k z s) : Spares k z (State.journal s x1) := by
  unfold State.journal
  with_reducible repeat' first | assumption | refine SparesParts.intro ?_ rfl rfl rfl rfl rfl rfl rfl | simp only [↓Spares.rest_iff]

theorem expireOldest_spares {x1} (h : Spares k z s) : Spares k z (State.expireOldest s x1) := by
  unfold State.expireOldest
  with_reducible repeat' first | assumption | apply releaseMark_spares | apply journal_spares | apply raise_spares | split

theorem expireLoop_spares {x0 x2} (h : Spares k z s) : Spares k z (State.expireLoop x0 s x2) := by
  induction x0 generalizing s x2 with
  | zero => exact h
  | succ n ih =>
    unfold State.expireLoop
    with_reducible repeat' first | assumption | apply ih | apply expireOldest_spares | apply Spares.ite

theorem rwPolicy_spares {x1} (h : Spares k z s) : Spares k z (State.rwPolicy s x1) := by
  unfold State.rwPolicy
  with_reducible repeat' first | assumption | apply setRwr_spares | apply raise_spares | apply expireLoop_spares | apply Spares.ite

theorem setPort_spares {x1 x2} (h : Spares k z s) : Spares k z (State.setPort s x1 x2) := h

theorem emit_spares {x1} (h : Spares k z s) : Spares k z (State.emit s x1) := h

theorem linkWake_spares {x1} (h : Spares k z s) : Spares k z (State.linkWake s x1) := by
  unfold State.linkWake
  with_reducible repeat' first | assumption | apply setPort_spares | apply emit_spares

theorem leave_spares {x1 x2 x3} (h : Spares k z s) : Spares k z (State.leave s x1 x2 x3) := by
  unfold State.leave
  with_reducible repeat' first | assumption | apply setPort_spares | apply linkWake_spares | apply emit_spares | apply Spares.ite

theorem sendOn_spares {x1 x2} (h : Spares k z s) : Spares k z (State.sendOn s x1 x2) := by
  unfold State.sendOn
  with_reducible repeat' first
    | assumption | apply leave_spares | apply Spares.ite | refine SparesParts.intro ?_ rfl rfl rfl rfl rfl rfl rfl | simp only [↓Spares.rest_iff]

theorem routeOut_spares {x1 x2} (h : Spares k z s) : Spares k z (State.routeOut s x1 x2) := by
  unfold State.routeOut
  with_reducible repeat' first
    | assumption | apply leave_spares | apply raise_spares | apply countUp_spares | apply sendOn_spares
    | refine SparesParts.intro ?_ rfl rfl rfl rfl rfl rfl rfl | simp only [↓Spares.rest_iff] | split

theorem sendPlain_spares {x1 x2 x3 x4 x5 x6} (h : Spares k z s) : Spares k z (State.sendPlain s x1 x2 x3 x4 x5 x6) := by
  unfold State.sendPlain
  with_reducible repeat' first
    | assumption | apply routeOut_spares | apply Spares.ite | refine SparesParts.intro ?_ rfl rfl rfl rfl rfl rfl rfl | simp only [↓Spares.rest_iff]

theorem setSeg_spares {x1 x2} (far : k.far = true) (h : Spares k z s) : Spares k z (State.setSeg s x1 x2) :=
  far_spares (s := s) far rfl rfl rfl rfl h

theorem changeSeg_spares {x1 x2} (far : k.far = true) (h : Spares k z s) : Spares k z (State.changeSeg s x1 x2) := by
  unfold State.changeSeg
  with_reducible repeat' first
    | assumption | apply journal_spares | apply setSeg_spares | apply raise_spares | apply Spares.ite
    | refine SparesParts.distant far ?_ rfl rfl rfl rfl | simp only [↓Spares.rest_iff]

theorem setOp_spares {x1 x2} (h : Spares k z s) : Spares k z (State.setOp s x1 x2) := by
  unfold State.setOp
  with_reducible repeat' first | assumption | refine SparesParts.intro ?_ rfl rfl rfl rfl rfl rfl rfl | simp only [↓Spares.rest_iff]

theorem setPair_spares {x1 x2} (h : Spares k z s) : Spares k z (State.setPair s x1 x2) := by
  unfold State.setPair
  with_reducible repeat' first | assumption | refine SparesParts.intro ?_ rfl rfl rfl rfl rfl rfl rfl | simp only [↓Spares.rest_iff]

theorem sendRsp_spares {x1 x2 x3 x4 x5 x6} (h : Spares k z s) : Spares k z (State.sendRsp s x1 x2 x3 x4 x5 x6) := by
  unfold State.sendRsp
  with_reducible repeat' first | assumption | apply routeOut_spares | apply setPair_spares

theorem copyAck_spares {x1 x2 x3 x4} (h : Spares k z s) : Spares k z (State.copyAck s x1 x2 x3 x4) := by
  unfold State.copyAck
  with_reducible repeat' first
    | assumption | apply sendPlain_spares | refine SparesParts.intro ?_ rfl rfl rfl rfl rfl rfl rfl | simp only [↓Spares.rest_iff] | split

theorem setHead_spares {x1 x2} (h : Spares k z s) : Spares k z (State.setHead s x1 x2) := h

theorem gpfCheck_spares {x1} (h : Spares k z s) : Spares k z (State.gpfCheck s x1) := by
  unfold State.gpfCheck
  with_reducible repeat' first
    | assumption | apply setHead_spares | apply emit_spares | refine SparesParts.intro ?_ rfl rfl rfl rfl rfl rfl rfl | simp only [↓Spares.rest_iff]
    | split

theorem headDone_spares {x1 x2 x3 x4} (h : Spares k z s) : Spares k z (State.headDone s x1 x2 x3 x4) := by
  unfold State.headDone
  with_reducible repeat' first
    | assumption | apply gpfCheck_spares | apply setHead_spares | refine SparesParts.intro ?_ rfl rfl rfl rfl rfl rfl rfl
    | simp only [↓Spares.rest_iff] | split

theorem closeMarks_spares {x1} (h : Spares k z s) : Spares k z (State.closeMarks s x1) := by
  unfold State.closeMarks
  with_reducible repeat' first
    | assumption | intro x | apply sendRsp_spares | apply each_spares | refine SparesParts.intro ?_ rfl rfl rfl rfl rfl rfl rfl
    | simp only [↓Spares.rest_iff]

theorem peerDone_spares {x1 x2 x3} (h : Spares k z s) : Spares k z (State.peerDone s x1 x2 x3) := by
  unfold State.peerDone
  with_reducible repeat' first
    | assumption | apply closeMarks_spares | refine SparesParts.intro ?_ rfl rfl rfl rfl rfl rfl rfl | simp only [↓Spares.rest_iff]

theorem answerBad_spares {x1 x2} (h : Spares k z s) : Spares k z (State.answerBad s x1 x2) := by
  unfold State.answerBad
  with_reducible repeat' first
    | assumption | apply sendRsp_spares | apply copyAck_spares | apply headDone_spares | apply peerDone_spares | apply emit_spares | split

theorem dedupNote_spares {x1 x2 x3 x4} (h : Spares k z s) : Spares k z (State.dedupNote s x1 x2 x3 x4) := by
  unfold State.dedupNote
  with_reducible repeat' first | assumption | refine SparesParts.intro ?_ rfl rfl rfl rfl rfl rfl rfl | simp only [↓Spares.rest_iff]

theorem answerAtomic_spares {x1 x2 x3} (h : Spares k z s) : Spares k z (State.answerAtomic s x1 x2 x3) := by
  unfold State.answerAtomic
  with_reducible repeat' first | assumption | apply sendRsp_spares | apply dedupNote_spares | apply headDone_spares | apply emit_spares | split

theorem discardEntry_spares {x1} (h : Spares k z s) : Spares k z (State.discardEntry s x1) := by
  unfold State.discardEntry
  with_reducible repeat' first
    | assumption | intro x | apply answerBad_spares | apply sendRsp_spares | apply each_spares | apply answerAtomic_spares | apply peerDone_spares
    | split

theorem answerPoint_spares {x1 x2 x3} (h : Spares k z s) : Spares k z (State.answerPoint s x1 x2 x3) := by
  unfold State.answerPoint
  with_reducible repeat' first
    | assumption | apply sendRsp_spares | apply dedupNote_spares | apply copyAck_spares | apply headDone_spares | apply peerDone_spares
    | apply emit_spares | apply Spares.ite | split

theorem ackEarly_spares {x1} (h : Spares k z s) : Spares k z (State.ackEarly s x1) := by
  unfold State.ackEarly
  with_reducible repeat' first | assumption | intro x | apply each_spares | apply answerPoint_spares | apply emit_spares | split

theorem perfAdd_spares {x1 x2 x3 x4} (h : Spares k z s) : Spares k z (State.perfAdd s x1 x2 x3 x4) := by
  induction x2 generalizing s x3 x4 with
  | zero => exact h
  | succ n ih =>
    unfold State.perfAdd
    have counted (p : Tab Nat) : Spares k z { s with perf := p } := h
    dsimp only
    split
    · exact counted _
    · split
      · exact ih (counted _)
      · exact setReg_spares (counted _)

theorem perfEvent_spares {x1 x2 x3} (h : Spares k z s) : Spares k z (State.perfEvent s x1 x2 x3) := by
  unfold State.perfEvent
  with_reducible repeat' first | assumption | intro x | apply perfAdd_spares | apply each_spares | apply Spares.ite

theorem answerRefused_spares {x1} (h : Spares k z s) : Spares k z (State.answerRefused s x1) := by
  unfold State.answerRefused
  with_reducible repeat' first
    | assumption | apply sendRsp_spares | apply copyAck_spares | apply headDone_spares | apply peerDone_spares | apply emit_spares | split

theorem setSlice_spares {x1 x2} (h : Spares k z s) : Spares k z (State.setSlice s x1 x2) := h

theorem admitEntry_spares {x1 x2} (h : Spares k z s) : Spares k z (State.admitEntry s x1 x2) := by
  unfold State.admitEntry
  with_reducible repeat' first
    | assumption | intro x | apply sendRsp_spares | apply ackEarly_spares | apply each_spares | apply perfEvent_spares | apply raise_spares
    | apply answerRefused_spares | apply setSlice_spares | apply answerAtomic_spares | apply peerDone_spares
    | refine SparesParts.intro ?_ rfl rfl rfl rfl rfl rfl rfl | simp only [↓Spares.rest_iff] | split

theorem answerRead_spares {x1 x2 x3} (h : Spares k z s) : Spares k z (State.answerRead s x1 x2 x3) := by
  unfold State.answerRead
  with_reducible repeat' first | assumption | apply sendRsp_spares | apply headDone_spares | apply peerDone_spares | apply emit_spares | split

theorem setMiss_spares {x1 x2} (h : Spares k z s) : Spares k z (State.setMiss s x1 x2) := by
  unfold State.setMiss
  with_reducible repeat' first | assumption | apply setSlice_spares

theorem missRead_spares {x1 x2 x3} (h : Spares k z s) : Spares k z (State.missRead s x1 x2 x3) := by
  unfold State.missRead
  with_reducible repeat' first
    | assumption | apply perfEvent_spares | apply setMiss_spares | apply setSlice_spares | refine SparesParts.intro ?_ rfl rfl rfl rfl rfl rfl rfl
    | simp only [↓Spares.rest_iff] | split

theorem readWay_spares {x1 x2 x3} (h : Spares k z s) : Spares k z (State.readWay s x1 x2 x3).2 := by
  unfold State.readWay
  with_reducible repeat' first
    | assumption | apply raise_spares | apply countUp_spares | apply setSlice_spares | refine SparesParts.intro ?_ rfl rfl rfl rfl rfl rfl rfl
    | simp only [↓Spares.rest_iff] | split

theorem lookRead_spares {x1 x2 x3} (h : Spares k z s) : Spares k z (State.lookRead s x1 x2 x3) := by
  unfold State.lookRead
  with_reducible repeat' first
    | assumption | apply missRead_spares | apply perfEvent_spares | apply answerRead_spares | apply setSlice_spares | apply readWay_spares
    | apply Spares.ite | split | (refine Spares.snd ?_ ‹_ = (_, _)›)

theorem admitRead_spares {x1 x2 x3} (h : Spares k z s) : Spares k z (State.admitRead s x1 x2 x3) := by
  unfold State.admitRead
  with_reducible repeat' first
    | assumption | apply perfEvent_spares | apply lookRead_spares | apply answerRead_spares | apply setSlice_spares | apply Spares.ite

theorem admitOne_spares {x1 x2 x3} (h : Spares k z s) : Spares k z (State.admitOne s x1 x2 x3).2 := by
  unfold State.admitOne
  with_reducible repeat' first
    | assumption | apply discardEntry_spares | apply admitEntry_spares | apply answerRead_spares | apply admitRead_spares
    | refine SparesParts.intro ?_ rfl rfl rfl rfl rfl rfl rfl | simp only [↓Spares.rest_iff] | split

theorem admitList_spares {x1 x2 x3} (h : Spares k z s) : Spares k z (State.admitList s x1 x2 x3).2 := by
  induction x3 generalizing s x1 x2 with
  | nil => exact h
  | cons y t ih =>
    unfold State.admitList
    with_reducible repeat' first | assumption | apply ih | apply admitOne_spares

theorem admitAll_spares {x1} (h : Spares k z s) : Spares k z (State.admitAll s x1) := by
  unfold State.admitAll
  with_reducible repeat' first | assumption | apply admitList_spares | apply setSlice_spares

theorem resumeAdmission_spares (h : Spares k z s) : Spares k z (State.resumeAdmission s) := by
  unfold State.resumeAdmission
  with_reducible repeat' first | assumption | apply each_spares | apply admitAll_spares

theorem freeSegs_spares {x1} (h : Spares k z s) : Spares k z (State.freeSegs s x1) := by
  unfold State.freeSegs
  with_reducible repeat' first
    | assumption | apply resumeAdmission_spares | refine SparesParts.intro ?_ rfl rfl rfl rfl rfl rfl rfl | simp only [↓Spares.rest_iff]

theorem tagTouch_spares {x1 x2} (h : Spares k z s) : Spares k z (State.tagTouch s x1 x2) := by
  unfold State.tagTouch
  with_reducible repeat' first
    | assumption | apply Spares.ite | refine SparesParts.intro ?_ rfl rfl rfl rfl rfl rfl rfl | simp only [↓Spares.rest_iff]

theorem dropFrame_spares {x1} (h : Spares k z s) : Spares k z (State.dropFrame s x1) := by
  unfold State.dropFrame
  with_reducible repeat' first
    | assumption | apply tagTouch_spares | refine SparesParts.intro ?_ rfl rfl rfl rfl rfl rfl rfl | simp only [↓Spares.rest_iff]

theorem wakeFill_spares {x1} (h : Spares k z s) : Spares k z (State.wakeFill s x1) := by
  unfold State.wakeFill
  with_reducible repeat' first | assumption | intro x | apply each_spares | apply setSlice_spares

theorem gpfChecks_spares (h : Spares k z s) : Spares k z (State.gpfChecks s) := by
  unfold State.gpfChecks
  with_reducible repeat' first | assumption | apply gpfCheck_spares | apply each_spares | apply closeMarks_spares

theorem endFill_spares {x1} (h : Spares k z s) : Spares k z (State.endFill s x1) := by
  unfold State.endFill
  with_reducible repeat' first | assumption | refine SparesParts.intro ?_ rfl rfl rfl rfl rfl rfl rfl | simp only [↓Spares.rest_iff]

theorem forgetPages_spares {x1} (h : Spares k z s) : Spares k z (State.forgetPages s x1) := by
  unfold State.forgetPages
  with_reducible repeat' first
    | assumption | apply each_spares | apply endFill_spares | refine SparesParts.intro ?_ rfl rfl rfl rfl rfl rfl rfl | simp only [↓Spares.rest_iff]

theorem discardSegs_spares {x1} (h : Spares k z s) : Spares k z (State.discardSegs s x1) := by
  unfold State.discardSegs
  with_reducible repeat' first
    | assumption | intro x | apply dropFrame_spares | apply wakeFill_spares | apply gpfChecks_spares | apply each_spares
    | apply answerRefused_spares | apply setSlice_spares | apply forgetPages_spares | refine SparesParts.intro ?_ rfl rfl rfl rfl rfl rfl rfl
    | simp only [↓Spares.rest_iff]

theorem supersede_spares {x1 x2} (h : Spares k z s) : Spares k z (State.supersede s x1 x2) := by
  unfold State.supersede
  with_reducible repeat' first
    | assumption | apply setEntry_spares | apply journal_spares | refine SparesParts.intro ?_ rfl rfl rfl rfl rfl rfl rfl
    | simp only [↓Spares.rest_iff] | split

theorem reserveWsn_spares (h : Spares k z s) : Spares k z (State.reserveWsn s) := by
  unfold State.reserveWsn
  with_reducible repeat' first
    | assumption | apply journal_spares | apply Spares.ite | refine SparesParts.intro ?_ rfl rfl rfl rfl rfl rfl rfl | simp only [↓Spares.rest_iff]

theorem takeWsn_spares (h : Spares k z s) : Spares k z (State.takeWsn s).2 := by
  unfold State.takeWsn
  extract_lets n src s1 s2
  have numbered : Spares k z s1 := SparesParts.intro h rfl rfl rfl rfl rfl rfl rfl
  have reserved : Spares k z s2 := Spares.ite (reserveWsn_spares numbered) numbered
  clear_value s2
  split
  · exact raise_spares (SparesParts.intro reserved rfl rfl rfl rfl rfl rfl rfl)
  · exact reserved

theorem unmapRange_spares {x1 x2} (h : Spares k z s) : Spares k z (State.unmapRange s x1 x2) := by
  unfold State.unmapRange
  with_reducible repeat' first
    | assumption | intro x | apply supersede_spares | apply setEntry_spares | apply journal_spares | apply each_spares | apply takeWsn_spares

theorem unmapNow_spares {x1 x2} (h : Spares k z s) : Spares k z (State.unmapNow s x1 x2) := by
  unfold State.unmapNow
  with_reducible repeat' first
    | assumption | apply supersede_spares | apply setEntry_spares | apply journal_spares | apply takeWsn_spares
    | refine SparesParts.intro ?_ rfl rfl rfl rfl rfl rfl rfl | simp only [↓Spares.rest_iff]

theorem touchPage_spares {x1} (h : Spares k z s) : Spares k z (State.touchPage s x1) := by
  unfold State.touchPage
  with_reducible repeat' first | assumption | refine SparesParts.intro ?_ rfl rfl rfl rfl rfl rfl rfl | simp only [↓Spares.rest_iff]

theorem unmap_spares {x1 x2} (h : Spares k z s) : Spares k z (State.unmap s x1 x2) := by
  unfold State.unmap
  with_reducible repeat' first
    | assumption | apply reserveWsn_spares | apply unmapNow_spares | apply touchPage_spares | apply Spares.ite
    | refine SparesParts.intro ?_ rfl rfl rfl rfl rfl rfl rfl | simp only [↓Spares.rest_iff]

theorem unmapSegment_spares {x1} (h : Spares k z s) : Spares k z (State.unmapSegment s x1) := by
  unfold State.unmapSegment
  with_reducible repeat' first
    | assumption | intro x | apply unmapRange_spares | apply unmap_spares | apply each_spares
    | refine SparesParts.intro ?_ rfl rfl rfl rfl rfl rfl rfl | simp only [↓Spares.rest_iff]

theorem setLive_spares {x1 x2 x3} (h : Spares k z s) : Spares k z (State.setLive s x1 x2 x3) := by
  unfold State.setLive
  with_reducible repeat' first | assumption | refine SparesParts.intro ?_ rfl rfl rfl rfl rfl rfl rfl | simp only [↓Spares.rest_iff] | split

theorem rwCheck_spares (h : Spares k z s) : Spares k z (State.rwCheck s) := by
  unfold State.rwCheck
  with_reducible repeat' first
    | assumption | apply rwPolicy_spares | apply setLive_spares | apply each_spares | apply raise_spares | apply Spares.ite

theorem sweep_spares {x1 x2} (h : Spares k z s) : Spares k z (State.sweep s x1 x2) := by
  unfold State.sweep
  with_reducible repeat' first | assumption | apply raise_spares | apply countUp_spares | apply setSlice_spares | apply Spares.ite

theorem startInv_spares {x1} (h : Spares k z s) : Spares k z (State.startInv s x1) := by
  unfold State.startInv
  with_reducible repeat' first
    | assumption | apply setSlice_spares | refine SparesParts.intro ?_ rfl rfl rfl rfl rfl rfl rfl | simp only [↓Spares.rest_iff] | split

theorem invDone_spares {x1} (h : Spares k z s) : Spares k z (State.invDone s x1) := by
  unfold State.invDone
  with_reducible repeat' first | assumption | apply setRegFld_spares | apply sweep_spares | apply startInv_spares | apply setSlice_spares | split

theorem serveInv_spares {x1} (h : Spares k z s) : Spares k z (State.serveInv s x1) := by
  unfold State.serveInv
  with_reducible repeat' first | assumption | intro x | apply invDone_spares | apply each_spares

theorem queueInv_spares {x1 x2} (h : Spares k z s) : Spares k z (State.queueInv s x1 x2) := by
  unfold State.queueInv
  with_reducible repeat' first | assumption | apply startInv_spares | apply setSlice_spares | apply Spares.ite

theorem sweepAll_spares {x1} (h : Spares k z s) : Spares k z (State.sweepAll s x1) := by
  unfold State.sweepAll
  with_reducible repeat' first | assumption | intro x | apply serveInv_spares | apply invDone_spares | apply queueInv_spares | apply each_spares

theorem freeSeg_spares {x1} (far : k.far = true) (h : Spares k z s) : Spares k z (State.freeSeg s x1) := by
  unfold State.freeSeg
  with_reducible repeat' first
    | assumption | apply changeSeg_spares | apply freeSegs_spares | apply discardSegs_spares | apply unmapSegment_spares | apply rwCheck_spares
    | apply sweepAll_spares | apply Spares.ite | refine SparesParts.distant far ?_ rfl rfl rfl rfl | simp only [↓Spares.rest_iff]

theorem tellCustodian_spares {x1 x2} (h : Spares k z s) : Spares k z (State.tellCustodian s x1 x2) := by
  unfold State.tellCustodian
  with_reducible repeat' first | assumption | apply sendPlain_spares

theorem askMirror_spares {x1 x2 x3} (h : Spares k z s) : Spares k z (State.askMirror s x1 x2 x3) := by
  unfold State.askMirror
  with_reducible repeat' first | assumption | apply tellCustodian_spares | apply Spares.ite | split

theorem holdSegs_spares {x1} (h : Spares k z s) : Spares k z (State.holdSegs s x1) := by
  unfold State.holdSegs
  with_reducible repeat' first | assumption | refine SparesParts.intro ?_ rfl rfl rfl rfl rfl rfl rfl | simp only [↓Spares.rest_iff]

theorem setFrame_spares {x1 x2} (h : Spares k z s) : Spares k z (State.setFrame s x1 x2) := by
  unfold State.setFrame
  with_reducible repeat' first
    | assumption | apply tagTouch_spares | refine SparesParts.intro ?_ rfl rfl rfl rfl rfl rfl rfl | simp only [↓Spares.rest_iff]

theorem answerAll_spares {x1 x2} (h : Spares k z s) : Spares k z (State.answerAll s x1 x2) := by
  unfold State.answerAll
  with_reducible repeat' first | assumption | intro x | apply each_spares | apply answerPoint_spares

theorem sendIbi_spares {x1 x2} (h : Spares k z s) : Spares k z (State.sendIbi s x1 x2) := by
  unfold State.sendIbi
  split
  · exact h
  · exact h

theorem logInterrupt_spares {x1 x2} (h : Spares k z s) : Spares k z (State.logInterrupt s x1 x2) := by
  unfold State.logInterrupt
  with_reducible repeat' first | assumption | apply emit_spares | apply Spares.ite

theorem postRec_spares {x1 x2 x3} (h : Spares k z s) : Spares k z (State.postRec s x1 x2 x3) := by
  unfold State.postRec
  with_reducible repeat' first
    | assumption | apply logInterrupt_spares | apply raise_spares | apply countUp_spares | apply setHead_spares | apply Spares.ite

theorem cplNotice_spares {x1} (h : Spares k z s) : Spares k z (State.cplNotice s x1) := by
  unfold State.cplNotice
  with_reducible repeat' first | assumption | intro x | apply each_spares | apply sendIbi_spares | apply postRec_spares | apply Spares.ite

theorem popWord_spares {x1} (h : Spares k z s) : Spares k z (State.popWord s x1).2 := by
  unfold State.popWord
  with_reducible repeat' first | assumption | refine SparesParts.intro ?_ rfl rfl rfl rfl rfl rfl rfl | simp only [↓Spares.rest_iff] | split

theorem holdHead_spares {x1 x2} (h : Spares k z s) : Spares k z (State.holdHead s x1 x2) := by
  unfold State.holdHead
  with_reducible repeat' first
    | assumption | apply setReg_spares | refine SparesParts.intro ?_ rfl rfl rfl rfl rfl rfl rfl | simp only [↓Spares.rest_iff]

theorem answerHeldRead_spares {x1} (h : Spares k z s) : Spares k z (State.answerHeldRead s x1) := by
  unfold State.answerHeldRead
  with_reducible repeat' first | assumption | apply popWord_spares | apply holdHead_spares | apply emit_spares

theorem servePops_spares (h : Spares k z s) : Spares k z (State.servePops s) := by
  unfold State.servePops
  with_reducible repeat' first
    | assumption | apply answerHeldRead_spares | apply each_spares | refine SparesParts.intro ?_ rfl rfl rfl rfl rfl rfl rfl
    | simp only [↓Spares.rest_iff]

theorem pushCpl_spares {x1} (h : Spares k z s) : Spares k z (State.pushCpl s x1) := by
  unfold State.pushCpl
  with_reducible repeat' first
    | assumption | apply cplNotice_spares | apply servePops_spares | apply Spares.ite | refine SparesParts.intro ?_ rfl rfl rfl rfl rfl rfl rfl
    | simp only [↓Spares.rest_iff]

theorem answerCmd_spares {x1 x2 x3 x4 x5 x6} (h : Spares k z s) : Spares k z (State.answerCmd s x1 x2 x3 x4 x5 x6) := by
  unfold State.answerCmd
  with_reducible repeat' first | assumption | apply pushCpl_spares | apply emit_spares | split

theorem answerSecured_spares {x1} (h : Spares k z s) : Spares k z (State.answerSecured s x1) := by
  unfold State.answerSecured
  with_reducible repeat' first | assumption | apply sendIbi_spares | apply emit_spares

theorem setCore_spares {x1 x2} (h : Spares k z s) : Spares k z (State.setCore s x1 x2) := by
  unfold State.setCore
  with_reducible repeat' first | assumption | refine SparesParts.intro ?_ rfl rfl rfl rfl rfl rfl rfl | simp only [↓Spares.rest_iff]

theorem freeCore_spares {x1} (h : Spares k z s) : Spares k z (State.freeCore s x1) := by
  unfold State.freeCore
  with_reducible repeat' first | assumption | intro x | apply each_spares | apply setCore_spares | apply Spares.ite

theorem assignCore_spares {x1} (h : Spares k z s) : Spares k z (State.assignCore s x1) := by
  unfold State.assignCore
  with_reducible repeat' first
    | assumption | apply setCore_spares | refine SparesParts.intro ?_ rfl rfl rfl rfl rfl rfl rfl | simp only [↓Spares.rest_iff] | split

theorem assignCores_spares (h : Spares k z s) : Spares k z (State.assignCores s) := by
  unfold State.assignCores
  with_reducible repeat' first | assumption | apply each_spares | apply assignCore_spares

theorem finishHandle_spares {x1 x2} (h : Spares k z s) : Spares k z (State.finishHandle s x1 x2) := by
  unfold State.finishHandle
  with_reducible repeat' first
    | assumption | apply freeCore_spares | apply assignCores_spares | refine SparesParts.intro ?_ rfl rfl rfl rfl rfl rfl rfl
    | simp only [↓Spares.rest_iff]

theorem queueHeadCpl_spares {x1 x2} (h : Spares k z s) : Spares k z (State.queueHeadCpl s x1 x2) := by
  unfold State.queueHeadCpl
  with_reducible repeat' first | assumption | apply postRec_spares | apply setHead_spares

theorem pushHeadCpl_spares {x1 x2} (h : Spares k z s) : Spares k z (State.pushHeadCpl s x1 x2) := by
  unfold State.pushHeadCpl
  with_reducible repeat' first | assumption | apply queueHeadCpl_spares | apply setHead_spares | apply Spares.ite

theorem finish_spares {x1 x2 x3} (h : Spares k z s) : Spares k z (State.finish s x1 x2 x3) := by
  unfold State.finish
  with_reducible repeat' first
    | assumption | apply answerCmd_spares | apply answerSecured_spares | apply finishHandle_spares | apply pushHeadCpl_spares | apply pushCpl_spares
    | split

theorem setKrange_spares {x1 x2} (h : Spares k z s) : Spares k z (State.setKrange s x1 x2) := by
  unfold State.setKrange
  with_reducible repeat' first | assumption | refine SparesParts.intro ?_ rfl rfl rfl rfl rfl rfl rfl | simp only [↓Spares.rest_iff]

theorem newTag_spares (h : Spares k z s) : Spares k z (State.newTag s).2 := by
  unfold State.newTag
  with_reducible repeat' first | assumption | refine SparesParts.intro ?_ rfl rfl rfl rfl rfl rfl rfl | simp only [↓Spares.rest_iff]

theorem custDone_spares {x1 x2 x3 x4} (h : Spares k z s) : Spares k z (State.custDone s x1 x2 x3 x4) := by
  unfold State.custDone
  with_reducible repeat' first | assumption | apply finish_spares | split

theorem endBinding_spares {x1 x2 x3 x4} (h : Spares k z s) : Spares k z (State.endBinding s x1 x2 x3 x4) := by
  unfold State.endBinding
  with_reducible repeat' first | assumption | apply sendPlain_spares | apply custDone_spares | apply Spares.ite

theorem dropOp_spares {x1} (h : Spares k z s) : Spares k z (State.dropOp s x1) := by
  unfold State.dropOp
  with_reducible repeat' first | assumption | refine SparesParts.intro ?_ rfl rfl rfl rfl rfl rfl rfl | simp only [↓Spares.rest_iff]

theorem setBlock_spares {x1 x2} (h : Spares k z s) : Spares k z (State.setBlock s x1 x2) := by
  unfold State.setBlock
  with_reducible repeat' first | assumption | refine SparesParts.intro ?_ rfl rfl rfl rfl rfl rfl rfl | simp only [↓Spares.rest_iff]

theorem openSet_spares {x1 x2 x3 x4} (h : Spares k z s) : Spares k z (State.openSet s x1 x2 x3 x4).2 := by
  unfold State.openSet
  with_reducible repeat' first
    | assumption | intro x | apply setBlock_spares | apply each_spares | refine SparesParts.intro ?_ rfl rfl rfl rfl rfl rfl rfl
    | simp only [↓Spares.rest_iff] | split

theorem openFor_spares {x1 x2 x3} (h : Spares k z s) : Spares k z (State.openFor s x1 x2 x3).2 := by
  unfold State.openFor
  with_reducible repeat' first | assumption | apply openSet_spares | split

theorem fillers_spares {x0 x2} (h : Spares k z s) : Spares k z (State.fillers x0 s x2).2 := by
  induction x0 generalizing s x2 with
  | zero => exact h
  | succ n ih =>
    unfold State.fillers
    with_reducible repeat' first | assumption | apply ih | apply takeWsn_spares

theorem closeStripe_spares {x1 x2 x3 x4 x5} (h : Spares k z s) : Spares k z (State.closeStripe s x1 x2 x3 x4 x5).2 := by
  unfold State.closeStripe
  with_reducible repeat' first
    | assumption | apply openFor_spares | apply fillers_spares | refine SparesParts.intro ?_ rfl rfl rfl rfl rfl rfl rfl
    | simp only [↓Spares.rest_iff] | split

theorem metaPages_spares {x0 x2 x3 x4} (h : Spares k z s) : Spares k z (State.metaPages x0 s x2 x3 x4).2 := by
  induction x0 generalizing s x2 x3 x4 with
  | zero => exact h
  | succ n ih =>
    unfold State.metaPages
    with_reducible repeat' first | assumption | apply ih | apply takeWsn_spares

theorem captureFrame_spares {x1} (h : Spares k z s) : Spares k z (State.captureFrame s x1).2 := by
  unfold State.captureFrame
  with_reducible repeat' first | assumption | apply setFrame_spares | split

theorem captureAll_spares {x0} (h : Spares k z s) : Spares k z (State.captureAll x0 s).2 := by
  induction x0 generalizing s  with
  | nil => exact h
  | cons y t ih =>
    unfold State.captureAll
    with_reducible repeat' first | assumption | apply ih | apply captureFrame_spares | split

theorem readyStripe_spares {x1} (h : Spares k z s) : Spares k z (State.readyStripe s x1).2 := by
  unfold State.readyStripe
  with_reducible repeat' first | assumption | apply captureAll_spares | split

theorem advanceRow_spares {x1} (h : Spares k z s) : Spares k z (State.advanceRow s x1) := by
  unfold State.advanceRow
  with_reducible repeat' first | assumption | intro x | apply setBlock_spares | apply each_spares | split

theorem setStripe_spares {x1} (h : Spares k z s) : Spares k z (State.setStripe s x1) := by
  unfold State.setStripe
  with_reducible repeat' first | assumption | refine SparesParts.intro ?_ rfl rfl rfl rfl rfl rfl rfl | simp only [↓Spares.rest_iff]

theorem setDie_spares {x1 x2} (h : Spares k z s) : Spares k z (State.setDie s x1 x2) := by
  unfold State.setDie
  with_reducible repeat' first | assumption | refine SparesParts.intro ?_ rfl rfl rfl rfl rfl rfl rfl | simp only [↓Spares.rest_iff]

theorem setBusy_spares {x1 x2} (h : Spares k z s) : Spares k z (State.setBusy s x1 x2) := by
  unfold State.setBusy
  with_reducible repeat' first | assumption | intro x | apply setDie_spares | apply each_spares

theorem startRow_spares {x1 x2} (h : Spares k z s) : Spares k z (State.startRow s x1 x2) := by
  unfold State.startRow
  with_reducible repeat' first
    | assumption | intro x | apply readyStripe_spares | apply advanceRow_spares | apply each_spares | apply setStripe_spares | apply setBusy_spares

theorem orderFault_spares {x1} (h : Spares k z s) : Spares k z (State.orderFault s x1) := by
  unfold State.orderFault
  with_reducible repeat' first | assumption | apply raiseAt_spares

theorem issueMeta_spares {x1} (h : Spares k z s) : Spares k z (State.issueMeta s x1) := by
  unfold State.issueMeta
  with_reducible repeat' first | assumption | apply startRow_spares | apply orderFault_spares | split

theorem closeJournal_spares (h : Spares k z s) : Spares k z (State.closeJournal s) := by
  unfold State.closeJournal
  with_reducible repeat' first
    | assumption | apply closeStripe_spares | apply metaPages_spares | apply issueMeta_spares | apply Spares.ite
    | refine SparesParts.intro ?_ rfl rfl rfl rfl rfl rfl rfl | simp only [↓Spares.rest_iff]

theorem tendJournal_spares (h : Spares k z s) : Spares k z (State.tendJournal s) := by
  unfold State.tendJournal
  with_reducible repeat' first | assumption | apply closeJournal_spares | apply Spares.ite

theorem placeOne_spares {x1} (h : Spares k z s) : Spares k z (State.placeOne s x1) := by
  unfold State.placeOne
  with_reducible repeat' first
    | assumption | apply takeWsn_spares | refine SparesParts.intro ?_ rfl rfl rfl rfl rfl rfl rfl | simp only [↓Spares.rest_iff]

theorem closeGather_spares {x1} (h : Spares k z s) : Spares k z (State.closeGather s x1) := by
  unfold State.closeGather
  with_reducible repeat' first
    | assumption | apply closeStripe_spares | refine SparesParts.intro ?_ rfl rfl rfl rfl rfl rfl rfl | simp only [↓Spares.rest_iff] | split

theorem placeHanded_spares {x0} (h : Spares k z s) : Spares k z (State.placeHanded x0 s) := by
  induction x0 generalizing s  with
  | zero => exact h
  | succ n ih =>
    unfold State.placeHanded
    with_reducible repeat' first
      | assumption | apply ih | apply placeOne_spares | apply closeGather_spares | refine SparesParts.intro ?_ rfl rfl rfl rfl rfl rfl rfl
      | simp only [↓Spares.rest_iff] | split

theorem pump_spares (h : Spares k z s) : Spares k z (State.pump s) := by
  unfold State.pump
  with_reducible repeat' first
    | assumption | apply reserveWsn_spares | apply tendJournal_spares | apply placeHanded_spares | apply closeGather_spares | apply Spares.ite

theorem handOver_spares {x1} (h : Spares k z s) : Spares k z (State.handOver s x1) := by
  unfold State.handOver
  with_reducible repeat' first
    | assumption | apply setFrame_spares | refine SparesParts.intro ?_ rfl rfl rfl rfl rfl rfl rfl | simp only [↓Spares.rest_iff] | split

theorem badAll_spares {x1 x2} (h : Spares k z s) : Spares k z (State.badAll s x1 x2) := by
  unfold State.badAll
  with_reducible repeat' first | assumption | intro x | apply answerBad_spares | apply each_spares

theorem mirrorPoint_spares {x1 x2} (h : Spares k z s) : Spares k z (State.mirrorPoint s x1 x2) := by
  unfold State.mirrorPoint
  with_reducible repeat' first | assumption | apply setFrame_spares | apply answerAll_spares | apply badAll_spares | split

theorem dropUpdates_spares {x1} (h : Spares k z s) : Spares k z (State.dropUpdates s x1) := by
  unfold State.dropUpdates
  with_reducible repeat' first
    | assumption | intro x | apply each_spares | apply mirrorPoint_spares | refine SparesParts.intro ?_ rfl rfl rfl rfl rfl rfl rfl
    | simp only [↓Spares.rest_iff]

theorem laggedBreach_spares {x1 x2} (h : Spares k z s) : Spares k z (State.laggedBreach s x1 x2) := by
  unfold State.laggedBreach
  with_reducible repeat' first | assumption | apply raiseAt_spares | apply Spares.ite

theorem rowOwner_spares {x1 x2 x3 x4} (far : k.far = true) (h : Spares k z s) : Spares k z (State.rowOwner s x1 x2 x3 x4) := by
  unfold State.rowOwner
  with_reducible repeat' first
    | assumption | apply changeSeg_spares | apply freeSegs_spares | apply dropUpdates_spares | apply laggedBreach_spares | apply dropOp_spares
    | refine SparesParts.distant far ?_ rfl rfl rfl rfl | simp only [↓Spares.rest_iff] | split

theorem sendSeq_spares {x1 x2} (h : Spares k z s) : Spares k z (State.sendSeq s x1 x2) := by
  unfold State.sendSeq
  with_reducible repeat' first | assumption | apply routeOut_spares | apply setPair_spares

theorem sendRemote_spares {x1} (h : Spares k z s) : Spares k z (State.sendRemote s x1) := by
  unfold State.sendRemote
  with_reducible repeat' first
    | assumption | apply newTag_spares | apply sendSeq_spares | refine SparesParts.intro ?_ rfl rfl rfl rfl rfl rfl rfl
    | simp only [↓Spares.rest_iff]

theorem offerRemote_spares {x1} (h : Spares k z s) : Spares k z (State.offerRemote s x1) := by
  unfold State.offerRemote
  with_reducible repeat' first
    | assumption | apply sendRemote_spares | apply Spares.ite | refine SparesParts.intro ?_ rfl rfl rfl rfl rfl rfl rfl
    | simp only [↓Spares.rest_iff]

theorem arrive_spares {x1} (h : Spares k z s) : Spares k z (State.arrive s x1) := by
  unfold State.arrive
  with_reducible repeat' first | assumption | apply admitAll_spares | apply setSlice_spares

theorem localRead_spares {x1 x2 x3 x4} (h : Spares k z s) : Spares k z (State.localRead s x1 x2 x3 x4) := by
  unfold State.localRead
  with_reducible repeat' first | assumption | apply arrive_spares

theorem localStore_spares {x1 x2 x3 x4 x5 x6} (h : Spares k z s) : Spares k z (State.localStore s x1 x2 x3 x4 x5 x6) := by
  unfold State.localStore
  with_reducible repeat' first | assumption | apply arrive_spares

theorem localAtomic_spares {x1 x2 x3 x4 x5 x6 x7 x8} (h : Spares k z s) : Spares k z (State.localAtomic s x1 x2 x3 x4 x5 x6 x7 x8) := by
  unfold State.localAtomic
  with_reducible repeat' first | assumption | apply arrive_spares

theorem runLocal_spares {x1} (h : Spares k z s) : Spares k z (State.runLocal s x1) := by
  unfold State.runLocal
  with_reducible repeat' first | assumption | apply localRead_spares | apply localStore_spares | apply localAtomic_spares | split

theorem offerAgain_spares {x1} (h : Spares k z s) : Spares k z (State.offerAgain s x1) := by
  unfold State.offerAgain
  with_reducible repeat' first | assumption | apply offerRemote_spares | apply runLocal_spares | apply Spares.ite

theorem retryWaitq_spares (h : Spares k z s) : Spares k z (State.retryWaitq s) := by
  unfold State.retryWaitq
  with_reducible repeat' first
    | assumption | apply each_spares | apply offerAgain_spares | apply Spares.ite | refine SparesParts.intro ?_ rfl rfl rfl rfl rfl rfl rfl
    | simp only [↓Spares.rest_iff]

theorem rowOther_spares {x1 x2 x3 x4} (far : k.far = true) (h : Spares k z s) : Spares k z (State.rowOther s x1 x2 x3 x4) := by
  unfold State.rowOther
  with_reducible repeat' first
    | assumption | apply changeSeg_spares | apply freeSeg_spares | apply dropOp_spares | refine SparesParts.distant far ?_ rfl rfl rfl rfl
    | simp only [↓Spares.rest_iff] | split

theorem rowDir_spares {x1 x2 x3 x4} (h : Spares k z s) : Spares k z (State.rowDir s x1 x2 x3 x4) := by
  unfold State.rowDir
  with_reducible repeat' first | assumption | refine SparesParts.intro ?_ rfl rfl rfl rfl rfl rfl rfl | simp only [↓Spares.rest_iff]

theorem reissueHere_spares {x1} (h : Spares k z s) : Spares k z (State.reissueHere s x1) := by
  unfold State.reissueHere
  with_reducible repeat' first
    | assumption | apply answerBad_spares | apply answerPoint_spares | apply runLocal_spares | apply answerAtomic_spares | split

theorem reissue_spares {x1 x2} (h : Spares k z s) : Spares k z (State.reissue s x1 x2) := by
  unfold State.reissue
  with_reducible repeat' first
    | assumption | apply reissueHere_spares | apply sendSeq_spares | apply Spares.ite | refine SparesParts.intro ?_ rfl rfl rfl rfl rfl rfl rfl
    | simp only [↓Spares.rest_iff]

theorem reissueAll_spares {x1 x2} (h : Spares k z s) : Spares k z (State.reissueAll s x1 x2) := by
  unfold State.reissueAll
  with_reducible repeat' first | assumption | intro x | apply each_spares | apply reissue_spares | split

theorem applyRow_spares {x1 x2} (far : k.far = true) (h : Spares k z s) : Spares k z (State.applyRow s x1 x2) := by
  unfold State.applyRow
  with_reducible repeat' first
    | assumption | apply rowOwner_spares | apply retryWaitq_spares | apply rowOther_spares | apply rowDir_spares | apply askMirror_spares
    | apply reissueAll_spares | refine SparesParts.distant far ?_ rfl rfl rfl rfl | simp only [↓Spares.rest_iff] | split

theorem sendUpdate_spares {x1 x2 x3} (h : Spares k z s) : Spares k z (State.sendUpdate s x1 x2 x3) := by
  unfold State.sendUpdate
  with_reducible repeat' first | assumption | apply sendPlain_spares | split

theorem lineWaits_spares {x1 x2 x3} (h : Spares k z s) : Spares k z (State.lineWaits s x1 x2 x3) := by
  unfold State.lineWaits
  with_reducible repeat' first | assumption | refine SparesParts.intro ?_ rfl rfl rfl rfl rfl rfl rfl | simp only [↓Spares.rest_iff]

theorem takeVictim_spares {x1} (h : Spares k z s) : Spares k z (State.takeVictim s x1).2 := by
  unfold State.takeVictim
  with_reducible repeat' first
    | assumption | intro x | apply dropFrame_spares | apply setFrame_spares | apply each_spares
    | refine SparesParts.intro ?_ rfl rfl rfl rfl rfl rfl rfl | simp only [↓Spares.rest_iff] | split

theorem allocFrame_spares {x1} (h : Spares k z s) : Spares k z (State.allocFrame s x1).2 := by
  unfold State.allocFrame
  with_reducible repeat' first
    | assumption | apply takeVictim_spares | refine SparesParts.intro ?_ rfl rfl rfl rfl rfl rfl rfl | simp only [↓Spares.rest_iff] | split

theorem handDown_spares {x0} (h : Spares k z s) : Spares k z (State.handDown x0 s) := by
  induction x0 generalizing s  with
  | zero => exact h
  | succ n ih =>
    unfold State.handDown
    with_reducible repeat' first | assumption | apply ih | apply handOver_spares | split

theorem handHigh_spares (h : Spares k z s) : Spares k z (State.handHigh s) := by
  unfold State.handHigh
  with_reducible repeat' first | assumption | apply handDown_spares | apply Spares.ite

theorem dirtyTriggers_spares {x1 x2} (h : Spares k z s) : Spares k z (State.dirtyTriggers s x1 x2) := by
  unfold State.dirtyTriggers
  with_reducible repeat' first | assumption | apply handOver_spares | apply handHigh_spares | apply Spares.ite

theorem becomeDirty_spares {x1 x2} (h : Spares k z s) : Spares k z (State.becomeDirty s x1 x2) := by
  unfold State.becomeDirty
  with_reducible repeat' first
    | assumption | apply setFrame_spares | apply dirtyTriggers_spares | refine SparesParts.intro ?_ rfl rfl rfl rfl rfl rfl rfl
    | simp only [↓Spares.rest_iff]

theorem checkSpent_spares {x1} (h : Spares k z s) : Spares k z (State.checkSpent s x1) := by
  unfold State.checkSpent
  with_reducible repeat' first | assumption | apply setDie_spares | apply Spares.ite

theorem askRefresh_spares {x1 x2} (h : Spares k z s) : Spares k z (State.askRefresh s x1 x2) := by
  unfold State.askRefresh
  with_reducible repeat' first
    | assumption | apply Spares.ite | refine SparesParts.intro ?_ rfl rfl rfl rfl rfl rfl rfl | simp only [↓Spares.rest_iff]

theorem bumpReads_spares {x1 x2} (h : Spares k z s) : Spares k z (State.bumpReads s x1 x2) := by
  unfold State.bumpReads
  with_reducible repeat' first | assumption | apply askRefresh_spares | apply setBlock_spares | apply Spares.ite

theorem countRead_spares {x1} (h : Spares k z s) : Spares k z (State.countRead s x1) := by
  unfold State.countRead
  with_reducible repeat' first
    | assumption | apply bumpReads_spares | apply Spares.ite | refine SparesParts.intro ?_ rfl rfl rfl rfl rfl rfl rfl
    | simp only [↓Spares.rest_iff]

theorem countRecon_spares {x1} (h : Spares k z s) : Spares k z (State.countRecon s x1) := by
  unfold State.countRecon
  with_reducible repeat' first | assumption | intro x | apply each_spares | apply countRead_spares

theorem suspend_spares {x1} (h : Spares k z s) : Spares k z (State.suspend s x1) := by
  unfold State.suspend
  with_reducible repeat' first | assumption | apply setDie_spares | apply Spares.ite

theorem issueRead_spares {x1 x2 x3} (h : Spares k z s) : Spares k z (State.issueRead s x1 x2 x3) := by
  unfold State.issueRead
  with_reducible repeat' first
    | assumption | apply checkSpent_spares | apply countRecon_spares | apply suspend_spares | apply countRead_spares | apply Spares.ite
    | refine SparesParts.intro ?_ rfl rfl rfl rfl rfl rfl rfl | simp only [↓Spares.rest_iff]

theorem startFill_spares {x1} (h : Spares k z s) : Spares k z (State.startFill s x1) := by
  unfold State.startFill
  with_reducible repeat' first
    | assumption | apply issueRead_spares | apply Spares.ite | refine SparesParts.intro ?_ rfl rfl rfl rfl rfl rfl rfl
    | simp only [↓Spares.rest_iff]

theorem placeLine_spares {x1 x2 x3 x4} (h : Spares k z s) : Spares k z (State.placeLine s x1 x2 x3 x4).2 := by
  unfold State.placeLine
  with_reducible repeat' first
    | assumption | apply setFrame_spares | apply allocFrame_spares | apply wakeFill_spares | apply becomeDirty_spares | apply endFill_spares
    | apply startFill_spares | refine SparesParts.intro ?_ rfl rfl rfl rfl rfl rfl rfl | simp only [↓Spares.rest_iff] | split

theorem acceptedLine_spares {x1} (h : Spares k z s) : Spares k z (State.acceptedLine s x1) := by
  unfold State.acceptedLine
  with_reducible repeat' first | assumption | apply gpfChecks_spares | apply setSlice_spares

theorem askFrame_spares {x1} (h : Spares k z s) : Spares k z (State.askFrame s x1) := by
  unfold State.askFrame
  with_reducible repeat' first
    | assumption | apply handOver_spares | refine SparesParts.intro ?_ rfl rfl rfl rfl rfl rfl rfl | simp only [↓Spares.rest_iff] | split

theorem takeLine_spares {x1 x2 x3 x4} (h : Spares k z s) : Spares k z (State.takeLine s x1 x2 x3 x4) := by
  unfold State.takeLine
  with_reducible repeat' first
    | assumption | apply lineWaits_spares | apply placeLine_spares | apply acceptedLine_spares | apply handHigh_spares | apply answerAll_spares
    | apply askFrame_spares | apply touchPage_spares | refine SparesParts.intro ?_ rfl rfl rfl rfl rfl rfl rfl | simp only [↓Spares.rest_iff]
    | split | (refine Spares.snd ?_ ‹_ = (_, _)›)

theorem dedupAdd_spares {x1 x2} (h : Spares k z s) : Spares k z (State.dedupAdd s x1 x2) := by
  unfold State.dedupAdd
  with_reducible repeat' first
    | assumption | apply raise_spares | apply Spares.ite | refine SparesParts.intro ?_ rfl rfl rfl rfl rfl rfl rfl | simp only [↓Spares.rest_iff]

theorem resumeSegs_spares {x1} (h : Spares k z s) : Spares k z (State.resumeSegs s x1) := by
  unfold State.resumeSegs
  with_reducible repeat' first | assumption | apply freeSegs_spares

theorem setRegion_spares {x1 x2} (far : k.far = true) (h : Spares k z s) : Spares k z (State.setRegion s x1 x2) :=
  far_spares (s := s) far rfl rfl rfl rfl h

theorem applyRegions_spares  (far : k.far = true) (h : Spares k z s) : Spares k z (State.applyRegions s) := by
  unfold State.applyRegions
  with_reducible repeat' first
    | assumption | intro x | apply setRwr_spares | apply changeSeg_spares | apply tendJournal_spares | apply journal_spares
    | apply resumeSegs_spares | apply rwCheck_spares | apply each_spares | apply handHigh_spares | apply sweepAll_spares | apply setRegion_spares
    | apply Spares.ite | refine SparesParts.distant far ?_ rfl rfl rfl rfl | simp only [↓Spares.rest_iff]

theorem regionPoll_spares  (far : k.far = true) (h : Spares k z s) : Spares k z (State.regionPoll s) := by
  unfold State.regionPoll
  with_reducible repeat' first | assumption | apply applyRegions_spares | apply Spares.ite

theorem postAll_spares {x1 x2} (h : Spares k z s) : Spares k z (State.postAll s x1 x2) := by
  unfold State.postAll
  with_reducible repeat' first | assumption | intro x | apply each_spares | apply postRec_spares

theorem memoryEvent_spares (h : Spares k z s) : Spares k z (State.memoryEvent s) := by
  unfold State.memoryEvent
  with_reducible repeat' first | assumption | apply postAll_spares

theorem pinIbis_spares {x1} (h : Spares k z s) : Spares k z (State.pinIbis s x1) := by
  unfold State.pinIbis
  with_reducible repeat' first | assumption | apply memoryEvent_spares | apply sendIbi_spares | apply Spares.ite

theorem handAll_spares {x1} (h : Spares k z s) : Spares k z (State.handAll s x1) := by
  unfold State.handAll
  with_reducible repeat' first | assumption | intro x | apply handOver_spares | apply each_spares

theorem crustStore_spares {x1 x2 x3} (h : Spares k z s) : Spares k z (State.crustStore s x1 x2 x3).2.2 := by
  unfold State.crustStore
  with_reducible repeat' first
    | assumption | apply raise_spares | refine SparesParts.intro ?_ rfl rfl rfl rfl rfl rfl rfl | simp only [↓Spares.rest_iff] | split

theorem noteUpdate_spares {x1 x2 x3 x4} (h : Spares k z s) : Spares k z (State.noteUpdate s x1 x2 x3 x4) := by
  unfold State.noteUpdate
  with_reducible repeat' first
    | assumption | apply sendUpdate_spares | apply Spares.ite | refine SparesParts.intro ?_ rfl rfl rfl rfl rfl rfl rfl
    | simp only [↓Spares.rest_iff]

theorem passLine_spares {x1 x2 x3 x4 x5} (h : Spares k z s) : Spares k z (State.passLine s x1 x2 x3 x4 x5) := by
  unfold State.passLine
  with_reducible repeat' first
    | assumption | apply crustStore_spares | apply acceptedLine_spares | apply takeLine_spares | apply badAll_spares | apply noteUpdate_spares
    | split

theorem offerLine_spares {x1 x2} (h : Spares k z s) : Spares k z (State.offerLine s x1 x2) := by
  unfold State.offerLine
  with_reducible repeat' first | assumption | apply passLine_spares | apply setSlice_spares

theorem drainAll_spares {x1 x2 x3} (h : Spares k z s) : Spares k z (State.drainAll s x1 x2 x3) := by
  unfold State.drainAll
  with_reducible repeat' first
    | assumption | intro x | apply offerLine_spares | apply each_spares | apply perfEvent_spares | apply answerRefused_spares
    | apply setSlice_spares | apply Spares.ite

theorem freeLane_spares {x1 x2} (h : Spares k z s) : Spares k z (State.freeLane s x1 x2) := by
  unfold State.freeLane
  with_reducible repeat' first | assumption | apply setSlice_spares

theorem fillWaiter_spares {x1 x2 x3} (h : Spares k z s) : Spares k z (State.fillWaiter s x1 x2 x3) := by
  unfold State.fillWaiter
  with_reducible repeat' first | assumption | apply answerRead_spares | apply Spares.ite

theorem tagFail_spares (h : Spares k z s) : Spares k z (State.tagFail s) := by
  unfold State.tagFail
  with_reducible repeat' first | assumption | apply raise_spares | apply countUp_spares

theorem keyMissing_spares {x1} (h : Spares k z s) : Spares k z (State.keyMissing s x1) := by
  unfold State.keyMissing
  with_reducible repeat' first | assumption | apply setKrange_spares | apply raise_spares | apply Spares.ite

theorem krMismatch_spares (h : Spares k z s) : Spares k z (State.krMismatch s) := by
  unfold State.krMismatch
  with_reducible repeat' first | assumption | apply raise_spares | apply countUp_spares

theorem verifiedValue_spares {x1} (h : Spares k z s) : Spares k z (State.verifiedValue s x1).2 := by
  unfold State.verifiedValue
  with_reducible repeat' first | assumption | apply tagFail_spares | apply keyMissing_spares | apply krMismatch_spares | split

theorem readsFirst_spares {x1 x2} (h : Spares k z s) : Spares k z (State.readsFirst s x1 x2) := by
  unfold State.readsFirst
  with_reducible repeat' first
    | assumption | intro x | apply fillWaiter_spares | apply each_spares | apply verifiedValue_spares | apply setSlice_spares | apply Spares.ite
    | split

theorem notePoison_spares {x1} (h : Spares k z s) : Spares k z (State.notePoison s x1) := by
  unfold State.notePoison
  with_reducible repeat' first | assumption | intro x | apply each_spares | apply setHead_spares | apply Spares.ite

theorem updateWay_spares {x1 x2 x3 x4} (h : Spares k z s) : Spares k z (State.updateWay s x1 x2 x3 x4) := by
  unfold State.updateWay
  with_reducible repeat' first
    | assumption | apply setSlice_spares | refine SparesParts.intro ?_ rfl rfl rfl rfl rfl rfl rfl | simp only [↓Spares.rest_iff] | split

theorem clearPoison_spares {x1} (h : Spares k z s) : Spares k z (State.clearPoison s x1) := by
  unfold State.clearPoison
  with_reducible repeat' first | assumption | intro x | apply each_spares | apply setHead_spares

theorem mergeLine_spares {x1 x2 x3 x4 x5} (h : Spares k z s) : Spares k z (State.mergeLine s x1 x2 x3 x4 x5) := by
  unfold State.mergeLine
  with_reducible repeat' first
    | assumption | apply notePoison_spares | apply updateWay_spares | apply perfEvent_spares | apply clearPoison_spares | apply setSlice_spares
    | apply Spares.ite

theorem tellReleased_spares {x1 x2} (h : Spares k z s) : Spares k z (State.tellReleased s x1 x2) := by
  unfold State.tellReleased
  with_reducible repeat' first
    | assumption | intro x | apply each_spares | apply answerAll_spares | apply answerPoint_spares | apply badAll_spares | apply Spares.ite

theorem checkHigh_spares {x1} (h : Spares k z s) : Spares k z (State.checkHigh s x1) := by
  unfold State.checkHigh
  with_reducible repeat' first | assumption | apply perfEvent_spares | apply setSlice_spares | apply Spares.ite

theorem releaseLine_spares {x1 x2 x3 x4 x5} (h : Spares k z s) : Spares k z (State.releaseLine s x1 x2 x3 x4 x5) := by
  unfold State.releaseLine
  with_reducible repeat' first | assumption | apply mergeLine_spares | apply tellReleased_spares | apply checkHigh_spares

theorem refuseEntry_spares {x1 x2} (h : Spares k z s) : Spares k z (State.refuseEntry s x1 x2) := by
  unfold State.refuseEntry
  with_reducible repeat' first
    | assumption | intro x | apply freeLane_spares | apply answerBad_spares | apply each_spares | apply raise_spares | apply badAll_spares
    | apply answerAtomic_spares | split

theorem answerOld_spares {x1 x2 x3} (h : Spares k z s) : Spares k z (State.answerOld s x1 x2 x3) := by
  unfold State.answerOld
  with_reducible repeat' first | assumption | apply sendRsp_spares | apply dedupNote_spares | apply answerAtomic_spares | split

theorem releaseNow_spares {x1 x2 x3} (h : Spares k z s) : Spares k z (State.releaseNow s x1 x2 x3) := by
  unfold State.releaseNow
  with_reducible repeat' first
    | assumption | intro x | apply freeLane_spares | apply each_spares | apply perfEvent_spares | apply releaseLine_spares
    | apply answerPoint_spares | apply refuseEntry_spares | apply answerOld_spares | refine SparesParts.intro ?_ rfl rfl rfl rfl rfl rfl rfl
    | simp only [↓Spares.rest_iff] | split

theorem forceRelease_spares {x1 x2 x3} (h : Spares k z s) : Spares k z (State.forceRelease s x1 x2 x3) := by
  unfold State.forceRelease
  with_reducible repeat' first
    | assumption | apply freeLane_spares | apply readsFirst_spares | apply releaseNow_spares | apply verifiedValue_spares
    | refine SparesParts.intro ?_ rfl rfl rfl rfl rfl rfl rfl | simp only [↓Spares.rest_iff] | split

theorem forceLanes_spares {x1 x2 x3} (h : Spares k z s) : Spares k z (State.forceLanes s x1 x2 x3) := by
  unfold State.forceLanes
  with_reducible repeat' first | assumption | intro x | apply each_spares | apply forceRelease_spares

theorem flushSlices_spares (h : Spares k z s) : Spares k z (State.flushSlices s) := by
  unfold State.flushSlices
  with_reducible repeat' first
    | assumption | intro x | apply pump_spares | apply drainAll_spares | apply forceLanes_spares | apply each_spares | apply setSlice_spares

theorem leaveTrickle_spares {x1} (h : Spares k z s) : Spares k z (State.leaveTrickle s x1) := by
  unfold State.leaveTrickle
  with_reducible repeat' first | assumption | apply setPort_spares | apply linkWake_spares | apply Spares.ite

theorem unboundAt_spares {x1 x2} (h : Spares k z s) : Spares k z (State.unboundAt s x1 x2) := by
  unfold State.unboundAt
  with_reducible repeat' first | assumption | apply raiseAt_spares | apply countUp_spares | apply setHead_spares | apply Spares.ite

theorem headOut_spares {x1 x2 x3 x4} (h : Spares k z s) : Spares k z (State.headOut s x1 x2 x3 x4) := by
  unfold State.headOut
  with_reducible repeat' first | assumption | apply setHead_spares

theorem invalidSeg_spares {x1} (h : Spares k z s) : Spares k z (State.invalidSeg s x1) := by
  unfold State.invalidSeg
  with_reducible repeat' first | assumption | apply raiseAt_spares

theorem headRead_spares {x1 x2 x3 x4} (h : Spares k z s) : Spares k z (State.headRead s x1 x2 x3 x4) := by
  unfold State.headRead
  with_reducible repeat' first
    | assumption | apply offerRemote_spares | apply localRead_spares | apply headOut_spares | apply answerRead_spares | apply invalidSeg_spares
    | refine SparesParts.intro ?_ rfl rfl rfl rfl rfl rfl rfl | simp only [↓Spares.rest_iff] | split

theorem passRead_spares {x1 x2 x3 x4} (h : Spares k z s) : Spares k z (State.passRead s x1 x2 x3 x4) := by
  unfold State.passRead
  with_reducible repeat' first | assumption | apply unboundAt_spares | apply headRead_spares | apply emit_spares | split

theorem headAtomic_spares {x1 x2 x3 x4 x5 x6 x7 x8} (h : Spares k z s) : Spares k z (State.headAtomic s x1 x2 x3 x4 x5 x6 x7 x8) := by
  unfold State.headAtomic
  with_reducible repeat' first
    | assumption | apply answerBad_spares | apply offerRemote_spares | apply headOut_spares | apply localAtomic_spares | apply invalidSeg_spares
    | apply answerAtomic_spares | apply Spares.ite | split

theorem passAtomic_spares {x1 x2 x3 x4 x5 x6 x7} (h : Spares k z s) : Spares k z (State.passAtomic s x1 x2 x3 x4 x5 x6 x7) := by
  unfold State.passAtomic
  with_reducible repeat' first | assumption | apply headAtomic_spares | apply unboundAt_spares | apply emit_spares | split

theorem headStore_spares {x1 x2 x3 x4 x5 x6} (h : Spares k z s) : Spares k z (State.headStore s x1 x2 x3 x4 x5 x6) := by
  unfold State.headStore
  with_reducible repeat' first
    | assumption | apply answerBad_spares | apply offerRemote_spares | apply headOut_spares | apply localStore_spares | apply answerRefused_spares
    | apply invalidSeg_spares | apply Spares.ite | split

theorem passWrite_spares {x1 x2 x3 x4 x5 x6} (h : Spares k z s) : Spares k z (State.passWrite s x1 x2 x3 x4 x5 x6) := by
  unfold State.passWrite
  with_reducible repeat' first | assumption | apply unboundAt_spares | apply headStore_spares | apply emit_spares | split

theorem passReq_spares {x1 x2} (h : Spares k z s) : Spares k z (State.passReq s x1 x2) := by
  unfold State.passReq
  with_reducible repeat' first | assumption | apply passRead_spares | apply passAtomic_spares | apply passWrite_spares | split

theorem atSerial_spares {x1 : Nat} {x2 : Nat} {x3 : State → State} (g3 : ∀ y0, Spares k z y0 → Spares k z (x3 y0))
    (h : Spares k z s) : Spares k z (State.atSerial s x1 x2 x3) := by
  unfold State.atSerial
  with_reducible repeat' first | assumption | apply setHead_spares | apply g3

theorem freeHeld_spares {x1} (h : Spares k z s) : Spares k z (State.freeHeld s x1) := by
  unfold State.freeHeld
  with_reducible repeat' first
    | assumption | intro x | apply passReq_spares | apply each_spares | apply atSerial_spares | apply setHead_spares | apply Spares.ite

theorem addMark_spares {x1 x2 x3} (h : Spares k z s) : Spares k z (State.addMark s x1 x2 x3) := by
  unfold State.addMark
  with_reducible repeat' first
    | assumption | apply closeMarks_spares | refine SparesParts.intro ?_ rfl rfl rfl rfl rfl rfl rfl | simp only [↓Spares.rest_iff]

theorem peerGpf_spares {x1} (h : Spares k z s) : Spares k z (State.peerGpf s x1) := by
  unfold State.peerGpf
  with_reducible repeat' first
    | assumption | intro x | apply pump_spares | apply drainAll_spares | apply forceLanes_spares | apply each_spares | apply addMark_spares

theorem dedupAnswer_spares {x1 x2} (h : Spares k z s) : Spares k z (State.dedupAnswer s x1 x2).2 := by
  unfold State.dedupAnswer
  with_reducible repeat' first | assumption | apply sendRsp_spares | apply countUp_spares | split

theorem forwardReq_spares {x1 x2 x3} (h : Spares k z s) : Spares k z (State.forwardReq s x1 x2 x3) := by
  unfold State.forwardReq
  with_reducible repeat' first | assumption | apply sendRsp_spares | apply sendSeq_spares | apply Spares.ite

theorem serve_spares {x1 x2 x3} (h : Spares k z s) : Spares k z (State.serve s x1 x2 x3) := by
  unfold State.serve
  with_reducible repeat' first | assumption | refine SparesParts.intro ?_ rfl rfl rfl rfl rfl rfl rfl | simp only [↓Spares.rest_iff]

theorem serveReq_spares {x1 : Routing} {x2 : Msg} {x3 : LineAddr} {x4 : ReqKind} {x5 : State → State} (g5 : ∀ y0, Spares k z y0 → Spares k z (x5 y0))
    (h : Spares k z s) : Spares k z (State.serveReq s x1 x2 x3 x4 x5) := by
  unfold State.serveReq
  with_reducible repeat' first
    | assumption | apply dedupAnswer_spares | apply forwardReq_spares | apply serve_spares | apply sendRsp_spares | apply invalidSeg_spares
    | apply dedupAdd_spares | apply g5 | apply Spares.ite | split

theorem deliverReq_spares {x1 x2} (h : Spares k z s) : Spares k z (State.deliverReq s x1 x2) := by
  unfold State.deliverReq
  cases x2
  all_goals dsimp only
  with_reducible repeat' first
    | assumption | intro x | apply sendRsp_spares | apply localRead_spares | apply localStore_spares | apply addMark_spares | apply peerGpf_spares
    | apply serveReq_spares | apply localAtomic_spares | apply Spares.ite

theorem unpark_spares {x0 x2} (h : Spares k z s) : Spares k z (State.unpark x0 s x2) := by
  induction x0 generalizing s with
  | zero => exact h
  | succ n ih =>
    unfold State.unpark
    dsimp only
    split
    · exact h
    · exact ih (deliverReq_spares (setPair_spares h))

theorem acceptReq_spares {x1 x2} (h : Spares k z s) : Spares k z (State.acceptReq s x1 x2) := by
  unfold State.acceptReq
  with_reducible repeat' first
    | assumption | apply sendRsp_spares | apply routeOut_spares | apply unpark_spares | apply deliverReq_spares | apply countUp_spares
    | apply setPair_spares | apply Spares.ite | refine SparesParts.intro ?_ rfl rfl rfl rfl rfl rfl rfl | simp only [↓Spares.rest_iff]

theorem freeSleepq_spares (h : Spares k z s) : Spares k z (State.freeSleepq s) := by
  unfold State.freeSleepq
  with_reducible repeat' first
    | assumption | intro x | apply each_spares | apply acceptReq_spares | refine SparesParts.intro ?_ rfl rfl rfl rfl rfl rfl rfl
    | simp only [↓Spares.rest_iff]

theorem finishOp_spares {x1 x2 x3} (h : Spares k z s) : Spares k z (State.finishOp s x1 x2 x3) := by
  unfold State.finishOp
  with_reducible repeat' first | assumption | intro x | apply each_spares | apply finish_spares

theorem openWindow_spares {x1 x2} (h : Spares k z s) : Spares k z (State.openWindow s x1 x2) := by
  unfold State.openWindow
  with_reducible repeat' first | assumption | refine SparesParts.intro ?_ rfl rfl rfl rfl rfl rfl rfl | simp only [↓Spares.rest_iff]

theorem checkShort_spares (h : Spares k z s) : Spares k z (State.checkShort s) := by
  unfold State.checkShort
  with_reducible repeat' first
    | assumption | apply raise_spares | apply Spares.ite | refine SparesParts.intro ?_ rfl rfl rfl rfl rfl rfl rfl | simp only [↓Spares.rest_iff]

theorem newBudget_spares {x1} (h : Spares k z s) : Spares k z (State.newBudget s x1) := by
  unfold State.newBudget
  with_reducible repeat' first
    | assumption | apply checkShort_spares | apply handHigh_spares | apply handAll_spares | apply raise_spares | apply Spares.ite
    | refine SparesParts.intro ?_ rfl rfl rfl rfl rfl rfl rfl | simp only [↓Spares.rest_iff]

theorem abortOffers_spares {x1} (h : Spares k z s) : Spares k z (State.abortOffers s x1) := by
  unfold State.abortOffers
  with_reducible repeat' first | assumption | intro x | apply each_spares | apply setHead_spares | apply endBinding_spares

theorem endBarriers_spares {x1 x2} (h : Spares k z s) : Spares k z (State.endBarriers s x1 x2) := by
  unfold State.endBarriers
  with_reducible repeat' first | assumption | intro x | apply each_spares | apply setHead_spares | apply emit_spares

theorem headResetCommon_spares {x1} (h : Spares k z s) : Spares k z (State.headResetCommon s x1) := by
  unfold State.headResetCommon
  with_reducible repeat' first
    | assumption | apply abortOffers_spares | apply openWindow_spares | apply raise_spares | apply endBarriers_spares | apply setHead_spares

theorem headReset_spares {x1} (h : Spares k z s) : Spares k z (State.headReset s x1) := by
  unfold State.headReset
  with_reducible repeat' first | assumption | apply headResetCommon_spares | apply setHead_spares

theorem supLog_spares {x1 x2 x3 x4} (h : Spares k z s) : Spares k z (State.supLog s x1 x2 x3 x4) := by
  unfold State.supLog
  with_reducible repeat' first
    | assumption | apply Spares.ite | refine SparesParts.intro ?_ rfl rfl rfl rfl rfl rfl rfl | simp only [↓Spares.rest_iff]

theorem noticeHeads_spares {x1} (h : Spares k z s) : Spares k z (State.noticeHeads s x1) := by
  unfold State.noticeHeads
  with_reducible repeat' first | assumption | intro x | apply each_spares | apply postRec_spares

theorem setRing_spares {x1 x2} (h : Spares k z s) : Spares k z (State.setRing s x1 x2) := by
  unfold State.setRing
  with_reducible repeat' first
    | assumption | apply raise_spares | apply Spares.ite | refine SparesParts.intro ?_ rfl rfl rfl rfl rfl rfl rfl | simp only [↓Spares.rest_iff]

theorem logRecord_spares {x1} (h : Spares k z s) : Spares k z (State.logRecord s x1) := by
  unfold State.logRecord
  with_reducible repeat' first
    | assumption | apply raise_spares | apply setRing_spares | refine SparesParts.intro ?_ rfl rfl rfl rfl rfl rfl rfl
    | simp only [↓Spares.rest_iff] | split

theorem programSpill_spares (h : Spares k z s) : Spares k z (State.programSpill s) := by
  unfold State.programSpill
  with_reducible repeat' first
    | assumption | apply Spares.ite | refine SparesParts.intro ?_ rfl rfl rfl rfl rfl rfl rfl | simp only [↓Spares.rest_iff]

theorem writeRecord_spares {x1} (h : Spares k z s) : Spares k z (State.writeRecord s x1) := by
  unfold State.writeRecord
  with_reducible repeat' first
    | assumption | apply logRecord_spares | apply programSpill_spares | refine SparesParts.intro ?_ rfl rfl rfl rfl rfl rfl rfl
    | simp only [↓Spares.rest_iff] | split

theorem nextSeq_spares (h : Spares k z s) : Spares k z (State.nextSeq s).2 := by
  unfold State.nextSeq
  with_reducible repeat' first
    | assumption | apply setRing_spares | apply Spares.ite | refine SparesParts.intro ?_ rfl rfl rfl rfl rfl rfl rfl | simp only [↓Spares.rest_iff]

theorem recordLatched_spares {x1} (h : Spares k z s) : Spares k z (State.recordLatched s x1) := by
  unfold State.recordLatched
  with_reducible repeat' first
    | assumption | intro x | apply writeRecord_spares | apply each_spares | apply nextSeq_spares | apply Spares.ite
    | refine SparesParts.intro ?_ rfl rfl rfl rfl rfl rfl rfl | simp only [↓Spares.rest_iff]

theorem recordEvent_spares {x1} (h : Spares k z s) : Spares k z (State.recordEvent s x1) := by
  unfold State.recordEvent
  with_reducible repeat' first
    | assumption | apply recordLatched_spares | refine SparesParts.intro ?_ rfl rfl rfl rfl rfl rfl rfl | simp only [↓Spares.rest_iff]

theorem enterSafe_spares {x1} (far : k.far = true) (h : Spares k z s) : Spares k z (State.enterSafe s x1) := by
  unfold State.enterSafe
  with_reducible repeat' first
    | assumption | apply raise_spares | apply Spares.ite | refine SparesParts.distant far ?_ rfl rfl rfl rfl | simp only [↓Spares.rest_iff]

theorem takeLatched_spares {x1} (far : k.far = true) (h : Spares k z s) : Spares k z (State.takeLatched s x1) := by
  unfold State.takeLatched
  with_reducible repeat' first
    | assumption | apply setReg_spares | apply recordEvent_spares | apply enterSafe_spares | apply countUp_spares | apply Spares.ite
    | refine SparesParts.distant far ?_ rfl rfl rfl rfl | simp only [↓Spares.rest_iff]

theorem endBarriersAll_spares {x1} (h : Spares k z s) : Spares k z (State.endBarriersAll s x1) := by
  unfold State.endBarriersAll
  with_reducible repeat' first | assumption | intro x | apply freeHeld_spares | apply each_spares | apply endBarriers_spares

theorem takeAll_spares  (far : k.far = true) (h : Spares k z s) : Spares k z (State.takeAll s) := by
  unfold State.takeAll
  with_reducible repeat' first
    | assumption | intro x | apply noticeHeads_spares | apply each_spares | apply takeLatched_spares | apply endBarriersAll_spares
    | apply Spares.ite | refine SparesParts.distant far ?_ rfl rfl rfl rfl | simp only [↓Spares.rest_iff]

theorem tearPage_spares {x1 x2} (h : Spares k z s) : Spares k z (State.tearPage s x1 x2) := by
  unfold State.tearPage
  with_reducible repeat' first | assumption | refine SparesParts.intro ?_ rfl rfl rfl rfl rfl rfl rfl | simp only [↓Spares.rest_iff]

theorem tearStripes_spares (h : Spares k z s) : Spares k z (State.tearStripes s) := by
  unfold State.tearStripes
  with_reducible repeat' first
    | assumption | intro x | apply tearPage_spares | apply each_spares | refine SparesParts.intro ?_ rfl rfl rfl rfl rfl rfl rfl
    | simp only [↓Spares.rest_iff]

theorem applyBreakout_spares {x1 x2} (h : Spares k z s) : Spares k z (State.applyBreakout s x1 x2) := by
  unfold State.applyBreakout
  with_reducible repeat' first | assumption | apply raiseAt_spares | apply setRegFld_spares | apply Spares.ite

theorem trainStart_spares {x1} (h : Spares k z s) : Spares k z (State.trainStart s x1) := by
  unfold State.trainStart
  with_reducible repeat' first | assumption | apply setPort_spares

theorem beginTraining_spares {x1} (h : Spares k z s) : Spares k z (State.beginTraining s x1) := by
  unfold State.beginTraining
  with_reducible repeat' first | assumption | apply trainStart_spares | apply Spares.ite

theorem startBlock_spares {x1} (h : Spares k z s) : Spares k z (State.startBlock s x1) := by
  unfold State.startBlock
  with_reducible repeat' first
    | assumption | intro x | apply each_spares | apply applyBreakout_spares | apply beginTraining_spares | apply setHead_spares | apply Spares.ite

theorem failPart_spares {x1} (h : Spares k z s) : Spares k z (State.failPart s x1) := by
  unfold State.failPart
  with_reducible repeat' first
    | assumption | apply setLive_spares | apply raise_spares | apply Spares.ite | refine SparesParts.intro ?_ rfl rfl rfl rfl rfl rfl rfl
    | simp only [↓Spares.rest_iff]

theorem fenceReactionEnd_spares {x1 x2} (h : Spares k z s) : Spares k z (State.fenceReactionEnd s x1 x2) := by
  unfold State.fenceReactionEnd
  with_reducible repeat' first
    | assumption | apply Spares.ite | refine SparesParts.intro ?_ rfl rfl rfl rfl rfl rfl rfl | simp only [↓Spares.rest_iff]

theorem startCommitRegions_spares  (far : k.far = true) (h : Spares k z s) : Spares k z (State.startCommitRegions s) := by
  unfold State.startCommitRegions
  with_reducible repeat' first
    | assumption | apply regionPoll_spares | apply holdSegs_spares | refine SparesParts.distant far ?_ rfl rfl rfl rfl
    | simp only [↓Spares.rest_iff]

theorem takeParam_spares {x1} (h : Spares k z s) : Spares k z (State.takeParam s x1) := by
  unfold State.takeParam
  with_reducible repeat' first | assumption | apply setReg_spares | split

theorem takeParams_spares (h : Spares k z s) : Spares k z (State.takeParams s) := by
  unfold State.takeParams
  with_reducible repeat' first
    | assumption | intro x | apply takeParam_spares | apply each_spares | apply raise_spares | apply setHead_spares | apply Spares.ite
    | refine SparesParts.intro ?_ rfl rfl rfl rfl rfl rfl rfl | simp only [↓Spares.rest_iff]

theorem takeKeys_spares (h : Spares k z s) : Spares k z (State.takeKeys s) := by
  unfold State.takeKeys
  with_reducible repeat' first
    | assumption | intro x | apply each_spares | apply setKrange_spares | apply Spares.ite | refine SparesParts.intro ?_ rfl rfl rfl rfl rfl rfl rfl
    | simp only [↓Spares.rest_iff]

theorem startCores_spares (h : Spares k z s) : Spares k z (State.startCores s) := by
  unfold State.startCores
  with_reducible repeat' first | assumption | intro x | apply each_spares | apply setCore_spares

theorem copyLate_spares (h : Spares k z s) : Spares k z (State.copyLate s) := by
  unfold State.copyLate
  with_reducible repeat' first
    | assumption | intro x | apply logRecord_spares | apply programSpill_spares | apply each_spares | apply Spares.ite
    | refine SparesParts.intro ?_ rfl rfl rfl rfl rfl rfl rfl | simp only [↓Spares.rest_iff]

theorem startCage_spares {x1} (h : Spares k z s) : Spares k z (State.startCage s x1) := by
  unfold State.startCage
  with_reducible repeat' first | assumption | apply startBlock_spares | apply each_spares

theorem gpfFlushEnd_spares (h : Spares k z s) : Spares k z (State.gpfFlushEnd s) := by
  unfold State.gpfFlushEnd
  with_reducible repeat' first | assumption | intro x | apply each_spares | apply setHead_spares | apply emit_spares | apply Spares.ite

theorem resetHead_spares {x1} (h : Spares k z s) : Spares k z (State.resetHead s x1) := by
  unfold State.resetHead
  with_reducible repeat' first | assumption | apply headReset_spares | apply Spares.ite

theorem redirectOne_spares {x1 x2} (h : Spares k z s) : Spares k z (State.redirectOne s x1 x2) := by
  unfold State.redirectOne
  with_reducible repeat' first
    | assumption | intro x | apply forwardReq_spares | apply offerRemote_spares | apply each_spares | apply peerDone_spares | split

theorem sliceAfresh_spares {x1} (h : Spares k z s) : Spares k z (State.sliceAfresh s x1) := by
  unfold State.sliceAfresh
  with_reducible repeat' first
    | assumption | intro x | apply pump_spares | apply drainAll_spares | apply each_spares | apply admitAll_spares | apply setRegFld_spares
    | apply badAll_spares | apply answerRead_spares | apply setSlice_spares | apply Spares.ite

theorem redirectHeld_spares {x1 x2} (h : Spares k z s) : Spares k z (State.redirectHeld s x1 x2) := by
  unfold State.redirectHeld
  with_reducible repeat' first | assumption | intro x | apply redirectOne_spares | apply each_spares | apply setSlice_spares

end Sys2Proof.Machine.State
end

section
/-! PROOFS. The segment table (R367, R368, R370 to R372, R384, R396): updates in version order, acknowledgements, claims and what their waits do. -/

namespace Sys2Proof.Machine

open Sys2Proof

variable {s : State} {r : Routing} {gsn : Gsn} {row : GstRow}

/-! ### Updates in version order (R367, R368) -/

theorem State.applyVersion_ver (s : State) (ver : Nat) (gsn : Gsn) (row : GstRow) : (s.applyVersion ver gsn row).sve.ver = ver :=
  (State.applyRow_spares rfl (Spares.refl .version _)).version

/-- Updates that waited for a gap to close bring the table further, never back. -/
theorem State.applyAhead_ver (n : Nat) (s : State) : s.sve.ver ≤ (State.applyAhead n s).sve.ver := by
  induction n generalizing s with
  | zero => exact Nat.le_refl _
  | succ n ih =>
    unfold State.applyAhead
    split
    next e next =>
      have ver : e.1 = s.sve.ver + 1 := by simpa using List.find?_some next
      refine Nat.le_trans ?_ (ih _)
      rw [State.applyVersion_ver, ver]
      exact Nat.le_succ _
    next => exact Nat.le_refl _

theorem State.ackVersion_posted (s : State) : Posted s s.ackVersion := .ite (.sendPlain ..) (.refl s)

/-- A version that is flooded on at a member. -/
def State.floodOn (s : State) (port : Option Nat) (ver : Nat) (row : GstRow) (gsn : Gsn) : State :=
  if s.safe then s else s.flood port (.gstUpd (BitVec.ofNat 64 ver) row gsn)

theorem State.floodOn_posted (s : State) (port : Option Nat) (ver : Nat) (row : GstRow) (gsn : Gsn) : Posted s (s.floodOn port ver row gsn) :=
  .ite (.refl s) (.flood ..)

theorem Posted.ver {s t : State} (h : Posted s t) : t.sve.ver = s.sve.ver := by rw [h.sve]
theorem Posted.ahead {s t : State} (h : Posted s t) : t.sve.ahead = s.sve.ahead := by rw [h.sve]

/-- At a member a version not known yet is flooded on, then applied in order, or held ahead of a gap. -/
theorem State.gstUpdate_member {port : Option Nat} {ver : Nat} (member : s.fxb.role = 0) (later : s.sve.ver < ver)
    (unheld : s.sve.ahead.any (fun e => e.1 == ver) = false) : s.gstUpdate port ver row gsn =
      let t := s.floodOn port ver row gsn
      if ver = t.sve.ver + 1 then (State.applyAhead t.sve.ahead.length (t.applyVersion ver gsn row)).ackVersion
      else if t.sve.ahead.length < 64 then { t with sve := { t.sve with ahead := t.sve.ahead ++ [(ver, gsn, row)] } }
      else t := by
  have unknown : (decide (ver ≤ s.sve.ver) || s.sve.ahead.any (fun e => e.1 == ver)) = false := by
    rw [decide_eq_false (Nat.not_le.mpr later), unheld, Bool.or_false]
  simp only [State.gstUpdate, member, unknown]
  rfl

theorem State.gstUpdate_applies {port : Option Nat} {ver : Nat} (member : s.fxb.role = 0) (next : ver = s.sve.ver + 1)
    (unheld : s.sve.ahead.any (fun e => e.1 == ver) = false) : s.sve.ver < (s.gstUpdate port ver row gsn).sve.ver := by
  rw [State.gstUpdate_member member (by omega) unheld]
  dsimp only
  rw [if_pos (by rw [(s.floodOn_posted port ver row gsn).ver, next]), (State.ackVersion_posted _).ver]
  refine Nat.lt_of_lt_of_le ?_ (State.applyAhead_ver _ _)
  rw [State.applyVersion_ver]
  omega

theorem State.gstUpdate_holds {port : Option Nat} {ver : Nat} (member : s.fxb.role = 0) (gap : s.sve.ver + 1 < ver)
    (unheld : s.sve.ahead.any (fun e => e.1 == ver) = false) (room : s.sve.ahead.length < 64) :
    (s.gstUpdate port ver row gsn).sve.ver = s.sve.ver ∧ (s.gstUpdate port ver row gsn).sve.ahead = s.sve.ahead ++ [(ver, gsn, row)] := by
  have flooded := s.floodOn_posted port ver row gsn
  rw [State.gstUpdate_member member (by omega) unheld]
  dsimp only
  rw [if_neg (by rw [flooded.ver]; omega), if_pos (by rw [flooded.ahead]; exact room)]
  exact ⟨flooded.ver, congrArg (· ++ _) flooded.ahead⟩

/-! ### Acknowledgements (R367) -/

theorem State.gstAcked_current (s : State) (dev : Dev) : dev ∉ (s.gstAcked dev s.sve.ver).sve.lagging := by
  show dev ∉ (if (s.sve.ver == s.sve.ver || _) = true then removeAll s.sve.lagging dev else s.sve.lagging)
  rw [if_pos (by simp)]
  exact not_mem_removeAll _ _

theorem State.gstAcked_commits (s : State) (dev : Dev) (ver : Nat) :
    ∀ c ∈ (s.gstAcked dev ver).sve.commits, c.started = true → c.ver ≤ ver → dev ∉ c.waits := by
  intro c mem started reached
  obtain ⟨old, -, rfl⟩ := List.mem_map.mp mem
  by_cases acked : (old.started && decide (old.ver ≤ ver)) = true
  · rw [if_pos acked]
    exact not_mem_removeAll _ _
  · rw [if_neg acked] at started reached
    simp [started, reached] at acked

theorem State.ackTimeout_lags {dev : Dev} (waits : s.sve.commits.any (fun c => c.started && decide (dev ∈ c.waits)) = true) :
    dev ∈ (s.ackTimeout dev).sve.lagging ∧ ∀ c ∈ (s.ackTimeout dev).sve.commits, dev ∉ c.waits := by
  rw [State.ackTimeout, if_pos waits, State.raise_sve]
  refine ⟨mem_insertNew _ _, fun c mem => ?_⟩
  obtain ⟨old, -, rfl⟩ := List.mem_map.mp mem
  exact not_mem_removeAll _ _

/-! ### Claims (R372) -/

theorem State.claimIn_collects {dev : Dev} {c : Claim} (role : s.fxb.role = 1) (window : s.sve.claiming = true) :
    s.claimIn dev c = { s with sve := { s.sve with claims := s.sve.claims ++ [(dev, c)] } } := by
  simp [State.claimIn, role, window]

/-- A table that has been rebuilt. -/
def State.rebuilt (s : State) : Prop := s.sve.claiming = false ∧ s.sve.tabled = true

theorem State.rebuilt_raiseAt {page : Nat} {src : Source} {w : Where} (h : s.rebuilt) : (s.raiseAt page src w).rebuilt := by
  rwa [State.rebuilt, State.raiseAt_sve]

theorem foldl_preserves {α β : Type} {P : β → Prop} {f : β → α → β} (step : ∀ b x, P b → P (f b x)) (l : List α) {b : β} (start : P b) :
    P (l.foldl f b) := List.foldlRecOn l f start fun b kept x _ => step b x kept

theorem State.claimsEnd_rebuilds (window : s.sve.claiming = true) : s.claimsEnd.rebuilt := by
  unfold State.claimsEnd
  rw [if_neg (by simp [window])]
  extract_lets claims live gsns src s1 x
  have rows : x.2.rebuilt := by
    refine foldl_preserves (P := fun acc : List Nat × State => acc.2.rebuilt) (fun acc n kept => ?_) gsns ⟨rfl, rfl⟩
    dsimp only
    split <;> split <;> first | exact State.rebuilt_raiseAt kept | exact kept
  split
  · exact rows
  · exact State.rebuilt_raiseAt (State.rebuilt_raiseAt rows)

/-! ### The commands -/

theorem State.gapTimeout_asks (held : s.sve.ahead ≠ []) (cust : s.fxb.cust ≠ 0) (role : s.fxb.role ≠ 1) : s.gapTimeout =
    s.sendPlain s.fxb.cust 0 0 0 0 (.gstSync 0 (BitVec.ofNat 27 (2 ^ 26)) (BitVec.ofNat 64 (s.sve.ver + 1))) :=
  if_neg (by rw [decide_eq_false cust, decide_eq_false role, List.isEmpty_eq_false_iff.mpr held]; decide)

theorem State.leaseLost_ends (role : s.fxb.role ≠ 1) (lease : s.sve.lease = true) : s.leaseLost.sve.lease = false := by
  rw [State.leaseLost, if_neg (by rw [decide_eq_false role, lease]; decide), State.raise_sve]

/-- Settles O41, message by message. -/
theorem segmentTableRows : Obligations.SegmentTableRows := by
  intro s r
  have arrives (here : s.here r = true) (running : s.halted 0x200 = false) {m : Msg} {t : State} (does : (s.credited r m).custodyMsg r m = t) :
      (.next (s.withPins (fun s => s.custodyIn r m)) : Host.Outcome State Fault Refusal) = .next (s.withPins (fun _ => t.drain)) :=
    congrArg Host.Outcome.next (withPins_custodyIn here running does)
  refine ⟨fun p ver row gsn member unheld => ⟨fun next => ⟨s.gstUpdate (some p.val) ver.toNat row gsn, next_withPins rfl,
        State.gstUpdate_applies member next unheld⟩,
      fun gap room => ⟨s.gstUpdate (some p.val) ver.toNat row gsn, next_withPins rfl, State.gstUpdate_holds member gap unheld room⟩⟩,
    fun here running ver => ⟨_, arrives here running rfl, ?_, State.gstAcked_commits _ _ _⟩, fun here running first count ver some_ => ?_,
    fun here running c role window => ⟨_, arrives here running (State.claimIn_collects role window), rfl⟩,
    fun dev waits => ⟨s.ackTimeout dev, next_withPins rfl, State.ackTimeout_lags waits⟩,
    fun held cust role => next_withPins (congrArg State.drain (State.gapTimeout_asks held cust role)),
    fun window => ⟨s.claimsEnd, next_withPins rfl, State.claimsEnd_rebuilds window⟩,
    fun role lease => ⟨_, rfl, ?_⟩, fun _ _ => rfl⟩
  · intro current
    rw [State.custodyMsg_gstAck, current]
    exact (s.credited r (.gstAck ver)).gstAcked_current r.src
  · exact next_withPins ((State.custodyIn_here s r _ here running).trans
      (congrArg State.drain ((State.custodyMsg_gstSync _ r first count ver).trans (if_neg some_))))
  · rw [(Noticed.withPins _).sve]
    exact State.leaseLost_ends role lease

end Sys2Proof.Machine
end

section
/-! PROOFS. Copying, switching and mirroring of a segment (R376 to R391): what each message and each wait of an operation does in the phase that it
finds. -/

namespace Sys2Proof.Machine

open Sys2Proof

variable {s : State} {r : Routing} {line : LineAddr} {lines : List SLine} {rd : Dev} {i k : Nat} {o : BulkOp}

/-! ### Lines and pages at the target or holder (R379, R384, R387) -/

theorem State.blkIn_takes (free : (s.inOp (lineGsn line)).isSome = true ∨ s.updateWaits line = false) :
    s.blkIn r line lines rd = s.blkTake r line lines rd := by
  refine if_neg ?_
  rcases free with copied | free
  · simp [Option.isSome_iff_ne_none.mp copied]
  · simp [free]

theorem State.blkTake_unheld (unheld : s.lsiOf (lineGsn line) = none) :
    s.blkTake r line lines rd = s.sendPlain r.src 0 0 stState 0 (.lineAck line) := by
  simp only [State.blkTake, unheld]

theorem State.pageCtlIn_discards {page : BitVec 44} {kind : BitVec 2} (held : s.lsiOf (page.toNat / segPages) = some i)
    (copy : (s.seg i).st = 2 ∨ (s.seg i).st = 4) (known : kind = 1 ∨ kind = 2) : s.pageCtlIn r page kind.toNat =
      (s.discardPage (page.toNat / segPages) (page.toNat % segPages) (kind.toNat == 2)).sendPlain r.src 0 0 stOk 0 (.pageAck page) := by
  have holds : ((s.seg i).st != 2 && (s.seg i).st != 4) = false := by rcases copy with st | st <;> rw [st] <;> rfl
  have takes : (kind.toNat != 1 && kind.toNat != 2) = false := by rcases known with rfl | rfl <;> rfl
  simp only [State.pageCtlIn, held, holds, takes]
  rfl

/-! ### Acknowledgements at the source or owner (R379, R387, R388, R391) -/

theorem State.pageAcked_sent {page : Nat} (runs : s.outOp (page / segPages) = some (k, o)) : s.pageAcked page 0 =
    (s.setOp k { o with sent := removeAll o.sent (page % segPages), dirty := o.dirty }).switchStep k := by
  simp only [State.pageAcked, runs]
  rfl

section
variable {x : LineUpd} (waits : s.sve.updates.find? (fun y => y.line == line) = some x)
include waits

theorem State.lineAcked_refused {status : Status} (refused : status ≠ 0) : s.lineAcked line status = s.breakPair x.gsn.toNat := by
  simp only [State.lineAcked, waits]
  exact if_pos (bne_iff_ne.mpr refused)

theorem State.lineAcked_last (last : x.next = none) : s.lineAcked line 0 =
    (State.mirrorPoint { s with sve := { s.sve with lagHeld := removeAll s.sve.lagHeld x.gsn,
                                                    updates := s.sve.updates.filter (fun y => y.line != line) } } line x.waits).switchSteps := by
  simp only [State.lineAcked, waits, last]
  rfl

end

/-! ### The phases of an operation (R377, R380) -/

/-- The entry that names a segment's new owner. -/
def State.newOwner (s : State) (gsn : Nat) : DirEntry :=
  { st := 3, owner := (s.row gsn).owner, mirror := (s.row gsn).mirror, epoch := (s.row gsn).epoch }

/-- The segment that has gone to its new owner. -/
def State.goneSeg (s : State) (gsn i : Nat) : Seg :=
  { s.seg i with st := 3, epoch := (s.row gsn).epoch, partner := (s.row gsn).owner, mmode := 0 }

/-- Forwarding and Outgoing, as the commit of a migration makes them (R380). -/
def State.movedOut (s : State) (gsn i : Nat) : State :=
  ({ s with fxb := { s.fxb with dir := s.fxb.dir.put gsn (s.newOwner gsn) } } : State).changeSeg i (s.goneSeg gsn i)

theorem State.movedOut_seg (s : State) (gsn i : Nat) : (s.movedOut gsn i).seg i = s.goneSeg gsn i := State.changeSeg_seg _ _ _

theorem State.seg_of_segs {t : State} (h : t.mte.segs = s.mte.segs) (i : Nat) : t.seg i = s.seg i := congrArg (fun t : Tab Seg => t.get {} i) h

section
variable {gsn : Nat} (runs : s.outOp gsn = some (k, o))
include runs

theorem State.copyEnd_converges (copies : o.phase = 1) (acknowledged : o.sent = []) :
    s.copyEnd gsn = ((s.passEnd o).setOp k { o with phase := 2, pass := 1 }).sendDirty k := by
  simp [State.copyEnd, runs, copies, acknowledged]

section
variable (converges : o.phase = 2) (acknowledged : o.sent = [])
include converges acknowledged

theorem State.passDone_switches (few : o.dirty.length ≤ (s.passEnd o).regFld 0x200 0x110 0 12) :
    s.passDone gsn = (s.passEnd o).enterSwitch k := by
  simp [State.passDone, runs, converges, acknowledged, few]

theorem State.passDone_again (many : (s.passEnd o).regFld 0x200 0x110 0 12 < o.dirty.length)
    (passes : o.pass < (s.passEnd o).regFld 0x200 0x110 20 4) :
    s.passDone gsn = ((s.passEnd o).setOp k { o with pass := o.pass + 1 }).sendDirty k := by
  simp [State.passDone, runs, converges, acknowledged, many, passes]

end

theorem State.switchResend_ready (switches : o.phase = 3) (ready : o.ready = true) :
    s.switchResend gsn = s.tellOp (if o.kind = 0 then 6 else 8) o := by
  simp [State.switchResend, runs, switches, ready]

section
variable (held : s.lsiOf gsn = some i)
include held

theorem State.switchTimeout_aborts (switches : o.phase = 3) (unasked : o.asked = false) (tried : 2 ≤ o.tries) :
    s.switchTimeout gsn = ((s.freeSegs [i]).dropOp k).tellOp 11 o := by
  simp [State.switchTimeout, runs, held, switches, unasked, tried]

theorem State.switchTimeout_again (switches : o.phase = 3) (unasked : o.asked = false) (tries : o.tries < 2) :
    s.switchTimeout gsn = ((s.freeSegs [i]).setOp k { o with phase := 2, tries := o.tries + 1 }).sendDirty k := by
  simp [State.switchTimeout, runs, held, switches, unasked, Nat.not_le.mpr tries]

theorem State.drainEnd_frees (migration : o.kind = 0) (drains : o.phase = 4) : s.drainEnd gsn =
    ((({ s with fxb := { s.fxb with dir := s.fxb.dir.del gsn } } : State).dropOp k).freeSeg i).raise 0x200 .sveMigDone := by
  simp [State.drainEnd, runs, held, migration, drains]

/-- A migration whose commit has taken effect redirects to the new owner, the rest of its end in place. -/
theorem State.switchApplied_moves (migration : o.kind = 0) (ready : o.ready = true) (owned : (s.seg i).st = 1) (active : (s.row gsn).state = 2)
    (moved : (s.row gsn).owner ≠ s.fxb.devnum) : s.switchApplied gsn = (((((((s.movedOut gsn i).sweepAll (segRange gsn)).keepIndex
      (fun x => lmpLsi x.lmp != i)).setOp k { o with phase := 4 }).redirectHeld gsn (s.newOwner gsn)).freeSegs [i]).rwCheck) := by
  have turns : (decide (o.kind = 0) && o.ready && decide ((s.seg i).st = 1) && decide ((s.row gsn).state = 2) &&
      (s.row gsn).owner != s.fxb.devnum) = true := by
    rw [decide_eq_true migration, ready, decide_eq_true owned, decide_eq_true active, bne_iff_ne.mpr moved]
    rfl
  unfold State.switchApplied
  simp only [runs, held]
  exact if_pos turns

theorem State.switchApplied_seg (migration : o.kind = 0) (ready : o.ready = true) (owned : (s.seg i).st = 1) (active : (s.row gsn).state = 2)
    (moved : (s.row gsn).owner ≠ s.fxb.devnum) :
    ((s.switchApplied gsn).seg i).st = 3 ∧ ((s.switchApplied gsn).seg i).partner = (s.row gsn).owner := by
  have spared : Spares .segments (s.movedOut gsn i) (s.switchApplied gsn) := by
    rw [State.switchApplied_moves runs held migration ready owned active moved]
    exact State.rwCheck_spares (State.freeSegs_spares (State.redirectHeld_spares (State.setOp_spares
      (State.keepIndex_spares (State.sweepAll_spares (Spares.refl _ _))))))
  rw [State.seg_of_segs spared.segs, State.movedOut_seg]
  exact ⟨rfl, rfl⟩

end

end

/-! ### The mirror stream (R389, R391) -/

theorem State.lagBound_holds {gsn : Gsn} (held : s.lsiOf gsn.toNat = some i) (paired : s.paired gsn.toNat = true) (lagged : (s.seg i).mmode = 2)
    (waits : s.sve.updates.any (fun x => x.gsn.toNat == gsn.toNat) = true) : gsn ∈ (s.lagBound gsn.toNat).sve.lagHeld := by
  have same : BitVec.ofNat 26 gsn.toNat = gsn := BitVec.ofNat_toNat .. |>.trans (BitVec.setWidth_eq gsn)
  simp only [State.lagBound, held]
  rw [if_pos (by rw [paired, decide_eq_true lagged, waits]; rfl), same]
  exact mem_insertNew _ _

theorem State.remirrorNow_asks {gsn : Gsn} {e : Gsn × BitVec 2} (waits : s.sve.remirror.find? (fun e => e.1 == gsn) = some e) :
    ∀ x ∈ (s.remirrorNow gsn).sve.remirror, x.1 ≠ gsn := by
  have dropped : ∀ x ∈ s.sve.remirror.filter (fun x => x.1 != gsn), x.1 ≠ gsn := fun x mem => by simpa using (List.mem_filter.mp mem).2
  simp only [State.remirrorNow, waits]
  split
  · rw [State.askModule, (Posted.sendPlain ..).sve]
    exact dropped
  · exact dropped

/-- Settles O43, command by command. -/
theorem segmentCopy : Obligations.SegmentCopy := by
  intro s r gsn k o
  have runs {f g : State → State} (does : f s = g s) : (.next (s.withPins (fun s => (f s).drain)) : Host.Outcome State Fault Refusal) =
      .next (s.withPins (fun s => (g s).drain)) := next_withPins (congrArg State.drain does)
  refine ⟨fun here running => ?_, fun out => ⟨fun copies sent => runs (State.copyEnd_converges out copies sent),
      fun converges sent => ⟨fun few => runs (State.passDone_switches out converges sent few),
        fun many passes => runs (State.passDone_again out converges sent many passes)⟩,
      fun i held switches unasked => ⟨fun tried => runs (State.switchTimeout_aborts out held switches unasked tried),
        fun tries => runs (State.switchTimeout_again out held switches unasked tries)⟩,
      fun switches ready => runs (State.switchResend_ready out switches ready),
      fun i held migration ready owned active moved => ⟨s.switchApplied gsn.toNat, runs rfl,
        State.switchApplied_seg out held migration ready owned active moved⟩,
      fun i held migration drains => runs (State.drainEnd_frees out held migration drains)⟩,
    fun i held paired lagged waits => ⟨_, rfl, ?_⟩, fun waits => runs (if_pos waits),
    fun e waits => ⟨s.remirrorNow gsn, runs rfl, State.remirrorNow_asks waits⟩⟩
  · have does {m : Msg} {t : State} (does : (s.credited r m).custodyMsg r m = t) :
        (.next (s.withPins (fun s => s.custodyIn r m)) : Host.Outcome State Fault Refusal) = .next (s.withPins (fun _ => t.drain)) :=
      congrArg Host.Outcome.next (withPins_custodyIn here running does)
    refine ⟨fun line lines rd i held copy free => does (State.blkIn_takes free),
      fun line lines rd unheld free => does
        ((State.blkIn_takes (s := s.credited r (.blkData line lines rd)) (.inr free)).trans (State.blkTake_unheld unheld)),
      fun page kind i held copy known => does (State.pageCtlIn_discards held copy known),
      fun page out ok => does ?_, fun line x => ?_, fun kind => ?_⟩
    · rw [State.custodyMsg_pageAck, ok]
      exact State.pageAcked_sent out
    · intro u waits
      refine ⟨fun refused => does (State.lineAcked_refused (s := u) waits refused), fun ok last => does ?_⟩
      rw [State.custodyMsg_lineAck, ok]
      exact State.lineAcked_last (s := u) waits last
    · exact next_withPins ((State.custodyIn_here s r _ here running).trans (congrArg State.drain (State.custodyMsg_copyEnd _ r kind)))
  · rw [(Noticed.withPins _).sve]
    exact State.lagBound_holds held paired lagged waits

end Sys2Proof.Machine
end

section
/-! PROOFS. The registers of a page's header (R484 to R487), the commit of regions (R97, R98) and the registers of the supervisor (R557, R571): a write
that every rule accepts is the effect of its register. -/

namespace Sys2Proof.Machine

open Sys2Proof

variable {s : State} {q : Requester} {w : Word} {page off : Nat} {k : PageKind}

/-! ### A write of a header register -/

/-- A command that is the write of a header register does what `effect` does, where every header register at that offset does it. -/
theorem withPins_pageWrite_header {effect : State → State} (kind : pageKind page = some k) (header : off < 0x100)
    (ok : s.accepts q page off w = true) (acts : ∀ r : RegWord, r.off = off → s.writeHeader page k r w = effect s) :
    Host.Outcome.next (φ := Fault) (ρ := Refusal) (s.withPins (fun s => s.pageWrite q page off w)) =
      .next (s.withPins (fun s => (effect s).drain)) := by
  obtain ⟨r, word⟩ : ∃ r, regWord page off = some r := by
    cases found : regWord page off with
    | some r => exact ⟨r, rfl⟩
    | none => simp [State.accepts, kind, found] at ok
  obtain ⟨-, at_⟩ := regWord_some word
  have write := pageWrite_accepts (by omega) (regWord_aligned word) kind word ok
  rw [State.acceptWrite, if_pos (by rw [at_]; exact header), acts r at_] at write
  exact congrArg Host.Outcome.next (withPins_congr write)

/-! ### CTRL (R484, R485) -/

/-- RUN written as it is changes nothing. -/
theorem State.setRun_same {run : Bool} (same : run = s.runs page) : s.setRun page run = s := if_pos same

theorem bitAt_ctrl (bits i : Nat) (run : Bool) :
    bitAt (BitVec.ofNat 32 (bits + flag run) : Word) i = (decide (i < 32) && (bits + flag run).testBit i) := by
  simp [bitAt, BitVec.getLsbD_ofNat]

/-- The bits of a word of CTRL that sets one write-1 bit. -/
theorem ctrlWord_run (s : State) (page : Nat) {bits : Nat} (even : bits % 2 = 0) : bitAt (s.ctrlWord page bits) 0 = s.runs page := by
  rw [State.ctrlWord, bitAt_ctrl, Nat.testBit_zero]
  cases s.runs page <;> simp [flag] <;> omega

theorem ctrlWord_bit (s : State) (page : Nat) {n i : Nat} (low : 1 ≤ n ∧ n < 4) (bit : 1 ≤ i ∧ i < 4) :
    bitAt (s.ctrlWord page (2 ^ n)) i = decide (i = n) := by
  obtain ⟨n1, n4⟩ := low
  obtain ⟨i1, i4⟩ := bit
  rw [State.ctrlWord]
  cases s.runs page <;> interval_cases n <;> interval_cases i <;> rfl

/-- A write of CTRL that leaves RUN as it is and sets no other bit than COMMIT. -/
theorem State.writeCtrl_commit (runs : (s.askCommit page k).runs page = s.runs page) :
    s.writeCtrl page k (s.ctrlWord page 8) = s.askCommit page k := by
  have run := ctrlWord_run s page (bits := 8) rfl
  have commit : bitAt (s.ctrlWord page 8) 3 = true := ctrlWord_bit s page (n := 3) (by decide) (by decide)
  have lock : bitAt (s.ctrlWord page 8) 2 = false := ctrlWord_bit s page (n := 3) (by decide) (by decide)
  have reset : bitAt (s.ctrlWord page 8) 1 = false := ctrlWord_bit s page (n := 3) (by decide) (by decide)
  simp only [State.writeCtrl, State.when_, commit, lock, reset, run, Bool.false_eq_true, if_false, if_true]
  exact State.setRun_same runs.symm

theorem State.askCommit_runs (other : k ≠ .mte) : (s.askCommit page k).runs page = s.runs page := by
  unfold State.askCommit
  rw [if_neg (by simp [other])]
  split <;> rfl

theorem State.askCommit_block (other : k ≠ .mte) : s.askCommit page k =
    if k.shadow then { s with pages := { s.pages with committing := insertNew s.pages.committing page } } else s :=
  if_neg (by simp [other])

theorem State.writeCtrl_lock : s.writeCtrl page k (s.ctrlWord page 4) =
    { s with pages := { s.pages with locked := insertNew s.pages.locked page } } := by
  have run := ctrlWord_run s page (bits := 4) rfl
  have commit : bitAt (s.ctrlWord page 4) 3 = false := ctrlWord_bit s page (n := 2) (by decide) (by decide)
  have lock : bitAt (s.ctrlWord page 4) 2 = true := ctrlWord_bit s page (n := 2) (by decide) (by decide)
  have reset : bitAt (s.ctrlWord page 4) 1 = false := ctrlWord_bit s page (n := 2) (by decide) (by decide)
  simp only [State.writeCtrl, State.when_, commit, lock, reset, run, Bool.false_eq_true, if_false, if_true]
  exact State.setRun_same rfl

theorem State.writeCtrl_reset : s.writeCtrl page k (s.ctrlWord page 2) = s.ctrlReset page := by
  have run := ctrlWord_run s page (bits := 2) rfl
  have commit : bitAt (s.ctrlWord page 2) 3 = false := ctrlWord_bit s page (n := 1) (by decide) (by decide)
  have lock : bitAt (s.ctrlWord page 2) 2 = false := ctrlWord_bit s page (n := 1) (by decide) (by decide)
  have reset : bitAt (s.ctrlWord page 2) 1 = true := ctrlWord_bit s page (n := 1) (by decide) (by decide)
  simp only [State.writeCtrl, State.when_, commit, lock, reset, run, Bool.false_eq_true, if_false, if_true]
  rw [State.setRun_same rfl]

theorem State.writeCtrl_run (run : Bool) : s.writeCtrl page k (if run then 1 else 0) = s.setRun page run := by
  cases run <;> rfl

section
variable {r : RegWord}

theorem writeHeader_ctrl (at_ : r.off = 0x08) : s.writeHeader page k r w = s.writeCtrl page k w := by
  simp only [State.writeHeader, at_]

theorem writeHeader_events (at_ : r.off = 0x10) : s.writeHeader page k r w = s.clearEvents page w := by
  simp only [State.writeHeader, at_]

theorem writeHeader_force (at_ : r.off = 0x20) : s.writeHeader page k r w = s.forceEvents page w := by
  simp only [State.writeHeader, at_]

/-- The high words of EVT_STAT and EVT_FORCE name no source. -/
theorem writeHeader_high (at_ : r.off = 0x14 ∨ r.off = 0x24) : s.writeHeader page k r w = s := by
  rcases at_ with at_ | at_ <;> simp [State.writeHeader, at_]

theorem writeHeader_perf (at_ : r.off = 0x38) (clear : bitAt w 25 = true) (locked : page ∈ s.pages.locked) :
    s.writeHeader page k r w = s.clearPerf page := by
  simp [State.writeHeader, at_, State.writePerf, locked, State.when_, clear]

/-! ### Block registers (R484, R557, R571) -/

theorem writeBlock_freezeAll (on : Bool) (at_ : r.off = 0x100) :
    s.writeBlock q page .perfg r (if on then 1 else 0) = { s with freezeAll := on } := by
  simp only [State.writeBlock, at_]
  cases on <;> rfl

theorem writeBlock_clearAll (at_ : r.off = 0x100) :
    s.writeBlock q page .perfg r (BitVec.ofNat 32 (2 + flag s.freezeAll)) = s.each allPages State.clearPerf := by
  have freeze : bitAt (BitVec.ofNat 32 (2 + flag s.freezeAll) : Word) 0 = s.freezeAll := by cases s.freezeAll <;> rfl
  have clear : bitAt (BitVec.ofNat 32 (2 + flag s.freezeAll) : Word) 1 = true := by cases s.freezeAll <;> rfl
  simp only [State.writeBlock, at_, State.writeGctl, freeze, clear, if_true]

theorem writeBlock_prtReset (at_ : r.off = 0x108) : s.writeBlock q page .ckr r 1 = s.prtReset := by
  have ports : bitAt (1 : Word) 0 = true := rfl
  have engine : bitAt (1 : Word) 1 = false := rfl
  simp only [State.writeBlock, at_, State.writeReset, State.when_, ports, engine, Bool.false_eq_true, if_false, if_true]

theorem writeBlock_sveReset (at_ : r.off = 0x108) : s.writeBlock q page .ckr r 2 = s.sveReset := by
  have ports : bitAt (2 : Word) 0 = false := rfl
  have engine : bitAt (2 : Word) 1 = true := rfl
  simp only [State.writeBlock, at_, State.writeReset, State.when_, ports, engine, Bool.false_eq_true, if_false, if_true]

theorem writeBlock_logCursor (at_ : r.off = 0x12c) : s.writeBlock q page .pwr r w = s.supCursor w.toNat := by
  simp only [State.writeBlock, at_]

theorem writeBlock_logControl (at_ : r.off = 0x130) : s.writeBlock q page .pwr r w = s.writeLogCtl w := by
  simp only [State.writeBlock, at_]

theorem writeBlock_logFormat (at_ : r.off = 0x128) : s.writeBlock q page .pwr r w = s.writeLogCfg w := by
  simp only [State.writeBlock, at_]

end

/-! ### The log of the supervisor (R557) -/

theorem State.supNextOp_next {r : SupRec} {e : Nat × SupRec} (window : s.pan.supWin = some r)
    (found : pickRec s.pan.sup (fun x => s.supOk x && decide (r.seq < x.seq)) (fun a b => a.seq < b.seq) = some e) :
    s.supNextOp 1 = { s with pan := { s.pan with supCur := e.1, supWin := some e.2 } } := by
  simp [State.supNextOp, window, found]

theorem State.supNextOp_oldest {e : Nat × SupRec}
    (found : pickRec s.pan.sup (fun r => s.supOk r && true) (fun a b => a.seq < b.seq) = some e) :
    s.supNextOp 2 = { s with pan := { s.pan with supCur := e.1, supWin := some e.2 } } := by
  simp only [State.supNextOp]
  simp only [if_true, found]
  rfl

theorem State.supNextOp_newest {e : Nat × SupRec}
    (found : pickRec s.pan.sup (fun r => s.supOk r && true) (fun a b => b.seq < a.seq) = some e) :
    s.supNextOp 4 = { s with pan := { s.pan with supCur := e.1, supWin := some e.2 } } := by
  simp only [State.supNextOp]
  simp only [Bool.false_eq_true, if_false, found]
  rfl

theorem State.writeLogCfg_changes {c : Bool} (change : c ≠ s.pan.compat) : s.writeLogCfg (if c then 1 else 0) =
    State.supClear { s with pan := { s.pan with compat := c } } := by
  cases c <;> exact if_neg change

/-! ### The commit of regions (R97, R98) -/

theorem Spares.runs {z s : State} (h : Spares .runs z s) (page : Nat) : s.runs page = z.runs page := by
  rw [State.runs, State.runs, h.started, h.stopped]

theorem State.askCommit_regions (idle : s.mte.commit = 0) : s.askCommit page .mte = s.startCommitRegions := if_pos idle

theorem State.commitAbandoned_leaves (waits : s.mte.commit = 1) :
    s.commitAbandoned.mte.commit = 2 ∧ s.commitAbandoned.mte.regions = s.mte.regions := by
  have spared : Spares .regions { s with mte := { s.mte with commit := 2 } } s.commitAbandoned := by
    rw [State.commitAbandoned, if_pos waits]
    exact State.raise_spares (State.resumeSegs_spares (Spares.refl _ _))
  exact ⟨spared.commit, spared.regions⟩

theorem State.startCommitRegions_runs (s : State) (page : Nat) : s.startCommitRegions.runs page = s.runs page :=
  (State.startCommitRegions_spares rfl (Spares.refl .runs s)).runs page

theorem regionCommit_writes (idle : s.mte.commit = 0) : s.writeCtrl 0x030 .mte (s.ctrlWord 0x030 8) = s.startCommitRegions := by
  have starts : s.askCommit 0x030 .mte = s.startCommitRegions := State.askCommit_regions idle
  rw [State.writeCtrl_commit (by rw [starts, State.startCommitRegions_runs]), starts]

/-! ### The commands -/

/-- A write of CTRL that leaves RUN as it is, of a word that the state before it gives. -/
theorem withPins_ctrlWrite {bits : Nat} {effect : State → State} (kind : pageKind page = some k)
    (ok : s.accepts q page 0x08 (s.ctrlWord page bits) = true)
    (acts : ∀ r : RegWord, r.off = 0x08 → s.writeHeader page k r (s.ctrlWord page bits) = effect s) :
    Host.Outcome.next (φ := Fault) (ρ := Refusal) (s.withPins (fun s => s.ctrlWrite q page bits)) =
      .next (s.withPins (fun s => (effect s).drain)) :=
  Eq.trans (next_withPins (h := fun t => t.pageWrite q page 0x08 (s.ctrlWord page bits)) rfl)
    (withPins_pageWrite_header kind (by decide) ok acts)

theorem clearAll_clears (ok : s.accepts q 0x300 0x100 (BitVec.ofNat 32 (2 + flag s.freezeAll)) = true) :
    exec (.clearAll q) s = .next (s.withPins (fun s => (s.each allPages State.clearPerf).drain)) :=
  Eq.trans (next_withPins (h := fun t => t.pageWrite q 0x300 0x100 (BitVec.ofNat 32 (2 + flag s.freezeAll))) rfl)
    (withPins_pageWrite rfl (by decide) (by decide) ok fun _ => writeBlock_clearAll)

theorem headerCommands_page (s : State) (q : Requester) (page : BitVec 12) (k : PageKind) (kind : pageKind page.toNat = some k) :
    (s.accepts q page.toNat 0x08 (s.ctrlWord page.toNat 8) = true → k ≠ .mte →
      exec (.ctrlCommit q page) s = .next (s.withPins (fun s =>
        (if k.shadow then { s with pages := { s.pages with committing := insertNew s.pages.committing page.toNat } } else s).drain))) ∧
    (s.accepts q page.toNat 0x08 (s.ctrlWord page.toNat 4) = true →
      exec (.ctrlLock q page) s = .next (s.withPins (fun s =>
        ({ s with pages := { s.pages with locked := insertNew s.pages.locked page.toNat } }).drain))) ∧
    (s.accepts q page.toNat 0x08 (s.ctrlWord page.toNat 2) = true →
      exec (.ctrlReset q page) s = .next (s.withPins (fun s => (if page = 0 then s.askReset 2 else s.unitReset page.toNat).drain))) := by
  have write (bits : Nat) (effect : State → State) (ok : s.accepts q page.toNat 0x08 (s.ctrlWord page.toNat bits) = true)
      (does : s.writeCtrl page.toNat k (s.ctrlWord page.toNat bits) = effect s) :
      (.next (s.withPins (fun s => s.ctrlWrite q page.toNat bits)) : Host.Outcome State Fault Refusal) =
        .next (s.withPins (fun s => (effect s).drain)) :=
    withPins_ctrlWrite kind ok fun _ at_ => (writeHeader_ctrl at_).trans does
  refine ⟨fun ok other => write 8 _ ok ((State.writeCtrl_commit (State.askCommit_runs other)).trans (State.askCommit_block other)),
    fun ok => write 4 (fun s => { s with pages := { s.pages with locked := insertNew s.pages.locked page.toNat } }) ok State.writeCtrl_lock,
    fun ok => write 2 (fun s => if page = 0 then s.askReset 2 else s.unitReset page.toNat) ok (State.writeCtrl_reset.trans ?_)⟩
  rw [State.ctrlReset]
  exact if_congr ⟨fun zero => BitVec.eq_of_toNat_eq zero, fun zero => congrArg BitVec.toNat zero⟩ rfl rfl

/-- Settles O24, register by register. -/
theorem headerCommands : Obligations.HeaderCommands := by
  refine ⟨fun s q page k kind => ?_, fun s q w => ?_⟩
  · obtain ⟨commit, lock, reset⟩ := headerCommands_page s q page k kind
    refine ⟨commit, lock, reset, fun run ok => withPins_pageWrite_header kind (by decide) ok fun _ at_ =>
        (writeHeader_ctrl at_).trans (State.writeCtrl_run run),
      fun stopped idle => ⟨_, congrArg Host.Outcome.next (if_pos (by simp [stopped, idle])), rfl⟩,
      fun w ok => withPins_pageWrite_header kind (by decide) ok fun _ => writeHeader_events,
      fun w ok => withPins_pageWrite_header kind (by decide) ok fun _ at_ => writeHeader_high (.inl at_),
      fun w ok => withPins_pageWrite_header kind (by decide) ok fun _ => writeHeader_force,
      fun w ok => withPins_pageWrite_header kind (by decide) ok fun _ at_ => writeHeader_high (.inr at_),
      fun w ok clear locked => withPins_pageWrite_header kind (by decide) ok fun _ at_ => writeHeader_perf at_ clear locked,
      fun on ok => withPins_pageWrite rfl (by decide) (by decide) ok fun _ => writeBlock_freezeAll on,
      clearAll_clears⟩
  · have control {w : Word} (e : State → State) (ok : s.accepts q 0x002 0x130 w = true) (does : s.writeLogCtl w = e s) :
        (.next (s.withPins (fun s => s.pageWrite q 0x002 0x130 w)) : Host.Outcome State Fault Refusal) =
          .next (s.withPins (fun s => (e s).drain)) :=
      withPins_pageWrite rfl (by decide) (by decide) ok fun _ at_ => (writeBlock_logControl at_).trans does
    refine ⟨fun ok idle => withPins_ctrlWrite rfl ok fun _ at_ => (writeHeader_ctrl at_).trans (regionCommit_writes idle),
      fun waits => ⟨s.commitAbandoned, next_withPins rfl, State.commitAbandoned_leaves waits⟩,
      fun waits => next_withPins (congrArg State.drain (if_pos waits)),
      fun ok => withPins_pageWrite rfl (by decide) (by decide) ok fun _ => writeBlock_prtReset,
      fun ok => withPins_pageWrite rfl (by decide) (by decide) ok fun _ => writeBlock_sveReset,
      fun ok => ⟨_, withPins_pageWrite (effect := fun _ => s.supCursor w.toNat) rfl (by decide) (by decide) ok fun _ => writeBlock_logCursor,
        rfl, rfl⟩,
      fun ok r e window found => ⟨_, control (fun _ => _) ok (State.supNextOp_next window found), rfl, rfl⟩,
      fun ok e found => ⟨_, control (fun _ => _) ok (State.supNextOp_oldest found), rfl, rfl⟩,
      fun ok e found => ⟨_, control (fun _ => _) ok (State.supNextOp_newest found), rfl, rfl⟩,
      fun ok => ⟨s.supClear, control (fun _ => s.supClear) ok rfl, rfl, rfl⟩,
      fun c ok change => ⟨_, withPins_pageWrite (effect := fun _ => _) rfl (by decide) (by decide) ok fun _ at_ =>
        (writeBlock_logFormat at_).trans (State.writeLogCfg_changes change), rfl, rfl⟩⟩

end Sys2Proof.Machine
end

section
/-! PROOFS. The sequencer, the emergency flush and the hold-up bank (R541 to R554): rails change nothing else of the supervisor's record, and a
release of every converter keeps what R545 lists. -/

namespace Sys2Proof.Machine

open Sys2Proof

variable {s : State}

/-! ### The supervisor's record past what else happens -/

theorem State.newBudget_pwr (s : State) (joules : Nat) : (s.newBudget joules).pwr = s.pwr :=
  (State.newBudget_spares (Spares.refl .power s)).pwr

theorem State.flushTail_spares {k : Spared} {z : State} (h : Spares k z s) : Spares k z s.flushTail := by
  unfold State.flushTail
  exact State.gpfFlushEnd_spares (State.programSpill_spares (State.setRing_spares h))

theorem State.flushTail_pwr (s : State) : s.flushTail.pwr = s.pwr :=
  (State.flushTail_spares (Spares.refl .power s)).pwr

theorem State.firstFail_pwr (s : State) (phase ch : Nat) : (s.firstFail phase ch).pwr = s.pwr := by
  unfold State.firstFail
  split
  · rfl
  · exact State.setReg_pwr _ _ _ _

/-- Rails that are set change nothing else. -/
theorem State.each_setRail_pwr {α : Type} (s : State) (l : List α) (ch : α → Nat) (x : State → α → Rail) :
    ∃ rails, (s.each l (fun t a => t.setRail (ch a) (x t a))).pwr = { s.pwr with rails := rails } :=
  each_preserves (P := fun t => ∃ rails, t.pwr = { s.pwr with rails := rails })
    (fun t a ⟨_, e⟩ => ⟨(t.setRail (ch a) (x t a)).pwr.rails, by rw [State.setRail, e]⟩) l ⟨_, rfl⟩

theorem State.switchStepRails_pwr (s : State) (k : Nat) (on : Bool) :
    ∃ rails, (s.switchStepRails k on).pwr = { s.pwr with rails := rails } := s.each_setRail_pwr _ id _

theorem State.stepInWindow_pwr (s : State) (k : Nat) : ∃ rails, (s.stepInWindow k).pwr = { s.pwr with rails := rails } :=
  s.each_setRail_pwr _ id _

theorem State.startReverse_pwr (s : State) (step : Nat) : (s.startReverse step).pwr =
    { s.pwr with st := 6, step := step, down := true, downFail := false, flush := 0, offReq := false } := State.supLog_pwr _ _ _ _

theorem State.cold_pwr (s : State) (lastSafe : Bool) : (s.cold lastSafe).pwr = s.pwr :=
  (State.tearStripes_spares (State.takeAll_spares rfl (Spares.refl .power s))).pwr

/-- Every converter is released: the record is what R545 keeps. -/
theorem State.reachOff_pwr (s : State) (therm : Bool) : (s.reachOff therm).pwr = s.pwr.off (if therm then 9 else 8) :=
  by
  have kept := (State.cold_pwr (s.supLog 0x05 0xff 0 0) (s.supLog 0x05 0xff 0 0).flt.lastSafe).trans (State.supLog_pwr _ _ _ _)
  exact congrArg (fun p : Pwr => p.off (if therm then 9 else 8)) kept

theorem State.reachOff_frames (s : State) (therm : Bool) : (s.reachOff therm).dtc.frames = [] := rfl

theorem State.closeJournal_pwr (s : State) : s.closeJournal.pwr = s.pwr := State.pwr_of_plant (State.closeJournal_plant _)

/-! ### The sequencer (R544 to R549) -/

theorem powerUpStart_begins (may : s.mayPowerUp = true) :
    ∃ t, exec .powerUpStart s = .next t ∧ t.pwr.st = 1 ∧ t.pwr.step = 1 ∧ t.pwr.mstate = 1 := by
  have e : s.powerUp = _ := if_neg (by simp [may])
  obtain ⟨rails, p⟩ := State.switchStepRails_pwr (State.supLog _ 0x01 0xff 0 0) 1 true
  rw [State.supLog_pwr] at p
  exact ⟨_, congrArg Host.Outcome.next e, by rw [p], by rw [p], by rw [p]⟩

theorem State.upStepDone_next (quiet : s.pwr.offReq = false) (more : s.pwr.step < 8) :
    s.upStepDone.pwr.st = s.pwr.st ∧ s.upStepDone.pwr.step = s.pwr.step + 1 := by
  obtain ⟨rails, p⟩ := s.stepInWindow_pwr s.pwr.step
  obtain ⟨rails', p'⟩ := State.switchStepRails_pwr
    { s.stepInWindow s.pwr.step with pwr := { (s.stepInWindow s.pwr.step).pwr with step := s.pwr.step + 1 } } (s.pwr.step + 1) true
  have e : s.upStepDone = _ := (if_neg (by rw [p, quiet]; decide)).trans (if_neg (Nat.not_le.mpr more))
  rw [e, p', p]
  exact ⟨rfl, rfl⟩

theorem State.upStepDone_last (quiet : s.pwr.offReq = false) (last : s.pwr.step = 8) :
    s.upStepDone.pwr.st = 2 ∧ s.upStepDone.pwr.startup = 1 := by
  obtain ⟨rails, p⟩ := s.stepInWindow_pwr s.pwr.step
  have e : s.upStepDone = _ := (if_neg (by rw [p, quiet]; decide)).trans (if_pos (Nat.le_of_eq last.symm))
  rw [e, State.supLog_pwr]
  exact ⟨rfl, rfl⟩

/-- A power-down step: its rails are off, a flush that ends with it is noted, and the step below or Off follows. -/
theorem State.downStepDone_pwr (s : State) : ∃ rails done, s.downStepDone.pwr =
    let p : Pwr := { s.pwr with rails := rails, fdone := done }
    if s.pwr.step ≤ 1 then p.off (if p.thermOff then 9 else 8) else { p with step := s.pwr.step - 1 } := by
  obtain ⟨rails, p⟩ := s.switchStepRails_pwr s.pwr.step false
  unfold State.downStepDone
  extract_lets k s1 src s2
  obtain ⟨done, p2⟩ : ∃ done, s2.pwr = { s.pwr with rails := rails, fdone := done } := by
    dsimp only [s2]
    split
    · exact ⟨true, (State.raise_pwr _ _ _).trans (congrArg (fun p : Pwr => { p with fdone := true }) p)⟩
    · exact ⟨s.pwr.fdone, p⟩
  refine ⟨rails, done, ?_⟩
  clear_value s2
  by_cases last : k ≤ 1
  · rw [if_pos last, if_pos last, State.reachOff_pwr, p2]
  · rw [if_neg last, if_neg last]
    exact congrArg (fun p : Pwr => { p with step := s.pwr.step - 1 }) p2

theorem sequencerStepDone_up (up : s.pwr.st = 1) (quiet : s.pwr.offReq = false) (more : s.pwr.step < 8) :
    ∃ t, exec .sequencerStepDone s = .next t ∧ t.pwr.st = 1 ∧ t.pwr.step = s.pwr.step + 1 := by
  have e : s.stepDone = s.upStepDone := if_pos up
  obtain ⟨st, step⟩ := State.upStepDone_next quiet more
  exact ⟨_, rfl, by rw [State.withPins_pwr, e, st, up], by rw [State.withPins_pwr, e, step]⟩

theorem sequencerStepDone_last (up : s.pwr.st = 1) (quiet : s.pwr.offReq = false) (last : s.pwr.step = 8) :
    ∃ t, exec .sequencerStepDone s = .next t ∧ t.pwr.st = 2 ∧ t.pwr.startup = 1 := by
  have e : s.stepDone = s.upStepDone := if_pos up
  obtain ⟨st, startup⟩ := State.upStepDone_last quiet last
  exact ⟨_, rfl, by rw [State.withPins_pwr, e, st], by rw [State.withPins_pwr, e, startup]⟩

theorem State.stepDone_down (st : s.pwr.st = 6) (down : s.pwr.down = true) : s.stepDone = s.downStepDone :=
  (if_neg (by rw [st]; decide)).trans (if_pos down)

theorem sequencerStepDone_down (st : s.pwr.st = 6) (down : s.pwr.down = true) (more : 1 < s.pwr.step) :
    ∃ t, exec .sequencerStepDone s = .next t ∧ t.pwr.st = 6 ∧ t.pwr.step = s.pwr.step - 1 := by
  obtain ⟨rails, done, p⟩ := s.downStepDone_pwr
  dsimp only at p
  rw [if_neg (Nat.not_le.mpr more)] at p
  have e := State.stepDone_down st down
  exact ⟨_, rfl, by rw [State.withPins_pwr, e, p]; exact st, by rw [State.withPins_pwr, e, p]⟩

theorem sequencerStepDone_off (st : s.pwr.st = 6) (down : s.pwr.down = true) (last : s.pwr.step ≤ 1) (cool : s.pwr.thermOff = false) :
    ∃ t, exec .sequencerStepDone s = .next t ∧ t.pwr.st = 8 ∧ t.pwr.offDone = false := by
  obtain ⟨rails, done, p⟩ := s.downStepDone_pwr
  dsimp only at p
  rw [if_pos last, cool] at p
  have e := State.stepDone_down st down
  exact ⟨_, rfl, by rw [State.withPins_pwr, e, p]; rfl, by rw [State.withPins_pwr, e, p]; rfl⟩

theorem sequencerStepTimeout_reverses (up : s.pwr.st = 1) (ch : Fin 40) : ∃ t, exec (.sequencerStepTimeout ch) s = .next t ∧
    t.pwr.st = 6 ∧ t.pwr.down = true ∧ t.pwr.step = s.pwr.step := by
  have e : (s.stepTimeout ch.val).pwr.st = 6 ∧ (s.stepTimeout ch.val).pwr.down = true ∧ (s.stepTimeout ch.val).pwr.step = s.pwr.step := by
    unfold State.stepTimeout
    rw [if_pos up]
    extract_lets s1 x s2
    have p : s2.pwr.step = s.pwr.step := by
      have step : s1.pwr.step = s.pwr.step := by rw [State.supLog_pwr, State.firstFail_pwr]
      exact step
    clear_value s2
    rw [State.startReverse_pwr, State.raise_pwr, State.supLog_pwr]
    exact ⟨rfl, rfl, p⟩
  obtain ⟨st, down, step⟩ := e
  exact ⟨_, rfl, by rw [State.withPins_pwr, st], by rw [State.withPins_pwr, down], by rw [State.withPins_pwr, step]⟩

/-! ### The end of an orderly flush (R549) -/

theorem State.topStep_of_pwr {t : State} (h : t.pwr = s.pwr) : t.topStep = s.topStep := by rw [State.topStep, State.topStep, h]

theorem State.orderlyEnd_pwr (orderly : s.pwr.flush = 1) : s.orderlyEnd.pwr =
    { s.pwr with st := 6, step := s.topStep, down := true, downFail := false, flush := 0, offReq := false } := by
  have tail := s.flushTail_pwr
  have e : s.orderlyEnd = s.flushTail.startReverse s.flushTail.topStep :=
    (if_neg (by rw [tail, orderly]; decide)).trans (if_neg (by rw [tail, orderly]; decide))
  rw [e, State.startReverse_pwr, State.topStep_of_pwr tail, tail]

theorem orderlyFlushEnd_reverses (orderly : s.pwr.flush = 1) (done : s.flushed = true) :
    ∃ t, exec .orderlyFlushEnd s = .next t ∧ t.pwr.st = 6 ∧ t.pwr.down = true ∧ t.pwr.step = s.topStep ∧ t.pwr.flush = 0 := by
  have e : s.orderlyFlushEnd = s.orderlyEnd := (if_pos (by rw [orderly]; decide)).trans (if_pos done)
  have p : (s.withPins State.orderlyFlushEnd).pwr = _ := (State.withPins_pwr _).trans (e ▸ State.orderlyEnd_pwr orderly)
  exact ⟨_, rfl, by rw [p], by rw [p], by rw [p], by rw [p]⟩

theorem orderlyFlushTimeout_reverses (orderly : s.pwr.flush = 1) :
    ∃ t, exec .orderlyFlushTimeout s = .next t ∧ t.pwr.st = 6 ∧ t.pwr.down = true ∧ t.pwr.step = s.topStep ∧ t.pwr.flush = 0 := by
  have e : s.orderlyFlushTimeout = s.orderlyEnd := if_pos (by rw [orderly]; decide)
  have p : (s.withPins State.orderlyFlushTimeout).pwr = _ := (State.withPins_pwr _).trans (e ▸ State.orderlyEnd_pwr orderly)
  exact ⟨_, rfl, by rw [p], by rw [p], by rw [p], by rw [p]⟩

/-- Settles O2, step by step. -/
theorem sequencer : Obligations.Sequencer := fun _ =>
  ⟨powerUpStart_begins, sequencerStepDone_up, sequencerStepDone_last, sequencerStepDone_down, sequencerStepDone_off,
    sequencerStepTimeout_reverses, fun off => congrArg Host.Outcome.next (if_pos off), orderlyFlushEnd_reverses,
    orderlyFlushTimeout_reverses⟩

/-! ### The emergency flush (R553, R554) -/

theorem flushDrainEnd_programs (flush : s.pwr.flush = 3) (drain : s.pwr.fphase = 1) (empty : s.undrained = false) :
    ∃ t, exec .flushDrainEnd s = .next t ∧ t.pwr.fphase = 2 := by
  have e : s.flushDrained = _ := if_pos (by simp [flush, drain, empty])
  exact ⟨_, rfl, by
    rw [State.withPins_pwr, e, State.pwr_of_plant (State.closeGather_plant _ _), State.pwr_of_plant (State.pump_plant _),
      State.pwr_of_plant (State.handAll_plant _ _)]⟩

theorem flushProgramEnd_journals (flush : s.pwr.flush = 3) (program : s.pwr.fphase = 2) (none_ : s.unflushed = false) :
    ∃ t, exec .flushProgramEnd s = .next t ∧ t.pwr.fphase = 3 := by
  have e : s.flushProgrammed = _ := (if_pos (by simp [flush, program])).trans (if_neg (by simp [none_]))
  exact ⟨_, rfl, by rw [State.withPins_pwr, e, State.closeJournal_pwr]⟩

theorem flushJournalEnd_releases (flush : s.pwr.flush = 3) (journal : s.pwr.fphase = 3) (written : s.unjournaled = false) (e : BitVec 10) :
    ∃ t, exec (.flushJournalEnd e) s = .next t ∧ t.pwr.fphase = 4 ∧ t.pwr.fenergy = e := by
  have run : s.flushJournaled e = _ := (if_pos (by simp [flush, journal])).trans (if_neg (by simp [written]))
  have p : (s.flushJournaled e).pwr.fphase = 4 ∧ (s.flushJournaled e).pwr.fenergy = e := by
    rw [run, State.supLog_pwr]
    dsimp only
    rw [State.supLog_pwr]
    exact ⟨rfl, rfl⟩
  exact ⟨_, rfl, by rw [State.withPins_pwr, p.1], by rw [State.withPins_pwr, p.2]⟩

/-- The tier after an operation and the IBIs that follow it. -/
theorem State.withPins_frames (f : State → State) : (s.withPins f).dtc.frames = (f s).dtc.frames :=
  congrArg Dtc.frames (Noticed.withPins (f := f)).dtc

theorem flushReleasePhaseEnd_off (flush : s.pwr.flush = 3) (release : s.pwr.fphase = 4) (cool : s.pwr.thermOff = false) :
    ∃ t, exec .flushReleasePhaseEnd s = .next t ∧ t.pwr.st = 8 ∧ t.pwr.fdone = true ∧ t.dtc.frames = [] := by
  have e : s.flushReleased = _ := if_pos (by simp [flush, release])
  have p : s.flushReleased.pwr = ({ s.pwr with fdone := true } : Pwr).off 8 := by
    rw [e, State.reachOff_pwr, State.raise_pwr, cool]; rfl
  exact ⟨_, rfl, by rw [State.withPins_pwr, p]; rfl, by rw [State.withPins_pwr, p]; rfl, by rw [State.withPins_frames, e]; rfl⟩

theorem flushShort_off (flush : s.pwr.flush = 3) :
    ∃ t, exec .flushShort s = .next t ∧ t.pwr.st = 8 ∧ t.pwr.fdone = s.pwr.fdone ∧ t.dtc.frames = [] := by
  have e : s.flushShort = _ := if_pos flush
  have p : s.flushShort.pwr = s.pwr.off 8 := by
    rw [e, State.releaseAll, State.reachOff_pwr, State.raise_pwr]; rfl
  exact ⟨_, rfl, by rw [State.withPins_pwr, p]; rfl, by rw [State.withPins_pwr, p]; rfl, by rw [State.withPins_frames, e]; rfl⟩

/-! ### The hold-up bank (R551, R552) -/

theorem State.holdFault_pwr (up : s.up = true) : s.holdFault.pwr = { s.pwr with bankOk := false, mstate := 0, lowered := false } := by
  have e : s.holdFault = _ := if_neg (by simp [up])
  rw [e, State.newBudget_pwr, State.raise_pwr]

/-- A measurement outside a flush notes the bank's values; an unhealthy bank is faulty. -/
theorem State.holdMeas_healthy (up : s.up = true) (quiet : s.pwr.flush = 0) {v0 v1 v2 : Nat} (healthy : bankHealthy v0 v1 v2 = true) :
    (s.holdMeas v0 v1 v2).pwr.bankOk = true ∧ (s.holdMeas v0 v1 v2).pwr.mstate = 3 ∧
      (s.holdMeas v0 v1 v2).pwr.energy = min 1023 (bankEnergy v0 v1 v2) := by
  have e : s.holdMeas v0 v1 v2 = _ := (if_neg (by simp [up, quiet])).trans (if_neg (by simp [healthy]))
  rw [e, State.raise_pwr, State.supLog_pwr, State.newBudget_pwr]
  exact ⟨rfl, rfl, rfl⟩

theorem State.holdMeas_faulty (up : s.up = true) (quiet : s.pwr.flush = 0) {v0 v1 v2 : Nat} (faulty : bankHealthy v0 v1 v2 = false) :
    (s.holdMeas v0 v1 v2).pwr.bankOk = false ∧ (s.holdMeas v0 v1 v2).pwr.mstate = 0 := by
  have e : s.holdMeas v0 v1 v2 = _ := (if_neg (by simp [up, quiet])).trans (if_pos (by simp [faulty]))
  have p : (s.holdMeas v0 v1 v2).pwr = _ := (congrArg State.pwr e).trans (State.holdFault_pwr up)
  exact ⟨congrArg Pwr.bankOk p, congrArg Pwr.mstate p⟩

theorem holdMeas_healthy (up : s.up = true) (v0 v1 v2 : BitVec 20) (quiet : s.pwr.flush = 0)
    (healthy : bankHealthy v0.toNat v1.toNat v2.toNat = true) : ∃ t, exec (.holdMeas v0 v1 v2) s = .next t ∧
      t.pwr.bankOk = true ∧ t.pwr.mstate = 3 ∧ t.pwr.energy = min 1023 (bankEnergy v0.toNat v1.toNat v2.toNat) :=
  ⟨_, rfl, by rw [State.withPins_pwr]; exact State.holdMeas_healthy up quiet healthy⟩

theorem holdMeas_faulty (up : s.up = true) (v0 v1 v2 : BitVec 20) (quiet : s.pwr.flush = 0)
    (faulty : bankHealthy v0.toNat v1.toNat v2.toNat = false) : ∃ t, exec (.holdMeas v0 v1 v2) s = .next t ∧
      t.pwr.bankOk = false ∧ t.pwr.mstate = 0 :=
  ⟨_, rfl, by rw [State.withPins_pwr]; exact State.holdMeas_faulty up quiet faulty⟩

theorem holdupChargeTimeout_faulty (up : s.up = true) (charging : s.pwr.mstate = 1) :
    ∃ t, exec .holdupChargeTimeout s = .next t ∧ t.pwr.bankOk = false ∧ t.pwr.mstate = 0 := by
  refine ⟨_, rfl, ?_⟩
  rw [State.withPins_pwr, if_pos charging, State.holdFault_pwr up]
  exact ⟨rfl, rfl⟩

theorem State.measureStart_mstate (up : s.up = true) (idle : s.pwr.mstate ≠ 2) : s.measureStart.pwr.mstate = 2 := by
  have e : s.measureStart = _ := if_neg (by rw [up, decide_eq_false idle]; decide)
  rw [e]
  dsimp only
  split
  · rw [State.newBudget_pwr]
  · rfl

theorem holdupMeasureSchedule_measures (up : s.up = true) (idle : s.pwr.mstate ≠ 2) :
    ∃ t, exec .holdupMeasureSchedule s = .next t ∧ t.pwr.mstate = 2 :=
  ⟨_, rfl, by rw [State.withPins_pwr]; exact State.measureStart_mstate up idle⟩

/-- Settles O3, phase by phase. -/
theorem emergencyFlush : Obligations.EmergencyFlush :=
  ⟨fun _ flush => ⟨flushDrainEnd_programs flush, flushProgramEnd_journals flush, flushJournalEnd_releases flush,
      flushReleasePhaseEnd_off flush, flushShort_off flush⟩,
    fun _ up => ⟨holdMeas_healthy up, holdMeas_faulty up, holdupChargeTimeout_faulty up, holdupMeasureSchedule_measures up⟩⟩

end Sys2Proof.Machine
end

section
/-! PROOFS. The scan of the rails (R541, R542): with the reference in its window a sample in its own declares no fault, so that the round only
records. -/

namespace Sys2Proof.Machine

open Sys2Proof

variable {s t : State} {ch : Nat} {mv : BitVec 20}

/-- A sample is recorded in its channel, and in no other; the reference is in its window. -/
structure Recorded (ch : Nat) (mv : BitVec 20) (s t : State) : Prop where
  trusted : t.pwr.refBad = 0
  same : (t.rail ch).mv = mv
  other : ∀ i, i ≠ ch → (t.rail i).mv = (s.rail i).mv

/-- What leaves the rails and the count of the reference as they are records nothing else. -/
theorem Recorded.then_ {u : State} (h : Recorded ch mv s t) (rails : u.pwr.rails = t.pwr.rails) (ref : u.pwr.refBad = t.pwr.refBad) :
    Recorded ch mv s u where
  trusted := ref.trans h.trusted
  same := by rw [State.rail, rails]; exact h.same
  other := by simp only [State.rail, rails]; exact h.other

theorem Recorded.setRail {x : Rail} (trusted : s.pwr.refBad = 0) (sample : x.mv = mv) : Recorded ch mv s (s.setRail ch x) where
  trusted := trusted
  same := by rw [State.rail_setRail, sample]
  other i h := by rw [State.rail_setRail_other _ _ h]

theorem Recorded.again {x : Rail} (h : Recorded ch mv s t) (sample : x.mv = mv) : Recorded ch mv s (t.setRail ch x) where
  trusted := h.trusted
  same := by rw [State.rail_setRail, sample]
  other i n := by rw [State.rail_setRail_other _ _ n]; exact h.other i n

/-- A sample inside its window is not more than 10 % above nominal. -/
theorem railInside_le (rail : ch ≤ 36) {v : Nat} (inside : railInside ch v = true) : ¬ railNominal ch * 110 < v * 100 := by
  unfold railInside at inside
  split at inside
  next feed =>
    have nominal : railNominal ch = 12000 := by
      simp only [Bool.and_eq_true, decide_eq_true_eq] at feed
      unfold railNominal
      iterate 11 rw [if_neg (by omega)]
      exact if_pos feed.2
    simp only [Bool.and_eq_true, decide_eq_true_eq] at inside
    omega
  next =>
    rw [if_neg (by omega), if_neg (by omega), if_neg (by omega)] at inside
    simp only [Bool.and_eq_true, decide_eq_true_eq] at inside
    omega

theorem State.railSample_recorded (trusted : s.pwr.refBad = 0) (rail : ch ≤ 36) (inside : railInside ch mv.toNat = true) :
    Recorded ch mv s (s.railSample ch mv.toNat) := by
  have read : BitVec.ofNat 20 mv.toNat = mv := by simp
  unfold State.railSample
  rw [read]
  extract_lets old x s1
  have first : Recorded ch mv s s1 := Recorded.setRail trusted rfl
  rw [if_neg (railInside_le rail inside), if_pos inside]
  split
  · exact first
  · exact first.again rfl

theorem State.recharged_recorded (h : Recorded ch mv s t) (v : Nat) : Recorded ch mv s (t.recharged v) := by
  unfold State.recharged
  split
  · have kept := State.newBudget_pwr { t with pwr := { t.pwr with lowered := false } } t.dtc.energy
    exact h.then_ (congrArg Pwr.rails kept :) (congrArg Pwr.refBad kept :)
  · exact h

theorem State.holdSample_recorded (trusted : s.pwr.refBad = 0) (inside : railInside 37 mv.toNat = true) :
    Recorded 37 mv s (s.holdSample mv.toNat) := by
  have read : BitVec.ofNat 20 mv.toNat = mv := by simp
  have charged : 76000 ≤ mv.toNat := by
    have inside : (decide (76000 ≤ mv.toNat) && decide (mv.toNat ≤ 84000)) = true := inside
    simp only [Bool.and_eq_true, decide_eq_true_eq] at inside
    exact inside.1
  unfold State.holdSample
  rw [read]
  extract_lets x s1 src s2
  have first : Recorded 37 mv s s1 := Recorded.setRail trusted rfl
  have bled : Recorded 37 mv s { s1 with pwr := { s1.pwr with bleed := s1.pwr.bleed && decide (20000 ≤ mv.toNat) } } := first.then_ rfl rfl
  have second : Recorded 37 mv s s2 := State.recharged_recorded bled _
  clear_value s2
  rw [if_pos charged]
  split
  · exact second
  · exact second.then_ rfl rfl

theorem State.warnEnd_recorded (h : Recorded ch mv s t) : Recorded ch mv s t.warnEnd := by
  unfold State.warnEnd
  split
  · exact h.then_ rfl rfl
  · exact h

theorem State.vinSample_recorded (trusted : s.pwr.refBad = 0) (inside : railInside 38 mv.toNat = true) :
    Recorded 38 mv s (s.vinSample mv.toNat) := by
  have read : BitVec.ofNat 20 mv.toNat = mv := by simp
  have range : 40000 ≤ mv.toNat ∧ mv.toNat ≤ 60000 := by
    have inside : (decide (40000 ≤ mv.toNat) && decide (mv.toNat ≤ 60000)) = true := inside
    simpa only [Bool.and_eq_true, decide_eq_true_eq] using inside
  unfold State.vinSample
  rw [if_neg (show ¬ mv.toNat < 40000 by omega), if_neg (show ¬ 60000 < mv.toNat by omega), read]
  dsimp only
  rw [if_pos inside]
  have first : Recorded 38 mv s (s.setRail 38 { s.rail 38 with mv := mv }) := Recorded.setRail trusted rfl
  exact State.warnEnd_recorded (first.then_ rfl rfl)

theorem State.scanSample_recorded (trusted : s.pwr.refBad = 0) (scanned : ch < 39) (inside : railInside ch mv.toNat = true) :
    Recorded ch mv s (s.scanSample ch mv.toNat) := by
  unfold State.scanSample
  split
  next rail => exact State.railSample_recorded trusted rail inside
  next =>
    split
    next hold => subst hold; exact State.holdSample_recorded trusted inside
    next =>
      have vin : ch = 38 := by omega
      subst vin
      exact State.vinSample_recorded trusted inside

/-- The reference in its window trusts the round. -/
theorem State.refSample_recorded (s : State) (inside : railInside 39 mv.toNat = true) : Recorded 39 mv s (s.refSample mv.toNat) := by
  have read : BitVec.ofNat 20 mv.toNat = mv := by simp
  have e : s.refSample mv.toNat = _ := if_pos inside
  rw [e, read]
  exact ⟨rfl, congrArg Rail.mv (State.rail_setRail _ _ _), fun i h => congrArg Rail.mv (State.rail_setRail_other _ _ h)⟩

/-- Samples of a list of channels: each is recorded, and other channels read on. -/
theorem State.scanSamples_mv (taken : Nat → BitVec 20) (inside : ∀ ch, ch < 39 → railInside ch (taken ch).toNat = true)
    (l : List (Nat × BitVec 20)) (hl : ∀ e, e ∈ l → e.1 < 39 ∧ e.2 = taken e.1) (trusted : s.pwr.refBad = 0) :
    (s.each l (fun s e => s.scanSample e.1 e.2.toNat)).pwr.refBad = 0 ∧ ∀ i,
      ((s.each l (fun s e => s.scanSample e.1 e.2.toNat)).rail i).mv = if i ∈ l.map Prod.fst then taken i else (s.rail i).mv := by
  induction l generalizing s with
  | nil => exact ⟨trusted, fun _ => rfl⟩
  | cons e l ih =>
    obtain ⟨scanned, value⟩ := hl e List.mem_cons_self
    have first : Recorded e.1 e.2 s (s.scanSample e.1 e.2.toNat) := by
      rw [value]; exact State.scanSample_recorded trusted scanned (inside _ scanned)
    obtain ⟨ref, rest⟩ := ih (fun e h => hl e (List.mem_cons_of_mem _ h)) first.trusted
    refine ⟨ref, fun i => (rest i).trans ?_⟩
    rw [List.map_cons]
    by_cases later : i ∈ l.map Prod.fst
    · rw [if_pos later, if_pos (List.mem_cons_of_mem _ later)]
    · rw [if_neg later]
      by_cases now : i = e.1
      · subst now
        rw [if_pos List.mem_cons_self, first.same, value]
      · rw [if_neg (by simp [now, later]), first.other i now]

/-- No power-good signal counts while the reference is in its window (R543). -/
theorem State.goodLost_trusted (trusted : s.pwr.refBad = 0) (c : Nat) : s.goodLost c = s := if_neg (by simp [trusted])

theorem State.each_goodLost (trusted : s.pwr.refBad = 0) (l : List (Fin 37)) : s.each l (fun s c => s.goodLost c.val) = s := by
  induction l with
  | nil => rfl
  | cons c l ih => exact (congrArg (fun t : State => t.each l _) (State.goodLost_trusted trusted c.val)).trans ih

/-- A round of samples that all lie in their windows. -/
theorem State.adcRound_records (l : List (BitVec 20)) (lost : List (Fin 37)) (all : l.length = 40)
    (inside : ∀ ch, ch < 40 → railInside ch (l.getD ch 0).toNat = true) (ch : Nat) (scanned : ch < 40) :
    ((s.adcRound l lost []).rail ch).mv = l.getD ch 0 := by
  have reference : l[39]? = some (l.getD 39 0) := by
    rw [List.getD_eq_getElem?_getD, List.getElem?_eq_getElem (by omega)]; rfl
  have r := s.refSample_recorded (inside 39 (by decide))
  have zipped : ∀ e, e ∈ (List.range 39).zip l → e.1 < 39 ∧ e.2 = l.getD e.1 0 := by
    intro e he
    obtain ⟨i, hi, rfl⟩ := List.mem_iff_getElem.mp he
    rw [List.length_zip, List.length_range] at hi
    rw [List.getElem_zip, List.getElem_range, List.getD_eq_getElem?_getD, List.getElem?_eq_getElem (by omega)]
    exact ⟨by omega, rfl⟩
  obtain ⟨ref, read⟩ := State.scanSamples_mv (fun ch => l.getD ch 0) (fun ch h => inside ch (by omega)) _ zipped r.trusted
  have e : s.adcRound l lost [] =
      (s.refSample (l.getD 39 0).toNat).each ((List.range 39).zip l) (fun s e => s.scanSample e.1 e.2.toNat) := by
    unfold State.adcRound
    rw [reference]
    exact State.each_goodLost ref lost
  rw [e, read]
  have keys : ((List.range 39).zip l).map Prod.fst = List.range 39 := by
    rw [List.map_fst_zip]; rw [List.length_range]; omega
  rw [keys]
  by_cases sampled : ch < 39
  · rw [if_pos (List.mem_range.mpr sampled)]
  · have ref39 : ch = 39 := by omega
    subst ref39
    rw [if_neg (by simp), r.same]

/-- Settles O4: no sample of the round declares a fault, and no fault follows it. -/
theorem adcScan : Obligations.AdcScan := fun s l lost all inside =>
  ⟨_, rfl, fun ch h => by
    have p := State.withPins_pwr (s := s) (fun s => s.adcRound l lost [])
    rw [State.rail, p]
    exact State.adcRound_records l lost all inside ch h⟩

end Sys2Proof.Machine
end

section
/-! PROOFS. The power states, the thermal functions, the clocks and the resets (R558 to R573). -/

namespace Sys2Proof.Machine

open Sys2Proof

variable {s : State}

/-! ### Profiles and Idle (R558, R560, R561) -/

theorem State.takeProfile_capped (profile : s.pwr.profile = 2) (stays : s.regFld 0x002 0x104 0 2 = 2) :
    s.takeProfile.pwr = { s.pwr with cap := s.regFld 0x002 0x104 16 10 } := by
  have e : s.takeProfile = State.setCaps _ := congrArg State.setCaps (if_pos (by rw [stays, profile]; decide))
  rw [e]
  rfl

/-- In Capped the loop runs on the averaged power and the cap (R561). -/
theorem State.loopTick_capped (on : s.pwr.st = 3) (profile : s.pwr.profile = 2) (stays : s.regFld 0x002 0x104 0 2 = 2) (watts : Nat) :
    (s.loopTick watts).pwr.powerW = watts ∧ ((s.loopTick watts).pwr.pgm, (s.loopTick watts).pwr.req) =
      cappedLoop watts (s.regFld 0x002 0x104 16 10) s.pwr.pgm s.pwr.req := by
  unfold State.loopTick
  extract_lets src s1
  have p : s1.takeProfile.pwr = { s1.pwr with cap := s.regFld 0x002 0x104 16 10 } := State.takeProfile_capped profile stays
  rw [if_pos (by rw [show s1.pwr.st = 3 from on]; decide), if_pos (by rw [p]; exact profile)]
  have caps : (State.setCaps { s1.takeProfile with pwr := { s1.takeProfile.pwr with
      pgm := (cappedLoop watts s1.takeProfile.pwr.cap s1.takeProfile.pwr.pgm s1.takeProfile.pwr.req).1,
      req := (cappedLoop watts s1.takeProfile.pwr.cap s1.takeProfile.pwr.pgm s1.takeProfile.pwr.req).2 } }).pwr = _ := rfl
  rw [caps, p]
  exact ⟨rfl, rfl⟩

theorem cappedLoopTick_runs (on : s.pwr.st = 3) (profile : s.pwr.profile = 2) (stays : s.regFld 0x002 0x104 0 2 = 2) (w : BitVec 10) :
    ∃ t, exec (.cappedLoopTick w) s = .next t ∧ t.pwr.powerW = w.toNat ∧
      (t.pwr.pgm, t.pwr.req) = cappedLoop w.toNat (s.regFld 0x002 0x104 16 10) s.pwr.pgm s.pwr.req :=
  ⟨_, rfl, by rw [State.withPins_pwr]; exact State.loopTick_capped on profile stays w.toNat⟩

theorem autoIdleEntry_idle (on : s.pwr.st = 3) (saving : s.pwr.profile = 1) (quiet : s.slicesQuiet = true) :
    exec .autoIdleEntry s = .next { s with pwr := { s.pwr with st := 4, ungated := 0, autoIdle := true } } :=
  congrArg Host.Outcome.next (if_pos (by rw [on, saving, quiet]; decide))

/-! ### The domains of an Idle module (R558, R569) -/

theorem bitAt_or_oneBit {w : BitVec 25} {i : Nat} (fits : i < 25) : bitAt (w ||| oneBit 25 i) i = true := by
  rw [bitAt, BitVec.getLsbD_or, oneBit, BitVec.getLsbD_ofNat, Nat.testBit_two_pow_self, decide_eq_true fits]
  exact Bool.or_true _

theorem bitAt_and_not_oneBit {w : BitVec 25} {i : Nat} (fits : i < 25) : bitAt (w &&& ~~~oneBit 25 i) i = false := by
  rw [bitAt, BitVec.getLsbD_and, BitVec.getLsbD_not, oneBit, BitVec.getLsbD_ofNat, Nat.testBit_two_pow_self, decide_eq_true fits]
  exact Bool.and_false _

/-- A domain that Idle gates is gated unless work has ungated it. -/
theorem State.domGated_idle (idle : s.pwr.st = 4) {i : Nat} (gates : idleDomain i = true) :
    s.domGated (i + 1) = !bitAt s.pwr.ungated i := by
  simp only [idleDomain, Bool.or_eq_true, Bool.and_eq_true, decide_eq_true_eq] at gates
  unfold State.domGated
  rw [idle, if_neg (by omega), if_neg (by omega), if_neg (by omega)]
  by_cases slice : i ≤ 12
  · rw [if_pos (by omega)]; rfl
  · rw [if_neg (by omega), if_neg (by omega), if_neg (by omega), if_pos (by omega)]; rfl

theorem domainUngate_ungates (idle : s.pwr.st = 4) (asked : s.pwr.autoIdle = false) (d : Fin 25) (gates : idleDomain d.val = true) :
    ∃ t, exec (.domainUngate d) s = .next t ∧ t.domGated (d.val + 1) = false := by
  have e : s.ungate d.val = { s with pwr := { s.pwr with ungated := s.pwr.ungated ||| oneBit 25 d.val } } :=
    (if_neg (by rw [idle, gates]; decide)).trans (if_neg (by rw [asked, Bool.false_and]; decide))
  refine ⟨_, congrArg Host.Outcome.next e, Eq.trans (State.domGated_idle ?_ gates) ?_⟩
  · exact idle
  · exact congrArg not (bitAt_or_oneBit d.isLt)

theorem domainRegate_gates (idle : s.pwr.st = 4) (d : Fin 25) (gates : idleDomain d.val = true) :
    ∃ t, exec (.domainRegate d) s = .next t ∧ t.domGated (d.val + 1) = true := by
  have e : s.regate d.val = { s with pwr := { s.pwr with ungated := s.pwr.ungated &&& ~~~oneBit 25 d.val } } :=
    if_pos (by rw [idle, gates]; decide)
  refine ⟨_, congrArg Host.Outcome.next e, Eq.trans (State.domGated_idle ?_ gates) ?_⟩
  · exact idle
  · exact congrArg not (bitAt_and_not_oneBit d.isLt)

/-! ### The wake from Deep Idle (R558) -/

/-- Rails, ports, heads and held requests come back in the state On. -/
theorem State.deepIdleWake_on (deep : s.pwr.st = 5) : s.deepIdleWake.pwr.st = 3 := by
  have e : s.deepIdleWake = _ := if_neg (by rw [deep]; decide)
  rw [e]
  extract_lets src woken railed ported widened freed
  have on : railed.pwr.st = 3 := by
    refine each_preserves (P := fun t => t.pwr.st = 3) (fun t k h => ?_) [6, 7, 8] rfl
    obtain ⟨rails, p⟩ := t.stepInWindow_pwr k
    rw [p]; exact h
  clear_value railed
  have ports : Spares .power railed ported := State.each_spares (fun _ _ h => State.leaveTrickle_spares h) (Spares.refl _ _)
  have heads : Spares .power railed widened := by
    refine State.each_spares (fun t n h => ?_) ports
    dsimp only
    split
    · exact State.setHead_spares h
    · exact h
  have held : Spares .power railed freed := State.each_spares (fun _ _ h => State.freeHeld_spares h) heads
  rw [(State.finishOp_spares (State.freeSleepq_spares held)).pwr, on]

/-- Settles O5. -/
theorem powerStates : Obligations.PowerStates := fun _ =>
  ⟨cappedLoopTick_runs, autoIdleEntry_idle,
    fun idle asked d gates => ⟨domainUngate_ungates idle asked d gates, domainRegate_gates idle d gates⟩,
    fun deep => ⟨_, next_withPins rfl, State.deepIdleWake_on deep⟩⟩

end Sys2Proof.Machine
end

section
/-! PROOFS. The thermal functions (R562 to R567): a readable sensor that its neighbours do not contradict is taken, and what follows the readings of a
round leaves them. -/

namespace Sys2Proof.Machine

open Sys2Proof

variable {s t : State}

/-! ### What leaves the sensors and a running flush -/

@[simp] theorem State.checkShort_plant (s : State) : s.checkShort.plant = s.plant := by
  unfold State.checkShort
  split
  · exact State.raise_plant _ _ _
  · rfl

@[simp] theorem State.newBudget_plant (s : State) (joules : Nat) : (s.newBudget joules).plant = s.plant := by
  unfold State.newBudget
  dsimp only
  repeat' split
  all_goals simp

theorem State.thm_of_plant (h : t.plant = s.plant) : t.thm = s.thm := congrArg Plant.thm h

/-- The sensors and the flush that runs are as they were. -/
def Senses (s t : State) : Prop := t.thm.sensors = s.thm.sensors ∧ t.pwr.flush = s.pwr.flush

theorem Senses.refl (s : State) : Senses s s := ⟨rfl, rfl⟩

theorem Senses.trans {u : State} (h : Senses s t) (g : Senses t u) : Senses s u := ⟨g.1.trans h.1, g.2.trans h.2⟩

theorem Senses.plant (h : t.plant = s.plant) : Senses s t :=
  ⟨congrArg Thm.sensors (State.thm_of_plant h), congrArg Pwr.flush (State.pwr_of_plant h)⟩

theorem State.warnSensor_plant (s : State) (ch : Nat) : (s.warnSensor ch).plant = s.plant := by
  unfold State.warnSensor
  dsimp only
  repeat' split
  all_goals simp

theorem State.measureStart_senses (s : State) : Senses s s.measureStart := by
  unfold State.measureStart
  dsimp only
  split
  · exact Senses.refl s
  · split
    · exact Senses.trans (t := { s with pwr := { s.pwr with mstate := 2, lowered := _ } }) ⟨rfl, rfl⟩ (Senses.plant (State.newBudget_plant _ _))
    · exact ⟨rfl, rfl⟩

theorem State.coldBank_senses (s : State) : Senses s s.coldBank := by
  unfold State.coldBank
  dsimp only
  repeat' split
  · exact Senses.refl s
  · exact ⟨rfl, rfl⟩
  · exact Senses.trans (t := { s with pwr := { s.pwr with coldBank := false } }) ⟨rfl, rfl⟩ (State.measureStart_senses _)
  · exact Senses.refl s

theorem State.throttle_senses (s : State) : Senses s s.throttle := by
  unfold State.throttle
  split
  · exact Senses.refl s
  · refine Senses.trans (t := { s with thm := { s.thm with req := true } }) ⟨rfl, rfl⟩ (Senses.plant ?_)
    simp only [State.originate_plant, State.memoryEvent_plant, State.postAll_plant, State.raise_plant]

theorem State.enforce_senses (s : State) : Senses s s.enforce := by
  unfold State.enforce
  split
  · exact Senses.refl s
  · exact Senses.trans (t := { s with thm := { s.thm with enf := true } }) ⟨rfl, rfl⟩ (Senses.plant (State.raise_plant _ _ _))

/-! ### The readings of a round (R562, R566) -/

/-- Sensors that a loop sets one by one. -/
theorem State.each_sensor {f : State → Nat → State} {g : Nat → Sensor}
    (hf : ∀ t c i, (f t c).sensor i = if i = c then g c else t.sensor i) (l : List Nat) (s : State) (i : Nat) :
    (s.each l f).sensor i = if i ∈ l then g i else s.sensor i := by
  induction l generalizing s with
  | nil => rfl
  | cons c l ih =>
    refine (ih (f s c)).trans ?_
    by_cases later : i ∈ l
    · rw [if_pos later, if_pos (List.mem_cons_of_mem _ later)]
    · rw [if_neg later, hf]
      by_cases now : i = c
      · subst now
        rw [if_pos rfl, if_pos List.mem_cons_self]
      · rw [if_neg now, if_neg (by simp [now, later])]

theorem State.setSensor_sensor (s : State) (c i : Nat) (x : Sensor) : (s.setSensor c x).sensor i = if i = c then x else s.sensor i := by
  by_cases h : i = c
  · subst h
    rw [if_pos rfl, State.sensor_setSensor]
  · rw [if_neg h, State.sensor_setSensor_other _ _ h]

theorem State.takeReading_now {raw : Nat → Reading} {ch : Nat} (sound : (s.sensor ch).faulty = false) :
    ((s.takeReading raw ch).sensor ch).now = raw ch := by
  unfold State.takeReading
  rw [State.sensor_setSensor]
  exact if_neg (by rw [sound]; decide)

/-- The test of a channel in a round, and what it raises. -/
def State.testSensor (s : State) (raw : Nat → Reading) (t : State) (ch : Nat) : State :=
  let t' := t.setSensor ch (s.checkSensor raw ch).1
  if (s.checkSensor raw ch).2 then t'.raise 0x003 .thmSensorFault else t'

theorem State.testSensor_sensor (s : State) (raw : Nat → Reading) (t : State) (c i : Nat) :
    (s.testSensor raw t c).sensor i = if i = c then (s.checkSensor raw c).1 else t.sensor i := by
  unfold State.testSensor
  dsimp only
  split
  · rw [State.sensor, State.raise_thm]; exact State.setSensor_sensor _ _ _ _
  · exact State.setSensor_sensor _ _ _ _

theorem State.testSensor_flush (s : State) (raw : Nat → Reading) (t : State) (c : Nat) :
    (s.testSensor raw t c).pwr.flush = t.pwr.flush := by
  unfold State.testSensor
  dsimp only
  split
  · rw [State.raise_pwr]; rfl
  · rfl

theorem State.testSensors_sound {raw : Nat → Reading} {chs : List Nat} {ch : Nat} (listed : ch ∈ chs)
    (sound : (s.checkSensor raw ch).1.faulty = false) : ((s.each chs (s.testSensor raw)).sensor ch).faulty = false := by
  rw [State.each_sensor (g := fun c => (s.checkSensor raw c).1) (s.testSensor_sensor raw), if_pos listed]
  exact sound

theorem State.takeReadings_now {raw : Nat → Reading} {chs : List Nat} {ch : Nat} (listed : ch ∈ chs) (sound : (s.sensor ch).faulty = false) :
    ((s.each chs (fun t c => t.setSensor c ((s.takeReading raw c).sensor c))).sensor ch).now = raw ch := by
  rw [State.each_sensor (g := fun c => (s.takeReading raw c).sensor c) (fun t c i => State.setSensor_sensor _ _ _ _), if_pos listed,
    State.takeReading_now sound]

theorem State.setSensors_flush (s : State) (chs : List Nat) (x : Nat → Sensor) :
    (s.each chs (fun t c => t.setSensor c (x c))).pwr.flush = s.pwr.flush := each_same (fun t => t.pwr.flush) fun _ _ => rfl

theorem State.setCaps_senses (s : State) : Senses s s.setCaps := ⟨rfl, rfl⟩

theorem State.warnings_senses (s : State) (chs : List Nat) : Senses s (s.each chs State.warnSensor).coldBank :=
  (Senses.plant (each_same State.plant fun t c => t.warnSensor_plant c)).trans (State.coldBank_senses _)

/-- A readable sensor that its neighbours do not contradict is taken; what follows the readings leaves them. -/
theorem State.thermalRound_takes (runs : s.domGated 2 = false) (flush : s.pwr.flush ≠ 4) {temps : List Reading} (all : temps.length = 164)
    {ch : Nat} (module : ch < 164) (sensed : s.sensed ch = true)
    (sound : (s.checkSensor (fun c => temps.getD c (s.sensor c).now) ch).1.faulty = false) :
    ((s.thermalRound temps).sensor ch).now = temps.getD ch 0 := by
  unfold State.thermalRound
  rw [if_neg (by rw [runs]; decide)]
  extract_lets raw chs s0 tested s1 read warned level rate src levelled throttled enforced capped
  have listed : ch ∈ chs := List.mem_filter.mpr ⟨List.mem_range.mpr module, by rw [decide_eq_true (all ▸ module), sensed]; rfl⟩
  have checked : (tested.sensor ch).faulty = false := State.testSensors_sound listed sound
  have taken : (read.sensor ch).now = raw ch := State.takeReadings_now listed checked
  have first : read.pwr.flush = s.pwr.flush :=
    (State.setSensors_flush _ _ _).trans (each_same (fun t => t.pwr.flush) (s.testSensor_flush raw))
  clear_value read
  have warn : Senses read warned := State.warnings_senses read chs
  clear_value warned
  have judged : Senses read levelled := ⟨warn.1, warn.2⟩
  clear_value levelled
  have throttle : Senses read throttled := by
    dsimp only [throttled]
    split
    · exact judged.trans (State.throttle_senses _)
    · exact judged
  clear_value throttled
  have enforce : Senses read enforced := by
    dsimp only [enforced]
    split
    · exact throttle.trans (State.enforce_senses _)
    · exact throttle
  clear_value enforced
  obtain ⟨sensors, kept⟩ : Senses read capped := enforce.trans (State.setCaps_senses _)
  clear_value capped
  have now : capped.sensor ch = read.sensor ch := congrArg (fun l : Tab Sensor => l.get {} ch) sensors
  have reads : raw ch = temps.getD ch 0 := by
    have present : temps[ch]? = some (temps[ch]'(all ▸ module)) := List.getElem?_eq_getElem _
    rw [List.getD_eq_getElem?_getD, present]
    exact congrArg (·.getD (s.sensor ch).now) present
  rw [if_neg (by simp [kept, first, flush]), now, taken, reads]

/-! ### Throttling (R564) -/

theorem throttleGraceExpiry_enforces (asked : s.thm.req = true) :
    ∃ t, exec .throttleGraceExpiry s = .next t ∧ t.thm.enf = true ∧ t.thm.req = true := by
  have e : s.throttleGrace = s.enforce := if_pos asked
  refine ⟨_, congrArg Host.Outcome.next e, ?_⟩
  unfold State.enforce
  split
  next enforced => exact ⟨enforced, asked⟩
  next =>
    have kept := State.raise_thm { s with thm := { s.thm with enf := true } } 0x003 .thmThrotEnf
    exact ⟨(congrArg Thm.enf kept :), (congrArg Thm.req kept).trans asked⟩

theorem throttleReleaseExpiry_lifts (asked : s.thm.req = true) (cool : s.cool = true) :
    ∃ t, exec .throttleReleaseExpiry s = .next t ∧ t.thm.req = false ∧ t.thm.enf = false := by
  have e : s.throttleRelease = _ := if_pos (by rw [asked, cool]; rfl)
  have kept : (s.withPins State.throttleRelease).thm = { s.thm with req := false, enf := false, level := false } := by
    rw [State.thm_of_plant (State.withPins_plant _), e, State.thm_of_plant (State.memoryEvent_plant _),
      State.thm_of_plant (State.postAll_plant _ _ _)]
    rfl
  exact ⟨_, rfl, by rw [kept], by rw [kept]⟩

/-! ### The thermal shutdown (R548, R567) -/

theorem State.thermalFlush_on (on : s.pwr.st = 3) : s.thermalFlush = State.startFlush { s with pwr := { s.pwr with
    thermOff := true, st := 6, startup := 0, fcause := 4, fdone := false, fmib := s.dirtyMib, fenergy := 0 } } 4 := by
  rw [State.thermalFlush, State.deepIdleWake_awake (by rw [on]; decide)]
  dsimp only
  rw [on]
  rfl

/-- From On the shutdown is noted with its channel, and its flush begins. -/
theorem State.thermShut_on (on : s.pwr.st = 3) (quiet : s.pwr.flush = 0) (ch : Nat) {x : Reading} (trips : s.trip ≤ x.toInt) :
    (s.thermShut ch x).thm = { s.thm with shutLast := true, shutCh := BitVec.ofNat 8 ch, shutTemp := x } ∧
      (s.thermShut ch x).pwr.st = 6 ∧ (s.thermShut ch x).pwr.flush = 4 := by
  have runs : s.domGated 2 = false := by rw [State.domGated, on]; rfl
  unfold State.thermShut
  rw [if_neg (by simp [runs, on, quiet, trips])]
  extract_lets src noted
  have told : ((noted.supLog 0x0b ch (x.toInt % 2 ^ 32).toNat 0).raise 0x003 .thmThermShut).plant = noted.plant := by
    rw [State.raise_plant, State.supLog_plant]
  have kept := State.thm_of_plant told
  rw [State.thermalFlush_on ((congrArg Pwr.st (State.pwr_of_plant told)).trans on), State.startFlush_pwr,
    State.thm_of_plant (State.startFlush_plant _ _)]
  exact ⟨kept, rfl, rfl⟩

theorem thermShut_flushes (on : s.pwr.st = 3) (quiet : s.pwr.flush = 0) (ch : Fin 164) (x : Reading) (trips : s.trip ≤ x.toInt) :
    ∃ t, exec (.thermShut ch x) s = .next t ∧ t.thm.shutLast = true ∧ t.thm.shutCh = BitVec.ofNat 8 ch.val ∧ t.thm.shutTemp = x ∧
      t.pwr.st = 6 ∧ t.pwr.flush = 4 := by
  obtain ⟨thm, st, flush⟩ := State.thermShut_on on quiet ch.val trips
  refine ⟨_, rfl, ?_⟩
  rw [State.withPins_pwr, State.thm_of_plant (State.withPins_plant _), thm]
  exact ⟨rfl, rfl, rfl, st, flush⟩

theorem thermRestart_leaves (off : s.pwr.st = 9) (cooled : ∀ ch, ch < 164 → s.atLeast ch s.restartLevel = false) :
    ∃ t, exec .thermRestart s = .next t ∧ t.pwr.st = if s.pwr.offDone then 0 else 8 := by
  have all : moduleSensors.all (fun ch => !s.atLeast ch s.restartLevel) = true :=
    List.all_eq_true.mpr fun ch h => by rw [cooled ch (List.mem_range.mp h)]; rfl
  have e : s.thermRestart = _ := if_pos (by rw [off, all]; rfl)
  refine ⟨_, congrArg Host.Outcome.next e, ?_⟩
  dsimp only
  rw [State.supLog_pwr, State.raise_pwr]

/-- Settles O6. -/
theorem thermal : Obligations.Thermal := fun _ =>
  ⟨fun runs flush _ all => ⟨_, rfl, fun _ module sensed sound => by
      rw [State.sensor, State.thm_of_plant (State.withPins_plant _)]
      exact State.thermalRound_takes runs flush all module sensed sound⟩,
    throttleGraceExpiry_enforces, throttleReleaseExpiry_lifts, thermShut_flushes, thermRestart_leaves⟩

end Sys2Proof.Machine
end

section
/-! PROOFS. The clocks and the resets (R570 to R573): a release of every converter keeps the clocks' failures, and a unit whose reset ends has left
the pages that reset. -/

namespace Sys2Proof.Machine

open Sys2Proof

variable {s : State}

/-! ### Clock failures (R570) -/

theorem pllRelock_counts (lost : s.pwr.locked = false) :
    ∃ t, exec .pllRelock s = .next t ∧ t.pwr.locked = true ∧ t.pwr.relocks = min 255 (s.pwr.relocks + 1) := by
  have p : s.relock.pwr = { s.pwr with locked := true, relocks := min 255 (s.pwr.relocks + 1) } := by
    have e : s.relock = _ := if_neg (by rw [lost]; decide)
    rw [e]
    dsimp only
    split
    · rfl
    · rw [State.raise_pwr]
  exact ⟨_, rfl, by rw [State.withPins_pwr, p], by rw [State.withPins_pwr, p]⟩

/-- The module ends in Off with every converter released, where it is not Off already. -/
theorem State.flushShort_pwr (s : State) : ((s.raise 0x002 .pwrFlushShort).releaseAll).pwr = s.pwr.off 8 := by
  rw [State.releaseAll, State.reachOff_pwr, State.raise_pwr]; rfl

theorem State.isOff_of_pwr {t : State} (h : t.pwr = s.pwr) : t.isOff = s.isOff := by rw [State.isOff, State.isOff, h]

theorem pllRelockTimeout_off (lost : s.pwr.locked = false) (runs : s.isOff = false) :
    ∃ t, exec .pllRelockTimeout s = .next t ∧ t.pwr.st = 8 ∧ t.pwr.locked = false := by
  have logged : (s.supLog 0x0d 0xff 0 0).pwr = s.pwr := State.supLog_pwr _ _ _ _
  have p : s.relockTimeout.pwr = s.pwr.off 8 := by
    have e : s.relockTimeout = _ := (if_neg (by rw [lost]; decide)).trans (if_neg (by rw [State.isOff_of_pwr logged, runs]; decide))
    rw [e, State.flushShort_pwr, logged]
  exact ⟨_, rfl, by rw [State.withPins_pwr, p]; rfl, by rw [State.withPins_pwr, p]; exact lost⟩

theorem State.shadowOnly_pwr (s : State) : s.shadowOnly.pwr = s.pwr := by
  have numbered : Spares .power s (State.nextSeq { s with free := s.free + 2 }).2 := State.nextSeq_spares (Spares.refl _ _)
  unfold State.shadowOnly
  dsimp only [State.fresh]
  split
  · exact numbered.pwr
  · exact numbered.pwr

theorem referenceFailure_off (runs : s.isOff = false) : ∃ t, exec .referenceFailure s = .next t ∧ t.pwr.st = 8 ∧ t.pwr.refOk = false := by
  have p : s.refFail.pwr = ({ s.pwr with refOk := false } : Pwr).off 8 := by
    unfold State.refFail
    extract_lets src logged shadowed
    have noted : shadowed.pwr = { s.pwr with refOk := false } := (State.shadowOnly_pwr _).trans (State.supLog_pwr _ _ _ _)
    clear_value shadowed
    have on : shadowed.isOff = false := (congrArg (fun p : Pwr => decide (p.st.toNat ∈ [0, 8, 9])) noted).trans runs
    rw [if_neg (by rw [on]; decide), State.flushShort_pwr, noted]
  exact ⟨_, rfl, by rw [State.withPins_pwr, p]; rfl, by rw [State.withPins_pwr, p]; rfl⟩

/-! ### Unit resets (R572) -/

theorem State.unitResetEnd_left {page : Nat} (runs : page ∈ s.pages.resetting) : page ∉ (s.unitResetEnd page).pages.resetting := by
  unfold State.unitResetEnd
  rw [if_neg (by rw [decide_eq_true runs]; decide)]
  extract_lets d reset p ended unfenced afresh
  have left : page ∉ ended.pages.resetting := not_mem_removeAll _ _
  clear_value ended
  have opened : Spares .runs ended unfenced := by
    dsimp only [unfenced]
    split
    · exact Spares.refl _ _
    · exact Spares.refl _ _
  clear_value unfenced
  have started : Spares .runs ended afresh := by
    dsimp only [afresh]
    split
    · exact State.sliceAfresh_spares opened
    · exact State.startBlock_spares opened
    · exact State.resetHead_spares opened
    · exact State.setCore_spares opened
    · exact opened
  clear_value afresh
  have kept : Spares .runs ended ((afresh.fenceReactionEnd d.1 d.2).raise 0x001 .ckrUnitReset) :=
    State.raise_spares (State.fenceReactionEnd_spares started)
  rw [kept.resetting]
  exact left

/-! ### The AON reset (R571, R573) -/

theorem aonReset_afresh (straps : BitVec 2) : ∃ t, exec (.aonReset straps) s = .next t ∧ t.time = 0 ∧ t.opMs = 0 ∧ t.pwr.st = 0 ∧
    t.mgt.straps = straps ∧ t.dtc.frames = [] ∧ t.slices = [] := by
  obtain ⟨⟨_, _, _, _, _, e⟩, -⟩ := Noticed.withPins (s := s) (f := fun s => s.aonReset straps)
  exact ⟨_, congrArg Host.Outcome.next e, rfl, rfl, rfl, rfl, rfl, rfl⟩

/-- Settles O7. -/
theorem clocksAndResets : Obligations.ClocksAndResets := fun _ =>
  ⟨rfl, pllRelock_counts, pllRelockTimeout_off, referenceFailure_off,
    fun _ runs => ⟨_, next_withPins rfl, State.unitResetEnd_left runs⟩, aonReset_afresh⟩

end Sys2Proof.Machine
end

section
/-! PROOFS. The passwords of the pantry's partitions, its two parts and their layout (R531 to R537, R605). -/

namespace Sys2Proof.Machine

open Sys2Proof

variable {s : State} {q : Requester} {part : Nat} {write : Bool}

/-! ### Passwords (R535) -/

/-- The right password is accepted while attempts are not held. -/
theorem State.present_right (open_ : s.pan.hold = false) {pw : Nat} (right : s.pan.pwds.find (pwKey part write) = some (pwDigest pw)) :
    s.present part write pw = (true, { s with pan := { s.pan with wrong := 0 } }) := by
  rw [State.present, if_neg (by rw [open_]; decide), right]
  exact if_pos rfl

theorem State.unlock_right (open_ : s.pan.hold = false)
    (right : s.pan.pwds.find (pwKey part write) = some (pwDigest (s.entered q))) :
    (pwKey part write, q) ∈ (s.unlock q part write).pan.unlocks := by
  rw [State.unlock, State.present_right open_ right]
  exact mem_insertNew _ _

theorem State.setPassword_unlocked (unlocked : s.unlocked q part true = true) : (s.setPassword q part write).pan.pwds =
    if s.entered q = 0 then s.pan.pwds.del (pwKey part write) else s.pan.pwds.put (pwKey part write) (pwDigest (s.entered q)) := by
  rw [State.setPassword, if_pos unlocked]

/-- An operation on the partition that PAN_PART names; the requester's words are cleared after it. -/
theorem passwordWrite_runs {op : Nat} {w : Word} (word : w.toNat = op) (ok : s.accepts q 0x006 0x108 w = true) :
    (.next (s.withPins (fun s => s.pageWrite q 0x006 0x108 w)) : Host.Outcome State Fault Refusal) =
      .next (s.withPins (fun _ => (s.panPwctl q op).drain)) :=
  withPins_pageWrite (effect := fun _ => s.panPwctl q op) rfl (by decide) (by decide) ok fun r at_ => by
    rw [← word]; simp only [State.writeBlock, at_]

theorem unlockRead_unlocks (ok : s.accepts q 0x006 0x108 1 = true) (open_ : s.pan.hold = false)
    (right : s.pan.pwds.find (pwKey (s.regFld 0x006 0x104 0 3) false) = some (pwDigest (s.entered q))) :
    ∃ u : State, exec (.unlockRead q) s = .next (s.withPins (fun _ => u.drain)) ∧
      (pwKey (s.regFld 0x006 0x104 0 3) false, q) ∈ u.pan.unlocks :=
  ⟨_, passwordWrite_runs (op := 1) rfl ok, State.unlock_right open_ right⟩

theorem unlockWrite_unlocks (ok : s.accepts q 0x006 0x108 2 = true) (open_ : s.pan.hold = false)
    (right : s.pan.pwds.find (pwKey (s.regFld 0x006 0x104 0 3) true) = some (pwDigest (s.entered q))) :
    ∃ u : State, exec (.unlockWrite q) s = .next (s.withPins (fun _ => u.drain)) ∧
      (pwKey (s.regFld 0x006 0x104 0 3) true, q) ∈ u.pan.unlocks :=
  ⟨_, passwordWrite_runs (op := 2) rfl ok, State.unlock_right open_ right⟩

theorem setReadPassword_sets (ok : s.accepts q 0x006 0x108 3 = true) (unlocked : s.unlocked q (s.regFld 0x006 0x104 0 3) true = true) :
    ∃ u : State, exec (.setReadPassword q) s = .next (s.withPins (fun _ => u.drain)) ∧
      u.pan.pwds = if s.entered q = 0 then s.pan.pwds.del (pwKey (s.regFld 0x006 0x104 0 3) false)
        else s.pan.pwds.put (pwKey (s.regFld 0x006 0x104 0 3) false) (pwDigest (s.entered q)) :=
  ⟨_, passwordWrite_runs (op := 3) rfl ok, State.setPassword_unlocked unlocked⟩

theorem setWritePassword_sets (ok : s.accepts q 0x006 0x108 4 = true) (unlocked : s.unlocked q (s.regFld 0x006 0x104 0 3) true = true) :
    ∃ u : State, exec (.setWritePassword q) s = .next (s.withPins (fun _ => u.drain)) ∧
      u.pan.pwds = if s.entered q = 0 then s.pan.pwds.del (pwKey (s.regFld 0x006 0x104 0 3) true)
        else s.pan.pwds.put (pwKey (s.regFld 0x006 0x104 0 3) true) (pwDigest (s.entered q)) :=
  ⟨_, passwordWrite_runs (op := 4) rfl ok, State.setPassword_unlocked unlocked⟩

theorem lockUnlocks_locks (ok : s.accepts q 0x006 0x108 5 = true) :
    ∃ u : State, exec (.lockUnlocks q) s = .next (s.withPins (fun _ => u.drain)) ∧ ∀ e ∈ u.pan.unlocks, e.2 ≠ q :=
  ⟨_, passwordWrite_runs (op := 5) rfl ok, fun _ unlock => bne_iff_ne.mp (List.mem_filter.mp unlock).2⟩

/-! ### The parts (R532 to R534) -/

theorem opsecWriteExpiry_writes (here : s.pantryDown = false) :
    ∃ t, exec .opsecWriteExpiry s = .next t ∧ t.pan.rings.get 0 1 = min (2 ^ 40 - 1) s.opSec := by
  refine ⟨s.setRing 1 s.opSec, rfl, ?_⟩
  unfold State.setRing
  rw [if_neg (by rw [here]; decide)]
  extract_lets m old src written
  have ring : written.pan.rings.get 0 1 = min m s.opSec := Tab.get_set_same _ _ _ _
  clear_value written
  split
  · rw [State.raise_pan]; exact ring
  · exact ring

theorem State.writePart_pa (here : s.pan.paFailed = false) (key : Nat) (v : Nat × BitVec 64) :
    (s.writePart false 0 key v).pan = { s.pan with paErr := min 65535 s.pan.paErr, pa := s.pan.pa.put key v } := by
  unfold State.writePart
  rw [if_neg (by rw [here]; exact Bool.false_ne_true)]
  rfl

theorem State.writePart_pb (here : s.pan.pbFailed = false) (key : Nat) (v : Nat × BitVec 64) :
    (s.writePart true 0 key v).pan = { s.pan with pbErr := min 65535 s.pan.pbErr, pb := s.pan.pb.put key v } := by
  unfold State.writePart
  rw [if_neg (by rw [here]; exact Bool.false_ne_true)]
  rfl

theorem State.pantryWrite_pan (pa : s.pan.paFailed = false) (pb : s.pan.pbFailed = false) (key : Nat) (v : BitVec 64) :
    (s.pantryWrite key v 0 0).pan.seq = s.pan.seq + 1 ∧ (s.pantryWrite key v 0 0).pan.pa = s.pan.pa.put key (s.pan.seq, v) ∧
      (s.pantryWrite key v 0 0).pan.pb = s.pan.pb.put key (s.pan.seq, v) := by
  have first := State.writePart_pa (s := { s with pan := { s.pan with seq := s.pan.seq + 1 } }) pa key (s.pan.seq, v)
  have second := State.writePart_pb (s := State.writePart { s with pan := { s.pan with seq := s.pan.seq + 1 } } false 0 key (s.pan.seq, v))
    ((congrArg Pantry.pbFailed first).trans pb) key (s.pan.seq, v)
  have both : (s.pantryWrite key v 0 0).pan = _ := second
  rw [both, first]
  exact ⟨rfl, rfl, rfl⟩

theorem pantryWrite_reaches (key : BitVec 32) (v : BitVec 64) (pa : s.pan.paFailed = false) (pb : s.pan.pbFailed = false) :
    ∃ t, exec (.pantryWrite key v []) s = .next t ∧ t.pan.seq = s.pan.seq + 1 ∧
      t.pan.pa.find key.toNat = some (s.pan.seq, v) ∧ t.pan.pb.find key.toNat = some (s.pan.seq, v) := by
  have told : (s.withPins (fun s => s.pantryWrite key.toNat v 0 0)).pan = (s.pantryWrite key.toNat v 0 0).pan :=
    (Noticed.withPins (s := s) (f := fun s => s.pantryWrite key.toNat v 0 0)).pan
  obtain ⟨seq, inPa, inPb⟩ := State.pantryWrite_pan pa pb key.toNat v
  refine ⟨_, rfl, (congrArg Pantry.seq told).trans seq, ?_, ?_⟩
  · exact (congrArg (fun p : Pantry => p.pa.find key.toNat) told).trans (inPa ▸ Tab.find_put_same _ _ _)
  · exact (congrArg (fun p : Pantry => p.pb.find key.toNat) told).trans (inPb ▸ Tab.find_put_same _ _ _)

/-! ### Recall (R537) -/

theorem State.takeCounters_recalling (s : State) : s.takeCounters.pan.recalling = s.pan.recalling := by
  unfold State.takeCounters
  extract_lets op from_ counted src timed
  have ring : counted.pan.recalling = s.pan.recalling := (State.setRing_spares (Spares.refl .recalled s)).recalling
  have time : timed.pan = counted.pan := by
    dsimp only [timed]
    split <;> rfl
  rw [time]
  exact ring

theorem State.restoreFlush_pan (s : State) : s.restoreFlush.pan = s.pan := by
  unfold State.restoreFlush
  dsimp only
  repeat' split
  all_goals rfl

theorem Spares.when_ {k : Spared} {z : State} {c : Bool} {f : State → State} (step : ∀ t, Spares k z t → Spares k z (f t)) (h : Spares k z s) :
    Spares k z (s.when_ c f) := by
  unfold State.when_
  split
  · exact step s h
  · exact h

/-- The recall has ended, whatever follows it. -/
theorem State.recallDone_recalling (recalls : s.pan.recalling = true) (a b : Bool) : (s.recallDone a b).pan.recalling = false := by
  unfold State.recallDone
  rw [if_neg (by rw [recalls]; decide)]
  extract_lets src ended partA partB restored told
  have failed : Spares .recalled ended partB :=
    Spares.when_ (fun _ h => State.failPart_spares h) (Spares.when_ (fun _ h => State.failPart_spares h) (Spares.refl _ _))
  have counted : partB.takeCounters.pan.recalling = false := (State.takeCounters_recalling _).trans failed.recalling
  clear_value partB
  have started : Spares .recalled partB.takeCounters partB.takeCounters.copyLate.takeParams.takeKeys.startCores :=
    State.startCores_spares (State.takeKeys_spares (State.takeParams_spares (State.copyLate_spares (Spares.refl _ _))))
  have flush : restored.pan.recalling = false := by
    rw [State.restoreFlush_pan, started.recalling, counted]
  clear_value restored
  have last : Spares .recalled restored (told.each ((List.range 8).filter (fun c => (told.cage c).phase == 3)) State.startCage) :=
    State.each_spares (fun _ _ h => State.startCage_spares h) (State.raise_spares (Spares.refl _ _))
  rw [last.recalling, flush]

theorem recallDone_ends (recalls : s.pan.recalling = true) (a b : Bool) :
    ∃ t, exec (.recallDone a b) s = .next t ∧ t.pan.recalling = false :=
  ⟨_, rfl, by
    rw [(Noticed.withPins (s := s) (f := fun s => s.recallDone a b)).pan]
    exact State.recallDone_recalling recalls a b⟩

/-! ### The layout of a part (R531) -/

theorem partitions_follow (n : Nat) (a b : Partition) (first : partitions[n]? = some a) (next : partitions[n + 1]? = some b) :
    b.offset = a.offset + a.size ∧ b.offset < partSize := by
  have inside : n < 7 := by
    obtain ⟨inside, -⟩ := List.getElem?_eq_some_iff.mp next
    exact Nat.lt_of_succ_lt_succ inside
  have all : ∀ n : Fin 7, partitions[n.val + 1]?.all (fun b => partitions[n.val]?.all (fun a =>
      decide (b.offset = a.offset + a.size ∧ b.offset < partSize))) = true := by decide
  have here := all ⟨n, inside⟩
  rw [next, first] at here
  exact of_decide_eq_true here

theorem ringOffset_inside (ring slot : Nat) (h : ring < 60) : 0x1000 ≤ ringOffset ring slot ∧ ringOffset ring slot + 16 ≤ 0x10000 := by
  unfold ringOffset; omega

theorem eventSlot_inside (n : Nat) (h : n < 16384) : 0x040000 ≤ eventSlot n ∧ eventSlot n + 64 ≤ 0x140000 := by
  unfold eventSlot; omega

theorem counterSlot_length (v q : Nat) : (counterSlot v q).length = 16 := by
  simp only [counterSlot, List.length_append, bytesLE_length]

theorem partRecord_length (part q : Nat) (l : List Nat) : (partRecord part q l).length = 16 + l.length := by
  simp only [partRecord, List.length_append, bytesLE_length]

/-- Settles O26, clause by clause. -/
theorem passwordsAndPantry : Obligations.PasswordsAndPantry := by
  rintro s q part rfl
  exact ⟨unlockRead_unlocks, unlockWrite_unlocks, setReadPassword_sets, setWritePassword_sets, lockUnlocks_locks, rfl,
    opsecWriteExpiry_writes, pantryWrite_reaches, fun recalls => next_withPins (if_pos recalls), recallDone_ends, partitions_follow,
    ringOffset_inside, eventSlot_inside, counterSlot_length, partRecord_length _⟩

end Sys2Proof.Machine
end

section
/-! PROOFS. FLT takes the latched sources, the safe state and its flush, the reaction windows and the spill (R509 to R519, R522, R529): what
follows the entry to the safe state leaves it, and what records a source leaves the first-error capture. -/

namespace Sys2Proof.Machine

open Sys2Proof

variable {s : State} {x : Latched}

/-! ### The safe state past what else happens (R517, R518) -/

/-- Setting rails leaves the safe state. -/
theorem State.stepInWindow_safety {z : State} (k : Nat) (h : Spares .safety z s) : Spares .safety z (s.stepInWindow k) := by
  unfold State.stepInWindow
  exact State.each_spares (fun _ _ h => h) h

theorem State.deepIdleWake_safety {z : State} (h : Spares .safety z s) : Spares .safety z s.deepIdleWake := by
  unfold State.deepIdleWake
  refine Spares.ite h ?_
  extract_lets src woken railed ported widened freed
  have rails : Spares .safety z railed :=
    each_preserves (P := fun t => Spares .safety z t) (fun _ k h => State.stepInWindow_safety k h) [6, 7, 8] h
  have ports : Spares .safety z ported := State.each_spares (fun _ _ h => State.leaveTrickle_spares h) rails
  have heads : Spares .safety z widened := by
    refine State.each_spares (fun t n h => ?_) ports
    dsimp only
    split
    · exact State.setHead_spares h
    · exact h
  have held : Spares .safety z freed := State.each_spares (fun _ _ h => State.freeHeld_spares h) heads
  exact State.finishOp_spares (State.freeSleepq_spares held)

theorem State.startFlush_safety {z : State} (kind : Nat) (h : Spares .safety z s) : Spares .safety z (s.startFlush kind) := by
  have flushed := State.flushSlices_spares (s := { s with pwr := { s.pwr with flush := kind } }) (show Spares .safety z _ from h)
  unfold State.startFlush
  exact State.closeGather_spares (State.pump_spares (State.handAll_spares flushed))

theorem State.startSafeFlush_safety {z : State} (h : Spares .safety z s) : Spares .safety z s.startSafeFlush := by
  unfold State.startSafeFlush
  exact Spares.ite h (State.startFlush_safety 5 (State.deepIdleWake_safety h))

/-- The entry from outside the safe state. -/
theorem State.enterSafe_enters (out : s.flt.safe = 0) (cause : Nat) :
    (s.enterSafe cause).flt.safe = 2 ∧ (s.enterSafe cause).flt.cause = BitVec.ofNat 3 cause ∧ (s.enterSafe cause).sve.lease = false := by
  have e : s.enterSafe cause = _ := if_neg (by rw [out]; decide)
  rw [e]
  have kept := State.raise_spares (x1 := 0x004) (x2 := .fltSafeState) (Spares.refl .safety { s with
    flt := { s.flt with safe := 2, cause := BitVec.ofNat 3 cause, reads := bitAt (s.reg 0x004 0x108) 0 && cause != 2 },
    sve := { s.sve with lease := false } })
  exact ⟨kept.safe, kept.cause, kept.lease⟩

theorem State.safe_iff : s.safe = false ↔ s.flt.safe = 0 := by
  rw [State.safe, bne_eq_false_iff_eq]

theorem safeState_enters (c : BitVec 3) (out : s.safe = false) :
    ∃ t, exec (.safeState c) s = .next t ∧ t.flt.safe = 2 ∧ t.flt.cause = c ∧ t.sve.lease = false := by
  obtain ⟨safe, cause, lease⟩ := State.enterSafe_enters (State.safe_iff.mp out) c.toNat
  have entry : s.safeEntry c.toNat = ((s.enterSafe c.toNat).endBarriersAll s.headList).startSafeFlush := by
    rw [State.safeEntry, State.enterSafeState, out]; rfl
  have entered : Spares .safety (s.enterSafe c.toNat) (s.safeEntry c.toNat) := by
    rw [entry]
    exact State.startSafeFlush_safety (State.endBarriersAll_spares (Spares.refl _ _))
  have kept : Spares .safety (s.enterSafe c.toNat) (s.withPins (fun s => s.safeEntry c.toNat)) := State.pinIbis_spares entered
  exact ⟨_, rfl, kept.safe.trans safe, by rw [kept.cause, cause]; simp, kept.lease.trans lease⟩

/-! ### The latched sources (R509 to R511) -/

/-- The sources that FLT takes are queued no longer. -/
def State.unqueued (s : State) : State := { s with flt := { s.flt with queue := [] } }

/-- What FLT makes of the sources, before the safe state has its reaction. -/
def State.taken (s : State) : State := s.unqueued.each (sortLatched s.flt.queue) (fun s x => (s.noticeHeads x).takeLatched x)

theorem State.takeAll_taken (s : State) : s.takeAll =
    if s.taken.safe && !s.safe then s.taken.endBarriersAll s.taken.headList else s.taken := rfl

/-- Where no source was forced, the safe state alone has a reaction. -/
theorem State.takeSources_real (real : (s.flt.queue.filter (fun (l : Latched) => l.forced && !l.conseq)) = []) :
    s.takeSources = if s.takeAll.safe && !s.safe then s.takeAll.startSafeFlush else s.takeAll := by
  have idle : (if s.takeAll.crs.testMode then s.takeAll.each [] State.forcedReaction else s.takeAll) = s.takeAll := ite_self _
  unfold State.takeSources
  rw [real, List.map_nil]
  dsimp only
  rw [idle]

/-- Where the sources taken bring no safe state, nothing follows. -/
theorem State.takeSources_quiet (real : (s.flt.queue.filter (fun (l : Latched) => l.forced && !l.conseq)) = [])
    (quiet : (s.taken.safe && !s.safe) = false) : s.takeSources = s.taken := by
  have all : s.takeAll = s.taken := by rw [State.takeAll_taken, quiet]; rfl
  rw [State.takeSources_real real, all, quiet]
  rfl

theorem State.takeSources_none (empty : s.flt.queue = []) : s.takeSources = s := by
  have taken : s.taken = s := by
    unfold State.taken State.unqueued
    rw [empty]
    show ({ s with flt := { s.flt with queue := [] } } : State) = s
    rw [← empty]
  rw [State.takeSources_quiet (by rw [empty]; rfl) (by rw [taken, Bool.and_not_self]), taken]

theorem State.taken_one (one : s.flt.queue = [x]) : s.taken = (s.unqueued.noticeHeads x).takeLatched x := by
  rw [State.taken, one]; rfl

theorem State.noticed_recorded_safety {z : State} (h : Spares .safety z s) : Spares .safety z ((s.noticeHeads x).recordEvent x) :=
  State.recordEvent_spares (State.noticeHeads_spares h)

/-- A fatal source brings the safe state. -/
theorem State.takeLatched_fatal (real : x.forced = false) (fatal : (classify x.src).1 = 3)
    (other : x.src ≠ srcId 0x003 6) (out : s.flt.safe = 0) :
    (s.takeLatched x).flt.safe = 2 ∧ (s.takeLatched x).flt.cause = BitVec.ofNat 3 (safeCause x.src) := by
  unfold State.takeLatched
  extract_lets cls s1 s2 captured recorded src marked
  have kept : Spares .safety s recorded := by
    refine State.recordEvent_spares ?_
    dsimp only [captured]
    split
    · exact State.countUp_spares (Spares.refl _ _)
    · split
      · exact State.setReg_spares (State.setReg_spares (State.setReg_spares (Spares.refl _ _)))
      · exact Spares.refl _ _
  have stillOut : recorded.flt.safe = 0 := kept.safe.trans out
  clear_value recorded
  have markedOut : marked.flt.safe = 0 := by
    dsimp only [marked]
    split
    · exact stillOut
    · exact stillOut
  clear_value marked
  have reacts : (decide (cls = 3) && (!x.forced || recorded.crs.testMode) && x.src != srcId 0x003 6) = true := by
    rw [decide_eq_true fatal, real, bne_iff_ne.mpr other]; rfl
  rw [if_pos reacts]
  obtain ⟨safe, cause, -⟩ := State.enterSafe_enters markedOut (safeCause x.src)
  exact ⟨safe, cause⟩

theorem State.startSafeFlush_barriers_safety (t : State) (c d : Prop) [Decidable c] [Decidable d] :
    Spares .safety t (if d then (if c then t.endBarriersAll t.headList else t).startSafeFlush
      else if c then t.endBarriersAll t.headList else t) := by
  have ended : Spares .safety t (if c then t.endBarriersAll t.headList else t) :=
    Spares.ite (State.endBarriersAll_spares (Spares.refl _ _)) (Spares.refl _ _)
  exact Spares.ite (State.startSafeFlush_safety ended) ended

theorem unforced_one (one : s.flt.queue = [x]) (real : x.forced = false) :
    (s.flt.queue.filter (fun (l : Latched) => l.forced && !l.conseq)) = [] := by
  rw [one, List.filter_cons, if_neg (by simp [real])]; rfl

theorem eventSourceLatch_fatal (one : s.flt.queue = [x]) (_ : x.conseq = false) (real : x.forced = false)
    (fatal : (classify x.src).1 = 3) (other : x.src ≠ srcId 0x003 6) (out : s.safe = false) :
    ∃ u : State, exec .eventSourceLatch s = .next (s.withPins (fun _ => u.drain)) ∧ u.flt.safe = 2 ∧
      u.flt.cause = BitVec.ofNat 3 (safeCause x.src) := by
  have noticed : Spares .safety s.unqueued (s.unqueued.noticeHeads x) := State.noticeHeads_spares (Spares.refl _ _)
  obtain ⟨safe, cause⟩ := State.takeLatched_fatal real fatal other (noticed.safe.trans (State.safe_iff.mp out))
  rw [← State.taken_one one] at safe cause
  have kept : Spares .safety s.taken s.takeSources := by
    rw [State.takeSources_real (unforced_one one real), State.takeAll_taken]
    exact State.startSafeFlush_barriers_safety s.taken _ _
  exact ⟨_, next_withPins rfl, kept.safe.trans safe, kept.cause.trans cause⟩

/-! ### The first-error capture (R511) -/

section
variable {page off : Nat} (block : 0x100 ≤ off) (inPage : off < 0x1000)
include block inPage

theorem State.noticeHeads_reg (below : page < 0x1c0) : (s.noticeHeads x).reg page off = s.reg page off :=
  State.each_reg s _ _ fun t h => t.postRec_reg below block inPage h _ _

theorem State.setRing_reg (n v : Nat) : (s.setRing n v).reg page off = s.reg page off := by
  unfold State.setRing
  split
  · rfl
  · dsimp only
    split
    · rw [State.raise_reg _ block inPage]; rfl
    · rfl

theorem State.logRecord_reg (r : Record) : (s.logRecord r).reg page off = s.reg page off := by
  unfold State.logRecord
  split
  · rfl
  · dsimp only
    split
    · exact State.setRing_reg block inPage _ _
    · rw [State.raise_reg _ block inPage]
      exact State.setRing_reg block inPage _ _

omit block inPage in
theorem State.programSpill_reg : s.programSpill.reg page off = s.reg page off := by
  unfold State.programSpill
  split <;> rfl

theorem State.writeRecord_reg (r : Record) : (s.writeRecord r).reg page off = s.reg page off := by
  unfold State.writeRecord
  extract_lets src shadowed
  have kept : shadowed.reg page off = s.reg page off := by
    dsimp only [shadowed]
    split <;> rfl
  clear_value shadowed
  split
  · exact kept
  · split
    · split
      · exact (State.programSpill_reg).trans kept
      · exact kept
    · exact (State.logRecord_reg block inPage r).trans kept

theorem State.nextSeq_reg : s.nextSeq.2.reg page off = s.reg page off := by
  unfold State.nextSeq
  dsimp only
  split
  · rfl
  · exact State.setRing_reg (s := { s with flt := { s.flt with seqCeil := _ } }) block inPage _ _

theorem State.recordEvent_reg : (s.recordEvent x).reg page off = s.reg page off := by
  have recorded : (s.recordLatched x).reg page off = s.reg page off := by
    unfold State.recordLatched
    rcases classify x.src with ⟨cls, sev⟩
    dsimp only
    split
    · rfl
    · refine Eq.trans (each_same (fun t => t.reg page off) fun t l =>
        (State.writeRecord_reg block inPage _).trans (State.nextSeq_reg block inPage)) ?_
      split <;> rfl
  exact recorded

end

theorem State.reg_setReg_apart (t : State) {page off off' : Nat} (w : Word) (here : off < 0x1000) (there : off' < 0x1000) (apart : off ≠ off') :
    (t.setReg page off' w).reg page off = t.reg page off :=
  State.reg_setReg_other t w fun same => apart ((regAddr_inj here there).mp same).2

/-- The first uncorrected source is captured, and brings no safe state. -/
theorem State.takeLatched_uncorrected (direct : x.conseq = false) (uncorrected : (classify x.src).1 = 2)
    (free : bitAt (s.reg 0x004 0x10c) 31 = false) :
    (s.takeLatched x).reg 0x004 0x10c = BitVec.ofNat 32 (2 ^ 31 + 2 * 2 ^ 18 + x.src.toNat) ∧ (s.takeLatched x).safe = s.safe := by
  unfold State.takeLatched
  rw [direct, uncorrected, free]
  extract_lets cls s1 s2 captured recorded src marked
  have word : captured.reg 0x004 0x10c = BitVec.ofNat 32 (2 ^ 31 + 2 * 2 ^ 18 + x.src.toNat) :=
    ((State.reg_setReg_apart _ _ (by decide) (by decide) (by decide)).trans
      (State.reg_setReg_apart _ _ (by decide) (by decide) (by decide))).trans (State.reg_setReg _ _ _ _)
  have safe : recorded.safe = s.safe := congrArg (· != 0) (State.recordEvent_spares (Spares.refl .safety captured)).safe
  exact ⟨(State.recordEvent_reg (by decide) (by decide)).trans word, safe⟩

theorem eventSourceLatch_uncorrected (one : s.flt.queue = [x]) (direct : x.conseq = false) (real : x.forced = false)
    (uncorrected : (classify x.src).1 = 2) (free : bitAt (s.reg 0x004 0x10c) 31 = false) :
    ∃ u : State, exec .eventSourceLatch s = .next (s.withPins (fun _ => u.drain)) ∧
      u.reg 0x004 0x10c = BitVec.ofNat 32 (2 ^ 31 + 2 * 2 ^ 18 + x.src.toNat) := by
  have noticed : (s.unqueued.noticeHeads x).reg 0x004 0x10c = s.reg 0x004 0x10c :=
    State.noticeHeads_reg (s := s.unqueued) (by decide) (by decide) (by decide)
  have outside : (s.unqueued.noticeHeads x).safe = s.safe :=
    congrArg (· != 0) (State.noticeHeads_spares (Spares.refl .safety s.unqueued)).safe
  obtain ⟨word, safe⟩ := State.takeLatched_uncorrected direct uncorrected (noticed ▸ free)
  rw [← State.taken_one one] at word safe
  have quiet : s.takeSources = s.taken :=
    State.takeSources_quiet (unforced_one one real) (by rw [safe, outside, Bool.and_not_self])
  exact ⟨_, next_withPins rfl, quiet ▸ word⟩

/-! ### Reaction windows and the spill (R513, R515, R518, R529) -/

theorem mem_insertNew_of_mem {α : Type} [DecidableEq α] {l : List α} {x y : α} (h : x ∈ l) : x ∈ insertNew l y := by
  unfold insertNew
  split
  · exact h
  · exact List.mem_append_left _ h

theorem mem_insertAll {l acc : List Nat} {n : Nat} (h : n ∈ l) : n ∈ l.foldl insertNew acc := by
  have kept (l : List Nat) (acc : List Nat) (h : n ∈ acc) : n ∈ l.foldl insertNew acc := by
    induction l generalizing acc with
    | nil => exact h
    | cons m l ih => exact ih _ (mem_insertNew_of_mem h)
  induction l generalizing acc with
  | nil => nomatch h
  | cons m l ih =>
    rcases List.mem_cons.mp h with rfl | later
    · exact kept l _ (mem_insertNew _ _)
    · exact ih later

theorem fenceReactionEnd_ends (dom : BitVec 4) (inst : BitVec 20)
    (reacts : s.flt.windows.any (fun (w : Window) => w.dom.toNat = dom.toNat && w.inst.toNat = inst.toNat && !w.ended) = true) :
    ∃ t, exec (.fenceReactionEnd dom inst) s = .next t ∧ (∀ w ∈ t.flt.windows, w.dom = dom → w.inst = inst → w.ended = true) ∧
      (s.isFenced dom.toNat inst.toNat = true → ∀ pg ∈ domainPages dom.toNat inst.toNat, pg ∈ t.pages.fenced) := by
  refine ⟨_, congrArg Host.Outcome.next (if_pos reacts), ?_⟩
  dsimp only
  have ended : ∀ w ∈ s.flt.windows.map (fun (w : Window) =>
      if w.dom.toNat = dom.toNat && w.inst.toNat = inst.toNat then { w with ended := true } else w),
      w.dom = dom → w.inst = inst → w.ended = true := by
    intro w mem hdom hinst
    obtain ⟨v, -, rfl⟩ := List.mem_map.mp mem
    by_cases own : (decide (v.dom.toNat = dom.toNat) && decide (v.inst.toNat = inst.toNat)) = true
    · rw [if_pos own]
    · rw [if_neg own] at hdom hinst
      exact absurd (by rw [hdom, hinst]; simp) own
  split
  next => exact ⟨ended, fun _ pg own => mem_insertAll own⟩
  next open_ => exact ⟨ended, fun fenced => absurd fenced open_⟩

theorem consequentialWindowExpiry_closes (dom : BitVec 4) (inst : BitVec 20) :
    ∃ t, exec (.consequentialWindowExpiry dom inst) s = .next t ∧ ∀ w ∈ t.flt.windows, w.dom = dom → w.inst = inst → w.ended = false := by
  refine ⟨_, rfl, fun w mem hdom hinst => ?_⟩
  have kept := (List.mem_filter.mp mem).2
  subst hdom hinst
  simpa using kept

theorem State.safeHold_safe (s : State) : s.safeHold.flt.safe = 3 := rfl

theorem safeFlushEnd_holds (entered : s.flt.safe = 2) (runs : s.flt.hung = false) (done : s.flushed = true) :
    ∃ t, exec .safeFlushEnd s = .next t ∧ t.flt.safe = 3 := by
  have e : s.safeFlushEnd = s.flushTail.safeHold := (if_neg (by rw [entered, runs]; decide)).trans (if_pos done)
  have kept : Spares .safety s.safeFlushEnd (s.withPins State.safeFlushEnd) := State.pinIbis_spares (Spares.refl _ _)
  exact ⟨_, rfl, kept.safe.trans (congrArg (fun t : State => t.flt.safe) e)⟩

theorem safeFlushTimeout_holds (entered : s.flt.safe = 2) : ∃ t, exec .safeFlushTimeout s = .next t ∧ t.flt.safe = 3 := by
  have e : s.safeFlushTimeout = s.safeHold := if_pos entered
  have kept : Spares .safety s.safeFlushTimeout (s.withPins State.safeFlushTimeout) := State.pinIbis_spares (Spares.refl _ _)
  exact ⟨_, rfl, kept.safe.trans (congrArg (fun t : State => t.flt.safe) e)⟩

theorem spillPageExpiry_programs (some_ : s.flt.spillBuf ≠ []) : ∃ t, exec .spillPageExpiry s = .next t ∧ t.flt.spillBuf = [] ∧
    t.flt.spillNext = (s.flt.spillNext + 1) % 16384 := by
  have e : s.programSpill = _ := if_neg (by rw [List.isEmpty_iff]; exact some_)
  exact ⟨_, congrArg Host.Outcome.next e, rfl, rfl⟩

/-- Settles O51, clause by clause. -/
theorem eventsAndSafeState : Obligations.EventsAndSafeState := fun _ _ =>
  ⟨fun empty => next_withPins (congrArg State.drain (State.takeSources_none empty)), eventSourceLatch_fatal, eventSourceLatch_uncorrected,
    fenceReactionEnd_ends, consequentialWindowExpiry_closes, fun _ => rfl, safeState_enters,
    fun entered => ⟨safeFlushEnd_holds entered, safeFlushTimeout_holds entered⟩, spillPageExpiry_programs⟩

end Sys2Proof.Machine
end

section
/-! PROOFS. Link keys and key slots (R443, R445 to R448, R453 to R457): the messages of an exchange and what each makes of the port's keys, the ways
in which an exchange fails, the pull of missing keys, and the reload of a key slot with its fences. -/

namespace Sys2Proof.Machine

open Sys2Proof

namespace State

variable {s : State} {n : Nat}

/-! ### The keys of a port, past the messages it sends -/

theorem linkOut_keys (s : State) (p : Nat) (m : LinkMsg) (n : Nat) : ((s.linkOut p m).port n).keys = (s.port n).keys :=
  Port.read_of (s.linkOut_settled n p m) Port.keys fun _ => rfl

theorem sendProof_keys (s : State) (n : Nat) : ((s.sendProof n).port n).keys = (s.port n).keys := by
  unfold State.sendProof
  extract_lets k
  split
  exacts [linkOut_keys .., rfl]

theorem sendOffer_offers (s : State) (n : Nat) : ((s.sendOffer n).port n).keys.offered = true := by
  unfold State.sendOffer
  extract_lets a b nonce t x k
  rw [linkOut_keys, port_setPort]

/-! ### The messages of an exchange (R455 to R457) -/

/-- The port goes Down with the cause 7 and waits to try again. -/
def keyingFailed (s : State) (n : Nat) : Prop := (s.port n).st = 1 ∧ (s.port n).wait = true ∧ (s.port n).cause = 7

theorem linkAuthFail_fails (s : State) (n : Nat) : (s.linkAuthFail n).keyingFailed n := by
  have down := (s.raiseAt 0x008 .crsLinkAuth { dom := 2, inst := n, kind := 7, items := [n] }).portDown_settled n 7 true
  exact ⟨Port.read_of down Port.st fun _ => rfl, Port.read_of down Port.wait fun _ => rfl, Port.read_of down Port.cause fun _ => rfl⟩

/-- An offer that a port has not answered yet is answered with its own. -/
theorem kxOffer_joins (keying : (s.port n).keying = true) (first : (s.port n).keys.offered = false) (key : BitVec 512) (nonce : BitVec 256) :
    let k := ((s.kxOffer n key nonce).port n).keys; k.gotOffer = true ∧ k.offered = true ∧ k.nonceRx = nonce ∧ k.ephRx = key := by
  unfold State.kxOffer
  extract_lets x t y u v k
  have offers : t = s.sendOffer n := if_neg (by simp [x, first])
  have offered : u.offered = true := by simpa only [u, y, offers] using sendOffer_offers s n
  have keys : k = { u with gotOffer := true, nonceRx := nonce, ephRx := key } := by
    simp only [k]
    rw [if_neg (by simp [x, keying]), if_neg (by simp [x, first]), sendProof_keys, port_setPort]
  rw [keys]
  exact ⟨rfl, offered, rfl, rfl⟩

theorem kxCert_accepts (training : (s.port n).st = 2) (phase : (s.port n).phase = 5) {c : CertChain}
    (good : chainOk c (s.port n).partnerSerial = true) :
    ((s.kxCert n c).port n).keys = { (s.port n).keys with certOk := true, peerKey := c.leafKey } := by
  unfold State.kxCert
  dsimp only
  rw [if_neg (by simp [training, phase]), if_pos good, sendProof_keys, port_setPort]

theorem kxCert_fails (training : (s.port n).st = 2) (phase : (s.port n).phase = 5) {c : CertChain}
    (bad : chainOk c (s.port n).partnerSerial = false) : s.kxCert n c = s.linkAuthFail n :=
  (if_neg (by simp [training, phase])).trans (if_neg (by simp [bad]))

section
variable (keying : (s.port n).keying = true) (offered : (s.port n).keys.offered = true) (got : (s.port n).keys.gotOffer = true)
include keying offered got

theorem kxProof_accepts : ((s.kxProof n true).port n).keys = { (s.port n).keys with proofOk := true, doneTx := true } := by
  unfold State.kxProof
  dsimp only
  rw [if_neg (by simp [keying, offered, got]), if_neg (by decide), linkOut_keys, port_setPort]

theorem kxProof_fails : s.kxProof n false = s.linkAuthFail n := (if_neg (by simp [keying, offered, got])).trans (if_pos rfl)

end

/-- The keys come in once both sides are done. -/
theorem keysIn_valid (sent : (s.port n).keys.doneTx = true) (received : (s.port n).keys.doneRx = true) :
    ((s.keysIn n).port n).keys.valid = true := by
  unfold State.keysIn
  dsimp only
  rw [if_neg (by simp [sent, received])]
  split
  · rw [port_setPort]
    rfl
  · rw [State.sendHello, linkOut_keys, port_setPort]
    rfl

theorem keysIn_waits (unsent : (s.port n).keys.doneTx = false) : s.keysIn n = s := if_pos (by simp [unsent])

theorem kxDone_taken (keying : (s.port n).keying = true) (proof : (s.port n).keys.proofOk = true) : s.kxDone n =
    (s.setPort n { s.port n with keys := { (s.port n).keys with doneRx := true } }).keysIn n := if_neg (by simp [keying, proof])

theorem kxDone_valid (keying : (s.port n).keying = true) (proof : (s.port n).keys.proofOk = true) (sent : (s.port n).keys.doneTx = true) :
    ((s.kxDone n).port n).keys.valid = true := by
  rw [kxDone_taken keying proof]
  exact keysIn_valid (by rw [port_setPort]; exact sent) (by rw [port_setPort])

theorem kxDone_noted (keying : (s.port n).keying = true) (proof : (s.port n).keys.proofOk = true) (unsent : (s.port n).keys.doneTx = false) :
    ((s.kxDone n).port n).keys.doneRx = true := by
  rw [kxDone_taken keying proof, keysIn_waits (by rw [port_setPort]; exact unsent), port_setPort]

theorem rekey_offers (open_ : (s.port n).st = 3 ∨ (s.port n).st = 5) (valid : (s.port n).keys.valid = true)
    (first : (s.port n).keys.offered = false) : s.rekey n = s.sendOffer n :=
  if_pos (by rcases open_ with up | trickle <;> simp [*])

/-! ### A message that arrives (R341) -/

/-- What is read of the port, but for what it owes, is as before the message. -/
theorem owing_reads {α : Type} (f : Port → α) (h : ∀ x o, f { x with owed := o } = f x) (m : LinkMsg) :
    f ((s.setPort n (s.owing n m)).port n) = f (s.port n) := by
  rw [port_setPort]
  exact h _ _

theorem owing_keying (m : LinkMsg) : ((s.setPort n (s.owing n m)).port n).keying = (s.port n).keying := owing_reads Port.keying (fun _ _ => rfl) m
theorem owing_keys (m : LinkMsg) : ((s.setPort n (s.owing n m)).port n).keys = (s.port n).keys := owing_reads Port.keys (fun _ _ => rfl) m
theorem owing_st (m : LinkMsg) : ((s.setPort n (s.owing n m)).port n).st = (s.port n).st := owing_reads Port.st (fun _ _ => rfl) m
theorem owing_phase (m : LinkMsg) : ((s.setPort n (s.owing n m)).port n).phase = (s.port n).phase := owing_reads Port.phase (fun _ _ => rfl) m
theorem owing_partnerSerial (m : LinkMsg) : ((s.setPort n (s.owing n m)).port n).partnerSerial = (s.port n).partnerSerial :=
  owing_reads Port.partnerSerial (fun _ _ => rfl) m

/-! ### Key slots (R448) -/

theorem isFenced_unfence_same (s : State) (dom inst : Nat) : (s.unfence dom inst).isFenced dom inst = false := by
  simp +contextual [State.isFenced, State.unfence, List.any_filter, or_iff_not_imp_left]

/-- A fence holds its own domain alone. -/
theorem isFenced_fence_other (s : State) {dom dom' : Nat} (code : dom < 16) (other : dom' ≠ dom) (inst inst' : Nat) :
    (s.fence dom inst).isFenced dom' inst' = s.isFenced dom' inst' := by
  unfold State.fence
  dsimp only
  split
  · rfl
  · have reduced : dom % 16 ≠ dom' := by omega
    simp [State.isFenced, State.openWindow, reduced]

theorem slotParity_reloads {r : Nat} (set : (s.krange r).st = 1) (idle : (s.krange r).reload = false) (slot : r < 64) :
    ((s.slotParity r).krange r).reload = true ∧ (s.slotParity r).isFenced 10 r = true := by
  have parity : s.slotParity r =
      ((s.setKrange r { s.krange r with reload := true }).raiseAt 0x008 .crsKeySlot { dom := 10, inst := r }).fence 10 r :=
    if_neg (by simp [set, idle])
  rw [parity]
  refine ⟨?_, fence_holds _ (by decide) (by omega)⟩
  rw [krange_of_crs ((fence_crs _ _ _).trans (raiseAt_crs _ _ _ _)), krange_setKrange]

section
variable {r : Nat} (reload : (s.krange r).reload = true)
include reload

theorem slotFenced_fences (slot : r < 64) : (s.slotFenced r).krange r = { st := 3, gen := (s.krange r).gen } ∧
    (s.slotFenced r).isFenced 11 r = true ∧ (s.slotFenced r).isFenced 10 r = false := by
  have fenced : s.slotFenced r = (((s.setKrange r { st := 3, gen := (s.krange r).gen }).unfence 10 r).raiseAt 0x008 .crsKeyFenced
      { dom := 11, inst := r }).fence 11 r := if_neg (by simp [reload])
  rw [fenced]
  refine ⟨?_, fence_holds _ (by decide) (by omega), ?_⟩
  · rw [krange_of_crs ((fence_crs _ _ _).trans ((raiseAt_crs _ _ _ _).trans (unfence_crs _ _ _))), krange_setKrange]
  · rw [isFenced_fence_other _ (by decide) (by decide), isFenced_of_ward (raiseAt_ward _ _ _ _), isFenced_unfence_same]

theorem slotReloaded_takes {g : BitVec 16} {k : KeySet} (stored : s.pan.keys.find r = some (g, k)) :
    s.slotReloaded r = (s.setKrange r { s.krange r with reload := false, gen := g, keys := some k }).unfence 10 r := by
  unfold State.slotReloaded
  dsimp only
  rw [if_neg (by simp [reload]), stored]

end

theorem withPins_krange (s : State) (f : State → State) (r : Nat) : (s.withPins f).krange r = (f s).krange r :=
  krange_of_crs (Noticed.withPins (s := s) (f := f)).posted.crs r

theorem withPins_isFenced (s : State) (f : State → State) (dom inst : Nat) : (s.withPins f).isFenced dom inst = (f s).isFenced dom inst :=
  isFenced_of_ward (s.withPins_ward f) dom inst

/-! ### Missing keys (R445) -/

theorem keyWaitEnd_pulls (member : s.fxb.role ≠ 1) (confirmed : s.fxb.conf = true) (cust : s.fxb.cust ≠ 0)
    (missing : (List.range 64).any (fun n => (s.krange n).st == 0) = true) :
    s.keyWaitEnd = s.sendPlain s.fxb.cust 0 0 0 0 .krPull := by
  unfold State.keyWaitEnd
  extract_lets lacks t
  have pulls : t = s.sendPlain s.fxb.cust 0 0 0 0 .krPull := if_pos <| by
    simp only [lacks, missing, bne_iff_ne.mpr member, confirmed, bne_iff_ne.mpr cust]
    rfl
  have role : t.fxb.role = s.fxb.role := by rw [pulls, (Posted.sendPlain _ _ _ _ _ _).fxb]
  rw [if_pos (by rw [role]; exact bne_iff_ne.mpr member), pulls]

end State

/-! ### The commands -/

variable {s : State} {p : Fin 512}

section
variable (flits : (s.port p.val).flits = true)
include flits

theorem kxOffer_takes {key : BitVec 512} {nonce : BitVec 256} (keying : (s.port p.val).keying = true)
    (first : (s.port p.val).keys.offered = false) : ∃ t, exec (.kxOffer p key nonce) s = .next t ∧
      (t.port p.val).keys.gotOffer = true ∧ (t.port p.val).keys.offered = true ∧ (t.port p.val).keys.nonceRx = nonce ∧
      (t.port p.val).keys.ephRx = key := by
  refine ⟨_, rfl, ?_⟩
  rw [State.mgtIn_flits flits]
  exact State.kxOffer_joins (by rwa [State.owing_keying]) (by rwa [State.owing_keys]) key nonce

theorem kxCert_judges {c : CertChain} (training : (s.port p.val).st = 2) (phase : (s.port p.val).phase = 5) :
    (chainOk c (s.port p.val).partnerSerial = true → ∃ t, exec (.kxCert p c) s = .next t ∧
      (t.port p.val).keys.certOk = true ∧ (t.port p.val).keys.peerKey = c.leafKey) ∧
    (chainOk c (s.port p.val).partnerSerial = false → ∃ t, exec (.kxCert p c) s = .next t ∧ t.keyingFailed p.val) := by
  have training' := (State.owing_st .kxCert).trans training
  have phase' := (State.owing_phase .kxCert).trans phase
  refine ⟨fun good => ⟨_, rfl, ?_⟩, fun bad => ⟨_, rfl, ?_⟩⟩
  · rw [State.withPins_port, State.mgtIn_flits flits, State.kxCert_accepts training' phase' (by rwa [State.owing_partnerSerial])]
    exact ⟨rfl, rfl⟩
  · rw [State.keyingFailed, State.withPins_port, State.mgtIn_flits flits,
      State.kxCert_fails training' phase' (by rwa [State.owing_partnerSerial])]
    exact State.linkAuthFail_fails _ _

theorem kxProof_judges (keying : (s.port p.val).keying = true) (offered : (s.port p.val).keys.offered = true)
    (got : (s.port p.val).keys.gotOffer = true) :
    (∃ t, exec (.kxProof p true) s = .next t ∧ (t.port p.val).keys.proofOk = true ∧ (t.port p.val).keys.doneTx = true) ∧
    (∃ t, exec (.kxProof p false) s = .next t ∧ t.keyingFailed p.val) := by
  have keying' := (State.owing_keying .kxProof).trans keying
  have offered' : ((s.setPort p.val (s.owing p.val .kxProof)).port p.val).keys.offered = true := by rwa [State.owing_keys]
  have got' : ((s.setPort p.val (s.owing p.val .kxProof)).port p.val).keys.gotOffer = true := by rwa [State.owing_keys]
  refine ⟨⟨_, rfl, ?_⟩, ⟨_, rfl, ?_⟩⟩
  · rw [State.withPins_port, State.mgtIn_flits flits, State.kxProof_accepts keying' offered' got']
    exact ⟨rfl, rfl⟩
  · rw [State.keyingFailed, State.withPins_port, State.mgtIn_flits flits, State.kxProof_fails keying' offered' got']
    exact State.linkAuthFail_fails _ _

theorem kxDone_ends (keying : (s.port p.val).keying = true) (proof : (s.port p.val).keys.proofOk = true) :
    ((s.port p.val).keys.doneTx = true → ∃ t, exec (.kxDone p) s = .next t ∧ (t.port p.val).keys.valid = true) ∧
    ((s.port p.val).keys.doneTx = false → ∃ t, exec (.kxDone p) s = .next t ∧ (t.port p.val).keys.doneRx = true) := by
  have keying' := (State.owing_keying .kxDone).trans keying
  have proof' : ((s.setPort p.val (s.owing p.val .kxDone)).port p.val).keys.proofOk = true := by rwa [State.owing_keys]
  refine ⟨fun sent => ⟨_, rfl, ?_⟩, fun unsent => ⟨_, rfl, ?_⟩⟩
  · rw [State.withPins_port, State.mgtIn_flits flits]
    exact State.kxDone_valid keying' proof' (by rwa [State.owing_keys])
  · rw [State.withPins_port, State.mgtIn_flits flits]
    exact State.kxDone_noted keying' proof' (by rwa [State.owing_keys])

end

theorem linkAuth_fails (keying : (s.port p.val).keying = true) : ∃ t, exec (.linkAuth p) s = .next t ∧ t.keyingFailed p.val := by
  refine ⟨_, rfl, ?_⟩
  rw [State.keyingFailed, State.withPins_port, if_pos keying]
  exact State.linkAuthFail_fails _ _

/-- Settles O36: each message of an exchange by the keys it leaves at the port, past the messages that the port sends; the slot commands by
the key range they write and the fence they set or lift. -/
theorem linkKeying : Obligations.LinkKeying := by
  unfold Obligations.LinkKeying
  refine ⟨fun s p => ?_, fun s r => ?_⟩
  · intro x flits
    refine ⟨fun key nonce keying first => kxOffer_takes flits keying first, fun c training phase => kxCert_judges flits training phase,
      fun keying offered got => ?_, fun keying proof => kxDone_ends flits keying proof, linkAuth_fails,
      fun open_ valid first => ⟨_, rfl, ?_⟩⟩
    · obtain ⟨good, t, ran, down, -, cause⟩ := kxProof_judges flits keying offered got
      exact ⟨good, t, ran, down, cause⟩
    · rw [State.rekey_offers open_ valid first]
      exact State.sendOffer_offers ..
  · refine ⟨fun member confirmed cust missing => next_withPins (congrArg State.drain (State.keyWaitEnd_pulls member confirmed cust missing)),
      fun set idle => ⟨_, rfl, ?_⟩, fun reload => ⟨⟨_, rfl, ?_⟩, fun g k stored => ⟨_, rfl, ?_⟩⟩⟩
    · rw [State.withPins_krange, State.withPins_isFenced]
      exact State.slotParity_reloads set idle r.isLt
    · rw [State.withPins_krange, State.withPins_isFenced, State.withPins_isFenced]
      obtain ⟨range, held, lifted⟩ := State.slotFenced_fences reload r.isLt
      rw [range]
      exact ⟨rfl, rfl, held, lifted⟩
    · rw [State.withPins_krange, State.withPins_isFenced, State.slotReloaded_takes reload stored, State.isFenced_unfence_same,
        State.krange_of_crs (State.unfence_crs _ _ _), State.krange_setKrange]
      exact ⟨rfl, rfl, rfl⟩

end Sys2Proof.Machine
end

section
/-! PROOFS. The link of a CXL head, its decoders, its resets and its dynamic capacity (R405 to R409, R413 to R415, R419, R427): what each command
leaves of the head's record. -/

namespace Sys2Proof.Machine

open Sys2Proof

namespace State

variable {s : State} {h : Fin 64}

/-! ### The link (R20, R21, R406 to R408, R419) -/

/-- A training that the port, the cable and the configuration allow. -/
structure trainable (s : State) (h : Fin 64) (width rate : BitVec 3) : Prop where
  present : s.headExists h.val = true
  waits : (s.head h.val).st = 1 ∨ (s.head h.val).st = 2
  slow : rate.toNat ≤ s.headRateMax h.val
  rated : rate ≠ 0
  wide : width ≠ 0
  narrow : width.toNat ≤ widthCode (8 / s.portsOf h.val)

/-- The head that has trained is Active at its width and rate, and its port holds the order and the inversion of its lanes. -/
theorem headTrained_active {width rate : BitVec 3} (ok : s.trainable h width rate) (rev : Bool) (inv : Byte) :
    (s.headTrained h width rate rev inv).head h.val =
      { s.head h.val with st := 3, width := width, rate := rate, fullWidth := width, priorWidth := 0 } ∧
    (s.headTrained h width rate rev inv).port (8 * h.val) =
      { s.port (8 * h.val) with rev := rev && decide (s.portsOf h.val < 8), polInv := inv } := by
  have waits : ((s.head h.val).st == 1 || (s.head h.val).st == 2) = true := by rcases ok.waits with down | polling <;> simp [*]
  unfold State.headTrained
  extract_lets x t y u
  rw [if_pos (by simp only [x, ok.present, waits, decide_eq_true ok.slow, bne_iff_ne.mpr ok.rated, bne_iff_ne.mpr ok.wide,
    decide_eq_true ok.narrow]; rfl)]
  constructor
  · rw [head_of_heads (raise_heads ..), head_of_heads (unfence_heads ..), head_of_heads (s := t) (t := u) rfl]
    exact head_setHead s h.val _
  · rw [port_of_ports ((raise_ports ..).trans (unfence_ports ..))]
    exact port_setPort t (8 * h.val) _

/-- A head without dynamic capacity, decoders, logs and keys, whose bindings will be offered again. -/
structure bare (x : Head) : Prop where
  extents : x.extents = []
  decoders : x.decoders = []
  logs : x.logs = []
  ideKeys : x.ideKeys = []
  reoffer : x.reoffer = true

theorem headReset_bare (s : State) (h : Fin 64) : bare ((s.headReset h).head h.val) := by
  unfold State.headReset
  extract_lets t
  rw [head_setHead]
  exact ⟨rfl, rfl, rfl, rfl, rfl⟩

/-- A head whose link is down waits to train again, as after a conventional reset. -/
theorem headDown_head (s : State) (h : Fin 64) :
    (s.headDown h).head h.val = { (s.headReset h).head h.val with st := 2, width := 0, rate := 0 } := by
  unfold State.headDown
  extract_lets t x u
  have kept : u.head h.val = (s.headReset h).head h.val := head_of_heads ((rfl : u.heads = t.heads).trans (raise_heads ..)) _
  rw [head_setHead]
  exact congrArg (fun x : Head => { x with st := 2, width := 0, rate := 0 }) kept

theorem headLinkLost_down (present : s.headExists h.val = true) (linked : 2 ≤ (s.head h.val).st.toNat) : s.headLinkLost h = s.headDown h :=
  if_pos (by rw [present, decide_eq_true linked]; rfl)

theorem l0p_sets {width : BitVec 3} (active : (s.head h.val).active = true) (wide : width ≠ 0)
    (narrow : width.toNat ≤ (s.head h.val).fullWidth.toNat) : s.l0p h width = s.setHead h.val { s.head h.val with
      width := width, st := if width = (s.head h.val).fullWidth then 3 else 4 } :=
  if_pos (by rw [active, bne_iff_ne.mpr wide, decide_eq_true narrow]; rfl)

theorem ideFail_down (active : (s.head h.val).active = true) : ((s.ideFail h).head h.val).st = 2 := by
  unfold State.ideFail
  rw [if_neg (by simp [active])]
  extract_lets t u
  rw [headDown_head]

/-! ### Decoders (R409) -/

section
variable {d : Fin 8} {cfg : Decoder} (present : s.headExists h.val = true) (unlocked : ((s.head h.val).decoders.find d.val).any Decoder.lock = false)
include present unlocked

theorem commitDecoder_judged : s.commitDecoder h d cfg =
    if decoderValid cfg && !((s.head h.val).decoders.any (fun e => e.1 != d.val && rangesOverlap e.2 cfg)) then
      s.setHead h.val { s.head h.val with
        decoders := (s.head h.val).decoders.put d.val cfg, commitErr := removeAll (s.head h.val).commitErr d.val }
    else s.setHead h.val { s.head h.val with
        decoders := (s.head h.val).decoders.del d.val, commitErr := insertNew (s.head h.val).commitErr d.val } :=
  if_neg (by rw [present, unlocked]; decide)

theorem commitDecoder_accepts (valid : decoderValid cfg = true)
    (clear : (s.head h.val).decoders.any (fun e => e.1 != d.val && rangesOverlap e.2 cfg) = false) :
    s.commitDecoder h d cfg = s.setHead h.val { s.head h.val with
      decoders := (s.head h.val).decoders.put d.val cfg, commitErr := removeAll (s.head h.val).commitErr d.val } :=
  (commitDecoder_judged present unlocked).trans (if_pos (by rw [valid, clear]; rfl))

theorem commitDecoder_refuses
    (bad : decoderValid cfg = false ∨ (s.head h.val).decoders.any (fun e => e.1 != d.val && rangesOverlap e.2 cfg) = true) :
    s.commitDecoder h d cfg = s.setHead h.val { s.head h.val with
      decoders := (s.head h.val).decoders.del d.val, commitErr := insertNew (s.head h.val).commitErr d.val } :=
  (commitDecoder_judged present unlocked).trans (if_neg (by rcases bad with invalid | overlaps <;> simp only [*] <;> simp))

end

/-! ### Dynamic capacity (R413, R414) -/

theorem dcAddTimeout_drops {n slot : Nat} {o : Offer} (offered : (s.head n).offers.find? (fun o => o.slot.toNat == slot) = some o) :
    s.dcAddTimeout n slot = (s.dropOffer n o stTimeout).raise (headPage n) .headDcTimeout := by
  unfold State.dcAddTimeout
  rw [offered]

theorem dcReleaseTimeout_clears {n slot : Nat} (due : (s.head n).releasing.any (fun n => n.toNat == slot) = true) : s.dcReleaseTimeout n slot =
    ((s.clearSlot n slot).postDc n 0x92 slot (fld ((s.head n).extents.get 0 slot) 0 26)).raise (headPage n) .headDcTimeout := if_pos due

end State

/-! ### The commands -/

variable {s : State} {h : Fin 64}

theorem headLinkTrained_active {width rate : BitVec 3} (ok : s.trainable h width rate) (rev : Bool) (inv : Byte) :
    ∃ t, exec (.headLinkTrained h width ⟨rate, rev, inv⟩) s = .next t ∧ (t.head h.val).st = 3 ∧ (t.head h.val).width = width ∧
      (t.head h.val).fullWidth = width ∧ (t.head h.val).rate = rate ∧
      (t.port (8 * h.val)).rev = (rev && decide (s.portsOf h.val < 8)) ∧ (t.port (8 * h.val)).polInv = inv := by
  obtain ⟨head, port⟩ := s.headTrained_active ok rev inv
  refine ⟨_, rfl, ?_⟩
  rw [Noticed.head_eq (Noticed.withPins _), State.withPins_port, head, port]
  exact ⟨rfl, rfl, rfl, rfl, rfl, rfl⟩

theorem headLinkDown_bare (present : s.headExists h.val = true) (linked : 2 ≤ (s.head h.val).st.toNat) :
    ∃ u : State, exec (.headLinkDown h) s = .next (s.withPins (fun _ => u.drain)) ∧ (u.head h.val).st = 2 ∧ (u.head h.val).width = 0 ∧
      (u.head h.val).extents = [] ∧ (u.head h.val).decoders = [] ∧ (u.head h.val).reoffer = true := by
  refine ⟨s.headDown h, next_withPins (congrArg State.drain (State.headLinkLost_down present linked)), ?_⟩
  have reset := s.headReset_bare h
  rw [State.headDown_head]
  exact ⟨rfl, rfl, reset.extents, reset.decoders, reset.reoffer⟩

theorem resets_bare (present : s.headExists h.val = true) {c : Instr} (kind : c ∈ [Instr.conventionalReset h, .hotReset h]) :
    ∃ u : State, exec c s = .next (s.withPins (fun _ => u.drain)) ∧ (u.head h.val).extents = [] ∧ (u.head h.val).decoders = [] ∧
      (u.head h.val).logs = [] ∧ (u.head h.val).ideKeys = [] ∧ (u.head h.val).reoffer = true := by
  have runs : exec c s = .next (s.withPins (fun s => (s.resetHead h).drain)) := by
    simp only [List.mem_cons, List.not_mem_nil, or_false] at kind
    rcases kind with rfl | rfl <;> rfl
  have reset := s.headReset_bare h
  exact ⟨s.headReset h, runs.trans (next_withPins (congrArg State.drain (if_pos present))),
    reset.extents, reset.decoders, reset.logs, reset.ideKeys, reset.reoffer⟩

/-- Settles O45: each command by the record of the head that it leaves; the resets go through what a conventional reset leaves. -/
theorem headLinks : Obligations.HeadLinks := by
  unfold Obligations.HeadLinks
  intro s h
  refine ⟨?_, headLinkDown_bare, ?_, ?_, fun present c kind => resets_bare present kind, ?_, ?_, ?_, ?_⟩
  · intro width rate rev inv present waits slow rated wide narrow
    exact headLinkTrained_active ⟨present, waits, slow, rated, wide, narrow⟩ rev inv
  · intro w active wide narrow
    exact congrArg Host.Outcome.next (State.l0p_sets active wide narrow)
  · intro d cfg present unlocked
    exact ⟨fun valid clear => congrArg Host.Outcome.next (State.commitDecoder_accepts present unlocked valid clear),
      fun bad => congrArg Host.Outcome.next (State.commitDecoder_refuses present unlocked bad)⟩
  · exact fun present => next_withPins (congrArg State.drain (if_pos present))
  · exact fun active => ⟨s.ideFail h, next_withPins rfl, State.ideFail_down active⟩
  · exact fun slot o offered => next_withPins (congrArg State.drain (State.dcAddTimeout_drops offered))
  · exact fun slot due => next_withPins (congrArg State.drain (State.dcReleaseTimeout_clears due))

end Sys2Proof.Machine
end

section
/-! PROOFS. Accesses of a host (R50, R61, R65, R81, R106, R129, R156, R410): how a request that a slice admits reaches it, what the slice makes of a
read, a store and an atomic, and what an access that reaches no slice answers. -/

namespace Sys2Proof.Machine

open Sys2Proof

/-! ### Lines under an empty mask -/

theorem byteMask_zero : byteMask 0 = 0#512 := by simp [byteMask, bitAt]

theorem overlay_zero (old new : Line) : overlay old new 0 = old := by
  unfold overlay
  rw [byteMask_zero]
  dsimp only
  rw [BitVec.not_zero, BitVec.and_allOnes, BitVec.and_zero, BitVec.or_zero]

theorem zero_ne_fullMask : (0 : BitVec 64) ≠ fullMask := by decide

/-! ### Tables -/

/-- A value that adds nothing to a list over a table, stored where what it replaces adds nothing, leaves the list. -/
theorem Tab.flatMap_put {α β : Type} {t : Tab α} {k : Nat} {v : α} {f : Nat × α → List β} (new : f (k, v) = [])
    (old : ∀ x, t.find k = some x → f (k, x) = []) : (t.put k v).flatMap f = t.flatMap f := by
  induction t with
  | nil => simp [Tab.put, new]
  | cons e t ih =>
    obtain ⟨j, w⟩ := e
    unfold Tab.put
    split
    · simp [new]
    · split
      · next same =>
        have replaced := old w (if_pos same)
        rw [same] at replaced new
        simp [same, new, replaced]
      · next other => rw [List.flatMap_cons, List.flatMap_cons, ih fun x found => old x ((if_neg other).trans found)]

namespace State

variable {s t w : State} {n : Nat} {h : Fin 64} {a : LineAddr} {i : Ident}

/-! ### Counted events -/

/-- Counting an event leaves the other registers of its page. -/
theorem perfAdd_reg (page fuel k by_ : Nat) {off : Nat} (inside : off < 0x1000) (other : off ≠ 0x38) (s : State) :
    (s.perfAdd page fuel k by_).reg page off = s.reg page off := by
  induction fuel generalizing s k by_ with
  | zero => rfl
  | succ fuel ih =>
    unfold State.perfAdd
    extract_lets old t wraps
    split
    · rfl
    · split
      · exact ih _ _ t
      · exact reg_setReg_apart t _ inside (by decide) other

theorem perfEvent_reg (page code k : Nat) {off : Nat} (inside : off < 0x1000) (other : off ≠ 0x38) (s : State) :
    (s.perfEvent page code k).reg page off = s.reg page off :=
  each_same (fun s => s.reg page off) fun t i => by
    split
    exacts [perfAdd_reg page 8 i k inside other t, rfl]

theorem perfEvent_slice (s : State) (page code k n : Nat) : (s.perfEvent page code k).slice n = s.slice n := slice_of_ward (perfEvent_ward _ _ _ _) n

/-! ### The way of a request into its slice (R48, R106, R130, R144) -/

/-- Slice `n` takes the next request of an identifier to a line at once. -/
structure Admitting (s : State) (n : Nat) (i : Ident) (a : LineAddr) : Prop where
  unfenced : s.isFenced 4 n = false
  running : slcPage n ∉ s.pages.stopped
  unstalled : (s.slice n).stalled = []
  empty : (s.slice n).inq = []
  free : s.segHeld a = false
  room : s.laneRoom n i = true

/-- A state on a request's way into slice `n`: heads and slices may have been written, but not what the slice holds and the markers it sees. -/
structure OnWay (s w : State) (n : Nat) : Prop where
  parts : ∃ H S, w = { s with heads := H, slices := S }
  slice : w.slice n = s.slice n
  marks : w.headMarks n = s.headMarks n

theorem OnWay.trans {u : State} (h : OnWay s t n) (g : OnWay t u n) : OnWay s u n := by
  obtain ⟨⟨_, _, rfl⟩, slice, marks⟩ := h
  obtain ⟨⟨_, _, rfl⟩, slice', marks'⟩ := g
  exact ⟨⟨_, _, rfl⟩, slice'.trans slice, marks'.trans marks⟩

theorem OnWay.laneRoom (way : OnWay s w n) (i : Ident) : w.laneRoom n i = s.laneRoom n i := by
  obtain ⟨⟨H, S, written⟩, slice, marks⟩ := way
  have regs : w.regs = s.regs := by rw [written]
  have fxb : w.fxb = s.fxb := by rw [written]
  have lanes : w.markLanes n = s.markLanes n := by
    unfold State.markLanes State.peerMarks State.engineMarks
    rw [marks, fxb, slice]
  unfold State.laneRoom State.laneUsed State.laneLoad State.regFld State.reg
  rw [lanes, slice, regs]

theorem Admitting.onWay (ok : Admitting s n i a) (way : OnWay s w n) : Admitting w n i a := by
  have room := (way.laneRoom i).trans ok.room
  have slice := way.slice
  obtain ⟨⟨_, _, rfl⟩, -, -⟩ := way
  exact ⟨ok.unfenced, ok.running, by rw [slice, ok.unstalled], by rw [slice, ok.empty], ok.free, room⟩

/-- An outstanding request that a head without barriers notes. -/
theorem headOut_onWay (open_ : (s.head h.val).barriers = []) (tag : BitVec 16) (kind : ReqKind) (line : LineAddr) (n : Nat) :
    OnWay s (s.headOut h.val tag kind line) n ∧ ((s.headOut h.val tag kind line).head h.val).barriers = [] := by
  refine ⟨⟨⟨_, _, rfl⟩, rfl, ?_⟩, ?_⟩
  · unfold State.headOut
    extract_lets x
    have listed : ({ x with serial := x.serial + 1, outs := x.outs ++ [⟨x.serial, tag, kind, line⟩] } : Head) ≠ {} := by
      intro blank
      have outs := congrArg Head.outs blank
      simp at outs
    unfold State.headMarks State.setHead Tab.set
    rw [if_neg listed]
    refine Tab.flatMap_put ?_ fun y found => ?_
    · simp [x, open_]
    · have held : s.head h.val = y := by rw [State.head, Tab.get, found]; rfl
      rw [held] at open_
      simp [open_]
  · unfold State.headOut
    dsimp only
    rw [head_setHead, open_]

/-- What slice `n` makes of a request that it takes. -/
def take (s : State) (n : Nat) : InReq → State
  | .read a w => s.admitRead n a w
  | .entry e => s.admitEntry n e

/-- Slice `n` with the requests that wait for it. -/
def queued (s : State) (n : Nat) (l : List InReq) : State := s.setSlice n { s.slice n with inq := l }

/-- A slice stored again as it is. -/
def restored (s : State) (n : Nat) : State := s.queued n (s.slice n).inq

theorem restored_slice (s : State) (n : Nat) : (s.restored n).slice n = s.slice n := slice_setSlice ..

theorem queued_inq (s : State) (n : Nat) (l : List InReq) : ((s.queued n l).slice n).inq = l :=
  congrArg Slice.inq (slice_setSlice s n _)

/-- Emptying the queue that a request has joined leaves the slice that no request waited for. -/
theorem queued_onWay (empty : (s.slice n).inq = []) (l : List InReq) : OnWay s ((s.queued n l).queued n []) n := by
  refine ⟨⟨_, _, rfl⟩, ?_, rfl⟩
  have slice : ((s.queued n l).queued n []).slice n = { s.slice n with inq := [] } := by
    rw [State.queued, slice_setSlice, State.queued, slice_setSlice]
  rw [slice, ← empty]

theorem admitOne_takes {r : InReq} (ok : Admitting s n r.key.1 r.key.2) : s.admitOne n [] r = (false, s.take n r) := by
  unfold State.admitOne
  dsimp only
  rw [if_neg (by simp [ok.unfenced]), if_neg (by simp [ok.running, ok.unstalled, ok.free, ok.room])]
  cases r <;> rfl

theorem admitAll_eq (s : State) (n : Nat) : s.admitAll n =
    let o := (s.queued n []).admitList n [] (s.slice n).inq; o.2.queued n (o.1 ++ (o.2.slice n).inq) := rfl

theorem arrive_taken {r : InReq} (key : sliceHash r.key.2 = n) (ok : Admitting s n r.key.1 r.key.2) :
    ∃ w, OnWay s w n ∧ s.arrive r = (w.take n r).restored n := by
  have way := queued_onWay ok.empty [r]
  have arrives : s.arrive r = (s.queued n ((s.slice n).inq ++ [r])).admitAll n := by
    subst key
    rfl
  refine ⟨_, way, ?_⟩
  rw [arrives, ok.empty, admitAll_eq, queued_inq]
  simp only [State.admitList, List.nil_append, admitOne_takes (ok.onWay way)]
  rfl

/-! ### A request that a slice takes (R50, R61, R65, R106, R107, R109, R129) -/

/-- Slice `n` once it has counted and numbered a request. -/
def numbered (s : State) (n : Nat) : State :=
  let t := s.perfEvent (slcPage n) 0x00 1
  t.setSlice n { t.slice n with serial := (t.slice n).serial + 1 }

theorem numbered_slice (s : State) (n : Nat) : (s.numbered n).slice n = { s.slice n with serial := (s.slice n).serial + 1 } := by
  rw [State.numbered, slice_setSlice, perfEvent_slice]

theorem numbered_lcEnabled (s : State) (n : Nat) : (s.numbered n).lcEnabled n = s.lcEnabled n :=
  congrArg (bitAt · 0) (perfEvent_reg (slcPage n) 0x00 1 (by decide) (by decide) s)

/-- A read of an identifier that has no entry for the line looks for its line with nothing of its own lane. -/
theorem admitRead_alone {r : Waiter} (none_ : (s.slice n).ownEntries r.ident a = []) : s.admitRead n a r =
    (s.numbered n).lookRead n a { r with serial := (s.slice n).serial, after := none, own := [] } := by
  unfold State.admitRead
  extract_lets t k x u own v atom later
  have slice : t.slice n = s.slice n := perfEvent_slice ..
  have entries : own = [] := by
    simp only [own, u, slice_setSlice, x, slice]
    exact none_
  have same : v = s.numbered n := if_pos (by rw [entries]; rfl)
  have count : k = (s.slice n).serial := by simp only [k, slice]
  have bytes : later = [] := by simp only [later, entries, List.filter_nil]
  have atoms : atom = none := by simp only [atom, entries]; rfl
  rw [bytes, atoms, same, count]
  rfl

/-- What a read of a head brings along that its lane holds nothing for. -/
structure Plain (r : Waiter) : Prop where
  own : r.own = []
  after : r.after = none

section
variable {r : Waiter} (plain : Plain r) (alone : (s.slice n).readWaits r.ident a = false)
include plain alone

/-- Such a read that joins no other one has the value of the merge store. -/
theorem lookRead_merged {m : MergeEntry} (found : (s.slice n).merged a = some m) :
    s.lookRead n a r = (s.perfEvent (slcPage n) 0x02 1).answerRead r.sender m.data m.poison := by
  unfold State.lookRead
  rw [plain.after, plain.own]
  simp only [Option.any_none, Bool.false_eq_true, if_false, List.filter_nil, List.foldl_nil, if_neg zero_ne_fullMask, alone, found, overlay_zero]

section
variable (unmerged : (s.slice n).merged a = none) (sound : r.sram = .none)
include unmerged sound

/-- Else it has the value of the way that holds the line. -/
theorem lookRead_hits {k : Nat} (enabled : s.lcEnabled n = true) (hit : (s.slice n).findWay a = some k) :
    ∃ t : State, s.lookRead n a r = t.answerRead r.sender ((s.slice n).way (setHash a) k).data false := by
  have way : s.readWay n a r.sram = (some k, s) := by
    unfold State.readWay
    rw [if_neg (by simp [enabled])]
    simp only [sound, hit]
  unfold State.lookRead
  rw [plain.after, plain.own]
  simp only [Option.any_none, Bool.false_eq_true, if_false, List.filter_nil, List.foldl_nil, if_neg zero_ne_fullMask, alone, unmerged, way,
    overlay_zero]
  exact ⟨_, rfl⟩

theorem lookRead_misses (absent : (s.slice n).findWay a = none) : s.lookRead n a r = s.missRead n a r := by
  have way : s.readWay n a r.sram = (none, s) := by
    unfold State.readWay
    split
    · rfl
    · simp only [sound, absent]
  unfold State.lookRead
  rw [plain.after, plain.own]
  simp only [Option.any_none, Bool.false_eq_true, if_false, List.filter_nil, List.foldl_nil, if_neg zero_ne_fullMask, alone, unmerged, way]

end

end

/-- A read without a miss entry for its line takes a free one. -/
theorem missRead_takes {r : Waiter} (fresh : (s.slice n).missOf a = none) (room : (s.slice n).misses.length < 512) :
    (s.missRead n a r).slice n = { s.slice n with misses := (s.slice n).misses ++ [newMiss a [r] []] } := by
  unfold State.missRead
  simp only [fresh, if_pos room, perfEvent_slice, slice_setSlice]

/-- An entry that joins the lanes of a slice which has numbered it. -/
def joined (s : State) (n : Nat) (e : LaneEntry) : State :=
  (s.numbered n).setSlice n { (s.numbered n).slice n with
    lanes := (s.slice n).lanes ++ [{ e with uid := (s.slice n).serial, upto := (s.slice n).serial }] }

theorem joined_mem (s : State) (n : Nat) (e : LaneEntry) :
    { e with uid := (s.slice n).serial, upto := (s.slice n).serial } ∈ ((s.joined n e).slice n).lanes := by
  rw [State.joined, slice_setSlice]
  exact List.mem_concat_self

theorem numbered_lateAt (s : State) (n : Nat) (line : LineAddr) : (s.numbered n).lateAt line = s.lateAt line := by
  have segs : (s.numbered n).mte.segs = s.mte.segs := (perfEvent_spares (Spares.refl .segments s)).segs
  have regions : (s.numbered n).mte.regions = s.mte.regions := (perfEvent_spares (Spares.refl .regions s)).regions
  unfold State.lateAt State.lineRegion State.lsiOf State.region State.seg
  rw [segs, regions]

/-- A store whose identifier has no entry in its lane enters it with the acknowledgement of its region. -/
theorem admitEntry_store {e : LaneEntry} (store : e.op = .store) (first : (s.slice n).youngest e.ident = none) :
    let x : LaneEntry := { e with waits := e.waits.map (fun w => { w with late := s.lateAt e.line }) }
    s.admitEntry n e = (s.joined n x).ackEarly { x with uid := (s.slice n).serial, upto := (s.slice n).serial } := by
  intro x
  have lane : ((s.numbered n).slice n).lanes = (s.slice n).lanes := by rw [numbered_slice]
  have none_ : ((s.numbered n).slice n).youngest e.ident = none := by rw [Slice.youngest, lane]; exact first
  have count : ((s.perfEvent (slcPage n) 0x00 1).slice n).serial = (s.slice n).serial := by rw [perfEvent_slice]
  have late := numbered_lateAt s n e.line
  unfold State.admitEntry
  extract_lets t k y u e' z bad ack x'
  have entry : x' = { x with uid := (s.slice n).serial, upto := (s.slice n).serial } := by
    simp only [x', e', ack, k, t, count, x, ← late]
    rfl
  have opcode : e'.op = .store := store
  have same : u = s.numbered n := rfl
  have unmerged : (u.slice n).youngest x'.ident = none := none_
  split
  · next atomic =>
    rw [opcode] at atomic
    cases atomic
  · split
    · next found =>
      rw [unmerged] at found
      cases found
    · rw [same, lane, entry]
      rfl

/-- An atomic that the table of R136 holds enters its lane. -/
theorem admitEntry_atomic {e : LaneEntry} {op : BitVec 4} {size : BitVec 2} {off : BitVec 6} {x y : BitVec 128}
    (atomic : e.op = .atomic op size off x y) (legal : atomOk op size off = true) : s.admitEntry n e = s.joined n e := by
  have count : ((s.perfEvent (slcPage n) 0x00 1).slice n).serial = (s.slice n).serial := by rw [perfEvent_slice]
  have lane : ((s.numbered n).slice n).lanes = (s.slice n).lanes := by rw [numbered_slice]
  unfold State.admitEntry
  extract_lets t k z u e'
  have entry : e' = { e with uid := (s.slice n).serial, upto := (s.slice n).serial } := by simp only [e', k, t, count]
  have opcode : e'.op = .atomic op size off x y := atomic
  have same : u = s.numbered n := rfl
  rw [opcode]
  dsimp only
  rw [if_pos legal, same, lane, entry]
  rfl

/-! ### A request of a head that admits (R48, R81, R154, R156) -/

theorem admits_parts (ok : s.admits h a = true) : s.headTakes h.val = true ∧ s.sleeps = false ∧ (s.head h.val).barriers = [] ∧
    s.safe = false ∧ (s.acted (lineGsn a)).st = 1 ∧ Admitting s (sliceHash a) (.head h a) a := by
  simp only [State.admits, Bool.and_eq_true, Bool.not_eq_true', List.isEmpty_iff, beq_iff_eq, decide_eq_false_iff_not] at ok
  obtain ⟨⟨⟨⟨⟨⟨⟨⟨⟨⟨takes, awake⟩, open_⟩, normal⟩, allocated⟩, unfenced⟩, running⟩, unstalled⟩, empty⟩, free⟩, room⟩ := ok
  exact ⟨takes, awake, open_, normal, allocated, unfenced, running, unstalled, empty, free, room⟩

theorem admits_takes (ok : s.admits h a = true) : s.headTakes h.val = true := (admits_parts ok).1

theorem admits_unheld (ok : s.admits h a = true) (k : Nat) (kind : ReqKind) : s.headHolds h.val k kind = false := by
  obtain ⟨-, awake, open_, -⟩ := admits_parts ok
  simp [State.headHolds, awake, open_]

theorem inWindow_fga {hpa : BitVec 64} {wr : Bool} {f : Fga} (route : (s.head h.val).route hpa wr = .fga f) :
    s.inWindow h.val hpa wr = none := by rw [State.inWindow, route]

theorem inWindow_unbound {hpa : BitVec 64} {wr : Bool} {slot : Nat} (route : (s.head h.val).route hpa wr = .unbound slot) :
    s.inWindow h.val hpa wr = none := by rw [State.inWindow, route]

theorem inWindow_window {hpa : BitVec 64} {wr : Bool} {off : Nat} (route : (s.head h.val).route hpa wr = .window off) :
    s.inWindow h.val hpa wr = some off := by rw [State.inWindow, route]

section
variable {hpa : BitVec 64} {tag : BitVec 16} {e : LcErr} {data : Line} {mask : BitVec 64} {p : Bool} {op : BitVec 4} {size : BitVec 2}
  {x y : BitVec 128} (takes : s.headTakes h.val = true)
include takes

theorem cxlRead_passes (outside : s.inWindow h.val hpa false = none) (unheld : s.headHolds h.val (s.head h.val).serial .read = false) :
    s.cxlRead h hpa tag e = s.passRead h hpa tag e := by
  rw [State.cxlRead, if_neg (by simp [takes]), if_neg (by simp [outside]), State.headReq]
  exact if_neg (by simp [HeldReq.kind, unheld])

theorem cxlRead_window {off : Nat} (inside : s.inWindow h.val hpa false = some off) : s.cxlRead h hpa tag e = s.passRead h hpa tag e := by
  rw [State.cxlRead, if_neg (by simp [takes]), if_pos (by simp [inside])]

theorem cxlWrite_passes (outside : s.inWindow h.val hpa true = none) (unheld : s.headHolds h.val (s.head h.val).serial .store = false) :
    s.cxlWrite h hpa tag data mask p = s.passWrite h hpa tag data mask p := by
  rw [State.cxlWrite, if_neg (by simp [takes]), outside]
  exact if_neg (by simp [HeldReq.kind, unheld])

theorem cxlWrite_window {off : Nat} (inside : s.inWindow h.val hpa true = some off) (beyond : off / 64 ≠ 0) :
    s.cxlWrite h hpa tag data mask p = s.passWrite h hpa tag data mask p := by
  rw [State.cxlWrite, if_neg (by simp [takes]), inside]
  exact if_neg beyond

theorem cxlAtomic_passes (outside : s.inWindow h.val hpa true = none) (unheld : s.headHolds h.val (s.head h.val).serial .atomic = false) :
    s.cxlAtomic h hpa tag op size x y = s.passAtomic h hpa tag op size x y := by
  rw [State.cxlAtomic, if_neg (by simp [takes]), if_neg (by simp [outside]), State.headReq]
  exact if_neg (by simp [HeldReq.kind, unheld])

theorem cxlAtomic_window {off : Nat} (inside : s.inWindow h.val hpa true = some off) :
    s.cxlAtomic h hpa tag op size x y = s.passAtomic h hpa tag op size x y := by
  rw [State.cxlAtomic, if_neg (by simp [takes]), if_pos (by simp [inside])]

theorem cxlRead_held (held : s.headHolds h.val (s.head h.val).serial .read = true) (outside : s.inWindow h.val hpa false = none) :
    s.cxlRead h hpa tag e = s.setHead h.val { s.head h.val with
      held := (s.head h.val).held ++ [((s.head h.val).serial, .read hpa tag e)], serial := (s.head h.val).serial + 2 } := by
  rw [State.cxlRead, if_neg (by simp [takes]), if_neg (by simp [outside]), State.headReq]
  exact if_pos held

end

/-! ### A request to a line that this module owns -/

/-- A read of a head, as it arrives at its slice. -/
def readOf (s : State) (h : Fin 64) (tag : BitVec 16) (a : LineAddr) (e : LcErr) : Waiter where
  ident := .head h a
  sender := .head h tag
  serial := 0
  own := []
  after := none
  sram := e
  served := false
  beyond := s.narrow (.head h tag)

/-- A store of a head, as it arrives at its slice. -/
def storeOf (s : State) (h : Fin 64) (tag : BitVec 16) (a : LineAddr) (data : Line) (mask : BitVec 64) (p : Bool) : LaneEntry where
  uid := 0
  ident := .head h a
  line := a
  op := .store
  data := data
  mask := if p then fullMask else mask
  poison := p
  waits := [{ sender := .head h tag, late := s.lateAt a }]
  upto := 0
  current := none

/-- An atomic of a head, as it arrives at its slice. -/
def atomicOf (h : Fin 64) (tag : BitVec 16) (a : LineAddr) (op : BitVec 4) (size : BitVec 2) (off : BitVec 6) (x y : BitVec 128) : LaneEntry where
  uid := 0
  ident := .head h a
  line := a
  op := .atomic op size off x y
  data := 0
  mask := 0
  poison := false
  waits := [{ sender := .head h tag, late := false }]
  upto := 0
  current := none

section
variable {tag : BitVec 16} (ok : s.admits h a = true)
include ok

/-- A read of an owned line arrives at its slice, which takes it. -/
theorem headRead_taken (e : LcErr) : ∃ (w : State) (r : Waiter), OnWay s w (sliceHash a) ∧ r.ident = .head h a ∧ r.sender = .head h tag ∧
    r.sram = e ∧ s.headRead h tag a e = (w.admitRead (sliceHash a) a r).restored (sliceHash a) := by
  obtain ⟨-, -, open_, normal, allocated, admitting⟩ := admits_parts ok
  obtain ⟨noted, -⟩ := headOut_onWay open_ tag .read a (sliceHash a)
  have owned : ((s.headOut h.val tag .read a).acted (lineGsn a)).st.toNat = 1 := congrArg BitVec.toNat allocated
  have normal' : (s.headOut h.val tag .read a).safe = false := normal
  obtain ⟨w, way, taken⟩ := arrive_taken (r := .read a ((s.headOut h.val tag .read a).readOf h tag a e)) rfl (admitting.onWay noted)
  refine ⟨w, _, noted.trans way, rfl, rfl, rfl, Eq.trans ?_ taken⟩
  unfold State.headRead
  dsimp only
  rw [if_neg (by simp [normal']), owned]
  rfl

/-- A read of an owned line looks for it in its slice with nothing of its own lane. -/
theorem headRead_looks (e : LcErr) (none_ : (s.sliceOf a).ownEntries (.head h a) a = []) :
    ∃ (u : State) (r : Waiter) (k : Nat), Plain r ∧ r.ident = .head h a ∧ r.sender = .head h tag ∧ r.sram = e ∧
      u.slice (sliceHash a) = { s.sliceOf a with serial := k } ∧ u.lcEnabled (sliceHash a) = s.lcEnabled (sliceHash a) ∧
      s.headRead h tag a e = (u.lookRead (sliceHash a) a r).restored (sliceHash a) := by
  obtain ⟨w, r, way, ident, sender, sram, taken⟩ := headRead_taken (tag := tag) ok e
  have slice := way.slice
  have enabled : w.lcEnabled (sliceHash a) = s.lcEnabled (sliceHash a) := by
    obtain ⟨⟨_, _, rfl⟩, -, -⟩ := way
    rfl
  refine ⟨w.numbered (sliceHash a), { r with serial := (w.slice (sliceHash a)).serial, after := none, own := [] },
    (w.slice (sliceHash a)).serial + 1, ⟨rfl, rfl⟩, ident, sender, sram, ?_, (numbered_lcEnabled w _).trans enabled, ?_⟩
  · rw [numbered_slice, slice]
    rfl
  · rw [taken, admitRead_alone (by rw [ident, slice]; exact none_)]

/-- A store to an owned line enters its lane. -/
theorem headStore_enters {data : Line} {mask : BitVec 64} {p : Bool} (first : (s.sliceOf a).youngest (.head h a) = none) :
    ∃ (w : State) (x : LaneEntry), x.line = a ∧ x.op = .store ∧ x.data = data ∧ x.mask = (if p then fullMask else mask) ∧ x.poison = p ∧
      x.waits = [{ sender := .head h tag, late := s.lateAt a }] ∧ x ∈ (w.slice (sliceHash a)).lanes ∧
      s.headStore h tag a data mask p = (w.ackEarly x).restored (sliceHash a) := by
  obtain ⟨-, -, open_, normal, allocated, admitting⟩ := admits_parts ok
  obtain ⟨noted, -⟩ := headOut_onWay open_ tag .store a (sliceHash a)
  have owned : ((s.headOut h.val tag .store a).acted (lineGsn a)).st.toNat = 1 := congrArg BitVec.toNat allocated
  have normal' : (s.headOut h.val tag .store a).safe = false := normal
  let e := (s.headOut h.val tag .store a).storeOf h tag a data mask p
  obtain ⟨w, way, taken⟩ := arrive_taken (r := .entry e) rfl (admitting.onWay noted)
  have slice := (noted.trans way).slice
  have late : w.lateAt a = s.lateAt a := by
    obtain ⟨⟨_, _, rfl⟩, -, -⟩ := noted.trans way
    rfl
  have goes : s.headStore h tag a data mask p = (s.headOut h.val tag .store a).arrive (.entry e) := by
    unfold State.headStore
    dsimp only
    rw [if_neg (by simp [normal']), owned]
    rfl
  have enters := admitEntry_store (s := w) (n := sliceHash a) (e := e) rfl (by rw [slice]; exact first)
  refine ⟨_, _, rfl, rfl, rfl, rfl, rfl, ?_, joined_mem w (sliceHash a) _, (goes.trans taken).trans (congrArg (restored · _) enters)⟩
  simp only [e, State.storeOf, List.map_cons, List.map_nil, late]

/-- An atomic on an owned line enters its lane. -/
theorem headAtomic_enters {off : BitVec 6} {op : BitVec 4} {size : BitVec 2} {x y : BitVec 128} (legal : atomOk op size off = true) :
    ∃ (w : State) (z : LaneEntry), z.line = a ∧ z.op = .atomic op size off x y ∧ z ∈ (w.slice (sliceHash a)).lanes ∧
      s.headAtomic h tag a off op size x y = w.restored (sliceHash a) := by
  obtain ⟨-, -, open_, normal, allocated, admitting⟩ := admits_parts ok
  obtain ⟨noted, open'⟩ := headOut_onWay open_ tag .atomic a (sliceHash a)
  obtain ⟨noted', -⟩ := headOut_onWay open' tag .store a (sliceHash a)
  have way := noted.trans noted'
  let u := (s.headOut h.val tag .atomic a).headOut h.val tag .store a
  have owned : (u.acted (lineGsn a)).st.toNat = 1 := congrArg BitVec.toNat allocated
  have normal' : u.safe = false := normal
  let e := atomicOf h tag a op size off x y
  obtain ⟨w, -, taken⟩ := arrive_taken (r := .entry e) rfl (admitting.onWay way)
  have goes : s.headAtomic h tag a off op size x y = u.arrive (.entry e) := by
    unfold State.headAtomic
    dsimp only
    rw [if_neg (Bool.eq_false_iff.mp normal'), owned]
    rfl
  have enters := admitEntry_atomic (s := w) (n := sliceHash a) (e := e) rfl legal
  exact ⟨_, _, rfl, rfl, joined_mem w (sliceHash a) e, (goes.trans taken).trans (congrArg (restored · _) enters)⟩

end

end State

/-! ### The commands -/

variable {s : State} {h : Fin 64} {hpa : BitVec 64} {tag : BitVec 16} {e : LcErr}

/-- What a command drives outward stands in the state it leaves. -/
theorem withPins_drives {f : State → State} {o : Output} (driven : o ∈ (f s).out) : o ∈ (s.withPins f).out :=
  (State.pinIbis_keeps (Keeps.refl _)).out.subset driven

theorem withPins_sliceOf (f : State → State) (a : LineAddr) : (s.withPins f).sliceOf a = (f s).slice (sliceHash a) :=
  State.slice_of_ward (State.withPins_ward _ _) _

section
variable {f : Fga} (ok : s.admits h (fgaLine f) = true)
include ok

theorem cxlRead_admitted (route : (s.head h.val).route hpa false = .fga f) : s.cxlRead h hpa tag e = s.headRead h tag (fgaLine f) e := by
  rw [State.cxlRead_passes (State.admits_takes ok) (State.inWindow_fga route) (State.admits_unheld ok _ _), State.passRead, route]

theorem cxlWrite_admitted {data : Line} {mask : BitVec 64} {p : Bool} (route : (s.head h.val).route hpa true = .fga f) :
    s.cxlWrite h hpa tag data mask p = s.headStore h tag (fgaLine f) data mask p := by
  rw [State.cxlWrite_passes (State.admits_takes ok) (State.inWindow_fga route) (State.admits_unheld ok _ _), State.passWrite, route]

theorem cxlAtomic_admitted {op : BitVec 4} {size : BitVec 2} {x y : BitVec 128} (route : (s.head h.val).route hpa true = .fga f) :
    s.cxlAtomic h hpa tag op size x y = s.headAtomic h tag (fgaLine f) (f.setWidth 6) op size x y := by
  rw [State.cxlAtomic_passes (State.admits_takes ok) (State.inWindow_fga route) (State.admits_unheld ok _ _), State.passAtomic, route]

section
variable (route : (s.head h.val).route hpa false = .fga f) (none_ : (s.sliceOf (fgaLine f)).ownEntries (.head h (fgaLine f)) (fgaLine f) = [])
  (alone : (s.sliceOf (fgaLine f)).readWaits (.head h (fgaLine f)) (fgaLine f) = false)
include route none_ alone

theorem cxlMemRead_merged {m : MergeEntry} (found : (s.sliceOf (fgaLine f)).merged (fgaLine f) = some m) :
    ∃ t, exec (.cxlMemRead h hpa ⟨tag, e⟩) s = .next t ∧ .readData h tag m.data m.poison ∈ t.out := by
  obtain ⟨u, r, k, plain, ident, sender, -, slice, -, looks⟩ := State.headRead_looks (tag := tag) ok e none_
  refine ⟨_, rfl, withPins_drives ?_⟩
  rw [cxlRead_admitted ok route, looks, State.lookRead_merged plain (by rw [slice, ident]; exact alone) (by rw [slice]; exact found), sender]
  exact State.answerRead_head _ h tag m.data m.poison

theorem cxlMemRead_hits {w : Nat} (unmerged : (s.sliceOf (fgaLine f)).merged (fgaLine f) = none)
    (enabled : s.lcEnabled (sliceHash (fgaLine f)) = true) (hit : (s.sliceOf (fgaLine f)).findWay (fgaLine f) = some w) :
    ∃ t, exec (.cxlMemRead h hpa ⟨tag, .none⟩) s = .next t ∧
      .readData h tag ((s.sliceOf (fgaLine f)).way (setHash (fgaLine f)) w).data false ∈ t.out := by
  obtain ⟨u, r, k, plain, ident, sender, sound, slice, lc, looks⟩ := State.headRead_looks (tag := tag) ok .none none_
  obtain ⟨v, hits⟩ := State.lookRead_hits plain (by rw [slice, ident]; exact alone) (by rw [slice]; exact unmerged) sound
    (lc.trans enabled) (by rw [slice]; exact hit)
  refine ⟨_, rfl, withPins_drives ?_⟩
  rw [cxlRead_admitted ok route, looks, hits, sender, slice]
  exact State.answerRead_head v h tag _ false

theorem cxlMemRead_misses (unmerged : (s.sliceOf (fgaLine f)).merged (fgaLine f) = none)
    (absent : (s.sliceOf (fgaLine f)).findWay (fgaLine f) = none) (fresh : (s.sliceOf (fgaLine f)).missOf (fgaLine f) = none)
    (room : (s.sliceOf (fgaLine f)).misses.length < 512) :
    ∃ t m, exec (.cxlMemRead h hpa ⟨tag, .none⟩) s = .next t ∧ (t.sliceOf (fgaLine f)).missOf (fgaLine f) = some m ∧
      m.stage = .tier ∧ m.waiters.map Waiter.sender = [.head h tag] := by
  obtain ⟨u, r, k, plain, ident, sender, sound, slice, lc, looks⟩ := State.headRead_looks (tag := tag) ok .none none_
  refine ⟨_, newMiss (fgaLine f) [r] [], rfl, ?_, rfl, by rw [newMiss, List.map_singleton, sender]⟩
  rw [withPins_sliceOf, cxlRead_admitted ok route, looks, State.restored_slice, State.lookRead_misses plain (by rw [slice, ident]; exact alone)
    (by rw [slice]; exact unmerged) sound (by rw [slice]; exact absent), State.missRead_takes (by rw [slice]; exact fresh)
    (by rw [slice]; exact room), slice]
  exact (List.find?_append ..).trans (by rw [show List.find? _ _ = none from fresh]; simp [newMiss])

end

theorem cxlMemWrite_enters {data : Line} {mask : BitVec 64} {p : Bool} (route : (s.head h.val).route hpa true = .fga f)
    (first : (s.sliceOf (fgaLine f)).youngest (.head h (fgaLine f)) = none) :
    ∃ t x, exec (.cxlMemWrite h hpa tag data mask p) s = .next t ∧ x ∈ (t.sliceOf (fgaLine f)).lanes ∧ x.line = fgaLine f ∧
      x.op = .store ∧ x.data = data ∧ x.mask = (if p then fullMask else mask) ∧ x.poison = p ∧
      (s.lateAt (fgaLine f) = false → .writeDone h tag false ∈ t.out) := by
  obtain ⟨w, x, line, store, bytes, under, poison, waits, lane, enters⟩ :=
    State.headStore_enters (tag := tag) (data := data) (mask := mask) (p := p) ok first
  refine ⟨_, x, rfl, ?_, line, store, bytes, under, poison, fun early => withPins_drives ?_⟩
  · rw [withPins_sliceOf, cxlWrite_admitted ok route, enters, State.restored_slice, State.slice_of_ward (State.ackEarly_ward _ _)]
    exact lane
  · rw [cxlWrite_admitted ok route, enters]
    have acked : w.ackEarly x = w.emit (.writeDone h tag false) := by
      rw [State.ackEarly, store, waits, early]
      rfl
    rw [acked]
    exact List.mem_concat_self

theorem cxlMemAtomic_enters {op : BitVec 4} {size : BitVec 2} {x y : BitVec 128} (route : (s.head h.val).route hpa true = .fga f)
    (legal : atomOk op size (f.setWidth 6) = true) :
    ∃ t z, exec (.cxlMemAtomic h hpa tag op size x y) s = .next t ∧ z ∈ (t.sliceOf (fgaLine f)).lanes ∧ z.line = fgaLine f ∧
      z.op = .atomic op size (f.setWidth 6) x y := by
  obtain ⟨w, z, line, atomic, lane, enters⟩ := State.headAtomic_enters (tag := tag) (x := x) (y := y) ok legal
  refine ⟨_, z, rfl, ?_, line, atomic⟩
  rw [withPins_sliceOf, cxlAtomic_admitted ok route, enters, State.restored_slice]
  exact lane

end

/-- Settles O9: a request that its slice admits is followed into the slice, and a read there to the merge store, the line cache or a miss entry;
the other accesses answer at the head. -/
theorem hostAccesses : Obligations.HostAccesses := by
  unfold Obligations.HostAccesses
  intro s h hpa tag e
  refine ⟨fun f route ok none_ alone => ⟨?_, ?_, ?_⟩, ?_, ?_, fun takes => ⟨?_, ?_, ?_, ?_, ?_, ?_⟩⟩
  · exact fun m found => cxlMemRead_merged ok route none_ alone found
  · exact fun w unmerged enabled hit => cxlMemRead_hits ok route none_ alone unmerged enabled hit
  · exact fun unmerged absent fresh room => cxlMemRead_misses ok route none_ alone unmerged absent fresh room
  · exact fun f data mask p route ok first => cxlMemWrite_enters ok route first
  · exact fun f op size x y route ok legal => cxlMemAtomic_enters ok route legal
  · intro off route
    have passes : s.cxlRead h hpa tag e = s.emit (.readData h tag ((s.head h.val).windowLine off) false) := by
      rw [State.cxlRead_window takes (State.inWindow_window route), State.passRead, route]
    exact ⟨_, congrArg Host.Outcome.next (State.withPins_of_levels passes rfl), rfl⟩
  · intro off data mask p route beyond
    have passes : s.cxlWrite h hpa tag data mask p = s.emit (.writeDone h tag false) := by
      rw [State.cxlWrite_window takes (State.inWindow_window route) beyond, State.passWrite, route]
    exact ⟨_, congrArg Host.Outcome.next (State.withPins_of_levels passes rfl), rfl⟩
  · intro off op size x y route
    have passes : s.cxlAtomic h hpa tag op size x y = s.emit (.atomicData h tag
        (BitVec.ofNat 128 (lineField ((s.head h.val).windowLine off) (hpa.toNat % 64) (atomBytes size))) false) := by
      rw [State.cxlAtomic_window takes (State.inWindow_window route), State.passAtomic, route]
    exact ⟨_, congrArg Host.Outcome.next (State.withPins_of_levels passes rfl), rfl⟩
  · intro slot route unheld
    refine ⟨_, rfl, withPins_drives ?_⟩
    rw [State.cxlRead_passes takes (State.inWindow_unbound route) unheld, State.passRead, route]
    exact List.mem_concat_self
  · intro slot data mask p route unheld
    refine ⟨_, rfl, withPins_drives ?_⟩
    rw [State.cxlWrite_passes takes (State.inWindow_unbound route) unheld, State.passWrite, route]
    exact List.mem_concat_self
  · exact fun held outside => congrArg Host.Outcome.next (State.withPins_of_levels (State.cxlRead_held takes held outside) rfl)

end Sys2Proof.Machine
end

section
/-! PROOFS. What an operation may write (R318, R345, R470, R480, R529, R545, R560): a state is confined to some parts of another one when every other
part is as it was. The parts of an operation are those of its writes and of the operations that it calls. -/

namespace Sys2Proof.Machine

open Sys2Proof

/-- The parts of the state. -/
inductive Part where
  | pending | out | free | time | opMs | opNs | regs | shadow | hold | perf | cyc | freezeAll | pages | mgt | flt | pan | pwr | thm | crs
  | slices | dtc | mch | mte | cages | ports | fxb | heads | sve
deriving DecidableEq

/-- The first of two where a choice says so, else the second. -/
def pick {α : Type} (b : Bool) (x y : α) : α := bif b then x else y

theorem pick_self {α : Type} (b : Bool) (x : α) : pick b x x = x := by cases b <;> rfl

theorem pick_again {α : Type} (b : Bool) (x y z : α) : pick b x (pick b y z) = pick b x z := by cases b <;> rfl

theorem pick_wider {α : Type} {b c : Bool} (wider : b = true → c = true) (x y : α) : pick c (pick b x y) y = pick b x y := by
  cases b with
  | false => exact pick_self c y
  | true => rw [wider rfl]; rfl

/-- A state with some parts taken from another one. -/
def State.over (l : List Part) (s t : State) : State where
  pending := pick (l.contains .pending) t.pending s.pending
  out := pick (l.contains .out) t.out s.out
  free := pick (l.contains .free) t.free s.free
  time := pick (l.contains .time) t.time s.time
  opMs := pick (l.contains .opMs) t.opMs s.opMs
  opNs := pick (l.contains .opNs) t.opNs s.opNs
  regs := pick (l.contains .regs) t.regs s.regs
  shadow := pick (l.contains .shadow) t.shadow s.shadow
  hold := pick (l.contains .hold) t.hold s.hold
  perf := pick (l.contains .perf) t.perf s.perf
  cyc := pick (l.contains .cyc) t.cyc s.cyc
  freezeAll := pick (l.contains .freezeAll) t.freezeAll s.freezeAll
  pages := pick (l.contains .pages) t.pages s.pages
  mgt := pick (l.contains .mgt) t.mgt s.mgt
  flt := pick (l.contains .flt) t.flt s.flt
  pan := pick (l.contains .pan) t.pan s.pan
  pwr := pick (l.contains .pwr) t.pwr s.pwr
  thm := pick (l.contains .thm) t.thm s.thm
  crs := pick (l.contains .crs) t.crs s.crs
  slices := pick (l.contains .slices) t.slices s.slices
  dtc := pick (l.contains .dtc) t.dtc s.dtc
  mch := pick (l.contains .mch) t.mch s.mch
  mte := pick (l.contains .mte) t.mte s.mte
  cages := pick (l.contains .cages) t.cages s.cages
  ports := pick (l.contains .ports) t.ports s.ports
  fxb := pick (l.contains .fxb) t.fxb s.fxb
  heads := pick (l.contains .heads) t.heads s.heads
  sve := pick (l.contains .sve) t.sve s.sve

theorem State.over_self (l : List Part) (s : State) : s.over l s = s := by simp only [State.over, pick_self]

theorem State.over_again (l : List Part) (s t u : State) : (s.over l t).over l u = s.over l u := by simp only [State.over, pick_again]

theorem State.over_wider {l m : List Part} (wider : ∀ x, l.contains x = true → m.contains x = true) (s t : State) :
    s.over m (s.over l t) = s.over l t := by
  simp only [State.over, pick_wider (wider _)]

/-- The parts in which a state differs from another one are among those listed. -/
def Confined (l : List Part) (s t : State) : Prop := t = s.over l t

namespace Confined

variable {l m : List Part} {s t u : State}

theorem refl (l : List Part) (s : State) : Confined l s s := (State.over_self l s).symm

theorem trans (h : Confined l s t) (g : Confined l t u) : Confined l s u :=
  Eq.trans g ((congrArg (fun x => x.over l u) h).trans (State.over_again l s t u))

/-- More parts may be listed. -/
theorem mono (h : Confined l s t) (wider : l.all m.contains = true) : Confined m s t := by
  have contains : ∀ x, l.contains x = true → m.contains x = true := fun x listed =>
    List.all_eq_true.mp wider x (List.contains_iff_mem.mp listed)
  have same := State.over_wider contains s t
  rw [← h] at same
  exact same.symm

/-- An operation that writes some of the parts follows. -/
theorem next (h : Confined l s t) (g : Confined m t u) (wider : m.all l.contains = true) : Confined l s u := h.trans (g.mono wider)

/-- An operation that writes some of the parts comes before. -/
theorem since (g : Confined l t u) (h : Confined l s t) : Confined l s u := h.trans g

theorem ite {c : Prop} [Decidable c] (h : Confined l s t) (g : Confined l s u) : Confined l s (if c then t else u) := by split <;> assumption

theorem each {α : Type} {xs : List α} {f : State → α → State} (step : ∀ t x, Confined l t (f t x)) : Confined l s (s.each xs f) := by
  unfold State.each
  induction xs generalizing s with
  | nil => exact refl l s
  | cons x xs ih => exact (step s x).trans ih

end Confined

namespace State

variable (s : State)

/-! ### Events, counters and in-band interrupts -/

theorem setReg_confined (page off w) : Confined [.regs] s (s.setReg page off w) := rfl

theorem raise_confined (page src) : Confined [.regs, .flt] s (s.raise page src) := by
  rw [State.raise, raiseAt_eq]
  rfl

theorem perfAdd_confined (page fuel n k) : Confined [.regs, .perf] s (s.perfAdd page fuel n k) := by
  induction fuel generalizing s n k with
  | zero => exact .refl _ s
  | succ fuel ih =>
    unfold State.perfAdd
    extract_lets old t wraps
    have counted : Confined [.regs, .perf] s t := rfl
    split
    · exact counted
    · split
      · exact counted.trans (ih t _ _)
      · exact counted.trans rfl

theorem perfEvent_confined (page code k) : Confined [.regs, .perf] s (s.perfEvent page code k) :=
  .each fun t _ => .ite (t.perfAdd_confined ..) (.refl _ t)

theorem sendIbi_confined (mdb payload) : Confined [.out, .mgt] s (s.sendIbi mdb payload) := .ite rfl (.refl _ s)

theorem fresh_confined : Confined [.free] s s.fresh.2 := rfl

/-! ### Link messages -/

theorem linkOut_confined (p m) : Confined [.out, .ports] s (s.linkOut p m) := .ite rfl (.ite rfl rfl)

theorem floodLink_confined (except_ m) : Confined [.out, .ports] s (s.floodLink except_ m) := .each fun t p => t.linkOut_confined p m

theorem mgtIn_confined {l : List Part} (n m) {f : State → State} (wider : [.ports].all l.contains = true) (does : ∀ t, Confined l t (f t)) :
    Confined l s (s.mgtIn n m f) := by
  unfold State.mgtIn
  extract_lets x
  have owed : Confined [.ports] s (s.setPort n { x with owed := x.owed.set 0 6 (x.owed.get 0 6 + linkLen m) }) := rfl
  exact .ite ((owed.mono wider).trans (does _)) (.refl _ s)

theorem beginTraining_confined (n) : Confined [.ports] s (s.beginTraining n) := .ite rfl (.refl _ s)

theorem retryTraining_confined (n) : Confined [.ports] s (s.retryTraining n) := by
  unfold State.retryTraining
  exact .ite ((beginTraining_confined _ n).since rfl) (.refl _ s)

theorem wakeIn_confined (n) : Confined [.ports] s (s.wakeIn n) := .ite rfl (.refl _ s)

theorem sendIdle_confined (n nak) : Confined [.out, .ports] s (s.sendIdle n nak) := rfl

theorem detected_confined (n lanes) : Confined [.out, .ports] s (s.detected n lanes) := by
  unfold State.detected
  exact .ite ((s.linkOut_confined n _).trans rfl) (.refl _ s)

theorem trickleIdle_confined (n) : Confined [.out, .ports] s (s.trickleIdle n) :=
  have asks : Confined [.out, .ports] s (s.askTrickle n) := by
    unfold State.askTrickle
    exact .ite (.refl _ s) ((linkOut_confined _ n _).since rfl)
  .ite (.refl _ s) asks

theorem sendOffer_confined (n) : Confined [.out, .free, .ports] s (s.sendOffer n) := by
  unfold State.sendOffer
  extract_lets a b nonce t x k
  have drawn : Confined [.out, .free, .ports] s (t.setPort n { x with keys := k }) := rfl
  exact drawn.next (linkOut_confined _ n _) rfl

theorem sendProof_confined (n) : Confined [.out, .ports] s (s.sendProof n) := .ite (s.linkOut_confined n _) (.refl _ s)

theorem kxOffer_confined (n key nonce) : Confined [.out, .free, .ports] s (s.kxOffer n key nonce) := by
  unfold State.kxOffer
  extract_lets x t y u v
  have answered : Confined [.out, .free, .ports] s t := .ite (.refl _ s) (s.sendOffer_confined n)
  have noted : Confined [.out, .free, .ports] t v := rfl
  exact .ite (.refl _ s) (.ite (s.sendOffer_confined n) ((answered.trans noted).next (v.sendProof_confined n) rfl))

theorem rekey_confined (n) : Confined [.out, .free, .ports] s (s.rekey n) := .ite (s.sendOffer_confined n) (.refl _ s)

theorem devReqIn_confined (port serial inst wanted) : Confined [.out, .ports, .fxb] s (s.devReqIn port serial inst wanted) := by
  have told (t : State) (e m) (noted : Confined [.out, .ports, .fxb] s t) : Confined [.out, .ports, .fxb] s (t.floodLink e m) :=
    noted.next (t.floodLink_confined e m) rfl
  exact .ite (.refl _ s) (.ite (told _ _ _ rfl) (.ite (.refl _ s) (told _ _ _ rfl)))

/-! ### Management transports -/

theorem cccGet_confined (b) : Confined [.out, .mgt] s (s.cccGet b) := .ite rfl rfl

theorem getstatus_confined : Confined [.out, .mgt] s s.getstatus :=
  .ite ((s.cccGet_confined _).trans rfl) (s.cccGet_confined _)

theorem entdaa_confined (addr) : Confined [.out, .mgt] s (s.entdaa addr) := .ite rfl rfl

theorem mctpDo_confined (code d) : Confined [.out, .mgt] s (s.mctpDo code d) := by
  unfold State.mctpDo
  exact .ite ((sendIbi_confined _ _ _).since rfl) (.refl _ s)

theorem setEid_confined (eid) : Confined [.out, .mgt] s (s.setEid eid) :=
  .ite (.refl _ s) (.ite ((mctpDo_confined { s with mgt := { s.mgt with eid := eid } } _ _).since rfl) (s.mctpDo_confined _ _))

theorem mctpTake_confined (p buf) : Confined [.mgt] s (s.mctpTake p buf) := .ite rfl rfl

theorem mctpPacket_confined (p) : Confined [.mgt] s (s.mctpPacket p) := by
  unfold State.mctpPacket
  exact .ite (.refl _ s) (.ite (.ite ((mctpTake_confined _ p _).since rfl) (.refl _ s)) (.ite (s.mctpTake_confined p _) (.refl _ s)))

theorem spdmRsp_confined (p code d) : Confined [.out, .mgt] s (s.spdmRsp p code d) := by
  unfold State.spdmRsp
  exact .ite ((sendIbi_confined _ _ _).since rfl) rfl

theorem spdmDo_confined {l : List Part} (p) {f : State → State} (does : Confined l s (f s)) : Confined l s (s.spdmDo p f) := .ite does (.refl _ s)

theorem certificate_confined (p slot) : Confined [.out, .mgt] s (s.certificate p slot) := by
  unfold State.certificate
  split
  exacts [s.spdmRsp_confined .., s.spdmRsp_confined ..]

theorem drawFresh_confined (n : Nat) (a : Payload × State) : Confined [.free] a.2
    ((List.range n).foldl (fun (a : Payload × State) _ => let (v, s) := a.2.fresh; (a.1 ++ [v], s)) a).2 := by
  generalize List.range n = l
  induction l generalizing a with
  | nil => exact .refl _ a.2
  | cons x l ih => exact (fresh_confined a.2).trans (ih _)

theorem spdmFree_confined (p code d n) : Confined [.out, .free, .mgt] s (s.spdmFree p code d n) := by
  unfold State.spdmFree
  exact ((drawFresh_confined n (d, s)).mono rfl).next (spdmRsp_confined _ p code _) rfl

theorem challenged_confined (p slot) : Confined [.out, .free, .mgt] s (s.challenged p slot) := by
  unfold State.challenged
  split
  exacts [s.spdmFree_confined .., (s.spdmRsp_confined ..).mono rfl]

theorem measurements_confined (p index) : Confined [.out, .free, .mgt] s (s.measurements p index) :=
  .ite (s.spdmFree_confined ..) (.ite (s.spdmFree_confined ..) (.ite (s.spdmFree_confined ..) ((s.spdmRsp_confined ..).mono rfl)))

theorem openSession_confined (p) : Confined [.out, .free, .mgt, .crs] s (s.openSession p) := by
  unfold State.openSession
  extract_lets id c t
  have opened : Confined [.out, .free, .mgt, .crs] s t := rfl
  exact .ite ((s.spdmRsp_confined ..).mono rfl) (opened.next (t.spdmFree_confined ..) rfl)

theorem within_confined {l : List Part} (p session code) {f : State → State} (does : Confined l s (f s))
    (wider : [.out, .mgt].all l.contains = true) :
    Confined l s (s.within p session code f) :=
  .ite (does.next (spdmRsp_confined _ p code _) wider) ((s.spdmRsp_confined ..).mono wider)

theorem closeSession_confined (p session) : Confined [.crs, .heads] s (s.closeSession p session) := by
  cases p <;> rfl

theorem ideDo_confined {l : List Part} (h code) {f : State → State} (does : Confined l s (f s))
    (wider : [.out, .mgt].all l.contains = true) :
    Confined l s (s.ideDo h code f) := by
  have said : Confined [.out, .mgt] (f s) ((f s).emit (.ideKm h code)) := rfl
  exact s.spdmDo_confined _ (.ite (does.next said wider) ((s.spdmRsp_confined ..).mono wider))

theorem ideGo_confined (h set mem) : Confined [.heads] s (s.ideGo h set mem) := .ite rfl (.refl _ s)

/-! ### Media -/

theorem askRefresh_confined (block reason) : Confined [.mch] s (s.askRefresh block reason) := .ite (.refl _ s) rfl

theorem resume_confined (d) : Confined [.mch] s (s.resume d) := .ite (.refl _ s) rfl

theorem mediaRound_confined : Confined [.mch] s s.mediaRound := by
  have block (t : State) (e) : Confined [.mch] t (t.roundBlock e) := by
    unfold State.roundBlock
    exact .ite (.refl _ t) (.ite ((askRefresh_confined ..).since rfl) rfl)
  exact (Confined.each block).trans rfl

theorem bumpReads_confined (block n) : Confined [.mch] s (s.bumpReads block n) := by
  unfold State.bumpReads
  exact .ite ((askRefresh_confined ..).since rfl) rfl

theorem countRead_confined (block) : Confined [.mch] s (s.countRead block) := by
  unfold State.countRead
  extract_lets old t check l c u
  have counted : Confined [.mch] s t := s.bumpReads_confined block 1
  exact .ite ((counted.trans rfl : Confined [.mch] s u).trans (u.bumpReads_confined block _)) counted

theorem countRecon_confined (p) : Confined [.mch] s (s.countRecon p) := .each fun t q => t.countRead_confined (ppaBlock q)

theorem suspend_confined (d) : Confined [.mch] s (s.suspend d) := .ite (.refl _ s) rfl

theorem checkSpent_confined (d) : Confined [.mch] s (s.checkSpent d) := .ite rfl (.refl _ s)

theorem issueRead_confined (p c why) : Confined [.mch] s (s.issueRead p c why) := by
  unfold State.issueRead
  extract_lets d t x mode r put own mates
  have spent : Confined [.mch] s t := s.checkSpent_confined d
  have queued (r) : Confined [.mch] s (put t r) := spent.trans rfl
  have counts (u) (h : Confined [.mch] s u) : Confined [.mch] s (own u) := .ite h (h.trans (u.countRead_confined _))
  have rebuilds (u) (h : Confined [.mch] s u) : Confined [.mch] s (mates u) := .ite h (h.trans (u.countRecon_confined _))
  refine .ite (rebuilds _ (queued _)) (.ite (counts _ (queued _)) (.ite (counts _ (queued _)) (.ite (rebuilds _ (queued _))
    (.ite (rebuilds _ (queued _)) (.ite (counts _ (queued _)) (.ite (counts _ (queued _)) (counts _ ?_)))))))
  exact (queued _).trans (suspend_confined _ d)

theorem setBusy_confined (ds op) : Confined [.mch] s (s.setBusy ds op) := .each fun _ _ => rfl

theorem wakeReads_confined : Confined [.mch] s s.wakeReads := rfl

theorem walkRow_confined (l) : Confined [.mch] s (s.walkRow l) := by
  unfold State.walkRow
  split
  · exact .refl _ s
  · split
    · exact .refl _ s
    · extract_lets op t
      have room : Confined [.mch] s t := by
        refine .ite (.refl _ s) ?_
        split
        exacts [s.setBusy_confined _ _, .refl _ s]
      exact .ite (.refl _ s) (.ite ((room.trans (t.setBusy_confined _ _)).trans (wakeReads_confined _)) room)

/-! ### The DRAM tier -/

theorem tagTouch_confined (set write) : Confined [.dtc] s (s.tagTouch set write) := .ite (.refl _ s) rfl

theorem setFrame_confined (n f) : Confined [.dtc] s (s.setFrame n f) := by
  unfold State.setFrame
  exact (tagTouch_confined _ _ _).since rfl

theorem dropFrame_confined (n) : Confined [.dtc] s (s.dropFrame n) := by
  unfold State.dropFrame
  exact (tagTouch_confined _ _ _).since rfl

theorem takeVictim_confined (set) : Confined [.dtc] s (s.takeVictim set).2 := by
  unfold State.takeVictim
  extract_lets hand clean isRef clear take
  have clears (t : State) (w) : Confined [.dtc] t (clear t w) := by
    simp only [clear]
    split
    exacts [t.setFrame_confined _ _, .refl _ t]
  have takes (t : State) (w) : Confined [.dtc] t (take t w).2 := (t.dropFrame_confined _).trans rfl
  clear_value clean
  cases clean with
  | nil => exact .refl _ s
  | cons w0 ws =>
    dsimp only
    split
    · exact (Confined.each clears).trans (takes _ _)
    · exact (Confined.each clears).trans (takes _ _)

theorem allocFrame_confined (l) : Confined [.dtc] s (s.allocFrame l).2 := by
  unfold State.allocFrame
  extract_lets n set
  split
  · split
    exacts [.refl _ s, .refl _ s]
  · split
    exacts [.refl _ s, s.takeVictim_confined _]

theorem startFill_confined (l) : Confined [.dtc, .mch] s (s.startFill l) := by
  unfold State.startFill
  extract_lets d t e
  have listed : Confined [.dtc, .mch] s t := rfl
  exact .ite (listed.next (t.issueRead_confined ..) rfl) listed

theorem maybeFill_confined (l) : Confined [.dtc, .mch] s (s.maybeFill l) := by
  unfold State.maybeFill
  extract_lets policy k seen d t
  have noted : Confined [.dtc, .mch] s t := .ite rfl (.refl _ s)
  refine .ite noted ?_
  have frame := t.allocFrame_confined l
  split
  · next u e =>
    rw [e] at frame
    exact noted.next frame rfl
  · next n u e =>
    rw [e] at frame
    exact ((noted.next frame rfl).next (u.setFrame_confined n _) rfl).next (startFill_confined _ l) rfl

theorem handOver_confined (n) : Confined [.dtc, .mte] s (s.handOver n) := by
  unfold State.handOver
  split
  · exact .ite (((setFrame_confined s _ _).mono rfl).trans rfl) (.refl _ s)
  · exact .refl _ s

theorem handDown_confined (fuel) : Confined [.dtc, .mte] s (State.handDown fuel s) := by
  induction fuel generalizing s with
  | zero => exact .refl _ s
  | succ fuel ih =>
    unfold State.handDown
    refine .ite (.refl _ s) ?_
    split
    exacts [(s.handOver_confined _).trans (ih _), .refl _ s]

theorem frameTransferred_confined (l) : Confined [.dtc, .mte] s (s.frameTransferred l) := by
  unfold State.frameTransferred
  split
  · extract_lets g
    have high (t : State) : Confined [.dtc, .mte] t t.handHigh := .ite (t.handDown_confined _) (.refl _ t)
    exact .ite (((setFrame_confined s _ _).mono rfl).trans (high _)) (.refl _ s)
  · exact .refl _ s

/-! ### Misses -/

theorem missStage_confined (a st) : Confined [.slices] s (s.missStage a st) := by
  unfold State.missStage
  split
  exacts [rfl, .refl _ s]

theorem waitReload_confined (a hit) : Confined [.slices, .dtc] s (s.waitReload a hit) := by
  unfold State.waitReload
  refine .ite (.refl _ s) ?_
  dsimp only
  split <;> rfl

theorem tierLookup_confined (a) : Confined [.slices, .dtc] s (s.tierLookup a) := by
  unfold State.tierLookup
  split
  · exact .refl _ s
  · refine .ite (.refl _ s) ?_
    split
    · exact (s.missStage_confined a _).mono rfl
    · extract_lets t u waits
      have looked : Confined [.slices, .dtc] s u := (s.waitReload_confined a _).next (t.tagTouch_confined _ _) rfl
      split
      · exact .ite (looked.next (u.missStage_confined a _) rfl) (looked.next (u.missStage_confined a _) rfl)
      · exact .ite (looked.next (u.missStage_confined a _) rfl) ((looked.next (u.setFrame_confined _ _) rfl).next (missStage_confined _ a _) rfl)

theorem mapTouch_confined (l write) : Confined [.dtc] s (s.mapTouch l write) := .ite (.refl _ s) rfl

theorem mapAnswer_confined (a l) : Confined [.slices, .dtc, .mch] s (s.mapAnswer a l) := by
  unfold State.mapAnswer
  extract_lets e c
  have read := (s.issueRead_confined e.ppa c (.line a)).mono (m := [.slices, .dtc, .mch]) rfl
  exact .ite ((s.missStage_confined a _).mono rfl) (.ite ((read.next (missStage_confined _ a _) rfl).next (maybeFill_confined _ l) rfl)
    ((s.missStage_confined a _).mono rfl))

theorem mapLookup_confined (a) : Confined [.slices, .dtc, .mch] s (s.mapLookup a) := by
  unfold State.mapLookup
  split
  · exact .refl _ s
  · refine .ite (.refl _ s) ?_
    split
    · exact (s.missStage_confined a _).mono rfl
    · extract_lets t
      have loaded : Confined [.slices, .dtc, .mch] s t := (s.waitReload_confined a _).mono rfl
      have answered (u : State) (l) : Confined [.slices, .dtc, .mch] u ((u.mapTouch l false).mapAnswer a l) :=
        ((u.mapTouch_confined l false).mono rfl).trans (mapAnswer_confined _ a l)
      refine .ite (loaded.trans (answered t _)) ?_
      split
      · exact loaded.trans (answered t _)
      · extract_lets u
        have asked : Confined [.slices, .dtc, .mch] s u := (loaded.next (t.issueRead_confined ..) rfl).next (missStage_confined _ a _) rfl
        clear_value u
        split
        exacts [asked, asked.trans rfl]

theorem drainMarks_confined (n ok) : Confined [.regs, .perf, .slices] s (s.drainMarks n ok) := by
  unfold State.drainMarks
  exact ((perfEvent_confined _ _ _ _).mono rfl).since rfl

/-! ### The supervisor, its pantry and its recorder -/

theorem setRing_confined (n v) : Confined [.regs, .flt, .pan] s (s.setRing n v) := by
  unfold State.setRing
  extract_lets m old p t
  have stored : Confined [.regs, .flt, .pan] s t := rfl
  exact .ite (.refl _ s) (.ite (stored.next (t.raise_confined _ _) rfl) stored)

theorem supLog_confined (kind chan value aux) : Confined [.pan] s (s.supLog kind chan value aux) := .ite (.refl _ s) rfl

theorem switchStepRails_confined (k on) : Confined [.pwr] s (s.switchStepRails k on) := .each fun _ _ => rfl

theorem powerUp_confined : Confined [.pan, .pwr] s s.powerUp := by
  unfold State.powerUp
  extract_lets p t
  have begun : Confined [.pan, .pwr] s t := rfl
  exact .ite (.refl _ s) ((begun.next (t.supLog_confined ..) rfl).next (switchStepRails_confined _ 1 true) rfl)

theorem minOffEnd_confined : Confined [.pwr] s s.minOffEnd := .ite rfl (.ite rfl (.refl _ s))

theorem ungate_confined (i) : Confined [.pwr] s (s.ungate i) := .ite (.refl _ s) (.ite rfl rfl)

theorem pwrEnRise_confined : Confined [.mgt, .pwr] s s.pwrEnRise := .ite rfl rfl

theorem mrstRise_confined (straps) : Confined [.mgt, .pwr] s (s.mrstRise straps) := .ite rfl rfl

theorem warnEnd_confined : Confined [.pwr, .dtc] s s.warnEnd := .ite rfl (.refl _ s)

theorem throttleGrace_confined : Confined [.regs, .flt, .thm, .mch] s s.throttleGrace := by
  have enforces : Confined [.regs, .flt, .thm, .mch] s s.enforce := by
    unfold State.enforce
    have limited : Confined [.regs, .flt, .thm, .mch] s { s with thm := { s.thm with enf := true } } := rfl
    exact .ite (.refl _ s) ((limited.next (raise_confined _ _ _) rfl).trans rfl)
  exact .ite enforces (.refl _ s)

theorem fenceReactionEnd_confined (dom inst) : Confined [.pages, .flt] s (s.fenceReactionEnd dom inst) := .ite (.ite rfl rfl) (.refl _ s)

theorem markHoldEnd_confined (r) : Confined [.mte] s (s.markHoldEnd r) := by
  unfold State.markHoldEnd
  split
  exacts [.ite rfl (.refl _ s), .refl _ s]

/-! ### Commits -/

theorem commitModes_confined : Confined [.regs, .mch] s s.commitModes := by
  unfold State.commitModes
  split
  · exact .refl _ s
  · refine (Confined.each fun t g => ?_).next (setReg_confined _ _ _ _) rfl
    dsimp only
    exact .ite rfl (.refl _ t)

theorem commitLocks_confined (n) : Confined [.regs, .shadow, .pages, .slices] s (s.commitLocks n) := by
  unfold State.commitLocks
  extract_lets old p t x moved kept left y z
  have taken : Confined [.regs, .shadow, .pages, .slices] s t := .each fun _ _ => rfl
  clear_value z
  exact taken.trans rfl

end State

end Sys2Proof.Machine
end

section
/-! PROOFS. What the local commands leave unchanged (R318, R345, R470, R480, R529, R545, R560): for each part, or group of parts, the commands that
write nothing else. -/

namespace Sys2Proof.Machine

open Sys2Proof

/-- Commands that touch the listed parts alone. -/
def Only (l : List Part) : Instr → Prop := Touches (State.over l)

/-- A command whose every next state is confined to the listed parts touches nothing else. -/
theorem Only.of {l : List Part} {c : Instr} {f : State → State} (runs : ∀ s, exec c s = .next (f s)) (confined : ∀ s, Confined l s (f s)) :
    Only l c := by
  intro s t ran
  rw [runs s] at ran
  cases ran
  exact confined s

/-! ### One part -/

theorem only_cages : (∀ cage, Only [.cages] (.cagePresenceAssert cage)) ∧ (∀ cage, Only [.cages] (.cagePresenceDebounceExpiry cage)) :=
  ⟨fun _ => .of (fun _ => rfl) fun s => .ite rfl (.refl _ s), fun _ => .of (fun _ => rfl) fun s => .ite rfl (.refl _ s)⟩

theorem only_dtc : Only [.dtc] .fillWindowBoundary ∧ Only [.dtc] .patrolScrubPass :=
  ⟨.of (fun _ => rfl) fun _ => rfl, .of (fun _ => rfl) fun _ => rfl⟩

theorem only_flt : (∀ dom inst, Only [.flt] (.consequentialWindowExpiry dom inst)) ∧ (∀ src, Only [.flt] (.recordHoldoffExpiry src)) ∧
    Only [.flt] .spillPageExpiry :=
  ⟨fun _ _ => .of (fun _ => rfl) fun _ => rfl, fun _ => .of (fun _ => rfl) fun _ => rfl, .of (fun _ => rfl) fun s => .ite (.refl _ s) rfl⟩

theorem only_heads : (∀ h width, Only [.heads] (.l0pWidthChange h width)) ∧ (∀ h d cfg, Only [.heads] (.hdmDecoderCommit h d cfg)) :=
  ⟨fun _ _ => .of (fun _ => rfl) fun s => .ite rfl (.refl _ s),
    fun _ _ _ => .of (fun _ => rfl) fun s => .ite (.refl _ s) (.ite rfl rfl)⟩

theorem only_mch : (∀ die, Only [.mch] (.resumeIdleExpiry die)) ∧ Only [.mch] .mediaThermalRound ∧ (∀ g, Only [.mch] (.modeMoveEnd g)) :=
  ⟨fun _ => .of (fun _ => rfl) fun s => s.resume_confined _, .of (fun _ => rfl) State.mediaRound_confined,
    fun _ => .of (fun _ => rfl) fun s => .ite rfl (.refl _ s)⟩

theorem only_mgt : (∀ p, Only [.mgt] (.mctpPacket p)) ∧ Only [.mgt] .enthdr0 :=
  ⟨fun p => .of (fun _ => rfl) fun s => s.mctpPacket_confined p, .of (fun _ => rfl) fun _ => rfl⟩

theorem only_out : (∀ h, Only [.out] (.gpfPhase1 h)) ∧ Only [.out] .hotJoinRepeat ∧ Only [.out] .ibiResend := by
  have resends (s : State) : Confined [.out] s s.ibiResend := by
    unfold State.ibiResend
    split
    exacts [rfl, .refl _ s]
  exact ⟨fun _ => .of (fun _ => rfl) fun s => .ite rfl (.refl _ s), .of (fun _ => rfl) fun s => .ite rfl (.refl _ s), .of (fun _ => rfl) resends⟩

theorem only_ports : (∀ port, Only [.ports] (.elvucTrainStart port)) ∧ (∀ port, Only [.ports] (.trainingRetryExpiry port)) ∧
    (∀ port, Only [.ports] (.linkWake port)) :=
  ⟨fun _ => .of (fun _ => rfl) fun s => s.beginTraining_confined _, fun _ => .of (fun _ => rfl) fun s => s.retryTraining_confined _,
    fun _ => .of (fun _ => rfl) fun s => s.mgtIn_confined _ _ rfl fun t => t.wakeIn_confined _⟩

theorem only_pwr : Only [.pwr] .bladeSeatClose ∧ Only [.pwr] .minOffTimeExpiry ∧ Only [.pwr] .autoIdleEntry ∧
    (∀ dom, Only [.pwr] (.domainUngate dom)) ∧ (∀ dom, Only [.pwr] (.domainRegate dom)) ∧ Only [.pwr] .pllLockLoss :=
  ⟨.of (fun _ => rfl) fun _ => rfl, .of (fun _ => rfl) State.minOffEnd_confined, .of (fun _ => rfl) fun s => .ite rfl (.refl _ s),
    fun _ => .of (fun _ => rfl) fun s => s.ungate_confined _, fun _ => .of (fun _ => rfl) fun s => .ite rfl (.refl _ s),
    .of (fun _ => rfl) fun _ => rfl⟩

/-! ### Management transports -/

section
variable {p : SpdmPath}

/-- A request of SPDM writes what its handling writes. -/
theorem Only.spdm {l : List Part} {c : Instr} {f : State → State} (runs : ∀ s, exec c s = .next (s.spdmDo p f))
    (does : ∀ s, Confined l s (f s)) : Only l c := .of runs fun s => s.spdmDo_confined p (does s)

theorem only_spdm : (∀ p, Only [.out, .mgt] (.getVersion p)) ∧ (∀ p, Only [.out, .mgt] (.getCapabilities p)) ∧
    (∀ p, Only [.out, .mgt] (.negotiateAlgorithms p)) ∧ (∀ p, Only [.out, .mgt] (.getDigests p)) ∧
    (∀ p slot, Only [.out, .mgt] (.getCertificate p slot)) ∧ (∀ p session, Only [.out, .mgt] (.finish p session)) ∧
    (∀ p session, Only [.out, .mgt] (.heartbeat p session)) ∧ (∀ p session, Only [.out, .mgt] (.keyUpdate p session)) ∧
    (∀ p code, Only [.out, .mgt] (.spdmUnsupportedRequest p code)) :=
  ⟨fun p => .spdm (fun _ => rfl) fun s => s.spdmRsp_confined p _ _, fun p => .spdm (fun _ => rfl) fun s => s.spdmRsp_confined p _ _,
    fun p => .spdm (fun _ => rfl) fun s => s.spdmRsp_confined p _ _, fun p => .spdm (fun _ => rfl) fun s => s.spdmRsp_confined p _ _,
    fun p _ => .spdm (fun _ => rfl) fun s => s.certificate_confined p _,
    fun p _ => .spdm (fun _ => rfl) fun s => s.within_confined p _ _ (.refl _ s) rfl,
    fun p _ => .spdm (fun _ => rfl) fun s => s.within_confined p _ _ (.refl _ s) rfl,
    fun p _ => .spdm (fun _ => rfl) fun s => s.within_confined p _ _ (.refl _ s) rfl,
    fun p _ => .spdm (fun _ => rfl) fun s => s.spdmRsp_confined p _ _⟩

end

theorem only_mctp : (∀ h, Only [.out, .mgt] (.ideKmQuery h)) ∧ (∀ eid, Only [.out, .mgt] (.setEndpointId eid)) ∧
    Only [.out, .mgt] .getEndpointId ∧ Only [.out, .mgt] .getMctpVersionSupport ∧ Only [.out, .mgt] .getMessageTypeSupport ∧
    Only [.out, .mgt] .getEndpointUuid :=
  ⟨fun h => .of (fun _ => rfl) fun s => s.ideDo_confined h _ (.refl _ s) rfl, fun eid => .of (fun _ => rfl) fun s => s.setEid_confined eid,
    .of (fun _ => rfl) fun s => s.mctpDo_confined _ _, .of (fun _ => rfl) fun s => s.mctpDo_confined _ _,
    .of (fun _ => rfl) fun s => s.mctpDo_confined _ _, .of (fun _ => rfl) fun s => s.mctpDo_confined _ _⟩

theorem only_ccc : (∀ ev, Only [.out, .mgt] (.enec ev)) ∧ (∀ ev, Only [.out, .mgt] (.disec ev)) ∧ Only [.out, .mgt] .rstdaa ∧
    (∀ addr, Only [.out, .mgt] (.entdaa addr)) ∧ (∀ stat addr, Only [.out, .mgt] (.setdasa stat addr)) ∧
    (∀ addr, Only [.out, .mgt] (.setnewda addr)) ∧ (∀ len, Only [.out, .mgt] (.setmwl len)) ∧ (∀ len, Only [.out, .mgt] (.setmrl len)) :=
  ⟨fun _ => .of (fun _ => rfl) fun _ => rfl, fun _ => .of (fun _ => rfl) fun _ => rfl, .of (fun _ => rfl) fun _ => rfl,
    fun addr => .of (fun _ => rfl) fun s => s.entdaa_confined addr, fun _ _ => .of (fun _ => rfl) fun _ => .ite rfl rfl,
    fun _ => .of (fun _ => rfl) fun _ => .ite rfl rfl, fun _ => .of (fun _ => rfl) fun _ => .ite rfl rfl,
    fun _ => .of (fun _ => rfl) fun _ => .ite rfl rfl⟩

theorem only_cccGet : Only [.out, .mgt] .getmwl ∧ Only [.out, .mgt] .getmrl ∧ Only [.out, .mgt] .getpid ∧ Only [.out, .mgt] .getbcr ∧
    Only [.out, .mgt] .getdcr ∧ Only [.out, .mgt] .getstatus ∧ Only [.out, .mgt] .getmxds ∧ Only [.out, .mgt] .getcaps ∧
    (∀ code, Only [.out, .mgt] (.unsupportedCcc code)) :=
  ⟨.of (fun _ => rfl) fun s => s.cccGet_confined _, .of (fun _ => rfl) fun s => s.cccGet_confined _,
    .of (fun _ => rfl) fun s => s.cccGet_confined _, .of (fun _ => rfl) fun s => s.cccGet_confined _,
    .of (fun _ => rfl) fun s => s.cccGet_confined _, .of (fun _ => rfl) State.getstatus_confined,
    .of (fun _ => rfl) fun s => s.cccGet_confined _, .of (fun _ => rfl) fun s => s.cccGet_confined _,
    fun _ => .of (fun _ => rfl) fun _ => rfl⟩

theorem only_spdmFree : (∀ p slot, Only [.out, .free, .mgt] (.challenge p slot)) ∧
    (∀ p index, Only [.out, .free, .mgt] (.getMeasurements p index)) :=
  ⟨fun p _ => .spdm (fun _ => rfl) fun s => s.challenged_confined p _, fun p _ => .spdm (fun _ => rfl) fun s => s.measurements_confined p _⟩

theorem only_sessions : (∀ p, Only [.out, .free, .mgt, .crs] (.keyExchange p)) ∧
    (∀ p session, Only [.out, .mgt, .crs, .heads] (.endSession p session)) :=
  ⟨fun p => .spdm (fun _ => rfl) fun s => s.openSession_confined p,
    fun p session => .spdm (fun _ => rfl) fun s => s.within_confined p _ _ ((s.closeSession_confined p session).mono rfl) rfl⟩

theorem only_ideKm : (∀ h set mem key, Only [.out, .mgt, .heads] (.ideKmKeyProg h set mem key)) ∧
    (∀ h set mem, Only [.out, .mgt, .heads] (.ideKmKSetGo h set mem)) ∧ (∀ h set mem, Only [.out, .mgt, .heads] (.ideKmKSetStop h set mem)) :=
  ⟨fun h _ _ _ => .of (fun _ => rfl) fun s => s.ideDo_confined h _ rfl rfl,
    fun h _ _ => .of (fun _ => rfl) fun s => s.ideDo_confined h _ ((s.ideGo_confined _ _ _).mono rfl) rfl,
    fun h _ _ => .of (fun _ => rfl) fun s => s.ideDo_confined h _ rfl rfl⟩

/-! ### Links -/

theorem only_linkOut : (∀ port, Only [.out, .ports] (.ackIdleDue port)) ∧ (∀ port, Only [.out, .ports] (.trickleIdleExpiry port)) ∧
    Only [.out, .ports] .devReqRepeat ∧ (∀ port lanes, Only [.out, .ports] (.receiverDetectionDone port lanes)) := by
  have repeats (s : State) : Confined [.out, .ports] s (if s.up then s.devReqRepeat else s) :=
    .ite (.ite (.refl _ s) (s.floodLink_confined _ _)) (.refl _ s)
  exact ⟨fun _ => .of (fun _ => rfl) fun s => .ite (s.sendIdle_confined _ _) (.refl _ s),
    fun _ => .of (fun _ => rfl) fun s => s.trickleIdle_confined _,
    .of (fun _ => rfl) repeats, fun _ lanes => .of (fun _ => rfl) fun s => s.detected_confined _ lanes⟩

theorem only_offers : (∀ port key nonce, Only [.out, .free, .ports] (.kxOffer port key nonce)) ∧
    (∀ port, Only [.out, .free, .ports] (.rekeyIntervalExpiry port)) :=
  ⟨fun _ key nonce => .of (fun _ => rfl) fun s => s.mgtIn_confined _ _ rfl fun t => t.kxOffer_confined _ key nonce,
    fun _ => .of (fun _ => rfl) fun s => s.rekey_confined _⟩

theorem only_devReq (port serial inst wanted) : Only [.out, .ports, .fxb] (.devReq port serial inst wanted) :=
  .of (fun _ => rfl) fun s => s.mgtIn_confined _ _ rfl fun t => t.devReqIn_confined _ serial inst wanted

/-! ### The supervisor and the tier -/

theorem only_pins : Only [.mgt, .pwr] .pwrEnRise ∧ (∀ straps, Only [.mgt, .pwr] (.mrstNRise straps)) :=
  ⟨.of (fun _ => rfl) State.pwrEnRise_confined, fun straps => .of (fun _ => rfl) fun s => s.mrstRise_confined straps⟩

theorem only_pfailNRise : Only [.mgt, .pwr, .dtc] .pfailNRise :=
  .of (fun _ => rfl) fun _ => ((State.warnEnd_confined _).mono rfl).since rfl

theorem only_consent : Only [.regs, .crs] .consentWindowExpiry := .of (fun _ => rfl) fun s => .ite rfl (.refl _ s)

theorem only_frameTransferDone (lmp) : Only [.dtc, .mch, .mte] (.frameTransferDone lmp) :=
  .of (fun _ => rfl) fun s => ((s.walkRow_confined lmp).mono rfl).next (State.frameTransferred_confined _ lmp) rfl

theorem only_groupModes : Only [.regs, .shadow, .pages, .mch] .mchGrpmodeCommit :=
  .of (fun _ => rfl) fun s => .ite ((s.commitModes_confined.mono rfl).trans rfl) (.refl _ s)

theorem only_slcLocks (sl) : Only [.regs, .shadow, .pages, .slices] (.slcLockCommit sl) :=
  .of (fun _ => rfl) fun s => .ite (s.commitLocks_confined _) (.refl _ s)

theorem only_oldEscapes : Only [.fxb] .oldEscapeExpiry := .of (fun _ => rfl) fun _ => rfl

theorem only_markHold (region) : Only [.mte] (.rewindMarkHoldEnd region) := .of (fun _ => rfl) fun s => s.markHoldEnd_confined _

theorem only_quiesced (page) : Only [.pages] (.quiesceDone page) := .of (fun _ => rfl) fun s => .ite rfl (.refl _ s)

theorem only_passwordHold : Only [.pan] .passwordHoldExpiry := .of (fun _ => rfl) fun _ => rfl

theorem only_dedup (dev tag) : Only [.sve] (.dedupEntryExpiry dev tag) := .of (fun _ => rfl) fun _ => rfl

theorem only_fenceReaction (dom inst) : Only [.pages, .flt] (.fenceReactionEnd dom inst) :=
  .of (fun _ => rfl) fun s => s.fenceReactionEnd_confined _ _

theorem only_powerUp : Only [.pan, .pwr] .powerUpStart := .of (fun _ => rfl) State.powerUp_confined

theorem only_tierLookup (line) : Only [.slices, .dtc] (.tierLookupDone line) := .of (fun _ => rfl) fun s => s.tierLookup_confined line

theorem only_mapLookup (line) : Only [.slices, .dtc, .mch] (.mapLookupDone line) := .of (fun _ => rfl) fun s => s.mapLookup_confined line

theorem only_opsecRing : Only [.regs, .flt, .pan] .opsecWriteExpiry := .of (fun _ => rfl) fun s => s.setRing_confined _ _

theorem only_drainMarks (line) : Only [.regs, .perf, .slices] (.mergeDrainAgeExpiry line) :=
  .of (fun _ => rfl) fun s => s.drainMarks_confined _ _

theorem only_throttle : Only [.regs, .flt, .thm, .mch] .throttleGraceExpiry := .of (fun _ => rfl) State.throttleGrace_confined

/-- Settles O59: each command by the parts that its operations are confined to. -/
theorem smallFrames : Obligations.SmallFrames := by
  unfold Obligations.SmallFrames
  obtain ⟨version, capabilities, algorithms, digests, certificate, finish, heartbeat, update, other⟩ := only_spdm
  obtain ⟨query, setEid, getEid, mctpVersion, types, uuid⟩ := only_mctp
  obtain ⟨enec, disec, rstdaa, entdaa, setdasa, setnewda, setmwl, setmrl⟩ := only_ccc
  exact ⟨only_cages, only_dtc, only_flt, only_oldEscapes, only_heads, only_mch, only_mgt, only_markHold, only_out, only_quiesced,
    only_passwordHold, only_ports, only_pwr, only_dedup, only_pins,
    ⟨version, capabilities, algorithms, digests, certificate, finish, heartbeat, update, other, query, setEid, getEid, mctpVersion, types, uuid,
      enec, disec, rstdaa, entdaa, setdasa, setnewda, setmwl, setmrl, only_cccGet⟩,
    only_linkOut, only_fenceReaction, only_powerUp, only_consent, only_tierLookup, only_frameTransferDone, only_pfailNRise, only_spdmFree,
    only_offers, only_ideKm, only_devReq, only_opsecRing, only_drainMarks, only_mapLookup, only_sessions.1, only_sessions.2, only_throttle,
    only_groupModes, only_slcLocks⟩

end Sys2Proof.Machine
end
